-- ==== Sys2Proof/Word.lean ====
section
/-! DEFINITION. The word types of the Tsuarn TSN-6480: register and Skein words (00_scope.md R5), value
registers (R125), accumulators (R126), coefficient entries (R127), bytes (R11). -/

namespace Sys2Proof

/-- A 32-bit word: a register (R5), a Skein word (R38), a value register (R125). -/
abbrev Word := BitVec 32

/-- A 64-bit doubleword: an accumulator (R126) or a coefficient entry (R127). -/
abbrev DWord := BitVec 64

/-- One byte of the Skein or of the flash (R11). -/
abbrev Byte := BitVec 8

end Sys2Proof
end

