-- ==== Sys2Proof/Syntax.lean ====
section
/-! DEFINITION. The commands of the Tsuarn TSN-6480: one constructor of `Instr` per row of spec/opcode_table.json,
with the row's operands. The table gives no operands and no bits; the operands are what the rule of each row takes
from outside the block (which unit, the value written, what was measured): DESIGN CHOICE, notes/assumptions/15.md.
A GWYN instruction carries the executing core and the fields of its format (R140, R176), the fields that must be 0
included, so that R141 and R177 can trap on them. -/

namespace Sys2Proof

/-- An executing core: a physical Spindle 0 to 17 (R209) or Bobbin A, B, C (R124). -/
inductive Core where
  | spn (p : Fin 18)
  | bob (b : Fin 3)
  deriving DecidableEq, Repr

/-- Who makes a register access (R29, R460): a Bobbin's supervisor, the Distaff, a service session, the HSPI host. -/
inductive Master where
  | bobbin (b : Fin 3)
  | distaff
  | session
  | hspi
  deriving DecidableEq, Repr

/-- The width of a bus access (R8). -/
inductive AccessSize where
  | byte | half | word
  | entry (hi : Word)
  deriving DecidableEq, Repr

/-- Format reg (R140): sh 19:15, rs2 14:10, rs1 9:5, rd 4:0. -/
structure RegF where
  sh : BitVec 5
  rs2 : BitVec 5
  rs1 : BitVec 5
  rd : BitVec 5
  deriving DecidableEq, Repr

/-- Format imm (R140): imm16 25:10, rs1 9:5, rd 4:0. -/
structure ImmF where
  imm : BitVec 16
  rs1 : BitVec 5
  rd : BitVec 5
  deriving DecidableEq, Repr

/-- Format store (R140): imm16 25:10, rs1 (base) 9:5, rs2 (data) 4:0. -/
structure StoreF where
  imm : BitVec 16
  rs1 : BitVec 5
  rs2 : BitVec 5
  deriving DecidableEq, Repr

/-- Format branch (R140): off16 25:10, rs1 9:5, rs2 4:0. -/
structure BranchF where
  off : BitVec 16
  rs1 : BitVec 5
  rs2 : BitVec 5
  deriving DecidableEq, Repr

/-- Format jump (R140): off26 25:0. -/
structure JumpF where
  off : BitVec 26
  deriving DecidableEq, Repr

/-- Format mac (R140, R148): ad 22:21, bits 20:10 by function, rs1 9:5, bits 4:0 by function. -/
structure MacF where
  ad : BitVec 2
  mid : BitVec 11
  rs1 : BitVec 5
  low : BitVec 5
  deriving DecidableEq, Repr

/-- Format kmem (R140): imm13 25:13, k 12:5, rs1 4:0. -/
structure KmemF where
  imm : BitVec 13
  k : BitVec 8
  rs1 : BitVec 5
  deriving DecidableEq, Repr

/-- Format ctl (R176): k 22:15, rs2 14:10, rs1 9:5, rd 4:0. -/
structure CtlF where
  k : BitVec 8
  rs2 : BitVec 5
  rs1 : BitVec 5
  rd : BitVec 5
  deriving DecidableEq, Repr

/-- One gate-channel section of a leg (R12): H (high side) or L (low side). -/
inductive Section where
  | h | l
  deriving DecidableEq, Repr

/-- The units that an enable bit governs (R31, R34) and the position block's units (R327). -/
inductive UnitRef where
  | lane (k : Fin 18)
  | sdm (n : Fin 32)
  | loop (p : Fin 18) (l : Fin 4)
  | whorl (n : Fin 64)
  | timebase (j : Fin 16)
  | reel (n : Fin 8)
  | inj
  | link (l : Fin 18)
  | encoder (e : Fin 4)
  | hall (h : Fin 10)
  | excitation (x : Fin 2)
  | pilot
  deriving DecidableEq, Repr

/-- The live registers of a timebase (R246). -/
inductive TbLive where
  | per | trga | trgb
  deriving DecidableEq, Repr

/-- The events of a timebase (R244). -/
inductive TbEvent where
  | zero | period | trga | trgb
  deriving DecidableEq, Repr

/-- Where a draw goes: to an address, or to a hank by number (R44). -/
inductive DrawTarget where
  | addr (a : Word)
  | hank (h : BitVec 8)
  deriving DecidableEq, Repr

/-- A Skein draw as a requester issues it (R38, R55, R56): its requester number, whether it is part of a Spindle's
commit (R55: the traffic fixes the class), whether it writes, its target, whether it is a single word, its beats (1 to
64), the words a write carries, the beats after which the requester stops supplying or accepting them (R63; a class-0
requester stops within its next beat, R65), none when it does not stop, and the words of the Skein that upsets have
struck before it, by word address, true where two bits are wrong (R74, R75). -/
structure DrawSpec where
  req : Fin 133
  commit : Bool
  write : Bool
  target : DrawTarget
  single : Bool
  beats : Nat
  data : List Word
  supply : Option (BitVec 7)
  upsets : List (BitVec 22 × Bool)
  deriving DecidableEq, Repr

/-- The adaptation windows of R285. -/
inductive AdaptWindow where
  | start | recovery | test
  deriving DecidableEq, Repr

/-- The gate supplies of an HV section (R281). -/
inductive GateRail where
  | vpos | vneg
  deriving DecidableEq, Repr

/-- Whose supply came back: a section of an HV leg with the millivolts that its rails have stayed beyond for 10 us
(R290), or VGD12 at an LV die (R291). -/
inductive SupplyRef where
  | hv (n : Fin 32) (sec : Section) (vpos vneg : Int)
  | lv (die : Fin 4)
  deriving DecidableEq, Repr

/-- How an off-state self-test ends at the comparator (R303): it tripped within its time, or it did not. -/
inductive TestEnd where
  | tripped | silent
  deriving DecidableEq, Repr

/-- The PWM-in inputs (R325, R389). -/
inductive PwmIn where
  | encoder (e : Fin 4)
  | pilot
  deriving DecidableEq, Repr

/-- The units that POSITION_UNIT_ENABLE starts (R325 to R327, R389). -/
inductive PosUnit where
  | encoder (e : Fin 4)
  | hall (h : Fin 10)
  | excitation (x : Fin 2)
  | pilot
  deriving DecidableEq, Repr

/-- A sample of the control-pilot channel (R389): its input in millivolts, whether the pilot record shows the signal high,
and the nanoseconds since its last edge. -/
structure CpSample where
  mv : Int
  high : Bool
  since : Nat
  deriving DecidableEq, Repr

/-- What the grid and bridge loops measured in a period: the positive-sequence amplitude and its frequency f, the angle of
the grid PLL (R373), the shift that the current loop asks for (R383) and the compare values that it computed for P1
(R379). -/
structure GridObs where
  amp : Int
  freq : Int
  theta : Word
  shift : Int
  cmpA : Word
  cmpB : Word
  deriving DecidableEq, Repr

/-- What a charging function measured: the battery temperature of its lane channel, none where its result had SET = 1
(R394); the pilot channel's samples (R389); the proximity pilot and its rail in millivolts (R393); and the current
set-point of the command in milliamperes (R391, R392). -/
structure ChargeObs where
  batt : Option Int
  cp : List CpSample
  vpp : Nat
  vpu : Nat
  setMa : Nat
  deriving DecidableEq, Repr

/-- What a library function's loops hand to its sequencer in one period (R339, R340), fractions scaled by 2^31 where they
are numbers: whether the period committed (R342); the signed speed estimate (or the measured voltage or current), the
demand, the current's magnitude, the bus in V_n units, the position; whether the modulation was limited, whether the
position's count or state moved (R364), whether a commutation event came (R357) and a Z edge (R368); the command channel's
code (R333); of each execution of the observer the residual vr and the speed (R322); whether a result with SPR = 1 arrived
(R365). -/
structure SeqObs where
  committed : Bool
  duties : List Nat
  speed : Int
  demand : Int
  current : Nat
  vbus : Int
  pos : Int
  dlim : Bool
  moved : Bool
  commut : Bool
  z : Bool
  code : Nat
  execs : List (Int × Int)
  sprs : List Nat
  g : GridObs
  c : ChargeObs
  deriving DecidableEq, Repr

/-- A Snarl source and one of its instances (R420). -/
structure SrcInst where
  src : BitVec 8
  inst : BitVec 7
  deriving DecidableEq, Repr

/-- A Distaff restart under RETRY (R423): the source and instance, and for a Bobbin source the cores that fail the self-test
of the restart (R431). -/
structure RetryCase where
  src : SrcInst
  failed : List (Fin 3)
  deriving DecidableEq, Repr

/-- Who requests a mode, and whether an event of R459 or a request of a lower requester number falls in the same cycle
(R461). -/
structure Asker where
  master : Master
  beaten : Bool
  deriving DecidableEq, Repr

/-- The rails whose fall takes the device to OFF (R546). -/
inductive Rail where
  | vcore | vio18 | vio33
  deriving DecidableEq, Repr

/-- What BOOT meets that the block cannot know (R466, R476, R498): the diode trims in the fuses, the fused words it
reads, by their numbers in Config.fuse, a fuse parity error, an external reference, and the flash words struck since
they were last read, true where a word is uncorrectable. -/
structure BootResult where
  c25 : BitVec 12
  slope : BitVec 12
  fuses : List (BitVec 9 × Word)
  fuseParity : Bool
  extRef : Bool
  struck : List (BitVec 18 × Bool)
  deriving DecidableEq, Repr

/-- A unit that SELFTEST or the retire list names (R430, R468). -/
inductive Retiree where
  | bank (p : Fin 18)
  | spindle (p : Fin 18)
  | lane (k : Fin 18)
  | bobbin (b : Fin 3)
  | leg (n : Fin 64)
  | distaff
  deriving DecidableEq, Repr

/-- What SELFTEST found (R467, R468): the units that failed their march or lockstep test, for each lane the codes of its
channels 8 to 10 at G = 1 and PIVOT = 0, the ports whose comparators failed, and the voltages
of the first housekeeping round's nodes in microvolts (of channel 0 the diode's code). -/
structure SelftestResult where
  failed : List Retiree
  scans : List (List Int)
  portFails : List (Fin 64)
  volts : List Int
  deriving DecidableEq, Repr

/-- A function entry of the policy table (R448). -/
structure FnEntry where
  v : Bool
  ports : DWord
  lanes : BitVec 16
  split : BitVec 6
  dset : Bool
  ascCap : Bool
  safe : BitVec 2
  cmdl : BitVec 24
  statl : BitVec 24
  loops : List (BitVec 8)
  deriving DecidableEq, Repr

/-- An interlock rule of the policy table (R449): its two words. -/
structure IlRule where
  w0 : Word
  t : Word
  deriving DecidableEq, Repr

/-- The kinds of library functions (chapters 09 to 11). -/
inductive FnKind where
  | motor | grid | bridge | actuator
  deriving DecidableEq, Repr

/-- What tells a motor function its rotor's angle: the observer of a sensorless machine, or a position primary (R323 to
R326, Actuators). -/
inductive Sensor where
  | observer | resolver | encoder | hall | absolute
  deriving DecidableEq, Repr

/-- Where a command curve takes its command from (R333). -/
inductive CurveSource where
  | volt | pwm | bus
  deriving DecidableEq, Repr

/-- A command curve (R333 to R335): its source, the Skein address of its record or word, the thresholds, the 16
points, and whether a PWM command with SAT counts as x = 0. -/
structure Curve where
  source : CurveSource
  addr : BitVec 24
  xOn : Int
  xOff : Int
  xs : List Int
  ys : List Int
  satZero : Bool
  deriving DecidableEq, Repr

/-- Further entries of a motor function (R321 to R323, R333, R343, R361, R368). Currents are fractions of I_r, whose share
of I_b is `irated`; `rs` and `lq` are R_s and w_b L_q in one unit, `fbase` is w_b in millihertz, `zoff` the angle at Z. -/
structure MotorEnt where
  sensor : Sensor
  unit : Nat
  dtc : Bool
  irated : Nat
  ial : Nat
  thal : Word
  tho : Nat
  nloss : Nat
  dwjmp : Nat
  tasc : Nat
  ttq : Nat
  nfb : Nat
  tfbq : Nat
  nfrz : Nat
  rb : Nat
  nval : Nat
  kp : DWord
  ki : DWord
  kw : DWord
  rlo : Nat
  rhi : Nat
  rs : Nat
  lq : Nat
  fbase : Nat
  zoff : Word
  imax : Nat
  tmax : Nat
  pilim : Nat
  ctgt : Nat
  curve : Option Curve
  deriving DecidableEq, Repr

/-- Further entries of the converters (R374, R380, R383): ZCW and PHMAX are angles, 2^32 to a turn; `kp`, `ki`, `lo` and
`hi` are the DC-link loop's entries, `per` the timebases' PER; `dab` tells a DAB from a phase-shifted bridge, `single` a
grid function that permits single-phase only (R372, R375). -/
structure ConvEnt where
  flo : Int
  fhi : Int
  tgrid : Nat
  tresync : Nat
  idmax : Nat
  irmax : Nat
  qref : Int
  zcw : Nat
  kp : DWord
  ki : DWord
  lo : DWord
  hi : DWord
  dab : Bool
  per : Nat
  phmax : Nat
  dstep : Nat
  single : Bool
  sron : BitVec 16
  sroff : BitVec 16
  deriving DecidableEq, Repr

/-- Further entries of a charging function (R391 to R394): R_PU in ohms, I_b in milliamperes, the battery's window and
hysteresis, and the Skein address of the battery word where the temperature comes by one. -/
structure ChargeEnt where
  rpu : Nat
  ibase : Nat
  tblo : Int
  tbhi : Int
  tbhys : Int
  battAddr : Option (BitVec 24)
  deriving DecidableEq, Repr

/-- Further entries of an actuator (Actuators): speeds are fractions of the travel per second. -/
structure ActEnt where
  kstep : Nat
  vmax : Nat
  amax : Nat
  vstall : Nat
  tstop : Nat
  ihome : Nat
  vhome : Nat
  thome : Nat
  ttooth : Nat
  deriving DecidableEq, Repr

/-- The entries of a library function's sequencer (R343, R374, Actuators), as Borwyn places them from the
description: fractions scaled by 2^31, rates per second, times in sequencer periods (R342), a sequencer period `tseq` in
nanoseconds. Speeds of the table of R343 are fractions of w_r, whose share of w_b is `wrated`. `kbase` is where the
entries of R343 begin in the sequencer loop's coefficient hank (notes/assumptions/57.md). -/
structure FnDesc where
  kind : FnKind
  ascCapable : Bool
  charging : Bool
  park : Bool
  incremental : Bool
  kbase : Option Nat
  tseq : Nat
  vemin : Nat
  nzero : Nat
  ncatch : Nat
  iramp : Nat
  armp : Nat
  nho : Nat
  hoband : Nat
  nhop : Nat
  tal : Nat
  tbrk : Nat
  thof : Nat
  nstart : Nat
  tstrt : Nat
  adec : Nat
  aqs : Nat
  vdec : Nat
  vdecw : Nat
  nol : Nat
  nstop : Nat
  tstop : Nat
  tlock : Nat
  tqlk : Nat
  lkact : Bool
  psi : Nat
  wrated : Nat
  vgn : Nat
  vglo : Nat
  vghi : Nat
  nlock : Nat
  tpre : Nat
  armpv : Nat
  isrlo : Int
  isrhi : Int
  bothTopologies : Bool
  tpos : Nat
  epw : Nat
  nobs : Nat
  ehome1 : Bool
  ihold : Nat
  istop : Nat
  ptooth : Nat
  pdrop : BitVec 2
  land : Option (Fin 32)
  landC : Bool
  mo : MotorEnt
  cv : ConvEnt
  ch : ChargeEnt
  ac : ActEnt
  deriving DecidableEq, Repr

/-- What LOAD delivers beside the bytes of the image and the policy table, which stand in the flash or the Skein: the
library's description of each function (notes/assumptions/57.md). -/
structure LoadResult where
  descs : List (Nat × FnDesc)
  deriving DecidableEq, Repr

/-- What a position primary shows in CATCH (R345, R366, R367): its speed, the last S^2 + C^2 and residual of a resolver. -/
structure PrimObs where
  speed : Int
  sum : Nat
  residual : Int
  deriving DecidableEq, Repr

/-- What the check of a frozen current slot looked at (R364): the slot, and per period its code, the change of its
prediction and its tolerance. -/
structure SlotCodes where
  slot : Nat
  seen : List (Nat × Nat × Nat)
  deriving DecidableEq, Repr

/-- A frame that a link has received complete (R522): its bytes, whether it passed its link's check, and the FLAGS and
INFO of its status beat. The time stamp that the link took at
the point of R529. -/
structure RxFrame where
  ok : Bool
  data : List Byte
  flags : BitVec 8
  info : Word
  tsSec : Word
  tsNs : Word
  deriving DecidableEq, Repr

/-- The transports of a service session (R512). -/
inductive Transport where
  | usb | ethernet
  deriving DecidableEq, Repr

/-- What a session frame carries beside its payload (R512, R515): its transport, SEQ, and whether its MAC is right. -/
structure SesFrame where
  t : Transport
  seq : BitVec 16
  macOk : Bool
  deriving DecidableEq, Repr

/-- The gate supplies of an HV section against its KS pad, in mV (R281, R289). -/
structure Rails where
  vpos : Int
  vneg : Int
  deriving DecidableEq, Repr

/-- A status frame of an HV leg die (R14, R120): its port, and where the rails of each section stand when it leaves. -/
structure SupplyFrame where
  n : Fin 32
  h : Rails
  l : Rails
  deriving DecidableEq, Repr

/-- A trap instruction: its fields, or a word that spells nothing (R141). -/
structure TrapF where
  f : RegF
  word : Option Word
  deriving DecidableEq, Repr

/-- A lockstep mismatch: its Spindle, and whether it dropped a whole commit (R234). -/
structure Mismatch where
  p : Fin 18
  dropped : Bool
  deriving DecidableEq, Repr

/-- An undervoltage of a section (R289): the section, its rail and the rail's millivolts. -/
structure SectionSupply where
  sec : Section
  rail : GateRail
  mv : Int
  deriving DecidableEq, Repr

/-- A level on the Z input of an encoder unit (R325). -/
structure IndexLevel where
  e : Fin 4
  z : Bool
  deriving DecidableEq, Repr

/-- The Skein addresses of the image and of the policy table that LDRUN names. -/
structure Supplied where
  image : BitVec 24
  policy : BitVec 24
  deriving DecidableEq, Repr

/-- The commands: one constructor per row of the opcode table. -/
inductive Instr where
  /-- GATE_COMMAND (R13). A gate command from a Whorl reaches a leg die over its link, and the die applies its
  dead-time floor and refuses both switches on. -/
  | gateCommand (n : Fin 64) (h l trip : Bool)
  /-- STATUS_FRAME (R14). Every 400 ns an HV leg die sends a status frame to the control die. -/
  | statusFrame (r : SupplyFrame)
  /-- URGENT_CODE (R14). A leg die sends an urgent code for a short circuit, undervoltage or overtemperature event,
  and it reaches the Snarl within 60 ns. -/
  | urgentCode (n : Fin 64)
  /-- LINK_LOSS_SAFE_STATE (R15). A leg die that receives no valid code for 1 us applies and holds its loaded safe
  state, and the loss is reported as a link fault. -/
  | linkLossSafeState (die : Fin 36)
  /-- PLL_LOCK (R19). The PLL locks to the stable reference, and the control-die clocks start. -/
  | pllLock (us : BitVec 16)
  /-- REFERENCE_LOSS (R20). The reference stops or leaves 25 MHz by more than 3 %; the PLL free-runs, REFLOSS is set
  and CLK_REF is raised. -/
  | referenceLoss
  /-- GOVERNOR_STEP_DOWN (R490). VCORE crosses 0.72 V or 0.70 V, and the governor stretches CLK_SKN, CLK_SPN and
  CLK_BOB to 3/4 or 1/2 rate, counts the step and raises GOV_STEP. -/
  | governorStepDown (half : Bool)
  /-- GOVERNOR_RETURN (R490). VCORE has stayed above 0.76 V for 1 us, and the governor returns the stretched clocks to
  full rate. -/
  | governorReturn
  /-- UNIT_DISABLE (R31). Clearing a unit's enable bit stops new triggers, withdraws ungranted draws and squashes
  speculation. -/
  | unitDisable (u : UnitRef)
  /-- DISABLE_BOUNDARY (R34). A disabled unit reaches its boundary and disable state, and ACT falls once its last draw
  completes. -/
  | disableBoundary (u : UnitRef)
  /-- REGISTER_WRITE (R37). A write to a register that has no row of its own, checked for width, alignment, address,
  enable window and block protection. -/
  | registerWrite (m : Master) (addr : Word) (size : AccessSize) (v : Word)
  /-- W1C_WRITE (R6). A write of 1 to W1C bits clears them in any mode, unless hardware sets the same bit in the same
  cycle. -/
  | w1cWrite (m : Master) (addr v hwSet : Word)
  /-- DRAW_REQUEST (R56). A requester issues a Skein draw, which the Flyer grants beat by beat by class and
  round-robin, with preemption and wrap split. -/
  | drawRequest (d : DrawSpec)
  /-- DRAW_COMPLETE (R49). The last beat of a draw completes; WR and FILL advance and completion effects follow. -/
  | drawComplete (bank : Fin 16)
  /-- HANK_CONFIG_WRITE (R45). A write to SKN_HBASE or SKN_HCFG is accepted and resets the ring offsets, or is ignored
  whole with HOVL. -/
  | hankConfigWrite (m : Master) (cfg : Bool) (v : Word)
  /-- HANK_READ_OFFSET_WRITE (R47). A write to SKN_HRD consumes bytes of a valid ring or reel hank, or is ignored. -/
  | hankReadOffsetWrite (m : Master) (v : Word)
  /-- CE_COUNT_CLEAR (R74). Writing SKN_CTL.CECLR clears SKN_CECNT. -/
  | ceCountClear (m : Master)
  /-- BANK_WATCHDOG_BITE (R63). A granted draw holds a bank for 8 192 counted cycles without a beat; it ends with
  error and the requester's port is cut on every bank. -/
  | bankWatchdogBite (bank : Fin 16)
  /-- LOCK_BREAK (R72). A waiter has waited 8 192 cycles on an unaccessed locked line; the lock is broken and the line
  is marked lock-broken. -/
  | lockBreak (line : BitVec 18)
  /-- SCRUB_LINE (R76). Every 4 096 CLK_SKN cycles the scrub engine reads and corrects one line in each bank. -/
  | scrubLine (bank : Fin 16) (line : Fin 16384) (found : List (Fin 16 × Bool))
  /-- BANK_CHANGEOVER (R80). The bank copy ends; poisoned words are written, the logical bank switches to the spare
  and any queued copy starts. -/
  | bankChangeover
  /-- SOFTWARE_TRIGGER (R86). Writing CNV_SWTRIG.TRIG triggers a lane scan, which is accepted or refused as busy. -/
  | softwareTrigger (k : Fin 18)
  /-- CONVERSION_END (R89). A conversion ends; the tagged result word is written to the sample hank and windows, the
  comparators judge it, and the next conversion starts. -/
  | conversionEnd (k : Fin 18) (vin : Int) (parityFail : Bool)
  /-- CONVERSION_ABANDON (R109). A conversion has not ended after 26 CLK_CNV; it is abandoned, the scan ends and
  CNV_FAIL is raised. -/
  | conversionAbandon (k : Fin 18)
  /-- LANE_SLEEP (R94). A lane idle for 480 cycles with NOSLEEP clear powers down. -/
  | laneSleep (k : Fin 18)
  /-- LANE_STARTUP_END (R96). A lane's start-up delay ends, and any pending scan starts with PUP. -/
  | laneStartupEnd (k : Fin 18)
  /-- LANE_NOSLEEP_SET (R96). Setting NOSLEEP on a powered-down lane starts its start-up delay at once. -/
  | laneNosleepSet (k : Fin 18)
  /-- LANE_ENABLE (R97). Setting a lane's EN starts it, is refused on a retired lane, and clears CNV_TLCNT. -/
  | laneEnable (k : Fin 18)
  /-- TDAC_WRITE (R85). A write to HKP_TDAC sets the test-voltage DAC, and channel-11 conversions within 2 us carry
  SET. -/
  | tdacWrite (m : Master) (v : Word)
  /-- DECIMATOR_ENABLE (R111). Setting SDM_CTL.EN starts a decimator, or is ignored when its clock is disabled. -/
  | decimatorEnable (n : Fin 32)
  /-- SDM_CLOCK_ENABLE_WRITE (R110). A write to SDM_CLKEN starts or stops the modulator clocks, ignoring clears of
  clocks in use. -/
  | sdmClockEnableWrite (m : Master) (v : Word)
  /-- DECIMATOR_OUTPUT (R112). After OSR modulator bits the sinc3 filter delivers an output, which is written in free
  or event mode. -/
  | decimatorOutput (n : Fin 32) (bits : List Bool)
  /-- SDM_STUCK (R116). A decimator receives 128 identical bits, sets STUCK and raises SDM_STUCK. -/
  | sdmStuck (n : Fin 32) (bits : List Bool)
  /-- FAST_FILTER_TRIP (R118). The sinc2 fast filter crosses FHI or FLO; it asserts the trip output and raises
  SDM_FAST. -/
  | fastFilterTrip (n : Fin 32) (bits : List Bool)
  /-- HOUSEKEEPING_ROUND_START (R122). The 1 ms schedule starts a housekeeping round. -/
  | housekeepingRoundStart
  /-- HOUSEKEEPING_NOW (R122). Writing HKP_CTL.NOW ends the round in progress unpublished and starts a new one. -/
  | housekeepingNow (m : Master)
  /-- HOUSEKEEPING_ROUND_PUBLISH (R119, R121). A round ends and publishes all 24 results, checks limits and advances
  ROUND: the nodes in microvolts, in channel order. -/
  | housekeepingRoundPublish (volts : List Int)
  /-- ADD (R144). Saturating add of two value registers. -/
  | add (c : Core) (f : RegF)
  /-- SUB (R144). Saturating subtract of two value registers. -/
  | sub (c : Core) (f : RegF)
  /-- NEG (R144). Saturating negate. -/
  | neg (c : Core) (f : RegF)
  /-- ABS (R144). Saturating absolute value. -/
  | abs_ (c : Core) (f : RegF)
  /-- MIN (R144). Signed minimum. -/
  | min_ (c : Core) (f : RegF)
  /-- MAX (R144). Signed maximum. -/
  | max_ (c : Core) (f : RegF)
  /-- SLT (R144). Signed set-less-than. -/
  | slt (c : Core) (f : RegF)
  /-- SLTU (R144). Unsigned set-less-than. -/
  | sltu (c : Core) (f : RegF)
  /-- SEQ (R144). Set if equal. -/
  | seq (c : Core) (f : RegF)
  /-- AND (R144). Bitwise and. -/
  | and_ (c : Core) (f : RegF)
  /-- OR (R144). Bitwise or. -/
  | or_ (c : Core) (f : RegF)
  /-- XOR (R144). Bitwise exclusive or. -/
  | xor_ (c : Core) (f : RegF)
  /-- ANDN (R144). Bitwise and-not. -/
  | andn (c : Core) (f : RegF)
  /-- SLL (R144). Logical left shift by register. -/
  | sll (c : Core) (f : RegF)
  /-- SRL (R144). Logical right shift by register. -/
  | srl (c : Core) (f : RegF)
  /-- SRA (R144). Arithmetic right shift by register. -/
  | sra (c : Core) (f : RegF)
  /-- SLA (R144). Saturating left shift by register. -/
  | sla (c : Core) (f : RegF)
  /-- SLLI (R144). Logical left shift by immediate. -/
  | slli (c : Core) (f : RegF)
  /-- SRLI (R144). Logical right shift by immediate. -/
  | srli (c : Core) (f : RegF)
  /-- SRAI (R144). Arithmetic right shift by immediate. -/
  | srai (c : Core) (f : RegF)
  /-- SLAI (R144). Saturating left shift by immediate. -/
  | slai (c : Core) (f : RegF)
  /-- JMPR (R144). Jump to a register address, trapping IFETCH when it is unaligned. -/
  | jmpr (c : Core) (f : RegF)
  /-- JSUBR (R144). Link and jump to a register address. -/
  | jsubr (c : Core) (f : RegF)
  /-- FENCE (R152). Wait until every draw the core has issued has completed. -/
  | fence (c : Core) (f : RegF)
  /-- MUL (R145). Saturating 32-bit multiply. -/
  | mul (c : Core) (f : RegF)
  /-- MULQ (R145). Fractional multiply, shifted by 31. -/
  | mulq (c : Core) (f : RegF)
  /-- MULQR (R145). Fractional multiply, rounded. -/
  | mulqr (c : Core) (f : RegF)
  /-- MULH (R145). High word of the exact product. -/
  | mulh (c : Core) (f : RegF)
  /-- DIV (R145). Signed divide, with the division-by-zero results of R146. -/
  | div (c : Core) (f : RegF)
  /-- DIVU (R145). Unsigned divide. -/
  | divu (c : Core) (f : RegF)
  /-- REM (R145). Signed remainder. -/
  | rem (c : Core) (f : RegF)
  /-- ADDI (R147). Saturating add of an immediate. -/
  | addi (c : Core) (f : ImmF)
  /-- SLTI (R147). Signed compare with an immediate. -/
  | slti (c : Core) (f : ImmF)
  /-- SLTIU (R147). Unsigned compare with an immediate. -/
  | sltiu (c : Core) (f : ImmF)
  /-- ANDI (R147). And with a zero-extended immediate. -/
  | andi (c : Core) (f : ImmF)
  /-- ORI (R147). Or with a zero-extended immediate. -/
  | ori (c : Core) (f : ImmF)
  /-- XORI (R147). Exclusive or with a zero-extended immediate. -/
  | xori (c : Core) (f : ImmF)
  /-- LHI (R147). Load an immediate into the high half of a register. -/
  | lhi (c : Core) (f : ImmF)
  /-- BEQ (R149). Branch if equal. -/
  | beq (c : Core) (f : BranchF)
  /-- BNE (R149). Branch if not equal. -/
  | bne (c : Core) (f : BranchF)
  /-- BLT (R149). Branch if less, signed. -/
  | blt (c : Core) (f : BranchF)
  /-- BGE (R149). Branch if greater or equal, signed. -/
  | bge (c : Core) (f : BranchF)
  /-- BLTU (R149). Branch if less, unsigned. -/
  | bltu (c : Core) (f : BranchF)
  /-- BGEU (R149). Branch if greater or equal, unsigned. -/
  | bgeu (c : Core) (f : BranchF)
  /-- JMP (R149). Relative jump. -/
  | jmp (c : Core) (f : JumpF)
  /-- JSUB (R149). Relative jump that writes the return address to v1. -/
  | jsub (c : Core) (f : JumpF)
  /-- LD_W (R152). Load a word. -/
  | ldW (c : Core) (f : ImmF)
  /-- ST_W (R152). Store a word, posted or queued in run-ahead. -/
  | stW (c : Core) (f : StoreF)
  /-- LD_A (R152). Load a doubleword into an accumulator. -/
  | ldA (c : Core) (f : ImmF)
  /-- ST_A (R152). Store an accumulator doubleword. -/
  | stA (c : Core) (f : StoreF)
  /-- LD_B (R152). Load a sign-extended byte on a Bobbin. -/
  | ldB (c : Core) (f : ImmF)
  /-- LD_BU (R152). Load a zero-extended byte on a Bobbin. -/
  | ldBu (c : Core) (f : ImmF)
  /-- LD_H (R152). Load a sign-extended halfword on a Bobbin. -/
  | ldH (c : Core) (f : ImmF)
  /-- LD_HU (R152). Load a zero-extended halfword on a Bobbin. -/
  | ldHu (c : Core) (f : ImmF)
  /-- ST_B (R152). Store a byte, merged under R42. -/
  | stB (c : Core) (f : StoreF)
  /-- ST_H (R152). Store a halfword, merged under R42. -/
  | stH (c : Core) (f : StoreF)
  /-- LD_K (R130). Load one coefficient entry verbatim on a Bobbin. -/
  | ldK (c : Core) (f : KmemF)
  /-- ST_K (R131). Store one coefficient entry. -/
  | stK (c : Core) (f : KmemF)
  /-- MACS (R148). Accumulate the product of a register and a coefficient. -/
  | macs (c : Core) (f : MacF)
  /-- MSUS (R148). Subtract the product of a register and a coefficient. -/
  | msus (c : Core) (f : MacF)
  /-- MULS (R148). Set an accumulator to the product of a register and a coefficient. -/
  | muls (c : Core) (f : MacF)
  /-- MACV (R148). Accumulate the product of two registers. -/
  | macv (c : Core) (f : MacF)
  /-- RDA (R148). Read an accumulator shifted and saturated into a register. -/
  | rda (c : Core) (f : MacF)
  /-- WRA (R148). Write a shifted register into an accumulator. -/
  | wra (c : Core) (f : MacF)
  /-- ADDA (R148). Add one accumulator to another. -/
  | adda (c : Core) (f : MacF)
  /-- RDFL (R157). Read the flags view. -/
  | rdfl (c : Core) (f : ImmF)
  /-- CLRF (R157). Clear masked flags, under R138 in run-ahead. -/
  | clrf (c : Core) (f : ImmF)
  /-- TRAP (R164). The trap instruction raises TRAPI and enters the handler, or causes a double trap. -/
  | trap (c : Core) (f : TrapF)
  /-- ERET (R167). Return from a trap, restoring SUP and IE. -/
  | eret (c : Core) (f : RegF)
  /-- WFI (R170). Stall until an enabled interrupt is pending. -/
  | wfi (c : Core) (f : RegF)
  /-- WFI_RESUME (R170). An enabled line becomes pending, and a core stalled in wfi resumes. -/
  | wfiResume (b : Fin 3)
  /-- MFC (R174). Read a control register. -/
  | mfc (c : Core) (f : ImmF)
  /-- MTC (R174). Write a control register. -/
  | mtc (c : Core) (f : ImmF)
  /-- SETC (R174). Set bits of a control register. -/
  | setc (c : Core) (f : ImmF)
  /-- CLRC (R174). Clear bits of a control register. -/
  | clrc (c : Core) (f : ImmF)
  /-- INTERRUPT_ENTRY (R169). At an instruction boundary the Bobbin takes the lowest pending enabled interrupt line. -/
  | interruptEntry (b : Fin 3)
  /-- CORE_TIMER_MATCH (R171). The cycle count equals tcmp, and line 55 becomes pending. -/
  | coreTimerMatch (b : Fin 3)
  /-- POSTED_STORE_REFUSAL (R155). The refusal of a posted or committed store returns, and a trap with IMP is taken at
  the next boundary. -/
  | postedStoreRefusal (c : Core)
  /-- CLARKE (R180). Two-input Clarke transform. -/
  | clarke (c : Core) (f : CtlF)
  /-- CLARKE3 (R180). Three-input Clarke transform. -/
  | clarke3 (c : Core) (f : CtlF)
  /-- PARK (R180). Park transform. -/
  | park (c : Core) (f : CtlF)
  /-- IPARK (R180). Inverse Park transform. -/
  | ipark (c : Core) (f : CtlF)
  /-- SVM (R181). Space-vector modulation with the depth limit. -/
  | svm (c : Core) (f : CtlF)
  /-- BAND2 (R182). Two-state hysteresis comparator. -/
  | band2 (c : Core) (f : CtlF)
  /-- BAND3 (R182). Three-state hysteresis comparator. -/
  | band3 (c : Core) (f : CtlF)
  /-- SWTAB (R183). DTC switching-table lookup. -/
  | swtab (c : Core) (f : CtlF)
  /-- BIQ (R184). One biquad step. -/
  | biq (c : Core) (f : CtlF)
  /-- INTEG (R185). Saturating integrator step. -/
  | integ (c : Core) (f : CtlF)
  /-- LUT (R186). 16-point curve interpolation. -/
  | lut (c : Core) (f : CtlF)
  /-- OBS_EMF (R187). Back-EMF observer step. -/
  | obsEmf (c : Core) (f : CtlF)
  /-- OBS_PLL (R188). Angle-tracking PLL step. -/
  | obsPll (c : Core) (f : CtlF)
  /-- LDS (R190). Load a sample's real value, or its prediction in run-ahead. -/
  | lds (c : Core) (f : CtlF)
  /-- LDS_T (R190). Load a sample's whole result word. -/
  | ldsT (c : Core) (f : CtlF)
  /-- LDP (R190). Load a slot's prediction. -/
  | ldp (c : Core) (f : CtlF)
  /-- STP (R190). Store a slot's prediction. -/
  | stp (c : Core) (f : CtlF)
  /-- WAITS (R191). Wait for a complete unreleased generation of a sample set. -/
  | waits (c : Core) (f : CtlF)
  /-- SAMPLE_WAIT_RELEASE (R191). The awaited generation completes, and a waiting waits, rahead or check releases it 3
  CLK_SPN later. -/
  | sampleWaitRelease (p : Fin 18)
  /-- PUTD (R192). Stage a word of a Whorl slot image. -/
  | putd (c : Core) (f : CtlF)
  /-- RAHEAD (R193). Snapshot and start run-ahead, or wait in plain mode, then go to BODY. -/
  | rahead (c : Core) (f : CtlF)
  /-- CHECK (R195). End run-ahead by comparing samples with predictions, substituting or squashing and replaying. -/
  | check (c : Core) (f : CtlF)
  /-- COMMIT (R198). Write the staged images, the state checkpoint and the queued stores, and merge the flags. -/
  | commit (c : Core) (f : CtlF)
  /-- PLY_LOCK (R201). Lock a Skein line, waiting while another requester owns it. -/
  | plyLock (c : Core) (f : CtlF)
  /-- PLY_LOCK_GRANT (R66). A waited-on line is freed or its lock broken, and the waiting PLY.LOCK is granted. -/
  | plyLockGrant (c : Core)
  /-- PLY_FREE (R201). Free the caller's lock of a line. -/
  | plyFree (c : Core) (f : CtlF)
  /-- PLY_ST (R201). Read and clear the LB status bit. -/
  | plySt (c : Core) (f : CtlF)
  /-- MBOX_PUT (R203). Put a word into an empty outbound mailbox. -/
  | mboxPut (c : Core) (f : CtlF)
  /-- MBOX_GET (R203). Take a word from a full inbound mailbox. -/
  | mboxGet (c : Core) (f : CtlF)
  /-- MBOX_ST (R203). Read the mailbox full flags. -/
  | mboxSt (c : Core) (f : CtlF)
  /-- TRACE (R204). Hand a value to a trace point. -/
  | trace (c : Core) (f : CtlF)
  /-- INJ (R205). Read the latched injection value. -/
  | inj (c : Core) (f : CtlF)
  /-- HALT (R206). End the running entry point; the sequencer starts POST after BODY. -/
  | halt (c : Core) (f : CtlF)
  /-- MAILBOX_OUT_READ (R203). A Bobbin read of SPN_MBOUT returns and empties an outbound word. -/
  | mailboxOutRead (m : Master) (p : Fin 18) (i : Fin 4)
  /-- MAILBOX_IN_WRITE (R203). A Bobbin write of SPN_MBIN fills an empty inbound word, or sets INOVR. -/
  | mailboxInWrite (m : Master) (p : Fin 18) (i : Fin 4) (v : Word)
  /-- PERIOD_START (R214). A loop's slot opens; snapshots and injection values are latched, the context is loaded and
  PRED starts. -/
  | periodStart (p : Fin 18) (l : Fin 4)
  /-- SLOT_CLOSE (R216). A slot closes with an entry point still running; it is stopped, OVR is set and SPN_OVR is
  raised. -/
  | slotClose (p : Fin 18) (l : Fin 4)
  /-- COMMIT_DEADLINE (R227). The deadline passes uncommitted; the guard holds the outputs and raises SPN_MISS. -/
  | commitDeadline (p : Fin 18) (l : Fin 4)
  /-- LOOP_ENABLE (R217). Setting a loop's EN loads its context from the checkpoint, or is refused with CFGERR. -/
  | loopEnable (p : Fin 18) (l : Fin 4)
  /-- PROGRAM_WINDOW_FILL_COMPLETE (R242). The program window and coefficient live copies finish filling, and FILL
  falls. -/
  | programWindowFillComplete (p : Fin 18)
  /-- HOT_SPARE_ENABLE (R238). Setting SPN_HOT.EN starts the hot copies of the target's program and coefficients. -/
  | hotSpareEnable (p : Fin 18)
  /-- HOT_SPARE_FILL_COMPLETE (R238). The hot-spare copies complete, and HOTRDY rises. -/
  | hotSpareFillComplete (p : Fin 18)
  /-- LOCKSTEP_MISMATCH (R233). The shadow core disagrees; SPN_LSM is raised and the Spindle recovers the period from
  the checkpoint. -/
  | lockstepMismatch (m : Mismatch)
  /-- SPINDLE_TAKEOVER_COMPLETE (R238). The spare's fills and context restores complete, and it runs the loops from
  their next slot. -/
  | spindleTakeoverComplete (q : Fin 18)
  /-- TIMEBASE_ENABLE (R245). Setting TB_CTL.EN starts the counter from TB_PHASE, waits for WHL_GSTART, or is refused
  with CFGERR. -/
  | timebaseEnable (j : Fin 16)
  /-- GROUP_START (R245). A write to WHL_GSTART starts the named waiting timebases on one tick. -/
  | groupStart (mask : BitVec 16)
  /-- TIMEBASE_LIVE_WRITE (R246). A write to TB_PER, TB_TRGA or TB_TRGB takes effect at once or waits for ZERO. -/
  | timebaseLiveWrite (j : Fin 16) (r : TbLive) (v : Word)
  /-- TIMEBASE_EVENT (R244). A timebase counter reaches ZERO, PERIOD, TRGA or TRGB, and raises the event. -/
  | timebaseEvent (j : Fin 16) (e : TbEvent)
  /-- IMAGE_LAND (R257). A prefetched image enters the Whorl shadow, or is refused with SLOTERR. -/
  | imageLand (n : Fin 64)
  /-- WHORL_ENABLE (R261). Setting WHL_CTL.EN starts a Whorl in its disable state until an image lands, or is refused
  with CFGERR. -/
  | whorlEnable (n : Fin 64)
  /-- GATE_DELAY_END (R252). A RED or FED delay expires, and the delayed output turns on. -/
  | gateDelayEnd (n : Fin 64) (sec : Section)
  /-- DWELL_EXPIRY (R264). The minimum dwell expires, and a deferred leg-state change is applied. -/
  | dwellExpiry (n : Fin 64)
  /-- FORCE_WRITE (R267). A write to WHL_FRC sets force codes, applied within 4 CLK_MOD or at a reload, or is refused. -/
  | forceWrite (n : Fin 64) (v : Word)
  /-- TRIP_LATCH (R273). A selected trip line is asserted outside blanking; the Whorl latches and applies the trip
  action. -/
  | tripLatch (n : Fin 64) (trips : BitVec 8)
  /-- BLANKING_END (R274). A Whorl blanking window ends, and a still-asserted line trips. -/
  | blankingEnd (n : Fin 64)
  /-- TRIP_CLEAR (R276). Writing WHL_TCLR.CLR clears a latched trip when no selected line is asserted, or sets CLRREJ. -/
  | tripClear (n : Fin 64)
  /-- CHOPPER_STATE_CHANGE (R278). A bus land crosses CHON or CHOFF, and the chopper Whorls follow. -/
  | chopperStateChange (land : Fin 4) (uv : Nat)
  /-- BUS_OVERVOLTAGE (R279). A bus land crosses its OV threshold, and its bus-overvoltage line asserts or deasserts. -/
  | busOvervoltage (land : Fin 4) (uv : Nat)
  /-- MINIMUM_PULSE_END (R283). A deferred turn-off takes effect one minimum pulse after the turn-on. -/
  | minimumPulseEnd (n : Fin 64) (sec : Section)
  /-- ADAPTATION_WINDOW_OPEN (R285). A START, RECOVERY or TEST window opens, and sections start from their CAL counts. -/
  | adaptationWindowOpen (n : Fin 64) (w : AdaptWindow)
  /-- EDGE_MEASURED (R286). A switching edge is measured, and the section adjusts its strength count. -/
  | edgeMeasured (n : Fin 64) (sec : Section) (on : Bool) (ns : Option Nat)
  /-- ADAPTATION_WINDOW_CLOSE (R288). A window closes; the counts go to CAL, and a TEST window appends a calibration
  record. -/
  | adaptationWindowClose (n : Fin 64) (w : AdaptWindow)
  /-- SECTION_UNDERVOLTAGE (R290). VPOS or VNEG crosses its trip level; the section turns off and HVP_UV is raised. -/
  | sectionUndervoltage (n : Fin 32) (u : SectionSupply)
  /-- SUPPLY_RELEASE (R290). A section's supplies have stayed beyond release for 10 us, and it follows commands again. -/
  | supplyRelease (r : SupplyRef)
  /-- VGD12_UNDERVOLTAGE (R291). VGD12 trips at an LV die; its eight legs turn off and LVP_GDUV is raised. -/
  | vgd12Undervoltage (die : Fin 4)
  /-- BOOTSTRAP_UNDERVOLTAGE (R292). VBS falls below 8.2 V with the high side on; it is turned off and LVP_BOOTUV is
  raised. -/
  | bootstrapUndervoltage (m : Fin 32)
  /-- BOOTSTRAP_RECOVERED (R292). VBS has stayed above 9.0 V for 10 us, and BOOTUV clears. -/
  | bootstrapRecovered (m : Fin 32)
  /-- LEG_OVERTEMPERATURE (R294). A leg die's overtemperature detector trips or releases. -/
  | legOvertemperature (die : Fin 36) (trip : Bool)
  /-- SHORT_CIRCUIT_DETECT (R295). An armed VDS comparator sees a short circuit; a soft turn-off starts and lines 76
  and 77 assert. -/
  | shortCircuitDetect (n : Fin 64) (sec : Section)
  /-- DIE_BLANKING_END (R295). The die's short-circuit blanking ends, and the VDS comparator is armed. -/
  | dieBlankingEnd (n : Fin 64) (sec : Section)
  /-- SOFT_TURN_OFF_END (R296). A soft or short-circuit turn-off ends. -/
  | softTurnOffEnd (n : Fin 64) (sec : Section)
  /-- RETRY_WAIT_END (R299). T_RETRY ends; the leg re-arms or latches. -/
  | retryWaitEnd (n : Fin 64)
  /-- TRIES_RESET (R299). 10 x T_RETRY pass after a re-arm without a short circuit, and TRIES returns to 0. -/
  | triesReset (n : Fin 64)
  /-- REARM (R301). Writing REARM re-arms a latched leg, or is ignored. -/
  | rearm (n : Fin 64)
  /-- PORT_COUNT_CLEAR (R306). Writing CNTCLR clears HVP_CNT or LVP_CNT. -/
  | portCountClear (n : Fin 64)
  /-- PORT_CONFIG_DELIVERED (R306). An accepted port configuration write reaches the leg die, and CFGP falls. -/
  | portConfigDelivered (n : Fin 64)
  /-- SELF_TEST_START (R302). Writing TEST with GO starts an off-state comparator test, or aborts it when the leg is
  busy. -/
  | selfTestStart (n : Fin 64) (sel : BitVec 3)
  /-- SELF_TEST_END (R303). A self-test ends with pass, fail or abort. -/
  | selfTestEnd (n : Fin 64) (r : TestEnd)
  /-- LV_BUS_LIMIT (R304). LDS stays at 90 V or above for 1 us; the LV die turns its legs off and raises LVP_BUSOV. -/
  | lvBusLimit (die : Fin 4)
  /-- LV_BUS_RESUME (R304). LDS has stayed below 85 V for 10 us, and the legs may resume. -/
  | lvBusResume (die : Fin 4)
  /-- ENCODER_EDGE (R325). A filtered A or B edge counts the encoder, or an illegal transition sets ERR. -/
  | encoderEdge (e : Fin 4) (a b : Bool)
  /-- ENCODER_INDEX (R325). A rising Z edge copies the count into ZCNT and may reset it. -/
  | encoderIndex (i : IndexLevel)
  /-- HALL_EDGE (R326). A Hall unit takes a new legal state, or flags an illegal one. -/
  | hallEdge (h : Fin 10) (st : BitVec 3)
  /-- PWM_IN_SATURATE (R329). A PWM-in input has not changed for 2^24 ticks, and SAT is set. -/
  | pwmInSaturate (u : PwmIn)
  /-- POSITION_UNIT_ENABLE (R327). Setting EN of an encoder, Hall, excitation or pilot-capture unit starts it, or is
  refused with CFGERR. -/
  | positionUnitEnable (u : PosUnit)
  /-- SEQUENCER_PERIOD (R339). A library sequencer reads its command, permit and thermal word, and writes its status
  beat. -/
  | sequencerPeriod (f : Fin 32) (o : SeqObs)
  /-- CATCH_MEASUREMENT_END (R347). The catch measurement ends, and the function moves on by the measured speed. -/
  | catchMeasurementEnd (f : Fin 32) (es : List (Int × Int)) (prim : Option PrimObs) (vline : Nat) (vbus : Int)
  /-- BRAKE_END (R349). BRAKE ends on low speed or TBRK. -/
  | brakeEnd (f : Fin 32) (speed : Int)
  /-- ALIGN_END (R350). TAL ends, and the function enters RAMP. -/
  | alignEnd (f : Fin 32)
  /-- HANDOVER (R351). NHOP qualifying periods pass, and the function enters CLOSED on the observer angle. -/
  | handover (f : Fin 32) (lead : Word)
  /-- START_FAILURE (R352). A start fails; the function counts the attempt and waits TSTRT, or faults. -/
  | startFailure (f : Fin 32)
  /-- STOP_END (R355). A stop ends, and the function enters HOLD or IDLE. -/
  | stopEnd (f : Fin 32) (speed : Int)
  /-- LOCKED_ROTOR (R357). A locked rotor is found; the legs go off and the function faults or retries. -/
  | lockedRotor (f : Fin 32) (speed : Int)
  /-- ROTOR_LOSS (R359). A sensorless function loses the rotor and commits ASC-L or off images. -/
  | rotorLoss (f : Fin 32) (execs : List (Int × Int)) (vbus : Int)
  /-- ROTOR_RECOVERY (R362). The angle is recovered after a loss, and the function re-enters CLOSED. -/
  | rotorRecovery (f : Fin 32) (vecs : List (Int × Int))
  /-- RECATCH_TIMEOUT (R363). No valid observer 20 ms after a loss, and the function faults with RECATCH. -/
  | recatchTimeout (f : Fin 32)
  /-- FEEDBACK_LOSS (R366). A feedback check fails for its count, and the function switches to the observer or faults. -/
  | feedbackLoss (f : Fin 32) (sums : List Nat) (codes : SlotCodes) (seqs : List Nat) (vbus : Int)
  /-- TOPOLOGY_DETECT (R372). A grid converter chooses its topology from the line voltages in CATCH. -/
  | topologyDetect (f : Fin 32) (p1 p2 p3 : Nat)
  /-- GRID_LOCK (R373). NLOCK qualifying periods set or clear LOCK. -/
  | gridLock (f : Fin 32) (execs : List (Int × Int))
  /-- PRECHARGE_TIMEOUT (R375). TPRE passes in CATCH without the start conditions, and the converter faults. -/
  | prechargeTimeout (f : Fin 32)
  /-- GRID_LOSS (R376). The grid is out of its window for TGRID; the legs go off and the converter enters CATCH. -/
  | gridLoss (f : Fin 32)
  /-- GRID_RESYNC (R376). The grid has stayed within its window for TRESYNC, and the converter restarts. -/
  | gridResync (f : Fin 32)
  /-- RECTIFIER_THRESHOLD (R386). The output current crosses ISRLO or ISRHI, and the synchronous rectifier stops or
  resumes switching. -/
  | rectifierThreshold (f : Fin 32) (current : Int)
  /-- PILOT_LOSS (R392). The pilot leaves B and C for 3 periods, and charging ramps down to IDLE. -/
  | pilotLoss (f : Fin 32)
  /-- CHARGE_GATE_CLOSE (R395). The charge gate closes, and the charging function ramps down to IDLE. -/
  | chargeGateClose (f : Fin 32)
  /-- ACTUATOR_ARRIVAL (R396). The position stays within TPOS for 10 periods, and the actuator enters HOLD or IDLE. -/
  | actuatorArrival (f : Fin 32)
  /-- HOMING_TIMEOUT (R397). THOME passes without a stall, and the actuator faults with HOMING. -/
  | homingTimeout (f : Fin 32)
  /-- ACTUATOR_STALL (R398). A stall is found at an end stop, on an obstruction, or on a park tooth. -/
  | actuatorStall (f : Fin 32) (pos : Int)
  /-- OBSTRUCTION_RETRY (R398). 100 ms after an obstruction the move is retried. -/
  | obstructionRetry (f : Fin 32)
  /-- TOOTH_TIMEOUT (R399). TTOOTH passes, and the park lock holds with TOOTH set. -/
  | toothTimeout (f : Fin 32)
  /-- INTERLOCK_EVALUATION (R400). Every 100 us the Distaff evaluates interlock rules, writes permit words and updates
  mirror lands. -/
  | interlockEvaluation
  /-- PERMIT_DROP (R402). A running move's permit drops, and the actuator acts as PDROP selects. -/
  | permitDrop (f : Fin 32) (pos : Int)
  /-- ORDERLY_STOP_RAMP_END (R484). A function's orderly-stop ramp ends; it commits its final images and enters IDLE. -/
  | orderlyStopRampEnd (f : Fin 32) (execs : List (Int × Int)) (vbus : Int)
  /-- INJECTION_ENABLE (R405). Setting INJ_CTL.EN starts the generator, or is refused with CFGERR. -/
  | injectionEnable
  /-- INJECTION_STOP (R407). The signal ends; the generator latches 0 and sets DONE. -/
  | injectionStop
  /-- INJECTION_ABORT (R408). The generator aborts at the next period start and sets ABORT. -/
  | injectionAbort
  /-- REEL_ARM (R415). Writing REL_CMD.ARM resets the hank and starts recording, or sets CFGERR. -/
  | reelArm (n : Fin 8)
  /-- REEL_SOFTWARE_TRIGGER (R414). Writing REL_CMD.TRIG makes the next received value the trigger word. -/
  | reelSoftwareTrigger (n : Fin 8)
  /-- REEL_STOP (R415). Writing REL_CMD.STOP ends a recording with DONE. -/
  | reelStop (n : Fin 8)
  /-- SNARL_EVENT (R421). A source reports an event; the Snarl counts it in its window and applies the transient or
  severe reaction. -/
  | snarlEvent (evs : List SrcInst)
  /-- WIRE_FAULT (R419). A dual-rail pair is invalid for two cycles; LINEFLT and the severe reaction follow. -/
  | wireFault (e : SrcInst)
  /-- COUNT_WINDOW_EXPIRY (R421). A count window expires with no further event, and its count is discarded. -/
  | countWindowExpiry (e : SrcInst)
  /-- RETENTION_LATCH_COPY (R429). STICKY and FIRST bits are copied into the retention latches within 250 ns. -/
  | retentionLatchCopy
  /-- REACTION_RETRY (R423). The Distaff restarts a trapped or overrun loop, or restarts the application. -/
  | reactionRetry (e : RetryCase)
  /-- REACTION_RETIRE (R430). The Distaff retires an instance, brings in a spare and appends a retire record. -/
  | reactionRetire (e : SrcInst)
  /-- REACTION_DEGRADE (R432). The Distaff retires a leg, and its function degrades to one set or becomes RETIRED. -/
  | reactionDegrade (e : SrcInst)
  /-- REACTION_FSAFE (R422). Every function using the instance goes to its safe state. -/
  | reactionFsafe (e : SrcInst)
  /-- REACTION_DSAFE (R422). The device goes to SAFE. -/
  | reactionDsafe (e : SrcInst)
  /-- REACTION_RESTART (R431). The Distaff stops Bobbins A and B, self-tests the cores, spares failures and restarts
  the application. -/
  | reactionRestart (e : SrcInst) (severe : Bool) (failed : List (Fin 3))
  /-- SOFF_ACCEPT (R436). SOFF_N is accepted; every leg goes OFF and PIN_SOFF is raised. -/
  | soffAccept
  /-- SASC_ACCEPT (R436). SASC_N is accepted; ASC-capable functions go to ASC and the others go OFF. -/
  | sascAccept
  /-- SAFETY_PIN_RELEASE (R436). An accepted safety pin is deasserted. -/
  | safetyPinRelease (sasc : Bool)
  /-- FUNCTION_RELEASE (R439). Writing DST_FREL releases a function from its safe state when permitted. -/
  | functionRelease (m : Master) (v : Word)
  /-- FLT_PULSE_END (R440). The 100 us FLT_N minimum pulse ends. -/
  | fltPulseEnd
  /-- DISTAFF_WATCHDOG_BITE (R442). The Distaff watchdog bites; legs go safe, the Distaff and Bobbins reset and the
  device enters SAFE. -/
  | distaffWatchdogBite
  /-- BOBBIN_WATCHDOG_KICK (R420). A write to DST_BKICK restarts the Bobbin watchdog, or raises BOB_WDG on a wrong key. -/
  | bobbinWatchdogKick (m : Master) (b : Fin 3) (v : Word)
  /-- BOBBIN_WATCHDOG_BITE (R420). 1.0 ms passes without a kick, and BOB_WDG is raised. -/
  | bobbinWatchdogBite (b : Fin 3)
  /-- FAULT_INJECTION_ARM (R443). Writing SNL_INJ with GO arms an injection into a checker, or sets REFUSED. -/
  | faultInjectionArm (m : Master) (v : Word)
  /-- INJECTED_EVENT (R444). The checker fires on inverted check bits and tags the event, setting INJSTK and DONE. -/
  | injectedEvent
  /-- FAULT_INJECTION_TIMEOUT (R445). No check within 10 ms of GO; the injection is withdrawn and TOUT is set. -/
  | faultInjectionTimeout
  /-- USER_SOURCE_RAISE (R420). Writing SNL_USR raises events of software sources. -/
  | userSourceRaise (m : Master) (v : Word)
  /-- RETAINED_CLEAR (R429). Writing SNL_CTL.RCLR clears the retained masks and RVALID. -/
  | retainedClear (m : Master)
  /-- MODE_REQUEST_CONFIG (R459). A request of CONFIG from STANDBY. -/
  | modeRequestConfig (m : Asker)
  /-- MODE_REQUEST_STANDBY (R459). A request of STANDBY from CONFIG, RUN or DEGRADED, checked for policy, CFGP and
  function states. -/
  | modeRequestStandby (m : Asker)
  /-- MODE_REQUEST_RUN (R471). A request of RUN or DEGRADED from STANDBY starts a housekeeping round. -/
  | modeRequestRun (m : Asker) (degraded : Bool)
  /-- MODE_REQUEST_SLEEP (R473). A request of SLEEP disables units, finishes flash, turns legs off and gates the
  clocks. -/
  | modeRequestSleep (m : Asker)
  /-- MODE_REQUEST_ORDERLY_STOP (R459). A request of ORDERLY-STOP from RUN, DEGRADED or SERVICE. -/
  | modeRequestOrderlyStop (m : Asker)
  /-- MODE_REQUEST_BOOT (R459). A request of BOOT makes a software reset. -/
  | modeRequestBoot (m : Asker)
  /-- MODE_REQUEST_SERVICE (R460). A request of SERVICE through SNL_MREQ, always refused with SESSION. -/
  | modeRequestService (m : Asker)
  /-- ORDERLY_STOP_END (R485). Every function is stopped, or T_ORDER expires, and the device enters SAFE. -/
  | orderlyStopEnd
  /-- POWER_ON (R463). The supplies reach their power-on levels, and a power-on reset starts BOOT. -/
  | powerOn
  /-- SUPPLY_FALL (R546). VCORE, VIO18 or VIO33 falls below its falling level, and the device goes to OFF. -/
  | supplyFall (r : Rail)
  /-- PIN_RESET (R463). RST_N is held low for 1 us; a pin reset resets requesters and sends reset codes to the leg
  dies. -/
  | pinReset
  /-- BOOT_END (R466). BOOT finishes reading fuses, applying the retire list and verifying the image, and SELFTEST
  starts. -/
  | bootEnd (b : BootResult)
  /-- SELFTEST_END (R467). SELFTEST ends; failed units are spared and the device enters LOAD or SAFE. -/
  | selftestEnd (r : SelftestResult)
  /-- LOAD_END (R470). The image and policy table are loaded; the Bobbins start and CONFIG is entered. -/
  | loadEnd (r : LoadResult)
  /-- SLEEP_ENTRY (R473). The sleep procedure completes, and the device is in SLEEP. -/
  | sleepEntry
  /-- WAKE (R475). The WAKE land holds its active level for 10 us, and a wake reset starts BOOT. -/
  | wake
  /-- WAKE_TIMER (R475). The wake timer expires, and a wake reset starts BOOT. -/
  | wakeTimer
  /-- POWER_FAIL (R489). VIO33 falls below 3.0 V; PFAIL is set and no flash operation starts. -/
  | powerFail
  /-- TEMPERATURE_EXTREMES_CLEAR (R476). Writing THM_CTL.MMCLR resets THM_MAX. -/
  | temperatureExtremesClear (m : Master)
  /-- GOVERNOR_FORCE (R493). Writing GOV_CTL.FORCE in SERVICE holds the governor at 3/4 or 1/2. -/
  | governorForce (m : Master) (v : Word)
  /-- GOVERNOR_COUNT_CLEAR (R495). Writing GOV_CTL.CLR clears GOV_CNT, GOV_TIME and LOWEST. -/
  | governorCountClear (m : Master)
  /-- FLASH_APPEND (R500). NVM_CMD with APPEND appends a USER record to the journal, or is refused. -/
  | flashAppend (m : Master) (v : Word)
  /-- FLASH_PROGRAM (R500). NVM_CMD with PROGRAM starts programming words, or is refused. -/
  | flashProgram (m : Master) (v : Word)
  /-- FLASH_ERASE (R500). NVM_CMD with ERASE starts erasing sectors, or is refused. -/
  | flashErase (m : Master) (v : Word)
  /-- FLASH_BAD_OP (R499). NVM_CMD with an undefined OP ends with RES BADOP. -/
  | flashBadOp (m : Master) (v : Word)
  /-- FLASH_WORD_DONE (R497). A 256-bit word program ends, and the next word follows or the operation completes. -/
  | flashWordDone (verified : Bool)
  /-- FLASH_SECTOR_DONE (R497). A sector erase ends, and the next sector follows or the operation completes. -/
  | flashSectorDone (erased : Bool)
  /-- DISTAFF_RECORD_APPEND (R502). The Distaff appends a journal record, inserted ahead of queued work. -/
  | distaffRecordAppend
  /-- WAITING_RECORD_WRITE (R487). The flash gate opens, and records waiting in the retention latches and pending
  erases are written. -/
  | waitingRecordWrite
  /-- SESSION_HELLO (R513). HELLO is answered with CHAL, BUSY or LOCKOUT. -/
  | sessionHello (t : Transport) (nonce : List Byte)
  /-- SESSION_AUTH (R513). AUTH opens a session with a role, or fails and raises SVC_AUTH. -/
  | sessionAuth (h : SesFrame) (role : BitVec 8) (mac : List Byte)
  /-- SESSION_KEEP (R517). KEEP restarts the 10 s session timer. -/
  | sessionKeep (h : SesFrame)
  /-- SESSION_BYE (R516). BYE ends the session. -/
  | sessionBye (h : SesFrame)
  /-- SESSION_READ (R517). READ returns up to 256 words. -/
  | sessionRead (h : SesFrame) (addr : Word) (words : Nat)
  /-- SESSION_WRITE (R517). WRITE stores up to 256 words under block protection. -/
  | sessionWrite (h : SesFrame) (addr : Word) (words : List Word)
  /-- SESSION_MODE (R517). MODE requests a device mode, including SERVICE. -/
  | sessionMode (h : SesFrame) (req : BitVec 4)
  /-- SESSION_STATUS (R517). STATUS returns the mode, fault and function status. -/
  | sessionStatus (h : SesFrame)
  /-- SESSION_JREAD (R517). JREAD returns valid journal records. -/
  | sessionJread (h : SesFrame) (from_ : Word)
  /-- SESSION_IDENT (R517). IDENT returns the identity block. -/
  | sessionIdent (h : SesFrame)
  /-- SESSION_ERASE (R517). ERASE erases flash sectors for the session. -/
  | sessionErase (h : SesFrame) (sector count : Nat)
  /-- SESSION_PROG (R517). PROG programs a payload into flash. -/
  | sessionProg (h : SesFrame) (offset : Nat) (data : List Byte)
  /-- SESSION_VERIFY (R517). VERIFY checks the other image slot and may blow ARB fuses. -/
  | sessionVerify (h : SesFrame) (arb : Bool) (fuses : List (BitVec 9 × Word)) (struck : List (BitVec 18 × Bool))
  /-- SESSION_ROLLBACK (R517). ROLLBACK erases the first sector of the newest slot. -/
  | sessionRollback (h : SesFrame) (struck : List (BitVec 18 × Bool))
  /-- SESSION_LDRUN (R517). LDRUN verifies an image and policy table written into the Skein for use without flash. -/
  | sessionLdrun (h : SesFrame) (r : Supplied)
  /-- SESSION_TIMEOUT (R516). 10 s pass without a valid frame; the session ends and SVC_LOST is raised. -/
  | sessionTimeout
  /-- SESSION_TRANSPORT_LOSS (R516). VBUS or the TCP connection is lost, and the session ends. -/
  | sessionTransportLoss (t : Transport)
  /-- LOCKOUT_EXPIRY (R514). The 60 s authentication lockout ends. -/
  | lockoutExpiry
  /-- FRAME_RECEIVE (R522). A link frame is received complete; it is checked, reserved and written as a record, or
  dropped. -/
  | frameReceive (l : Fin 18) (r : RxFrame)
  /-- TRANSMIT_KICK (R526). Writing TXKICK makes the link read and transmit owned descriptors. -/
  | transmitKick (l : Fin 18)
  /-- DESCRIPTOR_END (R526). A transmit descriptor ends and is written back, and TXCNT and TXIDX advance. -/
  | descriptorEnd (l : Fin 18) (result : BitVec 2) (tsSec tsNs : Word)
  /-- LINK_RESET (R527). Writing CTL.LRST resets the link, ends its cut and rolls back its ring. -/
  | linkReset (l : Fin 18)
  /-- TIME_OFFSET_WRITE (R528). A write to ETH_TSET adds signed nanoseconds to the link time counter. -/
  | timeOffsetWrite (m : Master) (v : Word)
  /-- TIME_SECONDS_READ (R528). Reading ETH_TSEC latches ETH_TNS. -/
  | timeSecondsRead (m : Master)
  /-- CAN_BUS_OFF (R533). A CAN controller goes bus-off and raises LNK_DOWN. -/
  | canBusOff (i : Fin 4)
  /-- CAN_BUS_OFF_RECOVERY (R533). With ABOR set, 128 x 11 recessive bits end bus-off. -/
  | canBusOffRecovery (i : Fin 4)
  /-- LINK_DOWN (R539). Ethernet link status goes down, or VBUS is lost, and LNK_DOWN is raised. -/
  | linkDown (l : Fin 18)
  /-- HSPI_READ (R535). An HSPI read transaction returns a status byte and words under HSPI_RIGHTS. -/
  | hspiRead (addr : Word) (words : Nat) (ready : Bool)
  /-- HSPI_WRITE (R535). An HSPI write transaction stores words under HSPI_RIGHTS. -/
  | hspiWrite (addr : Word) (words : List Word)
  /-- HSPI_STATUS (R535). An HSPI status transaction returns the result of the last write. -/
  | hspiStatus
  /-- UART_IDLE_CLOSE (R537). IDLE bit times of idle line close a UART receive record. -/
  | uartIdleClose (i : Fin 2)
  /-- SENT_TIMEOUT (R538). No valid SENT frame for 8 frame times, and LNK_DOWN is raised. -/
  | sentTimeout (i : Fin 4)
  /-- GPIO_SET (R541). Writing GPIO_SET sets bits of GPIO_OUT. -/
  | gpioSet (m : Master) (v : Word)
  /-- GPIO_CLR (R541). Writing GPIO_CLR clears bits of GPIO_OUT. -/
  | gpioClr (m : Master) (v : Word)
  /-- LEG_LINK_RESTORED (R15). A leg die that lost its link receives valid codes again, which allows its leg to leave
  the safe state once the function restarts. -/
  | legLinkRestored (die : Fin 36)
  /-- PWM_COMPARE_EDGE (R248). The timebase counter reaches a Whorl's CMPA or CMPB position, and the PWM signal
  changes, turning one gate command off and starting the RED or FED delay of the other. -/
  | pwmCompareEdge (n : Fin 64) (fine : Fin 32)
  /-- REFRESH_LOW_END (R266). The 400 ns low-on pulse of a direct-state bootstrap refresh ends, and the leg returns to
  high-on. -/
  | refreshLowEnd (n : Fin 64)
  /-- DEAD_TIME_FLOOR_END (R282). The leg die's dead-time floor after the other section's turn-off expires, and the
  section that was held back turns on, including the ASC sections of a safe-state order. -/
  | deadTimeFloorEnd (n : Fin 64) (sec : Section)
  /-- EXCITATION_STEP (R324). The timebase counter reaches a multiple of (PER + 1) / 64, and an enabled excitation
  output steps to its next sine value. -/
  | excitationStep (x : Fin 2) (step : Fin 64)
  /-- CONTROL_PILOT_EDGE (R389). The CPCAP comparator output changes, and the control-pilot capture unit updates LEVEL
  and its high-time and period measurements. -/
  | controlPilotEdge (level : Bool)
  /-- RESET_PIN_RELEASE (R459). RST_N rises with the supplies at their power-on levels, and the device leaves OFF for
  BOOT. -/
  | resetPinRelease
  /-- MODE_REQUEST_NO_ROW (R460). A write to SNL_MREQ.REQ names a target that no row of R459 allows, such as SELFTEST,
  LOAD, SAFE or codes 0xC to 0xF, and it is refused with RCODE TRANS. -/
  | modeRequestNoRow (m : Asker) (req : BitVec 4)
  /-- LINK_UP (R539). A link regains its up state (Ethernet in-band link status up, USB_VBUS valid, valid SENT frames
  again), and STAT.UP reads 1. -/
  | linkUp (l : Fin 18)
  deriving DecidableEq, Repr

end Sys2Proof
end

