-- ==== Sys2Proof/Decode.lean ====
section
/-! DEFINITION. The words of GWYN (R140 to R143, R148, R157, R174, R176): the word of each command that carries a GWYN
instruction, and the instruction that a word spells on a core. The opcode table gives its rows no bits, so no word spells
a command there. -/

namespace Sys2Proof

/-! ### Formats (R140, R176) -/

def encReg (major fn : BitVec 6) (f : RegF) : Word := major ++ fn ++ f.sh ++ f.rs2 ++ f.rs1 ++ f.rd

def encImm (major : BitVec 6) (f : ImmF) : Word := major ++ f.imm ++ f.rs1 ++ f.rd

def encStore (major : BitVec 6) (f : StoreF) : Word := major ++ f.imm ++ f.rs1 ++ f.rs2

def encBranch (major : BitVec 6) (f : BranchF) : Word := major ++ f.off ++ f.rs1 ++ f.rs2

def encJump (major : BitVec 6) (f : JumpF) : Word := major ++ f.off

def encMac (fn : BitVec 3) (f : MacF) : Word := 0x20#6 ++ fn ++ f.ad ++ f.mid ++ f.rs1 ++ f.low

def encKmem (major : BitVec 6) (f : KmemF) : Word := major ++ f.imm ++ f.k ++ f.rs1

def encCtl (major : BitVec 6) (fn : BitVec 3) (f : CtlF) : Word := major ++ fn ++ f.k ++ f.rs2 ++ f.rs1 ++ f.rd

def decReg (w : Word) : RegF := ⟨w.extractLsb' 15 5, w.extractLsb' 10 5, w.extractLsb' 5 5, w.extractLsb' 0 5⟩

def decImm (w : Word) : ImmF := ⟨w.extractLsb' 10 16, w.extractLsb' 5 5, w.extractLsb' 0 5⟩

def decStore (w : Word) : StoreF := ⟨w.extractLsb' 10 16, w.extractLsb' 5 5, w.extractLsb' 0 5⟩

def decBranch (w : Word) : BranchF := ⟨w.extractLsb' 10 16, w.extractLsb' 5 5, w.extractLsb' 0 5⟩

def decJump (w : Word) : JumpF := ⟨w.extractLsb' 0 26⟩

def decMac (w : Word) : MacF := ⟨w.extractLsb' 21 2, w.extractLsb' 10 11, w.extractLsb' 5 5, w.extractLsb' 0 5⟩

def decKmem (w : Word) : KmemF := ⟨w.extractLsb' 13 13, w.extractLsb' 5 8, w.extractLsb' 0 5⟩

def decCtl (w : Word) : CtlF := ⟨w.extractLsb' 15 8, w.extractLsb' 10 5, w.extractLsb' 5 5, w.extractLsb' 0 5⟩

/-! ### Encoding (R143) -/

/-- The word of a GWYN instruction; none for a command that carries none. -/
def encode : Instr → Option Word
  | .add _ f => some (encReg 0x01 0x01 f)
  | .sub _ f => some (encReg 0x01 0x02 f)
  | .neg _ f => some (encReg 0x01 0x03 f)
  | .abs_ _ f => some (encReg 0x01 0x04 f)
  | .min_ _ f => some (encReg 0x01 0x05 f)
  | .max_ _ f => some (encReg 0x01 0x06 f)
  | .slt _ f => some (encReg 0x01 0x07 f)
  | .sltu _ f => some (encReg 0x01 0x08 f)
  | .seq _ f => some (encReg 0x01 0x09 f)
  | .and_ _ f => some (encReg 0x01 0x10 f)
  | .or_ _ f => some (encReg 0x01 0x11 f)
  | .xor_ _ f => some (encReg 0x01 0x12 f)
  | .andn _ f => some (encReg 0x01 0x13 f)
  | .sll _ f => some (encReg 0x01 0x18 f)
  | .srl _ f => some (encReg 0x01 0x19 f)
  | .sra _ f => some (encReg 0x01 0x1A f)
  | .sla _ f => some (encReg 0x01 0x1B f)
  | .slli _ f => some (encReg 0x01 0x1C f)
  | .srli _ f => some (encReg 0x01 0x1D f)
  | .srai _ f => some (encReg 0x01 0x1E f)
  | .slai _ f => some (encReg 0x01 0x1F f)
  | .jmpr _ f => some (encReg 0x01 0x20 f)
  | .jsubr _ f => some (encReg 0x01 0x21 f)
  | .fence _ f => some (encReg 0x01 0x22 f)
  | .mul _ f => some (encReg 0x02 0x01 f)
  | .mulq _ f => some (encReg 0x02 0x02 f)
  | .mulqr _ f => some (encReg 0x02 0x03 f)
  | .mulh _ f => some (encReg 0x02 0x04 f)
  | .div _ f => some (encReg 0x02 0x08 f)
  | .divu _ f => some (encReg 0x02 0x09 f)
  | .rem _ f => some (encReg 0x02 0x0A f)
  | .addi _ f => some (encImm 0x04 f)
  | .slti _ f => some (encImm 0x05 f)
  | .sltiu _ f => some (encImm 0x06 f)
  | .andi _ f => some (encImm 0x07 f)
  | .ori _ f => some (encImm 0x08 f)
  | .xori _ f => some (encImm 0x09 f)
  | .lhi _ f => some (encImm 0x0A f)
  | .ldW _ f => some (encImm 0x14 f)
  | .ldA _ f => some (encImm 0x16 f)
  | .ldB _ f => some (encImm 0x18 f)
  | .ldBu _ f => some (encImm 0x19 f)
  | .ldH _ f => some (encImm 0x1A f)
  | .ldHu _ f => some (encImm 0x1B f)
  | .stW _ f => some (encStore 0x15 f)
  | .stA _ f => some (encStore 0x17 f)
  | .stB _ f => some (encStore 0x1C f)
  | .stH _ f => some (encStore 0x1D f)
  | .beq _ f => some (encBranch 0x0C f)
  | .bne _ f => some (encBranch 0x0D f)
  | .blt _ f => some (encBranch 0x0E f)
  | .bge _ f => some (encBranch 0x0F f)
  | .bltu _ f => some (encBranch 0x10 f)
  | .bgeu _ f => some (encBranch 0x11 f)
  | .jmp _ f => some (encJump 0x12 f)
  | .jsub _ f => some (encJump 0x13 f)
  | .ldK _ f => some (encKmem 0x1E f)
  | .stK _ f => some (encKmem 0x1F f)
  | .macs _ f => some (encMac 0 f)
  | .msus _ f => some (encMac 1 f)
  | .muls _ f => some (encMac 2 f)
  | .macv _ f => some (encMac 3 f)
  | .rda _ f => some (encMac 4 f)
  | .wra _ f => some (encMac 5 f)
  | .adda _ f => some (encMac 6 f)
  | .clarke _ f => some (encCtl 0x28 0 f)
  | .clarke3 _ f => some (encCtl 0x28 1 f)
  | .park _ f => some (encCtl 0x28 2 f)
  | .ipark _ f => some (encCtl 0x28 3 f)
  | .svm _ f => some (encCtl 0x29 0 f)
  | .band2 _ f => some (encCtl 0x2A 0 f)
  | .band3 _ f => some (encCtl 0x2A 1 f)
  | .swtab _ f => some (encCtl 0x2B 0 f)
  | .biq _ f => some (encCtl 0x2C 0 f)
  | .integ _ f => some (encCtl 0x2D 0 f)
  | .lut _ f => some (encCtl 0x2E 0 f)
  | .obsEmf _ f => some (encCtl 0x2F 0 f)
  | .obsPll _ f => some (encCtl 0x2F 1 f)
  | .lds _ f => some (encCtl 0x30 0 f)
  | .ldsT _ f => some (encCtl 0x30 1 f)
  | .ldp _ f => some (encCtl 0x30 2 f)
  | .stp _ f => some (encCtl 0x30 3 f)
  | .waits _ f => some (encCtl 0x31 0 f)
  | .putd _ f => some (encCtl 0x32 0 f)
  | .rahead _ f => some (encCtl 0x33 0 f)
  | .check _ f => some (encCtl 0x33 1 f)
  | .commit _ f => some (encCtl 0x33 2 f)
  | .plyLock _ f => some (encCtl 0x34 0 f)
  | .plyFree _ f => some (encCtl 0x34 1 f)
  | .plySt _ f => some (encCtl 0x34 2 f)
  | .mboxPut _ f => some (encCtl 0x35 0 f)
  | .mboxGet _ f => some (encCtl 0x35 1 f)
  | .mboxSt _ f => some (encCtl 0x35 2 f)
  | .trace _ f => some (encCtl 0x36 0 f)
  | .inj _ f => some (encCtl 0x36 1 f)
  | .halt _ f => some (encCtl 0x37 0 f)
  | .trap _ ⟨f, none⟩ => some (encReg 0x3C 0x01 f)
  | .trap _ ⟨_, some w⟩ => some w
  | .eret _ f => some (encReg 0x3C 0x02 f)
  | .wfi _ f => some (encReg 0x3C 0x03 f)
  | .mfc _ f => some (encImm 0x3D f)
  | .mtc _ f => some (encImm 0x3D f)
  | .setc _ f => some (encImm 0x3D f)
  | .clrc _ f => some (encImm 0x3D f)
  | .rdfl _ f => some (encImm 0x3E f)
  | .clrf _ f => some (encImm 0x3E f)
  | _ => none

/-! ### Decoding (R143, R144, R145, R148, R157, R174) -/

/-- Major 0x01 by its function. -/
def decOpr (c : Core) (w : Word) : Nat → Option Instr
  | 0x01 => some (.add c (decReg w))
  | 0x02 => some (.sub c (decReg w))
  | 0x03 => some (.neg c (decReg w))
  | 0x04 => some (.abs_ c (decReg w))
  | 0x05 => some (.min_ c (decReg w))
  | 0x06 => some (.max_ c (decReg w))
  | 0x07 => some (.slt c (decReg w))
  | 0x08 => some (.sltu c (decReg w))
  | 0x09 => some (.seq c (decReg w))
  | 0x10 => some (.and_ c (decReg w))
  | 0x11 => some (.or_ c (decReg w))
  | 0x12 => some (.xor_ c (decReg w))
  | 0x13 => some (.andn c (decReg w))
  | 0x18 => some (.sll c (decReg w))
  | 0x19 => some (.srl c (decReg w))
  | 0x1A => some (.sra c (decReg w))
  | 0x1B => some (.sla c (decReg w))
  | 0x1C => some (.slli c (decReg w))
  | 0x1D => some (.srli c (decReg w))
  | 0x1E => some (.srai c (decReg w))
  | 0x1F => some (.slai c (decReg w))
  | 0x20 => some (.jmpr c (decReg w))
  | 0x21 => some (.jsubr c (decReg w))
  | 0x22 => some (.fence c (decReg w))
  | _ => none

/-- Major 0x02 by its function. -/
def decOpm (c : Core) (w : Word) : Nat → Option Instr
  | 0x01 => some (.mul c (decReg w))
  | 0x02 => some (.mulq c (decReg w))
  | 0x03 => some (.mulqr c (decReg w))
  | 0x04 => some (.mulh c (decReg w))
  | 0x08 => some (.div c (decReg w))
  | 0x09 => some (.divu c (decReg w))
  | 0x0A => some (.rem c (decReg w))
  | _ => none

/-- Major 0x20 by its function. -/
def decMacs (c : Core) (w : Word) : Nat → Option Instr
  | 0x00 => some (.macs c (decMac w))
  | 0x01 => some (.msus c (decMac w))
  | 0x02 => some (.muls c (decMac w))
  | 0x03 => some (.macv c (decMac w))
  | 0x04 => some (.rda c (decMac w))
  | 0x05 => some (.wra c (decMac w))
  | 0x06 => some (.adda c (decMac w))
  | _ => none

/-- Major 0x3C by its function. -/
def decSys (c : Core) (w : Word) : Nat → Option Instr
  | 0x01 => some (.trap c ⟨decReg w, none⟩)
  | 0x02 => some (.eret c (decReg w))
  | 0x03 => some (.wfi c (decReg w))
  | _ => none

/-- Major 0x3D by bits 15:14 of imm16. -/
def decCsr (c : Core) (w : Word) : Nat → Option Instr
  | 0x00 => some (.mfc c (decImm w))
  | 0x01 => some (.mtc c (decImm w))
  | 0x02 => some (.setc c (decImm w))
  | 0x03 => some (.clrc c (decImm w))
  | _ => none

/-- Major 0x3E by the rs1 field. -/
def decFlg (c : Core) (w : Word) : Nat → Option Instr
  | 0x00 => some (.rdfl c (decImm w))
  | 0x01 => some (.clrf c (decImm w))
  | _ => none

/-- Major 0x28 by its function. -/
def decCtl28 (c : Core) (w : Word) : Nat → Option Instr
  | 0x00 => some (.clarke c (decCtl w))
  | 0x01 => some (.clarke3 c (decCtl w))
  | 0x02 => some (.park c (decCtl w))
  | 0x03 => some (.ipark c (decCtl w))
  | _ => none

/-- Major 0x29 by its function. -/
def decCtl29 (c : Core) (w : Word) : Nat → Option Instr
  | 0x00 => some (.svm c (decCtl w))
  | _ => none

/-- Major 0x2A by its function. -/
def decCtl2A (c : Core) (w : Word) : Nat → Option Instr
  | 0x00 => some (.band2 c (decCtl w))
  | 0x01 => some (.band3 c (decCtl w))
  | _ => none

/-- Major 0x2B by its function. -/
def decCtl2B (c : Core) (w : Word) : Nat → Option Instr
  | 0x00 => some (.swtab c (decCtl w))
  | _ => none

/-- Major 0x2C by its function. -/
def decCtl2C (c : Core) (w : Word) : Nat → Option Instr
  | 0x00 => some (.biq c (decCtl w))
  | _ => none

/-- Major 0x2D by its function. -/
def decCtl2D (c : Core) (w : Word) : Nat → Option Instr
  | 0x00 => some (.integ c (decCtl w))
  | _ => none

/-- Major 0x2E by its function. -/
def decCtl2E (c : Core) (w : Word) : Nat → Option Instr
  | 0x00 => some (.lut c (decCtl w))
  | _ => none

/-- Major 0x2F by its function. -/
def decCtl2F (c : Core) (w : Word) : Nat → Option Instr
  | 0x00 => some (.obsEmf c (decCtl w))
  | 0x01 => some (.obsPll c (decCtl w))
  | _ => none

/-- Major 0x30 by its function. -/
def decCtl30 (c : Core) (w : Word) : Nat → Option Instr
  | 0x00 => some (.lds c (decCtl w))
  | 0x01 => some (.ldsT c (decCtl w))
  | 0x02 => some (.ldp c (decCtl w))
  | 0x03 => some (.stp c (decCtl w))
  | _ => none

/-- Major 0x31 by its function. -/
def decCtl31 (c : Core) (w : Word) : Nat → Option Instr
  | 0x00 => some (.waits c (decCtl w))
  | _ => none

/-- Major 0x32 by its function. -/
def decCtl32 (c : Core) (w : Word) : Nat → Option Instr
  | 0x00 => some (.putd c (decCtl w))
  | _ => none

/-- Major 0x33 by its function. -/
def decCtl33 (c : Core) (w : Word) : Nat → Option Instr
  | 0x00 => some (.rahead c (decCtl w))
  | 0x01 => some (.check c (decCtl w))
  | 0x02 => some (.commit c (decCtl w))
  | _ => none

/-- Major 0x34 by its function. -/
def decCtl34 (c : Core) (w : Word) : Nat → Option Instr
  | 0x00 => some (.plyLock c (decCtl w))
  | 0x01 => some (.plyFree c (decCtl w))
  | 0x02 => some (.plySt c (decCtl w))
  | _ => none

/-- Major 0x35 by its function. -/
def decCtl35 (c : Core) (w : Word) : Nat → Option Instr
  | 0x00 => some (.mboxPut c (decCtl w))
  | 0x01 => some (.mboxGet c (decCtl w))
  | 0x02 => some (.mboxSt c (decCtl w))
  | _ => none

/-- Major 0x36 by its function. -/
def decCtl36 (c : Core) (w : Word) : Nat → Option Instr
  | 0x00 => some (.trace c (decCtl w))
  | 0x01 => some (.inj c (decCtl w))
  | _ => none

/-- Major 0x37 by its function. -/
def decCtl37 (c : Core) (w : Word) : Nat → Option Instr
  | 0x00 => some (.halt c (decCtl w))
  | _ => none

/-- The instruction that a word spells on a core; none where the major or the function is reserved (R141). -/
def decodeGwyn (c : Core) (w : Word) : Option Instr :=
  match (w.extractLsb' 26 6).toNat with
  | 0x01 => decOpr c w (w.extractLsb' 20 6).toNat
  | 0x02 => decOpm c w (w.extractLsb' 20 6).toNat
  | 0x20 => decMacs c w (w.extractLsb' 23 3).toNat
  | 0x3C => decSys c w (w.extractLsb' 20 6).toNat
  | 0x3D => decCsr c w (w.extractLsb' 24 2).toNat
  | 0x3E => decFlg c w (w.extractLsb' 5 5).toNat
  | 0x04 => some (.addi c (decImm w))
  | 0x05 => some (.slti c (decImm w))
  | 0x06 => some (.sltiu c (decImm w))
  | 0x07 => some (.andi c (decImm w))
  | 0x08 => some (.ori c (decImm w))
  | 0x09 => some (.xori c (decImm w))
  | 0x0A => some (.lhi c (decImm w))
  | 0x14 => some (.ldW c (decImm w))
  | 0x16 => some (.ldA c (decImm w))
  | 0x18 => some (.ldB c (decImm w))
  | 0x19 => some (.ldBu c (decImm w))
  | 0x1A => some (.ldH c (decImm w))
  | 0x1B => some (.ldHu c (decImm w))
  | 0x15 => some (.stW c (decStore w))
  | 0x17 => some (.stA c (decStore w))
  | 0x1C => some (.stB c (decStore w))
  | 0x1D => some (.stH c (decStore w))
  | 0x0C => some (.beq c (decBranch w))
  | 0x0D => some (.bne c (decBranch w))
  | 0x0E => some (.blt c (decBranch w))
  | 0x0F => some (.bge c (decBranch w))
  | 0x10 => some (.bltu c (decBranch w))
  | 0x11 => some (.bgeu c (decBranch w))
  | 0x12 => some (.jmp c (decJump w))
  | 0x13 => some (.jsub c (decJump w))
  | 0x1E => some (.ldK c (decKmem w))
  | 0x1F => some (.stK c (decKmem w))
  | 0x28 => decCtl28 c w (w.extractLsb' 23 3).toNat
  | 0x29 => decCtl29 c w (w.extractLsb' 23 3).toNat
  | 0x2A => decCtl2A c w (w.extractLsb' 23 3).toNat
  | 0x2B => decCtl2B c w (w.extractLsb' 23 3).toNat
  | 0x2C => decCtl2C c w (w.extractLsb' 23 3).toNat
  | 0x2D => decCtl2D c w (w.extractLsb' 23 3).toNat
  | 0x2E => decCtl2E c w (w.extractLsb' 23 3).toNat
  | 0x2F => decCtl2F c w (w.extractLsb' 23 3).toNat
  | 0x30 => decCtl30 c w (w.extractLsb' 23 3).toNat
  | 0x31 => decCtl31 c w (w.extractLsb' 23 3).toNat
  | 0x32 => decCtl32 c w (w.extractLsb' 23 3).toNat
  | 0x33 => decCtl33 c w (w.extractLsb' 23 3).toNat
  | 0x34 => decCtl34 c w (w.extractLsb' 23 3).toNat
  | 0x35 => decCtl35 c w (w.extractLsb' 23 3).toNat
  | 0x36 => decCtl36 c w (w.extractLsb' 23 3).toNat
  | 0x37 => decCtl37 c w (w.extractLsb' 23 3).toNat
  | _ => none

/-- The instruction that a word in memory is to a core: a reserved word is the one that traps with cause ILL (R141). -/
def readGwyn (c : Core) (w : Word) : Instr := (decodeGwyn c w).getD (.trap c ⟨decReg w, some w⟩)

/-! ### The opcode table -/

/-- The command that a word spells by the opcode table's bits: the table gives no row bits, so none. -/
def decodeTableWord (_nbits _w : Nat) : Option Instr := none

end Sys2Proof
end

