-- ==== Sys2Proof/Machine/RegMap.lean ====
section
/-! DEFINITION. The register map: every register of the manual's register tables with its offset, the bits of each
access type (R6), the live bits (R37 and each chapter's marks) and its reset value. The blocks are those of R26. The
extent of a single-instance block is not given (R9): it spans up to 0x1000 bytes, notes/assumptions/14.md. -/

namespace Sys2Proof.Machine

/-- The register blocks of R26. -/
inductive BlockId where
  | clk | skn | cnv | sdm | sdmc | hkp | spn | tb | whl | whlg | hvp | lvp | pose | posh | posx | cpc | pos | inj | rel | dst | snl | thm | gov | nvm | idn | lnk | gpio
  deriving DecidableEq, Repr

/-- One row of the register map: `n1` by `n2` registers at `off + i * s1 + j * s2`, the bits of each access type of
R6, the live RW and WO bits, and the reset value. -/
structure RegDef where
  off : Nat
  n1 : Nat
  s1 : Nat
  n2 : Nat
  s2 : Nat
  rw : Word
  ro : Word
  w1c : Word
  wo : Word
  live : Word
  reset : Word
  deriving DecidableEq, Repr

/-- The registers of block CLK: CLK_STAT, CLK_LOCKT. -/
def regsClk : List RegDef :=
  [⟨0x0, 1, 0x0, 1, 0, 0x0, 0x7, 0x100, 0x0, 0x0, 0x0⟩,
   ⟨0x4, 1, 0x0, 1, 0, 0x0, 0xFFFF, 0x0, 0x0, 0x0, 0x0⟩]

/-- The registers of block SKN: SKN_MAP, SKN_SPARE, SKN_RBPROG, SKN_RETIRED, SKN_CECNT, SKN_UEADDR, SKN_STAT,
SKN_HANGREQ, SKN_CUT, SKN_LBADDR, SKN_SCRUB, SKN_CTL, SKN_HSEL, SKN_HBASE, SKN_HCFG, SKN_HWR, SKN_HRD, SKN_HFILL,
SKN_HDROP. -/
def regsSkn : List RegDef :=
  [⟨0x0, 4, 0x4, 1, 0, 0x0, 0x1F1F1F1F, 0x0, 0x0, 0x0, 0x0⟩,
   ⟨0x10, 1, 0x0, 1, 0, 0x0, 0x1F0F, 0x0, 0x0, 0x0, 0x0⟩,
   ⟨0x14, 1, 0x0, 1, 0, 0x0, 0x1FFFF, 0x0, 0x0, 0x0, 0x0⟩,
   ⟨0x18, 1, 0x0, 1, 0, 0x0, 0x3FFFF, 0x0, 0x0, 0x0, 0x0⟩,
   ⟨0x20, 1, 0x0, 1, 0, 0x0, 0xFFFF, 0x0, 0x0, 0x0, 0x0⟩,
   ⟨0x24, 1, 0x0, 1, 0, 0x0, 0x1FFFFFFF, 0x0, 0x0, 0x0, 0x0⟩,
   ⟨0x28, 1, 0x0, 1, 0, 0x0, 0x0, 0x7F, 0x0, 0x0, 0x0⟩,
   ⟨0x2C, 1, 0x0, 1, 0, 0x0, 0x1FFF, 0x0, 0x0, 0x0, 0x0⟩,
   ⟨0x30, 5, 0x4, 1, 0, 0x0, 0xFFFFFFFF, 0x0, 0x0, 0x0, 0x0⟩,
   ⟨0x44, 1, 0x0, 1, 0, 0x0, 0xFFFFC0, 0x0, 0x0, 0x0, 0x0⟩,
   ⟨0x48, 1, 0x0, 1, 0, 0x1, 0x0, 0x0, 0x0, 0x1, 0x1⟩,
   ⟨0x4C, 1, 0x0, 1, 0, 0x0, 0x0, 0x0, 0x1, 0x1, 0x0⟩,
   ⟨0x80, 1, 0x0, 1, 0, 0xFF, 0x0, 0x0, 0x0, 0xFF, 0x0⟩,
   ⟨0x84, 1, 0x0, 1, 0, 0xFFFC00, 0x0, 0x0, 0x0, 0x0, 0x0⟩,
   ⟨0x88, 1, 0x0, 1, 0, 0xFFFF, 0x0, 0x0, 0x0, 0x0, 0x0⟩,
   ⟨0x8C, 1, 0x0, 1, 0, 0x0, 0x7FFFFF, 0x0, 0x0, 0x0, 0x0⟩,
   ⟨0x90, 1, 0x0, 1, 0, 0x7FFFFF, 0x0, 0x0, 0x0, 0x7FFFFF, 0x0⟩,
   ⟨0x94, 1, 0x0, 1, 0, 0x0, 0xFFFFFF, 0x0, 0x0, 0x0, 0x0⟩,
   ⟨0x98, 1, 0x0, 1, 0, 0x0, 0xFFFF, 0x0, 0x0, 0x0, 0x0⟩]

/-- The registers of block CNV: CNV_CTL, CNV_SCAN, CNV_FE, CNV_DIAG, CNV_HANK, CNV_SWTRIG, CNV_WC0CFG, CNV_WC1CFG,
CNV_WC0LIM, CNV_WC1LIM, CNV_STAT, CNV_SEQ, CNV_LAST, CNV_TLCNT, CNV_XBAR. -/
def regsCnv : List RegDef :=
  [⟨0x0, 1, 0x0, 1, 0, 0x3FB, 0x0, 0x0, 0x0, 0x3, 0x0⟩,
   ⟨0x4, 1, 0x0, 1, 0, 0xFFF, 0x0, 0x0, 0x0, 0x0, 0x1⟩,
   ⟨0x8, 1, 0x0, 1, 0, 0x1F, 0x0, 0x0, 0x0, 0x1F, 0x0⟩,
   ⟨0xC, 1, 0x0, 1, 0, 0x1FF, 0x0, 0x0, 0x0, 0x0, 0x0⟩,
   ⟨0x10, 1, 0x0, 1, 0, 0xFF, 0x0, 0x0, 0x0, 0x0, 0x0⟩,
   ⟨0x14, 1, 0x0, 1, 0, 0x0, 0x0, 0x0, 0x1, 0x1, 0x0⟩,
   ⟨0x20, 1, 0x0, 1, 0, 0x3FF, 0x0, 0x0, 0x0, 0x0, 0x0⟩,
   ⟨0x28, 1, 0x0, 1, 0, 0x3FF, 0x0, 0x0, 0x0, 0x0, 0x0⟩,
   ⟨0x24, 1, 0x0, 1, 0, 0xFFFFFFFF, 0x0, 0x0, 0x0, 0xFFFFFFFF, 0xFFFF0000⟩,
   ⟨0x2C, 1, 0x0, 1, 0, 0xFFFFFFFF, 0x0, 0x0, 0x0, 0xFFFFFFFF, 0xFFFF0000⟩,
   ⟨0x40, 1, 0x0, 1, 0, 0x0, 0x1F, 0x700, 0x0, 0x0, 0x0⟩,
   ⟨0x44, 1, 0x0, 1, 0, 0x0, 0xFFFF, 0x0, 0x0, 0x0, 0x0⟩,
   ⟨0x48, 1, 0x0, 1, 0, 0x0, 0xFFFFFFFF, 0x0, 0x0, 0x0, 0x0⟩,
   ⟨0x4C, 1, 0x0, 1, 0, 0x0, 0xFFFF, 0x0, 0x0, 0x0, 0x0⟩,
   ⟨0x50, 1, 0x0, 1, 0, 0x0, 0x10F, 0x0, 0x0, 0x0, 0x0⟩]

/-- The registers of block SDM: SDM_CTL, SDM_FAST, SDM_FLIM, SDM_HANK, SDM_STAT, SDM_LAST. -/
def regsSdm : List RegDef :=
  [⟨0x0, 1, 0x0, 1, 0, 0xFF07FF, 0x0, 0x0, 0x0, 0x1, 0x70000⟩,
   ⟨0x4, 1, 0x0, 1, 0, 0x7F, 0x0, 0x0, 0x0, 0x0, 0xE⟩,
   ⟨0x8, 1, 0x0, 1, 0, 0xFFFFFFFF, 0x0, 0x0, 0x0, 0xFFFFFFFF, 0x7FFF8000⟩,
   ⟨0xC, 1, 0x0, 1, 0, 0xFF, 0x0, 0x0, 0x0, 0x0, 0x0⟩,
   ⟨0x10, 1, 0x0, 1, 0, 0x0, 0x3, 0x300, 0x0, 0x0, 0x0⟩,
   ⟨0x14, 1, 0x0, 1, 0, 0x0, 0xFFFFFFFF, 0x0, 0x0, 0x0, 0x0⟩]

/-- The registers of block SDMC: SDM_CLKEN. -/
def regsSdmc : List RegDef :=
  [⟨0x0, 1, 0x0, 1, 0, 0xF, 0x0, 0x0, 0x0, 0xF, 0x0⟩]

/-- The registers of block HKP: HKP_CTL, HKP_STAT, HKP_TDAC, HKP_RES, HKP_LIM. -/
def regsHkp : List RegDef :=
  [⟨0x0, 1, 0x0, 1, 0, 0x0, 0x0, 0x0, 0x1, 0x1, 0x0⟩,
   ⟨0x4, 1, 0x0, 1, 0, 0x0, 0x7FFFF, 0x0, 0x0, 0x0, 0x0⟩,
   ⟨0x8, 1, 0x0, 1, 0, 0x103FF, 0x0, 0x0, 0x0, 0x103FF, 0x0⟩,
   ⟨0x100, 24, 0x4, 1, 0, 0x0, 0xFFFFFF, 0x0, 0x0, 0x0, 0x0⟩,
   ⟨0x200, 14, 0x4, 1, 0, 0x8FFF0FFF, 0x0, 0x0, 0x0, 0x0, 0xFFF0000⟩,
   ⟨0x238, 4, 0x4, 1, 0, 0x8FFFFFFF, 0x0, 0x0, 0x0, 0x0, 0xFFF0000⟩,
   ⟨0x248, 6, 0x4, 1, 0, 0x8FFF0FFF, 0x0, 0x0, 0x0, 0x0, 0xFFF0000⟩]

/-- The registers of block SPN: SPN_CTL, SPN_STAT, SPN_PROG, SPN_HOT, SPN_FLAGS, SPN_LSMCNT, SPN_TRAPC, SPN_TRAPPC,
SPN_TRAPEA, SPN_MBOUT, SPN_MBIN, SPN_MBSTAT, SPN_LTRIG, SPN_LSLOT, SPN_LDEAD, SPN_LENT0, SPN_LENT1, SPN_LHANK,
SPN_LSTAT, SPN_LCNT, SPN_LWHL, SPN_SDEF, SPN_SSRC. -/
def regsSpn0 : List RegDef :=
  [⟨0x0, 1, 0x0, 1, 0, 0xFFF, 0x0, 0x0, 0x0, 0xFFF, 0x0⟩,
   ⟨0x4, 1, 0x0, 1, 0, 0x0, 0x1FF0F, 0x20000, 0x0, 0x0, 0x0⟩,
   ⟨0x8, 1, 0x0, 1, 0, 0x3FFFF, 0x0, 0x0, 0x0, 0x0, 0x3FF00⟩,
   ⟨0xC, 1, 0x0, 1, 0, 0x3F, 0x0, 0x0, 0x0, 0x0, 0x0⟩,
   ⟨0x10, 1, 0x0, 1, 0, 0x0, 0x0, 0x7F7F7F7F, 0x0, 0x0, 0x0⟩,
   ⟨0x14, 1, 0x0, 1, 0, 0x0, 0xFFFF, 0x0, 0x0, 0x0, 0x0⟩,
   ⟨0x20, 1, 0x0, 1, 0, 0x0, 0x7FF, 0xC0000000, 0x0, 0x0, 0x0⟩,
   ⟨0x24, 1, 0x0, 1, 0, 0x0, 0xFFFFFFFF, 0x0, 0x0, 0x0, 0x0⟩,
   ⟨0x28, 1, 0x0, 1, 0, 0x0, 0xFFFFFFFF, 0x0, 0x0, 0x0, 0x0⟩,
   ⟨0x40, 4, 0x4, 1, 0, 0x0, 0xFFFFFFFF, 0x0, 0x0, 0x0, 0x0⟩,
   ⟨0x50, 4, 0x4, 1, 0, 0x0, 0x0, 0x0, 0xFFFFFFFF, 0xFFFFFFFF, 0x0⟩,
   ⟨0x60, 1, 0x0, 1, 0, 0x0, 0xFF, 0x100, 0x0, 0x0, 0x0⟩,
   ⟨0x100, 4, 0x20, 1, 0, 0xFFFF01FF, 0x0, 0x0, 0x0, 0x0, 0x0⟩,
   ⟨0x104, 4, 0x20, 1, 0, 0xFFFFFFFF, 0x0, 0x0, 0x0, 0x0, 0x0⟩,
   ⟨0x108, 4, 0x20, 1, 0, 0xFFFF, 0x0, 0x0, 0x0, 0x0, 0x0⟩,
   ⟨0x10C, 4, 0x20, 1, 0, 0xFFF0FFF, 0x0, 0x0, 0x0, 0x0, 0x0⟩,
   ⟨0x110, 4, 0x20, 1, 0, 0xFF9F0FFF, 0x0, 0x0, 0x0, 0x0, 0x0⟩,
   ⟨0x114, 4, 0x20, 1, 0, 0xFFFFFF, 0x0, 0x0, 0x0, 0x0, 0x0⟩,
   ⟨0x118, 4, 0x20, 1, 0, 0x0, 0xFFFF007E, 0x380, 0x0, 0x0, 0x0⟩,
   ⟨0x11C, 4, 0x20, 1, 0, 0x0, 0xFFFFFFFF, 0x0, 0x0, 0x0, 0x0⟩]

/-- The registers of block SPN: SPN_CTL, SPN_STAT, SPN_PROG, SPN_HOT, SPN_FLAGS, SPN_LSMCNT, SPN_TRAPC, SPN_TRAPPC,
SPN_TRAPEA, SPN_MBOUT, SPN_MBIN, SPN_MBSTAT, SPN_LTRIG, SPN_LSLOT, SPN_LDEAD, SPN_LENT0, SPN_LENT1, SPN_LHANK,
SPN_LSTAT, SPN_LCNT, SPN_LWHL, SPN_SDEF, SPN_SSRC. (continued) -/
def regsSpn1 : List RegDef :=
  [⟨0x180, 4, 0x10, 4, 4, 0x3F3F3F3F, 0x0, 0x0, 0x0, 0x0, 0x0⟩,
   ⟨0x200, 4, 0x40, 1, 0, 0x7FF, 0x0, 0x800, 0x0, 0x0, 0x0⟩,
   ⟨0x204, 4, 0x40, 8, 4, 0x9F0F9F0F, 0x0, 0x0, 0x0, 0x0, 0x0⟩]

/-- The registers of block SPN: SPN_CTL, SPN_STAT, SPN_PROG, SPN_HOT, SPN_FLAGS, SPN_LSMCNT, SPN_TRAPC, SPN_TRAPPC,
SPN_TRAPEA, SPN_MBOUT, SPN_MBIN, SPN_MBSTAT, SPN_LTRIG, SPN_LSLOT, SPN_LDEAD, SPN_LENT0, SPN_LENT1, SPN_LHANK,
SPN_LSTAT, SPN_LCNT, SPN_LWHL, SPN_SDEF, SPN_SSRC. -/
def regsSpn : List RegDef := regsSpn0 ++ regsSpn1

/-- The registers of block TB: TB_CTL, TB_PER, TB_TRGA, TB_TRGB, TB_PHASE, TB_CNT, TB_STAT. -/
def regsTb : List RegDef :=
  [⟨0x0, 1, 0x0, 1, 0, 0xFF, 0x0, 0x0, 0x0, 0x1, 0x0⟩,
   ⟨0x4, 1, 0x0, 1, 0, 0xFFFFFF, 0x0, 0x0, 0x0, 0xFFFFFF, 0x960⟩,
   ⟨0x8, 1, 0x0, 1, 0, 0x1FFFFFF, 0x0, 0x0, 0x0, 0x1FFFFFF, 0x0⟩,
   ⟨0xC, 1, 0x0, 1, 0, 0x1FFFFFF, 0x0, 0x0, 0x0, 0x1FFFFFF, 0x0⟩,
   ⟨0x10, 1, 0x0, 1, 0, 0x1FFFFFF, 0x0, 0x0, 0x0, 0x0, 0x0⟩,
   ⟨0x14, 1, 0x0, 1, 0, 0x0, 0x1FFFFFF, 0x0, 0x0, 0x0, 0x0⟩,
   ⟨0x18, 1, 0x0, 1, 0, 0x0, 0x7, 0x8, 0x0, 0x0, 0x0⟩]

/-- The registers of block WHL: WHL_CTL, WHL_SLOT, WHL_TRIP, WHL_TSEL, WHL_FRC, WHL_TCLR, WHL_STAT, WHL_OUT, WHL_ACT. -/
def regsWhl : List RegDef :=
  [⟨0x0, 1, 0x0, 1, 0, 0x7FFFF, 0x0, 0x0, 0x0, 0x1, 0x4⟩,
   ⟨0x4, 1, 0x0, 1, 0, 0xFFFFF0, 0x0, 0x0, 0x0, 0x0, 0x0⟩,
   ⟨0x8, 1, 0x0, 1, 0, 0x1FFFF, 0x0, 0x0, 0x0, 0x0, 0x0⟩,
   ⟨0xC, 3, 0x4, 1, 0, 0xFFFFFFFF, 0x0, 0x0, 0x0, 0x0, 0x0⟩,
   ⟨0x18, 1, 0x0, 1, 0, 0x1F, 0x0, 0x0, 0x0, 0x1F, 0x0⟩,
   ⟨0x1C, 1, 0x0, 1, 0, 0x0, 0x0, 0x0, 0x1, 0x1, 0x0⟩,
   ⟨0x20, 1, 0x0, 1, 0, 0x0, 0x7F00000F, 0x1FF00, 0x0, 0x0, 0x0⟩,
   ⟨0x24, 1, 0x0, 1, 0, 0x0, 0x3, 0x0, 0x0, 0x0, 0x0⟩,
   ⟨0x30, 4, 0x4, 1, 0, 0x0, 0xFFFFFFFF, 0x0, 0x0, 0x0, 0x0⟩]

/-- The registers of block WHLG: WHL_GSTART, WHL_PINCFG, WHL_LINES, WHL_BUS, WHL_BUSST. -/
def regsWhlg : List RegDef :=
  [⟨0x0, 1, 0x0, 1, 0, 0x0, 0x0, 0x0, 0xFFFF, 0xFFFF, 0x0⟩,
   ⟨0x4, 1, 0x0, 1, 0, 0xFFF, 0x0, 0x0, 0x0, 0x0, 0x0⟩,
   ⟨0x8, 3, 0x4, 1, 0, 0x0, 0xFFFFFFFF, 0x0, 0x0, 0x0, 0x0⟩,
   ⟨0x20, 4, 0x4, 1, 0, 0xBFFFFFFF, 0x0, 0x0, 0x0, 0x0, 0x3FFFFFFE⟩,
   ⟨0x30, 1, 0x0, 1, 0, 0x0, 0xFF, 0x0, 0x0, 0x0, 0x0⟩]

/-- The registers of block HVP: HVP_CFG, HVP_DESAT, HVP_STO, HVP_ADPCTL, HVP_ADPTGT, HVP_CAL, HVP_MEASH, HVP_MEASL,
HVP_TEST, HVP_STAT, HVP_CNT, HVP_REARM. -/
def regsHvp : List RegDef :=
  [⟨0x0, 1, 0x0, 1, 0, 0x7F73E03, 0x0, 0x0, 0x0, 0x0, 0xA00E00⟩,
   ⟨0x4, 1, 0x0, 1, 0, 0x3F1F3F1F, 0x0, 0x0, 0x0, 0x0, 0x6080608⟩,
   ⟨0x8, 1, 0x0, 1, 0, 0x77, 0x0, 0x0, 0x0, 0x0, 0x23⟩,
   ⟨0xC, 1, 0x0, 1, 0, 0xFFFFFF07, 0x0, 0x0, 0x0, 0x0, 0x10A20502⟩,
   ⟨0x10, 1, 0x0, 1, 0, 0x1FF01FF, 0x0, 0x0, 0x0, 0x0, 0x320032⟩,
   ⟨0x14, 1, 0x0, 1, 0, 0xFFFF, 0xFFFF0000, 0x0, 0x0, 0x0, 0x88888888⟩,
   ⟨0x18, 1, 0x0, 1, 0, 0x0, 0x1FF01FF, 0x0, 0x0, 0x0, 0x0⟩,
   ⟨0x1C, 1, 0x0, 1, 0, 0x0, 0x1FF01FF, 0x0, 0x0, 0x0, 0x0⟩,
   ⟨0x20, 1, 0x0, 1, 0, 0x0, 0x0, 0x0, 0xF, 0xF, 0x0⟩,
   ⟨0x24, 1, 0x0, 1, 0, 0x0, 0x1FE007F, 0x200FA00, 0x0, 0x0, 0x0⟩,
   ⟨0x28, 1, 0x0, 1, 0, 0x0, 0xFFFFFFFF, 0x0, 0x0, 0x0, 0x0⟩,
   ⟨0x2C, 1, 0x0, 1, 0, 0x0, 0x0, 0x0, 0x3, 0x3, 0x0⟩]

/-- The registers of block LVP: LVP_CFG, LVP_VDS, LVP_ADPCTL, LVP_ADPTGT, LVP_CAL, LVP_MEASH, LVP_MEASL, LVP_TEST,
LVP_STAT, LVP_CNT, LVP_REARM. -/
def regsLvp : List RegDef :=
  [⟨0x0, 1, 0x0, 1, 0, 0x7F73F00, 0x0, 0x0, 0x0, 0x0, 0xA00100⟩,
   ⟨0x4, 1, 0x0, 1, 0, 0x1FF01FF, 0x0, 0x0, 0x0, 0x0, 0x640064⟩,
   ⟨0x8, 1, 0x0, 1, 0, 0xFFFF0007, 0x0, 0x0, 0x0, 0x0, 0x10030002⟩,
   ⟨0xC, 1, 0x0, 1, 0, 0x1FF01FF, 0x0, 0x0, 0x0, 0x0, 0x140014⟩,
   ⟨0x10, 1, 0x0, 1, 0, 0xFFFF, 0xFFFF0000, 0x0, 0x0, 0x0, 0xFFFFFFFF⟩,
   ⟨0x14, 1, 0x0, 1, 0, 0x0, 0x1FF01FF, 0x0, 0x0, 0x0, 0x0⟩,
   ⟨0x18, 1, 0x0, 1, 0, 0x0, 0x1FF01FF, 0x0, 0x0, 0x0, 0x0⟩,
   ⟨0x1C, 1, 0x0, 1, 0, 0x0, 0x0, 0x0, 0xF, 0xF, 0x0⟩,
   ⟨0x20, 1, 0x0, 1, 0, 0x0, 0x1FE00FF, 0x200FF00, 0x0, 0x0, 0x0⟩,
   ⟨0x24, 1, 0x0, 1, 0, 0x0, 0xFFFFFFFF, 0x0, 0x0, 0x0, 0x0⟩,
   ⟨0x28, 1, 0x0, 1, 0, 0x0, 0x0, 0x0, 0x3, 0x3, 0x0⟩]

/-- The registers of block POSE: POS_ECTL, POS_EADDR, POS_ECNT, POS_EZCNT, POS_ESTAT. -/
def regsPose : List RegDef :=
  [⟨0x0, 1, 0x0, 1, 0, 0x3FFFF, 0x0, 0x0, 0x0, 0x1, 0x0⟩,
   ⟨0x4, 1, 0x0, 1, 0, 0xFFFFF0, 0x0, 0x0, 0x0, 0x0, 0x0⟩,
   ⟨0x8, 1, 0x0, 1, 0, 0x0, 0xFFFFFFFF, 0x0, 0x0, 0x0, 0x0⟩,
   ⟨0xC, 1, 0x0, 1, 0, 0x0, 0xFFFFFFFF, 0x0, 0x0, 0x0, 0x0⟩,
   ⟨0x10, 1, 0x0, 1, 0, 0x0, 0x1, 0x1E, 0x0, 0x0, 0x0⟩]

/-- The registers of block POSH: POS_HCTL, POS_HADDR, POS_HSTAT. -/
def regsPosh : List RegDef :=
  [⟨0x0, 1, 0x0, 1, 0, 0x3FFF1, 0x0, 0x0, 0x0, 0x1, 0x0⟩,
   ⟨0x4, 1, 0x0, 1, 0, 0xFFFFF0, 0x0, 0x0, 0x0, 0x0, 0x0⟩,
   ⟨0x8, 1, 0x0, 1, 0, 0x0, 0x701, 0xE, 0x0, 0x0, 0x0⟩]

/-- The registers of block POSX: POS_XCTL, POS_XSTAT. -/
def regsPosx : List RegDef :=
  [⟨0x0, 1, 0x0, 1, 0, 0xFFF1, 0x0, 0x0, 0x0, 0x1, 0x0⟩,
   ⟨0x4, 1, 0x0, 1, 0, 0x0, 0x3, 0x4, 0x0, 0x0, 0x0⟩]

/-- The registers of block CPC: CPC_CTL, CPC_ADDR, CPC_STAT. -/
def regsCpc : List RegDef :=
  [⟨0x0, 1, 0x0, 1, 0, 0x3FFF1, 0x0, 0x0, 0x0, 0x1, 0x0⟩,
   ⟨0x4, 1, 0x0, 1, 0, 0xFFFFF0, 0x0, 0x0, 0x0, 0x0, 0x0⟩,
   ⟨0x8, 1, 0x0, 1, 0, 0x0, 0x11, 0xC, 0x0, 0x0, 0x0⟩]

/-- The registers of block INJ: INJ_CTL, INJ_AMP, INJ_PRBS, INJ_SWP0, INJ_SWP1, INJ_SWP2, INJ_STEP, INJ_CAP, INJ_STAT,
INJ_VAL. -/
def regsInj : List RegDef :=
  [⟨0x0, 1, 0x0, 1, 0, 0x3F3FF377, 0x0, 0x0, 0x0, 0x1, 0x0⟩,
   ⟨0x4, 1, 0x0, 1, 0, 0xFFFFFFFF, 0x0, 0x0, 0x0, 0x0, 0x0⟩,
   ⟨0x8, 1, 0x0, 1, 0, 0xFFFFFF03, 0x0, 0x0, 0x0, 0x0, 0x10000⟩,
   ⟨0xC, 1, 0x0, 1, 0, 0xFFFFFFFF, 0x0, 0x0, 0x0, 0x0, 0x0⟩,
   ⟨0x10, 1, 0x0, 1, 0, 0xFF01FFFF, 0x0, 0x0, 0x0, 0x0, 0x10000⟩,
   ⟨0x14, 1, 0x0, 1, 0, 0xFFFF, 0x0, 0x0, 0x0, 0x0, 0x804⟩,
   ⟨0x18, 1, 0x0, 1, 0, 0xFFFFFFFF, 0x0, 0x0, 0x0, 0x0, 0x0⟩,
   ⟨0x1C, 1, 0x0, 1, 0, 0xFF, 0x0, 0x0, 0x0, 0x0, 0x0⟩,
   ⟨0x20, 1, 0x0, 1, 0, 0x0, 0xFF03, 0x7C, 0x0, 0x0, 0x0⟩,
   ⟨0x24, 1, 0x0, 1, 0, 0x0, 0xFFFFFFFF, 0x0, 0x0, 0x0, 0x0⟩]

/-- The registers of block REL: REL_CTL, REL_TSRC, REL_TLVL, REL_DEC, REL_PRE, REL_POST, REL_HANK, REL_CMD, REL_STAT,
REL_TRGOFF, REL_LOST. -/
def regsRel : List RegDef :=
  [⟨0x0, 1, 0x0, 1, 0, 0x1FFF3F, 0x0, 0x0, 0x0, 0x1, 0x0⟩,
   ⟨0x4, 1, 0x0, 1, 0, 0xFF, 0x0, 0x0, 0x0, 0x0, 0x0⟩,
   ⟨0x8, 1, 0x0, 1, 0, 0xFFFFFFFF, 0x0, 0x0, 0x0, 0x0, 0x0⟩,
   ⟨0xC, 1, 0x0, 1, 0, 0xFFFF, 0x0, 0x0, 0x0, 0x0, 0x0⟩,
   ⟨0x10, 1, 0x0, 1, 0, 0xFFFFF, 0x0, 0x0, 0x0, 0x0, 0x0⟩,
   ⟨0x14, 1, 0x0, 1, 0, 0xFFFFF, 0x0, 0x0, 0x0, 0x0, 0x0⟩,
   ⟨0x18, 1, 0x0, 1, 0, 0xFF, 0x0, 0x0, 0x0, 0x0, 0x0⟩,
   ⟨0x1C, 1, 0x0, 1, 0, 0x0, 0x0, 0x0, 0x7, 0x7, 0x0⟩,
   ⟨0x20, 1, 0x0, 1, 0, 0x0, 0x7, 0x38, 0x0, 0x0, 0x0⟩,
   ⟨0x24, 1, 0x0, 1, 0, 0x0, 0x7FFFFF, 0x0, 0x0, 0x0, 0x0⟩,
   ⟨0x28, 1, 0x0, 1, 0, 0x0, 0xFFFF, 0x0, 0x0, 0x0, 0x0⟩]

/-- The registers of block DST: DST_SPNMAP, DST_CNVMAP, DST_BOBMAP, DST_SPARE, DST_FSAFE, DST_FDEG, DST_FRET,
DST_FREL, DST_FLT, DST_PINS, DST_POL, DST_BKICK, DST_MODE, DST_RSTC, DST_WAKE, DST_BOOT, DST_BENTRY. -/
def regsDst : List RegDef :=
  [⟨0x10, 4, 0x4, 1, 0, 0x0, 0x1F1F1F1F, 0x0, 0x0, 0x0, 0x0⟩,
   ⟨0x20, 4, 0x4, 1, 0, 0x0, 0x1F1F1F1F, 0x0, 0x0, 0x0, 0x0⟩,
   ⟨0x30, 1, 0x0, 1, 0, 0x0, 0x7F, 0x0, 0x0, 0x0, 0x4⟩,
   ⟨0x34, 1, 0x0, 1, 0, 0x0, 0x17F, 0x0, 0x0, 0x0, 0x6A⟩,
   ⟨0x40, 1, 0x0, 1, 0, 0x0, 0xFFFFFFFF, 0x0, 0x0, 0x0, 0x0⟩,
   ⟨0x44, 1, 0x0, 1, 0, 0x0, 0xFFFFFFFF, 0x0, 0x0, 0x0, 0x0⟩,
   ⟨0x48, 1, 0x0, 1, 0, 0x0, 0xFFFFFFFF, 0x0, 0x0, 0x0, 0x0⟩,
   ⟨0x4C, 1, 0x0, 1, 0, 0x0, 0x0, 0x0, 0xFFFFFFFF, 0xFFFFFFFF, 0x0⟩,
   ⟨0x50, 1, 0x0, 1, 0, 0x8, 0x3, 0x4, 0x0, 0x8, 0x0⟩,
   ⟨0x54, 1, 0x0, 1, 0, 0x0, 0x3, 0xC, 0x0, 0x0, 0x0⟩,
   ⟨0x58, 1, 0x0, 1, 0, 0x0, 0xFFFF0007, 0x0, 0x0, 0x0, 0x0⟩,
   ⟨0x5C, 1, 0x0, 1, 0, 0x0, 0x0, 0x0, 0xFFFF, 0xFFFF, 0x0⟩,
   ⟨0x0, 1, 0x0, 1, 0, 0x0, 0xFFF, 0x0, 0x0, 0x0, 0x1⟩,
   ⟨0x4, 1, 0x0, 1, 0, 0x0, 0x30F, 0x0, 0x0, 0x0, 0x0⟩,
   ⟨0x8, 1, 0x0, 1, 0, 0xFFFF0007, 0x0, 0x0, 0x0, 0x0, 0x2⟩,
   ⟨0xC, 1, 0x0, 1, 0, 0x0, 0xFF0F, 0x0, 0x0, 0x0, 0x0⟩,
   ⟨0x60, 1, 0x0, 1, 0, 0x0, 0xFFFFFC, 0x0, 0x0, 0x0, 0x0⟩]

/-- The registers of block SNL: SNL_STICKY, SNL_FIRST, SNL_RSTK, SNL_RFST, SNL_INJ, SNL_INJSTK, SNL_SEL, SNL_SCFG,
SNL_SCNT, SNL_NOTE, SNL_USR, SNL_STAT, SNL_CTL, SNL_MREQ. -/
def regsSnl : List RegDef :=
  [⟨0x0, 8, 0x4, 1, 0, 0x0, 0x0, 0xFFFFFFFF, 0x0, 0x0, 0x0⟩,
   ⟨0x20, 8, 0x4, 1, 0, 0x0, 0x0, 0xFFFFFFFF, 0x0, 0x0, 0x0⟩,
   ⟨0x40, 8, 0x4, 1, 0, 0x0, 0xFFFFFFFF, 0x0, 0x0, 0x0, 0x0⟩,
   ⟨0x60, 8, 0x4, 1, 0, 0x0, 0xFFFFFFFF, 0x0, 0x0, 0x0, 0x0⟩,
   ⟨0x80, 1, 0x0, 1, 0, 0xFFFF, 0x20000, 0x1C0000, 0x10000, 0x1FFFF, 0x0⟩,
   ⟨0xA0, 8, 0x4, 1, 0, 0x0, 0x0, 0xFFFFFFFF, 0x0, 0x0, 0x0⟩,
   ⟨0xC0, 1, 0x0, 1, 0, 0x7FFF, 0x0, 0x0, 0x0, 0x7FFF, 0x0⟩,
   ⟨0xC4, 1, 0x0, 1, 0, 0x0, 0x77FFF, 0x0, 0x0, 0x0, 0x1⟩,
   ⟨0xC8, 1, 0x0, 1, 0, 0x0, 0xFFFFFF1F, 0x0, 0x0, 0x0, 0x0⟩,
   ⟨0xCC, 1, 0x0, 1, 0, 0x0, 0x0, 0xF, 0x0, 0x0, 0x0⟩,
   ⟨0xD0, 1, 0x0, 1, 0, 0x0, 0x0, 0x0, 0xFFFFFFFF, 0xFFFFFFFF, 0x0⟩,
   ⟨0xD4, 1, 0x0, 1, 0, 0x0, 0x3, 0x0, 0x0, 0x0, 0x1⟩,
   ⟨0xD8, 1, 0x0, 1, 0, 0x0, 0x0, 0x0, 0x1, 0x1, 0x0⟩,
   ⟨0xDC, 1, 0x0, 1, 0, 0x0, 0x2FF00, 0x50000, 0xF, 0xF, 0x0⟩]

/-- The registers of block THM: THM_TJ, THM_STAT, THM_MAX, THM_ORD, THM_FSCL, THM_FSW, THM_CTL, THM_TRIM. -/
def regsThm : List RegDef :=
  [⟨0x0, 1, 0x0, 1, 0, 0x0, 0xFF01FFFF, 0x0, 0x0, 0x0, 0x0⟩,
   ⟨0x4, 1, 0x0, 1, 0, 0x0, 0x13F, 0xE00, 0x0, 0x0, 0x0⟩,
   ⟨0x8, 1, 0x0, 1, 0, 0x0, 0xFFFFFFFF, 0x0, 0x0, 0x0, 0x80007FFF⟩,
   ⟨0xC, 1, 0x0, 1, 0, 0xFF, 0x0, 0x0, 0x0, 0x0, 0x64⟩,
   ⟨0x10, 4, 0x4, 1, 0, 0xFFFFFFFF, 0x0, 0x0, 0x0, 0x0, 0xFFFFFFFF⟩,
   ⟨0x20, 1, 0x0, 1, 0, 0xFFFFFFFF, 0x0, 0x0, 0x0, 0x0, 0x0⟩,
   ⟨0x24, 1, 0x0, 1, 0, 0x0, 0x0, 0x0, 0x1, 0x1, 0x0⟩,
   ⟨0x28, 1, 0x0, 1, 0, 0x0, 0xFFF0FFF, 0x0, 0x0, 0x0, 0x0⟩]

/-- The registers of block GOV: GOV_STAT, GOV_CNT, GOV_TIME, GOV_CTL. -/
def regsGov : List RegDef :=
  [⟨0x0, 1, 0x0, 1, 0, 0x0, 0xF, 0x300, 0x0, 0x0, 0x0⟩,
   ⟨0x4, 1, 0x0, 1, 0, 0x0, 0xFFFFFFFF, 0x0, 0x0, 0x0, 0x0⟩,
   ⟨0x8, 1, 0x0, 1, 0, 0x0, 0xFFFFFFFF, 0x0, 0x0, 0x0, 0x0⟩,
   ⟨0xC, 1, 0x0, 1, 0, 0x6, 0x0, 0x0, 0x1, 0x1, 0x0⟩]

/-- The registers of block NVM: NVM_CMD, NVM_SRC, NVM_DST, NVM_LEN, NVM_STAT, NVM_PROG, NVM_JRNL, NVM_SLOT, NVM_SEQA,
NVM_SEQB, NVM_CECNT. -/
def regsNvm : List RegDef :=
  [⟨0x0, 1, 0x0, 1, 0, 0x0, 0x0, 0x0, 0xFF00000F, 0xFF00000F, 0x0⟩,
   ⟨0x4, 1, 0x0, 1, 0, 0xFFFFE0, 0x0, 0x0, 0x0, 0xFFFFE0, 0x0⟩,
   ⟨0x8, 1, 0x0, 1, 0, 0x7FFFE0, 0x0, 0x0, 0x0, 0x7FFFE0, 0x0⟩,
   ⟨0xC, 1, 0x0, 1, 0, 0xFFFF07FF, 0x0, 0x0, 0x0, 0xFFFF07FF, 0x0⟩,
   ⟨0x10, 1, 0x0, 1, 0, 0x0, 0xFF03, 0x1C, 0x0, 0x0, 0x0⟩,
   ⟨0x14, 1, 0x0, 1, 0, 0x0, 0x7FF, 0x0, 0x0, 0x0, 0x0⟩,
   ⟨0x18, 1, 0x0, 1, 0, 0x0, 0xFFFFFFFF, 0x0, 0x0, 0x0, 0x0⟩,
   ⟨0x1C, 1, 0x0, 1, 0, 0x0, 0x3, 0x0, 0x0, 0x0, 0x0⟩,
   ⟨0x20, 1, 0x0, 1, 0, 0x0, 0xFFFFFFFF, 0x0, 0x0, 0x0, 0xFFFFFFFF⟩,
   ⟨0x24, 1, 0x0, 1, 0, 0x0, 0xFFFFFFFF, 0x0, 0x0, 0x0, 0xFFFFFFFF⟩,
   ⟨0x28, 1, 0x0, 1, 0, 0x0, 0xFFFF, 0x0, 0x0, 0x0, 0x0⟩]

/-- The registers of block IDN: IDN_PART, IDN_STEP, IDN_SER0, IDN_SER1, IDN_FUSE, IDN_PKH, IDN_DSEL, IDN_DLOT0,
IDN_DLOT1, IDN_DPOS, IDN_DDATE. -/
def regsIdn : List RegDef :=
  [⟨0x0, 1, 0x0, 1, 0, 0x0, 0xFFFFFFFF, 0x0, 0x0, 0x0, 0x4B4C6480⟩,
   ⟨0x4, 1, 0x0, 1, 0, 0x0, 0xFFFF, 0x0, 0x0, 0x0, 0x4201⟩,
   ⟨0x8, 1, 0x0, 1, 0, 0x0, 0xFFFFFFFF, 0x0, 0x0, 0x0, 0x0⟩,
   ⟨0xC, 1, 0x0, 1, 0, 0x0, 0xFFFFFFFF, 0x0, 0x0, 0x0, 0x0⟩,
   ⟨0x10, 1, 0x0, 1, 0, 0x0, 0xFFC1, 0x0, 0x0, 0x0, 0x0⟩,
   ⟨0x20, 8, 0x4, 1, 0, 0x0, 0xFFFFFFFF, 0x0, 0x0, 0x0, 0x0⟩,
   ⟨0x40, 1, 0x0, 1, 0, 0x3F, 0x0, 0x0, 0x0, 0x3F, 0x0⟩,
   ⟨0x44, 1, 0x0, 1, 0, 0x0, 0xFFFFFFFF, 0x0, 0x0, 0x0, 0x0⟩,
   ⟨0x48, 1, 0x0, 1, 0, 0x0, 0xFFFFFFFF, 0x0, 0x0, 0x0, 0x0⟩,
   ⟨0x4C, 1, 0x0, 1, 0, 0x0, 0xFFFFFFFF, 0x0, 0x0, 0x0, 0x0⟩,
   ⟨0x50, 1, 0x0, 1, 0, 0x0, 0xFFFF, 0x0, 0x0, 0x0, 0x0⟩]

/-- The registers of block GPIO: GPIO_DIR, GPIO_OUT, GPIO_SET, GPIO_CLR, GPIO_IN, GPIO_ODEN, GPIO_PUEN, GPIO_PDEN,
GPIO_MSEL, GPIO_SAFE, GPIO_MADDR, GPIO_STAT. -/
def regsGpio : List RegDef :=
  [⟨0x0, 1, 0x0, 1, 0, 0xFFFFFFFF, 0x0, 0x0, 0x0, 0x0, 0x0⟩,
   ⟨0x4, 1, 0x0, 1, 0, 0xFFFFFFFF, 0x0, 0x0, 0x0, 0xFFFFFFFF, 0x0⟩,
   ⟨0x8, 1, 0x0, 1, 0, 0x0, 0x0, 0x0, 0xFFFFFFFF, 0xFFFFFFFF, 0x0⟩,
   ⟨0xC, 1, 0x0, 1, 0, 0x0, 0x0, 0x0, 0xFFFFFFFF, 0xFFFFFFFF, 0x0⟩,
   ⟨0x10, 1, 0x0, 1, 0, 0x0, 0xFFFFFFFF, 0x0, 0x0, 0x0, 0x0⟩,
   ⟨0x14, 1, 0x0, 1, 0, 0xFFFFFFFF, 0x0, 0x0, 0x0, 0x0, 0x0⟩,
   ⟨0x18, 1, 0x0, 1, 0, 0xFFFFFFFF, 0x0, 0x0, 0x0, 0x0, 0x0⟩,
   ⟨0x1C, 1, 0x0, 1, 0, 0xFFFFFFFF, 0x0, 0x0, 0x0, 0x0, 0x0⟩,
   ⟨0x20, 1, 0x0, 1, 0, 0xFFFFFFFF, 0x0, 0x0, 0x0, 0x0, 0x0⟩,
   ⟨0x24, 1, 0x0, 1, 0, 0xFFFFFFFF, 0x0, 0x0, 0x0, 0x0, 0x0⟩,
   ⟨0x28, 1, 0x0, 1, 0, 0xFFFF80, 0x0, 0x0, 0x0, 0x0, 0x0⟩,
   ⟨0x2C, 1, 0x0, 1, 0, 0x0, 0x0, 0x1, 0x0, 0x0, 0x0⟩]

/-- The common link registers: LNK_CTL, LNK_TXQ, LNK_TXKICK, LNK_STAT, LNK_INTEN, LNK_RXCNT, LNK_TXCNT, LNK_DROPS. -/
def regsLnk : List RegDef :=
  [⟨0x0, 1, 0x0, 1, 0, 0xFF05, 0x0, 0x0, 0x2, 0x7, 0x0⟩,
   ⟨0x4, 1, 0x0, 1, 0, 0xF0FFFFF0, 0x0, 0x0, 0x0, 0x0, 0x0⟩,
   ⟨0x8, 1, 0x0, 1, 0, 0x0, 0x0, 0x0, 0x1, 0x1, 0x0⟩,
   ⟨0xC, 1, 0x0, 1, 0, 0x0, 0xFF81, 0x7E, 0x0, 0x0, 0x0⟩,
   ⟨0x10, 1, 0x0, 1, 0, 0x3E, 0x0, 0x0, 0x0, 0x3E, 0x0⟩,
   ⟨0x14, 1, 0x0, 1, 0, 0x0, 0xFFFFFFFF, 0x0, 0x0, 0x0, 0x0⟩,
   ⟨0x18, 1, 0x0, 1, 0, 0x0, 0xFFFFFFFF, 0x0, 0x0, 0x0, 0x0⟩,
   ⟨0x1C, 1, 0x0, 1, 0, 0x0, 0xFFFFFFFF, 0x0, 0x0, 0x0, 0x0⟩]

/-- Per-link registers of 17_links.md: ETH_CFG, ETH_MAC0, ETH_MAC1, ETH_SVCIP. -/
def regsEthOwn : List RegDef :=
  [⟨0x40, 1, 0x0, 1, 0, 0xFF, 0x0, 0x0, 0x0, 0x0, 0x22⟩,
   ⟨0x44, 1, 0x0, 1, 0, 0xFFFFFFFF, 0x0, 0x0, 0x0, 0x0, 0x0⟩,
   ⟨0x48, 1, 0x0, 1, 0, 0xFFFF, 0x0, 0x0, 0x0, 0x0, 0x0⟩,
   ⟨0x4C, 1, 0x0, 1, 0, 0xFFFFFFFF, 0x0, 0x0, 0x0, 0x0, 0x0⟩]

/-- Per-link registers of 17_links.md: ETH_TADJ, ETH_TSET, ETH_TSEC, ETH_TNS, ETH_TCAP, ETH_TCAPS, ETH_TCAPN. -/
def regsEth0Own : List RegDef :=
  [⟨0x100, 1, 0x0, 1, 0, 0xFFFFFFFF, 0x0, 0x0, 0x0, 0xFFFFFFFF, 0x8555555⟩,
   ⟨0x104, 1, 0x0, 1, 0, 0x0, 0x0, 0x0, 0xFFFFFFFF, 0xFFFFFFFF, 0x0⟩,
   ⟨0x108, 1, 0x0, 1, 0, 0x0, 0xFFFFFFFF, 0x0, 0x0, 0x0, 0x0⟩,
   ⟨0x10C, 1, 0x0, 1, 0, 0x0, 0xFFFFFFFF, 0x0, 0x0, 0x0, 0x0⟩,
   ⟨0x110, 1, 0x0, 1, 0, 0x3F1, 0x0, 0x0, 0x0, 0x0, 0x0⟩,
   ⟨0x114, 1, 0x0, 1, 0, 0x0, 0xFFFFFFFF, 0x0, 0x0, 0x0, 0x0⟩,
   ⟨0x118, 1, 0x0, 1, 0, 0x0, 0xFFFFFFFF, 0x0, 0x0, 0x0, 0x0⟩]

/-- Per-link registers of 17_links.md: CAN_BTN, CAN_BTD, CAN_CFG, CAN_FLT, CAN_MSK. -/
def regsCanOwn : List RegDef :=
  [⟨0x40, 1, 0x0, 1, 0, 0xFFFF0FFF, 0x0, 0x0, 0x0, 0x0, 0x0⟩,
   ⟨0x44, 1, 0x0, 1, 0, 0xFFFF0FFF, 0x0, 0x0, 0x0, 0x0, 0x0⟩,
   ⟨0x48, 1, 0x0, 1, 0, 0xF, 0x0, 0x0, 0x0, 0x0, 0x0⟩,
   ⟨0x80, 16, 0x4, 1, 0, 0xDFFFFFFF, 0x0, 0x0, 0x0, 0x0, 0x0⟩,
   ⟨0xC0, 16, 0x4, 1, 0, 0x1FFFFFFF, 0x0, 0x0, 0x0, 0x0, 0x0⟩]

/-- Per-link registers of 17_links.md: HSPI_RIGHTS. -/
def regsHspiOwn : List RegDef :=
  [⟨0x40, 1, 0x0, 1, 0, 0x7, 0x0, 0x0, 0x0, 0x0, 0x0⟩]

/-- Per-link registers of 17_links.md: SPI_CFG. -/
def regsSpiOwn : List RegDef :=
  [⟨0x40, 1, 0x0, 1, 0, 0xFF01F3, 0x0, 0x0, 0x0, 0x0, 0x10070⟩]

/-- Per-link registers of 17_links.md: UART_CFG. -/
def regsUartOwn : List RegDef :=
  [⟨0x40, 1, 0x0, 1, 0, 0xFF7FFFF, 0x0, 0x0, 0x0, 0x0, 0x0⟩]

/-- Per-link registers of 17_links.md: SENT_CFG. -/
def regsSentOwn : List RegDef :=
  [⟨0x40, 1, 0x0, 1, 0, 0x7F3FF, 0x0, 0x0, 0x0, 0x0, 0x0⟩]

/-- The registers of the block of link L (R520). -/
def regsOfLink (l : Nat) : List RegDef :=
  regsLnk ++
    (if l = 0 then regsEthOwn ++ regsEth0Own else if l = 1 then regsEthOwn
     else if l < 6 then regsCanOwn else if l = 6 then [] else if l = 7 then regsHspiOwn
     else if l < 12 then regsSpiOwn else if l < 14 then regsUartOwn else regsSentOwn)

/-- One block of R26: its first address, the bytes an instance spans, its instances and their stride. -/
structure BlockDef where
  id : BlockId
  base : Nat
  size : Nat
  count : Nat
  stride : Nat
  deriving DecidableEq, Repr

/-- The blocks of R26. The position block's units are listed one by one, and last the block itself, whose other
offsets hold no register. -/
def blocks : List BlockDef :=
  [⟨.clk, 0x35000000, 0x1000, 1, 0x1000⟩,
   ⟨.skn, 0x37000000, 0x1000, 1, 0x1000⟩,
   ⟨.cnv, 0x32000000, 0x400, 18, 0x400⟩,
   ⟨.sdm, 0x32008000, 0x100, 32, 0x100⟩,
   ⟨.sdmc, 0x3200A000, 0x1000, 1, 0x1000⟩,
   ⟨.hkp, 0x3200C000, 0x1000, 1, 0x1000⟩,
   ⟨.spn, 0x20000000, 0x10000, 18, 0x10000⟩,
   ⟨.tb, 0x30004000, 0x100, 16, 0x100⟩,
   ⟨.whl, 0x30000000, 0x100, 64, 0x100⟩,
   ⟨.whlg, 0x30005000, 0x1000, 1, 0x1000⟩,
   ⟨.hvp, 0x31000000, 0x100, 32, 0x100⟩,
   ⟨.lvp, 0x31002000, 0x100, 32, 0x100⟩,
   ⟨.pose, 0x3200E000, 0x40, 4, 0x40⟩,
   ⟨.posh, 0x3200E200, 0x20, 10, 0x20⟩,
   ⟨.posx, 0x3200E400, 0x20, 2, 0x20⟩,
   ⟨.cpc, 0x3200E600, 0x1000, 1, 0x1000⟩,
   ⟨.inj, 0x33000000, 0x1000, 1, 0x1000⟩,
   ⟨.rel, 0x33001000, 0x100, 8, 0x100⟩,
   ⟨.dst, 0x3F000000, 0x1000, 1, 0x1000⟩,
   ⟨.snl, 0x3F001000, 0x1000, 1, 0x1000⟩,
   ⟨.thm, 0x35002000, 0x1000, 1, 0x1000⟩,
   ⟨.gov, 0x35001000, 0x1000, 1, 0x1000⟩,
   ⟨.nvm, 0x36000000, 0x1000, 1, 0x1000⟩,
   ⟨.idn, 0x36001000, 0x1000, 1, 0x1000⟩,
   ⟨.lnk, 0x34000000, 0x1000, 18, 0x1000⟩,
   ⟨.gpio, 0x34020000, 0x1000, 1, 0x1000⟩,
   ⟨.pos, 0x3200E000, 0x1000, 1, 0x1000⟩]

/-- The registers of one instance of a block. -/
def blockRegs (b : BlockId) (i : Nat) : List RegDef :=
  match b with
  | .clk => regsClk
  | .pos => []
  | .skn => regsSkn
  | .cnv => regsCnv
  | .sdm => regsSdm
  | .sdmc => regsSdmc
  | .hkp => regsHkp
  | .spn => regsSpn
  | .tb => regsTb
  | .whl => regsWhl
  | .whlg => regsWhlg
  | .hvp => regsHvp
  | .lvp => regsLvp
  | .pose => regsPose
  | .posh => regsPosh
  | .posx => regsPosx
  | .cpc => regsCpc
  | .inj => regsInj
  | .rel => regsRel
  | .dst => regsDst
  | .snl => regsSnl
  | .thm => regsThm
  | .gov => regsGov
  | .nvm => regsNvm
  | .idn => regsIdn
  | .lnk => regsOfLink i
  | .gpio => regsGpio

namespace Reg

/-- Address of CLK_STAT. -/
def CLK_STAT : Nat := 0x35000000
/-- Address of CLK_LOCKT. -/
def CLK_LOCKT : Nat := 0x35000004
/-- Address of SKN_MAP. -/
def SKN_MAP (i : Nat) : Nat := 0x37000000 + 0x4 * i
/-- Address of SKN_SPARE. -/
def SKN_SPARE : Nat := 0x37000010
/-- Address of SKN_RBPROG. -/
def SKN_RBPROG : Nat := 0x37000014
/-- Address of SKN_RETIRED. -/
def SKN_RETIRED : Nat := 0x37000018
/-- Address of SKN_CECNT. -/
def SKN_CECNT : Nat := 0x37000020
/-- Address of SKN_UEADDR. -/
def SKN_UEADDR : Nat := 0x37000024
/-- Address of SKN_STAT. -/
def SKN_STAT : Nat := 0x37000028
/-- Address of SKN_HANGREQ. -/
def SKN_HANGREQ : Nat := 0x3700002C
/-- Address of SKN_CUT. -/
def SKN_CUT (i : Nat) : Nat := 0x37000030 + 0x4 * i
/-- Address of SKN_LBADDR. -/
def SKN_LBADDR : Nat := 0x37000044
/-- Address of SKN_SCRUB. -/
def SKN_SCRUB : Nat := 0x37000048
/-- Address of SKN_CTL. -/
def SKN_CTL : Nat := 0x3700004C
/-- Address of SKN_HSEL. -/
def SKN_HSEL : Nat := 0x37000080
/-- Address of SKN_HBASE. -/
def SKN_HBASE : Nat := 0x37000084
/-- Address of SKN_HCFG. -/
def SKN_HCFG : Nat := 0x37000088
/-- Address of SKN_HWR. -/
def SKN_HWR : Nat := 0x3700008C
/-- Address of SKN_HRD. -/
def SKN_HRD : Nat := 0x37000090
/-- Address of SKN_HFILL. -/
def SKN_HFILL : Nat := 0x37000094
/-- Address of SKN_HDROP. -/
def SKN_HDROP : Nat := 0x37000098
/-- Address of CNV_CTL. -/
def CNV_CTL (u : Nat) : Nat := 0x32000000 + 0x400 * u
/-- Address of CNV_SCAN. -/
def CNV_SCAN (u : Nat) : Nat := 0x32000004 + 0x400 * u
/-- Address of CNV_FE. -/
def CNV_FE (u : Nat) : Nat := 0x32000008 + 0x400 * u
/-- Address of CNV_DIAG. -/
def CNV_DIAG (u : Nat) : Nat := 0x3200000C + 0x400 * u
/-- Address of CNV_HANK. -/
def CNV_HANK (u : Nat) : Nat := 0x32000010 + 0x400 * u
/-- Address of CNV_SWTRIG. -/
def CNV_SWTRIG (u : Nat) : Nat := 0x32000014 + 0x400 * u
/-- Address of CNV_WC0CFG. -/
def CNV_WC0CFG (u : Nat) : Nat := 0x32000020 + 0x400 * u
/-- Address of CNV_WC1CFG. -/
def CNV_WC1CFG (u : Nat) : Nat := 0x32000028 + 0x400 * u
/-- Address of CNV_WC0LIM. -/
def CNV_WC0LIM (u : Nat) : Nat := 0x32000024 + 0x400 * u
/-- Address of CNV_WC1LIM. -/
def CNV_WC1LIM (u : Nat) : Nat := 0x3200002C + 0x400 * u
/-- Address of CNV_STAT. -/
def CNV_STAT (u : Nat) : Nat := 0x32000040 + 0x400 * u
/-- Address of CNV_SEQ. -/
def CNV_SEQ (u : Nat) : Nat := 0x32000044 + 0x400 * u
/-- Address of CNV_LAST. -/
def CNV_LAST (u : Nat) : Nat := 0x32000048 + 0x400 * u
/-- Address of CNV_TLCNT. -/
def CNV_TLCNT (u : Nat) : Nat := 0x3200004C + 0x400 * u
/-- Address of CNV_XBAR. -/
def CNV_XBAR (u : Nat) : Nat := 0x32000050 + 0x400 * u
/-- Address of SDM_CTL. -/
def SDM_CTL (u : Nat) : Nat := 0x32008000 + 0x100 * u
/-- Address of SDM_FAST. -/
def SDM_FAST (u : Nat) : Nat := 0x32008004 + 0x100 * u
/-- Address of SDM_FLIM. -/
def SDM_FLIM (u : Nat) : Nat := 0x32008008 + 0x100 * u
/-- Address of SDM_HANK. -/
def SDM_HANK (u : Nat) : Nat := 0x3200800C + 0x100 * u
/-- Address of SDM_STAT. -/
def SDM_STAT (u : Nat) : Nat := 0x32008010 + 0x100 * u
/-- Address of SDM_LAST. -/
def SDM_LAST (u : Nat) : Nat := 0x32008014 + 0x100 * u
/-- Address of SDM_CLKEN. -/
def SDM_CLKEN : Nat := 0x3200A000
/-- Address of HKP_CTL. -/
def HKP_CTL : Nat := 0x3200C000
/-- Address of HKP_STAT. -/
def HKP_STAT : Nat := 0x3200C004
/-- Address of HKP_TDAC. -/
def HKP_TDAC : Nat := 0x3200C008
/-- Address of HKP_RES. -/
def HKP_RES (i : Nat) : Nat := 0x3200C100 + 0x4 * i
/-- Address of HKP_LIM. -/
def HKP_LIM (i : Nat) : Nat := 0x3200C200 + 0x4 * i
/-- Address of SPN_CTL. -/
def SPN_CTL (u : Nat) : Nat := 0x20000000 + 0x10000 * u
/-- Address of SPN_STAT. -/
def SPN_STAT (u : Nat) : Nat := 0x20000004 + 0x10000 * u
/-- Address of SPN_PROG. -/
def SPN_PROG (u : Nat) : Nat := 0x20000008 + 0x10000 * u
/-- Address of SPN_HOT. -/
def SPN_HOT (u : Nat) : Nat := 0x2000000C + 0x10000 * u
/-- Address of SPN_FLAGS. -/
def SPN_FLAGS (u : Nat) : Nat := 0x20000010 + 0x10000 * u
/-- Address of SPN_LSMCNT. -/
def SPN_LSMCNT (u : Nat) : Nat := 0x20000014 + 0x10000 * u
/-- Address of SPN_TRAPC. -/
def SPN_TRAPC (u : Nat) : Nat := 0x20000020 + 0x10000 * u
/-- Address of SPN_TRAPPC. -/
def SPN_TRAPPC (u : Nat) : Nat := 0x20000024 + 0x10000 * u
/-- Address of SPN_TRAPEA. -/
def SPN_TRAPEA (u : Nat) : Nat := 0x20000028 + 0x10000 * u
/-- Address of SPN_MBOUT. -/
def SPN_MBOUT (u i : Nat) : Nat := 0x20000040 + 0x10000 * u + 0x4 * i
/-- Address of SPN_MBIN. -/
def SPN_MBIN (u i : Nat) : Nat := 0x20000050 + 0x10000 * u + 0x4 * i
/-- Address of SPN_MBSTAT. -/
def SPN_MBSTAT (u : Nat) : Nat := 0x20000060 + 0x10000 * u
/-- Address of SPN_LTRIG. -/
def SPN_LTRIG (u i : Nat) : Nat := 0x20000100 + 0x10000 * u + 0x20 * i
/-- Address of SPN_LSLOT. -/
def SPN_LSLOT (u i : Nat) : Nat := 0x20000104 + 0x10000 * u + 0x20 * i
/-- Address of SPN_LDEAD. -/
def SPN_LDEAD (u i : Nat) : Nat := 0x20000108 + 0x10000 * u + 0x20 * i
/-- Address of SPN_LENT0. -/
def SPN_LENT0 (u i : Nat) : Nat := 0x2000010C + 0x10000 * u + 0x20 * i
/-- Address of SPN_LENT1. -/
def SPN_LENT1 (u i : Nat) : Nat := 0x20000110 + 0x10000 * u + 0x20 * i
/-- Address of SPN_LHANK. -/
def SPN_LHANK (u i : Nat) : Nat := 0x20000114 + 0x10000 * u + 0x20 * i
/-- Address of SPN_LSTAT. -/
def SPN_LSTAT (u i : Nat) : Nat := 0x20000118 + 0x10000 * u + 0x20 * i
/-- Address of SPN_LCNT. -/
def SPN_LCNT (u i : Nat) : Nat := 0x2000011C + 0x10000 * u + 0x20 * i
/-- Address of SPN_LWHL. -/
def SPN_LWHL (u i j : Nat) : Nat := 0x20000180 + 0x10000 * u + 0x10 * i + 4 * j
/-- Address of SPN_SDEF. -/
def SPN_SDEF (u i : Nat) : Nat := 0x20000200 + 0x10000 * u + 0x40 * i
/-- Address of SPN_SSRC. -/
def SPN_SSRC (u i j : Nat) : Nat := 0x20000204 + 0x10000 * u + 0x40 * i + 4 * j
/-- Address of TB_CTL. -/
def TB_CTL (u : Nat) : Nat := 0x30004000 + 0x100 * u
/-- Address of TB_PER. -/
def TB_PER (u : Nat) : Nat := 0x30004004 + 0x100 * u
/-- Address of TB_TRGA. -/
def TB_TRGA (u : Nat) : Nat := 0x30004008 + 0x100 * u
/-- Address of TB_TRGB. -/
def TB_TRGB (u : Nat) : Nat := 0x3000400C + 0x100 * u
/-- Address of TB_PHASE. -/
def TB_PHASE (u : Nat) : Nat := 0x30004010 + 0x100 * u
/-- Address of TB_CNT. -/
def TB_CNT (u : Nat) : Nat := 0x30004014 + 0x100 * u
/-- Address of TB_STAT. -/
def TB_STAT (u : Nat) : Nat := 0x30004018 + 0x100 * u
/-- Address of WHL_CTL. -/
def WHL_CTL (u : Nat) : Nat := 0x30000000 + 0x100 * u
/-- Address of WHL_SLOT. -/
def WHL_SLOT (u : Nat) : Nat := 0x30000004 + 0x100 * u
/-- Address of WHL_TRIP. -/
def WHL_TRIP (u : Nat) : Nat := 0x30000008 + 0x100 * u
/-- Address of WHL_TSEL. -/
def WHL_TSEL (u i : Nat) : Nat := 0x3000000C + 0x100 * u + 0x4 * i
/-- Address of WHL_FRC. -/
def WHL_FRC (u : Nat) : Nat := 0x30000018 + 0x100 * u
/-- Address of WHL_TCLR. -/
def WHL_TCLR (u : Nat) : Nat := 0x3000001C + 0x100 * u
/-- Address of WHL_STAT. -/
def WHL_STAT (u : Nat) : Nat := 0x30000020 + 0x100 * u
/-- Address of WHL_OUT. -/
def WHL_OUT (u : Nat) : Nat := 0x30000024 + 0x100 * u
/-- Address of WHL_ACT. -/
def WHL_ACT (u i : Nat) : Nat := 0x30000030 + 0x100 * u + 0x4 * i
/-- Address of WHL_GSTART. -/
def WHL_GSTART : Nat := 0x30005000
/-- Address of WHL_PINCFG. -/
def WHL_PINCFG : Nat := 0x30005004
/-- Address of WHL_LINES. -/
def WHL_LINES (i : Nat) : Nat := 0x30005008 + 0x4 * i
/-- Address of WHL_BUS. -/
def WHL_BUS (i : Nat) : Nat := 0x30005020 + 0x4 * i
/-- Address of WHL_BUSST. -/
def WHL_BUSST : Nat := 0x30005030
/-- Address of HVP_CFG. -/
def HVP_CFG (u : Nat) : Nat := 0x31000000 + 0x100 * u
/-- Address of HVP_DESAT. -/
def HVP_DESAT (u : Nat) : Nat := 0x31000004 + 0x100 * u
/-- Address of HVP_STO. -/
def HVP_STO (u : Nat) : Nat := 0x31000008 + 0x100 * u
/-- Address of HVP_ADPCTL. -/
def HVP_ADPCTL (u : Nat) : Nat := 0x3100000C + 0x100 * u
/-- Address of HVP_ADPTGT. -/
def HVP_ADPTGT (u : Nat) : Nat := 0x31000010 + 0x100 * u
/-- Address of HVP_CAL. -/
def HVP_CAL (u : Nat) : Nat := 0x31000014 + 0x100 * u
/-- Address of HVP_MEASH. -/
def HVP_MEASH (u : Nat) : Nat := 0x31000018 + 0x100 * u
/-- Address of HVP_MEASL. -/
def HVP_MEASL (u : Nat) : Nat := 0x3100001C + 0x100 * u
/-- Address of HVP_TEST. -/
def HVP_TEST (u : Nat) : Nat := 0x31000020 + 0x100 * u
/-- Address of HVP_STAT. -/
def HVP_STAT (u : Nat) : Nat := 0x31000024 + 0x100 * u
/-- Address of HVP_CNT. -/
def HVP_CNT (u : Nat) : Nat := 0x31000028 + 0x100 * u
/-- Address of HVP_REARM. -/
def HVP_REARM (u : Nat) : Nat := 0x3100002C + 0x100 * u
/-- Address of LVP_CFG. -/
def LVP_CFG (u : Nat) : Nat := 0x31002000 + 0x100 * u
/-- Address of LVP_VDS. -/
def LVP_VDS (u : Nat) : Nat := 0x31002004 + 0x100 * u
/-- Address of LVP_ADPCTL. -/
def LVP_ADPCTL (u : Nat) : Nat := 0x31002008 + 0x100 * u
/-- Address of LVP_ADPTGT. -/
def LVP_ADPTGT (u : Nat) : Nat := 0x3100200C + 0x100 * u
/-- Address of LVP_CAL. -/
def LVP_CAL (u : Nat) : Nat := 0x31002010 + 0x100 * u
/-- Address of LVP_MEASH. -/
def LVP_MEASH (u : Nat) : Nat := 0x31002014 + 0x100 * u
/-- Address of LVP_MEASL. -/
def LVP_MEASL (u : Nat) : Nat := 0x31002018 + 0x100 * u
/-- Address of LVP_TEST. -/
def LVP_TEST (u : Nat) : Nat := 0x3100201C + 0x100 * u
/-- Address of LVP_STAT. -/
def LVP_STAT (u : Nat) : Nat := 0x31002020 + 0x100 * u
/-- Address of LVP_CNT. -/
def LVP_CNT (u : Nat) : Nat := 0x31002024 + 0x100 * u
/-- Address of LVP_REARM. -/
def LVP_REARM (u : Nat) : Nat := 0x31002028 + 0x100 * u
/-- Address of POS_ECTL. -/
def POS_ECTL (u : Nat) : Nat := 0x3200E000 + 0x40 * u
/-- Address of POS_EADDR. -/
def POS_EADDR (u : Nat) : Nat := 0x3200E004 + 0x40 * u
/-- Address of POS_ECNT. -/
def POS_ECNT (u : Nat) : Nat := 0x3200E008 + 0x40 * u
/-- Address of POS_EZCNT. -/
def POS_EZCNT (u : Nat) : Nat := 0x3200E00C + 0x40 * u
/-- Address of POS_ESTAT. -/
def POS_ESTAT (u : Nat) : Nat := 0x3200E010 + 0x40 * u
/-- Address of POS_HCTL. -/
def POS_HCTL (u : Nat) : Nat := 0x3200E200 + 0x20 * u
/-- Address of POS_HADDR. -/
def POS_HADDR (u : Nat) : Nat := 0x3200E204 + 0x20 * u
/-- Address of POS_HSTAT. -/
def POS_HSTAT (u : Nat) : Nat := 0x3200E208 + 0x20 * u
/-- Address of POS_XCTL. -/
def POS_XCTL (u : Nat) : Nat := 0x3200E400 + 0x20 * u
/-- Address of POS_XSTAT. -/
def POS_XSTAT (u : Nat) : Nat := 0x3200E404 + 0x20 * u
/-- Address of CPC_CTL. -/
def CPC_CTL : Nat := 0x3200E600
/-- Address of CPC_ADDR. -/
def CPC_ADDR : Nat := 0x3200E604
/-- Address of CPC_STAT. -/
def CPC_STAT : Nat := 0x3200E608
/-- Address of INJ_CTL. -/
def INJ_CTL : Nat := 0x33000000
/-- Address of INJ_AMP. -/
def INJ_AMP : Nat := 0x33000004
/-- Address of INJ_PRBS. -/
def INJ_PRBS : Nat := 0x33000008
/-- Address of INJ_SWP0. -/
def INJ_SWP0 : Nat := 0x3300000C
/-- Address of INJ_SWP1. -/
def INJ_SWP1 : Nat := 0x33000010
/-- Address of INJ_SWP2. -/
def INJ_SWP2 : Nat := 0x33000014
/-- Address of INJ_STEP. -/
def INJ_STEP : Nat := 0x33000018
/-- Address of INJ_CAP. -/
def INJ_CAP : Nat := 0x3300001C
/-- Address of INJ_STAT. -/
def INJ_STAT : Nat := 0x33000020
/-- Address of INJ_VAL. -/
def INJ_VAL : Nat := 0x33000024
/-- Address of REL_CTL. -/
def REL_CTL (u : Nat) : Nat := 0x33001000 + 0x100 * u
/-- Address of REL_TSRC. -/
def REL_TSRC (u : Nat) : Nat := 0x33001004 + 0x100 * u
/-- Address of REL_TLVL. -/
def REL_TLVL (u : Nat) : Nat := 0x33001008 + 0x100 * u
/-- Address of REL_DEC. -/
def REL_DEC (u : Nat) : Nat := 0x3300100C + 0x100 * u
/-- Address of REL_PRE. -/
def REL_PRE (u : Nat) : Nat := 0x33001010 + 0x100 * u
/-- Address of REL_POST. -/
def REL_POST (u : Nat) : Nat := 0x33001014 + 0x100 * u
/-- Address of REL_HANK. -/
def REL_HANK (u : Nat) : Nat := 0x33001018 + 0x100 * u
/-- Address of REL_CMD. -/
def REL_CMD (u : Nat) : Nat := 0x3300101C + 0x100 * u
/-- Address of REL_STAT. -/
def REL_STAT (u : Nat) : Nat := 0x33001020 + 0x100 * u
/-- Address of REL_TRGOFF. -/
def REL_TRGOFF (u : Nat) : Nat := 0x33001024 + 0x100 * u
/-- Address of REL_LOST. -/
def REL_LOST (u : Nat) : Nat := 0x33001028 + 0x100 * u
/-- Address of DST_SPNMAP. -/
def DST_SPNMAP (i : Nat) : Nat := 0x3F000010 + 0x4 * i
/-- Address of DST_CNVMAP. -/
def DST_CNVMAP (i : Nat) : Nat := 0x3F000020 + 0x4 * i
/-- Address of DST_BOBMAP. -/
def DST_BOBMAP : Nat := 0x3F000030
/-- Address of DST_SPARE. -/
def DST_SPARE : Nat := 0x3F000034
/-- Address of DST_FSAFE. -/
def DST_FSAFE : Nat := 0x3F000040
/-- Address of DST_FDEG. -/
def DST_FDEG : Nat := 0x3F000044
/-- Address of DST_FRET. -/
def DST_FRET : Nat := 0x3F000048
/-- Address of DST_FREL. -/
def DST_FREL : Nat := 0x3F00004C
/-- Address of DST_FLT. -/
def DST_FLT : Nat := 0x3F000050
/-- Address of DST_PINS. -/
def DST_PINS : Nat := 0x3F000054
/-- Address of DST_POL. -/
def DST_POL : Nat := 0x3F000058
/-- Address of DST_BKICK. -/
def DST_BKICK : Nat := 0x3F00005C
/-- Address of SNL_STICKY. -/
def SNL_STICKY (i : Nat) : Nat := 0x3F001000 + 0x4 * i
/-- Address of SNL_FIRST. -/
def SNL_FIRST (i : Nat) : Nat := 0x3F001020 + 0x4 * i
/-- Address of SNL_RSTK. -/
def SNL_RSTK (i : Nat) : Nat := 0x3F001040 + 0x4 * i
/-- Address of SNL_RFST. -/
def SNL_RFST (i : Nat) : Nat := 0x3F001060 + 0x4 * i
/-- Address of SNL_INJ. -/
def SNL_INJ : Nat := 0x3F001080
/-- Address of SNL_INJSTK. -/
def SNL_INJSTK (i : Nat) : Nat := 0x3F0010A0 + 0x4 * i
/-- Address of SNL_SEL. -/
def SNL_SEL : Nat := 0x3F0010C0
/-- Address of SNL_SCFG. -/
def SNL_SCFG : Nat := 0x3F0010C4
/-- Address of SNL_SCNT. -/
def SNL_SCNT : Nat := 0x3F0010C8
/-- Address of SNL_NOTE. -/
def SNL_NOTE : Nat := 0x3F0010CC
/-- Address of SNL_USR. -/
def SNL_USR : Nat := 0x3F0010D0
/-- Address of SNL_STAT. -/
def SNL_STAT : Nat := 0x3F0010D4
/-- Address of SNL_CTL. -/
def SNL_CTL : Nat := 0x3F0010D8
/-- Address of DST_MODE. -/
def DST_MODE : Nat := 0x3F000000
/-- Address of DST_RSTC. -/
def DST_RSTC : Nat := 0x3F000004
/-- Address of DST_WAKE. -/
def DST_WAKE : Nat := 0x3F000008
/-- Address of DST_BOOT. -/
def DST_BOOT : Nat := 0x3F00000C
/-- Address of DST_BENTRY. -/
def DST_BENTRY : Nat := 0x3F000060
/-- Address of THM_TJ. -/
def THM_TJ : Nat := 0x35002000
/-- Address of THM_STAT. -/
def THM_STAT : Nat := 0x35002004
/-- Address of THM_MAX. -/
def THM_MAX : Nat := 0x35002008
/-- Address of THM_ORD. -/
def THM_ORD : Nat := 0x3500200C
/-- Address of THM_FSCL. -/
def THM_FSCL (i : Nat) : Nat := 0x35002010 + 0x4 * i
/-- Address of THM_FSW. -/
def THM_FSW : Nat := 0x35002020
/-- Address of THM_CTL. -/
def THM_CTL : Nat := 0x35002024
/-- Address of THM_TRIM. -/
def THM_TRIM : Nat := 0x35002028
/-- Address of GOV_STAT. -/
def GOV_STAT : Nat := 0x35001000
/-- Address of GOV_CNT. -/
def GOV_CNT : Nat := 0x35001004
/-- Address of GOV_TIME. -/
def GOV_TIME : Nat := 0x35001008
/-- Address of GOV_CTL. -/
def GOV_CTL : Nat := 0x3500100C
/-- Address of NVM_CMD. -/
def NVM_CMD : Nat := 0x36000000
/-- Address of NVM_SRC. -/
def NVM_SRC : Nat := 0x36000004
/-- Address of NVM_DST. -/
def NVM_DST : Nat := 0x36000008
/-- Address of NVM_LEN. -/
def NVM_LEN : Nat := 0x3600000C
/-- Address of NVM_STAT. -/
def NVM_STAT : Nat := 0x36000010
/-- Address of NVM_PROG. -/
def NVM_PROG : Nat := 0x36000014
/-- Address of NVM_JRNL. -/
def NVM_JRNL : Nat := 0x36000018
/-- Address of NVM_SLOT. -/
def NVM_SLOT : Nat := 0x3600001C
/-- Address of NVM_SEQA. -/
def NVM_SEQA : Nat := 0x36000020
/-- Address of NVM_SEQB. -/
def NVM_SEQB : Nat := 0x36000024
/-- Address of NVM_CECNT. -/
def NVM_CECNT : Nat := 0x36000028
/-- Address of IDN_PART. -/
def IDN_PART : Nat := 0x36001000
/-- Address of IDN_STEP. -/
def IDN_STEP : Nat := 0x36001004
/-- Address of IDN_SER0. -/
def IDN_SER0 : Nat := 0x36001008
/-- Address of IDN_SER1. -/
def IDN_SER1 : Nat := 0x3600100C
/-- Address of IDN_FUSE. -/
def IDN_FUSE : Nat := 0x36001010
/-- Address of IDN_PKH. -/
def IDN_PKH (i : Nat) : Nat := 0x36001020 + 0x4 * i
/-- Address of IDN_DSEL. -/
def IDN_DSEL : Nat := 0x36001040
/-- Address of IDN_DLOT0. -/
def IDN_DLOT0 : Nat := 0x36001044
/-- Address of IDN_DLOT1. -/
def IDN_DLOT1 : Nat := 0x36001048
/-- Address of IDN_DPOS. -/
def IDN_DPOS : Nat := 0x3600104C
/-- Address of IDN_DDATE. -/
def IDN_DDATE : Nat := 0x36001050
/-- Address of LNK_CTL. -/
def LNK_CTL (u : Nat) : Nat := 0x34000000 + 0x1000 * u
/-- Address of LNK_TXQ. -/
def LNK_TXQ (u : Nat) : Nat := 0x34000004 + 0x1000 * u
/-- Address of LNK_TXKICK. -/
def LNK_TXKICK (u : Nat) : Nat := 0x34000008 + 0x1000 * u
/-- Address of LNK_STAT. -/
def LNK_STAT (u : Nat) : Nat := 0x3400000C + 0x1000 * u
/-- Address of LNK_INTEN. -/
def LNK_INTEN (u : Nat) : Nat := 0x34000010 + 0x1000 * u
/-- Address of LNK_RXCNT. -/
def LNK_RXCNT (u : Nat) : Nat := 0x34000014 + 0x1000 * u
/-- Address of LNK_TXCNT. -/
def LNK_TXCNT (u : Nat) : Nat := 0x34000018 + 0x1000 * u
/-- Address of LNK_DROPS. -/
def LNK_DROPS (u : Nat) : Nat := 0x3400001C + 0x1000 * u
/-- Address of GPIO_DIR. -/
def GPIO_DIR : Nat := 0x34020000
/-- Address of GPIO_OUT. -/
def GPIO_OUT : Nat := 0x34020004
/-- Address of GPIO_SET. -/
def GPIO_SET : Nat := 0x34020008
/-- Address of GPIO_CLR. -/
def GPIO_CLR : Nat := 0x3402000C
/-- Address of GPIO_IN. -/
def GPIO_IN : Nat := 0x34020010
/-- Address of GPIO_ODEN. -/
def GPIO_ODEN : Nat := 0x34020014
/-- Address of GPIO_PUEN. -/
def GPIO_PUEN : Nat := 0x34020018
/-- Address of GPIO_PDEN. -/
def GPIO_PDEN : Nat := 0x3402001C
/-- Address of GPIO_MSEL. -/
def GPIO_MSEL : Nat := 0x34020020
/-- Address of GPIO_SAFE. -/
def GPIO_SAFE : Nat := 0x34020024
/-- Address of GPIO_MADDR. -/
def GPIO_MADDR : Nat := 0x34020028
/-- Address of GPIO_STAT. -/
def GPIO_STAT : Nat := 0x3402002C
/-- Address of SNL_MREQ. -/
def SNL_MREQ : Nat := 0x3F0010DC
/-- Address of ETH_CFG of link L. -/
def ETH_CFG (u : Nat) : Nat := 0x34000040 + 0x1000 * u
/-- Address of ETH_MAC0 of link L. -/
def ETH_MAC0 (u : Nat) : Nat := 0x34000044 + 0x1000 * u
/-- Address of ETH_MAC1 of link L. -/
def ETH_MAC1 (u : Nat) : Nat := 0x34000048 + 0x1000 * u
/-- Address of ETH_SVCIP of link L. -/
def ETH_SVCIP (u : Nat) : Nat := 0x3400004C + 0x1000 * u
/-- Address of ETH_TADJ (ETH0 block). -/
def ETH_TADJ : Nat := 0x34000100
/-- Address of ETH_TSET (ETH0 block). -/
def ETH_TSET : Nat := 0x34000104
/-- Address of ETH_TSEC (ETH0 block). -/
def ETH_TSEC : Nat := 0x34000108
/-- Address of ETH_TNS (ETH0 block). -/
def ETH_TNS : Nat := 0x3400010C
/-- Address of ETH_TCAP (ETH0 block). -/
def ETH_TCAP : Nat := 0x34000110
/-- Address of ETH_TCAPS (ETH0 block). -/
def ETH_TCAPS : Nat := 0x34000114
/-- Address of ETH_TCAPN (ETH0 block). -/
def ETH_TCAPN : Nat := 0x34000118
/-- Address of CAN_BTN of link L. -/
def CAN_BTN (u : Nat) : Nat := 0x34000040 + 0x1000 * u
/-- Address of CAN_BTD of link L. -/
def CAN_BTD (u : Nat) : Nat := 0x34000044 + 0x1000 * u
/-- Address of CAN_CFG of link L. -/
def CAN_CFG (u : Nat) : Nat := 0x34000048 + 0x1000 * u
/-- Address of CAN_FLT of link L. -/
def CAN_FLT (u i : Nat) : Nat := 0x34000080 + 0x1000 * u + 4 * i
/-- Address of CAN_MSK of link L. -/
def CAN_MSK (u i : Nat) : Nat := 0x340000C0 + 0x1000 * u + 4 * i
/-- Address of HSPI_RIGHTS. -/
def HSPI_RIGHTS : Nat := 0x34007040
/-- Address of SPI_CFG of link L. -/
def SPI_CFG (u : Nat) : Nat := 0x34000040 + 0x1000 * u
/-- Address of UART_CFG of link L. -/
def UART_CFG (u : Nat) : Nat := 0x34000040 + 0x1000 * u
/-- Address of SENT_CFG of link L. -/
def SENT_CFG (u : Nat) : Nat := 0x34000040 + 0x1000 * u

end Reg

end Sys2Proof.Machine
end

