-- ==== Sys2Proof/Machine/RegFind.lean ====
section
/-! DEFINITION. Finding the register an address names (R9, R26), and the value every register holds at reset. -/

namespace Sys2Proof.Machine

/-- A register found by its address: its block, the block's instance, its offset and its row of the register map. -/
structure RegHit where
  id : BlockId
  inst : Nat
  off : Nat
  row : Option RegDef
  deriving DecidableEq, Repr

/-- Whether a row of the register map has a register at an offset (R26: indexed registers lie at their strides). -/
def RegDef.covers (r : RegDef) (off : Nat) : Bool :=
  let rel := off - r.off
  let i := if r.n1 = 1 then 0 else rel / r.s1
  let j := if r.n2 = 1 then 0 else (rel % r.s1) / r.s2
  decide (r.off ≤ off) && decide (i < r.n1) && decide (j < r.n2) && decide (r.off + i * r.s1 + j * r.s2 = off)

/-- The instance of a block that an address falls into. -/
def BlockDef.instOf (b : BlockDef) (a : Nat) : Option (Nat × Nat) :=
  if a < b.base then none
  else
    let i := (a - b.base) / b.stride
    let off := (a - b.base) % b.stride
    if i < b.count ∧ off < b.size then some (i, off) else none

/-- The block and row that an address names; none outside every block (R9). -/
def findReg (a : Nat) : Option RegHit :=
  blocks.findSome? fun b =>
    match b.instOf a with
    | some (i, off) => some ⟨b.id, i, off, (blockRegs b.id i).find? fun r => r.covers off⟩
    | none => none

/-- The reset values that the manual gives by instance: SKN_MAP, SPN_STAT, DST_SPNMAP, DST_CNVMAP; and the reset cause,
which a power-on reset leaves at 1 (R463; notes/assumptions/12.md). -/
def resetSpecial (h : RegHit) (w : Word) : Word :=
  match h.id with
  | .skn => if h.off < 0x10 then BitVec.ofNat 32 (0x03020100 + 0x04040404 * (h.off / 4)) else w
  | .spn =>
    if h.off = 4 then
      (if h.inst < 16 then BitVec.ofNat 32 (h.inst <<< 12 ||| 0x800) else 0x400)
    else w
  | .dst =>
    if 0x10 ≤ h.off ∧ h.off < 0x20 then BitVec.ofNat 32 (0x03020100 + 0x04040404 * (h.off / 4 - 4))
    else if 0x20 ≤ h.off ∧ h.off < 0x30 then BitVec.ofNat 32 (0x03020100 + 0x04040404 * (h.off / 4 - 8))
    else if h.off = 4 then 1 else w
  | _ => w

/-- The value of the register at an address after reset; 0 where no register stands (R9). -/
def resetWord (a : Nat) : Word :=
  match findReg a with
  | some h => match h.row with
    | some r => resetSpecial h r.reset
    | none => 0
  | none => 0

end Sys2Proof.Machine
end

