-- ==== Sys2Proof/Machine/SMap.lean ====
section
/-! DEFINITION. Sparse maps as plain data: a list of (key, value) pairs in one canonical form, keys strictly rising and
no entry equal to what an unlisted key reads as. The registers, the Skein, the flash and the state of the numbered
units are such maps. -/

namespace Sys2Proof.Machine

/-- A sparse map from numbers. -/
abbrev SMap (α : Type) := List (Nat × α)

/-- The value at a key: what the map lists, else the default of that key. -/
def smGet {α : Type} (dflt : Nat → α) : SMap α → Nat → α
  | [], k => dflt k
  | (a, v) :: m, k => if a = k then v else smGet dflt m k

/-- The map without a key. -/
def smDel {α : Type} : SMap α → Nat → SMap α
  | [], _ => []
  | (a, v) :: m, k => if a = k then smDel m k else (a, v) :: smDel m k

/-- An entry put before the first greater key. -/
def smIns {α : Type} : SMap α → Nat → α → SMap α
  | [], k, v => [(k, v)]
  | (a, w) :: m, k, v => if k < a then (k, v) :: (a, w) :: m else (a, w) :: smIns m k v

/-- Write a key; writing what an unlisted key reads as removes the entry. -/
def smSet {α : Type} [DecidableEq α] (dflt : Nat → α) (m : SMap α) (k : Nat) (v : α) : SMap α :=
  if v = dflt k then smDel m k else smIns (smDel m k) k v

/-- The canonical form: keys strictly rising, no entry equal to its default. -/
def smWf {α : Type} [DecidableEq α] (dflt : Nat → α) : SMap α → Bool
  | [] => true
  | (a, v) :: m => decide (v ≠ dflt a) && (m.all fun e => decide (a < e.1)) && smWf dflt m

end Sys2Proof.Machine
end

