-- ==== Sys2Proof/Machine/State.lean ====
section
/-! DEFINITION. The state of the block as plain data: every architectural register in one sparse map by its address
(R5, R26), the Skein and the flash as bytes, and the state the manual gives each unit beside its registers. `Dev` is the
device; `State` is the device with the queue of the commands that wait. -/

namespace Sys2Proof.Machine

/-- Why a step faults. The manual gives every command an effect, so no meaning raises one but a command whose
operands name a transfer that cannot exist (R38: a draw has 1 to 64 beats). -/
inductive Fault where
  /-- Raised by DRAW_REQUEST when the requester hands over no draw at all: no beats, more than 64 beats, or a write
  without its words (R38). Safe: the block stops where the hardware has no such request. -/
  | noSuchDraw
  deriving DecidableEq, Repr

/-- Why a step is refused. -/
inductive Refusal where
  /-- Raised by an arm of `exec` whose command has no meaning yet. Safe: the block stops. -/
  | notModelled (mnemonic : String)
  deriving DecidableEq, Repr

/-- What the last register or bus access answered (R8, R9, R27, R28). -/
inductive Access where
  | none
  | data (w : Word)
  | ok
  | accessError
  | notReady
  | rights
  deriving DecidableEq, Repr

/-! ### The Skein (02_skein_and_flyer.md) -/

/-- A hank table entry (R43, R46, SKN_HBASE to SKN_HDROP). -/
structure Hank where
  base : Nat
  writer : Nat
  size : Nat
  kind : Nat
  v : Bool
  wr : Nat
  rd : Nat
  fill : Nat
  drops : Nat
  deriving DecidableEq, Repr

/-- The state of one Skein word under its check bits (R74, R75, R79). -/
inductive Ecc where
  | good | correctable | uncorrectable | poisoned
  deriving DecidableEq, Repr

/-- How a requester's last draw ended. -/
inductive DrawStatus where
  | none
  | ok
  | lockbrk
  | accessError
  | cut
  | lockFault
  | ringRefused
  | errorStatus
  | eccError
  deriving DecidableEq, Repr

/-- What a draw is for: what its end does beside its status (R21, R22, R155, R202, R255, R327, R411, R417, R523). -/
inductive DrawTag where
  | plain
  | core (c : Core) (pc ea : Word) (loop : Nat)
  | checkpoint (p l : Nat)
  | image (p : Nat)
  | sample (decim : Bool) (unit ch : Nat) (w : Word) (seq : Nat)
  | prefetch (n : Nat)
  | record (l : Nat) (first last : Bool)
  | position (stat bit : Nat)
  | reel (n k : Nat)
  | capture
  deriving DecidableEq, Repr

/-- A request raised and not ended: its requester and class (R54, R55), the loop of a Spindle that issued it (R32),
its direction, the hank that it goes to by number, the address (of a hank draw: the offset) it starts at, its bytes
and what a write carries, the words of its beat without a write enable (R42, R222), whether it writes whole
coefficient entries (R131), the beats after which its requester stops supplying or accepting them (R63), whether the
Flyer serves it as soon as its turn comes, what it is for; its bytes and beats done, whether its first beat was
granted (R50), whether it met a lock-broken line or an uncorrectable word, and the words it read. -/
structure Draw where
  req : Nat
  cls : Nat
  loop : Option Nat
  write : Bool
  hank : Option Nat
  start : Nat
  len : Nat
  data : List Byte
  gaps : List Nat
  entry : Bool
  supply : Option Nat
  auto : Bool
  tag : DrawTag
  done : Nat
  beats : Nat
  granted : Bool
  lockbrk : Bool
  failed : Bool
  got : List Word
  deriving DecidableEq, Repr

/-- A PLY.LOCK that waits for a line (R66). -/
structure LockWait where
  req : Nat
  line : Nat
  deriving DecidableEq, Repr

/-- The bank copy that runs (R77 to R79): the logical bank and the spare, the beats copied, whether the next beat has been
read and not yet written, and the words it found uncorrectable. -/
structure Copy where
  bank : Nat
  spare : Nat
  next : Nat
  held : Bool
  bad : List Nat
  deriving DecidableEq, Repr

/-- The Skein: its bytes by logical address, the marks of its words, the hank table, the ply locks by owner, the
PLY.LOCKs that wait, the lines marked lock-broken, the draws raised in each logical bank, the requester last granted in
each bank and class, how each requester's last draw ended, the bank copy that runs and the banks queued, and the phase of
CLK_SKN in quarters of a cycle (R490). -/
structure SkeinSt where
  mem : List Host.Cell
  ecc : SMap Ecc
  hanks : SMap Hank
  locks : SMap (Option Nat)
  waits : List LockWait
  broken : SMap Bool
  draws : SMap (List Draw)
  lastGrant : SMap (Option Nat)
  status : SMap DrawStatus
  copy : Option Copy
  copyQueue : List Nat
  phase : Nat
  deriving DecidableEq, Repr

/-- An empty hank table entry (each field's reset value is 0). -/
def Hank.empty : Hank := ⟨0, 0, 0, 0, false, 0, 0, 0, 0⟩

def SkeinSt.reset : SkeinSt :=
  { mem := [], ecc := [], hanks := [], locks := [], waits := [], broken := [], draws := [], lastGrant := [],
    status := [], copy := none, copyQueue := [], phase := 0 }

/-! ### Measurement (03_measurement.md) -/

/-- Where a converter lane is (R91, R94, R96): powered down, in its start-up delay, awake and idle, or converting. -/
inductive LanePhase where
  | asleep | starting | idle | converting
  deriving DecidableEq, Repr

/-- A converter lane beside its registers: its phase, the channels of the scan still to convert (the first one is
being converted), a scan waiting for the start-up delay and whether that delay was inserted by a trigger (R91), the
CNV_FE value of the scan and of the scan before, whether the scan's first conversion is running, the previous
conversion's channel, `marks_left` of R101, whether the next result is the first after a start-up delay (R95) or the
first of a takeover (R100), whether the conversion started within 2 us of a TDAC write (R85), the start of the
conversion and HKP_TDAC as it stood when the input was sampled, where a later write changed it (R89), the comparators'
consecutive counts (R105), the number at which the scan was accepted (R218), and the time and kind (timebase or not)
of the last trigger (R86). -/
structure Lane where
  phase : LanePhase
  scan : List Nat
  waiting : Bool
  fe : Word
  prevFe : Option Word
  first : Bool
  prevCh : Option Nat
  marks : Nat
  pup : Bool
  takeover : Bool
  quiet : Bool
  tdacSet : Bool
  convAt : Nat
  tdac : Option Word
  wc0 : Nat
  wc1 : Nat
  acceptSeq : Nat
  trig : Option (Nat × Bool)
  deriving DecidableEq, Repr

def Lane.reset : Lane :=
  { phase := .asleep, scan := [], waiting := false, fe := 0, prevFe := none, first := false, prevCh := none,
    marks := 0, pup := false, takeover := false, quiet := false, tdacSet := false, convAt := 0, tdac := none, wc0 := 0, wc1 := 0,
    acceptSeq := 0, trig := none }

/-- A sigma-delta decimator beside its registers: the modulator bits received since EN, newest first, as many as the
filters reach back (R112, R118), the bits since the last output, the outputs that still carry SET (R113), the written
outputs' count (R114), the run of identical bits and its value, the bits since the stuck mark and whether output is
marked stuck (R116), and whether an event has armed the next output (R114); and whether the fast filter stands above
its upper limit and below its lower one (R118). -/
structure Sdm where
  hist : List Bool
  since : Nat
  fill : Nat
  seq : Nat
  run : Nat
  lastBit : Bool
  stuckHold : Bool
  stuckN : Nat
  fastHi : Bool
  fastLo : Bool
  armed : Bool
  deriving DecidableEq, Repr

def Sdm.reset : Sdm :=
  { hist := [], since := 0, fill := 0, seq := 0, run := 0, lastBit := false, stuckHold := false, stuckN := 0,
    fastHi := false, fastLo := false, armed := false }

/-- The measurement subsystem: lanes, decimators, the factory trims of the lanes (the FACT record, R83, R505), the time of
the last HKP_TDAC write (R85), whether the housekeeping round in progress was started by a request (R122), and a number
that orders timebase events and accepted scans (R218). -/
structure MeasSt where
  lanes : SMap Lane
  sdms : SMap Sdm
  trim : List Word
  tdacAt : Option Nat
  hkReq : Bool
  stamp : Nat
  deriving DecidableEq, Repr

def MeasSt.reset : MeasSt := { lanes := [], sdms := [], trim := [], tdacAt := none, hkReq := false, stamp := 0 }

/-! ### The cores (04 to 06) -/

/-- An entry point of a loop's program (R210). -/
inductive Entry where
  | pred | body | post
  deriving DecidableEq, Repr

/-- What a stalled Spindle waits for (R191, R193, R195, R66): a complete generation, for waits, rahead, a check with
its first tolerance entry, or the replay after a squash (R162); or a ply lock. -/
inductive Waiting where
  | waits (set : Nat)
  | rahead
  | check (k : Nat)
  | replay
  | lock (line : Nat)
  deriving DecidableEq, Repr

/-- An entry of the run-ahead store queue (R194). -/
inductive Queued where
  | word (ea : Nat) (w : Word) (pc : Word)
  | dword (ea : Nat) (w : DWord) (pc : Word)
  | trace (tp : Nat) (w : Word)
  deriving DecidableEq, Repr

/-- A sample set's window (R189, R218, R219): whether a generation is open, the words that filled its slots, whether it
number of the event it opened at (R220), the released words, and the predictions (R190). -/
structure SetWin where
  opened : Bool
  filling : SMap (Option Word)
  openSeq : Nat
  released : SMap Word
  preds : SMap Word
  deriving DecidableEq, Repr

def SetWin.reset : SetWin := { opened := false, filling := [], openSeq := 0, released := [], preds := [] }

/-- What rahead snapshots (R194): the registers, the accumulators, the staged images of the loop and LB. -/
structure Snap where
  v : SMap Word
  a : SMap DWord
  images : SMap Word
  lb : Bool
  deriving DecidableEq, Repr

/-- The handoff snapshot (R221): not taken, its read not yet granted, its 16 words, or the cause its read met. -/
inductive Handoff where
  | off
  | waiting
  | words (ws : List Word)
  | failed (cause : Nat)
  deriving DecidableEq, Repr

/-- A refused posted store (R155): its cause, its address, the address of its instruction and, on a Spindle, the loop that
issued it. -/
structure Refused where
  cause : Nat
  ea : Word
  pc : Word
  loop : Nat
  deriving DecidableEq, Repr

/-- A physical Spindle beside its registers: registers, accumulators, pc and LB (R125, R126, R202); the loop whose slot
is open and the slots waiting to open (R213); the entry point that runs; run-ahead, whether the period's flags
go to the masks (R138), the snapshot, masks and store
queue (R138, R194); what it waits for; the slots substituted in this period (R197, R226); the four sample windows; the
program window with its base and beats (R150, R242); the live coefficient copies by hank and entry (R230), the period's
snapshot (R231), the handoff snapshot and the latched injection values (R214); the mailbox words (R203); the posted
stores refused (R155); whether the period runs in plain form after a recovery, whether its primary generation, once
released, stands again for it, and whether the recovery waits for the checkpoint's read (R235). -/
structure Spindle where
  v : SMap Word
  a : SMap DWord
  pc : Word
  lb : Bool
  slot : Option Nat
  slotWait : List Nat
  entry : Option Entry
  ra : Bool
  spec : Bool
  snap : Snap
  maskS : Word
  maskC : Word
  queue : List Queued
  wait : Option Waiting
  subst : List Nat
  released : Bool
  sets : SMap SetWin
  pwin : SMap Word
  pbase : Nat
  pbeats : Nat
  live : SMap DWord
  kfile : SMap DWord
  handoff : Handoff
  inj : SMap Word
  mbOut : SMap Word
  mbIn : SMap Word
  refused : List Refused
  recovered : Bool
  again : Bool
  restoring : Bool
  deriving DecidableEq, Repr

def Spindle.reset : Spindle :=
  { v := [], a := [], pc := 0, lb := false, slot := none, slotWait := [], entry := none, ra := false, spec := false,
    snap := { v := [], a := [], images := [], lb := false }, maskS := 0, maskC := 0, queue := [], wait := none,
    subst := [], released := false, sets := [], pwin := [], pbase := 0, pbeats := 0, live := [], kfile := [],
    handoff := .off, inj := [], mbOut := [], mbIn := [], refused := [], recovered := false, again := false,
    restoring := false }

/-- A loop beside its registers: the committed context (R199, R217), the substitution counts (R196), the
slots that the library replaces by their predictions (R365), the staged images
(R192) and those of the last commit (R227), whether the period has committed and whether before DEAD (R200, R223),
whether the guard has held it (R227), whether the primary generation was free of SET (R223), the consecutive holds and
the feedback-fault of the period (R224), the time from which event 0 is counted (EN set, and the fills complete),
whether event 0 has been reached, how many events came since and the number of the next period (R211), the number of
the present period with the time and number of its event, and whether a takeover has cost that period (R228). -/
structure Loop where
  v : SMap Word
  a : SMap DWord
  pcount : Nat
  substCnt : SMap Nat
  libSub : List Nat
  lastSeq : Nat
  images : SMap Word
  imagesC : SMap Word
  committed : Bool
  inTime : Bool
  held : Bool
  clean : Bool
  holds : Nat
  fbf : Bool
  raenOff : Bool
  enAt : Nat
  started : Bool
  events : Nat
  served : Nat
  per : Nat
  evAt : Option Nat
  evStamp : Option Nat
  lastAt : Option Nat
  lastStamp : Nat
  lost : Bool
  deriving DecidableEq, Repr

def Loop.reset : Loop :=
  { v := [], a := [], pcount := 0, substCnt := [], libSub := [], lastSeq := 0, images := [], imagesC := [], committed := false,
    inTime := false, held := false, clean := false, holds := 0, fbf := false, raenOff := false, enAt := 0,
    started := false, events := 0, served := 0, per := 0, evAt := none, evStamp := none, lastAt := none, lastStamp := 0,
    lost := false }

/-- A Bobbin: its registers, accumulators, private coefficient file (R130), pc and LB; whether it runs; whether it
stands in wfi (R170) or waits for a ply lock; its control registers by number (R165; cycle and cycleh are `cycle`); the
timer line (R171); and the posted stores refused (R155). -/
structure Bobbin where
  v : SMap Word
  a : SMap DWord
  k : SMap DWord
  pc : Word
  lb : Bool
  running : Bool
  wfi : Bool
  wait : Option Nat
  csr : SMap Word
  cycle : Nat
  timer : Bool
  refused : List Refused
  deriving DecidableEq, Repr

/-- The reset value of a control register (R166): status.SUP is 1. -/
def csrReset (n : Nat) : Word := if n = 0 then 1 else 0

def Bobbin.reset : Bobbin :=
  { v := [], a := [], k := [], pc := 0, lb := false, running := false, wfi := false, wait := none, csr := [],
    cycle := 0, timer := false, refused := [] }

/-- The cores: Spindles by physical number, loops by 4 p + l, Bobbins; the takeovers in progress, retired Spindle and
spare, the first one running (R237, R239). -/
structure CoreSt where
  spindles : SMap Spindle
  loops : SMap Loop
  bobbins : SMap Bobbin
  takeovers : List (Nat × Nat)
  deriving DecidableEq, Repr

def CoreSt.reset : CoreSt := { spindles := [], loops := [], bobbins := [], takeovers := [] }

/-! ### Timebases and Whorls (07_whorls.md) -/

/-- A timebase beside its registers: the values of PER, TRGA and TRGB in effect (R246), whether EN was set and the
counter waits for WHL_GSTART (R245). -/
structure Timebase where
  per : Word
  trga : Word
  trgb : Word
  waiting : Bool
  deriving DecidableEq, Repr

def Timebase.reset : Timebase := { per := 0x960, trga := 0, trgb := 0, waiting := false }

/-- What the prefetcher has read of the slot beat (R255, R257). -/
inductive Beat where
  | none
  | words (ws : List Word)
  | error
  deriving DecidableEq, Repr

/-- A Whorl beside its registers: a write of its slot beat not yet prefetched (R255), the beat prefetched and not yet
landed, the shadow's image, whether it waits for its reload and whether it landed since EN or the disable boundary
(R261); whether a loop that drives it was disabled and its next reload is the boundary (R34); the active image
(WHL_ACT); the PWM signal; the RED and FED delays running; the force in effect and the one that waits (R268); whether
the outputs follow the image after the disable state; an accepted trip clear (R276); blanking (R274); the image's leg
state and one that dwell defers (R264); the leg state commanded last and the time it changed; whether the edge that
started the running delay turned the other output off (R275); refresh in effect and its low-on pulse (R266). -/
structure Whorl where
  notice : Bool
  beat : Beat
  shadow : List Word
  fresh : Bool
  landed : Bool
  ending : Bool
  pwm : Bool
  pendH : Bool
  pendL : Bool
  frc : Word
  frcWait : Option Word
  clearing : Bool
  blanking : Bool
  leg : Nat
  tgt : Nat
  edgeOff : Bool
  lastChange : Option Nat
  dwell : Option Nat
  refresh : Bool
  refreshLow : Bool
  deriving DecidableEq, Repr

def Whorl.reset : Whorl :=
  { notice := false, beat := .none, shadow := [], fresh := false, landed := false, ending := false, pwm := false,
    pendH := false, pendL := false, frc := 0, frcWait := none, clearing := false, blanking := false, leg := 0,
    tgt := 0, edgeOff := false, lastChange := none, dwell := none, refresh := false, refreshLow := false }

/-- Timebases, Whorls, and the levels of the pins TRIP0 to TRIP7 that passed the filter, with the time since which
each pin differs (R271). -/
structure ModSt where
  tbs : SMap Timebase
  whorls : SMap Whorl
  pins : Nat
  pinAt : SMap (Option Nat)
  deriving DecidableEq, Repr

/-- The TRIP pins rest high, deasserted by the reset polarity: DESIGN CHOICE, notes/assumptions/70.md. -/
def ModSt.reset : ModSt := { tbs := [], whorls := [], pins := 0xFF, pinAt := [] }

/-! ### Gate-drive ports (08_gate_drive_ports.md) -/

/-- An adaptation window of a section that is open, and the turn-on commands it has left (R285). -/
structure AdaptWin where
  kind : AdaptWindow
  left : Nat
  deriving DecidableEq, Repr

/-- One section of a leg die: its command and the time of the last turn-on command (R295), whether it conducts,
whether its turn-on waits for the dead-time floor (R282), whether its minimum pulse still runs and whether its
turn-off waits for that (R283), a soft turn-off in progress and the time it started (R296), the Miller clamp engaged
(R281), the comparator armed (R295), the supply beyond its trip level (R290) and not yet beyond its release level for
10 us (a section is held off from power-up, R290), the time its last turn-off ended, and its adaptation window. -/
structure Sect where
  cmd : Bool
  cmdAt : Nat
  on : Bool
  floorWait : Bool
  young : Bool
  offWait : Bool
  soft : Bool
  softAt : Nat
  clamp : Bool
  armed : Bool
  bad : Bool
  offAt : Option Nat
  full : Bool
  win : Option AdaptWin
  deriving DecidableEq, Repr

def Sect.reset : Sect :=
  { cmd := false, cmdAt := 0, on := false, floorWait := false, young := false, offWait := false, soft := false,
    softAt := 0, clamp := false, armed := false, bad := true, offAt := none, full := false, win := none }

/-- A leg of a leg die beside its registers: its sections, for each configuration register whose last write has not
reached the die the value that the die still has (R306), the short circuit hold, its retry wait (R299) and trip lines
76 and 77 (R272), the holds whose cause still stands (R291, R292, R294, R304), the link lost and its hold (R15), the
safe-state order in force (R437), the self-test that runs (R302), the time of its last short-circuit report, the time of
the first report of the fault on several legs that it is held for (R300), and the supply-good flags of its last status frame (R120). -/
structure Port where
  h : Sect
  l : Sect
  late : List (Nat × Word)
  hold : Bool
  retryWait : Bool
  line : Bool
  gdBad : Bool
  bootBad : Bool
  bootHold : Bool
  otBad : Bool
  busBad : Bool
  linkLost : Bool
  linkHold : Bool
  order : Option Nat
  test : Option Nat
  scAt : Option Nat
  scmAt : Option Nat
  frameH : Bool
  frameL : Bool
  deriving DecidableEq, Repr

def Port.reset : Port :=
  { h := Sect.reset, l := Sect.reset, late := [], hold := false, retryWait := false, line := false, gdBad := true,
    bootBad := false, bootHold := false, otBad := false, busBad := false, linkLost := false, linkHold := false,
    order := none, test := none, scAt := none, scmAt := none, frameH := false, frameL := false }

/-- The ports, and the urgent codes on their way to the control die by leg (R14). -/
structure PortSt where
  ports : SMap Port
  urgent : SMap (List SrcInst)
  deriving DecidableEq, Repr

def PortSt.reset : PortSt := { ports := [], urgent := [] }

/-! ### Position block and control-pilot capture (R323 to R330, R389) -/

/-- An encoder unit, or the pilot-capture unit, beside its registers: the accepted levels of A, B and Z with the time
since which each land differs (R325), the time of the last count edge (PWM-in: of the last edge of A) and the ticks
between the last two, the direction of the last edge, whether Z and an error came since the last record and the time
of the last Z, the record count, whether a rising edge came since EN, the high time and period of the last complete
cycle with the high time of the present one, the time of the last rising edge, and SAT. -/
structure Encoder where
  a : Bool
  b : Bool
  z : Bool
  pa : Option Nat
  pb : Option Nat
  pz : Option Nat
  edgeAt : Nat
  gap : Nat
  dir : Bool
  zSince : Bool
  zAt : Option Nat
  errSince : Bool
  recs : Nat
  risen : Bool
  high : Nat
  per : Nat
  hiNow : Nat
  riseAt : Nat
  sat : Bool
  deriving DecidableEq, Repr

def Encoder.reset : Encoder :=
  { a := false, b := false, z := false, pa := none, pb := none, pz := none, edgeAt := 0, gap := 0, dir := false,
    zSince := false, zAt := none, errSince := false, recs := 0, risen := false, high := 0, per := 0, hiNow := 0,
    riseAt := 0, sat := false }

/-- A Hall unit beside its registers: the accepted levels of its three inputs and the time since which each land differs,
its edge count, the time of the last edge and the ticks between the last two, the direction of the last edge, whether an
illegal state came since the last record, the record count. -/
structure Hall where
  inp : Nat
  pend : SMap (Option Nat)
  edges : Nat
  edgeAt : Nat
  gap : Nat
  dir : Bool
  illSince : Bool
  recs : Nat
  deriving DecidableEq, Repr

def Hall.reset : Hall :=
  { inp := 0, pend := [], edges := 0, edgeAt := 0, gap := 0, dir := false, illSince := false, recs := 0 }

/-- An excitation output: the step of the sine it stands at, none while it is held at 1.5 V (R324). -/
structure Excite where
  step : Option Nat
  deriving DecidableEq, Repr

def Excite.reset : Excite := { step := none }

/-- The position block and the pilot-capture unit. -/
structure PosSt where
  encs : SMap Encoder
  halls : SMap Hall
  excs : SMap Excite
  cpc : Encoder
  deriving DecidableEq, Repr

def PosSt.reset : PosSt := { encs := [], halls := [], excs := [], cpc := Encoder.reset }

/-! ### Library functions and the Distaff's view of them (10, 11, 13) -/

/-- What the pilot's high level says (R390). -/
inductive Pilot where
  | a | b | c | e | f | bad
  deriving DecidableEq, Repr

/-- What a sequencer holds between its periods beside its status. Of a motor: the angle, speed, preloads, flux and
back-EMF vector that the synchronisation seeds (R345, R348, R361), i_d* and i_q* as handed off, where their blend
started, its length and its periods so far (R348, R351, R362), the observer's validity, its qualifying and its bad executions, its last speed and the last one of
a valid observer (R322, R359, R360), the branch of a recatch, a loss that waits for the next period, the periods of
the recatch; the curve's state and command, and whether it
turns the function off (R334); the counts of R351, R352, R355 and R357; the legs off after BRAKE
(R349); a position sensor lost and the periods of its torque ramp, the current slot substituted and for how long, the
periods without motion (R364 to R366); the last bus sample (R353). Of a converter: periods out of and within the
grid's window (R376), the DC-link loop's integrator (R380), the shift (R383), the pilot's state, its bad periods and
whether it asks for high-level communication (R390 to R392), the current limit, the limit it moves to and its step
(R392), the battery temperature, whether it lies in its window, the count of its word and the periods since that count
advanced (R394). Of an actuator: the profile's speed and reference (R396), the position of its source and what is
added to it (R397), the counts of R396, R398 and R399, a hold after TTOOTH (R399). The angle of an encoder's count and
the first Z edge seen (R368), a fault notice not yet posted (R340), the images of an ordered safe state not yet
committed (R336), the time of ORD (R484). -/
structure FnCtr where
  theta : Word
  seedW : Int
  seedD : Int
  seedQ : Int
  fluxA : Int
  fluxB : Int
  emfA : Int
  emfB : Int
  idRef : Int
  iqRef : Int
  idFrom : Int
  iqFrom : Int
  blendN : Nat
  blendT : Nat
  valid : Bool
  nval : Nat
  nbad : Nat
  wLast : Option Int
  wValid : Int
  asc : Bool
  lossDue : Bool
  recN : Nat
  curveOn : Int
  curveX : Int
  curveOff : Bool
  hoN : Nat
  nhoN : Nat
  stopN : Nat
  stillN : Nat
  brkOff : Nat
  posLost : Bool
  posRamp : Option Nat
  sub : Option (Nat × Nat)
  noMove : Nat
  vbus : Int
  outN : Nat
  inN : Nat
  acc : Int
  shift : Int
  pilot : Pilot
  pilotBad : Nat
  duty : Option (Nat × Nat)
  lim : Nat
  limGoal : Nat
  limStep : Nat
  battT : Int
  battIn : Bool
  battCnt : Nat
  battN : Nat
  vel : Int
  ref : Int
  raw : Int
  off : Int
  arrN : Nat
  stallN : Nat
  blkN : Nat
  tooN : Nat
  tooth : Bool
  encOff : Word
  zSeen : Bool
  notice : Bool
  legsDue : Bool
  ordAt : Nat
  deriving DecidableEq, Repr

def FnCtr.reset : FnCtr :=
  { theta := 0, seedW := 0, seedD := 0, seedQ := 0, fluxA := 0, fluxB := 0, emfA := 0, emfB := 0, idRef := 0, iqRef := 0, idFrom := 0,
    iqFrom := 0, blendN := 0, blendT := 0, valid := false, nval := 0, nbad := 0, wLast := none, wValid := 0, asc := false,
    lossDue := false, recN := 0, curveOn := 0, curveX := 0, curveOff := false, hoN := 0, nhoN := 0, stopN := 0, stillN := 0, brkOff := 0,
    posLost := false, posRamp := none, sub := none, noMove := 0, vbus := 0, outN := 0, inN := 0, acc := 0, shift := 0,
    pilot := .bad, pilotBad := 0, duty := none, lim := 0, limGoal := 0, limStep := 0, battT := 0, battIn := false,
    battCnt := 0, battN := 0, vel := 0, ref := 0, raw := 0, off := 0, arrN := 0, stallN := 0, blkN := 0, tooN := 0,
    tooth := false, encOff := 0, zSeen := false, notice := false, legsDue := false, ordAt := 0 }

/-- A function F00 to F31: its policy entry (R448) and library description; the function state, CAUSE and ATT (R336,
R340); the flags of status word 0 in their places (R340, R371); the command taken last (R338) and a CLR that waits for
the release (R341); speed and demand as last written, the period count; periods in the present step (R342) and periods
to wait in IDLE (R352); the speed demand of DECEL or the DC-link reference, the imposed speed, whether the loop runs
open (R351, R354); a recatch in progress (R359), the angle known (R368); the grid topology (single-phase when true,
R372), a resynchronisation due (R376), the rectifier off (R386), the state resistor in C (R392); an actuator's target,
the start and the direction of the move, obstruction retries, legs off after an obstruction, a return under PDROP, the CAUSE that waits
for the end of DECEL, position and command seen last (R396 to R399); the permit count seen last and when (R401);
ramping down for ORD (R484); the Distaff's permit count, PCNT seen last and when (R400, R450), the degraded sets
(R432), SCALE (R481), and the sequencer's counts. -/
structure Fn where
  entry : Option FnEntry
  desc : Option FnDesc
  st : Nat
  cause : Nat
  att : Nat
  flags : Word
  cmd : Word
  spd : Word
  clrDue : Bool
  speed : Int
  tq : Int
  pcnt : Nat
  timer : Nat
  waitN : Nat
  dem : Int
  wi : Int
  openLoop : Bool
  recatch : Bool
  aligned : Bool
  topo : Option Bool
  resync : Bool
  rectOff : Bool
  stateC : Bool
  target : Int
  start : Int
  up : Bool
  retries : Nat
  blocked : Bool
  returning : Bool
  decCause : Nat
  pos : Int
  permit : Word
  permitAt : Nat
  ordRamp : Bool
  evals : Nat
  seenPcnt : Word
  seenAt : Nat
  sets : Nat
  scale : Nat
  c : FnCtr
  deriving DecidableEq, Repr

def Fn.reset : Fn :=
  { entry := none, desc := none, st := 0, cause := 0, att := 0, flags := 0, cmd := 0, spd := 0, clrDue := false,
    speed := 0, tq := 0, pcnt := 0, timer := 0, waitN := 0, dem := 0, wi := 0, openLoop := false, recatch := false,
    aligned := false, topo := none, resync := false, rectOff := false, stateC := false, target := 0, start := 0, up := false,
    retries := 0, blocked := false, returning := false, decCause := 0, pos := 0, permit := 0, permitAt := 0,
    ordRamp := false, evals := 0, seenPcnt := 0, seenAt := 0, sets := 0, scale := 16, c := FnCtr.reset }

/-- The functions and the interlock rules of the policy table in use. -/
structure PolicySt where
  fns : SMap Fn
  rules : List IlRule
  deriving DecidableEq, Repr

def PolicySt.reset : PolicySt := { fns := [], rules := [] }

/-! ### Tuning (12_tuning_and_reels.md) -/

/-- The injection generator beside its registers (R405 to R411): the time EN was set, whether signal period 0 has come,
the PRBS state, the periods left on its bit and the bits given in the sequence, the sweep's phase, increment and completed
cycles, the step number (or sequences done), the periods of the step signal, a stop or an abort that waits for the next
period start, the capture words of the period (the value latched, what reached CAPA and CAPB, the settling mark, the
step number), and the capture beats that wait and how many of them stand in draws raised. -/
structure Inj where
  enAt : Nat
  started : Bool
  lfsr : Nat
  bitHold : Nat
  bits : Nat
  phase : Nat
  inc : Nat
  cycles : Nat
  step : Nat
  count : Nat
  stopDue : Bool
  abortDue : Bool
  live : Bool
  capVal : Word
  capA : Option Word
  capB : Option Word
  capSetl : Bool
  capStep : Nat
  beats : List (List Word)
  raised : Nat
  deriving DecidableEq, Repr

def Inj.reset : Inj :=
  { enAt := 0, started := false, lfsr := 0, bitHold := 0, bits := 0, phase := 0, inc := 0, cycles := 0, step := 0,
    count := 0, stopDue := false, abortDue := false, live := false, capVal := 0, capA := none, capB := none,
    capSetl := false, capStep := 0, beats := [], raised := 0 }

/-- A Reel beside its registers (R412 to R417): the trace words held and how many of them stand in draws raised, the
values since the last kept one (none before the first), the previous value, the words kept since ARM, the words still
to keep after the trigger, GAP due, and the triggers that take the next value: software, Snarl source, chain; a
trigger word lost (R417). -/
structure Reel where
  held : List (Word × Word)
  raised : Nat
  since : Option Nat
  prev : Option Int
  kept : Nat
  post : Option Nat
  gap : Bool
  swTrig : Bool
  snlTrig : Bool
  chainTrig : Bool
  trigLost : Bool
  deriving DecidableEq, Repr

def Reel.reset : Reel :=
  { held := [], raised := 0, since := none, prev := none, kept := 0, post := none, gap := false, swTrig := false,
    snlTrig := false, chainTrig := false, trigLost := false }

/-- The injection generator and the Reels. -/
structure TuneSt where
  inj : Inj
  reels : SMap Reel
  deriving DecidableEq, Repr

def TuneSt.reset : TuneSt := { inj := Inj.reset, reels := [] }

/-! ### The Snarl and the Distaff (13_faults_and_safety.md) -/

/-- The count of one source instance (R421): window open, its start, the count in it, events since reset. -/
structure SnlCnt where
  opened : Bool
  start : Nat
  count : Nat
  events : Nat
  deriving DecidableEq, Repr

def SnlCnt.reset : SnlCnt := { opened := false, start := 0, count := 0, events := 0 }

/-- A journal record (R502, R504): its kind, its TAG and its payload words of 32 bits. -/
structure Rec where
  kind : Nat
  tag : Nat
  data : List Word
  deriving DecidableEq, Repr

/-- A reaction that the Distaff has due (R422): the code and the instance, and whether it is severe. -/
structure Due where
  code : Nat
  e : SrcInst
  severe : Bool
  deriving DecidableEq, Repr

/-- A fault injection that is pending (R443, R445): the instance, whether all check bits are inverted, and when GO came. -/
structure Injected where
  e : SrcInst
  all : Bool
  since : Nat
  deriving DecidableEq, Repr

/-- The Snarl's counts by source and instance, the source entries, the reactions due, an injection that is pending
(R443), the pairs that read (1,0) in the last cycle (R418), the comparators that failed in SELFTEST and whose reaction
waits for the policy table (R468), the retention latches of STICKY and FIRST (R429), the stop record still open
(R486), sectors recorded for erasure (R488), and the loops (Spindle, loop) whose EN the Distaff sets again once their ACT
reads 0 (R423, R241). -/
structure SnarlSt where
  counts : SMap SnlCnt
  scfg : SMap Word
  due : List Due
  inject : Option Injected
  high : List SrcInst
  stfails : List SrcInst
  latS : SMap Word
  latF : SMap Word
  stopRec : Option Rec
  erasures : List Nat
  restarts : List (Nat × Nat)
  deriving DecidableEq, Repr

def SnarlSt.reset : SnarlSt :=
  { counts := [], scfg := [], due := [], inject := none, high := [], stfails := [], latS := [], latF := [], stopRec := none, erasures := [],
    restarts := [] }

/-! ### Modes, temperature and supply (14, 15) -/

/-- Invalid diode readings in a row and whether they alone hold SHUT (R477), whether the flash gate was closed by heat
(R487), a RUN or DEGRADED request that waits for its round (R471), a SLEEP request in progress (R473), wakes held
until SLEEP is entered (R475), the seconds' start of the present ORDERLY-STOP (R485), the mode it came from (R486),
the governor's step from VCORE alone (R493), the ticks of a microsecond below full rate (R495) and the phase of the
Bobbin clock (R490), whether RST_N is held low (R463), whether a rail has fallen since the last power-on (R546), the
Skein addresses of the image and the policy table that SERVICE supplied (R517 LDRUN), whether CONFIG has been entered
since the reset (R465), the Bobbin watchdogs' last kicks (R420), when the FLT_N pulse started (R440), and when SLEEP was
entered (R475). -/
structure SupplySt where
  invalid : Nat
  invShut : Bool
  heatClosed : Bool
  runReq : Bool
  runReqAt : Nat
  sleepReq : Bool
  wakes : Nat
  ordAt : Nat
  ordFrom : Nat
  sag : Nat
  stretch : Nat
  bobPhase : Nat
  resetLow : Bool
  supplyLow : Bool
  supplied : Option (Nat × Nat)
  ready : Bool
  kicks : SMap Nat
  fltAt : Nat
  sleptAt : Nat
  deriving DecidableEq, Repr

def SupplySt.reset : SupplySt :=
  { invalid := 0, invShut := false, heatClosed := false, runReq := false, runReqAt := 0, sleepReq := false, wakes := 0,
    ordAt := 0, ordFrom := 0, sag := 0, stretch := 0, bobPhase := 0, resetLow := false, supplyLow := false,
    supplied := none, ready := false, kicks := [], fltAt := 0, sleptAt := 0 }

/-! ### Flash and service sessions (16_flash_identity_service.md) -/

/-- The operations of the flash controller (R499). -/
inductive FlashOp where
  | append (r : Rec)
  | program
  | erase
  deriving DecidableEq, Repr

/-- An operation in progress: what, the Skein source (or the session's data), the flash offset, the words or sectors in
all, those done, and whether a session started it. -/
structure FlashJob where
  op : FlashOp
  src : Nat
  data : Option (List Byte)
  dst : Nat
  n : Nat
  done : Nat
  session : Bool
  deriving DecidableEq, Repr

/-- What a WEAR record counts (R504): operating minutes, minutes at 125 degrees or more, power-ons, entries into SAFE, the
highest TMAX, journal compactions, and the ticks of the present minute. -/
structure Wear where
  minutes : Nat
  hot : Nat
  powerOns : Nat
  safes : Nat
  tmax : Word
  comp : Nat
  ticks : Nat
  deriving DecidableEq, Repr

def Wear.reset : Wear := { minutes := 0, hot := 0, powerOns := 0, safes := 0, tmax := 0x8000, comp := 0, ticks := 0 }

/-- The flash: its bytes (unlisted ones erased, R497), the marks of its words of 32 bytes (R498), the operation in
progress, the Distaff's records due, the journal's valid records with their sequence numbers, oldest first, the offset
of the next one (R502), the counts of the WEAR record, the sectors whose abandoned erase is due again (R488, R505),
and the fused words that BOOT has read (R466, R511). -/
structure FlashSt where
  mem : List Host.Cell
  ecc : SMap Ecc
  job : Option FlashJob
  due : List Rec
  recs : List (Nat × Rec)
  pos : Nat
  seq : Nat
  wear : Wear
  redo : List Nat
  fuses : SMap Word
  deriving DecidableEq, Repr

def FlashSt.reset : FlashSt :=
  { mem := [], ecc := [], job := none, due := [], recs := [], pos := 0, seq := 0, wear := Wear.reset, redo := [],
    fuses := [] }

/-- A response to a session frame (R517): its code, its words. -/
structure Resp where
  code : Nat
  words : List Word
  deriving DecidableEq, Repr

/-- A service session (R513 to R517): the transport it is on, the nonce of a HELLO and its time, the role once open, the
last SEQ and the response stored for it, the time of the last valid frame, failed AUTHs in a row (a retention latch,
R514), the lockout, the last response sent, and the SEQ of a flash command that is answered when it ends. -/
structure SessionSt where
  link : Option Transport
  nonce : Option (List Byte)
  nonceAt : Nat
  role : Option Nat
  seq : Nat
  lastAt : Nat
  fails : Nat
  lockout : Bool
  lockAt : Nat
  resp : Option Resp
  sent : Option Resp
  waitFlash : Option Nat
  deriving DecidableEq, Repr

def SessionSt.reset : SessionSt :=
  { link := none, nonce := none, nonceAt := 0, role := none, seq := 0, lastAt := 0, fails := 0, lockout := false,
    lockAt := 0, resp := none, sent := none, waitFlash := none }

/-! ### Links and lands (17_links.md) -/

/-- A link beside its registers: WR of the ring at the end of the last counted record (R523), whether a frame that was
in transfer when EN was cleared may still come in (R34), whether it reads descriptors and whether a TXKICK came
meanwhile (R526), whether a descriptor is in transmission, bus-off (R533), and the bytes of a UART record that is
open, with its error flag and the time stamp of its first byte (R529, R537). -/
structure Link where
  wr : Nat
  closing : Bool
  reading : Bool
  kick : Bool
  sending : Bool
  busOff : Bool
  uart : List Byte
  uartErr : Bool
  uartSec : Word
  uartNs : Word
  deriving DecidableEq, Repr

def Link.reset : Link := 
  { wr := 0, closing := false, reading := false, kick := false, sending := false, busOff := false, uart := [],
    uartErr := false, uartSec := 0,
    uartNs := 0 }

/-- The links, the link time counter (R528) with its fraction in 2^-24 ns, the result of the last HSPI write and the
answer of the last HSPI transaction (R535), the levels of the mirror lands (R542). -/
structure LinkSt where
  links : SMap Link
  sec : Nat
  ns : Nat
  frac : Nat
  hspiLast : Nat
  hspiOut : List Word
  hspiStat : Nat
  mirror : Word
  deriving DecidableEq, Repr

def LinkSt.reset : LinkSt :=
  { links := [], sec := 0, ns := 0, frac := 0, hspiLast := 0, hspiOut := [], hspiStat := 0, mirror := 0 }


/-- The device: everything but the queue. -/
structure Dev where
  now : Nat
  regs : SMap Word
  lastAccess : Access
  reports : List SrcInst
  freeCtr : Nat
  sk : SkeinSt
  ms : MeasSt
  cr : CoreSt
  md : ModSt
  pt : PortSt
  ps : PosSt
  tn : TuneSt
  sn : SnarlSt
  pl : PolicySt
  su : SupplySt
  fl : FlashSt
  sv : SessionSt
  lk : LinkSt
  deriving DecidableEq, Repr

def Dev.reset : Dev :=
  { now := 0, regs := [], lastAccess := .none, reports := [], freeCtr := 0, sk := SkeinSt.reset, ms := MeasSt.reset,
    cr := CoreSt.reset, md := ModSt.reset, pt := PortSt.reset, ps := PosSt.reset, tn := TuneSt.reset,
    sn := SnarlSt.reset, pl := PolicySt.reset, su := SupplySt.reset, fl := FlashSt.reset, sv := SessionSt.reset,
    lk := LinkSt.reset }

/-- The state of the block: the device and the commands that wait, first in, first out. -/
structure State where
  dev : Dev
  pending : List Instr
  deriving DecidableEq, Repr

/-- The block right after a power-on reset (R463): every register at its reset value, the units idle, nothing loaded,
no command waiting. -/
def State.reset : State := { dev := Dev.reset, pending := [] }

/-- The same queue with another device. -/
def State.withDev (s : State) (d : Dev) : State := { s with dev := d }

end Sys2Proof.Machine
end

