-- ==== Sys2Proof/Machine/Ops.lean ====
section
/-! DEFINITION. The named operations over the device: bit fields, registers by address, Snarl reports, time. -/

namespace Sys2Proof.Machine

/-! ### Bit fields (R5) -/

/-- Bits hi:lo of a word as a number. -/
def bitsOf (w : Word) (hi lo : Nat) : Nat := (w.toNat >>> lo) % 2 ^ (hi + 1 - lo)

/-- Bit i of a word. -/
def bitOf (w : Word) (i : Nat) : Bool := w.toNat.testBit i

/-- The mask of bits hi:lo. -/
def maskOf (hi lo : Nat) : Word := BitVec.ofNat 32 ((2 ^ (hi + 1 - lo) - 1) <<< lo)

/-- A word with bits hi:lo replaced; a value too wide is cut to the field. -/
def putBits (w : Word) (hi lo : Nat) (v : Nat) : Word :=
  (w &&& ~~~(maskOf hi lo)) ||| BitVec.ofNat 32 ((v % 2 ^ (hi + 1 - lo)) <<< lo)

/-- A word with bit i replaced. -/
def putBit (w : Word) (i : Nat) (b : Bool) : Word := putBits w i i b.toNat

/-- A signed number of k bits read from a natural number. -/
def signed (k : Nat) (n : Nat) : Int := if n % 2 ^ k < 2 ^ (k - 1) then (n % 2 ^ k : Nat) else (n % 2 ^ k : Nat) - (2 ^ k : Nat)

/-- An integer clamped to a range. -/
def clampI (lo hi x : Int) : Int := if x < lo then lo else if hi < x then hi else x

/-- The two's complement of an integer as a word. -/
def wordOf (x : Int) : Word := BitVec.ofInt 32 x

/-- One more, saturating at the top of k bits. -/
def satInc (k n : Nat) : Nat := if n + 1 < 2 ^ k then n + 1 else 2 ^ k - 1

/-! ### Registers by address -/

/-- The register at an address: one home for every architectural bit. -/
def Dev.reg (d : Dev) (a : Nat) : Word := smGet resetWord d.regs a

def Dev.setReg (d : Dev) (a : Nat) (w : Word) : Dev := { d with regs := smSet resetWord d.regs a w }

/-- Bits hi:lo of the register at an address. -/
def Dev.fld (d : Dev) (a hi lo : Nat) : Nat := bitsOf (d.reg a) hi lo

def Dev.setFld (d : Dev) (a hi lo v : Nat) : Dev := d.setReg a (putBits (d.reg a) hi lo v)

def Dev.rbit (d : Dev) (a i : Nat) : Bool := bitOf (d.reg a) i

def Dev.setRbit (d : Dev) (a i : Nat) (b : Bool) : Dev := d.setReg a (putBit (d.reg a) i b)

/-- Set the bits of a mask in a register, as hardware sets status bits. -/
def Dev.orReg (d : Dev) (a : Nat) (m : Word) : Dev := d.setReg a (d.reg a ||| m)

/-- Count one more in a saturating field. -/
def Dev.incFld (d : Dev) (a hi lo : Nat) : Dev := d.setFld a hi lo (satInc (hi + 1 - lo) (d.fld a hi lo))

/-- Count one more in a field that wraps. -/
def Dev.wrapFld (d : Dev) (a hi lo : Nat) : Dev := d.setFld a hi lo (d.fld a hi lo + 1)

/-- Apply an operation for every element of a list, first to last. -/
def Dev.each {α : Type} (xs : List α) (f : α → Dev → Dev) (d : Dev) : Dev := xs.foldl (fun d x => f x d) d

/-- Apply an operation only when a condition holds. -/
def Dev.when (b : Bool) (f : Dev → Dev) (d : Dev) : Dev := if b then f d else d

/-! ### Snarl reports (R418) -/

/-- Instance i of source s. -/
def srcInst (s i : Nat) : SrcInst := ⟨BitVec.ofNat 8 s, BitVec.ofNat 7 i⟩

/-- A checker drives its pair to (1,0): the report stands until the Snarl samples it; a pair already at fault is the
same event (R418). -/
def Dev.raise (d : Dev) (s i : Nat) : Dev :=
  if (srcInst s i) ∈ d.reports then d else { d with reports := d.reports ++ [srcInst s i] }

/-! ### Parts of the device -/

def Dev.modCr (d : Dev) (f : CoreSt → CoreSt) : Dev := { d with cr := f d.cr }
def Dev.modPt (d : Dev) (f : PortSt → PortSt) : Dev := { d with pt := f d.pt }
def Dev.modSn (d : Dev) (f : SnarlSt → SnarlSt) : Dev := { d with sn := f d.sn }
def Dev.modPl (d : Dev) (f : PolicySt → PolicySt) : Dev := { d with pl := f d.pl }
def Dev.modSu (d : Dev) (f : SupplySt → SupplySt) : Dev := { d with su := f d.su }
def Dev.modFl (d : Dev) (f : FlashSt → FlashSt) : Dev := { d with fl := f d.fl }
def Dev.modSv (d : Dev) (f : SessionSt → SessionSt) : Dev := { d with sv := f d.sv }
def Dev.modLk (d : Dev) (f : LinkSt → LinkSt) : Dev := { d with lk := f d.lk }

/-- What the last access answered. -/
def Dev.answer (d : Dev) (a : Access) : Dev := { d with lastAccess := a }

/-! ### Source numbers (R420) -/

namespace Src
def LINEFLT : Nat := 0
def DST_LSM : Nat := 1
def DST_WDG : Nat := 2
def CLK_REF : Nat := 3
def GOV_STEP : Nat := 4
def THM_CSTOP : Nat := 8
def THM_CINH : Nat := 9
def THM_WARN : Nat := 10
def THM_THROT : Nat := 11
def THM_SHUT : Nat := 12
def THM_CUT : Nat := 13
def PIN_SOFF : Nat := 14
def PIN_SASC : Nat := 15
def SKN_CE : Nat := 16
def SKN_UE : Nat := 17
def SKN_HANG : Nat := 18
def SKN_LOCKBRK : Nat := 19
def CNV_FAIL : Nat := 32
def CNV_TLOST : Nat := 33
def CNV_WC0 : Nat := 34
def CNV_WC1 : Nat := 35
def SDM_STUCK : Nat := 36
def SDM_FAST : Nat := 37
def HKP_LIM : Nat := 38
def HKP_HVSUP : Nat := 39
def POS_ENCERR : Nat := 40
def POS_HALLILL : Nat := 41
def SPN_LSM : Nat := 48
def SPN_TRAP : Nat := 49
def SPN_MISS : Nat := 50
def SPN_OVR : Nat := 51
def SPN_FBF : Nat := 52
def BOB_LSM : Nat := 64
def BOB_DTRAP : Nat := 65
def BOB_WDG : Nat := 66
def WHL_TRIP : Nat := 80
def WHL_SLOTERR : Nat := 81
def HVP_SC : Nat := 96
def HVP_SCLAT : Nat := 97
def HVP_SCM : Nat := 98
def HVP_UV : Nat := 99
def HVP_OT : Nat := 100
def HVP_STFAIL : Nat := 101
def HVP_LINK : Nat := 102
def LVP_SC : Nat := 112
def LVP_SCLAT : Nat := 113
def LVP_SCM : Nat := 114
def LVP_GDUV : Nat := 115
def LVP_BOOTUV : Nat := 116
def LVP_OT : Nat := 117
def LVP_STFAIL : Nat := 118
def LVP_BUSOV : Nat := 119
def LVP_LINK : Nat := 120
end Src

/-! ### Time (R17: 480 CLK_MOD ticks in a microsecond) -/

def ticksUs (n : Nat) : Nat := 480 * n

def ticksMs (n : Nat) : Nat := 480000 * n

/-! ### Modes (R455) -/

/-- The device mode code, DST_MODE.CUR (R455). -/
def Dev.mode (d : Dev) : Nat := d.fld Reg.DST_MODE 3 0

/-! ### Meanings -/

/-- A meaning that always completes: the next state has the operated device and the same queue. -/
def State.act (s : State) (f : Dev → Dev) : Host.Outcome State Fault Refusal := .next (s.withDev (f s.dev))

end Sys2Proof.Machine
end

