-- ==== Sys2Proof/Machine/Units.lean ====
section
/-! DEFINITION. Reading, writing and modifying the state of one numbered unit. -/

namespace Sys2Proof.Machine

def Dev.hank (d : Dev) (i : Nat) : Hank := smGet (fun _ => Hank.empty) d.sk.hanks i

def Dev.setHank (d : Dev) (i : Nat) (u : Hank) : Dev :=
  { d with sk := { d.sk with hanks := smSet (fun _ => Hank.empty) d.sk.hanks i u } }

def Dev.modHank (d : Dev) (i : Nat) (f : Hank → Hank) : Dev := d.setHank i (f (d.hank i))

def Dev.lane (d : Dev) (i : Nat) : Lane := smGet (fun _ => Lane.reset) d.ms.lanes i

def Dev.setLane (d : Dev) (i : Nat) (u : Lane) : Dev :=
  { d with ms := { d.ms with lanes := smSet (fun _ => Lane.reset) d.ms.lanes i u } }

def Dev.modLane (d : Dev) (i : Nat) (f : Lane → Lane) : Dev := d.setLane i (f (d.lane i))

def Dev.sdm (d : Dev) (i : Nat) : Sdm := smGet (fun _ => Sdm.reset) d.ms.sdms i

def Dev.setSdm (d : Dev) (i : Nat) (u : Sdm) : Dev :=
  { d with ms := { d.ms with sdms := smSet (fun _ => Sdm.reset) d.ms.sdms i u } }

def Dev.modSdm (d : Dev) (i : Nat) (f : Sdm → Sdm) : Dev := d.setSdm i (f (d.sdm i))

def Dev.spn (d : Dev) (i : Nat) : Spindle := smGet (fun _ => Spindle.reset) d.cr.spindles i

def Dev.setSpn (d : Dev) (i : Nat) (u : Spindle) : Dev :=
  { d with cr := { d.cr with spindles := smSet (fun _ => Spindle.reset) d.cr.spindles i u } }

def Dev.modSpn (d : Dev) (i : Nat) (f : Spindle → Spindle) : Dev := d.setSpn i (f (d.spn i))

def Dev.loop (d : Dev) (i : Nat) : Loop := smGet (fun _ => Loop.reset) d.cr.loops i

def Dev.setLoop (d : Dev) (i : Nat) (u : Loop) : Dev :=
  { d with cr := { d.cr with loops := smSet (fun _ => Loop.reset) d.cr.loops i u } }

def Dev.modLoop (d : Dev) (i : Nat) (f : Loop → Loop) : Dev := d.setLoop i (f (d.loop i))

def Dev.bob (d : Dev) (i : Nat) : Bobbin := smGet (fun _ => Bobbin.reset) d.cr.bobbins i

def Dev.setBob (d : Dev) (i : Nat) (u : Bobbin) : Dev :=
  { d with cr := { d.cr with bobbins := smSet (fun _ => Bobbin.reset) d.cr.bobbins i u } }

def Dev.modBob (d : Dev) (i : Nat) (f : Bobbin → Bobbin) : Dev := d.setBob i (f (d.bob i))

def Dev.tb (d : Dev) (i : Nat) : Timebase := smGet (fun _ => Timebase.reset) d.md.tbs i

def Dev.setTb (d : Dev) (i : Nat) (u : Timebase) : Dev :=
  { d with md := { d.md with tbs := smSet (fun _ => Timebase.reset) d.md.tbs i u } }

def Dev.modTb (d : Dev) (i : Nat) (f : Timebase → Timebase) : Dev := d.setTb i (f (d.tb i))

def Dev.whorl (d : Dev) (i : Nat) : Whorl := smGet (fun _ => Whorl.reset) d.md.whorls i

def Dev.setWhorl (d : Dev) (i : Nat) (u : Whorl) : Dev :=
  { d with md := { d.md with whorls := smSet (fun _ => Whorl.reset) d.md.whorls i u } }

def Dev.modWhorl (d : Dev) (i : Nat) (f : Whorl → Whorl) : Dev := d.setWhorl i (f (d.whorl i))

def Dev.port (d : Dev) (i : Nat) : Port := smGet (fun _ => Port.reset) d.pt.ports i

def Dev.setPort (d : Dev) (i : Nat) (u : Port) : Dev :=
  { d with pt := { d.pt with ports := smSet (fun _ => Port.reset) d.pt.ports i u } }

def Dev.modPort (d : Dev) (i : Nat) (f : Port → Port) : Dev := d.setPort i (f (d.port i))

def Dev.reel (d : Dev) (i : Nat) : Reel := smGet (fun _ => Reel.reset) d.tn.reels i

def Dev.setReel (d : Dev) (i : Nat) (u : Reel) : Dev :=
  { d with tn := { d.tn with reels := smSet (fun _ => Reel.reset) d.tn.reels i u } }

def Dev.modReel (d : Dev) (i : Nat) (f : Reel → Reel) : Dev := d.setReel i (f (d.reel i))

def Dev.enc (d : Dev) (i : Nat) : Encoder := smGet (fun _ => Encoder.reset) d.ps.encs i

def Dev.setEnc (d : Dev) (i : Nat) (u : Encoder) : Dev :=
  { d with ps := { d.ps with encs := smSet (fun _ => Encoder.reset) d.ps.encs i u } }

def Dev.modEnc (d : Dev) (i : Nat) (f : Encoder → Encoder) : Dev := d.setEnc i (f (d.enc i))

def Dev.hall (d : Dev) (i : Nat) : Hall := smGet (fun _ => Hall.reset) d.ps.halls i

def Dev.setHall (d : Dev) (i : Nat) (u : Hall) : Dev :=
  { d with ps := { d.ps with halls := smSet (fun _ => Hall.reset) d.ps.halls i u } }

def Dev.modHall (d : Dev) (i : Nat) (f : Hall → Hall) : Dev := d.setHall i (f (d.hall i))

def Dev.exc (d : Dev) (i : Nat) : Excite := smGet (fun _ => Excite.reset) d.ps.excs i

def Dev.setExc (d : Dev) (i : Nat) (u : Excite) : Dev :=
  { d with ps := { d.ps with excs := smSet (fun _ => Excite.reset) d.ps.excs i u } }

def Dev.modExc (d : Dev) (i : Nat) (f : Excite → Excite) : Dev := d.setExc i (f (d.exc i))

def Dev.fn (d : Dev) (i : Nat) : Fn := smGet (fun _ => Fn.reset) d.pl.fns i

def Dev.setFn (d : Dev) (i : Nat) (u : Fn) : Dev :=
  { d with pl := { d.pl with fns := smSet (fun _ => Fn.reset) d.pl.fns i u } }

def Dev.modFn (d : Dev) (i : Nat) (f : Fn → Fn) : Dev := d.setFn i (f (d.fn i))

def Dev.link (d : Dev) (i : Nat) : Link := smGet (fun _ => Link.reset) d.lk.links i

def Dev.setLink (d : Dev) (i : Nat) (u : Link) : Dev :=
  { d with lk := { d.lk with links := smSet (fun _ => Link.reset) d.lk.links i u } }

def Dev.modLink (d : Dev) (i : Nat) (f : Link → Link) : Dev := d.setLink i (f (d.link i))

def Dev.snlCnt (d : Dev) (i : Nat) : SnlCnt := smGet (fun _ => SnlCnt.reset) d.sn.counts i

def Dev.setSnlCnt (d : Dev) (i : Nat) (u : SnlCnt) : Dev :=
  { d with sn := { d.sn with counts := smSet (fun _ => SnlCnt.reset) d.sn.counts i u } }

def Dev.modSnlCnt (d : Dev) (i : Nat) (f : SnlCnt → SnlCnt) : Dev := d.setSnlCnt i (f (d.snlCnt i))

/-! ### The clock (R19, R20) -/

/-- Whether the PLL runs, locked or free (CLK_STAT): until it does, only the always-on domain and the boot ROM clock
run. -/
def Dev.clocked (d : Dev) : Bool := d.rbit Reg.CLK_STAT 0 || d.rbit Reg.CLK_STAT 1

/-- A command of the logic that the PLL clocks: without the PLL nothing of it happens (R19). -/
def State.run (s : State) (f : Dev → Dev) : Host.Outcome State Fault Refusal :=
  s.act fun d => if d.clocked then f d else d

/-- A command of the Distaff's ROM firmware and the flash that it writes, which BOOT runs on the boot ROM clock before the PLL
locks (R19, R466). -/
def State.rom (s : State) (f : Dev → Dev) : Host.Outcome State Fault Refusal :=
  s.act fun d => if d.clocked || decide (d.mode = 1) then f d else d

/-! ### Filtered inputs (R271, R325) -/

/-- The time since which a land differs from the accepted level, after it shows a level. -/
def feed (acc : Bool) (p : Option Nat) (v : Bool) (now : Nat) : Option Nat := if v = acc then none else some (p.getD now)

/-- Whether a land has differed for the filter's ticks. -/
def stable (p : Option Nat) (filt now : Nat) : Bool := p.any fun t => decide (t + filt ≤ now)

/-! ### Functions of the policy (R448) -/

/-- The valid entry of a function. -/
def Dev.fnEntry (d : Dev) (f : Nat) : Option FnEntry := (d.fn f).entry.filter fun e => e.v

/-- The ports of a function, in order. -/
def portsOf (e : FnEntry) : List Nat := (List.range 64).filter fun n => e.ports.getLsbD n

/-- Whether a port belongs to a function that the library sequences. -/
def Dev.sequenced (d : Dev) (n : Nat) : Bool :=
  (List.range 32).any fun f => (d.fn f).desc.isSome && (d.fnEntry f).any fun e => e.ports.getLsbD n

end Sys2Proof.Machine
end

