-- ==== Sys2Proof/Machine/Skein.lean ====
section
/-! DEFINITION. The Skein (02_skein_and_flyer.md): bytes and words with their check marks, hanks, ply locks, the
accesses a unit makes, and the Flyer that grants draws beat by beat. -/

namespace Sys2Proof.Machine

def Dev.modSk (d : Dev) (f : SkeinSt → SkeinSt) : Dev := { d with sk := f d.sk }

/-! ### Bytes, words and marks -/

/-- A byte of the Skein; what nothing has written reads 0 (R467, R470). -/
def Dev.byte (d : Dev) (a : Nat) : Byte := smGet (fun _ => 0) d.sk.mem a

def Dev.setByte (d : Dev) (a : Nat) (b : Byte) : Dev := d.modSk fun s => { s with mem := smSet (fun _ => 0) s.mem a b }

/-- The bytes from an address on. -/
def Dev.bytes (d : Dev) (a n : Nat) : List Byte := (List.range n).map fun i => d.byte (a + i)

def Dev.setBytes (d : Dev) (a : Nat) : List Byte → Dev
  | [] => d
  | b :: bs => (d.setByte a b).setBytes (a + 1) bs

/-- A word is little-endian (R11). -/
def wordOfBytes (bs : List Byte) : Word := bs.foldr (fun b w => (w <<< 8) ||| b.setWidth 32) 0

def dwordOfBytes (bs : List Byte) : DWord := bs.foldr (fun b w => (w <<< 8) ||| b.setWidth 64) 0

def bytesOfWord (w : Word) : List Byte :=
  [w.extractLsb' 0 8, w.extractLsb' 8 8, w.extractLsb' 16 8, w.extractLsb' 24 8]

def bytesOfDword (w : DWord) : List Byte := bytesOfWord (w.extractLsb' 0 32) ++ bytesOfWord (w.extractLsb' 32 32)

def Dev.word (d : Dev) (a : Nat) : Word := wordOfBytes (d.bytes a 4)

def Dev.words (d : Dev) (a n : Nat) : List Word := (List.range n).map fun i => d.word (a + 4 * i)

/-- The mark of the word that holds an address. -/
def Dev.ecc (d : Dev) (a : Nat) : Ecc := smGet (fun _ => .good) d.sk.ecc (a / 4)

def Dev.setEcc (d : Dev) (a : Nat) (e : Ecc) : Dev :=
  d.modSk fun s => { s with ecc := smSet (fun _ => .good) s.ecc (a / 4) e }

/-- The physical bank that serves a logical bank (SKN_MAP). -/
def Dev.physBank (d : Dev) (lb : Nat) : Nat := d.fld (Reg.SKN_MAP (lb / 4)) (8 * (lb % 4) + 4) (8 * (lb % 4))

/-- The logical bank of a Skein address (R27). -/
def bankOf (a : Nat) : Nat := a / 0x100000

/-- A corrected word (R74): written back, counted, CE set, SKN_CE raised for the physical bank. -/
def Dev.noteCe (d : Dev) (a : Nat) : Dev :=
  (((d.setEcc a .good).incFld Reg.SKN_CECNT 15 0).setRbit Reg.SKN_STAT 0 true).raise Src.SKN_CE (d.physBank (bankOf a))

/-- An uncorrectable or poisoned word (R75, R79): UE, POIS when poisoned, SKN_UEADDR, SKN_UE raised. -/
def Dev.noteUe (d : Dev) (a : Nat) (pois : Bool) : Dev :=
  ((((d.setRbit Reg.SKN_STAT 1 true).when pois fun d => d.setRbit Reg.SKN_STAT 2 true).setReg Reg.SKN_UEADDR
    (BitVec.ofNat 32 (d.physBank (bankOf a) <<< 24 ||| a / 4 * 4)))).raise Src.SKN_UE (d.physBank (bankOf a))

/-- The check of one word at a read: whether it may be used. -/
def Dev.checkWord (d : Dev) (a : Nat) : Dev × Bool :=
  match d.ecc a with
  | .good => (d, true)
  | .correctable => (d.noteCe a, true)
  | .uncorrectable => (d.noteUe a false, false)
  | .poisoned => (d.noteUe a true, false)

/-- The check of every word of a range. -/
def Dev.checkWords (d : Dev) (a : Nat) : Nat → Dev × Bool
  | 0 => (d, true)
  | n + 1 =>
    let r := d.checkWord a
    let t := r.1.checkWords (a + 4) n
    (t.1, r.2 && t.2)

/-- The number of words that a range of bytes touches. -/
def wordsIn (a n : Nat) : Nat := if n = 0 then 0 else (a + n - 1) / 4 - a / 4 + 1

/-- Write bytes; a word written whole is good again (R79). -/
def Dev.putBytes (d : Dev) (a : Nat) (bs : List Byte) : Dev :=
  let d1 := d.setBytes a bs
  (List.range (wordsIn a bs.length)).foldl
    (fun e i =>
      let w := (a / 4 + i) * 4
      if a ≤ w ∧ w + 4 ≤ a + bs.length then e.setEcc w .good else e) d1

/-! ### Hanks (R43 to R47) -/

def Hank.bytes (h : Hank) : Nat := 2 ^ (h.size + 10)

def Hank.start (h : Hank) : Nat := h.base * 1024

/-- Whether a valid hank holds an address. -/
def Hank.holds (h : Hank) (a : Nat) : Bool := h.v && decide (h.start ≤ a) && decide (a < h.start + h.bytes)

/-- Ring, sample and reel kinds: written only by hank number (R44). -/
def Hank.queueKind (h : Hank) : Bool := decide (h.kind = 1 ∨ h.kind = 2 ∨ h.kind = 6)

/-- The valid hank that covers an address. -/
def Dev.hankAt (d : Dev) (a : Nat) : Option Hank := (d.sk.hanks.find? fun e => e.2.holds a).map Prod.snd

/-- The number of the valid hank that covers an address. -/
def Dev.hankNoAt (d : Dev) (a : Nat) : Option Nat := (d.sk.hanks.find? fun e => e.2.holds a).map Prod.fst

/-- The free space (R47): a sample or reel hank is never short of space. -/
def Hank.free (h : Hank) : Nat := if h.kind = 1 then h.bytes - h.fill else h.bytes

/-- WR and FILL after a whole draw (R49). -/
def Hank.advance (h : Hank) (n : Nat) : Hank :=
  { h with wr := (h.wr + n) % h.bytes, fill := min (h.fill + n) h.bytes }

/-- A reel hank makes room (R51): RD moves by the shortfall, rounded up to whole trace words of 8 bytes. -/
def Hank.makeRoom (h : Hank) (n : Nat) : Hank :=
  let short := h.fill + n - h.bytes
  let k := (short + 7) / 8 * 8
  if h.fill + n ≤ h.bytes then h else { h with rd := (h.rd + k) % h.bytes, fill := h.fill - k }

/-! ### Requesters, cuts and ply locks -/

/-- Whether a requester's port is cut (R64): its bit of SKN_CUT. -/
def Dev.isCut (d : Dev) (req : Nat) : Bool := d.rbit (Reg.SKN_CUT (req / 32)) (req % 32)

/-- The lock table's entry of a requester (Ply locks): Spindles, Bobbins, the Distaff. -/
def lockIdx (req : Nat) : Option Nat :=
  if 18 ≤ req ∧ req ≤ 35 then some (req - 18) else if 100 ≤ req ∧ req ≤ 103 then some (req - 100 + 18) else none

/-- The line that a requester holds locked. -/
def Dev.lockOf (d : Dev) (req : Nat) : Option Nat :=
  match lockIdx req with
  | some i => smGet (fun _ => none) d.sk.locks i
  | none => none

def Dev.setLock (d : Dev) (req : Nat) (line : Option Nat) : Dev :=
  match lockIdx req with
  | some i => d.modSk fun s => { s with locks := smSet (fun _ => none) s.locks i line }
  | none => d

/-- Whether another requester owns the lock of a line. -/
def Dev.lockedBy (d : Dev) (req line : Nat) : Bool :=
  d.sk.locks.any fun e => decide (e.2 = some line) && decide (lockIdx req ≠ some e.1)

/-- Whether a line is marked lock-broken (R73). -/
def Dev.isBroken (d : Dev) (line : Nat) : Bool := smGet (fun _ => false) d.sk.broken line

def Dev.setBroken (d : Dev) (line : Nat) (b : Bool) : Dev :=
  d.modSk fun s => { s with broken := smSet (fun _ => false) s.broken line b }

/-- The lines of 64 bytes that a range touches. -/
def linesIn (a n : Nat) : List Nat := if n = 0 then [] else (List.range ((a + n - 1) / 64 - a / 64 + 1)).map (· + a / 64)

/-- The first line of a range that another requester holds locked. -/
def Dev.blockedLine (d : Dev) (req a n : Nat) : Option Nat := (linesIn a n).find? fun l => d.lockedBy req l

def Dev.anyBroken (d : Dev) (a n : Nat) : Bool := (linesIn a n).any fun l => d.isBroken l

/-- The first write under a new lock of a line clears its mark (R73). -/
def Dev.clearMarks (d : Dev) (req a n : Nat) : Dev :=
  (linesIn a n).foldl (fun e l => if e.lockOf req = some l then e.setBroken l false else e) d

/-- How an access of a unit ends: done (with LOCKBRK or not), refused, or waiting, with its request raised, for a locked
line (R66) or behind a requester that holds the bank (R63). -/
inductive SkRes where
  | done (lockbrk : Bool)
  | refused (st : DrawStatus)
  | wait
  deriving DecidableEq, Repr

/-- The status that a completed access leaves with its requester. -/
def Dev.setStatus (d : Dev) (req : Nat) (st : DrawStatus) : Dev :=
  d.modSk fun s => { s with status := smSet (fun _ => .none) s.status req st }

/-! ### What a completed write starts (R230, R255) -/

/-- Requester numbers (R54). -/
def reqSpn (p : Nat) : Nat := 18 + p
def reqWhl (n : Nat) : Nat := 36 + n
def reqBob (b : Nat) : Nat := 100 + b
def reqDistaff : Nat := 103

/-- The live copy of a coefficient entry, by hank and entry (R230). -/
def liveKey (hank entry : Nat) : Nat := hank * 256 + entry

/-- Whether KH0 or KH1 of a Spindle's loop names a hank. -/
def Dev.namesCoef (d : Dev) (p hank : Nat) : Bool :=
  (List.range 4).any fun l =>
    decide (d.fld (Reg.SPN_LHANK p l) 15 8 = hank) || decide (d.fld (Reg.SPN_LHANK p l) 23 16 = hank)

/-- Whether a Spindle keeps a live copy of a hank: it or the target of a hot spare (R238) names it. -/
def Dev.keepsLive (d : Dev) (p hank : Nat) : Bool :=
  d.namesCoef p hank ||
    (decide (16 ≤ p) && d.rbit (Reg.SPN_HOT p) 0 && d.namesCoef (d.fld (Reg.SPN_HOT p) 5 1) hank)

/-- The 64-bit entry of a coefficient hank (R127); beyond the hank it reads 0 (R129). -/
def Dev.hankEntry (d : Dev) (h : Hank) (e : Nat) : DWord :=
  if 8 * e + 8 ≤ h.bytes then dwordOfBytes (d.bytes (h.start + 8 * e) 8) else 0

/-- A store into a coefficient hank updates the live copies at once (R230). -/
def Dev.liveUpdate (d : Dev) (hank : Nat) (h : Hank) (a n : Nat) : Dev :=
  let lo := (a - h.start) / 8
  let hi := (a + n - 1 - h.start) / 8
  (List.range 18).foldl
    (fun e p =>
      if e.keepsLive p hank then
        (List.range (hi - lo + 1)).foldl
          (fun e i =>
            if lo + i < 256 then
              e.modSpn p fun s => { s with live := smSet (fun _ => 0) s.live (liveKey hank (lo + i)) (e.hankEntry h (lo + i)) }
            else e) e
      else e) d

/-- A Whorl whose slot beat a write touched owes a prefetch (R255): every one with OSRC = image. -/
def Dev.slotNotices (d : Dev) (a n : Nat) : Dev :=
  (List.range 64).foldl
    (fun e i =>
      let s := e.fld (Reg.WHL_SLOT i) 23 4
      if a / 16 ≤ s ∧ s ≤ (a + n - 1) / 16 ∧ e.fld (Reg.WHL_CTL i) 15 14 = 0 then
        e.modWhorl i fun w => { w with notice := true }
      else e) d

/-- What follows a completed write: slot notices in a duty hank, live copies of a coefficient hank. -/
def Dev.afterWrite (d : Dev) (a n : Nat) : Dev :=
  match d.sk.hanks.find? fun e => e.2.holds a with
  | some (i, h) => if h.kind = 5 then d.slotNotices a n else if h.kind = 4 then d.liveUpdate i h a n else d
  | none => d

/-- What a bank copy still has to read once more after a write of n bytes (R77 to R79): a word written whole stands good in
both banks, and a beat read but not yet written that the write touched is discarded with all that was read of it. -/
def Copy.touch (c : Copy) (a n : Nat) : Copy :=
  let b := c.bank * 65536 + c.next
  let again := c.held && decide (a / 16 ≤ b) && decide (b ≤ (a + n - 1) / 16)
  { c with
    held := c.held && !again,
    bad := c.bad.filter fun w => !(decide (a ≤ w) && decide (w + 4 ≤ a + n)) && !(again && decide (w / 16 = b)) }

/-- A write goes to both banks of a copy (R77, R78). -/
def Dev.copyTouch (d : Dev) (a n : Nat) : Dev := d.modSk fun s => { s with copy := s.copy.map fun c => c.touch a n }

/-- Write bytes into the Skein and do what follows. -/
def Dev.writeBytes (d : Dev) (req a : Nat) (bs : List Byte) : Dev :=
  (((d.putBytes a bs).copyTouch a bs.length).clearMarks req a bs.length).afterWrite a bs.length

/-! ### Sample windows (R21, R189, R218) -/

def Dev.nslot (d : Dev) (p s : Nat) : Nat := d.fld (Reg.SPN_SDEF p s) 4 0

/-- The source of a slot: decimator or not, unit, channel (SPN_SSRC). -/
def Dev.slotSrc (d : Dev) (p s j : Nat) : Bool × Nat × Nat :=
  let r := Reg.SPN_SSRC p s (j / 2)
  if j % 2 = 0 then (d.rbit r 15, d.fld r 12 8, d.fld r 3 0) else (d.rbit r 31, d.fld r 28 24, d.fld r 19 16)

def Spindle.win (x : Spindle) (s : Nat) : SetWin := smGet (fun _ => SetWin.reset) x.sets s

def Dev.modWin (d : Dev) (p s : Nat) (f : SetWin → SetWin) : Dev :=
  d.modSpn p fun x => { x with sets := smSet (fun _ => SetWin.reset) x.sets s (f (x.win s)) }

def SetWin.slot (w : SetWin) (j : Nat) : Option Word := smGet (fun _ => none) w.filling j

/-- A result fills the free slots that name its source (R21, R218): a lane slot only by a scan accepted at or after the
opening, a decimator slot only by an output completed at or after it. -/
def Dev.fillSlots (d : Dev) (decim : Bool) (unit ch : Nat) (w : Word) (seq : Nat) : Dev :=
  d.cr.spindles.foldl
    (fun e sp => sp.2.sets.foldl
      (fun e sw => (List.range (e.nslot sp.1 sw.1)).foldl
        (fun e j =>
          let x := (e.spn sp.1).win sw.1
          let src := e.slotSrc sp.1 sw.1 j
          if x.opened && (x.slot j).isNone && decide (src.1 = decim) && decide (src.2.1 = unit) &&
              (decim || decide (src.2.2 = ch)) && decide (x.openSeq ≤ seq) then
            e.modWin sp.1 sw.1 fun x => { x with filling := smSet (fun _ => none) x.filling j (some w) }
          else e) e) e) d

/-! ### What the end of a draw does -/

/-- The Skein requester of a core (R54). -/
def coreReq : Core → Nat
  | .spn p => reqSpn p
  | .bob b => reqBob b

/-- LB of R202 set by an access that completed with LOCKBRK. -/
def Dev.noteLb (d : Dev) (c : Core) (brk : Bool) : Dev :=
  if brk then
    match c with
    | .spn p => d.modSpn p fun s => { s with lb := true }
    | .bob b => d.modBob b fun s => { s with lb := true }
  else d

/-- LB of a Spindle, by its number. -/
def Dev.noteSpnLb (d : Dev) (p : Nat) (brk : Bool) : Dev := if brk then d.modSpn p fun s => { s with lb := true } else d

/-- The trap cause of an access the Skein refused (R155, R207). -/
def causeOf (st : DrawStatus) : Nat :=
  match st with
  | .cut => 0x0A
  | .errorStatus => 0x0A
  | .eccError => 0x0B
  | .ringRefused => 0x0C
  | .lockFault => 0x12
  | _ => 0x09

/-- Whether a draw ended with its accesses done. -/
def DrawStatus.good : DrawStatus → Bool
  | .ok => true
  | .lockbrk => true
  | _ => false

/-- A refused draw of a core is kept until its trap (R155). -/
def Dev.noteRefused (d : Dev) (c : Core) (st : DrawStatus) (pc ea : Word) (loop : Nat) : Dev :=
  match c with
  | .spn p => d.modSpn p fun s => { s with refused := s.refused ++ [⟨causeOf st, ea, pc, loop⟩] }
  | .bob b => d.modBob b fun s => { s with refused := s.refused ++ [⟨causeOf st, ea, pc, loop⟩] }

/-- A word of a checkpoint. -/
def ckptWord (bs : List Byte) (a : Nat) : Word := wordOfBytes ((bs.drop a).take 4)

/-- The committed context that a state checkpoint holds (R199): v16 to v31, a0 to a3, the period count, SEQ and the
substitution counts. -/
def Loop.ofCkpt (x : Loop) (bs : List Byte) : Loop :=
  { x with v := (List.range 16).foldl (fun m i => smSet (fun _ => 0) m (16 + i) (ckptWord bs (4 * i))) [],
           a := (List.range 4).foldl (fun m i => smSet (fun _ => 0) m i (dwordOfBytes ((bs.drop (64 + 8 * i)).take 8))) [],
           pcount := (ckptWord bs 0x64).toNat, lastSeq := bitsOf (ckptWord bs 0x68) 7 0,
           substCnt := (List.range 16).foldl (fun m i => smSet (fun _ => 0) m i ((bs[0x70 + i]?).getD 0).toNat) [] }

/-- The last draw of a link's record completes (R523): RXCNT, RXF, and the place the ring rolls back to. -/
def Dev.linkCounted (d : Dev) (l : Nat) : Dev :=
  let d1 := (d.wrapFld (Reg.LNK_RXCNT l) 31 0).setRbit (Reg.LNK_STAT l) 1 true
  d1.modLink l fun x => { x with wr := (d1.hank (d1.fld (Reg.LNK_CTL l) 15 8)).wr }

/-- A frame lost because the link's port is cut (R64). -/
def Dev.linkCut (d : Dev) (l : Nat) : Dev :=
  ((d.setRbit (Reg.LNK_STAT l) 3 true).raise 164 l).raise 160 l

/-- What the end of a draw means to who issued it. -/
def Dev.tagEnd (d : Dev) (t : DrawTag) (st : DrawStatus) (data : List Byte) (got : List Word) : Dev :=
  match t with
  | .plain => d
  | .core c pc ea loop => if st.good then d.noteLb c (decide (st = .lockbrk)) else d.noteRefused c st pc ea loop
  | .checkpoint p l =>
    if st.good then (d.modLoop (4 * p + l) fun x => x.ofCkpt data).noteSpnLb p (decide (st = .lockbrk)) else d
  | .image p => d.noteSpnLb p (decide (st = .lockbrk))
  | .sample decim unit ch w seq => if st.good then d.fillSlots decim unit ch w seq else d
  | .prefetch n => d.modWhorl n fun w => { w with beat := if st.good then .words got else .error }
  | .record l _ last => if st.good then (if last then d.linkCounted l else d) else d.linkCut l
  | .position stat bit => if st.good then d else d.setRbit stat bit true
  | .reel n k => d.modReel n fun r =>
      if k ≤ r.raised then { r with held := r.held.drop k, raised := r.raised - k } else r
  | .capture => { d with tn := { d.tn with inj :=
      if 0 < d.tn.inj.raised then { d.tn.inj with beats := d.tn.inj.beats.drop 1, raised := d.tn.inj.raised - 1 }
      else d.tn.inj } }

/-- The end of a draw: the status its requester has, and what follows for it. -/
def Dev.drawEnd (d : Dev) (x : Draw) (st : DrawStatus) : Dev := (d.setStatus x.req st).tagEnd x.tag st x.data x.got

/-! ### The Flyer (R54 to R58, R63 to R66) -/

/-- The class of a draw by its traffic (R55, R153): results, commits and prefetches 0; a Spindle's other accesses 1;
Bobbins and the Distaff 2; links 3; Reels, capture, flash copy, rebuild and scrub 4. -/
def classOf (req : Nat) (commit : Bool) : Nat :=
  if req < 18 then 0
  else if req < 36 then (if commit then 0 else 1)
  else if req < 100 then 0
  else if req < 104 then 2
  else if req < 122 then 3
  else 4

def Dev.drawsOf (d : Dev) (bank : Nat) : List Draw := smGet (fun _ => []) d.sk.draws bank

def Dev.setDraws (d : Dev) (bank : Nat) (q : List Draw) : Dev :=
  d.modSk fun s => { s with draws := smSet (fun _ => []) s.draws bank q }

/-- The offset at which a hank draw of n bytes stands: where it was placed, else the hank's WR. -/
def Dev.drawOff (d : Dev) (x : Draw) (h : Nat) : Nat := if x.granted then x.start else (d.hank h).wr

/-- The bytes before the wrap: all of them for a draw by address (R48). -/
def Dev.firstPart (d : Dev) (x : Draw) : Nat :=
  match x.hank with
  | some h => min x.len ((d.hank h).bytes - d.drawOff x h)
  | none => x.len

/-- The address of a draw's next beat; a draw into a hank goes on at the hank's start (R48). -/
def Dev.beatAddr (d : Dev) (x : Draw) : Nat :=
  match x.hank with
  | some h => (d.hank h).start + (d.drawOff x h + x.done) % (d.hank h).bytes
  | none => x.start + x.done

/-- The bytes of a draw's next beat: a beat ends with its part (R48). -/
def Dev.beatLen (d : Dev) (x : Draw) : Nat :=
  if x.done < d.firstPart x then min 16 (d.firstPart x - x.done) else min 16 (x.len - x.done)

/-- Whether the next beat is a write that another requester's lock of its line holds back (R66). -/
def Dev.drawBlocked (d : Dev) (x : Draw) : Bool :=
  x.write && (d.blockedLine x.req (d.beatAddr x) (d.beatLen x)).isSome

/-- A blocked write waits, unless its requester holds a lock itself: that one faults (R68). -/
def Dev.drawWaits (d : Dev) (x : Draw) : Bool := d.drawBlocked x && (d.lockOf x.req).isNone

/-- A granted draw whose requester has stopped (R63): it keeps the grant. -/
def Draw.stuck (x : Draw) : Bool := x.granted && decide (x.supply = some x.beats)

/-- Whether a stuck draw keeps a class of a bank waiting: its own class and all lower ones; in class 0 every class
(R63, R65). -/
def Dev.bankHeld (d : Dev) (bank cls : Nat) : Bool := (d.drawsOf bank).any fun x => x.stuck && decide (x.cls ≤ cls)

/-- A draw that comes first in its class: a preempted one, and the second part of a split one (R48, R56); class 0 takes
its turn at every beat (R58). -/
def Dev.drawFirst (d : Dev) (x : Draw) : Bool :=
  x.granted && (decide (x.cls ≠ 0) || (decide (0 < x.done) && decide (d.firstPart x ≤ x.done)))

/-- The place of a requester in the round-robin after the one last granted (R56). -/
def rrPlace (last : Option Nat) (req : Nat) : Nat :=
  match last with
  | none => req
  | some r => (req + 132 - r) % 133

def Dev.lastGrant (d : Dev) (bank cls : Nat) : Option Nat := smGet (fun _ => none) d.sk.lastGrant (5 * bank + cls)

/-- The requester granted in a class of a bank. -/
def Dev.noteGrant (d : Dev) (bank cls req : Nat) : Dev :=
  d.modSk fun s => { s with lastGrant := smSet (fun _ => none) s.lastGrant (5 * bank + cls) (some req) }

/-- The draw that comes first of two in one class (R56). -/
def Dev.drawBefore (d : Dev) (last : Option Nat) (x y : Draw) : Bool :=
  if d.drawFirst x ≠ d.drawFirst y then d.drawFirst x else decide (rrPlace last x.req < rrPlace last y.req)

/-- The best of a list, the earlier one where neither comes first (R41). -/
def Dev.bestDraw (d : Dev) (last : Option Nat) : List Draw → Option Draw
  | [] => none
  | x :: xs => match d.bestDraw last xs with
    | none => some x
    | some y => if d.drawBefore last y x then some y else some x

/-- The oldest draw of each requester and class: the others stand behind it (R41). -/
def oldest : List Draw → List Draw
  | [] => []
  | x :: xs => x :: (oldest xs).filter fun y => decide (y.req ≠ x.req) || decide (y.cls ≠ x.cls)

/-- The draws of a bank that may be granted a beat now. -/
def Dev.raisedDraws (d : Dev) (bank : Nat) : List Draw :=
  (oldest (d.drawsOf bank)).filter fun x => !x.stuck && !d.drawWaits x && !d.bankHeld bank x.cls

/-- The draw whose beat the Flyer grants next: the highest class with a raised request (R56). -/
def Dev.flyerPick (d : Dev) (bank : Nat) : Option Draw :=
  (List.range 5).findSome? fun c =>
    d.bestDraw (d.lastGrant bank c) ((d.raisedDraws bank).filter fun x => decide (x.cls = c))

/-- The requester of the rebuild and scrub engine (R54). -/
def reqEngine : Nat := 131

/-- Whether the next beat of a bank is the copy's (R56, R77): a class-4 access of the engine, which takes its turn among the
requesters of its class. -/
def Dev.copyTurn (d : Dev) (bank : Nat) : Bool :=
  match d.sk.copy with
  | none => false
  | some c => decide (c.bank = bank) && decide (c.next < 65536) && !d.isCut reqEngine && !d.bankHeld bank 4 &&
      (match d.flyerPick bank with
        | none => true
        | some x => decide (x.cls = 4) && !d.drawFirst x &&
            decide (rrPlace (d.lastGrant bank 4) reqEngine < rrPlace (d.lastGrant bank 4) x.req))

/-- The copy reads a word (R74, R75, R79): an uncorrectable one is read once more at the end. -/
def Dev.copyWord (d : Dev) (a : Nat) : Dev :=
  let r := d.checkWord a
  if r.2 then r.1
  else r.1.modSk fun s => { s with copy := s.copy.map fun c => { c with bad := c.bad ++ [a] } }

/-- The words of a bank with a mark, from a beat on and before another. -/
def Dev.markedIn (d : Dev) (bank lo hi : Nat) : List Nat :=
  (d.sk.ecc.map fun e => 4 * e.1).filter fun a =>
    decide (bank * 0x100000 + 16 * lo ≤ a) && decide (a < bank * 0x100000 + 16 * hi)

/-- A beat of the copy (R77, R78): the beat that it holds is written into the spare, and the next one is read. -/
def Dev.copyBeat (d : Dev) : Dev :=
  match d.sk.copy with
  | none => d
  | some c =>
    let n := if c.held then c.next + 1 else c.next
    let d1 := ((d.modSk fun s => { s with copy := some { c with next := n, held := decide (n < 65536) } }).setReg
      Reg.SKN_RBPROG (BitVec.ofNat 32 n)).noteGrant c.bank 4 reqEngine
    if n < 65536 then (d1.markedIn c.bank n (n + 1)).foldl (fun e a => e.copyWord a) d1 else d1

/-- Replace the first draw equal to one. -/
def replaceDraw (x : Draw) (f : List Draw) : List Draw → List Draw
  | [] => []
  | y :: ys => if y = x then f ++ ys else y :: replaceDraw x f ys

def Dev.swapDraw (d : Dev) (bank : Nat) (x : Draw) (f : List Draw) : Dev :=
  d.setDraws bank (replaceDraw x f (d.drawsOf bank))

/-- Whether a draw of n bytes at a hank's WR would span two banks in either part (R39, R48). -/
def Hank.spans (h : Hank) (n : Nat) : Bool :=
  let m := min n (h.bytes - h.wr)
  decide (bankOf (h.start + h.wr) ≠ bankOf (h.start + h.wr + m - 1)) ||
    (decide (m < n) && decide (bankOf h.start ≠ bankOf (h.start + (n - m) - 1)))

/-- Free space judged as the first beat is granted (R50, R51): a full ring refuses the draw whole, a reel makes room. -/
def Dev.judge (d : Dev) (req hn n : Nat) : Dev × Option DrawStatus :=
  let h := d.hank hn
  if h.spans n then (d, some .accessError)
  else if h.free < n then
    ((d.setHank hn { h with drops := satInc 16 h.drops }).setRbit Reg.SKN_STAT 6 true, some .ringRefused)
  else if h.kind = 6 then
    ((d.setHank hn (h.makeRoom n)).when (decide (req = 132) && decide (h.bytes < h.fill + n)) fun d =>
      d.setRbit Reg.INJ_STAT 5 true, none)
  else (d, none)

/-- The first grant of a draw: one by hank number is placed at WR. -/
def Dev.firstGrant (d : Dev) (x : Draw) : Dev × Option DrawStatus × Draw :=
  match x.hank with
  | none => (d, none, { x with granted := true })
  | some hn =>
    let r := d.judge x.req hn x.len
    (r.1, r.2, { x with granted := true, start := (d.hank hn).wr })

/-- Write the bytes of a beat, but for the words without a write enable (R42). -/
def Dev.writeEnabled (d : Dev) (req a : Nat) (bs : List Byte) (gaps : List Nat) : Dev :=
  if gaps.isEmpty then d.writeBytes req a bs
  else (List.range (bs.length / 4)).foldl
    (fun e i => if i ∈ gaps then e else e.writeBytes req (a + 4 * i) ((bs.drop (4 * i)).take 4)) d

/-- One beat of a granted draw: bytes written, or words read with their marks checked. A byte or halfword is merged with the
word read, as a store that is granted at once (R42; notes/assumptions/61.md). -/
def Dev.doBeat (d : Dev) (x : Draw) : Dev × Draw :=
  let a := d.beatAddr x
  let n := d.beatLen x
  let brk := d.anyBroken a n
  let y := { x with done := x.done + n, beats := x.beats + 1, lockbrk := x.lockbrk || brk }
  if x.write then
    let r := if a % 4 ≠ 0 ∨ n % 4 ≠ 0 then d.checkWord a else (d, true)
    if r.2 then (r.1.writeEnabled x.req a ((x.data.drop x.done).take n) x.gaps, y) else (r.1, { y with failed := true })
  else
    let r := d.checkWords a (n / 4)
    (r.1, { y with failed := x.failed || !r.2, got := x.got ++ d.words a (n / 4) })

/-- What the last beat of a draw does (R49): WR and FILL advance, the requester learns how it ended. -/
def Dev.drawDone (d : Dev) (x : Draw) : Dev :=
  let st := if x.failed then DrawStatus.eccError else if x.lockbrk then .lockbrk else .ok
  (match x.hank with
    | some hn => d.setHank hn ((d.hank hn).advance x.len)
    | none => d).drawEnd x st

/-- The bank of the next beat. -/
def Dev.drawBank (d : Dev) (x : Draw) : Nat := bankOf (d.beatAddr x)

/-- A beat granted to a draw (R56, R57). A hank draw that earlier draws pushed into another bank is raised there; a
split draw goes on at once in the bank of its second part (R48). -/
def Dev.drawBeat (d : Dev) (bank : Nat) : Dev :=
  match d.flyerPick bank with
  | none => d
  | some x =>
    if d.drawBank x ≠ bank then
      let d1 := d.swapDraw bank x []
      d1.setDraws (d.drawBank x) (if x.granted then x :: d1.drawsOf (d.drawBank x) else d1.drawsOf (d.drawBank x) ++ [x])
    else
      let d0 := d.noteGrant bank x.cls x.req
      if d0.drawBlocked x then (d0.swapDraw bank x []).drawEnd x .lockFault
      else
        let g := if x.granted then (d0, none, x) else d0.firstGrant x
        match g.2.1 with
        | some st => (g.1.swapDraw bank x []).drawEnd x st
        | none =>
          if g.2.2.stuck then g.1.swapDraw bank x [g.2.2]
          else
            let r := g.1.doBeat g.2.2
            if x.len ≤ r.2.done then (r.1.swapDraw bank x []).drawDone r.2 else r.1.swapDraw bank x [r.2]

/-- One grant of a bank's Flyer: a beat of the bank copy whose turn it is, or of the draw that comes first (R56). -/
def Dev.flyerBeat (d : Dev) (bank : Nat) : Dev :=
  if (d.flyerPick bank).isSome && d.copyTurn bank then d.copyBeat else d.drawBeat bank

/-- Enough grants for every draw raised, with a beat of the bank copy before each. -/
def Dev.drawFuel (d : Dev) : Nat := d.sk.draws.foldl (fun n q => q.2.foldl (fun n x => n + x.len / 4 + 6) n) 1

/-- Grants until a draw of the bank ends, or none can be granted. -/
def Dev.flyerRun (d : Dev) (bank : Nat) : Nat → Dev
  | 0 => d
  | n + 1 =>
    let e := d.flyerBeat bank
    if (e.drawsOf bank).length < (d.drawsOf bank).length then e else e.flyerRun bank n

/-- Grants as long as a draw that is served by itself can be granted a beat. -/
def Dev.settleN (d : Dev) (bank : Nat) : Nat → Dev
  | 0 => d
  | n + 1 => if (d.raisedDraws bank).any fun x => x.auto then (d.flyerBeat bank).settleN bank n else d

def Dev.settle (d : Dev) (bank : Nat) : Dev := d.settleN bank d.drawFuel

def Dev.settleAll (d : Dev) : Dev := (List.range 16).foldl (fun e b => e.settle b) d

/-- Whether a draw raised comes before a new one of a class and requester (R41, R56). -/
def Dev.comesBefore (d : Dev) (bank cls req : Nat) (x : Draw) : Bool :=
  decide (x.cls < cls) ||
    (decide (x.cls = cls) && (d.drawFirst x || decide (x.req = req) ||
      decide (rrPlace (d.lastGrant bank cls) x.req < rrPlace (d.lastGrant bank cls) req)))

/-- Whether an earlier draw of a requester and class stands in the bank. -/
def Dev.behindOwn (d : Dev) (bank cls req : Nat) : Bool :=
  (d.drawsOf bank).any fun x => decide (x.req = req) && decide (x.cls = cls)

/-- The grants that come before a new access, and whether it is then granted itself. -/
def Dev.clearWayN (d : Dev) (bank cls req : Nat) : Nat → Dev × Bool
  | 0 => (d, false)
  | n + 1 =>
    if d.bankHeld bank cls then (d, false)
    else match d.flyerPick bank with
      | some x => if d.comesBefore bank cls req x then (d.flyerBeat bank).clearWayN bank cls req n
          else (d, !d.behindOwn bank cls req)
      | none => (d, !d.behindOwn bank cls req)

/-- The way of a new access to a bank: nothing stands before it in an idle bank. -/
def Dev.clearWay (d : Dev) (bank cls req : Nat) : Dev × Bool :=
  if (d.drawsOf bank).isEmpty then (d, true) else d.clearWayN bank cls req d.drawFuel

/-- A draw raised in a bank, and served as far as its turn comes. -/
def Dev.raiseDraw (d : Dev) (bank : Nat) (x : Draw) : Dev := (d.setDraws bank (d.drawsOf bank ++ [x])).settle bank

/-! ### Accesses of units -/

/-- A draw of a unit by address or, with `hank`, by hank number. -/
def unitDraw (req cls : Nat) (loop : Option Nat) (write : Bool) (hank : Option Nat) (a n : Nat) (bs : List Byte)
    (gaps : List Nat) (entry : Bool) (tag : DrawTag) : Draw :=
  { req := req, cls := cls, loop := loop, write := write, hank := hank, start := a, len := n, data := bs, gaps := gaps,
    entry := entry,
    supply := none, auto := true, tag := tag, done := 0, beats := 0, granted := false, lockbrk := false, failed := false,
    got := [] }

/-- Whether a range meets a hank that a write by address may not enter: a ring, sample or reel hank (R44), a coefficient
hank otherwise than by whole entries (R131). -/
def Dev.rangeRefuses (d : Dev) (a n : Nat) (entry : Bool) : Bool :=
  d.sk.hanks.any fun e => e.2.v && decide (e.2.start < a + n) && decide (a < e.2.start + e.2.bytes) &&
    (e.2.queueKind || (decide (e.2.kind = 4) && !(entry && decide (a % 8 = 0) && decide (n % 8 = 0))))

/-- Why the Skein refuses a write by address before it looks at locks: a cut port (R64), an address outside the Skein
(R27), two banks (R39), a hank that it may not enter (R44, R131). -/
def Dev.storeRefusal (d : Dev) (req a n : Nat) (entry : Bool) : Option DrawStatus :=
  if d.isCut req then some .cut
  else if 0x1000000 < a + n then some .accessError
  else if bankOf a ≠ bankOf (a + n - 1) then some .accessError
  else if d.rangeRefuses a n entry then some .accessError
  else none

/-- A store by address that is granted: a part of a word is merged with the word read (R42). Where that word is
uncorrectable or poisoned the store ends with error status and writes nothing (DESIGN CHOICE, notes/assumptions/61.md). -/
def Dev.storeNow (d : Dev) (req a : Nat) (bs : List Byte) (gaps : List Nat) : Dev × SkRes :=
  let part := decide (a % 4 ≠ 0) || decide (bs.length % 4 ≠ 0)
  let r := if part then d.checkWord a else (d, true)
  if r.2 then
    let brk := d.anyBroken a bs.length
    (((r.1.writeEnabled req a bs gaps).setStatus req (if brk then .lockbrk else .ok)), .done brk)
  else (r.1.setStatus req .eccError, .refused .eccError)

/-- Whether a class-0 access of several beats shares its bank with another class-0 draw, and takes its turns beat by beat
with it (R58). -/
def Dev.takesTurns (d : Dev) (bank cls n : Nat) : Bool :=
  decide (cls = 0) && decide (16 < n) && (d.raisedDraws bank).any fun x => decide (x.cls = 0)

/-- A store by address: refused at once, made as soon as the Flyer grants it, or held back with its request raised; one that
takes turns with others ends in its last turn. -/
def Dev.store (d : Dev) (req cls : Nat) (loop : Option Nat) (a : Nat) (bs : List Byte) (gaps : List Nat) (entry : Bool)
    (tag : DrawTag) : Dev × SkRes :=
  match d.storeRefusal req a bs.length entry with
  | some st => (d.setStatus req st, .refused st)
  | none =>
    let blocked := (d.blockedLine req a bs.length).isSome
    if blocked && (d.lockOf req).isSome then (d.setStatus req .lockFault, .refused .lockFault)
    else
      let r := d.clearWay (bankOf a) cls req
      if blocked || !r.2 || r.1.takesTurns (bankOf a) cls bs.length then
        (r.1.raiseDraw (bankOf a) (unitDraw req cls loop true none a bs.length bs gaps entry tag), .wait)
      else (r.1.noteGrant (bankOf a) cls req).storeNow req a bs gaps

/-- A load by address as the Flyer serves it: its bytes, or why there are none; `wait` where the Flyer does not reach it. -/
def Dev.loadAt (d : Dev) (req cls a n : Nat) : Dev × SkRes × List Byte :=
  if d.isCut req then (d.setStatus req .cut, .refused .cut, [])
  else if 0x1000000 < a + n then (d.setStatus req .accessError, .refused .accessError, [])
  else if bankOf a ≠ bankOf (a + n - 1) then (d.setStatus req .accessError, .refused .accessError, [])
  else
    let w := d.clearWay (bankOf a) cls req
    if w.2 then
      let r := (w.1.noteGrant (bankOf a) cls req).checkWords a (wordsIn a n)
      if r.2 then
        let brk := r.1.anyBroken a n
        (r.1.setStatus req (if brk then .lockbrk else .ok), .done brk, r.1.bytes a n)
      else (r.1.setStatus req .eccError, .refused .eccError, [])
    else (w.1, .wait, [])

/-- Whether a draw by hank number is accepted (R44): a write by the named writer into a valid ring, sample or reel
hank. -/
def Dev.hankAccepts (d : Dev) (req h : Nat) : Bool :=
  (d.hank h).v && (d.hank h).queueKind && decide ((d.hank h).writer = req)

/-- The bytes of words. -/
def bytesOfWords (ws : List Word) : List Byte := ws.flatMap bytesOfWord

/-- The whole of a draw written at a hank's write offset, wrapping at its end (R48), with WR and FILL advanced once
(R49). -/
def Dev.hankNow (d : Dev) (req hn : Nat) (ws : List Word) : Dev × SkRes :=
  let n := 4 * ws.length
  let j := d.judge req hn n
  match j.2 with
  | some st => (j.1.setStatus req st, .refused st)
  | none =>
    let h := j.1.hank hn
    let m := min n (h.bytes - h.wr)
    let bs := bytesOfWords ws
    let brk := d.anyBroken (h.start + h.wr) m || d.anyBroken h.start (n - m)
    let d1 := j.1.writeBytes req (h.start + h.wr) (bs.take m)
    let d2 := if m < n then d1.writeBytes req h.start (bs.drop m) else d1
    ((d2.setHank hn (h.advance n)).setStatus req (if brk then .lockbrk else .ok), .done brk)

/-- A whole draw into a hank by number: refused by R44 or R64, else placed as soon as the Flyer grants it; a locked
line in either part holds it back with its request raised (R66). -/
def Dev.hankPutAt (d : Dev) (req : Nat) (loop : Option Nat) (hn : Nat) (ws : List Word) (tag : DrawTag) : Dev × SkRes :=
  let cls := classOf req false
  let n := 4 * ws.length
  if d.isCut req then (d.setStatus req .cut, .refused .cut)
  else if !d.hankAccepts req hn then (d.setStatus req .accessError, .refused .accessError)
  else
    let bank := fun (e : Dev) => bankOf ((e.hank hn).start + (e.hank hn).wr)
    let r := d.clearWay (bank d) cls req
    let h := r.1.hank hn
    let m := min n (h.bytes - h.wr)
    if (r.1.blockedLine req (h.start + h.wr) m).isSome || (r.1.blockedLine req h.start (n - m)).isSome || !r.2 ||
        decide (bank r.1 ≠ bank d) then
      (r.1.raiseDraw (bank r.1) (unitDraw req cls loop true (some hn) 0 n (bytesOfWords ws) [] false tag), .wait)
    else (r.1.noteGrant (bank d) cls req).hankNow req hn ws

/-- The prefetcher of a Whorl reads its slot beat as one class-0 access (R255); a cut port or an uncorrectable word is a
read with error status (R64, R75). -/
def Dev.prefetch (d : Dev) (n : Nat) : Dev :=
  let a := d.fld (Reg.WHL_SLOT n) 23 4 * 16
  let d0 := d.modWhorl n fun w => { w with notice := false }
  let r := d0.loadAt (reqWhl n) 0 a 16
  match r.2.1 with
  | .done _ => r.1.modWhorl n fun w => { w with beat := .words (r.1.words a 4) }
  | .refused _ => r.1.modWhorl n fun w => { w with beat := .error }
  | .wait => r.1.raiseDraw (bankOf a) (unitDraw (reqWhl n) 0 none false none a 16 [] [] false (.prefetch n))

/-- Every Whorl whose slot a completed write has touched reads it; a read may let further writes complete. -/
def Dev.prefetchN (d : Dev) : Nat → Dev
  | 0 => d
  | n + 1 =>
    if d.md.whorls.any fun w => w.2.notice then
      (d.md.whorls.foldl (fun e w => if (e.whorl w.1).notice then e.prefetch w.1 else e) d).prefetchN n
    else d

/-- The prefetches that completed writes have called for (R255). -/
def Dev.prefetches (d : Dev) : Dev := d.prefetchN (d.drawFuel + 1)

/-- The draws raised in every bank. -/
def Dev.allDraws (d : Dev) : List Draw := (List.range 16).flatMap d.drawsOf

/-- The prefetches after something that may have let draws that stood in the banks before go on. -/
def Dev.prefetchAfter (e d : Dev) : Dev := if d.allDraws.isEmpty then e else e.prefetches

/-- A load by address, and the prefetches that the writes served before it call for. -/
def Dev.load (d : Dev) (req cls a n : Nat) : Dev × SkRes × List Byte :=
  let r := d.loadAt req cls a n
  if (d.drawsOf (bankOf a)).isEmpty then r else (r.1.prefetches, r.2)

/-- Read a range as class-1 draws of up to 64 beats: every word of it is checked, up to the first draw that is refused or
not granted; the fuel is the number of draws. LOCKBRK sets the Spindle's LB (R202). -/
def Dev.pull (d : Dev) (req a n : Nat) : Nat → Dev × SkRes
  | 0 => (d, .done false)
  | k + 1 =>
    if n = 0 then (d, .done false)
    else
      let m := min n 1024
      let r := d.load req 1 a m
      match r.2.1 with
      | .done brk => (r.1.noteSpnLb (req - 18) brk).pull req (a + m) (n - m) k
      | e => (r.1, e)

/-- A whole draw into a hank by number, and the prefetches that the writes served before it call for. -/
def Dev.hankPut (d : Dev) (req : Nat) (loop : Option Nat) (hn : Nat) (ws : List Word) (tag : DrawTag) : Dev × SkRes :=
  let r := d.hankPutAt req loop hn ws tag
  if (d.drawsOf (bankOf ((d.hank hn).start + (d.hank hn).wr))).isEmpty then r else (r.1.prefetches, r.2)

/-- A store of a unit, and the prefetches that it calls for. -/
def Dev.postStore (d : Dev) (req cls : Nat) (loop : Option Nat) (a : Nat) (bs : List Byte) (gaps : List Nat) (entry : Bool)
    (tag : DrawTag) : Dev × SkRes :=
  let r := d.store req cls loop a bs gaps entry tag
  (r.1.prefetches, r.2)

/-- The ring hank that a core may write and that holds an address (R44, R51; DEDUCED, notes/assumptions/63.md). -/
def Dev.ringOf (d : Dev) (req a : Nat) : Option Nat :=
  (d.sk.hanks.find? fun e => e.2.holds a && decide (e.2.kind = 1) && decide (e.2.writer = req)).map Prod.fst

/-- The words of a store that have a write enable. -/
def enabledWords (bs : List Byte) (gaps : List Nat) : List Word :=
  ((List.range (bs.length / 4)).filter fun i => i ∉ gaps).map fun i => wordOfBytes ((bs.drop (4 * i)).take 4)

/-- A posted store of a core (R153, R155): an address in a ring hank whose writer the core is means that hank by number
(R51). A refusal is kept until its trap, LOCKBRK sets LB (R202). -/
def Dev.corePost (d : Dev) (c : Core) (loop : Option Nat) (ea : Nat) (bs : List Byte) (gaps : List Nat) (pc : Word) : Dev :=
  let tag := DrawTag.core c pc (BitVec.ofNat 32 ea) (loop.getD 0)
  let entry := match c with
    | .spn _ => false
    | .bob _ => decide (bs.length = 8)
  let r := match d.ringOf (coreReq c) ea with
    | some h =>
      if ea % 4 = 0 ∧ bs.length % 4 = 0 then d.hankPut (coreReq c) loop h (enabledWords bs gaps) tag
      else (d, .refused .accessError)
    | none => d.postStore (coreReq c) (classOf (coreReq c) false) loop ea bs gaps entry tag
  match r.2 with
  | .refused st => r.1.noteRefused c st pc (BitVec.ofNat 32 ea) (loop.getD 0)
  | .done brk => r.1.noteLb c brk
  | .wait => r.1

/-- Whether the holder of a lock would write a line that another requester holds (R68). -/
def Dev.heldFault (d : Dev) (c : Core) (ea n : Nat) : Bool :=
  (d.lockOf (coreReq c)).isSome &&
    (match d.ringOf (coreReq c) ea with
      | some hn =>
        let h := d.hank hn
        let m := min n (h.bytes - h.wr)
        (d.blockedLine (coreReq c) (h.start + h.wr) m).isSome || (d.blockedLine (coreReq c) h.start (n - m)).isSome
      | none => (d.blockedLine (coreReq c) ea n).isSome && (d.storeRefusal (coreReq c) ea n (decide (n = 8))).isNone)

/-! ### Draws of a requester -/

/-- The bytes of a draw (R38). -/
def drawLen (s : DrawSpec) : Nat := if s.single then 4 else 16 * s.beats

/-- The core whose requester number a draw has, if it is a core's. -/
def coreOfReq (req : Nat) : Option Core :=
  if h : 18 ≤ req ∧ req ≤ 35 then some (.spn ⟨req - 18, by omega⟩)
  else if h : 100 ≤ req ∧ req ≤ 102 then some (.bob ⟨req - 100, by omega⟩)
  else none

/-- Why a draw is refused as it is issued (R27, R38, R39, R44, R64, R131). -/
def Dev.drawRefusal (d : Dev) (s : DrawSpec) : Option DrawStatus :=
  if d.isCut s.req then some .cut
  else match s.target with
    | .hank h => if s.write && d.hankAccepts s.req h.toNat then none else some .accessError
    | .addr a =>
      if 0x1000000 < a.toNat + drawLen s ∨ bankOf a.toNat ≠ bankOf (a.toNat + drawLen s - 1) then some .accessError
      else if a.toNat % (if s.single then 4 else 16) ≠ 0 then some .accessError
      else if s.write && d.rangeRefuses a.toNat (drawLen s) false then some .accessError
      else none

/-- The draw that a request raises. A Spindle's belongs to the loop whose slot is open, and a core's draw that ends
with an error is its trap (R155). -/
def Dev.drawOf (d : Dev) (s : DrawSpec) : Draw :=
  { req := s.req, cls := classOf s.req s.commit,
    loop := match coreOfReq s.req with
      | some (.spn p) => (d.spn p).slot
      | _ => none,
    write := s.write,
    hank := match s.target with
      | .addr _ => none
      | .hank h => some h.toNat,
    start := match s.target with
      | .addr a => a.toNat
      | .hank _ => 0,
    len := drawLen s, data := bytesOfWords s.data, gaps := [], entry := false, supply := s.supply.map BitVec.toNat, auto := false,
    tag := match coreOfReq s.req with
      | some c => .core c (match c with
          | .spn p => (d.spn p).pc
          | .bob b => (d.bob b).pc) (match s.target with
          | .addr a => a
          | .hank h => BitVec.ofNat 32 ((d.hank h.toNat).start + (d.hank h.toNat).wr))
          (match c with
          | .spn p => (d.spn p).slot.getD 0
          | .bob _ => 0)
      | none => .plain,
    done := 0, beats := 0, granted := false, lockbrk := false, failed := false, got := [] }

/-- Words struck by an upset: a second one in a word leaves it uncorrectable. -/
def Dev.strike (d : Dev) (found : List (Nat × Bool)) : Dev :=
  found.foldl (fun e f => match e.ecc (4 * f.1) with
    | .good => e.setEcc (4 * f.1) (if f.2 then .uncorrectable else .correctable)
    | .correctable => e.setEcc (4 * f.1) .uncorrectable
    | _ => e) d

/-- A requester issues a draw: refused at once, or raised in its bank, where the Flyer grants the next beat. A requester
that holds a lock and writes a line locked by another faults at once (R68). -/
def Dev.issueDraw (d0 : Dev) (s : DrawSpec) : Dev :=
  let d := d0.strike (s.upsets.map fun u => (u.1.toNat, u.2))
  let x := d.drawOf s
  match d.drawRefusal s with
  | some st => d.drawEnd x st
  | none =>
    let blocked := s.write && (match x.hank with
      | some hn =>
        let h := d.hank hn
        let m := min x.len (h.bytes - h.wr)
        (d.blockedLine s.req (h.start + h.wr) m).isSome || (d.blockedLine s.req h.start (x.len - m)).isSome
      | none => (d.blockedLine s.req x.start x.len).isSome)
    if blocked && (d.lockOf s.req).isSome then d.drawEnd x .lockFault
    else (((d.setDraws (d.drawBank x) (d.drawsOf (d.drawBank x) ++ [x])).flyerBeat (d.drawBank x)).settle
      (d.drawBank x)).prefetches

/-- Draws taken out of every bank. -/
def Dev.filterDraws (d : Dev) (keep : Draw → Bool) : Dev :=
  (List.range 16).foldl
    (fun e b => if (e.drawsOf b).all keep then e else e.setDraws b ((e.drawsOf b).filter keep)) d

/-- The draws of a requester in every bank. -/
def Dev.drawsBy (d : Dev) (req : Nat) : List Draw :=
  (List.range 16).flatMap fun b => (d.drawsOf b).filter fun x => decide (x.req = req)

/-- A draw that never takes effect leaves a Reel or the capture without the words it stood for. -/
def Dev.tagGone (d : Dev) (t : DrawTag) : Dev :=
  match t with
  | .reel _ _ => d.tagEnd t .errorStatus [] []
  | .capture => d.tagEnd t .errorStatus [] []
  | _ => d

/-- Whether a draw of a lane's port is a decimator's or a position unit's, which draw through it (R117, R327). -/
def DrawTag.guest : DrawTag → Bool
  | .sample decim _ _ _ _ => decim
  | .position _ _ => true
  | _ => false

/-- Withdraw the draws of a unit that are not yet granted (R32). -/
def Dev.withdraw (d : Dev) (mine : Draw → Bool) : Dev :=
  let gone := fun (x : Draw) => mine x && !x.granted
  (((d.allDraws.filter gone).foldl (fun e x => e.tagGone x.tag) (d.filterDraws fun x => !gone x)).settleAll).prefetchAfter d

/-- End every draw of a requester with error status (R64). -/
def Dev.dropDraws (d : Dev) (req : Nat) : Dev :=
  (d.drawsBy req).foldl (fun e x => e.drawEnd x .errorStatus) (d.filterDraws fun x => decide (x.req ≠ req))

/-- Whether a requester has a draw that has not ended, of one loop or at all. -/
def Dev.hasDraw (d : Dev) (req : Nat) (loop : Option Nat) : Bool :=
  (d.drawsBy req).any fun x => loop.isNone || decide (x.loop = loop)

/-- A requester's PLY.LOCK waits for a line (R66). -/
def Dev.addWait (d : Dev) (w : LockWait) : Dev := d.modSk fun s => { s with waits := s.waits ++ [w] }

/-- Free a requester's lock; the writes that waited for the line go on, and a PLY.LOCK waits for its grant. -/
def Dev.freeLock (d : Dev) (req : Nat) : Dev :=
  match d.lockOf req with
  | some l => (((d.setLock req none).settle (l / 16384))).prefetches
  | none => d

/-- Reset of a requester: its lock is freed (R71), its cut ends (R64), its waits and draws are gone. -/
def Dev.resetRequester (d : Dev) (req : Nat) : Dev :=
  let d1 := (d.filterDraws fun x => decide (x.req ≠ req)).modSk fun s =>
    { s with waits := s.waits.filter fun w => decide (w.req ≠ req) }
  ((d1.freeLock req).setRbit (Reg.SKN_CUT (req / 32)) (req % 32) false).settleAll.prefetchAfter d

/-! ### Registers of the block (SKN_) -/

/-- The hank that SKN_HSEL selects. -/
def Dev.hsel (d : Dev) : Nat := d.fld Reg.SKN_HSEL 7 0

/-- Whether two hanks share an address. -/
def Hank.overlaps (h k : Hank) : Bool :=
  h.v && k.v && decide (h.start < k.start + k.bytes) && decide (k.start < h.start + h.bytes)

/-- Whether a hank entry may stand in the table (R45). -/
def Dev.hankOk (d : Dev) (i : Nat) (h : Hank) : Bool :=
  !h.v || (decide (h.start % h.bytes = 0) && decide (h.kind ≠ 7) && decide (h.size < 14) &&
    (d.sk.hanks.all fun e => decide (e.1 = i) || !h.overlaps e.2))

/-- A write to SKN_HBASE in its window (R45). -/
def Dev.writeHbase (d : Dev) (v : Word) : Dev :=
  let h := { d.hank d.hsel with base := bitsOf v 23 10 }
  if d.hankOk d.hsel h then d.setHank d.hsel h else d.setRbit Reg.SKN_STAT 5 true

/-- A write to SKN_HCFG in its window (R45): accepted whole, with the offsets reset, or ignored with HOVL. -/
def Dev.writeHcfg (d : Dev) (v : Word) : Dev :=
  let h : Hank :=
    { base := (d.hank d.hsel).base, writer := bitsOf v 15 8, size := bitsOf v 7 4, kind := bitsOf v 3 1, v := bitOf v 0,
      wr := 0, rd := 0, fill := 0, drops := 0 }
  if d.hankOk d.hsel h then d.setHank d.hsel h else d.setRbit Reg.SKN_STAT 5 true

/-- A write to SKN_HRD (R47): it consumes, or is ignored. -/
def Dev.writeHrd (d : Dev) (v : Word) : Dev :=
  let h := d.hank d.hsel
  let off := bitsOf v 22 0
  let diff := (off + h.bytes - h.rd) % h.bytes
  let n := if diff = 0 ∧ h.fill = h.bytes then h.bytes else diff
  if h.v ∧ (h.kind = 1 ∨ h.kind = 6) ∧ off % 4 = 0 ∧ off < h.bytes ∧ n ≤ h.fill then
    d.setHank d.hsel { h with rd := off, fill := h.fill - n }
  else d

/-- The hank table registers as they read: the fields of the selected entry. -/
def Dev.readHank (d : Dev) (off : Nat) : Word :=
  let h := d.hank d.hsel
  if off = 0x84 then BitVec.ofNat 32 (h.base <<< 10)
  else if off = 0x88 then BitVec.ofNat 32 (h.writer <<< 8 ||| h.size <<< 4 ||| h.kind <<< 1 ||| h.v.toNat)
  else if off = 0x8C then BitVec.ofNat 32 h.wr
  else if off = 0x90 then BitVec.ofNat 32 h.rd
  else if off = 0x94 then BitVec.ofNat 32 h.fill
  else BitVec.ofNat 32 h.drops

/-! ### Bank watchdog, lock break, scrub, spares -/

/-- The draw that holds a bank: a stuck one, of the highest class. -/
def Dev.holder (d : Dev) (bank : Nat) : Option Draw :=
  (List.range 5).findSome? fun c => (d.drawsOf bank).find? fun x => x.stuck && decide (x.cls = c)

/-- The bank watchdog bites (R63, R64): the port is cut on every bank, the requester's draws end with error status, and
the draws that waited behind it go on. -/
def Dev.bankBite (d : Dev) (bank : Nat) : Dev :=
  match d.holder bank with
  | none => d
  | some x =>
    let pb := d.physBank bank
    ((((((d.setRbit (Reg.SKN_CUT (x.req / 32)) (x.req % 32) true).dropDraws x.req).setRbit
      Reg.SKN_STAT 3 true).setReg Reg.SKN_HANGREQ (BitVec.ofNat 32 (pb <<< 8 ||| x.req))).raise Src.SKN_HANG
      pb).settleAll).prefetches

/-- Whether some requester waits for a locked line: a PLY.LOCK, or a write with its request raised (R72). -/
def Dev.waitedOn (d : Dev) (line : Nat) : Bool :=
  (d.sk.waits.any fun w => decide (w.line = line)) ||
    (d.drawsOf (line / 16384)).any fun x => d.drawWaits x && decide (d.blockedLine x.req (d.beatAddr x) (d.beatLen x) = some line)

/-- The owner of a line's lock, as an entry of the lock table. -/
def Dev.ownerOf (d : Dev) (line : Nat) : Option Nat := (d.sk.locks.find? fun e => decide (e.2 = some line)).map Prod.fst

/-- The watchdog breaks a lock (R72): the line marked, SKN_LOCKBRK raised, the waiters proceed. -/
def Dev.breakLock (d : Dev) (line : Nat) : Dev :=
  match d.ownerOf line with
  | none => d
  | some i =>
    if d.waitedOn line then
      let d1 := (d.modSk fun s => { s with locks := smSet (fun _ => none) s.locks i none }).setBroken line true
      let d2 := ((d1.setRbit Reg.SKN_STAT 4 true).setReg Reg.SKN_LBADDR (BitVec.ofNat 32 (line * 64))).raise
        Src.SKN_LOCKBRK (d.physBank (line / 16384))
      (d2.settle (line / 16384)).prefetches
    else d

/-- The scrub engine reads one line of a bank as class 4 and corrects it (R76); `found` names the words that an upset had
struck since the last read, true where it is uncorrectable. A line that the Flyer does not grant is not read. -/
def Dev.scrub (d : Dev) (bank line : Nat) (found : List (Nat × Bool)) : Dev :=
  let a := bank * 0x100000 + line * 64
  let d0 := d.strike (found.map fun f => (a / 4 + f.1, f.2))
  if d.rbit Reg.SKN_SCRUB 0 then (d0.load reqEngine 4 a 64).1 else d0

/-! ### Spare banks (R77 to R81) -/

/-- The state of a spare bank, SKN_SPARE.SP16 and SP17. -/
def Dev.spareBank (d : Dev) (p : Nat) : Nat := d.fld Reg.SKN_SPARE (2 * (p - 16) + 1) (2 * (p - 16))

def Dev.setSpareBank (d : Dev) (p v : Nat) : Dev := d.setFld Reg.SKN_SPARE (2 * (p - 16) + 1) (2 * (p - 16)) v

/-- The free spare bank that is assigned next: the lower number of two (DESIGN CHOICE, notes/assumptions/62.md). -/
def Dev.freeSpareBank (d : Dev) : Option Nat := [16, 17].find? fun p => decide (d.spareBank p = 0)

/-- Start the copy of a logical bank into a free spare (R77). A spare shows as copying from here on: while a bank's copy
waits (R81) the spare meant for it still shows as free (DESIGN CHOICE, notes/assumptions/62.md). -/
def Dev.startCopy (d : Dev) (lb : Nat) : Dev :=
  match d.freeSpareBank with
  | some p =>
    (((d.setSpareBank p 1).setFld Reg.SKN_SPARE 11 8 lb).setReg Reg.SKN_RBPROG 0).modSk fun s =>
      { s with copy := some ⟨lb, p, 0, false, []⟩ }
  | none => d

/-- Retire the physical bank that serves a logical one: its copy starts, or waits for the copy that runs (R77, R81); a
spare that served is available no more. -/
def Dev.retireBank (d : Dev) (lb : Nat) : Dev :=
  let p := d.physBank lb
  let d1 := (d.setRbit Reg.SKN_RETIRED p true).when (decide (16 ≤ p)) fun d => d.setSpareBank p 3
  match d1.sk.copy with
  | none => d1.startCopy lb
  | some _ => d1.modSk fun s => { s with copyQueue := s.copyQueue ++ [lb] }

/-- The copy that comes next. A bank whose turn comes when no spare is free any more (both were retired or taken while it
waited) stays on its old physical bank with no copy and no further reaction (DESIGN CHOICE, notes/assumptions/62.md). -/
def Dev.nextCopy (d : Dev) : Dev :=
  match d.sk.copyQueue with
  | [] => d.modSk fun s => { s with copy := none }
  | b :: bs => (d.modSk fun s => { s with copy := none, copyQueue := bs }).startCopy b

/-- A spare that serves no bank is retired. One that is being copied into loses its copy, which starts again in the other
spare when that is free, and is given up otherwise (DESIGN CHOICE, notes/assumptions/62.md). -/
def Dev.retireSpareBank (d : Dev) (p : Nat) : Dev :=
  let d1 := (d.setRbit Reg.SKN_RETIRED p true).setSpareBank p 3
  match d1.sk.copy with
  | some c =>
    if c.spare = p then
      (if d1.freeSpareBank.isSome then d1.startCopy c.bank else d1.nextCopy)
    else d1
  | none => d1

/-- The words that the copy found uncorrectable and that are so still as it reads them once more (R79). -/
def Dev.reread (d : Dev) : List Nat → Dev × List Nat
  | [] => (d, [])
  | a :: bad =>
    let r := d.checkWord a
    let t := r.1.reread bad
    (t.1, if r.2 then t.2 else a :: t.2)

/-- The marks of a bank as the spare holds it (R77, R79): every word good but those with the poison code. -/
def Dev.spareMarks (d : Dev) (bank : Nat) (poisoned : List Nat) : Dev :=
  poisoned.foldl (fun e a => e.setEcc a .poisoned)
    (d.modSk fun s => { s with ecc := s.ecc.filter fun m => decide (bankOf (4 * m.1) ≠ bank) })

/-- The Flyer of a bank goes on until no draw and no beat of the copy can be granted before the others. -/
def Dev.drainN (d : Dev) (bank : Nat) : Nat → Dev
  | 0 => d
  | n + 1 => if (d.flyerPick bank).isSome then (d.flyerBeat bank).drainN bank n else d

/-- The end of a bank copy (R79, R80, R81): the draws that stand before it and the beats that remain have had their turns,
and the logical bank is switched to the spare. A requester that holds the bank keeps the copy from its end (R63). -/
def Dev.changeover (d : Dev) : Dev :=
  match d.sk.copy with
  | none => d
  | some c =>
    if d.isCut reqEngine || d.bankHeld c.bank 4 then d
    else
      let d0 := d.drainN c.bank d.drawFuel
      match d0.sk.copy with
      | none => d0
      | some c0 =>
        if d0.bankHeld c.bank 4 then d0.prefetches
        else
          let d1 := (d0.markedIn c.bank (if c0.held then c0.next + 1 else c0.next) 65536).foldl (fun e a => e.copyWord a) d0
          let r := d1.reread ((d1.sk.copy.map Copy.bad).getD [])
          let d2 := ((((r.1.spareMarks c.bank r.2).setReg Reg.SKN_RBPROG 0x10000).setFld (Reg.SKN_MAP (c.bank / 4))
            (8 * (c.bank % 4) + 4) (8 * (c.bank % 4)) c.spare).setSpareBank c.spare 2)
          (d2.nextCopy.settle c.bank).prefetches

/-- One CLK_SKN cycle of a bank (R56): the Flyer grants the beat that comes first, the copy's among them. -/
def Dev.bankCycle (d : Dev) (bank : Nat) : Dev := if d.copyTurn bank then d.copyBeat else d.drawBeat bank

/-- One CLK_SKN cycle of the Skein. -/
def Dev.sknCycle (d : Dev) : Dev := ((List.range 16).foldl (fun e b => e.bankCycle b) d).prefetchAfter d

/-! ### The commands of the Skein -/

/-- DRAW_REQUEST (R56). -/
def execDrawRequest (s : DrawSpec) (st : State) : Host.Outcome State Fault Refusal :=
  if s.beats = 0 ∨ 64 < s.beats ∨ (s.single ∧ s.beats ≠ 1) ∨ (s.write ∧ s.data.length ≠ drawLen s / 4) then
    .fault .noSuchDraw
  else st.run fun d => d.issueDraw s

/-- DRAW_COMPLETE (R49): the bank's Flyer grants beats until one of its draws ends. -/
def execDrawComplete (bank : Fin 16) (st : State) : Host.Outcome State Fault Refusal :=
  st.run fun d =>
    let e := d.flyerRun bank d.drawFuel
    (e.settle bank).prefetches

/-- BANK_WATCHDOG_BITE (R63). -/
def execBankWatchdogBite (bank : Fin 16) (st : State) : Host.Outcome State Fault Refusal :=
  st.run fun d => d.bankBite bank

/-- LOCK_BREAK (R72). -/
def execLockBreak (line : BitVec 18) (st : State) : Host.Outcome State Fault Refusal :=
  st.run fun d => d.breakLock line.toNat

/-- SCRUB_LINE (R76). -/
def execScrubLine (bank : Fin 16) (line : Fin 16384) (found : List (Fin 16 × Bool)) (st : State) :
    Host.Outcome State Fault Refusal :=
  st.run fun d => d.scrub bank line (found.map fun f => (f.1.val, f.2))

/-- BANK_CHANGEOVER (R80). -/
def execBankChangeover (st : State) : Host.Outcome State Fault Refusal := st.run fun d => d.changeover

end Sys2Proof.Machine
end

