-- ==== Sys2Proof/Machine/Crypto.lean ====
section
/-! DEFINITION. The hash and signature of 16_flash_identity_service.md (R507, R508, R513): SHA-256, HMAC-SHA-256 and the
verification of an ECDSA P-256 signature. The manual names them and their standards define them; numbers and messages are
taken most significant byte first, as those standards do (PRESUMED, notes/assumptions/74.md). -/

namespace Sys2Proof.Machine

/-! ### SHA-256 -/

/-- A number of bytes, most significant first. -/
def natOfBytes (bs : List Byte) : Nat := bs.foldl (fun n b => n * 256 + b.toNat) 0

/-- The n bytes of a number, most significant first. -/
def bytesOfNat : Nat → Nat → List Byte
  | 0, _ => []
  | n + 1, x => bytesOfNat n (x / 256) ++ [BitVec.ofNat 8 x]

/-- The constants of the 64 rounds. -/
def shaK : List Word :=
    [0x428A2F98, 0x71374491, 0xB5C0FBCF, 0xE9B5DBA5, 0x3956C25B, 0x59F111F1, 0x923F82A4, 0xAB1C5ED5] ++
    [0xD807AA98, 0x12835B01, 0x243185BE, 0x550C7DC3, 0x72BE5D74, 0x80DEB1FE, 0x9BDC06A7, 0xC19BF174] ++
    [0xE49B69C1, 0xEFBE4786, 0x0FC19DC6, 0x240CA1CC, 0x2DE92C6F, 0x4A7484AA, 0x5CB0A9DC, 0x76F988DA] ++
    [0x983E5152, 0xA831C66D, 0xB00327C8, 0xBF597FC7, 0xC6E00BF3, 0xD5A79147, 0x06CA6351, 0x14292967] ++
    [0x27B70A85, 0x2E1B2138, 0x4D2C6DFC, 0x53380D13, 0x650A7354, 0x766A0ABB, 0x81C2C92E, 0x92722C85] ++
    [0xA2BFE8A1, 0xA81A664B, 0xC24B8B70, 0xC76C51A3, 0xD192E819, 0xD6990624, 0xF40E3585, 0x106AA070] ++
    [0x19A4C116, 0x1E376C08, 0x2748774C, 0x34B0BCB5, 0x391C0CB3, 0x4ED8AA4A, 0x5B9CCA4F, 0x682E6FF3] ++
    [0x748F82EE, 0x78A5636F, 0x84C87814, 0x8CC70208, 0x90BEFFFA, 0xA4506CEB, 0xBEF9A3F7, 0xC67178F2]

def shaInit : List Word :=
  [0x6A09E667, 0xBB67AE85, 0x3C6EF372, 0xA54FF53A, 0x510E527F, 0x9B05688C, 0x1F83D9AB, 0x5BE0CD19]

/-- The words that extend a block's schedule: each from the words 16, 15, 7 and 2 places back, newest first. -/
def shaExtend : Nat → List Word → List Word
  | 0, w => w
  | n + 1, w =>
    let x := fun (i : Nat) => (w[i]?).getD (0 : Word)
    let s0 := (x 14).rotateRight 7 ^^^ (x 14).rotateRight 18 ^^^ (x 14) >>> 3
    let s1 := (x 1).rotateRight 17 ^^^ (x 1).rotateRight 19 ^^^ (x 1) >>> 10
    shaExtend n ((x 15 + s0 + x 6 + s1) :: w)

/-- One round, from the round's constant and its word of the schedule. -/
def shaRound (v : List Word) (kw : Word × Word) : List Word :=
  match v with
  | [a, b, c, d, e, f, g, h] =>
    let s1 := e.rotateRight 6 ^^^ e.rotateRight 11 ^^^ e.rotateRight 25
    let t1 := h + s1 + ((e &&& f) ^^^ (~~~e &&& g)) + kw.1 + kw.2
    let s0 := a.rotateRight 2 ^^^ a.rotateRight 13 ^^^ a.rotateRight 22
    [t1 + s0 + ((a &&& b) ^^^ (a &&& c) ^^^ (b &&& c)), a, b, c, d + t1, e, f, g]
  | _ => v

/-- The digest after one block of 16 words. -/
def shaBlock (h : List Word) (ws : List Word) : List Word :=
  h.zipWith (· + ·) ((shaK.zip (shaExtend 48 ws.reverse).reverse).foldl shaRound h)

/-- A message with its padding: a one bit, zeros, and its length in bits. -/
def shaPad (bs : List Byte) : List Byte :=
  bs ++ [0x80] ++ List.replicate ((119 - bs.length % 64) % 64) 0 ++ bytesOfNat 8 (8 * bs.length)

/-- The digest after the blocks of a message; the fuel is their number. -/
def shaBlocks : Nat → List Word → List Byte → List Word
  | 0, h, _ => h
  | n + 1, h, bs =>
    shaBlocks n (shaBlock h ((List.range 16).map fun i => BitVec.ofNat 32 (natOfBytes ((bs.drop (4 * i)).take 4)))) (bs.drop 64)

/-- SHA-256. -/
def sha256 (bs : List Byte) : List Byte :=
  let m := shaPad bs
  (shaBlocks (m.length / 64) shaInit m).flatMap fun w => bytesOfNat 4 w.toNat

/-- HMAC-SHA-256 under a key of at most 64 bytes. -/
def hmac (key msg : List Byte) : List Byte :=
  let k := key ++ List.replicate (64 - key.length) 0
  sha256 (k.map (· ^^^ 0x5C) ++ sha256 (k.map (· ^^^ 0x36) ++ msg))

/-! ### ECDSA on P-256 -/

/-- The prime of the field, the order of the group and the curve's constant. -/
def p256P : Nat := 0xFFFFFFFF00000001000000000000000000000000FFFFFFFFFFFFFFFFFFFFFFFF
def p256N : Nat := 0xFFFFFFFF00000000FFFFFFFFFFFFFFFFBCE6FAADA7179E84F3B9CAC2FC632551
def p256B : Nat := 0x5AC635D8AA3A93E7B3EBBD55769886BC651D06B0CC53B0F63BCE3C3E27D2604B

/-- The base point. -/
def p256G : Nat × Nat :=
  (0x6B17D1F2E12C4247F8BCE6E563A440F277037D812DEB33A0F4A13945D898C296,
   0x4FE342E2FE1A7F9B8EE7EB4A7C0F9E162BCE33576B315ECECBB6406837BF51F5)

/-- A power modulo m, by the 256 bits of the exponent. -/
def powMod (m b e : Nat) : Nat :=
  (List.range 256).foldr (fun i acc => if e.testBit i then acc * acc % m * b % m else acc * acc % m) 1

/-- The inverse modulo a prime. -/
def invMod (m x : Nat) : Nat := powMod m x (m - 2)

/-- A difference modulo the field's prime. -/
def p256Sub (a b : Nat) : Nat := (a + p256P - b) % p256P

/-- A point as (X, Y, Z) with x = X / Z^2 and y = Y / Z^3; Z = 0 is the point at infinity. -/
structure P256Pt where
  x : Nat
  y : Nat
  z : Nat
  deriving DecidableEq, Repr

/-- Twice a point. -/
def p256Dbl (p : P256Pt) : P256Pt :=
  let g := p.y * p.y % p256P
  let b := p.x * g % p256P
  let zz := p.z * p.z % p256P
  let a := 3 * p256Sub p.x zz * (p.x + zz) % p256P
  let x := p256Sub (a * a % p256P) (8 * b % p256P)
  ⟨x, p256Sub (a * p256Sub (4 * b % p256P) x % p256P) (8 * g * g % p256P), 2 * p.y * p.z % p256P⟩

/-- The sum of a point and a point (x, y) that is not at infinity. -/
def p256Add (p : P256Pt) (q : Nat × Nat) : P256Pt :=
  let zz := p.z * p.z % p256P
  let h := p256Sub (q.1 * zz % p256P) p.x
  let r := p256Sub (q.2 * zz * p.z % p256P) p.y
  if p.z = 0 then ⟨q.1, q.2, 1⟩
  else if h = 0 then (if r = 0 then p256Dbl p else ⟨1, 1, 0⟩)
  else
    let hh := h * h % p256P
    let v := p.x * hh % p256P
    let x := p256Sub (r * r % p256P) ((h * hh + 2 * v) % p256P)
    ⟨x, p256Sub (r * p256Sub v x % p256P) (p.y * h * hh % p256P), p.z * h % p256P⟩

/-- The sum of the multiples u of p and v of q, by the 256 bits of the factors. -/
def p256Sum (u : Nat) (p : Nat × Nat) (v : Nat) (q : Nat × Nat) : P256Pt :=
  (List.range 256).foldr (fun i acc =>
    let a := p256Dbl acc
    let b := if u.testBit i then p256Add a p else a
    if v.testBit i then p256Add b q else b) ⟨1, 1, 0⟩

/-- Whether a point lies on the curve y^2 = x^3 - 3 x + b. -/
def p256On (x y : Nat) : Bool :=
  decide (x < p256P) && decide (y < p256P) && decide (y * y % p256P = (x * x * x + (p256P - 3) * x + p256B) % p256P)

/-- Whether a signature (r, s) of 64 bytes over a message's SHA-256 verifies under a public key, x then y. -/
def ecdsaOk (key sig msg : List Byte) : Bool :=
  let x := natOfBytes (key.take 32)
  let y := natOfBytes (key.drop 32)
  let r := natOfBytes (sig.take 32)
  let s := natOfBytes (sig.drop 32)
  decide (0 < r) && decide (r < p256N) && decide (0 < s) && decide (s < p256N) && p256On x y &&
    (let w := invMod p256N s
     let p := p256Sum (natOfBytes (sha256 msg) * w % p256N) p256G (r * w % p256N) (x, y)
     let i := invMod p256P p.z
     decide (p.z ≠ 0) && decide (p.x * (i * i % p256P) % p256P % p256N = r))

end Sys2Proof.Machine
end

