-- ==== Sys2Proof/Config.lean ====
section
/-! DEFINITION. What the manual leaves open and the machine still has: free values, of which nothing can be proved. -/

namespace Sys2Proof

/-- A word that the manual does not state, one for each count of free values used (notes/assumptions/3.md). -/
opaque Config.freeWord : Nat → Word

/-- What the factory trims of the FACT record make of a lane's input, in 1/1024 of a microvolt: the manual states neither
the record's layout nor the amount (R83; notes/assumptions/66.md). -/
opaque Config.laneTrim : List Word → Nat → Int → Int

/-- The 12-bit housekeeping code of a channel whose node lies outside the converter's range (R119;
notes/assumptions/67.md). -/
opaque Config.hkBeyond : Nat → Int → BitVec 12

/-- The angle of a vector (x, y), 2^32 to a turn: the manual states no rounding of it (R361; notes/assumptions/72.md). -/
opaque Config.arg : Int → Int → Word

/-- The fused words of the identity block that no BOOT has read yet (R511; notes/assumptions/74.md): the serial (0 and
1), the fuse status (2), the public-key hash (3 to 10), and from 11 on four words for each die index. -/
opaque Config.fuse : Nat → Word

/-- The fused key of a service role, which no register ever returns (R513). -/
opaque Config.roleKey : Nat → List Byte

end Sys2Proof
end

