-- ==== Sys2Proof/Machine/Ports.lean ====
section
/-! DEFINITION. The leg dies and the gate-drive ports (08_gate_drive_ports.md, R13 to R16): what a die does with the
commands that reach it and with the events it detects. -/

namespace Sys2Proof.Machine

/-! ### Registers of a port: HVP_ for ports 0 to 31, LVP_ for ports 32 to 63 (R306) -/

def isHv (n : Nat) : Bool := decide (n < 32)

def pStat (n : Nat) : Nat := if isHv n then Reg.HVP_STAT n else Reg.LVP_STAT (n - 32)
def pCfg (n : Nat) : Nat := if isHv n then Reg.HVP_CFG n else Reg.LVP_CFG (n - 32)
def pCnt (n : Nat) : Nat := if isHv n then Reg.HVP_CNT n else Reg.LVP_CNT (n - 32)
def pCal (n : Nat) : Nat := if isHv n then Reg.HVP_CAL n else Reg.LVP_CAL (n - 32)
def pAdpctl (n : Nat) : Nat := if isHv n then Reg.HVP_ADPCTL n else Reg.LVP_ADPCTL (n - 32)
def pAdptgt (n : Nat) : Nat := if isHv n then Reg.HVP_ADPTGT n else Reg.LVP_ADPTGT (n - 32)
def pMon (n : Nat) : Nat := if isHv n then Reg.HVP_DESAT n else Reg.LVP_VDS (n - 32)
def pMeasH (n : Nat) : Nat := if isHv n then Reg.HVP_MEASH n else Reg.LVP_MEASH (n - 32)
def pMeasL (n : Nat) : Nat := if isHv n then Reg.HVP_MEASL n else Reg.LVP_MEASL (n - 32)

/-- A Snarl source of a port: the HV number, or the LV number with the leg as instance (R305). -/
def pSrc (n hv lv : Nat) : SrcInst := if isHv n then srcInst hv n else srcInst lv (n - 32)

/-- The legs of a leg die (R12): die index 0 to 31 an HV leg, 32 to 35 the eight legs of an LV die. -/
def legsOf (die : Nat) : List Nat := if die < 32 then [die] else (List.range 8).map (· + 32 + 8 * (die - 32))

/-- The other section of a leg. -/
def otherSec : Section → Section
  | .h => .l
  | .l => .h

def Port.sec (p : Port) : Section → Sect
  | .h => p.h
  | .l => p.l

def Port.setSec (p : Port) (s : Section) (x : Sect) : Port :=
  match s with
  | .h => { p with h := x }
  | .l => { p with l := x }

def Dev.modSec (d : Dev) (n : Nat) (s : Section) (f : Sect → Sect) : Dev :=
  d.modPort n fun p => p.setSec s (f (p.sec s))

/-! ### What the die knows of the configuration (R306) -/

/-- The word a die has of one of its configuration registers: the register's, but for a write not yet delivered. -/
def Dev.dieWord (d : Dev) (n a : Nat) : Word :=
  match (d.port n).late.find? fun x => decide (x.1 = a) with
  | some x => x.2
  | none => d.reg a

/-- Bits hi:lo of the die's word. -/
def Dev.dieFld (d : Dev) (n a hi lo : Nat) : Nat := bitsOf (d.dieWord n a) hi lo

/-- Bit i of the die's word. -/
def Dev.dieBit (d : Dev) (n a i : Nat) : Bool := bitOf (d.dieWord n a) i

/-- The safe state loaded into the die (R15), CFG.LSAFE. -/
def Dev.lsafe (d : Dev) (n : Nat) : Nat := d.dieFld n (pCfg n) 13 12

/-- The NRETRY in force at the die (R299). -/
def Dev.nretry (d : Dev) (n : Nat) : Nat := d.dieFld n (pCfg n) 18 16

/-- A configuration register of a port is written: the die keeps what it has until the delivery, CFGP reads 1. -/
def Dev.cfgWritten (d : Dev) (n a : Nat) (w : Word) : Dev :=
  ((d.modPort n fun p =>
    if p.late.any fun x => decide (x.1 = a) then p else { p with late := p.late ++ [(a, d.reg a)] }).setReg a w).setRbit
    (pStat n) 24 true

/-- An urgent code leaves the die (R14). -/
def Dev.urgent (d : Dev) (n : Nat) (x : SrcInst) : Dev :=
  d.modPt fun y => { y with urgent := smSet (fun _ => []) y.urgent n (smGet (fun _ => []) y.urgent n ++ [x]) }

/-- The dead-time floor in ticks: 60 ns and 25 ns (R281). -/
def floorTicks (n : Nat) : Nat := if isHv n then 29 else 12

/-- The minimum pulse in ticks: 300 ns and 100 ns (R281). -/
def minPulseTicks (n : Nat) : Nat := if isHv n then 144 else 48

/-- The length of a soft turn-off in ticks (R296): HOLD + 200 ns on HV, 200 ns on LV. -/
def Dev.softTicks (d : Dev) (n : Nat) : Nat :=
  (if isHv n then 48 * (d.dieFld n (Reg.HVP_STO n) 6 4 + 1) else 0) + 96

/-- The short-circuit blanking in ns (R281): HV 200 + 50 x code, LV 250 x (code + 1). -/
def Dev.blankNs (d : Dev) (n : Nat) (s : Section) : Nat :=
  let w := d.dieWord n (pMon n)
  if isHv n then 200 + 50 * (if s = .h then bitsOf w 13 8 else bitsOf w 29 24)
  else 250 * ((if s = .h then bitsOf w 8 5 else bitsOf w 24 21) + 1)

/-- The short-circuit threshold in mV (R281): HV 4.0 V + 0.5 V x code, LV 0.1 V + 0.1 V x code. -/
def Dev.vdsMv (d : Dev) (n : Nat) (s : Section) : Nat :=
  let c := let w := d.dieWord n (pMon n); if s = .h then bitsOf w 4 0 else bitsOf w 20 16
  if isHv n then 4000 + 500 * c else 100 + 100 * c

/-! ### Turning a section on and off -/

/-- The Miller clamp of a section whose turn-off has ended: an HV section with MCLAMP = 1 engages it (R281). -/
def Dev.clamps (d : Dev) (n : Nat) : Bool := isHv n && d.dieBit n (pCfg n) 10

/-- A section sunk, its turn-off finished: the clamp engages (R281, R282). -/
def Dev.sunk (d : Dev) (n : Nat) (x : Sect) : Sect :=
  { x with on := false, soft := false, young := false, offWait := false, offAt := some d.now, clamp := d.clamps n }

/-- A section off at once, whatever the minimum pulse (R283); a turn-off in progress goes on (R297). -/
def Dev.forceOff (d : Dev) (n : Nat) (s : Section) : Dev :=
  d.modSec n s fun x =>
    let y := { x with floorWait := false, young := false, offWait := false, armed := false }
    if x.on then d.sunk n y else y

/-- A section sunk at full strength, window or no window: an undervoltage, the end of a soft turn-off, a trip-coded
turn-off that is not soft (R290, R296, R297). -/
def Dev.sunkFull (d : Dev) (n : Nat) (x : Sect) : Sect := { d.sunk n x with full := true }

/-- A soft turn-off starts (R296). -/
def Dev.softOff (d : Dev) (x : Sect) : Sect :=
  { x with on := false, soft := true, softAt := d.now, young := false, offWait := false, armed := false, floorWait := false }

/-- A section off by its command (R283, R297): a second turn-off is ignored while one is in progress. -/
def Dev.cmdOff (d : Dev) (n : Nat) (s : Section) (trip : Bool) : Dev :=
  let soft := trip && (!isHv n || d.dieBit n (pCfg n) 11)
  d.modSec n s fun x =>
    let y := { x with cmd := false, floorWait := false, armed := false }
    if !x.on || x.offWait then y
    else if soft then d.softOff y
    else if trip then d.sunkFull n y
    else if x.young && decide (d.now < x.cmdAt + minPulseTicks n) then { y with offWait := true }
    else d.sunk n y

/-- Whether a section has finished turning off and its floor has passed (R282). DESIGN CHOICE, notes/assumptions/89.md: a
plain turn-off that waits for the minimum pulse (R283) is finished when it takes effect, for until then its switch
conducts. -/
def Dev.floorPassed (d : Dev) (n : Nat) (x : Sect) : Bool :=
  !x.on && !x.soft && (match x.offAt with
    | none => true
    | some t => decide (t + floorTicks n ≤ d.now))

/-- The section conducts. -/
def Dev.conduct (d : Dev) (n : Nat) (s : Section) : Dev :=
  d.modSec n s fun x => { x with on := true, floorWait := false, young := true, offWait := false, full := false }

/-- Turn a section on, or hold it back until the floor after the other section's turn-off has passed (R282). -/
def Dev.turnOn (d : Dev) (n : Nat) (s : Section) : Dev :=
  if (d.port n |>.sec s).on then d
  else if d.floorPassed n ((d.port n).sec (otherSec s)) then d.conduct n s
  else d.modSec n s fun x => { x with floorWait := true }

/-- A self-test that runs is aborted by a turn-on command (R303). -/
def Dev.abortTest (d : Dev) (n : Nat) : Dev :=
  match (d.port n).test with
  | some _ => ((d.modPort n fun p => { p with test := none }).setRbit (pStat n) 22 false).setFld (pStat n) 21 20 3
  | none => d

/-- The holds that end at the first turn-on command after their release (R290, R291, R293, R294, R304): the status bit
falls when its cause no longer stands. -/
def Dev.endHolds (d : Dev) (n : Nat) (s : Section) : Dev :=
  let p := d.port n
  let d1 := d.when (!p.otBad) fun d => d.setRbit (pStat n) 5 false
  if isHv n then
    d1.when (!(p.sec s).bad) fun d => d.setRbit (pStat n) (if s = .h then 3 else 4) false
  else
    let d2 := d1.when (!p.gdBad) fun d => d.setRbit (pStat n) 4 false
    let d3 := d2.when (!p.busBad) fun d => d.setRbit (pStat n) 7 false
    d3.when (!p.bootBad && (s = .h || !d.rbit (Reg.WHL_CTL n) 1)) fun d =>
      d.modPort n fun p => { p with bootHold := false }

/-- Whether the die holds a section off: short circuit, latch, retirement, supplies, temperature, bus limit, bootstrap
(R290 to R295, R299, R304). -/
def Dev.heldOff (d : Dev) (n : Nat) (s : Section) : Bool :=
  let p := d.port n
  !d.su.ready || p.hold || d.rbit (pStat n) 2 || d.rbit (pStat n) 23 || p.otBad ||
    (if isHv n then (p.sec s).bad
     else p.gdBad || p.busBad || (p.bootHold && (decide (s = .h) || !d.rbit (Reg.WHL_CTL n) 1)))

/-- A turn-on command reaches a section: its blanking starts (R295), the Miller clamp lets go (R281). -/
def Dev.cmdSeen (d : Dev) (n : Nat) (s : Section) : Dev :=
  (d.abortTest n).modSec n s fun x => { x with cmd := true, cmdAt := d.now, armed := false, clamp := false }

/-- A turn-on command at a section; a window counts it (R285). -/
def Dev.cmdOn (d : Dev) (n : Nat) (s : Section) : Dev :=
  let d1 := ((d.cmdSeen n s).modSec n s fun x =>
    { x with win := x.win.map fun w => { w with left := w.left - 1 } }).endHolds n s
  if d1.heldOff n s then d1 else d1.turnOn n s

/-- The gate command of a Whorl at its die (R13, R16): both switches on is refused; a die without its link, or under a
safe-state order or hold, does not receive it (R15, R437). -/
def Dev.gateCmd (d : Dev) (n : Nat) (h l trip : Bool) : Dev :=
  let p := d.port n
  if (h && l) || p.linkLost || p.linkHold || p.order.isSome then d
  else
    let d1 := if !h && p.h.cmd then d.cmdOff n .h trip else d
    let d2 := if !l && p.l.cmd then d1.cmdOff n .l trip else d1
    let d3 := if h && !p.h.cmd then d2.cmdOn n .h else d2
    if l && !p.l.cmd then d3.cmdOn n .l else d3

/-! ### Safe states at a die (R15, R437) -/

/-- A die takes a safe state at once: OFF, or the opposite section off and the ASC section on one floor later. -/
def Dev.dieSafe (d : Dev) (n st : Nat) : Dev :=
  let off := fun (d : Dev) (s : Section) => (d.modSec n s fun x => { x with cmd := false }).forceOff n s
  if st = 1 then
    let d1 := off d .h
    if (d1.port n).l.on then d1.modSec n .l fun x => { x with cmd := true, offWait := false }
    else
      let d2 := d1.cmdSeen n .l
      if d2.heldOff n .l then d2 else d2.modSec n .l fun x => { x with floorWait := true }
  else if st = 2 then
    let d1 := off d .l
    if (d1.port n).h.on then d1.modSec n .h fun x => { x with cmd := true, offWait := false }
    else
      let d2 := d1.cmdSeen n .h
      if d2.heldOff n .h then d2 else d2.modSec n .h fun x => { x with floorWait := true }
  else off (off d .h) .l

/-- A safe-state order to a port (R437); a die without its link applies its LSAFE instead (R438). -/
def Dev.orderPort (d : Dev) (n st : Nat) : Dev :=
  let d1 := d.modPort n fun p => { p with order := some st }
  if (d.port n).linkLost then d1 else d1.dieSafe n st

/-- An order ends: the port follows its Whorl again (R439), but for a die held after the loss of its link. -/
def Dev.releasePort (d : Dev) (n : Nat) : Dev := d.modPort n fun p => { p with order := none }

/-- The function of a port restarts: a die whose link is valid again leaves its loaded safe state (R15). -/
def Dev.endLinkHold (d : Dev) (n : Nat) : Dev := d.modPort n fun p => { p with linkHold := p.linkHold && p.linkLost }

/-- A die loses its link (R15): every leg takes and holds its loaded safe state; one link fault of the die. -/
def Dev.linkLoss (d : Dev) (die : Nat) : Dev :=
  let ls := legsOf die
  let d1 := ls.foldl
    (fun e n => (e.modPort n fun p => { p with linkLost := true, linkHold := true }).dieSafe n (e.lsafe n)) d
  if die < 32 then d1.raise Src.HVP_LINK die else d1.raise Src.LVP_LINK (8 * (die - 32))

/-- The link is valid again; the hold stays until the function restarts (R15). -/
def Dev.linkBack (d : Dev) (die : Nat) : Dev :=
  (legsOf die).foldl (fun e n => e.modPort n fun p => { p with linkLost := false }) d

/-! ### Adaptation (R284 to R288) -/

/-- The place of a section's count for an edge kind in CAL bits 15:0; the count in use stands 16 bits higher. -/
def calPos (s : Section) (on : Bool) : Nat := (if s = .h then 0 else 8) + (if on then 0 else 4)

/-- Open a window on both sections: they start from CAL (R285, R286). ADPN = 0 opens no START or RECOVERY window. -/
def Dev.openWin (d : Dev) (n : Nat) (k : AdaptWindow) : Dev :=
  let adpn := d.dieFld n (pAdpctl n) 31 24
  let en := d.dieBit n (pAdpctl n) (match k with
    | .start => 0
    | .recovery => 1
    | .test => 2)
  if en && (decide (k = .test) || decide (adpn ≠ 0)) then
    (d.modPort n fun p =>
      { p with h := { p.h with win := some ⟨k, 16 * adpn⟩ }, l := { p.l with win := some ⟨k, 16 * adpn⟩ } }).setFld
      (pCal n) 31 16 (d.dieFld n (pCal n) 15 0)
  else d

/-- Full strength of both kinds of edge of a section (R284). -/
def fullCode (n : Nat) : Nat := if isHv n then 8 else 15

/-- Close a section's window (R288): CAL takes the counts in use, the section returns to full strength. -/
def Dev.closeSec (d : Dev) (n : Nat) (s : Section) : Dev :=
  let step := fun (d : Dev) (on : Bool) =>
    let k := calPos s on
    (d.setFld (pCal n) (k + 3) k (d.fld (pCal n) (k + 19) (k + 16))).setFld (pCal n) (k + 19) (k + 16) (fullCode n)
  ((step (step d true) false).modSec n s fun x => { x with win := none }).modPort n fun p =>
    { p with late := p.late.filter fun x => decide (x.1 ≠ pCal n) }

/-- How the die drives a gate (R281, R284, R296, R297): the source or the sink with so many segments or steps, or a level
held above KS. -/
inductive GateDrive where
  | source (n : Nat)
  | sink (n : Nat)
  | level (volts : Nat)
  deriving DecidableEq, Repr

/-- The drive of a section now: the counts in use on an edge of its kind; a soft turn-off holds LEVEL for HOLD and
then sinks through one segment, on LV it sinks at step SCSTEP + 1, and then through all segments (R296), as after an
undervoltage and a trip (R290, R297). -/
def Dev.gateDrive (d : Dev) (n : Nat) (s : Section) : GateDrive :=
  let x := (d.port n).sec s
  let count := fun on => let k := calPos s on + 16; d.fld (pCal n) (k + 3) k + (if isHv n then 0 else 1)
  if x.on then .source (count true)
  else if x.soft then
    if isHv n then
      let sto := Reg.HVP_STO n
      if d.now < x.softAt + 48 * (d.dieFld n sto 6 4 + 1) then .level (7 + d.dieFld n sto 2 0) else .sink 1
    else .sink (d.dieFld n (pCfg n) 11 8 + 1)
  else if x.full then .sink (fullCode n + (if isHv n then 0 else 1))
  else .sink (count false)

/-- Close the windows of a kind whose end has come: ADPN x 16 turn-ons, or for TEST the end of SERVICE or of ETEST. -/
def Dev.closeWin (d : Dev) (n : Nat) (k : AdaptWindow) : Dev :=
  let ended : Dev → Section → Bool := fun d s => match ((d.port n).sec s).win with
    | some w => decide (w.kind = k) &&
        (if k = .test then decide (d.mode ≠ 10) || !d.dieBit n (pAdpctl n) 2 else decide (w.left = 0))
    | none => false
  let d1 := if ended d .h then d.closeSec n .h else d
  if ended d1 .l then d1.closeSec n .l else d1

/-- A measured edge (R286, R287): the last time kept, the count of its kind adjusted within 1 and SMAX; an edge that was
not measured sets NOMEAS. -/
def Dev.edge (d : Dev) (n : Nat) (s : Section) (on : Bool) (ns : Option Nat) : Dev :=
  match ((d.port n).sec s).win with
  | none => d
  | some _ =>
    match ns with
    | none => d.setRbit (pStat n) 15 true
    | some t0 =>
      let t := min t0 511
      let meas := if s = .h then pMeasH n else pMeasL n
      let d1 := if on then d.setFld meas 8 0 t else d.setFld meas 24 16 t
      let tgt := if on then d.dieFld n (pAdptgt n) 8 0 else d.dieFld n (pAdptgt n) 24 16
      let band := if isHv n then d.dieFld n (pAdpctl n) 15 8 else d.dieFld n (pAdpctl n) 23 16
      let k := calPos s on + 16
      let off := if isHv n then 0 else 1
      let smax := if isHv n then 8 else 16
      let seg := d.fld (pCal n) (k + 3) k + off
      let seg' := if tgt + band < t then min (seg + 1) smax else if t + band < tgt then max (seg - 1) 1 else seg
      let d2 := d1.setFld (pCal n) (k + 3) k (seg' - off)
      d2.when ((decide (seg' = smax) || decide (seg' = 1)) && (decide (tgt + band < t) || decide (t + band < tgt)))
        fun d => d.setRbit (pStat n) 14 true

/-! ### Supplies, temperature, bus limit -/

/-- The VPOS trip and release levels in mV that UVSEL selects (R289); a write of 3 is ignored whole. -/
def uvLevels : Nat → Int × Int
  | 0 => (11000, 12000)
  | 1 => (13500, 14500)
  | _ => (15500, 16500)

/-- UVSEL in force at the die. -/
def Dev.uvsel (d : Dev) (n : Nat) : Nat := d.dieFld n (pCfg n) 1 0

/-- A rail of an HV section beyond its trip level (R289): VNEG only while VNEGEN = 1. -/
def Dev.railTrips (d : Dev) (n : Nat) (r : GateRail) (mv : Int) : Bool :=
  match r with
  | .vpos => decide (mv < (uvLevels (d.uvsel n)).1)
  | .vneg => d.dieBit n (pCfg n) 9 && decide (-1500 < mv)

/-- Both rails of an HV section beyond their release levels (R289, R290). -/
def Dev.railsBack (d : Dev) (n : Nat) (vpos vneg : Int) : Bool :=
  decide ((uvLevels (d.uvsel n)).2 < vpos) && (!d.dieBit n (pCfg n) 9 || decide (vneg < -2000))

/-- The off-state test that runs on a leg is of comparator `c` (R302, R303): its output acts on no gate and raises
nothing. -/
def Dev.underTest (d : Dev) (n c : Nat) : Bool := decide ((d.port n).test = some c)

/-- The test number of a section's UVLO of a rail (R302). -/
def uvTestSel (s : Section) (r : GateRail) : Nat := (if s = .h then 2 else 4) + (if r = .vpos then 0 else 1)

/-- VPOS or VNEG of an HV section crosses its trip level (R290): off at full sink strength, held off, its supply-good flag
cleared; the other section follows its commands as before. -/
def Dev.sectionUv (d : Dev) (n : Nat) (s : Section) (r : GateRail) (mv : Int) : Dev :=
  if d.railTrips n r mv && !d.underTest n (uvTestSel s r) then
    let d1 := ((d.modSec n s fun x => { x with bad := true }).forceOff n s).modSec n s fun x => { x with full := true }
    let d2 := d1.modPort n fun p => if s = .h then { p with frameH := false } else { p with frameL := false }
    ((d2.orReg (pStat n) (if s = .h then 0x808 else 0x810)).incFld (pCnt n) 31 16).urgent n (srcInst Src.HVP_UV n)
  else d

/-- Supplies beyond their release levels for 10 us (R290, R291). -/
def Dev.supplyBack (d : Dev) : SupplyRef → Dev
  | .hv n s vpos vneg => if d.railsBack n vpos vneg then d.modSec n s fun x => { x with bad := false } else d
  | .lv k => (legsOf (32 + k)).foldl (fun e n => e.modPort n fun p => { p with gdBad := false }) d

/-- Both sections of a leg off at once. -/
def Dev.legOff (d : Dev) (n : Nat) : Dev := (d.forceOff n .h).forceOff n .l

/-- VGD12 of an LV die below 9.0 V (R291): its eight legs off, one LVP_GDUV. -/
def Dev.vgdUv (d : Dev) (k : Nat) : Dev :=
  if (legsOf (32 + k)).any fun n => d.underTest n 3 then d
  else
    ((legsOf (32 + k)).foldl
      (fun e n => ((e.modPort n fun p => { p with gdBad := true }).legOff n).orReg (pStat n) 0x410) d).urgent
      (32 + 8 * k) (srcInst Src.LVP_GDUV (8 * k))

/-- VBS below 8.2 V while the high side is commanded on (R292, R293). -/
def Dev.bootUv (d : Dev) (m : Nat) : Dev :=
  let n := 32 + m
  if (d.port n).h.cmd && !d.underTest n 2 then
    let d1 := ((d.modPort n fun p => { p with bootBad := true, bootHold := true }).forceOff n .h).when
      (!d.rbit (Reg.WHL_CTL n) 1) fun d => d.forceOff n .l
    ((d1.orReg (pStat n) 0x108).incFld (pCnt n) 31 16).urgent n (srcInst Src.LVP_BOOTUV m)
  else d

/-- VBS above 9.0 V for 10 us: BOOTUV clears, once VGD12 has released (R292). -/
def Dev.bootBack (d : Dev) (m : Nat) : Dev :=
  if (d.port (32 + m)).gdBad then d
  else (d.modPort (32 + m) fun p => { p with bootBad := false }).setRbit (pStat (32 + m)) 3 false

/-- A leg die's overtemperature detector trips or releases (R294). -/
def Dev.legOt (d : Dev) (die : Nat) (trip : Bool) : Dev :=
  if trip && (legsOf die).any fun n => d.underTest n (if isHv n then 6 else 4) then d
  else if trip then
    let d1 := (legsOf die).foldl
      (fun e n => ((e.modPort n fun p => { p with otBad := true }).legOff n).orReg (pStat n) 0x1020) d
    if die < 32 then d1.urgent die (srcInst Src.HVP_OT die)
    else d1.urgent (32 + 8 * (die - 32)) (srcInst Src.LVP_OT (8 * (die - 32)))
  else (legsOf die).foldl (fun e n => e.modPort n fun p => { p with otBad := false }) d

/-- LDS at 90 V or above for 1 us (R304), and its release. -/
def Dev.busLimit (d : Dev) (k : Nat) : Dev :=
  ((legsOf (32 + k)).foldl
    (fun e n => ((e.modPort n fun p => { p with busBad := true }).legOff n).orReg (pStat n) 0x880) d).raise
    Src.LVP_BUSOV (8 * k)

def Dev.busBack (d : Dev) (k : Nat) : Dev :=
  (legsOf (32 + k)).foldl (fun e n => e.modPort n fun p => { p with busBad := false }) d

/-! ### Short circuits (R295 to R301) -/

/-- TRIES, HVP_STAT or LVP_STAT bits 19:17. -/
def Dev.tries (d : Dev) (n : Nat) : Nat := d.fld (pStat n) 19 17

/-- A leg latches (R299). -/
def Dev.latchLeg (d : Dev) (n : Nat) : Dev :=
  (d.modPort n fun p => { p with retryWait := false, hold := true }).setRbit (pStat n) 2 true

/-- An armed comparator sees VDS above its threshold (R295): the short-circuit turn-off, both sections held, the report
on its way; the leg waits for its retry or latches (R299). -/
def Dev.shortCircuit (d : Dev) (n : Nat) (s : Section) : Dev :=
  if ((d.port n).sec s).armed && !d.underTest n (if s = .h then 0 else 1) then
    let d1 := (d.forceOff n (otherSec s)).modSec n s d.softOff
    let d2 := ((d1.modPort n fun p => { p with hold := true }).orReg (pStat n) (if s = .h then 0x201 else 0x202)).incFld
      (pCnt n) 15 0
    let d3 := d2.urgent n (pSrc n Src.HVP_SC Src.LVP_SC)
    if d.nretry n ≤ d.tries n then (d3.latchLeg n).urgent n (pSrc n Src.HVP_SCLAT Src.LVP_SCLAT)
    else d3.modPort n fun p => { p with retryWait := true }
  else d

/-- A leg is re-armed: the hold released, lines 76 and 77 deasserted, the RECOVERY window opened. -/
def Dev.rearmLeg (d : Dev) (n : Nat) : Dev :=
  (((d.modPort n fun p => { p with hold := false, retryWait := false, line := false }).setFld (pStat n) 1 0 0)).openWin n
    .recovery

/-- The end of T_RETRY (R299): a retry, or the latch when NRETRY was lowered during the wait. -/
def Dev.retryEnd (d : Dev) (n : Nat) : Dev :=
  if (d.port n).retryWait then
    if d.tries n < d.nretry n then (d.setFld (pStat n) 19 17 (d.tries n + 1)).rearmLeg n
    else
      let x := pSrc n Src.HVP_SCLAT Src.LVP_SCLAT
      (d.latchLeg n).raise x.src.toNat x.inst.toNat
  else d

/-- A supply of a leg below its release level (R301): on HV a supply-good flag that reads 0 (R120). DEDUCED,
notes/assumptions/89.md: an LV die tells its supplies by their trips and releases only. -/
def Dev.supplyLow (d : Dev) (n : Nat) : Bool :=
  let p := d.port n
  if isHv n then !p.frameH || !p.frameL else p.gdBad || p.bootBad

/-- Writing 1 to REARM (R301): ignored unless the leg is latched, not retired, the device not in SAFE, its supplies
present. -/
def Dev.rearm (d : Dev) (n : Nat) : Dev :=
  if d.rbit (pStat n) 2 && !d.rbit (pStat n) 23 && decide (d.mode ≠ 9) && !d.supplyLow n then
    ((((d.setRbit (pStat n) 2 false).setFld (pStat n) 19 17 0).setRbit (pStat n) 6 false).modPort n fun p =>
      { p with scmAt := none }).rearmLeg n
  else d

/-! ### Off-state self-tests (R302, R303) -/

/-- A test that is accepted starts; one that meets a switch commanded on or a pulse in progress aborts; an unknown SEL is
ignored. -/
def Dev.testStart (d : Dev) (n sel : Nat) : Dev :=
  let p := d.port n
  let idle := fun (x : Sect) => !x.cmd && !x.on && !x.soft && !x.offWait && !x.floorWait
  if (if isHv n then 6 else 4) < sel then d
  else if idle p.h && idle p.l then
    (d.modPort n fun p => { p with test := some sel }).setRbit (pStat n) 22 true
  else d.setFld (pStat n) 21 20 3

def Dev.testEnd (d : Dev) (n : Nat) (r : TestEnd) : Dev :=
  match (d.port n).test with
  | none => d
  | some _ =>
    let d1 := (d.modPort n fun p => { p with test := none }).setRbit (pStat n) 22 false
    match r with
    | .tripped => d1.setFld (pStat n) 21 20 1
    | .silent =>
      let x := pSrc n Src.HVP_STFAIL Src.LVP_STFAIL
      ((d1.setFld (pStat n) 21 20 2).setRbit (pStat n) 13 true).raise x.src.toNat x.inst.toNat

/-! ### The commands -/

/-- GATE_COMMAND (R13, R16, R282, R283). -/
def execGateCommand (n : Fin 64) (h l trip : Bool) (s : State) : Host.Outcome State Fault Refusal :=
  s.run fun d => d.gateCmd n h l trip

/-- STATUS_FRAME (R14, R120): a flag is 1 when both supplies of its section stand beyond their release levels. -/
def execStatusFrame (r : SupplyFrame) (s : State) : Host.Outcome State Fault Refusal :=
  s.run fun d =>
    if (d.port r.n).linkLost then d
    else d.modPort r.n fun p =>
      { p with frameH := d.railsBack r.n r.h.vpos r.h.vneg, frameL := d.railsBack r.n r.l.vpos r.l.vneg }

/-- LINK_LOSS_SAFE_STATE (R15). -/
def execLinkLossSafeState (die : Fin 36) (s : State) : Host.Outcome State Fault Refusal := s.act fun d => d.linkLoss die

/-- LEG_LINK_RESTORED (R15). -/
def execLegLinkRestored (die : Fin 36) (s : State) : Host.Outcome State Fault Refusal := s.run fun d => d.linkBack die

/-- MINIMUM_PULSE_END (R283): a turn-off that waited for the minimum pulse takes effect. -/
def execMinimumPulseEnd (n : Fin 64) (sec : Section) (s : State) : Host.Outcome State Fault Refusal :=
  s.act fun d => d.modSec n sec fun x => if x.offWait then d.sunk n x else { x with young := false }

/-- DEAD_TIME_FLOOR_END (R282): the section that was held back turns on. -/
def execDeadTimeFloorEnd (n : Fin 64) (sec : Section) (s : State) : Host.Outcome State Fault Refusal :=
  s.act fun d =>
    let p := d.port n
    if (p.sec sec).floorWait && !(p.sec (otherSec sec)).on && !(p.sec (otherSec sec)).soft then d.conduct n sec else d

/-- ADAPTATION_WINDOW_OPEN (R285): START once RUN of the Whorl reads 1, RECOVERY on a leg that is not held, TEST in
SERVICE; a window already open stays. -/
def execAdaptationWindowOpen (n : Fin 64) (w : AdaptWindow) (s : State) : Host.Outcome State Fault Refusal :=
  s.act fun d =>
    let p := d.port n
    let due := match w with
      | .start => d.rbit (Reg.WHL_STAT n) 2
      | .recovery => !p.hold
      | .test => decide (d.mode = 10)
    if due && p.h.win.isNone && p.l.win.isNone then d.openWin n w else d

/-- EDGE_MEASURED (R286, R287). -/
def execEdgeMeasured (n : Fin 64) (sec : Section) (on : Bool) (ns : Option Nat) (s : State) :
    Host.Outcome State Fault Refusal := s.act fun d => d.edge n sec on ns

/-- SECTION_UNDERVOLTAGE (R290). -/
def execSectionUndervoltage (n : Fin 32) (u : SectionSupply) (s : State) : Host.Outcome State Fault Refusal :=
  s.act fun d => d.sectionUv n u.sec u.rail u.mv

/-- SUPPLY_RELEASE (R290, R291). -/
def execSupplyRelease (r : SupplyRef) (s : State) : Host.Outcome State Fault Refusal := s.act fun d => d.supplyBack r

/-- VGD12_UNDERVOLTAGE (R291). -/
def execVgd12Undervoltage (die : Fin 4) (s : State) : Host.Outcome State Fault Refusal := s.act fun d => d.vgdUv die

/-- BOOTSTRAP_UNDERVOLTAGE (R292, R293). -/
def execBootstrapUndervoltage (m : Fin 32) (s : State) : Host.Outcome State Fault Refusal := s.act fun d => d.bootUv m

/-- BOOTSTRAP_RECOVERED (R292). -/
def execBootstrapRecovered (m : Fin 32) (s : State) : Host.Outcome State Fault Refusal := s.act fun d => d.bootBack m

/-- LEG_OVERTEMPERATURE (R294). -/
def execLegOvertemperature (die : Fin 36) (trip : Bool) (s : State) : Host.Outcome State Fault Refusal :=
  s.act fun d => d.legOt die trip

/-- SHORT_CIRCUIT_DETECT (R295). -/
def execShortCircuitDetect (n : Fin 64) (sec : Section) (s : State) : Host.Outcome State Fault Refusal :=
  s.act fun d => d.shortCircuit n sec

/-- DIE_BLANKING_END (R295): the comparator is armed while the section's command is on. DEDUCED,
notes/assumptions/69.md: the command of a section that the die holds off is not on. -/
def execDieBlankingEnd (n : Fin 64) (sec : Section) (s : State) : Host.Outcome State Fault Refusal :=
  s.act fun d => d.modSec n sec fun x => { x with armed := x.cmd && (x.on || x.floorWait) }

/-- SOFT_TURN_OFF_END (R296). -/
def execSoftTurnOffEnd (n : Fin 64) (sec : Section) (s : State) : Host.Outcome State Fault Refusal :=
  s.act fun d => d.modSec n sec fun x => if x.soft then d.sunkFull n x else x

/-- RETRY_WAIT_END (R299). -/
def execRetryWaitEnd (n : Fin 64) (s : State) : Host.Outcome State Fault Refusal := s.act fun d => d.retryEnd n

/-- TRIES_RESET (R299): 10 x T_RETRY after a re-arm without a further short circuit. -/
def execTriesReset (n : Fin 64) (s : State) : Host.Outcome State Fault Refusal :=
  s.act fun d => if (d.port n).hold then d else d.setFld (pStat n) 19 17 0

/-- REARM (R301). -/
def execRearm (n : Fin 64) (s : State) : Host.Outcome State Fault Refusal := s.run fun d => d.rearm n

/-- PORT_COUNT_CLEAR (R306). -/
def execPortCountClear (n : Fin 64) (s : State) : Host.Outcome State Fault Refusal :=
  s.run fun d => d.setReg (pCnt n) 0

/-- PORT_CONFIG_DELIVERED (R306): the die has the configuration written, and CFGP falls. -/
def execPortConfigDelivered (n : Fin 64) (s : State) : Host.Outcome State Fault Refusal :=
  s.run fun d => (d.modPort n fun p => { p with late := [] }).setRbit (pStat n) 24 false

/-- SELF_TEST_START (R302). -/
def execSelfTestStart (n : Fin 64) (sel : BitVec 3) (s : State) : Host.Outcome State Fault Refusal :=
  s.run fun d => d.testStart n sel.toNat

/-- SELF_TEST_END (R303). -/
def execSelfTestEnd (n : Fin 64) (r : TestEnd) (s : State) : Host.Outcome State Fault Refusal :=
  s.act fun d => d.testEnd n r

/-- LV_BUS_LIMIT (R304). -/
def execLvBusLimit (die : Fin 4) (s : State) : Host.Outcome State Fault Refusal := s.act fun d => d.busLimit die

/-- LV_BUS_RESUME (R304). -/
def execLvBusResume (die : Fin 4) (s : State) : Host.Outcome State Fault Refusal := s.act fun d => d.busBack die

end Sys2Proof.Machine
end

