-- ==== Sys2Proof/Machine/Arith.lean ====
section
/-! DEFINITION. The arithmetic of GWYN (R132 to R134) and the functions of the control instructions (R178 to R188) over
exact integers; saturation is reported beside each result. -/

namespace Sys2Proof.Machine

/-- Saturation to a value register: the word, and whether it changed the result (R132). -/
def sat32 (x : Int) : Word × Bool :=
  if x < -2147483648 then (BitVec.ofInt 32 (-2147483648), true)
  else if 2147483647 < x then (BitVec.ofInt 32 2147483647, true)
  else (BitVec.ofInt 32 x, false)

/-- Saturation to an accumulator (R132). -/
def sat64 (x : Int) : DWord × Bool :=
  if x < -9223372036854775808 then (BitVec.ofInt 64 (-9223372036854775808), true)
  else if 9223372036854775807 < x then (BitVec.ofInt 64 9223372036854775807, true)
  else (BitVec.ofInt 64 x, false)

/-- shr(x, s, rnd) of R134: the floor of (x + c) / 2^s, with c half a step when rounding. -/
def shrR (x : Int) (s : Nat) (rnd : Bool) : Int :=
  (x + (if rnd && decide (1 ≤ s) then 2 ^ (s - 1) else 0)) / 2 ^ s

/-- Quotient rounded toward zero (R178). -/
def divTz (a b : Int) : Int := a.tdiv b

/-- The largest m with m * m <= e (R178), found bit by bit from 2^k down. -/
def isqrtBits (e : Nat) : Nat → Nat → Nat
  | 0, m => m
  | k + 1, m => if (m + 2 ^ k) * (m + 2 ^ k) ≤ e then isqrtBits e k (m + 2 ^ k) else isqrtBits e k m

/-- isqrt for the 66-bit numbers of svm (R181). -/
def isqrt (e : Nat) : Nat := isqrtBits e 36 0

/-- sin of R178: angles are 2^32 to a turn. -/
def gsin (th : Nat) : Int :=
  let q : Nat := th / 2 ^ 30 % 4
  let r0 : Nat := th % 2 ^ 30
  let r : Nat := if q = 1 ∨ q = 3 then 2 ^ 30 - r0 else r0
  let idx : Nat := r / 2 ^ 20
  let frac : Nat := r % 2 ^ 20
  let s : Int := (sinT idx : Int) + shrR (((sinT (idx + 1) : Int) - sinT idx) * frac) 20 true
  if 2 ≤ q then -s else s

/-- cos of R178. -/
def gcos (th : Nat) : Int := gsin ((th + 2 ^ 30) % 2 ^ 32)

/-! ### Coefficient entries (R127) -/

def kValue (k : DWord) : Int := (k.extractLsb' 0 32).toInt
def kShift (k : DWord) : Nat := (k.extractLsb' 32 6).toNat
def kKind (k : DWord) : Nat := (k.extractLsb' 38 2).toNat
def kZero (k : DWord) : Bool := decide (k.extractLsb' 40 24 = 0)

/-- p(k, v) of R178. -/
def pK (k : DWord) (v : Int) : Int := shrR (v * kValue k) (kShift k) true

/-- pg(k, v) of R178: with 16 guard bits. -/
def pgK (k : DWord) (v : Int) : Int := shrR (v * kValue k * 2 ^ 16) (kShift k) true

/-! ### Transforms (R180) -/

/-- Two saturated results and whether either saturated. -/
def sat2 (x y : Int) : Word × Word × Bool := ((sat32 x).1, (sat32 y).1, (sat32 x).2 || (sat32 y).2)

def clarkeF (ia ib : Int) : Word × Word × Bool := sat2 ia (shrR ((ia + 2 * ib) * 1239850262) 31 true)

def clarke3F (ia ib ic : Int) : Word × Word × Bool :=
  sat2 (shrR ((2 * ia - ib - ic) * 715827883) 31 true) (shrR ((ib - ic) * 1239850262) 31 true)

def parkF (al be : Int) (th : Nat) : Word × Word × Bool :=
  let c := gcos th
  let s := gsin th
  sat2 (shrR (al * c + be * s) 31 true) (shrR (be * c - al * s) 31 true)

def iparkF (dd q : Int) (th : Nat) : Word × Word × Bool :=
  let c := gcos th
  let s := gsin th
  sat2 (shrR (dd * c - q * s) 31 true) (shrR (dd * s + q * c) 31 true)

/-! ### Space-vector modulation (R181) -/

/-- The sector of a vector, 1 to 6; a boundary takes the higher sector, (0, 0) sector 1. The angle is compared exactly:
tan 60 degrees is the square root of 3, so squares are compared. -/
def svmSector (al be : Int) : Nat :=
  let steep := decide (3 * al * al ≤ be * be)
  if al = 0 ∧ be = 0 then 1
  else if 0 ≤ be then
    if 0 < al then (if steep && decide (be ≠ 0) then 2 else 1)
    else if be = 0 then 4
    else if steep && decide (3 * al * al < be * be) then 2
    else 3
  else
    if al < 0 then (if steep then 5 else 4)
    else if steep && decide (3 * al * al < be * be) then 5
    else 6

structure SvmOut where
  tu : Word
  tv : Word
  tw : Word
  sector : Word
  dlim : Bool
  vsat : Bool
  deriving DecidableEq, Repr

/-- clamp of a duty to 0 .. 2^31 - 1, and whether it acted. -/
def duty (x : Int) : Word × Bool :=
  if x < 0 then (0, true) else if 2147483647 < x then (BitVec.ofInt 32 2147483647, true) else (BitVec.ofInt 32 x, false)

def svmF (al be : Int) (mmax : Int) : SvmOut :=
  let lim := max mmax 0
  let e := 3 * (al * al + be * be)
  let lim1 := decide (lim * lim < e)
  let m : Int := (isqrt e.toNat : Nat)
  let a := if lim1 then divTz (al * lim) m else al
  let b := if lim1 then divTz (be * lim) m else be
  let vu := a
  let vv := shrR (-a * 2 ^ 30 + b * 1859775393) 31 true
  let vw := shrR (-a * 2 ^ 30 - b * 1859775393) 31 true
  let mid := shrR (max vu (max vv vw) + min vu (min vv vw)) 1 false
  let tu := duty (2 ^ 30 + vu - mid)
  let tv := duty (2 ^ 30 + vv - mid)
  let tw := duty (2 ^ 30 + vw - mid)
  { tu := tu.1, tv := tv.1, tw := tw.1, sector := BitVec.ofNat 32 (svmSector al be), dlim := lim1,
    vsat := tu.2 || tv.2 || tw.2 }

/-! ### Comparators, tables, filters (R182 to R186) -/

/-- band2: a state outside 0 and 1 is read as 0; a negative half-band is 0. -/
def band2F (s e h0 : Int) : Int :=
  let h := max h0 0
  let s0 := if s = 0 ∨ s = 1 then s else 0
  if h < e then 1 else if e < -h then 0 else s0

/-- band3: states -1, 0 and 1. -/
def band3F (s e h0 : Int) : Int :=
  let h := max h0 0
  let s0 := if s = -1 ∨ s = 0 ∨ s = 1 then s else 0
  if h < e then 1 else if e < -h then -1
  else if s0 = 1 ∧ e < 0 then 0 else if s0 = -1 ∧ 0 < e then 0 else s0

/-- The index that swtab adds to its pointer (R183): 36 when an input lies outside its legal set. -/
def swtabIndex (sector torque flux : Int) : Int :=
  if 1 ≤ sector ∧ sector ≤ 6 ∧ (torque = -1 ∨ torque = 0 ∨ torque = 1) ∧ (flux = 0 ∨ flux = 1) then
    (flux * 3 + torque + 1) * 6 + sector - 1
  else 36

structure BiqOut where
  y : Word
  s1 : DWord
  s2 : DWord
  vsat : Bool
  asat : Bool
  deriving DecidableEq, Repr

/-- One step of a biquad (R184). -/
def biqF (x : Int) (s1 s2 : Int) (b0 b1 b2 a1 a2 : DWord) : BiqOut :=
  let y := sat32 (shrR (s1 + pgK b0 x) 16 true)
  let yi := y.1.toInt
  let n1 := sat64 (s2 + pgK b1 x - pgK a1 yi)
  let n2 := sat64 (pgK b2 x - pgK a2 yi)
  { y := y.1, s1 := n1.1, s2 := n2.1, vsat := y.2, asat := n1.2 || n2.2 }

structure IntegOut where
  vd : Word
  ad : DWord
  isat : Bool
  ilim : Bool
  deriving DecidableEq, Repr

/-- The saturating integrator (R185). -/
def integF (x ad : Int) (ki lo hi : DWord) : IntegOut :=
  let new := ad + pgK ki x
  let h := kValue hi * 2 ^ 16
  let l := kValue lo * 2 ^ 16
  let r : Int × Bool × Bool :=
    if kValue hi < kValue lo then (h, false, true)
    else if h < new then (h, true, false)
    else if new < l then (l, true, false)
    else (new, false, false)
  { vd := BitVec.ofInt 32 (shrR r.1 16 true), ad := BitVec.ofInt 64 r.1, isat := r.2.1, ilim := r.2.2 }

/-- The largest j in 0 to 14 with X[j] <= x (R186). -/
def lutIndex (xs : List Int) (x : Int) : Nat → Nat
  | 0 => 0
  | j + 1 => if xs.getD (j + 1) 0 ≤ x then j + 1 else lutIndex xs x j

/-- The 16-point curve (R186). -/
def lutF (x : Int) (xs ys : List Int) : Word × Bool :=
  if x ≤ xs.getD 0 0 then sat32 (ys.getD 0 0)
  else if xs.getD 15 0 ≤ x then sat32 (ys.getD 15 0)
  else
    let i := lutIndex xs x 14
    let x0 := xs.getD i 0
    let x1 := xs.getD (i + 1) 0
    if x1 ≤ x0 then sat32 (ys.getD i 0)
    else sat32 (ys.getD i 0 + divTz ((x - x0) * (ys.getD (i + 1) 0 - ys.getD i 0)) (x1 - x0))

/-! ### Observer helpers (R187, R188) -/

structure EmfOut where
  ia : Word
  ib : Word
  ea : Word
  eb : Word
  vr : Word
  vsat : Bool
  deriving DecidableEq, Repr

def emfF (hia hib hea heb mia mib va vb : Int) (a b g h : DWord) : EmfOut :=
  let ra := mia - hia
  let rb := mib - hib
  let x1 := sat32 (pK a hia + pK b (va - hea) + pK g ra)
  let x2 := sat32 (pK a hib + pK b (vb - heb) + pK g rb)
  let x3 := sat32 (hea - pK h ra)
  let x4 := sat32 (heb - pK h rb)
  let x5 := sat32 (max (Int.natAbs ra : Int) (Int.natAbs rb))
  { ia := x1.1, ib := x2.1, ea := x3.1, eb := x4.1, vr := x5.1, vsat := x1.2 || x2.2 || x3.2 || x4.2 || x5.2 }

structure PllOut where
  theta : Word
  omega : Word
  ad : DWord
  vsat : Bool
  asat : Bool
  deriving DecidableEq, Repr

/-- obs.pll (R188). Where the intermediate eps saturates the result reports VSAT too, though no register takes eps (DESIGN
CHOICE, notes/assumptions/80.md). -/
def pllF (theta : Nat) (ea eb ad : Int) (kp ki kw : DWord) : PllOut :=
  let c := gcos theta
  let s := gsin theta
  let eps := sat32 (shrR (-ea * c - eb * s) 31 true)
  let n := sat64 (ad + pgK ki eps.1.toInt)
  let om := sat32 (shrR n.1.toInt 16 true + pK kp eps.1.toInt)
  { theta := BitVec.ofInt 32 ((theta : Int) + pK kw om.1.toInt), omega := om.1, ad := n.1, vsat := eps.2 || om.2,
    asat := n.2 }

end Sys2Proof.Machine
end

