-- ==== Sys2Proof/Machine/Tune.lean ====
section
/-! DEFINITION. The injection generator and the Reels (12_tuning_and_reels.md). -/

namespace Sys2Proof.Machine

/-- The physical Spindle that serves a logical one (R30, DST_SPNMAP). -/
def Dev.physSpn (d : Dev) (lg : Nat) : Nat := d.fld (Reg.DST_SPNMAP (lg / 4)) (8 * (lg % 4) + 4) (8 * (lg % 4))

/-- The logical Spindle that a physical one serves, when it serves one (SPN_STAT.LOG, INSVC). -/
def Dev.logSpn (d : Dev) (p : Nat) : Option Nat :=
  if d.rbit (Reg.SPN_STAT p) 11 then some (d.fld (Reg.SPN_STAT p) 15 12) else none

/-- The lane that serves a pin group (DST_CNVMAP). -/
def Dev.laneOf (d : Dev) (g : Nat) : Nat := d.fld (Reg.DST_CNVMAP (g / 4)) (8 * (g % 4) + 4) (8 * (g % 4))

/-- The pin group that a lane serves: its own for CNV00 to CNV15, CNV_XBAR for a spare (R108). -/
def Dev.groupOf (d : Dev) (k : Nat) : Option Nat :=
  if k < 16 then some k else if d.rbit (Reg.CNV_XBAR k) 8 then some (d.fld (Reg.CNV_XBAR k) 3 0) else none

/-- A loop by its physical Spindle and number. -/
def loopKey (p l : Nat) : Nat := 4 * p + l

/-! ### Reels (R412 to R417) -/

def reqReel (n : Nat) : Nat := 122 + n

/-- A trace word as the hank holds it: the value, then the upper word (R413). -/
def traceWords (ws : List (Word × Word)) : List Word := ws.flatMap fun w => [w.1, w.2]

/-- Hand words of a Reel to its hank as one class-4 draw (R417): the ones at the places from `raised` on. A draw that the
Skein does not serve at once stays raised, and its words stay held. -/
def Dev.reelDraw (d : Dev) (n : Nat) (ws : List (Word × Word)) : Dev :=
  let k := ws.length
  let t := d.hankPut (reqReel n) none (d.fld (Reg.REL_HANK n) 7 0) (traceWords ws) (.reel n k)
  match t.2 with
  | .wait => t.1.modReel n fun r => { r with raised := r.raised + k }
  | _ => t.1.modReel n fun r => { r with held := r.held.take r.raised ++ r.held.drop (r.raised + k) }

/-- Write a Reel's held words one line at a time (R417). -/
def Dev.reelFlush (d : Dev) (n : Nat) : Dev :=
  let ws := ((d.reel n).held.drop (d.reel n).raised).take 8
  if ws.length < 8 then d else d.reelDraw n ws

/-- A Reel stops (R415, R417): a pad word when it holds an odd number, the held words written, DONE when it ended. -/
def Dev.reelEnd (d : Dev) (n : Nat) (done : Bool) : Dev :=
  let d0 := d.modReel n fun r =>
    { r with held := if r.held.length % 2 = 1 then r.held ++ [(0, 0xFFFFFFFF)] else r.held, post := none }
  let ws := (d0.reel n).held.drop (d0.reel n).raised
  let d1 := if ws = [] then d0 else d0.reelDraw n ws
  (d1.setRbit (Reg.REL_STAT n) 1 false).when done fun d => d.setRbit (Reg.REL_STAT n) 3 true

/-- Whether a Reel takes a trigger now (R415): recording, single mode, not triggered, PRE words kept. -/
def Dev.reelOpen (d : Dev) (n : Nat) : Bool :=
  d.rbit (Reg.REL_STAT n) 1 && !d.rbit (Reg.REL_CTL n) 1 && !d.rbit (Reg.REL_STAT n) 2 &&
    decide (d.fld (Reg.REL_PRE n) 19 0 ≤ (d.reel n).kept)

/-- The byte offset in the hank of the next word a Reel keeps. -/
def Dev.reelOffset (d : Dev) (n : Nat) : Nat :=
  let h := d.hank (d.fld (Reg.REL_HANK n) 7 0)
  (h.wr + 8 * (d.reel n).held.length) % h.bytes

/-- Keep one word (R413, R417): held, or lost when 32 are held. -/
def Dev.reelKeep (d : Dev) (n : Nat) (v hi : Word) (trg : Bool) : Dev :=
  let r := d.reel n
  if 32 ≤ r.held.length then
    ((d.modReel n fun r => { r with gap := true, kept := r.kept + 1, since := some 0, trigLost := r.trigLost || trg }).incFld
      (Reg.REL_LOST n) 15 0).setRbit (Reg.REL_STAT n) 4 true
  else
    let d1 := d.when (trg || r.trigLost) fun d => d.setFld (Reg.REL_TRGOFF n) 22 0 (d.reelOffset n)
    let up := hi <<< 8 ||| (if r.gap then 2 else 0) ||| (if trg then 1 else 0)
    (d1.modReel n fun r =>
      { r with held := r.held ++ [(v, up)], gap := false, kept := r.kept + 1, since := some 0, trigLost := false }).reelFlush n

/-- A trigger word is taken (R415): TRIGD, POST words to come. -/
def Dev.reelTake (d : Dev) (n : Nat) : Dev :=
  (d.setRbit (Reg.REL_STAT n) 2 true).modReel n fun r =>
    { r with post := some (d.fld (Reg.REL_POST n) 19 0), swTrig := false, snlTrig := false, chainTrig := false }

/-- The chained Reels of a master that took its trigger word, when they are ready: their next value is theirs (R414,
R416). -/
def Dev.reelChain (d : Dev) (n : Nat) : Dev :=
  (List.range 8).foldl
    (fun e m =>
      if e.fld (Reg.REL_CTL m) 5 3 = 5 ∧ e.fld (Reg.REL_CTL m) 20 18 = n ∧ e.reelOpen m then
        e.modReel m fun r => { r with chainTrig := true }
      else e) d

/-- Whether a value meets the trigger of a Reel that is open to one (R414). -/
def Dev.reelHit (d : Dev) (n : Nat) (cmp : Option Int) : Bool :=
  let r := d.reel n
  let lvl := (d.reg (Reg.REL_TLVL n)).toInt
  let up := match r.prev, cmp with
    | some a, some b => decide (a < lvl) && decide (lvl ≤ b)
    | _, _ => false
  let down := match r.prev, cmp with
    | some a, some b => decide (lvl ≤ a) && decide (b < lvl)
    | _, _ => false
  match d.fld (Reg.REL_CTL n) 5 3 with
  | 0 => r.swTrig
  | 1 => up
  | 2 => down
  | 3 => up || down
  | 4 => r.snlTrig
  | 5 => r.chainTrig
  | _ => false

/-- A value reaches a Reel that records: trigger, decimation, keeping, POST (R414, R415). `cmp` is what is compared with
LEVEL, none for a lane result with SET = 1. -/
def Dev.reelValue (d : Dev) (n : Nat) (v hi : Word) (cmp : Option Int) : Dev :=
  if d.rbit (Reg.REL_STAT n) 1 then
    let hit := d.reelOpen n && d.reelHit n cmp
    let due := match (d.reel n).since with
      | none => true
      | some k => decide (d.fld (Reg.REL_DEC n) 15 0 ≤ k)
    let post0 := (d.reel n).post
    let d1 := if hit || due then d.reelKeep n v hi hit
      else d.modReel n fun r => { r with since := r.since.map (· + 1) }
    let d2 := d1.modReel n fun r => { r with prev := match cmp with
                                                    | some x => some x
                                                    | none => r.prev }
    if hit then
      let d3 := d2.reelTake n
      if d.fld (Reg.REL_POST n) 19 0 = 0 then d3.reelEnd n true else d3
    else match post0 with
      | some k =>
        if due then (if k ≤ 1 then d2.reelEnd n true else d2.modReel n fun r => { r with post := some (k - 1) }) else d2
      | none => d2
  else d

/-- A value reaches every Reel of its source, and only then the Reels chained to those that took their trigger word: a
chained Reel of the same source takes the next value (R414). -/
def Dev.reelAll (d : Dev) (src : Nat → Bool) (v hi : Word) (cmp : Option Int) : Dev :=
  let d1 := ((List.range 8).filter src).foldl (fun e n => e.reelValue n v hi cmp) d
  ((List.range 8).filter fun n => !d.rbit (Reg.REL_STAT n) 2 && d1.rbit (Reg.REL_STAT n) 2).foldl Dev.reelChain d1

/-- A value delivered to a trace point of a Spindle (R204, R412). -/
def Dev.reelTrace (d : Dev) (lg tp : Nat) (v : Word) (pcount : Nat) : Dev :=
  d.reelAll
    (fun n =>
      let c := Reg.REL_CTL n
      d.rbit c 0 && !d.rbit c 2 && decide (d.fld c 17 12 = tp) && decide (d.fld c 11 8 = lg))
    v (BitVec.ofNat 32 (pcount % 2 ^ 24)) (some v.toInt)

/-- A lane result of a pin group's channel (R412). -/
def Dev.reelLane (d : Dev) (g ch : Nat) (w : Word) (seq : Nat) : Dev :=
  d.reelAll
    (fun n =>
      let c := Reg.REL_CTL n
      d.rbit c 0 && d.rbit c 2 && decide (d.fld c 15 12 = ch) && decide (d.fld c 11 8 = g))
    w (BitVec.ofNat 32 (seq % 2 ^ 16)) (if bitOf w 15 then none else some (bitsOf w 31 16 : Nat))

/-- Writing ARM (R415). -/
def Dev.reelArm (d : Dev) (n : Nat) : Dev :=
  if d.rbit (Reg.REL_CTL n) 0 then
    let hn := d.fld (Reg.REL_HANK n) 7 0
    let h := d.hank hn
    if h.bytes < (d.fld (Reg.REL_PRE n) 19 0 + d.fld (Reg.REL_POST n) 19 0 + 1) * 8 ∨ !(h.v) ∨ h.kind ≠ 6 ∨
        h.writer ≠ reqReel n then
      d.setRbit (Reg.REL_STAT n) 5 true
    else
      ((((d.setHank hn { h with wr := 0, rd := 0, fill := 0 }).modReel n fun r =>
        { Reel.reset with held := r.held.take r.raised, raised := r.raised }).setFld (Reg.REL_STAT n) 2 1 1).setReg
        (Reg.REL_LOST n) 0)
  else d

/-- Writing TRIG (R414): the next value is the trigger word, when the Reel is open to a trigger. -/
def Dev.reelTrig (d : Dev) (n : Nat) : Dev :=
  if d.reelOpen n && decide (d.fld (Reg.REL_CTL n) 5 3 = 0) then d.modReel n fun r => { r with swTrig := true } else d

/-- Writing STOP (R415). -/
def Dev.reelStop (d : Dev) (n : Nat) : Dev := if d.rbit (Reg.REL_STAT n) 1 then d.reelEnd n true else d

/-- A write to REL_CMD: STOP wins over a trigger of the same cycle. -/
def Dev.writeRelCmd (d : Dev) (n : Nat) (v : Word) : Dev :=
  if bitOf v 2 then d.reelStop n
  else (d.when (bitOf v 0) fun d => d.reelArm n).when (bitOf v 1) fun d => d.reelTrig n

/-- A Snarl source raised (R414): Reels with TRGSEL 4 on that source take their next value as the trigger word. -/
def Dev.reelSnarl (d : Dev) (src : Nat) : Dev :=
  (List.range 8).foldl
    (fun e n =>
      if e.fld (Reg.REL_CTL n) 5 3 = 4 ∧ e.fld (Reg.REL_TSRC n) 7 0 = src ∧ e.reelOpen n then
        e.modReel n fun r => { r with snlTrig := true }
      else e) d

/-! ### The injection generator (R403 to R411) -/

def Dev.inj (d : Dev) : Inj := d.tn.inj

def Dev.modInj (d : Dev) (f : Inj → Inj) : Dev := { d with tn := { d.tn with inj := f d.tn.inj } }

/-- PRBS order and taps by ORD (R406). -/
def prbsTaps (ord : Nat) : Nat × Nat × Nat :=
  match ord with
  | 0 => (7, 7, 6)
  | 1 => (9, 9, 5)
  | 2 => (11, 11, 9)
  | _ => (15, 15, 14)

/-- The target loop of the generator: its physical Spindle and its number (R403). -/
def Dev.injTarget (d : Dev) : Nat × Nat := (d.physSpn (d.fld Reg.INJ_CTL 15 12), d.fld Reg.INJ_CTL 9 8)

/-- Setting EN (R405): it starts, or is ignored with CFGERR. While ACT reads 1 it is ignored (R36). -/
def Dev.injEnable (d : Dev) : Dev :=
  let (p, l) := d.injTarget
  let h := d.hank (d.fld Reg.INJ_CAP 7 0)
  if d.rbit Reg.INJ_CTL 0 || d.rbit Reg.INJ_STAT 0 then d
  else if d.rbit (Reg.SPN_CTL p) l && !d.rbit (Reg.SPN_LSTAT p l) 6 &&
      (!d.rbit Reg.INJ_CTL 6 || (h.v && decide (h.kind = 6) && decide (h.writer = 132))) then
    let (n, _, _) := prbsTaps (d.fld Reg.INJ_PRBS 1 0)
    (((d.setRbit Reg.INJ_CTL 0 true).setRbit Reg.INJ_STAT 1 true).setFld Reg.INJ_STAT 15 8 0).modInj fun _ =>
      { Inj.reset with enAt := d.now, lfsr := 2 ^ n - 1, inc := (d.reg Reg.INJ_SWP0).toNat, live := true }
  else d.setRbit Reg.INJ_STAT 6 true

/-- One step of the PRBS (R406): the value of the period, and whether the signal stops after it. -/
def Dev.injPrbs (d : Dev) : Dev × Word :=
  let x := d.inj
  let amp := (d.reg Reg.INJ_AMP).toInt
  let (n, t1, t2) := prbsTaps (d.fld Reg.INJ_PRBS 1 0)
  let fresh := decide (x.bitHold = 0)
  let b := (x.lfsr.testBit (t1 - 1)) ^^ (x.lfsr.testBit (t2 - 1))
  let st := if fresh then (x.lfsr * 2 + b.toNat) % 2 ^ n else x.lfsr
  let bits := if fresh then x.bits + 1 else x.bits
  let hold := if fresh then d.fld Reg.INJ_PRBS 15 8 else x.bitHold - 1
  let ends := decide (hold = 0) && decide (bits = 2 ^ n - 1)
  let nseq := d.fld Reg.INJ_PRBS 31 16
  let v := if st.testBit 0 then wordOf amp else (sat32 (-amp)).1
  (d.modInj fun y =>
    { y with lfsr := st, bitHold := hold, bits := if ends then 0 else bits, capStep := x.step, capSetl := false,
             step := if ends then x.step + 1 else x.step,
             stopDue := ends && decide (nseq ≠ 0) && decide (x.step + 1 = nseq) }, v)

/-- One step of the stepped sweep (R406). -/
def Dev.injSweep (d : Dev) : Dev × Word :=
  let x := d.inj
  let amp := (d.reg Reg.INJ_AMP).toInt
  let settle := d.fld Reg.INJ_SWP2 7 0
  let ncyc := d.fld Reg.INJ_SWP2 15 8
  let v := (sat32 (shrR (amp * gsin x.phase) 31 true)).1
  let sum := x.phase + x.inc
  let cyc := if 2 ^ 32 ≤ sum then x.cycles + 1 else x.cycles
  let over1 := decide (settle + ncyc ≤ cyc)
  (d.modInj fun y =>
    { y with phase := if over1 then 0 else sum % 2 ^ 32, cycles := if over1 then 0 else cyc,
             capStep := x.step, capSetl := decide (x.cycles < settle), step := if over1 then x.step + 1 else x.step,
             inc := if over1 then (shrR (x.inc * d.fld Reg.INJ_SWP1 16 0 : Nat) 16 true).toNat else x.inc,
             stopDue := over1 && decide (d.fld Reg.INJ_SWP1 31 24 ≤ x.step) }, v)

/-- One step of the step signal (R406). -/
def Dev.injStepSig (d : Dev) : Dev × Word :=
  let x := d.inj
  let dl := d.fld Reg.INJ_STEP 31 24
  let len := d.fld Reg.INJ_STEP 23 0
  let v := if x.count < dl then 0 else d.reg Reg.INJ_AMP
  (d.modInj fun y =>
    { y with count := x.count + 1, capStep := 0, capSetl := false,
             stopDue := decide (len ≠ 0) && decide (dl + len ≤ x.count + 1) }, v)

/-- Hand the capture beats not yet raised to their hank (R411), the oldest first; one that the Skein does not serve at
once stays raised and counts among the beats that wait. -/
def Dev.injFlush (d : Dev) : Nat → Dev
  | 0 => d
  | k + 1 => match d.inj.beats.drop d.inj.raised with
    | [] => d
    | b :: _ =>
      let t := d.hankPut 132 none (d.fld Reg.INJ_CAP 7 0) b .capture
      (match t.2 with
        | .wait => t.1.modInj fun x => { x with raised := x.raised + 1 }
        | _ => t.1.modInj fun x => { x with beats := x.beats.take x.raised ++ x.beats.drop (x.raised + 1) }).injFlush k

/-- The capture beat of the period that ends (R410); a ninth beat that waits is dropped (R411). -/
def Dev.injCapture (d : Dev) : Dev :=
  if d.rbit Reg.INJ_CTL 6 && d.inj.started then
    let x := d.inj
    let (p, l) := d.injTarget
    let lp := d.loop (loopKey p l)
    let w3 := (lp.pcount % 2 ^ 16) <<< 16 ||| (x.capStep % 256) <<< 8 ||| x.capSetl.toNat <<< 3 |||
      (!lp.committed).toNat <<< 2 ||| x.capB.isNone.toNat <<< 1 ||| x.capA.isNone.toNat
    let b := [x.capVal, x.capA.getD 0, x.capB.getD 0, BitVec.ofNat 32 w3]
    if 8 ≤ x.beats.length then (d.injFlush 8).setRbit Reg.INJ_STAT 4 true
    else (d.modInj fun x => { x with beats := x.beats ++ [b] }).injFlush 8
  else d

/-- Latch 0 and end the signal: with DONE (R407) or ABORT (R408). -/
def Dev.injHalt (d : Dev) (abort : Bool) : Dev :=
  (((d.setReg Reg.INJ_VAL 0).setRbit Reg.INJ_STAT 1 false).setRbit Reg.INJ_STAT (if abort then 3 else 2) true).modInj
    fun x => { x with live := false, started := false, stopDue := false, abortDue := false }

/-- A period start of the target loop (R405 to R410): the beat of the period before, then the value of this one. -/
def Dev.injPeriod (d : Dev) (p l : Nat) : Dev :=
  if d.inj.live && decide (d.injTarget = (p, l)) then
    let d1 := d.injCapture
    if d.inj.abortDue then d1.injHalt true
    else if d.inj.stopDue then d1.injHalt false
    else if d.inj.started || decide (d.inj.enAt + ticksUs 2 ≤ d.now) then
      let r := match d.fld Reg.INJ_CTL 2 1 with
        | 0 => d1.injPrbs
        | 1 => d1.injSweep
        | _ => d1.injStepSig
      ((r.1.setReg Reg.INJ_VAL r.2).setFld Reg.INJ_STAT 15 8 (r.1.inj.capStep)).modInj fun x =>
        { x with started := true, capVal := r.2, capA := none, capB := none }
    else d1
  else d

/-- The generator is told to abort at the target's next period start (R408). -/
def Dev.injAbort (d : Dev) : Dev := if d.inj.live then d.modInj fun x => { x with abortDue := true } else d

/-- A value delivered to a trace point while the generator captures (R410). -/
def Dev.injTrace (d : Dev) (lg tp : Nat) (v : Word) : Dev :=
  if d.inj.live && decide (d.fld Reg.INJ_CTL 15 12 = lg) then
    (d.when (decide (d.fld Reg.INJ_CTL 21 16 = tp)) fun d => d.modInj fun x => { x with capA := some v }).when
      (decide (d.fld Reg.INJ_CTL 29 24 = tp)) fun d => d.modInj fun x => { x with capB := some v }
  else d

/-- A trace value of a Spindle's loop reaches the Reels and the capture (R204). -/
def Dev.trace (d : Dev) (p l tp : Nat) (v : Word) : Dev :=
  match d.logSpn p with
  | some lg => (d.reelTrace lg tp v (d.loop (loopKey p l)).pcount).injTrace lg tp v
  | none => d

/-! ### The commands -/

/-- INJECTION_ENABLE (R405), accepted in SERVICE (R404). -/
def execInjectionEnable (s : State) : Host.Outcome State Fault Refusal :=
  s.run fun d => if d.mode = 10 then d.injEnable else d

/-- INJECTION_STOP (R407): the signal has ended, and its target's next period starts. -/
def execInjectionStop (s : State) : Host.Outcome State Fault Refusal :=
  s.run fun d => if d.inj.live && d.inj.stopDue then d.injCapture.injHalt false else d

/-- INJECTION_ABORT (R408): the target's period start at which the generator aborts. -/
def execInjectionAbort (s : State) : Host.Outcome State Fault Refusal :=
  s.run fun d => if d.inj.live && d.inj.abortDue then d.injCapture.injHalt true else d

/-- REEL_ARM (R415). -/
def execReelArm (n : Fin 8) (s : State) : Host.Outcome State Fault Refusal := s.run fun d => d.reelArm n

/-- REEL_SOFTWARE_TRIGGER (R414). -/
def execReelSoftwareTrigger (n : Fin 8) (s : State) : Host.Outcome State Fault Refusal := s.run fun d => d.reelTrig n

/-- REEL_STOP (R415). -/
def execReelStop (n : Fin 8) (s : State) : Host.Outcome State Fault Refusal := s.run fun d => d.reelStop n

end Sys2Proof.Machine
end

