-- ==== Sys2Proof/Machine/Flags.lean ====
section
/-! DEFINITION. The flags word (R136 to R139): raising, clearing and reading flags on a Spindle's loop, directly or in
the masks of a speculative period, and on a Bobbin. -/

namespace Sys2Proof.Machine

/-- The flags of R136 as masks. -/
def fVSAT : Word := 1
def fASAT : Word := 2
def fISAT : Word := 4
def fILIM : Word := 8
def fDLIM : Word := 16
def fDZ : Word := 32
def fTSUB : Word := 64

/-- The committed flags word of a loop: its seven bits of SPN_FLAGS. -/
def Dev.loopFlags (d : Dev) (p l : Nat) : Word := BitVec.ofNat 32 (d.fld (Reg.SPN_FLAGS p) (8 * l + 6) (8 * l))

def Dev.setLoopFlags (d : Dev) (p l : Nat) (w : Word) : Dev := d.setFld (Reg.SPN_FLAGS p) (8 * l + 6) (8 * l) w.toNat

/-- The flags view that rdfl gives (R138): (committed and not C) or S; outside run-ahead the masks are empty. -/
def Dev.flagView (d : Dev) (p l : Nat) : Word :=
  (d.loopFlags p l &&& ~~~(d.spn p).maskC) ||| (d.spn p).maskS

/-- A raise: into mask S while the period speculates or replays, else into the committed word. -/
def Dev.raiseLoopFlags (d : Dev) (p l : Nat) (m : Word) : Dev :=
  if m = 0 then d
  else if (d.spn p).spec then d.modSpn p fun s => { s with maskS := s.maskS ||| m, maskC := s.maskC &&& ~~~m }
  else d.setLoopFlags p l (d.loopFlags p l ||| m)

/-- A clrf (R157). -/
def Dev.clearLoopFlags (d : Dev) (p l : Nat) (m : Word) : Dev :=
  if (d.spn p).spec then d.modSpn p fun s => { s with maskC := s.maskC ||| m, maskS := s.maskS &&& ~~~m }
  else d.setLoopFlags p l (d.loopFlags p l &&& ~~~m)

/-- The merge at COMMIT (R138): committed := (committed and not C) or S. -/
def Dev.mergeFlags (d : Dev) (p l : Nat) : Dev :=
  (d.setLoopFlags p l (d.flagView p l)).modSpn p fun s => { s with maskS := 0, maskC := 0, spec := false }

/-- A Bobbin's control register (R165). -/
def Dev.csr (d : Dev) (b n : Nat) : Word := smGet csrReset (d.bob b).csr n

/-- Whether a Bobbin is in supervisor mode (R166). -/
def Dev.sup (d : Dev) (b : Nat) : Bool := bitOf (d.csr b 0) 0

def Dev.setCsr (d : Dev) (b n : Nat) (w : Word) : Dev := d.modBob b fun x => { x with csr := smSet csrReset x.csr n w }

/-- The loop that runs on a Spindle. -/
def Dev.curLoop (d : Dev) (p : Nat) : Nat := (d.spn p).slot.getD 0

/-- Raise flags on a core (R136). -/
def Dev.raiseFlags (d : Dev) (c : Core) (m : Word) : Dev :=
  match c with
  | .spn p => d.raiseLoopFlags p (d.curLoop p) m
  | .bob b => if m = 0 then d else d.setCsr b 6 (d.csr b 6 ||| m)

def Dev.clearFlags (d : Dev) (c : Core) (m : Word) : Dev :=
  match c with
  | .spn p => d.clearLoopFlags p (d.curLoop p) m
  | .bob b => d.setCsr b 6 (d.csr b 6 &&& ~~~m)

/-- The flags word a core reads. -/
def Dev.readFlags (d : Dev) (c : Core) : Word :=
  match c with
  | .spn p => d.flagView p (d.curLoop p)
  | .bob b => d.csr b 6

end Sys2Proof.Machine
end

