-- ==== Sys2Proof/Machine/Spindle.lean ====
section
/-! DEFINITION. Spindles: loops, sample sets, periods, run-ahead, commits, holds, fills, recovery (06, and R189 to R200
of 05). -/

namespace Sys2Proof.Machine

/-! ### Sample sets (R218, R219) -/

/-- Every slot of the open generation has filled. -/
def SetWin.complete (w : SetWin) (n : Nat) : Bool := w.opened && (List.range n).all fun j => (w.slot j).isSome

/-- A generation opens; one still filling, or complete and not released, is discarded with DISC (R219). -/
def Dev.openGen (d : Dev) (p s stamp : Nat) : Dev :=
  (d.when ((d.spn p).win s).opened fun d => d.setRbit (Reg.SPN_SDEF p s) 11 true).modWin p s fun w =>
    { w with opened := true, filling := [], openSeq := stamp }

/-- Every set whose event this is opens a generation; a retired Spindle has none. -/
def Dev.openGens (d : Dev) (tb ev stamp : Nat) : Dev :=
  (List.range 18).foldl
    (fun e p => (List.range 4).foldl
      (fun e s =>
        let r := Reg.SPN_SDEF p s
        if e.nslot p s ≠ 0 ∧ !e.rbit (Reg.SPN_STAT p) 9 ∧ e.fld r 8 5 = tb ∧ e.fld r 10 9 = ev then e.openGen p s stamp else e) e) d

/-- Release of the filling generation (R189). -/
def Dev.releaseSet (d : Dev) (p s : Nat) : Dev :=
  d.modWin p s fun w =>
    { w with opened := false, filling := [],
             released := (List.range 16).foldl (fun m j => match w.slot j with
                                                           | some x => smSet (fun _ => 0) m j x
                                                           | none => smSet (fun _ => 0) m j 0) [] }

/-- The released word of a slot; 0 before the first release (R189). -/
def Dev.slotWord (d : Dev) (p s j : Nat) : Word := smGet (fun _ => 0) ((d.spn p).win s).released j

/-- A slot's prediction. -/
def Dev.pred (d : Dev) (p s j : Nat) : Word := smGet (fun _ => 0) ((d.spn p).win s).preds j

/-- The real value of a result word (R190): CODE, sign-extended for a decimator result. -/
def realValue (w : Word) : Int := if bitsOf w 11 8 = 15 then signed 16 (bitsOf w 31 16) else (bitsOf w 31 16 : Nat)

/-- SET of a result word (R98). -/
def isSet (w : Word) : Bool := bitOf w 15

/-! ### Loops -/

/-- The instance number of a loop's Snarl sources: logical Spindle x 4 + loop (R420). -/
def Dev.loopInst (d : Dev) (p l : Nat) : Nat := 4 * ((d.logSpn p).getD 0) + l

def Dev.lp (d : Dev) (p l : Nat) : Loop := d.loop (loopKey p l)

def Dev.modLp (d : Dev) (p l : Nat) (f : Loop → Loop) : Dev := d.modLoop (loopKey p l) f

def Dev.loopEn (d : Dev) (p l : Nat) : Bool := d.rbit (Reg.SPN_CTL p) l

def Dev.psv (d : Dev) (p l : Nat) : Bool := d.rbit (Reg.SPN_LTRIG p l) 8

def Dev.pset (d : Dev) (p l : Nat) : Nat := d.fld (Reg.SPN_LTRIG p l) 7 6

/-- The period divisor N (R211). -/
def Dev.loopN (d : Dev) (p l : Nat) : Nat := d.fld (Reg.SPN_LTRIG p l) 23 16 + 1

/-- The address of an entry point: word offsets in the program hank. -/
def Dev.entryPc (d : Dev) (p l : Nat) (e : Entry) : Word :=
  let off := match e with
    | .pred => d.fld (Reg.SPN_LENT0 p l) 11 0
    | .body => d.fld (Reg.SPN_LENT0 p l) 27 16
    | .post => d.fld (Reg.SPN_LENT1 p l) 11 0
  BitVec.ofNat 32 ((d.spn p).pbase + 4 * off)

/-- The Whorls of a loop's list, in list order (SPN_LWHL). -/
def Dev.whorlList (d : Dev) (p l : Nat) : List Nat :=
  (List.range (min 16 (d.fld (Reg.SPN_LENT1 p l) 20 16))).map fun w =>
    d.fld (Reg.SPN_LWHL p l (w / 4)) (8 * (w % 4) + 5) (8 * (w % 4))

/-- A staged image word (R192). -/
def Loop.image (x : Loop) (w f : Nat) : Word := smGet (fun _ => 0) x.images (4 * w + f)

/-- Stop the entry point that runs, with its speculation (R33): snapshot, queue and masks are gone, and it waits for no
lock. -/
def Dev.stopEntry (d : Dev) (p : Nat) : Dev :=
  (d.modSk fun x => { x with waits := x.waits.filter fun w => decide (w.req ≠ reqSpn p) }).modSpn p
    fun s => { s with entry := none, ra := false, spec := false, wait := none, queue := [], maskS := 0, maskC := 0 }

/-- The generator's target loop ends or traps (R408). -/
def Dev.injTargetGone (d : Dev) (p l : Nat) : Dev := if d.injTarget = (p, l) then d.injAbort else d

/-- A trap of a Spindle (R161, R240): the loop's entry point stops, TRAPPED, the trap record, SPN_TRAP. -/
def Dev.spnTrap (d : Dev) (p l cause : Nat) (pc ea : Word) (imp : Bool) : Dev :=
  let d1 := (d.when (decide ((d.spn p).slot = some l)) fun d => d.stopEntry p).setRbit (Reg.SPN_LSTAT p l) 6 true
  let d2 :=
    if d.rbit (Reg.SPN_TRAPC p) 31 then d1.setRbit (Reg.SPN_TRAPC p) 30 true
    else ((d1.setReg (Reg.SPN_TRAPC p)
        (0x80000000 ||| (d.reg (Reg.SPN_TRAPC p) &&& 0x40000000) |||
          BitVec.ofNat 32 (imp.toNat <<< 10 ||| l <<< 8 ||| cause % 256))).setReg (Reg.SPN_TRAPPC p) pc).setReg
        (Reg.SPN_TRAPEA p) ea
  (d2.raise Src.SPN_TRAP (d.loopInst p l)).injTargetGone p l

/-! ### The coefficient file (R129, R230, R231) -/

/-- The coefficient hank that KSEL selects. -/
def Dev.selHank (d : Dev) (p l : Nat) : Nat :=
  if d.rbit (Reg.SPN_CTL p) (8 + l) then d.fld (Reg.SPN_LHANK p l) 23 16 else d.fld (Reg.SPN_LHANK p l) 15 8

/-- The snapshot of a period: the live copy of one hank. -/
def liveOf (live : SMap DWord) (hank : Nat) : SMap DWord :=
  (live.filter fun e => decide (e.1 / 256 = hank)).map fun e => (e.1 % 256, e.2)

/-- The live copy of a hank as the Skein holds it. -/
def Dev.copyLive (d : Dev) (p hank : Nat) : Dev :=
  let h := d.hank hank
  d.modSpn p fun s =>
    { s with live := ((List.range (min 256 (h.bytes / 8))).foldl
        (fun m e => smSet (fun _ => 0) m (liveKey hank e) (if h.v then d.hankEntry h e else 0))
        (s.live.filter fun x => decide (x.1 / 256 ≠ hank))) }

/-- Fill the live copy of a hank with class-1 draws (R232). -/
def Dev.fillLive (d : Dev) (p hank : Nat) : Dev × SkRes :=
  let r := if (d.hank hank).v then d.pull (reqSpn p) (d.hank hank).start (min 2048 (d.hank hank).bytes) 3
    else (d, .done false)
  match r.2 with
  | .done b => (r.1.copyLive p hank, .done b)
  | e => (r.1, e)

/-- Fill the live copies of several hanks, up to the first that is refused or not granted. -/
def Dev.fillLives (d : Dev) (p : Nat) : List Nat → Dev × SkRes
  | [] => (d, .done false)
  | h :: hs =>
    let r := d.fillLive p h
    match r.2 with
    | .done _ => r.1.fillLives p hs
    | e => (r.1, e)

/-- The coefficient hanks of a Spindle's loops, each once. -/
def Dev.coefHanks (d : Dev) (p : Nat) : List Nat :=
  ((List.range 4).flatMap fun l => [d.fld (Reg.SPN_LHANK p l) 15 8, d.fld (Reg.SPN_LHANK p l) 23 16]).eraseDups

/-! ### Substitution (R196, R226) -/

def Loop.substOf (x : Loop) (j : Nat) : Nat := smGet (fun _ => 0) x.substCnt j

/-- A SUB_MAX entry's value, clamped to 0 .. 255 (R196). -/
def subMax (k : DWord) : Nat := (clampI 0 255 (kValue k)).toNat

/-- Whether an entry passes the check of R128 for one kind. -/
def kindOk (k : DWord) (kind : Nat) : Bool := kZero k && decide (kKind k = kind)

/-- The feedback-fault path (R226). -/
def Dev.feedbackFault (d : Dev) (p l : Nat) : Dev :=
  ((d.setRbit (Reg.SPN_LSTAT p l) 9 true).raise Src.SPN_FBF (d.loopInst p l)).modLp p l fun x => { x with fbf := true }

/-- The slots of a set whose released word has SET = 1. -/
def Dev.setSlots (d : Dev) (p s : Nat) : List Nat := (List.range (d.nslot p s)).filter fun j => isSet (d.slotWord p s j)

/-- The coefficient entry of the period's snapshot. -/
def Dev.kEntry (d : Dev) (p i : Nat) : DWord := smGet (fun _ => 0) (d.spn p).kfile i

/-- Whether the primary generation of the current period is complete and not released (R220), or stands again (R235). -/
def Dev.primaryReady (d : Dev) (p l : Nat) : Bool :=
  let w := (d.spn p).win (d.pset p l)
  (d.spn p).again || w.complete (d.nslot p (d.pset p l)) && decide ((d.lp p l).evStamp = some w.openSeq)

/-- Release the primary generation and note whether any slot has SET = 1 (R223). -/
def Dev.releasePrimary (d : Dev) (p l : Nat) : Dev :=
  let s := d.pset p l
  let d1 := (if (d.spn p).again then d else d.releaseSet p s).modSpn p fun x => { x with released := true, again := false }
  d1.modLp p l fun x => { x with clean := (d1.setSlots p s).isEmpty }

/-- The release in plain mode (R226): slots with SET = 1 substituted while their count is below SUB_MAX; a bad SUB_MAX
entry is a KIND trap. The result says whether the release stands. -/
def Dev.plainRelease (d : Dev) (p l : Nat) : Dev × Bool :=
  let s := d.pset p l
  let d1 := d.releasePrimary p l
  let marked := d1.setSlots p s
  if marked.isEmpty then (d1.modSpn p fun x => { x with subst := [] }, true)
  else
    let i := d.fld (Reg.SPN_LTRIG p l) 31 24 + d.nslot p s
    let k := d.kEntry p i
    if 255 < i || !kindOk k 1 then (d, false)
    else
      let sub := marked.filter fun j => (d.lp p l).substOf j < subMax k
      let d2 := (d1.modSpn p fun x => { x with subst := sub }).raiseLoopFlags p l (if sub.isEmpty then 0 else fTSUB)
      (if sub.length < marked.length then d2.feedbackFault p l else d2, true)

/-! ### Squash (R162, R197) -/

/-- Restore the rahead snapshot: registers, accumulators, staged images, LB; drop the queue and the masks. -/
def Dev.dropRa (d : Dev) (p l : Nat) : Dev :=
  let sn := (d.spn p).snap
  (d.modSpn p fun s =>
    { s with v := sn.v, a := sn.a, lb := sn.lb, queue := [], maskS := 0, maskC := 0, ra := false, wait := none }).modLp p l
    fun x => { x with images := sn.images }

/-- A squash that a replay follows: REPL counts it. -/
def Dev.squash (d : Dev) (p l : Nat) : Dev := (d.dropRa p l).incFld (Reg.SPN_LCNT p l) 15 0

/-- BODY issues from its entry. -/
def Dev.startBody (d : Dev) (p l : Nat) : Dev :=
  d.modSpn p fun s => { s with entry := some .body, wait := none, pc := d.entryPc p l .body }

/-- A slot of a check passes or fails (R195, R196), and whether it is substituted and whether the feedback-fault path is
raised. -/
def Dev.judgeSlot (d : Dev) (p l k j : Nat) : Bool × Bool × Bool :=
  let s := d.pset p l
  let w := d.slotWord p s j
  if isSet w then
    let ok := decide ((d.lp p l).substOf j < subMax (d.kEntry p (k + d.nslot p s)))
    (ok, ok, !ok)
  else
    (decide (((realValue w - (d.pred p s j).toInt).natAbs : Int) ≤ kValue (d.kEntry p (k + j))), false, false)

/-- The end of run-ahead at a check's release (R195 to R197). -/
def Dev.judgeCheck (d : Dev) (p l k : Nat) : Dev :=
  let d1 := d.releasePrimary p l
  let n := d.nslot p (d.pset p l)
  let js := (List.range n).map fun j => (j, d1.judgeSlot p l k j)
  let sub := (js.filter fun x => x.2.2.1).map Prod.fst
  let d2 := d1.when (js.any fun x => x.2.2.2) fun d => d.feedbackFault p l
  if js.all fun x => x.2.1 then
    (d2.modSpn p fun s => { s with ra := false, wait := none, subst := sub, pc := s.pc + 4 }).raiseLoopFlags p l
      (if sub.isEmpty then 0 else fTSUB)
  else
    (((d2.squash p l).modSpn p fun s => { s with subst := sub }).startBody p l).raiseLoopFlags p l
      (if sub.isEmpty then 0 else fTSUB)

/-! ### Waits (R191, R193, R195) -/

/-- What a waiting Spindle waited for has come: release and go on; otherwise it waits on. -/
def Dev.tryWait (d : Dev) (p : Nat) : Dev :=
  let l := d.curLoop p
  match (d.spn p).wait with
  | some (.waits s) =>
    if ((d.spn p).win s).complete (d.nslot p s) then
      (d.releaseSet p s).modSpn p fun x => { x with wait := none, pc := x.pc + 4 }
    else d
  | some .rahead =>
    if d.primaryReady p l then
      let r := d.plainRelease p l
      if r.2 then r.1.startBody p l else r.1.spnTrap p l 0x05 (d.spn p).pc 0 false
    else d
  | some (.check k) => if d.primaryReady p l then d.judgeCheck p l k else d
  | some .replay =>
    if d.primaryReady p l then
      let r := d.plainRelease p l
      if r.2 then r.1.startBody p l else r.1.spnTrap p l 0x05 (d.spn p).pc 0 false
    else d
  | some (.lock _) => d
  | none => d

/-- A trap condition in run-ahead (R162): squash, then replay BODY on the real samples when they arrive. -/
def Dev.squashReplay (d : Dev) (p l : Nat) : Dev :=
  ((d.squash p l).modSpn p fun s => { s with wait := some .replay, pc := d.entryPc p l .body }).tryWait p

/-! ### Period start (R211 to R214, R221 to R224) -/

/-- The handoff line of a state hank: bytes 0x80 to 0xBF (R221); its read sets LB like any access (R202). A line that is
not granted yet is waited for by the first load from it. -/
def Dev.takeHandoff (d : Dev) (p l : Nat) : Dev :=
  if d.rbit (Reg.SPN_LENT1 p l) 23 then
    let a := (d.hank (d.fld (Reg.SPN_LENT1 p l) 31 24)).start + 0x80
    let r := d.load (reqSpn p) 1 a 64
    let h := match r.2.1 with
      | .done brk => (Handoff.words (r.1.words a 16), brk)
      | .refused st => (.failed (causeOf st), false)
      | .wait => (.waiting, false)
    (r.1.modSpn p fun s => { s with handoff := h.1 }).noteSpnLb p h.2
  else d.modSpn p fun s => { s with handoff := .off }

/-- The mode of the period that starts (R223, R224): QUAL falls to 0 and the loop returns to plain mode after a cleared
RAEN, a feedback fault or two consecutive holds; it enters run-ahead with QUAL = 8, RAEN and a primary set, and stays. -/
def Dev.startMode (d : Dev) (p l : Nat) : Dev :=
  let x := d.lp p l
  let back := x.raenOff || x.fbf || decide (2 ≤ x.holds)
  let d1 := d.when back fun d => (d.setFld (Reg.SPN_LSTAT p l) 5 2 0).setRbit (Reg.SPN_LSTAT p l) 1 false
  let ra := d1.rbit (Reg.SPN_LSTAT p l) 1 ||
    (decide (d1.fld (Reg.SPN_LSTAT p l) 5 2 = 8) && d.rbit (Reg.SPN_CTL p) (4 + l) && d.psv p l)
  (d1.setRbit (Reg.SPN_LSTAT p l) 1 ra).modLp p l fun x => { x with raenOff := false, fbf := false }

/-- v16 to v31 of a context; v1 to v15 start at 0 (R214). -/
def upperRegs (v : SMap Word) : SMap Word := v.filter fun e => decide (16 ≤ e.1)

/-- The number of the next period: the first one not yet started whose event has not come (R211), with the events that
were counted before. -/
def Loop.next (x : Loop) (n events : Nat) : Nat := max x.served ((events + n - 1) / n)

/-- Whether the event that opens a slot came at this very tick: with LEAD = 0 both fall together (R212). -/
def Dev.eventHere (d : Dev) (p l : Nat) : Bool :=
  decide (d.fld (Reg.SPN_LSLOT p l) 15 0 = 0) && decide (0 < (d.lp p l).events) && decide ((d.lp p l).lastAt = some d.now)

/-- The number of the period that starts now. -/
def Dev.nextPeriod (d : Dev) (p l : Nat) : Nat :=
  let x := d.lp p l
  x.next (d.loopN p l) (if d.eventHere p l then x.events - 1 else x.events)

/-- Whether the event of the period that starts now has come with it. -/
def Dev.eventMine (d : Dev) (p l : Nat) : Bool :=
  d.eventHere p l && decide ((d.lp p l).events - 1 = d.nextPeriod p l * d.loopN p l)

/-- A period becomes due: it is the loop's present one until the next. -/
def Dev.takePeriod (d : Dev) (p l : Nat) (lost : Bool) : Dev :=
  let n := d.nextPeriod p l
  let mine := d.eventMine p l
  d.modLp p l fun x =>
    { x with per := n, served := n + 1, evAt := if mine then some d.now else none,
             evStamp := if mine then some x.lastStamp else none, held := false, lost := lost }

/-- Nothing of the present period has happened yet. -/
def Dev.freshPeriod (d : Dev) (p l : Nat) : Dev :=
  d.modLp p l fun x => { x with committed := false, inTime := false, clean := false }

/-- A loop's slot opens (R214). -/
def Dev.openSlot (d : Dev) (p l : Nat) : Dev :=
  let d1 := (((d.modSpn p fun s => { s with lb := false }).startMode p l).takeHandoff p l).injPeriod p l
  let hit := d.inj.live && decide (d.injTarget = (p, l))
  let iv : SMap Word := if hit then smSet (fun _ => 0) [] (d.fld Reg.INJ_CTL 5 4) (d1.reg Reg.INJ_VAL) else []
  (d1.freshPeriod p l).modSpn p fun s =>
    { s with kfile := liveOf s.live (d.selHank p l), inj := iv, slot := some l, entry := some .pred,
             v := upperRegs (d.lp p l).v, a := (d.lp p l).a, ra := false, spec := false, maskS := 0, maskC := 0,
             queue := [], wait := none, subst := [], released := false, recovered := false, again := false,
             restoring := false, pc := d.entryPc p l .pred }

/-- Whether a takeover keeps the loops of a Spindle from running: it is the spare of the one that runs, or waits for
its own (R237, R239). -/
def Dev.onHold (d : Dev) (p : Nat) : Bool :=
  match d.cr.takeovers with
  | [] => false
  | t :: ts => decide (t.2 = p) || ts.any fun u => decide (u.1 = p)

/-- Whether a loop can start a period at all: enabled, not trapped. -/
def Dev.loopLive (d : Dev) (p l : Nat) : Bool := d.loopEn p l && !d.rbit (Reg.SPN_LSTAT p l) 6

/-- Whether a period of a loop may start: the Spindle serves and is filled, no period of the loop is open or waits for its
slot, and event 0 can be LEAD ticks away (R211, R213). -/
def Dev.periodDue (d : Dev) (p l : Nat) : Bool :=
  let x := d.lp p l
  d.loopLive p l && !d.rbit (Reg.SPN_STAT p) 8 && !d.rbit (Reg.SPN_STAT p) 9 &&
    decide ((d.spn p).slot ≠ some l) && decide (l ∉ (d.spn p).slotWait) && (x.started || decide (x.enAt + 8 ≤ d.now))

/-- PERIOD_START: the slot opens, or waits for the slot that is open (R213). While a takeover runs the period is lost, and
the injection goes on (R228, R237, R411). -/
def Dev.periodStart (d : Dev) (p l : Nat) : Dev :=
  if d.onHold p then
    if d.loopLive p l then ((d.injPeriod p l).takePeriod p l true).freshPeriod p l else d
  else if d.periodDue p l then
    match (d.spn p).slot with
    | none => (d.openSlot p l).takePeriod p l false
    | some _ => (d.takePeriod p l false).modSpn p fun s => { s with slotWait := s.slotWait ++ [l] }
  else d

/-- The slot that waits longest opens once no other is open (R213); on a Spindle that is retired or that a takeover keeps
from running none opens (R237, R239). -/
def Dev.openNext (d : Dev) (p : Nat) : Dev :=
  match (d.spn p).slotWait with
  | [] => d
  | m :: ms =>
    if d.onHold p || d.rbit (Reg.SPN_STAT p) 9 then d
    else
      let d1 := d.modSpn p fun s => { s with slotWait := ms }
      if d1.loopLive p m then d1.openSlot p m else d1

/-- A loop sees an occurrence of its event (R211): event 0 not before LEAD + 8 ticks after EN and the fills; the event of
the present period gives that period its time and its generation (R220). -/
def Dev.loopEvent (d : Dev) (p l stamp : Nat) : Dev :=
  let x := d.lp p l
  let ready := !d.rbit (Reg.SPN_STAT p) 8 &&
    decide (x.enAt + d.fld (Reg.SPN_LSLOT p l) 15 0 + 8 ≤ d.now)
  if x.started || ready || decide (x.served = 1) then
    let mine := decide (x.events = x.per * d.loopN p l) && decide (x.served = x.per + 1)
    d.modLp p l fun x =>
      { x with started := true, events := x.events + 1, lastAt := some d.now, lastStamp := stamp,
               evStamp := if mine then some stamp else x.evStamp,
               evAt := if mine then some d.now else x.evAt }
  else d

/-- Every enabled loop whose event this is. -/
def Dev.loopEvents (d : Dev) (tb ev stamp : Nat) : Dev :=
  (List.range 18).foldl
    (fun e p => (List.range 4).foldl
      (fun e l =>
        let r := Reg.SPN_LTRIG p l
        if e.loopEn p l && decide (e.fld r 3 0 = tb) && decide (e.fld r 5 4 = ev) then e.loopEvent p l stamp else e) e) d

/-! ### Commit (R196, R198 to R200) -/

/-- Bytes of the state checkpoint (R199). -/
def ckptBytes (v : SMap Word) (a : SMap DWord) (flags : Word) (pcount seq : Nat) (sub : SMap Nat) : List Byte :=
  ((List.range 16).flatMap fun i => bytesOfWord (smGet (fun _ => 0) v (16 + i))) ++
  ((List.range 4).flatMap fun i => bytesOfDword (smGet (fun _ => 0) a i)) ++
  bytesOfWord flags ++ bytesOfWord (BitVec.ofNat 32 pcount) ++ bytesOfWord (BitVec.ofNat 32 (seq % 256)) ++
  bytesOfWord 0 ++ ((List.range 16).map fun i => BitVec.ofNat 8 (smGet (fun _ => 0) sub i))

/-- The staged images go to their duty slots, in list order (R198); LOCKBRK sets LB (R202). -/
def Dev.writeImages (d : Dev) (p l : Nat) : Dev :=
  (((d.whorlList p l).zipIdx).foldl
    (fun e w =>
      let x := d.lp p l
      let a := e.fld (Reg.WHL_SLOT w.1) 23 4 * 16
      let r := e.postStore (reqSpn p) 0 (some l) a ((List.range 4).flatMap fun f => bytesOfWord (x.image w.2 f)) [] false
        (.image p)
      match r.2 with
      | .done brk => r.1.noteSpnLb p brk
      | _ => r.1) d)

/-- The substitution counts after a commit (R196): a substituted slot counts one more, a slot with SET = 0 is 0. -/
def Dev.newCounts (d : Dev) (p l : Nat) : SMap Nat :=
  if d.psv p l && (d.spn p).released then
    (List.range (d.nslot p (d.pset p l))).foldl
      (fun m j =>
        if j ∈ (d.spn p).subst then smSet (fun _ => 0) m j (smGet (fun _ => 0) m j + 1)
        else if isSet (d.slotWord p (d.pset p l) j) then m
        else smSet (fun _ => 0) m j 0) (d.lp p l).substCnt
  else (d.lp p l).substCnt

/-- The checkpoint and, when its write completes, the new committed context (R22, R199). A loop without a primary set has no
committed generation: its SEQ byte is 0 (DESIGN CHOICE, notes/assumptions/87.md). -/
def Dev.writeCheckpoint (d : Dev) (p l : Nat) (sub : SMap Nat) : Dev :=
  let x := d.lp p l
  let s := d.spn p
  let pc1 := (x.pcount + 1) % 2 ^ 32
  let seq := if d.psv p l then bitsOf (d.slotWord p (d.pset p l) 0) 7 0 else 0
  let a := (d.hank (d.fld (Reg.SPN_LHANK p l) 7 0)).start
  let bs := ckptBytes s.v s.a (d.loopFlags p l) pc1 seq sub
  let r := d.postStore (reqSpn p) 0 (some l) a bs [] false (.checkpoint p l)
  match r.2 with
  | .done brk => (r.1.modLp p l fun x => x.ofCkpt bs).noteSpnLb p brk
  | _ => r.1

/-- Issue one store of a Spindle's loop. -/
def Dev.spnStore (d : Dev) (p : Fin 18) (l ea : Nat) (bs : List Byte) (pc : Word) : Dev :=
  d.corePost (.spn p) (some l) ea bs [] pc

/-- What COMMIT issues for the queue (R222): a trace word, or the words of consecutive stores in one beat as one draw,
with the address and the instruction of the first. -/
inductive QDraw where
  | trace (tp : Nat) (w : Word)
  | beat (ws : List (Nat × Word)) (ea : Nat) (pc : Word)
  deriving DecidableEq, Repr

/-- Stores put before a list of draws: they join its first draw when that falls in the same beat. -/
def joinBeat (ws : List (Nat × Word)) (ea : Nat) (pc : Word) : List QDraw → List QDraw
  | .beat vs ea1 pc1 :: q => if ea1 / 16 = ea / 16 then .beat (ws ++ vs) ea pc :: q else .beat ws ea pc :: .beat vs ea1 pc1 :: q
  | q => .beat ws ea pc :: q

def joinQueue : List Queued → List QDraw
  | [] => []
  | .word ea w pc :: q => joinBeat [(ea, w)] ea pc (joinQueue q)
  | .dword ea w pc :: q => joinBeat [(ea, w.extractLsb' 0 32), (ea + 4, w.extractLsb' 32 32)] ea pc (joinQueue q)
  | .trace tp w :: q => .trace tp w :: joinQueue q

/-- A joined draw: its words from the lowest address to the highest, the newest store to each, and the places between them
without a write enable (R42). Refused, its record has the instruction of the first store and the lowest address of the beat
(DESIGN CHOICE, notes/assumptions/86.md). -/
def Dev.storeBeat (d : Dev) (p : Fin 18) (l : Nat) (ws : List (Nat × Word)) (pc : Word) : Dev :=
  let lo := ws.foldl (fun m w => min m w.1) (2 ^ 32)
  let hi := ws.foldl (fun m w => max m w.1) 0
  let at_ := fun i => (ws.reverse.find? fun w => decide (w.1 = lo + 4 * i)).map Prod.snd
  let n := (hi - lo) / 4 + 1
  d.corePost (.spn p) (some l) lo ((List.range n).flatMap fun i => bytesOfWord ((at_ i).getD 0))
    ((List.range n).filter fun i => (at_ i).isNone) pc

/-- The queued stores and trace words, in program order (R198, R204, R222). -/
def Dev.drainQueue (d : Dev) (p : Fin 18) (l : Nat) : List QDraw → Dev
  | [] => d
  | .trace tp w :: q => (d.trace p l tp w).drainQueue p l q
  | .beat ws _ pc :: q => (d.storeBeat p l ws pc).drainQueue p l q

/-- The trap of a posted store that was refused (R155, R163): imprecise, with the store's address, for the loop that
issued it; a further refused store of that loop gives no second trap (DESIGN CHOICE, notes/assumptions/84.md). -/
def Dev.takeRefused (d : Dev) (p : Nat) : Dev :=
  match (d.spn p).refused with
  | [] => d
  | r :: _ =>
    (d.modSpn p fun s => { s with refused := s.refused.filter fun x => decide (x.loop ≠ r.loop) }).spnTrap p r.loop r.cause
      r.pc r.ea true

/-- COMMIT (R198): flags merged and counts updated, then the images, the checkpoint, the queue. -/
def Dev.commit (d : Dev) (p : Fin 18) (l : Nat) : Dev :=
  let d1 := d.mergeFlags p l
  let sub := d1.newCounts p l
  let q := (d.spn p).queue
  let d2 := ((d1.modLp p l fun x => { x with substCnt := sub }).writeImages p l).writeCheckpoint p l sub
  let t := match (d.lp p l).evAt with
    | none => true
    | some e => decide (d.now < e + d.fld (Reg.SPN_LDEAD p l) 15 0)
  let d3 := (d2.modLp p l fun x =>
    { x with committed := true, inTime := t, holds := 0, imagesC := x.images }).modSpn p fun s =>
      { s with queue := [] }
  let d4 := d3.drainQueue p l (joinQueue q)
  if q.isEmpty then d4 else d4.takeRefused p

/-! ### Deadline and slot close (R216, R223, R227, R228) -/

/-- The counts of a hold (R227, R228): HOLD, and MISS with SPN_MISS unless a recovery or a takeover caused it, which sets
LSR. -/
def Dev.countHold (d : Dev) (p l : Nat) (lsr : Bool) : Dev :=
  let d1 := (d.modLp p l fun x =>
    { x with images := x.imagesC, holds := x.holds + 1, held := true, committed := false, inTime := false, clean := false,
             lost := false }).incFld
      (Reg.SPN_LSTAT p l) 31 16
  if lsr then d1.setRbit (Reg.SPN_LSTAT p l) 7 true
  else (d1.incFld (Reg.SPN_LCNT p l) 31 16).raise Src.SPN_MISS (d.loopInst p l)

/-- A held period: the entry point stops, its images and stores go, the hold counts. -/
def Dev.holdPeriod (d : Dev) (p l : Nat) : Dev := (d.stopEntry p).countHold p l (d.spn p).recovered

/-- The commit deadline in ticks after the event (R200, R225, R235): DEAD in run-ahead and after a recovery, SEND in plain
mode. -/
def Dev.deadTicks (d : Dev) (p l : Nat) : Nat :=
  if d.rbit (Reg.SPN_LSTAT p l) 1 || (d.spn p).recovered then d.fld (Reg.SPN_LDEAD p l) 15 0
  else d.fld (Reg.SPN_LSLOT p l) 31 16

/-- A period that ends at its guard without its slot (R223, R227, R228): the hold counts, with LSR when a takeover has kept
the slot; else QUAL returns to 0. The generator's signal advances for it, and the beat of the period before is written
first (R410). -/
def Dev.dropPeriod (d : Dev) (p l : Nat) : Dev :=
  (if d.loopLive p l then
    ((d.injPeriod p l).countHold p l (d.onHold p)).when (!d.onHold p) fun d => d.setFld (Reg.SPN_LSTAT p l) 5 2 0
  else d).modSpn p fun s => { s with slotWait := s.slotWait.filter (· ≠ l) }

/-- COMMIT_DEADLINE (R227): the guard acts when the period has not committed and is not stopped by a trap; a period that a
takeover has cost, or whose deadline falls in it, is a hold with LSR (R228). A period whose slot has not opened by then
never runs: it ends there. -/
def Dev.deadline (d : Dev) (p l : Nat) : Dev :=
  if l ∈ (d.spn p).slotWait then d.dropPeriod p l
  else if (d.lp p l).lost || (d.onHold p && !(d.lp p l).committed && !(d.lp p l).held) then
    (if d.loopLive p l then d.countHold p l true else d)
  else if (d.spn p).slot = some l ∧ !(d.lp p l).committed ∧ !(d.lp p l).held ∧ !d.rbit (Reg.SPN_LSTAT p l) 6 then
    d.holdPeriod p l
  else d

/-- QUAL at the end of a period (R223); unchanged by a recovered period (R235). -/
def Dev.endQual (d : Dev) (p l : Nat) : Dev :=
  if (d.spn p).recovered then d
  else
    let x := d.lp p l
    let q := d.fld (Reg.SPN_LSTAT p l) 5 2
    d.setFld (Reg.SPN_LSTAT p l) 5 2 (if x.inTime && x.clean then min 8 (q + 1) else 0)

/-- SLOT_CLOSE (R216): an entry point still running is stopped with OVR; a period not committed holds; the next waiting
slot opens. QUAL is kept while a takeover waits for the Spindle (R237). -/
def Dev.slotClose (d : Dev) (p l : Nat) : Dev :=
  if (d.spn p).slot = some l then
    let running := (d.spn p).entry.isSome
    let d1 := d.deadline p l
    let d2 := (d1.stopEntry p).when running fun d =>
      (d.setRbit (Reg.SPN_LSTAT p l) 8 true).raise Src.SPN_OVR (d.loopInst p l)
    ((d2.when (!d.onHold p) fun d => d.endQual p l).modSpn p fun s =>
      { s with slot := none, recovered := false, again := false, restoring := false }).openNext p
  else if l ∈ (d.spn p).slotWait then d.deadline p l
  else d

/-! ### Enable, fills, restore (R212, R217, R232, R242) -/

/-- The period of a timebase in ticks (R243). -/
def Dev.tbPeriod (d : Dev) (j : Nat) : Nat :=
  let per := d.fld (Reg.TB_PER j) 23 0
  if d.rbit (Reg.TB_CTL j) 1 then 2 * per else per + 1

/-- Load a loop's committed context from the checkpoint in its state hank (R217, R235): registers, counts and the flags
word. -/
def Dev.restoreCtx (d : Dev) (p l : Nat) : Dev × SkRes :=
  let a := (d.hank (d.fld (Reg.SPN_LHANK p l) 7 0)).start
  let r := d.load (reqSpn p) 1 a 128
  match r.2.1 with
  | .done b => ((r.1.modLp p l fun x => x.ofCkpt r.2.2).setLoopFlags p l (ckptWord r.2.2 0x60), .done b)
  | e => (r.1, e)

/-- Whether an EN setting of a loop is ignored with CFGERR (R212). -/
def Dev.loopCfgBad (d : Dev) (p l : Nat) : Bool :=
  let lead := d.fld (Reg.SPN_LSLOT p l) 15 0
  let send := d.fld (Reg.SPN_LSLOT p l) 31 16
  decide (send < d.fld (Reg.SPN_LDEAD p l) 15 0) ||
    decide (d.loopN p l * d.tbPeriod (d.fld (Reg.SPN_LTRIG p l) 3 0) ≤ lead + send)

/-- Setting EN of a loop (R36, R212, R217, R232, R242): ignored while ACT reads 1 or on a retired Spindle; otherwise
its context is loaded, its counts cleared, and the fills start when it is the first loop; a later one fills the live
copies of its own hanks, on its own Spindle alone and not on its hot spare (DESIGN CHOICE, notes/assumptions/86.md). While
the Flyer does not reach what it reads, EN is not set yet (DESIGN CHOICE, notes/assumptions/64.md). -/
def Dev.loopEnable (d : Dev) (p l : Nat) : Dev :=
  if d.loopEn p l || d.rbit (Reg.SPN_STAT p) l || d.rbit (Reg.SPN_STAT p) 9 then d
  else if d.loopCfgBad p l then d.setRbit (Reg.SPN_STAT p) 17 true
  else
    let first := decide (d.fld (Reg.SPN_CTL p) 3 0 = 0)
    let live := if first then (d, SkRes.done false)
      else d.fillLives p [d.fld (Reg.SPN_LHANK p l) 15 8, d.fld (Reg.SPN_LHANK p l) 23 16]
    let d1 := (((live.1.setRbit (Reg.SPN_CTL p) l true).setFld (Reg.SPN_LSTAT p l) 31 16 0).setFld (Reg.SPN_LSTAT p l) 6 1
      0).setReg (Reg.SPN_LCNT p l) 0
    let d2 := (d1.when first fun d => d.setRbit (Reg.SPN_STAT p) 8 true).modLp p l fun _ =>
      { Loop.reset with enAt := d.now }
    let r := d2.restoreCtx p l
    match live.2, r.2 with
    | .refused st, _ => d2.spnTrap p l (causeOf st) (d.entryPc p l .pred) 0 false
    | .wait, _ => live.1
    | .done _, .refused st => r.1.spnTrap p l (causeOf st) (d.entryPc p l .pred) 0 false
    | .done _, .wait => (live.1.restoreCtx p l).1
    | .done _, .done _ => r.1

/-- The program window as the Skein holds the program hank. A hank shorter than PLEN + 1 beats fills its own length, and the
rest of the window reads 0 (DESIGN CHOICE, notes/assumptions/86.md). -/
def Dev.copyWindow (d : Dev) (p src : Nat) : Dev :=
  let h := d.hank (d.fld (Reg.SPN_PROG src) 7 0)
  let beats := min 1024 (d.fld (Reg.SPN_PROG src) 17 8 + 1)
  let n := min (4 * beats) (h.bytes / 4)
  d.modSpn p fun s =>
    { s with pbase := h.start, pbeats := beats,
             pwin := (List.range n).foldl (fun m i => smSet (fun _ => 0) m i (d.word (h.start + 4 * i))) [] }

/-- The program window and the live copies are filled from the hanks of a Spindle's block with class-1 draws (R242), up to
the first that is refused or not granted. -/
def Dev.fillWindow (d : Dev) (p src : Nat) : Dev × SkRes :=
  let h := d.hank (d.fld (Reg.SPN_PROG src) 7 0)
  let r := d.pull (reqSpn p) h.start (min (16 * (d.fld (Reg.SPN_PROG src) 17 8 + 1)) h.bytes) 17
  match r.2 with
  | .done _ => (r.1.copyWindow p src).fillLives p (d.coefHanks src)
  | e => (r.1, e)

/-- A fill that met a refusal traps every enabled loop of its Spindle (R75; DEDUCED, notes/assumptions/83.md). -/
def Dev.fillTrap (d : Dev) (p : Nat) (st : DrawStatus) : Dev :=
  (List.range 4).foldl
    (fun e l => if e.loopEn p l then e.spnTrap p l (causeOf st) (e.entryPc p l .pred) 0 false else e) d

/-- The fills of a Spindle end (R242): event 0 is counted from here; a hot spare of it starts its own fill again
(R238). -/
def Dev.windowFilled (d : Dev) (p : Nat) : Dev :=
  if d.rbit (Reg.SPN_STAT p) 8 && !d.onHold p then
    let r := d.fillWindow p p
    match r.2 with
    | .wait => r.1
    | .refused st => r.1.fillTrap p st
    | .done _ =>
      let d1 := (List.range 4).foldl
        (fun e l => if e.loopEn p l then e.modLp p l fun x => { x with enAt := d.now } else e)
        (r.1.setRbit (Reg.SPN_STAT p) 8 false)
      [16, 17].foldl
        (fun e q =>
          if e.rbit (Reg.SPN_HOT q) 0 && decide (e.fld (Reg.SPN_HOT q) 5 1 = p) then e.setRbit (Reg.SPN_STAT q) 16 false
          else e) d1
  else d

/-- SPN_HOT.EN is set (R238): HOTRDY reads 0 until the copies are complete. -/
def Dev.hotEnable (d : Dev) (p : Nat) : Dev := (d.setRbit (Reg.SPN_HOT p) 0 true).setRbit (Reg.SPN_STAT p) 16 false

def Dev.hotFilled (d : Dev) (p : Nat) : Dev :=
  if d.rbit (Reg.SPN_HOT p) 0 && decide (16 ≤ p) then
    let r := d.fillWindow p (d.fld (Reg.SPN_HOT p) 5 1)
    match r.2 with
    | .done _ => r.1.setRbit (Reg.SPN_STAT p) 16 true
    | _ => r.1
  else d

/-! ### Lockstep recovery (R233 to R236) -/

/-- The checkpoint's read of a recovery, and the restart from PRED in plain form with the same snapshots and the same primary
generation, whatever has opened since (R235). While the Flyer does not reach the checkpoint the recovery waits for it. -/
def Dev.recoverRead (d : Dev) (p l : Nat) : Dev :=
  let r := d.restoreCtx p l
  match r.2 with
  | .refused st =>
    (r.1.modSpn p fun s => { s with restoring := false }).spnTrap p l (causeOf st) (d.spn p).pc 0 false
  | .wait => r.1.modSpn p fun s => { s with recovered := true, restoring := true }
  | .done brk =>
    ((r.1.modLp p l fun x => { x with images := x.imagesC }).modSpn p fun s =>
      { s with entry := some .pred, recovered := true, restoring := false, v := upperRegs (r.1.lp p l).v,
               a := (r.1.lp p l).a, lb := false, subst := [], again := s.again || s.released, released := false,
               pc := d.entryPc p l .pred }).noteSpnLb p brk

/-- A recovery starts (R235). -/
def Dev.recover (d : Dev) (p l : Nat) : Dev := (d.stopEntry p).recoverRead p l

/-- The recoveries whose checkpoint the Flyer has not reached go on, before the deadline has held the period. -/
def Dev.spnResume (d : Dev) : Dev :=
  d.cr.spindles.foldl
    (fun e x =>
      match (e.spn x.1).slot with
      | some l => if (e.spn x.1).restoring && !(e.lp x.1 l).held && !e.onHold x.1 then e.recoverRead x.1 l else e
      | none => e) d

/-- LOCKSTEP_MISMATCH (R233, R235, R236). With `dropped` a word of the commit buffer is uncorrectable and the commit that
the loop would issue is dropped whole (R234): SPN_LSM is raised, no mismatch counts, and the loop recovers. -/
def Dev.lockstep (d : Dev) (p : Nat) (dropped : Bool) : Dev :=
  let d1 := (d.raise Src.SPN_LSM p).when (!dropped) fun d => d.incFld (Reg.SPN_LSMCNT p) 15 0
  match (d.spn p).slot, (d.spn p).entry with
  | some _, some .post => if dropped then d else d1.stopEntry p
  | some l, some _ =>
    if (d.lp p l).committed then (if dropped then d else d1.stopEntry p) else d1.recover p l
  | _, _ => if dropped then d else d1

/-! ### Takeover (R237) -/

/-- The configuration registers of a Spindle block that a takeover copies. -/
def spnCfgOffs : List Nat :=
  [0x000, 0x008, 0x010] ++
  ((List.range 4).flatMap fun l => (List.range 8).map fun i => 0x100 + 0x20 * l + 4 * i) ++
  ((List.range 16).map fun i => 0x180 + 4 * i) ++
  ((List.range 4).flatMap fun s => (List.range 9).map fun i => 0x200 + 0x40 * s + 4 * i)

/-- The lowest-numbered free spare Spindle. -/
def Dev.freeSpareSpn (d : Dev) : Option Nat :=
  [16, 17].find? fun q => !d.rbit (Reg.SPN_STAT q) 11 && !d.rbit (Reg.SPN_STAT q) 9 &&
    !(d.cr.takeovers.any fun t => decide (t.2 = q))

/-- Steps 2 and 3 of a takeover: the spare copies the retired Spindle's configuration, mailboxes and full flags; ring
hanks and sample windows go to the spare. A period whose slot was open or due is lost (R228). -/
def Dev.takeoverStart (d : Dev) (p q : Nat) : Dev :=
  let lg := d.fld (Reg.SPN_STAT p) 15 12
  let x := d.spn p
  let d2 := spnCfgOffs.foldl (fun e o => e.setReg (0x20000000 + q * 0x10000 + o) (d.reg (0x20000000 + p * 0x10000 + o))) d
  let d3 := (((d2.setReg (Reg.SPN_MBSTAT q) (d.reg (Reg.SPN_MBSTAT p))).modSpn q fun s =>
    { s with mbOut := x.mbOut, mbIn := x.mbIn, sets := x.sets, slot := none, entry := none }).setSpn p Spindle.reset).setReg
      (Reg.SPN_MBSTAT p) 0
  let d4 := (List.range 4).foldl
    (fun e l => e.modLp q l fun _ =>
      let y := d.lp p l
      { y with lost := y.lost || ((decide (x.slot = some l) || decide (l ∈ x.slotWait)) && !y.committed && !y.held) }) d3
  let d5 := (d4.sk.hanks.filter fun h => h.2.v && decide (h.2.kind = 1) && decide (h.2.writer = reqSpn p)).foldl
    (fun e h => e.setHank h.1 { h.2 with writer := reqSpn q }) d4
  ((d5.setFld (Reg.SPN_STAT q) 15 12 lg).setRbit (Reg.SPN_STAT q) 8 true).setFld (Reg.DST_SPNMAP (lg / 4))
    (8 * (lg % 4) + 4) (8 * (lg % 4)) q

/-- A physical Spindle is retired (R237): it stops, what it has not released is dropped and its lock is freed; a free
spare is assigned, and takes over at once or when the takeover that runs has ended (R239). A spare retired during its
own takeover hands it to another free spare, or the loops stay stopped (DESIGN CHOICE, notes/assumptions/64.md). -/
def Dev.retireSpn (d : Dev) (p : Nat) : Dev :=
  let d1 := (((d.stopEntry p).freeLock (reqSpn p)).setRbit (Reg.SPN_STAT p) 9 true).setRbit (Reg.SPN_STAT p) 11 false
  let setTk := fun (e : Dev) ts => { e with cr := { e.cr with takeovers := ts } }
  let tk := d1.cr.takeovers
  match tk.find? fun t => decide (t.2 = p) with
  | some (o, _) =>
    (match d1.freeSpareSpn with
      | some q =>
        let d2 := setTk d1 (tk.map fun t => if t.2 = p then (o, q) else t)
        if (tk.head?.map Prod.snd) = some p then d2.takeoverStart p q else d2
      | none => setTk d1 (tk.filter fun t => decide (t.2 ≠ p)))
  | none =>
    match d1.freeSpareSpn, d.logSpn p with
    | some q, some _ =>
      let d2 := setTk d1 (tk ++ [(p, q)])
      if tk.isEmpty then d2.takeoverStart p q else d2
    | _, _ => d1.modSpn p fun s => { s with slot := none, slotWait := [], sets := [] }

/-- Step 4 ends (R237): the window, the live copies and the contexts of the enabled loops are there, and the spare serves;
the next takeover starts (R239). A hot spare skips the fill, also of a coefficient hank that the target has named since its
last fill (DESIGN CHOICE, notes/assumptions/86.md). -/
def Dev.takeoverDone (d : Dev) (q : Nat) : Dev :=
  match d.cr.takeovers with
  | (p, t) :: rest =>
    if t = q then
      let hot := d.rbit (Reg.SPN_HOT q) 0 && decide (d.fld (Reg.SPN_HOT q) 5 1 = p) && d.rbit (Reg.SPN_STAT q) 16
      let f := if hot then (d, SkRes.done false) else d.fillWindow q q
      match f.2 with
      | .wait => f.1
      | r0 =>
        let late := (List.range 4).any fun l => f.1.loopEn q l && decide ((f.1.restoreCtx q l).2 = .wait)
        if late then f.1
        else
          let d1 := { f.1 with cr := { f.1.cr with takeovers := rest } }
          let d2 := (d1.setRbit (Reg.SPN_STAT q) 8 false).setRbit (Reg.SPN_STAT q) 11 true
          let d3 := match r0 with
            | .refused st => d2.fillTrap q st
            | _ => (List.range 4).foldl
              (fun e l =>
                if e.loopEn q l then
                  let r := e.restoreCtx q l
                  match r.2 with
                  | .refused st => r.1.spnTrap q l (causeOf st) (e.entryPc q l .pred) 0 false
                  | _ => r.1
                else e) d2
          match rest with
          | (p2, q2) :: _ => d3.takeoverStart p2 q2
          | [] => d3
    else d
  | [] => d

/-! ### The commands -/

/-- SAMPLE_WAIT_RELEASE (R191, R193, R195). -/
def execSampleWaitRelease (p : Fin 18) (s : State) : Host.Outcome State Fault Refusal := s.run fun d => d.tryWait p

/-- PERIOD_START (R213, R214). -/
def execPeriodStart (p : Fin 18) (l : Fin 4) (s : State) : Host.Outcome State Fault Refusal :=
  s.run fun d => d.periodStart p l

/-- SLOT_CLOSE (R216). -/
def execSlotClose (p : Fin 18) (l : Fin 4) (s : State) : Host.Outcome State Fault Refusal :=
  s.run fun d => d.slotClose p l

/-- COMMIT_DEADLINE (R227, R228). -/
def execCommitDeadline (p : Fin 18) (l : Fin 4) (s : State) : Host.Outcome State Fault Refusal :=
  s.run fun d => d.deadline p l

/-- LOOP_ENABLE (R212, R217). -/
def execLoopEnable (p : Fin 18) (l : Fin 4) (s : State) : Host.Outcome State Fault Refusal :=
  s.run fun d => d.loopEnable p l

/-- PROGRAM_WINDOW_FILL_COMPLETE (R242). -/
def execProgramWindowFillComplete (p : Fin 18) (s : State) : Host.Outcome State Fault Refusal :=
  s.run fun d => d.windowFilled p

/-- HOT_SPARE_ENABLE (R238): accepted in CONFIG and SERVICE on physical Spindles 16 and 17 (R242). -/
def execHotSpareEnable (p : Fin 18) (s : State) : Host.Outcome State Fault Refusal :=
  s.run fun d => if 16 ≤ p.val ∧ (d.mode = 4 ∨ d.mode = 10) ∧ !d.rbit (Reg.SPN_STAT p) 9 then d.hotEnable p else d

/-- HOT_SPARE_FILL_COMPLETE (R238). -/
def execHotSpareFillComplete (p : Fin 18) (s : State) : Host.Outcome State Fault Refusal := s.run fun d => d.hotFilled p

/-- LOCKSTEP_MISMATCH (R233, R234). -/
def execLockstepMismatch (m : Mismatch) (s : State) : Host.Outcome State Fault Refusal :=
  s.run fun d => d.lockstep m.p m.dropped

/-- SPINDLE_TAKEOVER_COMPLETE (R237). -/
def execSpindleTakeoverComplete (q : Fin 18) (s : State) : Host.Outcome State Fault Refusal :=
  s.run fun d => d.takeoverDone q

end Sys2Proof.Machine
end

