-- ==== Sys2Proof/Machine/Trips.lean ====
section
/-! DEFINITION. The gate commands of a Whorl (R252, R262 to R280): the precedence of their sources, the delays, blanking,
the trip lines and the trip latch. -/

namespace Sys2Proof.Machine

/-! ### Trip lines (R271) -/

/-- The present state of a line of WHL_LINES. -/
def Dev.tripLine (d : Dev) (b : Nat) : Bool := d.rbit (Reg.WHL_LINES (b / 32)) (b % 32)

/-- The trip group of a Whorl. -/
def Dev.tripGrp (d : Dev) (n : Nat) : Nat := d.fld (Reg.WHL_TRIP n) 16 12

/-- A line as one Whorl sees it: 76 and 77 are the short-circuit reports of its leg and of its group. -/
def Dev.lineOf (d : Dev) (n b : Nat) : Bool :=
  if b = 76 then (d.port n).line
  else if b = 77 then d.pt.ports.any fun e => e.2.line && decide (d.tripGrp e.1 = d.tripGrp n)
  else if b < 76 then d.tripLine b
  else false

/-- Whether a line that a Whorl selects has asserted since an earlier moment. -/
def Dev.newHit (d before : Dev) (n : Nat) : Bool :=
  (List.range 96).any fun b => d.rbit (Reg.WHL_TSEL n (b / 32)) (b % 32) && d.lineOf n b && !before.lineOf n b

/-- The lowest-numbered line that is selected and asserted. -/
def Dev.tripHit (d : Dev) (n : Nat) : Option Nat :=
  (List.range 96).find? fun b => d.rbit (Reg.WHL_TSEL n (b / 32)) (b % 32) && d.lineOf n b

/-! ### What the outputs should be (R270) -/

/-- A leg state as the two commands: 0 off, 1 low on, 2 high on. -/
def legPair (c : Nat) : Bool × Bool := (decide (c = 2), decide (c = 1))

/-- The leg state of two commands. -/
def pairLeg (x : Bool × Bool) : Nat := if x.1 then 2 else if x.2 then 1 else 0

/-- The mode of the active image: 0 PWM, 1 direct state, 2 off. -/
def Dev.actMode (d : Dev) (n : Nat) : Nat := d.fld (Reg.WHL_ACT n 3) 1 0

/-- Rank 6: the active image; a refresh pulse holds the low side on (R266). -/
def Dev.imagePair (d : Dev) (n : Nat) : Bool × Bool :=
  let w := d.whorl n
  if d.actMode n = 1 then legPair (if w.refreshLow && w.dwell.isNone then 1 else w.leg)
  else if d.actMode n = 0 then (w.pwm, !w.pwm)
  else (false, false)

/-- The chopper's output (R280). -/
def Dev.chopPair (d : Dev) (n : Nat) : Bool × Bool :=
  let on := d.rbit Reg.WHL_BUSST (4 + d.fld (Reg.WHL_CTL n) 17 16)
  if d.rbit (Reg.WHL_CTL n) 18 then (on, false) else (false, on)

/-- Ranks 5 and 6. -/
def Dev.sourcePair (d : Dev) (n : Nat) : Bool × Bool :=
  if d.fld (Reg.WHL_CTL n) 15 14 = 1 then d.chopPair n else d.imagePair n

/-- Rank 4 (R269): forced values; an output released follows the source below, off while the other is forced on. -/
def forcePair (f : Word) (s : Bool × Bool) : Bool × Bool :=
  let fh := bitsOf f 1 0
  let fl := bitsOf f 3 2
  if fh = 2 then (true, false)
  else if fl = 2 then (false, true)
  else (if fh = 1 then false else s.1, if fl = 1 then false else s.2)

/-- The Whorl runs: EN, or the disable still in progress. -/
def Dev.whlLive (d : Dev) (n : Nat) : Bool := d.rbit (Reg.WHL_CTL n) 0 || d.rbit (Reg.WHL_STAT n) 0

/-- The commands that the precedence gives, ranks 2 to 6. -/
def Dev.targetPair (d : Dev) (n : Nat) : Bool × Bool :=
  if d.rbit (Reg.WHL_STAT n) 1 then legPair (d.fld (Reg.WHL_TRIP n) 11 10)
  else if !d.whlLive n || !d.rbit (Reg.WHL_STAT n) 2 then legPair (d.fld (Reg.WHL_CTL n) 9 8)
  else forcePair (d.whorl n).frc (d.sourcePair n)

/-! ### Driving the outputs (R252, R263, R275) -/

/-- RED and FED of the active image, in fine steps. -/
def Dev.red (d : Dev) (n : Nat) : Nat := d.fld (Reg.WHL_ACT n 2) 15 0

def Dev.fed (d : Dev) (n : Nat) : Nat := d.fld (Reg.WHL_ACT n 2) 31 16

/-- Set the outputs; an edge restarts blanking (R274). -/
def Dev.setOut (d : Dev) (n : Nat) (h l : Bool) : Dev :=
  let v : Word := BitVec.ofNat 32 (h.toNat + 2 * l.toNat)
  if d.reg (Reg.WHL_OUT n) = v then d
  else (d.setReg (Reg.WHL_OUT n) v).modWhorl n fun w => { w with blanking := decide (d.fld (Reg.WHL_TRIP n) 9 0 ≠ 0) }

/-- Bring the outputs to what the precedence gives: an output off at once, an output on after its delay. A trip action
turns on at once the output that the running delay's edge turned off. -/
def Dev.drive (d : Dev) (n : Nat) (trip : Bool) : Dev :=
  let w := d.whorl n
  let t := d.targetPair n
  let gh := d.rbit (Reg.WHL_OUT n) 0
  let gl := d.rbit (Reg.WHL_OUT n) 1
  let wantH := t.1 && !gh
  let wantL := t.2 && !gl
  let backH := trip && w.pendL && w.edgeOff
  let backL := trip && w.pendH && w.edgeOff
  let onH := wantH && !w.pendH && (backH || decide (d.red n = 0))
  let onL := wantL && !w.pendL && (backL || decide (d.fed n = 0))
  let pendH := wantH && !onH
  let pendL := wantL && !onL
  let off := if pendH then (if w.pendH then w.edgeOff else gl && !t.2)
    else if pendL then (if w.pendL then w.edgeOff else gh && !t.1) else false
  let tgt := pairLeg t
  (d.modWhorl n fun w =>
    { w with pendH := pendH, pendL := pendL, edgeOff := off, tgt := tgt,
             lastChange := if tgt = w.tgt then w.lastChange else some d.now }).setOut n ((gh && t.1) || onH) ((gl && t.2) || onL)

/-! ### Trips (R273, R274, R276) -/

/-- A Whorl looks at its lines: one that asserted since `before` within the blanking window shows in BLKD (R274), also
while a trip is latched or the Whorl is disabled; outside the window a selected line that is asserted latches the trip of a
live one (R273). -/
def Dev.tripLook (d before : Dev) (n : Nat) : Dev :=
  let w := d.whorl n
  if w.blanking then d.when (d.newHit before n) fun d => d.setRbit (Reg.WHL_STAT n) 13 true
  else if !d.whlLive n then d
  else if d.rbit (Reg.WHL_STAT n) 1 && !w.clearing then d
  else match d.tripHit n with
    | none => d
    | some b =>
      ((((d.setRbit (Reg.WHL_STAT n) 1 true).setFld (Reg.WHL_STAT n) 30 24 b).modWhorl n fun w =>
        { w with clearing := false }).drive n true).raise Src.WHL_TRIP n

/-- A Whorl looks at its lines when none of them changes. -/
def Dev.tripEval (d : Dev) (n : Nat) : Dev := d.tripLook d n

/-- Every Whorl looks at its lines, which stood otherwise before. -/
def Dev.tripAll (d before : Dev) : Dev := (List.range 64).foldl (fun e n => e.tripLook before n) d

/-- A line takes a level, and every Whorl looks at it. -/
def Dev.setLine (d : Dev) (b : Nat) (on : Bool) : Dev :=
  if d.tripLine b = on then d else (d.setRbit (Reg.WHL_LINES (b / 32)) (b % 32) on).tripAll d

/-! ### The TRIP pins (R271) -/

/-- Lines 0 to 7: a pin is asserted at the level that WHL_PINCFG.POL gives it. -/
def Dev.pinLines (d : Dev) : Nat :=
  ((List.range 8).map fun i => if d.md.pins.testBit i = d.rbit Reg.WHL_PINCFG i then 2 ^ i else 0).sum

/-- The lines follow the pins and the polarity, and every Whorl looks at them. -/
def Dev.showPins (d : Dev) : Dev :=
  if d.fld (Reg.WHL_LINES 0) 7 0 = d.pinLines then d else (d.setFld (Reg.WHL_LINES 0) 7 0 d.pinLines).tripAll d

/-- The pin levels that have stood for FLT ticks pass the filter. -/
def Dev.pinFilter (d : Dev) : Dev :=
  let due := (List.range 8).filter fun i =>
    stable (smGet (fun _ => none) d.md.pinAt i) (d.fld Reg.WHL_PINCFG 11 8) d.now
  let pins := due.foldl (fun v i => Nat.xor v (2 ^ i)) d.md.pins
  let at_ := due.foldl (fun m i => smSet (fun _ => none) m i none) d.md.pinAt
  ({ d with md := { d.md with pins := pins, pinAt := at_ } } : Dev).showPins

/-- The TRIP pins show levels. -/
def Dev.pinLevels (d : Dev) (v : Nat) : Dev :=
  let at_ := (List.range 8).foldl
    (fun m i => smSet (fun _ => none) m i
      (feed (d.md.pins.testBit i) (smGet (fun _ => none) d.md.pinAt i) (v.testBit i) d.now)) d.md.pinAt
  ({ d with md := { d.md with pinAt := at_ } } : Dev).pinFilter

/-- The blanking window ends: a line still asserted trips (R274). -/
def Dev.blankEnd (d : Dev) (n : Nat) : Dev :=
  if (d.whorl n).blanking then (d.modWhorl n fun w => { w with blanking := false }).tripEval n else d

/-- The trip action ends: the outputs follow the precedence again. -/
def Dev.endTrip (d : Dev) (n : Nat) : Dev :=
  if (d.whorl n).clearing then
    ((d.setRbit (Reg.WHL_STAT n) 1 false).modWhorl n fun w => { w with clearing := false }).drive n false
  else d

/-- A write of 1 to CLR (R276, R280). -/
def Dev.tripClear (d : Dev) (n : Nat) : Dev :=
  if !d.rbit (Reg.WHL_STAT n) 1 || (d.whorl n).clearing then d
  else if (d.tripHit n).isSome then d.setRbit (Reg.WHL_STAT n) 8 true
  else
    let d1 := d.modWhorl n fun w => { w with clearing := true }
    if d.fld (Reg.WHL_CTL n) 15 14 = 1 then d1.endTrip n else d1

/-- TRIP_LATCH (R273): the pins TRIP0 to TRIP7 show these levels, which pass the filter and the polarity of WHL_PINCFG to
lines 0 to 7 (R271); every Whorl looks at its lines. -/
def execTripLatch (n : Fin 64) (trips : BitVec 8) (s : State) : Host.Outcome State Fault Refusal :=
  s.run fun d => (d.pinLevels trips.toNat).tripEval n

/-- BLANKING_END (R274). -/
def execBlankingEnd (n : Fin 64) (s : State) : Host.Outcome State Fault Refusal := s.run fun d => d.blankEnd n

/-- TRIP_CLEAR (R276). -/
def execTripClear (n : Fin 64) (s : State) : Host.Outcome State Fault Refusal := s.run fun d => d.tripClear n

end Sys2Proof.Machine
end

