-- ==== Sys2Proof/Machine/Measure.lean ====
section
/-! DEFINITION. Measurement (03_measurement.md): converter lanes, sigma-delta decimators, the housekeeping round. -/

namespace Sys2Proof.Machine

/-! ### Lanes: triggers and scans (R86 to R97) -/

/-- The pin group a lane serves; a spare that serves none is named by its own number. -/
def Dev.unitOf (d : Dev) (k : Nat) : Nat := (d.groupOf k).getD k

/-- The channels of a scan with a sequence count, in ascending order (R87, R88). -/
def Dev.scanOf (d : Dev) (k seq : Nat) : List Nat :=
  let diag := d.rbit (Reg.CNV_DIAG k) 8 && decide (seq % 2 ^ d.fld (Reg.CNV_DIAG k) 7 4 = 0)
  (List.range 12).filter fun c => d.rbit (Reg.CNV_SCAN k) c || (diag && decide (8 ≤ c) && d.rbit (Reg.CNV_DIAG k) (c - 8))

/-- Whether a conversion that starts now on a channel starts within 2 us of a TDAC write (R85). -/
def Dev.tdacNew (d : Dev) (c : Option Nat) : Bool :=
  match c, d.ms.tdacAt with
  | some 11, some t => decide (d.now ≤ t + ticksUs 2)
  | _, _ => false

def Dev.setAwake (d : Dev) (k : Nat) (b : Bool) : Dev := d.setRbit (Reg.CNV_STAT k) 1 b

/-- A scan starts: the front-end settings of CNV_FE apply from here (R100). -/
def Dev.startScan (d : Dev) (k : Nat) : Dev :=
  d.modLane k fun x =>
    { x with phase := .converting, waiting := false, fe := d.reg (Reg.CNV_FE k), first := true,
             tdacSet := d.tdacNew x.scan.head?, convAt := d.now, tdac := none }

/-- A lane is busy from the acceptance of a trigger to the end of its scan (R91). -/
def Lane.busy (x : Lane) : Bool := decide (x.phase = .converting) || x.waiting

/-- A trigger at a lane (R87, R91): ignored without channels, refused while busy, also while a lane that is being disabled
ends its conversion, otherwise accepted, with the start-up delay first when the lane sleeps. A trigger whose own scan has no
channel is ignored: the union of the masks is judged as this scan takes them (DESIGN CHOICE, notes/assumptions/86.md). -/
def Dev.takeTrigger (d : Dev) (k : Nat) : Dev :=
  let x := d.lane k
  let seq := (d.fld (Reg.CNV_SEQ k) 15 0 + 1) % 65536
  let scan := d.scanOf k seq
  if scan.isEmpty then d
  else if x.busy then ((d.setRbit (Reg.CNV_STAT k) 8 true).incFld (Reg.CNV_TLCNT k) 15 0).raise Src.CNV_TLOST k
  else if !d.rbit (Reg.CNV_CTL k) 0 then d
  else
    let d1 := (d.setFld (Reg.CNV_SEQ k) 15 0 seq).modLane k fun x => { x with scan := scan, acceptSeq := d.ms.stamp }
    match x.phase with
    | .idle => d1.startScan k
    | _ => d1.modLane k fun x => { x with phase := .starting, waiting := true }

/-- A trigger, by a timebase or by software (R86): the second of two kinds on one edge is the same trigger. -/
def Dev.trigger (d : Dev) (k : Nat) (timebase : Bool) : Dev :=
  if (d.lane k).trig = some (d.now, !timebase) then d.modLane k fun x => { x with trig := none }
  else (d.takeTrigger k).modLane k fun x => { x with trig := some (d.now, timebase) }

/-- Every lane whose trigger event this is. -/
def Dev.laneTriggers (d : Dev) (tb ev : Nat) : Dev :=
  (List.range 18).foldl
    (fun e k =>
      let r := Reg.CNV_CTL k
      if e.rbit r 3 && decide (e.fld r 7 4 = tb) && decide (e.fld r 9 8 = ev) then e.trigger k true else e) d

/-- The start-up delay ends (R94 to R96): the next result carries PUP, but for the first of a takeover with NOSLEEP whose
trigger comes later than the delay of its step 5 (R107). -/
def Dev.startupEnd (d : Dev) (k : Nat) : Dev :=
  if (d.lane k).phase = .starting then
    let d1 := (d.setAwake k true).modLane k fun x => { x with phase := .idle, pup := !x.quiet || x.waiting, quiet := false }
    if (d.lane k).waiting then d1.startScan k else d1
  else d

/-- NOSLEEP is set: a powered-down lane starts its delay at once (R96, R97). -/
def Dev.nosleepSet (d : Dev) (k : Nat) : Dev :=
  let d1 := d.setRbit (Reg.CNV_CTL k) 1 true
  if d.rbit (Reg.CNV_CTL k) 0 && decide ((d.lane k).phase = .asleep) then
    d1.modLane k fun x => { x with phase := .starting }
  else d1

/-- EN of a lane is set (R36, R97, R101, R108). The comparators' outputs and counts stand as the lane left them (DESIGN
CHOICE, notes/assumptions/65.md). -/
def Dev.laneEnable (d : Dev) (k : Nat) : Dev :=
  let st := Reg.CNV_STAT k
  if d.rbit (Reg.CNV_CTL k) 0 || d.rbit st 0 || d.rbit st 2 then d
  else
    ((d.setRbit (Reg.CNV_CTL k) 0 true).setReg (Reg.CNV_TLCNT k) 0).modLane k fun x =>
      { x with phase := if d.rbit (Reg.CNV_CTL k) 1 then .starting else .asleep, waiting := false, scan := [], marks := 0,
               prevCh := none, pup := false }

/-! ### Conversions (R83 to R85, R98 to R105, R109) -/

/-- The code before clipping (R83), from the input in microvolts. -/
def codeRaw (fe : Word) (uv : Int) : Int :=
  let g : Int := 2 ^ bitsOf fe 1 0
  if bitOf fe 4 then 32768 + 65536 * g * (uv - 1500000) / 3000000 else 65536 * g * uv / 3000000

/-- The code of channel 11: TDAC gives CODE x 3.0 V / 1 024 (R85). -/
def codeTdac (fe : Word) (code : Nat) : Int :=
  let g : Int := 2 ^ bitsOf fe 1 0
  if bitOf fe 4 then 32768 + 64 * g * code - 32768 * g else 64 * g * code

/-- The code of a trimmed lane (R83), from the input in 1/1024 of a microvolt. -/
def codeFine (fe : Word) (v : Int) : Int :=
  let g : Int := 2 ^ bitsOf fe 1 0
  if bitOf fe 4 then 32768 + 65536 * g * (v - 1536000000) / 3072000000 else 65536 * g * v / 3072000000

/-- The settling counts of R99 that arise at a conversion (R100). -/
def Lane.newMarks (x : Lane) (c : Nat) : Nat :=
  let filt := bitsOf x.fe 3 2
  let gain := bitsOf x.fe 1 0
  let ch := if x.prevCh = some c then 0 else if filt = 0 then (if gain = 0 then 0 else 1) else if filt = 1 then 2 else 8
  let gn := match x.prevFe with
    | some f => if x.first && decide (bitsOf f 1 0 ≠ gain) then 2 else 0
    | none => 0
  let fl := match x.prevFe with
    | some f => if x.first && decide (bitsOf f 3 2 ≠ filt) then (if filt = 0 then 4 else if filt = 1 then 8 else 16) else 0
    | none => 0
  max (max ch gn) (max fl (if x.takeover then 4 else 0))

/-- The marks of a conversion as it ends: whether SET, and what is left (R101). -/
def Lane.marksNow (x : Lane) (c : Nat) : Nat := max x.marks (x.newMarks c)

/-- The lane after a conversion: the next one starts, or the scan ends. -/
def Dev.nextConversion (d : Dev) (k c : Nat) : Dev :=
  d.modLane k fun x =>
    let rest := if d.rbit (Reg.CNV_CTL k) 0 then x.scan.tail else []
    { x with marks := x.marksNow c - 1, prevCh := some c, first := false, takeover := false, scan := rest,
             phase := if rest.isEmpty then .idle else .converting, tdacSet := d.tdacNew rest.head?,
             prevFe := some x.fe, convAt := d.now, tdac := none, trig := none }

/-- The result word of R98. -/
def resultWord (code : Int) (set spr pup : Bool) (ch seq : Nat) : Word :=
  let c := clampI 0 65535 code
  BitVec.ofNat 32 (c.toNat * 65536 + set.toNat * 0x8000 + (decide (c ≠ code)).toNat * 0x4000 + spr.toNat * 0x2000 +
    pup.toNat * 0x1000 + ch * 256 + seq % 256)

/-- HKP_TDAC as a lane's channel 11 sampled it (R89). -/
def Dev.laneTdac (d : Dev) (k : Nat) : Nat :=
  let w := (d.lane k).tdac.getD (d.reg Reg.HKP_TDAC)
  if bitOf w 16 then bitsOf w 9 0 else 0

/-- The code a lane delivers for a channel (R82, R83, R85, R108), with the factory trims that SELFTEST loaded. -/
def Dev.laneCode (d : Dev) (k c : Nat) (fe : Word) (vin : Int) : Int :=
  let v := if c < 8 ∧ d.groupOf k = none then 0 else vin
  if d.ms.trim = [] then (if c = 11 then codeTdac fe (d.laneTdac k) else codeRaw fe v)
  else codeFine fe (Config.laneTrim d.ms.trim k (if c = 11 then 3000000 * (d.laneTdac k : Int) else 1024 * v))

/-- A write to HKP_TDAC takes effect (R85, R89): a lane that has sampled channel 11, 8 CLK_CNV after the start of its
conversion, keeps what it sampled. `old` is the register before the write. -/
def Dev.tdacWritten (d : Dev) (old : Word) : Dev :=
  let d1 := { d with ms := { d.ms with tdacAt := some d.now } }
  d1.ms.lanes.foldl
    (fun e x =>
      if x.2.phase = .converting ∧ x.2.scan.head? = some 11 ∧ x.2.convAt + 8 ≤ d.now ∧ x.2.tdac = none then
        e.modLane x.1 fun x => { x with tdac := some old }
      else e) d1

/-- The trip line of a comparator of the pin group a lane serves (R271). -/
def Dev.wcLine (d : Dev) (k w : Nat) (on : Bool) : Dev :=
  match d.groupOf k with
  | some g => d.setLine (8 + 2 * g + w) on
  | none => d

def wcCfg (k w : Nat) : Nat := if w = 0 then Reg.CNV_WC0CFG k else Reg.CNV_WC1CFG k
def wcLim (k w : Nat) : Nat := if w = 0 then Reg.CNV_WC0LIM k else Reg.CNV_WC1LIM k

def Lane.wc (x : Lane) (w : Nat) : Nat := if w = 0 then x.wc0 else x.wc1
def Lane.setWc (x : Lane) (w n : Nat) : Lane := if w = 0 then { x with wc0 := n } else { x with wc1 := n }

/-- A comparator examines a result of its channel (R103 to R105). -/
def Dev.compare (d : Dev) (k w c code : Nat) : Dev :=
  let cfg := wcCfg k w
  if d.rbit cfg 0 && decide (d.fld cfg 4 1 = c) then
    let lo := d.fld (wcLim k w) 15 0
    let hi := d.fld (wcLim k w) 31 16
    let mode := d.rbit cfg 5
    let d1 := d.when (decide (hi < lo) && !mode) fun d => d.setRbit (Reg.CNV_STAT k) 10 true
    let meets := if mode then decide (lo ≤ code ∧ code ≤ hi) else decide (code < lo ∨ hi < code)
    if meets then
      let n := min ((d.lane k).wc w + 1) (d.fld cfg 8 6 + 1)
      let d2 := d1.modLane k fun x => x.setWc w n
      if n = d.fld cfg 8 6 + 1 ∧ !d.rbit (Reg.CNV_STAT k) (3 + w) then
        ((d2.setRbit (Reg.CNV_STAT k) (3 + w) true).raise (if w = 0 then Src.CNV_WC0 else Src.CNV_WC1) k).wcLine k w
          (d.rbit cfg 9)
      else d2
    else
      ((d1.modLane k fun x => x.setWc w 0).setRbit (Reg.CNV_STAT k) (3 + w) false).wcLine k w false
  else d

/-- A result goes into its sample hank by class-0 write, and into the sample windows as that write completes (R21, R23,
R117). -/
def Dev.resultPut (d : Dev) (req hank : Nat) (decim : Bool) (unit ch : Nat) (w : Word) (seq : Nat) : Dev :=
  let r := d.hankPut req none hank [w] (.sample decim unit ch w seq)
  match r.2 with
  | .done _ => r.1.fillSlots decim unit ch w seq
  | _ => r.1

/-- A result is delivered (R21, R93): one class-0 write into the sample hank and the sample windows, the last result,
the Reels, the comparators for a result with SET = 0. -/
def Dev.deliver (d : Dev) (k c : Nat) (w : Word) (seq : Nat) : Dev :=
  let d1 := (d.resultPut k (d.fld (Reg.CNV_HANK k) 7 0) false (d.unitOf k) c w seq).setReg (Reg.CNV_LAST k) w
  let d2 := match d.groupOf k with
    | some g => d1.reelLane g c w (d.fld (Reg.CNV_SEQ k) 15 0)
    | none => d1
  if isSet w then d2 else (d2.compare k 0 c (bitsOf w 31 16)).compare k 1 c (bitsOf w 31 16)

/-- CNV_FAIL (R109). -/
def Dev.cnvFail (d : Dev) (k : Nat) : Dev := (d.setRbit (Reg.CNV_STAT k) 9 true).raise Src.CNV_FAIL k

/-- A conversion ends (R89, R93, R109). -/
def Dev.conversionEnd (d : Dev) (k : Nat) (vin : Int) (parityFail : Bool) : Dev :=
  let x := d.lane k
  match x.phase, x.scan with
  | .converting, c :: _ =>
    let set := decide (0 < x.marksNow c) || x.tdacSet
    let w := resultWord (d.laneCode k c x.fe vin) set (decide (16 ≤ k)) x.pup c (d.fld (Reg.CNV_SEQ k) 7 0)
    let d1 := (d.nextConversion k c).modLane k fun x => { x with pup := false }
    if parityFail then d1.cnvFail k else d1.deliver k c w x.acceptSeq
  | _, _ => d

/-- A conversion is abandoned (R109): no result, the scan ends, CNV_FAIL. It counts for settling marks and as the previous
conversion like any other (DESIGN CHOICE, notes/assumptions/65.md). -/
def Dev.abandon (d : Dev) (k : Nat) : Dev :=
  let x := d.lane k
  match x.phase, x.scan with
  | .converting, c :: _ => ((d.nextConversion k c).modLane k fun x => { x with scan := [], phase := .idle }).cnvFail k
  | _, _ => d

/-- The lane powers down after 480 idle cycles (R94). -/
def Dev.laneSleep (d : Dev) (k : Nat) : Dev :=
  if (d.lane k).phase = .idle ∧ !d.rbit (Reg.CNV_CTL k) 1 then
    (d.setAwake k false).modLane k fun x => { x with phase := .asleep }
  else d

/-! ### Takeover of a lane (R106 to R108) -/

/-- The lowest-numbered spare lane that serves no group and is not retired. -/
def Dev.freeSpareLane (d : Dev) : Option Nat :=
  [16, 17].find? fun k => !d.rbit (Reg.CNV_XBAR k) 8 && !d.rbit (Reg.CNV_STAT k) 2

/-- The configuration registers of a lane block that a takeover copies; CNV_CTL.EN is set by step 5. -/
def cnvCfgOffs : List Nat := [0x00, 0x04, 0x08, 0x0C, 0x10, 0x20, 0x24, 0x28, 0x2C]

/-- A lane stops for good: it writes no further results (R106), and is disabled, asleep, its comparator outputs deasserted; a
spare serves its group no more (R108). -/
def Dev.stopLane (d : Dev) (k : Nat) : Dev :=
  let d0 := d.withdraw fun x => decide (x.req = k) && !x.tag.guest
  let d1 := (d0.wcLine k 0 false).wcLine k 1 false
  let d2 := ((d1.setRbit (Reg.CNV_CTL k) 0 false).setFld (Reg.CNV_STAT k) 4 3 0).setFld (Reg.CNV_STAT k) 2 0 4
  (d2.when (decide (16 ≤ k)) fun d => d.setReg (Reg.CNV_XBAR k) 0).modLane k fun x =>
    { Lane.reset with acceptSeq := x.acceptSeq }

/-- The spare takes over from lane k: steps 2 to 5 of R106. -/
def Dev.laneTakeover (d : Dev) (k q : Nat) : Dev :=
  let d1 := d.stopLane k
  match d.groupOf k with
  | none => d1
  | some g =>
    let d2 := cnvCfgOffs.foldl (fun e o => e.setReg (0x32000000 + q * 0x400 + o) (d.reg (0x32000000 + k * 0x400 + o))) d1
    let d3 := (d2.sk.hanks.filter fun h => decide (h.2.writer = k ∧ h.2.v = true ∧ h.2.kind = 2)).foldl
      (fun e h => e.setHank h.1 { h.2 with writer := q }) d2
    let d4 := ((d3.setReg (Reg.CNV_XBAR q) (BitVec.ofNat 32 (0x100 + g))).setFld (Reg.DST_CNVMAP (g / 4))
      (8 * (g % 4) + 4) (8 * (g % 4)) q).setFld (Reg.CNV_SEQ q) 15 0 (d.fld (Reg.CNV_SEQ k) 15 0)
    let d5 := ((d4.setRbit (Reg.CNV_CTL q) 0 false).setFld (Reg.CNV_STAT q) 4 3 0).setFld (Reg.CNV_STAT q) 1 0 0
    let d6 := d5.setLane q { Lane.reset with takeover := true, prevFe := (d.lane q).prevFe }
    (d6.laneEnable q).modLane q fun x => { x with quiet := decide (x.phase = .starting) }

/-! ### Decimators (R110 to R118) -/

/-- The weight of the sample t bits back in a sinc3 filter of length n. -/
def sinc3Weight (n t : Nat) : Int :=
  let f : Nat → Int := fun s => if t < s then 0 else ((t - s + 1) * (t - s + 2) / 2 : Nat)
  f 0 - 3 * f n + 3 * f (2 * n) - f (3 * n)

/-- The weight in a sinc2 filter. -/
def sinc2Weight (n t : Nat) : Int :=
  let f : Nat → Int := fun s => if t < s then 0 else ((t - s + 1 : Nat) : Int)
  f 0 - 2 * f n + f (2 * n)

/-- The output of a filter over the bits received, newest first: a bit counts +1 or -1. -/
def sincOut (weight : Nat → Int) (len : Nat) (bits : List Bool) : Int :=
  ((bits.take len).zipIdx).foldl (fun s b => if b.1 then s + weight b.2 else s - weight b.2) 0

/-- The delivered code of a sinc output: floor(32 768 y / gain), clipped, and whether the clip acted (R112, R118). -/
def sincCode (y : Int) (gain : Nat) : Int × Bool :=
  let c := 32768 * y / (gain : Int)
  (clampI (-32768) 32767 c, decide (clampI (-32768) 32767 c ≠ c))

/-- The fast filter after a bit (R118): FAST and SDM_FAST as it rises above the upper limit or falls below the lower one,
the trip output while it stands beyond one and TRIPEN is 1. -/
def Dev.fastFilter (d : Dev) (n : Nat) : Dev :=
  if d.rbit (Reg.SDM_FAST n) 0 then
    let osr := d.fld (Reg.SDM_FAST n) 5 1 + 1
    let c := (sincCode (sincOut (sinc2Weight osr) (2 * osr - 1) (d.sdm n).hist) (osr * osr)).1
    let hi := decide (signed 16 (d.fld (Reg.SDM_FLIM n) 31 16) < c)
    let lo := decide (c < signed 16 (d.fld (Reg.SDM_FLIM n) 15 0))
    let trip := (hi || lo) && d.rbit (Reg.SDM_FAST n) 6
    let d1 := (d.modSdm n fun x => { x with fastHi := hi, fastLo := lo }).setRbit (Reg.SDM_STAT n) 1 trip
    let d2 := if (hi && !(d.sdm n).fastHi) || (lo && !(d.sdm n).fastLo) then
        (d1.setRbit (Reg.SDM_STAT n) 9 true).raise Src.SDM_FAST n
      else d1
    d2.setLine (40 + n) trip
  else d

/-- A decimator output (R112 to R116): SET for the first three and while stuck; in event mode written only when an event
has armed it; through the port of the lane that serves pin group n div 2 (R117). -/
def Dev.sdmOutput (d : Dev) (n : Nat) : Dev :=
  let x := d.sdm n
  let osr := d.fld (Reg.SDM_CTL n) 23 16 + 1
  let c := sincCode (sincOut (sinc3Weight osr) (3 * osr - 2) x.hist) (osr * osr * osr)
  let set := decide (x.fill < 3) || x.stuckHold
  let d1 := d.modSdm n fun x => { x with fill := min 3 (x.fill + 1), since := 0 }
  if d.rbit (Reg.SDM_CTL n) 4 && !x.armed then d1
  else
    let seq := (x.seq + 1) % 65536
    let w : Word := BitVec.ofNat 32 ((c.1 % 65536).toNat * 65536 + set.toNat * 0x8000 + c.2.toNat * 0x4000 + 0xF00 + seq % 256)
    let d2 := d1.modSdm n fun x => { x with seq := seq, armed := false }
    (d2.resultPut (d.laneOf (n / 2)) (d.fld (Reg.SDM_HANK n) 7 0) true n 0 w d.ms.stamp).setReg (Reg.SDM_LAST n) w

/-- One modulator bit (R110, R112, R116, R118). STUCK is raised once in a run of identical bits (DESIGN CHOICE,
notes/assumptions/65.md). -/
def Dev.sdmBit (d : Dev) (n : Nat) (b : Bool) : Dev :=
  let x := d.sdm n
  let run := if x.run ≠ 0 ∧ x.lastBit = b then min 129 (x.run + 1) else 1
  let hist := (b :: x.hist).take 768
  let mixed := (hist.take 128).any (fun y => y) && (hist.take 128).any (fun y => !y)
  let stuck := decide (run = 128)
  let hold := stuck || (x.stuckHold && !(decide (128 ≤ x.stuckN + 1) && mixed))
  let d1 := d.modSdm n fun x =>
    { x with hist := hist, since := x.since + 1, run := run, lastBit := b, stuckHold := hold,
             stuckN := if stuck then 0 else x.stuckN + 1 }
  let d2 := if stuck then (d1.setRbit (Reg.SDM_STAT n) 8 true).raise Src.SDM_STUCK n else d1
  let d3 := d2.fastFilter n
  if x.since + 1 = d.fld (Reg.SDM_CTL n) 23 16 + 1 then d3.sdmOutput n else d3

/-- The bits that an enabled decimator has received since it was last heard of. -/
def Dev.sdmFeed (d : Dev) (n : Nat) (bits : List Bool) : Dev :=
  if d.rbit (Reg.SDM_CTL n) 0 then bits.foldl (fun e b => e.sdmBit n b) d else d

/-- Setting EN of a decimator (R36, R111): ignored while its clock is stopped. -/
def Dev.sdmEnable (d : Dev) (n : Nat) : Dev :=
  if d.rbit (Reg.SDM_CTL n) 0 || d.rbit (Reg.SDM_STAT n) 0 || !d.rbit Reg.SDM_CLKEN (d.fld (Reg.SDM_CTL n) 2 1) then d
  else (d.setRbit (Reg.SDM_CTL n) 0 true).modSdm n fun x => { Sdm.reset with seq := x.seq }

/-- A write to SDM_CLKEN (R110, R111): a clock in use stays on. -/
def Dev.clkenWrite (d : Dev) (v : Word) : Dev :=
  let used := fun j => (List.range 32).any fun n => d.rbit (Reg.SDM_CTL n) 0 && decide (d.fld (Reg.SDM_CTL n) 2 1 = j)
  (List.range 4).foldl
    (fun e j => if !bitOf v j && d.rbit Reg.SDM_CLKEN j && used j then e else e.setRbit Reg.SDM_CLKEN j (bitOf v j)) d

/-- The event that decimators in event mode wait for (R114). -/
def Dev.sdmArm (d : Dev) (tb ev : Nat) : Dev :=
  (List.range 32).foldl
    (fun e n =>
      let r := Reg.SDM_CTL n
      if e.rbit r 0 && e.rbit r 4 && decide (e.fld r 8 5 = tb) && decide (e.fld r 10 9 = ev) then
        e.modSdm n fun x => { x with armed := true }
      else e) d

/-! ### Housekeeping (R119 to R123) -/

/-- The housekeeping converter runs from SELFTEST onward, except in OFF and SLEEP, on a clock that the PLL gives. -/
def Dev.hkRuns (d : Dev) : Bool := decide (2 ≤ d.mode) && decide (d.mode ≠ 0xB) && d.clocked

/-- A round starts: by the schedule, or by a request, which ends a round in progress unpublished (R122). -/
def Dev.hkStart (d : Dev) (req : Bool) : Dev :=
  if d.hkRuns && (req || !d.rbit Reg.HKP_STAT 18) then
    { d.setRbit Reg.HKP_STAT 18 true with ms := { d.ms with hkReq := req } }
  else d

/-- The supply-good flags of eight HV legs as their last status frames gave them (R119, R120). -/
def Dev.supplyFlags (d : Dev) (j : Nat) : Nat :=
  (List.range 8).foldl
    (fun s i => s + (d.port (8 * j + i)).frameH.toNat * 2 ^ (2 * i) + (d.port (8 * j + i)).frameL.toNat * 2 ^ (2 * i + 1)) 0

/-- Channels 14 to 17 are digital. -/
def hkDigital (c : Nat) : Bool := decide (14 ≤ c) && decide (c ≤ 17)

/-- The limit check of one channel (R123). -/
def Dev.hkLimit (d : Dev) (c : Nat) : Dev :=
  let lim := d.reg (Reg.HKP_LIM c)
  let v := d.fld (Reg.HKP_RES c) 15 0
  if !bitOf lim 31 then d
  else if hkDigital c then
    (List.range 16).foldl
      (fun e b => if bitOf lim b && !v.testBit b then e.raise Src.HKP_HVSUP (16 * (c - 14) + b) else e) d
  else if v < bitsOf lim 11 0 ∨ bitsOf lim 27 16 < v then d.raise Src.HKP_LIM c
  else d

/-- The divider of an analogue channel (R119). -/
def hkDivider (c : Nat) : Int :=
  if c ∈ [2, 4, 6, 9, 10, 11, 12, 13] then 2 else if c = 5 then 5 else if c = 8 then 4 else 1

/-- The code of an analogue channel (R119), from its node in microvolts, rounded to the nearest with the half
up; channel 0 gives the diode's raw code. -/
def hkCode (c : Nat) (v : Int) : BitVec 12 :=
  let code := if c = 0 then v else (8192 * v + 3000000 * hkDivider c) / (6000000 * hkDivider c)
  if 0 ≤ code ∧ code < 4096 then BitVec.ofInt 12 code else Config.hkBeyond c code

/-- The code that a round gives a channel, from the voltages of its nodes in channel order. -/
def hkCodeOf (volts : List Int) (c : Nat) : BitVec 12 := hkCode c ((volts[c]?).getD 0)

/-- A round ends and publishes its 24 results (R121 to R123). -/
def Dev.hkPublish (d : Dev) (volts : List Int) : Dev :=
  let st := Reg.HKP_STAT
  let round := (d.fld st 15 0 + 1) % 65536
  let d1 := (((d.setFld st 15 0 round).setRbit st 16 true).setRbit st 17 d.ms.hkReq).setRbit st 18 false
  let d2 := (List.range 24).foldl
    (fun e c =>
      let v := if hkDigital c then e.supplyFlags (c - 14) else (hkCodeOf volts c).toNat
      e.setReg (Reg.HKP_RES c) (BitVec.ofNat 32 (round % 256 * 65536 + v))) d1
  (List.range 24).foldl (fun e c => e.hkLimit c) d2

/-! ### The commands -/

/-- SOFTWARE_TRIGGER (R86). -/
def execSoftwareTrigger (k : Fin 18) (s : State) : Host.Outcome State Fault Refusal := s.run fun d => d.trigger k false

/-- CONVERSION_END (R89). -/
def execConversionEnd (k : Fin 18) (vin : Int) (parityFail : Bool) (s : State) : Host.Outcome State Fault Refusal :=
  s.run fun d => d.conversionEnd k vin parityFail

/-- CONVERSION_ABANDON (R109). -/
def execConversionAbandon (k : Fin 18) (s : State) : Host.Outcome State Fault Refusal := s.run fun d => d.abandon k

/-- LANE_SLEEP (R94). -/
def execLaneSleep (k : Fin 18) (s : State) : Host.Outcome State Fault Refusal := s.run fun d => d.laneSleep k

/-- LANE_STARTUP_END (R94, R96). -/
def execLaneStartupEnd (k : Fin 18) (s : State) : Host.Outcome State Fault Refusal := s.run fun d => d.startupEnd k

/-- LANE_NOSLEEP_SET (R96). -/
def execLaneNosleepSet (k : Fin 18) (s : State) : Host.Outcome State Fault Refusal := s.run fun d => d.nosleepSet k

/-- LANE_ENABLE (R97). -/
def execLaneEnable (k : Fin 18) (s : State) : Host.Outcome State Fault Refusal := s.run fun d => d.laneEnable k

/-- DECIMATOR_ENABLE (R111). -/
def execDecimatorEnable (n : Fin 32) (s : State) : Host.Outcome State Fault Refusal := s.run fun d => d.sdmEnable n

/-- DECIMATOR_OUTPUT (R112): the bits received; an output follows each OSR bits. -/
def execDecimatorOutput (n : Fin 32) (bits : List Bool) (s : State) : Host.Outcome State Fault Refusal :=
  s.run fun d => d.sdmFeed n bits

/-- SDM_STUCK (R116): the bits received; the 128th identical one sets STUCK. -/
def execSdmStuck (n : Fin 32) (bits : List Bool) (s : State) : Host.Outcome State Fault Refusal :=
  s.run fun d => d.sdmFeed n bits

/-- FAST_FILTER_TRIP (R118): the bits received; the fast filter is recomputed at each one. -/
def execFastFilterTrip (n : Fin 32) (bits : List Bool) (s : State) : Host.Outcome State Fault Refusal :=
  s.run fun d => d.sdmFeed n bits

/-- HOUSEKEEPING_ROUND_START (R122). -/
def execHousekeepingRoundStart (s : State) : Host.Outcome State Fault Refusal := s.run fun d => d.hkStart false

end Sys2Proof.Machine
end

