-- ==== Sys2Proof/Machine/Position.lean ====
section
/-! DEFINITION. The position block (R323 to R330) and the control-pilot capture unit (R388, R389). -/

namespace Sys2Proof.Machine

/-- Times in a record saturate at 0xFF_FFFF (R328). -/
def sat24 (n : Nat) : Nat := min n 0xFFFFFF

def Dev.modCpc (d : Dev) (f : Encoder → Encoder) : Dev := { d with ps := { d.ps with cpc := f d.ps.cpc } }

/-! ### Edges -/

/-- Quadrature order: A leads B counts up. -/
def quadUp (a b a' b' : Bool) : Bool := if a ≠ a' then decide (a' ≠ b) else decide (b' = a)

/-- A change of A in PWM-in mode: high time and period of the cycle, from the second rising edge after EN on (R325). -/
def Encoder.pwmEdge (x : Encoder) (now : Nat) (a : Bool) : Encoder :=
  if a = x.a then x
  else if a then
    { x with a := a, dir := a, sat := false, edgeAt := now, risen := true, high := if x.risen then x.hiNow else x.high,
             per := if x.risen then sat24 (now - x.riseAt) else x.per, riseAt := now }
  else { x with a := a, dir := a, sat := false, edgeAt := now, hiNow := sat24 (now - x.riseAt) }

/-- A count edge. One that comes in the tick of a Z is taken before it: ZCNT holds it, and ZRST has reset it. -/
def Dev.countEdge (d : Dev) (e : Nat) (up : Bool) : Dev :=
  let step := fun (c : Word) => if up then c + 1 else c - 1
  let d1 := d.modEnc e fun x => { x with dir := up, gap := sat24 (d.now - x.edgeAt), edgeAt := d.now }
  if (d.enc e).zAt = some d.now then
    (d1.setReg (Reg.POS_EZCNT e) (step (d.reg (Reg.POS_EZCNT e)))).when (!d.rbit (Reg.POS_ECTL e) 3) fun f =>
      f.setReg (Reg.POS_ECNT e) (step (d.reg (Reg.POS_ECNT e)))
  else d1.setReg (Reg.POS_ECNT e) (step (d.reg (Reg.POS_ECNT e)))

/-- Accepted levels of A and B (R325): a unit that is off only follows them. -/
def Dev.encAccept (d : Dev) (e : Nat) (a b : Bool) : Dev :=
  let x := d.enc e
  let ctl := Reg.POS_ECTL e
  if a = x.a ∧ b = x.b then d
  else if !d.rbit ctl 0 then d.modEnc e fun x => { x with a := a, b := b }
  else if d.rbit ctl 1 then d.modEnc e fun x => { x.pwmEdge d.now a with b := b }
  else if a ≠ x.a ∧ b ≠ x.b then
    ((d.modEnc e fun x => { x with a := a, b := b, errSince := true }).setRbit (Reg.POS_ESTAT e) 2 true).raise
      Src.POS_ENCERR e
  else (d.modEnc e fun x => { x with a := a, b := b }).countEdge e (xor (quadUp x.a x.b a b) (d.rbit ctl 2))

/-- An accepted level of Z (R325): a rising edge copies the count, and resets it with ZRST; in PWM-in mode the next record
shows it (R328). -/
def Dev.encZ (d : Dev) (e : Nat) (z : Bool) : Dev :=
  let ctl := Reg.POS_ECTL e
  let d0 := d.modEnc e fun x => { x with z := z }
  if z && !(d.enc e).z && d.rbit ctl 0 && !d.rbit ctl 1 then
    let d1 := ((d0.setReg (Reg.POS_EZCNT e) (d.reg (Reg.POS_ECNT e))).setRbit (Reg.POS_ESTAT e) 1 true).modEnc e fun x =>
      { x with zSince := true, zAt := some d.now }
    d1.when (d.rbit ctl 3) fun d => d.setReg (Reg.POS_ECNT e) 0
  else if z && !(d.enc e).z && d.rbit ctl 0 then d0.modEnc e fun x => { x with zSince := true }
  else d0

/-- The levels that have stood for FILT ticks are accepted, A and B before Z (R325). -/
def Dev.encFilter (d : Dev) (e : Nat) : Dev :=
  let x := d.enc e
  let filt := d.fld (Reg.POS_ECTL e) 7 4
  let sa := stable x.pa filt d.now
  let sb := stable x.pb filt d.now
  let d1 := (d.modEnc e fun x => { x with pa := if sa then none else x.pa, pb := if sb then none else x.pb }).encAccept e
    (xor x.a sa) (xor x.b sb)
  if stable x.pz filt d.now then (d1.modEnc e fun x => { x with pz := none }).encZ e (!x.z) else d1

/-- The lands A and B show levels. -/
def Dev.encEdge (d : Dev) (e : Nat) (a b : Bool) : Dev :=
  (d.modEnc e fun x => { x with pa := feed x.a x.pa a d.now, pb := feed x.b x.pb b d.now }).encFilter e

/-- The land Z shows a level. -/
def Dev.encIndex (d : Dev) (e : Nat) (z : Bool) : Dev :=
  (d.modEnc e fun x => { x with pz := feed x.z x.pz z d.now }).encFilter e

/-- The place of a legal Hall state in the order U, V, W of a turn. -/
def hallPlace (st : Nat) : Nat :=
  if st = 1 then 0 else if st = 3 then 1 else if st = 2 then 2 else if st = 6 then 3 else if st = 4 then 4 else 5

/-- An illegal Hall state (R326). -/
def Dev.hallIll (d : Dev) (h : Nat) : Dev :=
  ((d.setRbit (Reg.POS_HSTAT h) 1 true).modHall h fun x => { x with illSince := true }).raise Src.POS_HALLILL h

/-- Accepted levels of a Hall unit (R326). The direction of an edge between states that are no neighbours is a free value
(notes/assumptions/68.md). -/
def Dev.hallAccept (d : Dev) (h st : Nat) : Dev :=
  let d0 := d.modHall h fun x => { x with inp := st }
  if !d.rbit (Reg.POS_HCTL h) 0 then d0
  else if st = 0 ∨ st = 7 then d0.hallIll h
  else if d.fld (Reg.POS_HSTAT h) 10 8 = st then d0
  else
    let step := (hallPlace st + 6 - hallPlace (d.fld (Reg.POS_HSTAT h) 10 8)) % 6
    let d1 := if step = 1 ∨ step = 5 then d0 else { d0 with freeCtr := d.freeCtr + 1 }
    let dir := if step = 1 then true else if step = 5 then false else bitOf (Config.freeWord d.freeCtr) 0
    (d1.setFld (Reg.POS_HSTAT h) 10 8 st).modHall h fun x =>
      { x with edges := (x.edges + 1) % 2 ^ 24, gap := sat24 (d.now - x.edgeAt), edgeAt := d.now, dir := dir }

/-- The time since which a Hall land differs from its accepted level. -/
def Hall.since (x : Hall) (i : Nat) : Option Nat := smGet (fun _ => none) x.pend i

/-- The Hall levels that have stood for FILT ticks are accepted. -/
def Dev.hallFilter (d : Dev) (h : Nat) : Dev :=
  let x := d.hall h
  let due := (List.range 3).filter fun i => stable (x.since i) (d.fld (Reg.POS_HCTL h) 7 4) d.now
  if due.isEmpty then d
  else (d.modHall h fun x => { x with pend := due.foldl (fun m i => smSet (fun _ => none) m i none) x.pend }).hallAccept h
    (due.foldl (fun n i => Nat.xor n (2 ^ i)) x.inp)

/-- The lands of a Hall unit show a state. -/
def Dev.hallEdge (d : Dev) (h st : Nat) : Dev :=
  (d.modHall h fun x =>
    { x with pend := ((List.range 3).foldl
        (fun m i => smSet (fun _ => none) m i (feed (x.inp.testBit i) (x.since i) (st.testBit i) d.now)) []) }).hallFilter h

/-- The accepted level of CPCAP (R388, R389). -/
def Dev.cpcFilter (d : Dev) : Dev :=
  let x := d.ps.cpc
  if stable x.pa (d.fld Reg.CPC_CTL 7 4) d.now then
    (d.modCpc fun x => { x with pa := none }).modCpc fun x =>
      if d.rbit Reg.CPC_CTL 0 then x.pwmEdge d.now (!x.a) else { x with a := !x.a }
  else d

/-- The comparator at CPCAP shows a level. -/
def Dev.cpcEdge (d : Dev) (level : Bool) : Dev :=
  ((d.setRbit Reg.CPC_STAT 4 level).modCpc fun x => { x with pa := feed x.a x.pa level d.now }).cpcFilter

/-- One tick of the input filters. -/
def Dev.posTick (d : Dev) : Dev :=
  let d1 := d.ps.encs.foldl (fun d e => d.encFilter e.1) d
  (d.ps.halls.foldl (fun d h => d.hallFilter h.1) d1).cpcFilter

/-! ### Records (R327 to R329) -/

/-- Words 0 to 2 of a PWM-in record. -/
def Encoder.pwmWords (x : Encoder) (now : Nat) : List Nat :=
  if x.sat then [if x.a then 0xFFFFFF else 0, 0xFFFFFF, sat24 (now - x.riseAt)] else [x.high, x.per, sat24 (now - x.riseAt)]

/-- Word 3 of a record. -/
def recWord3 (recs : Nat) (sat dir z err : Bool) : Nat :=
  recs % 65536 * 65536 + sat.toNat * 8 + dir.toNat * 4 + z.toNat * 2 + err.toNat

/-- One class-0 beat through the port of the lane that serves a pin group; a refused write sets WERR. -/
def Dev.record (d : Dev) (port addr stat werr : Nat) (ws : List Nat) : Dev :=
  let r := d.postStore (d.laneOf port) 0 none (addr * 16) (ws.flatMap fun w => bytesOfWord (BitVec.ofNat 32 w)) [] false
    (.position stat werr)
  match r.2 with
  | .refused _ => r.1.setRbit stat werr true
  | _ => r.1

def Dev.encRecord (d : Dev) (e : Nat) : Dev :=
  let x := d.enc e
  let ctl := Reg.POS_ECTL e
  let ws := if d.rbit ctl 1 then x.pwmWords d.now else [(d.reg (Reg.POS_ECNT e)).toNat, sat24 (d.now - x.edgeAt), x.gap]
  (d.record (d.fld ctl 17 14) (d.fld (Reg.POS_EADDR e) 23 4) (Reg.POS_ESTAT e) 3
    (ws ++ [recWord3 (x.recs + 1) x.sat x.dir x.zSince x.errSince])).modEnc e fun x =>
    { x with recs := (x.recs + 1) % 65536, zSince := false, errSince := false }

def Dev.hallRecord (d : Dev) (h : Nat) : Dev :=
  let x := d.hall h
  (d.record (d.fld (Reg.POS_HCTL h) 17 14) (d.fld (Reg.POS_HADDR h) 23 4) (Reg.POS_HSTAT h) 2
    [x.edges * 256 + d.fld (Reg.POS_HSTAT h) 10 8, sat24 (d.now - x.edgeAt), x.gap,
      recWord3 (x.recs + 1) false x.dir false x.illSince]).modHall h fun x =>
    { x with recs := (x.recs + 1) % 65536, illSince := false }

def Dev.cpcRecord (d : Dev) : Dev :=
  let x := d.ps.cpc
  (d.record (d.fld Reg.CPC_CTL 17 14) (d.fld Reg.CPC_ADDR 23 4) Reg.CPC_STAT 2
    (x.pwmWords d.now ++ [recWord3 (x.recs + 1) x.sat x.dir false false])).modCpc fun x =>
    { x with recs := (x.recs + 1) % 65536 }

/-- Whether a unit's control register selects an event and is enabled. -/
def Dev.posDue (d : Dev) (ctl tb ev : Nat) : Bool :=
  d.rbit ctl 0 && decide (d.fld ctl 11 8 = tb) && decide (d.fld ctl 13 12 = ev)

/-- Every enabled unit writes its record at its event (R327). -/
def Dev.posRecords (d : Dev) (tb ev : Nat) : Dev :=
  let d1 := (List.range 4).foldl (fun d e => if d.posDue (Reg.POS_ECTL e) tb ev then d.encRecord e else d) d
  let d2 := (List.range 10).foldl (fun d h => if d.posDue (Reg.POS_HCTL h) tb ev then d.hallRecord h else d) d1
  if d2.posDue Reg.CPC_CTL tb ev then d2.cpcRecord else d2

/-! ### Enables -/

/-- Whether a beat lies in a valid plain hank. -/
def Dev.plainBeat (d : Dev) (a : Nat) : Bool :=
  match d.hankAt a with
  | some h => decide (h.kind = 0)
  | none => false

/-- EN of a unit with a record (R36): refused with CFGERR unless its beat lies in a valid plain hank. -/
def Dev.recUnitEnable (d : Dev) (ctl addr stat cfgerr : Nat) (start : Dev → Dev) : Dev :=
  if d.rbit ctl 0 || d.rbit stat 0 then d
  else if d.plainBeat (d.fld addr 23 4 * 16) then start (d.setRbit ctl 0 true)
  else d.setRbit stat cfgerr true

/-- EN of an excitation output (POS_XCTL): refused unless its timebase is in edge mode with PER + 1 a multiple of 64. -/
def Dev.excEnable (d : Dev) (x : Nat) : Dev :=
  let ctl := Reg.POS_XCTL x
  let j := d.fld ctl 7 4
  if d.rbit ctl 0 || d.rbit (Reg.POS_XSTAT x) 0 then d
  else if !d.rbit (Reg.TB_CTL j) 1 && decide ((d.fld (Reg.TB_PER j) 23 0 + 1) % 64 = 0) then d.setRbit ctl 0 true
  else d.setRbit (Reg.POS_XSTAT x) 2 true

/-- A unit that measures starts: no edge has come since EN. -/
def Encoder.started (x : Encoder) (now : Nat) : Encoder :=
  { x with edgeAt := now, riseAt := now, gap := 0, risen := false, high := 0, per := 0, hiNow := 0, sat := false }

/-- A Hall unit starts with the state that its inputs show (DESIGN CHOICE, notes/assumptions/68.md). -/
def Dev.hallStart (d : Dev) (h : Nat) : Dev :=
  let st := (d.hall h).inp
  let d1 := d.modHall h fun x => { x with edgeAt := d.now, gap := 0 }
  if st = 0 ∨ st = 7 then d1.hallIll h else d1.setFld (Reg.POS_HSTAT h) 10 8 st

def Dev.posEnable (d : Dev) : PosUnit → Dev
  | .encoder e => d.recUnitEnable (Reg.POS_ECTL e) (Reg.POS_EADDR e) (Reg.POS_ESTAT e) 4 fun d =>
      d.modEnc e fun x => x.started d.now
  | .hall h => d.recUnitEnable (Reg.POS_HCTL h) (Reg.POS_HADDR h) (Reg.POS_HSTAT h) 3 fun d =>
      d.hallStart h
  | .excitation x => d.excEnable x
  | .pilot => d.recUnitEnable Reg.CPC_CTL Reg.CPC_ADDR Reg.CPC_STAT 3 fun d =>
      d.modCpc fun x => x.started d.now

/-- The period of a timebase in effect, and whether it runs (R243). -/
def Dev.tbPer (d : Dev) (j : Nat) : Nat := bitsOf (d.tb j).per 23 0

def Dev.tbRuns (d : Dev) (j : Nat) : Bool := d.rbit (Reg.TB_STAT j) 1

/-- An excitation output takes the step at which the counter of its timebase stands, at a multiple of (PER + 1) / 64
(R324). -/
def Dev.excStep (d : Dev) (x step : Nat) : Dev :=
  let j := d.fld (Reg.POS_XCTL x) 7 4
  let on := d.rbit (Reg.POS_XCTL x) 0 || d.rbit (Reg.POS_XSTAT x) 0
  if on && d.tbRuns j && decide (d.fld (Reg.TB_CNT j) 23 0 = step * ((d.tbPer j + 1) / 64)) then
    (d.modExc x fun _ => { step := some step }).setRbit (Reg.POS_XSTAT x) 1 true
  else d

/-- The present voltage of an excitation output in microvolts (R324). -/
def Dev.excUv (d : Dev) (x : Nat) : Int :=
  match (d.exc x).step with
  | none => 1500000
  | some k => 1500000 + (d.fld (Reg.POS_XCTL x) 15 8 : Int) * 1200000 * gsin (k * 2 ^ 26) / (255 * 2 ^ 31)

/-! ### The commands -/

/-- ENCODER_EDGE (R325): the levels that the lands A and B show. -/
def execEncoderEdge (e : Fin 4) (a b : Bool) (s : State) : Host.Outcome State Fault Refusal := s.run fun d => d.encEdge e a b

/-- ENCODER_INDEX (R325): the level that the land Z shows. -/
def execEncoderIndex (i : IndexLevel) (s : State) : Host.Outcome State Fault Refusal := s.run fun d => d.encIndex i.e i.z

/-- HALL_EDGE (R326): the state that the lands show. -/
def execHallEdge (h : Fin 10) (st : BitVec 3) (s : State) : Host.Outcome State Fault Refusal :=
  s.run fun d => d.hallEdge h st.toNat

/-- PWM_IN_SATURATE (R329). -/
def execPwmInSaturate (u : PwmIn) (s : State) : Host.Outcome State Fault Refusal :=
  s.run fun d => match u with
    | .encoder e => if d.rbit (Reg.POS_ECTL e) 0 && d.rbit (Reg.POS_ECTL e) 1 then d.modEnc e fun x => { x with sat := true } else d
    | .pilot => if d.rbit Reg.CPC_CTL 0 then d.modCpc fun x => { x with sat := true } else d

/-- POSITION_UNIT_ENABLE (R327, POS_EADDR, POS_XCTL, CPC_ADDR). -/
def execPositionUnitEnable (u : PosUnit) (s : State) : Host.Outcome State Fault Refusal := s.run fun d => d.posEnable u

/-- EXCITATION_STEP (R324). -/
def execExcitationStep (x : Fin 2) (step : Fin 64) (s : State) : Host.Outcome State Fault Refusal :=
  s.run fun d => d.excStep x step

/-- CONTROL_PILOT_EDGE (R388, R389). -/
def execControlPilotEdge (level : Bool) (s : State) : Host.Outcome State Fault Refusal := s.run fun d => d.cpcEdge level

end Sys2Proof.Machine
end

