-- ==== Sys2Proof/Machine/Whorl.lean ====
section
/-! DEFINITION. Timebases and Whorls (07_whorls.md): counters and events, the slot image and its reload, forces, refresh,
the chopper. -/

namespace Sys2Proof.Machine

/-! ### Timebases (R243 to R247) -/

/-- The counter's direction and value: TB_CNT. -/
def Dev.setCnt (d : Dev) (j pos : Nat) (down : Bool) : Dev :=
  d.setReg (Reg.TB_CNT j) (BitVec.ofNat 32 (down.toNat * 2 ^ 24 + pos % 2 ^ 24))

def Dev.tbCentre (d : Dev) (j : Nat) : Bool := d.rbit (Reg.TB_CTL j) 1

/-- Load TB_PHASE (R245, R247): a position above PER loads PER. -/
def Dev.loadPhase (d : Dev) (j : Nat) : Dev :=
  let ph := Reg.TB_PHASE j
  d.setCnt j (min (d.fld ph 23 0) (d.tbPer j)) (d.rbit ph 24 && d.tbCentre j)

/-- The counter starts. -/
def Dev.tbStart (d : Dev) (j : Nat) : Dev :=
  ((d.loadPhase j).setRbit (Reg.TB_STAT j) 1 true).modTb j fun t => { t with waiting := false }

/-- Whether an EN setting of a timebase is ignored with CFGERR (R247). -/
def Dev.tbCfgBad (d : Dev) (j : Nat) : Bool :=
  (d.rbit (Reg.TB_CTL j) 2 && decide (d.fld (Reg.TB_CTL j) 6 3 = j)) ||
    decide (d.tbPer j < d.fld (Reg.TB_PHASE j) 23 0) || (d.tbCentre j && decide (0x800000 < d.tbPer j))

/-- EN of a timebase is set (R36, R245, R247). -/
def Dev.tbEnable (d : Dev) (j : Nat) : Dev :=
  if d.rbit (Reg.TB_CTL j) 0 || d.rbit (Reg.TB_STAT j) 0 then d
  else if d.tbCfgBad j then d.setRbit (Reg.TB_STAT j) 3 true
  else
    let d1 := d.setRbit (Reg.TB_CTL j) 0 true
    if d.rbit (Reg.TB_CTL j) 7 then d1.modTb j fun t => { t with waiting := true } else d1.tbStart j

/-- A write to WHL_GSTART (R245): every named timebase that is enabled and waits starts on the same tick. -/
def Dev.groupStart (d : Dev) (mask : Nat) : Dev :=
  (List.range 16).foldl
    (fun e j => if mask.testBit j && e.rbit (Reg.TB_CTL j) 0 && (e.tb j).waiting then e.tbStart j else e) d

/-- A live register takes effect. -/
def Dev.tbLive (d : Dev) (j : Nat) (r : TbLive) (v : Word) : Dev :=
  d.modTb j fun t => match r with
    | .per => { t with per := v }
    | .trga => { t with trga := v }
    | .trgb => { t with trgb := v }

/-- A write to TB_PER, TB_TRGA or TB_TRGB (R246): at once while the timebase stands, otherwise at the next ZERO. -/
def Dev.tbWrite (d : Dev) (j : Nat) (r : TbLive) (v0 : Word) : Dev :=
  let v := v0 &&& (match r with
    | .per => 0xFFFFFF
    | _ => 0x1FFFFFF)
  let bad := match r with
    | .per => decide (v.toNat < 2) || (d.tbCentre j && decide (0x800000 < v.toNat))
    | _ => false
  if bad then d
  else
    let d1 := d.setReg (match r with
      | .per => Reg.TB_PER j
      | .trga => Reg.TB_TRGA j
      | .trgb => Reg.TB_TRGB j) v
    if d.tbRuns j then d1.setRbit (Reg.TB_STAT j) 2 true else d1.tbLive j r v

/-- At ZERO the waiting values apply. -/
def Dev.tbApply (d : Dev) (j : Nat) : Dev :=
  if d.rbit (Reg.TB_STAT j) 2 then
    (((d.tbLive j .per (d.reg (Reg.TB_PER j))).tbLive j .trga (d.reg (Reg.TB_TRGA j))).tbLive j .trgb
      (d.reg (Reg.TB_TRGB j))).setRbit (Reg.TB_STAT j) 2 false
  else d

/-- The code of an event (R244). -/
def evCode : TbEvent → Nat
  | .zero => 0
  | .period => 1
  | .trga => 2
  | .trgb => 3

/-- Where a trigger position occurs (R244): above PER never; DIR counts in centre mode only. -/
def Dev.trgPos (d : Dev) (j : Nat) (t : Word) : Option (Nat × Bool) :=
  let pos := bitsOf t 23 0
  if d.tbPer j < pos then none
  else some (pos, d.tbCentre j && (if pos = 0 then false else if pos = d.tbPer j then true else bitOf t 24))

/-- The position and direction at which an event occurs; none where it never occurs (R244). -/
def Dev.evPos (d : Dev) (j : Nat) : TbEvent → Option (Nat × Bool)
  | .zero => some (0, false)
  | .period => some (d.tbPer j, d.tbCentre j)
  | .trga => d.trgPos j (d.tb j).trga
  | .trgb => d.trgPos j (d.tb j).trgb

/-- The counter one tick on (R243). -/
def Dev.tbTick (d : Dev) (j : Nat) : Dev :=
  if d.tbRuns j then
    let c := d.fld (Reg.TB_CNT j) 23 0
    let per := d.tbPer j
    if d.tbCentre j then
      if d.rbit (Reg.TB_CNT j) 24 then
        (if c = 0 then d.setCnt j 1 false else if c = 1 then d.setCnt j 0 false else d.setCnt j (c - 1) true)
      else if per ≤ c then d.setCnt j (per - 1) true
      else if per = c + 1 then d.setCnt j per true
      else d.setCnt j (c + 1) false
    else if per ≤ c then d.setCnt j 0 false
    else d.setCnt j (c + 1) false
  else d

/-- A Whorl takes its disable state: RUN reads 0 until an image that lands from now on is applied (R261). -/
def Dev.whlDisableState (d : Dev) (n : Nat) : Dev :=
  ((d.setRbit (Reg.WHL_STAT n) 2 false).modWhorl n fun w => { w with landed := false, ending := false }).drive n false

/-- A loop that drives a Whorl is disabled: the next reload of the Whorl is its boundary (R34); one without a running
timebase has no reload to wait for, and a chopper Whorl follows no loop (R261). -/
def Dev.loopLeaves (d : Dev) (n : Nat) : Dev :=
  if d.fld (Reg.WHL_CTL n) 15 14 ≠ 0 then d
  else if d.tbRuns (d.fld (Reg.WHL_CTL n) 7 4) then d.modWhorl n fun w => { w with ending := true }
  else d.whlDisableState n

/-- The counter stops at zero (R34); its Whorls take their disable state. -/
def Dev.tbStop (d : Dev) (j : Nat) : Dev :=
  let d1 := (((d.setCnt j 0 false).setFld (Reg.TB_STAT j) 1 0 0).modTb j fun t => { t with waiting := false }).tbApply j
  (List.range 64).foldl
    (fun e n =>
      if e.fld (Reg.WHL_CTL n) 7 4 = j ∧ e.fld (Reg.WHL_CTL n) 15 14 = 0 then
        e.whlDisableState n
      else e) d1

/-! ### The PWM signal (R248, R249, R266) -/

/-- The low interval of a refresh, in fine steps: 400 ns and FED, centred on ZERO in centre mode, from ZERO in edge
mode. -/
def Dev.refreshLen (d : Dev) (n : Nat) : Nat := 6144 + d.fed n

/-- The PWM signal of the active image at a position of its timebase (R248, R249), low within a refresh (R266). -/
def Dev.pwmLevel (d : Dev) (n pos : Nat) (down : Bool) : Bool :=
  let a := d.fld (Reg.WHL_ACT n 0) 28 0
  let b := d.fld (Reg.WHL_ACT n 1) 28 0
  let low := if (d.whorl n).refresh then d.refreshLen n else 0
  if d.tbCentre (d.fld (Reg.WHL_CTL n) 7 4) then
    (if down then decide (b < pos) && decide (low < 2 * pos) else decide (a ≤ pos) && decide (low ≤ 2 * pos))
  else decide (a ≤ pos) && decide (pos < b) && decide (low ≤ pos)

/-- The position of a Whorl (R248) `fine` steps into the present tick of its timebase. -/
def Dev.posNow (d : Dev) (n fine : Nat) : Nat × Bool :=
  let cnt := Reg.TB_CNT (d.fld (Reg.WHL_CTL n) 7 4)
  let c := 32 * d.fld cnt 23 0
  if d.rbit cnt 24 then (c - fine, true) else (c + fine, false)

/-- The PWM signal takes the level of the present position. -/
def Dev.pwmFollow (d : Dev) (n fine : Nat) : Dev :=
  let p := d.posNow n fine
  d.modWhorl n fun w => { w with pwm := d.pwmLevel n p.1 p.2 }

/-- Whether refresh shortens the period of the active image after an event: from ZERO its up-count, and from PERIOD its
down-count, which ZERO gives too where nothing reloads at PERIOD. -/
def Dev.refreshCuts (d : Dev) (n : Nat) (ev : TbEvent) : Bool :=
  let a := d.fld (Reg.WHL_ACT n 0) 28 0
  let b := d.fld (Reg.WHL_ACT n 1) 28 0
  let len := d.refreshLen n
  let atPeriod := decide (2 ≤ d.fld (Reg.WHL_CTL n) 3 2)
  if d.actMode n ≠ 0 then false
  else if d.tbCentre (d.fld (Reg.WHL_CTL n) 7 4) then
    (match ev with
      | .zero => decide (2 * a < len) || (!atPeriod && decide (2 * b < len))
      | .period => atPeriod && decide (2 * b < len)
      | _ => false)
  else decide (ev = .zero) && decide (a < len) && decide (a < b)

/-! ### Reload (R258 to R264) -/

/-- Ticks of the minimum dwell (R264). -/
def dwellTicks (n : Nat) : Nat := if n < 32 then 144 else 96

/-- Whether an event is a reload point of a Whorl (R258): the waiting image decides, else the active one. -/
def Dev.reloads (d : Dev) (n : Nat) (ev : TbEvent) : Bool :=
  let w := d.whorl n
  let mode := if w.fresh then bitsOf ((w.shadow[3]?).getD 0) 1 0 else d.actMode n
  let rld := d.fld (Reg.WHL_CTL n) 3 2
  let zeroOnly := decide (mode = 1) || !d.tbCentre (d.fld (Reg.WHL_CTL n) 7 4)
  match ev with
  | .zero => zeroOnly || decide (rld % 2 = 1)
  | .period => !zeroOnly && decide (2 ≤ rld)
  | _ => false

/-- The shadow becomes the active image, and from the first one that landed since EN or the boundary on the image governs
(R258, R261); the first reload after the disable of its loop is that boundary (R34). -/
def Dev.applyImage (d : Dev) (n : Nat) : Dev :=
  let w := d.whorl n
  if w.ending then d.whlDisableState n
  else if w.fresh && (w.landed || d.rbit (Reg.WHL_STAT n) 2) && d.rbit (Reg.WHL_CTL n) 0 then
    ((((List.range 4).foldl (fun e i => e.setReg (Reg.WHL_ACT n i) ((w.shadow[i]?).getD 0)) d).setRbit (Reg.WHL_STAT n) 2
      true).modWhorl n fun w => { w with fresh := false, landed := false })
  else d

/-- A synchronous force takes effect (R268). -/
def Dev.applyForce (d : Dev) (n : Nat) : Dev :=
  match (d.whorl n).frcWait with
  | some f => (d.modWhorl n fun w => { w with frc := f, frcWait := none }).setRbit (Reg.WHL_STAT n) 3 false
  | none => d

/-- Refresh starts and stops at reloads (R266). -/
def Dev.refreshReload (d : Dev) (n : Nat) : Dev :=
  d.modWhorl n fun w =>
    { w with refresh := decide (32 ≤ n) && d.rbit (Reg.WHL_CTL n) 1 && d.rbit (Reg.LVP_STAT (n - 32)) 3 }

/-- The leg state that a leg-state word gives a Whorl; the illegal code is off with LSILL (R262). -/
def Dev.legCode (d : Dev) (n : Nat) : Dev × Nat :=
  let l := d.fld (Reg.WHL_CTL n) 13 10
  let c := d.fld (Reg.WHL_ACT n 0) (2 * l + 1) (2 * l)
  if c = 3 then (d.setRbit (Reg.WHL_STAT n) 14 true, 0) else (d, c)

/-- Whether a leg's state changed less than a dwell ago (R264). -/
def Dev.dwelling (d : Dev) (n : Nat) : Bool :=
  match (d.whorl n).lastChange with
  | some t => decide (d.now < t + dwellTicks n)
  | none => false

/-- The decision tick of direct-state mode (R262 to R264, R266). A change of the leg's state within its dwell waits,
and the leg keeps its state till then. -/
def Dev.decideLeg (d : Dev) (n : Nat) : Dev :=
  let r := d.legCode n
  let w := d.whorl n
  let low := w.refresh && decide (r.2 = 2) && decide (w.leg = 2)
  let d1 := r.1.when low fun d => d.setRbit (Reg.WHL_STAT n) 15 true
  let d2 := d1.modWhorl n fun w => { w with leg := r.2, dwell := none, refreshLow := low }
  if pairLeg (d2.targetPair n) ≠ w.tgt ∧ d.dwelling n then
    (d1.modWhorl n fun w => { w with leg := w.tgt, dwell := some r.2, refreshLow := low }).setRbit (Reg.WHL_STAT n) 12 true
  else d2

/-- The dwell expires: the deferred state applies (R264). -/
def Dev.dwellEnd (d : Dev) (n : Nat) : Dev :=
  match (d.whorl n).dwell with
  | some c => (d.modWhorl n fun w => { w with leg := c, dwell := none }).drive n false
  | none => d

/-- A timebase event at one Whorl: reload, force, trip clear, refresh, decision, PWM level, and the outputs after them. A
period that refresh shortens while the image governs sets DLIM (R266). -/
def Dev.whlEvent (d : Dev) (n : Nat) (ev : TbEvent) : Dev :=
  if d.fld (Reg.WHL_CTL n) 15 14 ≠ 0 then d
  else
    let d1 :=
      if d.reloads n ev then (((d.applyImage n).applyForce n).refreshReload n).when (d.whorl n).clearing fun d =>
        (d.setRbit (Reg.WHL_STAT n) 1 false).modWhorl n fun w => { w with clearing := false }
      else d
    let d2 := d1.when (decide (d1.actMode n = 1) && d1.rbit (Reg.WHL_STAT n) 2 && decide (ev = .zero)) fun d =>
      d.decideLeg n
    let d3 := d2.pwmFollow n 0
    let d4 := d3.when ((d3.whorl n).refresh && d3.whlLive n && d3.rbit (Reg.WHL_STAT n) 2 && d3.refreshCuts n ev) fun d =>
      d.setRbit (Reg.WHL_STAT n) 15 true
    (d4.drive n false).tripEval n

/-- The followers of a master load their phase at its ZERO (R247); a disabled follower takes no further load. -/
def Dev.syncLoads (d : Dev) (j : Nat) : Dev :=
  (List.range 16).foldl
    (fun e k =>
      let c := Reg.TB_CTL k
      if e.rbit c 0 && e.rbit c 2 && decide (e.fld c 6 3 = j) && e.tbRuns k then e.loadPhase k else e) d

/-- The link time counter is copied at the event that ETH_TCAP names (R530). -/
def Dev.timeCapture (d : Dev) (j ev : Nat) : Dev :=
  if d.rbit Reg.ETH_TCAP 0 && decide (d.fld Reg.ETH_TCAP 7 4 = j) && decide (d.fld Reg.ETH_TCAP 9 8 = ev) then
    (d.setReg Reg.ETH_TCAPS (BitVec.ofNat 32 d.lk.sec)).setReg Reg.ETH_TCAPN (BitVec.ofNat 32 d.lk.ns)
  else d

/-- A timebase event (R86, R114, R211, R218, R244, R258, R327): nothing while the counter stands; the ZERO at which a
disabled counter stops is no event (R34). -/
def Dev.tbEvent (d : Dev) (j : Nat) (ev : TbEvent) : Dev :=
  let off := decide (ev = .zero) && !d.rbit (Reg.TB_CTL j) 0
  match d.evPos j ev with
  | none => d
  | some (pos, down) =>
    if !d.clocked || !d.tbRuns j || off then d
    else
      let d1 := d.setCnt j pos down
      let d2 := if ev = .zero then (d1.tbApply j).syncLoads j else d1
      let stamp := d2.ms.stamp + 1
      let d3 := { d2 with ms := { d2.ms with stamp := stamp } }
      let c := evCode ev
      let d4 := ((d3.openGens j c stamp).loopEvents j c stamp).laneTriggers j c
      let d5 := ((d4.sdmArm j c).posRecords j c).timeCapture j c
      (List.range 64).foldl (fun e n => if e.fld (Reg.WHL_CTL n) 7 4 = j then e.whlEvent n ev else e) d5

/-! ### Images and enables (R255 to R261) -/

/-- Whether the prefetcher accepts an image (R257). -/
def imageOk (ws : List Word) : Bool :=
  let w3 := (ws[3]?).getD 0
  decide (bitsOf w3 31 24 = 0x5A) && decide (bitsOf w3 23 2 = 0) && decide (bitsOf w3 1 0 ≠ 3)

/-- A prefetched beat enters the shadow, or is refused (R257, R260). -/
def Dev.imageLand (d : Dev) (n : Nat) : Dev :=
  let w := d.whorl n
  let refuse := fun (d : Dev) =>
    ((d.modWhorl n fun w => { w with beat := .none }).setRbit (Reg.WHL_STAT n) 10 true).raise Src.WHL_SLOTERR n
  match w.beat with
  | .none => d
  | .error => refuse d
  | .words ws =>
    if imageOk ws then
      (d.modWhorl n fun w => { w with beat := .none, shadow := ws, fresh := true, landed := true }).when w.fresh fun d =>
        d.setRbit (Reg.WHL_STAT n) 11 true
    else refuse d

/-- Whether the slot beat of a Whorl lies in a valid duty hank. -/
def Dev.slotOk (d : Dev) (n : Nat) : Bool :=
  match d.hankAt (d.fld (Reg.WHL_SLOT n) 23 4 * 16) with
  | some h => decide (h.kind = 5)
  | none => false

/-- EN of a Whorl is set (R36, R261, R273, R280); from a reset until CONFIG every Whorl stays disabled (R465). It
restarts a port that no library function drives (R15, notes/assumptions/54.md). -/
def Dev.whlEnable (d : Dev) (n : Nat) : Dev :=
  let ctl := Reg.WHL_CTL n
  let chop := decide (d.fld ctl 15 14 = 1)
  if !d.su.ready || d.rbit ctl 0 || d.rbit (Reg.WHL_STAT n) 0 then d
  else if !chop && !d.slotOk n then d.setRbit (Reg.WHL_STAT n) 16 true
  else
    (((((d.when (!d.sequenced n) fun d => d.endLinkHold n).setRbit ctl 0 true).setRbit (Reg.WHL_STAT n) 2 chop).modWhorl n
      fun w => { w with landed := false, ending := false }).drive n false).tripEval n

/-- The PWM signal reaches a compare position, `fine` steps into the tick (R248, R249, R252). -/
def Dev.pwmEdge (d : Dev) (n fine : Nat) : Dev := (d.pwmFollow n fine).drive n false

/-- A RED or FED delay ends: the delayed output turns on (R252). -/
def Dev.gateDelayEnd (d : Dev) (n : Nat) (s : Section) : Dev :=
  let w := d.whorl n
  match s with
  | .h => if w.pendH then
      ((d.modWhorl n fun w => { w with pendH := false, edgeOff := false }).setOut n true (d.rbit (Reg.WHL_OUT n) 1)).tripEval n
    else d
  | .l => if w.pendL then
      ((d.modWhorl n fun w => { w with pendL := false, edgeOff := false }).setOut n (d.rbit (Reg.WHL_OUT n) 0) true).tripEval n
    else d

/-- A write to WHL_FRC (R267, R268, R280). -/
def Dev.forceWrite (d : Dev) (n : Nat) (v0 : Word) : Dev :=
  let v := v0 &&& 0x1F
  let fh := bitsOf v 1 0
  let fl := bitsOf v 3 2
  if fh = 3 ∨ fl = 3 then d
  else if fh = 2 ∧ fl = 2 then d.setRbit (Reg.WHL_STAT n) 9 true
  else
    let d1 := d.setReg (Reg.WHL_FRC n) v
    if bitOf v 4 && decide (d.fld (Reg.WHL_CTL n) 15 14 ≠ 1) then
      (d1.modWhorl n fun w => { w with frcWait := some v }).setRbit (Reg.WHL_STAT n) 3 true
    else ((d1.modWhorl n fun w => { w with frc := v, frcWait := none }).setRbit (Reg.WHL_STAT n) 3 false).drive n false

/-- The 400 ns low-on pulse ends: the leg returns to high-on (R266). -/
def Dev.refreshEnd (d : Dev) (n : Nat) : Dev :=
  if (d.whorl n).refreshLow then (d.modWhorl n fun w => { w with refreshLow := false }).drive n false else d

/-! ### Bus comparators (R277 to R280) -/

/-- Whether a land voltage in microvolts stands at or above a code's threshold, CODE x 3.0 V / 1 024. -/
def aboveCode (uv code : Nat) : Bool := decide (code * 3000000 ≤ uv * 1024)

/-- Whether it stands at or below. -/
def belowCode (uv code : Nat) : Bool := decide (uv * 1024 ≤ code * 3000000)

/-- The chopper state of a land follows its voltage (R278), and the chopper Whorls follow it (R280). -/
def Dev.chopper (d : Dev) (land uv : Nat) : Dev :=
  let r := Reg.WHL_BUS land
  let st := d.rbit Reg.WHL_BUSST (4 + land)
  let st' := if aboveCode uv (d.fld r 19 10) then true else if belowCode uv (d.fld r 9 0) then false else st
  let d1 := d.setRbit Reg.WHL_BUSST (4 + land) st'
  (List.range 64).foldl
    (fun e n =>
      if e.fld (Reg.WHL_CTL n) 15 14 = 1 ∧ e.fld (Reg.WHL_CTL n) 17 16 = land then (e.drive n false).tripEval n else e) d1

/-- The overvoltage comparator of a land, and its line while OVEN = 1 (R279). -/
def Dev.busOv (d : Dev) (land uv : Nat) : Dev :=
  let over_ := aboveCode uv (d.fld (Reg.WHL_BUS land) 29 20)
  (d.setRbit Reg.WHL_BUSST land over_).setLine (72 + land) (over_ && d.rbit (Reg.WHL_BUS land) 31)

/-! ### The commands -/

/-- TIMEBASE_ENABLE (R245, R247). -/
def execTimebaseEnable (j : Fin 16) (s : State) : Host.Outcome State Fault Refusal := s.run fun d => d.tbEnable j

/-- GROUP_START (R245). -/
def execGroupStart (mask : BitVec 16) (s : State) : Host.Outcome State Fault Refusal :=
  s.run fun d => d.groupStart mask.toNat

/-- TIMEBASE_LIVE_WRITE (R246). -/
def execTimebaseLiveWrite (j : Fin 16) (r : TbLive) (v : Word) (s : State) : Host.Outcome State Fault Refusal :=
  s.run fun d => d.tbWrite j r v

/-- TIMEBASE_EVENT (R244). -/
def execTimebaseEvent (j : Fin 16) (e : TbEvent) (s : State) : Host.Outcome State Fault Refusal :=
  s.run fun d => d.tbEvent j e

/-- IMAGE_LAND (R257). -/
def execImageLand (n : Fin 64) (s : State) : Host.Outcome State Fault Refusal := s.run fun d => d.imageLand n

/-- WHORL_ENABLE (R261). -/
def execWhorlEnable (n : Fin 64) (s : State) : Host.Outcome State Fault Refusal := s.run fun d => d.whlEnable n

/-- GATE_DELAY_END (R252). -/
def execGateDelayEnd (n : Fin 64) (sec : Section) (s : State) : Host.Outcome State Fault Refusal :=
  s.run fun d => d.gateDelayEnd n sec

/-- DWELL_EXPIRY (R264). -/
def execDwellExpiry (n : Fin 64) (s : State) : Host.Outcome State Fault Refusal := s.run fun d => d.dwellEnd n

/-- FORCE_WRITE (R267, R268). -/
def execForceWrite (n : Fin 64) (v : Word) (s : State) : Host.Outcome State Fault Refusal := s.run fun d => d.forceWrite n v

/-- CHOPPER_STATE_CHANGE (R278): the land's voltage in microvolts. -/
def execChopperStateChange (land : Fin 4) (uv : Nat) (s : State) : Host.Outcome State Fault Refusal :=
  s.run fun d => d.chopper land uv

/-- BUS_OVERVOLTAGE (R279): the land's voltage in microvolts. -/
def execBusOvervoltage (land : Fin 4) (uv : Nat) (s : State) : Host.Outcome State Fault Refusal :=
  s.run fun d => d.busOv land uv

/-- PWM_COMPARE_EDGE (R248): the signal follows the present position, so many fine steps into the tick. -/
def execPwmCompareEdge (n : Fin 64) (fine : Fin 32) (s : State) : Host.Outcome State Fault Refusal :=
  s.run fun d => d.pwmEdge n fine

/-- REFRESH_LOW_END (R266). -/
def execRefreshLowEnd (n : Fin 64) (s : State) : Host.Outcome State Fault Refusal := s.run fun d => d.refreshEnd n

end Sys2Proof.Machine
end

