-- ==== Sys2Proof/Machine/Disable.lean ====
section
/-! DEFINITION. Disabling a unit with work in flight (R31 to R35): clearing its enable bit, and the boundary at which it
takes its disable state and ACT falls. -/

namespace Sys2Proof.Machine

/-- Where a unit's enable bit and ACT bit stand: EN's register and bit, ACT's register and bit. -/
def enPlace : UnitRef → Nat × Nat
  | .lane k => (Reg.CNV_CTL k, 0)
  | .sdm n => (Reg.SDM_CTL n, 0)
  | .loop p l => (Reg.SPN_CTL p, l)
  | .whorl n => (Reg.WHL_CTL n, 0)
  | .timebase j => (Reg.TB_CTL j, 0)
  | .reel n => (Reg.REL_CTL n, 0)
  | .inj => (Reg.INJ_CTL, 0)
  | .link l => (Reg.LNK_CTL l, 0)
  | .encoder e => (Reg.POS_ECTL e, 0)
  | .hall h => (Reg.POS_HCTL h, 0)
  | .excitation x => (Reg.POS_XCTL x, 0)
  | .pilot => (Reg.CPC_CTL, 0)

def actPlace : UnitRef → Nat × Nat
  | .lane k => (Reg.CNV_STAT k, 0)
  | .sdm n => (Reg.SDM_STAT n, 0)
  | .loop p l => (Reg.SPN_STAT p, l)
  | .whorl n => (Reg.WHL_STAT n, 0)
  | .timebase j => (Reg.TB_STAT j, 0)
  | .reel n => (Reg.REL_STAT n, 0)
  | .inj => (Reg.INJ_STAT, 0)
  | .link l => (Reg.LNK_STAT l, 0)
  | .encoder e => (Reg.POS_ESTAT e, 0)
  | .hall h => (Reg.POS_HSTAT h, 0)
  | .excitation x => (Reg.POS_XSTAT x, 0)
  | .pilot => (Reg.CPC_STAT, 0)

/-- Whether a draw is a unit's (R54, R117, R327): a loop's by its Spindle's port and its number. -/
def ownsDraw (u : UnitRef) (x : Draw) : Bool :=
  match u with
  | .lane k => decide (x.req = k) && !x.tag.guest
  | .sdm n => (match x.tag with
    | .sample decim unit _ _ _ => decim && decide (unit = n)
    | _ => false)
  | .loop p l => decide (x.req = reqSpn p) && decide (x.loop = some l.val)
  | .whorl n => decide (x.req = reqWhl n)
  | .reel n => decide (x.req = reqReel n)
  | .inj => decide (x.req = 132)
  | .link l => decide (x.req = 104 + l.val)
  | .timebase _ => false
  | u => (match x.tag with
    | .position stat _ => decide (stat = (actPlace u).1)
    | _ => false)

/-- Whether a link's record has begun to go into its ring: no first draw of it waits for its grant. It then completes
(R34). -/
def Dev.recordBegun (d : Dev) (l : Nat) : Bool :=
  !(d.allDraws.any fun x => match x.tag with
    | .record k first _ => decide (k = l) && first && !x.granted
    | _ => false)

/-- The draws that a unit withdraws at the clear (R32): its own, but for those of a frame that is in transfer into its
ring (R34). -/
def Dev.withdrawn (d : Dev) (u : UnitRef) (x : Draw) : Bool :=
  ownsDraw u x && !(match x.tag with
    | .record l _ _ => d.recordBegun l
    | _ => false)

/-- What the unit gives up at the clear (R31, R33, R34). -/
def Dev.dropWork (d : Dev) : UnitRef → Dev
  | .lane k => d.modLane k fun x =>
      { x with waiting := false, scan := if x.phase = .converting then x.scan.take 1 else [] }
  | .sdm n => d.modSdm n fun x => { x with since := 0, armed := false }
  | .loop p l =>
    let d1 := (((d.whorlList p l).foldl (fun e n => e.loopLeaves n) d).injTargetGone p l).modSpn p fun s =>
      { s with slotWait := s.slotWait.filter (· ≠ l.val), refused := s.refused.filter fun r => decide (r.loop ≠ l.val) }
    if (d.spn p).slot = some l.val then
      ((d1.stopEntry p).modSpn p fun s => { s with slot := none, recovered := false }).openNext p
    else d1
  | .inj => d.injAbort
  | .link l => d.modLink l fun x => { x with closing := true }
  | _ => d

/-- Whether a unit's block ignores writes: a loop's of a retired Spindle (R242), the generator's outside SERVICE (R404). -/
def Dev.blockShut (d : Dev) : UnitRef → Bool
  | .loop p _ => d.rbit (Reg.SPN_STAT p) 9
  | .inj => decide (d.mode ≠ 10)
  | _ => false

/-- Clearing an enable bit (R31 to R35): EN 0, ACT 1, ungranted draws withdrawn. -/
def Dev.unitDisable (d : Dev) (u : UnitRef) : Dev :=
  let e := enPlace u
  let a := actPlace u
  if d.rbit e.1 e.2 && !d.blockShut u then
    (((d.setRbit e.1 e.2 false).setRbit a.1 a.2 true).dropWork u).withdraw (d.withdrawn u)
  else d

/-- Whether the unit has reached its boundary (R34): no conversion or frame in progress, and no record of a UART open (R537);
the Whorls that a loop drives have reloaded, and no takeover runs on its Spindle (R239). -/
def Dev.atBoundary (d : Dev) : UnitRef → Bool
  | .lane k => decide ((d.lane k).phase ≠ .converting)
  | .link l => !(d.link l).sending && (d.link l).uart.isEmpty
  | .loop p l => !d.onHold p && (d.whorlList p l).all fun n => !(d.whorl n).ending
  | _ => true

/-- The disable state of a unit (R34). -/
def Dev.disableState (d : Dev) : UnitRef → Dev
  | .lane k => (d.setAwake k false).modLane k fun x => { x with phase := .asleep, scan := [], waiting := false }
  | .whorl n => d.whlDisableState n
  | .timebase j => d.tbStop j
  | .reel n => d.when (d.rbit (Reg.REL_STAT n) 1) fun d => d.reelEnd n false
  | .inj => if d.inj.live then d.injCapture.injHalt true else d.setReg Reg.INJ_VAL 0
  | .link l => d.modLink l fun x => { x with closing := false }
  | .excitation x => ((d.setRbit (Reg.POS_XSTAT x) 1 false).modExc x fun _ => Excite.reset)
  | _ => d

/-- A disabled unit reaches its boundary: its disable state, and ACT falls once its last draw has completed (R34, R35). -/
def Dev.boundary (d : Dev) (u : UnitRef) : Dev :=
  let a := actPlace u
  if d.rbit a.1 a.2 && d.atBoundary u then
    let d1 := d.disableState u
    d1.when (!(d1.allDraws.any (ownsDraw u))) fun d => d.setRbit a.1 a.2 false
  else d

/-- A loop that the Distaff restarts under R241 is enabled again once ACT reads 0 (R423). -/
def Dev.restartDue (d : Dev) (u : UnitRef) : Dev :=
  match u with
  | .loop p l =>
    if (p.val, l.val) ∈ d.sn.restarts ∧ !d.rbit (Reg.SPN_STAT p) l then
      ({ d with sn := { d.sn with restarts := d.sn.restarts.filter fun x => decide (x ≠ (p.val, l.val)) } }).loopEnable p l
    else d
  | _ => d

/-- Every unit that an enable bit governs. -/
def allUnits : List UnitRef :=
  List.flatten
    [(List.finRange 18).map UnitRef.lane, (List.finRange 32).map UnitRef.sdm,
     (List.finRange 18).flatMap fun p => (List.finRange 4).map fun l => UnitRef.loop p l,
     (List.finRange 64).map UnitRef.whorl, (List.finRange 16).map UnitRef.timebase, (List.finRange 8).map UnitRef.reel,
     [UnitRef.inj], (List.finRange 18).map UnitRef.link, (List.finRange 4).map UnitRef.encoder,
     (List.finRange 10).map UnitRef.hall, (List.finRange 2).map UnitRef.excitation, [UnitRef.pilot]]

/-! ### The commands -/

/-- UNIT_DISABLE (R31). -/
def execUnitDisable (u : UnitRef) (s : State) : Host.Outcome State Fault Refusal := s.run fun d => d.unitDisable u

/-- DISABLE_BOUNDARY (R34, R35). -/
def execDisableBoundary (u : UnitRef) (s : State) : Host.Outcome State Fault Refusal := s.run fun d => (d.boundary u).restartDue u

end Sys2Proof.Machine
end

