-- ==== Sys2Proof/Machine/Functions.lean ====
section
/-! DEFINITION. What every library function's sequencer shares (R336 to R343), and the motor functions (09, 10): catch,
start, stop, locked rotor, a lost rotor and lost feedback. A function has a sequencer when its policy entry is valid and
Borwyn described it (`desc`); every other loop is the user's own (notes/assumptions/57.md). -/

namespace Sys2Proof

/-! ### The entries in the loops' units (R307, R342, R343) -/

/-- The sequencer periods that a time in microseconds takes. -/
def FnDesc.per (k : FnDesc) (us : Nat) : Nat := (us * 1000 + k.tseq - 1) / k.tseq

/-- A share of w_r as a share of w_b. -/
def FnDesc.wr (k : FnDesc) (x : Nat) : Nat := x * k.wrated / 2 ^ 31

/-- A share of I_r as a share of I_b. -/
def FnDesc.ir (k : FnDesc) (x : Nat) : Nat := x * k.mo.irated / 2 ^ 31

/-- A rate per second as a step per sequencer period. -/
def FnDesc.step (k : FnDesc) (a : Nat) : Nat := a * k.tseq / 1000000000

def FnDesc.sensorless (k : FnDesc) : Bool := decide (k.mo.sensor = .observer)

/-- The number of settings in the table of R343. -/
def entryCount : Nat := 34

/-- The settings of R343, in the order of its table (DESIGN CHOICE of the order, notes/assumptions/57.md). -/
def FnDesc.withEntries (k : FnDesc) (v : Nat → Word) : FnDesc :=
  let n := fun i => (v i).toNat
  { k with
    vemin := n 0, nzero := n 1, ncatch := n 2, tbrk := n 3, tal := n 6, iramp := n 7, armp := n 8, nho := n 9,
    hoband := n 10, nhop := n 11, thof := n 12, nstart := n 14, tstrt := n 15, adec := n 16, aqs := n 17, vdec := n 18,
    vdecw := n 19, nol := n 20, nstop := n 21, tstop := n 22, tlock := n 23, tqlk := n 24, lkact := decide (n 25 ≠ 0),
    psi := n 30,
    mo := { k.mo with
      ial := n 4, thal := v 5, tho := n 13, nloss := n 26, dwjmp := n 27, tasc := n 28, ttq := n 29, nfb := n 31,
      tfbq := n 32, nfrz := n 33 } }

end Sys2Proof

namespace Sys2Proof.Machine

/-! ### The entry, its lines and its legs -/

/-- The loops of an entry: physical Spindle and loop (R30, R448). The sequencer runs in the first, the current loop is the
last (DESIGN CHOICE, notes/assumptions/57.md). -/
def Dev.loopsOf (d : Dev) (e : FnEntry) : List (Nat × Nat) :=
  (e.loops.filter fun b => b.getLsbD 7).map fun b =>
    (d.physSpn (b.extractLsb' 2 4).toNat, (b.extractLsb' 0 2).toNat)

/-- The Spindle through whose port a function's sequencer reads and writes. -/
def Dev.fnSpn (d : Dev) (e : FnEntry) : Nat :=
  match d.loopsOf e with
  | [] => 0
  | x :: _ => x.1

def Dev.fnReq (d : Dev) (e : FnEntry) : Nat := reqSpn (d.fnSpn e)

/-- A store of the sequencer, class 1 as every store of a Spindle but a commit (R55). -/
def Dev.fnStore (d : Dev) (e : FnEntry) (a : Nat) (bs : List Byte) : Dev :=
  (d.postStore (d.fnReq e) (classOf (d.fnReq e) false) none a bs [] false .plain).1

/-- A load of the sequencer. -/
def Dev.fnLoad (d : Dev) (e : FnEntry) (a n : Nat) : Dev × SkRes × List Byte :=
  d.load (d.fnReq e) (classOf (d.fnReq e) false) a n

/-- Words 0, 1 and 3 of an image that puts a leg at OFF (0), ASC-L (1) or ASC-H (2); the dead times stay (R360, R262). -/
def safeImage (st : Nat) (w2 : Word) : List Word :=
  [if st = 1 then 0x55555555 else if st = 2 then 0xAAAAAAAA else 0, 0, w2, if st = 0 then 0x5A000002 else 0x5A000001]

/-- An image in PWM mode with two compare values. -/
def pwmImage (a b w2 : Word) : List Word := [a, b, w2, 0x5A000000]

/-- Write an image into the duty slot of one port's Whorl, a commit beat of class 0 (R55). -/
def Dev.putWords (d : Dev) (e : FnEntry) (n : Nat) (ws : Word → List Word) : Dev :=
  let a := d.fld (Reg.WHL_SLOT n) 23 4 * 16
  (d.postStore (d.fnReq e) (classOf (d.fnReq e) true) none a ((ws (d.word (a + 8))).flatMap bytesOfWord) [] false .plain).1

/-- Put one port's leg at OFF, ASC-L or ASC-H. -/
def Dev.putImage (d : Dev) (e : FnEntry) (st n : Nat) : Dev := d.putWords e n (safeImage st)

/-- Flag bit of status word 0 (R340, R371). -/
def Fn.flag (x : Fn) (i : Nat) : Bool := bitOf x.flags i

def Fn.setFlag (x : Fn) (i : Nat) (b : Bool) : Fn := { x with flags := putBit x.flags i b }

/-- Modify the counts of a function. -/
def Fn.modC (x : Fn) (g : FnCtr → FnCtr) : Fn := { x with c := g x.c }

def Dev.modCtr (d : Dev) (f : Nat) (g : FnCtr → FnCtr) : Dev := d.modFn f fun x => x.modC g

/-- The sequencer reads its settings from its loop's coefficient hank (R343); where an entry fails the check of R128 the
settings stay (DESIGN CHOICE, notes/assumptions/57.md). -/
def Dev.takeEntries (d : Dev) (f : Nat) (e : FnEntry) (k : FnDesc) : Dev :=
  match d.loopsOf e, k.kbase with
  | x :: _, some b =>
    let file := liveOf (d.spn x.1).live (d.selHank x.1 x.2)
    let v := fun i => smGet (fun _ => 0) file (b + i)
    if (List.range entryCount).all fun i => kindOk (v i) 0 || kindOk (v i) 1 then
      d.modFn f fun y => { y with desc := some (k.withEntries fun i => (v i).extractLsb' 0 32) }
    else d
  | _, _ => d

/-- Commit images that put every leg of a function at OFF, ASC-L or ASC-H; ASCI shows ASC-L (R340). -/
def Dev.fnLegs (d : Dev) (f st : Nat) : Dev :=
  match d.fnEntry f with
  | none => d
  | some e => ((portsOf e).foldl (fun d n => d.putImage e st n) d).modFn f fun x => x.setFlag 17 (decide (st = 1))

/-- The safe state of a function: 0 OFF, 1 ASC-L, 2 ASC-H (R448). -/
def Dev.fnSafe (d : Dev) (f : Nat) : Nat :=
  match d.fnEntry f with
  | some e => if e.safe.toNat = 3 then 0 else e.safe.toNat
  | none => 0

/-- Whether a function is in IDLE, FAULTED or RETIRED. -/
def Fn.quiet (x : Fn) : Bool := decide (x.st = 0) || decide (x.st = 8) || decide (x.st = 9)

/-- Enter a function state; the periods in it and the counts of what qualifies in it start from 0. RATE shows in DECEL
only, and a blend goes on between CLOSED and DECEL (R348, R353). -/
def Fn.enter (x : Fn) (st : Nat) : Fn :=
  { x with st := st, timer := 0, flags := if st = 5 then x.flags else putBit x.flags 19 false }.modC fun c =>
    { c with hoN := 0, nhoN := 0, stopN := 0, stillN := 0, noMove := 0, arrN := 0, stallN := 0, blkN := 0, tooN := 0,
             brkOff := 0, lossDue := false, blendN := if st = 4 ∨ st = 5 then c.blendN else 0 }

def Dev.fnGo (d : Dev) (f st : Nat) : Dev := d.modFn f fun x => x.enter st

/-- What ends with every sequence: a recatch, open loop, the orderly-stop ramp, a wait for the grid, an obstruction, a
return, and a lost or substituted feedback. -/
def Fn.settle (x : Fn) : Fn :=
  { x with recatch := false, openLoop := false, ordRamp := false, resync := false, blocked := false, returning := false }.modC
    fun c => { c with posLost := false, posRamp := none, sub := none, legsDue := false }

/-- The state resistor's land takes its level for state C or B through its mirror word (R387, R542). -/
def Dev.setResistor (d : Dev) (f : Nat) (e : FnEntry) (k : FnDesc) (c : Bool) : Dev :=
  match k.land with
  | none => d
  | some n =>
    if (d.fn f).stateC = c then d
    else
      let a := d.fld Reg.GPIO_MADDR 23 7 * 128 + 4 * n.val
      (d.fnStore e a (bytesOfWord (if c = k.landC then 1 else 0))).modFn f fun x => { x with stateC := c }

/-- A converter that leaves CLOSED returns its state resistor to B (R392). -/
def Dev.resistorB (d : Dev) (f : Nat) : Dev :=
  match d.fnEntry f, (d.fn f).desc with
  | some e, some k => if k.kind = .grid ∨ k.kind = .bridge then d.setResistor f e k false else d
  | _, _ => d

/-- FAULTED with a CAUSE, the legs in the state given (R336); a notice is due (R340). -/
def Dev.fnFaultAt (d : Dev) (f cause legs : Nat) : Dev :=
  ((d.resistorB f).fnLegs f legs).modFn f fun x =>
    ({ x.settle with cause := cause }.enter 8).modC fun c => { c with notice := true }

def Dev.fnFault (d : Dev) (f cause : Nat) : Dev := d.fnFaultAt f cause (d.fnSafe f)

/-- IDLE: legs off. -/
def Dev.fnIdle (d : Dev) (f cause : Nat) : Dev :=
  ((d.resistorB f).fnLegs f 0).modFn f fun x => { x.settle with cause := cause }.enter 0

/-- CLOSED. -/
def Dev.fnClose (d : Dev) (f : Nat) : Dev :=
  d.modFn f fun x => ({ x.enter 4 with recatch := false, openLoop := false } : Fn).setFlag 17 false

/-- The hold of every leg of a function ends when the function is restarted (R15). -/
def Dev.fnEndHolds (d : Dev) (f : Nat) : Dev :=
  match d.fnEntry f with
  | none => d
  | some e => (portsOf e).foldl (fun d n => d.endLinkHold n) d

/-! ### Command bits (R338) -/

/-- RUN, but where the command curve turns the function off (R334). -/
def Fn.run (x : Fn) : Bool := bitOf x.cmd 0 && !x.c.curveOff
def Fn.rev (x : Fn) : Bool := bitOf x.cmd 1
def Fn.qs (x : Fn) : Bool := bitOf x.cmd 2
def Fn.coast (x : Fn) : Bool := bitOf x.cmd 3
def Fn.hold (x : Fn) : Bool := bitOf x.cmd 4

/-- Whether functions may leave IDLE (R337, R481): RUN or DEGRADED, and no cold stop. -/
def Dev.mayLeave (d : Dev) (cstop : Bool) : Bool := (decide (d.mode = 6) || decide (d.mode = 7)) && !cstop

/-- A value moved toward another by at most a step. -/
def toward (x goal step : Int) : Int := if x < goal then min goal (x + step) else max goal (x - step)

/-! ### Limits, and events of a function -/

/-- A share SCALE of a limit (R481), and the share that the orderly-stop ramp has left of it: 0.8 T_ORDER from ORD
(R484). -/
def Dev.limited (d : Dev) (f scale x : Nat) : Nat :=
  let y := x * scale / 16
  if (d.fn f).ordRamp then
    let all := 38400 * d.fld Reg.THM_ORD 7 0
    y * (all - (d.now - (d.fn f).c.ordAt)) / all
  else y

/-- Apply a function's event to its sequencer. -/
def Dev.withDesc (d : Dev) (f : Nat) (g : FnEntry → FnDesc → Dev) : Dev :=
  match d.fnEntry f, (d.fn f).desc with
  | some e, some k => g e k
  | _, _ => d

/-! ### The rotor's voltage and the branch of a recatch (R360) -/

/-- E: the last speed of a valid observer times PSI. -/
def emfOf (k : FnDesc) (x : Fn) : Nat := x.c.wValid.natAbs * k.psi / 2 ^ 31

/-- ASC-L for an ASC-capable function with E above 0.9 V_bus, else off. -/
def branchOf (k : FnDesc) (x : Fn) (vbus : Int) : Nat :=
  if k.ascCapable && decide (9 * vbus < 10 * (emfOf k x : Int)) then 1 else 0

/-- The recatch path: the legs, then CATCH at the period that follows (R346, R359). -/
def Dev.startRecatch (d : Dev) (f legs : Nat) : Dev :=
  (d.fnLegs f legs).modCtr f fun c => { c with asc := decide (legs = 1), lossDue := true, recN := 0 }

/-- CATCH in a recatch. -/
def Dev.recatch (d : Dev) (f : Nat) : Dev :=
  (d.fnGo f 1).modFn f fun x => { x with recatch := true, openLoop := false, ordRamp := false }

/-! ### The observer (R322, R359) -/

/-- One execution of the observer: its residual and its speed. -/
def FnCtr.execute (k : FnDesc) (c : FnCtr) (x : Int × Int) : FnCtr :=
  let good := decide (x.1 ≤ k.mo.rb)
  let nval := if good then min (c.nval + 1) k.mo.nval else 0
  let valid := decide (3 * k.wrated ≤ 100 * x.2.natAbs) && decide (k.mo.nval ≤ nval)
  { c with nval := nval, nbad := if good then 0 else c.nbad + 1, wLast := some x.2, valid := valid,
           wValid := if valid then x.2 else c.wValid }

/-- Whether a speed jumps by more than DWJMP between two executions. -/
def jumps (k : FnDesc) (c : FnCtr) (w : Int) : Bool :=
  match c.wLast with
  | some v => decide (k.wr k.mo.dwjmp < (w - v).natAbs)
  | none => false

/-- The executions of a period: the observer after them, and whether they lose the rotor (R359); from the one that loses
it the last speed of a valid observer stays (R360). -/
def FnCtr.executes (k : FnDesc) (c : FnCtr) (xs : List (Int × Int)) : FnCtr × Bool :=
  xs.foldl (fun r x =>
    let c1 := r.1.execute k x
    let lost := r.2 || jumps k r.1 x.2 || decide (k.mo.nloss ≤ c1.nbad)
    ({ c1 with wValid := if lost then r.1.wValid else c1.wValid }, lost)) (c, false)

/-- Whether a function can lose its rotor (R359): it runs on the observer in CLOSED or DECEL at NOL or above. -/
def losableOf (k : FnDesc) (x : Fn) : Bool :=
  decide (k.kind = .motor) && (decide (x.st = 4) || decide (x.st = 5)) && !x.openLoop && (k.sensorless || x.flag 16) &&
    decide (k.wr k.nol ≤ x.speed.natAbs)

/-- A motor after its current loop's executions, and whether they lose its rotor. -/
def Fn.observed (k : FnDesc) (x : Fn) (xs : List (Int × Int)) : Fn × Bool :=
  let r := x.c.executes k xs
  ({ x with c := r.1 }, r.2)

/-- The executions that a current loop reports; a lost rotor commits its images at once (R359, R360). -/
def Dev.noteExecs (d : Dev) (f : Nat) (k : FnDesc) (xs : List (Int × Int)) (vbus : Int) : Dev :=
  let x := d.fn f
  let r := x.observed k xs
  let d1 := d.setFn f r.1
  if r.2 && losableOf k x && !x.c.lossDue then d1.startRecatch f (branchOf k r.1 vbus) else d1

/-! ### The motor sequencer (R345 to R356) -/

/-- The speed opposes the commanded direction (R353). -/
def Fn.opposes (x : Fn) (speed : Int) : Bool := if x.rev then decide (0 < speed) else decide (speed < 0)

/-- The imposed speed's goal in the commanded direction. -/
def Fn.nhoGoal (x : Fn) (k : FnDesc) : Int := if x.rev then -(k.wr k.nho : Int) else k.wr k.nho

/-- The imposed speed stands at NHO in the commanded direction. -/
def Fn.atNho (x : Fn) (k : FnDesc) : Bool := decide (x.wi = x.nhoGoal k)

/-- Whether a start from rest needs an alignment (R347, R368). -/
def needsAlign (k : FnDesc) (x : Fn) : Bool := k.sensorless || (k.incremental && !x.aligned)

/-- From rest: ALIGN, or at once CLOSED (R347). -/
def Dev.fromRest (d : Dev) (f : Nat) (k : FnDesc) : Dev :=
  if needsAlign k (d.fn f) then
    (d.fnGo f 2).modFn f fun x => ({ x with wi := 0 } : Fn).modC fun c => { c with theta := k.mo.thal }
  else d.fnClose f

/-- A failed start (R352), with its cause; the legs of a locked rotor go off (R357). -/
def Dev.fnStartFail (d : Dev) (f cause : Nat) (k : FnDesc) : Dev :=
  let a := (d.fn f).att + 1
  let d1 := d.modFn f fun x => { x with att := a }
  if k.nstart ≤ a then (if cause = 2 then d1.fnFaultAt f 2 0 else d1.fnFault f cause)
  else (d1.fnIdle f cause).modFn f fun x => { x with waitN := k.tstrt }

/-- The deceleration rate A (R353): A_0 times (VDEC + VDECW - V_bus) / VDECW, clamped. -/
def decelRate (a0 vdec vdecw : Nat) (vbus : Int) : Int := (a0 : Int) * clampI 0 vdecw (vdec + vdecw - vbus) / (vdecw : Int)

/-- Whether the handover's conditions hold in a period (R351). -/
def handsOver (k : FnDesc) (x : Fn) : Bool :=
  x.atNho k && x.c.valid && decide ((x.speed - x.wi).natAbs ≤ k.wr k.hoband)

/-- The imposed speed and the counts of R351 and R352 advance. -/
def Dev.imposed (d : Dev) (f : Nat) (k : FnDesc) (goal : Int) : Dev :=
  d.modFn f fun x =>
    let y := { x with wi := toward x.wi goal (k.step (k.wr k.armp)) }
    y.modC fun c => { c with hoN := if handsOver k y then c.hoN + 1 else 0, nhoN := if y.atNho k then c.nhoN + 1 else 0 }

/-- One period of DECEL (R353 to R355): the demand falls at A; a sensorless machine crosses zero in open loop, with the
present current at NOL but at least IRMP. -/
def Dev.motorDecel (d : Dev) (f : Nat) (k : FnDesc) (o : SeqObs) : Dev :=
  let x := d.fn f
  let a0 := k.step (k.wr (if x.qs then k.aqs else k.adec))
  let a := decelRate a0 k.vdec k.vdecw o.vbus
  let d1 := d.modFn f fun x => ({ x with dem := toward x.dem 0 a } : Fn).setFlag 19 (decide (a < a0))
  let d2 := d1.modCtr f fun c => { c with stopN := if o.speed.natAbs < k.wr k.nstop then c.stopN + 1 else 0 }
  if x.openLoop then d2.imposed f k (if x.run then x.nhoGoal k else 0)
  else if k.sensorless && decide (o.speed.natAbs ≤ k.wr k.nol) then
    d2.modFn f fun x => ({ x with openLoop := true, wi := o.speed } : Fn).modC fun c =>
      { c with idFrom := (max o.current (k.ir k.iramp) : Nat) }
  else d2

/-- What a motor function does with its command in a period (R339, R345, R349, R353 to R357). -/
def Dev.motorPeriod (d : Dev) (f : Nat) (k : FnDesc) (cstop : Bool) (o : SeqObs) : Dev :=
  let x := d.fn f
  let coasts := !x.run && x.coast
  match x.st with
  | 0 =>
    if 0 < x.waitN then d.modFn f fun x => { x with waitN := x.waitN - 1 }
    else if x.run && d.mayLeave cstop then
      (((d.fnEndHolds f).fnLegs f 0).fnGo f 1).modFn f fun x => { x with cause := 0 }
    else d
  | 1 => if coasts then d.fnIdle f x.cause else d.modCtr f fun c => { c with recN := c.recN + 1 }
  | 2 => if !x.run then d.fnIdle f x.cause else d
  | 3 => if !x.run then d.fnIdle f x.cause else d.imposed f k (x.nhoGoal k)
  | 4 =>
    let d1 := d.modFn f fun x => if k.per 10000000 ≤ x.timer then { x with att := 0 } else x
    if coasts then d1.fnIdle f x.cause
    else if !x.run || x.opposes o.speed then (d1.fnGo f 5).modFn f fun x => { x with dem := o.speed }
    else d1.modFn f fun x =>
      ({ x with dem := if x.rev then -x.spd.toInt else x.spd.toInt } : Fn).modC fun c =>
        { c with stillN := if k.tqlk < x.tq.natAbs && !o.commut then c.stillN + 1 else 0 }
  | 5 =>
    if coasts then d.fnIdle f x.cause
    else if x.run && !x.opposes o.speed && !x.openLoop then d.fnClose f
    else d.motorDecel f k o
  | 6 =>
    if coasts then d.fnIdle f x.cause
    else if x.c.brkOff = 0 then d
    else
      let d1 := d.modCtr f fun c => { c with brkOff := c.brkOff - 1 }
      if x.c.brkOff = 1 then d1.fromRest f k else d1
  | 7 =>
    if x.run then (if k.sensorless then (d.fnGo f 3).modFn f fun x => { x with wi := 0 } else d.fnClose f)
    else if !x.hold then d.fnIdle f x.cause
    else d
  | _ => d

/-- What the ramp of a lost position sensor leaves of a torque: to 0 over TTQ (R366). -/
def FnCtr.rampOff (k : FnDesc) (c : FnCtr) (q : Int) : Int :=
  match c.posRamp with
  | some m => q * ((k.mo.ttq : Int) - m) / k.mo.ttq
  | none => q

/-- i_d* and i_q* of a motor function (R348, R350, R351, R354, R356, R362): the ALIGN ramp, IRMP, the current of an open
loop, the holding current, and in closed loop the blend from where the entry into it left them toward 0 and the demand; a
lost position sensor ramps the torque over TTQ (R366). -/
def Fn.refs (k : FnDesc) (x : Fn) (demand : Int) : Int × Int :=
  let c := x.c
  match x.st with
  | 2 => ((min (k.ir k.mo.ial) (k.ir k.mo.ial * x.timer * 4 / k.tal) : Nat), 0)
  | 3 => ((k.ir k.iramp : Nat), 0)
  | 7 => if k.sensorless then ((k.ir k.mo.ial : Nat), 0) else (0, c.rampOff k demand)
  | st =>
    if st = 4 ∨ st = 5 then
      if x.openLoop then (c.idFrom, 0)
      else
        let n : Int := c.blendN
        let t := min (c.blendT : Int) n
        let r : Int × Int := if c.blendN = 0 then (0, demand)
          else (c.idFrom * (n - t) / n, c.iqFrom + (demand - c.iqFrom) * t / n)
        (r.1, c.rampOff k r.2)
    else (0, 0)

/-- What a motor hands its loops within a share of its limits (R481, R484): i_d* and i_q*, or of DTC the flux and the torque
demand (R316). -/
def Fn.limitedRefs (k : FnDesc) (x : Fn) (demand : Int) (share : Nat → Nat) : Int × Int :=
  let r := x.refs k demand
  if k.mo.dtc then ((k.psi : Int), clampI (-(share k.mo.tmax : Int)) (share k.mo.tmax) r.2)
  else
    let lim : Int := share k.mo.imax
    (clampI (-lim) lim r.1, clampI (-lim) lim r.2)

/-! ### Duties (R181, R250, R482) -/

/-- The duties that svm gives an FOC loop; under FSW all shifted down by the smallest (R482). -/
def focDuties (fsw : Bool) (ts : List Nat) : List Nat := if fsw then ts.map fun t => t - ts.foldl min (2 ^ 31) else ts

/-- The compare words of a duty in the Whorl's timebase (R250). -/
def Dev.dutyImage (d : Dev) (n t : Nat) (w2 : Word) : List Word :=
  let j := d.fld (Reg.WHL_CTL n) 7 4
  let per := d.tbPer j
  if d.rbit (Reg.TB_CTL j) 1 then
    let c := wordOf (32 * per - shrR (t * (32 * per) : Nat) 31 true)
    pwmImage c c w2
  else pwmImage 0 (wordOf (shrR (t * (32 * (per + 1)) : Nat) 31 true)) w2

/-- The images of the duties that a current loop delivers in the sequencer's period, one duty to each phase; the legs of a
phase share it. -/
def Dev.putDuties (d : Dev) (e : FnEntry) (ts : List Nat) : Dev :=
  let ns := portsOf e
  if ts = [] then d
  else ns.zipIdx.foldl (fun d x => d.putWords e x.1 (d.dutyImage x.1 (ts.getD (x.2 * ts.length / ns.length) 0))) d

/-! ### The command curve (R333 to R335) -/

/-- The command x of a curve: the channel's code (10:3 divider, 3 V full scale), high time over period of a PWM record by
div, which sets DZ without a period (R146), or the word that a Bobbin wrote; none while its record or word cannot be
read. -/
def Dev.curveX (d : Dev) (e : FnEntry) (v : Curve) (code : Nat) : Dev × Option Int :=
  match v.source with
  | .volt => (d, some ((sat32 (code * 2 ^ 15)).1.toInt))
  | .pwm =>
    let r := d.fnLoad e v.addr.toNat 16
    match r.2.1 with
    | .done _ =>
      let w := fun i => (r.1.word (v.addr.toNat + 4 * i)).toNat
      if (w 3).testBit 3 && v.satZero then (r.1, some 0)
      else if w 1 = 0 then
        (match d.loopsOf e with
          | l :: _ => r.1.raiseLoopFlags l.1 l.2 fDZ
          | [] => r.1, some (2 ^ 31 - 1))
      else (r.1, some (sat32 (divTz (w 0 * 2 ^ 31) (w 1))).1.toInt)
    | _ => (r.1, none)
  | .bus =>
    let r := d.fnLoad e v.addr.toNat 4
    match r.2.1 with
    | .done _ => (r.1, some (r.1.word v.addr.toNat).toInt)
    | _ => (r.1, none)

/-- The command of a curve function: on or off by band2 on x, decided before lut; off means no RUN and demand 0 (R334). -/
def Dev.takeCurve (d : Dev) (f : Nat) (e : FnEntry) (k : FnDesc) (code : Nat) : Dev :=
  match k.mo.curve with
  | none => d
  | some v =>
    let r := d.curveX e v code
    r.1.modFn f fun x =>
      let cx := r.2.getD x.c.curveX
      let on := band2F x.c.curveOn (cx - (v.xOn + v.xOff) / 2) ((v.xOn - v.xOff) / 2)
      ({ x with spd := if on = 1 then (lutF cx v.xs v.ys).1 else 0 } : Fn).modC fun c =>
        { c with curveOn := on, curveX := cx, curveOff := decide (on ≠ 1) }

/-! ### Lost feedback (R364 to R366) -/

/-- Whether a check of the position sensor fails (R364): S^2 + C^2 of the last NFB resolver periods out of range; an encoder
or Hall set that stands still for NFB periods, or whose unit shows an error. -/
def Dev.posFails (d : Dev) (k : FnDesc) (x : Fn) (sums : List Nat) : Bool :=
  let still := decide (0 < k.mo.nfb) && decide (k.mo.nfb ≤ x.c.noMove)
  match k.mo.sensor with
  | .resolver =>
    decide (0 < k.mo.nfb) && decide (k.mo.nfb ≤ sums.length) &&
      ((sums.reverse.take k.mo.nfb).all fun v => decide (v < k.mo.rlo) || decide (k.mo.rhi < v))
  | .encoder => still || d.rbit (Reg.POS_ESTAT k.mo.unit) 2 || d.rbit (Reg.POS_ESTAT k.mo.unit) 3
  | .hall => still || d.rbit (Reg.POS_HSTAT k.mo.unit) 1 || d.rbit (Reg.POS_HSTAT k.mo.unit) 2
  | .observer | .absolute => false

/-- Whether every element of a list is the same. -/
def allSame (xs : List Nat) : Bool := xs.all fun v => decide (some v = xs.head?)

/-- Whether a check of a current slot fails (R364): its code identical for NFRZ periods in which the prediction moves by
more than its tolerance (a code, the predicted change, the tolerance), or its SEQ standing for NFB periods. -/
def slotFails (k : FnDesc) (codes : SlotCodes) (seqs : List Nat) : Bool :=
  let ys := codes.seen.reverse.take k.mo.nfrz
  (decide (0 < k.mo.nfrz) && decide (k.mo.nfrz ≤ codes.seen.length) && allSame (ys.map Prod.fst) &&
      ys.all fun y => decide (y.2.2 < y.2.1)) ||
    (decide (0 < k.mo.nfb) && decide (k.mo.nfb < seqs.length) && allSame (seqs.reverse.take (k.mo.nfb + 1)))

/-- The slots that the library replaces by their predictions in a function's current loop (R365); TSUB is raised with
them. -/
def Dev.libSubst (d : Dev) (e : FnEntry) (js : List Nat) : Dev :=
  match (d.loopsOf e).getLast? with
  | some l => (d.modLp l.1 l.2 fun x => { x with libSub := js }).raiseLoopFlags l.1 l.2 (if js = [] then 0 else fTSUB)
  | none => d

/-- A current sensor is lost (R366): the safe state at once, by the branch of R360. -/
def Dev.currentLost (d : Dev) (f : Nat) (k : FnDesc) (vbus : Int) : Dev := d.fnFaultAt f 5 (branchOf k (d.fn f) vbus)

/-- A period of a lost position sensor (R366): with a valid observer it becomes the primary and FBK is set; else the
torque ramps to 0 over TTQ, the legs go off and the function is FAULTED. -/
def Dev.positionLost (d : Dev) (f : Nat) (k : FnDesc) : Dev :=
  match (d.fn f).c.posRamp with
  | none =>
    if (d.fn f).c.valid then
      d.modFn f fun x => (x.setFlag 16 true).modC fun c => { c with posLost := false, notice := true }
    else d.modCtr f fun c => { c with posRamp := some 0 }
  | some n => if k.mo.ttq ≤ n + 1 then d.fnFaultAt f 4 0 else d.modCtr f fun c => { c with posRamp := some (n + 1) }

/-- The substitution of a current slot in a period (R365): it ends with a result of the spare in that slot, or goes on. -/
def Dev.substitution (d : Dev) (f : Nat) (e : FnEntry) (o : SeqObs) : Dev :=
  match (d.fn f).c.sub with
  | none => d.libSubst e []
  | some x =>
    if x.1 ∈ o.sprs then (d.libSubst e []).modCtr f fun c => { c with sub := none }
    else (d.libSubst e [x.1]).modCtr f fun c => { c with sub := some (x.1, x.2 + max 1 o.execs.length) }

/-- A current slot has been substituted for TFBQ periods without a spare's result. -/
def slotLostOf (k : FnDesc) (x : Fn) : Bool := x.c.sub.any fun y => decide (k.mo.tfbq ≤ y.2)

/-- Whether a bus overvoltage tripped a Whorl of the function (R353, R271 lines 72 to 75). -/
def Dev.busTripped (d : Dev) (e : FnEntry) : Bool :=
  (portsOf e).any fun n => d.rbit (Reg.WHL_STAT n) 1 && decide (72 ≤ d.fld (Reg.WHL_STAT n) 30 24) &&
    decide (d.fld (Reg.WHL_STAT n) 30 24 ≤ 75)

/-- Whether a condition of rank 1 to 4 stands, before which a locked rotor yields (R369). -/
def Dev.outranked (d : Dev) (f : Nat) (e : FnEntry) (k : FnDesc) : Bool :=
  let x := d.fn f
  d.rbit Reg.DST_FSAFE f || d.rbit Reg.DST_FRET f || slotLostOf k x || d.busTripped e || x.c.lossDue

/-! ### Events of the motor sequencer -/

/-- The machine's measured back-EMF over `parts` times 0.5 ms (R345, R361): the first part discarded, obs.pll over the rest
from rest, the amplitude the mean of |e| over the last part; the last angle and speed. -/
def catchTrack (k : FnDesc) (parts : Nat) (es : List (Int × Int)) : PllOut × Int × Nat :=
  let tail := es.drop (es.length / parts)
  let p := tail.foldl (fun p e => pllF p.theta.toNat e.1 e.2 p.ad.toInt k.mo.kp k.mo.ki k.mo.kw)
    { theta := 0, omega := 0, ad := 0, vsat := false, asat := false }
  let last := tail.drop (tail.length - tail.length / (parts - 1))
  let sum := (last.map fun e => isqrt (e.1 * e.1 + e.2 * e.2).toNat).foldl (· + ·) 0
  (p, p.omega.toInt, sum / last.length)

/-- The speed of the back-EMF, 0 below VEMIN (R345). -/
def emfSpeed (k : FnDesc) (parts : Nat) (es : List (Int × Int)) : Int :=
  let t := catchTrack k parts es
  if t.2.2 < k.vemin then 0 else t.2.1

/-- Whether a position primary passes its checks in CATCH (R345, R364, R366, R367): a resolver's amplitude and residual, an
encoder or Hall set without an error, an illegal state or a lost record. -/
def Dev.primOk (d : Dev) (k : FnDesc) (p : PrimObs) : Bool :=
  match k.mo.sensor with
  | .resolver => decide (k.mo.rlo ≤ p.sum) && decide (p.sum ≤ k.mo.rhi) && decide (p.residual ≤ k.mo.rb)
  | .encoder => !d.rbit (Reg.POS_ESTAT k.mo.unit) 2 && !d.rbit (Reg.POS_ESTAT k.mo.unit) 3
  | .hall => !d.rbit (Reg.POS_HSTAT k.mo.unit) 1 && !d.rbit (Reg.POS_HSTAT k.mo.unit) 2
  | .absolute => true
  | .observer => false

/-- The speed of a position primary that has passed its checks. -/
def Dev.primSpeed (d : Dev) (k : FnDesc) (prim : Option PrimObs) : Option Int :=
  match prim with
  | some p => if d.primOk k p then some p.speed else none
  | none => none

/-- The speed that the catch gives: of a position primary once it has passed its checks, else of the back-EMF (R345). -/
def catchSpeed (k : FnDesc) (es : List (Int × Int)) (prim : Option Int) : Int := prim.getD (emfSpeed k 4 es)

/-- To synchronise (R348, R362): the observer's seeds, with its current estimate at 0, the integrators' preloads, the demand
at the measured speed, i_q* from 0 over TTQ. -/
def Fn.synchronise (k : FnDesc) (x : Fn) (theta : Word) (w : Int) (e : Int × Int) : Fn :=
  let r := parkF e.1 e.2 theta.toNat
  { x with dem := w }.modC fun c =>
    { c with theta := theta, seedW := w, seedD := r.1.toInt, seedQ := r.2.1.toInt, emfA := e.1, emfB := e.2,
             idFrom := 0, iqFrom := 0, blendN := k.mo.ttq, blendT := 0, fluxA := if k.mo.dtc then divTz (e.2 * 2 ^ 31) w else c.fluxA,
             fluxB := if k.mo.dtc then divTz (-e.1 * 2 ^ 31) w else c.fluxB }

/-- The measurement is over: 2 ms, or a primary that passed its checks (R345). -/
def catchDone (k : FnDesc) (x : Fn) (prim : Option Int) : Bool := decide (k.per 2000 ≤ x.timer) || prim.isSome

/-- The end of the catch measurement (R346 to R348): a line voltage at 0.9 V_bus takes the recatch path. An encoder without
a known angle brakes and aligns before its first CLOSED, at whatever speed (R368; DESIGN CHOICE of BRAKE,
notes/assumptions/90.md). -/
def Dev.catchEnd (d : Dev) (f : Nat) (es : List (Int × Int)) (obs : Option PrimObs) (vline : Nat) (vbus : Int) : Dev :=
  d.withDesc f fun _ k =>
    let x := d.fn f
    let prim := d.primSpeed k obs
    let v := catchSpeed k es prim
    if k.kind = .motor ∧ x.st = 1 ∧ !x.recatch then
      if 9 * vbus ≤ 10 * (vline : Int) then (d.startRecatch f (if k.ascCapable then 1 else 0)).recatch f
      else if catchDone k x prim then
        let th := (catchTrack k 4 es).1.theta
        let e := es.getLastD (0, 0)
        let d1 := d.modFn f fun x => x.setFlag 16 (x.flag 16 && prim.isNone)
        if v.natAbs < k.wr k.nzero then d1.fromRest f k
        else if v.natAbs < k.wr k.ncatch ∨ (needsAlign k x ∧ !k.sensorless) then (d1.fnLegs f 1).fnGo f 6
        else if x.opposes v then (d1.fnGo f 5).modFn f fun x => x.synchronise k th v e
        else (d1.fnClose f).modFn f fun x => x.synchronise k th v e
      else d
    else d

/-- BRAKE ends (R349): on low speed the legs go off for 1 ms; on TBRK the start has failed. -/
def Dev.brakeEnd (d : Dev) (f : Nat) (speed : Int) : Dev :=
  d.withDesc f fun _ k =>
    let x := d.fn f
    if x.st = 6 ∧ x.c.brkOff = 0 then
      if speed.natAbs < k.wr k.nzero then (d.fnLegs f 0).modCtr f fun c => { c with brkOff := max 1 (k.per 1000) }
      else if k.tbrk ≤ x.timer then d.fnStartFail f 1 k
      else d
    else d

/-- TAL ends (R350, R368). -/
def Dev.alignEnd (d : Dev) (f : Nat) : Dev :=
  d.withDesc f fun _ k =>
    let x := d.fn f
    if x.st = 2 ∧ k.tal ≤ x.timer then
      if k.sensorless then (d.fnGo f 3).modFn f fun x => { x with wi := 0 }
      else (d.fnClose f).modFn f fun x =>
        { x with aligned := true }.modC fun c => { c with theta := k.mo.thal, encOff := k.mo.thal }
    else d

/-- Handover (R351, R354): CLOSED, with the ramp current as it stands in the observer's frame, whose angle the imposed one
leads, blended over THO. -/
def Dev.handover (d : Dev) (f : Nat) (lead : Word) : Dev :=
  d.withDesc f fun _ k =>
    let x := d.fn f
    if (decide (x.st = 3) || (decide (x.st = 5) && x.openLoop && x.run)) && decide (k.kind = .motor) && handsOver k x &&
        decide (k.nhop ≤ x.c.hoN) then
      let i := if x.openLoop then x.c.idFrom else ((k.ir k.iramp : Nat) : Int)
      let r := iparkF i 0 lead.toNat
      (d.fnClose f).modCtr f fun c => { c with idFrom := r.1.toInt, iqFrom := r.2.1.toInt, blendN := k.mo.tho, blendT := 0 }
    else d

/-- A start fails in RAMP (R352). -/
def Dev.startFailure (d : Dev) (f : Nat) : Dev :=
  d.withDesc f fun _ k =>
    if k.kind = .motor ∧ (d.fn f).st = 3 ∧ (d.fn f).atNho k ∧ k.thof ≤ (d.fn f).c.nhoN then d.fnStartFail f 1 k else d

/-- A stop ends (R355): the speed has been below NSTOP for TSTOP and is, or the imposed speed stands at 0. -/
def Dev.stopEnd (d : Dev) (f : Nat) (speed : Int) : Dev :=
  d.withDesc f fun _ k =>
    let x := d.fn f
    if k.kind = .motor ∧ x.st = 5 ∧ !x.run ∧ (if x.openLoop then x.wi = 0 else speed.natAbs < k.wr k.nstop ∧ k.tstop ≤ x.c.stopN) then
      if x.hold then (d.fnGo f 7).modFn f fun x => { x with openLoop := false, dem := 0 }
      else d.fnIdle f x.cause
    else d

/-- The observer of a sensorless machine is invalid below NOL (R357, R358). -/
def lowInvalid (k : FnDesc) (x : Fn) (speed : Int) : Bool :=
  k.sensorless && !x.c.valid && decide (speed.natAbs < k.wr k.nol)

/-- A locked rotor (R357), or a re-entry into RAMP under light demand (R358); it yields to what ranks higher (R369). -/
def Dev.lockedRotor (d : Dev) (f : Nat) (speed : Int) : Dev :=
  d.withDesc f fun e k =>
    let x := d.fn f
    let heavy := decide (k.tqlk < x.tq.natAbs)
    if k.kind = .motor ∧ x.st = 4 ∧ !d.outranked f e k then
      if (heavy && lowInvalid k x speed) || decide (k.tlock ≤ x.c.stillN ∧ 0 < x.c.stillN) then
        if k.lkact then d.fnStartFail f 2 k else d.fnFaultAt f 2 0
      else if lowInvalid k x speed then (d.fnGo f 3).modFn f fun x => { x with wi := speed }
      else d
    else d

/-- The rotor is lost (R359, R360): the current loop's executions, and its images. -/
def Dev.rotorLoss (d : Dev) (f : Nat) (xs : List (Int × Int)) (vbus : Int) : Dev :=
  d.withDesc f fun _ k => d.noteExecs f k xs vbus

/-- The speed from the rotation of a vector's angle over 1 ms, as a share of w_b (R361). -/
def rotationSpeed (k : FnDesc) (a b : Word) : Int := (b - a).toInt * 500000 / k.mo.fbase

/-- The angle and speed of the current vectors of 1 ms in a short circuit (R361). -/
def ascAngle (k : FnDesc) (is : List (Int × Int)) : Word × Int :=
  let a := Config.arg (is.headD (0, 0)).1 (is.headD (0, 0)).2
  let b := Config.arg (is.getLastD (0, 0)).1 (is.getLastD (0, 0)).2
  let w := rotationSpeed k a b
  let z := Config.arg (w.natAbs * k.mo.lq / 2 ^ 31 : Nat) k.mo.rs
  (b + 0x80000000 - (if w < 0 then 0 - z else z), w)

/-- The angle is recovered (R361, R362): after TASC and 1 ms of the short-circuit current, or after 1.5 ms with the
legs off; the function synchronises and enters CLOSED. -/
def Dev.rotorRecovery (d : Dev) (f : Nat) (vecs : List (Int × Int)) : Dev :=
  d.withDesc f fun _ k =>
    let x := d.fn f
    if x.st = 1 ∧ x.recatch ∧ vecs ≠ [] then
      if x.c.asc then
        if k.mo.tasc + k.per 1000 ≤ x.timer then
          let r := ascAngle k vecs
          let i := parkF (vecs.getLastD (0, 0)).1 (vecs.getLastD (0, 0)).2 r.1.toNat
          (d.fnClose f).modFn f fun x => (x.synchronise k r.1 r.2 (0, 0)).modC fun c =>
            { c with idFrom := i.1.toInt, iqFrom := i.2.1.toInt }
        else d
      else if k.per 1500 ≤ x.timer then
        (d.fnClose f).modFn f fun x =>
          x.synchronise k (catchTrack k 3 vecs).1.theta (emfSpeed k 3 vecs) (vecs.getLastD (0, 0))
      else d
    else d

/-- No valid observer within 20 ms of the detection (R363). -/
def Dev.recatchTimeout (d : Dev) (f : Nat) : Dev :=
  d.withDesc f fun _ k =>
    let x := d.fn f
    if x.st = 1 ∧ x.recatch ∧ k.per 20000 ≤ x.c.recN then d.fnFault f 3 else d

/-- A feedback check fails (R364 to R366): a lost position sensor is acted on at the next sequencer period; a current
slot is replaced by its prediction, and is lost when that has lasted TFBQ periods. -/
def Dev.feedbackLoss (d : Dev) (f : Nat) (sums : List Nat) (codes : SlotCodes) (seqs : List Nat) (vbus : Int) : Dev :=
  d.withDesc f fun e k =>
    let x := d.fn f
    if x.quiet then d
    else if slotLostOf k x then d.currentLost f k vbus
    else if d.posFails k x sums && !x.flag 16 then d.modCtr f fun c => { c with posLost := true }
    else if slotFails k codes seqs && x.c.sub.isNone then
      (d.libSubst e [codes.slot]).modCtr f fun c => { c with sub := some (codes.slot, 0) }
    else d

end Sys2Proof.Machine
end

