-- ==== Sys2Proof/Machine/Power.lean ====
section
/-! DEFINITION. The converter functions: grid, DAB, phase-shifted bridge and charging through the pilot (R370 to R395);
and the actuators (R396 to R402). -/

namespace Sys2Proof.Machine

/-! ### The grid (R372 to R376) -/

/-- A phase amplitude within the window (R374). -/
def inWindow (k : FnDesc) (p : Nat) : Bool :=
  decide (k.vglo * k.vgn ≤ p * 2 ^ 31) && decide (p * 2 ^ 31 ≤ k.vghi * k.vgn)

/-- The grid within its window: amplitude, frequency and LOCK (R374). -/
def gridWithin (k : FnDesc) (x : Fn) (g : GridObs) : Bool :=
  inWindow k g.amp.toNat && decide (k.cv.flo ≤ g.freq ∧ g.freq ≤ k.cv.fhi) && x.flag 24

/-- The periods out of the window and within it; GRID mirrors the window. -/
def Fn.noteGrid (k : FnDesc) (x : Fn) (g : GridObs) : Fn :=
  let q := gridWithin k x g
  (x.setFlag 25 q).modC fun c => { c with outN := if q then 0 else c.outN + 1, inN := if q then c.inN + 1 else 0 }

/-- Whether a grid function runs single-phase: by its description or as detected (R372). -/
def Fn.single (k : FnDesc) (x : Fn) : Bool := k.cv.single || decide (x.topo = some true)

/-- The DC link stands at 0.9 times the rectified peak or above: VGN for single-phase, else sqrt 3 times VGN (R375). -/
def linkCharged (k : FnDesc) (x : Fn) (vbus : Int) : Bool :=
  decide (0 ≤ vbus) &&
    (if x.single k then decide (9 * (k.vgn : Int) ≤ 10 * vbus)
     else decide (243 * (k.vgn : Int) * k.vgn ≤ 100 * vbus * vbus))

/-- The DC-link loop (R380): kp and integ (R311) on the error of the squared voltage give a power; the measured amplitude
makes a current of it (P = 3/2 u i of three phases, 1/2 u i of one; PRESUMED, notes/assumptions/81.md), clamped to the
limits of each direction (R377). -/
def linkLoop (k : FnDesc) (x : Fn) (g : GridObs) (vbus : Int) (draw give : Nat) : Int × Int :=
  let e := (sat32 ((x.dem * x.dem - vbus * vbus) / 2 ^ 31)).1.toInt
  let i := integF e x.c.acc k.cv.ki k.cv.lo k.cv.hi
  let p := pK k.cv.kp e + i.vd.toInt
  let cur := if 0 < g.amp then divTz (p * 2 ^ 32) (g.amp * if x.single k then 1 else 3)
    else if 0 < p then (draw : Int) else if p < 0 then -(give : Int) else 0
  (i.ad.toInt, clampI (-(give : Int)) draw cur)

/-! ### Single-phase legs (R379) -/

/-- What N does at an angle: low side on, high side on, or off within ZCW of a zero crossing. -/
def neutralLeg (k : FnDesc) (theta : Word) : Nat :=
  let t := theta.toNat
  let z := k.cv.zcw
  if z ≤ t ∧ t ≤ 2 ^ 31 - z then 1 else if 2 ^ 31 + z ≤ t ∧ t ≤ 2 ^ 32 - z then 2 else 0

/-- The images of a single-phase period: N by the angle, P1 off with it and else as its current loop computed, P2 and P3
off. The ports of the function, in order, are P1, P2, P3 and N. -/
def Dev.singlePhase (d : Dev) (e : FnEntry) (k : FnDesc) (g : GridObs) : Dev :=
  let n := neutralLeg k g.theta
  match portsOf e with
  | p1 :: p2 :: p3 :: nn :: _ =>
    let d1 := if n = 0 then d.putImage e 0 p1 else d.putWords e p1 (pwmImage g.cmpA g.cmpB)
    ((d1.putImage e 0 p2).putImage e 0 p3).putImage e n nn
  | _ => d

/-! ### Square-wave legs (R381 to R386) -/

/-- The compare words of a square-wave leg shifted by s (R381). -/
def squareImage (per : Nat) (s : Int) (w2 : Word) : List Word :=
  pwmImage (wordOf (16 * per + s)) (wordOf (16 * per - s)) w2

/-- The shift of no power: a DAB's 0, and a bridge's with no effective duty (R383, R385). -/
def idleShift (k : FnDesc) : Int := if k.cv.dab then 0 else -(16 * k.cv.per : Nat)

/-- The shift of a period (R383, R385): a DAB's within PHMAX and DSTEP of the last, a bridge's within a quarter turn, both
within the share of the power limit that is left (R481, R484; DESIGN CHOICE, notes/assumptions/91.md). -/
def nextShift (k : FnDesc) (share : Nat → Nat) (last want : Int) : Int :=
  let all := 16 * k.cv.per
  if k.cv.dab then
    let lim : Int := share (min all (k.cv.phmax * (64 * k.cv.per) / 2 ^ 32))
    toward last (clampI (-lim) lim want) k.cv.dstep
  else clampI (-all) (-all + share (2 * all)) want

/-- Whether the leg at a place among the function's ports of its kind carries the shift: legs c and d of each DAB
cell, the lagging half of a bridge and of its rectifier. -/
def carriesShift (dab : Bool) (i n : Nat) : Bool := if dab then decide (2 ≤ i % 4) else decide (n ≤ 2 * i)

/-- The images of a square-wave converter: the HV legs, and the LV legs of a rectifier that switches, whose RED and FED are
SRON and SROFF (R386). -/
def Dev.squareWave (d : Dev) (e : FnEntry) (k : FnDesc) (rectOff : Bool) (s : Int) : Dev :=
  let put := fun (d : Dev) (ns : List Nat) (w2 : Word → Word) => ns.zipIdx.foldl (fun d x =>
    d.putWords e x.1 fun w => squareImage k.cv.per (if carriesShift k.cv.dab x.2 ns.length then s else 0) (w2 w)) d
  let hv := put d ((portsOf e).filter fun n => decide (n < 32)) id
  if rectOff then hv else put hv ((portsOf e).filter fun n => decide (32 ≤ n)) fun _ => k.cv.sroff ++ k.cv.sron

/-! ### The pilot (R388 to R393) -/

/-- The pilot voltage in millivolts of its land's (R388). -/
def pilotMv (mv : Int) : Int := 9 * (mv - 1500)

/-- The mean of the samples of a level, more than 10 us after its last edge (R389). -/
def cpLevel (xs : List CpSample) (high : Bool) : Option Int :=
  let ys := xs.filter fun s => decide (s.high = high) && decide (10000 < s.since)
  if ys = [] then none else some (pilotMv ((ys.map fun s => s.mv).foldl (· + ·) 0 / ys.length))

/-- The window of a high level (R390). -/
def pilotWindow (v : Int) : Pilot :=
  if 11000 ≤ v ∧ v ≤ 13000 then .a
  else if 8000 ≤ v ∧ v ≤ 10000 then .b
  else if 5000 ≤ v ∧ v ≤ 7000 then .c
  else if -1000 ≤ v ∧ v ≤ 1000 then .e
  else .bad

/-- The pilot's state (R390): a missing diode shows while it oscillates; a constant level below -11 V is F. -/
def classify (oscillates : Bool) (high low : Option Int) : Pilot :=
  match high with
  | some v => if oscillates && low.any (fun l => decide (-11000 < l)) then .bad else pilotWindow v
  | none => if low.any fun l => decide (l < -11000) then .f else .bad

/-- The pilot's limit in milliamperes for a duty of h of p ticks, and whether it asks for high-level communication,
when the command's set-point is the limit (R391); 0 is no charging. -/
def pilotLimit (h p setMa : Nat) : Nat × Bool :=
  let d := 100 * h
  if 3 * p ≤ d ∧ d ≤ 7 * p then (setMa, true)
  else if 8 * p ≤ d ∧ d < 10 * p then (6000, false)
  else if 10 * p ≤ d ∧ d ≤ 85 * p then (60000 * h / p, false)
  else if 85 * p < d ∧ d ≤ 96 * p then ((d - 64 * p) * 2500 / p, false)
  else if 96 * p < d ∧ d ≤ 97 * p then (80000, false)
  else (0, false)

/-- The cable's rating in milliamperes by R_PP = R_PU V_PP / (V_PU - V_PP); 0 refuses charging (R393). -/
def cableLimit (rpu vpp vpu : Nat) : Nat :=
  let a := rpu * vpp
  let b := vpu - vpp
  if b = 0 then 0
  else if 1000 * b ≤ a ∧ a ≤ 2200 * b then 13000
  else if 470 * b ≤ a ∧ a < 1000 * b then 20000
  else if 160 * b ≤ a ∧ a < 470 * b then 32000
  else if 50 * b ≤ a ∧ a < 160 * b then 63000
  else 0

/-- The pilot's record, as the capture unit wrote it (R389): high time and period, none where it is saturated. -/
def Dev.pilotRecord (d : Dev) (e : FnEntry) : Dev × Option (Nat × Nat) :=
  let a := d.fld Reg.CPC_ADDR 23 4 * 16
  let r := d.fnLoad e a 16
  match r.2.1 with
  | .done _ =>
    let w := fun i => (r.1.word (a + 4 * i)).toNat
    (r.1, if (w 3).testBit 3 ∨ w 1 = 0 then none else some (w 0, w 1))
  | _ => (r.1, none)

/-- The charging limit that a period aims at, in milliamperes: the smallest of pilot, cable and command (R392). -/
def limitGoal (k : FnDesc) (duty : Option (Nat × Nat)) (o : ChargeObs) : Nat :=
  match duty with
  | none => 0
  | some x => min (min (pilotLimit x.1 x.2 o.setMa).1 (cableLimit k.ch.rpu o.vpp o.vpu)) o.setMa

/-- The limit moves: at ARMPV's rate, and so that a new goal is reached within 1 s; to zero within 10 ms in DECEL. -/
def FnCtr.moveLimit (k : FnDesc) (c : FnCtr) (goal within : Nat) : FnCtr :=
  let step := if goal = c.limGoal then c.limStep
    else
      let n := max 1 (k.per within)
      max (k.step (k.armpv * k.ch.ibase / 2 ^ 31)) (((goal : Int) - c.lim).natAbs / n + 1)
  { c with limGoal := goal, limStep := step, lim := (toward c.lim goal step).toNat }

/-- The pilot, the cable and the limit of a period. -/
def Dev.notePilot (d : Dev) (f : Nat) (e : FnEntry) (k : FnDesc) (o : ChargeObs) : Dev :=
  let r := d.pilotRecord e
  r.1.modFn f fun x =>
    let low := cpLevel o.cp false
    let p := classify (r.2.isSome && low.isSome) (cpLevel o.cp true) low
    let goal := if x.st = 5 then 0 else limitGoal k r.2 o
    (x.setFlag 27 (r.2.any fun y => (pilotLimit y.1 y.2 0).2)).modC fun c =>
      { c with pilot := p, pilotBad := if p = Pilot.b ∨ p = Pilot.c then 0 else c.pilotBad + 1, duty := r.2 }.moveLimit k goal
        (if x.st = 5 then 10000 else 1000000)

/-! ### The charge gate (R394) -/

/-- The battery temperature in use: of a lane channel, the previous one where SET = 1; of a word in the Skein, with the
periods since its count advanced. -/
def Dev.noteBattery (d : Dev) (f : Nat) (e : FnEntry) (k : FnDesc) (o : ChargeObs) : Dev :=
  let within := fun (c : FnCtr) (t : Int) =>
    { c with battT := t, battIn := if c.battIn then decide (k.ch.tblo ≤ t ∧ t ≤ k.ch.tbhi)
      else decide (k.ch.tblo + k.ch.tbhys ≤ t ∧ t ≤ k.ch.tbhi - k.ch.tbhys) }
  match k.ch.battAddr with
  | none => d.modCtr f fun c => within c (o.batt.getD c.battT)
  | some a =>
    let r := d.fnLoad e a.toNat 4
    match r.2.1 with
    | .done _ =>
      let w := r.1.word a.toNat
      r.1.modCtr f fun c =>
        within { c with battCnt := bitsOf w 31 16, battN := if bitsOf w 31 16 = c.battCnt then c.battN + 1 else 0 }
          (signed 16 (bitsOf w 15 0))
    | _ => r.1.modCtr f fun c => { c with battN := c.battN + 1 }

/-- The charge gate (R394): the junction between the cold-inhibit and the warning level, the battery in its window and its
temperature fresh. -/
def Dev.chargeGate (d : Dev) (k : FnDesc) (x : Fn) : Bool :=
  !d.rbit Reg.THM_STAT 1 && !d.rbit Reg.THM_STAT 2 && x.c.battIn && decide (x.c.battN < k.per 2000000)

/-! ### What a converter does in a period (R375, R376, R392, R395) -/

/-- Whether charging is refused: no cable, or no current (R391, R393). -/
def chargeRefused (k : FnDesc) (x : Fn) (o : ChargeObs) : Bool :=
  k.land.isSome && decide (limitGoal k x.c.duty o = 0)

/-- The converter's reference: a bridge's is negative when it discharges (R370). -/
def convGoal (k : FnDesc) (x : Fn) : Int := if k.kind = .bridge ∧ x.rev then -x.spd.toInt else x.spd.toInt

/-- The periods of the ramp in DECEL: 10 ms (R392, R395; of another stop a DESIGN CHOICE, notes/assumptions/91.md). -/
def decPeriods (k : FnDesc) : Nat := max 1 (k.per 10000)

/-- DECEL: the state resistor to B, the current of a grid function or the shift of a bridge ramps to zero power from where
it stands; the CAUSE that waits for its end (R371, R392, R395). -/
def Dev.convDecel (d : Dev) (f : Nat) (e : FnEntry) (k : FnDesc) (cause : Nat) : Dev :=
  ((d.setResistor f e k false).fnGo f 5).modFn f fun x => ({ x with decCause := cause } : Fn).modC fun c =>
    { c with idFrom := if k.kind = .grid then c.idRef else c.shift, limGoal := 0, limStep := c.lim / decPeriods k + 1 }

/-- What is left of a value after the periods of DECEL so far. -/
def Fn.decLeft (k : FnDesc) (x : Fn) (v : Int) : Int :=
  v * ((decPeriods k : Int) - min x.timer (decPeriods k)) / decPeriods k

def Dev.convPeriod (d : Dev) (f : Nat) (e : FnEntry) (k : FnDesc) (cstop : Bool) (o : SeqObs) : Dev :=
  let x := d.fn f
  let gate := !k.charging || d.chargeGate k x
  match x.st with
  | 0 =>
    let back := x.cause = 0xB ∨ x.cause = 0xC
    if x.run && !gate then d.modFn f fun x => { x with cause := 0xB }
    else if x.run && d.mayLeave cstop && !(k.charging && chargeRefused k x o.c) &&
        !(decide back && k.land.isSome && decide (x.c.pilot ≠ Pilot.c)) then
      if k.kind = .grid ∨ back then
        (((d.fnEndHolds f).fnLegs f 0).fnGo f 1).modFn f fun x => { x with cause := 0, topo := none }
      else ((d.fnEndHolds f).fnGo f 3).modFn f fun x => { x with cause := 0, dem := o.speed }
    else d
  | 1 =>
    if !x.run then d.fnIdle f x.cause
    else if k.kind ≠ .grid then (d.fnGo f 3).modFn f fun x => { x with dem := o.speed }
    else if x.flag 24 && x.flag 25 && linkCharged k x o.vbus && !x.resync && (x.topo.isSome || !k.bothTopologies) then
      (d.fnGo f 3).modFn f fun x => ({ x with cause := 0, dem := o.vbus } : Fn).modC fun c => { c with acc := 0 }
    else d
  | 3 =>
    if !x.run then d.convDecel f e k x.cause
    else
      let dem := toward x.dem (convGoal k x) (k.step k.armpv)
      let d1 := d.modFn f fun x => { x with dem := dem }
      if dem = convGoal k x then d1.fnClose f else d1
  | 4 =>
    if !x.run then d.convDecel f e k x.cause
    else (d.setResistor f e k (k.charging && gate)).modFn f fun x => { x with dem := convGoal k x }
  | 5 => if o.demand = 0 ∨ decPeriods k ≤ x.timer then d.fnIdle f x.decCause else d
  | _ => d

/-- What a converter's loops commit in a period: the DC-link loop's current, the single-phase legs, the square waves; in
DECEL the ramp to zero power. -/
def Dev.convOutputs (d : Dev) (f : Nat) (e : FnEntry) (k : FnDesc) (share : Nat → Nat) (o : SeqObs) : Dev :=
  let x := d.fn f
  if x.st = 3 ∨ x.st = 4 ∨ x.st = 5 then
    match k.kind with
    | .grid =>
      let cable := if k.charging && k.land.isSome then x.c.lim * 2 ^ 31 / k.ch.ibase else k.cv.idmax
      let draw := share (min k.cv.idmax cable)
      let give := share k.cv.irmax
      let r := if x.st = 5 then (x.c.acc, clampI (-(give : Int)) draw (x.decLeft k x.c.idFrom))
        else linkLoop k x o.g o.vbus draw give
      let d1 := d.modCtr f fun c => { c with acc := r.1, idRef := r.2, iqRef := k.cv.qref }
      if x.single k then d1.singlePhase e k o.g else d1
    | _ =>
      let off := idleShift k
      let s := nextShift k share x.c.shift (if x.st = 5 then off + x.decLeft k (x.c.idFrom - off) else o.g.shift)
      (d.modCtr f fun c => { c with shift := s }).squareWave e k x.rectOff s
  else d.modCtr f fun c => { c with idRef := 0, iqRef := 0 }

/-! ### Events of the converters -/

/-- The topology (R372), by the line voltages of 40 ms; no valid pattern leaves the function in CATCH. -/
def Dev.topologyDetect (d : Dev) (f p1 p2 p3 : Nat) : Dev :=
  d.withDesc f fun _ k =>
    if k.kind = .grid ∧ (d.fn f).st = 1 ∧ k.bothTopologies ∧ k.per 40000 ≤ (d.fn f).timer then
      if inWindow k p1 && inWindow k p2 && inWindow k p3 then d.modFn f fun x => { x with topo := some false }
      else if inWindow k p1 && decide (10 * p2 < k.vgn) && decide (10 * p3 < k.vgn) then
        d.modFn f fun x => { x with topo := some true }
      else d
    else d

/-- A period of the grid PLL qualifies: the phase error within 0.02, f from FLO to FHI (R373). -/
def locks (k : FnDesc) (x : Int × Int) : Bool :=
  decide (50 * x.1.natAbs ≤ 2 ^ 31) && decide (k.cv.flo ≤ x.2 ∧ x.2 ≤ k.cv.fhi)

/-- LOCK (R373): set after NLOCK qualifying periods, cleared after NLOCK others; without it the grid is not within its
window (R374). -/
def Dev.gridLock (d : Dev) (f : Nat) (xs : List (Int × Int)) : Dev :=
  d.withDesc f fun _ k =>
    let ys := xs.reverse.take k.nlock
    if k.kind = .grid ∧ ys ≠ [] ∧ k.nlock ≤ xs.length then
      if ys.all (locks k) then d.modFn f fun x => x.setFlag 24 true
      else if ys.all fun y => !locks k y then d.modFn f fun x => (x.setFlag 24 false).setFlag 25 false
      else d
    else d

/-- TPRE passes in CATCH (R372, R375). -/
def Dev.prechargeTimeout (d : Dev) (f : Nat) : Dev :=
  d.withDesc f fun _ k =>
    let x := d.fn f
    if k.kind = .grid ∧ x.st = 1 ∧ !x.resync ∧ k.tpre ≤ x.timer then
      d.fnFault f (if k.bothTopologies && x.topo.isNone then 8 else if x.flag 24 then 0xA else 9)
    else d

/-- The grid is out of its window for TGRID (R376). -/
def Dev.gridLoss (d : Dev) (f : Nat) : Dev :=
  d.withDesc f fun _ k =>
    let x := d.fn f
    if k.kind = .grid ∧ (x.st = 3 ∨ x.st = 4) ∧ 0 < x.c.outN ∧ k.cv.tgrid ≤ x.c.outN then
      (((d.resistorB f).fnLegs f 0).fnGo f 1).modFn f fun x => { x with cause := 8, resync := true, topo := none }
    else d

/-- The grid has stayed within its window for TRESYNC (R376). -/
def Dev.gridResync (d : Dev) (f : Nat) : Dev :=
  d.withDesc f fun _ k =>
    let x := d.fn f
    if x.st = 1 ∧ x.resync ∧ 0 < x.c.inN ∧ k.cv.tresync ≤ x.c.inN then
      d.modFn f fun x => { x with resync := false, timer := 0 }
    else d

/-- The synchronous rectifier stops or resumes (R386): its legs are the function's LV ports. -/
def Dev.rectifier (d : Dev) (f : Nat) (current : Int) : Dev :=
  d.withDesc f fun e k =>
    if k.kind = .bridge then
      if current < k.isrlo then
        ((portsOf e).foldl (fun d n => if 32 ≤ n then d.putImage e 0 n else d) d).modFn f fun x => { x with rectOff := true }
      else if k.isrhi < current then d.modFn f fun x => { x with rectOff := false }
      else d
    else d

/-- Charging ramps down to IDLE with a CAUSE (R392, R395); TEMP is reported where both come. -/
def Dev.chargeStop (d : Dev) (f cause : Nat) : Dev :=
  d.withDesc f fun e k =>
    let x := d.fn f
    if x.st = 3 ∨ x.st = 4 then d.convDecel f e k cause
    else if x.st = 5 then d.modFn f fun x => { x with decCause := if cause = 0xB then 0xB else x.decCause }
    else d

/-- The pilot has been out of B and C for 3 pilot periods of 1 ms (R392; PRESUMED, notes/assumptions/81.md). -/
def Dev.pilotLoss (d : Dev) (f : Nat) : Dev :=
  d.withDesc f fun _ k =>
    if k.charging ∧ 0 < (d.fn f).c.pilotBad ∧ k.per 3000 ≤ (d.fn f).c.pilotBad then d.chargeStop f 0xC else d

/-- The gate is closed (R395). -/
def Dev.gateClose (d : Dev) (f : Nat) : Dev :=
  d.withDesc f fun _ k => if k.charging ∧ !d.chargeGate k (d.fn f) then d.chargeStop f 0xB else d

/-! ### The actuators (R396 to R402) -/

/-- The permit for a direction (R400, R401): the count has advanced within 500 us, and the bit is 1. -/
def Dev.permitted (d : Dev) (f : Nat) (up : Bool) : Bool :=
  let x := d.fn f
  decide (d.now < x.permitAt + ticksUs 500) && bitOf x.permit (if up then 0 else 1)

/-- The position of an actuator: a Hall count scaled by KSTEP from where it was referenced, or an absolute sensor. -/
def actPos (k : FnDesc) (c : FnCtr) (raw : Int) : Int := if k.incremental then raw * 2 ^ 31 / k.ac.kstep + c.off else raw

/-- The position is set (R397, R398). -/
def Fn.reference (k : FnDesc) (x : Fn) (p : Int) : Fn :=
  { x with pos := p }.modC fun c =>
    if k.incremental then { c with off := p - c.raw * 2 ^ 31 / k.ac.kstep, ref := p } else { c with ref := p }

/-- i_q* of an actuator: the position loop's demand while it moves, within IHOME while homing (R397); IHOLD in HOLD (R371),
and IHOLD or ISTOP on a tooth (R399). -/
def Fn.actCurrent (k : FnDesc) (x : Fn) (demand : Int) : Int :=
  let tooth : Int := k.ir (if k.ihold = 0 then k.istop else k.ihold)
  match x.st with
  | 3 => clampI (-(k.ir k.ac.ihome : Int)) (k.ir k.ac.ihome) demand
  | 4 => if x.blocked then 0 else if x.flag 30 then tooth else demand
  | 7 => if x.c.tooth then tooth else (k.ir k.ihold : Int)
  | _ => 0

/-- The profile stands where the actuator is. -/
def Dev.standStill (d : Dev) (f : Nat) : Dev := d.modFn f fun x => x.modC fun c => { c with vel := 0, ref := x.pos }

/-- HOLD, with the legs off when IHOLD is 0. -/
def Dev.stopHold (d : Dev) (f : Nat) (k : FnDesc) : Dev :=
  (((d.when (decide (k.ihold = 0)) fun d => d.fnLegs f 0).fnGo f 7).modFn f fun x =>
    { x with returning := false, blocked := false }).standStill f

/-- Start a move toward a position, when its permit stands (R401): homing first where no position is known (R397). -/
def Dev.startMove (d : Dev) (f : Nat) (k : FnDesc) (tgt : Int) : Dev :=
  let x := d.fn f
  let home := k.incremental && !x.flag 28
  let up := if home then k.ehome1 else decide (x.pos < tgt)
  if d.permitted f up then
    ((d.fnEndHolds f).fnGo f (if home then 3 else 4)).modFn f fun x =>
      (((({ x with cause := 0, target := tgt, start := x.pos, up := up, retries := 0, blocked := false, returning := false } :
        Fn).setFlag 31 false).setFlag 29 false).setFlag 30 false).modC fun c =>
          { c with vel := 0, ref := x.pos, tooth := false }
  else d.modFn f fun x => x.setFlag 31 true

/-- The end of a move: HOLD, or IDLE (R396). -/
def Dev.arrive (d : Dev) (f : Nat) (k : FnDesc) : Dev :=
  if (d.fn f).hold then d.stopHold f k else d.fnIdle f (d.fn f).cause

/-- Whether a command asks for a move from a position. -/
def wantsMove (k : FnDesc) (x : Fn) : Bool :=
  x.run && (decide ((k.tpos : Int) < (x.spd.toInt - x.pos).natAbs) || (k.incremental && !x.flag 28))

/-- A step in the direction of a speed. -/
def stepOf (k : FnDesc) (v : Int) : Int := if 0 < v then max 1 (k.step v.natAbs) else -(max 1 (k.step v.natAbs) : Nat)

/-- A period of the trapezoidal profile (R396): the speed moves by AMAX, toward VMAX in the goal's direction, or toward 0
while it points away from the goal or can stop no earlier than there; the reference moves with it. -/
def FnCtr.profile (k : FnDesc) (c : FnCtr) (goal : Int) (vmax : Nat) : FnCtr :=
  let rem := goal - c.ref
  let away := decide (rem < 0 ∧ 0 < c.vel) || decide (0 < rem ∧ c.vel < 0)
  let brakes := away || decide (rem.natAbs * (2 * k.ac.amax) ≤ c.vel.natAbs * c.vel.natAbs ∧ k.ac.amax ≠ 0)
  let a : Nat := max 1 (k.step k.ac.amax)
  let v := toward c.vel (if rem = 0 ∨ brakes then 0 else if 0 < rem then vmax else -(vmax : Int)) a
  if !away && decide (rem.natAbs ≤ (stepOf k v).natAbs ∧ v.natAbs ≤ 2 * a) then { c with vel := 0, ref := goal }
  else if v = 0 then { c with vel := 0 }
  else { c with vel := v, ref := c.ref + stepOf k v }

/-- The end stop that a move heads for: EP1 at 2^31 - 1, EP0 at 0 (R370). -/
def endOf (up : Bool) : Int := if up then 2 ^ 31 - 1 else 0

/-- What an actuator measured: the counts of arrival (R396), of a stall with the current at its limit, which is IHOME
while homing (R397, R398), and of the waits after an obstruction and on a tooth. -/
def Fn.noteMove (k : FnDesc) (x : Fn) (o : SeqObs) : Fn :=
  let lim := if x.st = 3 then k.ac.ihome else k.istop
  let p := actPos k x.c o.pos
  let y : Fn := { x with pos := p }
  let z := if o.moved && decide (x.st = 4) then y.setFlag 30 false else y
  z.modC fun c =>
    { c with raw := o.pos,
             arrN := if (p - x.target).natAbs ≤ k.tpos then c.arrN + 1 else 0,
             stallN := if k.ir lim ≤ o.current ∧ o.speed.natAbs < k.ac.vstall then c.stallN + 1 else 0,
             blkN := if x.blocked then c.blkN + 1 else 0, tooN := if z.flag 30 then c.tooN + 1 else 0 }

/-- A move that is refused while another runs, or follows a homing move: the function stops and holds with INTLK (R401;
DESIGN CHOICE of the stop, notes/assumptions/90.md). -/
def Dev.refuseMove (d : Dev) (f : Nat) (k : FnDesc) : Dev := (d.stopHold f k).modFn f fun x => x.setFlag 31 true

/-- A new target while a move runs is a move of its own, which needs its permit (R401). -/
def Dev.retarget (d : Dev) (f : Nat) (k : FnDesc) (tgt : Int) : Dev :=
  let up := decide ((d.fn f).pos < tgt)
  if d.permitted f up then d.modFn f fun x => ({ x with target := tgt, start := x.pos, up := up } : Fn).setFlag 30 false
  else d.refuseMove f k

/-- What an actuator does in a period. -/
def Dev.actPeriod (d : Dev) (f : Nat) (k : FnDesc) (cstop : Bool) : Dev :=
  let x := d.fn f
  match x.st with
  | 0 =>
    if !wantsMove k x then d.modFn f fun x => x.setFlag 31 false
    else if d.mayLeave cstop then d.startMove f k x.spd.toInt
    else d
  | 3 =>
    if !x.run then d.arrive f k
    else d.modFn f fun x => { x with target := x.spd.toInt }.modC fun c =>
      let v : Int := if k.ehome1 then k.ac.vhome else -(k.ac.vhome : Int)
      { c with vel := v, ref := c.ref + stepOf k v }
  | 4 =>
    if !x.run then d.arrive f k
    else if x.blocked then d
    else if !x.returning && decide (x.spd.toInt ≠ x.target) then d.retarget f k x.spd.toInt
    else if x.flag 30 then d.standStill f
    else d.modFn f fun x => x.modC fun c => c.profile k x.target k.ac.vmax
  | 7 =>
    if x.run && x.c.tooth && decide (x.spd.toInt = x.target) then d
    else if wantsMove k x then d.startMove f k x.spd.toInt
    else if !x.run && !x.hold then d.fnIdle f x.cause
    else d.modFn f fun x => (x.setFlag 31 false).modC fun c => { c with tooth := c.tooth && x.run }
  | _ => d

/-! ### Events of the actuators -/

/-- Arrival (R396): 10 sequencer periods within TPOS. -/
def Dev.arrival (d : Dev) (f : Nat) : Dev :=
  d.withDesc f fun _ k =>
    if k.kind = .actuator ∧ (d.fn f).st = 4 ∧ 10 ≤ (d.fn f).c.arrN then d.arrive f k else d

/-- THOME passes without a stall (R397). -/
def Dev.homingTimeout (d : Dev) (f : Nat) : Dev :=
  d.withDesc f fun _ k =>
    if k.kind = .actuator ∧ (d.fn f).st = 3 ∧ k.ac.thome ≤ (d.fn f).timer then d.fnFault f 0xF else d

/-- The end stop is reached by a stall within EPW of it (R398). -/
def Dev.atEnd (d : Dev) (f : Nat) (k : FnDesc) : Dev :=
  (d.modFn f fun x => (x.reference k (endOf x.up)).setFlag 29 true).arrive f k

/-- A stall has lasted TSTOP. -/
def stalled (k : FnDesc) (x : Fn) : Bool := decide (0 < x.c.stallN) && decide (k.ac.tstop ≤ x.c.stallN)

def nearEnd (k : FnDesc) (x : Fn) : Bool := decide ((x.pos - endOf x.up).natAbs ≤ k.epw)

/-- The homing move has met its end stop (R397): HOMED, and CLOSED toward the commanded target, which needs its permit
(R401). -/
def Dev.homed (d : Dev) (f : Nat) (k : FnDesc) : Dev :=
  let d1 := d.modFn f fun x => (x.reference k (endOf k.ehome1)).setFlag 28 true
  let x := d1.fn f
  let up := decide (x.pos < x.target)
  if (x.target - x.pos).natAbs ≤ k.tpos ∨ d1.permitted f up then
    ((d1.fnGo f 4).modFn f fun x => { x with start := x.pos, up := up }).standStill f
  else d1.refuseMove f k

/-- The position that the event came at. -/
def Dev.seesPos (d : Dev) (f : Nat) (pos : Int) : Dev := d.modFn f fun x => { x with pos := pos }

/-- A stall (R397 to R399). -/
def Dev.stall (d0 : Dev) (f : Nat) (pos : Int) : Dev :=
  d0.withDesc f fun _ k =>
    let d := d0.seesPos f pos
    let x := d.fn f
    if k.kind = .actuator ∧ x.st = 3 ∧ stalled k x then
      d.homed f k
    else if k.kind = .actuator ∧ x.st = 4 ∧ !x.blocked ∧ stalled k x then
      if nearEnd k x then d.atEnd f k
      else if k.park && x.up && decide ((k.ptooth : Int) ≤ x.pos) then d.modFn f fun x => x.setFlag 30 true
      else if k.nobs ≤ x.retries then d.fnFault f 2
      else (d.fnLegs f 0).modFn f fun x => ({ x with blocked := true } : Fn).modC fun c => { c with blkN := 0 }
    else d0

/-- The retry 100 ms after an obstruction (R398). -/
def Dev.obstructionRetry (d : Dev) (f : Nat) : Dev :=
  d.withDesc f fun _ k =>
    if (d.fn f).blocked ∧ k.per 100000 ≤ (d.fn f).c.blkN then
      d.modFn f fun x => ({ x with blocked := false, retries := x.retries + 1 } : Fn).modC fun c =>
        { c with vel := 0, ref := x.pos, stallN := 0 }
    else d

/-- TTOOTH passes (R399): the function holds with TOOTH still set. -/
def Dev.toothTimeout (d : Dev) (f : Nat) : Dev :=
  d.withDesc f fun _ k =>
    if (d.fn f).st = 4 ∧ (d.fn f).flag 30 ∧ k.ac.ttooth ≤ (d.fn f).c.tooN then
      (d.fnGo f 7).modCtr f fun c => { c with tooth := true }
    else d

/-- The direction that a running move goes. -/
def movesUp (k : FnDesc) (x : Fn) : Bool := if x.st = 3 then k.ehome1 else x.up

/-- A running move's permit drops (R402): the end stop reached in the same period counts as complete; a return to the
start, of a homing move too, needs its own permit. -/
def Dev.permitDrop (d0 : Dev) (f : Nat) (pos : Int) : Dev :=
  d0.withDesc f fun _ k =>
    let d := d0.seesPos f pos
    let x := d.fn f
    if k.kind = .actuator ∧ (x.st = 3 ∨ x.st = 4) ∧ !d.permitted f (movesUp k x) then
      if x.st = 4 ∧ stalled k x ∧ nearEnd k x then d.atEnd f k
      else if x.st = 3 ∧ stalled k x then d.homed f k
      else
        let d1 := d.modFn f fun x => x.setFlag 31 true
        let back := decide (x.pos < x.start)
        if k.pdrop = 2 then d1
        else if k.pdrop = 1 ∧ d1.permitted f back then
          (d1.when (decide (x.st = 3)) fun d => d.fnGo f 4).modFn f fun x =>
            { x with target := x.start, up := back, returning := true }
        else d1.stopHold f k
    else d0

end Sys2Proof.Machine
end

