-- ==== Sys2Proof/Machine/Sequencer.lean ====
section
/-! DEFINITION. The sequencer period of a library function (R339 to R341, R369), the Distaff's interlock evaluation (R400,
R449, R450) with the mirror lands (R542), and the commands of chapters 09 to 11. -/

namespace Sys2Proof.Machine

/-! ### What a period reads (R338, R340, R401) -/

/-- The command is taken, or ignored with REJ (R338); a CLR edge with RUN = 0 (R341); the permit's count (R401). -/
def Dev.takeCommand (d : Dev) (f : Nat) (w0 w1 w2 : Word) : Dev :=
  let rej := decide (bitsOf w0 31 6 ≠ 0)
  let x := d.fn f
  let y := if rej then x
    else { x with cmd := w0, spd := if w1.toInt < 0 then 0 else w1,
                  clrDue := x.clrDue || (decide (x.st = 8) && bitOf w0 5 && !bitOf x.cmd 5 && !bitOf w0 0) }
  let z := if bitsOf w2 31 16 = bitsOf x.permit 31 16 then { y with permit := w2 }
    else { y with permit := w2, permitAt := d.now }
  d.setFn f (z.setFlag 20 rej)

/-- A motor's counts: the periods in which its sensor stands still though the observer turns (R364), the correction of an
aligned encoder's angle at the first Z edge (R368), the periods of a blend. -/
def Fn.noteMotor (k : FnDesc) (x : Fn) (o : SeqObs) : Fn :=
  let least := k.wr k.nol * if k.mo.sensor = .hall then 2 else 1
  let stands := x.c.valid && decide (least ≤ (x.c.wLast.getD 0).natAbs) && !o.moved
  let first := decide (k.mo.sensor = .encoder) && o.z && x.aligned && !x.c.zSeen
  x.modC fun c =>
    { c with noMove := if stands then c.noMove + 1 else 0, encOff := if first then c.encOff + k.mo.zoff else c.encOff,
             zSeen := c.zSeen || first, blendT := min (c.blendT + 1) c.blendN }

/-- What the loops measured reaches the status and the counts (R340, R371); the charge gate shows in CHGOK. -/
def Dev.takeObs (d : Dev) (f : Nat) (e : FnEntry) (k : FnDesc) (o : SeqObs) : Dev :=
  let d1 := d.modFn f fun x =>
    ({ x with speed := o.speed, tq := o.demand, pos := o.pos, pcnt := x.pcnt + 1, timer := x.timer + 1 } : Fn).modC
      fun c => { c with vbus := o.vbus }
  let d2 := d1.modFn f fun x => x.setFlag 18 o.dlim
  match k.kind with
  | .motor => ((d2.noteExecs f k o.execs o.vbus).modFn f fun x => x.noteMotor k o).substitution f e o
  | .actuator => d2.modFn f fun x => let y := x.noteMove k o; { y with speed := y.pos }
  | _ =>
    let d3 := d2.modFn f fun x => x.noteGrid k o.g
    if k.charging then
      let d4 := (d3.when k.land.isSome fun d => d.notePilot f e k o.c).noteBattery f e k o.c
      d4.modFn f fun x => x.setFlag 26 (d4.chargeGate k x)
    else d3

/-! ### What a period does (R369) -/

/-- The function sees ORD (R484): the ramp begins; a move stops and holds, the state resistor returns to B. -/
def Dev.ordBegin (d : Dev) (f : Nat) (e : FnEntry) (k : FnDesc) : Dev :=
  let d1 := if k.kind = .actuator ∧ ((d.fn f).st = 3 ∨ (d.fn f).st = 4) then d.stopHold f k else d.setResistor f e k false
  d1.modFn f fun x => ({ x with ordRamp := true } : Fn).modC fun c => { c with ordAt := d.now }

/-- The response of the highest-ranked condition (R369); then the command. In IDLE the Whorls carry images with MODE off
(R456). -/
def Dev.seqAct (d : Dev) (f : Nat) (e : FnEntry) (k : FnDesc) (w3 : Word) (o : SeqObs) : Dev :=
  let x := d.fn f
  let held := d.rbit Reg.DST_FSAFE f
  if d.rbit Reg.DST_FRET f || decide (x.st = 9) then
    (if decide (x.st = 9) && !x.c.notice then d
     else (d.fnLegs f (d.fnSafe f)).modFn f fun x => (x.settle.enter 9).modC fun c => { c with notice := false })
  else if x.c.legsDue || held && !(decide (x.st = 8) && decide (x.cause = 7)) then d.fnFault f 7
  else if x.clrDue && !held then
    (((d.fnEndHolds f).fnIdle f 0).modFn f fun x => { x with clrDue := false, att := 0, waitN := 0 })
  else if slotLostOf k x && !x.quiet then d.currentLost f k o.vbus
  else if d.busTripped e && !x.quiet then d.fnFault f 6
  else if x.c.lossDue && !x.quiet then d.recatch f
  else if x.c.posLost && !x.quiet then d.positionLost f k
  else if x.ordRamp then d
  else if bitOf w3 11 && !x.quiet then d.ordBegin f e k
  else
    let d0 := d.when (decide (x.st = 0)) fun d => d.fnLegs f 0
    match k.kind with
    | .motor => d0.motorPeriod f k (bitOf w3 9) o
    | .actuator => d0.actPeriod f k (bitOf w3 9)
    | _ => d0.convPeriod f e k (bitOf w3 9) o

/-! ### What a period writes (R221, R340) -/

/-- The handoff line that a loop of the function reads (R221): bytes 0x80 to 0xBF of hank HOFF. -/
def Dev.handLine (d : Dev) (e : FnEntry) : Option Nat :=
  ((d.loopsOf e).find? fun x => d.rbit (Reg.SPN_LENT1 x.1 x.2) 23).map fun x =>
    (d.hank (d.fld (Reg.SPN_LENT1 x.1 x.2) 31 24)).start + 0x80

/-- Where the current loop takes its angle from: 0 the position primary, 1 a valid observer (R322), 2 the angle of the line
(R350), 3 its last angle, which it goes on integrating from the imposed speed (R351, R354, R356). -/
def Fn.angleSource (k : FnDesc) (x : Fn) : Nat :=
  if x.st = 2 then 2
  else if x.st = 3 ∨ x.openLoop ∨ (x.st = 7 ∧ k.sensorless) then 3
  else if k.sensorless || x.flag 16 then (if x.c.valid then 1 else 3)
  else 0

/-- The imposed speed: w_i in RAMP and open loop, 0 while the angle stands; while an observer that should give the angle is
invalid, its last valid speed (DESIGN CHOICE, notes/assumptions/90.md). -/
def Fn.imposedSpeed (x : Fn) : Int :=
  if x.st = 3 ∨ x.openLoop then x.wi else if x.st = 2 ∨ x.st = 7 then 0 else x.c.wValid

/-- The reference that a function's loops follow, and what goes with it: the speed demand and the angle of the encoder's
count (R348, R368), the profile's position and speed (R396, R397), a converter's reference and shift (R370). -/
def Fn.reference2 (k : FnDesc) (x : Fn) (share : Nat → Nat) : Word × Word :=
  match k.kind with
  | .motor => (wordOf x.dem, x.c.encOff)
  | .actuator => (wordOf x.c.ref, wordOf x.c.vel)
  | .grid => (wordOf x.dem, 0)
  | .bridge => (wordOf (if k.cv.dab then clampI (-(share k.cv.idmax : Int)) (share k.cv.idmax) x.dem else x.dem),
      wordOf x.c.shift)

/-- The doublewords of the handoff line: i_d*, i_q*; the imposed speed, the angle's source and FSW; the observer's seeds;
the integrators' preloads; the flux; the back-EMF vector; the limits of the PI controllers and C_tgt, which FSW halves
(R311, R319, R481, R482); the reference (DESIGN CHOICE of their places, notes/assumptions/72.md). -/
def Fn.handoff (k : FnDesc) (x : Fn) (fsw : Bool) (share : Nat → Nat) : List (Word × Word) :=
  [(wordOf x.c.idRef, wordOf x.c.iqRef),
   (wordOf x.imposedSpeed, BitVec.ofNat 32 (x.angleSource k + if fsw then 256 else 0)), (x.c.theta, wordOf x.c.seedW),
   (wordOf x.c.seedD, wordOf x.c.seedQ), (wordOf x.c.fluxA, wordOf x.c.fluxB), (wordOf x.c.emfA, wordOf x.c.emfB),
   (wordOf (share k.mo.pilim : Nat), wordOf (if fsw then k.mo.ctgt / 2 else k.mo.ctgt : Nat)), x.reference2 k share]

/-- The set-points are written into the handoff line, each pair with one st.a (R222). -/
def Dev.writeHandoff (d : Dev) (f : Nat) (e : FnEntry) (k : FnDesc) (fsw : Bool) (share : Nat → Nat) : Dev :=
  match d.handLine e with
  | none => d
  | some a =>
    ((d.fn f).handoff k fsw share).zipIdx.foldl
      (fun d x => d.fnStore e (a + 8 * x.2) (bytesOfWord x.1.1 ++ bytesOfWord x.1.2)) d

/-- Whether the legs of a motor or an actuator follow the duties of its current loop (R336, R371). -/
def Fn.drives (k : FnDesc) (x : Fn) : Bool :=
  match k.kind with
  | .motor => !k.mo.dtc && (decide (x.st = 2) || decide (x.st = 3) || decide (x.st = 4) || decide (x.st = 5) || decide (x.st = 7))
  | .actuator => decide (x.st = 3) || (decide (x.st = 4) && !x.blocked) ||
      (decide (x.st = 7) && (x.c.tooth || decide (k.ihold ≠ 0)))
  | _ => false

/-- What the sequencer gives its loops in a period: every current, torque or power limit within the share that SCALE and
the orderly stop leave (R481, R484), and the duties that FSW shifts (R482; not an actuator's). -/
def Dev.seqOutputs (d : Dev) (f : Nat) (e : FnEntry) (k : FnDesc) (w3 : Word) (o : SeqObs) : Dev :=
  let x := d.fn f
  let share := d.limited f (bitsOf w3 20 16)
  let fsw := bitOf w3 10 && decide (k.kind = .motor)
  let d1 := match k.kind with
    | .motor =>
      let r := x.limitedRefs k o.demand share
      d.modCtr f fun c => { c with idRef := r.1, iqRef := r.2 }
    | .actuator =>
      let lim : Int := share k.mo.imax
      d.modCtr f fun c => { c with idRef := 0, iqRef := clampI (-lim) lim (x.actCurrent k o.demand) }
    | _ => d.convOutputs f e k share o
  (d1.when (x.drives k) fun d => d.putDuties e (focDuties fsw o.duties)).writeHandoff f e k fsw share

/-- Status word 0 (R340, R371). -/
def Fn.statusWord (x : Fn) : Word := putBits (putBits (putBits (putBits x.flags 23 21 (min x.att 7)) 15 8 x.cause) 7 4 0) 3 0 x.st

/-- The status beat: two doubleword stores (R340). -/
def Dev.writeStatus (d : Dev) (f : Nat) (e : FnEntry) : Dev :=
  let x := d.fn f
  let a := e.statl.toNat
  let d1 := d.fnStore e a (bytesOfWord x.statusWord ++ bytesOfWord (wordOf x.speed))
  d1.fnStore e (a + 8) (bytesOfWord (wordOf x.tq) ++ bytesOfWord (BitVec.ofNat 32 x.pcnt))

/-- A fault notice goes to a Bobbin by mbox.put from POST (R340): into the lowest empty outbound mailbox; its word is free
(notes/assumptions/72.md). -/
def Dev.postNotice (d : Dev) (f : Nat) (e : FnEntry) : Dev :=
  let p := d.fnSpn e
  if !(d.fn f).c.notice then d
  else match (List.range 4).find? fun n => !d.rbit (Reg.SPN_MBSTAT p) (4 + n) with
    | none => d
    | some n =>
      let d1 := ((d.setRbit (Reg.SPN_MBSTAT p) (4 + n) true).modSpn p fun x =>
        { x with mbOut := smSet (fun _ => 0) x.mbOut n (Config.freeWord d.freeCtr) }).modCtr f fun c => { c with notice := false }
      { d1 with freeCtr := d1.freeCtr + 1 }

/-- SEQUENCER_PERIOD (R339): the command line and the settings (R343) are read, the highest-ranked condition acted on, the set-points and the
status beat written. A period that does not commit changes nothing and advances no timer (R342). -/
def Dev.seqPeriod (d : Dev) (f : Nat) (o : SeqObs) : Dev :=
  d.withDesc f fun e k =>
    let r := d.fnLoad e e.cmdl.toNat 16
    match r.2.1, o.committed with
    | .done _, true =>
      let w := fun i => r.1.word (e.cmdl.toNat + 4 * i)
      let d1 := r.1.takeEntries f e k
      let k1 := (d1.fn f).desc.getD k
      (((((((d1.takeCommand f (w 0) (w 1) (w 2)).takeCurve f e k1 o.code).takeObs f e k1 o).seqAct f e k1 (w 3)
        o).seqOutputs f e k1 (w 3) o).writeStatus f e).postNotice f e)
    | _, _ => r.1

/-- The orderly-stop ramp of a function ends (R484): 0.8 T_ORDER after ORD, with the legs by R360. -/
def Dev.ordRampEnd (d : Dev) (f : Nat) (xs : List (Int × Int)) (vbus : Int) : Dev :=
  d.withDesc f fun _ k =>
    let x := d.fn f
    if x.ordRamp ∧ x.st ≠ 9 ∧ x.c.ordAt + 38400 * d.fld Reg.THM_ORD 7 0 ≤ d.now then
      (d.fnIdle f 0xB).fnLegs f (branchOf k (x.observed k xs).1 vbus)
    else d

/-! ### Interlocks (R400, R449, R450, R542) -/

/-- The Distaff sees a function's status: PCNT noted with the time it last advanced (R450). -/
def Dev.seeStatus (d : Dev) (f : Nat) : Dev :=
  match d.fnEntry f with
  | none => d
  | some e =>
    let r := d.load reqDistaff (classOf reqDistaff false) e.statl.toNat 16
    match r.2.1 with
    | .done _ =>
      let c := r.1.word (e.statl.toNat + 12)
      r.1.modFn f fun x => if c = x.seenPcnt then x else { x with seenPcnt := c, seenAt := d.now }
    | _ => r.1

/-- The field that a rule tests (R449). -/
def Dev.ruleField (d : Dev) (e : FnEntry) (r : IlRule) : Int :=
  let a := e.statl.toNat
  match bitsOf r.w0 13 12 with
  | 0 => (bitsOf (d.word a) 3 0 : Nat)
  | 1 => (d.word (a + 4)).toInt
  | _ => (d.word (a + 8)).toInt

/-- Whether a rule's test holds (R449). -/
def ruleTest (test : Nat) (x t : Int) : Bool :=
  match test with
  | 0 => decide ((x.natAbs : Int) ≤ t)
  | 1 => decide (t ≤ (x.natAbs : Int))
  | 2 => decide (x = t)
  | 3 => decide (x ≠ t)
  | 4 => decide (x ≤ t)
  | _ => decide (t ≤ x)

/-- Whether a rule holds now (R450): its source's PCNT has advanced within 500 us and its test holds. -/
def Dev.ruleHolds (d : Dev) (r : IlRule) : Bool :=
  let s := bitsOf r.w0 20 16
  match d.fnEntry s with
  | none => false
  | some e => decide (d.now < (d.fn s).seenAt + ticksUs 500) && ruleTest (bitsOf r.w0 10 8) (d.ruleField e r) r.t.toInt

/-- A permit bit (R450): every valid rule of the function and direction holds. -/
def Dev.permitBit (d : Dev) (f : Nat) (up : Bool) : Bool :=
  d.pl.rules.all fun r =>
    !(bitOf r.w0 31 && decide (bitsOf r.w0 28 24 = f) && bitOf r.w0 (if up then 29 else 30)) || d.ruleHolds r

/-- The permit word of one function (R400). -/
def Dev.writePermit (d : Dev) (f : Nat) : Dev :=
  match d.fnEntry f with
  | none => d
  | some e =>
    let n := ((d.fn f).evals + 1) % 65536
    let w : Word := BitVec.ofNat 32 (n <<< 16 ||| (d.permitBit f false).toNat <<< 1 ||| (d.permitBit f true).toNat)
    ((d.modFn f fun x => { x with evals := n }).postStore reqDistaff (classOf reqDistaff false) none (e.cmdl.toNat + 8)
      (bytesOfWord w) [] false .plain).1

/-- The mirror lands take bit 0 of their words; a read with error status leaves them and sets MERR (R542). -/
def Dev.mirrorLands (d : Dev) : Dev :=
  if d.reg Reg.GPIO_DIR &&& d.reg Reg.GPIO_MSEL = 0 then d
  else
    let a := d.fld Reg.GPIO_MADDR 23 7 * 128
    let r := d.load reqDistaff (classOf reqDistaff false) a 128
    match r.2.1 with
    | .done _ =>
      { r.1 with lk := { r.1.lk with mirror := (List.range 32).foldl (fun w n => putBit w n (bitOf (r.1.word (a + 4 * n)) 0)) 0 } }
    | _ => r.1.setRbit Reg.GPIO_STAT 0 true

/-- INTERLOCK_EVALUATION (R400). -/
def Dev.interlocks (d : Dev) : Dev :=
  let d1 := (List.range 32).foldl (fun e f => e.seeStatus f) d
  ((List.range 32).foldl (fun e f => e.writePermit f) d1).mirrorLands

/-! ### The commands -/

/-- SEQUENCER_PERIOD (R339). -/
def execSequencerPeriod (f : Fin 32) (o : SeqObs) (s : State) : Host.Outcome State Fault Refusal :=
  s.run fun d => d.seqPeriod f o

/-- CATCH_MEASUREMENT_END (R346, R347): the vectors, a primary's speed, the line and the bus voltage. -/
def execCatchMeasurementEnd (f : Fin 32) (es : List (Int × Int)) (prim : Option PrimObs) (vline : Nat) (vbus : Int)
    (s : State) : Host.Outcome State Fault Refusal := s.run fun d => d.catchEnd f es prim vline vbus

/-- BRAKE_END (R349). -/
def execBrakeEnd (f : Fin 32) (speed : Int) (s : State) : Host.Outcome State Fault Refusal :=
  s.run fun d => d.brakeEnd f speed

/-- ALIGN_END (R350). -/
def execAlignEnd (f : Fin 32) (s : State) : Host.Outcome State Fault Refusal := s.run fun d => d.alignEnd f

/-- HANDOVER (R351). -/
def execHandover (f : Fin 32) (lead : Word) (s : State) : Host.Outcome State Fault Refusal :=
  s.run fun d => d.handover f lead

/-- START_FAILURE (R352). -/
def execStartFailure (f : Fin 32) (s : State) : Host.Outcome State Fault Refusal := s.run fun d => d.startFailure f

/-- STOP_END (R355): the speed. -/
def execStopEnd (f : Fin 32) (speed : Int) (s : State) : Host.Outcome State Fault Refusal :=
  s.run fun d => d.stopEnd f speed

/-- LOCKED_ROTOR (R357, R358): the speed. -/
def execLockedRotor (f : Fin 32) (speed : Int) (s : State) : Host.Outcome State Fault Refusal :=
  s.run fun d => d.lockedRotor f speed

/-- ROTOR_LOSS (R359, R360): the current loop's executions and the bus voltage. -/
def execRotorLoss (f : Fin 32) (execs : List (Int × Int)) (vbus : Int) (s : State) : Host.Outcome State Fault Refusal :=
  s.run fun d => d.rotorLoss f execs vbus

/-- ROTOR_RECOVERY (R361, R362). -/
def execRotorRecovery (f : Fin 32) (vecs : List (Int × Int)) (s : State) : Host.Outcome State Fault Refusal :=
  s.run fun d => d.rotorRecovery f vecs

/-- RECATCH_TIMEOUT (R363). -/
def execRecatchTimeout (f : Fin 32) (s : State) : Host.Outcome State Fault Refusal := s.run fun d => d.recatchTimeout f

/-- FEEDBACK_LOSS (R364 to R366): what the checks looked at, and the bus voltage. -/
def execFeedbackLoss (f : Fin 32) (sums : List Nat) (codes : SlotCodes) (seqs : List Nat) (vbus : Int)
    (s : State) : Host.Outcome State Fault Refusal := s.run fun d => d.feedbackLoss f sums codes seqs vbus

/-- TOPOLOGY_DETECT (R372). -/
def execTopologyDetect (f : Fin 32) (p1 p2 p3 : Nat) (s : State) : Host.Outcome State Fault Refusal :=
  s.run fun d => d.topologyDetect f p1 p2 p3

/-- GRID_LOCK (R373). -/
def execGridLock (f : Fin 32) (execs : List (Int × Int)) (s : State) : Host.Outcome State Fault Refusal :=
  s.run fun d => d.gridLock f execs

/-- PRECHARGE_TIMEOUT (R375). -/
def execPrechargeTimeout (f : Fin 32) (s : State) : Host.Outcome State Fault Refusal :=
  s.run fun d => d.prechargeTimeout f

/-- GRID_LOSS (R376). -/
def execGridLoss (f : Fin 32) (s : State) : Host.Outcome State Fault Refusal := s.run fun d => d.gridLoss f

/-- GRID_RESYNC (R376). -/
def execGridResync (f : Fin 32) (s : State) : Host.Outcome State Fault Refusal := s.run fun d => d.gridResync f

/-- RECTIFIER_THRESHOLD (R386). -/
def execRectifierThreshold (f : Fin 32) (current : Int) (s : State) : Host.Outcome State Fault Refusal :=
  s.run fun d => d.rectifier f current

/-- PILOT_LOSS (R392). -/
def execPilotLoss (f : Fin 32) (s : State) : Host.Outcome State Fault Refusal := s.run fun d => d.pilotLoss f

/-- CHARGE_GATE_CLOSE (R395). -/
def execChargeGateClose (f : Fin 32) (s : State) : Host.Outcome State Fault Refusal := s.run fun d => d.gateClose f

/-- ACTUATOR_ARRIVAL (R396). -/
def execActuatorArrival (f : Fin 32) (s : State) : Host.Outcome State Fault Refusal := s.run fun d => d.arrival f

/-- HOMING_TIMEOUT (R397). -/
def execHomingTimeout (f : Fin 32) (s : State) : Host.Outcome State Fault Refusal := s.run fun d => d.homingTimeout f

/-- ACTUATOR_STALL (R397 to R399): the position. -/
def execActuatorStall (f : Fin 32) (pos : Int) (s : State) : Host.Outcome State Fault Refusal :=
  s.run fun d => d.stall f pos

/-- OBSTRUCTION_RETRY (R398). -/
def execObstructionRetry (f : Fin 32) (s : State) : Host.Outcome State Fault Refusal :=
  s.run fun d => d.obstructionRetry f

/-- TOOTH_TIMEOUT (R399). -/
def execToothTimeout (f : Fin 32) (s : State) : Host.Outcome State Fault Refusal := s.run fun d => d.toothTimeout f

/-- INTERLOCK_EVALUATION (R400, R450, R542). -/
def execInterlockEvaluation (s : State) : Host.Outcome State Fault Refusal := s.run fun d => d.interlocks

/-- PERMIT_DROP (R402): the position. -/
def execPermitDrop (f : Fin 32) (pos : Int) (s : State) : Host.Outcome State Fault Refusal :=
  s.run fun d => d.permitDrop f pos

/-- ORDERLY_STOP_RAMP_END (R484): the executions since the last period and the bus voltage. -/
def execOrderlyStopRampEnd (f : Fin 32) (execs : List (Int × Int)) (vbus : Int) (s : State) :
    Host.Outcome State Fault Refusal := s.run fun d => d.ordRampEnd f execs vbus

end Sys2Proof.Machine
end

