-- ==== Sys2Proof/Machine/Distaff.lean ====
section
/-! DEFINITION. What the Distaff does (13_faults_and_safety.md, 14_modes_and_start_up.md): device modes, records due,
safe states, spares and retirement, degraded functions, the application restart. -/

namespace Sys2Proof.Machine

/-! ### Records (R430, R486, R502, R504) -/

/-- A Distaff record falls due; it waits in the retention latches until it is written (R499, R500). -/
def Dev.recordDue (d : Dev) (r : Rec) : Dev :=
  (d.modFl fun x => { x with due := x.due ++ [r] }).setRbit Reg.NVM_STAT 1 true

/-- The record of a retirement (R430). -/
def Dev.retireRec (d : Dev) (x : SrcInst) : Rec :=
  { kind := 1, tag := 0, data := [BitVec.ofNat 32 x.src.toNat, BitVec.ofNat 32 x.inst.toNat, BitVec.ofNat 32 d.fl.wear.minutes] }

/-- The record of a severe reaction or an entry into SAFE (R504). -/
def Dev.faultRec (d : Dev) (x : SrcInst) (react : Nat) : Rec :=
  { kind := 2, tag := 0,
    data := [BitVec.ofNat 32 x.src.toNat, BitVec.ofNat 32 x.inst.toNat, BitVec.ofNat 32 react, d.reg Reg.DST_MODE, d.reg Reg.THM_TJ] ++
      ((List.range 8).map fun j => d.reg (Reg.SNL_STICKY j)) ++ (List.range 8).map fun j => d.reg (Reg.SNL_FIRST j) }

/-- The stop record (R486): TEMP, the mode it came from, DST_FSAFE and DST_FRET; the reason is added at SAFE. -/
def Dev.stopRecord (d : Dev) (from_ : Nat) : Rec :=
  { kind := 5, tag := 0,
    data := [BitVec.ofNat 32 (d.fld Reg.THM_TJ 15 0), BitVec.ofNat 32 from_, d.reg Reg.DST_FSAFE, d.reg Reg.DST_FRET] }

/-! ### The governor's step (R490, R491, R493) -/

/-- The step is the deeper of the sag's and the forced one; a step down counts, raises GOV_STEP and sets CHG. -/
def Dev.govEval (d : Dev) : Dev :=
  let old := d.fld Reg.GOV_STAT 1 0
  let new := max d.su.sag (d.fld Reg.GOV_CTL 2 1)
  let d1 := d.setFld Reg.GOV_STAT 1 0 new
  if old < new then
    (((d1.setFld Reg.GOV_STAT 3 2 (max (d.fld Reg.GOV_STAT 3 2) new)).setRbit Reg.GOV_STAT 8 true).incFld Reg.GOV_CNT
      (if new = 1 then 15 else 31) (if new = 1 then 0 else 16)).raise Src.GOV_STEP 0
  else d1

/-! ### Abandoned erases (R488, R501) -/

/-- The sector that a job is erasing. -/
def FlashJob.sector (j : FlashJob) : Nat := j.dst / 16384 + j.done

/-- An operation ends or is refused with a result. -/
def Dev.flashEnd (d : Dev) (res : Nat) : Dev :=
  ((d.modFl fun x => { x with job := none }).setFld Reg.NVM_STAT 15 8 res).setFld Reg.NVM_STAT 2 0
    (4 + d.fld Reg.NVM_STAT 1 1 * 2)

/-- The answer to a session's flash command, when it ends (R517). -/
def Dev.sessionFlashEnd (d : Dev) (res : Nat) : Dev :=
  match d.sv.waitFlash with
  | some q => d.modSv fun x =>
      { x with waitFlash := none, sent := some ⟨res, []⟩, resp := if q = x.seq then some ⟨res, []⟩ else x.resp }
  | none => d

/-- An erase in progress is abandoned: its sector recorded for erasure, ERABN, RES ABANDON. -/
def Dev.abandonErase (d : Dev) : Dev :=
  match d.fl.job with
  | some j =>
    if j.op = .erase then
      let d1 := d.modSn fun x => { x with erasures := x.erasures ++ [j.sector] }
      (((d1.recordDue { kind := 6, tag := 0, data := [BitVec.ofNat 32 j.sector] }).setRbit Reg.THM_STAT 11 true).flashEnd
        9).sessionFlashEnd 9
    else d
  | none => d

/-! ### Safe states (R436, R437, R448) -/

/-- Whether a set of a function is held OFF (R432): bit 0 set A, bit 1 set B; a port's set by SPLIT. -/
def setOf (e : FnEntry) (n : Nat) : Nat := if n < e.split.toNat then 0 else 1

/-- A library function held by the Distaff is FAULTED with CAUSE SAFE (R369); its sequencer commits the safe-state
images at its next period, or at its release where that comes first, and posts a notice (R336, R340). RETIRED is never
left. -/
def Dev.fnHeld (d : Dev) (f : Nat) : Dev :=
  let x := d.fn f
  if x.desc.isNone || decide (x.st = 9) || (decide (x.st = 8) && decide (x.cause = 7)) then d
  else (d.resistorB f).modFn f fun x =>
    ({ x.settle with cause := 7 }.enter 8).modC fun c => { c with notice := true, legsDue := true }

/-- A function to a safe state (R437): its bit of DST_FSAFE, an order to each port (a set held OFF stays OFF), and for a
library function FAULTED with CAUSE SAFE (R369). -/
def Dev.fsafeTo (d : Dev) (f st : Nat) : Dev :=
  match d.fnEntry f with
  | none => d
  | some e =>
    let d1 := (portsOf e).foldl
      (fun d n => d.orderPort n (if (d.fn f).sets.testBit (setOf e n) then 0 else st)) (d.setRbit Reg.DST_FSAFE f true)
    d1.fnHeld f

def Dev.fsafe (d : Dev) (f : Nat) : Dev := d.fsafeTo f (d.fnSafe f)

/-- Every function to its safe state. -/
def Dev.fsafeAll (d : Dev) : Dev := (List.range 32).foldl (fun e f => e.fsafe f) d

/-- Whether every function is in IDLE, FAULTED or RETIRED (R459). -/
def Dev.allQuiet (d : Dev) : Bool :=
  (List.range 32).all fun f => (d.fnEntry f).isNone || (d.fn f).desc.isNone || (d.fn f).quiet

/-- Whether a function uses an instance (R424). -/
def Dev.uses (d : Dev) (f : Nat) (x : SrcInst) : Bool :=
  match d.fnEntry f with
  | none => false
  | some e =>
    let s := x.src.toNat
    let i := x.inst.toNat
    let port := fun n => e.ports.getLsbD n
    let lane := fun k => match d.groupOf k with
      | some g => e.lanes.getLsbD g
      | none => false
    if s = 80 ∨ s = 81 then port i
    else if 96 ≤ s ∧ s ≤ 102 then port i
    else if 112 ≤ s ∧ s ≤ 120 then port (32 + i)
    else if s = 48 then (d.loopsOf e).any fun l => decide (l.1 = i)
    else if 49 ≤ s ∧ s ≤ 52 then (d.loopsOf e).any fun l => decide (l = (d.physSpn (i / 4), i % 4))
    else if 32 ≤ s ∧ s ≤ 35 then lane i
    else if s = 36 ∨ s = 37 then lane (if i < 32 then d.laneOf (i / 2) else 0)
    else true

/-- Every function that uses an instance goes to its safe state (R422). -/
def Dev.fsafeUsers (d : Dev) (x : SrcInst) : Dev :=
  (List.range 32).foldl (fun e f => if e.uses f x then e.fsafe f else e) d

/-! ### Modes (R455, R458) -/

/-- Refuse a mode request (R460). -/
def Dev.reqRefuse (d : Dev) (code : Nat) : Dev := (d.setRbit Reg.SNL_MREQ 16 true).setFld Reg.SNL_MREQ 15 8 code

/-- A change of the device mode (R458): PREV, MCHG. Leaving SERVICE aborts an injection (R408) and ends FORCE (R493); a
request that waits for its round is refused with EVENT when the mode goes elsewhere (R461). -/
def Dev.setMode (d : Dev) (m : Nat) : Dev :=
  let old := d.mode
  if old = m then d
  else
    let d1 := ((d.setFld Reg.DST_MODE 7 4 old).setFld Reg.DST_MODE 3 0 m).setRbit Reg.SNL_MREQ 18 true
    let d2 := if old = 10 then (d1.injAbort.setFld Reg.GOV_CTL 2 1 0).govEval else d1
    let d3 := if d2.su.runReq && decide (m ≠ 6) && decide (m ≠ 7) then
        ((d2.setRbit Reg.SNL_MREQ 17 false).reqRefuse 8).modSu fun x => { x with runReq := false }
      else d2
    d3.modSu fun x => { x with sleepReq := false }

/-- Enter SAFE (R455, R485, R486, R504), from BOOT to SERVICE (R459): every function to its safe state; the stop record
committed with its reason (0 every function stopped, 1 T_ORDER passed, 2 a DSAFE reaction or the watchdog); a FAULT
record. -/
def Dev.enterSafe (d : Dev) (x : SrcInst) (reason : Nat) : Dev :=
  if d.mode = 0 ∨ d.mode = 0xB then d
  else if d.mode = 9 then d.fsafeAll
  else
    let d1 := (d.recordDue (d.faultRec x 5)).setMode 9
    let d2 := d1.fsafeAll.abandonErase
    let d3 := d2.modFl fun x => { x with wear := { x.wear with safes := x.wear.safes + 1 } }
    match d3.sn.stopRec with
    | some r =>
      (d3.recordDue { r with data := r.data ++ [BitVec.ofNat 32 reason] }).modSn fun x => { x with stopRec := none }
    | none => d3

/-! ### Word 3 of the command lines (R480) -/

/-- Word 3 of a function's command line (R480). -/
def Dev.thermalWord (d : Dev) (f : Nat) : Word :=
  BitVec.ofNat 32 ((d.fld Reg.HKP_STAT 7 0) <<< 24 ||| (d.fn f).scale <<< 16 ||| (decide (d.mode = 8)).toNat <<< 11 |||
    (d.rbit Reg.THM_STAT 3 && d.rbit Reg.THM_FSW f).toNat <<< 10 ||| (d.rbit Reg.THM_STAT 0).toNat <<< 9 ||| (d.fn f).sets)

/-- The Distaff writes word 3 of every valid entry's command line (R480). -/
def Dev.writeThermal (d : Dev) : Dev :=
  (List.range 32).foldl
    (fun d f => match d.fnEntry f with
      | some e =>
        (d.postStore reqDistaff (classOf reqDistaff false) none (e.cmdl.toNat + 12) (bytesOfWord (d.thermalWord f)) [] false
          .plain).1
      | none => d) d

/-- Enter ORDERLY-STOP (R483, R486, R480). -/
def Dev.enterOrderly (d : Dev) : Dev :=
  let from_ := d.mode
  let d1 := d.setMode 8
  let d2 := (d1.modSu fun x => { x with ordAt := d1.now, ordFrom := from_ }).modSn fun x =>
    { x with stopRec := some (d.stopRecord from_) }
  d2.abandonErase.writeThermal

/-! ### Spares and retirement (R430, R433) -/

/-- The free spares as DST_SPARE shows them. -/
def Dev.recount (d : Dev) : Dev :=
  let spn := ([16, 17].filter fun q => !d.rbit (Reg.SPN_STAT q) 11 && !d.rbit (Reg.SPN_STAT q) 9 &&
    !(d.cr.takeovers.any fun t => decide (t.2 = q))).length
  let cnv := ([16, 17].filter fun k => !d.rbit (Reg.CNV_XBAR k) 8 && !d.rbit (Reg.CNV_STAT k) 2).length
  let bank := ([16, 17].filter fun p => decide (d.spareBank p = 0)).length - d.sk.copyQueue.length
  ((d.setFld Reg.DST_SPARE 1 0 spn).setFld Reg.DST_SPARE 3 2 cnv).setFld Reg.DST_SPARE 5 4 bank

/-- Service is required (R433): SVCREQ, and DEGRADED from RUN. -/
def Dev.svcReq (d : Dev) : Dev :=
  let d1 := d.setRbit Reg.DST_SPARE 8 true
  if d1.mode = 6 then d1.setMode 7 else d1

/-- The unit that a source's instance names (R420, R430). -/
def Dev.unitOfSrc (d : Dev) (x : SrcInst) : Option Retiree :=
  let s := x.src.toNat
  let i := x.inst.toNat
  if 16 ≤ s ∧ s ≤ 19 then if h : i < 18 then some (.bank ⟨i, h⟩) else none
  else if 32 ≤ s ∧ s ≤ 35 then if h : i < 18 then some (.lane ⟨i, h⟩) else none
  else if s = 48 then if h : i < 18 then some (.spindle ⟨i, h⟩) else none
  else if 49 ≤ s ∧ s ≤ 52 then if h : d.physSpn (i / 4) < 18 then some (.spindle ⟨d.physSpn (i / 4), h⟩) else none
  else if 64 ≤ s ∧ s ≤ 66 then if h : i < 3 then some (.bobbin ⟨i, h⟩) else none
  else if 96 ≤ s ∧ s ≤ 102 then if h : i < 64 then some (.leg ⟨i, h⟩) else none
  else if 112 ≤ s ∧ s ≤ 120 then if h : 32 + i < 64 then some (.leg ⟨32 + i, h⟩) else none
  else none

/-- The source and instance under which the Distaff records a unit that SELFTEST retires (R468). -/
def srcOfUnit : Retiree → SrcInst
  | .bank p => srcInst Src.SKN_UE p
  | .spindle p => srcInst Src.SPN_LSM p
  | .lane k => srcInst Src.CNV_FAIL k
  | .bobbin b => srcInst Src.BOB_LSM b
  | .leg n => if n.val < 32 then srcInst Src.HVP_STFAIL n else srcInst Src.LVP_STFAIL (n.val - 32)
  | .distaff => srcInst Src.DST_LSM 0

/-- The logical bank that a physical bank serves. -/
def Dev.logBank (d : Dev) (p : Nat) : Option Nat := (List.range 16).find? fun lb => decide (d.physBank lb = p)

/-- The cores of the Bobbin pair (DST_BOBMAP). -/
def Dev.pair (d : Dev) : List Nat := [d.fld Reg.DST_BOBMAP 1 0, d.fld Reg.DST_BOBMAP 3 2]

/-- The application starts on a core at its entry address (R431, R470); its watchdog counts from there (DESIGN CHOICE,
notes/assumptions/93.md). -/
def Dev.startCore (d : Dev) (b : Nat) : Dev :=
  ((d.resetRequester (reqBob b)).setBob b { Bobbin.reset with running := true, pc := d.reg Reg.DST_BENTRY }).modSu fun x =>
    { x with kicks := smSet (fun _ => 0) x.kicks b d.now }

/-- A core stops. -/
def Dev.stopCore (d : Dev) (b : Nat) : Dev := (d.resetRequester (reqBob b)).setBob b Bobbin.reset

/-- The application starts on the pair. -/
def Dev.startApp (d : Dev) : Dev := d.pair.foldl (fun e b => e.startCore b) d

/-- C takes the place of a core of the pair that is retired. -/
def Dev.replaceCore (d : Dev) (b : Nat) : Dev :=
  let d1 := (d.stopCore b).setRbit Reg.DST_BOBMAP (4 + b) true
  if b = 2 then d1.setRbit Reg.DST_SPARE 6 false
  else if d.rbit Reg.DST_SPARE 6 then
    let pos := if d.fld Reg.DST_BOBMAP 1 0 = b then 0 else 2
    (d1.setFld Reg.DST_BOBMAP (pos + 1) pos 2).setRbit Reg.DST_SPARE 6 false
  else d1

/-- Whether a unit is retired already: its retirement has been taken (R426). -/
def Dev.isRetired (d : Dev) : Retiree → Bool
  | .bank p => d.rbit Reg.SKN_RETIRED p
  | .spindle p => d.rbit (Reg.SPN_STAT p) 9
  | .lane k => d.rbit (Reg.CNV_STAT k) 2
  | .bobbin b => d.rbit Reg.DST_BOBMAP (4 + b)
  | .leg n => d.rbit (pStat n) 23
  | .distaff => false

/-- Retire a unit and bring in a free spare (R430); whether a spare came in or none was needed, and whether it was the
last of its kind. -/
def Dev.retireUnit (d : Dev) (u : Retiree) : Dev × Bool :=
  match u with
  | .bank p =>
    match d.logBank p with
    | none => (d.retireSpareBank p, true)
    | some lb =>
      if ([16, 17].filter fun q => decide (d.spareBank q = 0)).length ≤ d.sk.copyQueue.length then (d, false)
      else ((d.retireBank lb), true)
  | .spindle p =>
    if d.rbit (Reg.SPN_STAT p) 9 then (d, true)
    else if d.cr.takeovers.any fun t => decide (t.2 = p) then (d.retireSpn p, d.freeSpareSpn.isSome)
    else if (d.logSpn p).isNone then (d.setRbit (Reg.SPN_STAT p) 9 true, true)
    else if d.freeSpareSpn.isNone then (d, false)
    else (d.retireSpn p, true)
  | .lane k =>
    if d.rbit (Reg.CNV_STAT k) 2 then (d, true)
    else if (d.groupOf k).isNone then (d.stopLane k, true)
    else match d.freeSpareLane with
      | some q => (d.laneTakeover k q, true)
      | none => (d, false)
  | .bobbin b =>
    if d.rbit Reg.DST_BOBMAP (4 + b.val) then (d, true)
    else if b.val = 2 ∨ b.val ∉ d.pair then (d.replaceCore b, true)
    else if d.rbit Reg.DST_SPARE 6 then (d.replaceCore b, true)
    else (d, false)
  | .leg n =>
    ((((d.legOff n).modPort n fun p => { p with hold := true, retryWait := false }).orReg (pStat n) 0x800004), true)
  | .distaff => (d, false)

/-- Whether no free spare of a unit's kind is left (R433). -/
def Dev.lastSpare (d : Dev) : Retiree → Bool
  | .bank _ => decide (d.fld Reg.DST_SPARE 5 4 = 0)
  | .spindle _ => decide (d.fld Reg.DST_SPARE 1 0 = 0)
  | .lane _ => decide (d.fld Reg.DST_SPARE 3 2 = 0)
  | .bobbin _ => !d.rbit Reg.DST_SPARE 6
  | _ => false

/-- Whether a unit is in service, so that its retirement needs a spare (R430, R433). -/
def Dev.inService (d : Dev) : Retiree → Bool
  | .bank p => (d.logBank p).isSome
  | .spindle p => (d.logSpn p).isSome || d.cr.takeovers.any fun t => decide (t.2 = p.val)
  | .lane k => (d.groupOf k).isSome
  | .bobbin b => decide (b.val ∈ d.pair)
  | _ => false

/-- REACTION_RETIRE (R422, R430, R433): a spare comes in with a retire record, or as FSAFE. SVCREQ is set when the last
free spare of the kind has come into service, or when there was none; an unused unit that is retired restarts nothing. -/
def Dev.reactRetire (d : Dev) (x : SrcInst) : Dev :=
  match d.unitOfSrc x with
  | none => d
  | some u =>
    let r := d.retireUnit u
    if d.isRetired u then d
    else if r.2 then
      let d1 := ((r.1.recordDue (d.retireRec x)).recount)
      let d2 := match u with
        | .bobbin _ => d1.when (d.inService u) Dev.startApp
        | _ => d1
      if d.inService u && d2.lastSpare u then d2.svcReq else d2
    else (d.fsafeUsers x).svcReq

/-! ### Degraded functions (R432) -/

/-- The loops of a function that belong to a set: those whose Whorl list lies in it. -/
def Dev.setLoops (d : Dev) (e : FnEntry) (k : Nat) : List (Nat × Nat) :=
  (d.loopsOf e).filter fun l => match d.whorlList l.1 l.2 with
    | n :: _ => decide (setOf e n = k)
    | [] => false

/-- RETIRED: every port held at its safe state, DST_FRET (R432). -/
def Dev.fnRetire (d : Dev) (f : Nat) : Dev :=
  let st := d.fnSafe f
  match d.fnEntry f with
  | none => d
  | some e =>
    (((portsOf e).foldl (fun d n => d.orderPort n (if (d.fn f).sets.testBit (setOf e n) then 0 else st))
      ((d.resistorB f).setRbit Reg.DST_FRET f true)).modFn f fun x => (x.settle.enter 9).modC fun c => { c with notice := true })

/-- REACTION_DEGRADE (R432): the leg is retired; its function runs on one set, or is RETIRED: also when the leg lies in a
set that runs no more. One that is retired already has had its reaction (R426). -/
def Dev.reactDegrade (d : Dev) (x : SrcInst) : Dev :=
  match d.unitOfSrc x with
  | some (.leg n) =>
    if d.isRetired (.leg n) then d else
    let d1 := (d.retireUnit (.leg n)).1.recordDue (d.retireRec x)
    match (List.range 32).find? fun f => match d.fnEntry f with
        | some e => e.ports.getLsbD n
        | none => false with
    | none => d1
    | some f =>
      match d1.fnEntry f with
      | none => d1
      | some e =>
        let k := setOf e n
        let sets := (d1.fn f).sets
        if e.dset && decide (sets = 0) then
          let d2 := ((d1.setLoops e k).foldl
            (fun e l => if h : l.1 < 18 ∧ l.2 < 4 then e.unitDisable (.loop ⟨l.1, h.1⟩ ⟨l.2, h.2⟩) else e) d1)
          let d3 := ((portsOf e).filter fun m => decide (setOf e m = k)).foldl (fun d m => d.orderPort m 0) d2
          (((d3.modFn f fun y => { y with sets := 2 ^ k }).setRbit Reg.DST_FDEG f true).writeThermal).svcReq
        else (d1.fnRetire f).svcReq
  | _ => d

/-! ### The application restart (R431) -/

/-- REACTION_RESTART: the pair stops, the cores are tested; on a severe reaction each failed core is retired, and the
application starts again where two passing cores are left; a transient one retires none. When both cores of the pair
fail, no passing core remains to pair with, and the device goes to SAFE (DEDUCED, notes/assumptions/38.md). SVCREQ is set
when a core of the pair is retired: C was the only spare (R433). -/
def Dev.reactRestart (d : Dev) (x : SrcInst) (severe : Bool) (failed : List Nat) : Dev :=
  let d1 := d.pair.foldl (fun e b => e.stopCore b) d
  let dead := if severe then (d.pair ++ [2]).eraseDups.filter fun b => b ∈ failed && !d.rbit Reg.DST_BOBMAP (4 + b) else []
  let live := [0, 1, 2].filter fun b => !d.rbit Reg.DST_BOBMAP (4 + b) && !(severe && b ∈ failed) &&
    (b ∈ d.pair || d.rbit Reg.DST_SPARE 6)
  let d2 := (if 2 ∈ dead then d1.replaceCore 2 else d1)
  let d3 := (dead.filter (· ≠ 2)).foldl (fun e b => e.replaceCore b) d2
  let d4 := dead.foldl (fun e b => e.recordDue (d.retireRec (srcInst x.src.toNat b))) d3
  let d5 := d4.when (dead.any fun b => b ∈ d.pair) Dev.svcReq
  if live.length < 2 ∨ d.pair.all (fun b => b ∈ failed) then d5.enterSafe x 2 else d5.startApp

/-! ### RETRY (R423, R241) -/

/-- The restart of a trapped or overrun loop (R241): EN is cleared, and set again once ACT reads 0, which may be at
once. -/
def Dev.restartLoop (d : Dev) (p : Fin 18) (l : Fin 4) : Dev :=
  if d.loopEn p l then
    let d1 := (d.unitDisable (.loop p l)).modSn fun y => { y with restarts := y.restarts ++ [(p.val, l.val)] }
    (d1.boundary (.loop p l)).restartDue (.loop p l)
  else d

/-- REACTION_RETRY; for a Bobbin source a restart with its self-test, which `failed` gives (R431). -/
def Dev.reactRetry (d : Dev) (x : SrcInst) (failed : List Nat) : Dev :=
  let s := x.src.toNat
  let i := x.inst.toNat
  if s = Src.SPN_TRAP ∨ s = Src.SPN_OVR then
    (if h : d.physSpn (i / 4) < 18 then d.restartLoop ⟨d.physSpn (i / 4), h⟩ ⟨i % 4, by omega⟩ else d)
  else if 64 ≤ s ∧ s ≤ 66 then d.reactRestart x false failed
  else d

end Sys2Proof.Machine
end

