-- ==== Sys2Proof/Machine/Snarl.lean ====
section
/-! DEFINITION. The Snarl (13_faults_and_safety.md): events, counts and reactions, the retention latches, the safety
pins, FLT_N, the watchdogs and fault injection; and the urgent codes of the leg dies (R14, R300). -/

namespace Sys2Proof.Machine

/-! ### Who may write (R29, R460, R517, R535) -/

/-- A register write by a master: a service session needs the SERVICE role in mode SERVICE, the HSPI host its WRITE
right; a refused access raises LNK_ERR of the HSPI link. Before the PLL runs there is no access (R19). -/
def Dev.asMaster (d : Dev) (m : Master) (f : Dev → Dev) : Dev :=
  let done := fun (d : Dev) => (f d).answer .ok
  if !d.clocked then d
  else match m with
    | .session =>
      if (d.sv.role.any fun r => decide (2 ≤ r)) && decide (d.mode = 10) then done d else d.answer .rights
    | .hspi =>
      if d.rbit Reg.HSPI_RIGHTS 1 then done d else (d.raise 161 7).answer .rights
    | _ => done d

/-! ### Sources (R420, R518, R539) -/

/-- The number of instances of a source; 0 for a number that is never raised. -/
def srcCount (s : Nat) : Nat :=
  if s ≤ 4 then 1 else if 8 ≤ s ∧ s ≤ 15 then 1
  else if 16 ≤ s ∧ s ≤ 19 then 18 else if 32 ≤ s ∧ s ≤ 35 then 18 else if 36 ≤ s ∧ s ≤ 37 then 32
  else if s = 38 then 24 else if s = 39 then 64 else if s = 40 then 4 else if s = 41 then 10
  else if s = 48 then 18 else if 49 ≤ s ∧ s ≤ 52 then 64 else if 64 ≤ s ∧ s ≤ 66 then 3
  else if 80 ≤ s ∧ s ≤ 81 then 64 else if 96 ≤ s ∧ s ≤ 102 then 32 else if 112 ≤ s ∧ s ≤ 120 then 32
  else if 128 ≤ s ∧ s ≤ 136 then 1 else if 160 ≤ s ∧ s ≤ 164 then 18 else if 192 ≤ s ∧ s ≤ 223 then 1
  else 0

def srcOk (x : SrcInst) : Bool := decide (x.inst.toNat < srcCount x.src.toNat)

/-- The entry of a source (R447, SNL_SCFG): N is 1 and the reactions are NONE until a table gives another. -/
def Dev.scfg (d : Dev) (s : Nat) : Word := smGet (fun _ => 1) d.sn.scfg s

/-- The window of a source in microseconds (R421). -/
def windowUs (code : Nat) : Nat := if code = 12 then 10000000 else 4 ^ code

/-- The place of an instance in the counts. -/
def cntKey (x : SrcInst) : Nat := x.src.toNat * 128 + x.inst.toNat

/-! ### The collector (R427, R428) -/

/-- Every bit of STICKY and FIRST is 0. -/
def Dev.snlClean (d : Dev) : Bool :=
  (List.range 8).all fun j => decide (d.reg (Reg.SNL_STICKY j) = 0) && decide (d.reg (Reg.SNL_FIRST j) = 0)

/-- SNL_STAT.CLEAN follows the masks. -/
def Dev.showClean (d : Dev) : Dev := d.setRbit Reg.SNL_STAT 0 d.snlClean

/-- A source's bit in a set of eight masks. -/
def Dev.setMask (d : Dev) (base : Nat → Nat) (s : Nat) : Dev := d.setRbit (base (s / 32)) (s % 32) true

/-! ### FLT_N (R440, R441) -/

/-- The pin follows PULSE, LATCH and ASSERT. -/
def Dev.showFlt (d : Dev) : Dev :=
  d.setRbit Reg.DST_FLT 0 (d.rbit Reg.DST_FLT 1 || d.rbit Reg.DST_FLT 2 || d.rbit Reg.DST_FLT 3)

/-- Whether FLT_N is driven low: also while RST_N is low and until BOOT ends (R441). -/
def Dev.fltLow (d : Dev) : Bool := d.rbit Reg.DST_FLT 0 || d.su.resetLow || decide (d.mode ≤ 1)

/-- The minimum pulse starts again, and LATCH is set. -/
def Dev.fltEvent (d : Dev) : Dev :=
  (((d.setRbit Reg.DST_FLT 1 true).setRbit Reg.DST_FLT 2 true).showFlt).modSu fun x => { x with fltAt := d.now }

/-- The minimum pulse ends once 100 us have passed since its last start (R440). -/
def Dev.fltPulseEnd (d : Dev) : Dev :=
  if d.su.fltAt + ticksUs 100 ≤ d.now then (d.setRbit Reg.DST_FLT 1 false).showFlt else d

/-! ### Counting (R421) and reactions (R422, R426) -/

/-- The sources whose reactions are fixed (R426). -/
def fixedSrc (s : Nat) : Bool := s = 0 || s = 1 || s = 2 || s = 13 || s = 14 || s = 15

/-- The severe reaction of a source: DSAFE for the Distaff's own and the hard cut, none for LINEFLT and the pins. -/
def Dev.sreact (d : Dev) (s : Nat) : Nat :=
  if s = 1 ∨ s = 2 ∨ s = 13 then 5 else if fixedSrc s then 0 else bitsOf (d.scfg s) 13 11

def Dev.treact (d : Dev) (s : Nat) : Nat := if fixedSrc s then 0 else bitsOf (d.scfg s) 10 8

/-- The count of an event in its window: the new count, and whether the event is severe. -/
def Dev.countEvent (d : Dev) (x : SrcInst) : SnlCnt × Bool :=
  let s := x.src.toNat
  let c := d.snlCnt (cntKey x)
  let us := d.now / 480
  let n := if fixedSrc s then 1 else max 1 (bitsOf (d.scfg s) 3 0)
  let still := c.opened && decide (us < c.start + windowUs (bitsOf (d.scfg s) 7 4))
  let count := (if still then c.count else 0) + 1
  let start := if still then c.start else us
  if n ≤ count then (⟨false, start, 0, satInc 24 c.events⟩, true)
  else (⟨true, start, count, satInc 24 c.events⟩, false)

/-- The rank of a reaction in one cycle (R426). -/
def reactRank (code : Nat) : Nat :=
  match code with
  | 5 => 0
  | 4 => 1
  | 3 => 2
  | 2 => 3
  | 6 => 4
  | _ => 5

/-- A reaction falls due; code 0 does nothing. A severe one but DSAFE, whose record the entry into SAFE makes, is
recorded (R504). -/
def Dev.reactDue (d : Dev) (x : SrcInst) (code : Nat) (severe : Bool) : Dev :=
  if code = 0 then d
  else
    let d1 := d.modSn fun y => { y with due := y.due ++ [⟨code, x, severe⟩] }
    d1.when (severe && decide (code ≠ 5)) fun e => e.recordDue (e.faultRec x code)

/-- FLT_N and the notice of an event, and the Reels that trigger on it (R414, R440, SNL_SCFG). -/
def Dev.announce (d : Dev) (x : SrcInst) : Dev :=
  let c := d.scfg x.src.toNat
  ((d.when (bitOf c 14) Dev.fltEvent).when (bitOf c 18) fun d => d.setRbit Reg.SNL_NOTE (bitsOf c 17 16) true).reelSnarl
    x.src.toNat

/-- One event of an instance (R421). -/
def Dev.oneEvent (d : Dev) (x : SrcInst) : Dev :=
  let r := d.countEvent x
  let s := x.src.toNat
  ((d.setSnlCnt (cntKey x) r.1).announce x).reactDue x (if r.2 then d.sreact s else d.treact s) r.2

/-- The masks take the sources of a cycle: FIRST only in a clean cycle (R427, R428). -/
def Dev.masks (d : Dev) (es : List SrcInst) : Dev :=
  let clean := d.snlClean
  (es.foldl
    (fun d x => (d.setMask Reg.SNL_STICKY x.src.toNat).when clean fun d => d.setMask Reg.SNL_FIRST x.src.toNat) d).showClean

/-- Whether a reaction restarts the application (R422, R423): RESTART, and RETRY of a Bobbin source. -/
def Due.restarts (r : Due) : Bool :=
  decide (r.code = 6) || (decide (r.code = 1) && decide (64 ≤ r.e.src.toNat) && decide (r.e.src.toNat ≤ 66))

/-- Whether a reaction restarts a loop (R423): RETRY of SPN_TRAP or SPN_OVR. -/
def Due.restartsLoop (r : Due) : Bool :=
  decide (r.code = 1) && (decide (r.e.src.toNat = Src.SPN_TRAP) || decide (r.e.src.toNat = Src.SPN_OVR))

/-- Whether a reaction takes the effect of a later one of its cycle (R426): one restart of the application, the severe one
where there is one; one restart of a loop. -/
def Due.covers (a b : Due) : Bool :=
  (a.restarts && b.restarts && (a.severe || !b.severe)) || (a.restartsLoop && b.restartsLoop && decide (a.e.inst = b.e.inst))

/-- The reactions that one cycle added stand in R426's order, without those whose effect an earlier one takes. -/
def Dev.sortDue (d : Dev) (old : Nat) : Dev :=
  let new := d.sn.due.drop old
  let sorted := (List.range 6).flatMap fun k => new.filter fun x => reactRank x.code = k
  d.modSn fun y =>
    { y with due := y.due.take old ++ sorted.foldl (fun acc r => if acc.any fun a => a.covers r then acc else acc ++ [r]) [] }

/-- The Snarl samples every pair (R418), one CLK_BOB cycle: those of the reports raised since the last cycle, and those that
read (1,0) from outside. A pair that read (1,0) in the last cycle too is no event again. -/
def Dev.snarlCycle (d : Dev) (evs : List SrcInst) : Dev :=
  let es := ((d.reports ++ evs).eraseDups.filter srcOk).filter fun x => x ∉ d.sn.high
  let old := d.sn.due.length
  let d1 := { d with reports := [], sn := { d.sn with high := evs } }
  ((es.foldl (fun d x => d.oneEvent x) (d1.masks es))).sortDue old

/-- A CLK_BOB cycle in which no pair reads (1,0) from outside. -/
def Dev.snarlSample (d : Dev) : Dev := if d.reports.isEmpty && d.sn.high.isEmpty then d else d.snarlCycle []

/-- A wire fault (R419): LINEFLT, and an event of the instance's own source, which counts as any (R421) and takes its severe
reaction at once, whatever the count. -/
def Dev.wireFault (d : Dev) (x : SrcInst) : Dev :=
  if srcOk x then
    let lf := srcInst Src.LINEFLT 0
    let old := d.sn.due.length
    let d1 := (d.masks [lf, x]).oneEvent lf
    (((d1.setSnlCnt (cntKey x) (d1.countEvent x).1).announce x).reactDue x (d.sreact x.src.toNat) true).sortDue old
  else d

/-- A count window expires (R421): once W has passed since its start it closes, and its count is discarded. -/
def Dev.windowExpiry (d : Dev) (x : SrcInst) : Dev :=
  let c := d.snlCnt (cntKey x)
  if c.opened && decide (c.start + windowUs (bitsOf (d.scfg x.src.toNat) 7 4) ≤ d.now / 480) then
    d.setSnlCnt (cntKey x) { c with opened := false, count := 0 }
  else d

/-- A reaction is carried out at its turn (R426): the first of those due, which leaves the list; one that is not due, or not
yet at its turn, does nothing (DEDUCED, notes/assumptions/35.md). -/
def Dev.reactTurn (d : Dev) (code : Nat) (x : SrcInst) (act : Dev → Bool → Dev) : Dev :=
  match d.sn.due with
  | [] => d
  | r :: rest =>
    if r.code = code ∧ r.e = x then act (d.modSn fun y => { y with due := rest }) r.severe else d

/-! ### The pins (R436, R439) -/

/-- Every leg to the state that the pins order: OFF by SOFF_N; by SASC_N ASC-H or ASC-L for ASC-capable functions. -/
def Dev.pinOrders (d : Dev) (off : Bool) : Dev :=
  let d1 := (List.range 32).foldl
    (fun d f => match d.fnEntry f with
      | some e => d.fsafeTo f (if off || !e.ascCap then 0 else if e.safe = 2 then 2 else 1)
      | none => d) d
  (List.range 64).foldl
    (fun d n => if (List.range 32).any fun f => (d.fnEntry f).any fun e => e.ports.getLsbD n then d else d.orderPort n 0) d1

def Dev.soffAccept (d : Dev) : Dev :=
  (((d.setRbit Reg.DST_PINS 0 true).setRbit Reg.DST_PINS 2 true).raise Src.PIN_SOFF 0).pinOrders true

def Dev.sascAccept (d : Dev) : Dev :=
  (((d.setRbit Reg.DST_PINS 1 true).setRbit Reg.DST_PINS 3 true).raise Src.PIN_SASC 0).pinOrders (d.rbit Reg.DST_PINS 0)

/-- Ports of no function follow their Whorls again once neither pin is asserted. -/
def Dev.freePorts (d : Dev) : Dev :=
  (List.range 64).foldl
    (fun d n => if (List.range 32).any fun f => (d.fnEntry f).any fun e => e.ports.getLsbD n then d else d.releasePort n) d

/-- A pin is released; SASC_N still asserted governs after SOFF_N. -/
def Dev.pinRelease (d : Dev) (sasc : Bool) : Dev :=
  let d1 := d.setRbit Reg.DST_PINS (if sasc then 1 else 0) false
  if d1.rbit Reg.DST_PINS 0 then d1
  else if d1.rbit Reg.DST_PINS 1 then (if sasc then d1 else d1.pinOrders false)
  else if d.rbit Reg.DST_PINS (if sasc then 1 else 0) then d1.freePorts
  else d1

/-- The images of an ordered safe state are committed, if they still are due (R336). -/
def Dev.fnSettleLegs (d : Dev) (f : Nat) : Dev :=
  if (d.fn f).c.legsDue then (d.fnLegs f (d.fnSafe f)).modCtr f fun c => { c with legsDue := false } else d

/-- A release of one function (R439). -/
def Dev.fnRelease (d : Dev) (f : Nat) : Dev :=
  if !d.rbit Reg.DST_PINS 0 && !d.rbit Reg.DST_PINS 1 && (decide (d.mode = 6) || decide (d.mode = 7)) &&
      !d.rbit Reg.DST_FRET f then
    match d.fnEntry f with
    | some e =>
      (portsOf e).foldl
        (fun d n => if (d.fn f).sets.testBit (setOf e n) then d else d.releasePort n)
        ((d.fnSettleLegs f).setRbit Reg.DST_FSAFE f false)
    | none => d
  else d

/-- A write to DST_FREL. -/
def Dev.writeFrel (d : Dev) (v : Word) : Dev := (List.range 32).foldl (fun e f => if bitOf v f then e.fnRelease f else e) d

/-! ### Watchdogs (R420, R442, R463) -/

/-- What a session holds goes with it; the failed AUTHs stay (R514, R516). -/
def Dev.dropSession (d : Dev) : Dev :=
  d.modSv fun x => { SessionSt.reset with fails := x.fails, lockout := x.lockout, lockAt := x.lockAt, sent := x.sent }

/-- The Distaff watchdog bites (R442, R463): safe states, FLT_N, DST_WDG, the Distaff and the Bobbins reset, which
frees their locks (R71) and starts the pair at its entry address (R164), SAFE; the open session ends (R516). Before LOAD has
ended the pair starts all the same, at DST_BENTRY as it stands (DESIGN CHOICE, notes/assumptions/88.md). -/
def Dev.distaffBite (d : Dev) : Dev :=
  if d.mode = 0 ∨ d.mode = 0xB then d
  else
    let x := srcInst Src.DST_WDG 0
    let d1 := (d.fsafeAll.fltEvent).snarlCycle [x]
    let d2 := (([0, 1, 2].foldl (fun e b => e.stopCore b) (d1.modSn fun y => { y with due := [] })).resetRequester
      reqDistaff).startApp
    let d3 := (List.range 8).foldl
      (fun e j => (e.setReg (Reg.SNL_RSTK j) (smGet (fun _ => 0) d.sn.latS j)).setReg (Reg.SNL_RFST j)
        (smGet (fun _ => 0) d.sn.latF j)) d2
    (((d3.setRbit Reg.SNL_STAT 1 true).setFld Reg.DST_RSTC 3 0 5).enterSafe x 2).dropSession

/-- A write to DST_BKICK (R420): the key restarts the count, any other value raises BOB_WDG at once. -/
def Dev.kick (d : Dev) (b : Nat) (v : Word) : Dev :=
  if bitsOf v 15 0 = 0x4B1C then d.modSu fun x => { x with kicks := smSet (fun _ => 0) x.kicks b d.now }
  else d.raise Src.BOB_WDG b

/-- BOB_WDG bites when 1.0 ms has passed on a running core without a kick (R420); the count starts again. -/
def Dev.bobbinBite (d : Dev) (b : Nat) : Dev :=
  if (d.bob b).running && decide (smGet (fun _ => 0) d.su.kicks b + ticksUs 1000 ≤ d.now) then
    (d.raise Src.BOB_WDG b).modSu fun x => { x with kicks := smSet (fun _ => 0) x.kicks b d.now }
  else d

/-! ### Fault injection (R443 to R445) -/

/-- Whether a source has a checker that takes an injection (R443): each drives its report on a dual-rail pair (R418). The
Snarl's own LINEFLT, the governor's step, the pins, the session's refusals and the software sources have none (DEDUCED,
notes/assumptions/93.md). -/
def injectable (x : SrcInst) : Bool :=
  let s := x.src.toNat
  srcOk x && !(decide (s = 0) || decide (s = 4) || decide (s = 14) || decide (s = 15) || decide (s = 134) || decide (s = 135) ||
    decide (192 ≤ s))

/-- The source whose checker fires: on Skein ECC one inverted bit is a correctable error, all of them an uncorrectable one
(R443). -/
def injectedSrc (x : SrcInst) (all : Bool) : SrcInst :=
  if x.src.toNat = Src.SKN_CE ∨ x.src.toNat = Src.SKN_UE then srcInst (if all then Src.SKN_UE else Src.SKN_CE) x.inst.toNat else x

/-- A write to SNL_INJ: the fields and GO. -/
def Dev.writeInj (d : Dev) (v : Word) : Dev :=
  let busy := d.rbit Reg.SNL_INJ 17
  let d1 := d.setReg Reg.SNL_INJ
    ((d.reg Reg.SNL_INJ &&& 0xFFFF0000) ||| (v &&& 0xFFFF))
  let x := srcInst (bitsOf v 7 0) (bitsOf v 14 8)
  if bitOf v 16 && !busy && (d.mode = 6 || d.mode = 7 || d.mode = 4 || d.mode = 10) then
    if injectable x then
      (d1.setRbit Reg.SNL_INJ 17 true).modSn fun y => { y with inject := some ⟨x, bitOf v 15, d.now⟩ }
    else d1.setRbit Reg.SNL_INJ 20 true
  else d1

/-- The injected event (R444): tagged, and nothing else but the Reels that trigger on it (R414). -/
def Dev.injected (d : Dev) : Dev :=
  match d.sn.inject with
  | some j =>
    let x := injectedSrc j.e j.all
    ((((d.setMask Reg.SNL_INJSTK x.src.toNat).setRbit Reg.SNL_INJ 18 true).setRbit Reg.SNL_INJ 17 false).modSn fun y =>
      { y with inject := none }).reelSnarl x.src.toNat
  | none => d

/-- No check within 10 ms of GO (R445). -/
def Dev.injTimeout (d : Dev) : Dev :=
  match d.sn.inject with
  | some j =>
    if j.since + ticksMs 10 ≤ d.now then
      ((d.setRbit Reg.SNL_INJ 19 true).setRbit Reg.SNL_INJ 17 false).modSn fun y => { y with inject := none }
    else d
  | none => d

/-! ### The retention latches (R429) -/

/-- The latches take the set bits of STICKY and FIRST. -/
def Dev.latch (d : Dev) : Dev :=
  let cp := fun (m : SMap Word) (base : Nat → Nat) =>
    (List.range 8).foldl (fun m j => smSet (fun _ => 0) m j (smGet (fun _ => 0) m j ||| d.reg (base j))) m
  d.modSn fun y => { y with latS := cp y.latS Reg.SNL_STICKY, latF := cp y.latF Reg.SNL_FIRST }

/-- SNL_CTL.RCLR. -/
def Dev.retainedClear (d : Dev) : Dev :=
  let d1 := (List.range 8).foldl (fun e j => (e.setReg (Reg.SNL_RSTK j) 0).setReg (Reg.SNL_RFST j) 0) d
  (d1.setRbit Reg.SNL_STAT 1 false).modSn fun y => { y with latS := [], latF := [] }

/-! ### Urgent codes and function-level short circuits (R14, R272, R300) -/

/-- The other legs of a group that have SCM set. -/
def Dev.groupScm (d : Dev) (g n : Nat) : List Nat :=
  (List.range 64).filter fun m => decide (m ≠ n) && decide (d.tripGrp m = g) && d.rbit (pStat m) 6

/-- When the fault that a leg's short circuit belongs to was first reported (R300): with the first report of a fault on
several legs that it is held for, else with its own. -/
def Dev.firstSc (d : Dev) (n : Nat) : Option Nat := (d.port n).scmAt.or (d.port n).scAt

/-- The legs of a group whose faults were first reported within 1 000 ns before now, inclusive. -/
def Dev.recentSc (d : Dev) (g : Nat) : List Nat :=
  (List.range 64).filter fun m => decide (d.tripGrp m = g) && (match d.firstSc m with
    | some t => decide (d.now ≤ t + 480)
    | none => false)

/-- A function-level short circuit (R300), first reported at `first`: the reporting legs latch with SCM and SCS, HVP_SCM or
LVP_SCM is raised, and every port of the group goes to its function's safe state. -/
def Dev.multiSc (d : Dev) (g : Nat) (legs : List Nat) (first : Option Nat) : Dev :=
  let d1 := legs.foldl
    (fun e m =>
      let x := pSrc m Src.HVP_SCM Src.LVP_SCM
      (((e.latchLeg m).modPort m fun p => { p with scmAt := first }).orReg (pStat m) 0x240).raise x.src.toNat
        x.inst.toNat) d
  let ports := (List.range 64).filter fun m => decide (d.tripGrp m = g)
  let fns := (List.range 32).filter fun f => (d.fnEntry f).any fun e => ports.any fun m => e.ports.getLsbD m
  let d2 := ports.foldl
    (fun e m => match fns.find? fun f => (d.fnEntry f).any fun y => y.ports.getLsbD m with
      | some f => e.orderPort m (match d.fnEntry f with
        | some y => if (d.fn f).sets.testBit (setOf y m) then 0 else d.fnSafe f
        | none => 0)
      | none => e.orderPort m 0) d1
  fns.foldl
    (fun e f =>
      (e.setRbit Reg.DST_FSAFE f true).fnHeld f) d2

/-- An urgent code reaches the control die (R14): its source is raised; a short-circuit report asserts lines 76 and 77
(R272) and is judged with the other reports of its group (R300): within 1 000 ns of the first report of a fault it
joins or makes a fault on several legs; alone while an older one stands in the group it latches without a retry. -/
def Dev.urgentArrive (d : Dev) (n : Nat) : Dev :=
  match smGet (fun _ => []) d.pt.urgent n with
  | [] => d
  | x :: rest =>
    let d1 := (d.modPt fun y => { y with urgent := smSet (fun _ => []) y.urgent n rest }).raise x.src.toNat x.inst.toNat
    if x.src.toNat = Src.HVP_SC ∨ x.src.toNat = Src.LVP_SC then
      let g := d.tripGrp n
      let d2 := (d1.modPort n fun p => { p with scAt := some d.now, scmAt := none, line := p.hold }).tripAll d1
      let legs := d2.recentSc g
      if 2 ≤ legs.length then
        d2.multiSc g (legs.filter fun m => (d2.port m).scmAt.isNone) ((legs.filterMap d2.firstSc).min?)
      else if d2.groupScm g n ≠ [] then d2.latchLeg n
      else d2
    else d1

/-! ### The commands -/

/-- SNARL_EVENT (R418, R421, R427, R428). -/
def execSnarlEvent (evs : List SrcInst) (s : State) : Host.Outcome State Fault Refusal := s.run fun d => d.snarlCycle evs

/-- WIRE_FAULT (R419). -/
def execWireFault (e : SrcInst) (s : State) : Host.Outcome State Fault Refusal := s.run fun d => d.wireFault e

/-- COUNT_WINDOW_EXPIRY (R421): the window closes and its count is discarded. -/
def execCountWindowExpiry (e : SrcInst) (s : State) : Host.Outcome State Fault Refusal :=
  s.run fun d => d.windowExpiry e

/-- RETENTION_LATCH_COPY (R429). -/
def execRetentionLatchCopy (s : State) : Host.Outcome State Fault Refusal := s.act fun d => d.latch

/-- REACTION_RETRY (R423). -/
def execReactionRetry (e : RetryCase) (s : State) : Host.Outcome State Fault Refusal :=
  s.run fun d => d.reactTurn 1 e.src fun d _ => d.reactRetry e.src (e.failed.map Fin.val)

/-- REACTION_RETIRE (R430). -/
def execReactionRetire (e : SrcInst) (s : State) : Host.Outcome State Fault Refusal :=
  s.run fun d => d.reactTurn 2 e fun d _ => d.reactRetire e

/-- REACTION_DEGRADE (R432). -/
def execReactionDegrade (e : SrcInst) (s : State) : Host.Outcome State Fault Refusal :=
  s.run fun d => d.reactTurn 3 e fun d _ => d.reactDegrade e

/-- REACTION_FSAFE (R422). -/
def execReactionFsafe (e : SrcInst) (s : State) : Host.Outcome State Fault Refusal :=
  s.run fun d => d.reactTurn 4 e fun d _ => d.fsafeUsers e

/-- REACTION_DSAFE (R422, R459): from any of BOOT to SERVICE. -/
def execReactionDsafe (e : SrcInst) (s : State) : Host.Outcome State Fault Refusal :=
  s.run fun d => d.reactTurn 5 e fun d _ => d.enterSafe e 2

/-- REACTION_RESTART (R431), as the severe or the transient reaction that is due. -/
def execReactionRestart (e : SrcInst) (severe : Bool) (failed : List (Fin 3)) (s : State) :
    Host.Outcome State Fault Refusal :=
  s.run fun d => d.reactTurn 6 e fun d1 sev =>
    if sev = severe then d1.reactRestart e severe (failed.map Fin.val) else d

/-- SOFF_ACCEPT (R436). -/
def execSoffAccept (s : State) : Host.Outcome State Fault Refusal := s.run fun d => d.soffAccept

/-- SASC_ACCEPT (R436). -/
def execSascAccept (s : State) : Host.Outcome State Fault Refusal := s.run fun d => d.sascAccept

/-- SAFETY_PIN_RELEASE (R436). -/
def execSafetyPinRelease (sasc : Bool) (s : State) : Host.Outcome State Fault Refusal := s.run fun d => d.pinRelease sasc

/-- FUNCTION_RELEASE (R439). -/
def execFunctionRelease (m : Master) (v : Word) (s : State) : Host.Outcome State Fault Refusal :=
  s.act fun d => d.asMaster m fun d => d.writeFrel v

/-- FLT_PULSE_END (R440, R441). -/
def execFltPulseEnd (s : State) : Host.Outcome State Fault Refusal :=
  s.act fun d => d.fltPulseEnd

/-- DISTAFF_WATCHDOG_BITE (R442). -/
def execDistaffWatchdogBite (s : State) : Host.Outcome State Fault Refusal := s.act fun d => d.distaffBite

/-- BOBBIN_WATCHDOG_KICK (DST_BKICK). -/
def execBobbinWatchdogKick (m : Master) (b : Fin 3) (v : Word) (s : State) : Host.Outcome State Fault Refusal :=
  s.act fun d => d.asMaster m fun d => d.kick b v

/-- BOBBIN_WATCHDOG_BITE (R420). -/
def execBobbinWatchdogBite (b : Fin 3) (s : State) : Host.Outcome State Fault Refusal :=
  s.run fun d => d.bobbinBite b

/-- FAULT_INJECTION_ARM (R443); the write clears the W1C bits that it names. -/
def execFaultInjectionArm (m : Master) (v : Word) (s : State) : Host.Outcome State Fault Refusal :=
  s.act fun d => d.asMaster m fun d =>
    (d.setReg Reg.SNL_INJ (d.reg Reg.SNL_INJ &&& ~~~(v &&& 0x1C0000))).writeInj v

/-- INJECTED_EVENT (R444). -/
def execInjectedEvent (s : State) : Host.Outcome State Fault Refusal := s.run fun d => d.injected

/-- FAULT_INJECTION_TIMEOUT (R445). -/
def execFaultInjectionTimeout (s : State) : Host.Outcome State Fault Refusal := s.run fun d => d.injTimeout

/-- USER_SOURCE_RAISE (SNL_USR). -/
def execUserSourceRaise (m : Master) (v : Word) (s : State) : Host.Outcome State Fault Refusal :=
  s.act fun d => d.asMaster m fun d => (List.range 32).foldl (fun e i => if bitOf v i then e.raise (192 + i) 0 else e) d

/-- RETAINED_CLEAR (SNL_CTL.RCLR). -/
def execRetainedClear (m : Master) (s : State) : Host.Outcome State Fault Refusal :=
  s.act fun d => d.asMaster m fun d => d.retainedClear

/-- URGENT_CODE (R14, R300). -/
def execUrgentCode (n : Fin 64) (s : State) : Host.Outcome State Fault Refusal := s.run fun d => d.urgentArrive n

/-- ADAPTATION_WINDOW_CLOSE (R288): CAL takes the counts; a TEST window's end appends a calibration record, or sets CALNW
when flash writes are not permitted. -/
def execAdaptationWindowClose (n : Fin 64) (w : AdaptWindow) (s : State) : Host.Outcome State Fault Refusal :=
  s.act fun d =>
    let d1 := d.closeWin n w
    if w = .test ∧ d1 ≠ d then
      if d1.rbit Reg.THM_STAT 8 && !d1.rbit Reg.GOV_STAT 9 then
        d1.recordDue { kind := 3, tag := 0, data := (List.range 64).map fun p => d1.reg (pCal p) }
      else d1.setRbit (pStat n) 25 true
    else d1

end Sys2Proof.Machine
end

