-- ==== Sys2Proof/Machine/Thermal.lean ====
section
/-! DEFINITION. Temperature, throttling and supply sag (15_thermal_and_supply.md), the clock reports (R19, R20), and the
housekeeping round that judges a RUN request (R471). -/

namespace Sys2Proof.Machine

/-! ### The junction temperature (R476, R477) -/

/-- The reading of a TDIODE code, in units of 0.125 degrees; the half rounds up (notes/assumptions/40.md). -/
def Dev.tempOf (d : Dev) (code : Nat) : Int :=
  200 + (((d.fld Reg.THM_TRIM 27 16 : Nat) - (code : Int)) * (d.fld Reg.THM_TRIM 11 0 : Nat) + 256) / 512

/-- Whether a reading is invalid (R477). -/
def Dev.badReading (d : Dev) (code : Nat) : Bool :=
  decide (code = 0) || decide (code = 0xFFF) || decide (d.tempOf code < -480) || decide (1600 < d.tempOf code)

/-- The last valid TEMP. -/
def Dev.temp (d : Dev) : Int := signed 16 (d.fld Reg.THM_TJ 15 0)

/-- TEMP, its round and the extremes. -/
def Dev.writeTemp (d : Dev) (t : Int) : Dev :=
  let d1 := d.setReg Reg.THM_TJ (BitVec.ofNat 32 (d.fld Reg.HKP_STAT 7 0 * 0x1000000 + 0x10000 + (t % 65536).toNat))
  let d2 := if signed 16 (d1.fld Reg.THM_MAX 31 16) < t then d1.setFld Reg.THM_MAX 31 16 (t % 65536).toNat else d1
  let d3 := if t < signed 16 (d2.fld Reg.THM_MAX 15 0) then d2.setFld Reg.THM_MAX 15 0 (t % 65536).toNat else d2
  d3.modFl fun x =>
    if signed 16 x.wear.tmax.toNat < t then { x with wear := { x.wear with tmax := BitVec.ofNat 32 (t % 65536).toNat } } else x

/-! ### The levels (R478, R479) -/

/-- A level: its bit of THM_STAT, its source, whether it is a cold one, its trip and release values (none: R479). -/
structure ThmLevel where
  bit : Nat
  src : Nat
  cold : Bool
  trip : Int
  release : Option Int
  deriving DecidableEq, Repr

/-- The six levels of R478, in units of 0.125 degrees. -/
def thmLevels : List ThmLevel :=
  [⟨0, Src.THM_CSTOP, true, -400, some (-360)⟩, ⟨1, Src.THM_CINH, true, -320, some (-280)⟩,
   ⟨2, Src.THM_WARN, false, 1120, some 1080⟩, ⟨3, Src.THM_THROT, false, 1184, some 1144⟩,
   ⟨4, Src.THM_SHUT, false, 1280, some 1200⟩, ⟨5, Src.THM_CUT, false, 1320, none⟩]

def ThmLevel.tripped (x : ThmLevel) (t : Int) : Bool := if x.cold then decide (t ≤ x.trip) else decide (x.trip ≤ t)

def ThmLevel.released (x : ThmLevel) (t : Int) : Bool :=
  match x.release with
  | none => false
  | some r => if x.cold then decide (r ≤ t) else decide (t ≤ r)

/-- A level becomes active: its bit, its source raised once, CHG. -/
def Dev.levelTrip (d : Dev) (x : ThmLevel) : Dev :=
  ((d.setRbit Reg.THM_STAT x.bit true).setRbit Reg.THM_STAT 10 true).raise x.src 0

/-- One level at one valid reading. -/
def Dev.levelEval (d : Dev) (x : ThmLevel) (t : Int) : Dev :=
  if d.rbit Reg.THM_STAT x.bit then
    if x.released t then (d.setRbit Reg.THM_STAT x.bit false).setRbit Reg.THM_STAT 10 true else d
  else if x.tripped t then d.levelTrip x
  else d

/-- The flash gate follows the cold-inhibit level and the heat (R487). -/
def Dev.gateEval (d : Dev) (t : Int) : Dev :=
  let d1 := d.modSu fun x => { x with heatClosed := if x.heatClosed then !decide (t ≤ 1040) else decide (1080 < t) }
  d1.setRbit Reg.THM_STAT 8 (!d1.rbit Reg.THM_STAT 1 && !d1.su.heatClosed)

/-- A valid reading ends what three invalid ones held (R477); the levels and the gate follow. -/
def Dev.validReading (d : Dev) (t : Int) : Dev :=
  let d1 := if d.su.invShut then (d.setRbit Reg.THM_STAT 4 (decide (1280 ≤ t))).setRbit Reg.THM_STAT 10
      (d.rbit Reg.THM_STAT 10 || !decide (1280 ≤ t)) else d
  let d2 := d1.modSu fun x => { x with invalid := 0, invShut := false }
  (thmLevels.foldl (fun e x => e.levelEval x t) (d2.writeTemp t)).gateEval t

/-- An invalid reading: INVAL; the third in a row acts as a trip of the shutdown level (R477). -/
def Dev.invalidReading (d : Dev) : Dev :=
  let d1 := (d.setRbit Reg.THM_STAT 9 true).modSu fun x => { x with invalid := min 3 (x.invalid + 1) }
  if d1.su.invalid = 3 ∧ !d1.rbit Reg.THM_STAT 4 then
    (d1.levelTrip ⟨4, Src.THM_SHUT, false, 1280, none⟩).modSu fun x => { x with invShut := true }
  else d1

/-! ### SCALE, word 3 and the orderly stop (R480, R481, R483) -/

/-- SCALE moves by one sixteenth per round. -/
def Dev.moveScale (d : Dev) (f : Nat) : Dev :=
  let target := if d.rbit Reg.THM_STAT 3 then d.fld (Reg.THM_FSCL (f / 8)) (4 * (f % 8) + 3) (4 * (f % 8)) + 1 else 16
  d.modFn f fun x =>
    { x with scale := if x.scale < target then x.scale + 1 else if target < x.scale then x.scale - 1 else x.scale }

/-- Whether an active shutdown level takes the mode to ORDERLY-STOP. -/
def Dev.shutStops (d : Dev) : Bool :=
  d.rbit Reg.THM_STAT 4 &&
    (decide (d.mode = 6) || decide (d.mode = 7) ||
      (decide (d.mode = 10) && (decide (d.fld Reg.DST_MODE 11 8 = 6) || decide (d.fld Reg.DST_MODE 11 8 = 7))))

/-- The evaluation of a published round by the thermal block and the Distaff. -/
def Dev.thermalRound (d : Dev) (code : Nat) : Dev :=
  let d1 := if d.badReading code then d.invalidReading else d.validReading (d.tempOf code)
  let d2 := ((List.range 32).foldl (fun e f => e.moveScale f) d1).writeThermal
  if d2.shutStops then d2.enterOrderly else d2

/-! ### A RUN request at its round (R471) -/

/-- Whether a channel of the published round violates its limit. -/
def Dev.hkBad (d : Dev) (c : Nat) : Bool :=
  let lim := d.reg (Reg.HKP_LIM c)
  let v := d.fld (Reg.HKP_RES c) 15 0
  bitOf lim 31 &&
    (if hkDigital c then (List.range 16).any fun b => bitOf lim b && !v.testBit b
     else decide (v < bitsOf lim 11 0) || decide (bitsOf lim 27 16 < v))

/-- Whether a degraded or retired function, or a missing spare, makes the target DEGRADED (R459). -/
def Dev.runMode (d : Dev) : Nat :=
  if d.rbit Reg.DST_SPARE 8 || decide (d.reg Reg.DST_FDEG ≠ 0) || decide (d.reg Reg.DST_FRET ≠ 0) then 7 else 6

/-- The round's end grants or refuses the RUN request that waits (R471). DESIGN CHOICE (notes/assumptions/42.md): a round that
HKP_CTL.NOW restarted while the request waits judges it, and the 100 us still count from the request. -/
def Dev.judgeRun (d : Dev) : Dev :=
  if d.su.runReq then
    let d1 := (d.setRbit Reg.SNL_MREQ 17 false).modSu fun x => { x with runReq := false }
    if d.su.runReqAt + ticksUs 100 < d.now ∨ (List.range 24).any (fun c => d.hkBad c) then d1.reqRefuse 5
    else if d.rbit Reg.THM_STAT 0 ∨ d.rbit Reg.THM_STAT 4 then d1.reqRefuse 6
    else if d.rbit Reg.DST_PINS 0 ∨ d.rbit Reg.DST_PINS 1 then d1.reqRefuse 7
    else d1.setMode d1.runMode
  else d

/-- A RUN request whose round takes longer than 100 us is refused with ROUND (R471). -/
def Dev.runLate (d : Dev) : Dev :=
  if d.su.runReq && decide (d.su.runReqAt + ticksUs 100 < d.now) then
    ((d.setRbit Reg.SNL_MREQ 17 false).modSu fun x => { x with runReq := false }).reqRefuse 5
  else d

/-- A round ends (R121 to R123), is evaluated (R476 to R483), and judges a RUN request. -/
def Dev.roundPublish (d : Dev) (volts : List Int) : Dev :=
  if d.rbit Reg.HKP_STAT 18 then
    ((d.hkPublish volts).thermalRound (hkCodeOf volts 0).toNat).judgeRun
  else d

/-! ### The clocks (R19, R20) and the governor (R490 to R495) -/

/-- A VCORE sag: the step never goes back up (R490). -/
def Dev.sag (d : Dev) (half : Bool) : Dev :=
  (d.modSu fun x => { x with sag := max x.sag (if half then 2 else 1) }).govEval

/-- GOV_CTL: FORCE (R493, R495): only in SERVICE; the code 3 makes the write ignored whole. -/
def Dev.writeGov (d : Dev) (v : Word) : Dev :=
  if bitsOf v 2 1 = 3 then d
  else
    let d1 := if d.mode = 10 then (d.setFld Reg.GOV_CTL 2 1 (bitsOf v 2 1)).govEval else d
    if bitOf v 0 then ((d1.setReg Reg.GOV_CNT 0).setReg Reg.GOV_TIME 0).setFld Reg.GOV_STAT 3 2 0 else d1

/-- THM_CTL.MMCLR. -/
def Dev.writeThmCtl (d : Dev) (v : Word) : Dev := if bitOf v 0 then d.setReg Reg.THM_MAX 0x80007FFF else d

/-! ### The commands -/

/-- PLL_LOCK (R19): the PLL locks after `us` microseconds; in OFF and SLEEP it is stopped (R473). -/
def execPllLock (us : BitVec 16) (s : State) : Host.Outcome State Fault Refusal :=
  s.act fun d =>
    if d.mode = 0 ∨ d.mode = 0xB then d
    else ((d.setRbit Reg.CLK_STAT 0 true).setRbit Reg.CLK_STAT 1 false).setReg Reg.CLK_LOCKT (us.setWidth 32)

/-- REFERENCE_LOSS (R20): the PLL free-runs, CLK_REF is raised; in OFF and SLEEP it is stopped (R473). -/
def execReferenceLoss (s : State) : Host.Outcome State Fault Refusal :=
  s.act fun d =>
    if d.mode = 0 ∨ d.mode = 0xB then d
    else (((d.setRbit Reg.CLK_STAT 0 false).setRbit Reg.CLK_STAT 1 true).setRbit Reg.CLK_STAT 8 true).raise Src.CLK_REF 0

/-- GOVERNOR_STEP_DOWN (R18, R490, R491). -/
def execGovernorStepDown (half : Bool) (s : State) : Host.Outcome State Fault Refusal := s.run fun d => d.sag half

/-- GOVERNOR_RETURN (R490): from either step to full rate, but for a forced step (R493). -/
def execGovernorReturn (s : State) : Host.Outcome State Fault Refusal :=
  s.run fun d => (d.modSu fun x => { x with sag := 0 }).govEval

/-- HOUSEKEEPING_NOW (R122). -/
def execHousekeepingNow (m : Master) (s : State) : Host.Outcome State Fault Refusal :=
  s.act fun d => d.asMaster m fun d => d.hkStart true

/-- HOUSEKEEPING_ROUND_PUBLISH (R121, R471, R476). -/
def execHousekeepingRoundPublish (volts : List Int) (s : State) : Host.Outcome State Fault Refusal :=
  s.run fun d => d.roundPublish volts

/-- TEMPERATURE_EXTREMES_CLEAR (THM_CTL.MMCLR). -/
def execTemperatureExtremesClear (m : Master) (s : State) : Host.Outcome State Fault Refusal :=
  s.act fun d => d.asMaster m fun d => d.writeThmCtl 1

/-- GOVERNOR_FORCE (R493). -/
def execGovernorForce (m : Master) (v : Word) (s : State) : Host.Outcome State Fault Refusal :=
  s.act fun d => d.asMaster m fun d => d.writeGov (v &&& 0xFFFFFFFE)

/-- GOVERNOR_COUNT_CLEAR (GOV_CTL.CLR): the present FORCE is written back. -/
def execGovernorCountClear (m : Master) (s : State) : Host.Outcome State Fault Refusal :=
  s.act fun d => d.asMaster m fun d => d.writeGov ((d.reg Reg.GOV_CTL &&& 6) ||| 1)

/-- POWER_FAIL (R489, R488, R501): PFAIL; an erase in progress is abandoned. -/
def execPowerFail (s : State) : Host.Outcome State Fault Refusal :=
  s.act fun d => (d.setRbit Reg.GOV_STAT 9 true).abandonErase

end Sys2Proof.Machine
end

