-- ==== Sys2Proof/Machine/Flash.lean ====
section
/-! DEFINITION. The flash (16_flash_identity_service.md): regions, the controller's operations, the record journal and its
compaction, the WEAR counts. -/

namespace Sys2Proof.Machine

/-! ### Bytes (R497) -/

def Dev.fbyte (d : Dev) (a : Nat) : Byte := smGet (fun _ => 0xFF) d.fl.mem a

def Dev.setFbytes (d : Dev) (a : Nat) (bs : List Byte) : Dev :=
  d.modFl fun x => { x with mem := (bs.zipIdx).foldl (fun m b => smSet (fun _ => 0xFF) m (a + b.2) b.1) x.mem }

def Dev.fbytes (d : Dev) (a n : Nat) : List Byte := (List.range n).map fun i => d.fbyte (a + i)

def Dev.fword (d : Dev) (a : Nat) : Word := wordOfBytes (d.fbytes a 4)

/-- Whether a 256-bit word reads erased. -/
def Dev.wordErased (d : Dev) (off : Nat) : Bool := (d.fbytes off 32).all fun b => decide (b = 0xFF)

/-- The mark of a flash word of 32 bytes (R498). -/
def Dev.fecc (d : Dev) (w : Nat) : Ecc := smGet (fun _ => .good) d.fl.ecc w

/-- Flash words struck: a second upset in a word leaves it uncorrectable. -/
def Dev.flashStrike (d : Dev) (found : List (Nat × Bool)) : Dev :=
  found.foldl
    (fun e f =>
      let m : Ecc := if f.2 || decide (e.fecc f.1 ≠ .good) then .uncorrectable else .correctable
      e.modFl fun x => { x with ecc := smSet (fun _ => .good) x.ecc f.1 m }) d

/-- Words written anew have no mark. -/
def Dev.flashFresh (d : Dev) (off n : Nat) : Dev :=
  d.modFl fun x => { x with ecc := x.ecc.filter fun e => decide (e.1 < off / 32) || decide (off / 32 + n ≤ e.1) }

/-- A read of n bytes: a corrected word counts and raises NVM_CE; an uncorrectable one raises NVM_UE, and the read has
error status (R498). -/
def Dev.flashCheck (d : Dev) (off n : Nat) : Dev × Bool :=
  (List.range ((off + n - 1) / 32 - off / 32 + 1)).foldl
    (fun acc i => match acc.1.fecc (off / 32 + i) with
      | .good => acc
      | .correctable => (((acc.1.setRbit Reg.NVM_STAT 3 true).incFld Reg.NVM_CECNT 15 0).raise 128 0, acc.2)
      | _ => ((acc.1.setRbit Reg.NVM_STAT 4 true).raise 129 0, false)) (d, true)

/-- A sector is erased: nothing of it is listed. -/
def Dev.sectorErased (d : Dev) (s : Nat) : Bool := d.fl.mem.all fun c => decide (c.1 / 16384 ≠ s)

def Dev.eraseSector (d : Dev) (s : Nat) : Dev :=
  (d.flashFresh (16384 * s) 512).modFl fun x => { x with mem := x.mem.filter fun c => decide (c.1 / 16384 ≠ s) }

/-- Flash words whose contents nothing states: a word that did not verify, a sector that did not erase. -/
def Dev.freeFill (d : Dev) (off n : Nat) : Dev :=
  let d1 := (d.flashFresh off ((4 * n + 31) / 32)).setFbytes off
    ((List.range n).flatMap fun i => bytesOfWord (Config.freeWord (d.freeCtr + i)))
  { d1 with freeCtr := d.freeCtr + n }

/-- The flash gate is open and no power fail stands (R487, R489). -/
def Dev.gateOpen (d : Dev) : Bool := d.rbit Reg.THM_STAT 8 && !d.rbit Reg.GOV_STAT 9

/-! ### Records (R502, R504) -/

def crcStep (c : Word) : Word := if c.getLsbD 0 then (c >>> 1) ^^^ 0xEDB88320 else c >>> 1

def crcByte (c : Word) (b : Byte) : Word :=
  crcStep (crcStep (crcStep (crcStep (crcStep (crcStep (crcStep (crcStep (c ^^^ b.setWidth 32))))))))

/-- CRC-32 of IEEE 802.3. -/
def crc32 (bs : List Byte) : Word := ~~~(bs.foldl crcByte 0xFFFFFFFF)

/-- The payload words of 256 bits that a record takes. -/
def Rec.len (r : Rec) : Nat := max 1 (min 158 ((r.data.length + 7) / 8))

/-- The payload in whole words of 256 bits. -/
def Rec.payload (r : Rec) : List Word := (List.range (8 * r.len)).map fun i => (r.data[i]?).getD 0

/-- The bytes of a record: header, payload, commit (R502). -/
def Rec.bytes (r : Rec) (seq minutes : Nat) : List Byte :=
  let n := r.len
  let head := [BitVec.ofNat 32 (0x4A310000 + r.kind % 256 * 256 + n), BitVec.ofNat 32 seq, BitVec.ofNat 32 r.tag,
    BitVec.ofNat 32 minutes, 0, 0, 0, 0].flatMap bytesOfWord
  let pay := bytesOfWords r.payload
  let commit := [0x4A3100FF, BitVec.ofNat 32 seq, crc32 (head ++ pay), 0, 0, 0, 0, 0].flatMap bytesOfWord
  head ++ pay ++ commit

/-- Operating minutes from the newest WEAR record. -/
def Dev.recMinutes (d : Dev) : Nat :=
  match (d.fl.recs.filter fun x => decide (x.2.kind = 4)).getLast? with
  | some x => (x.2.data.headD 0).toNat
  | none => 0

/-- Where the next record goes: all of it in one sector. -/
def Dev.place (d : Dev) (n : Nat) : Option Nat :=
  let p := d.fl.pos
  if p % 512 ≠ 0 ∧ p % 512 + n + 2 ≤ 512 then some p
  else (((List.range 32).map fun i => ((p + 511) / 512 + i) % 32).find? fun s => d.sectorErased s).map (512 * ·)

/-- The journal takes a record that stands whole at a place. -/
def Dev.noteRec (d : Dev) (r : Rec) (at_ : Nat) : Dev :=
  d.modFl fun x => { x with recs := x.recs ++ [(x.seq, { r with data := r.payload })], seq := x.seq + 1, pos := at_ + r.len + 2 }

/-- A record written whole. -/
def Dev.rawAppend (d : Dev) (r : Rec) : Dev :=
  match d.place r.len with
  | some p => ((d.flashFresh (32 * p) (r.len + 2)).setFbytes (32 * p) (r.bytes d.fl.seq d.recMinutes)).noteRec r p
  | none => d

/-! ### Compaction (R506) -/

/-- The erased words of the journal. -/
def Dev.journalFree (d : Dev) : Nat :=
  16384 - ((d.fl.mem.filter fun c => decide (c.1 < 0x80000)).map fun c => c.1 / 32).eraseDups.length

/-- NVM_JRNL. -/
def Dev.showJournal (d : Dev) : Dev :=
  d.setReg Reg.NVM_JRNL (BitVec.ofNat 32 (d.journalFree * 65536 + min 65535 d.fl.wear.comp))

/-- The sectors whose erase is due again: every ERASEP record without its done mark (R505). -/
def undoneErases (rs : List Rec) : List Nat :=
  rs.foldl
    (fun acc r =>
      let n := (r.data.headD 0).toNat
      if r.kind = 6 then (if n < 32768 then acc ++ [n] else acc.filter (· ≠ n % 32768)) else acc) []

/-- The last n elements. -/
def lastN {α : Type} (n : Nat) (xs : List α) : List α := xs.drop (xs.length - n)

/-- The live records, oldest first. -/
def liveRecs (rs : List (Nat × Rec)) : List (Nat × Rec) :=
  let newest := fun k => (lastN 1 (rs.filter fun x => decide (x.2.kind = k))).map Prod.fst
  let faults := (lastN 64 (rs.filter fun x => decide (x.2.kind = 2))).map Prod.fst
  let undone := undoneErases (rs.map Prod.snd)
  rs.filter fun x =>
    match x.2.kind with
    | 1 => true
    | 8 => true
    | 2 => x.1 ∈ faults
    | 6 => decide ((x.2.data.headD 0).toNat ∈ undone)
    | 7 => decide (((lastN 1 (rs.filter fun y => decide (y.2.kind = 7) && decide (y.2.tag = x.2.tag))).map Prod.fst) = [x.1])
    | k => x.1 ∈ newest k

/-- The sectors that records take. -/
def sectorsOf (rs : List (Nat × Rec)) : Nat :=
  (rs.foldl (fun p x => if p % 512 + x.2.len + 2 ≤ 512 then p + x.2.len + 2 else (p / 512 + 1) * 512 + x.2.len + 2) 0 + 511) / 512

/-- The oldest FAULT record goes, or else the oldest USER record. -/
def dropOldest (rs : List (Nat × Rec)) : List (Nat × Rec) :=
  if rs.any fun x => decide (x.2.kind = 2) then rs.eraseP fun x => decide (x.2.kind = 2)
  else rs.eraseP fun x => decide (x.2.kind = 7)

/-- Drop until they fit in 30 sectors. -/
def fitRecs : Nat → List (Nat × Rec) → List (Nat × Rec)
  | 0, rs => rs
  | n + 1, rs => if sectorsOf rs ≤ 30 then rs else fitRecs n (dropOldest rs)

/-- The journal is compacted: the live records copied with new sequence numbers, the old sectors erased. -/
def Dev.compact (d : Dev) : Dev :=
  let live := liveRecs d.fl.recs
  let fit := fitRecs live.length live
  let s0 := (((List.range 32).map fun i => ((d.fl.pos + 511) / 512 + i) % 32).find? fun s => d.sectorErased s).getD 0
  let d1 := d.modFl fun x =>
    { x with mem := x.mem.filter fun c => decide (0x80000 ≤ c.1), ecc := x.ecc.filter fun c => decide (0x4000 ≤ c.1), recs := [], pos := 512 * s0,
             wear := { x.wear with comp := x.wear.comp + 1 } }
  let d2 := fit.foldl (fun e x => e.rawAppend x.2) d1
  d2.when (decide (fit.length < live.length)) fun d => d.raise 133 0

/-- After an append: compaction when fewer than 2 journal sectors are erased, and NVM_JRNL. -/
def Dev.afterAppend (d : Dev) : Dev :=
  let erased := ((List.range 32).filter fun s => d.sectorErased s).length
  (d.when (decide (erased < 2)) Dev.compact).showJournal

/-- A Distaff record is appended, ahead of anything queued. -/
def Dev.appendNow (d : Dev) (r : Rec) : Dev := (d.rawAppend r).afterAppend

/-- NVM_STAT.WAIT. -/
def Dev.showWait (d : Dev) : Dev := d.setRbit Reg.NVM_STAT 1 (!d.fl.due.isEmpty)

/-- Whether a Distaff record may be inserted now: BOOT onward, the gate open, no record program in progress. -/
def Dev.mayAppend (d : Dev) : Bool :=
  d.gateOpen && decide (d.mode ≠ 0) && decide (d.mode ≠ 0xB) &&
    (match d.fl.job with
      | some j => match j.op with
        | .append _ => false
        | _ => true
      | none => true)

/-- The oldest record due is written. -/
def Dev.appendDue (d : Dev) : Dev :=
  match d.fl.due with
  | [] => d
  | r :: rest => if d.mayAppend then ((d.modFl fun x => { x with due := rest }).appendNow r).showWait else d

/-- The erases that are due again, each with its done mark (R488, R505). -/
def Dev.redoErases (d : Dev) : Dev :=
  if d.gateOpen && d.fl.job.isNone then
    d.fl.redo.foldl
      (fun e s => (e.eraseSector s).appendNow { kind := 6, tag := 0, data := [BitVec.ofNat 32 (32768 + s)] })
      (d.modFl fun x => { x with redo := [] })
  else d

/-! ### The controller (R499 to R501) -/

/-- A refused operation: RES, DONE, and no effect. -/
def Dev.flashRefuse (d : Dev) (res : Nat) : Dev := (d.setFld Reg.NVM_STAT 15 8 res).setRbit Reg.NVM_STAT 2 true

/-- An operation starts. -/
def Dev.flashStart (d : Dev) (j : FlashJob) : Dev :=
  ((d.modFl fun x => { x with job := some j }).setRbit Reg.NVM_STAT 0 true).setReg Reg.NVM_PROG 0

/-- The regions of R496. -/
inductive FlashRegion where
  | journal | policyA | policyB | user | imageA | imageB | outside
  deriving DecidableEq, Repr

def regionOf (sector : Nat) : FlashRegion :=
  if sector < 32 then .journal else if sector = 32 then .policyA else if sector = 33 then .policyB
  else if sector < 64 then .user else if sector < 288 then .imageA else if sector < 512 then .imageB else .outside

/-- Whether a region is a slot in use (NVM_SLOT): an image that verified, a policy table whose signature did. -/
def Dev.slotInUse (d : Dev) : FlashRegion → Bool
  | .policyA => d.rbit Reg.DST_POL 1 && !d.rbit Reg.NVM_SLOT 1
  | .policyB => d.rbit Reg.DST_POL 1 && d.rbit Reg.NVM_SLOT 1
  | .imageA => d.rbit Reg.DST_BOOT 0 && !d.rbit Reg.NVM_SLOT 0
  | .imageB => d.rbit Reg.DST_BOOT 0 && d.rbit Reg.NVM_SLOT 0
  | _ => false

/-- The result that refuses a Bobbin's PROGRAM or ERASE of a sector (R500), 0 for none. -/
def Dev.bobRefusal (d : Dev) (sector : Nat) : Nat :=
  let r := regionOf sector
  if r = .journal ∨ r = .outside ∨ d.slotInUse r then 2
  else if r = .user then (if 4 ≤ d.mode ∧ d.mode ≤ 10 then 0 else 3)
  else if d.mode = 4 then 0 else 3

/-- The sectors that n words from an offset touch. -/
def sectorsTouched (off n : Nat) : List Nat := (List.range ((off + 32 * n - 1) / 16384 - off / 16384 + 1)).map (off / 16384 + ·)

/-- The first refusal of a list of sectors. -/
def firstRefusal (f : Nat → Nat) (ss : List Nat) : Nat := ((ss.map f).find? fun c => decide (c ≠ 0)).getD 0

/-- Whether the flash refuses everything now: 4 for the gate, 8 for a power fail. -/
def Dev.gateRefusal (d : Dev) : Nat := if d.rbit Reg.GOV_STAT 9 then 8 else if d.rbit Reg.THM_STAT 8 then 0 else 4

/-- Words that the flash copy reads from the Skein as class 4 (R499). -/
def Dev.copyRead (d : Dev) (src n : Nat) : Dev × SkRes × List Byte := d.load 130 4 src n

/-- One flash word of a USER record from the Skein; none while the Flyer does not grant the read. Words that a refused
read does not deliver are free. -/
def Dev.userWord (d : Dev) (src : Nat) : Option (Dev × List Word) :=
  let r := d.copyRead src 32
  match r.2.1 with
  | .done _ => some (r.1, (List.range 8).map fun i => ckptWord r.2.2 (4 * i))
  | .refused _ =>
    some ({ r.1 with freeCtr := r.1.freeCtr + 8 }, (List.range 8).map fun i => Config.freeWord (r.1.freeCtr + i))
  | .wait => none

/-- The words of a USER record from the Skein, read draw by draw; none when the Flyer does not grant them all at once. -/
def Dev.userData (d : Dev) (src : Nat) : Nat → Option (Dev × List Word)
  | 0 => some (d, [])
  | n + 1 =>
    match d.userWord src with
    | some w => (w.1.userData (src + 32) n).map fun q => (q.1, w.2 ++ q.2)
    | none => none

/-- A record program starts: with the record's bytes, or with none yet and where the flash copy reads each payload word
in its turn. -/
def Dev.startAppend (d : Dev) (r : Rec) (src : Option Nat) : Dev :=
  match d.place r.len with
  | some p => d.flashStart
      { op := .append r, src := src.getD 0,
        data := if src.isSome then none else some (r.bytes d.fl.seq d.recMinutes),
        dst := 32 * p, n := r.len + 2, done := 0, session := false }
  | none => d.flashRefuse 5

/-- NVM_CMD by a master (R499, R500): a Bobbin's in supervisor mode; any other has no right to it. -/
def Dev.nvmCmd (d : Dev) (m : Master) (op kind : Nat) : Dev :=
  let bob := match m with
    | .bobbin b => d.sup b
    | _ => false
  let n := d.fld Reg.NVM_LEN 10 0
  let dst := d.fld Reg.NVM_DST 22 5 * 32
  let src := d.fld Reg.NVM_SRC 23 5 * 32
  if d.rbit Reg.NVM_STAT 0 then d.flashRefuse 7
  else if op = 0 ∨ 3 < op then d.flashRefuse 1
  else if !bob then d.flashRefuse 11
  else if op = 1 then
    if n = 0 ∨ 158 < n then d.flashRefuse 6
    else if kind ≠ 7 then d.flashRefuse 11
    else if d.mode < 4 ∨ 10 < d.mode then d.flashRefuse 3
    else if d.gateRefusal ≠ 0 then d.flashRefuse d.gateRefusal
    else
      let r : Rec := { kind := 7, tag := d.fld Reg.NVM_LEN 31 16, data := List.replicate (8 * n) 0 }
      match d.userData src n with
      | some u => u.1.startAppend { r with data := u.2 } none
      | none => d.startAppend r (some src)
  else if op = 2 then
    let no := firstRefusal d.bobRefusal (sectorsTouched dst n)
    if n = 0 ∨ 1024 < n then d.flashRefuse 6
    else if no ≠ 0 then d.flashRefuse no
    else if d.gateRefusal ≠ 0 then d.flashRefuse d.gateRefusal
    else d.flashStart { op := .program, src := src, data := none, dst := dst, n := n, done := 0, session := false }
  else
    let no := firstRefusal d.bobRefusal ((List.range n).map (dst / 16384 + ·))
    if n = 0 ∨ 224 < n then d.flashRefuse 6
    else if no ≠ 0 then d.flashRefuse no
    else if d.gateRefusal ≠ 0 then d.flashRefuse d.gateRefusal
    else d.flashStart { op := .erase, src := 0, data := none, dst := dst / 16384 * 16384, n := n, done := 0, session := false }

/-- An operation ends, for its starter too. -/
def Dev.jobEnd (d : Dev) (j : FlashJob) (res : Nat) : Dev := (d.flashEnd res).when j.session fun d => d.sessionFlashEnd res

/-- An operation that ends with VERIFY or NOTERASED: a record program leaves the words it was to take behind it. -/
def Dev.jobFail (d : Dev) (j : FlashJob) (res : Nat) : Dev :=
  (match j.op with
    | .append _ => d.modFl fun x => { x with pos := j.dst / 32 + j.n }
    | _ => d).jobEnd j res

/-- One flash word is programmed. -/
def Dev.putWord (d : Dev) (off : Nat) (bs : List Byte) : Dev := (d.flashFresh off 1).setFbytes off bs

/-- The word in progress of a record whose payload the flash copy reads as the program goes (R499, R502): header and commit
word as the record stands, a payload word from the Skein, which the record then holds. -/
def Dev.recWord (d : Dev) (j : FlashJob) (r : Rec) (off : Nat) : Option (Dev × FlashJob) :=
  if j.done = 0 ∨ j.n ≤ j.done + 1 then
    some (d.putWord off (((r.bytes d.fl.seq d.recMinutes).drop (32 * j.done)).take 32), j)
  else
    let k := j.done - 1
    (d.userWord (j.src + 32 * k)).map fun u =>
      (u.1.putWord off (bytesOfWords u.2),
        { j with op := .append { r with data := r.data.take (8 * k) ++ u.2 ++ r.data.drop (8 * k + 8) } })

/-- The word in progress is programmed: from the session's frame or the record, or as the flash copy reads it from the
Skein; none while the Flyer does not grant that read. What an uncorrectable or refused read programs is free. -/
def Dev.jobWord (d : Dev) (j : FlashJob) (off : Nat) : Option (Dev × FlashJob) :=
  match j.data with
  | some bs => some (d.putWord off ((bs.drop (32 * j.done)).take 32), j)
  | none =>
    match j.op with
    | .append r => d.recWord j r off
    | _ =>
      let r := d.copyRead (j.src + 32 * j.done) 32
      match r.2.1 with
      | .done _ => some (r.1.putWord off r.2.2, j)
      | .refused _ => some (r.1.freeFill off 8, j)
      | .wait => none

/-- One word of a job has ended. -/
def Dev.jobNext (d : Dev) (j : FlashJob) : Dev :=
  let d1 := (d.modFl fun x => { x with job := some { j with done := j.done + 1 } }).setReg Reg.NVM_PROG
    (BitVec.ofNat 32 (j.done + 1))
  match j.op with
  | .append r =>
    if j.done + 1 = j.n then ((d1.noteRec r (j.dst / 32)).afterAppend).jobEnd j 0 else d1
  | .program => if j.done + 1 = j.n then d1.jobEnd j 0 else if d1.rbit Reg.GOV_STAT 9 then d1.jobEnd j 8 else d1
  | .erase => if j.done + 1 = j.n then d1.jobEnd j 0 else if d1.rbit Reg.THM_STAT 8 then d1 else d1.jobEnd j 4

/-- A word program ends (R497, R501); `verified`: it reads back as written. -/
def Dev.wordDone (d : Dev) (verified : Bool) : Dev :=
  match d.fl.job with
  | none => d
  | some j =>
    let off := j.dst + 32 * j.done
    if j.op = .erase then d
    else if !d.wordErased off then d.jobFail j 5
    else if verified then
      (match d.jobWord j off with
        | some e => e.1.jobNext e.2
        | none => d)
    else ((d.freeFill off 8).raise 130 0).jobFail j 10

/-- A sector erase ends (R497, R501). -/
def Dev.sectorDone (d : Dev) (erased : Bool) : Dev :=
  match d.fl.job with
  | none => d
  | some j =>
    if j.op = .erase then
      if erased then (d.eraseSector j.sector).jobNext j
      else ((d.freeFill (16384 * j.sector) 4096).raise 131 0).jobEnd j 10
    else d

/-- The remaining words of a record program end. -/
def Dev.appendRest (d : Dev) : Dev :=
  match d.fl.job with
  | some j => match j.op with
    | .append _ => (List.range (j.n - j.done)).foldl (fun e _ => e.wordDone true) d
    | _ => d
  | none => d

/-- A record program waits for no further read: the payload words that it has not read are free. -/
def Dev.freePayload (d : Dev) : Dev :=
  match d.fl.job with
  | some j => match j.op, j.data with
    | .append r, none =>
      let k := 8 * (j.done - 1)
      let m := r.data.length - k
      let q : Rec := { r with data := r.data.take k ++ (List.range m).map fun i => Config.freeWord (d.freeCtr + i) }
      { d.modFl fun x => { x with job := some { j with op := .append q, data := some (q.bytes d.fl.seq d.recMinutes) } } with
        freeCtr := d.freeCtr + m }
    | _, _ => d
  | none => d

/-- The remaining words of a record program, which always completes (R488, R473). -/
def Dev.finishAppend (d : Dev) : Dev := d.appendRest.freePayload.appendRest

/-! ### The WEAR record (R504) -/

def Dev.wearRec (d : Dev) : Rec :=
  let w := d.fl.wear
  { kind := 4, tag := 0,
    data := [BitVec.ofNat 32 w.minutes, BitVec.ofNat 32 w.hot, BitVec.ofNat 32 w.powerOns, BitVec.ofNat 32 w.safes, w.tmax,
             BitVec.ofNat 32 w.comp] }

/-- One tick of operating time: the minutes of RUN and DEGRADED, those at 125 degrees or more, and after every 60 a
record. -/
def Dev.wearTick (d : Dev) : Dev :=
  if d.mode = 6 ∨ d.mode = 7 then
    let w := d.fl.wear
    if w.ticks + 1 < 28800000000 then d.modFl fun x => { x with wear := { x.wear with ticks := w.ticks + 1 } }
    else
      let d1 := d.modFl fun x =>
        { x with wear := { x.wear with ticks := 0, minutes := w.minutes + 1,
                                       hot := w.hot + (decide (1000 ≤ d.temp)).toNat } }
      d1.when (decide ((w.minutes + 1) % 60 = 0)) fun d => d.recordDue d.wearRec
  else d

/-! ### The commands -/

/-- FLASH_APPEND (R500). -/
def execFlashAppend (m : Master) (v : Word) (s : State) : Host.Outcome State Fault Refusal :=
  s.act fun d => d.asMaster m fun d => d.nvmCmd m 1 (bitsOf v 31 24)

/-- FLASH_PROGRAM (R500). -/
def execFlashProgram (m : Master) (v : Word) (s : State) : Host.Outcome State Fault Refusal :=
  s.act fun d => d.asMaster m fun d => d.nvmCmd m 2 (bitsOf v 31 24)

/-- FLASH_ERASE (R500). -/
def execFlashErase (m : Master) (v : Word) (s : State) : Host.Outcome State Fault Refusal :=
  s.act fun d => d.asMaster m fun d => d.nvmCmd m 3 (bitsOf v 31 24)

/-- FLASH_BAD_OP (NVM_CMD). -/
def execFlashBadOp (m : Master) (v : Word) (s : State) : Host.Outcome State Fault Refusal :=
  s.act fun d => d.asMaster m fun d => d.nvmCmd m 0 (bitsOf v 31 24)

/-- FLASH_WORD_DONE (R497, R501). -/
def execFlashWordDone (verified : Bool) (s : State) : Host.Outcome State Fault Refusal := s.rom fun d => d.wordDone verified

/-- FLASH_SECTOR_DONE (R497, R501). -/
def execFlashSectorDone (erased : Bool) (s : State) : Host.Outcome State Fault Refusal := s.rom fun d => d.sectorDone erased

/-- DISTAFF_RECORD_APPEND (R499, R502). -/
def execDistaffRecordAppend (s : State) : Host.Outcome State Fault Refusal := s.rom fun d => d.appendDue

/-- WAITING_RECORD_WRITE (R487, R488). -/
def execWaitingRecordWrite (s : State) : Host.Outcome State Fault Refusal :=
  s.rom fun d => ((List.range d.fl.due.length).foldl (fun e _ => e.appendDue) d).redoErases

end Sys2Proof.Machine
end

