-- ==== Sys2Proof/Machine/Images.lean ====
section
/-! DEFINITION. What BOOT and LOAD find in the flash (R447 to R449, R466, R469, R503 to R511): the journal's records,
the image slots and their verification, the policy table and its entries; and the identity block. -/

namespace Sys2Proof.Machine

/-! ### The journal as BOOT scans it (R503, R505) -/

/-- The payload words that a header names; none where no header stands. -/
def Dev.headerAt (d : Dev) (p : Nat) : Option Nat :=
  let w := d.fword (32 * p)
  let n := bitsOf w 7 0
  if bitsOf w 31 16 = 0x4A31 ∧ 1 ≤ n ∧ n ≤ 158 ∧ p % 512 + n + 2 ≤ 512 then some n else none

/-- The valid record at a word of the journal, with its sequence number: its commit word is present, carries the header's
number and matches the CRC. -/
def Dev.recAt (d : Dev) (p : Nat) : Option (Nat × Rec) :=
  match d.headerAt p with
  | none => none
  | some n =>
    let c := 32 * (p + n + 1)
    if d.fword c = 0x4A3100FF ∧ d.fword (c + 4) = d.fword (32 * p + 4) ∧
        d.fword (c + 8) = crc32 (d.fbytes (32 * p) (32 * (n + 1))) ∧ (d.flashCheck (32 * p) (32 * (n + 2))).2 then
      some ((d.fword (32 * p + 4)).toNat,
        { kind := bitsOf (d.fword (32 * p)) 15 8, tag := (d.fword (32 * p + 8)).toNat,
          data := (List.range (8 * n)).map fun i => d.fword (32 * (p + 1) + 4 * i) })
    else none

/-- The records of a sector from a word on, whether one of them is torn, and where its erased words begin. -/
def Dev.scanSector (d : Dev) (s : Nat) : Nat → Nat → List (Nat × Rec) × Bool × Nat
  | 0, p => ([], false, p)
  | k + 1, p =>
    if 512 ≤ p ∨ d.wordErased (32 * (512 * s + p)) then ([], false, p)
    else match d.recAt (512 * s + p) with
      | some x =>
        let r := d.scanSector s k (p + x.2.len + 2)
        (x :: r.1, r.2)
      | none =>
        match d.headerAt (512 * s + p) with
        | some n =>
          let r := d.scanSector s k (p + n + 2)
          (r.1, true, r.2.2)
        | none => d.scanSector s k (p + 1)

/-- A record in its place by sequence number. -/
def insertRec (x : Nat × Rec) : List (Nat × Rec) → List (Nat × Rec)
  | [] => [x]
  | y :: ys => if x.1 < y.1 then x :: y :: ys else y :: insertRec x ys

/-- BOOT scans the journal: its records oldest first, the next place and number; NVM_TORN once for torn records. -/
def Dev.scanJournal (d : Dev) : Dev :=
  let d0 := (d.fl.ecc.map Prod.fst).foldl (fun e w => if w < 16384 then (e.flashCheck (32 * w) 32).1 else e) d
  let secs := (List.range 32).map fun s => (s, d.scanSector s 512 0)
  let recs := (secs.flatMap fun x => x.2.1).foldl (fun rs x => insertRec x rs) []
  let last := (recs.getLast?.map Prod.fst).getD 0
  let pos := match secs.find? fun x => x.2.1.any fun r => decide (r.1 = last) with
    | some x => 512 * x.1 + x.2.2.2
    | none => 0
  (d0.modFl fun x => { x with recs := recs, seq := if recs.isEmpty then 0 else last + 1, pos := pos }).when
    (secs.any fun x => x.2.2.1) fun d => d.raise 132 0

/-! ### Identity (R511) -/

/-- A fused word: what BOOT has read of it. -/
def Dev.fuse (d : Dev) (k : Nat) : Word := smGet Config.fuse d.fl.fuses k

/-- BOOT reads fused words; one once read stays as it is (R466, R511). -/
def Dev.readFuses (d : Dev) (ws : List (Nat × Word)) : Dev := d.modFl fun x => { x with fuses := x.fuses ++ ws }

/-- What a verification meets: the fused words it reads, and the flash words struck since they were last read. -/
def Dev.meets (d : Dev) (fuses : List (BitVec 9 × Word)) (struck : List (BitVec 18 × Bool)) : Dev :=
  (d.readFuses (fuses.map fun f => (f.1.toNat, f.2))).flashStrike (struck.map fun f => (f.1.toNat, f.2))

/-- The anti-rollback fuses blown. -/
def Dev.arb (d : Dev) : Nat := max (d.fld Reg.IDN_FUSE 15 10) (bitsOf (d.fuse 2) 15 10)

/-- The fused hash of the public key. -/
def Dev.pkHash (d : Dev) : List Byte := (List.range 8).flatMap fun j => bytesOfWord (d.fuse (3 + j))

/-- The words of the identity block that read the fuses. -/
def Dev.idnWord (d : Dev) (off : Nat) : Word :=
  let die := d.fld Reg.IDN_DSEL 5 0
  if off = 8 then d.fuse 0
  else if off = 0xC then d.fuse 1 &&& 0xFFFF
  else if off = 0x10 then
    (d.fuse 2 &&& 0x3C0) ||| BitVec.ofNat 32 (d.arb * 1024 + (d.rbit Reg.IDN_FUSE 0).toNat)
  else if 0x20 ≤ off ∧ off < 0x40 then d.fuse (3 + (off - 0x20) / 4)
  else if off = 0x44 ∨ off = 0x48 ∨ off = 0x4C then d.fuse (11 + 4 * die + (off - 0x44) / 4)
  else if off = 0x50 then d.fuse (14 + 4 * die) &&& 0xFFFF
  else d.reg (Reg.IDN_PART + off)

/-! ### Images (R507, R508) -/

/-- Bytes through a reader of single bytes, and words. -/
def bytesBy (g : Nat → Byte) (o n : Nat) : List Byte := (List.range n).map fun i => g (o + i)

def wordBy (g : Nat → Byte) (o : Nat) : Word := wordOfBytes (bytesBy g o 4)

def slotBase (b : Bool) : Nat := if b then 0x480000 else 0x100000

/-- A slot's bytes. -/
def Dev.slotBytes (d : Dev) (b : Bool) (i : Nat) : Byte := d.fbyte (slotBase b + i)

/-- Whether a slot is found: its magic. -/
def Dev.slotFound (d : Dev) (b : Bool) : Bool := decide (wordBy (d.slotBytes b) 0 = 0x47574E31)

/-- SEQ of a slot as NVM_SEQA and NVM_SEQB show it. -/
def Dev.slotSeq (d : Dev) (b : Bool) : Word := if d.slotFound b then wordBy (d.slotBytes b) 4 else 0xFFFFFFFF

/-- The newest slot found by SEQ, slot A when they are equal. -/
def Dev.newest (d : Dev) : Option Bool :=
  match d.slotFound false, d.slotFound true with
  | true, true => some (decide ((d.slotSeq false).toNat < (d.slotSeq true).toNat))
  | true, false => some false
  | false, true => some true
  | false, false => none

/-- LEN of an image. -/
def imageLen (g : Nat → Byte) : Nat := (wordBy g 0xC).toNat

/-- Whether an image verifies (R508): its header, the key against the fused hash, SVN against the fuses, the signature
over the header to 0xBF and the body. -/
def Dev.imageOk (d : Dev) (g : Nat → Byte) : Bool :=
  let len := imageLen g
  let key := bytesBy g 0x40 64
  decide (wordBy g 0 = 0x47574E31) && decide (0x100 ≤ len) && decide (len ≤ 0x380000) && decide (len % 32 = 0) &&
    decide (d.arb ≤ (wordBy g 8).toNat) && decide ((wordBy g 8).toNat ≤ 32) && decide (sha256 key = d.pkHash) &&
    ecdsaOk key (bytesBy g 0xC0 64) (bytesBy g 0 0xC0 ++ bytesBy g 0x100 (len - 0x100))

/-- Whether the image of a slot verifies as it is read (R498, R508). -/
def Dev.imgSlotOk (d : Dev) (b : Bool) : Bool :=
  d.slotFound b && (d.flashCheck (slotBase b) (min 0x380000 (imageLen (d.slotBytes b)))).2 && d.imageOk (d.slotBytes b)

/-! ### The policy table (R447 to R449, R509) -/

/-- A policy slot's bytes. -/
def Dev.polBytes (d : Dev) (b : Bool) (i : Nat) : Byte := d.fbyte ((if b then 0x84000 else 0x80000) + i)

/-- The policy slot whose table hashes to the value in an image's header. -/
def Dev.polSlot (d : Dev) (g : Nat → Byte) : Option Bool :=
  [false, true].find? fun b => decide (sha256 (bytesBy (d.polBytes b) 0 2688) = bytesBy g 0x18 32)

/-- Whether a table's signature verifies under an image's key. -/
def policySig (g p : Nat → Byte) : Bool := ecdsaOk (bytesBy g 0x40 64) (bytesBy p 0xA40 64) (bytesBy p 0 0xA40)

/-- Word k of a function's entry. -/
def fnWord (p : Nat → Byte) (f k : Nat) : Word := wordBy p (0x440 + 32 * f + 4 * k)

/-- A function entry (R448). -/
def fnEntryOf (p : Nat → Byte) (f : Nat) : FnEntry :=
  let w := fnWord p f
  { v := bitOf (w 2) 7, ports := (w 1).setWidth 64 <<< 32 ||| (w 0).setWidth 64, lanes := (w 2).extractLsb' 16 16,
    split := (w 2).extractLsb' 8 6, dset := bitOf (w 2) 3, ascCap := bitOf (w 2) 2, safe := (w 2).extractLsb' 0 2,
    cmdl := (w 3).extractLsb' 0 24, statl := (w 4).extractLsb' 0 24, loops := bytesOfWord (w 5) }

/-- Whether a valid function entry keeps its layout: the places that the table leaves 0, a SAFE that it names. -/
def fnEntryOk (p : Nat → Byte) (f : Nat) : Bool :=
  let w := fnWord p f
  !(fnEntryOf p f).v ||
    (decide (w 2 &&& 0xC070 = 0) && decide (bitsOf (w 2) 1 0 ≠ 3) && decide (w 3 &&& 0xFF00003F = 0) &&
      decide (w 4 &&& 0xFF00003F = 0) && decide (w 5 &&& 0x40404040 = 0) && decide (w 6 = 0) && decide (w 7 = 0))

/-- An interlock rule (R449). -/
def ruleOf (p : Nat → Byte) (i : Nat) : IlRule := ⟨wordBy p (0x840 + 8 * i), wordBy p (0x844 + 8 * i)⟩

/-- Whether a valid rule keeps its layout. -/
def ruleOk (r : IlRule) : Bool :=
  !bitOf r.w0 31 || (decide (r.w0 &&& 0x00E0C8FF = 0) && decide (bitsOf r.w0 13 12 ≠ 3) && decide (bitsOf r.w0 10 8 < 6))

/-- Word s of a table's source entries (R447). -/
def srcWord (p : Nat → Byte) (s : Nat) : Word := wordBy p (0x40 + 4 * s)

/-- Whether a source has an instance that can be retired by itself (R422): a bank, a lane, a Spindle, a Bobbin. -/
def retirable (s : Nat) : Bool := (16 ≤ s && s ≤ 19) || (32 ≤ s && s ≤ 35) || s = 48 || (64 ≤ s && s ≤ 66)

/-- Whether a source entry verifies (R421, R422, SNL_SCFG): N is not 0, W is a window, the codes are reactions, and each
stands where the source takes it. Every one of the 256 entries is held to it (DEDUCED, notes/assumptions/92.md). -/
def srcEntOk (s : Nat) (w : Word) : Bool :=
  let t := bitsOf w 10 8
  let r := bitsOf w 13 11
  let bob := decide (64 ≤ s) && decide (s ≤ 66)
  decide (bitsOf w 3 0 ≠ 0) && decide (bitsOf w 7 4 ≤ 12) && (decide (t ≤ 1) || (decide (t = 6) && bob)) && decide (r ≤ 6) &&
    (decide (r ≠ 2) || retirable s) && (decide (r ≠ 3) || (96 ≤ s && s ≤ 102) || (112 ≤ s && s ≤ 120)) && (decide (r ≠ 6) || bob)

/-- Whether every entry of a table verifies: the header, the source entries, the function entries with no port in two of
them, the rules. -/
def policyEnt (p : Nat → Byte) : Bool :=
  let es := ((List.range 32).map fun f => fnEntryOf p f).filter fun e => e.v
  decide (wordBy p 0 = 0x504F4C31) && ((List.range 14).all fun i => decide (wordBy p (8 + 4 * i) = 0)) &&
    ((List.range 256).all fun s => srcEntOk s (srcWord p s)) && ((List.range 32).all fun f => fnEntryOk p f) &&
    ((List.range 64).all fun n => decide ((es.filter fun e => e.ports.getLsbD n).length ≤ 1)) &&
    ((List.range 64).all fun i => ruleOk (ruleOf p i))

/-- The source entries of a table. -/
def policyScfg (p : Nat → Byte) : List (Nat × Word) := (List.range 256).map fun s => (s, srcWord p s)

end Sys2Proof.Machine
end

