-- ==== Sys2Proof/Machine/Modes.lean ====
section
/-! DEFINITION. Device modes, resets, power-up and sleep (14_modes_and_start_up.md). -/

namespace Sys2Proof.Machine

/-! ### Resets (R463 to R465) -/

/-- A port after a reset: nothing commanded, and what its supplies, its temperature, its bus and its link are like.
The reset code returns LSAFE to OFF (R465); a die that it cannot reach keeps the word it has, but a power-on reset
reaches all. -/
def Port.restart (p : Port) (late : List (Nat × Word)) : Port :=
  { Port.reset with
    late := late, h := { Sect.reset with bad := p.h.bad }, l := { Sect.reset with bad := p.l.bad }, gdBad := p.gdBad,
    bootBad := p.bootBad, otBad := p.otBad, busBad := p.busBad, linkLost := p.linkLost, frameH := p.frameH,
    frameL := p.frameL }

/-- The configuration that a die still has after a reset code that did not reach it. -/
def Dev.lateAfter (d : Dev) (n : Nat) (powerOn : Bool) : List (Nat × Word) :=
  if (d.port n).linkLost && !powerOn && decide (d.lsafe n ≠ 0) then
    [(pCfg n, putBits (resetWord (pCfg n)) 13 12 (d.lsafe n))]
  else []

/-- The lands of a unit keep their levels. -/
def Encoder.restart (x : Encoder) : Encoder :=
  { Encoder.reset with a := x.a, b := x.b, z := x.z, pa := x.pa, pb := x.pb, pz := x.pz }

def Hall.restart (x : Hall) : Hall := { Hall.reset with inp := x.inp, pend := x.pend }

/-- What stands outside the reset: the dies and the lands. -/
def Dev.outside (d old : Dev) (powerOn : Bool) : Dev :=
  let e1 := old.pt.ports.foldl (fun e q => e.setPort q.1 (q.2.restart (old.lateAfter q.1 powerOn))) d
  let e2 := old.ps.encs.foldl (fun e q => e.setEnc q.1 q.2.restart) e1
  let e3 := old.ps.halls.foldl (fun e q => e.setHall q.1 q.2.restart) e2
  let e4 : Dev := { e3 with ps := { e3.ps with cpc := old.ps.cpc.restart }, md := { e3.md with pins := old.md.pins, pinAt := old.md.pinAt } }
  e4.setFld (Reg.WHL_LINES 0) 7 0 e4.pinLines

/-- A reset of a kind other than watchdog: every register and requester at reset, the flash and the fuses as they were;
unless it is a power-on reset, the always-on domain too: the retention latches with the records that wait in them, the
stop record among them (R486), the FLT_N pulse, and the failed AUTHs. A record program that has started completes (R446, R488). -/
def Dev.restart (d0 : Dev) (kind mode wake : Nat) : Dev :=
  let d := d0.finishAppend
  let po := decide (kind = 1)
  let e0 : Dev := { Dev.reset with now := d.now, freeCtr := d.freeCtr }
  let e1 := (e0.setReg Reg.THM_TRIM (d.reg Reg.THM_TRIM)).setFld Reg.IDN_FUSE 15 10 (d.fld Reg.IDN_FUSE 15 10)
  let e2 := e1.outside d po
  let e3 := e2.modFl fun x =>
    { x with mem := d.fl.mem, ecc := d.fl.ecc, recs := d.fl.recs, pos := d.fl.pos, seq := d.fl.seq, wear := d.fl.wear,
             fuses := d.fl.fuses, due := if po then [] else d.fl.due }
  let e4 := if po then e3
    else
      let k := (e3.modSn fun x =>
        { x with latS := d.sn.latS, latF := d.sn.latF, erasures := d.sn.erasures, stopRec := d.sn.stopRec }).modSv fun x =>
        { x with fails := d.sv.fails, lockout := d.sv.lockout, lockAt := d.sv.lockAt }
      let m := (List.range 8).foldl
        (fun e j => (e.setReg (Reg.SNL_RSTK j) (smGet (fun _ => 0) d.sn.latS j)).setReg (Reg.SNL_RFST j)
          (smGet (fun _ => 0) d.sn.latF j)) k
      (((m.setRbit Reg.SNL_STAT 1 true).setRbit Reg.DST_FLT 1 (d.rbit Reg.DST_FLT 1)).showFlt.modSk fun x =>
        { x with mem := d.sk.mem }).setRbit Reg.NVM_STAT 1 (!d.fl.due.isEmpty)
  let e5 := e4.modSu fun x =>
    { x with resetLow := d.su.resetLow, supplyLow := d.su.supplyLow, fltAt := if po then 0 else d.su.fltAt }
  (e5.setReg Reg.DST_RSTC (BitVec.ofNat 32 (wake <<< 8 ||| kind))).setReg Reg.DST_MODE (BitVec.ofNat 32 mode)

/-- The held wakes act once SLEEP is entered and the supplies are there (R474, R475). -/
def Dev.wakeUp (d : Dev) : Dev :=
  if d.mode = 0xB ∧ d.su.wakes ≠ 0 ∧ !d.su.supplyLow then d.restart 4 1 d.su.wakes else d

/-- A wake source fires (R475): in SLEEP, or held while SLEEP is being entered. -/
def Dev.wakeBy (d : Dev) (bit : Nat) : Dev :=
  if d.mode = 0xB ∨ d.su.sleepReq then (d.modSu fun x => { x with wakes := x.wakes ||| bit }).wakeUp else d

/-! ### Mode requests (R459 to R462) -/

/-- A return from SERVICE to the mode it was entered from (R459); an image supplied in SERVICE is used (R517). -/
def Dev.leaveService (d : Dev) : Dev :=
  if d.mode = 10 then
    let e := d.fld Reg.DST_MODE 11 8
    let d1 := d.setMode (if e = 6 then d.runMode else e)
    if decide (e = 3) && d.su.supplied.isSome then d1.setRbit Reg.DST_BOOT 3 true else d1
  else d

/-- SERVICE is entered by a session (R457, R459). -/
def Dev.enterService (d : Dev) : Dev := (d.setFld Reg.DST_MODE 11 8 d.mode).setMode 10

/-- A request of RUN or DEGRADED from STANDBY (R462, R471) starts a housekeeping round, and ends the one in progress
(R122), the round of an earlier request too. One that a safety pin refuses starts none (DESIGN CHOICE,
notes/assumptions/65.md). -/
def Dev.requestRun (d : Dev) : Dev :=
  ((d.hkStart true).setRbit Reg.SNL_MREQ 17 true).modSu fun x => { x with runReq := true, runReqAt := d.now }

/-- A request of SLEEP from STANDBY (R473) with a wake source enabled: the units are disabled. -/
def Dev.requestSleep (d : Dev) : Dev :=
  if d.rbit Reg.DST_WAKE 0 ∨ d.rbit Reg.DST_WAKE 2 then
    (allUnits.foldl (fun e u => e.unitDisable u) d).modSu fun x => { x with sleepReq := true, wakes := 0 }
  else d.reqRefuse 10

/-- Whether some port's configuration has not reached its die (CFGP). -/
def Dev.anyCfgp (d : Dev) : Bool := (List.range 64).any fun n => d.rbit (pStat n) 24

/-- A request along the rows of R459, by a session's MODE command or through SNL_MREQ. SERVICE is a session's alone, RUN is
refused while a pin is asserted (R462), SLEEP outside STANDBY has no wake (R473). -/
def Dev.takeRequest (d : Dev) (req : Nat) (ses : Bool) : Dev :=
  let cur := d.mode
  let entry := d.fld Reg.DST_MODE 11 8
  let quiet := fun (f : Dev → Dev) => if d.allQuiet then f d else d.reqRefuse 2
  if req = 0 then d
  else if req = 10 && !ses then d.reqRefuse 9
  else if (req = 6 || req = 7) && (d.rbit Reg.DST_PINS 0 || d.rbit Reg.DST_PINS 1) then d.reqRefuse 7
  else if d.su.sleepReq then d.reqRefuse 1
  else if req = 4 && cur = 5 then quiet fun d => d.setMode 4
  else if req = 5 && cur = 4 then
    (if !d.rbit Reg.DST_POL 0 then d.reqRefuse 3 else if d.anyCfgp then d.reqRefuse 4 else d.setMode 5)
  else if req = 5 && (cur = 6 || cur = 7) then quiet fun d => d.setMode 5
  else if (req = 6 || req = 7) && cur = 5 then d.requestRun
  else if req = 11 then (if cur = 5 then d.requestSleep else d.reqRefuse 10)
  else if req = 8 && (cur = 6 || cur = 7 || cur = 10) then d.enterOrderly
  else if req = 1 && (cur = 4 || cur = 5 || cur = 9 || cur = 10) then d.restart 3 1 0
  else if req = 1 && (cur = 6 || cur = 7) then quiet fun d => d.restart 3 1 0
  else if req = 10 && (cur = 3 || cur = 4 || cur = 5 || cur = 6 || cur = 7 || cur = 9) then d.enterService
  else if cur = 10 && ses && (req = entry || ((req = 6 || req = 7) && (entry = 6 || entry = 7))) then d.leaveService
  else d.reqRefuse 1

/-- Whether a master may request modes (R460): a Bobbin in supervisor mode, a session of role SERVICE, an HSPI host with
the MODE right; no other. -/
def Dev.mayRequest (d : Dev) : Master → Bool
  | .bobbin b => d.sup b
  | .session => d.sv.role.any fun r => decide (2 ≤ r)
  | .hspi => d.rbit Reg.HSPI_RIGHTS 2
  | .distaff => false

/-- A write of SNL_MREQ.REQ by a master (R460). Of what falls in one cycle, the event or the request of the lower requester
number is taken and the request is refused with EVENT (R461). Before the PLL runs there is no access (R19). -/
def Dev.modeRequest (d : Dev) (m : Asker) (req : Nat) : Dev :=
  if !d.clocked then d
  else if req = 0 then d.answer .ok
  else if d.mayRequest m.master then (if m.beaten then d.reqRefuse 8 else d.takeRequest req false).answer .ok
  else ((d.reqRefuse 11).when (decide (m.master = .hspi)) fun d => d.raise 161 7).answer .rights

/-! ### BOOT, SELFTEST and LOAD (R466 to R470, R505) -/

/-- A unit is out of service as BOOT or SELFTEST finds it; a spare comes in at once, with nothing to hand over (R430,
R468). Whether the unit was spared. -/
def Dev.bootRetire (d : Dev) (u : Retiree) : Dev × Bool :=
  match u with
  | .bank p =>
    let d1 := d.setRbit Reg.SKN_RETIRED p true
    match d.logBank p with
    | none => (d1.setSpareBank p 3, true)
    | some lb =>
      let d2 := if 16 ≤ p.val then d1.setSpareBank p 3 else d1
      match d2.freeSpareBank with
      | some q => ((d2.setFld (Reg.SKN_MAP (lb / 4)) (8 * (lb % 4) + 4) (8 * (lb % 4)) q).setSpareBank q 2, true)
      | none => (d2, false)
  | .spindle p =>
    let d1 := (d.setRbit (Reg.SPN_STAT p) 9 true).setRbit (Reg.SPN_STAT p) 11 false
    match d.logSpn p with
    | none => (d1, true)
    | some lg =>
      match d1.freeSpareSpn with
      | some q =>
        (((d1.setFld (Reg.SPN_STAT q) 15 12 lg).setRbit (Reg.SPN_STAT q) 11 true).setFld (Reg.DST_SPNMAP (lg / 4))
          (8 * (lg % 4) + 4) (8 * (lg % 4)) q, true)
      | none => (d1, false)
  | .lane k =>
    match d.groupOf k with
    | none => (d.stopLane k, true)
    | some g => match d.freeSpareLane with
      | some q =>
        (((d.stopLane k).setReg (Reg.CNV_XBAR q) (BitVec.ofNat 32 (0x100 + g))).setFld (Reg.DST_CNVMAP (g / 4))
          (8 * (g % 4) + 4) (8 * (g % 4)) q, true)
      | none => (d.stopLane k, false)
  | .bobbin b =>
    if b.val ∉ d.pair then (d.replaceCore b, true)
    else (d.replaceCore b, d.rbit Reg.DST_SPARE 6)
  | .leg n => ((d.modPort n fun p => { p with hold := true }).orReg (pStat n) 0x800004, true)
  | .distaff => (d, false)

/-- The retire list is applied (R430, R505): each record in turn. -/
def Dev.applyRetire (d : Dev) (r : Rec) : Dev :=
  if r.kind = 1 then
    match d.unitOfSrc (srcInst (r.data.headD 0).toNat ((r.data.drop 1).headD 0).toNat) with
    | some u => (d.bootRetire u).1.recount
    | none => d
  else d

/-- A stop record that a reset left open in the latches joins the records that wait (R486). -/
def Dev.mergeStop (d : Dev) : Dev :=
  match d.sn.stopRec with
  | some r => (d.recordDue r).modSn fun x => { x with stopRec := none }
  | none => d

/-- BOOT ends (R466, R503, R505, R508): the fuses read, the journal scanned, the records that wait merged and the retire list
applied, the newest image verified. -/
def Dev.bootDone (d0 : Dev) (b : BootResult) : Dev :=
  let d := ((d0.meets b.fuses b.struck).scanJournal).mergeStop
  let rs := d.fl.recs.map Prod.snd ++ d.fl.due
  let d1 := d.setReg Reg.THM_TRIM (BitVec.ofNat 32 (b.c25.toNat * 65536 + b.slope.toNat))
  let d2 := (d1.setRbit Reg.IDN_FUSE 0 b.fuseParity).when b.fuseParity fun d => d.raise 136 0
  let d3 := rs.foldl (fun e r => e.applyRetire r) d2
  let d4 := d3.modFl fun x => { x with redo := (undoneErases rs ++ d3.sn.erasures).eraseDups,
                                       wear := { x.wear with powerOns := x.wear.powerOns + (d3.fld Reg.DST_RSTC 3 0 == 1).toNat } }
  let d5 := (d4.modSn fun x => { x with erasures := [] }).showJournal
  let slot := d.newest
  let g := d.slotBytes (slot.getD false)
  let d6 := ((d5.setReg Reg.NVM_SEQA (d.slotSeq false)).setReg Reg.NVM_SEQB (d.slotSeq true)).setRbit Reg.NVM_SLOT 0
    (slot.getD false)
  let ok := slot.any fun b => d.imgSlotOk b
  let d7 := slot.elim d6 fun b => (d6.flashCheck (slotBase b) (min 0x380000 (imageLen g))).1
  let d8 := ((d7.setRbit Reg.DST_BOOT 0 ok).setRbit Reg.DST_BOOT 1 slot.isNone).setRbit Reg.DST_BOOT 2 (slot.isSome && !ok)
  let d9 := (d8.setReg Reg.DST_BENTRY (if ok then wordBy g 0x14 &&& 0xFFFFFC else 0)).setRbit Reg.CLK_STAT 2 b.extRef
  d9.setMode 2

/-- A unit that SELFTEST found failed (R468): retired with a record, counted in STRET; the first one for which there
is no spare is kept. One that is retired already, as the retire list names it, has no further retirement. -/
def Dev.selftestRetire (acc : Dev × Option Retiree) (u : Retiree) : Dev × Option Retiree :=
  if acc.1.isRetired u then acc else
  let r := acc.1.bootRetire u
  ((((r.1.recordDue (acc.1.retireRec (srcOfUnit u))).recount).incFld Reg.DST_BOOT 15 8),
    if acc.2.isSome || r.2 then acc.2 else some u)

/-- The lanes whose scan of channels 8 to 10 leaves the codes that R83 gives for R82's voltages by more than 200
(R467). -/
def badLanes (r : SelftestResult) : List Retiree :=
  (List.finRange 18).filterMap fun k =>
    if ((r.scans[k.val]?).getD []).zip [32768, 27306, 18022] |>.any fun x => decide (200 < (x.1 - x.2).natAbs) then
      some (.lane k)
    else none

/-- The newest record of a kind, among the journal's and those that wait. -/
def Dev.newestRec (d : Dev) (kind : Nat) : Option Rec :=
  ((d.fl.recs.map Prod.snd ++ d.fl.due).filter fun x => decide (x.kind = kind)).getLast?

/-- The gate calibration of the newest CAL record reaches the dies (R288); the segments in use are not part of it. -/
def Dev.loadCal (d : Dev) : Dev :=
  match d.newestRec 3 with
  | some c => (List.range 64).foldl
      (fun (e : Dev) p => (e.setFld (pCal p) 15 0 (bitsOf ((c.data[p]?).getD 0) 15 0)).modPort p fun q =>
        { q with late := q.late.filter fun x => decide (x.1 ≠ pCal p) }) d
  | none => d

/-- The lane trims of the FACT record (R83, R505). -/
def Dev.loadTrim (d : Dev) : Dev :=
  { d with ms := { d.ms with trim := ((d.newestRec 8).map fun r => r.data).getD [] } }

/-- The comparator self-tests of a port in SELFTEST (R303, R467): TRES; a failure sets STFAIL and raises its source, whose
policy reaction waits for the table (R468). -/
def Dev.portTested (d : Dev) (n : Nat) (fails : Bool) : Dev :=
  let x := pSrc n Src.HVP_STFAIL Src.LVP_STFAIL
  (d.setFld (pStat n) 21 20 (if fails then 2 else 1)).when fails fun d =>
    ((d.orReg (pStat n) 0x2000).raise x.src.toNat x.inst.toNat).modSn fun y => { y with stfails := y.stfails ++ [x] }

/-- The reactions of the comparators that failed in SELFTEST, once the table is loaded (R468): its first count. -/
def Dev.stfailsDue (d : Dev) : Dev :=
  (d.sn.stfails.foldl
    (fun e x =>
      let once := decide (bitsOf (e.scfg x.src.toNat) 3 0 ≤ 1)
      e.reactDue x (if once then e.sreact x.src.toNat else e.treact x.src.toNat) once)
    d).modSn fun y => { y with stfails := [] }

/-- SELFTEST ends (R467, R468). -/
def Dev.selftestDone (d : Dev) (r : SelftestResult) : Dev :=
  if Retiree.distaff ∈ r.failed then d.enterSafe (srcInst Src.DST_LSM 0) 2
  else
    let d0 := d.modSk fun x => { x with mem := [], ecc := [] }
    let t := (r.failed ++ badLanes r).eraseDups.foldl Dev.selftestRetire (d0, none)
    let d1 := (List.finRange 64).foldl (fun e n => e.portTested n (decide (n ∈ r.portFails))) t.1
    let d2 := (d1.loadCal.loadTrim.hkPublish r.volts).thermalRound (hkCodeOf r.volts 0).toNat
    match t.2 with
    | none => d2.setMode 3
    | some u => d2.enterSafe (srcOfUnit u) 2

/-- What LOAD takes: the image, the policy table when a slot matches, and that slot (R469, R509); from the Skein when
SERVICE supplied them (R517). -/
def Dev.loadSource (d : Dev) : Option ((Nat → Byte) × Option (Nat → Byte) × Bool) :=
  match d.su.supplied with
  | some x => some (fun o => d.byte (x.1 + o), some fun o => d.byte (x.2 + o), d.rbit Reg.NVM_SLOT 1)
  | none =>
    if d.rbit Reg.DST_BOOT 0 then
      let g := d.slotBytes (d.rbit Reg.NVM_SLOT 0)
      let p := d.polSlot g
      some (g, p.map d.polBytes, p.getD (d.rbit Reg.NVM_SLOT 1))
    else none

/-- Bytes go to the Skein as class-4 draws of the flash copy engine, a line each (R55, R469); none where the Flyer holds
one back. The fuel is the number of lines. -/
def Dev.copyLines (d : Dev) (a : Nat) (bs : List Byte) : Nat → Option Dev
  | 0 => some d
  | k + 1 =>
    let r := d.postStore 130 (classOf 130 false) none a (bs.take 64) [] false .plain
    match r.2 with
    | .wait => none
    | _ => r.1.copyLines (a + 64) (bs.drop 64) k

/-- The image's body comes to its load address (R469, R507), up to the end of the Skein. -/
def Dev.copyBody (d : Dev) (g : Nat → Byte) : Option Dev :=
  let a := (wordBy g 0x10).toNat
  let bs := (bytesBy g 0x100 (imageLen g - 0x100)).take (0x1000000 - a)
  d.copyLines a bs ((bs.length + 63) / 64)

/-- The policy table comes into use (R447): the source entries, the valid functions with their library descriptions,
the rules. -/
def Dev.usePolicy (d : Dev) (p : Nat → Byte) (descs : List (Nat × FnDesc)) : Dev :=
  let d1 := (d.modSn fun x => { x with scfg := (policyScfg p).foldl (fun m c => smSet (fun _ => 1) m c.1 c.2) [] }).modPl fun x =>
    { x with fns := [], rules := (List.range 64).map fun i => ruleOf p i }
  (List.range 32).foldl
    (fun e f =>
      let y := fnEntryOf p f
      e.modFn f fun x =>
        { x with entry := if y.v then some y else none, desc := (descs.find? fun q => decide (q.1 = f)).map Prod.snd }) d1

/-- LOAD ends once the body stands in the Skein: the policy table is checked, the pair starts, CONFIG is entered (R447,
R470, R509). -/
def Dev.loadEnds (d : Dev) (r : LoadResult) (g : Nat → Byte) (pol : Option (Nat → Byte)) (slotB : Bool) : Dev :=
    let sig := pol.any fun p => policySig g p
    let ent := pol.any policyEnt
    let ok := sig && ent
    let d1 := d.setReg Reg.DST_POL
      (BitVec.ofNat 32 (bitsOf (pol.elim 0 fun p => wordBy p 4) 15 0 * 65536 + ent.toNat * 4 + sig.toNat * 2 + ok.toNat))
    let d2 := d1.setRbit Reg.NVM_SLOT 1 slotB
    let d3 := match pol with
      | some p => d2.when ok fun e => (e.usePolicy p r.descs).stfailsDue
      | none => d2
    let d4 := d3.setReg Reg.DST_BENTRY (wordBy g 0x14 &&& 0xFFFFFC)
    (d4.startApp.setMode 4).modSu fun x => { x with ready := true }

/-- The end of LOAD (R469); without an image, or while its copy is held back, it goes on. -/
def Dev.loadDone (d : Dev) (r : LoadResult) : Dev :=
  match d.loadSource with
  | none => d
  | some (g, pol, slotB) => match d.copyBody g with
    | none => d
    | some e => e.loadEnds r g pol slotB

/-! ### SLEEP (R473) -/

/-- The sleep procedure completes: once every unit has reached its boundary (its ACT reads 0), the legs off, SLEEP
with the PLL stopped, and the held wakes act. -/
def Dev.sleepDone (d : Dev) : Dev :=
  if d.su.sleepReq ∧ d.mode = 5 ∧ allUnits.all fun u => !d.rbit (actPlace u).1 (actPlace u).2 then
    let d1 := (List.range 64).foldl (fun e n => e.legOff n) (d.finishAppend.recordDue d.wearRec)
    let d2 := ((d1.setMode 0xB).setRbit Reg.CLK_STAT 0 false).setRbit Reg.CLK_STAT 1 false
    (d2.modSu fun x => { x with ready := false, sleptAt := d.now }).wakeUp
  else d

/-! ### The commands -/

/-- MODE_REQUEST_CONFIG (R459). -/
def execModeRequestConfig (m : Asker) (s : State) : Host.Outcome State Fault Refusal := s.act fun d => d.modeRequest m 4

/-- MODE_REQUEST_STANDBY (R459). -/
def execModeRequestStandby (m : Asker) (s : State) : Host.Outcome State Fault Refusal := s.act fun d => d.modeRequest m 5

/-- MODE_REQUEST_RUN (R471). -/
def execModeRequestRun (m : Asker) (degraded : Bool) (s : State) : Host.Outcome State Fault Refusal :=
  s.act fun d => d.modeRequest m (if degraded then 7 else 6)

/-- MODE_REQUEST_SLEEP (R473). -/
def execModeRequestSleep (m : Asker) (s : State) : Host.Outcome State Fault Refusal := s.act fun d => d.modeRequest m 11

/-- MODE_REQUEST_ORDERLY_STOP (R459, R483). -/
def execModeRequestOrderlyStop (m : Asker) (s : State) : Host.Outcome State Fault Refusal :=
  s.act fun d => d.modeRequest m 8

/-- MODE_REQUEST_BOOT (R459, R463): a software reset. -/
def execModeRequestBoot (m : Asker) (s : State) : Host.Outcome State Fault Refusal := s.act fun d => d.modeRequest m 1

/-- MODE_REQUEST_SERVICE (R460): refused with SESSION. -/
def execModeRequestService (m : Asker) (s : State) : Host.Outcome State Fault Refusal := s.act fun d => d.modeRequest m 10

/-- MODE_REQUEST_NO_ROW (R460). -/
def execModeRequestNoRow (m : Asker) (req : BitVec 4) (s : State) : Host.Outcome State Fault Refusal :=
  s.act fun d => d.modeRequest m req.toNat

/-- ORDERLY_STOP_END (R485, R486): reason 0 when every function has stopped, 1 when T_ORDER has passed; before either the
orderly stop goes on. -/
def execOrderlyStopEnd (s : State) : Host.Outcome State Fault Refusal :=
  s.run fun d =>
    if d.mode = 8 ∧ (d.allQuiet ∨ d.su.ordAt + d.fld Reg.THM_ORD 7 0 * ticksUs 100 ≤ d.now) then
      d.enterSafe (if d.rbit Reg.THM_STAT 4 then srcInst Src.THM_SHUT 0 else srcInst 127 0) (if d.allQuiet then 0 else 1)
    else d

/-- POWER_ON (R463, R474): a rail that had fallen rises through its power-on level: a power-on reset; in SLEEP the
supplies are back and a held wake acts. -/
def execPowerOn (s : State) : Host.Outcome State Fault Refusal :=
  s.act fun d =>
    if d.su.supplyLow then
      let d1 := d.modSu fun x => { x with supplyLow := false }
      if d.mode = 0xB then d1.wakeUp else d1.restart 1 (if d.su.resetLow then 0 else 1) 0
    else d

/-- SUPPLY_FALL (R459, R546): OFF; in SLEEP only VIO33 is watched. -/
def execSupplyFall (r : Rail) (s : State) : Host.Outcome State Fault Refusal :=
  s.act fun d =>
    let d1 := d.modSu fun x => { x with supplyLow := true }
    if d.mode = 0xB ∧ r ≠ .vio33 then d1
    else (((List.range 64).foldl (fun e n => e.legOff n)
        (d1.finishAppend.modFl fun x => { x with job := none })).modSu fun x => { x with ready := false }).setMode 0
        |>.setRbit Reg.CLK_STAT 0 false |>.setRbit Reg.CLK_STAT 1 false

/-- PIN_RESET (R463, R465): RST_N is low, and the device is OFF. -/
def execPinReset (s : State) : Host.Outcome State Fault Refusal :=
  s.act fun d => (d.modSu fun x => { x with resetLow := true }).restart 2 0 0

/-- RESET_PIN_RELEASE (R459): BOOT, when the supplies are at their levels. -/
def execResetPinRelease (s : State) : Host.Outcome State Fault Refusal :=
  s.act fun d =>
    let d1 := d.modSu fun x => { x with resetLow := false }
    if d.mode = 0 ∧ !d.su.supplyLow then d1.setFld Reg.DST_MODE 3 0 1 else d1

/-- BOOT_END (R466). -/
def execBootEnd (b : BootResult) (s : State) : Host.Outcome State Fault Refusal :=
  s.act fun d => if d.mode = 1 then d.bootDone b else d

/-- SELFTEST_END (R467, R468). -/
def execSelftestEnd (r : SelftestResult) (s : State) : Host.Outcome State Fault Refusal :=
  s.act fun d => if d.mode = 2 ∧ d.clocked then d.selftestDone r else d

/-- LOAD_END (R470). -/
def execLoadEnd (r : LoadResult) (s : State) : Host.Outcome State Fault Refusal :=
  s.act fun d => if d.mode = 3 ∧ d.clocked then d.loadDone r else d

/-- SLEEP_ENTRY (R473). -/
def execSleepEntry (s : State) : Host.Outcome State Fault Refusal := s.run fun d => d.sleepDone

/-- WAKE (R475): the land has held the level that POL names for 10 us. -/
def execWake (s : State) : Host.Outcome State Fault Refusal :=
  s.act fun d => if d.rbit Reg.DST_WAKE 0 then d.wakeBy 1 else d

/-- WAKE_TIMER (R475): TMR seconds of the retention oscillator, within 10 %, after the entry into SLEEP. -/
def execWakeTimer (s : State) : Host.Outcome State Fault Refusal :=
  s.act fun d =>
    if d.rbit Reg.DST_WAKE 2 && decide (d.mode = 0xB) &&
        decide (10 * d.su.sleptAt + 9 * (d.fld Reg.DST_WAKE 31 16 * ticksMs 1000) ≤ 10 * d.now) then d.wakeBy 2
    else d

end Sys2Proof.Machine
end

