-- ==== Sys2Proof/Machine/Links.lean ====
section
/-! DEFINITION. The links and the general-purpose lands (17_links.md). -/

namespace Sys2Proof.Machine

/-! ### Receive (R522 to R524) -/

/-- The Skein requester of a link (R520). -/
def reqLink (l : Nat) : Nat := 104 + l

def Dev.linkEn (d : Dev) (l : Nat) : Bool := d.rbit (Reg.LNK_CTL l) 0

/-- A frame that fails its link's check. -/
def Dev.linkErr (d : Dev) (l : Nat) : Dev :=
  ((d.incFld (Reg.LNK_DROPS l) 31 16).setRbit (Reg.LNK_STAT l) 4 true).raise 161 l

/-- A frame dropped for space (R524). -/
def Dev.linkDrop (d : Dev) (l : Nat) : Dev :=
  ((d.incFld (Reg.LNK_DROPS l) 15 0).setRbit (Reg.LNK_STAT l) 3 true).raise 160 l

/-- The four bytes of a list at a place as a little-endian word, zeros beyond its end. -/
def padWord (bs : List Byte) (i : Nat) : Word := wordOfBytes ((bs.drop (4 * i)).take 4)

/-- The words of a record: the status beat, the data padded to whole beats (R522). -/
def recordWords (l flags : Nat) (info sec ns : Word) (data : List Byte) : List Word :=
  [BitVec.ofNat 32 (l * 0x1000000 + flags % 256 * 0x10000 + data.length % 65536), info, ns &&& 0x3FFFFFFF, sec] ++
    (List.range ((data.length + 15) / 16 * 4)).map fun i => padWord data i

/-- The draws of up to 64 beats that write a record; the fuel is their number. -/
def recordDraws : Nat → List Word → List (List Word)
  | 0, _ => []
  | n + 1, ws => if ws.isEmpty then [] else ws.take 256 :: recordDraws n (ws.drop 256)

/-- One draw of a record (R523). -/
def Dev.recordDraw (d : Dev) (l : Nat) (ws : List Word) (first last : Bool) : Dev :=
  let r := d.hankPut (reqLink l) none (d.fld (Reg.LNK_CTL l) 15 8) ws (.record l first last)
  match r.2 with
  | .done _ => r.1.when last fun d => d.linkCounted l
  | .wait => r.1
  | .refused .cut => r.1.linkCut l
  | .refused _ => r.1.linkDrop l

/-- Whether the link's buffer still holds a frame: a draw of its record has not ended (R524). -/
def Dev.bufferFull (d : Dev) (l : Nat) : Bool :=
  (d.drawsBy (reqLink l)).any fun x => match x.tag with
    | .record _ _ _ => true
    | _ => false

/-- A record goes into the link's ring: the whole of it is reserved first (R52), and a frame without its reservation
is dropped, the ring counting it as R51 does. -/
def Dev.linkRecord (d : Dev) (l flags : Nat) (info sec ns : Word) (data : List Byte) : Dev :=
  let hn := d.fld (Reg.LNK_CTL l) 15 8
  let h := d.hank hn
  let stamped := decide (l ≠ 6) && decide (l ≠ 7)
  let ws := recordWords l flags info (if stamped then sec else 0) (if stamped then ns else 0) data
  let draws := recordDraws ws.length ws
  if 2048 < data.length then d.linkErr l
  else if d.isCut (reqLink l) then d.linkCut l
  else if d.bufferFull l then d.linkDrop l
  else if !d.hankAccepts (reqLink l) hn then d.linkDrop l
  else if h.free < 4 * ws.length then
    ((d.setHank hn { h with drops := satInc 16 h.drops }).setRbit Reg.SKN_STAT 6 true).linkDrop l
  else draws.zipIdx.foldl (fun e w => e.recordDraw l w.1 (decide (w.2 = 0)) (decide (w.2 + 1 = draws.length))) d

/-- Whether ETH0 steers a frame to the Distaff (R532): IPv4 to the session address, whose first byte stands in bits 7:0 of
ETH_SVCIP (notes/assumptions/41.md). -/
def Dev.steered (d : Dev) (data : List Byte) : Bool :=
  d.rbit (Reg.ETH_CFG 0) 7 && decide ((data.drop 12).take 2 = [0x08, 0x00]) &&
    decide ((data.drop 30).take 4 = bytesOfWord (d.reg (Reg.ETH_SVCIP 0)))

/-- The address that an Ethernet MAC answers to: byte 0 in bits 7:0 of ETH_MAC0 (notes/assumptions/41.md). -/
def Dev.ethMac (d : Dev) (l : Nat) : List Byte := bytesOfWord (d.reg (Reg.ETH_MAC0 l)) ++ (bytesOfWord (d.reg (Reg.ETH_MAC1 l))).take 2

/-- The two IEEE 1588 multicast addresses. -/
def ptpAddrs : List (List Byte) := [[0x01, 0x1B, 0x19, 0, 0, 0], [0x01, 0x80, 0xC2, 0, 0, 0x0E]]

/-- An Ethernet frame (R531): its FLAGS, none where it is not accepted. -/
def Dev.ethAccept (d : Dev) (l : Nat) (data : List Byte) : Option Nat :=
  let dst := data.take 6
  let cfg := Reg.ETH_CFG l
  let mine := decide (dst = d.ethMac l)
  let bc := dst.all fun b => decide (b = 0xFF)
  let mc := (dst.headD 0).getLsbD 0 && !bc
  if mine || (bc && d.rbit cfg 5) || (d.rbit cfg 6 && decide (dst ∈ ptpAddrs)) || d.rbit cfg 4 then
    some (mine.toNat + 2 * bc.toNat + 4 * mc.toNat)
  else none

/-- Whether an acceptance filter of a CAN controller takes an identifier (R533). -/
def Dev.canAccept (d : Dev) (l : Nat) (info : Word) : Bool :=
  (List.range 16).any fun i =>
    let f := d.reg (Reg.CAN_FLT l i)
    let m := d.reg (Reg.CAN_MSK l i)
    bitOf f 31 && decide (bitOf f 30 = bitOf info 29) && decide ((info &&& m &&& 0x1FFFFFFF) = (f &&& m &&& 0x1FFFFFFF))

/-- The open record of a UART closes (R537). -/
def Dev.uartClose (d : Dev) (l : Nat) : Dev :=
  let x := d.link l
  if x.uart.isEmpty then d
  else (d.modLink l fun x => { x with uart := [], uartErr := false }).linkRecord l x.uartErr.toNat 0 x.uartSec x.uartNs x.uart

/-- A character at a UART: kept whatever its check says; 64 bytes close the record. -/
def Dev.uartByte (d : Dev) (l : Nat) (ok : Bool) (sec ns : Word) (b : Byte) : Dev :=
  let d1 := d.modLink l fun x =>
    { x with uart := x.uart ++ [b], uartErr := x.uartErr || !ok, uartSec := if x.uart.isEmpty then sec else x.uartSec,
             uartNs := if x.uart.isEmpty then ns else x.uartNs }
  if 64 ≤ (d1.link l).uart.length then d1.uartClose l else d1

/-- A frame of a link that takes it, by the link's standard (R531, R533, R537). An FD frame at a CAN controller
without FDEN fails the check (DESIGN CHOICE, notes/assumptions/77.md). -/
def Dev.takeFrame (d : Dev) (l : Nat) (r : RxFrame) : Dev :=
  if l = 12 ∨ l = 13 then r.data.foldl (fun e b => e.uartByte l r.ok r.tsSec r.tsNs b) d
  else if !r.ok then d.linkErr l
  else if l < 2 then
    if r.data.length < 14 ∨ 1536 < r.data.length then d.linkErr l
    else match d.ethAccept l r.data with
      | some fl =>
        if l = 0 ∧ d.steered r.data then d
        else d.linkRecord l fl (BitVec.ofNat 32 (256 * ((r.data[12]?).getD 0).toNat + ((r.data[13]?).getD 0).toNat)) r.tsSec
          r.tsNs r.data
      | none => d
  else if l < 6 then
    (if bitOf r.info 30 && !d.rbit (Reg.CAN_CFG l) 0 then d.linkErr l
     else if d.canAccept l r.info then d.linkRecord l r.flags.toNat r.info r.tsSec r.tsNs r.data else d)
  else d.linkRecord l r.flags.toNat r.info r.tsSec r.tsNs r.data

/-- A frame received complete (R522): at an enabled link, or the one that was in transfer when EN was cleared (R34). -/
def Dev.linkFrame (d : Dev) (l : Nat) (r : RxFrame) : Dev :=
  if (d.link l).busOff then d
  else if d.linkEn l then d.takeFrame l r
  else if d.rbit (Reg.LNK_STAT l) 0 && (d.link l).closing then (d.modLink l fun x => { x with closing := false }).takeFrame l r
  else d

/-! ### Transmit (R525, R526) -/

/-- The address of the next descriptor. -/
def Dev.descAddr (d : Dev) (l : Nat) : Nat :=
  d.fld (Reg.LNK_TXQ l) 23 4 * 16 + 16 * d.fld (Reg.LNK_STAT l) 15 8

/-- Whether a link transmits now: EN and TXEN, not bus-off, and on CAN not in listen-only mode (R533). -/
def Dev.mayTransmit (d : Dev) (l : Nat) : Bool :=
  d.linkEn l && d.rbit (Reg.LNK_CTL l) 2 && !(d.link l).busOff && !(decide (2 ≤ l) && decide (l < 6) && d.rbit (Reg.CAN_CFG l) 1)

/-- The link stops reading descriptors. -/
def Dev.stopReading (d : Dev) (l : Nat) : Dev := d.modLink l fun x => { x with reading := false, kick := false, sending := false }

/-- The link reads the descriptor at TXIDX: it transmits one that it owns, else it stops, after it has read once more
for a TXKICK that came meanwhile; the fuel is 2. A read that the Flyer does not grant is made again later. -/
def Dev.readDescN (d : Dev) (l : Nat) : Nat → Dev
  | 0 => d.stopReading l
  | n + 1 =>
    if !d.mayTransmit l then d.stopReading l
    else
      let r := d.load (reqLink l) 3 (d.descAddr l) 16
      match r.2.1 with
      | .done _ =>
        if (r.2.2.drop 7).head?.any fun b => b.getLsbD 7 then
          r.1.modLink l fun x => { x with reading := true, sending := true }
        else if (r.1.link l).kick then (r.1.modLink l fun x => { x with kick := false }).readDescN l n
        else r.1.stopReading l
      | .wait => r.1.modLink l fun x => { x with reading := true, sending := false }
      | .refused .cut => (r.1.stopReading l).raise 164 l
      | .refused _ => r.1.stopReading l

def Dev.readDesc (d : Dev) (l : Nat) : Dev := d.readDescN l 2

/-- The descriptor reads that the Flyer has held back go on. -/
def Dev.linkResume (d : Dev) : Dev :=
  d.lk.links.foldl (fun e x => if (e.link x.1).reading && !(e.link x.1).sending then e.readDesc x.1 else e) d

/-- TXKICK (R526); a SENT receiver does not transmit (R538). -/
def Dev.txKick (d : Dev) (l : Nat) : Dev :=
  if 14 ≤ l then d
  else if (d.link l).reading then d.modLink l fun x => { x with kick := true }
  else d.readDesc l

/-- The descriptor in transmission is written back whole. -/
def Dev.writeBack (d : Dev) (l result : Nat) (sec ns : Word) : Dev :=
  let a := d.descAddr l
  let w1 := d.word (a + 4)
  let ts := bitOf w1 30 && decide (l ≠ 6) && decide (l ≠ 7)
  let w2 := BitVec.ofNat 32 (result * 0x40000000) ||| (if ts then ns &&& 0x3FFFFFFF else 0)
  let r := d.postStore (reqLink l) 3 none a (bytesOfWords [d.word a, w1 &&& 0x7FFFFFFF, w2, if ts then sec else 0]) [] false
    .plain
  let d1 := r.1.when (decide (r.2 = .refused .cut)) fun d => d.raise 164 l
  let n := 2 ^ d.fld (Reg.LNK_TXQ l) 31 28
  (((d1.wrapFld (Reg.LNK_TXCNT l) 31 0).setFld (Reg.LNK_STAT l) 15 8 ((d.fld (Reg.LNK_STAT l) 15 8 + 1) % n)).setRbit
    (Reg.LNK_STAT l) 2 true).modLink l fun x => { x with sending := false }

/-- A descriptor ends, and the link reads on. -/
def Dev.descEnd (d : Dev) (l result : Nat) (sec ns : Word) : Dev :=
  if (d.link l).sending && decide (result < 3) then
    ((d.writeBack l result sec ns).when (decide (result = 1)) fun d => d.raise 163 l).readDesc l
  else d

/-! ### Enable and reset (R36, R527) -/

/-- EN is set: refused with CFGERR unless RXHANK is a ring hank whose writer is the link. -/
def Dev.linkEnable (d : Dev) (l : Nat) : Dev :=
  let h := d.hank (d.fld (Reg.LNK_CTL l) 15 8)
  if d.linkEn l || d.rbit (Reg.LNK_STAT l) 0 then d
  else if h.v && decide (h.kind = 1) && decide (h.writer = reqLink l) then
    (d.setRbit (Reg.LNK_CTL l) 0 true).modLink l fun x => { x with wr := h.wr }
  else d.setRbit (Reg.LNK_STAT l) 6 true

/-- WR and FILL of a ring roll back to the end of the last counted record. -/
def Dev.rollBack (d : Dev) (l : Nat) : Dev :=
  let hn := d.fld (Reg.LNK_CTL l) 15 8
  let h := d.hank hn
  if h.v && decide (h.kind = 1) && decide (h.writer = reqLink l) then
    let back := (h.wr + h.bytes - (d.link l).wr) % h.bytes
    if back ≤ h.fill then d.setHank hn { h with wr := (d.link l).wr, fill := h.fill - back } else d
  else d

/-- CTL.LRST (R527): as a clear of EN, and the work in flight is dropped. -/
def Dev.linkReset (d : Dev) (u : Fin 18) : Dev :=
  let l := u.val
  let d1 := ((d.unitDisable (.link u)).setRbit (Reg.LNK_CTL l) 2 false).resetRequester (reqLink l)
  let d2 := if (d.link l).sending then d1.writeBack l 2 0 0 else d1
  let d3 := (d2.rollBack l).setFld (Reg.LNK_STAT l) 15 8 0
  d3.modLink l fun x => { Link.reset with wr := x.wr }

/-! ### Link states (R533, R534, R538, R539) -/

/-- LNK_DOWN of a link. -/
def Dev.linkIsDown (d : Dev) (l : Nat) : Dev :=
  ((d.setRbit (Reg.LNK_STAT l) 7 false).setRbit (Reg.LNK_STAT l) 5 true).raise 162 l

/-- The links with an up state: Ethernet, USB, SENT. -/
def hasUp (l : Nat) : Bool := decide (l < 2) || decide (l = 6) || decide (14 ≤ l)

/-! ### The link time counter (R528) -/

/-- Nanoseconds are added, carrying into the 48-bit seconds. -/
def Dev.addNs (d : Dev) (n : Int) : Dev :=
  let t : Int := (d.lk.sec * 1000000000 + d.lk.ns : Nat) + n
  let m := (t % (2 ^ 48 * 1000000000 : Nat)).toNat
  d.modLk fun x => { x with sec := m / 1000000000, ns := m % 1000000000 }

/-- One CLK_PER cycle: ETH_TADJ / 2^24 ns. -/
def Dev.timeTick (d : Dev) : Dev :=
  let f := d.lk.frac + (d.reg Reg.ETH_TADJ).toNat
  (d.addNs (f / 16777216 : Nat)).modLk fun x => { x with frac := f % 16777216 }

/-! ### The general-purpose lands (R541 to R543) -/

/-- The level that a land drives, none while its driver is off. -/
def Dev.landDrive (d : Dev) (n : Nat) : Option Bool :=
  if d.rbit Reg.GPIO_DIR n then
    let safe := decide (d.mode = 9) || (decide (d.mode = 10) && decide (d.fld Reg.DST_MODE 11 8 = 9))
    let lv := if safe then d.rbit Reg.GPIO_SAFE n else if d.rbit Reg.GPIO_MSEL n then bitOf d.lk.mirror n else d.rbit Reg.GPIO_OUT n
    if d.rbit Reg.GPIO_ODEN n && lv then none else some lv
  else none

/-- GPIO_IN: the level of each land; that of a land which nothing here drives is a free value. -/
def Dev.gpioIn (d : Dev) : Word :=
  let ext := Config.freeWord d.freeCtr
  (List.range 32).foldl (fun w n => putBit w n ((d.landDrive n).getD (bitOf ext n))) 0

/-! ### The commands -/

/-- FRAME_RECEIVE (R522). -/
def execFrameReceive (l : Fin 18) (r : RxFrame) (s : State) : Host.Outcome State Fault Refusal :=
  s.run fun d => d.linkFrame l r

/-- TRANSMIT_KICK (R526). -/
def execTransmitKick (l : Fin 18) (s : State) : Host.Outcome State Fault Refusal := s.run fun d => d.txKick l

/-- DESCRIPTOR_END (R526). -/
def execDescriptorEnd (l : Fin 18) (result : BitVec 2) (tsSec tsNs : Word) (s : State) : Host.Outcome State Fault Refusal :=
  s.run fun d => d.descEnd l result.toNat tsSec tsNs

/-- LINK_RESET (R527). -/
def execLinkReset (l : Fin 18) (s : State) : Host.Outcome State Fault Refusal := s.run fun d => d.linkReset l

/-- TIME_OFFSET_WRITE (R528). -/
def execTimeOffsetWrite (m : Master) (v : Word) (s : State) : Host.Outcome State Fault Refusal :=
  s.act fun d => d.asMaster m fun d => d.addNs v.toInt

/-- CAN_BUS_OFF (R533). -/
def execCanBusOff (i : Fin 4) (s : State) : Host.Outcome State Fault Refusal :=
  s.run fun d => (d.linkIsDown (2 + i.val)).modLink (2 + i.val) fun x => { x with busOff := true }

/-- CAN_BUS_OFF_RECOVERY (R533): with ABOR = 1. -/
def execCanBusOffRecovery (i : Fin 4) (s : State) : Host.Outcome State Fault Refusal :=
  s.run fun d =>
    if d.rbit (Reg.CAN_CFG (2 + i.val)) 2 then d.modLink (2 + i.val) fun x => { x with busOff := false } else d

/-- LINK_DOWN (R534, R539): Ethernet or the USB device. -/
def execLinkDown (l : Fin 18) (s : State) : Host.Outcome State Fault Refusal :=
  s.run fun d => if l.val < 2 ∨ l.val = 6 then d.linkIsDown l else d

/-- LINK_UP (R539). -/
def execLinkUp (l : Fin 18) (s : State) : Host.Outcome State Fault Refusal :=
  s.run fun d => if hasUp l then d.setRbit (Reg.LNK_STAT l) 7 true else d

/-- UART_IDLE_CLOSE (R537). -/
def execUartIdleClose (i : Fin 2) (s : State) : Host.Outcome State Fault Refusal :=
  s.run fun d => d.uartClose (12 + i.val)

/-- SENT_TIMEOUT (R538). -/
def execSentTimeout (i : Fin 4) (s : State) : Host.Outcome State Fault Refusal := s.run fun d => d.linkIsDown (14 + i.val)

/-- GPIO_SET (R541). -/
def execGpioSet (m : Master) (v : Word) (s : State) : Host.Outcome State Fault Refusal :=
  s.act fun d => d.asMaster m fun d => d.orReg Reg.GPIO_OUT v

/-- GPIO_CLR (R541). -/
def execGpioClr (m : Master) (v : Word) (s : State) : Host.Outcome State Fault Refusal :=
  s.act fun d => d.asMaster m fun d => d.setReg Reg.GPIO_OUT (d.reg Reg.GPIO_OUT &&& ~~~v)

end Sys2Proof.Machine
end

