-- ==== Sys2Proof/Machine/Bus.lean ====
section
/-! DEFINITION. Register accesses (R5 to R10, R26 to R29, R37): finding the register, the write windows of every block,
the writes that are ignored whole, what each write does, and what each read returns. -/

namespace Sys2Proof.Machine

/-! ### Write windows (R37 and each chapter's block rule) -/

/-- The modes that accept configuration writes: LOAD, CONFIG and SERVICE. -/
def Dev.cfgMode (d : Dev) : Bool := decide (d.mode = 3) || decide (d.mode = 4) || decide (d.mode = 10)

/-- EN and ACT of a unit both read 0 (R37). -/
def Dev.unitIdle (d : Dev) (u : UnitRef) : Bool :=
  !d.rbit (enPlace u).1 (enPlace u).2 && !d.rbit (actPlace u).1 (actPlace u).2

/-- The window of a loop's register in a Spindle block; SPN_PROG and the set registers need every loop idle; SPN_HOT is
open in CONFIG and SERVICE on the spares (R242). -/
def Dev.spnWindow (d : Dev) (p off : Nat) : Bool :=
  let idle := fun l => !d.rbit (Reg.SPN_CTL p) l && !d.rbit (Reg.SPN_STAT p) l
  if off = 0xC then decide (16 ≤ p) && (decide (d.mode = 4) || decide (d.mode = 10))
  else if 0x100 ≤ off ∧ off < 0x180 then idle ((off - 0x100) / 0x20)
  else if 0x180 ≤ off ∧ off < 0x200 then idle ((off - 0x180) / 0x10)
  else idle 0 && idle 1 && idle 2 && idle 3

/-- Whether the configuration fields of a register accept a write now. -/
def Dev.winOpen (d : Dev) (h : RegHit) : Bool :=
  let reg := fun (ctl st : Nat) => !d.rbit ctl 0 && !d.rbit st 0
  match h.id with
  | .skn => decide (d.mode = 3) || decide (d.mode = 4)
  | .cnv => reg (Reg.CNV_CTL h.inst) (Reg.CNV_STAT h.inst)
  | .sdm => reg (Reg.SDM_CTL h.inst) (Reg.SDM_STAT h.inst)
  | .spn => d.spnWindow h.inst h.off
  | .tb => reg (Reg.TB_CTL h.inst) (Reg.TB_STAT h.inst)
  | .whl => reg (Reg.WHL_CTL h.inst) (Reg.WHL_STAT h.inst)
  | .pose => reg (Reg.POS_ECTL h.inst) (Reg.POS_ESTAT h.inst)
  | .posh => reg (Reg.POS_HCTL h.inst) (Reg.POS_HSTAT h.inst)
  | .posx => reg (Reg.POS_XCTL h.inst) (Reg.POS_XSTAT h.inst)
  | .cpc => reg Reg.CPC_CTL Reg.CPC_STAT
  | .inj => decide (d.mode = 10) && reg Reg.INJ_CTL Reg.INJ_STAT
  | .rel => reg (Reg.REL_CTL h.inst) (Reg.REL_STAT h.inst)
  | .lnk => reg (Reg.LNK_CTL h.inst) (Reg.LNK_STAT h.inst) &&
      (decide (h.inst ≠ 7) || decide (h.off ≠ 0x40) || decide (d.mode = 3) || decide (d.mode = 4))
  | .dst => decide (d.mode = 4) || decide (d.mode = 10)
  | .snl => decide (d.mode = 4) || decide (d.mode = 10)
  | .hkp => d.cfgMode
  | .whlg => d.cfgMode
  | .hvp => d.cfgMode
  | .lvp => d.cfgMode
  | .thm => d.cfgMode
  | .gpio => d.cfgMode
  | _ => true

/-! ### Writes that are ignored whole -/

/-- A port configuration that the manual ignores whole: TRETRY of 1 to 100, LSAFE, UVSEL; HVP_DESAT, HVP_STO,
HVP_ADPCTL, HVP_CAL; LVP_VDS. -/
def portWriteBad (hv : Bool) (off : Nat) (v : Word) : Bool :=
  let try_ := bitsOf v 26 20
  let seg := fun k => decide (bitsOf v (4 * k + 3) (4 * k) = 0) || decide (8 < bitsOf v (4 * k + 3) (4 * k))
  if off = 0 then decide (try_ = 0) || decide (100 < try_) || decide (bitsOf v 13 12 = 3) || (hv && decide (bitsOf v 1 0 = 3))
  else if hv then
    if off = 4 then decide (36 < bitsOf v 29 24) || decide (16 < bitsOf v 20 16) || decide (36 < bitsOf v 13 8) ||
      decide (16 < bitsOf v 4 0)
    else if off = 8 then decide (5 < bitsOf v 2 0)
    else if off = 0xC then decide (bitsOf v 23 20 ≤ bitsOf v 19 16)
    else if off = 0x14 then seg 0 || seg 1 || seg 2 || seg 3
    else false
  else decide (off = 4) && (decide (19 < bitsOf v 20 16) || decide (19 < bitsOf v 4 0))

/-- Whether a write's fields are ignored whole, each register as its chapter says. -/
def writeBad (id : BlockId) (inst off : Nat) (v : Word) : Bool :=
  match id with
  | .cnv => decide (off = 8) && decide (bitsOf v 3 2 = 3)
  | .sdm => (decide (off = 0) && decide (bitsOf v 23 16 < 7)) || (decide (off = 4) && decide (bitsOf v 5 1 < 7))
  | .spn => (decide (0x100 ≤ off) && decide (off < 0x180) && decide (off % 0x20 = 0x10) && decide (16 < bitsOf v 20 16)) ||
      (decide (0x200 ≤ off) && decide (off < 0x300) && decide (off % 0x40 = 0) && decide (16 < bitsOf v 4 0))
  | .whl => (decide (off = 0) && (decide (1 < bitsOf v 15 14) || decide (bitsOf v 9 8 = 3) || decide (bitsOf v 3 2 = 0))) ||
      (decide (off = 8) && (decide (bitsOf v 11 10 = 3) || decide (960 < bitsOf v 9 0)))
  | .whlg => decide (0x20 ≤ off) && decide (off < 0x30) && decide (bitsOf v 19 10 ≤ bitsOf v 9 0)
  | .hvp => portWriteBad true off v
  | .lvp => portWriteBad false off v
  | .inj => (decide (off = 0) && decide (bitsOf v 2 1 = 3)) || (decide (off = 0x10) && decide (bitsOf v 16 0 < 65536)) ||
      (decide (off = 0x14) && decide (bitsOf v 15 8 = 0))
  | .rel => decide (off = 0) && decide (6 ≤ bitsOf v 5 3)
  | .dst => decide (off = 8) && bitOf v 2 && decide (bitsOf v 31 16 = 0)
  | .thm => decide (off = 0xC) && (decide (bitsOf v 7 0 < 2) || decide (200 < bitsOf v 7 0))
  | .idn => decide (off = 0x40) && decide (36 < bitsOf v 5 0)
  | .lnk => (decide (off = 4) && decide (8 < bitsOf v 31 28)) ||
      (decide (off = 0x40) && ((decide (inst < 2) && decide (bitsOf v 1 0 = 3)) ||
        (decide (8 ≤ inst) && decide (inst < 12) && decide (bitsOf v 23 16 = 0))))
  | _ => false

/-! ### W1C bits (R6, R10) -/

/-- What follows when W1C bits have been cleared: SNL_STAT.CLEAN, FLT_N, RCODE. -/
def Dev.afterClear (d : Dev) (a : Nat) : Dev :=
  if 0x3F001000 ≤ a ∧ a < 0x3F001040 then d.showClean
  else if a = Reg.DST_FLT then d.showFlt
  else if a = Reg.SNL_MREQ ∧ !d.rbit a 16 then d.setFld a 15 8 0
  else d

/-- W1C bits are cleared, in every mode; a bit that hardware sets in the same cycle stays set. -/
def Dev.clearW1c (d : Dev) (a : Nat) (r : RegDef) (v hwSet : Word) : Dev :=
  if r.w1c = 0 then d
  else (d.setReg a ((d.reg a &&& ~~~(v &&& r.w1c)) ||| (hwSet &&& r.w1c))).afterClear a

/-! ### Writes of the other fields -/

/-- The RW fields take the value: all of them in the window, the live ones always; bits of `keep` are left out. -/
def Dev.put (d : Dev) (a : Nat) (r : RegDef) (win : Bool) (keep v : Word) : Dev :=
  let m := (if win then r.rw else r.rw &&& r.live) &&& ~~~keep
  d.setReg a ((d.reg a &&& ~~~m) ||| (v &&& m))

/-- An enable bit written: set through `on`, cleared as R31. -/
def Dev.putEn (d : Dev) (b : Bool) (u : UnitRef) (on : Dev → Dev) : Dev := if b then on d else d.unitDisable u

/-- A word written to an inbound mailbox (R203, SPN_MBIN). -/
def Dev.mbWrite (d : Dev) (p i : Nat) (v : Word) : Dev :=
  if d.rbit (Reg.SPN_MBSTAT p) i then d.setRbit (Reg.SPN_MBSTAT p) 8 true
  else (d.setRbit (Reg.SPN_MBSTAT p) i true).modSpn p fun s => { s with mbIn := smSet (fun _ => 0) s.mbIn i v }

/-- A word read from an outbound mailbox empties it (SPN_MBOUT). -/
def Dev.mbRead (d : Dev) (p i : Nat) : Dev × Word :=
  if d.rbit (Reg.SPN_MBSTAT p) (4 + i) then
    ((d.setRbit (Reg.SPN_MBSTAT p) (4 + i) false).modSpn p fun s => { s with mbOut := smSet (fun _ => 0) s.mbOut i 0 },
      smGet (fun _ => 0) (d.spn p).mbOut i)
  else (d, 0)

/-- SPN_CTL: EN by loop, the bits set before those cleared (a write that moves EN from one loop to another never
leaves all four 0), RAEN whose clearing ends run-ahead at the next period, KSEL. -/
def Dev.writeSpnCtl (d : Dev) (p : Fin 18) (r : RegDef) (v : Word) : Dev :=
  let a := Reg.SPN_CTL p
  let d1 := (List.finRange 4).foldl
    (fun (e : Dev) (l : Fin 4) => if e.rbit a (4 + l.val) && !bitOf v (4 + l.val) then e.modLp p l fun x => { x with raenOff := true } else e) d
  let d2 := (List.finRange 4).foldl (fun (e : Dev) (l : Fin 4) => if bitOf v l.val then e.loopEnable p l else e)
    (d1.put a r true 0xF v)
  (List.finRange 4).foldl (fun (e : Dev) (l : Fin 4) => if bitOf v l.val then e else e.unitDisable (.loop p l)) d2

/-- SPN_HOT in its window: the copies are kept from now on, or no more (R238). -/
def Dev.writeHot (d : Dev) (p : Nat) (r : RegDef) (v : Word) : Dev :=
  let a := Reg.SPN_HOT p
  let d1 := d.put a r true 0 v
  if !bitOf v 0 then d1.setRbit (Reg.SPN_STAT p) 16 false
  else if d.rbit a 0 && decide (d.fld a 5 1 = d1.fld a 5 1) then d1
  else d1.hotEnable p

/-- A Spindle block's registers. -/
def Dev.writeSpn (d : Dev) (p : Fin 18) (off a : Nat) (r : RegDef) (win : Bool) (v : Word) : Dev :=
  if off = 0 then d.writeSpnCtl p r v
  else if off = 0xC then (if win then d.writeHot p r v else d)
  else if 0x50 ≤ off ∧ off < 0x60 then d.mbWrite p ((off - 0x50) / 4) v
  else d.put a r win 0 v

/-- A port's registers: a configuration written reaches the die later, with CFGP meanwhile (R306); TEST, REARM. -/
def Dev.writePort (d : Dev) (n off a : Nat) (r : RegDef) (win : Bool) (v : Word) : Dev :=
  let test := if isHv n then 0x20 else 0x1C
  let rearm := if isHv n then 0x2C else 0x28
  if off = test then (if bitOf v 0 then d.testStart n (bitsOf v 3 1) else d)
  else if off = rearm then
    (d.when (bitOf v 1) fun d => d.setReg (pCnt n) 0).when (bitOf v 0) fun d => d.rearm n
  else if win && decide (r.rw ≠ 0) then d.cfgWritten n a ((d.put a r true 0 v).reg a)
  else d

/-- A link's registers (common block and its own). -/
def Dev.writeLnk (d : Dev) (l : Fin 18) (off a : Nat) (r : RegDef) (win : Bool) (v : Word) : Dev :=
  if off = 0 then
    if bitOf v 1 then (d.put a r win 5 v).linkReset l
    else (d.put a r win 1 v).putEn (bitOf v 0) (.link l) fun d => d.linkEnable l
  else if off = 8 then (if bitOf v 0 then d.txKick l else d)
  else if a = Reg.ETH_TSET then d.addNs v.toInt
  else d.put a r win 0 v

/-- A lane's registers. -/
def Dev.writeCnv (d : Dev) (k : Fin 18) (off a : Nat) (r : RegDef) (win : Bool) (v : Word) : Dev :=
  if off = 0 then
    let d1 := d.put a r win 3 v
    let d2 := if bitOf v 1 then (if d.rbit a 1 then d1 else d1.nosleepSet k) else d1.setRbit a 1 false
    d2.putEn (bitOf v 0) (.lane k) fun d => d.laneEnable k
  else if off = 0x14 then (if bitOf v 0 then d.trigger k false else d)
  else d.put a r win 0 v

/-- The Skein block's registers. -/
def Dev.writeSkn (d : Dev) (off a : Nat) (r : RegDef) (win : Bool) (v : Word) : Dev :=
  if off = 0x4C then (if bitOf v 0 then d.setReg Reg.SKN_CECNT 0 else d)
  else if off = 0x84 then (if win then d.writeHbase v else d)
  else if off = 0x88 then (if win then d.writeHcfg v else d)
  else if off = 0x90 then d.writeHrd v
  else d.put a r win 0 v

/-- The Distaff block's registers; DST_BKICK counts for the core that writes it. -/
def Dev.writeDst (d : Dev) (m : Master) (off a : Nat) (r : RegDef) (win : Bool) (v : Word) : Dev :=
  if off = 0x4C then d.writeFrel v
  else if off = 0x50 then (d.put a r win 0 v).showFlt
  else if off = 0x5C then (match m with
    | .bobbin b => d.kick b v
    | _ => d)
  else d.put a r win 0 v

/-- The Snarl block's registers. -/
def Dev.writeSnl (d : Dev) (m : Master) (off a : Nat) (r : RegDef) (win : Bool) (v : Word) : Dev :=
  if off = 0x80 then d.writeInj v
  else if off = 0xD0 then (List.range 32).foldl (fun (e : Dev) i => if bitOf v i then e.raise (192 + i) 0 else e) d
  else if off = 0xD8 then (if bitOf v 0 then d.retainedClear else d)
  else if off = 0xDC then d.modeRequest ⟨m, false⟩ (bitsOf v 3 0)
  else d.put a r win 0 v

/-- The fields of a register that are not W1C. -/
def Dev.writeFields (d : Dev) (m : Master) (a : Nat) (h : RegHit) (r : RegDef) (v : Word) : Dev :=
  let win := d.winOpen h
  let i := h.inst
  match h.id with
    | .skn => d.writeSkn h.off a r win v
    | .cnv => if hk : i < 18 then d.writeCnv ⟨i, hk⟩ h.off a r win v else d
    | .sdm => if hk : i < 32 then
        (if h.off = 0 then (d.put a r win 1 v).putEn (bitOf v 0) (.sdm ⟨i, hk⟩) fun d => d.sdmEnable i
         else d.put a r win 0 v) else d
    | .sdmc => d.clkenWrite v
    | .hkp =>
      if h.off = 0 then (if bitOf v 0 then d.hkStart true else d)
      else if h.off = 8 then
        (d.put a r win 0 v).when win fun e => e.tdacWritten (d.reg a)
      else d.put a r win 0 v
    | .spn => if hk : i < 18 then d.writeSpn ⟨i, hk⟩ h.off a r win v else d
    | .tb => if hk : i < 16 then
        (if h.off = 0 then (d.put a r win 1 v).putEn (bitOf v 0) (.timebase ⟨i, hk⟩) fun d => d.tbEnable i
         else if h.off = 4 then d.tbWrite i .per v
         else if h.off = 8 then d.tbWrite i .trga v
         else if h.off = 0xC then d.tbWrite i .trgb v
         else d.put a r win 0 v) else d
    | .whl => if hk : i < 64 then
        (if h.off = 0 then (d.put a r win 1 v).putEn (bitOf v 0) (.whorl ⟨i, hk⟩) fun d => d.whlEnable i
         else if h.off = 0x18 then d.forceWrite i v
         else if h.off = 0x1C then (if bitOf v 0 then d.tripClear i else d)
         else if h.off = 8 then (d.put a r win 0 v).tripAll d
         else (d.put a r win 0 v).tripEval i) else d
    | .whlg =>
      if h.off = 0 then d.groupStart (bitsOf v 15 0)
      else
        let d1 := d.put a r win 0 v
        if 0x20 ≤ h.off ∧ h.off < 0x30 then
          let k := (h.off - 0x20) / 4
          d1.setLine (72 + k) (d1.rbit Reg.WHL_BUSST k && d1.rbit (Reg.WHL_BUS k) 31)
        else if a = Reg.WHL_PINCFG then d1.showPins
        else d1
    | .hvp => d.writePort i h.off a r win v
    | .lvp => d.writePort (32 + i) h.off a r win v
    | .pose => if hk : i < 4 then
        (if h.off = 0 then (d.put a r win 1 v).putEn (bitOf v 0) (.encoder ⟨i, hk⟩) fun d => d.posEnable (.encoder ⟨i, hk⟩)
         else d.put a r win 0 v) else d
    | .posh => if hk : i < 10 then
        (if h.off = 0 then (d.put a r win 1 v).putEn (bitOf v 0) (.hall ⟨i, hk⟩) fun d => d.posEnable (.hall ⟨i, hk⟩)
         else d.put a r win 0 v) else d
    | .posx => if hk : i < 2 then
        (if h.off = 0 then
          (d.put a r win 1 v).putEn (bitOf v 0) (.excitation ⟨i, hk⟩) fun d => d.posEnable (.excitation ⟨i, hk⟩)
         else d.put a r win 0 v) else d
    | .cpc =>
      if h.off = 0 then (d.put a r win 1 v).putEn (bitOf v 0) .pilot fun d => d.posEnable .pilot else d.put a r win 0 v
    | .inj =>
      if d.mode ≠ 10 then d
      else if h.off = 0 then (d.put a r win 1 v).putEn (bitOf v 0) .inj Dev.injEnable
      else d.put a r win 0 v
    | .rel => if hk : i < 8 then
        (if h.off = 0 then
          (d.put a r win 1 v).putEn (bitOf v 0) (.reel ⟨i, hk⟩) fun d =>
            if d.rbit (Reg.REL_STAT i) 0 then d else d.setRbit a 0 true
         else if h.off = 0x1C then
          (((d.when (bitOf v 2) fun d => d.reelStop i).when (bitOf v 0) fun d => d.reelArm i).when (bitOf v 1) fun d => d.reelTrig i)
         else d.put a r win 0 v) else d
    | .dst => d.writeDst m h.off a r win v
    | .snl => d.writeSnl m h.off a r win v
    | .thm => if h.off = 0x24 then d.writeThmCtl v else d.put a r win 0 v
    | .gov => if h.off = 0xC then d.writeGov v else d
    | .nvm => if h.off = 0 then d.nvmCmd m (bitsOf v 3 0) (bitsOf v 31 24) else d.put a r win 0 v
    | .lnk => if hk : i < 18 then d.writeLnk ⟨i, hk⟩ h.off a r win v else d
    | .gpio =>
      if h.off = 8 then d.orReg Reg.GPIO_OUT v
      else if h.off = 0xC then d.setReg Reg.GPIO_OUT (d.reg Reg.GPIO_OUT &&& ~~~v)
      else d.put a r win 0 v
    | _ => d.put a r win 0 v

/-- A word written to register space: whether the address lies in a block (R9), and what the write does. A write that is
ignored whole clears no W1C bit; one to a retired Spindle's block (R242), as a protection, still does (R6). -/
def Dev.writeReg (d : Dev) (m : Master) (a : Nat) (v hwSet : Word) : Dev × Bool :=
  match findReg a with
  | none => (d, false)
  | some h => match h.row with
    | none => (d, true)
    | some r =>
      if writeBad h.id h.inst h.off v then (d.clearW1c a r 0 hwSet, true)
      else if h.id = .spn ∧ d.rbit (Reg.SPN_STAT h.inst) 9 then (d.clearW1c a r v hwSet, true)
      else ((d.clearW1c a r v hwSet).writeFields m a h r v, true)

/-! ### Reads -/

/-- SNL_SCNT of the selected instance. -/
def Dev.scntWord (d : Dev) : Word :=
  let c := d.snlCnt (cntKey ⟨BitVec.ofNat 8 (d.fld Reg.SNL_SEL 7 0), BitVec.ofNat 7 (d.fld Reg.SNL_SEL 14 8)⟩)
  BitVec.ofNat 32 (c.events <<< 8 ||| c.opened.toNat <<< 4 ||| c.count)

/-- What a register reads as, and what its read changes: WO and RSV bits read 0. -/
def Dev.readRow (d : Dev) (a : Nat) (h : RegHit) (r : RegDef) : Dev × Word :=
  let w := d.reg a &&& (r.rw ||| r.ro ||| r.w1c)
  match h.id with
  | .skn => if 0x84 ≤ h.off then (d, d.readHank h.off) else (d, w)
  | .snl =>
    if h.off = 0xC4 then (d, d.scfg (d.fld Reg.SNL_SEL 7 0) &&& 0x77FFF)
    else if h.off = 0xC8 then (d, d.scntWord)
    else (d, w)
  | .spn => if 0x40 ≤ h.off ∧ h.off < 0x50 then d.mbRead h.inst ((h.off - 0x40) / 4) else (d, w)
  | .dst => if h.off = 0x50 then (d, putBit w 0 d.fltLow) else (d, w)
  | .lnk =>
    if a = Reg.ETH_TSEC then (d.setReg Reg.ETH_TNS (BitVec.ofNat 32 d.lk.ns), BitVec.ofNat 32 d.lk.sec) else (d, w)
  | .idn => (d, d.idnWord h.off)
  | .gpio => if h.off = 0x10 then ({ d with freeCtr := d.freeCtr + 1 }, d.gpioIn) else (d, w)
  | _ => (d, w)

/-- A word read from register space; none outside every block. -/
def Dev.readReg (d : Dev) (a : Nat) : Dev × Option Word :=
  match findReg a with
  | none => (d, none)
  | some h => match h.row with
    | none => (d, some 0)
    | some r => ((d.readRow a h r).1, some (d.readRow a h r).2)

/-- A register whose read changes state (R517). -/
def readChanges (a : Nat) : Bool :=
  decide (a = Reg.ETH_TSEC) ||
    (decide (0x20000000 ≤ a) && decide (a < 0x20120000) && decide (0x40 ≤ a % 0x10000) && decide (a % 0x10000 < 0x50))

/-! ### The whole map (R8, R9, R27, R28, R29) -/

/-- The Skein requester of a master; a session's link carries its accesses. -/
def Dev.masterReq (d : Dev) : Master → Nat
  | .bobbin b => reqBob b
  | .distaff => reqDistaff
  | .session => if d.sv.link = some .usb then 110 else 104
  | .hspi => 111

/-- The bytes that an access of a size carries. -/
def sizeBytes (v : Word) : AccessSize → List Byte
  | .byte => (bytesOfWord v).take 1
  | .half => (bytesOfWord v).take 2
  | .word => bytesOfWord v
  | .entry hi => bytesOfWord v ++ bytesOfWord hi

/-- The widths in which a master writes the Skein: only a Bobbin issues bytes and halfwords (R42); a whole coefficient
entry goes in one store of 8 bytes, from a Bobbin, the Distaff or a session (R43, R131), as the HSPI host has words alone
(R535). -/
def widthOk (m : Master) (size : AccessSize) : Bool :=
  match size, m with
  | .byte, .bobbin _ => true
  | .half, .bobbin _ => true
  | .word, _ => true
  | .entry _, .hspi => false
  | .entry _, _ => true
  | _, _ => false

/-- A write to the map: whether it ends without an access error. -/
def Dev.mapWrite (d : Dev) (m : Master) (addr : Nat) (size : AccessSize) (v hwSet : Word) : Dev × Bool :=
  if addr < 0x1000000 then
    let bs := sizeBytes v size
    if addr % bs.length ≠ 0 || !widthOk m size then (d, false)
    else
      let req := d.masterReq m
      let r := d.postStore req (classOf req false) none addr bs [] (decide (bs.length = 8)) .plain
      (r.1, match r.2 with
        | .refused _ => false
        | _ => true)
  else if 0x20000000 ≤ addr ∧ addr < 0x40000000 then
    if size ≠ .word ∨ addr % 4 ≠ 0 then (d, false) else d.writeReg m addr v hwSet
  else (d, false)

/-- A word of the flash read window (R498): none where it is uncorrectable. -/
def Dev.flashRead (d : Dev) (off : Nat) : Dev × Option Word :=
  let r := d.flashCheck off 4
  (r.1, if r.2 then some (d.fword off) else none)

/-- What a read of the map is answered. -/
def answerOf : Option Word → Access
  | some w => .data w
  | none => .accessError

/-- A word read from the map: its data, an access error, or not ready while the Flyer does not grant the read. -/
def Dev.mapRead (d : Dev) (m : Master) (addr : Nat) : Dev × Access :=
  if addr % 4 ≠ 0 then (d, .accessError)
  else if addr < 0x1000000 then
    let r := d.load (d.masterReq m) (classOf (d.masterReq m) false) addr 4
    (r.1, match r.2.1 with
      | .done _ => .data (wordOfBytes r.2.2)
      | .refused _ => .accessError
      | .wait => .notReady)
  else if 0x10000000 ≤ addr ∧ addr < 0x10800000 then
    let r := d.flashRead (addr - 0x10000000)
    (r.1, answerOf r.2)
  else if 0x20000000 ≤ addr ∧ addr < 0x40000000 then ((d.readReg addr).1, answerOf (d.readReg addr).2)
  else (d, .accessError)

/-- Whether a master has the right to a write (R29, R517, R535). -/
def Dev.mayWrite (d : Dev) (m : Master) (addr : Nat) : Bool :=
  match m with
  | .session => (d.sv.role.any fun r => decide (2 ≤ r)) && decide (d.mode = 10)
  | .hspi => decide (addr = Reg.SNL_MREQ) || d.rbit Reg.HSPI_RIGHTS 1
  | _ => true

def Dev.mayRead (d : Dev) (m : Master) (addr : Nat) : Bool :=
  match m with
  | .session => d.sv.role.isSome && (!readChanges addr || ((d.sv.role.any fun r => decide (2 ≤ r)) && decide (d.mode = 10)))
  | .hspi => d.rbit Reg.HSPI_RIGHTS 0
  | _ => true

/-- A refusal by rights; an HSPI host's raises LNK_ERR. -/
def Dev.noRight (d : Dev) (m : Master) : Dev :=
  (match m with
    | .hspi => d.raise 161 7
    | _ => d).answer .rights

/-- A write by a master, and what it was answered. Before the PLL runs there is no access (R19). -/
def Dev.busWrite (d : Dev) (m : Master) (addr : Nat) (size : AccessSize) (v hwSet : Word) : Dev :=
  if !d.clocked then d
  else if d.mayWrite m addr then
    let r := d.mapWrite m addr size v hwSet
    r.1.answer (if r.2 then (if addr = Reg.SNL_MREQ ∧ r.1.lastAccess = .rights then .rights else .ok) else .accessError)
  else d.noRight m

/-- A read by a master, and what it was answered. -/
def Dev.busRead (d : Dev) (m : Master) (addr : Nat) : Dev :=
  if !d.clocked then d
  else if d.mayRead m addr then
    let r := d.mapRead m addr
    r.1.answer r.2
  else d.noRight m

/-! ### The commands -/

/-- REGISTER_WRITE (R8, R9, R37). -/
def execRegisterWrite (m : Master) (addr : Word) (size : AccessSize) (v : Word) (s : State) :
    Host.Outcome State Fault Refusal :=
  s.act fun d => d.busWrite m addr.toNat size v 0

/-- W1C_WRITE (R6, R10): the W1C bits of a register, with those that hardware sets in the same cycle. -/
def execW1cWrite (m : Master) (addr v hwSet : Word) (s : State) : Host.Outcome State Fault Refusal :=
  s.act fun d => d.busWrite m addr.toNat .word v hwSet

/-- HANK_CONFIG_WRITE (R45). -/
def execHankConfigWrite (m : Master) (cfg : Bool) (v : Word) (s : State) : Host.Outcome State Fault Refusal :=
  s.act fun d => d.busWrite m (if cfg then Reg.SKN_HCFG else Reg.SKN_HBASE) .word v 0

/-- HANK_READ_OFFSET_WRITE (R47). -/
def execHankReadOffsetWrite (m : Master) (v : Word) (s : State) : Host.Outcome State Fault Refusal :=
  s.act fun d => d.busWrite m Reg.SKN_HRD .word v 0

/-- CE_COUNT_CLEAR (SKN_CTL.CECLR). -/
def execCeCountClear (m : Master) (s : State) : Host.Outcome State Fault Refusal :=
  s.act fun d => d.busWrite m Reg.SKN_CTL .word 1 0

/-- TDAC_WRITE (R85). -/
def execTdacWrite (m : Master) (v : Word) (s : State) : Host.Outcome State Fault Refusal :=
  s.act fun d => d.busWrite m Reg.HKP_TDAC .word v 0

/-- SDM_CLOCK_ENABLE_WRITE (R110, R111). -/
def execSdmClockEnableWrite (m : Master) (v : Word) (s : State) : Host.Outcome State Fault Refusal :=
  s.act fun d => d.busWrite m Reg.SDM_CLKEN .word v 0

/-- MAILBOX_OUT_READ (R203). -/
def execMailboxOutRead (m : Master) (p : Fin 18) (i : Fin 4) (s : State) : Host.Outcome State Fault Refusal :=
  s.act fun d => d.busRead m (Reg.SPN_MBOUT p i)

/-- MAILBOX_IN_WRITE (R203). -/
def execMailboxInWrite (m : Master) (p : Fin 18) (i : Fin 4) (v : Word) (s : State) : Host.Outcome State Fault Refusal :=
  s.act fun d => d.busWrite m (Reg.SPN_MBIN p i) .word v 0

/-- TIME_SECONDS_READ (ETH_TSEC, R528): ETH_TNS is latched. -/
def execTimeSecondsRead (m : Master) (s : State) : Host.Outcome State Fault Refusal :=
  s.act fun d => d.busRead m Reg.ETH_TSEC

end Sys2Proof.Machine
end

