-- ==== Sys2Proof/Machine/Session.lean ====
section
/-! DEFINITION. Service sessions (16_flash_identity_service.md, R512 to R517) and the HSPI slave's transactions (R535). -/

namespace Sys2Proof.Machine

/-! ### Responses -/

/-- A response sent and stored for its SEQ (R515). -/
def Dev.respond (d : Dev) (code : Nat) (ws : List Word) : Dev :=
  d.modSv fun x => { x with resp := some ⟨code, ws⟩, sent := some ⟨code, ws⟩ }

/-- A response that is stored for no SEQ. -/
def Dev.reply (d : Dev) (code : Nat) (ws : List Word) : Dev := d.modSv fun x => { x with sent := some ⟨code, ws⟩ }

/-- A session ends (R516): the failed AUTHs and the lockout stay; a SERVICE returns under R459. -/
def Dev.endSession (d : Dev) (lost : Bool) : Dev :=
  d.dropSession.leaveService.when lost fun d => d.raise 135 0

/-! ### Opening (R513, R514) -/

/-- Whether a nonce stands: 30 s from its HELLO. -/
def Dev.nonceValid (d : Dev) : Bool := d.sv.nonce.isSome && decide (d.now - d.sv.nonceAt ≤ ticksMs 30000)

/-- Whether HELLO and AUTH are accepted in the mode: LOAD to SERVICE. -/
def Dev.helloMode (d : Dev) : Bool := decide (3 ≤ d.mode) && decide (d.mode ≤ 10)

/-- Little-endian words of a byte list. -/
def wordsOfBytes : List Byte → List Word
  | a :: b :: c :: e :: rest => wordOfBytes [a, b, c, e] :: wordsOfBytes rest
  | _ => []

def Dev.hello (d : Dev) (t : Transport) (nonce : List Byte) : Dev :=
  if !d.helloMode then d.reply 0x12 []
  else if d.sv.lockout then d.reply 0x15 []
  else if (d.sv.role.isSome || d.nonceValid) && decide (d.sv.link ≠ some t) then d.reply 0x16 []
  else
    (d.modSv fun x => { x with link := some t, nonce := some nonce, nonceAt := d.now }).reply 0
      (wordsOfBytes nonce ++ [d.idnWord 8, d.idnWord 0xC])

/-- A failed AUTH: SVC_AUTH, the count, and after three in a row the lockout. -/
def Dev.authFail (d : Dev) : Dev :=
  ((d.modSv fun x =>
    { x with fails := x.fails + 1, lockout := decide (3 ≤ x.fails + 1),
             lockAt := if 3 ≤ x.fails + 1 then d.now else x.lockAt, nonce := if 3 ≤ x.fails + 1 then none else x.nonce }).raise 134 0).reply 0x10 []

/-- The MAC that opens a session in a role (R513): over the nonce, the 6 bytes of the serial and the role. -/
def Dev.authMac (d : Dev) (role : Nat) : List Byte :=
  hmac (Config.roleKey role)
    (d.sv.nonce.getD [] ++ (bytesOfWords [d.idnWord 8, d.idnWord 0xC]).take 6 ++ [BitVec.ofNat 8 role])

def Dev.auth (d : Dev) (h : SesFrame) (role : Nat) (mac : List Byte) : Dev :=
  if !d.helloMode then d.reply 0x12 []
  else if d.sv.lockout then d.reply 0x15 []
  else if d.nonceValid && decide (d.sv.link = some h.t) && decide (1 ≤ role) && decide (role ≤ 3) &&
      decide (mac = d.authMac role) then
    (d.modSv fun x =>
      { x with nonce := none, role := some role, seq := h.seq.toNat, lastAt := d.now, fails := 0,
               waitFlash := none }).respond 0 []
  else d.authFail

/-! ### A request within a session (R515, R517) -/

/-- A frame of an open session: its transport, MAC and SEQ; a repeated SEQ gets the stored response. -/
def Dev.frame (d : Dev) (h : SesFrame) (act : Dev → Dev) : Dev :=
  if d.sv.role.isNone || decide (d.sv.link ≠ some h.t) then d.reply 0x10 []
  else if !h.macOk then d.reply 0x14 []
  else if h.seq.toNat = d.sv.seq then d.modSv fun x => { x with lastAt := d.now, sent := x.resp }
  else if h.seq.toNat ≠ (d.sv.seq + 1) % 65536 then d.reply 0x14 []
  else act (d.modSv fun x => { x with lastAt := d.now, seq := h.seq.toNat, resp := none })

/-- Whether the open session has a role or one above it. -/
def Dev.hasRole (d : Dev) (n : Nat) : Bool := d.sv.role.any fun r => decide (n ≤ r)

/-- An action of a command that needs a role and a mode. -/
def Dev.guarded (d : Dev) (role : Nat) (mode : Bool) (act : Dev → Dev) : Dev :=
  if !d.hasRole role then d.respond 0x11 []
  else if !mode then d.respond 0x12 []
  else act d

/-- A command whose LEN no rule answers: the code is free, nothing acts. -/
def Dev.respondFree (d : Dev) : Dev :=
  { d with freeCtr := d.freeCtr + 1 }.respond ((Config.freeWord d.freeCtr).toNat % 256) []

/-- SERVICE, entered from one of LOAD, CONFIG, STANDBY and SAFE. -/
def Dev.flashMode (d : Dev) : Bool :=
  let e := d.fld Reg.DST_MODE 11 8
  decide (d.mode = 10) && (decide (e = 3) || decide (e = 4) || decide (e = 5) || decide (e = 9))

/-! ### Reading and writing -/

/-- Consecutive words of the map read, up to the first that is not; why that one was not. -/
def Dev.readWords (d : Dev) (m : Master) (addr : Nat) : Nat → Dev × Option Access × List Word
  | 0 => (d, none, [])
  | n + 1 =>
    let r := d.mapRead m addr
    match r.2 with
    | .data w =>
      let q := r.1.readWords m (addr + 4) n
      (q.1, q.2.1, w :: q.2.2)
    | a => (r.1, some a, [])

/-- Whether a word address begins an entry of a coefficient hank. -/
def Dev.coefAt (d : Dev) (addr : Nat) : Bool := decide (addr % 8 = 0) && (d.hankAt addr).any fun h => decide (h.kind = 4)

/-- Consecutive words written; whether all of them were. Two words that make a coefficient entry go in one store (R43). -/
def Dev.writeWords (d : Dev) (m : Master) (addr : Nat) : List Word → Dev × Bool
  | [] => (d, true)
  | [w] => d.mapWrite m addr .word w 0
  | w :: x :: rest =>
    if d.coefAt addr then
      let r := d.mapWrite m addr (.entry x) w 0
      let q := r.1.writeWords m (addr + 8) rest
      (q.1, r.2 && q.2)
    else
      let r := d.mapWrite m addr .word w 0
      let q := r.1.writeWords m (addr + 4) (x :: rest)
      (q.1, r.2 && q.2)

def Dev.sesRead (d : Dev) (addr n : Nat) : Dev :=
  if 256 < n then d.respondFree
  else
    let live := (List.range n).any fun i => readChanges (addr + 4 * i)
    d.guarded (if live then 2 else 1) (!live || decide (d.mode = 10)) fun d =>
      let r := d.readWords .session addr n
      match r.2.1 with
      | none => r.1.respond 0 r.2.2
      | some _ => r.1.respond 0x13 []

def Dev.sesWrite (d : Dev) (addr : Nat) (ws : List Word) : Dev :=
  if 256 < ws.length then d.respondFree
  else d.guarded 2 (decide (d.mode = 10)) fun d =>
    let r := d.writeWords .session addr ws
    if r.1.sv.role.isNone then r.1 else r.1.respond (if r.2 then 0 else 0x13) []

/-- MODE: whether the request was refused shows in REFUSED taken clear, apart from a RUN request that the new mode ends
(R461); RCODE follows. -/
def Dev.sesMode (d : Dev) (req : Nat) : Dev :=
  d.guarded 2 true fun d =>
    let probe := (d.setRbit Reg.SNL_MREQ 16 false).modSu fun x => { x with runReq := false }
    let refused := (probe.takeRequest req true).rbit Reg.SNL_MREQ 16
    let d1 := d.takeRequest req true
    if refused then d1.respond 0x18 [BitVec.ofNat 32 (d1.fld Reg.SNL_MREQ 15 8)]
    else if d1.sv.role.isSome then d1.respond 0 [] else d1

/-! ### Reports -/

/-- The words of STATUS: the registers R517 names and the status lines of the valid functions. -/
def Dev.statusWords (d : Dev) : List Word :=
  let regs := [Reg.DST_MODE, Reg.DST_RSTC, Reg.DST_BOOT, Reg.DST_SPARE, Reg.DST_FSAFE, Reg.DST_FDEG, Reg.DST_FRET,
    Reg.THM_TJ]
  let masks := (List.range 8).map Reg.SNL_STICKY ++ (List.range 8).map Reg.SNL_FIRST ++ (List.range 8).map Reg.SNL_RSTK ++
    (List.range 8).map Reg.SNL_RFST ++ (List.range 8).map Reg.SNL_INJSTK
  let lines := (List.range 32).flatMap fun f => match d.fnEntry f with
    | some e => d.words e.statl.toNat 16
    | none => []
  (regs ++ masks).map d.reg ++ lines

/-- The words of JREAD: the valid records from a sequence number on, as many words as a frame carries. -/
def Dev.journalWords (d : Dev) (from_ : Nat) : List Word :=
  ((d.fl.recs.filter fun x => decide (from_ ≤ x.1)).flatMap fun x =>
    [BitVec.ofNat 32 (0x4A310000 + x.2.kind % 256 * 256 + x.2.len), BitVec.ofNat 32 x.1, BitVec.ofNat 32 x.2.tag] ++
      x.2.data).take 256

/-- The identity block. -/
def Dev.identWords (d : Dev) : List Word :=
  ([Reg.IDN_PART, Reg.IDN_STEP, Reg.IDN_SER0, Reg.IDN_SER1, Reg.IDN_FUSE] ++ (List.range 8).map Reg.IDN_PKH ++
    [Reg.IDN_DSEL, Reg.IDN_DLOT0, Reg.IDN_DLOT1, Reg.IDN_DPOS, Reg.IDN_DDATE]).map fun a => d.idnWord (a - Reg.IDN_PART)

/-! ### The session's flash commands -/

/-- The role that a sector needs. -/
def sectorRole (s : Nat) : Nat := if regionOf s = .user then 2 else 3

/-- A session's refusal of a sector (R500): the journal, a slot in use, outside. -/
def Dev.sesRefusal (d : Dev) (s : Nat) : Nat :=
  if regionOf s = .journal ∨ regionOf s = .outside ∨ d.slotInUse (regionOf s) then 2 else 0

/-- A flash operation of a session starts on the sectors it touches; its answer comes when it ends. -/
def Dev.sesFlash (d : Dev) (sectors : List Nat) (lenOk : Bool) (j : FlashJob) : Dev :=
  let no := firstRefusal d.sesRefusal sectors
  d.guarded (sectors.foldl (fun n s => max n (sectorRole s)) 2) d.flashMode fun d =>
    if d.rbit Reg.NVM_STAT 0 then d.respond 7 []
    else if !lenOk then d.respond 6 []
    else if no ≠ 0 then d.respond no []
    else if d.gateRefusal ≠ 0 then d.respond d.gateRefusal []
    else (d.flashStart j).modSv fun x => { x with waitFlash := some x.seq }

def Dev.sesErase (d : Dev) (sector count : Nat) : Dev :=
  d.sesFlash ((List.range (min count 512)).map (sector + ·)) (decide (1 ≤ count) && decide (count ≤ 224))
    { op := .erase, src := 0, data := none, dst := sector * 16384, n := count, done := 0, session := true }

def Dev.sesProg (d : Dev) (offset : Nat) (data : List Byte) : Dev :=
  let n := (data.length + 31) / 32
  d.sesFlash (sectorsTouched offset n)
    (decide (1 ≤ data.length) && decide (data.length ≤ 1024) && decide (data.length % 32 = 0) && decide (offset % 32 = 0))
    { op := .program, src := 0, data := some data, dst := offset, n := n, done := 0, session := true }

/-! ### Images (R507 to R509, R517) -/

/-- A slot's image is read, and its struck words are counted and reported (R498). -/
def Dev.slotRead (d : Dev) (b : Bool) : Dev :=
  (d.flashCheck (slotBase b) (min 0x380000 (imageLen (d.slotBytes b)))).1

/-- VERIFY: the slot not in use is checked, and the anti-rollback fuses may rise. -/
def Dev.sesVerify (d : Dev) (arb : Bool) (fuses : List (BitVec 9 × Word)) (struck : List (BitVec 18 × Bool)) : Dev :=
  d.guarded 3 d.flashMode fun d =>
    let d := d.meets fuses struck
    let b := !d.rbit Reg.NVM_SLOT 0
    let g := d.slotBytes b
    if d.imgSlotOk b && (d.polSlot g).isSome then
      ((d.slotRead b).when arb fun e => e.setFld Reg.IDN_FUSE 15 10 (max d.arb (wordBy g 8).toNat)).respond 0 []
    else (d.slotRead b).respond 0x17 []

/-- ROLLBACK: the newest slot's first sector is erased when the other slot verifies. -/
def Dev.sesRollback (d : Dev) (struck : List (BitVec 18 × Bool)) : Dev :=
  d.guarded 3 d.flashMode fun d =>
    let d := d.meets [] struck
    match d.newest with
    | some b =>
      let d1 := d.slotRead (!b)
      if !d.imgSlotOk (!b) then d1.respond 0x17 []
      else if d.rbit Reg.NVM_STAT 0 then d1.respond 7 []
      else if d.gateRefusal ≠ 0 then d1.respond d.gateRefusal []
      else
        (d1.flashStart { op := .erase, src := 0, data := none, dst := slotBase b, n := 1, done := 0,
                         session := true }).modSv fun x => { x with waitFlash := some x.seq }
    | none => d.respond 0x17 []

/-- LDRUN: an image and a policy table in the Skein verify, and LOAD will use them. -/
def Dev.sesLdrun (d : Dev) (image policy : Nat) : Dev :=
  d.guarded 3 (decide (d.mode = 10) && decide (d.fld Reg.DST_MODE 11 8 = 3)) fun d =>
    let g := fun o => d.byte (image + o)
    let p := fun o => d.byte (policy + o)
    if d.imageOk g && decide (sha256 (bytesBy p 0 2688) = bytesBy g 0x18 32) && policySig g p && policyEnt p then
      (d.modSu fun x => { x with supplied := some (image, policy) }).respond 0 []
    else d.respond 0x17 []

/-! ### The HSPI slave (R535) -/

/-- The answer of an HSPI transaction. -/
def Dev.hspiAnswer (d : Dev) (stat : Nat) (ws : List Word) : Dev := d.modLk fun x => { x with hspiStat := stat, hspiOut := ws }

def Dev.hspiReadTx (d : Dev) (addr n : Nat) (ready : Bool) : Dev :=
  if !d.clocked then d
  else if !d.rbit Reg.HSPI_RIGHTS 0 then (d.raise 161 7).hspiAnswer 3 []
  else if !ready then d.hspiAnswer 1 []
  else
    let r := d.readWords .hspi addr n
    match r.2.1 with
    | none => r.1.hspiAnswer 0 r.2.2
    | some .notReady => r.1.hspiAnswer 1 []
    | some _ => r.1.hspiAnswer 2 []

/-- One word of a write transaction, and its result. -/
def Dev.hspiWord (d : Dev) (a : Nat) (w : Word) : Dev × Nat :=
  if d.mayWrite .hspi a then
    let r := (d.answer .none).mapWrite .hspi a .word w 0
    (r.1, if r.1.lastAccess = .rights then 3 else if r.2 then 0 else 2)
  else (d.raise 161 7, 3)

def Dev.hspiWriteTx (d : Dev) (addr : Nat) (ws : List Word) : Dev :=
  let r := ws.zipIdx.foldl (fun (acc : Dev × Nat) w =>
    let q := acc.1.hspiWord (addr + 4 * w.2) w.1
    (q.1, if acc.2 = 0 then q.2 else acc.2)) (d, 0)
  if d.clocked then r.1.modLk fun x => { x with hspiLast := r.2 } else d

/-! ### The commands -/

/-- SESSION_HELLO (R513). -/
def execSessionHello (t : Transport) (nonce : List Byte) (s : State) : Host.Outcome State Fault Refusal :=
  s.run fun d => d.hello t nonce

/-- SESSION_AUTH (R513, R514). -/
def execSessionAuth (h : SesFrame) (role : BitVec 8) (mac : List Byte) (s : State) : Host.Outcome State Fault Refusal :=
  s.run fun d => d.auth h role.toNat mac

/-- SESSION_KEEP (R517). -/
def execSessionKeep (h : SesFrame) (s : State) : Host.Outcome State Fault Refusal :=
  s.run fun d => d.frame h fun d => d.respond 0 []

/-- SESSION_BYE (R516). -/
def execSessionBye (h : SesFrame) (s : State) : Host.Outcome State Fault Refusal :=
  s.run fun d => d.frame h fun d => (d.reply 0 []).endSession false

/-- SESSION_READ (R517). -/
def execSessionRead (h : SesFrame) (addr : Word) (words : Nat) (s : State) : Host.Outcome State Fault Refusal :=
  s.run fun d => d.frame h fun d => d.sesRead addr.toNat words

/-- SESSION_WRITE (R517). -/
def execSessionWrite (h : SesFrame) (addr : Word) (words : List Word) (s : State) : Host.Outcome State Fault Refusal :=
  s.run fun d => d.frame h fun d => d.sesWrite addr.toNat words

/-- SESSION_MODE (R459, R517). -/
def execSessionMode (h : SesFrame) (req : BitVec 4) (s : State) : Host.Outcome State Fault Refusal :=
  s.run fun d => d.frame h fun d => d.sesMode req.toNat

/-- SESSION_STATUS (R517). -/
def execSessionStatus (h : SesFrame) (s : State) : Host.Outcome State Fault Refusal :=
  s.run fun d => d.frame h fun d => d.guarded 1 true fun d => d.respond 0 d.statusWords

/-- SESSION_JREAD (R517). -/
def execSessionJread (h : SesFrame) (from_ : Word) (s : State) : Host.Outcome State Fault Refusal :=
  s.run fun d => d.frame h fun d => d.guarded 1 true fun d => d.respond 0 (d.journalWords from_.toNat)

/-- SESSION_IDENT (R511, R517). -/
def execSessionIdent (h : SesFrame) (s : State) : Host.Outcome State Fault Refusal :=
  s.run fun d => d.frame h fun d => d.guarded 1 true fun d => d.respond 0 d.identWords

/-- SESSION_ERASE (R500, R501, R517). -/
def execSessionErase (h : SesFrame) (sector count : Nat) (s : State) : Host.Outcome State Fault Refusal :=
  s.run fun d => d.frame h fun d => d.sesErase sector count

/-- SESSION_PROG (R500, R501, R517). -/
def execSessionProg (h : SesFrame) (offset : Nat) (data : List Byte) (s : State) : Host.Outcome State Fault Refusal :=
  s.run fun d => d.frame h fun d => d.sesProg offset data

/-- SESSION_VERIFY (R508, R509, R517). -/
def execSessionVerify (h : SesFrame) (arb : Bool) (fuses : List (BitVec 9 × Word)) (struck : List (BitVec 18 × Bool)) (s : State) :
    Host.Outcome State Fault Refusal := s.run fun d => d.frame h fun d => d.sesVerify arb fuses struck

/-- SESSION_ROLLBACK (R517). -/
def execSessionRollback (h : SesFrame) (struck : List (BitVec 18 × Bool)) (s : State) : Host.Outcome State Fault Refusal :=
  s.run fun d => d.frame h fun d => d.sesRollback struck

/-- SESSION_LDRUN (R517). -/
def execSessionLdrun (h : SesFrame) (r : Supplied) (s : State) : Host.Outcome State Fault Refusal :=
  s.run fun d => d.frame h fun d => d.sesLdrun r.image.toNat r.policy.toNat

/-- SESSION_TIMEOUT (R516): an open session ends once 10 s have passed since its last valid frame. -/
def execSessionTimeout (s : State) : Host.Outcome State Fault Refusal :=
  s.run fun d => if d.sv.role.isSome && decide (d.sv.lastAt + ticksMs 10000 ≤ d.now) then d.endSession true else d

/-- SESSION_TRANSPORT_LOSS (R516): an open session on it ends; one that is being opened is forgotten. -/
def execSessionTransportLoss (t : Transport) (s : State) : Host.Outcome State Fault Refusal :=
  s.run fun d =>
    if d.sv.link = some t then
      (if d.sv.role.isSome then d.endSession true else d.modSv fun x => { x with link := none, nonce := none })
    else d

/-- LOCKOUT_EXPIRY (R514): 60 s after the third failure in a row. -/
def execLockoutExpiry (s : State) : Host.Outcome State Fault Refusal :=
  s.run fun d => if d.sv.lockAt + ticksMs 60000 ≤ d.now then d.modSv fun x => { x with lockout := false } else d

/-- HSPI_READ (R535). -/
def execHspiRead (addr : Word) (words : Nat) (ready : Bool) (s : State) : Host.Outcome State Fault Refusal :=
  s.run fun d => d.hspiReadTx addr.toNat words ready

/-- HSPI_WRITE (R535). -/
def execHspiWrite (addr : Word) (words : List Word) (s : State) : Host.Outcome State Fault Refusal :=
  s.run fun d => d.hspiWriteTx addr.toNat words

/-- HSPI_STATUS (R535). -/
def execHspiStatus (s : State) : Host.Outcome State Fault Refusal :=
  s.run fun d => d.hspiAnswer d.lk.hspiLast []

end Sys2Proof.Machine
end

