-- ==== Sys2Proof/Machine/Operands.lean ====
section
/-! DEFINITION. The operands of GWYN instructions (R125 to R131, R141, R142, R148, R176, R177, R179): registers,
accumulators, coefficient entries with their checks, the fields that must be 0 and the register groups. -/

namespace Sys2Proof.Machine

/-! ### Registers (R125, R126) -/

/-- A value register; v0 reads 0. -/
def Dev.gv (d : Dev) (c : Core) (r : BitVec 5) : Word :=
  if r = 0 then 0
  else match c with
    | .spn p => smGet (fun _ => 0) (d.spn p).v r.toNat
    | .bob b => smGet (fun _ => 0) (d.bob b).v r.toNat

/-- A write to a value register; v0 discards it. -/
def Dev.setV (d : Dev) (c : Core) (r : BitVec 5) (w : Word) : Dev :=
  if r = 0 then d
  else match c with
    | .spn p => d.modSpn p fun s => { s with v := smSet (fun _ => 0) s.v r.toNat w }
    | .bob b => d.modBob b fun s => { s with v := smSet (fun _ => 0) s.v r.toNat w }

/-- The signed value of a register. -/
def Dev.iv (d : Dev) (c : Core) (r : BitVec 5) : Int := (d.gv c r).toInt

/-- An accumulator. -/
def Dev.ga (d : Dev) (c : Core) (a : Nat) : DWord :=
  match c with
  | .spn p => smGet (fun _ => 0) (d.spn p).a a
  | .bob b => smGet (fun _ => 0) (d.bob b).a a

def Dev.setA (d : Dev) (c : Core) (a : Nat) (w : DWord) : Dev :=
  match c with
  | .spn p => d.modSpn p fun s => { s with a := smSet (fun _ => 0) s.a a w }
  | .bob b => d.modBob b fun s => { s with a := smSet (fun _ => 0) s.a a w }

/-- The signed value of an accumulator. -/
def Dev.ia (d : Dev) (c : Core) (a : Nat) : Int := (d.ga c a).toInt

/-- The program counter of a core. -/
def Dev.pcOf (d : Dev) : Core → Word
  | .spn p => (d.spn p).pc
  | .bob b => (d.bob b).pc

def Dev.setPc (d : Dev) (c : Core) (w : Word) : Dev :=
  match c with
  | .spn p => d.modSpn p fun s => { s with pc := w }
  | .bob b => d.modBob b fun s => { s with pc := w }

/-- The address after an instruction: its link (R144, R149). -/
def Dev.retAddr (d : Dev) (c : Core) : Word := d.pcOf c + 4

/-- A write to a value register with the saturation flag of its result (R132). -/
def Dev.setSat (d : Dev) (c : Core) (r : BitVec 5) (x : Word × Bool) : Dev :=
  (d.setV c r x.1).raiseFlags c (if x.2 then fVSAT else 0)

/-- A write to an accumulator with the saturation flag of its result (R132). -/
def Dev.setAsat (d : Dev) (c : Core) (a : Nat) (x : DWord × Bool) : Dev :=
  (d.setA c a x.1).raiseFlags c (if x.2 then fASAT else 0)

/-! ### Coefficient entries (R128 to R130, R179) -/

/-- An entry: of the loop's snapshot on a Spindle, of the core's own file on a Bobbin. -/
def Dev.kOf (d : Dev) (c : Core) (i : Nat) : DWord :=
  match c with
  | .spn p => d.kEntry p i
  | .bob b => smGet (fun _ => 0) (d.bob b).k i

/-- The kinds of R127. -/
def kPlain : Nat := 0
def kLimit : Nat := 1
def kTol : Nat := 2
def kPtr : Nat := 3

/-- Whether entries exist and pass the check of R128, each for its kind (R179). -/
def Dev.kinds (d : Dev) (c : Core) (es : List (Nat × Nat)) : Bool :=
  es.all fun e => decide (e.1 ≤ 255) && kindOk (d.kOf c e.1) e.2

/-- The signed VALUE of an entry. -/
def Dev.kv (d : Dev) (c : Core) (i : Nat) : Int := kValue (d.kOf c i)

/-! ### Immediates (R142) -/

def sx16 (b : BitVec 16) : Int := b.toInt

def zx16 (b : BitVec 16) : Word := b.setWidth 32

/-- 1 or 0. -/
def boolWord (b : Bool) : Word := if b then 1 else 0

/-! ### Fields that must be 0 (R141, R144, R145, R148, R176) -/

/-- reg format with vd, vs1 and vs2. -/
def illDst (f : RegF) : Bool := decide (f.sh ≠ 0)

/-- reg format with vd and vs1 only. -/
def illDs (f : RegF) : Bool := decide (f.sh ≠ 0) || decide (f.rs2 ≠ 0)

/-- reg format with vd, vs1 and sh. -/
def illSh (f : RegF) : Bool := decide (f.rs2 ≠ 0)

/-- reg format with vs1 only. -/
def illS (f : RegF) : Bool := decide (f.sh ≠ 0) || decide (f.rs2 ≠ 0) || decide (f.rd ≠ 0)

/-- reg format with no operand. -/
def illNone (f : RegF) : Bool := decide (f.sh ≠ 0) || decide (f.rs2 ≠ 0) || decide (f.rs1 ≠ 0) || decide (f.rd ≠ 0)

/-- The accumulator that the field at bits 4:0 of ld.a and st.a names (R152). -/
def accLow (r : BitVec 5) : Nat := r.toNat % 4

def illAccLow (r : BitVec 5) : Bool := decide (4 ≤ r.toNat)

/-- imm13 must be a multiple of 8 (R142). -/
def illKmem (f : KmemF) : Bool := decide (f.imm.toNat % 8 ≠ 0)

/-- N, RND of macs, msus and muls. -/
def macN (f : MacF) : Nat := f.mid.toNat / 8
def macRndK (f : MacF) : Bool := f.mid.getLsbD 2
def illMacK (f : MacF) : Bool := decide (f.mid.toNat % 4 ≠ 0) || decide (f.low ≠ 0)

/-- sh and RND of macv, rda and wra. -/
def macSh (f : MacF) : Nat := f.mid.toNat / 32
def macRnd (f : MacF) : Bool := f.mid.getLsbD 4
def illMacv (f : MacF) : Bool := decide (f.mid.toNat % 16 ≠ 0)
def illRda (f : MacF) : Bool := decide (f.mid.toNat % 16 ≠ 0) || decide (f.rs1 ≠ 0)
def illWra (f : MacF) : Bool := decide (f.mid.toNat % 32 ≠ 0) || decide (f.low ≠ 0)

/-- as of adda. -/
def macAs (f : MacF) : Nat := f.mid.toNat / 512
def illAdda (f : MacF) : Bool := decide (f.mid.toNat % 512 ≠ 0) || decide (f.low ≠ 0) || decide (f.rs1 ≠ 0)

/-- The accumulator that rs2 of a ctl word names (R176). -/
def accRs2 (f : CtlF) : Nat := f.rs2.toNat % 4
def illAccRs2 (f : CtlF) : Bool := decide (4 ≤ f.rs2.toNat)

/-- No operand register of a ctl word but those left to it. -/
def nz (r : BitVec 5) : Bool := decide (r ≠ 0)

/-! ### Groups (R177) -/

def pairOk (r : BitVec 5) : Bool := decide (r.toNat % 2 = 0) && decide (2 ≤ r.toNat)

def quadOk (r : BitVec 5) : Bool := decide (r.toNat % 4 = 0) && decide (4 ≤ r.toNat)

/-- Whether a group of n registers from r and one of m registers from q share a register. -/
def meets (r : BitVec 5) (n : Nat) (q : BitVec 5) (m : Nat) : Bool :=
  decide (r.toNat < q.toNat + m) && decide (q.toNat < r.toNat + n)

/-! ### Addresses (R135, R142, R152) -/

/-- An effective address, exact: it never wraps. -/
def Dev.eaImm (d : Dev) (c : Core) (rs1 : BitVec 5) (imm : BitVec 16) : Int := ((d.gv c rs1).toNat : Int) + imm.toInt

def Dev.eaK (d : Dev) (c : Core) (f : KmemF) : Int := ((d.gv c f.rs1).toNat : Int) + f.imm.toInt

/-- The target of a branch or a jump, exact. -/
def Dev.target (d : Dev) (c : Core) (off : Int) : Int := ((d.pcOf c).toNat : Int) + 4 + 4 * off

/-- An effective address as tval and SPN_TRAPEA show it. -/
def eaWord (ea : Int) : Word := BitVec.ofInt 32 ea

end Sys2Proof.Machine
end

