-- ==== Sys2Proof/Machine/Gwyn.lean ====
section
/-! DEFINITION. How a core runs one GWYN instruction (R124, R141, R149 to R151, R160 to R173): the conditions it meets in
the order of their priorities, its traps, its interrupts and its stalls. -/

namespace Sys2Proof.Machine

/-! ### Bobbins: status, protection, traps (R164 to R173) -/

/-- Fields of status (R166). -/
def Dev.ie (d : Dev) (b : Nat) : Bool := bitOf (d.csr b 0) 1
def Dev.mpe (d : Dev) (b : Nat) : Bool := bitOf (d.csr b 0) 4
def Dev.trp (d : Dev) (b : Nat) : Bool := bitOf (d.csr b 0) 5

/-- Whether region n contains an address (R172). -/
def regionHas (m : Word) (a : Nat) : Bool :=
  let size := bitsOf m 9 5
  bitOf m 0 && decide (size ≤ 22) && decide (bitsOf m 31 10 * 1024 / 2 ^ (size + 10) = a / 2 ^ (size + 10))

/-- What an access asks of a region: its bit. -/
inductive Acc where
  | fetch | write | read
  deriving DecidableEq, Repr

def Acc.bit : Acc → Nat
  | .fetch => 4
  | .write => 3
  | .read => 2

/-- Memory protection (R172): the lowest-numbered region that contains the address decides. -/
def Dev.mpuOk (d : Dev) (b : Nat) (a : Nat) (k : Acc) : Bool :=
  !d.mpe b ||
    (match ((List.range 16).map fun n => d.csr b (16 + n)).find? fun m => regionHas m a with
      | some m => bitOf m k.bit && (d.sup b || bitOf m 1)
      | none => d.sup b)

/-- Trap entry (R167): epc, cause and tval, the saved bits, supervisor mode, and tvec. -/
def Dev.trapEntry (d : Dev) (b : Nat) (epc cause tval : Word) : Dev :=
  let st := d.csr b 0
  let st1 := putBit (putBit (putBit (putBit (putBit st 2 (bitOf st 0)) 3 (bitOf st 1)) 0 true) 1 false) 5 true
  ((((d.setCsr b 1 epc).setCsr b 2 cause).setCsr b 3 tval).setCsr b 0 st1).modBob b fun x =>
    { x with pc := d.csr b 4 &&& 0xFFFFFF00, wfi := false, wait := none }

/-- A free value for tval where the manual states none. -/
def Dev.tvalOr (d : Dev) (t : Option Word) : Dev × Word :=
  match t with
  | some w => (d, w)
  | none => ({ d with freeCtr := d.freeCtr + 1 }, Config.freeWord d.freeCtr)

/-- A trap of a Bobbin; inside a handler it is a double trap, and the core stops (R168). The imprecise trap of a refused
posted store counts as one too (DESIGN CHOICE, notes/assumptions/84.md). -/
def Dev.bobTrap (d : Dev) (b : Nat) (epc cause : Word) (tval : Option Word) : Dev :=
  if d.trp b then (d.modBob b fun x => { x with running := false, wfi := false, wait := none }).raise Src.BOB_DTRAP b
  else (d.tvalOr tval).1.trapEntry b epc cause (d.tvalOr tval).2

/-! ### Interrupt lines (R171) -/

/-- Whether a line is pending. -/
def Dev.irqOf (d : Dev) (b n : Nat) : Bool :=
  if n < 4 then d.rbit Reg.SNL_NOTE n
  else if n < 22 then decide (d.fld (Reg.SPN_MBSTAT (n - 4)) 7 4 ≠ 0)
  else if n < 40 then decide (d.reg (Reg.LNK_STAT (n - 22)) &&& d.reg (Reg.LNK_INTEN (n - 22)) &&& 0x3E ≠ 0)
  else if n < 48 then d.rbit (Reg.REL_STAT (n - 40)) 3
  else if n = 48 then d.rbit Reg.INJ_STAT 2 || d.rbit Reg.INJ_STAT 3
  else if n = 49 then d.rbit Reg.NVM_STAT 2
  else if n = 50 then d.rbit Reg.HKP_STAT 16
  else if n = 51 then d.rbit Reg.THM_STAT 10
  else if n = 52 then d.rbit Reg.GOV_STAT 8
  else if n = 53 then d.rbit Reg.SNL_MREQ 18
  else if n = 54 then decide (d.reg Reg.SKN_STAT ≠ 0)
  else if n = 55 then (d.bob b).timer || decide ((d.bob b).cycle % 2 ^ 32 = (d.csr b 7).toNat)
  else false

/-- ipend0 and ipend1. -/
def Dev.ipend (d : Dev) (b hi : Nat) : Word :=
  BitVec.ofNat 32 ((List.range 32).foldl (fun acc i => if d.irqOf b (32 * hi + i) then acc + 2 ^ i else acc) 0)

/-- The lowest-numbered line that is pending and enabled (R169). -/
def Dev.irqLine (d : Dev) (b : Nat) : Option Nat :=
  (List.range 64).find? fun n => bitOf (d.csr b (0xA + n / 32)) (n % 32) && d.irqOf b n

/-! ### Where a core may execute (R150, R151) -/

/-- Whether an address lies in a Spindle's program window. -/
def Dev.inWindow (d : Dev) (p : Nat) (t : Int) : Bool :=
  decide (t % 4 = 0) && decide (((d.spn p).pbase : Int) ≤ t) && decide (t < ((d.spn p).pbase : Int) + 16 * (d.spn p).pbeats)

/-- Where a Bobbin may execute: the Skein and the flash. -/
def bobExec (t : Int) : Bool :=
  decide (t % 4 = 0) && ((decide (0 ≤ t) && decide (t < 0x1000000)) || (decide (0x10000000 ≤ t) && decide (t < 0x10800000)))

def Dev.mayExec (d : Dev) (c : Core) (t : Int) : Bool :=
  match c with
  | .spn p => d.inWindow p t
  | .bob _ => bobExec t

/-- Whether memory protection refuses the fetch of the instruction (R172). -/
def Dev.fetchProt (d : Dev) (c : Core) : Bool :=
  match c with
  | .spn _ => false
  | .bob b => !d.mpuOk b (d.bob b).pc.toNat .fetch

/-- The fetch of the instruction at the pc, and the cause it traps with: outside the places of R151 and for an
uncorrectable word IFETCH; through a cut port CUT (R155), unless protection refuses it, which comes first (R160). The
instruction cache takes no turn of the Flyer (DESIGN CHOICE, notes/assumptions/78.md). -/
def Dev.fetch (d : Dev) (c : Core) : Dev × Option Nat :=
  let ifetch := fun (ok : Bool) => if ok then none else some 1
  match c with
  | .spn p => (d, ifetch (d.inWindow p ((d.spn p).pc.toNat : Int)))
  | .bob b =>
    let a := (d.bob b).pc.toNat
    if !bobExec (a : Int) then (d, some 1)
    else if a < 0x1000000 then
      if d.isCut (coreReq c) then (d, some (if d.fetchProt c then 8 else 0x0A)) else ((d.checkWord a).1, ifetch (d.checkWord a).2)
    else ((d.flashCheck (a - 0x10000000) 4).1, ifetch (d.flashCheck (a - 0x10000000) 4).2)

/-- Instructions that never go on at the next address: jumps, halt and rahead; branches give both their targets. -/
def transfers : Instr → Bool
  | .jmp _ _ => true
  | .jsub _ _ => true
  | .jmpr _ _ => true
  | .jsubr _ _ => true
  | .beq _ _ => true
  | .bne _ _ => true
  | .blt _ _ => true
  | .bge _ _ => true
  | .bltu _ _ => true
  | .bgeu _ _ => true
  | .rahead _ _ => true
  | .halt _ _ => true
  | _ => false

/-- A Spindle's instruction in the last place of the window, from which it would fall out of it (R151). -/
def Dev.fallsOut (d : Dev) (c : Core) (i : Instr) : Bool :=
  match c with
  | .spn p => !transfers i && !d.inWindow p (((d.spn p).pc.toNat : Int) + 4)
  | .bob _ => false

/-! ### Outcomes of an instruction -/

/-- What an instruction does: it completes and the next one follows; it transfers control; it keeps the core where it
placed it or where it stalls; or it meets a trap condition, with what the access did and its EA. -/
inductive Eff where
  | next (d : Dev)
  | jump (d : Dev) (t : Int)
  | stay (d : Dev)
  | trap (d : Dev) (cause : Nat) (ea : Option Word)

/-- The profiles of R124 and R143. -/
inductive Profile where
  | both | c | s
  deriving DecidableEq, Repr

def Profile.has : Profile → Core → Bool
  | .both, _ => true
  | .c, .spn _ => true
  | .s, .bob _ => true
  | _, _ => false

/-- The priority of a cause (R160, R207). -/
def prio (cause : Nat) : Nat :=
  if cause ≤ 4 then cause
  else if cause = 0x0D ∨ cause = 0x10 then 4
  else if cause = 5 ∨ cause = 0x16 then 5
  else if cause ≤ 8 then cause
  else if cause ≤ 0xC then 9
  else 10

/-- The registers of the trap: on a Spindle R161 or, in run-ahead, R162; on a Bobbin R167. -/
def Dev.takeTrap (d : Dev) (c : Core) (word : Word) (cause : Nat) (ea : Option Word) : Dev :=
  match c with
  | .spn p =>
    let l := d.curLoop p
    if (d.spn p).ra ∧ cause ≠ 0x10 then d.squashReplay p l
    else d.spnTrap p l cause (d.spn p).pc (ea.getD 0) false
  | .bob b =>
    let code := if cause = 0x0D then bitsOf word 19 12 else 0
    d.bobTrap b (d.bob b).pc (BitVec.ofNat 32 (code * 256 + cause))
      (if cause = 2 ∨ cause = 3 ∨ cause = 4 then some word else ea)

/-- A core at an instruction boundary, not stalled, with its clock running (R19). -/
def Dev.free (d : Dev) (c : Core) : Bool :=
  d.clocked && (match c with
    | .spn p => (d.spn p).slot.isSome && (d.spn p).entry.isSome && (d.spn p).wait.isNone
    | .bob b => (d.bob b).running && !(d.bob b).wfi && (d.bob b).wait.isNone)

/-- Whether a Bobbin takes an interrupt at this boundary (R169). -/
def Dev.irqDue (d : Dev) (b : Nat) : Bool := d.ie b && (d.irqLine b).isSome

/-- A core that runs the next instruction: no trap of a refused store and no interrupt comes first (R155, R169). -/
def Dev.ready (d : Dev) (c : Core) : Bool :=
  d.free c && (match c with
    | .spn p => (d.spn p).refused.isEmpty
    | .bob b => (d.bob b).refused.isEmpty && !d.irqDue b)

/-- Whether the core still runs after its instruction: a commit may have trapped it, a store may have reset it. -/
def Dev.alive (d : Dev) (c : Core) : Bool :=
  match c with
  | .spn p => (d.spn p).entry.isSome
  | .bob b => (d.bob b).running

/-- Whether an instruction would take the core where it may not execute (R150, R151): it falls out of the window, jumps
to no instruction's place, or starts no BODY. -/
def Dev.leaves (d : Dev) (c : Core) (i : Instr) (e : Eff) : Bool :=
  d.fallsOut c i || (match e with
    | .jump _ t => !d.mayExec c t
    | .trap _ cause _ => decide (cause = 1) && transfers i
    | _ => false)

/-- The conditions and the effect of an instruction in the order of R160; the fetch's protection has priority 8. -/
def Dev.effect (d : Dev) (c : Core) (i : Instr) (prof : Profile) (ill : Bool) (f : Dev → Eff) : Eff :=
  let e := f d
  if d.leaves c i e then .trap d 1 none
  else if ill then .trap d 2 none
  else if !prof.has c then .trap d 3 none
  else if d.fetchProt c then
    (match e with
      | .trap d1 cause ea => if prio cause ≤ 8 then .trap d1 cause ea else .trap d 8 none
      | _ => .trap d 8 none)
  else e

/-- What the outcome of an instruction leaves. -/
def Dev.finish (c : Core) (word : Word) : Eff → Dev
  | .next d => if d.alive c then d.setPc c (d.pcOf c + 4) else d
  | .jump d t => d.setPc c (BitVec.ofInt 32 t)
  | .stay d => d
  | .trap d cause ea => d.takeTrap c word cause ea

/-- A core runs one instruction; a core that is stopped or stalled runs none. -/
def Dev.issue (d : Dev) (c : Core) (i : Instr) (prof : Profile) (ill : Bool) (f : Dev → Eff) : Dev :=
  if d.ready c then
    let word := (encode i).getD 0
    let r := d.fetch c
    match r.2 with
    | none => Dev.finish c word (r.1.effect c i prof ill f)
    | some cause => r.1.takeTrap c word cause none
  else d

/-- Whether a Spindle is in run-ahead; a Bobbin never is. -/
def Dev.inRa (d : Dev) : Core → Bool
  | .spn p => (d.spn p).ra
  | .bob _ => false

/-- An instruction marked RAILL in R208. -/
def Dev.raill (d : Dev) (c : Core) (e : Eff) : Eff := if d.inRa c then .trap d 0x10 none else e

/-- An instruction that reads coefficient entries: the checks of R128 and R179 come before any effect. -/
def Dev.withKinds (d : Dev) (c : Core) (es : List (Nat × Nat)) (e : Eff) : Eff :=
  if d.kinds c es then e else .trap d 5 none

end Sys2Proof.Machine
end

