-- ==== Sys2Proof/Machine/Branch.lean ====
section
/-! DEFINITION. Branches, jumps and the fence (R142, R144, R149, R150, R152). -/

namespace Sys2Proof.Machine

/-- A branch: its target or the next instruction. -/
def Dev.branch (d : Dev) (c : Core) (i : Instr) (off : BitVec 16) (taken : Bool) : Dev :=
  d.issue c i .both false fun d => .jump d (d.target c (if taken then off.toInt else 0))

/-- How many posted stores of a core have not completed (R159): its writes outside commits. -/
def Dev.storesWaiting (d : Dev) (c : Core) : Nat :=
  ((d.drawsBy (coreReq c)).filter fun x => x.write && decide (x.cls ≠ 0)).length

/-- beq. -/
def execBeq (c : Core) (f : BranchF) (s : State) : Host.Outcome State Fault Refusal :=
  s.act fun d => d.branch c (.beq c f) f.off (decide (d.gv c f.rs1 = d.gv c f.rs2))

/-- bne. -/
def execBne (c : Core) (f : BranchF) (s : State) : Host.Outcome State Fault Refusal :=
  s.act fun d => d.branch c (.bne c f) f.off (decide (d.gv c f.rs1 ≠ d.gv c f.rs2))

/-- blt, signed. -/
def execBlt (c : Core) (f : BranchF) (s : State) : Host.Outcome State Fault Refusal :=
  s.act fun d => d.branch c (.blt c f) f.off (decide (d.iv c f.rs1 < d.iv c f.rs2))

/-- bge, signed. -/
def execBge (c : Core) (f : BranchF) (s : State) : Host.Outcome State Fault Refusal :=
  s.act fun d => d.branch c (.bge c f) f.off (decide (d.iv c f.rs2 ≤ d.iv c f.rs1))

/-- bltu. -/
def execBltu (c : Core) (f : BranchF) (s : State) : Host.Outcome State Fault Refusal :=
  s.act fun d => d.branch c (.bltu c f) f.off (decide ((d.gv c f.rs1).toNat < (d.gv c f.rs2).toNat))

/-- bgeu. -/
def execBgeu (c : Core) (f : BranchF) (s : State) : Host.Outcome State Fault Refusal :=
  s.act fun d => d.branch c (.bgeu c f) f.off (decide ((d.gv c f.rs2).toNat ≤ (d.gv c f.rs1).toNat))

/-- jmp. -/
def execJmp (c : Core) (f : JumpF) (s : State) : Host.Outcome State Fault Refusal :=
  s.act fun d => d.issue c (.jmp c f) .both false fun d => .jump d (d.target c f.off.toInt)

/-- jsub: v1 := address + 4, then the jump. -/
def execJsub (c : Core) (f : JumpF) (s : State) : Host.Outcome State Fault Refusal :=
  s.act fun d => d.issue c (.jsub c f) .both false fun d => .jump (d.setV c 1 (d.retAddr c)) (d.target c f.off.toInt)

/-- jmpr (R144, R150). -/
def execJmpr (c : Core) (f : RegF) (s : State) : Host.Outcome State Fault Refusal :=
  s.act fun d => d.issue c (.jmpr c f) .both (illS f) fun d => .jump d ((d.gv c f.rs1).toNat : Int)

/-- jsubr: vd := address + 4, then the jump; where it traps, vd is not written. -/
def execJsubr (c : Core) (f : RegF) (s : State) : Host.Outcome State Fault Refusal :=
  s.act fun d => d.issue c (.jsubr c f) .both (illDs f) fun d =>
    .jump (d.setV c f.rd (d.retAddr c)) ((d.gv c f.rs1).toNat : Int)

/-- fence: it completes when every draw of the core has; in run-ahead at once (R152). -/
def execFence (c : Core) (f : RegF) (s : State) : Host.Outcome State Fault Refusal :=
  s.act fun d => d.issue c (.fence c f) .both (illNone f) fun d =>
    if !d.inRa c && d.hasDraw (coreReq c) none then .stay d else .next d

end Sys2Proof.Machine
end

