-- ==== Sys2Proof/Machine/Memory.lean ====
section
/-! DEFINITION. Loads and stores of GWYN (R152 to R156, R159, R194, R221): a Spindle reaches the Skein, through its
store queue in run-ahead and its handoff snapshot; a Bobbin the whole map under memory protection. -/

namespace Sys2Proof.Machine

/-! ### Spindle loads (R153, R155, R194, R221) -/

/-- The word that a queue entry holds of an address. -/
def Queued.wordAt : Queued → Nat → Option Word
  | .word ea w _, a => if ea = a then some w else none
  | .dword ea w _, a =>
    if ea = a then some (w.extractLsb' 0 32) else if ea + 4 = a then some (w.extractLsb' 32 32) else none
  | .trace _ _, _ => none

/-- The newest queued store to a word. -/
def queuedWord (q : List Queued) (a : Nat) : Option Word := q.reverse.findSome? fun e => e.wordAt a

/-- Whether an address lies in the handoff line that the running loop reads (R221). -/
def Dev.inHandoff (d : Dev) (p a : Nat) : Bool :=
  let l := d.curLoop p
  let base := (d.hank (d.fld (Reg.SPN_LENT1 p l) 31 24)).start + 0x80
  d.rbit (Reg.SPN_LENT1 p l) 23 && decide (base ≤ a) && decide (a < base + 64)

/-- What one word's load gives: the word, with LOCKBRK or not; the trap's cause; or nothing while the Flyer does not
grant it. -/
inductive Loaded where
  | word (w : Word) (brk : Bool)
  | cause (n : Nat)
  | wait
  deriving DecidableEq, Repr

/-- What a load that ended so gives. -/
def loadedOf (r : SkRes) (w : Word) : Loaded :=
  match r with
  | .done brk => .word w brk
  | .refused st => .cause (causeOf st)
  | .wait => .wait

/-- A word from the Skein for a core, class 1 for a Spindle and 2 for a Bobbin (R55, R153). -/
def Dev.skeinWord (d : Dev) (c : Core) (a : Nat) : Dev × Loaded :=
  let r := d.load (coreReq c) (classOf (coreReq c) false) a 4
  (r.1, loadedOf r.2.1 (wordOfBytes r.2.2))

/-- A word of the handoff snapshot of a loop (R221). -/
def Dev.handoffWord (d : Dev) (p l a : Nat) : Handoff → Loaded
  | .words ws => .word ((ws[(a - ((d.hank (d.fld (Reg.SPN_LENT1 p l) 31 24)).start + 0x80)) / 4]?).getD 0) false
  | .failed n => .cause n
  | _ => .wait

/-- A word loaded by a Spindle. -/
def Dev.spnWord (d : Dev) (p : Fin 18) (a : Nat) : Dev × Loaded :=
  match (if (d.spn p).ra then queuedWord (d.spn p).queue a else none) with
  | some w => (d, .word w false)
  | none =>
    if d.inHandoff p a && decide ((d.spn p).handoff ≠ .off) then
      let e := if (d.spn p).handoff = .waiting then d.takeHandoff p (d.curLoop p) else d
      (e, e.handoffWord p (d.curLoop p) a (e.spn p).handoff)
    else d.skeinWord (.spn p) a

/-! ### Bobbin accesses (R8, R9, R27, R28, R154, R172) -/

/-- Whether the map refuses an access of n bytes at an address. -/
def mapRefuses (a n : Nat) (write : Bool) : Bool :=
  if a + n ≤ 0x1000000 then false
  else if 0x10000000 ≤ a ∧ a + n ≤ 0x10800000 then write
  else if 0x20000000 ≤ a ∧ a < 0x40000000 then decide (n ≠ 4) || (findReg a).isNone
  else true

/-- The conditions on an access of a core in the order of R160: alignment, the map, protection. -/
def Dev.accessCause (d : Dev) (c : Core) (ea : Int) (n : Nat) (write : Bool) : Option Nat :=
  if ea % n ≠ 0 then some 6
  else if ea < 0 then some 7
  else match c with
    | .spn _ => if 0x1000000 ≤ ea then some 7 else none
    | .bob b =>
      if mapRefuses ea.toNat n write then some 7
      else if d.mpuOk b ea.toNat (if write then .write else .read) then none else some 8

/-- A word loaded by a Bobbin; an uncorrectable flash word is the bus error of R498. -/
def Dev.bobWord (d : Dev) (b : Fin 3) (a : Nat) : Dev × Loaded :=
  if a < 0x1000000 then d.skeinWord (.bob b) a
  else
    let r := d.mapRead (.bobbin b) a
    (r.1, match r.2 with
      | .data w => .word w false
      | _ => .cause (if a < 0x20000000 then 0x0B else 7))

def Dev.coreWord (d : Dev) (c : Core) (a : Nat) : Dev × Loaded :=
  match c with
  | .spn p => d.spnWord p a
  | .bob b => d.bobWord b a

/-- A load of a word, and what to do with it; LOCKBRK sets LB (R202). -/
def Dev.loadW (d : Dev) (c : Core) (ea : Int) (k : Dev → Word → Eff) : Eff :=
  match d.accessCause c ea 4 false with
  | some n => .trap d n (some (eaWord ea))
  | none => match d.coreWord c ea.toNat with
    | (d1, .word w brk) => k (d1.noteLb c brk) w
    | (d1, .cause n) => .trap d1 n (some (eaWord ea))
    | (d1, .wait) => .stay d1

/-- Whether both words of a doubleword come from the Skein: then they are one beat, read at once (R40). -/
def Dev.oneBeat (d : Dev) (c : Core) (a : Nat) : Bool :=
  match c with
  | .spn p =>
    !((d.spn p).ra && ((queuedWord (d.spn p).queue a).isSome || (queuedWord (d.spn p).queue (a + 4)).isSome)) &&
      !(d.inHandoff p a && decide ((d.spn p).handoff ≠ .off))
  | .bob _ => decide (a < 0x1000000)

/-- The two words of a doubleword, one after the other: at most one of them is a read of the Skein. -/
def Dev.twoWords (d : Dev) (c : Core) (a : Nat) : Dev × Loaded × Word :=
  match d.coreWord c a with
  | (d1, .word lo b1) => (match d1.coreWord c (a + 4) with
    | (d2, .word hi b2) => (d2, .word lo (b1 || b2), hi)
    | (d2, x) => (d2, x, 0))
  | (d1, x) => (d1, x, 0)

/-- The two words of a doubleword, the lower one first (R11). -/
def Dev.coreDword (d : Dev) (c : Core) (a : Nat) : Dev × Loaded × Word :=
  if d.oneBeat c a then
    let r := d.load (coreReq c) (classOf (coreReq c) false) a 8
    (r.1, loadedOf r.2.1 (wordOfBytes (r.2.2.take 4)), wordOfBytes (r.2.2.drop 4))
  else d.twoWords c a

/-- A load of a doubleword. -/
def Dev.loadD (d : Dev) (c : Core) (ea : Int) (k : Dev → DWord → Eff) : Eff :=
  match d.accessCause c ea 8 false with
  | some n => .trap d n (some (eaWord ea))
  | none => match d.coreDword c ea.toNat with
    | (d1, .word lo brk, hi) => k (d1.noteLb c brk) (hi ++ lo)
    | (d1, .cause n, _) => .trap d1 n (some (eaWord ea))
    | (d1, .wait, _) => .stay d1

/-- A load of 1 or 2 bytes, from the word that holds them. -/
def Dev.loadSub (d : Dev) (c : Core) (ea : Int) (n : Nat) (k : Dev → Word → Eff) : Eff :=
  match d.accessCause c ea n false with
  | some m => .trap d m (some (eaWord ea))
  | none => match d.coreWord c (ea.toNat / 4 * 4) with
    | (d1, .word w brk) => k (d1.noteLb c brk) (w >>> (8 * (ea.toNat % 4)))
    | (d1, .cause m) => .trap d1 m (some (eaWord ea))
    | (d1, .wait) => .stay d1

/-! ### Stores (R155, R159, R194) -/

/-- A Bobbin in user mode has no supervisor's right to a mode request or a flash command (R460, R499). -/
def Dev.bobMaster (d : Dev) (b : Fin 3) (a : Nat) : Master :=
  if !d.sup b && (decide (a = Reg.SNL_MREQ) || decide (a = Reg.NVM_CMD)) then .distaff else .bobbin b

/-- How many stores a core may have posted (R159). -/
def postMax : Core → Nat
  | .spn _ => 8
  | .bob _ => 16

/-- Issue the bytes of a store outside run-ahead. -/
def Dev.putStore (d : Dev) (c : Core) (ea : Nat) (bs : List Byte) : Dev :=
  match c with
  | .spn p => d.spnStore p (d.curLoop p) ea bs (d.spn p).pc
  | .bob b =>
    if ea < 0x1000000 then d.corePost c none ea bs [] (d.bob b).pc
    else (d.writeReg (d.bobMaster b ea) ea (wordOfBytes bs) 0).1

/-- Add an entry to the store queue; the 65th is SQFULL (R194). -/
def Dev.enqueue (d : Dev) (p : Fin 18) (q : Queued) (ea : Option Word) : Eff :=
  if 64 ≤ (d.spn p).queue.length then .trap d 0x17 ea
  else .next (d.modSpn p fun s => { s with queue := s.queue ++ [q] })

/-- A store: queued in run-ahead, else posted; one more than may be posted stalls (R159). -/
def Dev.storeBytes (d : Dev) (c : Core) (ea : Int) (bs : List Byte) (q : Queued) : Eff :=
  match d.accessCause c ea bs.length true with
  | some n => .trap d n (some (eaWord ea))
  | none =>
    let now : Eff :=
      if d.heldFault c ea.toNat bs.length then .trap d 0x12 (some (eaWord ea))
      else if postMax c ≤ d.storesWaiting c then .stay d
      else .next (d.putStore c ea.toNat bs)
    match c with
    | .spn p => if (d.spn p).ra then d.enqueue p q (some (eaWord ea)) else now
    | .bob _ => now

def Dev.storeW (d : Dev) (c : Core) (ea : Int) (w : Word) : Eff :=
  d.storeBytes c ea (bytesOfWord w) (.word ea.toNat w (d.pcOf c))

def Dev.storeD (d : Dev) (c : Core) (ea : Int) (w : DWord) : Eff :=
  d.storeBytes c ea (bytesOfDword w) (.dword ea.toNat w (d.pcOf c))

/-! ### The commands (R152) -/

/-- ld.w. -/
def execLdW (c : Core) (f : ImmF) (s : State) : Host.Outcome State Fault Refusal :=
  s.act fun d => d.issue c (.ldW c f) .both false fun d =>
    d.loadW c (d.eaImm c f.rs1 f.imm) fun d w => .next (d.setV c f.rd w)

/-- st.w. -/
def execStW (c : Core) (f : StoreF) (s : State) : Host.Outcome State Fault Refusal :=
  s.act fun d => d.issue c (.stW c f) .both false fun d => d.storeW c (d.eaImm c f.rs1 f.imm) (d.gv c f.rs2)

/-- ld.a. -/
def execLdA (c : Core) (f : ImmF) (s : State) : Host.Outcome State Fault Refusal :=
  s.act fun d => d.issue c (.ldA c f) .both (illAccLow f.rd) fun d =>
    d.loadD c (d.eaImm c f.rs1 f.imm) fun d w => .next (d.setA c (accLow f.rd) w)

/-- st.a. -/
def execStA (c : Core) (f : StoreF) (s : State) : Host.Outcome State Fault Refusal :=
  s.act fun d => d.issue c (.stA c f) .both (illAccLow f.rs2) fun d =>
    d.storeD c (d.eaImm c f.rs1 f.imm) (d.ga c (accLow f.rs2))

/-- ld.b: sign-extended. -/
def execLdB (c : Core) (f : ImmF) (s : State) : Host.Outcome State Fault Refusal :=
  s.act fun d => d.issue c (.ldB c f) .s false fun d =>
    d.loadSub c (d.eaImm c f.rs1 f.imm) 1 fun d w => .next (d.setV c f.rd ((w.setWidth 8).signExtend 32))

/-- ld.bu: zero-extended. -/
def execLdBu (c : Core) (f : ImmF) (s : State) : Host.Outcome State Fault Refusal :=
  s.act fun d => d.issue c (.ldBu c f) .s false fun d =>
    d.loadSub c (d.eaImm c f.rs1 f.imm) 1 fun d w => .next (d.setV c f.rd ((w.setWidth 8).setWidth 32))

/-- ld.h: sign-extended. -/
def execLdH (c : Core) (f : ImmF) (s : State) : Host.Outcome State Fault Refusal :=
  s.act fun d => d.issue c (.ldH c f) .s false fun d =>
    d.loadSub c (d.eaImm c f.rs1 f.imm) 2 fun d w => .next (d.setV c f.rd ((w.setWidth 16).signExtend 32))

/-- ld.hu: zero-extended. -/
def execLdHu (c : Core) (f : ImmF) (s : State) : Host.Outcome State Fault Refusal :=
  s.act fun d => d.issue c (.ldHu c f) .s false fun d =>
    d.loadSub c (d.eaImm c f.rs1 f.imm) 2 fun d w => .next (d.setV c f.rd ((w.setWidth 16).setWidth 32))

/-- st.b: the low byte, merged (R42). -/
def execStB (c : Core) (f : StoreF) (s : State) : Host.Outcome State Fault Refusal :=
  s.act fun d => d.issue c (.stB c f) .s false fun d =>
    d.storeBytes c (d.eaImm c f.rs1 f.imm) ((bytesOfWord (d.gv c f.rs2)).take 1) (.trace 0 0)

/-- st.h: the low halfword, merged (R42). -/
def execStH (c : Core) (f : StoreF) (s : State) : Host.Outcome State Fault Refusal :=
  s.act fun d => d.issue c (.stH c f) .s false fun d =>
    d.storeBytes c (d.eaImm c f.rs1 f.imm) ((bytesOfWord (d.gv c f.rs2)).take 2) (.trace 0 0)

/-- ld.k: kN := entry, verbatim (R130). -/
def execLdK (c : Core) (f : KmemF) (s : State) : Host.Outcome State Fault Refusal :=
  s.act fun d => d.issue c (.ldK c f) .s (illKmem f) fun d =>
    d.loadD c (d.eaK c f) fun d w => .next (match c with
      | .bob b => d.modBob b fun x => { x with k := smSet (fun _ => 0) x.k f.k.toNat w }
      | .spn _ => d)

/-- st.k: entry := kN (R131). It copies the entry and makes none of the checks of R128 (DESIGN CHOICE,
notes/assumptions/79.md). -/
def execStK (c : Core) (f : KmemF) (s : State) : Host.Outcome State Fault Refusal :=
  s.act fun d => d.issue c (.stK c f) .s (illKmem f) fun d => d.storeD c (d.eaK c f) (d.kOf c f.k.toNat)

/-- The trap of a Spindle's refused store, at the next boundary, imprecise: in run-ahead at once, also while a check
waits, with the speculation of the loop that issued it squashed (R162); a Spindle that stands in another wait has not
reached the boundary. -/
def Dev.spnRefused (d : Dev) (p : Nat) : Dev :=
  let own := (d.spn p).refused.head?.any fun r => decide (r.loop = d.curLoop p)
  if (d.spn p).refused.isEmpty || !d.clocked then d
  else if (d.spn p).ra then (d.when own fun d => d.dropRa p (d.curLoop p)).takeRefused p
  else match (d.spn p).wait with
    | none => d.takeRefused p
    | some .replay => d.takeRefused p
    | some _ => d

/-- POSTED_STORE_REFUSAL (R155, R162, R163). A Bobbin inside a handler takes the imprecise trap as a double trap
(DESIGN CHOICE, notes/assumptions/84.md). -/
def execPostedStoreRefusal (c : Core) (s : State) : Host.Outcome State Fault Refusal :=
  s.run fun d =>
    match c with
    | .spn p => d.spnRefused p
    | .bob b => match (d.bob b).refused with
      | [] => d
      | r :: rest =>
        if d.free c then
          (d.modBob b fun x => { x with refused := rest }).bobTrap b (d.bob b).pc
            (0x40000000 ||| BitVec.ofNat 32 r.cause) (some r.ea)
        else d

end Sys2Proof.Machine
end

