-- ==== Sys2Proof/Machine/System.lean ====
section
/-! DEFINITION. GWYN-S: SYS and CSR instructions, interrupts, the core timer (R164 to R174). -/

namespace Sys2Proof.Machine

/-- A privileged instruction: PRIV in user mode (R164). -/
def Dev.priv (d : Dev) (c : Core) (e : Eff) : Eff :=
  match c with
  | .bob b => if d.sup b then e else .trap d 4 none
  | .spn _ => e

/-- The control register number of a CSR word. -/
def cregOf (f : ImmF) : Nat := f.imm.toNat % 256

/-- Numbers that exist (R165). -/
def cregOk (n : Nat) : Bool := decide (n ≤ 0xD) || (decide (0x10 ≤ n) && decide (n ≤ 0x1F))

/-- Read-only control registers. -/
def cregRo (n : Nat) : Bool := decide (n = 8) || decide (n = 9) || decide (n = 0xC) || decide (n = 0xD)

/-- Bits that a control register holds: status and flags read 0 above their fields (R136, R166). -/
def cregMask (n : Nat) : Word := if n = 0 then 0x3F else if n = 6 then 0x7F else 0xFFFFFFFF

/-- A control register as mfc reads it. -/
def Dev.creg (d : Dev) (b n : Nat) : Word :=
  if n = 8 then BitVec.ofNat 32 (d.bob b).cycle
  else if n = 9 then BitVec.ofNat 32 ((d.bob b).cycle / 2 ^ 32)
  else if n = 0xC then d.ipend b 0
  else if n = 0xD then d.ipend b 1
  else d.csr b n

/-- A write to a control register; writing tcmp ends line 55 (R171). -/
def Dev.writeCreg (d : Dev) (b n : Nat) (w : Word) : Dev :=
  let d1 := d.setCsr b n (w &&& cregMask n)
  if n = 7 then d1.modBob b fun x => { x with timer := false } else d1

/-- The fields of a CSR word that must be 0: op in bits 15:14 of imm16, and reserved numbers (R165, R174). -/
def illCsr (f : ImmF) (op : Nat) (write : Bool) : Bool :=
  decide (f.imm.toNat / 256 ≠ 64 * op) || !cregOk (cregOf f) || (write && cregRo (cregOf f)) ||
    (if write then nz f.rd else nz f.rs1)

/-- A write by mtc, setc or clrc. -/
def Dev.csrWrite (d : Dev) (c : Core) (i : Instr) (f : ImmF) (op : Nat) (g : Word → Word → Word) : Dev :=
  d.issue c i .s (illCsr f op true) fun d =>
    d.priv c (.next (match c with
      | .bob b => d.writeCreg b (cregOf f) (g (d.creg b (cregOf f)) (d.gv c f.rs1))
      | .spn _ => d))

/-- trap code: TRAPI in both modes (R164); bits 11:0 must be 0. With a word it is a reserved one that a core meets, which
traps ILL (R141); a word that spells an instruction is no such command, and nothing happens. -/
def execTrap (c : Core) (f : TrapF) (s : State) : Host.Outcome State Fault Refusal :=
  s.act fun d =>
    match f.word with
    | none =>
      d.issue c (.trap c f) .s (decide (f.f.rs2.toNat % 4 ≠ 0) || nz f.f.rs1 || nz f.f.rd) fun d => .trap d 0xD none
    | some w => if (decodeGwyn c w).isNone then d.issue c (.trap c f) .both true fun d => .trap d 2 none else d

/-- eret (R167). -/
def execEret (c : Core) (f : RegF) (s : State) : Host.Outcome State Fault Refusal :=
  s.act fun d => d.issue c (.eret c f) .s (illNone f) fun d =>
    d.priv c (.stay (match c with
      | .bob b =>
        let st := d.csr b 0
        (d.setCsr b 0 (putBit (putBit (putBit st 0 (bitOf st 2)) 1 (bitOf st 3)) 5 false)).setPc c (d.csr b 1)
      | .spn _ => d))

/-- wfi (R170): it goes on when an enabled line is pending, else the core stalls. -/
def execWfi (c : Core) (f : RegF) (s : State) : Host.Outcome State Fault Refusal :=
  s.act fun d => d.issue c (.wfi c f) .s (illNone f) fun d =>
    d.priv c (match c with
      | .bob b => if (d.irqLine b).isSome then .next d else .stay (d.modBob b fun x => { x with wfi := true })
      | .spn _ => .stay d)

/-- mfc. -/
def execMfc (c : Core) (f : ImmF) (s : State) : Host.Outcome State Fault Refusal :=
  s.act fun d => d.issue c (.mfc c f) .s (illCsr f 0 false) fun d =>
    d.priv c (.next (match c with
      | .bob b => d.setV c f.rd (d.creg b (cregOf f))
      | .spn _ => d))

/-- mtc: creg := vs. -/
def execMtc (c : Core) (f : ImmF) (s : State) : Host.Outcome State Fault Refusal :=
  s.act fun d => d.csrWrite c (.mtc c f) f 1 fun _ v => v

/-- setc: creg := creg or vs. -/
def execSetc (c : Core) (f : ImmF) (s : State) : Host.Outcome State Fault Refusal :=
  s.act fun d => d.csrWrite c (.setc c f) f 2 fun r v => r ||| v

/-- clrc: creg := creg and not vs. -/
def execClrc (c : Core) (f : ImmF) (s : State) : Host.Outcome State Fault Refusal :=
  s.act fun d => d.csrWrite c (.clrc c f) f 3 fun r v => r &&& ~~~v

/-- WFI_RESUME (R170): an enabled line has become pending. -/
def execWfiResume (b : Fin 3) (s : State) : Host.Outcome State Fault Refusal :=
  s.run fun d =>
    if d.clocked && (d.bob b).running && (d.bob b).wfi && (d.irqLine b).isSome then
      (d.modBob b fun x => { x with wfi := false }).setPc (.bob b) ((d.bob b).pc + 4)
    else d

/-- INTERRUPT_ENTRY (R167, R169): the lowest pending enabled line, when IE is 1. -/
def execInterruptEntry (b : Fin 3) (s : State) : Host.Outcome State Fault Refusal :=
  s.run fun d =>
    if d.free (.bob b) && (d.bob b).refused.isEmpty && d.ie b then
      match d.irqLine b with
      | some n => (d.tvalOr none).1.trapEntry b (d.bob b).pc (BitVec.ofNat 32 (0x80000000 + n)) (d.tvalOr none).2
      | none => d
    else d

/-- CORE_TIMER_MATCH (R171): line 55 is pending until tcmp is written. -/
def execCoreTimerMatch (b : Fin 3) (s : State) : Host.Outcome State Fault Refusal :=
  s.run fun d =>
    if (d.bob b).cycle % 2 ^ 32 = (d.csr b 7).toNat then d.modBob b fun x => { x with timer := true } else d

end Sys2Proof.Machine
end

