-- ==== Sys2Proof/Machine/Control.lean ====
section
/-! DEFINITION. The control instructions, majors 0x28 to 0x2F (R176 to R188): transforms, modulation, comparators,
tables, filters and the observer helpers. -/

namespace Sys2Proof.Machine

/-- The registers of a group, by their place in it. -/
def at_ (r : BitVec 5) (i : Nat) : BitVec 5 := r + BitVec.ofNat 5 i

/-- Two results in a pair, with VSAT when either saturated. -/
def Dev.setPair (d : Dev) (c : Core) (rd : BitVec 5) (x : Word × Word × Bool) : Dev :=
  ((d.setV c rd x.1).setV c (at_ rd 1) x.2.1).raiseFlags c (if x.2.2 then fVSAT else 0)

/-- The entry numbers from N on, each with its kind. -/
def entries (n : Nat) (kinds : List Nat) : List (Nat × Nat) := kinds.zipIdx.map fun k => (n + k.2, k.1)

/-- A mask of flags that were raised. -/
def flagsIf (b : Bool) (m : Word) : Word := if b then m else 0

/-- clarke (R180). -/
def execClarke (c : Core) (f : CtlF) (s : State) : Host.Outcome State Fault Refusal :=
  s.act fun d => d.issue c (.clarke c f) .both
    (decide (f.k ≠ 0) || !pairOk f.rd || meets f.rd 2 f.rs1 1 || meets f.rd 2 f.rs2 1) fun d =>
      .next (d.setPair c f.rd (clarkeF (d.iv c f.rs1) (d.iv c f.rs2)))

/-- clarke3 (R180). -/
def execClarke3 (c : Core) (f : CtlF) (s : State) : Host.Outcome State Fault Refusal :=
  s.act fun d => d.issue c (.clarke3 c f) .both
    (decide (f.k ≠ 0) || !pairOk f.rd || !pairOk f.rs2 || meets f.rd 2 f.rs1 1 || meets f.rd 2 f.rs2 2) fun d =>
      .next (d.setPair c f.rd (clarke3F (d.iv c f.rs1) (d.iv c f.rs2) (d.iv c (at_ f.rs2 1))))

/-- The fields of park and ipark. -/
def illPark (f : CtlF) : Bool :=
  decide (f.k ≠ 0) || !pairOk f.rd || !pairOk f.rs1 || meets f.rd 2 f.rs1 2 || meets f.rd 2 f.rs2 1

/-- park (R180). -/
def execPark (c : Core) (f : CtlF) (s : State) : Host.Outcome State Fault Refusal :=
  s.act fun d => d.issue c (.park c f) .both (illPark f) fun d =>
    .next (d.setPair c f.rd (parkF (d.iv c f.rs1) (d.iv c (at_ f.rs1 1)) (d.gv c f.rs2).toNat))

/-- ipark (R180). -/
def execIpark (c : Core) (f : CtlF) (s : State) : Host.Outcome State Fault Refusal :=
  s.act fun d => d.issue c (.ipark c f) .both (illPark f) fun d =>
    .next (d.setPair c f.rd (iparkF (d.iv c f.rs1) (d.iv c (at_ f.rs1 1)) (d.gv c f.rs2).toNat))

/-- svm (R181). -/
def execSvm (c : Core) (f : CtlF) (s : State) : Host.Outcome State Fault Refusal :=
  s.act fun d => d.issue c (.svm c f) .both
    (nz f.rs2 || !quadOk f.rd || !pairOk f.rs1 || meets f.rd 4 f.rs1 2) fun d =>
      let x := svmF (d.iv c f.rs1) (d.iv c (at_ f.rs1 1)) (d.kv c f.k.toNat)
      d.withKinds c [(f.k.toNat, kLimit)]
        (.next (((((d.setV c f.rd x.tu).setV c (at_ f.rd 1) x.tv).setV c (at_ f.rd 2) x.tw).setV c (at_ f.rd 3)
          x.sector).raiseFlags c (flagsIf x.dlim fDLIM ||| flagsIf x.vsat fVSAT)))

/-- band2 (R182). -/
def execBand2 (c : Core) (f : CtlF) (s : State) : Host.Outcome State Fault Refusal :=
  s.act fun d => d.issue c (.band2 c f) .both (nz f.rs2) fun d =>
    d.withKinds c [(f.k.toNat, kLimit)]
      (.next (d.setV c f.rd (BitVec.ofInt 32 (band2F (d.iv c f.rd) (d.iv c f.rs1) (d.kv c f.k.toNat)))))

/-- band3 (R182). -/
def execBand3 (c : Core) (f : CtlF) (s : State) : Host.Outcome State Fault Refusal :=
  s.act fun d => d.issue c (.band3 c f) .both (nz f.rs2) fun d =>
    d.withKinds c [(f.k.toNat, kLimit)]
      (.next (d.setV c f.rd (BitVec.ofInt 32 (band3F (d.iv c f.rd) (d.iv c f.rs1) (d.kv c f.k.toNat)))))

/-- An entry that a table pointer selects (R179): none when its index is no entry. -/
def entryIndex (b : Int) (off : Int) : Option Nat :=
  if 0 ≤ b + off ∧ b + off ≤ 255 then some (b + off).toNat else none

/-- swtab (R183). -/
def execSwtab (c : Core) (f : CtlF) (s : State) : Host.Outcome State Fault Refusal :=
  s.act fun d => d.issue c (.swtab c f) .both (!pairOk f.rs2) fun d =>
    d.withKinds c [(f.k.toNat, kPtr)]
      (match entryIndex (d.kv c f.k.toNat)
          (swtabIndex (d.iv c f.rs1) (d.iv c f.rs2) (d.iv c (at_ f.rs2 1))) with
        | some e => d.withKinds c [(e, kPlain)] (.next (d.setV c f.rd (BitVec.ofInt 32 (d.kv c e))))
        | none => .trap d 5 none)

/-- biq (R184): ad must be a0 or a2. -/
def execBiq (c : Core) (f : CtlF) (s : State) : Host.Outcome State Fault Refusal :=
  s.act fun d => d.issue c (.biq c f) .both (illAccRs2 f || decide (accRs2 f % 2 ≠ 0)) fun d =>
    let a := accRs2 f
    let n := f.k.toNat
    let x := biqF (d.iv c f.rs1) (d.ia c a) (d.ia c (a + 1)) (d.kOf c n) (d.kOf c (n + 1)) (d.kOf c (n + 2))
      (d.kOf c (n + 3)) (d.kOf c (n + 4))
    d.withKinds c (entries n [kPlain, kPlain, kPlain, kPlain, kPlain])
      (.next ((((d.setV c f.rd x.y).setA c a x.s1).setA c (a + 1) x.s2).raiseFlags c
        (flagsIf x.vsat fVSAT ||| flagsIf x.asat fASAT)))

/-- integ (R185). -/
def execInteg (c : Core) (f : CtlF) (s : State) : Host.Outcome State Fault Refusal :=
  s.act fun d => d.issue c (.integ c f) .both (illAccRs2 f) fun d =>
    let a := accRs2 f
    let n := f.k.toNat
    let x := integF (d.iv c f.rs1) (d.ia c a) (d.kOf c n) (d.kOf c (n + 1)) (d.kOf c (n + 2))
    d.withKinds c (entries n [kPlain, kLimit, kLimit])
      (.next (((d.setV c f.rd x.vd).setA c a x.ad).raiseFlags c (flagsIf x.isat fISAT ||| flagsIf x.ilim fILIM)))

/-- lut (R186). -/
def execLut (c : Core) (f : CtlF) (s : State) : Host.Outcome State Fault Refusal :=
  s.act fun d => d.issue c (.lut c f) .both (nz f.rs2) fun d =>
    d.withKinds c [(f.k.toNat, kPtr)]
      (match entryIndex (d.kv c f.k.toNat) 0 with
        | some b => d.withKinds c (entries b (List.replicate 32 kPlain))
          (.next (d.setSat c f.rd (lutF (d.iv c f.rs1) ((List.range 16).map fun j => d.kv c (b + j))
            ((List.range 16).map fun j => d.kv c (b + 16 + j)))))
        | none => .trap d 5 none)

/-- obs.emf (R187): vr must lie in neither quad. -/
def execObsEmf (c : Core) (f : CtlF) (s : State) : Host.Outcome State Fault Refusal :=
  s.act fun d => d.issue c (.obsEmf c f) .both
    (!quadOk f.rd || !quadOk f.rs1 || meets f.rd 4 f.rs1 4 || meets f.rd 4 f.rs2 1 || meets f.rs1 4 f.rs2 1) fun d =>
      let n := f.k.toNat
      let r := fun i => d.iv c (at_ f.rd i)
      let m := fun i => d.iv c (at_ f.rs1 i)
      let x := emfF (r 0) (r 1) (r 2) (r 3) (m 0) (m 1) (m 2) (m 3) (d.kOf c n) (d.kOf c (n + 1)) (d.kOf c (n + 2))
        (d.kOf c (n + 3))
      d.withKinds c (entries n [kPlain, kPlain, kPlain, kPlain])
        (.next ((((((d.setV c f.rd x.ia).setV c (at_ f.rd 1) x.ib).setV c (at_ f.rd 2) x.ea).setV c (at_ f.rd 3)
          x.eb).setV c f.rs2 x.vr).raiseFlags c (flagsIf x.vsat fVSAT)))

/-- obs.pll (R188). -/
def execObsPll (c : Core) (f : CtlF) (s : State) : Host.Outcome State Fault Refusal :=
  s.act fun d => d.issue c (.obsPll c f) .both
    (illAccRs2 f || !pairOk f.rd || !pairOk f.rs1 || meets f.rd 2 f.rs1 2) fun d =>
      let n := f.k.toNat
      let a := accRs2 f
      let x := pllF (d.gv c f.rd).toNat (d.iv c f.rs1) (d.iv c (at_ f.rs1 1)) (d.ia c a) (d.kOf c n) (d.kOf c (n + 1))
        (d.kOf c (n + 2))
      d.withKinds c (entries n [kPlain, kPlain, kPlain])
        (.next ((((d.setV c f.rd x.theta).setV c (at_ f.rd 1) x.omega).setA c a x.ad).raiseFlags c
          (flagsIf x.vsat fVSAT ||| flagsIf x.asat fASAT)))

end Sys2Proof.Machine
end

