-- ==== Sys2Proof/Machine/Integer.lean ====
section
/-! DEFINITION. Integer, logical, multiply, divide, immediate, MAC and flag instructions (R144 to R148, R157). -/

namespace Sys2Proof.Machine

/-! ### Results over operands -/

/-- A saturating result of OPR or OPM. -/
def Dev.opSat (d : Dev) (c : Core) (i : Instr) (ill : Bool) (rd : BitVec 5) (x : Int) : Dev :=
  d.issue c i .both ill fun d => .next (d.setSat c rd (sat32 x))

/-- An exact or logical result. -/
def Dev.opWord (d : Dev) (c : Core) (i : Instr) (ill : Bool) (rd : BitVec 5) (w : Word) : Dev :=
  d.issue c i .both ill fun d => .next (d.setV c rd w)

/-- Bits 5:0 of a shift operand (R144). -/
def shamt (w : Word) : Nat := w.toNat % 64

def sraW (w : Word) (n : Nat) : Word := BitVec.ofInt 32 (w.toInt / 2 ^ n)

/-- A division (R145, R146): the quotient and its flags; a division by 0 sets DZ and leaves VSAT. -/
def Dev.setDiv (d : Dev) (c : Core) (rd : BitVec 5) (zero : Bool) (x : Word × Bool) (z : Word) : Dev :=
  if zero then (d.setV c rd z).raiseFlags c fDZ else d.setSat c rd x


/-! ### OPR (R144) -/

/-- add: vd := sat32(vs1 + vs2). -/
def execAdd (c : Core) (f : RegF) (s : State) : Host.Outcome State Fault Refusal :=
  s.act fun d => d.opSat c (.add c f) (illDst f) f.rd (d.iv c f.rs1 + d.iv c f.rs2)

/-- sub: vd := sat32(vs1 - vs2). -/
def execSub (c : Core) (f : RegF) (s : State) : Host.Outcome State Fault Refusal :=
  s.act fun d => d.opSat c (.sub c f) (illDst f) f.rd (d.iv c f.rs1 - d.iv c f.rs2)

/-- neg: vd := sat32(-vs1). -/
def execNeg (c : Core) (f : RegF) (s : State) : Host.Outcome State Fault Refusal :=
  s.act fun d => d.opSat c (.neg c f) (illDs f) f.rd (-(d.iv c f.rs1))

/-- abs: vd := sat32(|vs1|). -/
def execAbs (c : Core) (f : RegF) (s : State) : Host.Outcome State Fault Refusal :=
  s.act fun d => d.opSat c (.abs_ c f) (illDs f) f.rd (((d.iv c f.rs1).natAbs : Int))

/-- min, signed. -/
def execMin (c : Core) (f : RegF) (s : State) : Host.Outcome State Fault Refusal :=
  s.act fun d => d.opWord c (.min_ c f) (illDst f) f.rd (if d.iv c f.rs1 ≤ d.iv c f.rs2 then d.gv c f.rs1 else d.gv c f.rs2)

/-- max, signed. -/
def execMax (c : Core) (f : RegF) (s : State) : Host.Outcome State Fault Refusal :=
  s.act fun d => d.opWord c (.max_ c f) (illDst f) f.rd (if d.iv c f.rs1 ≤ d.iv c f.rs2 then d.gv c f.rs2 else d.gv c f.rs1)

/-- slt, signed. -/
def execSlt (c : Core) (f : RegF) (s : State) : Host.Outcome State Fault Refusal :=
  s.act fun d => d.opWord c (.slt c f) (illDst f) f.rd (boolWord (decide (d.iv c f.rs1 < d.iv c f.rs2)))

/-- sltu. -/
def execSltu (c : Core) (f : RegF) (s : State) : Host.Outcome State Fault Refusal :=
  s.act fun d => d.opWord c (.sltu c f) (illDst f) f.rd (boolWord (decide ((d.gv c f.rs1).toNat < (d.gv c f.rs2).toNat)))

/-- seq. -/
def execSeq (c : Core) (f : RegF) (s : State) : Host.Outcome State Fault Refusal :=
  s.act fun d => d.opWord c (.seq c f) (illDst f) f.rd (boolWord (decide (d.gv c f.rs1 = d.gv c f.rs2)))

/-- and. -/
def execAnd (c : Core) (f : RegF) (s : State) : Host.Outcome State Fault Refusal :=
  s.act fun d => d.opWord c (.and_ c f) (illDst f) f.rd (d.gv c f.rs1 &&& d.gv c f.rs2)

/-- or. -/
def execOr (c : Core) (f : RegF) (s : State) : Host.Outcome State Fault Refusal :=
  s.act fun d => d.opWord c (.or_ c f) (illDst f) f.rd (d.gv c f.rs1 ||| d.gv c f.rs2)

/-- xor. -/
def execXor (c : Core) (f : RegF) (s : State) : Host.Outcome State Fault Refusal :=
  s.act fun d => d.opWord c (.xor_ c f) (illDst f) f.rd (d.gv c f.rs1 ^^^ d.gv c f.rs2)

/-- andn: vs1 and not vs2. -/
def execAndn (c : Core) (f : RegF) (s : State) : Host.Outcome State Fault Refusal :=
  s.act fun d => d.opWord c (.andn c f) (illDst f) f.rd (d.gv c f.rs1 &&& ~~~(d.gv c f.rs2))

/-- sll by vs2 bits 5:0; 32 or more gives 0. -/
def execSll (c : Core) (f : RegF) (s : State) : Host.Outcome State Fault Refusal :=
  s.act fun d => d.opWord c (.sll c f) (illDst f) f.rd (d.gv c f.rs1 <<< shamt (d.gv c f.rs2))

/-- srl; 32 or more gives 0. -/
def execSrl (c : Core) (f : RegF) (s : State) : Host.Outcome State Fault Refusal :=
  s.act fun d => d.opWord c (.srl c f) (illDst f) f.rd (d.gv c f.rs1 >>> shamt (d.gv c f.rs2))

/-- sra; 32 or more gives the sign fill. -/
def execSra (c : Core) (f : RegF) (s : State) : Host.Outcome State Fault Refusal :=
  s.act fun d => d.opWord c (.sra c f) (illDst f) f.rd (sraW (d.gv c f.rs1) (shamt (d.gv c f.rs2)))

/-- sla: vd := sat32(vs1 x 2^n). -/
def execSla (c : Core) (f : RegF) (s : State) : Host.Outcome State Fault Refusal :=
  s.act fun d => d.opSat c (.sla c f) (illDst f) f.rd (d.iv c f.rs1 * 2 ^ shamt (d.gv c f.rs2))

/-- slli. -/
def execSlli (c : Core) (f : RegF) (s : State) : Host.Outcome State Fault Refusal :=
  s.act fun d => d.opWord c (.slli c f) (illSh f) f.rd (d.gv c f.rs1 <<< f.sh.toNat)

/-- srli. -/
def execSrli (c : Core) (f : RegF) (s : State) : Host.Outcome State Fault Refusal :=
  s.act fun d => d.opWord c (.srli c f) (illSh f) f.rd (d.gv c f.rs1 >>> f.sh.toNat)

/-- srai. -/
def execSrai (c : Core) (f : RegF) (s : State) : Host.Outcome State Fault Refusal :=
  s.act fun d => d.opWord c (.srai c f) (illSh f) f.rd (sraW (d.gv c f.rs1) f.sh.toNat)

/-- slai. -/
def execSlai (c : Core) (f : RegF) (s : State) : Host.Outcome State Fault Refusal :=
  s.act fun d => d.opSat c (.slai c f) (illSh f) f.rd (d.iv c f.rs1 * 2 ^ f.sh.toNat)

/-! ### OPM (R145, R146) -/

/-- mul: vd := sat32(p). -/
def execMul (c : Core) (f : RegF) (s : State) : Host.Outcome State Fault Refusal :=
  s.act fun d => d.opSat c (.mul c f) (illDst f) f.rd (d.iv c f.rs1 * d.iv c f.rs2)

/-- mulq: vd := sat32(shr(p, 31, 0)). -/
def execMulq (c : Core) (f : RegF) (s : State) : Host.Outcome State Fault Refusal :=
  s.act fun d => d.opSat c (.mulq c f) (illDst f) f.rd (shrR (d.iv c f.rs1 * d.iv c f.rs2) 31 false)

/-- mulqr: vd := sat32(shr(p, 31, 1)). -/
def execMulqr (c : Core) (f : RegF) (s : State) : Host.Outcome State Fault Refusal :=
  s.act fun d => d.opSat c (.mulqr c f) (illDst f) f.rd (shrR (d.iv c f.rs1 * d.iv c f.rs2) 31 true)

/-- mulh: vd := shr(p, 32, 0), exact. -/
def execMulh (c : Core) (f : RegF) (s : State) : Host.Outcome State Fault Refusal :=
  s.act fun d => d.opWord c (.mulh c f) (illDst f) f.rd (BitVec.ofInt 32 (shrR (d.iv c f.rs1 * d.iv c f.rs2) 32 false))

/-- div: quotient rounded toward zero; by 0 the end of the range by sign. -/
def execDiv (c : Core) (f : RegF) (s : State) : Host.Outcome State Fault Refusal :=
  s.act fun d => d.issue c (.div c f) .both (illDst f) fun d =>
    .next (d.setDiv c f.rd (decide (d.gv c f.rs2 = 0)) (sat32 (divTz (d.iv c f.rs1) (d.iv c f.rs2)))
      (if 0 ≤ d.iv c f.rs1 then 0x7FFFFFFF else 0x80000000))

/-- divu: unsigned quotient; by 0 all ones. -/
def execDivu (c : Core) (f : RegF) (s : State) : Host.Outcome State Fault Refusal :=
  s.act fun d => d.issue c (.divu c f) .both (illDst f) fun d =>
    .next (d.setDiv c f.rd (decide (d.gv c f.rs2 = 0)) ((BitVec.ofNat 32 ((d.gv c f.rs1).toNat / (d.gv c f.rs2).toNat), false))
      (0xFFFFFFFF))

/-- rem: remainder with the sign of vs1; by 0 vs1. -/
def execRem (c : Core) (f : RegF) (s : State) : Host.Outcome State Fault Refusal :=
  s.act fun d => d.issue c (.rem c f) .both (illDst f) fun d =>
    .next (d.setDiv c f.rd (decide (d.gv c f.rs2 = 0)) ((BitVec.ofInt 32 ((d.iv c f.rs1).tmod (d.iv c f.rs2)), false))
      (d.gv c f.rs1))

/-! ### Immediates (R147) -/

/-- addi: vd := sat32(vs1 + sext(imm16)). -/
def execAddi (c : Core) (f : ImmF) (s : State) : Host.Outcome State Fault Refusal :=
  s.act fun d => d.opSat c (.addi c f) (false) f.rd (d.iv c f.rs1 + sx16 f.imm)

/-- slti, signed. -/
def execSlti (c : Core) (f : ImmF) (s : State) : Host.Outcome State Fault Refusal :=
  s.act fun d => d.opWord c (.slti c f) (false) f.rd (boolWord (decide (d.iv c f.rs1 < sx16 f.imm)))

/-- sltiu: unsigned against sext(imm16). -/
def execSltiu (c : Core) (f : ImmF) (s : State) : Host.Outcome State Fault Refusal :=
  s.act fun d => d.opWord c (.sltiu c f) (false) f.rd (boolWord (decide ((d.gv c f.rs1).toNat < (f.imm.signExtend 32).toNat)))

/-- andi. -/
def execAndi (c : Core) (f : ImmF) (s : State) : Host.Outcome State Fault Refusal :=
  s.act fun d => d.opWord c (.andi c f) (false) f.rd (d.gv c f.rs1 &&& zx16 f.imm)

/-- ori. -/
def execOri (c : Core) (f : ImmF) (s : State) : Host.Outcome State Fault Refusal :=
  s.act fun d => d.opWord c (.ori c f) (false) f.rd (d.gv c f.rs1 ||| zx16 f.imm)

/-- xori. -/
def execXori (c : Core) (f : ImmF) (s : State) : Host.Outcome State Fault Refusal :=
  s.act fun d => d.opWord c (.xori c f) (false) f.rd (d.gv c f.rs1 ^^^ zx16 f.imm)

/-- lhi: imm16 in bits 31:16. -/
def execLhi (c : Core) (f : ImmF) (s : State) : Host.Outcome State Fault Refusal :=
  s.act fun d => d.opWord c (.lhi c f) (nz f.rs1) f.rd (zx16 f.imm <<< 16)

/-! ### MAC group (R148) -/

/-- macs, msus: the accumulator plus or minus the shifted product with a plain entry. -/
def Dev.macK (d : Dev) (c : Core) (f : MacF) (sign : Int) : Eff :=
  let k := d.kOf c (macN f)
  d.withKinds c [(macN f, kPlain)]
    (.next (d.setAsat c f.ad.toNat
      (sat64 (d.ia c f.ad.toNat + sign * shrR (d.iv c f.rs1 * kValue k) (kShift k) (macRndK f)))))

/-- macs: ad := sat64(ad + shr(vs1 x kN.VALUE, kN.SHIFT, RND)). -/
def execMacs (c : Core) (f : MacF) (s : State) : Host.Outcome State Fault Refusal :=
  s.act fun d => d.issue c (.macs c f) .both (illMacK f) fun d => d.macK c f 1

/-- msus: ad := sat64(ad - shr(vs1 x kN.VALUE, kN.SHIFT, RND)). -/
def execMsus (c : Core) (f : MacF) (s : State) : Host.Outcome State Fault Refusal :=
  s.act fun d => d.issue c (.msus c f) .both (illMacK f) fun d => d.macK c f (-1)

/-- muls: ad := shr(vs1 x kN.VALUE, kN.SHIFT, RND), no flag. -/
def execMuls (c : Core) (f : MacF) (s : State) : Host.Outcome State Fault Refusal :=
  s.act fun d => d.issue c (.muls c f) .both (illMacK f) fun d =>
    d.withKinds c [(macN f, kPlain)]
      (.next (d.setA c f.ad.toNat
        (BitVec.ofInt 64 (shrR (d.iv c f.rs1 * d.kv c (macN f)) (kShift (d.kOf c (macN f))) (macRndK f)))))

/-- macv: ad := sat64(ad + shr(vs1 x vs2, sh, RND)). -/
def execMacv (c : Core) (f : MacF) (s : State) : Host.Outcome State Fault Refusal :=
  s.act fun d => d.issue c (.macv c f) .both (illMacv f) fun d =>
    .next (d.setAsat c f.ad.toNat
      (sat64 (d.ia c f.ad.toNat + shrR (d.iv c f.rs1 * d.iv c f.low) (macSh f) (macRnd f))))

/-- rda: vd := sat32(shr(ad, sh, RND)). -/
def execRda (c : Core) (f : MacF) (s : State) : Host.Outcome State Fault Refusal :=
  s.act fun d => d.issue c (.rda c f) .both (illRda f) fun d =>
    .next (d.setSat c f.low (sat32 (shrR (d.ia c f.ad.toNat) (macSh f) (macRnd f))))

/-- wra: ad := sat64(vs1 x 2^sh). -/
def execWra (c : Core) (f : MacF) (s : State) : Host.Outcome State Fault Refusal :=
  s.act fun d => d.issue c (.wra c f) .both (illWra f) fun d =>
    .next (d.setAsat c f.ad.toNat (sat64 (d.iv c f.rs1 * 2 ^ macSh f)))

/-- adda: ad := sat64(ad + a[as]). -/
def execAdda (c : Core) (f : MacF) (s : State) : Host.Outcome State Fault Refusal :=
  s.act fun d => d.issue c (.adda c f) .both (illAdda f) fun d =>
    .next (d.setAsat c f.ad.toNat (sat64 (d.ia c f.ad.toNat + d.ia c (macAs f))))

/-! ### Flags (R157) -/

/-- rdfl: the flags view of R138. -/
def execRdfl (c : Core) (f : ImmF) (s : State) : Host.Outcome State Fault Refusal :=
  s.act fun d => d.issue c (.rdfl c f) .both (decide (f.imm ≠ 0) || nz f.rs1) fun d =>
    .next (d.setV c f.rd (d.readFlags c))

/-- clrf: the flags set in the mask are cleared. -/
def execClrf (c : Core) (f : ImmF) (s : State) : Host.Outcome State Fault Refusal :=
  s.act fun d => d.issue c (.clrf c f) .both (nz f.rd || decide (128 ≤ f.imm.toNat) || decide (f.rs1 ≠ 1)) fun d =>
    .next (d.clearFlags c (zx16 f.imm))

end Sys2Proof.Machine
end

