-- ==== Sys2Proof/Machine/Sample.lean ====
section
/-! DEFINITION. The sample, duty, run-ahead, ply, mailbox, trace and injection instructions, majors 0x30 to 0x37 (R189 to
R208), and the grant of a ply lock that was waited for (R66). -/

namespace Sys2Proof.Machine

/-- The part of an instruction of GWYN-C that names its Spindle and loop; a Bobbin never gets there (R124). -/
def Dev.onSpn (d : Dev) (c : Core) (k : Fin 18 → Nat → Eff) : Eff :=
  match c with
  | .spn p => k p (d.curLoop p)
  | .bob _ => .stay d

/-! ### Samples and predictions (R190) -/

/-- Set and slot of k. -/
def kSet (f : CtlF) : Nat := f.k.toNat / 64
def kSlot (f : CtlF) : Nat := f.k.toNat % 16
def illSlot (f : CtlF) : Bool := decide (f.k.toNat / 16 % 4 ≠ 0)

/-- A slot that the loop table declares; SETNX otherwise. -/
def Dev.withSlot (d : Dev) (p : Nat) (f : CtlF) (e : Eff) : Eff :=
  if kSlot f < d.nslot p (kSet f) then e else .trap d 0x16 none

/-- Whether lds of a slot gives its prediction outside run-ahead: the slot is substituted in this period (R197, R226), or
the library replaces it (R365). -/
def Dev.substituted (d : Dev) (p l s j : Nat) : Bool :=
  d.psv p l && decide (s = d.pset p l) && decide (j ∈ (d.spn p).subst ∨ j ∈ (d.lp p l).libSub)

/-- The word lds.t gives in run-ahead (R190). -/
def Dev.predWord (d : Dev) (p l s j : Nat) : Word :=
  let src := d.slotSrc p s j
  BitVec.ofNat 32 ((d.pred p s j).toNat % 65536 * 65536 + (if src.1 then 15 else src.2.2) * 256 +
    ((d.lp p l).lastSeq + 1) % 256)

/-- lds. -/
def execLds (c : Core) (f : CtlF) (s : State) : Host.Outcome State Fault Refusal :=
  s.act fun d => d.issue c (.lds c f) .c (illSlot f || nz f.rs1 || nz f.rs2) fun d => d.onSpn c fun p l =>
    d.withSlot p f
      (if (d.spn p).ra then .next (d.setV c f.rd (d.pred p (kSet f) (kSlot f)))
       else if d.substituted p l (kSet f) (kSlot f) then
        .next ((d.setV c f.rd (d.pred p (kSet f) (kSlot f))).raiseFlags c fTSUB)
       else .next (d.setV c f.rd (BitVec.ofInt 32 (realValue (d.slotWord p (kSet f) (kSlot f))))))

/-- lds.t. -/
def execLdsT (c : Core) (f : CtlF) (s : State) : Host.Outcome State Fault Refusal :=
  s.act fun d => d.issue c (.ldsT c f) .c (illSlot f || nz f.rs1 || nz f.rs2) fun d => d.onSpn c fun p l =>
    d.withSlot p f
      (.next (d.setV c f.rd
        (if (d.spn p).ra then d.predWord p l (kSet f) (kSlot f) else d.slotWord p (kSet f) (kSlot f))))

/-- ldp. -/
def execLdp (c : Core) (f : CtlF) (s : State) : Host.Outcome State Fault Refusal :=
  s.act fun d => d.issue c (.ldp c f) .c (illSlot f || nz f.rs1 || nz f.rs2) fun d => d.onSpn c fun p _ =>
    d.withSlot p f (.next (d.setV c f.rd (d.pred p (kSet f) (kSlot f))))

/-- stp: a prediction; RAILL in run-ahead. -/
def execStp (c : Core) (f : CtlF) (s : State) : Host.Outcome State Fault Refusal :=
  s.act fun d => d.issue c (.stp c f) .c (illSlot f || nz f.rd || nz f.rs2) fun d => d.onSpn c fun p _ =>
    d.raill c (d.withSlot p f
      (.next (d.modWin p (kSet f) fun w => { w with preds := smSet (fun _ => 0) w.preds (kSlot f) (d.gv c f.rs1) })))

/-- Whether a core holds a ply lock. -/
def Dev.holdsLock (d : Dev) (c : Core) : Bool := (d.lockOf (coreReq c)).isSome

/-- waits (R191): the core waits, and goes on at once when the generation is complete. -/
def execWaits (c : Core) (f : CtlF) (s : State) : Host.Outcome State Fault Refusal :=
  s.act fun d => d.issue c (.waits c f) .c (decide (f.k.toNat % 64 ≠ 0) || nz f.rs1 || nz f.rs2 || nz f.rd) fun d =>
    d.onSpn c fun p _ => d.raill c
      (if d.nslot p (kSet f) = 0 then .trap d 0x16 none
       else if d.holdsLock c then .trap d 0x15 none
       else .stay ((d.modSpn p fun x => { x with wait := some (.waits (kSet f)) }).tryWait p))

/-! ### Duty staging (R192) -/

/-- putd: word f of the staged image of Whorl w of the loop's list. -/
def execPutd (c : Core) (f : CtlF) (s : State) : Host.Outcome State Fault Refusal :=
  s.act fun d => d.issue c (.putd c f) .c (decide (f.k.toNat / 4 % 4 ≠ 0) || nz f.rd || nz f.rs2) fun d =>
    d.onSpn c fun p l =>
      if f.k.toNat / 16 < (d.whorlList p l).length then
        .next (d.modLp p l fun x =>
          { x with images := smSet (fun _ => 0) x.images (4 * (f.k.toNat / 16) + f.k.toNat % 4) (d.gv c f.rs1) })
      else .trap d 0x16 none

/-! ### Run-ahead (R193 to R200) -/

/-- Every field but fn 0. -/
def illCtl (f : CtlF) : Bool := decide (f.k ≠ 0) || nz f.rs1 || nz f.rs2 || nz f.rd

/-- The snapshot that rahead takes (R194), and BODY in run-ahead. -/
def Dev.startRa (d : Dev) (p l : Nat) : Dev :=
  (d.modSpn p fun x =>
    { x with snap := { v := x.v, a := x.a, images := (d.lp p l).images, lb := x.lb }, ra := true, spec := true, queue := [],
             maskS := 0, maskC := 0 }).startBody p l

/-- rahead (R193). -/
def execRahead (c : Core) (f : CtlF) (s : State) : Host.Outcome State Fault Refusal :=
  s.act fun d => d.issue c (.rahead c f) .c (illCtl f) fun d => d.onSpn c fun p l =>
    if !d.inWindow p ((d.entryPc p l .body).toNat : Int) then .trap d 1 none
    else d.raill c
      (if d.holdsLock c then .trap d 0x15 none
       else if !d.psv p l then .stay (d.startBody p l)
       else if d.rbit (Reg.SPN_LSTAT p l) 1 && !(d.spn p).recovered then .stay (d.startRa p l)
       else .stay ((d.modSpn p fun x => { x with wait := some .rahead }).tryWait p))

/-- The entries that a check reads (R179): the tolerances of the n slots and SUB_MAX. -/
def Dev.checkEntries (d : Dev) (p l k : Nat) : List (Nat × Nat) :=
  entries k (List.replicate (d.nslot p (d.pset p l)) kTol ++ [kLimit])

/-- check (R195): outside run-ahead nothing; in run-ahead it waits for the primary set and judges its slots. -/
def execCheck (c : Core) (f : CtlF) (s : State) : Host.Outcome State Fault Refusal :=
  s.act fun d => d.issue c (.check c f) .c (nz f.rs1 || nz f.rs2 || nz f.rd) fun d => d.onSpn c fun p l =>
    if (d.spn p).ra then
      d.withKinds c (d.checkEntries p l f.k.toNat)
        (.stay ((d.modSpn p fun x => { x with wait := some (.check f.k.toNat) }).tryWait p))
    else .next d

/-- Whether the commit deadline has come (R200, R225). -/
def Dev.tooLate (d : Dev) (p l : Nat) : Bool :=
  match (d.lp p l).evAt with
  | some e => decide (e + d.deadTicks p l ≤ d.now)
  | none => false

/-- commit (R198, R200). -/
def execCommit (c : Core) (f : CtlF) (s : State) : Host.Outcome State Fault Refusal :=
  s.act fun d => d.issue c (.commit c f) .c (illCtl f) fun d => d.onSpn c fun p l => d.raill c
    (if (d.lp p l).committed then .trap d 0x18 none
     else if d.tooLate p l then .next d
     else .next (d.commit p l))

/-! ### Ply locks (R66 to R73, R201) -/

/-- The line that holds an address. -/
def lineOfAddr (a : Word) : Nat := a.toNat / 64

/-- Whether a line lies in a sample, duty, state or coefficient hank (R69). -/
def Dev.plyKind (d : Dev) (a : Nat) : Bool :=
  match d.hankAt a with
  | some h => decide (h.kind = 2) || decide (h.kind = 3) || decide (h.kind = 4) || decide (h.kind = 5)
  | none => false

/-- A lock is taken; on a lock-broken line with LOCKBRK (R73). -/
def Dev.takeLock (d : Dev) (c : Core) (line : Nat) : Dev := (d.setLock (coreReq c) (some line)).noteLb c (d.isBroken line)

/-- The core waits for a line, or no longer. -/
def Dev.setWaitLock (d : Dev) (c : Core) (line : Option Nat) : Dev :=
  match c with
  | .spn p => d.modSpn p fun x => { x with wait := line.map .lock }
  | .bob b => d.modBob b fun x => { x with wait := line }

/-- The line that a core waits for. -/
def Dev.waitLock (d : Dev) : Core → Option Nat
  | .spn p => match (d.spn p).wait with
    | some (.lock l) => some l
    | _ => none
  | .bob b => (d.bob b).wait

/-- ply.lock. It moves no data, and memory protection is not asked for its line, as for ply.free (DESIGN CHOICE,
notes/assumptions/88.md). -/
def execPlyLock (c : Core) (f : CtlF) (s : State) : Host.Outcome State Fault Refusal :=
  s.act fun d => d.issue c (.plyLock c f) .both (nz f.rd || nz f.rs2 || decide (f.k ≠ 0)) fun d =>
    let a := d.gv c f.rs1
    let line := lineOfAddr a
    d.raill c
      (if 0x1000000 ≤ a.toNat then .trap d 7 (some a)
       else if d.holdsLock c then .trap d 0x11 (some a)
       else if d.plyKind a.toNat then .trap d 0x13 (some a)
       else if d.lockedBy (coreReq c) line then
        .stay ((d.setWaitLock c (some line)).addWait ⟨coreReq c, line⟩)
       else .next (d.takeLock c line))

/-- ply.free. -/
def execPlyFree (c : Core) (f : CtlF) (s : State) : Host.Outcome State Fault Refusal :=
  s.act fun d => d.issue c (.plyFree c f) .both (nz f.rd || nz f.rs2 || decide (f.k ≠ 0)) fun d =>
    let a := d.gv c f.rs1
    let line := lineOfAddr a
    d.raill c
      (if 0x1000000 ≤ a.toNat then .trap d 7 (some a)
       else if d.lockOf (coreReq c) = some line then .next ((d.freeLock (coreReq c)).noteLb c (d.isBroken line))
       else if d.isBroken line then .next (d.noteLb c true)
       else .trap d 0x14 (some a))

/-- ply.st: LB is read and cleared. -/
def execPlySt (c : Core) (f : CtlF) (s : State) : Host.Outcome State Fault Refusal :=
  s.act fun d => d.issue c (.plySt c f) .both (nz f.rs1 || nz f.rs2 || decide (f.k ≠ 0)) fun d => d.raill c
    (.next (match c with
      | .spn p => (d.setV c f.rd (boolWord (d.spn p).lb)).modSpn p fun x => { x with lb := false }
      | .bob b => (d.setV c f.rd (boolWord (d.bob b).lb)).modBob b fun x => { x with lb := false }))

/-- PLY_LOCK_GRANT (R66): the line that a PLY.LOCK waits for is free. -/
def execPlyLockGrant (c : Core) (s : State) : Host.Outcome State Fault Refusal :=
  s.run fun d =>
    match d.waitLock c with
    | some line =>
      if d.lockedBy (coreReq c) line then d
      else
        let d1 := (d.setWaitLock c none).modSk fun x =>
          { x with waits := x.waits.filter fun w => decide (w.req ≠ coreReq c) }
        (d1.takeLock c line).setPc c (d.pcOf c + 4)
    | none => d

/-! ### Mailboxes, trace, injection, halt (R203 to R206) -/

def illBox (f : CtlF) : Bool := decide (f.k.toNat / 4 ≠ 0) || nz f.rs2

/-- mbox.put. -/
def execMboxPut (c : Core) (f : CtlF) (s : State) : Host.Outcome State Fault Refusal :=
  s.act fun d => d.issue c (.mboxPut c f) .c (illBox f) fun d => d.onSpn c fun p _ =>
    let n := f.k.toNat % 4
    d.raill c (.next
      (if d.rbit (Reg.SPN_MBSTAT p) (4 + n) then d.setV c f.rd 0
       else (((d.setRbit (Reg.SPN_MBSTAT p) (4 + n) true).modSpn p fun x =>
          { x with mbOut := smSet (fun _ => 0) x.mbOut n (d.gv c f.rs1) }).setV c f.rd 1)))

/-- mbox.get. -/
def execMboxGet (c : Core) (f : CtlF) (s : State) : Host.Outcome State Fault Refusal :=
  s.act fun d => d.issue c (.mboxGet c f) .c (illBox f || nz f.rs1) fun d => d.onSpn c fun p _ =>
    let n := f.k.toNat % 4
    d.raill c (.next
      (if d.rbit (Reg.SPN_MBSTAT p) n then
        ((d.setRbit (Reg.SPN_MBSTAT p) n false).modSpn p fun x =>
          { x with mbIn := smSet (fun _ => 0) x.mbIn n 0 }).setV c f.rd (smGet (fun _ => 0) (d.spn p).mbIn n)
       else d.setV c f.rd 0))

/-- mbox.st. -/
def execMboxSt (c : Core) (f : CtlF) (s : State) : Host.Outcome State Fault Refusal :=
  s.act fun d => d.issue c (.mboxSt c f) .c (illBox f || nz f.rs1) fun d => d.onSpn c fun p _ =>
    d.raill c (.next (d.setV c f.rd (BitVec.ofNat 32 (d.fld (Reg.SPN_MBSTAT p) 7 0))))

/-- trace: queued in run-ahead, else delivered (R204). -/
def execTrace (c : Core) (f : CtlF) (s : State) : Host.Outcome State Fault Refusal :=
  s.act fun d => d.issue c (.trace c f) .c (decide (64 ≤ f.k.toNat) || nz f.rd || nz f.rs2) fun d => d.onSpn c fun p l =>
    if (d.spn p).ra then d.enqueue p (.trace f.k.toNat (d.gv c f.rs1)) none
    else .next (d.trace p l f.k.toNat (d.gv c f.rs1))

/-- inj: the value latched at the period start (R205). -/
def execInj (c : Core) (f : CtlF) (s : State) : Host.Outcome State Fault Refusal :=
  s.act fun d => d.issue c (.inj c f) .c (decide (f.k.toNat / 4 ≠ 0) || nz f.rs1 || nz f.rs2) fun d => d.onSpn c fun p _ =>
    .next (d.setV c f.rd (smGet (fun _ => 0) (d.spn p).inj (f.k.toNat % 4)))

/-- halt (R206, R215): POST follows BODY; after PRED or POST the loop is idle until its next slot. An entry point outside the
program window, PRED's or POST's, traps IFETCH at its own address when its first instruction would issue (DESIGN CHOICE,
notes/assumptions/88.md). -/
def execHalt (c : Core) (f : CtlF) (s : State) : Host.Outcome State Fault Refusal :=
  s.act fun d => d.issue c (.halt c f) .c (illCtl f) fun d => d.onSpn c fun p l => d.raill c
    (.stay (if (d.spn p).entry = some .body then
        d.modSpn p fun x => { x with entry := some .post, pc := d.entryPc p l .post }
      else d.modSpn p fun x => { x with entry := none }))

end Sys2Proof.Machine
end

