-- ==== Sys2Proof/Machine/Dispatch.lean ====
section
/-! DEFINITION. What each command does: one arm per command, each a direct call of its meaning. -/

namespace Sys2Proof.Machine

open Sys2Proof

def exec (i : Instr) (s : State) : Host.Outcome State Fault Refusal :=
  match i with
  | .gateCommand n h l trip => Sys2Proof.Machine.execGateCommand n h l trip s
  | .statusFrame r => Sys2Proof.Machine.execStatusFrame r s
  | .urgentCode n => Sys2Proof.Machine.execUrgentCode n s
  | .linkLossSafeState die => Sys2Proof.Machine.execLinkLossSafeState die s
  | .pllLock us => Sys2Proof.Machine.execPllLock us s
  | .referenceLoss => Sys2Proof.Machine.execReferenceLoss s
  | .governorStepDown half => Sys2Proof.Machine.execGovernorStepDown half s
  | .governorReturn => Sys2Proof.Machine.execGovernorReturn s
  | .unitDisable u => Sys2Proof.Machine.execUnitDisable u s
  | .disableBoundary u => Sys2Proof.Machine.execDisableBoundary u s
  | .registerWrite m addr size v => Sys2Proof.Machine.execRegisterWrite m addr size v s
  | .w1cWrite m addr v hwSet => Sys2Proof.Machine.execW1cWrite m addr v hwSet s
  | .drawRequest d => Sys2Proof.Machine.execDrawRequest d s
  | .drawComplete bank => Sys2Proof.Machine.execDrawComplete bank s
  | .hankConfigWrite m cfg v => Sys2Proof.Machine.execHankConfigWrite m cfg v s
  | .hankReadOffsetWrite m v => Sys2Proof.Machine.execHankReadOffsetWrite m v s
  | .ceCountClear m => Sys2Proof.Machine.execCeCountClear m s
  | .bankWatchdogBite bank => Sys2Proof.Machine.execBankWatchdogBite bank s
  | .lockBreak line => Sys2Proof.Machine.execLockBreak line s
  | .scrubLine bank line found => Sys2Proof.Machine.execScrubLine bank line found s
  | .bankChangeover => Sys2Proof.Machine.execBankChangeover s
  | .softwareTrigger k => Sys2Proof.Machine.execSoftwareTrigger k s
  | .conversionEnd k vin parityFail => Sys2Proof.Machine.execConversionEnd k vin parityFail s
  | .conversionAbandon k => Sys2Proof.Machine.execConversionAbandon k s
  | .laneSleep k => Sys2Proof.Machine.execLaneSleep k s
  | .laneStartupEnd k => Sys2Proof.Machine.execLaneStartupEnd k s
  | .laneNosleepSet k => Sys2Proof.Machine.execLaneNosleepSet k s
  | .laneEnable k => Sys2Proof.Machine.execLaneEnable k s
  | .tdacWrite m v => Sys2Proof.Machine.execTdacWrite m v s
  | .decimatorEnable n => Sys2Proof.Machine.execDecimatorEnable n s
  | .sdmClockEnableWrite m v => Sys2Proof.Machine.execSdmClockEnableWrite m v s
  | .decimatorOutput n bits => Sys2Proof.Machine.execDecimatorOutput n bits s
  | .sdmStuck n bits => Sys2Proof.Machine.execSdmStuck n bits s
  | .fastFilterTrip n bits => Sys2Proof.Machine.execFastFilterTrip n bits s
  | .housekeepingRoundStart => Sys2Proof.Machine.execHousekeepingRoundStart s
  | .housekeepingNow m => Sys2Proof.Machine.execHousekeepingNow m s
  | .housekeepingRoundPublish volts => Sys2Proof.Machine.execHousekeepingRoundPublish volts s
  | .add c f => Sys2Proof.Machine.execAdd c f s
  | .sub c f => Sys2Proof.Machine.execSub c f s
  | .neg c f => Sys2Proof.Machine.execNeg c f s
  | .abs_ c f => Sys2Proof.Machine.execAbs c f s
  | .min_ c f => Sys2Proof.Machine.execMin c f s
  | .max_ c f => Sys2Proof.Machine.execMax c f s
  | .slt c f => Sys2Proof.Machine.execSlt c f s
  | .sltu c f => Sys2Proof.Machine.execSltu c f s
  | .seq c f => Sys2Proof.Machine.execSeq c f s
  | .and_ c f => Sys2Proof.Machine.execAnd c f s
  | .or_ c f => Sys2Proof.Machine.execOr c f s
  | .xor_ c f => Sys2Proof.Machine.execXor c f s
  | .andn c f => Sys2Proof.Machine.execAndn c f s
  | .sll c f => Sys2Proof.Machine.execSll c f s
  | .srl c f => Sys2Proof.Machine.execSrl c f s
  | .sra c f => Sys2Proof.Machine.execSra c f s
  | .sla c f => Sys2Proof.Machine.execSla c f s
  | .slli c f => Sys2Proof.Machine.execSlli c f s
  | .srli c f => Sys2Proof.Machine.execSrli c f s
  | .srai c f => Sys2Proof.Machine.execSrai c f s
  | .slai c f => Sys2Proof.Machine.execSlai c f s
  | .jmpr c f => Sys2Proof.Machine.execJmpr c f s
  | .jsubr c f => Sys2Proof.Machine.execJsubr c f s
  | .fence c f => Sys2Proof.Machine.execFence c f s
  | .mul c f => Sys2Proof.Machine.execMul c f s
  | .mulq c f => Sys2Proof.Machine.execMulq c f s
  | .mulqr c f => Sys2Proof.Machine.execMulqr c f s
  | .mulh c f => Sys2Proof.Machine.execMulh c f s
  | .div c f => Sys2Proof.Machine.execDiv c f s
  | .divu c f => Sys2Proof.Machine.execDivu c f s
  | .rem c f => Sys2Proof.Machine.execRem c f s
  | .addi c f => Sys2Proof.Machine.execAddi c f s
  | .slti c f => Sys2Proof.Machine.execSlti c f s
  | .sltiu c f => Sys2Proof.Machine.execSltiu c f s
  | .andi c f => Sys2Proof.Machine.execAndi c f s
  | .ori c f => Sys2Proof.Machine.execOri c f s
  | .xori c f => Sys2Proof.Machine.execXori c f s
  | .lhi c f => Sys2Proof.Machine.execLhi c f s
  | .beq c f => Sys2Proof.Machine.execBeq c f s
  | .bne c f => Sys2Proof.Machine.execBne c f s
  | .blt c f => Sys2Proof.Machine.execBlt c f s
  | .bge c f => Sys2Proof.Machine.execBge c f s
  | .bltu c f => Sys2Proof.Machine.execBltu c f s
  | .bgeu c f => Sys2Proof.Machine.execBgeu c f s
  | .jmp c f => Sys2Proof.Machine.execJmp c f s
  | .jsub c f => Sys2Proof.Machine.execJsub c f s
  | .ldW c f => Sys2Proof.Machine.execLdW c f s
  | .stW c f => Sys2Proof.Machine.execStW c f s
  | .ldA c f => Sys2Proof.Machine.execLdA c f s
  | .stA c f => Sys2Proof.Machine.execStA c f s
  | .ldB c f => Sys2Proof.Machine.execLdB c f s
  | .ldBu c f => Sys2Proof.Machine.execLdBu c f s
  | .ldH c f => Sys2Proof.Machine.execLdH c f s
  | .ldHu c f => Sys2Proof.Machine.execLdHu c f s
  | .stB c f => Sys2Proof.Machine.execStB c f s
  | .stH c f => Sys2Proof.Machine.execStH c f s
  | .ldK c f => Sys2Proof.Machine.execLdK c f s
  | .stK c f => Sys2Proof.Machine.execStK c f s
  | .macs c f => Sys2Proof.Machine.execMacs c f s
  | .msus c f => Sys2Proof.Machine.execMsus c f s
  | .muls c f => Sys2Proof.Machine.execMuls c f s
  | .macv c f => Sys2Proof.Machine.execMacv c f s
  | .rda c f => Sys2Proof.Machine.execRda c f s
  | .wra c f => Sys2Proof.Machine.execWra c f s
  | .adda c f => Sys2Proof.Machine.execAdda c f s
  | .rdfl c f => Sys2Proof.Machine.execRdfl c f s
  | .clrf c f => Sys2Proof.Machine.execClrf c f s
  | .trap c f => Sys2Proof.Machine.execTrap c f s
  | .eret c f => Sys2Proof.Machine.execEret c f s
  | .wfi c f => Sys2Proof.Machine.execWfi c f s
  | .wfiResume b => Sys2Proof.Machine.execWfiResume b s
  | .mfc c f => Sys2Proof.Machine.execMfc c f s
  | .mtc c f => Sys2Proof.Machine.execMtc c f s
  | .setc c f => Sys2Proof.Machine.execSetc c f s
  | .clrc c f => Sys2Proof.Machine.execClrc c f s
  | .interruptEntry b => Sys2Proof.Machine.execInterruptEntry b s
  | .coreTimerMatch b => Sys2Proof.Machine.execCoreTimerMatch b s
  | .postedStoreRefusal c => Sys2Proof.Machine.execPostedStoreRefusal c s
  | .clarke c f => Sys2Proof.Machine.execClarke c f s
  | .clarke3 c f => Sys2Proof.Machine.execClarke3 c f s
  | .park c f => Sys2Proof.Machine.execPark c f s
  | .ipark c f => Sys2Proof.Machine.execIpark c f s
  | .svm c f => Sys2Proof.Machine.execSvm c f s
  | .band2 c f => Sys2Proof.Machine.execBand2 c f s
  | .band3 c f => Sys2Proof.Machine.execBand3 c f s
  | .swtab c f => Sys2Proof.Machine.execSwtab c f s
  | .biq c f => Sys2Proof.Machine.execBiq c f s
  | .integ c f => Sys2Proof.Machine.execInteg c f s
  | .lut c f => Sys2Proof.Machine.execLut c f s
  | .obsEmf c f => Sys2Proof.Machine.execObsEmf c f s
  | .obsPll c f => Sys2Proof.Machine.execObsPll c f s
  | .lds c f => Sys2Proof.Machine.execLds c f s
  | .ldsT c f => Sys2Proof.Machine.execLdsT c f s
  | .ldp c f => Sys2Proof.Machine.execLdp c f s
  | .stp c f => Sys2Proof.Machine.execStp c f s
  | .waits c f => Sys2Proof.Machine.execWaits c f s
  | .sampleWaitRelease p => Sys2Proof.Machine.execSampleWaitRelease p s
  | .putd c f => Sys2Proof.Machine.execPutd c f s
  | .rahead c f => Sys2Proof.Machine.execRahead c f s
  | .check c f => Sys2Proof.Machine.execCheck c f s
  | .commit c f => Sys2Proof.Machine.execCommit c f s
  | .plyLock c f => Sys2Proof.Machine.execPlyLock c f s
  | .plyLockGrant c => Sys2Proof.Machine.execPlyLockGrant c s
  | .plyFree c f => Sys2Proof.Machine.execPlyFree c f s
  | .plySt c f => Sys2Proof.Machine.execPlySt c f s
  | .mboxPut c f => Sys2Proof.Machine.execMboxPut c f s
  | .mboxGet c f => Sys2Proof.Machine.execMboxGet c f s
  | .mboxSt c f => Sys2Proof.Machine.execMboxSt c f s
  | .trace c f => Sys2Proof.Machine.execTrace c f s
  | .inj c f => Sys2Proof.Machine.execInj c f s
  | .halt c f => Sys2Proof.Machine.execHalt c f s
  | .mailboxOutRead m p ix => Sys2Proof.Machine.execMailboxOutRead m p ix s
  | .mailboxInWrite m p ix v => Sys2Proof.Machine.execMailboxInWrite m p ix v s
  | .periodStart p l => Sys2Proof.Machine.execPeriodStart p l s
  | .slotClose p l => Sys2Proof.Machine.execSlotClose p l s
  | .commitDeadline p l => Sys2Proof.Machine.execCommitDeadline p l s
  | .loopEnable p l => Sys2Proof.Machine.execLoopEnable p l s
  | .programWindowFillComplete p => Sys2Proof.Machine.execProgramWindowFillComplete p s
  | .hotSpareEnable p => Sys2Proof.Machine.execHotSpareEnable p s
  | .hotSpareFillComplete p => Sys2Proof.Machine.execHotSpareFillComplete p s
  | .lockstepMismatch m => Sys2Proof.Machine.execLockstepMismatch m s
  | .spindleTakeoverComplete q => Sys2Proof.Machine.execSpindleTakeoverComplete q s
  | .timebaseEnable j => Sys2Proof.Machine.execTimebaseEnable j s
  | .groupStart mask => Sys2Proof.Machine.execGroupStart mask s
  | .timebaseLiveWrite j r v => Sys2Proof.Machine.execTimebaseLiveWrite j r v s
  | .timebaseEvent j e => Sys2Proof.Machine.execTimebaseEvent j e s
  | .imageLand n => Sys2Proof.Machine.execImageLand n s
  | .whorlEnable n => Sys2Proof.Machine.execWhorlEnable n s
  | .gateDelayEnd n sec => Sys2Proof.Machine.execGateDelayEnd n sec s
  | .dwellExpiry n => Sys2Proof.Machine.execDwellExpiry n s
  | .forceWrite n v => Sys2Proof.Machine.execForceWrite n v s
  | .tripLatch n trips => Sys2Proof.Machine.execTripLatch n trips s
  | .blankingEnd n => Sys2Proof.Machine.execBlankingEnd n s
  | .tripClear n => Sys2Proof.Machine.execTripClear n s
  | .chopperStateChange land uv => Sys2Proof.Machine.execChopperStateChange land uv s
  | .busOvervoltage land uv => Sys2Proof.Machine.execBusOvervoltage land uv s
  | .minimumPulseEnd n sec => Sys2Proof.Machine.execMinimumPulseEnd n sec s
  | .adaptationWindowOpen n w => Sys2Proof.Machine.execAdaptationWindowOpen n w s
  | .edgeMeasured n sec on ns => Sys2Proof.Machine.execEdgeMeasured n sec on ns s
  | .adaptationWindowClose n w => Sys2Proof.Machine.execAdaptationWindowClose n w s
  | .sectionUndervoltage n u => Sys2Proof.Machine.execSectionUndervoltage n u s
  | .supplyRelease r => Sys2Proof.Machine.execSupplyRelease r s
  | .vgd12Undervoltage die => Sys2Proof.Machine.execVgd12Undervoltage die s
  | .bootstrapUndervoltage m => Sys2Proof.Machine.execBootstrapUndervoltage m s
  | .bootstrapRecovered m => Sys2Proof.Machine.execBootstrapRecovered m s
  | .legOvertemperature die trip => Sys2Proof.Machine.execLegOvertemperature die trip s
  | .shortCircuitDetect n sec => Sys2Proof.Machine.execShortCircuitDetect n sec s
  | .dieBlankingEnd n sec => Sys2Proof.Machine.execDieBlankingEnd n sec s
  | .softTurnOffEnd n sec => Sys2Proof.Machine.execSoftTurnOffEnd n sec s
  | .retryWaitEnd n => Sys2Proof.Machine.execRetryWaitEnd n s
  | .triesReset n => Sys2Proof.Machine.execTriesReset n s
  | .rearm n => Sys2Proof.Machine.execRearm n s
  | .portCountClear n => Sys2Proof.Machine.execPortCountClear n s
  | .portConfigDelivered n => Sys2Proof.Machine.execPortConfigDelivered n s
  | .selfTestStart n sel => Sys2Proof.Machine.execSelfTestStart n sel s
  | .selfTestEnd n r => Sys2Proof.Machine.execSelfTestEnd n r s
  | .lvBusLimit die => Sys2Proof.Machine.execLvBusLimit die s
  | .lvBusResume die => Sys2Proof.Machine.execLvBusResume die s
  | .encoderEdge e a b => Sys2Proof.Machine.execEncoderEdge e a b s
  | .encoderIndex x => Sys2Proof.Machine.execEncoderIndex x s
  | .hallEdge h st => Sys2Proof.Machine.execHallEdge h st s
  | .pwmInSaturate u => Sys2Proof.Machine.execPwmInSaturate u s
  | .positionUnitEnable u => Sys2Proof.Machine.execPositionUnitEnable u s
  | .sequencerPeriod f o => Sys2Proof.Machine.execSequencerPeriod f o s
  | .catchMeasurementEnd f es prim vline vbus => Sys2Proof.Machine.execCatchMeasurementEnd f es prim vline vbus s
  | .brakeEnd f speed => Sys2Proof.Machine.execBrakeEnd f speed s
  | .alignEnd f => Sys2Proof.Machine.execAlignEnd f s
  | .handover f lead => Sys2Proof.Machine.execHandover f lead s
  | .startFailure f => Sys2Proof.Machine.execStartFailure f s
  | .stopEnd f speed => Sys2Proof.Machine.execStopEnd f speed s
  | .lockedRotor f speed => Sys2Proof.Machine.execLockedRotor f speed s
  | .rotorLoss f execs vbus => Sys2Proof.Machine.execRotorLoss f execs vbus s
  | .rotorRecovery f vecs => Sys2Proof.Machine.execRotorRecovery f vecs s
  | .recatchTimeout f => Sys2Proof.Machine.execRecatchTimeout f s
  | .feedbackLoss f sums codes seqs vbus => Sys2Proof.Machine.execFeedbackLoss f sums codes seqs vbus s
  | .topologyDetect f p1 p2 p3 => Sys2Proof.Machine.execTopologyDetect f p1 p2 p3 s
  | .gridLock f execs => Sys2Proof.Machine.execGridLock f execs s
  | .prechargeTimeout f => Sys2Proof.Machine.execPrechargeTimeout f s
  | .gridLoss f => Sys2Proof.Machine.execGridLoss f s
  | .gridResync f => Sys2Proof.Machine.execGridResync f s
  | .rectifierThreshold f current => Sys2Proof.Machine.execRectifierThreshold f current s
  | .pilotLoss f => Sys2Proof.Machine.execPilotLoss f s
  | .chargeGateClose f => Sys2Proof.Machine.execChargeGateClose f s
  | .actuatorArrival f => Sys2Proof.Machine.execActuatorArrival f s
  | .homingTimeout f => Sys2Proof.Machine.execHomingTimeout f s
  | .actuatorStall f pos => Sys2Proof.Machine.execActuatorStall f pos s
  | .obstructionRetry f => Sys2Proof.Machine.execObstructionRetry f s
  | .toothTimeout f => Sys2Proof.Machine.execToothTimeout f s
  | .interlockEvaluation => Sys2Proof.Machine.execInterlockEvaluation s
  | .permitDrop f pos => Sys2Proof.Machine.execPermitDrop f pos s
  | .orderlyStopRampEnd f execs vbus => Sys2Proof.Machine.execOrderlyStopRampEnd f execs vbus s
  | .injectionEnable => Sys2Proof.Machine.execInjectionEnable s
  | .injectionStop => Sys2Proof.Machine.execInjectionStop s
  | .injectionAbort => Sys2Proof.Machine.execInjectionAbort s
  | .reelArm n => Sys2Proof.Machine.execReelArm n s
  | .reelSoftwareTrigger n => Sys2Proof.Machine.execReelSoftwareTrigger n s
  | .reelStop n => Sys2Proof.Machine.execReelStop n s
  | .snarlEvent evs => Sys2Proof.Machine.execSnarlEvent evs s
  | .wireFault e => Sys2Proof.Machine.execWireFault e s
  | .countWindowExpiry e => Sys2Proof.Machine.execCountWindowExpiry e s
  | .retentionLatchCopy => Sys2Proof.Machine.execRetentionLatchCopy s
  | .reactionRetry e => Sys2Proof.Machine.execReactionRetry e s
  | .reactionRetire e => Sys2Proof.Machine.execReactionRetire e s
  | .reactionDegrade e => Sys2Proof.Machine.execReactionDegrade e s
  | .reactionFsafe e => Sys2Proof.Machine.execReactionFsafe e s
  | .reactionDsafe e => Sys2Proof.Machine.execReactionDsafe e s
  | .reactionRestart e severe failed => Sys2Proof.Machine.execReactionRestart e severe failed s
  | .soffAccept => Sys2Proof.Machine.execSoffAccept s
  | .sascAccept => Sys2Proof.Machine.execSascAccept s
  | .safetyPinRelease sasc => Sys2Proof.Machine.execSafetyPinRelease sasc s
  | .functionRelease m v => Sys2Proof.Machine.execFunctionRelease m v s
  | .fltPulseEnd => Sys2Proof.Machine.execFltPulseEnd s
  | .distaffWatchdogBite => Sys2Proof.Machine.execDistaffWatchdogBite s
  | .bobbinWatchdogKick m b v => Sys2Proof.Machine.execBobbinWatchdogKick m b v s
  | .bobbinWatchdogBite b => Sys2Proof.Machine.execBobbinWatchdogBite b s
  | .faultInjectionArm m v => Sys2Proof.Machine.execFaultInjectionArm m v s
  | .injectedEvent => Sys2Proof.Machine.execInjectedEvent s
  | .faultInjectionTimeout => Sys2Proof.Machine.execFaultInjectionTimeout s
  | .userSourceRaise m v => Sys2Proof.Machine.execUserSourceRaise m v s
  | .retainedClear m => Sys2Proof.Machine.execRetainedClear m s
  | .modeRequestConfig m => Sys2Proof.Machine.execModeRequestConfig m s
  | .modeRequestStandby m => Sys2Proof.Machine.execModeRequestStandby m s
  | .modeRequestRun m degraded => Sys2Proof.Machine.execModeRequestRun m degraded s
  | .modeRequestSleep m => Sys2Proof.Machine.execModeRequestSleep m s
  | .modeRequestOrderlyStop m => Sys2Proof.Machine.execModeRequestOrderlyStop m s
  | .modeRequestBoot m => Sys2Proof.Machine.execModeRequestBoot m s
  | .modeRequestService m => Sys2Proof.Machine.execModeRequestService m s
  | .orderlyStopEnd => Sys2Proof.Machine.execOrderlyStopEnd s
  | .powerOn => Sys2Proof.Machine.execPowerOn s
  | .supplyFall r => Sys2Proof.Machine.execSupplyFall r s
  | .pinReset => Sys2Proof.Machine.execPinReset s
  | .bootEnd b => Sys2Proof.Machine.execBootEnd b s
  | .selftestEnd r => Sys2Proof.Machine.execSelftestEnd r s
  | .loadEnd r => Sys2Proof.Machine.execLoadEnd r s
  | .sleepEntry => Sys2Proof.Machine.execSleepEntry s
  | .wake => Sys2Proof.Machine.execWake s
  | .wakeTimer => Sys2Proof.Machine.execWakeTimer s
  | .powerFail => Sys2Proof.Machine.execPowerFail s
  | .temperatureExtremesClear m => Sys2Proof.Machine.execTemperatureExtremesClear m s
  | .governorForce m v => Sys2Proof.Machine.execGovernorForce m v s
  | .governorCountClear m => Sys2Proof.Machine.execGovernorCountClear m s
  | .flashAppend m v => Sys2Proof.Machine.execFlashAppend m v s
  | .flashProgram m v => Sys2Proof.Machine.execFlashProgram m v s
  | .flashErase m v => Sys2Proof.Machine.execFlashErase m v s
  | .flashBadOp m v => Sys2Proof.Machine.execFlashBadOp m v s
  | .flashWordDone verified => Sys2Proof.Machine.execFlashWordDone verified s
  | .flashSectorDone erased => Sys2Proof.Machine.execFlashSectorDone erased s
  | .distaffRecordAppend => Sys2Proof.Machine.execDistaffRecordAppend s
  | .waitingRecordWrite => Sys2Proof.Machine.execWaitingRecordWrite s
  | .sessionHello t nonce => Sys2Proof.Machine.execSessionHello t nonce s
  | .sessionAuth h role mac => Sys2Proof.Machine.execSessionAuth h role mac s
  | .sessionKeep h => Sys2Proof.Machine.execSessionKeep h s
  | .sessionBye h => Sys2Proof.Machine.execSessionBye h s
  | .sessionRead h addr words => Sys2Proof.Machine.execSessionRead h addr words s
  | .sessionWrite h addr words => Sys2Proof.Machine.execSessionWrite h addr words s
  | .sessionMode h req => Sys2Proof.Machine.execSessionMode h req s
  | .sessionStatus h => Sys2Proof.Machine.execSessionStatus h s
  | .sessionJread h from_ => Sys2Proof.Machine.execSessionJread h from_ s
  | .sessionIdent h => Sys2Proof.Machine.execSessionIdent h s
  | .sessionErase h sector count => Sys2Proof.Machine.execSessionErase h sector count s
  | .sessionProg h offset data => Sys2Proof.Machine.execSessionProg h offset data s
  | .sessionVerify h arb fuses struck => Sys2Proof.Machine.execSessionVerify h arb fuses struck s
  | .sessionRollback h struck => Sys2Proof.Machine.execSessionRollback h struck s
  | .sessionLdrun h r => Sys2Proof.Machine.execSessionLdrun h r s
  | .sessionTimeout => Sys2Proof.Machine.execSessionTimeout s
  | .sessionTransportLoss t => Sys2Proof.Machine.execSessionTransportLoss t s
  | .lockoutExpiry => Sys2Proof.Machine.execLockoutExpiry s
  | .frameReceive l r => Sys2Proof.Machine.execFrameReceive l r s
  | .transmitKick l => Sys2Proof.Machine.execTransmitKick l s
  | .descriptorEnd l result tsSec tsNs => Sys2Proof.Machine.execDescriptorEnd l result tsSec tsNs s
  | .linkReset l => Sys2Proof.Machine.execLinkReset l s
  | .timeOffsetWrite m v => Sys2Proof.Machine.execTimeOffsetWrite m v s
  | .timeSecondsRead m => Sys2Proof.Machine.execTimeSecondsRead m s
  | .canBusOff ix => Sys2Proof.Machine.execCanBusOff ix s
  | .canBusOffRecovery ix => Sys2Proof.Machine.execCanBusOffRecovery ix s
  | .linkDown l => Sys2Proof.Machine.execLinkDown l s
  | .hspiRead addr words ready => Sys2Proof.Machine.execHspiRead addr words ready s
  | .hspiWrite addr words => Sys2Proof.Machine.execHspiWrite addr words s
  | .hspiStatus => Sys2Proof.Machine.execHspiStatus s
  | .uartIdleClose ix => Sys2Proof.Machine.execUartIdleClose ix s
  | .sentTimeout ix => Sys2Proof.Machine.execSentTimeout ix s
  | .gpioSet m v => Sys2Proof.Machine.execGpioSet m v s
  | .gpioClr m v => Sys2Proof.Machine.execGpioClr m v s
  | .legLinkRestored die => Sys2Proof.Machine.execLegLinkRestored die s
  | .pwmCompareEdge n fine => Sys2Proof.Machine.execPwmCompareEdge n fine s
  | .refreshLowEnd n => Sys2Proof.Machine.execRefreshLowEnd n s
  | .deadTimeFloorEnd n sec => Sys2Proof.Machine.execDeadTimeFloorEnd n sec s
  | .excitationStep x step => Sys2Proof.Machine.execExcitationStep x step s
  | .controlPilotEdge level => Sys2Proof.Machine.execControlPilotEdge level s
  | .resetPinRelease => Sys2Proof.Machine.execResetPinRelease s
  | .modeRequestNoRow m req => Sys2Proof.Machine.execModeRequestNoRow m req s
  | .linkUp l => Sys2Proof.Machine.execLinkUp l s

end Sys2Proof.Machine
end

