-- ==== Sys2Proof/Machine/Tick.lean ====
section
/-! DEFINITION. One CLK_MOD tick of the block (R17): what the spec's clocks drive whatever is commanded: the running
timebases, the Bobbins' cycle counters at the governor's rate, the link time counter, GOV_TIME and the operating time. -/

namespace Sys2Proof.Machine

/-- Quarters of a CLK_BOB cycle in a tick, by the governor's step (R490). -/
def Dev.bobRate (d : Dev) : Nat :=
  if d.fld Reg.GOV_STAT 1 0 = 0 then 4 else if d.fld Reg.GOV_STAT 1 0 = 1 then 3 else 2

/-- One CLK_BOB cycle of a Bobbin: its count, and line 55 while it equals tcmp and from then on (R165, R171). -/
def Dev.bobCycle (d : Dev) (b : Nat) : Dev :=
  let tcmp := (d.csr b 7).toNat
  d.modBob b fun x =>
    { x with cycle := (x.cycle + 1) % 2 ^ 64,
             timer := x.timer || decide (x.cycle % 2 ^ 32 = tcmp) || decide ((x.cycle + 1) % 2 ^ 32 = tcmp) }

/-- CLK_BOB in one tick: a cycle when its phase comes round, in which the Snarl samples its pairs (R418). -/
def Dev.bobTick (d : Dev) : Dev :=
  let ph := d.su.bobPhase + d.bobRate
  if 4 ≤ ph then
    ((List.range 3).foldl (fun e b => e.bobCycle b) (d.modSu fun x => { x with bobPhase := ph - 4 })).snarlSample
  else d.modSu fun x => { x with bobPhase := ph }

/-- GOV_TIME: microseconds below full rate. -/
def Dev.govTick (d : Dev) : Dev :=
  if d.fld Reg.GOV_STAT 1 0 = 0 then d
  else if d.su.stretch + 1 < ticksUs 1 then d.modSu fun x => { x with stretch := x.stretch + 1 }
  else (d.modSu fun x => { x with stretch := 0 }).incFld Reg.GOV_TIME 31 0

/-- The running timebases advance by one tick (R243). -/
def Dev.tbTicks (d : Dev) : Dev := (List.range 16).foldl (fun e j => if e.tbRuns j then e.tbTick j else e) d

/-- CLK_SKN in one tick (R17, R490): two cycles of every bank's Flyer at full rate, fewer below it, in which the draws
raised and the bank copy have their beats (R56, R77). -/
def Dev.sknTick (d : Dev) : Dev :=
  if d.sk.copy.isNone && d.allDraws.isEmpty then d
  else
    let ph := d.sk.phase + 2 * d.bobRate
    (List.range (ph / 4)).foldl (fun e _ => e.sknCycle) (d.modSk fun x => { x with phase := ph % 4 })

/-- One CLK_MOD tick; CLK_PER is a quarter of it. The filters of the pins sample at it, and reads of descriptors and
checkpoints that the Flyer held back go on; a RUN request whose round takes too long is refused. -/
def Dev.tick (d : Dev) : Dev :=
  let d1 := { d with now := d.now + 1 }
  if d1.clocked then
    ((((((d1.tbTicks.pinFilter.posTick.bobTick.govTick).wearTick).sknTick).linkResume).spnResume).runLate).when (decide (d1.now % 4 = 0))
      Dev.timeTick
  else d1

end Sys2Proof.Machine
end

