-- ==== Sys2Proof/Machine/Step.lean ====
section
/-! DEFINITION. One step of the block: the command at the front of the queue; on an empty queue one CLK_MOD tick. -/

namespace Sys2Proof.Machine

/-- One step (notes/assumptions/1.md: an empty queue lets one tick pass, DESIGN CHOICE). -/
def step (s : State) : Host.Outcome State Fault Refusal :=
  match s.pending with
  | [] => .next (s.withDev s.dev.tick)
  | c :: rest => exec c { s with pending := rest }

/-- The command that a table word spells, at the front of the queue; the table gives no bits, so the state stands. -/
def State.withFetchWord (s : State) (nbits w : Nat) : State :=
  match decodeTableWord nbits w with
  | some c => { s with pending := c :: s.pending }
  | none => s

end Sys2Proof.Machine
end

