-- ==== Sys2Proof/Safety.lean ====
section
/-! DEFINITION. What claims about runs are said in: the canonical form of the state's memories, the legal device modes,
a command that completes and what its next state holds, and what of a device stands. -/

namespace Sys2Proof.Machine

/-- The Skein's bytes in canonical form: addresses rising, no byte equal to what an unlisted one reads as. -/
def Memory.wf (m : List Host.Cell) : Bool := smWf (fun _ => (0 : Byte)) m

/-- The flash's bytes in canonical form: an unlisted byte reads erased. -/
def Flash.wf (m : List Host.Cell) : Bool := smWf (fun _ => (0xFF : Byte)) m

/-- The registers in canonical form: no entry equal to the reset value of its address. -/
def Regs.wf (m : SMap Word) : Bool := smWf resetWord m

/-- The memories of the device are canonical. -/
def Dev.canonical (d : Dev) : Bool := Memory.wf d.sk.mem && Flash.wf d.fl.mem && Regs.wf d.regs

/-- The device mode is one of R455. -/
def Dev.legalMode (d : Dev) : Bool := decide (d.mode ≤ 0xB)

/-- A master whose accesses are taken (R19, R29, R517, R535): the PLL runs, and the master has the right to write. -/
def Dev.admits (d : Dev) (m : Master) : Prop := d.clocked = true ∧ d.mayWrite m 0 = true

/-- A command of what only runs once the PLL has locked (R19): before, the always-on domain and the boot ROM clock alone
run. -/
def needsPll : Instr → Bool
  | .unitDisable _ | .disableBoundary _ | .frameReceive _ _ | .transmitKick _ | .descriptorEnd _ _ _ _ | .linkReset _ | .canBusOff _
  | .canBusOffRecovery _ | .linkDown _ | .linkUp _ | .uartIdleClose _ | .sentTimeout _ | .softwareTrigger _
  | .conversionEnd _ _ _ | .conversionAbandon _ | .laneSleep _ | .laneStartupEnd _ | .laneNosleepSet _ | .laneEnable _
  | .decimatorEnable _ | .decimatorOutput _ _ | .sdmStuck _ _ | .fastFilterTrip _ _ | .housekeepingRoundStart
  | .postedStoreRefusal _ | .orderlyStopEnd | .sleepEntry | .gateCommand _ _ _ _ | .statusFrame _ | .legLinkRestored _
  | .rearm _ | .portCountClear _ | .portConfigDelivered _ | .selfTestStart _ _ | .encoderEdge _ _ _ | .encoderIndex _
  | .hallEdge _ _ | .pwmInSaturate _ | .positionUnitEnable _ | .excitationStep _ _ | .controlPilotEdge _
  | .plyLockGrant _ | .sequencerPeriod _ _ | .catchMeasurementEnd _ _ _ _ _ | .brakeEnd _ _ | .alignEnd _ | .handover _ _
  | .startFailure _ | .stopEnd _ _ | .lockedRotor _ _ | .rotorLoss _ _ _ | .rotorRecovery _ _ | .recatchTimeout _
  | .feedbackLoss _ _ _ _ _ | .topologyDetect _ _ _ _ | .gridLock _ _ | .prechargeTimeout _ | .gridLoss _
  | .gridResync _ | .rectifierThreshold _ _ | .pilotLoss _ | .chargeGateClose _ | .actuatorArrival _
  | .homingTimeout _ | .actuatorStall _ _ | .obstructionRetry _ | .toothTimeout _ | .interlockEvaluation
  | .permitDrop _ _ | .orderlyStopRampEnd _ _ _ | .sessionHello _ _ | .sessionAuth _ _ _ | .sessionKeep _
  | .sessionBye _ | .sessionRead _ _ _ | .sessionWrite _ _ _ | .sessionMode _ _ | .sessionStatus _ | .sessionJread _ _
  | .sessionIdent _ | .sessionErase _ _ _ | .sessionProg _ _ _ | .sessionVerify _ _ _ _ | .sessionRollback _ _
  | .sessionLdrun _ _ | .sessionTimeout | .sessionTransportLoss _ | .lockoutExpiry | .hspiRead _ _ _ | .hspiWrite _ _
  | .hspiStatus | .drawComplete _ | .bankWatchdogBite _ | .lockBreak _ | .scrubLine _ _ _ | .bankChangeover
  | .snarlEvent _ | .wireFault _ | .countWindowExpiry _ | .reactionRetry _ | .reactionRetire _ | .reactionDegrade _
  | .reactionFsafe _ | .reactionDsafe _ | .reactionRestart _ _ _ | .soffAccept | .sascAccept | .safetyPinRelease _
  | .bobbinWatchdogBite _ | .injectedEvent | .faultInjectionTimeout | .urgentCode _ | .sampleWaitRelease _
  | .periodStart _ _ | .slotClose _ _ | .commitDeadline _ _ | .loopEnable _ _ | .programWindowFillComplete _
  | .hotSpareEnable _ | .hotSpareFillComplete _ | .lockstepMismatch _ | .spindleTakeoverComplete _ | .wfiResume _
  | .interruptEntry _ | .coreTimerMatch _ | .governorStepDown _ | .governorReturn | .housekeepingRoundPublish _
  | .tripLatch _ _ | .blankingEnd _ | .tripClear _ | .injectionEnable | .injectionStop | .injectionAbort | .reelArm _
  | .reelSoftwareTrigger _ | .reelStop _ | .timebaseEnable _ | .groupStart _ | .timebaseLiveWrite _ _ _
  | .timebaseEvent _ _ | .imageLand _ | .whorlEnable _ | .gateDelayEnd _ _ | .dwellExpiry _ | .forceWrite _ _
  | .chopperStateChange _ _ | .busOvervoltage _ _ | .pwmCompareEdge _ _ | .refreshLowEnd _ | .drawRequest _ => true
  | _ => false

/-- A step that goes on. -/
def completes (s : State) : Prop := ∃ t, step s = .next t

/-- A command completes: `exec` answers a next state with the same queue, and its device is as said. -/
def Gives (i : Instr) (s : State) (P : Dev → Prop) : Prop := ∃ t, exec i s = .next t ∧ t.pending = s.pending ∧ P t.dev

/-- Every byte of the Skein stands. -/
def Dev.sameMem (d e : Dev) : Prop := ∀ a, e.byte a = d.byte a

/-- No draw is raised in any bank: an access of the Skein has its turn at once. -/
def Dev.quiet (d : Dev) : Prop := ∀ b, d.drawsOf b = []

/-- No draw is raised in any bank and no Whorl owes a prefetch: nothing of the Skein's traffic is under way. -/
def Dev.settled (d : Dev) : Prop := d.quiet ∧ ∀ n, (d.whorl n).notice = false

/-- A draw of the class meets no beat of a bank copy before it in the bank (R56, R77): the copy's are of class 4. -/
def Dev.copyAway (d : Dev) (cls bank : Nat) : Prop := cls = 4 → ∀ c, d.sk.copy = some c → c.bank ≠ bank

/-- A requester reads without an error: no draw is raised, its port is not cut, every word is good and the hanks lie
in the Skein. -/
def Dev.readsClean (d : Dev) (req : Nat) : Prop :=
  d.quiet ∧ d.isCut req = false ∧ (∀ a, d.ecc a = .good) ∧ ∀ k, (d.hank k).start + (d.hank k).bytes ≤ 0x1000000

/-- Every register stands but those named. -/
def Dev.sameRegs (d e : Dev) (but : List Nat) : Prop := ∀ a, a ∉ but → e.reg a = d.reg a

/-- Every byte of the Skein stands, and every register but those named. -/
def Dev.keeps (d e : Dev) (but : List Nat) : Prop := d.sameMem e ∧ d.sameRegs e but

/-- Every leg stands but those named. -/
def Dev.keepsLegs (d e : Dev) (but : List Nat) : Prop := ∀ m, m ∉ but → e.port m = d.port m

/-- The report of a source at an instance stands raised. -/
def Dev.raised (d : Dev) (s i : Nat) : Prop := srcInst s i ∈ d.reports

/-- Only the state of one function's sequencer changes. -/
def Dev.onlyFn (d e : Dev) (f : Nat) : Prop := (∀ g, g ≠ f → e.fn g = d.fn g) ∧ d.keeps e []

/-- Only one function's sequencer, the duty slots of its ports and the Skein's own registers change. -/
def Dev.onlyLegs (d e : Dev) (f : Nat) (x : FnEntry) : Prop :=
  (∀ g, g ≠ f → e.fn g = d.fn g) ∧ e.pt = d.pt ∧ (∀ a, a < 0x37000000 ∨ 0x37001000 ≤ a → e.reg a = d.reg a) ∧
    ∀ a, (∀ n ∈ portsOf x, a < d.fld (Reg.WHL_SLOT n) 23 4 * 16 ∨ d.fld (Reg.WHL_SLOT n) 23 4 * 16 + 16 ≤ a) →
      e.byte a = d.byte a

/-- A core that executes an instruction (R124, R150, R151, R155, R160, R169): it stands at a boundary and is not
stalled, no trap of a refused store and no interrupt comes first, the word at its pc is fetched, a Spindle does not
fall out of its window behind it, and a Bobbin may execute there. -/
def Dev.executes (d : Dev) (c : Core) (i : Instr) : Prop :=
  d.ready c = true ∧ d.fetch c = (d, none) ∧ d.fallsOut c i = false ∧
    ∀ b, c = .bob b → d.mpuOk b (d.bob b).pc.toNat .fetch = true

/-- A GWYN instruction runs to a device: on a core that executes it, `exec` answers the next state with that device, the
pc moved to the next instruction, and the queue as it was. -/
def RunsTo (s : State) (c : Core) (i : Instr) (d : Dev) : Prop :=
  s.dev.executes c i → exec i s = .next (s.withDev (d.setPc c (s.dev.pcOf c + 4)))

/-- A GWYN instruction traps with a cause and, where there is one, an effective address, and has no other effect. -/
def Traps (s : State) (c : Core) (i : Instr) (cause : Nat) (ea : Option Word) : Prop :=
  s.dev.executes c i → exec i s = .next (s.withDev (s.dev.takeTrap c ((encode i).getD 0) cause ea))

/-- A core goes on at the next instruction with a new value in one value register: every other register and accumulator
of the core, every register of register space and every byte of the Skein stand. -/
def Dev.getsV (d e : Dev) (c : Core) (rd : BitVec 5) (w : Word) : Prop :=
  (∀ q, e.gv c q = if q = rd ∧ rd ≠ 0 then w else d.gv c q) ∧ (∀ k, e.ga c k = d.ga c k) ∧
    e.pcOf c = d.pcOf c + 4 ∧ d.sameMem e ∧ d.sameRegs e []

/-- The same with a new value in one accumulator. -/
def Dev.getsA (d e : Dev) (c : Core) (a : Nat) (w : DWord) : Prop :=
  (∀ k, e.ga c k = if k = a then w else d.ga c k) ∧ (∀ q, e.gv c q = d.gv c q) ∧
    e.pcOf c = d.pcOf c + 4 ∧ d.sameMem e ∧ d.sameRegs e []

/-- A store that a core has made: exactly the stored bytes of the Skein are new, and no register or accumulator of the
core changes. -/
def Dev.stored (d e : Dev) (c : Core) (a : Nat) (bs : List Byte) : Prop :=
  (∀ x, e.byte x = if a ≤ x ∧ x < a + bs.length then bs.getD (x - a) 0 else d.byte x) ∧
    (∀ q, e.gv c q = d.gv c q) ∧ (∀ k, e.ga c k = d.ga c k) ∧ e.pcOf c = d.pcOf c + 4

/-- A core reads the word at a Skein address as it stands there: no draw is raised in its bank, the core's port is not
cut, the word is good and its line not lock-broken; on a Bobbin protection permits the read; on a Spindle neither its
store queue nor its handoff snapshot holds the word. -/
def Dev.readsPlain (d : Dev) (c : Core) (a : Nat) : Prop :=
  d.drawsOf (bankOf a) = [] ∧ d.isCut (coreReq c) = false ∧ d.ecc a = .good ∧ d.isBroken (a / 64) = false ∧
    (∀ b, c = .bob b → d.mpuOk b a .read = true) ∧
    (∀ p, c = .spn p → d.inHandoff p a = false ∧ ((d.spn p).ra = true → queuedWord (d.spn p).queue a = none))

/-- A core may store n bytes at a Skein address at once: no draw is raised, a Spindle is not in run-ahead, protection
permits a Bobbin's write, the Skein does not refuse it, the address lies in no ring hank that the core itself writes,
and no other requester holds its lines. -/
def Dev.storesPlain (d : Dev) (c : Core) (a n : Nat) : Prop :=
  d.quiet ∧ d.inRa c = false ∧ (∀ b, c = .bob b → d.mpuOk b a .write = true) ∧
    d.storeRefusal (coreReq c) a n (decide (n = 8) && Profile.s.has c) = none ∧ d.ringOf (coreReq c) a = none ∧
    d.blockedLine (coreReq c) a n = none

end Sys2Proof.Machine
end

