-- ==== Sys2Proof/WellFormed.lean ====
section
/-! DEFINITION. Which commands are well formed: where an operand can take a value that no command of the manual carries,
the check says so. The operands that their types bound need none. -/

namespace Sys2Proof

/-- A draw (R38): 1 to 64 beats, one for a single word, and a write carries its words. -/
def DrawSpec.wf (d : DrawSpec) : Bool :=
  decide (1 ≤ d.beats) && decide (d.beats ≤ 64) && (!d.single || decide (d.beats = 1)) &&
    (!d.write || decide (d.data.length = if d.single then 1 else 4 * d.beats))

/-- A housekeeping round has 24 results (R121). -/
def voltsWf (volts : List Int) : Bool := decide (volts.length = 24)

/-- SELFTEST scans three channels of each of the 18 lanes (R467). -/
def SelftestResult.wf (r : SelftestResult) : Bool :=
  voltsWf r.volts && decide (r.scans.length = 18) && r.scans.all fun x => decide (x.length = 3)

/-- The library describes functions F00 to F31 (R448). -/
def LoadResult.wf (r : LoadResult) : Bool := r.descs.all fun e => decide (e.1 < 32)

/-- A command's operands are ones the manual knows. -/
def Instr.wf : Instr → Bool
  | .mfc _ f => decide (f.imm.extractLsb' 14 2 = 0)
  | .mtc _ f => decide (f.imm.extractLsb' 14 2 = 1)
  | .setc _ f => decide (f.imm.extractLsb' 14 2 = 2)
  | .clrc _ f => decide (f.imm.extractLsb' 14 2 = 3)
  | .rdfl _ f => decide (f.rs1 = 0)
  | .clrf _ f => decide (f.rs1 = 1)
  | .drawRequest d => d.wf
  | .housekeepingRoundPublish volts => voltsWf volts
  | .selftestEnd r => r.wf
  | .loadEnd r => r.wf
  | .pllLock us => decide (us.toNat ≤ 200)
  | .scrubLine _ _ found => decide ((found.map Prod.fst).Nodup)
  | .sessionHello _ nonce => decide (nonce.length = 16)
  | .sessionRead _ _ words => decide (words ≤ 256)
  | .sessionWrite _ _ words => decide (words.length ≤ 256)
  | .sessionErase _ sector _ => decide (sector < 512)
  | .sessionProg _ offset data => decide (offset < 0x800000) && decide (data.length ≤ 1024)
  | _ => true

end Sys2Proof
end

