-- ==== Sys2Proof/Certificates/Slice0/Obligations.lean ====
section
/-! DEFINITION. The statements about the model for the provers, from the manual's numbered rules: first the block and its
queue, reset, the GWYN words and instructions, then each unit's commands. -/

open Sys2Proof Sys2Proof.Machine

/-! ### The block: the queue, one step, the whole set of commands -/

/-- One step runs the command at the front of the queue, with the rest of the queue behind it
(95_what_each_step_holds.md). -/
def Obligations.StepRunsFront : Prop :=
  ∀ (c : Instr) (q : List Instr) (d : Dev),
    step { dev := d, pending := c :: q } = exec c { dev := d, pending := q }

/-- With no command waiting one CLK_MOD tick passes (DESIGN CHOICE, notes/assumptions/1.md): the step completes, the
queue stays empty and the time is one tick later; where no draw is raised the Skein's bytes stand; while the PLL does
not run, neither locked nor free, nothing else changes, and no well-formed command of what it clocks has an effect
(R17, R19, R20). -/
def Obligations.EmptyQueueLetsATickPass : Prop :=
  (∀ d : Dev, ∃ t, step { dev := d, pending := [] } = .next t ∧ t.pending = [] ∧ t.dev.now = d.now + 1 ∧
    (d.quiet → d.sameMem t.dev) ∧
    (d.rbit Reg.CLK_STAT 0 = false → d.rbit Reg.CLK_STAT 1 = false → t.dev = { d with now := d.now + 1 })) ∧
  ∀ (i : Instr) (s : State), needsPll i = true → i.wf = true → s.dev.clocked = false → exec i s = .next s

/-- Every command that is no impossible draw completes, in every state; an impossible draw (R38) is the one thing that
stops the block, and it stops by that name.
An impossible draw, and nothing else, ends a step without a next state, and no command is refused. -/
def Obligations.CommandsComplete : Prop :=
  (∀ (i : Instr) (s : State),
     (∀ d, i = .drawRequest d → d.wf = true) ↔ (∃ t, exec i s = .next t)) ∧
  (∀ (i : Instr) (s : State),
     (∀ r, exec i s ≠ .refused r) ∧
     ∀ f, exec i s = .fault f → f = .noSuchDraw ∧ ∃ d, i = .drawRequest d ∧ d.wf = false)

/-- A step takes away the command it ran and no other: the queue after it is the rest of the queue before it.
An invariant of the queue: when every command that waits is well formed, every step completes, and the commands that
wait after it are well formed too; so a block that is fed well-formed commands never stops. -/
def Obligations.WellFormedQueuesRun : Prop :=
  (∀ s t : State, step s = .next t → t.pending = s.pending.tail) ∧
  (∀ s : State, (∀ i ∈ s.pending, i.wf = true) → ∃ t, step s = .next t ∧ ∀ i ∈ t.pending, i.wf = true)

/-! ### Reset -/

/-- The registers right after reset hold the values that the register tables give, the instances of an indexed
register alike; the device stands in BOOT. Right after reset the memories are in canonical form and list nothing,
every core stands with zeroed registers, no Bobbin runs, each Bobbin is in supervisor mode (R166), nobody holds a ply
lock, and no command waits. The zeros of the cores and of the Skein are the model's own choices
(notes/assumptions/4.md and 7.md), not the manual's. -/
def Obligations.ResetState : Prop :=
  (let d := State.reset.dev
   d.reg Reg.IDN_PART = 0x4B4C6480 ∧ d.reg Reg.IDN_STEP = 0x4201 ∧ d.reg Reg.SKN_SCRUB = 1 ∧
   d.reg Reg.NVM_SEQA = 0xFFFFFFFF ∧ d.reg Reg.NVM_SEQB = 0xFFFFFFFF ∧ d.reg (Reg.SKN_MAP 0) = 0x03020100 ∧
   d.reg (Reg.SKN_MAP 3) = 0x0F0E0D0C ∧ d.reg (Reg.SPN_STAT 5) = 0x5800 ∧ d.reg (Reg.SPN_STAT 17) = 0x400 ∧
   d.reg (Reg.TB_PER 7) = 0x960 ∧ d.mode = 1) ∧
  (let d := State.reset.dev
   State.reset.pending = [] ∧ d.canonical = true ∧ d.legalMode = true ∧ (∀ a, d.byte a = 0) ∧
   (∀ c r, d.gv c r = 0) ∧ (∀ c k, d.ga c k = 0) ∧ (∀ c, d.ready c = false) ∧
   (∀ b, (d.bob b).running = false ∧ d.csr b 0 = 1) ∧ ∀ req, d.lockOf req = none)

/-! ### GWYN words (R140 to R143) -/

/-- Decoding gives back what was encoded: every well-formed GWYN instruction, with every operand at every value, is read
from its own word on the core that it names; a reserved word, which is no instruction, is met as itself. -/
def Obligations.DecodeOfEncode : Prop :=
  (∀ (i : Instr) (w : Word), encode i = some w → i.wf = true → (∀ c f x, i ≠ .trap c ⟨f, some x⟩) →
     ∃ c, decodeGwyn c w = some i) ∧
  (∀ (c : Core) (w : Word), decodeGwyn c w = none → readGwyn c w = .trap c ⟨decReg w, some w⟩)

/-- Encoding gives back what was decoded: a word that decodes is the word of a well-formed instruction, so no two words
decode to one instruction and no bit of a word is dropped; every word that a core meets, reserved ones among them, is the
word of what it is read as. -/
def Obligations.EncodeOfDecode : Prop :=
  (∀ (c : Core) (w : Word) (i : Instr), decodeGwyn c w = some i → encode i = some w ∧ i.wf = true) ∧
  (∀ (c : Core) (w : Word), encode (readGwyn c w) = some w ∧ (readGwyn c w).wf = true)

/-- Words whose major opcode or function is reserved decode to nothing, whatever their other bits (R141, R143): the
all-zero and the all-ones word among them. Words from the manual's listings and from its encoding tables, one of each
format, decode to their instructions. -/
def Obligations.WordsDecode : Prop :=
  (∀ (c : Core) (w : Word),
     let major := (w.extractLsb' 26 6).toNat
     let fn := (w.extractLsb' 20 6).toNat
     let fn3 := (w.extractLsb' 23 3).toNat
     ((major = 0 ∨ major = 3 ∨ major = 0x0B ∨ (0x21 ≤ major ∧ major ≤ 0x27) ∨ (0x38 ≤ major ∧ major ≤ 0x3B) ∨ major = 0x3F) →
       decodeGwyn c w = none) ∧
     ((major = 1 ∧ (fn = 0 ∨ (0x0A ≤ fn ∧ fn ≤ 0x0F) ∨ (0x14 ≤ fn ∧ fn ≤ 0x17) ∨ 0x23 ≤ fn)) → decodeGwyn c w = none) ∧
     ((major = 2 ∧ (fn = 0 ∨ (5 ≤ fn ∧ fn ≤ 7) ∨ 0x0B ≤ fn)) → decodeGwyn c w = none) ∧
     ((major = 0x20 ∧ fn3 = 7) → decodeGwyn c w = none) ∧
     ((major = 0x3E ∧ 2 ≤ (w.extractLsb' 5 5).toNat) → decodeGwyn c w = none)) ∧
  (∀ c : Core,
     decodeGwyn c 0x05100000 = some (.or_ c ⟨0, 0, 0, 0⟩) ∧
     decodeGwyn c 0x04201486 = some (.sub c ⟨0, 5, 4, 6⟩) ∧
     decodeGwyn c 0x810180C0 = some (.muls c ⟨0, 96, 6, 0⟩) ∧
     decodeGwyn c 0x8001A100 = some (.macs c ⟨0, 104, 8, 0⟩) ∧
     decodeGwyn c 0x82000007 = some (.rda c ⟨0, 0, 0, 7⟩) ∧
     decodeGwyn c 0xA414014C = some (.svm c ⟨40, 0, 10, 12⟩) ∧
     decodeGwyn c 0x13FFFC41 = some (.addi c ⟨0xFFFF, 2, 1⟩) ∧
     decodeGwyn c 0x54004067 = some (.stW c ⟨16, 3, 7⟩) ∧
     decodeGwyn c 0x33FFF867 = some (.beq c ⟨0xFFFE, 3, 7⟩) ∧
     decodeGwyn c 0x4BFFFFFF = some (.jmp c ⟨0x3FFFFFF⟩) ∧
     decodeGwyn c 0x78011904 = some (.ldK c ⟨8, 200, 4⟩))

/-! ### GWYN: arithmetic, logic, MAC, flags (R125 to R138, R144 to R148, R157) -/

/-- Saturation (R132): a result that fits is written as it is, any other becomes the nearer end of the range and reports
saturation; accumulators alike at 64 bits.
The saturating instructions of R144, R145 and R147: the exact result is saturated into the destination, VSAT is raised
when saturation changed it, and the core goes on at the next instruction. -/
def Obligations.SaturatingArithmetic : Prop :=
  (∀ x : Int,
     (sat32 x).1.toInt = max (-2147483648) (min 2147483647 x) ∧
     ((sat32 x).2 = true ↔ x < -2147483648 ∨ 2147483647 < x) ∧
     (sat64 x).1.toInt = max (-9223372036854775808) (min 9223372036854775807 x) ∧
     ((sat64 x).2 = true ↔ x < -9223372036854775808 ∨ 9223372036854775807 < x)) ∧
  (∀ (c : Core) (f : RegF) (g : ImmF) (s : State),
     let d := s.dev
     let x := d.iv c f.rs1
     let y := d.iv c f.rs2
     let sat := fun (rd : BitVec 5) (z : Int) => (d.setV c rd (sat32 z).1).raiseFlags c (if (sat32 z).2 then fVSAT else 0)
     (f.sh = 0 → RunsTo s c (.add c f) (sat f.rd (x + y))) ∧
     (f.sh = 0 → RunsTo s c (.sub c f) (sat f.rd (x - y))) ∧
     (f.sh = 0 → f.rs2 = 0 → RunsTo s c (.neg c f) (sat f.rd (-x))) ∧
     (f.sh = 0 → f.rs2 = 0 → RunsTo s c (.abs_ c f) (sat f.rd (x.natAbs : Int))) ∧
     (f.sh = 0 → RunsTo s c (.sla c f) (sat f.rd (x * 2 ^ ((d.gv c f.rs2).toNat % 64)))) ∧
     (f.rs2 = 0 → RunsTo s c (.slai c f) (sat f.rd (x * 2 ^ f.sh.toNat))) ∧
     (f.sh = 0 → RunsTo s c (.mul c f) (sat f.rd (x * y))) ∧
     (f.sh = 0 → RunsTo s c (.mulq c f) (sat f.rd (x * y / 2 ^ 31))) ∧
     (f.sh = 0 → RunsTo s c (.mulqr c f) (sat f.rd ((x * y + 2 ^ 30) / 2 ^ 31))) ∧
     RunsTo s c (.addi c g) (sat g.rd (d.iv c g.rs1 + g.imm.toInt)))

/-- What writing a value register, an accumulator, flags and the pc of a core does and does not do (R125, R126, R136,
R138): the written register reads back and v0 stays 0; no other register, accumulator, core, register of register
space but the loop's flag register, and no byte of the Skein changes. -/
def Obligations.CoreWritesFrame : Prop :=
  ∀ (d : Dev) (c : Core) (r : BitVec 5) (w : Word) (a : Fin 4) (x : DWord) (m pc : Word),
    let v := ((d.setV c r w).raiseFlags c m).setPc c pc
    let y := ((d.setA c a x).raiseFlags c m).setPc c pc
    (∀ q, v.gv c q = if q = r ∧ r ≠ 0 then w else d.gv c q) ∧ (∀ k, v.ga c k = d.ga c k) ∧ v.pcOf c = pc ∧
    (∀ k, y.ga c k = if k = a.val then x else d.ga c k) ∧ (∀ q, y.gv c q = d.gv c q) ∧ y.pcOf c = pc ∧
    (∀ c' q k, c' ≠ c → v.gv c' q = d.gv c' q ∧ v.ga c' k = d.ga c' k ∧ v.pcOf c' = d.pcOf c' ∧
      y.gv c' q = d.gv c' q ∧ y.ga c' k = d.ga c' k ∧ y.pcOf c' = d.pcOf c') ∧
    d.sameMem v ∧ d.sameMem y ∧
    (∀ n, (∀ p, c = .spn p → n ≠ Reg.SPN_FLAGS p) → v.reg n = d.reg n ∧ y.reg n = d.reg n)

/-- Flags stick (R136, R137): on a Bobbin raised flags join the flags word, and clrf takes away the flags of its mask
alone; on a Spindle that does not speculate the committed word of the running loop does the same. rdfl reads the flags
word that the core sees and clrf clears the flags of its mask (R157). -/
def Obligations.FlagsStick : Prop :=
  (∀ (d : Dev) (m : Word),
     (∀ b : Fin 3, (d.raiseFlags (.bob b) m).readFlags (.bob b) = d.readFlags (.bob b) ||| m ∧
       (d.clearFlags (.bob b) m).readFlags (.bob b) = d.readFlags (.bob b) &&& ~~~m) ∧
     (∀ p : Fin 18, (d.spn p).spec = false → d.curLoop p < 4 → m &&& 0x7F = m →
       (d.raiseFlags (.spn p) m).loopFlags p (d.curLoop p) = d.loopFlags p (d.curLoop p) ||| m ∧
       (d.clearFlags (.spn p) m).loopFlags p (d.curLoop p) = d.loopFlags p (d.curLoop p) &&& ~~~m) ∧
     (∀ p : Fin 18, (d.spn p).spec = true →
       (d.raiseFlags (.spn p) m).reg (Reg.SPN_FLAGS p) = d.reg (Reg.SPN_FLAGS p) ∧
       (d.raiseFlags (.spn p) m).readFlags (.spn p) = d.readFlags (.spn p) ||| m)) ∧
  (∀ (c : Core) (rd : BitVec 5) (m : BitVec 16) (s : State),
     RunsTo s c (.rdfl c ⟨0, 0, rd⟩) (s.dev.setV c rd (s.dev.readFlags c)) ∧
     (m.toNat < 128 → RunsTo s c (.clrf c ⟨m, 1, 0⟩) (s.dev.clearFlags c (m.setWidth 32))))

/-- The exact and logical instructions of R144, R145 and R147: the destination takes the result, no flag is raised. -/
def Obligations.ExactAndLogical : Prop :=
  ∀ (c : Core) (f : RegF) (g : ImmF) (s : State),
    let d := s.dev
    let x := d.gv c f.rs1
    let y := d.gv c f.rs2
    let n := y.toNat % 64
    let u := d.gv c g.rs1
    let b := fun (p : Bool) => if p then (1 : Word) else 0
    (f.sh = 0 →
      RunsTo s c (.min_ c f) (d.setV c f.rd (if x.toInt ≤ y.toInt then x else y)) ∧
      RunsTo s c (.max_ c f) (d.setV c f.rd (if x.toInt ≤ y.toInt then y else x)) ∧
      RunsTo s c (.slt c f) (d.setV c f.rd (b (decide (x.toInt < y.toInt)))) ∧
      RunsTo s c (.sltu c f) (d.setV c f.rd (b (decide (x.toNat < y.toNat)))) ∧
      RunsTo s c (.seq c f) (d.setV c f.rd (b (decide (x = y)))) ∧
      RunsTo s c (.and_ c f) (d.setV c f.rd (x &&& y)) ∧
      RunsTo s c (.or_ c f) (d.setV c f.rd (x ||| y)) ∧
      RunsTo s c (.xor_ c f) (d.setV c f.rd (x ^^^ y)) ∧
      RunsTo s c (.andn c f) (d.setV c f.rd (x &&& ~~~y)) ∧
      RunsTo s c (.sll c f) (d.setV c f.rd (x <<< n)) ∧
      RunsTo s c (.srl c f) (d.setV c f.rd (x >>> n)) ∧
      RunsTo s c (.sra c f) (d.setV c f.rd (x.sshiftRight n)) ∧
      RunsTo s c (.mulh c f) (d.setV c f.rd (BitVec.ofInt 32 (x.toInt * y.toInt / 2 ^ 32)))) ∧
    (f.rs2 = 0 →
      RunsTo s c (.slli c f) (d.setV c f.rd (x <<< f.sh.toNat)) ∧
      RunsTo s c (.srli c f) (d.setV c f.rd (x >>> f.sh.toNat)) ∧
      RunsTo s c (.srai c f) (d.setV c f.rd (x.sshiftRight f.sh.toNat))) ∧
    RunsTo s c (.slti c g) (d.setV c g.rd (b (decide (u.toInt < g.imm.toInt)))) ∧
    RunsTo s c (.sltiu c g) (d.setV c g.rd (b (decide (u.toNat < (g.imm.signExtend 32).toNat)))) ∧
    RunsTo s c (.andi c g) (d.setV c g.rd (u &&& g.imm.setWidth 32)) ∧
    RunsTo s c (.ori c g) (d.setV c g.rd (u ||| g.imm.setWidth 32)) ∧
    RunsTo s c (.xori c g) (d.setV c g.rd (u ^^^ g.imm.setWidth 32)) ∧
    (g.rs1 = 0 → RunsTo s c (.lhi c g) (d.setV c g.rd (g.imm.setWidth 32 <<< 16)))

/-- Division (R145, R146): a divisor other than 0 gives the quotient rounded toward zero, saturated with VSAT, the
unsigned quotient, or the remainder with the sign of the dividend; a divisor of 0 sets DZ, leaves VSAT and delivers
the end of the range by the dividend's sign, all ones, or the dividend. -/
def Obligations.Division : Prop :=
  ∀ (c : Core) (f : RegF) (s : State), f.sh = 0 →
    let d := s.dev
    let x := d.gv c f.rs1
    let y := d.gv c f.rs2
    let q := sat32 (x.toInt.tdiv y.toInt)
    (y ≠ 0 →
      RunsTo s c (.div c f) ((d.setV c f.rd q.1).raiseFlags c (if q.2 then fVSAT else 0)) ∧
      RunsTo s c (.divu c f) (d.setV c f.rd (BitVec.ofNat 32 (x.toNat / y.toNat))) ∧
      RunsTo s c (.rem c f) (d.setV c f.rd (BitVec.ofInt 32 (x.toInt.tmod y.toInt)))) ∧
    (y = 0 →
      RunsTo s c (.div c f)
        ((d.setV c f.rd (if 0 ≤ x.toInt then 0x7FFFFFFF else 0x80000000)).raiseFlags c fDZ) ∧
      RunsTo s c (.divu c f) ((d.setV c f.rd 0xFFFFFFFF).raiseFlags c fDZ) ∧
      RunsTo s c (.rem c f) ((d.setV c f.rd x).raiseFlags c fDZ))

/-- The MAC group (R148): products exact, the shift of R134 with rounding where RND is set, one saturation at the end with
ASAT (rda: VSAT); muls raises no flag; the coefficient entry must be plain (R128), else KIND and no other effect. -/
def Obligations.MacGroup : Prop :=
  ∀ (c : Core) (ad : BitVec 2) (n : BitVec 8) (r : BitVec 1) (sh : BitVec 6) (rs1 rs2 : BitVec 5) (s : State),
    let d := s.dev
    let a := d.ia c ad.toNat
    let v := d.iv c rs1
    let k := d.kOf c n.toNat
    let half := fun (t : Nat) => if r = 1 ∧ 1 ≤ t then (2 : Int) ^ (t - 1) else 0
    let shr := fun (z : Int) (t : Nat) => (z + half t) / 2 ^ t
    let kn : MacF := ⟨ad, n ++ r ++ 0#2, rs1, 0⟩
    let sn : MacF := ⟨ad, sh ++ r ++ 0#4, rs1, rs2⟩
    let acc := fun (z : Int) => (d.setA c ad.toNat (sat64 z).1).raiseFlags c (if (sat64 z).2 then fASAT else 0)
    (d.kinds c [(n.toNat, kPlain)] = true →
      RunsTo s c (.macs c kn) (acc (a + shr (v * kValue k) (kShift k))) ∧
      RunsTo s c (.msus c kn) (acc (a - shr (v * kValue k) (kShift k))) ∧
      RunsTo s c (.muls c kn) (d.setA c ad.toNat (BitVec.ofInt 64 (shr (v * kValue k) (kShift k))))) ∧
    (d.kinds c [(n.toNat, kPlain)] = false →
      Traps s c (.macs c kn) 5 none ∧ Traps s c (.msus c kn) 5 none ∧ Traps s c (.muls c kn) 5 none) ∧
    RunsTo s c (.macv c sn) (acc (a + shr (v * d.iv c rs2) sh.toNat)) ∧
    RunsTo s c (.rda c { sn with rs1 := 0 })
      ((d.setV c rs2 (sat32 (shr a sh.toNat)).1).raiseFlags c (if (sat32 (shr a sh.toNat)).2 then fVSAT else 0)) ∧
    RunsTo s c (.wra c ⟨ad, sh ++ 0#5, rs1, 0⟩) (acc (v * 2 ^ sh.toNat)) ∧
    (∀ as_ : BitVec 2, RunsTo s c (.adda c ⟨ad, as_ ++ 0#9, 0, 0⟩) (acc (a + d.ia c as_.toNat)))

/-! ### GWYN: control flow (R149 to R151) -/

/-- Branches and jumps (R149): a branch goes to address + 4 + 4 off when its condition holds and to address + 4 otherwise;
jsub and jsubr leave address + 4 in their link register; a target where the core may not execute traps IFETCH at the
transfer, and then no register is written (R150, R151). -/
def Obligations.BranchesAndJumps : Prop :=
  ∀ (c : Core) (f : BranchF) (j : JumpF) (r : RegF) (s : State),
    let d := s.dev
    let pc := ((d.pcOf c).toNat : Int)
    let x := d.gv c f.rs1
    let y := d.gv c f.rs2
    let goes := fun (i : Instr) (e : Dev) (t : Int) =>
      d.executes c i →
        (d.mayExec c t = true → exec i s = .next (s.withDev (e.setPc c (BitVec.ofInt 32 t)))) ∧
        (d.mayExec c t = false → exec i s = .next (s.withDev (d.takeTrap c ((encode i).getD 0) 1 none)))
    let br := fun (i : Instr) (p : Bool) => goes i d (pc + 4 + 4 * (if p then f.off.toInt else 0))
    br (.beq c f) (decide (x = y)) ∧ br (.bne c f) (decide (x ≠ y)) ∧
    br (.blt c f) (decide (x.toInt < y.toInt)) ∧ br (.bge c f) (decide (y.toInt ≤ x.toInt)) ∧
    br (.bltu c f) (decide (x.toNat < y.toNat)) ∧ br (.bgeu c f) (decide (y.toNat ≤ x.toNat)) ∧
    goes (.jmp c j) d (pc + 4 + 4 * j.off.toInt) ∧
    goes (.jsub c j) (d.setV c 1 (d.pcOf c + 4)) (pc + 4 + 4 * j.off.toInt) ∧
    (r.sh = 0 → r.rs2 = 0 → r.rd = 0 → goes (.jmpr c r) d ((d.gv c r.rs1).toNat : Int)) ∧
    (r.sh = 0 → r.rs2 = 0 → goes (.jsubr c r) (d.setV c r.rd (d.pcOf c + 4)) ((d.gv c r.rs1).toNat : Int))

/-- What the encoding forbids is taken before anything else the instruction would do (R124, R141, R160): a reserved
word and a field that must be 0 and is not trap ILL, an instruction of the other profile traps PROF, and nothing else
happens; only a jump to where the core may not execute comes before them, with IFETCH. An access that cannot be made
traps before it does anything (R152 to R154, R160, R172): an unaligned address with ALIGN, then an address outside the
requester's reach with ADDR, then on a Bobbin protection with PROT; the address never wraps. -/
def Obligations.IllegalFieldsAndAccessesTrap : Prop :=
  (∀ (c : Core) (f : RegF) (g : ImmF) (k : CtlF) (s : State),
     (∀ w, decodeGwyn c w = none → Traps s c (readGwyn c w) 2 none) ∧
     (f.sh ≠ 0 → Traps s c (.add c f) 2 none ∧ Traps s c (.mul c f) 2 none ∧ Traps s c (.eret c f) 2 none ∧
       (s.dev.mayExec c ((s.dev.gv c f.rs1).toNat : Int) = true → Traps s c (.jmpr c f) 2 none) ∧
       (s.dev.mayExec c ((s.dev.gv c f.rs1).toNat : Int) = false → Traps s c (.jmpr c f) 1 none)) ∧
     (f.rs2 ≠ 0 → Traps s c (.slli c f) 2 none ∧ Traps s c (.neg c f) 2 none ∧ Traps s c (.fence c f) 2 none) ∧
     (g.rs1 ≠ 0 → Traps s c (.lhi c g) 2 none) ∧
     (k.rd.toNat % 2 = 1 ∨ k.rd = 0 → Traps s c (.clarke c k) 2 none ∧ Traps s c (.park c k) 2 none ∧
       Traps s c (.svm c k) 2 none) ∧
     (∀ p, c = .spn p → Traps s c (.ldB c g) 3 none ∧ Traps s c (.ldHu c g) 3 none ∧
       Traps s c (.wfi c ⟨0, 0, 0, 0⟩) 3 none ∧ Traps s c (.trap c ⟨⟨0, 0, 0, 0⟩, none⟩) 3 none) ∧
     (∀ b, c = .bob b → k.k = 0 → k.rs1 = 0 → k.rs2 = 0 → k.rd = 0 →
       Traps s c (.rahead c k) 3 none ∧ Traps s c (.commit c k) 3 none ∧ Traps s c (.halt c k) 3 none ∧
       Traps s c (.lds c k) 3 none ∧ Traps s c (.waits c k) 3 none)) ∧
  (∀ (c : Core) (f : ImmF) (g : StoreF) (s : State),
     let d := s.dev
     let x := d.eaImm c f.rs1 f.imm
     let y := d.eaImm c g.rs1 g.imm
     (x % 4 ≠ 0 → Traps s c (.ldW c f) 6 (some (BitVec.ofInt 32 x))) ∧
     (x % 8 ≠ 0 → f.rd.toNat < 4 → Traps s c (.ldA c f) 6 (some (BitVec.ofInt 32 x))) ∧
     (y % 4 ≠ 0 → Traps s c (.stW c g) 6 (some (BitVec.ofInt 32 y))) ∧
     (x % 4 = 0 → x < 0 → Traps s c (.ldW c f) 7 (some (BitVec.ofInt 32 x))) ∧
     (∀ p, c = .spn p → x % 4 = 0 → 0x1000000 ≤ x → Traps s c (.ldW c f) 7 (some (BitVec.ofInt 32 x))) ∧
     (∀ p, c = .spn p → y % 4 = 0 → 0x1000000 ≤ y → Traps s c (.stW c g) 7 (some (BitVec.ofInt 32 y))) ∧
     (∀ b, c = .bob b → y % 4 = 0 → 0 ≤ y → y + 4 ≤ 0x1000000 → d.mpuOk b y.toNat .write = false →
       Traps s c (.stW c g) 8 (some (BitVec.ofInt 32 y))))

/-! ### GWYN: loads and stores (R131, R152 to R156, R159, R194) -/

/-- Loads from the Skein (R11, R152): the effective address is the register plus the sign-extended immediate; an
aligned load gives the little-endian word or doubleword there, or the byte or halfword extended by its sign or by
zeros; ld.k loads one coefficient entry verbatim. Nothing else changes. Coefficient entries of a Bobbin (R130, R131):
ld.k takes the doubleword at the effective address into its own file verbatim, st.k stores an entry of the file there.
That st.k makes no ZERO and KIND checks is the model's choice (notes/assumptions/79.md). -/
def Obligations.LoadsAndCoefficientEntries : Prop :=
  (∀ (c : Core) (f : ImmF) (a : Nat) (s : State),
     let d := s.dev
     d.eaImm c f.rs1 f.imm = (a : Int) → a + 8 ≤ 0x1000000 →
     (a % 4 = 0 → d.readsPlain c a → d.executes c (.ldW c f) →
       Gives (.ldW c f) s fun e => d.getsV e c f.rd (d.word a)) ∧
     (a % 8 = 0 → f.rd.toNat < 4 → d.readsPlain c a → d.readsPlain c (a + 4) → d.executes c (.ldA c f) →
       Gives (.ldA c f) s fun e => d.getsA e c f.rd.toNat (d.word (a + 4) ++ d.word a)) ∧
     (∀ b, c = .bob b → d.readsPlain c (a / 4 * 4) → d.mpuOk b a .read = true →
       (d.executes c (.ldB c f) → Gives (.ldB c f) s fun e => d.getsV e c f.rd ((d.byte a).signExtend 32)) ∧
       (d.executes c (.ldBu c f) → Gives (.ldBu c f) s fun e => d.getsV e c f.rd ((d.byte a).setWidth 32)) ∧
       (a % 2 = 0 → d.executes c (.ldH c f) →
         Gives (.ldH c f) s fun e => d.getsV e c f.rd ((d.byte (a + 1) ++ d.byte a : BitVec 16).signExtend 32)) ∧
       (a % 2 = 0 → d.executes c (.ldHu c f) →
         Gives (.ldHu c f) s fun e => d.getsV e c f.rd ((d.byte (a + 1) ++ d.byte a : BitVec 16).setWidth 32)))) ∧
  (∀ (b : Fin 3) (f : KmemF) (a : Nat) (s : State),
     let d := s.dev
     let c : Core := .bob b
     d.eaK c f = (a : Int) → a + 8 ≤ 0x1000000 → a % 8 = 0 → f.imm.toNat % 8 = 0 →
     (d.readsPlain c a → d.readsPlain c (a + 4) → d.executes c (.ldK c f) →
       Gives (.ldK c f) s fun e =>
         (∀ n, e.kOf c n = if n = f.k.toNat then d.word (a + 4) ++ d.word a else d.kOf c n) ∧
         (∀ q, e.gv c q = d.gv c q) ∧ (∀ k, e.ga c k = d.ga c k) ∧ e.pcOf c = d.pcOf c + 4 ∧ d.sameMem e ∧ d.sameRegs e []) ∧
     (d.storesPlain c a 8 → d.executes c (.stK c f) →
       Gives (.stK c f) s fun e => d.stored e c a ((List.range 8).map fun i => (d.kOf c f.k.toNat).extractLsb' (8 * i) 8)))

/-- Stores into the Skein (R11, R42, R152): exactly the bytes at the effective address take the register's low byte,
halfword or word or the accumulator, in little-endian order; no other byte and no register changes. A merge with an
uncorrectable word writes nothing, which is the model's choice (notes/assumptions/61.md). -/
def Obligations.Stores : Prop :=
  ∀ (c : Core) (f : StoreF) (a : Nat) (s : State),
    let d := s.dev
    let w := d.gv c f.rs2
    d.eaImm c f.rs1 f.imm = (a : Int) → a + 8 ≤ 0x1000000 →
    (a % 4 = 0 → d.storesPlain c a 4 → d.executes c (.stW c f) →
      Gives (.stW c f) s fun e => d.stored e c a [w.extractLsb' 0 8, w.extractLsb' 8 8, w.extractLsb' 16 8, w.extractLsb' 24 8]) ∧
    (a % 8 = 0 → f.rs2.toNat < 4 → d.storesPlain c a 8 → d.executes c (.stA c f) →
      Gives (.stA c f) s fun e => d.stored e c a ((List.range 8).map fun i => (d.ga c f.rs2.toNat).extractLsb' (8 * i) 8)) ∧
    (∀ b, c = .bob b → d.storesPlain c a 1 → d.ecc a = .good → d.executes c (.stB c f) →
      Gives (.stB c f) s fun e => d.stored e c a [w.extractLsb' 0 8]) ∧
    (∀ b, c = .bob b → a % 2 = 0 → d.storesPlain c a 2 → d.ecc a = .good → d.executes c (.stH c f) →
      Gives (.stH c f) s fun e => d.stored e c a [w.extractLsb' 0 8, w.extractLsb' 8 8])

/-- A store in run-ahead is queued and reaches neither the Skein nor a register; the 65th is SQFULL (R194).
fence goes on when every draw of the core has ended, and in run-ahead at once; otherwise the core stands at it (R152). -/
def Obligations.QueuedStoresAndFence : Prop :=
  (∀ (p : Fin 18) (f : StoreF) (a : Nat) (s : State),
     let d := s.dev
     let c : Core := .spn p
     d.eaImm c f.rs1 f.imm = (a : Int) → a % 4 = 0 → a < 0x1000000 → (d.spn p).ra = true →
     ((d.spn p).queue.length < 64 → d.executes c (.stW c f) →
       Gives (.stW c f) s fun e =>
         (e.spn p).queue = (d.spn p).queue ++ [.word a (d.gv c f.rs2) (d.pcOf c)] ∧ e.pcOf c = d.pcOf c + 4 ∧
         (∀ q, e.gv c q = d.gv c q) ∧ d.sameMem e ∧ d.sameRegs e []) ∧
     (64 ≤ (d.spn p).queue.length → Traps s c (.stW c f) 0x17 (some (BitVec.ofNat 32 a)))) ∧
  (∀ (c : Core) (s : State),
     let i : Instr := .fence c ⟨0, 0, 0, 0⟩
     ((∀ b < 16, ∀ x ∈ s.dev.drawsOf b, x.req ≠ coreReq c) → RunsTo s c i s.dev) ∧
     (s.dev.inRa c = true → RunsTo s c i s.dev) ∧
     (s.dev.inRa c = false → (∃ b < 16, ∃ x ∈ s.dev.drawsOf b, x.req = coreReq c) →
       s.dev.executes c i → exec i s = .next s))

/-! ### GWYN: traps, system instructions, interrupts (R160 to R174) -/

/-- Trap entry of a Bobbin (R167, R168): epc, cause and tval take the pc, the cause and the address; SUP and IE are
saved and become 1 and 0, TRP is set and the pc goes to tvec; inside a handler the core stops instead, BOB_DTRAP is
raised and no control register changes. The trap of a Spindle outside run-ahead (R161, R240): the entry point stops,
the loop's TRAPPED bit is set, SPN_TRAP is raised, and the record takes cause, loop, pc and address unless an earlier
trap still stands in it, when MORE is set. The tval of a trap with neither an address nor a word is free
(notes/assumptions/3.md). -/
def Obligations.TrapEntry : Prop :=
  (∀ (b : Fin 3) (cause : Fin 256) (ea w : Word) (d : Dev),
     let e := d.takeTrap (.bob b) w cause (some ea)
     (cause.val ≠ 2 → cause.val ≠ 3 → cause.val ≠ 4 → cause.val ≠ 13 → bitOf (d.csr b 0) 5 = false →
       e.csr b 1 = (d.bob b).pc ∧ e.csr b 2 = BitVec.ofNat 32 cause ∧ e.csr b 3 = ea ∧
       bitOf (e.csr b 0) 0 = true ∧ bitOf (e.csr b 0) 1 = false ∧ bitOf (e.csr b 0) 5 = true ∧
       bitOf (e.csr b 0) 2 = bitOf (d.csr b 0) 0 ∧ bitOf (e.csr b 0) 3 = bitOf (d.csr b 0) 1 ∧
       bitOf (e.csr b 0) 4 = bitOf (d.csr b 0) 4 ∧ (e.bob b).pc = d.csr b 4 &&& 0xFFFFFF00 ∧
       (∀ n, 4 ≤ n → e.csr b n = d.csr b n)) ∧
     (bitOf (d.csr b 0) 5 = true →
       (e.bob b).running = false ∧ srcInst Src.BOB_DTRAP b ∈ e.reports ∧ ∀ n, e.csr b n = d.csr b n) ∧
     d.sameMem e ∧ d.sameRegs e []) ∧
  (∀ (p : Fin 18) (l : Fin 4) (cause : Fin 256) (ea w : Word) (d : Dev),
     let e := d.takeTrap (.spn p) w cause (some ea)
     (d.spn p).ra = false → (d.spn p).slot = some l.val →
     (e.spn p).entry = none ∧ e.rbit (Reg.SPN_LSTAT p l) 6 = true ∧ srcInst Src.SPN_TRAP (d.loopInst p l) ∈ e.reports ∧
     (d.rbit (Reg.SPN_TRAPC p) 31 = false →
       e.fld (Reg.SPN_TRAPC p) 7 0 = cause ∧ e.fld (Reg.SPN_TRAPC p) 9 8 = l ∧ e.rbit (Reg.SPN_TRAPC p) 10 = false ∧
       e.rbit (Reg.SPN_TRAPC p) 31 = true ∧ e.reg (Reg.SPN_TRAPPC p) = (d.spn p).pc ∧ e.reg (Reg.SPN_TRAPEA p) = ea) ∧
     (d.rbit (Reg.SPN_TRAPC p) 31 = true →
       e.rbit (Reg.SPN_TRAPC p) 30 = true ∧ e.reg (Reg.SPN_TRAPPC p) = d.reg (Reg.SPN_TRAPPC p) ∧
       e.reg (Reg.SPN_TRAPEA p) = d.reg (Reg.SPN_TRAPEA p)) ∧
     d.sameMem e ∧
     d.sameRegs e [Reg.SPN_LSTAT p l, Reg.SPN_TRAPC p, Reg.SPN_TRAPPC p, Reg.SPN_TRAPEA p])

/-- The system instructions of a Bobbin (R164 to R167, R170, R174): in supervisor mode mfc, mtc, setc and clrc read
and write the control register, eret restores SUP and IE from their saved bits, leaves the handler and returns to epc,
and wfi goes on when an enabled line is pending and else stands; in user mode each of them traps PRIV; trap raises
TRAPI with its code in both modes. The control registers' reserved bits are the model's reading
(notes/assumptions/22.md). -/
def Obligations.SystemInstructions : Prop :=
  ∀ (b : Fin 3) (n : BitVec 8) (r : BitVec 5) (z : RegF) (s : State),
    let d := s.dev
    let c : Core := .bob b
    let st := d.csr b 0
    let v := d.creg b n.toNat
    let x := d.gv c r
    let none_ : RegF := ⟨0, 0, 0, 0⟩
    let mf : ImmF := ⟨0#8 ++ n, 0, r⟩
    let wr := fun (op : BitVec 2) => (⟨op ++ 0#6 ++ n, r, 0⟩ : ImmF)
    (bitOf st 0 = true → cregOk n.toNat = true →
      RunsTo s c (.mfc c mf) (d.setV c r v) ∧
      (cregRo n.toNat = false →
        RunsTo s c (.mtc c (wr 1)) (d.writeCreg b n.toNat x) ∧
        RunsTo s c (.setc c (wr 2)) (d.writeCreg b n.toNat (v ||| x)) ∧
        RunsTo s c (.clrc c (wr 3)) (d.writeCreg b n.toNat (v &&& ~~~x))) ∧
      (cregRo n.toNat = true → Traps s c (.mtc c (wr 1)) 2 none)) ∧
    (cregOk n.toNat = false → Traps s c (.mfc c mf) 2 none ∧ Traps s c (.mtc c (wr 1)) 2 none) ∧
    (bitOf st 0 = true → d.executes c (.eret c none_) →
      Gives (.eret c none_) s fun e =>
        e.pcOf c = d.csr b 1 ∧ bitOf (e.csr b 0) 0 = bitOf st 2 ∧ bitOf (e.csr b 0) 1 = bitOf st 3 ∧
        bitOf (e.csr b 0) 5 = false ∧ bitOf (e.csr b 0) 4 = bitOf st 4 ∧ (∀ k, k ≠ 0 → e.csr b k = d.csr b k) ∧
        (∀ q, e.gv c q = d.gv c q) ∧ d.sameMem e ∧ d.sameRegs e []) ∧
    (bitOf st 0 = true → (d.irqLine b).isSome = true → RunsTo s c (.wfi c none_) d) ∧
    (bitOf st 0 = true → d.irqLine b = none → d.executes c (.wfi c none_) →
      exec (.wfi c none_) s = .next (s.withDev (d.modBob b fun y => { y with wfi := true }))) ∧
    (bitOf st 0 = false →
      Traps s c (.eret c none_) 4 none ∧ Traps s c (.wfi c none_) 4 none ∧
      (cregOk n.toNat = true → Traps s c (.mfc c mf) 4 none) ∧
      (cregOk n.toNat = true → cregRo n.toNat = false → Traps s c (.mtc c (wr 1)) 4 none)) ∧
    (z.rs2.toNat % 4 = 0 → z.rs1 = 0 → z.rd = 0 → bitOf st 5 = false → d.executes c (.trap c ⟨z, none⟩) →
      Gives (.trap c ⟨z, none⟩) s fun e =>
        e.csr b 1 = d.pcOf c ∧ e.csr b 2 = BitVec.ofNat 32 ((z.sh.toNat * 8 + z.rs2.toNat / 4) * 256 + 0xD) ∧
        bitOf (e.csr b 0) 0 = true ∧ bitOf (e.csr b 0) 2 = bitOf st 0 ∧ e.pcOf c = d.csr b 4 &&& 0xFFFFFF00 ∧
        (∀ q, e.gv c q = d.gv c q) ∧ d.sameMem e ∧ d.sameRegs e [])

/-- Interrupts and waits of a Bobbin (R155, R169 to R171): with IE set the lowest pending enabled line is taken, with
cause 0x8000_0000 plus its number; a wfi ends when a line is pending; the timer line rises when cycle meets tcmp; a
posted store that was refused traps with its cause, the IMP bit and its address. The tval of an interrupt is free
(notes/assumptions/3.md); the instruction boundary at which a refused store traps and its double trap are the model's
readings (26.md, 84.md). -/
def Obligations.BobbinEvents : Prop :=
  ∀ (b : Fin 3) (n : Nat) (s : State),
    let d := s.dev
    let c : Core := .bob b
    (d.free c = true → (d.bob b).refused = [] → bitOf (d.csr b 0) 1 = true → d.irqLine b = some n →
      Gives (.interruptEntry b) s fun e =>
        e.csr b 1 = (d.bob b).pc ∧ e.csr b 2 = BitVec.ofNat 32 (0x80000000 + n) ∧
        (e.bob b).pc = d.csr b 4 &&& 0xFFFFFF00 ∧ bitOf (e.csr b 0) 0 = true ∧ bitOf (e.csr b 0) 1 = false ∧
        bitOf (e.csr b 0) 3 = true ∧ bitOf (e.csr b 0) 5 = true ∧ (∀ q, e.gv c q = d.gv c q) ∧ d.sameMem e ∧
        d.sameRegs e []) ∧
    (bitOf (d.csr b 0) 1 = false → exec (.interruptEntry b) s = .next s) ∧
    (d.clocked = true → (d.bob b).running = true → (d.bob b).wfi = true → d.irqLine b = some n →
      Gives (.wfiResume b) s fun e => (e.bob b).wfi = false ∧ (e.bob b).pc = (d.bob b).pc + 4 ∧
        (∀ q, e.gv c q = d.gv c q) ∧ d.sameMem e ∧ d.sameRegs e []) ∧
    (d.irqLine b = none → exec (.wfiResume b) s = .next s) ∧
    (d.clocked = true → (d.bob b).cycle % 2 ^ 32 = (d.csr b 7).toNat →
      exec (.coreTimerMatch b) s = .next (s.withDev (d.modBob b fun x => { x with timer := true }))) ∧
    (∀ r rest, (d.bob b).refused = r :: rest → d.free c = true → bitOf (d.csr b 0) 5 = false →
      Gives (.postedStoreRefusal c) s fun e =>
        e.csr b 1 = (d.bob b).pc ∧ e.csr b 2 = 0x40000000 ||| BitVec.ofNat 32 r.cause ∧ e.csr b 3 = r.ea ∧
        (e.bob b).refused = rest ∧ (e.bob b).pc = d.csr b 4 &&& 0xFFFFFF00 ∧ d.sameMem e ∧ d.sameRegs e [])

/-! ### GWYN: control instructions (R176 to R188) -/

/-- The transforms and space-vector modulation (R180, R181): the pair or quad takes the saturated results, VSAT is raised
when either saturated, and svm raises DLIM when its vector was limited; groups that break R177 trap ILL, and svm's entry
must be a limit (R179). -/
def Obligations.Transforms : Prop :=
  ∀ (c : Core) (f : CtlF) (s : State),
    let d := s.dev
    let r1 := f.rd + 1
    let x := d.iv c f.rs1
    let y := d.iv c (f.rs1 + 1)
    let th := (d.gv c f.rs2).toNat
    let put2 := fun (p q : Int) =>
      ((d.setV c f.rd (sat32 p).1).setV c r1 (sat32 q).1).raiseFlags c (if (sat32 p).2 || (sat32 q).2 then fVSAT else 0)
    let shr := fun (z : Int) => (z + 2 ^ 30) / 2 ^ 31
    (f.k = 0 → pairOk f.rd = true →
      (meets f.rd 2 f.rs1 1 = false → meets f.rd 2 f.rs2 1 = false →
        RunsTo s c (.clarke c f) (put2 x (shr ((x + 2 * d.iv c f.rs2) * 1239850262)))) ∧
      (pairOk f.rs2 = true → meets f.rd 2 f.rs1 1 = false → meets f.rd 2 f.rs2 2 = false →
        RunsTo s c (.clarke3 c f)
          (put2 (shr ((2 * x - d.iv c f.rs2 - d.iv c (f.rs2 + 1)) * 715827883))
            (shr ((d.iv c f.rs2 - d.iv c (f.rs2 + 1)) * 1239850262)))) ∧
      (pairOk f.rs1 = true → meets f.rd 2 f.rs1 2 = false → meets f.rd 2 f.rs2 1 = false →
        RunsTo s c (.park c f)
          (put2 (shr (x * gcos th + y * gsin th)) (shr (y * gcos th - x * gsin th))) ∧
        RunsTo s c (.ipark c f)
          (put2 (shr (x * gcos th - y * gsin th)) (shr (x * gsin th + y * gcos th))))) ∧
    (f.rs2 = 0 → quadOk f.rd = true → pairOk f.rs1 = true → meets f.rd 4 f.rs1 2 = false →
      (d.kinds c [(f.k.toNat, kLimit)] = true →
        let o := svmF x y (d.kv c f.k.toNat)
        RunsTo s c (.svm c f)
          (((((d.setV c f.rd o.tu).setV c r1 o.tv).setV c (f.rd + 2) o.tw).setV c (f.rd + 3) o.sector).raiseFlags c
            ((if o.dlim then fDLIM else 0) ||| (if o.vsat then fVSAT else 0)))) ∧
      (d.kinds c [(f.k.toNat, kLimit)] = false → Traps s c (.svm c f) 5 none))

/-- Comparators and the switching table (R182, R183): the destination takes the comparator's next state or the entry that
the sector, torque and flux states select; a pointer whose entry falls outside k0 to k255 traps KIND (R179). -/
def Obligations.ComparatorsAndTable : Prop :=
  ∀ (c : Core) (f : CtlF) (s : State),
    let d := s.dev
    let st := d.iv c f.rd
    let e := d.iv c f.rs1
    let h := max (d.kv c f.k.toNat) 0
    let idx := d.kv c f.k.toNat + swtabIndex (d.iv c f.rs1) (d.iv c f.rs2) (d.iv c (f.rs2 + 1))
    (f.rs2 = 0 → d.kinds c [(f.k.toNat, kLimit)] = true →
      RunsTo s c (.band2 c f)
        (d.setV c f.rd (if h < e then 1 else if e < -h then 0 else if st = 1 then 1 else 0)) ∧
      RunsTo s c (.band3 c f)
        (d.setV c f.rd (if h < e then 1 else if e < -h then 0xFFFFFFFF
          else if st = 1 ∧ 0 ≤ e then 1 else if st = -1 ∧ e ≤ 0 then 0xFFFFFFFF else 0))) ∧
    (f.rs2 = 0 → d.kinds c [(f.k.toNat, kLimit)] = false →
      Traps s c (.band2 c f) 5 none ∧ Traps s c (.band3 c f) 5 none) ∧
    (pairOk f.rs2 = true → d.kinds c [(f.k.toNat, kPtr)] = true →
      (0 ≤ idx → idx ≤ 255 → d.kinds c [(idx.toNat, kPlain)] = true →
        RunsTo s c (.swtab c f) (d.setV c f.rd (BitVec.ofInt 32 (d.kv c idx.toNat)))) ∧
      (idx < 0 ∨ 255 < idx → Traps s c (.swtab c f) 5 none))

/-- Filters and the curve (R184 to R186): a biquad reads five plain entries and updates its output and both states,
the integrator holds between its limit entries, the curve reads the 32 plain entries its pointer names; each raises
the flags of the saturations it met. The observer helpers (R187, R188): obs.emf steps the four observer states and
gives the residual, obs.pll turns the angle on and gives the speed and the integrator; each reads plain entries and
raises the flags of its saturations. That the intermediate eps of obs.pll raises VSAT is the model's choice
(notes/assumptions/80.md). -/
def Obligations.FiltersCurveObservers : Prop :=
  (∀ (c : Core) (f : CtlF) (s : State),
     let d := s.dev
     let n := f.k.toNat
     let a := f.rs2.toNat
     let x := d.iv c f.rs1
     let k := fun i => d.kOf c (n + i)
     let plain := fun (m i : Nat) => (List.range i).map fun j => (m + j, kPlain)
     ((a = 0 ∨ a = 2) → d.kinds c (plain n 5) = true →
       let y := sat32 ((d.ia c a + pgK (k 0) x + 2 ^ 15) / 2 ^ 16)
       let s1 := sat64 (d.ia c (a + 1) + pgK (k 1) x - pgK (k 3) y.1.toInt)
       let s2 := sat64 (pgK (k 2) x - pgK (k 4) y.1.toInt)
       RunsTo s c (.biq c f)
         ((((d.setV c f.rd y.1).setA c a s1.1).setA c (a + 1) s2.1).raiseFlags c
           ((if y.2 then fVSAT else 0) ||| (if s1.2 || s2.2 then fASAT else 0)))) ∧
     (a < 4 → d.kinds c [(n, kPlain), (n + 1, kLimit), (n + 2, kLimit)] = true →
       let z := d.ia c a + pgK (k 0) x
       let lo := kValue (k 1) * 2 ^ 16
       let hi := kValue (k 2) * 2 ^ 16
       let r := if hi < lo then hi else if hi < z then hi else if z < lo then lo else z
       RunsTo s c (.integ c f)
         (((d.setV c f.rd (BitVec.ofInt 32 ((r + 2 ^ 15) / 2 ^ 16))).setA c a (BitVec.ofInt 64 r)).raiseFlags c
           ((if lo ≤ hi ∧ (hi < z ∨ z < lo) then fISAT else 0) ||| (if hi < lo then fILIM else 0)))) ∧
     (f.rs2 = 0 → d.kinds c [(n, kPtr)] = true → 0 ≤ d.kv c n → d.kv c n ≤ 224 →
       d.kinds c (plain (d.kv c n).toNat 32) = true →
       let b := (d.kv c n).toNat
       let y := lutF x ((List.range 16).map fun j => d.kv c (b + j)) ((List.range 16).map fun j => d.kv c (b + 16 + j))
       RunsTo s c (.lut c f) ((d.setV c f.rd y.1).raiseFlags c (if y.2 then fVSAT else 0))) ∧
     (f.rs2 = 0 → d.kinds c [(n, kPtr)] = true → d.kv c n < 0 → Traps s c (.lut c f) 5 none)) ∧
  (∀ (c : Core) (f : CtlF) (s : State),
     let d := s.dev
     let n := f.k.toNat
     let k := fun i => d.kOf c (n + i)
     let r := fun (i : BitVec 5) => d.iv c (f.rd + i)
     let m := fun (i : BitVec 5) => d.iv c (f.rs1 + i)
     (quadOk f.rd = true → quadOk f.rs1 = true → meets f.rd 4 f.rs1 4 = false → meets f.rd 4 f.rs2 1 = false →
       meets f.rs1 4 f.rs2 1 = false → d.kinds c [(n, kPlain), (n + 1, kPlain), (n + 2, kPlain), (n + 3, kPlain)] = true →
       let ra := m 0 - r 0
       let rb := m 1 - r 1
       let x1 := sat32 (pK (k 0) (r 0) + pK (k 1) (m 2 - r 2) + pK (k 2) ra)
       let x2 := sat32 (pK (k 0) (r 1) + pK (k 1) (m 3 - r 3) + pK (k 2) rb)
       let x3 := sat32 (r 2 - pK (k 3) ra)
       let x4 := sat32 (r 3 - pK (k 3) rb)
       let x5 := sat32 (max (Int.natAbs ra : Int) (Int.natAbs rb))
       RunsTo s c (.obsEmf c f)
         ((((((d.setV c f.rd x1.1).setV c (f.rd + 1) x2.1).setV c (f.rd + 2) x3.1).setV c (f.rd + 3) x4.1).setV c f.rs2
           x5.1).raiseFlags c (if x1.2 || x2.2 || x3.2 || x4.2 || x5.2 then fVSAT else 0))) ∧
     (f.rs2.toNat < 4 → pairOk f.rd = true → pairOk f.rs1 = true → meets f.rd 2 f.rs1 2 = false →
       d.kinds c [(n, kPlain), (n + 1, kPlain), (n + 2, kPlain)] = true →
       let th := (d.gv c f.rd).toNat
       let ep := sat32 ((-(m 0) * gcos th - m 1 * gsin th + 2 ^ 30) / 2 ^ 31)
       let ad := sat64 (d.ia c f.rs2.toNat + pgK (k 1) ep.1.toInt)
       let om := sat32 ((ad.1.toInt + 2 ^ 15) / 2 ^ 16 + pK (k 0) ep.1.toInt)
       RunsTo s c (.obsPll c f)
         ((((d.setV c f.rd (BitVec.ofInt 32 ((th : Int) + pK (k 2) om.1.toInt))).setV c (f.rd + 1) om.1).setA c f.rs2.toNat
           ad.1).raiseFlags c ((if ep.2 || om.2 then fVSAT else 0) ||| (if ad.2 then fASAT else 0)))))

/-! ### GWYN-C: samples, duty, run-ahead, ply locks, mailboxes (R189 to R208) -/

/-- Samples, predictions and duty images (R189, R190, R192): outside run-ahead lds gives the real value of the
released word and lds.t the word itself, in run-ahead lds gives the prediction; ldp and stp read and write the
prediction; putd writes a word of the staged image; a slot or list place that is not declared traps SETNX. Waiting for
a sample set (R191): waits traps SETNX for a set of no slot and PLYWAIT while the core holds a ply lock, is illegal in
run-ahead, stands while the generation is not complete, and goes on with the release when it is; the release of a set
frees the next instruction. -/
def Obligations.SamplesAndImages : Prop :=
  (∀ (p : Fin 18) (st : Fin 4) (j w : Fin 16) (u : Fin 4) (r : BitVec 5) (s : State),
     let d := s.dev
     let c : Core := .spn p
     let k : BitVec 8 := BitVec.ofNat 8 (64 * st + j)
     let l := d.curLoop p
     (j.val < d.nslot p st →
       ((d.spn p).ra = false → (d.spn p).subst = [] →
         RunsTo s c (.lds c ⟨k, 0, 0, r⟩) (d.setV c r (BitVec.ofInt 32 (realValue (d.slotWord p st j)))) ∧
         RunsTo s c (.ldsT c ⟨k, 0, 0, r⟩) (d.setV c r (d.slotWord p st j)) ∧
         RunsTo s c (.stp c ⟨k, 0, r, 0⟩)
           (d.modWin p st fun x => { x with preds := smSet (fun _ => 0) x.preds j (d.gv c r) })) ∧
       ((d.spn p).ra = true →
         RunsTo s c (.lds c ⟨k, 0, 0, r⟩) (d.setV c r (d.pred p st j)) ∧
         Traps s c (.stp c ⟨k, 0, r, 0⟩) 0x10 none) ∧
       RunsTo s c (.ldp c ⟨k, 0, 0, r⟩) (d.setV c r (d.pred p st j))) ∧
     (d.nslot p st ≤ j.val →
       Traps s c (.lds c ⟨k, 0, 0, r⟩) 0x16 none ∧ Traps s c (.ldsT c ⟨k, 0, 0, r⟩) 0x16 none ∧
       Traps s c (.ldp c ⟨k, 0, 0, r⟩) 0x16 none) ∧
     (let kd : BitVec 8 := BitVec.ofNat 8 (16 * w + u)
      (w.val < (d.whorlList p l).length →
        RunsTo s c (.putd c ⟨kd, 0, r, 0⟩)
          (d.modLp p l fun x => { x with images := smSet (fun _ => 0) x.images (4 * w + u) (d.gv c r) })) ∧
      ((d.whorlList p l).length ≤ w.val → Traps s c (.putd c ⟨kd, 0, r, 0⟩) 0x16 none))) ∧
  (∀ (p : Fin 18) (st : Fin 4) (s : State),
     let d := s.dev
     let c : Core := .spn p
     let i : Instr := .waits c ⟨BitVec.ofNat 8 (64 * st), 0, 0, 0⟩
     let ready := ((d.spn p).win st).complete (d.nslot p st)
     ((d.spn p).ra = true → Traps s c i 0x10 none) ∧
     ((d.spn p).ra = false → d.nslot p st = 0 → Traps s c i 0x16 none) ∧
     ((d.spn p).ra = false → d.nslot p st ≠ 0 → (d.lockOf (reqSpn p)).isSome = true → Traps s c i 0x15 none) ∧
     ((d.spn p).ra = false → d.nslot p st ≠ 0 → d.lockOf (reqSpn p) = none → d.executes c i →
       (ready = false → exec i s = .next (s.withDev (d.modSpn p fun x => { x with wait := some (.waits st) }))) ∧
       (ready = true →
         Gives i s fun e => (e.spn p).wait = none ∧ (e.spn p).pc = (d.spn p).pc + 4 ∧
           (∀ j < 16, e.slotWord p st j = (((d.spn p).win st).slot j).getD 0) ∧ ((e.spn p).win st).opened = false ∧
           (∀ q, e.gv c q = d.gv c q) ∧ d.sameMem e ∧ d.sameRegs e [])) ∧
     ((d.spn p).wait = some (.waits st) →
       (ready = true → d.clocked = true → Gives (.sampleWaitRelease p) s fun e => (e.spn p).wait = none ∧ (e.spn p).pc = (d.spn p).pc + 4 ∧
         (∀ j < 16, e.slotWord p st j = (((d.spn p).win st).slot j).getD 0) ∧ d.sameMem e ∧ d.sameRegs e []) ∧
       (ready = false → exec (.sampleWaitRelease p) s = .next s)))

/-- Run-ahead (R193 to R200, R206, R215): rahead takes its snapshot and issues BODY speculatively when the period is
in run-ahead, and without a primary set goes on at BODY; check does nothing outside run-ahead; commit after a commit
traps COMMIT2, and at the deadline or later (DEAD in run-ahead and after a recovery, SEND in plain mode) writes
nothing; halt goes on at POST after BODY and idles after PRED and POST; rahead, commit and halt are illegal in
run-ahead. The deadlines are read as notes/assumptions/27.md says. -/
def Obligations.RunAhead : Prop :=
  ∀ (p : Fin 18) (k : BitVec 8) (s : State),
    let d := s.dev
    let c : Core := .spn p
    let l := d.curLoop p
    let z : CtlF := ⟨0, 0, 0, 0⟩
    (d.inWindow p ((d.entryPc p l .body).toNat : Int) = true →
      ((d.spn p).ra = true → Traps s c (.rahead c z) 0x10 none) ∧
      ((d.spn p).ra = false → (d.lockOf (reqSpn p)).isSome = true → Traps s c (.rahead c z) 0x15 none) ∧
      ((d.spn p).ra = false → d.lockOf (reqSpn p) = none → d.psv p l = true → d.rbit (Reg.SPN_LSTAT p l) 1 = true →
        (d.spn p).recovered = false → d.executes c (.rahead c z) →
        Gives (.rahead c z) s fun e =>
          (e.spn p).ra = true ∧ (e.spn p).spec = true ∧ (e.spn p).queue = [] ∧ (e.spn p).entry = some .body ∧
          (e.spn p).pc = d.entryPc p l .body ∧ (e.spn p).snap.v = (d.spn p).v ∧ (e.spn p).snap.a = (d.spn p).a ∧
          (e.spn p).snap.images = (d.lp p l).images ∧ (e.spn p).snap.lb = (d.spn p).lb ∧
          (∀ q, e.gv c q = d.gv c q) ∧ d.sameMem e ∧ d.sameRegs e []) ∧
      ((d.spn p).ra = false → d.lockOf (reqSpn p) = none → d.psv p l = false → d.executes c (.rahead c z) →
        exec (.rahead c z) s = .next (s.withDev (d.modSpn p fun x =>
          { x with entry := some .body, wait := none, pc := d.entryPc p l .body })))) ∧
    (d.inWindow p ((d.entryPc p l .body).toNat : Int) = false → Traps s c (.rahead c z) 1 none) ∧
    ((d.spn p).ra = false → RunsTo s c (.check c ⟨k, 0, 0, 0⟩) d) ∧
    ((d.spn p).ra = true → d.kinds c (d.checkEntries p l k.toNat) = false → Traps s c (.check c ⟨k, 0, 0, 0⟩) 5 none) ∧
    ((d.spn p).ra = true → d.kinds c (d.checkEntries p l k.toNat) = true → d.primaryReady p l = false →
      d.executes c (.check c ⟨k, 0, 0, 0⟩) →
      exec (.check c ⟨k, 0, 0, 0⟩) s = .next (s.withDev (d.modSpn p fun x => { x with wait := some (.check k.toNat) }))) ∧
    ((d.spn p).ra = true → Traps s c (.commit c z) 0x10 none ∧ Traps s c (.halt c z) 0x10 none) ∧
    ((d.spn p).ra = false → (d.lp p l).committed = true → Traps s c (.commit c z) 0x18 none) ∧
    (∀ ev, (d.spn p).ra = false → (d.lp p l).committed = false → (d.lp p l).evAt = some ev →
      ev + (if d.rbit (Reg.SPN_LSTAT p l) 1 = true ∨ (d.spn p).recovered = true then d.fld (Reg.SPN_LDEAD p l) 15 0
        else d.fld (Reg.SPN_LSLOT p l) 31 16) ≤ d.now → RunsTo s c (.commit c z) d) ∧
    ((d.spn p).ra = false → (d.lp p l).committed = false → (d.lp p l).evAt = none → d.executes c (.commit c z) →
      Gives (.commit c z) s fun e => (e.lp p l).committed = true ∧ (e.lp p l).holds = 0 ∧ (e.spn p).queue = []) ∧
    ((d.spn p).ra = false → d.executes c (.halt c z) →
      ((d.spn p).entry = some .body →
        exec (.halt c z) s = .next (s.withDev (d.modSpn p fun x => { x with entry := some .post, pc := d.entryPc p l .post }))) ∧
      ((d.spn p).entry ≠ some .body →
        exec (.halt c z) s = .next (s.withDev (d.modSpn p fun x => { x with entry := none }))))

/-- Ply locks (R66 to R73, R201, R202): a free line is taken at once, a line that another holds is waited for and
granted when it is free; ply.free gives the line up; a second lock, a line of a sample, duty, state or coefficient
hank, a line not held and an address outside the Skein trap, and in run-ahead every one is illegal; ply.st gives LB
and clears it. What an address outside the Skein and a newly locked broken line do is the model's reading
(notes/assumptions/25.md). -/
def Obligations.PlyLocks : Prop :=
  ∀ (c : Core) (r : BitVec 5) (s : State),
    let d := s.dev
    let a := d.gv c r
    let line := a.toNat / 64
    let lk : Instr := .plyLock c ⟨0, 0, r, 0⟩
    let fr : Instr := .plyFree c ⟨0, 0, r, 0⟩
    (d.inRa c = true → Traps s c lk 0x10 none ∧ Traps s c fr 0x10 none ∧ Traps s c (.plySt c ⟨0, 0, 0, r⟩) 0x10 none) ∧
    (d.inRa c = false → 0x1000000 ≤ a.toNat → Traps s c lk 7 (some a) ∧ Traps s c fr 7 (some a)) ∧
    (d.inRa c = false → a.toNat < 0x1000000 →
      ((d.lockOf (coreReq c)).isSome = true → Traps s c lk 0x11 (some a)) ∧
      (d.lockOf (coreReq c) = none → d.plyKind a.toNat = true → Traps s c lk 0x13 (some a)) ∧
      (d.lockOf (coreReq c) = none → d.plyKind a.toNat = false → d.lockedBy (coreReq c) line = false → d.executes c lk →
        Gives lk s fun e => e.lockOf (coreReq c) = some line ∧ e.pcOf c = d.pcOf c + 4 ∧ (∀ q, e.gv c q = d.gv c q) ∧
          (∀ req, lockIdx req ≠ lockIdx (coreReq c) → e.lockOf req = d.lockOf req) ∧ d.sameMem e ∧ d.sameRegs e []) ∧
      (d.lockOf (coreReq c) = none → d.plyKind a.toNat = false → d.lockedBy (coreReq c) line = true → d.executes c lk →
        Gives lk s fun e => e.waitLock c = some line ∧ ⟨coreReq c, line⟩ ∈ e.sk.waits ∧ e.pcOf c = d.pcOf c ∧
          d.sameMem e ∧ d.sameRegs e []) ∧
      (d.lockOf (coreReq c) ≠ some line → d.isBroken line = false → Traps s c fr 0x14 (some a)) ∧
      (d.lockOf (coreReq c) = some line → d.settled → d.executes c fr →
        Gives fr s fun e => e.lockOf (coreReq c) = none ∧ e.pcOf c = d.pcOf c + 4 ∧ (∀ q, e.gv c q = d.gv c q) ∧
          d.sameMem e ∧ d.sameRegs e [])) ∧
    (∀ p, c = .spn p → (d.spn p).ra = false →
      RunsTo s c (.plySt c ⟨0, 0, 0, r⟩)
        ((d.setV c r (if (d.spn p).lb then 1 else 0)).modSpn p fun x => { x with lb := false })) ∧
    (∀ b, c = .bob b →
      RunsTo s c (.plySt c ⟨0, 0, 0, r⟩)
        ((d.setV c r (if (d.bob b).lb then 1 else 0)).modBob b fun x => { x with lb := false })) ∧
    (∀ n, d.clocked = true → d.waitLock c = some n → d.lockedBy (coreReq c) n = false →
      Gives (.plyLockGrant c) s fun e => e.lockOf (coreReq c) = some n ∧ e.waitLock c = none ∧ e.pcOf c = d.pcOf c + 4 ∧
        (∀ q, e.gv c q = d.gv c q) ∧ d.sameMem e ∧ d.sameRegs e []) ∧
    (∀ n, d.waitLock c = some n → d.lockedBy (coreReq c) n = true → exec (.plyLockGrant c) s = .next s)

/-- Mailboxes, trace and injection of a Spindle (R203 to R205): mbox.put fills an empty outbound box and answers 1, or
0 and nothing; mbox.get takes a full inbound box and empties it, or gives 0; mbox.st reads the eight full bits; inj
reads the value latched at the period start; trace in run-ahead is queued; a master's write to a box that is full sets
OVF and keeps the word, to an empty one fills it, and its read of a full outbound box empties it. -/
def Obligations.MailboxesTraceInjection : Prop :=
  ∀ (p : Fin 18) (n : Fin 4) (m : Master) (r q : BitVec 5) (tp : BitVec 6) (v : Word) (s : State),
    let d := s.dev
    let c : Core := .spn p
    let k : BitVec 8 := BitVec.ofNat 8 n
    let st := Reg.SPN_MBSTAT p
    ((d.spn p).ra = false →
      (d.rbit st (4 + n) = true → RunsTo s c (.mboxPut c ⟨k, 0, r, q⟩) (d.setV c q 0)) ∧
      (d.rbit st (4 + n) = false →
        RunsTo s c (.mboxPut c ⟨k, 0, r, q⟩)
          (((d.setRbit st (4 + n) true).modSpn p fun x =>
            { x with mbOut := smSet (fun _ => 0) x.mbOut n (d.gv c r) }).setV c q 1)) ∧
      (d.rbit st n = true →
        RunsTo s c (.mboxGet c ⟨k, 0, 0, q⟩)
          (((d.setRbit st n false).modSpn p fun x =>
            { x with mbIn := smSet (fun _ => 0) x.mbIn n 0 }).setV c q (smGet (fun _ => 0) (d.spn p).mbIn n))) ∧
      (d.rbit st n = false → RunsTo s c (.mboxGet c ⟨k, 0, 0, q⟩) (d.setV c q 0)) ∧
      RunsTo s c (.mboxSt c ⟨k, 0, 0, q⟩) (d.setV c q (d.reg st &&& 0xFF))) ∧
    RunsTo s c (.inj c ⟨k, 0, 0, q⟩) (d.setV c q (smGet (fun _ => 0) (d.spn p).inj n)) ∧
    ((d.spn p).ra = true → (d.spn p).queue.length < 64 →
      RunsTo s c (.trace c ⟨0#2 ++ tp, 0, r, 0⟩)
        (d.modSpn p fun x => { x with queue := x.queue ++ [.trace tp.toNat (d.gv c r)] })) ∧
    ((d.spn p).ra = false → d.logSpn p = none → RunsTo s c (.trace c ⟨0#2 ++ tp, 0, r, 0⟩) d) ∧
    (d.admits m → d.rbit (Reg.SPN_STAT p) 9 = false →
      (d.rbit st n = false →
        exec (.mailboxInWrite m p n v) s =
          .next (s.withDev (((d.setRbit st n true).modSpn p fun x =>
            { x with mbIn := smSet (fun _ => 0) x.mbIn n v }).answer .ok))) ∧
      (d.rbit st n = true →
        exec (.mailboxInWrite m p n v) s = .next (s.withDev ((d.setRbit st 8 true).answer .ok)))) ∧
    (d.clocked = true → d.mayRead m (Reg.SPN_MBOUT p n) = true → d.rbit st (4 + n) = true →
      exec (.mailboxOutRead m p n) s =
        .next (s.withDev (((d.setRbit st (4 + n) false).modSpn p fun x =>
          { x with mbOut := smSet (fun _ => 0) x.mbOut n 0 }).answer (.data (smGet (fun _ => 0) (d.spn p).mbOut n))))) ∧
    (d.clocked = true → d.mayRead m (Reg.SPN_MBOUT p n) = true → d.rbit st (4 + n) = false →
      exec (.mailboxOutRead m p n) s = .next (s.withDev (d.answer (.data 0))))

/-! ### The Skein and the register bus (R5 to R10, R38 to R81) -/

/-- Draws (R38, R44, R49, R55, R64, R75, R155): a draw of a cut port, one that leaves the Skein, an unaligned one and
a write by hank number that the hank does not accept are refused with their status, for a core as the refusal it traps
with, and touch nothing else; raised in an idle bank a single-word read completes with OK and changes no byte, a
single-word write by address stores its word in little-endian order and no other byte, and one by hank number stores
it at the hank's write offset, which advances. Whatever the draw: one that is refused ends with its status, a lock
holder's write into a line locked by another faults, a full ring refuses it whole, and one that is accepted in an idle
bank moves its first beat and ends there or stands in its bank, or keeps the grant where its requester has stopped.
DRAW_COMPLETE changes nothing in an idle bank; a granted draw by address that stands alone moves its other beats and
ends with OK, or LOCKBRK where a line was broken (R49). The end of an unaligned draw and the order of beats in time
are the model's (notes/assumptions/53.md, 56.md). -/
def Obligations.SkeinDraws : Prop :=
  ∀ (req : Fin 133) (cm : Bool) (a : Word) (w : Word) (hn : BitVec 8) (x : DrawSpec) (y : Draw) (s : State),
    let d := s.dev
    let rd : DrawSpec := ⟨req, cm, false, .addr a, true, 1, [], none, []⟩
    let wr : DrawSpec := ⟨req, cm, true, .addr a, true, 1, [w], none, []⟩
    let wh : DrawSpec := ⟨req, cm, true, .hank hn, true, 1, [w], none, []⟩
    let h := d.hank hn.toNat
    let refused := fun (st : DrawStatus) (ea : Word) =>
      match coreOfReq req with
      | none => d.setStatus req st
      | some (.spn p) => (d.setStatus req st).noteRefused (.spn p) st (d.spn p).pc ea ((d.spn p).slot.getD 0)
      | some (.bob b) => (d.setStatus req st).noteRefused (.bob b) st (d.bob b).pc ea 0
    let ok := fun (e : Dev) => smGet (fun _ => DrawStatus.none) e.sk.status req = .ok
    d.clocked →
    (d.isCut req = true → exec (.drawRequest rd) s = .next (s.withDev (refused .cut a))) ∧
    (d.isCut req = false → 0x1000000 ≤ a.toNat → exec (.drawRequest rd) s = .next (s.withDev (refused .accessError a))) ∧
    (d.isCut req = false → a.toNat < 0x1000000 → a.toNat % 4 ≠ 0 →
      exec (.drawRequest rd) s = .next (s.withDev (refused .accessError a))) ∧
    (d.isCut req = false → h.v = false ∨ h.queueKind = false ∨ h.writer ≠ req.val →
      exec (.drawRequest wh) s = .next (s.withDev (refused .accessError (BitVec.ofNat 32 (h.start + h.wr))))) ∧
    (d.isCut req = false → (∀ n, (d.whorl n).notice = false) →
      (a.toNat < 0x1000000 → a.toNat % 4 = 0 → d.drawsOf (bankOf a.toNat) = [] → d.isBroken (a.toNat / 64) = false →
        d.copyAway (classOf req cm) (bankOf a.toNat) →
        (d.ecc a.toNat = .good →
          Gives (.drawRequest rd) s fun e =>
            ok e ∧ e.drawsOf (bankOf a.toNat) = [] ∧ d.sameMem e ∧ d.sameRegs e []) ∧
        (d.hankAt a.toNat = none → d.blockedLine req a.toNat 4 = none →
          Gives (.drawRequest wr) s fun e =>
            ok e ∧ e.drawsOf (bankOf a.toNat) = [] ∧
            (∀ x, e.byte x = if a.toNat ≤ x ∧ x < a.toNat + 4 then w.extractLsb' (8 * (x - a.toNat)) 8 else d.byte x) ∧
            d.sameRegs e [])) ∧
      (h.v = true → h.kind = 1 → h.writer = req.val → h.wr % 4 = 0 → h.wr < h.bytes → h.fill + 4 ≤ h.bytes →
        d.drawsOf (bankOf (h.start + h.wr)) = [] → d.blockedLine req (h.start + h.wr) 4 = none →
        d.isBroken ((h.start + h.wr) / 64) = false →
        (∀ k v, (k, v) ∈ d.sk.hanks → v.holds (h.start + h.wr) = true → v.kind = 1) →
        d.copyAway (classOf req cm) (bankOf (h.start + h.wr)) →
        Gives (.drawRequest wh) s fun e =>
          ok e ∧ (e.hank hn.toNat).wr = (h.wr + 4) % h.bytes ∧ (e.hank hn.toNat).fill = h.fill + 4 ∧
          (∀ x, e.byte x =
            if h.start + h.wr ≤ x ∧ x < h.start + h.wr + 4 then w.extractLsb' (8 * (x - (h.start + h.wr))) 8 else d.byte x) ∧
          d.sameRegs e [])) ∧
    (∀ n : Fin 65, 2 ≤ n.val → d.isCut req = false → a.toNat % 16 = 0 → a.toNat + 16 * n ≤ 0x1000000 →
      bankOf (a.toNat + 16 * n - 1) = bankOf a.toNat → d.settled → (∀ i < 4, d.ecc (a.toNat + 4 * i) = .good) →
      d.copyAway (classOf req cm) (bankOf a.toNat) →
      Gives (.drawRequest ⟨req, cm, false, .addr a, false, n, [], none, []⟩) s fun e =>
        ((e.drawsOf (bankOf a.toNat)).map fun x => (x.req, x.len, x.done, x.granted)) = [(req.val, 16 * n.val, 16, true)] ∧
        d.sameMem e ∧ d.sameRegs e []) ∧
    (x.wf = true → x.upsets = [] →
      let n := drawLen x
      let k := if x.supply = some 0 then 0 else min 16 n
      let at_ := fun (e : Dev) (p : Nat) (st : DrawStatus) =>
        ((e.drawsOf (bankOf p)).map fun z => (z.req, z.done, z.granted)) = (if k = n then [] else [(x.req.val, k, true)]) ∧
          (k = n → smGet (fun _ => DrawStatus.none) e.sk.status x.req = st)
      let bytes := fun (e : Dev) (p : Nat) =>
        ∀ i, e.byte i = if p ≤ i ∧ i < p + k then (bytesOfWords x.data).getD (i - p) 0 else d.byte i
      let st := fun (p : Nat) => if d.anyBroken p n then DrawStatus.lockbrk else .ok
      (∀ z, d.drawRefusal x = some z → exec (.drawRequest x) s = .next (s.withDev (d.drawEnd (d.drawOf x) z))) ∧
      (d.drawRefusal x = none →
        (∀ p, x.target = .addr p →
          (x.write = true → (d.blockedLine x.req p.toNat n).isSome = true → (d.lockOf x.req).isSome = true →
            exec (.drawRequest x) s = .next (s.withDev (d.drawEnd (d.drawOf x) .lockFault))) ∧
          (x.write = false → d.settled → d.copyAway (classOf x.req x.commit) (bankOf p.toNat) → (∀ i, d.ecc i = .good) →
            Gives (.drawRequest x) s fun e => at_ e p.toNat (st p.toNat) ∧ d.sameMem e ∧ d.sameRegs e []) ∧
          (x.write = true → d.settled → d.copyAway (classOf x.req x.commit) (bankOf p.toNat) →
            d.blockedLine x.req p.toNat n = none → d.hankAt p.toNat = none →
            Gives (.drawRequest x) s fun e => at_ e p.toNat (st p.toNat) ∧ bytes e p.toNat ∧ d.sameRegs e [])) ∧
        (∀ g, x.target = .hank g →
          let h := d.hank g.toNat
          let p := h.start + h.wr
          let m := min n (h.bytes - h.wr)
          h.kind = 1 → h.wr < h.bytes → bankOf h.start = bankOf (h.start + h.bytes - 1) → d.settled →
            d.copyAway (classOf x.req x.commit) (bankOf p) → d.blockedLine x.req p m = none → d.blockedLine x.req h.start (n - m) = none →
            (h.free < n →
              Gives (.drawRequest x) s fun e =>
                smGet (fun _ => DrawStatus.none) e.sk.status x.req = .ringRefused ∧
                (e.hank g.toNat).drops = satInc 16 h.drops ∧ e.rbit Reg.SKN_STAT 6 = true ∧ d.keeps e [Reg.SKN_STAT]) ∧
            (n ≤ h.free → h.wr + n ≤ h.bytes →
              (∀ i v, (i, v) ∈ d.sk.hanks → v.holds p = true → v.kind = 1) →
              Gives (.drawRequest x) s fun e =>
                at_ e p (st p) ∧ bytes e p ∧ e.hank g.toNat = (if k = n then h.advance n else h) ∧ d.sameRegs e [])))) ∧
    (∀ b : Fin 16, d.drawsOf b = [] → (∀ n, (d.whorl n).notice = false) → exec (.drawComplete b) s = .next s) ∧
    (∀ b : Fin 16, d.drawsOf b = [y] → y.granted = true → y.hank = none → y.gaps = [] → y.supply = none → y.tag = .plain →
      y.failed = false → y.done % 16 = 0 → y.len % 16 = 0 → y.done < y.len → bankOf y.start = b.val →
      bankOf (y.start + y.len - 1) = b.val → (∀ n, (d.whorl n).notice = false) →
      let st := if y.lockbrk || d.anyBroken (y.start + y.done) (y.len - y.done) then DrawStatus.lockbrk else .ok
      (y.write = false → (∀ i, d.ecc i = .good) →
        Gives (.drawComplete b) s fun e =>
          smGet (fun _ => DrawStatus.none) e.sk.status y.req = st ∧ e.drawsOf b = [] ∧ d.sameMem e ∧ d.sameRegs e []) ∧
      (y.write = true → y.data.length = y.len → (∀ i, d.blockedLine y.req i 1 = none) →
        (∀ i < y.len, d.hankAt (y.start + i) = none) →
        Gives (.drawComplete b) s fun e =>
          smGet (fun _ => DrawStatus.none) e.sk.status y.req = st ∧ e.drawsOf b = [] ∧ d.sameRegs e [] ∧
          ∀ i, e.byte i =
            if y.start + y.done ≤ i ∧ i < y.start + y.len then y.data.getD (i - y.start) 0 else d.byte i)) ∧
    (∀ (b : Fin 16) (cls : Fin 5) (n : Fin 65), 1 ≤ n.val → a.toNat % 16 = 0 → bankOf a.toNat = b.val →
      bankOf (a.toNat + 16 * n - 1) = b.val → (∀ i < 4 * n.val, d.ecc (a.toNat + 4 * i) = .good) →
      (∀ k, (d.whorl k).notice = false) →
      d.drawsOf b =
        [{ unitDraw req cls none false none a.toNat (16 * n) [] [] false .plain with granted := true }] →
      Gives (.drawComplete b) s fun e =>
        smGet (fun _ => DrawStatus.none) e.sk.status req =
          (if d.anyBroken a.toNat (16 * n) then .lockbrk else .ok) ∧ e.drawsOf b = [] ∧ d.sameMem e ∧ d.sameRegs e [])

/-- The Skein's own events (R63, R64, R72, R73, R76 to R81): the bank watchdog ends the draws of the requester that
holds the bank, cuts its port, records it and raises SKN_HANG; a broken lock is nobody's any more, its line is marked,
recorded and raised as SKN_LOCKBRK; the scrub corrects a struck word, counts it and raises SKN_CE, and reports an
uncorrectable one; a changeover maps the logical bank to its spare, poisons the words it found uncorrectable and frees
the copy engine. The choice of the spare and what it meets while it waits are the model's (notes/assumptions/62.md).
-/
def Obligations.SkeinEvents : Prop :=
  ∀ (b : Fin 16) (line : BitVec 18) (ln : Fin 16384) (wd : Fin 16) (found : List (Fin 16 × Bool)) (s : State),
    let d := s.dev
    let pb := d.physBank b
    d.clocked →
    (d.holder b = none → exec (.bankWatchdogBite b) s = .next s) ∧
    (∀ dr, d.holder b = some dr → dr.req < 133 →
      (∀ k, ∀ x ∈ d.drawsOf k, x.tag = .plain ∨ ∃ c pc ea l, x.tag = .core c pc ea l) →
      (Gives (.bankWatchdogBite b) s fun e =>
        e.isCut dr.req = true ∧ e.rbit Reg.SKN_STAT 3 = true ∧
        e.reg Reg.SKN_HANGREQ = BitVec.ofNat 32 (pb <<< 8 ||| dr.req) ∧ e.raised Src.SKN_HANG pb ∧
        ∀ k : Fin 16, ∀ x ∈ e.drawsOf k, x.req ≠ dr.req) ∧
      ((∀ k, ∀ x ∈ d.drawsOf k, x.req = dr.req) → (∀ n, (d.whorl n).notice = false) →
        Gives (.bankWatchdogBite b) s fun e =>
          smGet (fun _ => DrawStatus.none) e.sk.status dr.req = .errorStatus ∧ d.sameMem e ∧
          d.sameRegs e [Reg.SKN_CUT (dr.req / 32), Reg.SKN_STAT, Reg.SKN_HANGREQ])) ∧
    (d.ownerOf line.toNat = none ∨ d.waitedOn line.toNat = false → exec (.lockBreak line) s = .next s) ∧
    (∀ i, d.ownerOf line.toNat = some i → d.waitedOn line.toNat = true → d.settled →
      Gives (.lockBreak line) s fun e =>
        smGet (fun _ => none) e.sk.locks i = none ∧ e.isBroken line.toNat = true ∧ e.rbit Reg.SKN_STAT 4 = true ∧
        e.reg Reg.SKN_LBADDR = BitVec.ofNat 32 (line.toNat * 64) ∧
        e.raised Src.SKN_LOCKBRK (d.physBank (line.toNat / 16384)) ∧ d.sameMem e ∧
        d.sameRegs e [Reg.SKN_STAT, Reg.SKN_LBADDR]) ∧
    (d.rbit Reg.SKN_SCRUB 0 = false → exec (.scrubLine b ln []) s = .next s) ∧
    (d.drawsOf b = [] → d.isCut reqEngine = false →
      Gives (.scrubLine b ln found) s fun e =>
        d.sameMem e ∧ d.sameRegs e [Reg.SKN_CECNT, Reg.SKN_STAT, Reg.SKN_UEADDR] ∧
        ∀ i, i < b.val * 0x100000 + ln.val * 64 ∨ b.val * 0x100000 + ln.val * 64 + 64 ≤ i → e.ecc i = d.ecc i) ∧
    (let a := b.val * 0x100000 + ln.val * 64
     let w := a + 4 * wd.val
     d.rbit Reg.SKN_SCRUB 0 = true → (∀ i < 16, d.ecc (a + 4 * i) = .good) → d.drawsOf b = [] → d.isCut reqEngine = false →
      (Gives (.scrubLine b ln [(wd, false)]) s fun e =>
        e.ecc w = .good ∧ e.fld Reg.SKN_CECNT 15 0 = min 65535 (d.fld Reg.SKN_CECNT 15 0 + 1) ∧
        e.rbit Reg.SKN_STAT 0 = true ∧ e.raised Src.SKN_CE pb ∧ d.sameMem e ∧
        d.sameRegs e [Reg.SKN_CECNT, Reg.SKN_STAT]) ∧
      (Gives (.scrubLine b ln [(wd, true)]) s fun e =>
        e.ecc w = .uncorrectable ∧ e.reg Reg.SKN_UEADDR = BitVec.ofNat 32 (pb <<< 24 ||| w) ∧
        e.rbit Reg.SKN_STAT 1 = true ∧ e.raised Src.SKN_UE pb ∧ d.sameMem e ∧
        d.sameRegs e [Reg.SKN_UEADDR, Reg.SKN_STAT])) ∧
    (d.sk.copy = none → exec .bankChangeover s = .next s) ∧
    (∀ c, d.sk.copy = some c → c.bank = b.val → c.spare = 16 ∨ c.spare = 17 → d.sk.copyQueue = [] → d.settled →
      d.isCut reqEngine = false →
      Gives .bankChangeover s fun e =>
        e.physBank b = c.spare ∧ e.spareBank c.spare = 2 ∧ e.sk.copy = none ∧ e.reg Reg.SKN_RBPROG = 0x10000 ∧
        (∀ k : Fin 16, k ≠ b → e.physBank k = d.physBank k) ∧ d.sameMem e ∧
        (∀ a, bankOf a = b.val → a % 4 = 0 → c.next = 0 → c.held = false → d.ecc a = .uncorrectable → e.ecc a = .poisoned) ∧
        (∀ a, bankOf a = b.val → a % 4 = 0 → c.next = 0 → c.held = false → d.ecc a = .correctable → e.ecc a = .good) ∧
        d.sameRegs e [Reg.SKN_RBPROG, Reg.SKN_MAP (b.val / 4), Reg.SKN_SPARE, Reg.SKN_STAT, Reg.SKN_CECNT, Reg.SKN_UEADDR])

/-- The register bus (R6, R8 to R10, R27 to R29, R37): an access to register space that is not a word or not aligned,
to the flash or outside the map ends in an access error and changes nothing; while the PLL does not run there is no
access; a byte or a halfword is written to the Skein by a Bobbin alone; a session with no role and an HSPI host
without its right are refused by rights; what a master with the right writes to the Skein in an idle bank is stored
there; a word written to a lane's scan list takes effect in its window alone and only in its RW bits; a W1C write
clears exactly the bits written 1 and leaves those that hardware sets in the same cycle. -/
def Obligations.RegisterBus : Prop :=
  ∀ (m : Master) (k : Fin 18) (a v hw : Word) (size : AccessSize) (s : State),
    let d := s.dev
    let bs := sizeBytes v size
    let scan := Reg.CNV_SCAN k
    let at_ : Word := BitVec.ofNat 32 scan
    (d.clocked = false → exec (.registerWrite m a size v) s = .next s ∧ exec (.w1cWrite m a v hw) s = .next s) ∧
    (d.clocked = true →
    (d.mayWrite m a.toNat = true → 0x20000000 ≤ a.toNat → a.toNat < 0x40000000 → size ≠ .word ∨ a.toNat % 4 ≠ 0 →
      exec (.registerWrite m a size v) s = .next (s.withDev (d.answer .accessError))) ∧
    (d.mayWrite m a.toNat = true → (∀ b, m ≠ .bobbin b) → a.toNat < 0x1000000 → size = .byte ∨ size = .half →
      exec (.registerWrite m a size v) s = .next (s.withDev (d.answer .accessError))) ∧
    (d.mayWrite m a.toNat = true → a.toNat < 0x1000000 → a.toNat % bs.length = 0 → widthOk m size = true → d.settled →
      (∀ x, d.ecc x = .good) → d.storeRefusal (d.masterReq m) a.toNat bs.length (decide (bs.length = 8)) = none →
      d.blockedLine (d.masterReq m) a.toNat bs.length = none →
      Gives (.registerWrite m a size v) s fun e =>
        e.lastAccess = .ok ∧
        ∀ x, e.byte x = if a.toNat ≤ x ∧ x < a.toNat + bs.length then bs.getD (x - a.toNat) 0 else d.byte x) ∧
    (d.mayWrite m a.toNat = true → (0x1000000 ≤ a.toNat ∧ a.toNat < 0x20000000) ∨ 0x40000000 ≤ a.toNat →
      exec (.registerWrite m a size v) s = .next (s.withDev (d.answer .accessError)) ∧
      exec (.w1cWrite m a v hw) s = .next (s.withDev (d.answer .accessError))) ∧
    (d.sv.role = none →
      exec (.registerWrite .session a size v) s = .next (s.withDev (d.answer .rights))) ∧
    (a.toNat ≠ Reg.SNL_MREQ → d.rbit Reg.HSPI_RIGHTS 1 = false →
      exec (.registerWrite .hspi a size v) s = .next (s.withDev ((d.raise 161 7).answer .rights))) ∧
    (d.mayWrite m 0 = true →
      (d.rbit (Reg.CNV_CTL k) 0 = false → d.rbit (Reg.CNV_STAT k) 0 = false →
        Gives (.registerWrite m at_ .word v) s fun e =>
          e.reg scan = (d.reg scan &&& ~~~0xFFF) ||| (v &&& 0xFFF) ∧ e.lastAccess = .ok ∧ d.sameMem e ∧ d.sameRegs e [scan]) ∧
      (d.rbit (Reg.CNV_CTL k) 0 = true →
        Gives (.registerWrite m at_ .word v) s fun e => e.lastAccess = .ok ∧ d.sameMem e ∧ d.sameRegs e [])) ∧
    (d.mayWrite m 0 = true →
     Gives (.w1cWrite m (BitVec.ofNat 32 Reg.SKN_STAT) v hw) s fun e =>
      e.reg Reg.SKN_STAT = (d.reg Reg.SKN_STAT &&& ~~~(v &&& 0x7F)) ||| (hw &&& 0x7F) ∧ e.lastAccess = .ok ∧
      d.sameMem e ∧ d.sameRegs e [Reg.SKN_STAT]))

/-- Registers whose write acts (R45, R47, R74, R85, R110, R111, R122, SKN_CTL, HKP_CTL): a hank entry is taken whole
with its offsets reset, or ignored whole with HOVL, and the base of an entry alike; outside LOAD and CONFIG neither is
written. A read offset consumes what lies before it, the whole hank when a full one is given its own offset again,
nothing when one that is not full is, and is ignored otherwise. CECLR clears the count; a TDAC write in its window is
noted with its time, and outside it does nothing; a modulator clock in use stays on; a request starts a housekeeping
round, but not before SELFTEST and not in SLEEP.
Disabling a unit (R31 to R35): its enable bit falls and ACT rises, whatever unit it is; a unit that is off already, a
loop of a retired Spindle (R242) and the generator outside SERVICE (R404) are left alone. Of the draws of a unit that
holds nothing else the ungranted ones are withdrawn and write nothing, and granted ones stand; a lane gives up its
waiting start, a timebase and an unopened generator nothing, and what a loop speculates is squashed. At the boundary
ACT falls when the unit's last draw has ended, and before it nothing happens; the unit then has its disable state: a
lane is asleep, a Whorl whose trip is not latched commands what DSTATE says, with an output off that DSTATE does not
turn on, a timebase stands at zero with its Whorls in their disable state, a Reel records no more, the generator's
value is 0; and a unit whose draw is still under way keeps ACT. That the write of a loop's EN withdraws its own draws
alone is the model's reading (notes/assumptions/47.md). -/
def Obligations.ActingWritesAndDisable : Prop :=
  (∀ (m : Master) (v : Word) (cfg : Bool) (s : State),
     let d := s.dev
     let i := d.hsel
     let h : Hank := ⟨(d.hank i).base, bitsOf v 15 8, bitsOf v 7 4, bitsOf v 3 1, bitOf v 0, 0, 0, 0, 0⟩
     let g : Hank := { d.hank i with base := bitsOf v 23 10 }
     d.admits m →
     (d.mode = 3 ∨ d.mode = 4 →
       (d.hankOk i h = true → exec (.hankConfigWrite m true v) s = .next (s.withDev ((d.setHank i h).answer .ok))) ∧
       (d.hankOk i h = false →
         exec (.hankConfigWrite m true v) s = .next (s.withDev ((d.setRbit Reg.SKN_STAT 5 true).answer .ok))) ∧
       (d.hankOk i g = true → exec (.hankConfigWrite m false v) s = .next (s.withDev ((d.setHank i g).answer .ok))) ∧
       (d.hankOk i g = false →
         exec (.hankConfigWrite m false v) s = .next (s.withDev ((d.setRbit Reg.SKN_STAT 5 true).answer .ok)))) ∧
     (d.mode ≠ 3 → d.mode ≠ 4 → exec (.hankConfigWrite m cfg v) s = .next (s.withDev (d.answer .ok))) ∧
     (let r := d.hank i
      let off := bitsOf v 22 0
      let n := (off + r.bytes - r.rd) % r.bytes
      let takes := r.v = true ∧ (r.kind = 1 ∨ r.kind = 6) ∧ off % 4 = 0 ∧ off < r.bytes
      (takes → n ≠ 0 → n ≤ r.fill →
        exec (.hankReadOffsetWrite m v) s = .next (s.withDev ((d.setHank i { r with rd := off, fill := r.fill - n }).answer .ok))) ∧
      (takes → n = 0 → r.fill = r.bytes →
        exec (.hankReadOffsetWrite m v) s = .next (s.withDev ((d.setHank i { r with rd := off, fill := 0 }).answer .ok))) ∧
      (takes → n = 0 → r.fill ≠ r.bytes →
        exec (.hankReadOffsetWrite m v) s = .next (s.withDev ((d.setHank i { r with rd := off }).answer .ok))) ∧
      (¬takes ∨ r.fill < n → exec (.hankReadOffsetWrite m v) s = .next (s.withDev (d.answer .ok)))) ∧
     exec (.ceCountClear m) s = .next (s.withDev ((d.setReg Reg.SKN_CECNT 0).answer .ok)) ∧
     (d.cfgMode = true →
       Gives (.tdacWrite m v) s fun e =>
         e.fld Reg.HKP_TDAC 9 0 = bitsOf v 9 0 ∧ e.rbit Reg.HKP_TDAC 16 = bitOf v 16 ∧ e.ms.tdacAt = some d.now ∧
         d.sameMem e ∧ d.sameRegs e [Reg.HKP_TDAC]) ∧
     (d.cfgMode = false →
       Gives (.tdacWrite m v) s fun e => e.ms = d.ms ∧ d.sameMem e ∧ d.sameRegs e []) ∧
     (Gives (.sdmClockEnableWrite m v) s fun e =>
       (∀ j < 4, e.rbit Reg.SDM_CLKEN j =
         (bitOf v j || (d.rbit Reg.SDM_CLKEN j &&
           (List.range 32).any fun n => d.rbit (Reg.SDM_CTL n) 0 && decide (d.fld (Reg.SDM_CTL n) 2 1 = j)))) ∧
       d.sameMem e ∧ d.sameRegs e [Reg.SDM_CLKEN]) ∧
     (2 ≤ d.mode → d.mode ≠ 0xB →
       Gives (.housekeepingNow m) s fun e =>
         e.rbit Reg.HKP_STAT 18 = true ∧ e.ms.hkReq = true ∧ d.sameMem e ∧ d.sameRegs e [Reg.HKP_STAT]) ∧
     (d.mode < 2 ∨ d.mode = 0xB → exec (.housekeepingNow m) s = .next (s.withDev (d.answer .ok)))) ∧
  (∀ (u : UnitRef) (k p : Fin 18) (l : Fin 4) (j : Fin 16) (n : Fin 64) (e : Fin 4) (i : Fin 8) (s : State),
     let d := s.dev
     let en := enPlace u
     let act := actPlace u
     let alone := (∀ p l, u ≠ .loop p l) ∧ (∀ l, u ≠ .link l) ∧ u ≠ .inj
     let still := fun (m : Nat) => ∀ b : Fin 16, ∀ y ∈ d.drawsOf b, y.req ≠ m
     let leaves := fun (x : Dev) (m : Nat) =>
       x.rbit (Reg.WHL_STAT m) 2 = false ∧
       (d.rbit (Reg.WHL_STAT m) 1 = false →
         x.targetPair m = legPair (d.fld (Reg.WHL_CTL m) 9 8) ∧
         (d.fld (Reg.WHL_CTL m) 9 8 ≠ 2 → x.rbit (Reg.WHL_OUT m) 0 = false) ∧
         (d.fld (Reg.WHL_CTL m) 9 8 ≠ 1 → x.rbit (Reg.WHL_OUT m) 1 = false))
     d.clocked →
     (d.rbit en.1 en.2 = false ∨ d.blockShut u = true → exec (.unitDisable u) s = .next s) ∧
     (d.rbit en.1 en.2 = true → d.blockShut u = false → d.quiet →
       Gives (.unitDisable u) s fun x => x.rbit en.1 en.2 = false ∧ x.rbit act.1 act.2 = true) ∧
     (d.rbit en.1 en.2 = true → alone → (∀ m, (d.whorl m).notice = false) →
       ((∀ b : Fin 16, ∀ y ∈ d.drawsOf b, ownsDraw u y = true ∧ y.granted = false ∧ ∀ l f e, y.tag ≠ .record l f e) →
         Gives (.unitDisable u) s fun x =>
           (∀ b : Fin 16, x.drawsOf b = []) ∧ d.sameMem x ∧ d.sameRegs x [en.1, act.1]) ∧
       ((∀ b : Fin 16, ∀ y ∈ d.drawsOf b, y.granted = true ∧ y.auto = false) →
         Gives (.unitDisable u) s fun x =>
           (∀ b : Fin 16, x.drawsOf b = d.drawsOf b) ∧ d.sameMem x ∧ d.sameRegs x [en.1, act.1])) ∧
     (d.rbit (Reg.CNV_CTL k) 0 = true → d.quiet →
       Gives (.unitDisable (.lane k)) s fun x =>
         x.rbit (Reg.CNV_CTL k) 0 = false ∧ x.rbit (Reg.CNV_STAT k) 0 = true ∧ (x.lane k).waiting = false ∧
         d.sameMem x ∧ d.sameRegs x [Reg.CNV_CTL k, Reg.CNV_STAT k]) ∧
     (d.rbit (Reg.TB_CTL j) 0 = true → d.quiet →
       exec (.unitDisable (.timebase j)) s =
         .next (s.withDev ((d.setRbit (Reg.TB_CTL j) 0 false).setRbit (Reg.TB_STAT j) 0 true))) ∧
     (d.rbit (Reg.SPN_CTL p) l = true → d.rbit (Reg.SPN_STAT p) 9 = false → d.quiet → (d.spn p).slot = some l.val →
       (∀ k, k ∈ (d.spn p).slotWait → k = l.val) →
       Gives (.unitDisable (.loop p l)) s fun x =>
         x.rbit (Reg.SPN_CTL p) l = false ∧ x.rbit (Reg.SPN_STAT p) l = true ∧ (x.spn p).slot = none ∧
         (x.spn p).entry = none ∧ (x.spn p).ra = false ∧ (x.spn p).queue = [] ∧ d.sameMem x) ∧
     (d.rbit act.1 act.2 = false → (∀ p l, u ≠ .loop p l) → exec (.disableBoundary u) s = .next s) ∧
     (d.rbit act.1 act.2 = true → d.atBoundary u = false → (∀ p l, u ≠ .loop p l) →
       exec (.disableBoundary u) s = .next s) ∧
     (d.rbit act.1 act.2 = true → d.atBoundary u = true → (∀ p l, u = .loop p l → (p.val, l.val) ∉ d.sn.restarts) →
       (∀ b : Fin 16, ∀ y ∈ (d.disableState u).drawsOf b, ownsDraw u y = false) →
       Gives (.disableBoundary u) s fun x => x.rbit act.1 act.2 = false) ∧
     (d.rbit (Reg.POS_ESTAT e) 0 = true → d.quiet →
       exec (.disableBoundary (.encoder e)) s = .next (s.withDev (d.setRbit (Reg.POS_ESTAT e) 0 false))) ∧
     (d.rbit (Reg.CNV_STAT k) 0 = true → (d.lane k).phase ≠ .converting →
       (∀ b : Fin 16, ∀ y ∈ d.drawsOf b, ownsDraw (.lane k) y = false) →
       Gives (.disableBoundary (.lane k)) s fun x =>
         x.rbit (Reg.CNV_STAT k) 0 = false ∧ x.rbit (Reg.CNV_STAT k) 1 = false ∧ (x.lane k).phase = .asleep ∧
         d.sameMem x ∧ d.sameRegs x [Reg.CNV_STAT k]) ∧
     (d.rbit (Reg.WHL_STAT n) 0 = true → still (reqWhl n) →
       Gives (.disableBoundary (.whorl n)) s fun x =>
         x.rbit (Reg.WHL_STAT n) 0 = false ∧ leaves x n ∧ d.sameMem x ∧
         d.sameRegs x [Reg.WHL_STAT n, Reg.WHL_OUT n]) ∧
     (d.rbit (Reg.WHL_STAT n) 0 = true → ¬still (reqWhl n) →
       Gives (.disableBoundary (.whorl n)) s fun x => x.rbit (Reg.WHL_STAT n) 0 = true) ∧
     (d.rbit (Reg.TB_STAT j) 0 = true →
       Gives (.disableBoundary (.timebase j)) s fun x =>
         x.rbit (Reg.TB_STAT j) 0 = false ∧ x.rbit (Reg.TB_STAT j) 1 = false ∧ x.reg (Reg.TB_CNT j) = 0 ∧
         (∀ m : Fin 64, d.fld (Reg.WHL_CTL m) 7 4 = j.val → d.fld (Reg.WHL_CTL m) 15 14 = 0 → leaves x m) ∧
         d.sameMem x ∧
         ∀ a, a ≠ Reg.TB_STAT j → a ≠ Reg.TB_CNT j → (∀ m : Fin 64, a ≠ Reg.WHL_STAT m ∧ a ≠ Reg.WHL_OUT m) →
           x.reg a = d.reg a) ∧
     (d.rbit (Reg.REL_STAT i) 0 = true → d.quiet →
       Gives (.disableBoundary (.reel i)) s fun x => x.rbit (Reg.REL_STAT i) 1 = false) ∧
     (d.rbit Reg.INJ_STAT 0 = true → d.quiet →
       Gives (.disableBoundary .inj) s fun x => x.reg Reg.INJ_VAL = 0 ∧ x.inj.live = false))

/-! ### Measurement (R82 to R123) -/

/-- Converter lanes (R82 to R109): a trigger at an idle lane starts its scan, at a sleeping one its start-up delay, at
a busy one, also one that EN = 0 leaves to end its conversion, it is lost and counted, and the second of two kinds on
one edge is the same trigger; a conversion ends with the result word of its code, SET while the settling count stands,
and goes on to the next channel; a failed parity check and an abandoned conversion deliver nothing and raise CNV_FAIL;
a lane falls asleep when idle, wakes at the end of its delay, starts it at once with NOSLEEP, and is enabled from a clean state. A conversion whose result meets its
hank (R21, R93, R98): the word of the result stands in the sample hank at the write offset, which advances by one
word, and no other byte of the Skein changes. What an abandoned or failed conversion does to the settling marks, and
the comparators over a disable, are the model's choices (notes/assumptions/48.md, 65.md); the factory trim is an
opaque function (66.md). -/
def Obligations.Lanes : Prop :=
  (∀ (k : Fin 18) (vin : Int) (c : Nat) (rest : List Nat) (s : State),
     let d := s.dev
     let x := d.lane k
     let seq := (d.fld (Reg.CNV_SEQ k) 15 0 + 1) % 65536
     let scan := d.scanOf k seq
     let st := Reg.CNV_STAT k
     let seen := fun (e : Dev) => e.modLane k fun y => { y with trig := some (d.now, false) }
     d.clocked →
     (x.trig = some (d.now, true) →
       exec (.softwareTrigger k) s = .next (s.withDev (d.modLane k fun y => { y with trig := none }))) ∧
     (x.trig ≠ some (d.now, true) →
       (scan ≠ [] → x.busy = true →
         exec (.softwareTrigger k) s =
           .next (s.withDev (seen (((d.setRbit st 8 true).incFld (Reg.CNV_TLCNT k) 15 0).raise Src.CNV_TLOST k)))) ∧
       (d.rbit (Reg.CNV_CTL k) 0 = true → scan ≠ [] →
         (x.busy = false → x.phase = .idle →
           Gives (.softwareTrigger k) s fun e =>
             (e.lane k).phase = .converting ∧ (e.lane k).scan = scan ∧ (e.lane k).fe = d.reg (Reg.CNV_FE k) ∧
             (e.lane k).convAt = d.now ∧ e.fld (Reg.CNV_SEQ k) 15 0 = seq ∧ d.sameMem e ∧ d.sameRegs e [Reg.CNV_SEQ k]) ∧
         (x.busy = false → x.phase = .asleep →
           Gives (.softwareTrigger k) s fun e =>
             (e.lane k).phase = .starting ∧ (e.lane k).waiting = true ∧ (e.lane k).scan = scan ∧
             e.fld (Reg.CNV_SEQ k) 15 0 = seq ∧ d.sameMem e ∧ d.sameRegs e [Reg.CNV_SEQ k])) ∧
       (scan = [] ∨ (x.busy = false ∧ d.rbit (Reg.CNV_CTL k) 0 = false) →
         exec (.softwareTrigger k) s = .next (s.withDev (seen d)))) ∧
     (x.phase = .converting → x.scan = c :: rest → d.rbit (Reg.CNV_CTL k) 0 = true →
       (Gives (.conversionEnd k vin true) s fun e =>
         e.rbit st 9 = true ∧ srcInst Src.CNV_FAIL k ∈ e.reports ∧ (e.lane k).scan = rest ∧ d.sameMem e ∧ d.sameRegs e [st]) ∧
       (Gives (.conversionAbandon k) s fun e =>
         e.rbit st 9 = true ∧ srcInst Src.CNV_FAIL k ∈ e.reports ∧ (e.lane k).scan = [] ∧ (e.lane k).phase = .idle ∧
         d.sameMem e ∧ d.sameRegs e [st]) ∧
       ((∀ n < 8, d.rbit (Reg.REL_CTL n) 0 = false) → d.rbit (Reg.CNV_WC0CFG k) 0 = false →
         d.rbit (Reg.CNV_WC1CFG k) 0 = false → d.isCut k = true →
         Gives (.conversionEnd k vin false) s fun e =>
           e.reg (Reg.CNV_LAST k) =
             resultWord (d.laneCode k c x.fe vin) (decide (0 < max x.marks (x.newMarks c)) || x.tdacSet) (decide (16 ≤ k.val))
               x.pup c (d.fld (Reg.CNV_SEQ k) 7 0) ∧
           (e.lane k).scan = rest ∧ (e.lane k).marks = max x.marks (x.newMarks c) - 1 ∧ (e.lane k).prevCh = some c ∧
           (e.lane k).pup = false ∧ d.sameMem e ∧ d.sameRegs e [Reg.CNV_LAST k])) ∧
     (x.phase = .converting → x.scan = c :: rest → d.quiet →
       Gives (.conversionEnd k vin false) s fun e =>
         e.reg (Reg.CNV_LAST k) =
           resultWord (d.laneCode k c x.fe vin) (decide (0 < max x.marks (x.newMarks c)) || x.tdacSet) (decide (16 ≤ k.val))
             x.pup c (d.fld (Reg.CNV_SEQ k) 7 0) ∧
         (e.lane k).scan = (if d.rbit (Reg.CNV_CTL k) 0 then rest else []) ∧ (e.lane k).pup = false) ∧
     (x.phase ≠ .converting → ∀ bad, exec (.conversionEnd k vin bad) s = .next s ∧ exec (.conversionAbandon k) s = .next s) ∧
     (x.phase ≠ .idle ∨ d.rbit (Reg.CNV_CTL k) 1 = true → exec (.laneSleep k) s = .next s) ∧
     (x.phase = .idle → d.rbit (Reg.CNV_CTL k) 1 = false →
       exec (.laneSleep k) s = .next (s.withDev ((d.setRbit st 1 false).modLane k fun y => { y with phase := .asleep }))) ∧
     (x.phase = .starting → x.waiting = false →
       exec (.laneStartupEnd k) s =
         .next (s.withDev ((d.setRbit st 1 true).modLane k fun y => { y with phase := .idle, pup := !y.quiet, quiet := false }))) ∧
     (x.phase = .starting → x.waiting = true →
       Gives (.laneStartupEnd k) s fun e =>
         (e.lane k).phase = .converting ∧ (e.lane k).waiting = false ∧ (e.lane k).pup = true ∧ (e.lane k).scan = x.scan ∧
         e.rbit st 1 = true ∧ d.sameMem e ∧ d.sameRegs e [st]) ∧
     (d.rbit (Reg.CNV_CTL k) 0 = true → x.phase = .asleep →
       exec (.laneNosleepSet k) s =
         .next (s.withDev ((d.setRbit (Reg.CNV_CTL k) 1 true).modLane k fun y => { y with phase := .starting }))) ∧
     (d.rbit (Reg.CNV_CTL k) 0 = false → d.rbit st 0 = false → d.rbit st 2 = false →
       Gives (.laneEnable k) s fun e =>
         e.rbit (Reg.CNV_CTL k) 0 = true ∧ e.reg (Reg.CNV_TLCNT k) = 0 ∧
         (e.lane k).phase = (if d.rbit (Reg.CNV_CTL k) 1 then .starting else .asleep) ∧ (e.lane k).marks = 0 ∧
         (e.lane k).prevCh = none ∧ d.sameMem e ∧ d.sameRegs e [Reg.CNV_CTL k, Reg.CNV_TLCNT k])) ∧
  (∀ (k : Fin 18) (vin : Int) (c : Nat) (rest : List Nat) (s : State),
     let d := s.dev
     let x := d.lane k
     let n := d.fld (Reg.CNV_HANK k) 7 0
     let h := d.hank n
     let a := h.start + h.wr
     d.clocked →
     x.phase = .converting → x.scan = c :: rest → h.v = true → h.kind = 2 → h.writer = k.val → h.wr + 4 ≤ h.bytes →
     h.wr % 4 = 0 → d.drawsOf (bankOf a) = [] →
     d.isCut k = false → d.blockedLine k a 4 = none → (∀ i < 8, d.rbit (Reg.REL_CTL i) 0 = false) →
     d.rbit (Reg.CNV_WC0CFG k) 0 = false → d.rbit (Reg.CNV_WC1CFG k) 0 = false →
     Gives (.conversionEnd k vin false) s fun e =>
       (∀ y, e.byte y = if a ≤ y ∧ y < a + 4 then (e.reg (Reg.CNV_LAST k)).extractLsb' (8 * (y - a)) 8 else d.byte y) ∧
       (e.hank n).wr = (h.wr + 4) % h.bytes ∧ (e.hank n).fill = min (h.fill + 4) h.bytes ∧
       smGet (fun _ => DrawStatus.none) e.sk.status k = if d.isBroken (a / 64) then .lockbrk else .ok)

/-- Decimators and housekeeping (R110 to R123): EN starts a decimator from a clean filter while its clock runs and is
ignored while it is stopped; a disabled one hears no bit; the bit that completes an output gives the sinc3 code, SET
for the first three, with the next sequence count; the 128th identical bit sets STUCK and raises it; a fast filter
that leaves a limit it stood within sets FAST and raises it; a housekeeping round starts and publishes the codes of
its nodes' voltages with the round's number, and a channel outside its limits raises HKP_LIM. That STUCK is raised
once a run is the model's choice (notes/assumptions/65.md); a node's code beyond the converter's range is free
(67.md). -/
def Obligations.DecimatorsAndHousekeeping : Prop :=
  ∀ (n : Fin 32) (b : Bool) (bits : List Bool) (volts : List Int) (s : State),
    let d := s.dev
    let x := d.sdm n
    let ctl := Reg.SDM_CTL n
    let st := Reg.SDM_STAT n
    let osr := d.fld ctl 23 16 + 1
    let code := fun (c : Nat) => (hkCodeOf volts c).toNat
    d.clocked →
    (d.rbit ctl 0 = false → d.rbit st 0 = false →
      (d.rbit Reg.SDM_CLKEN (d.fld ctl 2 1) = true →
        exec (.decimatorEnable n) s = .next (s.withDev ((d.setRbit ctl 0 true).setSdm n { Sdm.reset with seq := x.seq }))) ∧
      (d.rbit Reg.SDM_CLKEN (d.fld ctl 2 1) = false → exec (.decimatorEnable n) s = .next s)) ∧
    (d.rbit ctl 0 = false →
      exec (.decimatorOutput n bits) s = .next s ∧ exec (.sdmStuck n bits) s = .next s ∧
      exec (.fastFilterTrip n bits) s = .next s) ∧
    (d.rbit ctl 0 = true → d.rbit (Reg.SDM_FAST n) 0 = false →
      (x.since + 1 = osr → x.run < 127 → x.stuckHold = false → d.rbit ctl 4 = false →
        let y := sincCode (sincOut (sinc3Weight osr) (3 * osr - 2) ((b :: x.hist).take 768)) (osr * osr * osr)
        Gives (.decimatorOutput n [b]) s fun e =>
          e.reg (Reg.SDM_LAST n) =
            BitVec.ofNat 32 ((y.1 % 65536).toNat * 65536 + (decide (x.fill < 3)).toNat * 0x8000 + y.2.toNat * 0x4000 + 0xF00 +
              (x.seq + 1) % 256) ∧
          (e.sdm n).since = 0 ∧ (e.sdm n).seq = (x.seq + 1) % 65536 ∧ (e.sdm n).fill = min 3 (x.fill + 1)) ∧
      (x.since + 1 ≠ osr → x.run = 127 → x.lastBit = b →
        Gives (.sdmStuck n [b]) s fun e =>
          e.rbit st 8 = true ∧ srcInst Src.SDM_STUCK n ∈ e.reports ∧ (e.sdm n).stuckHold = true ∧ (e.sdm n).run = 128 ∧
          d.sameMem e ∧ d.sameRegs e [st])) ∧
    (d.rbit ctl 0 = true → d.rbit (Reg.SDM_FAST n) 0 = true → d.rbit (Reg.SDM_FAST n) 6 = false →
      d.tripLine (40 + n) = false → x.since + 1 ≠ osr → x.run < 127 →
      let r := d.fld (Reg.SDM_FAST n) 5 1 + 1
      let y := (sincCode (sincOut (sinc2Weight r) (2 * r - 1) ((b :: x.hist).take 768)) (r * r)).1
      (signed 16 (d.fld (Reg.SDM_FLIM n) 31 16) < y → x.fastHi = false →
        Gives (.fastFilterTrip n [b]) s fun e =>
          e.rbit st 9 = true ∧ e.rbit st 1 = false ∧ srcInst Src.SDM_FAST n ∈ e.reports ∧ (e.sdm n).fastHi = true ∧
          d.sameMem e ∧ d.sameRegs e [st]) ∧
      (y < signed 16 (d.fld (Reg.SDM_FLIM n) 15 0) → x.fastLo = false →
        Gives (.fastFilterTrip n [b]) s fun e =>
          e.rbit st 9 = true ∧ e.rbit st 1 = false ∧ srcInst Src.SDM_FAST n ∈ e.reports ∧ (e.sdm n).fastLo = true ∧
          d.sameMem e ∧ d.sameRegs e [st])) ∧
    (d.clocked = true → 2 ≤ d.mode → d.mode ≠ 0xB →
      (d.rbit Reg.HKP_STAT 18 = false →
        Gives .housekeepingRoundStart s fun e =>
          e.rbit Reg.HKP_STAT 18 = true ∧ e.ms.hkReq = false ∧ d.sameMem e ∧ d.sameRegs e [Reg.HKP_STAT]) ∧
      (d.rbit Reg.HKP_STAT 18 = true → d.quiet → d.su.runReq = false → d.mode ≠ 6 → d.mode ≠ 7 → d.mode ≠ 10 →
        let round := (d.fld Reg.HKP_STAT 15 0 + 1) % 65536
        Gives (.housekeepingRoundPublish volts) s fun e =>
          e.fld Reg.HKP_STAT 15 0 = round ∧ e.rbit Reg.HKP_STAT 16 = true ∧ e.rbit Reg.HKP_STAT 17 = d.ms.hkReq ∧
          e.rbit Reg.HKP_STAT 18 = false ∧ e.mode = d.mode ∧
          ∀ c < 24, hkDigital c = false →
            e.reg (Reg.HKP_RES c) = BitVec.ofNat 32 (round % 256 * 65536 + code c) ∧
            (d.rbit (Reg.HKP_LIM c) 31 = true →
              code c < d.fld (Reg.HKP_LIM c) 11 0 ∨ d.fld (Reg.HKP_LIM c) 27 16 < code c →
              e.raised Src.HKP_LIM c))) ∧
    (d.rbit Reg.HKP_STAT 18 = false → exec (.housekeepingRoundPublish volts) s = .next s) ∧
    ((∀ c < 24, hkDigital c = false → c ≠ 0 → 0 ≤ (volts[c]?).getD 0 →
        (8192 * (volts[c]?).getD 0 + 3000000 * hkDivider c) / (6000000 * hkDivider c) < 4096 →
        (code c : Int) = (8192 * (volts[c]?).getD 0 + 3000000 * hkDivider c) / (6000000 * hkDivider c)))

/-! ### Spindles: periods, spares (R211 to R242) -/

/-- Periods of a loop (R211 to R217, R223, R225, R227, R228): a period that is due takes its number and opens its
slot, with PRED at its entry point, the coefficient snapshot, v1 to v15 zero and nothing committed, or waits behind
the slot that is open; while a takeover runs it is lost; at the deadline an open period that has neither committed nor
trapped is held: its hold is counted, the last committed images stand again and SPN_MISS is raised, or LSR is set
after a recovery and for a lost period; a period whose slot has not opened by then never runs, and QUAL falls to 0, or with LSR is kept while a takeover keeps the slot; when the slot closes,
an entry point still running is stopped with OVR and SPN_OVR, and QUAL counts a clean period in time or falls to 0; EN
of a loop is refused while ACT stands, and with CFGERR for a bad configuration. A slot with LEAD = 0 belongs to the event
that has come at the same tick. Periods lost to a takeover and a PERIOD_START at its event are read as
notes/assumptions/27.md says. -/
def Obligations.Periods : Prop :=
  ∀ (p : Fin 18) (l : Fin 4) (s : State),
    let d := s.dev
    let x := d.spn p
    let y := d.lp p l
    let st := Reg.SPN_LSTAT p l
    let k := d.nextPeriod p l
    let here := d.eventMine p l
    let due := fun (z : Loop) (lost : Bool) =>
      { z with per := k, served := k + 1, evAt := if here then some d.now else none,
               evStamp := if here then some y.lastStamp else none, held := false, lost := lost }
    d.clocked →
    (d.fld (Reg.SPN_LSLOT p l) 15 0 ≠ 0 ∨ y.lastAt ≠ some d.now → k = y.next (d.loopN p l) y.events ∧ here = false) ∧
    (d.fld (Reg.SPN_LSLOT p l) 15 0 = 0 → y.lastAt = some d.now → y.events = y.served * d.loopN p l + 1 →
      k = y.served ∧ here = true) ∧
    (d.onHold p = false → d.periodDue p l = false → exec (.periodStart p l) s = .next s) ∧
    (d.onHold p = true → d.loopLive p l = false → exec (.periodStart p l) s = .next s) ∧
    (d.onHold p = true → d.loopLive p l = true → d.inj.live = false →
      Gives (.periodStart p l) s fun e =>
        (e.lp p l).lost = true ∧ (e.lp p l).per = k ∧ (e.lp p l).committed = false ∧
        e.spn p = d.spn p ∧ d.keeps e []) ∧
    (d.onHold p = false → d.periodDue p l = true →
      (x.slot = none → d.rbit (Reg.SPN_LENT1 p l) 23 = false → d.inj.live = false →
        Gives (.periodStart p l) s fun e =>
          (e.spn p).slot = some l.val ∧ (e.spn p).entry = some .pred ∧ (e.spn p).pc = d.entryPc p l .pred ∧
          (e.spn p).kfile = liveOf x.live (d.selHank p l) ∧ (e.spn p).ra = false ∧ (e.spn p).queue = [] ∧
          (∀ q : BitVec 5, q.toNat < 16 → e.gv (.spn p) q = 0) ∧ (e.lp p l).committed = false ∧
          (e.lp p l).per = k ∧ (e.lp p l).served = k + 1 ∧ d.keeps e [st]) ∧
      (x.slot ≠ none →
        exec (.periodStart p l) s =
          .next (s.withDev ((d.modLp p l fun z => due z false).modSpn p fun z => { z with slotWait := z.slotWait ++ [l.val] })))) ∧
    (y.lost = true → l.val ∉ x.slotWait →
      (d.loopLive p l = false → exec (.commitDeadline p l) s = .next s) ∧
      (d.loopLive p l = true →
        Gives (.commitDeadline p l) s fun e =>
          (e.lp p l).holds = y.holds + 1 ∧ (e.lp p l).lost = false ∧ (e.lp p l).held = true ∧ e.rbit st 7 = true ∧
          e.fld st 31 16 = min 65535 (d.fld st 31 16 + 1) ∧ e.reports = d.reports ∧ d.keeps e [st])) ∧
    (d.onHold p = false → y.lost = false →
      (l.val ∉ x.slotWait → x.slot ≠ some l.val ∨ y.committed = true ∨ y.held = true ∨ d.rbit st 6 = true →
        exec (.commitDeadline p l) s = .next s) ∧
      (l.val ∈ x.slotWait → d.loopLive p l = true → d.inj.live = false →
        Gives (.commitDeadline p l) s fun e =>
          l.val ∉ (e.spn p).slotWait ∧ (e.lp p l).holds = y.holds + 1 ∧ (e.lp p l).held = true ∧ e.fld st 5 2 = 0 ∧
          e.fld st 31 16 = min 65535 (d.fld st 31 16 + 1) ∧ e.raised Src.SPN_MISS (d.loopInst p l) ∧
          d.keeps e [st, Reg.SPN_LCNT p l]) ∧
      (l.val ∉ x.slotWait → x.slot = some l.val → y.committed = false → y.held = false → d.rbit st 6 = false →
        (x.recovered = false →
          Gives (.commitDeadline p l) s fun e =>
            (e.spn p).entry = none ∧ (e.spn p).queue = [] ∧ (e.lp p l).images = y.imagesC ∧ (e.lp p l).holds = y.holds + 1 ∧
            (e.lp p l).held = true ∧ e.fld st 31 16 = min 65535 (d.fld st 31 16 + 1) ∧
            e.fld (Reg.SPN_LCNT p l) 31 16 = min 65535 (d.fld (Reg.SPN_LCNT p l) 31 16 + 1) ∧
            e.raised Src.SPN_MISS (d.loopInst p l) ∧ d.keeps e [st, Reg.SPN_LCNT p l]) ∧
        (x.recovered = true →
          Gives (.commitDeadline p l) s fun e =>
            (e.lp p l).holds = y.holds + 1 ∧ e.rbit st 7 = true ∧ e.reports = d.reports ∧ d.keeps e [st])) ∧
      (x.slot = some l.val → y.committed = true ∨ y.held = true → x.slotWait = [] →
        (x.recovered = false →
          Gives (.slotClose p l) s fun e =>
            (e.spn p).slot = none ∧ (e.spn p).entry = none ∧
            e.fld st 5 2 = (if y.inTime && y.clean then min 8 (d.fld st 5 2 + 1) else 0) ∧
            (x.entry ≠ none → e.rbit st 8 = true ∧ e.raised Src.SPN_OVR (d.loopInst p l)) ∧ d.keeps e [st]) ∧
        (x.recovered = true → x.entry = none →
          Gives (.slotClose p l) s fun e => (e.spn p).slot = none ∧ (e.spn p).recovered = false ∧ d.keeps e []))) ∧
    (d.onHold p = true →
      (l.val ∈ x.slotWait → d.loopLive p l = true → d.inj.live = false →
        Gives (.commitDeadline p l) s fun e =>
          l.val ∉ (e.spn p).slotWait ∧ (e.lp p l).holds = y.holds + 1 ∧ e.rbit st 7 = true ∧ e.fld st 5 2 = d.fld st 5 2 ∧
          e.reports = d.reports ∧ d.keeps e [st]) ∧
      (x.slot = some l.val → x.slotWait = [] → y.lost = false → y.committed = true ∨ y.held = true → x.entry = none →
        Gives (.slotClose p l) s fun e => (e.spn p).slot = none ∧ (e.spn p).entry = none ∧ d.keeps e [])) ∧
    (x.slot ≠ some l.val → l.val ∉ x.slotWait → exec (.slotClose p l) s = .next s) ∧
    (x.slot ≠ some l.val → l.val ∈ x.slotWait → exec (.slotClose p l) s = exec (.commitDeadline p l) s) ∧
    (d.loopEn p l = true ∨ d.rbit (Reg.SPN_STAT p) l = true ∨ d.rbit (Reg.SPN_STAT p) 9 = true →
      exec (.loopEnable p l) s = .next s) ∧
    (d.loopEn p l = false → d.rbit (Reg.SPN_STAT p) l = false → d.rbit (Reg.SPN_STAT p) 9 = false →
      (d.loopCfgBad p l = true →
        exec (.loopEnable p l) s = .next (s.withDev (d.setRbit (Reg.SPN_STAT p) 17 true))) ∧
      (d.loopCfgBad p l = false → d.quiet →
        Gives (.loopEnable p l) s fun e =>
          e.loopEn p l = true ∧ e.reg (Reg.SPN_LCNT p l) = 0 ∧ e.fld st 31 16 = 0 ∧ (e.lp p l).enAt = d.now ∧
          (d.fld (Reg.SPN_CTL p) 3 0 = 0 → e.rbit (Reg.SPN_STAT p) 8 = true) ∧ d.sameMem e) ∧
      (d.loopCfgBad p l = false → d.readsClean (reqSpn p) →
        Gives (.loopEnable p l) s fun e =>
          e.rbit st 6 = false ∧ ∀ i < 16, smGet (fun _ => 0) (e.lp p l).v (16 + i) =
            d.word ((d.hank (d.fld (Reg.SPN_LHANK p l) 7 0)).start + 4 * i)))

/-- Program windows, lockstep and spares (R233 to R238, R242): the fills of a Spindle end with its window holding its
program hank's words; a hot spare is enabled in CONFIG or SERVICE on Spindles 16 and 17 and is ready when its copies
are complete; a lockstep mismatch is counted and raised, in POST or after the commit it ends the period's entry point,
and before the commit the period restarts from PRED with the registers of the checkpoint; a takeover that is complete
makes the spare serve. What a fill or a context that the Flyer does not reach does is the model's choice
(notes/assumptions/64.md). -/
def Obligations.SpindleSpares : Prop :=
  ∀ (p : Fin 18) (s : State),
    let d := s.dev
    let st := Reg.SPN_STAT p
    let h := d.hank (d.fld (Reg.SPN_PROG p) 7 0)
    let n := min (4 * min 1024 (d.fld (Reg.SPN_PROG p) 17 8 + 1)) (h.bytes / 4)
    let counted := fun (e : Dev) =>
      e.raised Src.SPN_LSM p ∧ e.fld (Reg.SPN_LSMCNT p) 15 0 = min 65535 (d.fld (Reg.SPN_LSMCNT p) 15 0 + 1)
    d.clocked →
    (d.rbit st 8 = false → exec (.programWindowFillComplete p) s = .next s) ∧
    (d.rbit st 8 = true → d.onHold p = false → d.readsClean (reqSpn p) →
      Gives (.programWindowFillComplete p) s fun e =>
        e.rbit st 8 = false ∧ (e.spn p).pbase = h.start ∧
        (∀ i < n, smGet (fun _ => 0) (e.spn p).pwin i = d.word (h.start + 4 * i)) ∧
        d.keeps e [st, Reg.SPN_STAT 16, Reg.SPN_STAT 17]) ∧
    (16 ≤ p.val → d.mode = 4 ∨ d.mode = 10 → d.rbit st 9 = false →
      exec (.hotSpareEnable p) s = .next (s.withDev ((d.setRbit (Reg.SPN_HOT p) 0 true).setRbit st 16 false))) ∧
    (p.val < 16 ∨ (d.mode ≠ 4 ∧ d.mode ≠ 10) → exec (.hotSpareEnable p) s = .next s) ∧
    (d.rbit (Reg.SPN_HOT p) 0 = true → 16 ≤ p.val → d.readsClean (reqSpn p) →
      Gives (.hotSpareFillComplete p) s fun e => e.rbit st 16 = true ∧ d.keeps e [st]) ∧
    (d.rbit (Reg.SPN_HOT p) 0 = false → exec (.hotSpareFillComplete p) s = .next s) ∧
    ((d.spn p).slot = none →
      (Gives (.lockstepMismatch ⟨p, false⟩) s fun e => counted e ∧ e.spn p = d.spn p ∧ d.keeps e [Reg.SPN_LSMCNT p]) ∧
      exec (.lockstepMismatch ⟨p, true⟩) s = .next s) ∧
    (∀ l : Fin 4, (d.spn p).slot = some l.val → (d.spn p).entry = some .post ∨
        ((d.spn p).entry = some .body ∧ (d.lp p l).committed = true) →
      (Gives (.lockstepMismatch ⟨p, false⟩) s fun e =>
        counted e ∧ (e.spn p).entry = none ∧ (e.spn p).queue = [] ∧ (e.lp p l) = d.lp p l ∧
        d.keeps e [Reg.SPN_LSMCNT p]) ∧
      exec (.lockstepMismatch ⟨p, true⟩) s = .next s) ∧
    (∀ (l : Fin 4) (drop : Bool), (d.spn p).slot = some l.val → (d.spn p).entry = some .pred ∨ (d.spn p).entry = some .body →
      (d.lp p l).committed = false → d.readsClean (reqSpn p) →
      Gives (.lockstepMismatch ⟨p, drop⟩) s fun e =>
        e.raised Src.SPN_LSM p ∧ (drop = false → counted e) ∧ (e.spn p).entry = some .pred ∧ (e.spn p).recovered = true ∧
        (e.spn p).ra = false ∧ (e.spn p).queue = [] ∧ (e.spn p).pc = d.entryPc p l .pred ∧
        (e.lp p l).images = (d.lp p l).imagesC ∧
        (∀ i : Fin 16, e.gv (.spn p) (BitVec.ofNat 5 (16 + i)) =
          d.word ((d.hank (d.fld (Reg.SPN_LHANK p l) 7 0)).start + 4 * i)) ∧
        d.keeps e [Reg.SPN_LSMCNT p, Reg.SPN_FLAGS p]) ∧
    (d.cr.takeovers = [] → exec (.spindleTakeoverComplete p) s = .next s) ∧
    (∀ q : Fin 16, d.cr.takeovers = [(q.val, p.val)] → d.fld (Reg.SPN_CTL p) 3 0 = 0 → d.readsClean (reqSpn p) →
      Gives (.spindleTakeoverComplete p) s fun e =>
        e.cr.takeovers = [] ∧ e.rbit st 11 = true ∧ e.rbit st 8 = false ∧ d.keeps e [st])

/-! ### Timebases and Whorls (R243 to R280) -/

/-- Timebases (R243 to R247): EN starts the counter from TB_PHASE, waits for a group start with GWAIT, is refused with
CFGERR and is ignored while ACT stands; a group start starts every waiting timebase it names; a write to a live
register of a counter that stands takes effect at once and one of a running counter waits for ZERO; an event puts the
counter at its position and opens the sample sets that name it, ZERO applies the waiting values, and neither cores,
leg dies, functions nor flash change. -/
def Obligations.Timebases : Prop :=
  ∀ (j : Fin 16) (mask : BitVec 16) (v : Word) (ev : TbEvent) (s : State),
    let d := s.dev
    let ctl := Reg.TB_CTL j
    let st := Reg.TB_STAT j
    let cnt := Reg.TB_CNT j
    d.clocked →
    (d.rbit ctl 0 = true ∨ d.rbit st 0 = true → exec (.timebaseEnable j) s = .next s) ∧
    (d.rbit ctl 0 = false → d.rbit st 0 = false →
      (d.tbCfgBad j = true → exec (.timebaseEnable j) s = .next (s.withDev (d.setRbit st 3 true))) ∧
      (d.tbCfgBad j = false → d.rbit ctl 7 = true →
        exec (.timebaseEnable j) s = .next (s.withDev ((d.setRbit ctl 0 true).modTb j fun t => { t with waiting := true }))) ∧
      (d.tbCfgBad j = false → d.rbit ctl 7 = false →
        Gives (.timebaseEnable j) s fun e =>
          e.rbit ctl 0 = true ∧ e.rbit st 1 = true ∧ e.fld cnt 23 0 = d.fld (Reg.TB_PHASE j) 23 0 ∧
          e.rbit cnt 24 = (d.rbit (Reg.TB_PHASE j) 24 && d.rbit ctl 1) ∧ d.keeps e [ctl, st, cnt])) ∧
    (Gives (.groupStart mask) s fun e =>
      (∀ i : Fin 16,
        let go := mask.getLsbD i && d.rbit (Reg.TB_CTL i) 0 && (d.tb i).waiting
        (go = true → e.rbit (Reg.TB_STAT i) 1 = true ∧ (e.tb i).waiting = false ∧
          e.fld (Reg.TB_CNT i) 23 0 = min (d.fld (Reg.TB_PHASE i) 23 0) (d.tbPer i)) ∧
        (go = false → e.reg (Reg.TB_CNT i) = d.reg (Reg.TB_CNT i) ∧ e.tb i = d.tb i)) ∧
      d.keeps e ((List.range 16).map Reg.TB_CNT ++ (List.range 16).map Reg.TB_STAT)) ∧
    (let w := v &&& 0xFFFFFF
     (w.toNat < 2 → exec (.timebaseLiveWrite j .per v) s = .next s) ∧
     (2 ≤ w.toNat → d.rbit ctl 1 = false →
       (d.rbit st 1 = true →
         exec (.timebaseLiveWrite j .per v) s = .next (s.withDev ((d.setReg (Reg.TB_PER j) w).setRbit st 2 true))) ∧
       (d.rbit st 1 = false →
         exec (.timebaseLiveWrite j .per v) s =
           .next (s.withDev ((d.setReg (Reg.TB_PER j) w).modTb j fun t => { t with per := w }))))) ∧
    (let w := v &&& 0x1FFFFFF
     (d.rbit st 1 = true →
       exec (.timebaseLiveWrite j .trga v) s = .next (s.withDev ((d.setReg (Reg.TB_TRGA j) w).setRbit st 2 true)) ∧
       exec (.timebaseLiveWrite j .trgb v) s = .next (s.withDev ((d.setReg (Reg.TB_TRGB j) w).setRbit st 2 true))) ∧
     (d.rbit st 1 = false →
       exec (.timebaseLiveWrite j .trgb v) s =
         .next (s.withDev ((d.setReg (Reg.TB_TRGB j) w).modTb j fun t => { t with trgb := w })))) ∧
    (d.rbit st 1 = false ∨ d.evPos j ev = none ∨ (ev = .zero ∧ d.rbit ctl 0 = false) →
      exec (.timebaseEvent j ev) s = .next s) ∧
    (∀ pos down, d.quiet → d.rbit st 1 = true → d.rbit ctl 0 = true → d.evPos j ev = some (pos, down) →
      Gives (.timebaseEvent j ev) s fun e =>
        (ev ≠ .zero → e.fld cnt 23 0 = pos ∧ e.rbit cnt 24 = down) ∧ (ev = .zero → e.rbit st 2 = false) ∧
        (∀ (p : Fin 18) (w : Fin 4), d.rbit (Reg.SPN_STAT p) 9 = false → d.nslot p w ≠ 0 →
          d.fld (Reg.SPN_SDEF p w) 8 5 = j.val → d.fld (Reg.SPN_SDEF p w) 10 9 = evCode ev → ((e.spn p).win w).opened = true) ∧
        (∀ c q, e.gv c q = d.gv c q) ∧ e.pt = d.pt ∧ e.pl = d.pl ∧ e.fl = d.fl)

/-- Images, forces and the gate commands of a Whorl (R248 to R269): an image that lands enters the shadow, or is
refused with SLOTERR and WHL_SLOTERR; EN leaves RUN at 0 until an image is applied, and is refused with CFGERR without
a duty slot; the delayed output turns on at the end of its delay; the deferred state of a dwell applies when it
expires; a force with an illegal code is ignored, one with both outputs on sets FRCERR, a synchronous one waits for
its reload, and forcing both outputs off turns them off; the PWM signal has the level that the compares give the
present position, in centre mode by the direction of the count; a refresh pulse ends. -/
def Obligations.WhorlImagesAndForces : Prop :=
  ∀ (n : Fin 64) (v : Word) (fine : Fin 32) (s : State),
    let d := s.dev
    let w := d.whorl n
    let st := Reg.WHL_STAT n
    let ctl := Reg.WHL_CTL n
    let out := Reg.WHL_OUT n
    d.clocked →
    (w.beat = .none → exec (.imageLand n) s = .next s) ∧
    ((w.beat = .error ∨ ∃ ws, w.beat = .words ws ∧ imageOk ws = false) →
      Gives (.imageLand n) s fun e =>
        e.rbit st 10 = true ∧ e.raised Src.WHL_SLOTERR n ∧ (e.whorl n).beat = .none ∧ (e.whorl n).shadow = w.shadow ∧
        (e.whorl n).fresh = w.fresh ∧ d.keeps e [st]) ∧
    (∀ ws, w.beat = .words ws → imageOk ws = true →
      Gives (.imageLand n) s fun e =>
        (e.whorl n).shadow = ws ∧ (e.whorl n).fresh = true ∧ (e.whorl n).landed = true ∧ (e.whorl n).beat = .none ∧
        e.rbit st 11 = (w.fresh || d.rbit st 11) ∧ d.keeps e [st]) ∧
    (d.su.ready = false ∨ d.rbit ctl 0 = true ∨ d.rbit st 0 = true → exec (.whorlEnable n) s = .next s) ∧
    (d.su.ready = true → d.rbit ctl 0 = false → d.rbit st 0 = false → d.fld ctl 15 14 ≠ 1 →
      (d.slotOk n = false → exec (.whorlEnable n) s = .next (s.withDev (d.setRbit st 16 true))) ∧
      (d.slotOk n = true →
        Gives (.whorlEnable n) s fun e =>
          e.rbit ctl 0 = true ∧ e.rbit st 2 = false ∧ (e.whorl n).landed = false ∧ (e.whorl n).fresh = w.fresh ∧
          d.keeps e [ctl, st, out])) ∧
    (w.pendH = false → exec (.gateDelayEnd n .h) s = .next s) ∧
    (w.pendL = false → exec (.gateDelayEnd n .l) s = .next s) ∧
    (d.tripHit n = none →
      (w.pendH = true →
        Gives (.gateDelayEnd n .h) s fun e =>
          e.rbit out 0 = true ∧ e.rbit out 1 = d.rbit out 1 ∧ (e.whorl n).pendH = false ∧ d.keeps e [out]) ∧
      (w.pendL = true →
        Gives (.gateDelayEnd n .l) s fun e =>
          e.rbit out 1 = true ∧ e.rbit out 0 = d.rbit out 0 ∧ (e.whorl n).pendL = false ∧ d.keeps e [out])) ∧
    (w.dwell = none → exec (.dwellExpiry n) s = .next s) ∧
    (∀ c, w.dwell = some c →
      Gives (.dwellExpiry n) s fun e => (e.whorl n).leg = c ∧ (e.whorl n).dwell = none ∧ d.keeps e [out]) ∧
    (let f := v &&& 0x1F
     (bitsOf f 1 0 = 3 ∨ bitsOf f 3 2 = 3 → exec (.forceWrite n v) s = .next s) ∧
     (bitsOf f 1 0 = 2 → bitsOf f 3 2 = 2 → exec (.forceWrite n v) s = .next (s.withDev (d.setRbit st 9 true))) ∧
     (bitsOf f 1 0 ≠ 3 → bitsOf f 3 2 ≠ 3 → ¬(bitsOf f 1 0 = 2 ∧ bitsOf f 3 2 = 2) →
       (bitOf f 4 = true → d.fld ctl 15 14 ≠ 1 →
         Gives (.forceWrite n v) s fun e =>
           e.reg (Reg.WHL_FRC n) = f ∧ e.rbit st 3 = true ∧ (e.whorl n).frcWait = some f ∧ (e.whorl n).frc = w.frc ∧
           d.keeps e [Reg.WHL_FRC n, st]) ∧
       (bitOf f 4 = false ∨ d.fld ctl 15 14 = 1 →
         Gives (.forceWrite n v) s fun e =>
           e.reg (Reg.WHL_FRC n) = f ∧ e.rbit st 3 = false ∧ (e.whorl n).frcWait = none ∧ (e.whorl n).frc = f ∧
           (f = 5 → d.whlLive n = true → d.rbit st 1 = false → d.rbit st 2 = true → e.reg out = 0) ∧
           d.keeps e [Reg.WHL_FRC n, st, out]))) ∧
    (let j := d.fld ctl 7 4
     let c := 32 * d.fld (Reg.TB_CNT j) 23 0
     let a := d.fld (Reg.WHL_ACT n 0) 28 0
     let b := d.fld (Reg.WHL_ACT n 1) 28 0
     Gives (.pwmCompareEdge n fine) s fun e =>
       d.keeps e [out] ∧
       (w.refresh = false →
         (e.whorl n).pwm =
           (if d.rbit (Reg.TB_CTL j) 1 then
              (if d.rbit (Reg.TB_CNT j) 24 then decide (b < c - fine) else decide (a ≤ c + fine))
            else if d.rbit (Reg.TB_CNT j) 24 then decide (a ≤ c - fine ∧ c - fine < b)
            else decide (a ≤ c + fine ∧ c + fine < b))) ∧
       (w.refresh = true → 2 * (c + fine) < 6144 + d.fed n → (e.whorl n).pwm = false)) ∧
    (w.refreshLow = false → exec (.refreshLowEnd n) s = .next s) ∧
    (w.refreshLow = true → Gives (.refreshLowEnd n) s fun e => (e.whorl n).refreshLow = false ∧ d.keeps e [out])

/-- Trips and the bus comparators (R271 to R280): with no filter the TRIP pins show on lines 0 to 7, each asserted at
the level that POL gives it, and a Whorl outside blanking whose selected line is asserted latches its lowest line,
raises WHL_TRIP and turns off at once every output that its trip action does not hold on; the end of blanking lets an
asserted line trip; CLR sets CLRERR while a selected line is asserted and ends the trip at the next reload otherwise;
the chopper state follows the land's thresholds, and the overvoltage comparator its own and its line with OVEN. -/
def Obligations.Trips : Prop :=
  ∀ (n : Fin 64) (trips : BitVec 8) (land : Fin 4) (uv b : Nat) (s : State),
    let d := s.dev
    let w := d.whorl n
    let st := Reg.WHL_STAT n
    let out := Reg.WHL_OUT n
    let every := (List.range 64).map Reg.WHL_STAT ++ (List.range 64).map Reg.WHL_OUT
    d.clocked →
    (let lines := ~~~(trips ^^^ BitVec.ofNat 8 (d.fld Reg.WHL_PINCFG 7 0))
     d.fld Reg.WHL_PINCFG 11 8 = 0 → (∀ i, smGet (fun _ => none) d.md.pinAt i = none) →
     Gives (.tripLatch n trips) s fun e =>
      e.fld (Reg.WHL_LINES 0) 7 0 = lines.toNat ∧ d.keeps e (Reg.WHL_LINES 0 :: every) ∧
      ((d.setFld (Reg.WHL_LINES 0) 7 0 lines.toNat).tripHit n = some b → d.whlLive n = true → d.rbit st 1 = false →
        w.blanking = false →
        e.rbit st 1 = true ∧ e.fld st 30 24 = b ∧ e.raised Src.WHL_TRIP n ∧
        (e.rbit out 0 = true → d.fld (Reg.WHL_TRIP n) 11 10 = 2) ∧ (e.rbit out 1 = true → d.fld (Reg.WHL_TRIP n) 11 10 = 1))) ∧
    (w.blanking = false → exec (.blankingEnd n) s = .next s) ∧
    (w.blanking = true →
      (d.tripHit n = none →
        exec (.blankingEnd n) s = .next (s.withDev (d.modWhorl n fun x => { x with blanking := false }))) ∧
      (d.tripHit n = some b → d.whlLive n = true → d.rbit st 1 = false →
        Gives (.blankingEnd n) s fun e =>
          e.rbit st 1 = true ∧ e.fld st 30 24 = b ∧ e.raised Src.WHL_TRIP n ∧ d.keeps e [st, out])) ∧
    (d.rbit st 1 = false ∨ w.clearing = true → exec (.tripClear n) s = .next s) ∧
    (d.rbit st 1 = true → w.clearing = false →
      (d.tripHit n = some b → exec (.tripClear n) s = .next (s.withDev (d.setRbit st 8 true))) ∧
      (d.tripHit n = none → d.fld (Reg.WHL_CTL n) 15 14 ≠ 1 →
        exec (.tripClear n) s = .next (s.withDev (d.modWhorl n fun x => { x with clearing := true })))) ∧
    (let r := Reg.WHL_BUS land
     (Gives (.chopperStateChange land uv) s fun e =>
       e.rbit Reg.WHL_BUSST (4 + land) =
         (if d.fld r 19 10 * 3000000 ≤ uv * 1024 then true
          else if uv * 1024 ≤ d.fld r 9 0 * 3000000 then false else d.rbit Reg.WHL_BUSST (4 + land)) ∧
       d.keeps e (Reg.WHL_BUSST :: every)) ∧
     (Gives (.busOvervoltage land uv) s fun e =>
       e.rbit Reg.WHL_BUSST land = decide (d.fld r 29 20 * 3000000 ≤ uv * 1024) ∧
       e.tripLine (72 + land) = (decide (d.fld r 29 20 * 3000000 ≤ uv * 1024) && d.rbit r 31) ∧
       d.keeps e (Reg.WHL_BUSST :: Reg.WHL_LINES 2 :: every)))

/-! ### The gate-drive ports (R12 to R16, R281 to R306) -/

/-- Switching a leg (R13, R16, R281 to R288, R297): both switches on, and any command to a die that does not hear it,
do nothing; any other command is taken, and no two sections come to conduct together; a turn-on that nothing holds off
conducts once the other section's floor has passed and waits for it otherwise; a turn-off waits for the minimum pulse,
is soft after a trip, or at full strength where the configuration says so, and immediate else; the waits end; an adaptation window opens with ADPN x 16 turn-ons, adjusts
its counts by one toward the target and writes CAL when it closes. What a turn-on that waits for its floor does is
read as notes/assumptions/69.md says. -/
def Obligations.PortSwitching : Prop :=
  ∀ (n : Fin 64) (sec : Section) (w : AdaptWindow) (h l trip on : Bool) (t : Nat) (s : State),
    let d := s.dev
    let p := d.port n
    let x := p.sec sec
    let y := p.sec (otherSec sec)
    let st := pStat n
    let cal := pCal n
    let turnOn := Instr.gateCommand n (decide (sec = .h)) (decide (sec = .l)) false
    (p.linkLost = true ∨ p.linkHold = true ∨ p.order.isSome = true → exec (.gateCommand n h l trip) s = .next s) ∧
    exec (.gateCommand n true true trip) s = .next s ∧
    (d.clocked = true → p.linkLost = false → p.linkHold = false → p.order = none →
      (¬(h = true ∧ l = true) →
        Gives (.gateCommand n h l trip) s fun e =>
          (e.port n).h.cmd = h ∧ (e.port n).l.cmd = l ∧ d.keeps e [st] ∧ d.keepsLegs e [n] ∧
          (¬(p.h.on = true ∧ p.l.on = true) → ¬((e.port n).h.on = true ∧ (e.port n).l.on = true))) ∧
      (x.cmd = false → y.cmd = false → x.on = false → p.test = none → d.heldOff n sec = false →
        Gives turnOn s fun e =>
          ((e.port n).sec sec).cmd = true ∧ ((e.port n).sec sec).on = d.floorPassed n y ∧
          (d.floorPassed n y = false → ((e.port n).sec sec).floorWait = true) ∧ (e.port n).sec (otherSec sec) = y ∧
          d.keeps e [st] ∧ d.keepsLegs e [n]) ∧
      (x.cmd = false → y.cmd = true → x.on = false → y.on = true → y.offWait = false → y.young = false → p.test = none →
        d.heldOff n sec = false →
        Gives turnOn s fun e =>
          ((e.port n).sec sec).cmd = true ∧ ((e.port n).sec sec).on = false ∧ ((e.port n).sec sec).floorWait = true ∧
          ((e.port n).sec (otherSec sec)).on = false ∧ ((e.port n).sec (otherSec sec)).offAt = some d.now ∧
          d.keeps e [st] ∧ d.keepsLegs e [n]) ∧
      (x.cmd = true → y.cmd = false → x.on = true → x.offWait = false →
        (x.young = true → d.now < x.cmdAt + minPulseTicks n →
          Gives (.gateCommand n false false false) s fun e =>
            ((e.port n).sec sec).on = true ∧ ((e.port n).sec sec).offWait = true ∧ ((e.port n).sec sec).cmd = false ∧
            (e.port n).sec (otherSec sec) = y ∧ d.keeps e [] ∧ d.keepsLegs e [n]) ∧
        (x.young = false ∨ x.cmdAt + minPulseTicks n ≤ d.now →
          Gives (.gateCommand n false false false) s fun e =>
            ((e.port n).sec sec).on = false ∧ ((e.port n).sec sec).offAt = some d.now ∧
            ((e.port n).sec sec).cmd = false ∧ (e.port n).sec (otherSec sec) = y ∧ d.keeps e [] ∧ d.keepsLegs e [n]) ∧
        (32 ≤ n.val ∨ d.dieBit n (pCfg n) 11 = true →
          Gives (.gateCommand n false false true) s fun e =>
            ((e.port n).sec sec).on = false ∧ ((e.port n).sec sec).soft = true ∧ ((e.port n).sec sec).softAt = d.now ∧
            (e.port n).sec (otherSec sec) = y ∧ d.keeps e [] ∧ d.keepsLegs e [n]) ∧
        (n.val < 32 → d.dieBit n (pCfg n) 11 = false → x.soft = false →
          Gives (.gateCommand n false false true) s fun e =>
            ((e.port n).sec sec).on = false ∧ ((e.port n).sec sec).soft = false ∧ e.gateDrive n sec = .sink 8 ∧
            (e.port n).sec (otherSec sec) = y ∧ d.keeps e [] ∧ d.keepsLegs e [n]))) ∧
    (Gives (.minimumPulseEnd n sec) s fun e =>
      ((e.port n).sec sec).young = false ∧ ((e.port n).sec sec).offWait = false ∧
      ((e.port n).sec sec).on = (x.on && !x.offWait) ∧ (e.port n).sec (otherSec sec) = y ∧ d.keeps e [] ∧ d.keepsLegs e [n]) ∧
    (x.floorWait = false → exec (.deadTimeFloorEnd n sec) s = .next s) ∧
    (x.floorWait = true → y.on = false → y.soft = false →
      Gives (.deadTimeFloorEnd n sec) s fun e =>
        ((e.port n).sec sec).on = true ∧ ((e.port n).sec sec).floorWait = false ∧ ((e.port n).sec sec).young = true ∧
        (e.port n).sec (otherSec sec) = y ∧ d.keeps e [] ∧ d.keepsLegs e [n]) ∧
    (Gives (.dieBlankingEnd n sec) s fun e =>
      ((e.port n).sec sec).armed = (x.cmd && (x.on || x.floorWait)) ∧ ((e.port n).sec sec).on = x.on ∧
      (e.port n).sec (otherSec sec) = y ∧ d.keeps e [] ∧ d.keepsLegs e [n]) ∧
    (Gives (.softTurnOffEnd n sec) s fun e =>
      ((e.port n).sec sec).soft = false ∧
      (x.soft = true → ((e.port n).sec sec).offAt = some d.now ∧ ((e.port n).sec sec).clamp = d.clamps n ∧
        e.gateDrive n sec = .sink (if n.val < 32 then 8 else 16)) ∧
      (e.port n).sec (otherSec sec) = y ∧ d.keeps e [] ∧ d.keepsLegs e [n]) ∧
    (let adpn := d.dieFld n (pAdpctl n) 31 24
     let due : AdaptWindow → Bool := fun w => match w with
       | .start => d.rbit (Reg.WHL_STAT n) 2 && d.dieBit n (pAdpctl n) 0 && decide (adpn ≠ 0)
       | .recovery => !p.hold && d.dieBit n (pAdpctl n) 1 && decide (adpn ≠ 0)
       | .test => decide (d.mode = 10) && d.dieBit n (pAdpctl n) 2
     (p.h.win = none → p.l.win = none → due w = true →
       Gives (.adaptationWindowOpen n w) s fun e =>
         (e.port n).h.win = some ⟨w, 16 * adpn⟩ ∧ (e.port n).l.win = some ⟨w, 16 * adpn⟩ ∧
         e.fld cal 31 16 = d.dieFld n cal 15 0 ∧ e.fld cal 15 0 = d.fld cal 15 0 ∧ d.keeps e [cal] ∧ d.keepsLegs e [n]) ∧
     (p.h.win.isSome = true ∨ p.l.win.isSome = true ∨ due w = false →
       exec (.adaptationWindowOpen n w) s = .next s)) ∧
    (let closed := fun (e : Dev) =>
       ((e.port n).sec sec).win = none ∧
       (∀ b, e.fld cal (calPos sec b + 3) (calPos sec b) = d.fld cal (calPos sec b + 19) (calPos sec b + 16) ∧
         e.fld cal (calPos sec b + 19) (calPos sec b + 16) = fullCode n) ∧ d.keepsLegs e [n]
     (x.win = some ⟨w, 0⟩ → w ≠ .test →
       Gives (.adaptationWindowClose n w) s fun e =>
         closed e ∧ (y.win = none → e.fld cal (calPos (otherSec sec) true + 7) (calPos (otherSec sec) true) =
           d.fld cal (calPos (otherSec sec) true + 7) (calPos (otherSec sec) true)) ∧ d.keeps e [cal]) ∧
     (∀ k, x.win = some ⟨.test, k⟩ → d.mode ≠ 10 ∨ d.dieBit n (pAdpctl n) 2 = false →
       Gives (.adaptationWindowClose n .test) s fun e =>
         closed e ∧ d.keeps e [cal, st, Reg.NVM_STAT] ∧
         (if d.rbit Reg.THM_STAT 8 = true ∧ d.rbit Reg.GOV_STAT 9 = false then
            ∃ r, e.fl.due = d.fl.due ++ [r] ∧ r.kind = 3
          else e.rbit st 25 = true))) ∧
    (p.h.win = none → p.l.win = none → exec (.adaptationWindowClose n w) s = .next s) ∧
    (let tgt := if on then d.dieFld n (pAdptgt n) 8 0 else d.dieFld n (pAdptgt n) 24 16
     let band := if n.val < 32 then d.dieFld n (pAdpctl n) 15 8 else d.dieFld n (pAdpctl n) 23 16
     let meas := if sec = .h then pMeasH n else pMeasL n
     let k := calPos sec on + 16
     let seg := d.fld cal (k + 3) k
     let ns := min t 511
     (x.win = none → exec (.edgeMeasured n sec on (some t)) s = .next s ∧ exec (.edgeMeasured n sec on none) s = .next s) ∧
     (x.win.isSome = true →
       exec (.edgeMeasured n sec on none) s = .next (s.withDev (d.setRbit st 15 true)) ∧
       (Gives (.edgeMeasured n sec on (some t)) s fun e =>
          (if on then e.fld meas 8 0 else e.fld meas 24 16) = ns ∧
          (tgt + band < ns → seg < fullCode n → e.fld cal (k + 3) k = seg + 1) ∧
          (ns ≤ tgt + band → tgt ≤ ns + band → e.fld cal (k + 3) k = seg) ∧
          (ns + band < tgt → (if n.val < 32 then 1 else 0) < seg → e.fld cal (k + 3) k = seg - 1) ∧
          d.keeps e [meas, cal, st] ∧ d.keepsLegs e [])))

/-- Protection of a leg (R295 to R303, R306): a short circuit at an armed comparator turns both sections off, holds
the leg, counts and reports it, and waits for its retry or latches; a retry counts a try and re-arms; the tries fall
to 0 after a quiet time; REARM ends a latch and is ignored on a leg that is not latched; an off-state self-test starts
on an idle leg, aborts on a leg in use, and ends with PASS, or with FAIL and its report; CFGP falls when the
configuration is delivered. When a section that waits for its floor is armed is read as notes/assumptions/69.md says.
-/
def Obligations.PortProtection : Prop :=
  ∀ (n : Fin 64) (sec : Section) (sel : BitVec 3) (s : State),
    let d := s.dev
    let p := d.port n
    let st := pStat n
    let cal := pCal n
    let queued := fun (e : Dev) (x : SrcInst) => x ∈ smGet (fun _ => []) e.pt.urgent n
    let own := if sec = .h then 0 else 1
    ((p.sec sec).armed = false ∨ p.test = some own → exec (.shortCircuitDetect n sec) s = .next s) ∧
    ((p.sec sec).armed = true → p.test ≠ some own →
      Gives (.shortCircuitDetect n sec) s fun e =>
        (e.port n).h.on = false ∧ (e.port n).l.on = false ∧ ((e.port n).sec sec).soft = true ∧ (e.port n).hold = true ∧
        e.rbit st own = true ∧ e.rbit st 9 = true ∧
        e.fld (pCnt n) 15 0 = min 65535 (d.fld (pCnt n) 15 0 + 1) ∧ queued e (pSrc n Src.HVP_SC Src.LVP_SC) ∧
        (d.tries n < d.nretry n → (e.port n).retryWait = true ∧ e.rbit st 2 = d.rbit st 2) ∧
        (d.nretry n ≤ d.tries n → (e.port n).retryWait = false ∧ e.rbit st 2 = true ∧
          queued e (pSrc n Src.HVP_SCLAT Src.LVP_SCLAT)) ∧
        d.keeps e [st, pCnt n] ∧ d.keepsLegs e [n]) ∧
    (p.retryWait = false → exec (.retryWaitEnd n) s = .next s) ∧
    (p.retryWait = true →
      (d.tries n < d.nretry n →
        Gives (.retryWaitEnd n) s fun e =>
          (e.port n).hold = false ∧ (e.port n).retryWait = false ∧ (e.port n).line = false ∧ e.tries n = d.tries n + 1 ∧
          e.fld st 1 0 = 0 ∧ d.keeps e [st, cal] ∧ d.keepsLegs e [n]) ∧
      (d.nretry n ≤ d.tries n →
        Gives (.retryWaitEnd n) s fun e =>
          (e.port n).hold = true ∧ (e.port n).retryWait = false ∧ e.rbit st 2 = true ∧
          pSrc n Src.HVP_SCLAT Src.LVP_SCLAT ∈ e.reports ∧ d.keeps e [st] ∧ d.keepsLegs e [n])) ∧
    (p.hold = true → exec (.triesReset n) s = .next s) ∧
    (p.hold = false → Gives (.triesReset n) s fun e => e.tries n = 0 ∧ e.port n = p ∧ d.keeps e [st]) ∧
    (d.rbit st 2 = false ∨ d.rbit st 23 = true ∨ d.mode = 9 ∨ d.supplyLow n = true → exec (.rearm n) s = .next s) ∧
    (d.clocked = true → d.rbit st 2 = true → d.rbit st 23 = false → d.mode ≠ 9 → d.supplyLow n = false →
      Gives (.rearm n) s fun e =>
        e.rbit st 2 = false ∧ e.rbit st 6 = false ∧ e.tries n = 0 ∧ e.fld st 1 0 = 0 ∧ (e.port n).hold = false ∧
        (e.port n).line = false ∧ d.keeps e [st, cal] ∧ d.keepsLegs e [n]) ∧
    (d.clocked = true → exec (.portCountClear n) s = .next (s.withDev (d.setReg (pCnt n) 0))) ∧
    (d.clocked = true → Gives (.portConfigDelivered n) s fun e =>
      e.lsafe n = d.fld (pCfg n) 13 12 ∧ e.nretry n = d.fld (pCfg n) 18 16 ∧ (∀ a, a ≠ st → e.dieWord n a = d.reg a) ∧
      (e.port n).h = p.h ∧ (e.port n).l = p.l ∧ e.rbit st 24 = false ∧ d.keeps e [st] ∧ d.keepsLegs e [n]) ∧
    ((if n.val < 32 then 6 else 4) < sel.toNat → exec (.selfTestStart n sel) s = .next s) ∧
    (let idle := fun (x : Sect) =>
       x.cmd = false ∧ x.on = false ∧ x.soft = false ∧ x.offWait = false ∧ x.floorWait = false
     d.clocked = true → sel.toNat ≤ (if n.val < 32 then 6 else 4) →
      (idle p.h → idle p.l →
        Gives (.selfTestStart n sel) s fun e =>
          (e.port n).test = some sel.toNat ∧ e.rbit st 22 = true ∧ d.keeps e [st] ∧ d.keepsLegs e [n]) ∧
      (¬idle p.h ∨ ¬idle p.l → exec (.selfTestStart n sel) s = .next (s.withDev (d.setFld st 21 20 3)))) ∧
    (p.test = none → ∀ r, exec (.selfTestEnd n r) s = .next s) ∧
    (p.test.isSome = true →
      (Gives (.selfTestEnd n .tripped) s fun e =>
        (e.port n).test = none ∧ e.rbit st 22 = false ∧ e.fld st 21 20 = 1 ∧ e.reports = d.reports ∧ d.keeps e [st] ∧
        d.keepsLegs e [n]) ∧
      (Gives (.selfTestEnd n .silent) s fun e =>
        (e.port n).test = none ∧ e.rbit st 22 = false ∧ e.fld st 21 20 = 2 ∧ e.rbit st 13 = true ∧
        pSrc n Src.HVP_STFAIL Src.LVP_STFAIL ∈ e.reports ∧ d.keeps e [st] ∧ d.keepsLegs e [n]))

/-- Links, supplies and temperature of the leg dies (R14, R15, R290 to R294, R304): a status frame shows whether the
sections' supplies stand beyond their release levels; a die without its link takes and holds its safe state and raises its link fault, and the hold stands when
the link is back; an undervoltage turns its section, leg or die off at once, on HV at full strength, shows it, and sends its urgent code; the
supplies, the temperature and the bus release; a low bootstrap supply acts only while the high side is commanded on.
When the hold after a lost link ends is read as notes/assumptions/54.md says. -/
def Obligations.PortSupplies : Prop :=
  ∀ (n : Fin 32) (die : Fin 36) (k : Fin 4) (sec : Section) (rail : GateRail) (mv vpos vneg : Int) (hi lo : Rails)
    (s : State),
    let d := s.dev
    let m := 32 + n.val
    let lv := legsOf (32 + k.val)
    let off := fun (e : Dev) (i : Nat) => (e.port i).h.on = false ∧ (e.port i).l.on = false
    let queued := fun (e : Dev) (i : Nat) (x : SrcInst) => x ∈ smGet (fun _ => []) e.pt.urgent i
    ((d.port n).linkLost = true → exec (.statusFrame ⟨n, hi, lo⟩) s = .next s) ∧
    (d.clocked = true → (d.port n).linkLost = false →
      Gives (.statusFrame ⟨n, hi, lo⟩) s fun e =>
        (e.port n).frameH = d.railsBack n hi.vpos hi.vneg ∧ (e.port n).frameL = d.railsBack n lo.vpos lo.vneg ∧
        (e.port n).h = (d.port n).h ∧ (e.port n).l = (d.port n).l ∧
        d.keeps e [] ∧ d.keepsLegs e [n]) ∧
    (Gives (.linkLossSafeState die) s fun e =>
      (∀ i ∈ legsOf die, (e.port i).linkLost = true ∧ (e.port i).linkHold = true ∧
        (d.lsafe i = 0 → off e i ∧ (e.port i).h.cmd = false ∧ (e.port i).l.cmd = false) ∧
        (d.lsafe i = 1 → (e.port i).h.on = false ∧ (e.port i).l.cmd = true) ∧
        (d.lsafe i = 2 → (e.port i).l.on = false ∧ (e.port i).h.cmd = true)) ∧
      (if die.val < 32 then e.raised Src.HVP_LINK die else e.raised Src.LVP_LINK (8 * (die.val - 32))) ∧
      d.keeps e ((legsOf die).map pStat) ∧ d.keepsLegs e (legsOf die)) ∧
    (d.clocked = true → Gives (.legLinkRestored die) s fun e =>
      (∀ i ∈ legsOf die, (e.port i).linkLost = false ∧ (e.port i).linkHold = (d.port i).linkHold) ∧
      d.keeps e [] ∧ d.keepsLegs e (legsOf die)) ∧
    (d.railTrips n rail mv = false ∨ (d.port n).test = some (uvTestSel sec rail) →
      exec (.sectionUndervoltage n ⟨sec, rail, mv⟩) s = .next s) ∧
    (d.dieFld n (pCfg n) 1 0 = 0 → rail = .vpos → (d.railTrips n rail mv = true ↔ mv < 11000)) ∧
    (rail = .vneg → (d.railTrips n rail mv = true ↔ d.dieBit n (pCfg n) 9 = true ∧ -1500 < mv)) ∧
    (d.dieFld n (pCfg n) 1 0 = 0 → d.dieBit n (pCfg n) 9 = true →
      (d.railsBack n vpos vneg = true ↔ 12000 < vpos ∧ vneg < -2000)) ∧
    (d.railTrips n rail mv = true → (d.port n).test ≠ some (uvTestSel sec rail) →
     Gives (.sectionUndervoltage n ⟨sec, rail, mv⟩) s fun e =>
      ((e.port n).sec sec).bad = true ∧ ((e.port n).sec sec).on = false ∧
      (if sec = .h then (e.port n).frameH = false else (e.port n).frameL = false) ∧
      (((d.port n).sec sec).soft = false → e.gateDrive n sec = .sink 8) ∧
      (e.port n).sec (otherSec sec) = (d.port n).sec (otherSec sec) ∧ e.rbit (pStat n) (if sec = .h then 3 else 4) = true ∧
      e.rbit (pStat n) 11 = true ∧ e.fld (pCnt n) 31 16 = min 65535 (d.fld (pCnt n) 31 16 + 1) ∧
      queued e n (srcInst Src.HVP_UV n) ∧ d.keeps e [pStat n, pCnt n] ∧ d.keepsLegs e [n]) ∧
    (d.railsBack n vpos vneg = false → exec (.supplyRelease (.hv n sec vpos vneg)) s = .next s) ∧
    (d.railsBack n vpos vneg = true →
     Gives (.supplyRelease (.hv n sec vpos vneg)) s fun e =>
      ((e.port n).sec sec).bad = false ∧ ((e.port n).sec sec).on = ((d.port n).sec sec).on ∧ d.keeps e [] ∧
      d.keepsLegs e [n]) ∧
    (Gives (.supplyRelease (.lv k)) s fun e =>
      (∀ i ∈ lv, (e.port i).gdBad = false ∧ (e.port i).h = (d.port i).h) ∧ d.keeps e [] ∧ d.keepsLegs e lv) ∧
    ((∃ i ∈ lv, (d.port i).test = some 3) → exec (.vgd12Undervoltage k) s = .next s) ∧
    ((∀ i ∈ lv, (d.port i).test ≠ some 3) →
     Gives (.vgd12Undervoltage k) s fun e =>
      (∀ i ∈ lv, (e.port i).gdBad = true ∧ off e i ∧ e.rbit (pStat i) 4 = true ∧ e.rbit (pStat i) 10 = true) ∧
      queued e (32 + 8 * k.val) (srcInst Src.LVP_GDUV (8 * k.val)) ∧ d.keeps e (lv.map pStat) ∧ d.keepsLegs e lv) ∧
    ((d.port m).h.cmd = false ∨ (d.port m).test = some 2 → exec (.bootstrapUndervoltage n) s = .next s) ∧
    ((d.port m).h.cmd = true → (d.port m).test ≠ some 2 →
      Gives (.bootstrapUndervoltage n) s fun e =>
        (e.port m).bootBad = true ∧ (e.port m).bootHold = true ∧ (e.port m).h.on = false ∧
        (d.rbit (Reg.WHL_CTL m) 1 = false → (e.port m).l.on = false) ∧ e.rbit (pStat m) 3 = true ∧ e.rbit (pStat m) 8 = true ∧
        queued e m (srcInst Src.LVP_BOOTUV n) ∧ d.keeps e [pStat m, pCnt m] ∧ d.keepsLegs e [m]) ∧
    ((d.port m).gdBad = true → exec (.bootstrapRecovered n) s = .next s) ∧
    ((d.port m).gdBad = false →
      Gives (.bootstrapRecovered n) s fun e =>
        (e.port m).bootBad = false ∧ (e.port m).bootHold = (d.port m).bootHold ∧ e.rbit (pStat m) 3 = false ∧
        d.keeps e [pStat m] ∧ d.keepsLegs e [m]) ∧
    (let own : Nat → Nat := fun i => if i < 32 then 6 else 4
     ((∃ i ∈ legsOf die, (d.port i).test = some (own i)) → exec (.legOvertemperature die true) s = .next s) ∧
     ((∀ i ∈ legsOf die, (d.port i).test ≠ some (own i)) →
      Gives (.legOvertemperature die true) s fun e =>
      (∀ i ∈ legsOf die, (e.port i).otBad = true ∧ off e i ∧ e.rbit (pStat i) 5 = true ∧ e.rbit (pStat i) 12 = true) ∧
      (if die.val < 32 then queued e die (srcInst Src.HVP_OT die)
       else queued e (32 + 8 * (die.val - 32)) (srcInst Src.LVP_OT (8 * (die.val - 32)))) ∧
      d.keeps e ((legsOf die).map pStat) ∧ d.keepsLegs e (legsOf die))) ∧
    (Gives (.legOvertemperature die false) s fun e =>
      (∀ i ∈ legsOf die, (e.port i).otBad = false ∧ (e.port i).h = (d.port i).h) ∧ d.keeps e [] ∧ d.keepsLegs e (legsOf die)) ∧
    (Gives (.lvBusLimit k) s fun e =>
      (∀ i ∈ lv, (e.port i).busBad = true ∧ off e i ∧ e.rbit (pStat i) 7 = true ∧ e.rbit (pStat i) 11 = true) ∧
      e.raised Src.LVP_BUSOV (8 * k.val) ∧ d.keeps e (lv.map pStat) ∧ d.keepsLegs e lv) ∧
    (Gives (.lvBusResume k) s fun e =>
      (∀ i ∈ lv, (e.port i).busBad = false ∧ (e.port i).h = (d.port i).h) ∧ d.keeps e [] ∧ d.keepsLegs e lv)

/-! ### Position (R323 to R330) and the control pilot (R388, R389) -/

/-- Position inputs (R324 to R329, R389): with no filter one step of A or B counts up or down by the quadrature order
and INV, a change of both is an error, a rising index copies the count, or in PWM-in mode shows in the next record alone, a Hall state is taken or reported as illegal,
edges of PWM-in inputs time the cycle and saturate; with a filter a new level waits; an excitation output takes the
step its timebase stands at; the pilot's level shows; units that are off only follow their inputs, and a unit is
enabled with a clean record when its beat lies in a plain hank, else with CFGERR. The sense of a quadrature unit's and
of a Hall unit's direction is the model's (notes/assumptions/49.md, 68.md). -/
def Obligations.PositionInputs : Prop :=
  ∀ (n : Fin 4) (h : Fin 10) (o : Fin 2) (k : Fin 64) (a b : Bool) (st : BitVec 3) (u : PosUnit) (s : State),
    let d := s.dev
    let x := d.enc n
    let y := d.hall h
    let ec := Reg.POS_ECTL n
    let es := Reg.POS_ESTAT n
    let cnt := Reg.POS_ECNT n
    let hs := Reg.POS_HSTAT h
    d.clocked →
    (x.pa = none → x.pb = none → x.pz = none →
      (d.fld ec 7 4 ≠ 0 →
        (Gives (.encoderEdge n a b) s fun e =>
          (e.enc n).a = x.a ∧ (e.enc n).b = x.b ∧ ((e.enc n).pa = if a = x.a then none else some d.now) ∧
          ((e.enc n).pb = if b = x.b then none else some d.now) ∧ d.keeps e []) ∧
        (Gives (.encoderIndex ⟨n, a⟩) s fun e =>
          (e.enc n).z = x.z ∧ ((e.enc n).pz = if a = x.z then none else some d.now) ∧ d.keeps e [])) ∧
      (d.fld ec 7 4 = 0 →
        (d.rbit ec 0 = false ∨ (a = x.a ∧ b = x.b) →
          Gives (.encoderEdge n a b) s fun e =>
            (e.enc n).a = a ∧ (e.enc n).b = b ∧ (e.enc n).edgeAt = x.edgeAt ∧ e.reports = d.reports ∧ d.keeps e []) ∧
        (d.rbit ec 0 = false ∨ a = false ∨ x.z = true →
          Gives (.encoderIndex ⟨n, a⟩) s fun e => (e.enc n).z = a ∧ (e.enc n).zSince = x.zSince ∧ d.keeps e []) ∧
        (d.rbit ec 0 = true → d.rbit ec 1 = true → a = true → x.z = false →
          Gives (.encoderIndex ⟨n, a⟩) s fun e => (e.enc n).z = true ∧ (e.enc n).zSince = true ∧ d.keeps e []) ∧
        (d.rbit ec 0 = true → d.rbit ec 1 = false →
          (a ≠ x.a → b ≠ x.b →
            Gives (.encoderEdge n a b) s fun e =>
              e.rbit es 2 = true ∧ e.raised Src.POS_ENCERR n ∧ (e.enc n).a = a ∧ (e.enc n).b = b ∧
              (e.enc n).errSince = true ∧ d.keeps e [es]) ∧
          (x.zAt ≠ some d.now → a ≠ x.a → b = x.b →
            Gives (.encoderEdge n a b) s fun e =>
              e.reg cnt = (if xor (decide (a ≠ b)) (d.rbit ec 2) then d.reg cnt + 1 else d.reg cnt - 1) ∧ (e.enc n).a = a ∧
              (e.enc n).edgeAt = d.now ∧ (e.enc n).gap = min (d.now - x.edgeAt) 0xFFFFFF ∧ d.keeps e [cnt]) ∧
          (x.zAt ≠ some d.now → a = x.a → b ≠ x.b →
            Gives (.encoderEdge n a b) s fun e =>
              e.reg cnt = (if xor (decide (b = a)) (d.rbit ec 2) then d.reg cnt + 1 else d.reg cnt - 1) ∧ (e.enc n).b = b ∧
              (e.enc n).edgeAt = d.now ∧ (e.enc n).gap = min (d.now - x.edgeAt) 0xFFFFFF ∧ d.keeps e [cnt]) ∧
          (a = true → x.z = false →
            Gives (.encoderIndex ⟨n, a⟩) s fun e =>
              e.reg (Reg.POS_EZCNT n) = d.reg cnt ∧ e.reg cnt = (if d.rbit ec 3 then 0 else d.reg cnt) ∧
              e.rbit es 1 = true ∧ (e.enc n).zSince = true ∧ d.keeps e [Reg.POS_EZCNT n, cnt, es])) ∧
        (d.rbit ec 0 = true → d.rbit ec 1 = true → a ≠ x.a →
          Gives (.encoderEdge n a b) s fun e =>
            (e.enc n).a = a ∧ (e.enc n).sat = false ∧ (e.enc n).edgeAt = d.now ∧ d.keeps e [] ∧
            (a = false → (e.enc n).hiNow = min (d.now - x.riseAt) 0xFFFFFF) ∧
            (a = true → (e.enc n).riseAt = d.now ∧
              (x.risen = true → (e.enc n).high = x.hiNow ∧ (e.enc n).per = min (d.now - x.riseAt) 0xFFFFFF))))) ∧
    (d.rbit ec 0 = true → d.rbit ec 1 = true →
      Gives (.pwmInSaturate (.encoder n)) s fun e => (e.enc n).sat = true ∧ (e.enc n).a = x.a ∧ d.keeps e []) ∧
    (d.rbit ec 0 = false ∨ d.rbit ec 1 = false → exec (.pwmInSaturate (.encoder n)) s = .next s) ∧
    (y.inp < 8 → y.inp ≠ st.toNat → (∀ i, y.since i = none) →
      (d.fld (Reg.POS_HCTL h) 7 4 ≠ 0 →
        Gives (.hallEdge h st) s fun e => (e.hall h).inp = y.inp ∧ (e.hall h).edges = y.edges ∧ d.keeps e []) ∧
      (d.fld (Reg.POS_HCTL h) 7 4 = 0 →
        (d.rbit (Reg.POS_HCTL h) 0 = false →
          Gives (.hallEdge h st) s fun e => (e.hall h).inp = st.toNat ∧ (e.hall h).edges = y.edges ∧ d.keeps e []) ∧
        (d.rbit (Reg.POS_HCTL h) 0 = true →
          (st = 0 ∨ st = 7 →
            Gives (.hallEdge h st) s fun e =>
              e.rbit hs 1 = true ∧ e.raised Src.POS_HALLILL h ∧ (e.hall h).illSince = true ∧
              (e.hall h).edges = y.edges ∧ e.fld hs 10 8 = d.fld hs 10 8 ∧ d.keeps e [hs]) ∧
          (st ≠ 0 → st ≠ 7 → d.fld hs 10 8 ≠ st.toNat →
            Gives (.hallEdge h st) s fun e =>
              e.fld hs 10 8 = st.toNat ∧ (e.hall h).edges = (y.edges + 1) % 2 ^ 24 ∧ (e.hall h).edgeAt = d.now ∧
              (hallPlace st.toNat = (hallPlace (d.fld hs 10 8) + 1) % 6 → (e.hall h).dir = true) ∧
              (hallPlace (d.fld hs 10 8) = (hallPlace st.toNat + 1) % 6 → (e.hall h).dir = false) ∧
              e.reports = d.reports ∧ d.keeps e [hs]) ∧
          (st ≠ 0 → st ≠ 7 → d.fld hs 10 8 = st.toNat →
            Gives (.hallEdge h st) s fun e =>
              (e.hall h).inp = st.toNat ∧ (e.hall h).edges = y.edges ∧ d.keeps e [])))) ∧
    (d.rbit Reg.CPC_CTL 0 = true → Gives (.pwmInSaturate .pilot) s fun e => e.ps.cpc.sat = true ∧ d.keeps e []) ∧
    (d.rbit Reg.CPC_CTL 0 = false → exec (.pwmInSaturate .pilot) s = .next s) ∧
    (Gives (.controlPilotEdge a) s fun e =>
      e.rbit Reg.CPC_STAT 4 = a ∧ d.keeps e [Reg.CPC_STAT] ∧
      (d.fld Reg.CPC_CTL 7 4 = 0 → d.ps.cpc.pa = none →
        e.ps.cpc.a = a ∧
        (d.rbit Reg.CPC_CTL 0 = false → e.ps.cpc.edgeAt = d.ps.cpc.edgeAt) ∧
        (d.rbit Reg.CPC_CTL 0 = true → a ≠ d.ps.cpc.a → e.ps.cpc.edgeAt = d.now ∧
          (a = true → d.ps.cpc.risen = true → e.ps.cpc.high = d.ps.cpc.hiNow))) ∧
      (d.fld Reg.CPC_CTL 7 4 ≠ 0 → d.ps.cpc.pa = none → e.ps.cpc.a = d.ps.cpc.a)) ∧
    (let on := d.rbit (Reg.POS_XCTL o) 0 = true ∨ d.rbit (Reg.POS_XSTAT o) 0 = true
     let j := d.fld (Reg.POS_XCTL o) 7 4
     let there := d.tbRuns j = true ∧ d.fld (Reg.TB_CNT j) 23 0 = k.val * ((d.tbPer j + 1) / 64)
     (on → there →
       Gives (.excitationStep o k) s fun e =>
         (e.exc o).step = some k.val ∧ e.rbit (Reg.POS_XSTAT o) 1 = true ∧ d.keeps e [Reg.POS_XSTAT o]) ∧
     (¬on ∨ ¬there → exec (.excitationStep o k) s = .next s)) ∧
    (let place : PosUnit → Nat × Nat × Nat × Nat := fun u => match u with
       | .encoder e => (Reg.POS_ECTL e, Reg.POS_ESTAT e, Reg.POS_EADDR e, 4)
       | .hall h => (Reg.POS_HCTL h, Reg.POS_HSTAT h, Reg.POS_HADDR h, 3)
       | .excitation x => (Reg.POS_XCTL x, Reg.POS_XSTAT x, 0, 2)
       | .pilot => (Reg.CPC_CTL, Reg.CPC_STAT, Reg.CPC_ADDR, 3)
     let c := (place u).1
     let r := (place u).2.1
     let beat := d.fld (place u).2.2.1 23 4 * 16
     (d.rbit c 0 = true ∨ d.rbit r 0 = true → exec (.positionUnitEnable u) s = .next s) ∧
     (d.rbit c 0 = false → d.rbit r 0 = false →
       ((∀ x, u ≠ .excitation x) → d.plainBeat beat = false →
         exec (.positionUnitEnable u) s = .next (s.withDev (d.setRbit r (place u).2.2.2 true))) ∧
       ((∀ x, u ≠ .excitation x) → d.plainBeat beat = true →
         Gives (.positionUnitEnable u) s fun e => e.rbit c 0 = true ∧ d.keeps e [c, r]) ∧
       (u = .encoder n → d.plainBeat beat = true →
         Gives (.positionUnitEnable u) s fun e =>
           (e.enc n).edgeAt = d.now ∧ (e.enc n).gap = 0 ∧ (e.enc n).a = x.a ∧ d.keeps e [c]) ∧
       (u = .hall h → d.plainBeat beat = true → 1 ≤ y.inp → y.inp ≤ 6 →
         Gives (.positionUnitEnable u) s fun e =>
           (e.hall h).edgeAt = d.now ∧ e.fld hs 10 8 = y.inp ∧ e.reports = d.reports) ∧
       (u = .excitation o →
         let j := d.fld (Reg.POS_XCTL o) 7 4
         (d.rbit (Reg.TB_CTL j) 1 = false → (d.fld (Reg.TB_PER j) 23 0 + 1) % 64 = 0 →
           exec (.positionUnitEnable u) s = .next (s.withDev (d.setRbit (Reg.POS_XCTL o) 0 true))) ∧
         (d.rbit (Reg.TB_CTL j) 1 = true ∨ (d.fld (Reg.TB_PER j) 23 0 + 1) % 64 ≠ 0 →
           exec (.positionUnitEnable u) s = .next (s.withDev (d.setRbit (Reg.POS_XSTAT o) 2 true))))))

/-! ### The library functions (R336 to R402, R449, R450, R484) -/

/-- A function without a sequencer hears none of a sequencer's events (R336, R339). A sequencer's period and the
interlocks (R337 to R342, R369, R400, R449, R450): with a command line that reads without error the period counter
goes up by one; a retired function is RETIRED, a function in its safe state FAULTED with CAUSE SAFE, and an idle motor
function with RUN leaves IDLE for CATCH in RUN or DEGRADED; a period that does not commit advances nothing; only its
own sequencer, its status beat, its handoff line and its duty slots change where no land serves it, and of a leg
nothing but the hold after a lost link; the interlock evaluation writes the permit word of the only valid function,
both bits 1 without rules. The loop that runs the sequencer, its entries and the layout of the handoff line are the
model's choices (notes/assumptions/57.md, 72.md). -/
def Obligations.SequencerPeriod : Prop :=
  (∀ (f : Fin 32) (z : Int) (a b c : Nat) (es : List (Int × Int)) (prim : Option PrimObs) (lead : Word)
     (sums seqs : List Nat) (codes : SlotCodes) (o : SeqObs) (s : State),
     (s.dev.fnEntry f = none ∨ (s.dev.fn f).desc = none) →
     ∀ i ∈ [Instr.sequencerPeriod f o, .catchMeasurementEnd f es prim a z, .brakeEnd f z, .alignEnd f, .handover f lead,
         .startFailure f, .stopEnd f z, .lockedRotor f z, .rotorLoss f es z, .rotorRecovery f es, .recatchTimeout f,
         .feedbackLoss f sums codes seqs z, .topologyDetect f a b c, .gridLock f es, .prechargeTimeout f, .gridLoss f,
         .gridResync f, .rectifierThreshold f z, .pilotLoss f, .chargeGateClose f, .actuatorArrival f, .homingTimeout f,
         .actuatorStall f z, .obstructionRetry f, .toothTimeout f, .permitDrop f z, .orderlyStopRampEnd f es z],
       exec i s = .next s) ∧
  (∀ (f : Fin 32) (o : SeqObs) (x : FnEntry) (k : FnDesc) (s : State),
     let d := s.dev
     let a := x.cmdl.toNat
     let slot := fun n => d.fld (Reg.WHL_SLOT n) 23 4 * 16
     d.fnEntry f = some x → d.quiet → d.clocked →
     (a % 16 = 0 → (d.fn f).desc = some k → d.isCut (d.fnReq x) = false → (∀ i < 4, d.ecc (a + 4 * i) = .good) →
       (o.committed = false →
         Gives (.sequencerPeriod f o) s fun e => (∀ g, e.fn g = d.fn g) ∧ e.pt = d.pt ∧ d.sameMem e) ∧
       (o.committed = true →
         Gives (.sequencerPeriod f o) s fun e =>
           (e.fn f).pcnt = (d.fn f).pcnt + 1 ∧
           (d.rbit Reg.DST_FRET f = true → (e.fn f).st = 9) ∧
           (d.rbit Reg.DST_FRET f = false → d.rbit Reg.DST_FSAFE f = true → (d.fn f).st ≠ 8 → (d.fn f).st ≠ 9 →
             (e.fn f).st = 8 ∧ (e.fn f).cause = 7) ∧
           (d.rbit Reg.DST_FRET f = false → d.rbit Reg.DST_FSAFE f = false → k.kind = .motor → k.mo.curve = none →
             (d.fn f).st = 0 → (d.fn f).waitN = 0 → (d.fn f).clrDue = false → (d.fn f).ordRamp = false →
             (d.fn f).c.legsDue = false → (d.fn f).c.curveOff = false → d.word a = 1 →
             bitOf (d.word (a + 12)) 9 = false → d.mode = 6 ∨ d.mode = 7 → (e.fn f).st = 1 ∧ (e.fn f).cause = 0) ∧
           (∀ g, g ≠ f.val → e.fn g = d.fn g) ∧
           (∀ n, (∃ b, e.port n = { d.port n with linkHold := b }) ∧ (n ∉ portsOf x → e.port n = d.port n)) ∧
           (∀ r, (r < 0x37000000 ∨ 0x37001000 ≤ r) → (∀ p, r ≠ Reg.SPN_MBSTAT p ∧ r ≠ Reg.SPN_FLAGS p) →
             e.reg r = d.reg r) ∧
           (k.land = none → ∀ y, (∀ n ∈ portsOf x, y < slot n ∨ slot n + 16 ≤ y) →
             (y < x.statl.toNat ∨ x.statl.toNat + 16 ≤ y) → (∀ h, d.handLine x = some h → y < h ∨ h + 64 ≤ y) →
             e.byte y = d.byte y))) ∧
     (a % 4 = 0 → (∀ g, g < 32 → g ≠ f.val → d.fnEntry g = none) → d.pl.rules = [] → d.reg Reg.GPIO_DIR &&& d.reg Reg.GPIO_MSEL = 0 →
       d.storeRefusal reqDistaff (a + 8) 4 false = none → d.blockedLine reqDistaff (a + 8) 4 = none →
       let n := ((d.fn f).evals + 1) % 65536
       let w : Word := BitVec.ofNat 32 (n * 65536 + 3)
       Gives .interlockEvaluation s fun e =>
         (e.fn f).evals = n ∧
         (∀ y, e.byte y = if a + 8 ≤ y ∧ y < a + 12 then w.extractLsb' (8 * (y - (a + 8))) 8 else d.byte y) ∧
         ∀ r, r < 0x37000000 ∨ 0x37001000 ≤ r → e.reg r = d.reg r))

/-- The events of a motor function's sequencer (R345 to R366): the catch measurement, the brake, the alignment, the
handover, the failed start, the stop, the locked rotor, the lost rotor and its recovery, and a lost feedback, each
with the conditions its rule gives and the state and CAUSE it leads to; where the conditions do not hold, and in IDLE,
the event does nothing; a locked rotor yields to the conditions that rank before it; only the function's sequencer and
its duty slots change, with a current slot's substitution its current loop too. The entries are those of the
function's description (notes/assumptions/57.md); the speed used without a position primary (72.md) and BRAKE before
the alignment of a turning machine (90.md) are the model's choices. An event is judged with what it carries (85.md). -/
def Obligations.MotorEvents : Prop :=
  ∀ (f : Fin 32) (v : Int) (es : List (Int × Int)) (obs : Option PrimObs) (vline : Nat) (vbus : Int) (lead : Word)
    (sums seqs : List Nat) (codes : SlotCodes) (ent : FnEntry) (k : FnDesc) (s : State),
    let d := s.dev
    let x := d.fn f
    let rest := if needsAlign k x then 2 else 4
    let fails := fun (e : Dev) (cause : Nat) =>
      (e.fn f).att = x.att + 1 ∧ (e.fn f).cause = cause ∧ (k.nstart ≤ x.att + 1 → (e.fn f).st = 8) ∧
        (x.att + 1 < k.nstart → (e.fn f).st = 0 ∧ (e.fn f).waitN = k.tstrt) ∧ d.onlyLegs e f ent
    d.fnEntry f = some ent → x.desc = some k → k.kind = .motor → d.quiet → d.clocked →
    (x.st = 1 → x.recatch = false →
      let prim := d.primSpeed k obs
      let w := catchSpeed k es prim
      (9 * vbus ≤ 10 * (vline : Int) →
        Gives (.catchMeasurementEnd f es obs vline vbus) s fun e =>
          (e.fn f).st = 1 ∧ (e.fn f).recatch = true ∧ d.onlyLegs e f ent) ∧
      (10 * (vline : Int) < 9 * vbus → catchDone k x prim = true →
        Gives (.catchMeasurementEnd f es obs vline vbus) s fun e =>
          (e.fn f).st =
            (if w.natAbs < k.wr k.nzero then rest
              else if w.natAbs < k.wr k.ncatch ∨ (needsAlign k x = true ∧ k.sensorless = false) then 6
              else if x.opposes w then 5 else 4) ∧
          (w.natAbs < k.wr k.nzero → needsAlign k x = true → (e.fn f).wi = 0 ∧ (e.fn f).c.theta = k.mo.thal) ∧
          (k.wr k.nzero ≤ w.natAbs → k.wr k.ncatch ≤ w.natAbs → needsAlign k x = false ∨ k.sensorless = true →
            (e.fn f).dem = w ∧ (e.fn f).c.seedW = w ∧ (e.fn f).c.theta = (catchTrack k 4 es).1.theta ∧
              (e.fn f).c.blendN = k.mo.ttq) ∧
          d.onlyLegs e f ent) ∧
      (10 * (vline : Int) < 9 * vbus → catchDone k x prim = false →
        exec (.catchMeasurementEnd f es obs vline vbus) s = .next s)) ∧
    (x.st = 6 → x.c.brkOff = 0 →
      (v.natAbs < k.wr k.nzero →
        Gives (.brakeEnd f v) s fun e =>
          (e.fn f).st = 6 ∧ (e.fn f).c.brkOff = max 1 (k.per 1000) ∧ d.onlyLegs e f ent) ∧
      (k.wr k.nzero ≤ v.natAbs → k.tbrk ≤ x.timer → Gives (.brakeEnd f v) s fun e => fails e 1) ∧
      (k.wr k.nzero ≤ v.natAbs → x.timer < k.tbrk → exec (.brakeEnd f v) s = .next s)) ∧
    (x.st = 2 →
      (k.tal ≤ x.timer →
        Gives (.alignEnd f) s fun e =>
          (k.sensorless = true → (e.fn f).st = 3 ∧ (e.fn f).wi = 0) ∧
          (k.sensorless = false → (e.fn f).st = 4 ∧ (e.fn f).aligned = true ∧ (e.fn f).c.theta = k.mo.thal ∧
            (e.fn f).c.encOff = k.mo.thal) ∧
          d.onlyFn e f) ∧
      (x.timer < k.tal → exec (.alignEnd f) s = .next s)) ∧
    (x.st = 3 ∨ (x.st = 5 ∧ x.openLoop = true ∧ x.run = true) →
      (handsOver k x = true → k.nhop ≤ x.c.hoN →
        Gives (.handover f lead) s fun e =>
          (e.fn f).st = 4 ∧ (e.fn f).openLoop = false ∧ (e.fn f).c.blendN = k.mo.tho ∧ d.onlyFn e f) ∧
      (handsOver k x = false ∨ x.c.hoN < k.nhop → exec (.handover f lead) s = .next s)) ∧
    (x.st = 3 →
      (x.atNho k = true → k.thof ≤ x.c.nhoN → Gives (.startFailure f) s fun e => fails e 1) ∧
      (x.atNho k = false ∨ x.c.nhoN < k.thof → exec (.startFailure f) s = .next s)) ∧
    (x.st = 5 →
      let stands := if x.openLoop then x.wi = 0 else v.natAbs < k.wr k.nstop ∧ k.tstop ≤ x.c.stopN
      (x.run = false → stands →
        Gives (.stopEnd f v) s fun e => (e.fn f).st = (if x.hold then 7 else 0) ∧ (e.fn f).openLoop = false ∧
          (x.hold = true → (e.fn f).dem = 0) ∧ d.onlyLegs e f ent) ∧
      (x.run = true ∨ ¬stands → exec (.stopEnd f v) s = .next s)) ∧
    (x.st = 4 → d.outranked f ent k = true → exec (.lockedRotor f v) s = .next s) ∧
    (x.st = 4 → d.outranked f ent k = false →
      let low := k.sensorless = true ∧ x.c.valid = false ∧ v.natAbs < k.wr k.nol
      let locked := (k.tqlk < x.tq.natAbs ∧ low) ∨ (k.tlock ≤ x.c.stillN ∧ 0 < x.c.stillN)
      (locked →
        Gives (.lockedRotor f v) s fun e =>
          (k.lkact = false → (e.fn f).st = 8 ∧ (e.fn f).cause = 2 ∧ (e.fn f).flag 17 = false ∧ d.onlyLegs e f ent) ∧ (k.lkact = true → fails e 2)) ∧
      (¬locked → low →
        Gives (.lockedRotor f v) s fun e => (e.fn f).st = 3 ∧ (e.fn f).wi = v ∧ d.onlyFn e f) ∧
      (¬locked → ¬low → exec (.lockedRotor f v) s = .next s)) ∧
    (losableOf k x = true → (x.c.executes k es).2 = true → x.c.lossDue = false →
      Gives (.rotorLoss f es vbus) s fun e => (e.fn f).c.lossDue = true ∧ (e.fn f).st = x.st ∧ d.onlyLegs e f ent) ∧
    (losableOf k x = false ∨ (x.c.executes k es).2 = false ∨ x.c.lossDue = true →
      Gives (.rotorLoss f es vbus) s fun e =>
        (e.fn f).c.lossDue = x.c.lossDue ∧ (e.fn f).c.valid = (x.c.executes k es).1.valid ∧ (e.fn f).st = x.st ∧ d.onlyFn e f) ∧
    (x.st = 1 → x.recatch = true →
      let there := if x.c.asc then k.mo.tasc + k.per 1000 ≤ x.timer else k.per 1500 ≤ x.timer
      let r := if x.c.asc then ascAngle k es else ((catchTrack k 3 es).1.theta, emfSpeed k 3 es)
      (es ≠ [] → there →
        Gives (.rotorRecovery f es) s fun e =>
          (e.fn f).st = 4 ∧ (e.fn f).c.theta = r.1 ∧ (e.fn f).dem = r.2 ∧ (e.fn f).recatch = false ∧
            (e.fn f).c.blendN = k.mo.ttq ∧ d.onlyFn e f) ∧
      (es = [] ∨ ¬there → exec (.rotorRecovery f es) s = .next s) ∧
      (k.per 20000 ≤ x.c.recN →
        Gives (.recatchTimeout f) s fun e =>
          (e.fn f).st = 8 ∧ (e.fn f).cause = 3 ∧ (e.fn f).recatch = false ∧ d.onlyLegs e f ent) ∧
      (x.c.recN < k.per 20000 → exec (.recatchTimeout f) s = .next s)) ∧
    (x.st = 0 →
      ∀ i ∈ [Instr.catchMeasurementEnd f es obs vline vbus, .brakeEnd f v, .alignEnd f, .handover f lead, .startFailure f,
          .stopEnd f v, .lockedRotor f v, .rotorRecovery f es, .recatchTimeout f, .feedbackLoss f sums codes seqs vbus],
        exec i s = .next s) ∧
    (x.quiet = false →
      let pos := d.posFails k x sums = true ∧ x.flag 16 = false
      let cur := slotFails k codes seqs = true ∧ x.c.sub = none
      (slotLostOf k x = true →
        Gives (.feedbackLoss f sums codes seqs vbus) s fun e => (e.fn f).st = 8 ∧ (e.fn f).cause = 5 ∧ d.onlyLegs e f ent) ∧
      (slotLostOf k x = false →
        (pos → Gives (.feedbackLoss f sums codes seqs vbus) s fun e => (e.fn f).c.posLost = true ∧ (e.fn f).st = x.st ∧ d.onlyFn e f) ∧
        (¬pos → cur →
          Gives (.feedbackLoss f sums codes seqs vbus) s fun e =>
            (e.fn f).c.sub = some (codes.slot, 0) ∧ (e.fn f).st = x.st ∧ (∀ g, g ≠ f.val → e.fn g = d.fn g) ∧ e.pt = d.pt ∧ d.sameMem e ∧
            (∀ l, (d.loopsOf ent).getLast? = some l →
              (e.lp l.1 l.2).libSub = [codes.slot] ∧
                ((d.spn l.1).spec = false → e.loopFlags l.1 l.2 = d.loopFlags l.1 l.2 ||| fTSUB))) ∧
        (¬pos → ¬cur → exec (.feedbackLoss f sums codes seqs vbus) s = .next s)))

/-- The events of converters and actuators (R372 to R376, R386, R392, R395 to R399, R402, R484): the topology and the
lock of a grid function, its loss and its return, the synchronous rectifier's two thresholds, the end of charging;
arrival, homing, stall, obstruction, tooth and permit of an actuator; and the end of the orderly-stop ramp, each with
the conditions, the state and the CAUSE that its rule gives; where the conditions do not hold the event does nothing. A move
that its permit refuses after homing stops and holds (90.md).
A pilot period of 1 ms is presumed (notes/assumptions/81.md); the stall while homing is read as 82.md says. An event
is judged with what it carries (85.md). -/
def Obligations.ConverterAndActuatorEvents : Prop :=
  ∀ (f : Fin 32) (v pos vbus : Int) (p1 p2 p3 : Nat) (es : List (Int × Int)) (ent : FnEntry) (k : FnDesc) (s : State),
    let d := s.dev
    let x := d.fn f
    let y := { x with pos := pos }
    let others := fun (e : Dev) => (∀ g, g ≠ f.val → e.fn g = d.fn g) ∧ e.pt = d.pt ∧ (k.land = none → d.onlyFn e f)
    let arrived := fun (e : Dev) => (e.fn f).st = (if x.hold then 7 else 0) ∧ d.onlyLegs e f ent
    let legs := fun (e : Dev) => (∀ g, g ≠ f.val → e.fn g = d.fn g) ∧ e.pt = d.pt ∧ (k.land = none → d.onlyLegs e f ent)
    d.fnEntry f = some ent → x.desc = some k → d.quiet → d.clocked →
    (k.kind = .grid → x.st = 1 → k.bothTopologies = true → k.per 40000 ≤ x.timer →
      let three := inWindow k p1 = true ∧ inWindow k p2 = true ∧ inWindow k p3 = true
      let single := inWindow k p1 = true ∧ 10 * p2 < k.vgn ∧ 10 * p3 < k.vgn
      (three →
        Gives (.topologyDetect f p1 p2 p3) s fun e => (e.fn f).topo = some false ∧ (e.fn f).st = 1 ∧ d.onlyFn e f) ∧
      (¬three → single →
        Gives (.topologyDetect f p1 p2 p3) s fun e => (e.fn f).topo = some true ∧ (e.fn f).st = 1 ∧ d.onlyFn e f) ∧
      (¬three → ¬single → exec (.topologyDetect f p1 p2 p3) s = .next s)) ∧
    (k.kind ≠ .grid ∨ x.st ≠ 1 ∨ k.bothTopologies = false ∨ x.timer < k.per 40000 →
      exec (.topologyDetect f p1 p2 p3) s = .next s) ∧
    (k.kind = .grid →
      (let ys := es.reverse.take k.nlock
       let due := ys ≠ [] ∧ k.nlock ≤ es.length
       (due → (∀ y ∈ ys, locks k y = true) →
         Gives (.gridLock f es) s fun e => (e.fn f).flag 24 = true ∧ (e.fn f).st = x.st ∧ d.onlyFn e f) ∧
       (due → (∀ y ∈ ys, locks k y = false) →
         Gives (.gridLock f es) s fun e =>
           (e.fn f).flag 24 = false ∧ (e.fn f).flag 25 = false ∧ (e.fn f).st = x.st ∧ d.onlyFn e f) ∧
       (¬due ∨ ((∃ y ∈ ys, locks k y = true) ∧ ∃ y ∈ ys, locks k y = false) → exec (.gridLock f es) s = .next s)) ∧
      (x.st = 1 → x.resync = false → k.tpre ≤ x.timer →
        Gives (.prechargeTimeout f) s fun e =>
          (e.fn f).st = 8 ∧
          (e.fn f).cause = (if k.bothTopologies && x.topo.isNone then 8 else if x.flag 24 then 0xA else 9) ∧ legs e) ∧
      (x.timer < k.tpre ∨ x.resync = true ∨ x.st ≠ 1 → exec (.prechargeTimeout f) s = .next s) ∧
      (x.st = 3 ∨ x.st = 4 → 0 < x.c.outN → k.cv.tgrid ≤ x.c.outN →
        Gives (.gridLoss f) s fun e =>
          (e.fn f).st = 1 ∧ (e.fn f).cause = 8 ∧ (e.fn f).resync = true ∧ (e.fn f).topo = none ∧ legs e) ∧
      ((x.st ≠ 3 ∧ x.st ≠ 4) ∨ x.c.outN = 0 ∨ x.c.outN < k.cv.tgrid → exec (.gridLoss f) s = .next s) ∧
      (x.st ≠ 1 ∨ x.resync = false ∨ x.c.inN = 0 ∨ x.c.inN < k.cv.tresync → exec (.gridResync f) s = .next s) ∧
      (x.st = 1 → x.resync = true → 0 < x.c.inN → k.cv.tresync ≤ x.c.inN →
        Gives (.gridResync f) s fun e => (e.fn f).resync = false ∧ (e.fn f).st = 1 ∧ (e.fn f).timer = 0 ∧ d.onlyFn e f)) ∧
    (k.kind = .bridge →
      (v < k.isrlo → Gives (.rectifierThreshold f v) s fun e => (e.fn f).rectOff = true ∧ d.onlyLegs e f ent) ∧
      (k.isrlo ≤ v → k.isrhi < v → Gives (.rectifierThreshold f v) s fun e => (e.fn f).rectOff = false ∧ d.onlyFn e f) ∧
      (k.isrlo ≤ v → v ≤ k.isrhi → exec (.rectifierThreshold f v) s = .next s)) ∧
    (k.charging = true →
      (0 < x.c.pilotBad → k.per 3000 ≤ x.c.pilotBad →
        (x.st = 3 ∨ x.st = 4 →
          Gives (.pilotLoss f) s fun e => (e.fn f).st = 5 ∧ (e.fn f).decCause = 0xC ∧ others e) ∧
        (x.st = 5 → Gives (.pilotLoss f) s fun e => (e.fn f).st = 5 ∧ (e.fn f).decCause = x.decCause ∧ others e)) ∧
      (x.c.pilotBad = 0 ∨ x.c.pilotBad < k.per 3000 → exec (.pilotLoss f) s = .next s) ∧
      (d.chargeGate k x = false → x.st = 3 ∨ x.st = 4 ∨ x.st = 5 →
        Gives (.chargeGateClose f) s fun e => (e.fn f).st = 5 ∧ (e.fn f).decCause = 0xB ∧ others e) ∧
      (d.chargeGate k x = true → exec (.chargeGateClose f) s = .next s)) ∧
    (k.charging = false ∨ (x.st ≠ 3 ∧ x.st ≠ 4 ∧ x.st ≠ 5) →
      exec (.pilotLoss f) s = .next s ∧ exec (.chargeGateClose f) s = .next s) ∧
    (k.kind = .actuator →
      let homeEnd : Int := if k.ehome1 then 2 ^ 31 - 1 else 0
      let homed := fun (e : Dev) => (e.fn f).pos = homeEnd ∧ (e.fn f).flag 28 = true
      let goes := (x.target - homeEnd).natAbs ≤ k.tpos ∨ d.permitted f (decide (homeEnd < x.target)) = true
      (x.st = 4 → 10 ≤ x.c.arrN → Gives (.actuatorArrival f) s fun e => arrived e) ∧
      (x.c.arrN < 10 ∨ x.st ≠ 4 → exec (.actuatorArrival f) s = .next s) ∧
      (x.st = 3 → k.ac.thome ≤ x.timer →
        Gives (.homingTimeout f) s fun e => (e.fn f).st = 8 ∧ (e.fn f).cause = 0xF ∧ d.onlyLegs e f ent) ∧
      (x.st ≠ 3 ∨ x.timer < k.ac.thome → exec (.homingTimeout f) s = .next s) ∧
      (stalled k x = false ∨ (x.st ≠ 3 ∧ x.st ≠ 4) → exec (.actuatorStall f pos) s = .next s) ∧
      (stalled k x = true →
        (x.st = 3 →
          (goes → Gives (.actuatorStall f pos) s fun e =>
            homed e ∧ (e.fn f).st = 4 ∧ (e.fn f).start = homeEnd ∧ (e.fn f).up = decide (homeEnd < x.target) ∧ d.onlyFn e f) ∧
          (¬goes → Gives (.actuatorStall f pos) s fun e =>
            homed e ∧ (e.fn f).st = 7 ∧ (e.fn f).flag 31 = true ∧ d.onlyLegs e f ent)) ∧
        (x.st = 4 → x.blocked = false →
          let tooth := k.park = true ∧ x.up = true ∧ (k.ptooth : Int) ≤ pos
          (nearEnd k y = true →
            Gives (.actuatorStall f pos) s fun e =>
              arrived e ∧ (e.fn f).flag 29 = true ∧ (e.fn f).pos = (if x.up then 2 ^ 31 - 1 else 0)) ∧
          (nearEnd k y = false → tooth →
            Gives (.actuatorStall f pos) s fun e => (e.fn f).flag 30 = true ∧ (e.fn f).st = 4 ∧ d.onlyFn e f) ∧
          (nearEnd k y = false → ¬tooth → x.retries < k.nobs →
            Gives (.actuatorStall f pos) s fun e =>
              (e.fn f).blocked = true ∧ (e.fn f).st = 4 ∧ (e.fn f).pos = pos ∧ d.onlyLegs e f ent) ∧
          (nearEnd k y = false → ¬tooth → k.nobs ≤ x.retries →
            Gives (.actuatorStall f pos) s fun e => (e.fn f).st = 8 ∧ (e.fn f).cause = 2 ∧ d.onlyLegs e f ent))) ∧
      (x.st = 3 ∨ x.st = 4 →
        let ends := x.st = 4 ∧ stalled k x = true ∧ nearEnd k y = true
        let homes := x.st = 3 ∧ stalled k x = true
        let back := d.permitted f (decide (pos < x.start)) = true
        (d.permitted f (movesUp k y) = true → exec (.permitDrop f pos) s = .next s) ∧
        (d.permitted f (movesUp k y) = false →
          (ends → Gives (.permitDrop f pos) s fun e => arrived e ∧ (e.fn f).flag 29 = true) ∧
          (homes → goes → Gives (.permitDrop f pos) s fun e => homed e ∧ (e.fn f).st = 4 ∧ d.onlyFn e f) ∧
          (homes → ¬goes → Gives (.permitDrop f pos) s fun e =>
            homed e ∧ (e.fn f).st = 7 ∧ (e.fn f).flag 31 = true ∧ d.onlyLegs e f ent) ∧
          (¬ends → ¬homes → k.pdrop = 2 →
            Gives (.permitDrop f pos) s fun e => (e.fn f).flag 31 = true ∧ (e.fn f).st = x.st ∧ d.onlyFn e f) ∧
          (¬ends → ¬homes → k.pdrop = 1 → back →
            Gives (.permitDrop f pos) s fun e =>
              (e.fn f).flag 31 = true ∧ (e.fn f).target = x.start ∧ (e.fn f).returning = true ∧ (e.fn f).st = 4 ∧
              d.onlyFn e f) ∧
          (¬ends → ¬homes → k.pdrop ≠ 2 → (k.pdrop = 1 → ¬back) →
            Gives (.permitDrop f pos) s fun e =>
              (e.fn f).flag 31 = true ∧ (e.fn f).pos = pos ∧ (e.fn f).st = 7 ∧ d.onlyLegs e f ent)))) ∧
    (x.blocked = true → k.per 100000 ≤ x.c.blkN →
      Gives (.obstructionRetry f) s fun e =>
        (e.fn f).blocked = false ∧ (e.fn f).retries = x.retries + 1 ∧ (e.fn f).st = x.st ∧ d.onlyFn e f) ∧
    (x.blocked = false ∨ x.c.blkN < k.per 100000 → exec (.obstructionRetry f) s = .next s) ∧
    (x.st = 4 → x.flag 30 = true → k.ac.ttooth ≤ x.c.tooN →
      Gives (.toothTimeout f) s fun e => (e.fn f).st = 7 ∧ (e.fn f).flag 30 = true ∧ (e.fn f).c.tooth = true ∧ d.onlyFn e f) ∧
    (x.st ≠ 4 ∨ x.flag 30 = false ∨ x.c.tooN < k.ac.ttooth → exec (.toothTimeout f) s = .next s) ∧
    (let past := x.c.ordAt + 38400 * d.fld Reg.THM_ORD 7 0 ≤ d.now
     (x.ordRamp = true → x.st ≠ 9 → past →
       Gives (.orderlyStopRampEnd f es vbus) s fun e =>
         (e.fn f).st = 0 ∧ (e.fn f).cause = 0xB ∧ (e.fn f).ordRamp = false ∧ legs e) ∧
     (x.ordRamp = false ∨ x.st = 9 ∨ ¬past → exec (.orderlyStopRampEnd f es vbus) s = .next s))

/-! ### Tuning and Reels (R403 to R417) -/

/-- The injection generator (R404, R405, R407, R408) and the Reels (R414, R415, R417): EN starts the generator in
SERVICE when its target loop runs untrapped and its capture hank fits, and sets CFGERR otherwise; a signal that is
over ends with DONE, an abort with ABORT, INJ_VAL 0; ARM starts recording in a fitting hank from its start, else it
sets CFGERR; a software trigger is taken by a Reel open to it; STOP ends a recording with DONE, and with nothing held
where the Skein takes its words at once. -/
def Obligations.TuningAndReels : Prop :=
  ∀ (n : Fin 8) (s : State),
    let d := s.dev
    let t := d.injTarget
    let c := d.hank (d.fld Reg.INJ_CAP 7 0)
    let fits := d.rbit (Reg.SPN_CTL t.1) t.2 && !d.rbit (Reg.SPN_LSTAT t.1 t.2) 6 &&
      (!d.rbit Reg.INJ_CTL 6 || (c.v && decide (c.kind = 6) && decide (c.writer = 132)))
    let st := Reg.REL_STAT n
    let hn := d.fld (Reg.REL_HANK n) 7 0
    let h := d.hank hn
    let room := (d.fld (Reg.REL_PRE n) 19 0 + d.fld (Reg.REL_POST n) 19 0 + 1) * 8
    d.clocked →
    (d.mode ≠ 10 ∨ d.rbit Reg.INJ_CTL 0 = true ∨ d.rbit Reg.INJ_STAT 0 = true → exec .injectionEnable s = .next s) ∧
    (d.mode = 10 → d.rbit Reg.INJ_CTL 0 = false → d.rbit Reg.INJ_STAT 0 = false →
      (fits = false → exec .injectionEnable s = .next (s.withDev (d.setRbit Reg.INJ_STAT 6 true))) ∧
      (fits = true →
        Gives .injectionEnable s fun e =>
          e.rbit Reg.INJ_CTL 0 = true ∧ e.rbit Reg.INJ_STAT 1 = true ∧ e.fld Reg.INJ_STAT 15 8 = 0 ∧ e.inj.live = true ∧
          e.inj.enAt = d.now ∧ e.inj.started = false ∧ d.keeps e [Reg.INJ_CTL, Reg.INJ_STAT])) ∧
    (let rest := fun (e : Dev) =>
       (d.rbit Reg.INJ_CTL 6 = false → d.keeps e [Reg.INJ_VAL, Reg.INJ_STAT]) ∧
       (d.quiet → ∀ r, r < 0x37000000 ∨ 0x37001000 ≤ r → r ≠ Reg.INJ_VAL → r ≠ Reg.INJ_STAT → e.reg r = d.reg r)
     (d.inj.live = true → d.inj.stopDue = true →
       Gives .injectionStop s fun e =>
         e.reg Reg.INJ_VAL = 0 ∧ e.rbit Reg.INJ_STAT 1 = false ∧ e.rbit Reg.INJ_STAT 2 = true ∧ e.inj.live = false ∧ rest e) ∧
     (d.inj.live = true → d.inj.abortDue = true →
       Gives .injectionAbort s fun e =>
         e.reg Reg.INJ_VAL = 0 ∧ e.rbit Reg.INJ_STAT 1 = false ∧ e.rbit Reg.INJ_STAT 3 = true ∧ e.inj.live = false ∧ rest e)) ∧
    (d.inj.live = false ∨ d.inj.stopDue = false → exec .injectionStop s = .next s) ∧
    (d.inj.live = false ∨ d.inj.abortDue = false → exec .injectionAbort s = .next s) ∧
    (d.rbit (Reg.REL_CTL n) 0 = false → exec (.reelArm n) s = .next s) ∧
    (d.rbit (Reg.REL_CTL n) 0 = true →
      (h.bytes < room ∨ h.v = false ∨ h.kind ≠ 6 ∨ h.writer ≠ reqReel n →
        exec (.reelArm n) s = .next (s.withDev (d.setRbit st 5 true))) ∧
      (room ≤ h.bytes → h.v = true → h.kind = 6 → h.writer = reqReel n →
        Gives (.reelArm n) s fun e =>
          e.rbit st 1 = true ∧ e.rbit st 2 = false ∧ e.reg (Reg.REL_LOST n) = 0 ∧
          e.reel n = { Reel.reset with held := (d.reel n).held.take (d.reel n).raised, raised := (d.reel n).raised } ∧
          e.hank hn = { h with wr := 0, rd := 0, fill := 0 } ∧ d.keeps e [st, Reg.REL_LOST n])) ∧
    (d.reelOpen n = true → d.fld (Reg.REL_CTL n) 5 3 = 0 →
      exec (.reelSoftwareTrigger n) s = .next (s.withDev (d.modReel n fun r => { r with swTrig := true }))) ∧
    (d.reelOpen n = false ∨ d.fld (Reg.REL_CTL n) 5 3 ≠ 0 → exec (.reelSoftwareTrigger n) s = .next s) ∧
    (d.rbit st 1 = false → exec (.reelStop n) s = .next s) ∧
    (d.rbit st 1 = true →
      Gives (.reelStop n) s fun e =>
        e.rbit st 1 = false ∧ e.rbit st 3 = true ∧ e.rbit st 2 = d.rbit st 2 ∧ (e.reel n).post = none ∧
        ((d.reel n).held = [] → (e.reel n).held = [] ∧ d.sameMem e) ∧
        (d.quiet →
          ((d.reel n).raised = 0 → (∀ a m, d.blockedLine (reqReel n) a m = none) → (e.reel n).held = []) ∧
          ∀ r, r < 0x37000000 ∨ 0x37001000 ≤ r → r ≠ st → e.reg r = d.reg r))

/-! ### The Snarl and the Distaff's reactions (R418 to R450) -/

/-- Events (R418, R419, R421, R427, R428, R429, R430, R440): one event of a source that is not fixed shows in STICKY,
in FIRST only of a clean mask, counts in its window, and its reaction falls due, the severe one at the N-th event; a
cycle samples every pair, and one that read (1,0) in the last cycle too is no event again; a wire fault acts severely
at once with LINEFLT and counts as any event; a window closes once W has passed and discards its count; the latches
take STICKY and FIRST and are cleared by RCLR; the user sources are raised; an urgent code raises its source. -/
def Obligations.SnarlEvents : Prop :=
  ∀ (x : SrcInst) (evs : List SrcInst) (m : Master) (n : Fin 64) (v : Word) (s : State),
    let d := s.dev
    let i := x.src.toNat
    let r := d.countEvent x
    let code := if r.2 then d.sreact i else d.treact i
    let shown := Reg.SNL_STAT :: Reg.DST_FLT :: Reg.SNL_NOTE :: Reg.NVM_STAT ::
      ((List.range 8).map Reg.SNL_STICKY ++ (List.range 8).map Reg.SNL_FIRST)
    (d.clocked → srcOk x = true → x ∉ d.sn.high → d.reports = [] →
      Gives (.snarlEvent [x]) s fun e =>
        e.rbit (Reg.SNL_STICKY (i / 32)) (i % 32) = true ∧
        e.rbit (Reg.SNL_FIRST (i / 32)) (i % 32) = (d.snlClean || d.rbit (Reg.SNL_FIRST (i / 32)) (i % 32)) ∧
        e.rbit Reg.SNL_STAT 0 = false ∧ e.reports = [] ∧ e.sn.high = [x] ∧ e.snlCnt (cntKey x) = r.1 ∧
        e.sn.due = (if code = 0 then d.sn.due else d.sn.due ++ [⟨code, x, r.2⟩]) ∧
        (bitOf (d.scfg i) 14 = true → e.rbit Reg.DST_FLT 0 = true ∧ e.rbit Reg.DST_FLT 2 = true) ∧ d.keeps e shown) ∧
    (d.clocked → Gives (.snarlEvent evs) s fun e =>
      (∀ y ∈ d.reports ++ evs, srcOk y = true → y ∉ d.sn.high →
        e.rbit (Reg.SNL_STICKY (y.src.toNat / 32)) (y.src.toNat % 32) = true) ∧
      (∀ j < 256, (∀ y ∈ d.reports ++ evs, srcOk y = true → y ∉ d.sn.high → y.src.toNat ≠ j) →
        e.rbit (Reg.SNL_STICKY (j / 32)) (j % 32) = d.rbit (Reg.SNL_STICKY (j / 32)) (j % 32) ∧
        e.rbit (Reg.SNL_FIRST (j / 32)) (j % 32) = d.rbit (Reg.SNL_FIRST (j / 32)) (j % 32)) ∧
      (∀ y, (y ∉ d.reports ∧ y ∉ evs) ∨ y ∈ d.sn.high → e.snlCnt (cntKey y) = d.snlCnt (cntKey y)) ∧
      e.reports = [] ∧ e.sn.high = evs ∧ d.keeps e shown) ∧
    (srcOk x = false → exec (.wireFault x) s = .next s) ∧
    (d.clocked → srcOk x = true → x.src ≠ 0 →
      Gives (.wireFault x) s fun e =>
        e.rbit (Reg.SNL_STICKY (i / 32)) (i % 32) = true ∧ e.rbit (Reg.SNL_STICKY 0) 0 = true ∧
        e.snlCnt (cntKey x) = r.1 ∧
        e.sn.due = (if d.sreact i = 0 then d.sn.due else d.sn.due ++ [⟨d.sreact i, x, true⟩]) ∧ d.keeps e shown) ∧
    (let c := d.snlCnt (cntKey x)
     let past := c.start + windowUs (bitsOf (d.scfg i) 7 4) ≤ d.now / 480
     (d.clocked → c.opened = true → past → Gives (.countWindowExpiry x) s fun e =>
       e.snlCnt (cntKey x) = { c with opened := false, count := 0 } ∧ d.keeps e []) ∧
     (c.opened = false ∨ ¬past → exec (.countWindowExpiry x) s = .next s)) ∧
    (Gives .retentionLatchCopy s fun e =>
      (∀ j < 8, smGet (fun _ => 0) e.sn.latS j = smGet (fun _ => 0) d.sn.latS j ||| d.reg (Reg.SNL_STICKY j) ∧
        smGet (fun _ => 0) e.sn.latF j = smGet (fun _ => 0) d.sn.latF j ||| d.reg (Reg.SNL_FIRST j)) ∧ d.keeps e []) ∧
    (d.admits m → Gives (.retainedClear m) s fun e =>
      (∀ j < 8, e.reg (Reg.SNL_RSTK j) = 0 ∧ e.reg (Reg.SNL_RFST j) = 0) ∧ e.rbit Reg.SNL_STAT 1 = false ∧
      e.sn.latS = [] ∧ e.sn.latF = [] ∧
      d.keeps e (Reg.SNL_STAT :: ((List.range 8).map Reg.SNL_RSTK ++ (List.range 8).map Reg.SNL_RFST))) ∧
    (d.admits m → Gives (.userSourceRaise m v) s fun e =>
      (∀ j < 32, bitOf v j = true → e.raised (192 + j) 0) ∧ e.lastAccess = .ok ∧ d.keeps e []) ∧
    (smGet (fun _ => []) d.pt.urgent n = [] → exec (.urgentCode n) s = .next s) ∧
    (d.clocked → ∀ rest, smGet (fun _ => []) d.pt.urgent n = x :: rest →
      Gives (.urgentCode n) s fun e =>
        x ∈ e.reports ∧ smGet (fun _ => []) e.pt.urgent n = rest ∧
        (i ≠ Src.HVP_SC → i ≠ Src.LVP_SC → d.keeps e [] ∧ d.keepsLegs e []) ∧
        (i = Src.HVP_SC ∨ i = Src.LVP_SC → (e.port n).scAt = some d.now ∧ (e.port n).line = (d.port n).hold))

/-- Reactions (R422, R423, R430 to R433, R485): DSAFE enters SAFE from any of BOOT to SERVICE with every function in
its safe state; FSAFE puts exactly the functions that use the instance in theirs; RETIRE of a leg holds it off for
good with a record; DEGRADE retires a leg's function where it has no second set that runs, with SVCREQ and DEGRADED
from RUN; a leg that is retired already is passed over; RESTART starts the application on the pair, or ends in SAFE
where no core passes, on a severe reaction with every failed core retired; a RETRY of a Bobbin is such a restart, one
without a loop or a core does nothing more. A reaction acts at its turn alone, as the first of those due, and leaves
their list (notes/assumptions/35.md). What each reaction does where its rule is silent is the model's reading (38.md). -/
def Obligations.Reactions : Prop :=
  ∀ (x : SrcInst) (sev : Bool) (failed : List (Fin 3)) (s : State),
    let d := s.dev
    let leg : Option Nat := match d.unitOfSrc x with
      | some (.leg n) => some n.val
      | _ => none
    let turn := fun (code : Nat) (y : Bool) => d.sn.due.head? = some ⟨code, x, y⟩
    let taken := fun (e : Dev) => e.sn.due = d.sn.due.tail
    let acts := [(Instr.reactionRetry ⟨x, failed⟩, 1), (.reactionRetire x, 2), (.reactionDegrade x, 3), (.reactionFsafe x, 4),
      (.reactionDsafe x, 5), (.reactionRestart x sev failed, 6)]
    let runs := fun (e : Dev) => ∀ b < 2, (e.bob b).running = true ∧ (e.bob b).pc = d.reg Reg.DST_BENTRY ∧ e.csr b 0 = 1
    let valid := fun f => (d.fnEntry f).isSome
    let uses := fun (n f : Nat) => (d.fnEntry f).any fun y => y.ports.getLsbD n
    let quietSkein := fun (e : Dev) => d.quiet → d.sameMem e
    d.clocked →
    (∀ c ∈ acts, turn c.2 sev → Gives c.1 s taken) ∧
    (∀ c ∈ acts, (∀ y, ¬turn c.2 y) → exec c.1 s = .next s) ∧
    (turn 6 (!sev) → exec (.reactionRestart x sev failed) s = .next s) ∧
    (turn 5 sev →
      (d.mode ≠ 0 → d.mode ≠ 0xB →
        Gives (.reactionDsafe x) s fun e =>
          e.mode = 9 ∧ taken e ∧ (∀ f < 32, valid f = true → e.rbit Reg.DST_FSAFE f = true) ∧
          (d.mode ≠ 9 → e.fld Reg.DST_MODE 7 4 = d.mode ∧ e.rbit Reg.NVM_STAT 1 = true ∧
            e.fl.wear.safes = d.fl.wear.safes + 1) ∧ d.sameMem e) ∧
      (d.mode = 0 ∨ d.mode = 0xB → Gives (.reactionDsafe x) s fun e => taken e ∧ d.keeps e [])) ∧
    (turn 4 sev → Gives (.reactionFsafe x) s fun e =>
      taken e ∧ (∀ f < 32, e.rbit Reg.DST_FSAFE f = (d.uses f x || d.rbit Reg.DST_FSAFE f)) ∧
      d.keeps e (Reg.DST_FSAFE :: (List.range 64).map pStat)) ∧
    (turn 2 sev → d.unitOfSrc x = none → Gives (.reactionRetire x) s fun e => taken e ∧ d.keeps e []) ∧
    (∀ n, turn 2 sev → leg = some n →
      (d.rbit (pStat n) 23 = true → Gives (.reactionRetire x) s fun e => taken e ∧ d.keeps e [] ∧ d.keepsLegs e []) ∧
      (d.rbit (pStat n) 23 = false → Gives (.reactionRetire x) s fun e =>
        taken e ∧ e.rbit (pStat n) 23 = true ∧ e.rbit (pStat n) 2 = true ∧ (e.port n).hold = true ∧
        (e.port n).h.on = false ∧ (e.port n).l.on = false ∧ e.fl.due = d.fl.due ++ [d.retireRec x] ∧
        d.keeps e [pStat n, Reg.NVM_STAT, Reg.DST_SPARE] ∧ d.keepsLegs e [n])) ∧
    (∀ n, turn 3 sev → leg = some n →
      (d.rbit (pStat n) 23 = true → Gives (.reactionDegrade x) s fun e => taken e ∧ d.keeps e [] ∧ d.keepsLegs e []) ∧
      (d.rbit (pStat n) 23 = false → (∀ f < 32, uses n f = false) →
        Gives (.reactionDegrade x) s fun e =>
          taken e ∧ e.rbit (pStat n) 23 = true ∧ (e.port n).hold = true ∧ e.fl.due = d.fl.due ++ [d.retireRec x] ∧
          d.keeps e [pStat n, Reg.NVM_STAT] ∧ d.keepsLegs e [n]) ∧
      (∀ (f : Fin 32) (y : FnEntry), d.rbit (pStat n) 23 = false → d.fnEntry f = some y → y.ports.getLsbD n = true →
        y.dset = false ∨ (d.fn f).sets ≠ 0 → (∀ g < 32, g ≠ f.val → uses n g = false) →
        Gives (.reactionDegrade x) s fun e =>
          (e.fn f).st = 9 ∧ e.rbit Reg.DST_FRET f = true ∧ e.rbit (pStat n) 23 = true ∧ e.rbit Reg.DST_SPARE 8 = true ∧
          (d.mode = 6 → e.mode = 7) ∧ (∀ g, g ≠ f.val → e.fn g = d.fn g)) ∧
      (∀ (f : Fin 32) (y : FnEntry), d.rbit (pStat n) 23 = false → d.fnEntry f = some y → y.ports.getLsbD n = true →
        y.dset = true → (d.fn f).sets = 0 → (∀ g < 32, g ≠ f.val → uses n g = false) → d.quiet →
        Gives (.reactionDegrade x) s fun e =>
          (e.fn f).sets = 2 ^ setOf y n ∧ e.rbit Reg.DST_FDEG f = true ∧ e.rbit (pStat n) 23 = true ∧
          e.rbit Reg.DST_SPARE 8 = true ∧ (d.mode = 6 → e.mode = 7) ∧
          ∀ m ∈ portsOf y, setOf y m = setOf y n → (e.port m).order = some 0)) ∧
    (turn 3 sev → leg = none → Gives (.reactionDegrade x) s fun e => taken e ∧ d.keeps e []) ∧
    (turn 1 sev → x.src ≠ 49 → x.src ≠ 51 → (x.src.toNat < 64 ∨ 66 < x.src.toNat) →
      Gives (.reactionRetry ⟨x, failed⟩) s fun e => taken e ∧ d.keeps e []) ∧
    (d.pair = [0, 1] → d.rbit Reg.DST_BOBMAP 4 = false → d.rbit Reg.DST_BOBMAP 5 = false →
      (turn 1 sev → 64 ≤ x.src.toNat → x.src.toNat ≤ 66 →
        (Gives (.reactionRetry ⟨x, []⟩) s fun e => runs e ∧ quietSkein e) ∧
        (d.mode ≠ 0 → d.mode ≠ 0xB → Gives (.reactionRetry ⟨x, [0, 1]⟩) s fun e => e.mode = 9)) ∧
      (turn 6 true → Gives (.reactionRestart x true []) s fun e => taken e ∧ runs e ∧ e.mode = d.mode ∧ quietSkein e) ∧
      (turn 6 true → d.mode ≠ 0 → d.mode ≠ 0xB → Gives (.reactionRestart x true [0, 1, 2]) s fun e =>
        e.mode = 9 ∧ (∀ b < 3, e.rbit Reg.DST_BOBMAP (4 + b) = true) ∧ (e.bob 0).running = false ∧
        (e.bob 1).running = false ∧ e.rbit Reg.DST_SPARE 8 = true) ∧
      (turn 6 false → d.mode ≠ 0 → d.mode ≠ 0xB → Gives (.reactionRestart x false [0, 1]) s fun e =>
        e.mode = 9 ∧ ∀ b < 3, e.rbit Reg.DST_BOBMAP (4 + b) = d.rbit Reg.DST_BOBMAP (4 + b)))

/-- Safety pins, watchdogs, FLT_N and fault injection (R420, R436, R437, R439 to R445): SOFF_N orders every leg OFF,
SASC_N the legs of ASC-capable functions to ASC; a pin that is released frees the legs of no function; a function is
released by DST_FREL in RUN and DEGRADED with both pins free; the FLT_N pulse ends 100 us after its last start; a bite
of the Distaff's watchdog ends in SAFE with the Bobbins reset, the pair started at its entry address and the session
over; a kick with the key restarts a Bobbin's count, any other raises BOB_WDG, and so do 1.0 ms without one; an
injection is armed where the instance has a checker, acknowledged, or times out after 10 ms. Which sources have a
checker is read as notes/assumptions/93.md says. The ports of no function are
read as notes/assumptions/38.md says. -/
def Obligations.PinsWatchdogsInjection : Prop :=
  ∀ (b : Fin 3) (m : Master) (v : Word) (s : State),
    let d := s.dev
    let free := fun n => ∀ f < 32, ((d.fnEntry f).any fun y => y.ports.getLsbD n) = false
    let st := (List.range 64).map pStat
    (d.clocked → Gives .soffAccept s fun e =>
      e.rbit Reg.DST_PINS 0 = true ∧ e.rbit Reg.DST_PINS 2 = true ∧ e.raised Src.PIN_SOFF 0 ∧
      (∀ n < 64, (e.port n).order = some 0 ∧ ((d.port n).linkLost = false → (e.port n).h.on = false ∧ (e.port n).l.on = false)) ∧
      (∀ f < 32, (d.fnEntry f).isSome = true → e.rbit Reg.DST_FSAFE f = true) ∧
      d.keeps e (Reg.DST_PINS :: Reg.DST_FSAFE :: st)) ∧
    (d.clocked → Gives .sascAccept s fun e =>
      e.rbit Reg.DST_PINS 1 = true ∧ e.rbit Reg.DST_PINS 3 = true ∧ e.raised Src.PIN_SASC 0 ∧
      (∀ n < 64, free n → (e.port n).order = some 0) ∧
      (∀ f < 32, ∀ y n, d.fnEntry f = some y → n < 64 → y.ports.getLsbD n = true → d.rbit Reg.DST_PINS 0 = false →
        (∀ g < 32, g ≠ f → ((d.fnEntry g).any fun y => y.ports.getLsbD n) = false) → (d.fn f).sets = 0 →
        (e.port n).order = some (if y.ascCap then if y.safe = 2 then 2 else 1 else 0)) ∧
      d.keeps e (Reg.DST_PINS :: Reg.DST_FSAFE :: st)) ∧
    (d.clocked → d.rbit Reg.DST_PINS 0 = true → d.rbit Reg.DST_PINS 1 = false →
      Gives (.safetyPinRelease false) s fun e =>
        e.rbit Reg.DST_PINS 0 = false ∧ (∀ n < 64, free n → (e.port n).order = none) ∧
        (∀ n < 64, ¬free n → e.port n = d.port n) ∧ d.keeps e [Reg.DST_PINS]) ∧
    (d.clocked → d.rbit Reg.DST_PINS 0 = false → d.rbit Reg.DST_PINS 1 = true →
      Gives (.safetyPinRelease true) s fun e =>
        e.rbit Reg.DST_PINS 1 = false ∧ (∀ n < 64, free n → (e.port n).order = none) ∧
        (∀ n < 64, ¬free n → e.port n = d.port n) ∧ d.keeps e [Reg.DST_PINS]) ∧
    (d.clocked → d.rbit Reg.DST_PINS 0 = true → d.rbit Reg.DST_PINS 1 = true →
      Gives (.safetyPinRelease false) s fun e =>
        e.rbit Reg.DST_PINS 0 = false ∧ e.rbit Reg.DST_PINS 1 = true ∧ (∀ n < 64, free n → (e.port n).order = some 0) ∧
        d.keeps e (Reg.DST_PINS :: Reg.DST_FSAFE :: st)) ∧
    (d.clocked → d.rbit Reg.DST_PINS 0 = true →
      exec (.safetyPinRelease true) s = .next (s.withDev (d.setRbit Reg.DST_PINS 1 false))) ∧
    (d.admits m → d.rbit Reg.DST_PINS 0 = false → d.rbit Reg.DST_PINS 1 = false → d.mode = 6 ∨ d.mode = 7 →
      Gives (.functionRelease m v) s fun e =>
        (∀ (f : Fin 32) (y : FnEntry), bitOf v f = true → d.rbit Reg.DST_FRET f = false → d.fnEntry f = some y →
          (e.fn f).c.legsDue = false ∧ ((d.fn f).sets = 0 → ∀ n ∈ portsOf y, (e.port n).order = none)) ∧
        (∀ f < 32, e.rbit Reg.DST_FSAFE f =
          (d.rbit Reg.DST_FSAFE f && !(bitOf v f && !d.rbit Reg.DST_FRET f && (d.fnEntry f).isSome))) ∧
        ((∀ f < 32, (d.fn f).c.legsDue = false) → d.keeps e [Reg.DST_FSAFE])) ∧
    (d.admits m → d.rbit Reg.DST_PINS 0 = true ∨ d.rbit Reg.DST_PINS 1 = true ∨ (d.mode ≠ 6 ∧ d.mode ≠ 7) →
      exec (.functionRelease m v) s = .next (s.withDev (d.answer .ok))) ∧
    (d.now < d.su.fltAt + ticksUs 100 → exec .fltPulseEnd s = .next s) ∧
    (d.su.fltAt + ticksUs 100 ≤ d.now → Gives .fltPulseEnd s fun e =>
      e.rbit Reg.DST_FLT 1 = false ∧ e.rbit Reg.DST_FLT 0 = (d.rbit Reg.DST_FLT 2 || d.rbit Reg.DST_FLT 3) ∧
      d.keeps e [Reg.DST_FLT]) ∧
    (d.mode = 0 ∨ d.mode = 0xB → exec .distaffWatchdogBite s = .next s) ∧
    (d.mode ≠ 0 → d.mode ≠ 0xB →
      Gives .distaffWatchdogBite s fun e =>
        e.mode = 9 ∧ e.fld Reg.DST_RSTC 3 0 = 5 ∧ e.rbit Reg.SNL_STAT 1 = true ∧ e.rbit Reg.DST_FLT 1 = true ∧
        e.rbit Reg.DST_FLT 2 = true ∧ e.sv.role = none ∧ e.sv.fails = d.sv.fails ∧
        (∀ k < 3, (e.bob k).running = decide (k ∈ d.pair) ∧
          (k ∈ d.pair → (e.bob k).pc = d.reg Reg.DST_BENTRY ∧ e.csr k 0 = 1)) ∧
        ∀ f < 32, (d.fnEntry f).isSome = true → e.rbit Reg.DST_FSAFE f = true) ∧
    (d.admits m → bitsOf v 15 0 = 0x4B1C →
      Gives (.bobbinWatchdogKick m b v) s fun e =>
        smGet (fun _ => 0) e.su.kicks b = d.now ∧ e.reports = d.reports ∧ e.lastAccess = .ok ∧ d.keeps e []) ∧
    (d.admits m → bitsOf v 15 0 ≠ 0x4B1C →
      exec (.bobbinWatchdogKick m b v) s = .next (s.withDev ((d.raise Src.BOB_WDG b).answer .ok))) ∧
    ((d.bob b).running = false ∨ d.now < smGet (fun _ => 0) d.su.kicks b + ticksUs 1000 →
      exec (.bobbinWatchdogBite b) s = .next s) ∧
    (d.clocked → (d.bob b).running = true → smGet (fun _ => 0) d.su.kicks b + ticksUs 1000 ≤ d.now →
      Gives (.bobbinWatchdogBite b) s fun e =>
        e.raised Src.BOB_WDG b ∧ smGet (fun _ => 0) e.su.kicks b = d.now ∧ d.keeps e []) ∧
    (let t := srcInst (bitsOf v 7 0) (bitsOf v 14 8)
     let go := d.rbit Reg.SNL_INJ 17 = false ∧ bitOf v 16 = true ∧ (d.mode = 4 ∨ d.mode = 6 ∨ d.mode = 7 ∨ d.mode = 10)
     d.admits m →
      (¬go →
        Gives (.faultInjectionArm m v) s fun e =>
          e.fld Reg.SNL_INJ 15 0 = bitsOf v 15 0 ∧ e.rbit Reg.SNL_INJ 17 = d.rbit Reg.SNL_INJ 17 ∧ e.sn.inject = d.sn.inject ∧
          d.keeps e [Reg.SNL_INJ]) ∧
      (go → injectable t = true →
        Gives (.faultInjectionArm m v) s fun e =>
          e.rbit Reg.SNL_INJ 17 = true ∧ e.fld Reg.SNL_INJ 15 0 = bitsOf v 15 0 ∧ e.sn.inject = some ⟨t, bitOf v 15, d.now⟩ ∧
          d.keeps e [Reg.SNL_INJ]) ∧
      (go → injectable t = false →
        Gives (.faultInjectionArm m v) s fun e =>
          e.rbit Reg.SNL_INJ 20 = true ∧ e.rbit Reg.SNL_INJ 17 = false ∧ e.sn.inject = d.sn.inject ∧ d.keeps e [Reg.SNL_INJ])) ∧
    (d.sn.inject = none → exec .injectedEvent s = .next s ∧ exec .faultInjectionTimeout s = .next s) ∧
    (∀ j, d.sn.inject = some j →
      let t := injectedSrc j.e j.all
      (d.now < j.since + ticksMs 10 → exec .faultInjectionTimeout s = .next s) ∧
      (d.clocked → Gives .injectedEvent s fun e =>
        e.rbit (Reg.SNL_INJSTK (t.src.toNat / 32)) (t.src.toNat % 32) = true ∧ e.rbit Reg.SNL_INJ 18 = true ∧
        e.rbit Reg.SNL_INJ 17 = false ∧ e.sn.inject = none ∧
        d.keeps e [Reg.SNL_INJ, Reg.SNL_INJSTK (t.src.toNat / 32)]) ∧
      (d.clocked → j.since + ticksMs 10 ≤ d.now → Gives .faultInjectionTimeout s fun e =>
        e.rbit Reg.SNL_INJ 19 = true ∧ e.rbit Reg.SNL_INJ 17 = false ∧ e.sn.inject = none ∧ d.keeps e [Reg.SNL_INJ]))

/-! ### Modes, resets, start-up, sleep (R455 to R475, R485, R486) -/

/-- Mode requests (R459 to R462, R471, R473): each row of the transition table from its mode when its condition holds,
for every master that may ask, and the refusal code that R460 gives it otherwise; one that comes with a mode change, or
with the request of a lower requester number, is refused with EVENT; a request without rights, as a Bobbin's in user
mode, ends as a rights violation with code 11 (an HSPI host's raises LNK_ERR too), one during the entry into SLEEP is
refused; an orderly stop ends in SAFE once every function has stopped or T_ORDER has passed, with its reason in the
stop record. A second request of RUN starts its round anew (R122; notes/assumptions/42.md). -/
def Obligations.ModeRequests : Prop :=
  ∀ (m : Asker) (deg : Bool) (req : BitVec 4) (s : State),
    let d := s.dev
    let no := fun (i : Instr) (code : Nat) =>
      Gives i s fun e =>
        e.rbit Reg.SNL_MREQ 16 = true ∧ e.fld Reg.SNL_MREQ 15 8 = code ∧ e.mode = d.mode ∧ e.lastAccess = .ok ∧
        d.keeps e [Reg.SNL_MREQ]
    let goes := fun (i : Instr) (mode : Nat) =>
      Gives i s fun e =>
        e.mode = mode ∧ e.fld Reg.DST_MODE 7 4 = d.mode ∧ e.rbit Reg.SNL_MREQ 18 = true ∧ e.lastAccess = .ok
    let others := [Instr.modeRequestConfig m, .modeRequestStandby m, .modeRequestSleep m, .modeRequestOrderlyStop m,
      .modeRequestBoot m]
    let asks := .modeRequestRun m deg :: .modeRequestService m :: others
    let pins := d.rbit Reg.DST_PINS 0 = true ∨ d.rbit Reg.DST_PINS 1 = true
    let reboots :=
      Gives (.modeRequestBoot m) s fun e =>
        e.mode = 1 ∧ e.reg Reg.DST_RSTC = 3 ∧ (∀ c, e.ready c = false) ∧ d.sameMem e
    (d.clocked = true →
      (m.master = .distaff ∨ (m.master = .session ∧ d.sv.role.any (fun r => decide (2 ≤ r)) = false) ∨
          (∃ b, m.master = .bobbin b ∧ d.sup b = false) →
        ∀ i ∈ asks, exec i s = .next (s.withDev ((d.reqRefuse 11).answer .rights))) ∧
      (m.master = .hspi → d.rbit Reg.HSPI_RIGHTS 2 = false →
        ∀ i ∈ asks, exec i s = .next (s.withDev (((d.reqRefuse 11).raise 161 7).answer .rights))) ∧
      exec (.modeRequestNoRow m 0) s = .next (s.withDev (d.answer .ok))) ∧
    (∀ x ∈ [(4, Instr.modeRequestConfig m), (5, .modeRequestStandby m), (6, .modeRequestRun m false),
        (7, .modeRequestRun m true), (11, .modeRequestSleep m), (8, .modeRequestOrderlyStop m), (1, .modeRequestBoot m),
        (10, .modeRequestService m)],
      exec (.modeRequestNoRow m (BitVec.ofNat 4 x.1)) s = exec x.2 s) ∧
    (d.clocked = true → d.mayRequest m.master = true → m.beaten = true →
      (∀ i ∈ asks, no i 8) ∧ (req ≠ 0 → no (.modeRequestNoRow m req) 8)) ∧
    (d.clocked = true → d.mayRequest m.master = true → m.beaten = false →
      no (.modeRequestService m) 9 ∧ (pins → no (.modeRequestRun m deg) 7) ∧
      (req = 2 ∨ req = 3 ∨ req = 9 ∨ 12 ≤ req.toNat → no (.modeRequestNoRow m req) 1) ∧
      (d.su.sleepReq = true → (∀ i ∈ others, no i 1) ∧ (¬pins → no (.modeRequestRun m deg) 1)) ∧
      (d.su.sleepReq = false →
        (d.mode = 5 →
          (d.allQuiet = true → goes (.modeRequestConfig m) 4) ∧ (d.allQuiet = false → no (.modeRequestConfig m) 2) ∧
          (¬pins →
            Gives (.modeRequestRun m deg) s fun e =>
              e.rbit Reg.SNL_MREQ 17 = true ∧ e.su.runReq = true ∧ e.su.runReqAt = d.now ∧ e.rbit Reg.HKP_STAT 18 = true ∧
              e.ms.hkReq = true ∧ e.mode = 5 ∧ e.lastAccess = .ok ∧ d.keeps e [Reg.SNL_MREQ, Reg.HKP_STAT]) ∧
          (d.rbit Reg.DST_WAKE 0 = true ∨ d.rbit Reg.DST_WAKE 2 = true →
            Gives (.modeRequestSleep m) s fun e => e.su.sleepReq = true ∧ e.su.wakes = 0 ∧ e.mode = 5) ∧
          (d.rbit Reg.DST_WAKE 0 = false → d.rbit Reg.DST_WAKE 2 = false → no (.modeRequestSleep m) 10)) ∧
        (d.mode ≠ 5 →
          no (.modeRequestConfig m) 1 ∧ (¬pins → no (.modeRequestRun m deg) 1) ∧ no (.modeRequestSleep m) 10) ∧
        (d.mode = 4 →
          (d.rbit Reg.DST_POL 0 = false → no (.modeRequestStandby m) 3) ∧
          (d.rbit Reg.DST_POL 0 = true → d.anyCfgp = true → no (.modeRequestStandby m) 4) ∧
          (d.rbit Reg.DST_POL 0 = true → d.anyCfgp = false → goes (.modeRequestStandby m) 5)) ∧
        (d.mode = 6 ∨ d.mode = 7 →
          (d.allQuiet = true → goes (.modeRequestStandby m) 5) ∧ (d.allQuiet = false → no (.modeRequestStandby m) 2) ∧
          (d.allQuiet = false → no (.modeRequestBoot m) 2) ∧ (d.allQuiet = true → reboots)) ∧
        (d.mode ∉ [4, 6, 7] → no (.modeRequestStandby m) 1) ∧
        (d.mode = 6 ∨ d.mode = 7 ∨ d.mode = 10 →
          Gives (.modeRequestOrderlyStop m) s fun e =>
            e.mode = 8 ∧ e.fld Reg.DST_MODE 7 4 = d.mode ∧ e.su.ordAt = d.now ∧ e.su.ordFrom = d.mode ∧
            e.sn.stopRec.isSome = true) ∧
        (d.mode ∉ [6, 7, 10] → no (.modeRequestOrderlyStop m) 1) ∧
        (d.mode = 4 ∨ d.mode = 5 ∨ d.mode = 9 ∨ d.mode = 10 → reboots) ∧
        (d.mode ∉ [4, 5, 6, 7, 9, 10] → no (.modeRequestBoot m) 1))) ∧
    (let past := d.allQuiet = true ∨ d.su.ordAt + d.fld Reg.THM_ORD 7 0 * ticksUs 100 ≤ d.now
     (d.mode ≠ 8 ∨ ¬past → exec .orderlyStopEnd s = .next s) ∧
     (d.clocked → d.mode = 8 → past →
       Gives .orderlyStopEnd s fun e =>
         e.mode = 9 ∧ e.fld Reg.DST_MODE 7 4 = 8 ∧ e.rbit Reg.NVM_STAT 1 = true ∧ e.sn.stopRec = none ∧
         (∀ r, d.sn.stopRec = some r → { r with data := r.data ++ [if d.allQuiet then 0 else 1] } ∈ e.fl.due) ∧
         (∀ f < 32, (d.fnEntry f).isSome = true → e.rbit Reg.DST_FSAFE f = true) ∧ d.sameMem e))

/-- Resets, sleep and wake (R459, R463 to R465, R473 to R475): after each reset every register but the always-on and
fused ones and the pins' trip lines (notes/assumptions/70.md) holds its reset value, the cause shows in DST_RSTC, no
core runs, the flash stands but for a record program that has started, which completes (R488), and the Skein keeps its
bytes and an orderly stop its open record but for a power-on; a rail that falls takes the device to OFF with every leg off and the PLL stopped; SLEEP is
entered when its request stands and every unit has reached its boundary, and a wake, one that came during the entry
too, starts it again; the wake timer fires no earlier than its seconds by a clock 10 % fast. -/
def Obligations.ResetsAndSleep : Prop :=
  ∀ (r : Rail) (s : State),
    let d := s.dev
    let kept := [Reg.THM_TRIM, Reg.IDN_FUSE, Reg.WHL_LINES 0, Reg.DST_RSTC, Reg.DST_MODE, Reg.SNL_STAT, Reg.DST_FLT,
      Reg.NVM_STAT] ++ (List.range 8).map Reg.SNL_RSTK ++ (List.range 8).map Reg.SNL_RFST
    let reborn := fun (e : Dev) (kind mode : Nat) =>
      e.fld Reg.DST_RSTC 3 0 = kind ∧ e.mode = mode ∧ (∀ a, a ∉ kept → e.reg a = resetWord a) ∧ (∀ c, e.ready c = false) ∧
        e.cr = CoreSt.reset ∧ e.reg Reg.THM_TRIM = d.reg Reg.THM_TRIM ∧
        (kind ≠ 1 → e.sn.stopRec = d.sn.stopRec) ∧ ((∀ j x, d.fl.job = some j → j.op ≠ .append x) → e.fl.mem = d.fl.mem)
    let off := fun (e : Dev) => ∀ n < 64, (e.port n).h.on = false ∧ (e.port n).l.on = false
    let active := fun (u : UnitRef) => d.rbit (actPlace u).1 (actPlace u).2
    let held := fun (i : Instr) (bit : Nat) =>
      exec i s = .next (s.withDev (d.modSu fun x => { x with wakes := x.wakes ||| bit }))
    (Gives .pinReset s fun e => reborn e 2 0 ∧ e.su.resetLow = true ∧ d.sameMem e) ∧
    (d.su.supplyLow = false → exec .powerOn s = .next s) ∧
    (d.mode ≠ 0xB → d.su.supplyLow = true →
      Gives .powerOn s fun e =>
        reborn e 1 (if d.su.resetLow then 0 else 1) ∧ e.su.supplyLow = false ∧ ∀ a, e.byte a = 0) ∧
    (d.mode = 0xB → d.su.supplyLow = true → d.su.wakes = 0 →
      exec .powerOn s = .next (s.withDev (d.modSu fun x => { x with supplyLow := false }))) ∧
    (d.mode = 0xB → d.su.supplyLow = true → d.su.wakes ≠ 0 →
      Gives .powerOn s fun e => reborn e 4 1 ∧ e.su.supplyLow = false ∧ d.sameMem e) ∧
    (d.mode = 0xB → r ≠ .vio33 →
      exec (.supplyFall r) s = .next (s.withDev (d.modSu fun x => { x with supplyLow := true }))) ∧
    (d.mode ≠ 0xB ∨ r = .vio33 →
      Gives (.supplyFall r) s fun e =>
        e.mode = 0 ∧ off e ∧ e.su.supplyLow = true ∧ e.fl.job = none ∧ e.su.ready = false ∧ e.clocked = false ∧ d.sameMem e) ∧
    (d.mode = 0 → d.su.supplyLow = false →
      Gives .resetPinRelease s fun e => e.mode = 1 ∧ e.su.resetLow = false ∧ d.keeps e [Reg.DST_MODE]) ∧
    (d.mode ≠ 0 ∨ d.su.supplyLow = true →
      exec .resetPinRelease s = .next (s.withDev (d.modSu fun x => { x with resetLow := false }))) ∧
    (d.su.sleepReq = false ∨ d.mode ≠ 5 ∨ (∃ u ∈ allUnits, active u = true) → exec .sleepEntry s = .next s) ∧
    (d.clocked → d.su.sleepReq = true → d.mode = 5 → (∀ u ∈ allUnits, active u = false) →
      (d.su.wakes = 0 ∨ d.su.supplyLow = true →
        Gives .sleepEntry s fun e =>
          e.mode = 0xB ∧ off e ∧ e.clocked = false ∧ e.su.sleepReq = false ∧ e.su.ready = false ∧ e.su.sleptAt = d.now ∧
          e.rbit Reg.NVM_STAT 1 = true ∧ d.sameMem e) ∧
      (d.su.wakes ≠ 0 → d.su.supplyLow = false → Gives .sleepEntry s fun e => reborn e 4 1 ∧ d.sameMem e)) ∧
    (d.rbit Reg.DST_WAKE 0 = false ∨ (d.mode ≠ 0xB ∧ d.su.sleepReq = false) → exec .wake s = .next s) ∧
    (d.rbit Reg.DST_WAKE 0 = true →
      (d.mode = 0xB → d.su.supplyLow = false →
        Gives .wake s fun e => reborn e 4 1 ∧ e.rbit Reg.DST_RSTC 8 = true ∧ d.sameMem e) ∧
      ((d.mode = 0xB ∧ d.su.supplyLow = true) ∨ (d.mode ≠ 0xB ∧ d.su.sleepReq = true) → held .wake 1)) ∧
    (let up := 10 * d.su.sleptAt + 9 * (d.fld Reg.DST_WAKE 31 16 * ticksMs 1000) ≤ 10 * d.now
     (d.rbit Reg.DST_WAKE 2 = true → d.mode = 0xB → up →
       (d.su.supplyLow = false →
         Gives .wakeTimer s fun e => reborn e 4 1 ∧ e.rbit Reg.DST_RSTC 9 = true ∧ d.sameMem e) ∧
       (d.su.supplyLow = true → held .wakeTimer 2)) ∧
     (d.rbit Reg.DST_WAKE 2 = false ∨ d.mode ≠ 0xB ∨ ¬up → exec .wakeTimer s = .next s))

/-- Start-up (R83, R288, R430, R447, R466 to R470, R505, R508, R509): BOOT scans the journal, takes the fused words
and trim and ends in SELFTEST with the newest image verified in DST_BOOT, its entry in DST_BENTRY; SELFTEST retires
every unit that it or its lane scan finds failed and ends in LOAD with a first round and the Skein zeroed, or in SAFE
when a unit has no spare or the Distaff itself failed; LOAD copies the image, whole where the Skein takes every line of it, goes on while a
line is held back, takes a policy table that verifies and ends in CONFIG with the application started; out of its mode, before the PLL runs, or without an image, each event
does nothing. When a policy table verifies and the operands that stand for the ROM's findings are the model's choices
(notes/assumptions/58.md, 75.md); the hashes and signatures are computed as their standards give them (74.md). -/
def Obligations.StartUp : Prop :=
  ∀ (b : BootResult) (t : SelftestResult) (r : LoadResult) (g : Nat → Byte) (pol : Option (Nat → Byte)) (slotB : Bool)
      (s : State),
    let d := s.dev
    let fused := b.fuses.map fun f => (f.1.toNat, f.2)
    let struck := (d.readFuses fused).flashStrike (b.struck.map fun f => (f.1.toNat, f.2))
    let j := struck.scanJournal
    let ok := j.newest.any fun x => j.imgSlotOk x
    let img := j.slotBytes (j.newest.getD false)
    let sig := pol.any fun p => policySig g p
    let ent := pol.any policyEnt
    let at_ := (wordBy g 0x10).toNat
    let len := min (imageLen g - 0x100) (0x1000000 - at_)
    let plain := d.settled ∧ at_ % 64 = 0 ∧ len % 4 = 0 ∧ d.isCut 130 = false ∧
      (∀ a k, d.blockedLine 130 a k = none ∧ d.rangeRefuses a k false = false)
    (d.mode ≠ 1 → exec (.bootEnd b) s = .next s) ∧
    (d.mode = 1 →
      Gives (.bootEnd b) s fun e =>
        e.mode = 2 ∧ e.rbit Reg.DST_BOOT 0 = ok ∧ e.rbit Reg.DST_BOOT 1 = j.newest.isNone ∧
        e.rbit Reg.DST_BOOT 2 = (j.newest.isSome && !ok) ∧
        e.reg Reg.DST_BENTRY = (if ok then wordBy img 0x14 &&& 0xFFFFFC else 0) ∧ e.reg Reg.NVM_SEQA = j.slotSeq false ∧
        e.reg Reg.NVM_SEQB = j.slotSeq true ∧ e.rbit Reg.NVM_SLOT 0 = j.newest.getD false ∧
        e.fld Reg.THM_TRIM 27 16 = b.c25.toNat ∧ e.fld Reg.THM_TRIM 11 0 = b.slope.toNat ∧
        e.rbit Reg.IDN_FUSE 0 = b.fuseParity ∧ e.rbit Reg.CLK_STAT 2 = b.extRef ∧ e.fl.recs = j.fl.recs ∧ e.sn.stopRec = none ∧
        (∀ k, e.fuse k = smGet Config.fuse (d.fl.fuses ++ fused) k) ∧
        (b.fuseParity = true → e.raised 136 0) ∧
        ((∃ k < 32, (struck.scanSector k 512 0).2.1 = true) → e.raised 132 0)) ∧
    (d.mode ≠ 2 ∨ d.clocked = false → exec (.selftestEnd t) s = .next s) ∧
    (d.mode = 2 → d.clocked = true →
      (Retiree.distaff ∈ t.failed → Gives (.selftestEnd t) s fun e => e.mode = 9 ∧ d.sameMem e) ∧
      (Retiree.distaff ∉ t.failed → d.settled →
        Gives (.selftestEnd t) s fun e =>
          (e.mode = 3 ∨ e.mode = 9) ∧ (∀ u ∈ t.failed, e.isRetired u = true) ∧ ∀ u ∈ badLanes t, e.isRetired u = true) ∧
      (t.failed = [] → badLanes t = [] →
        Gives (.selftestEnd t) s fun e =>
          e.mode = 3 ∧ e.fld Reg.HKP_STAT 15 0 = (d.fld Reg.HKP_STAT 15 0 + 1) % 65536 ∧
          (∀ n ∈ t.portFails, e.rbit (pStat n) 13 = true) ∧
          (∀ n : Fin 64, e.fld (pStat n) 21 20 = if n ∈ t.portFails then 2 else 1) ∧
          (∀ x, d.newestRec 8 = some x → e.ms.trim = x.data) ∧
          (∀ x, d.newestRec 3 = some x → ∀ n < 64, e.fld (pCal n) 15 0 = bitsOf ((x.data[n]?).getD 0) 15 0) ∧
          ((∀ f < 32, d.fnEntry f = none) → ∀ a, e.byte a = 0))) ∧
    (d.mode ≠ 3 ∨ d.clocked = false ∨ d.loadSource.isNone = true → exec (.loadEnd r) s = .next s) ∧
    (plain → (d.copyBody g).isSome = true) ∧
    (d.rbit Reg.DST_BOOT 0 = false → d.su.supplied = none → d.loadSource.isNone = true) ∧
    (d.mode = 3 → d.clocked = true → d.loadSource = some (g, pol, slotB) → d.copyBody g = none → exec (.loadEnd r) s = .next s) ∧
    (d.mode = 3 → d.clocked = true → d.loadSource = some (g, pol, slotB) → (d.copyBody g).isSome = true →
      Gives (.loadEnd r) s fun e =>
        e.mode = 4 ∧ e.su.ready = true ∧ e.rbit Reg.DST_POL 0 = (sig && ent) ∧ e.rbit Reg.DST_POL 1 = sig ∧
        e.rbit Reg.DST_POL 2 = ent ∧ e.fld Reg.DST_POL 31 16 = bitsOf (pol.elim 0 fun p => wordBy p 4) 15 0 ∧
        e.rbit Reg.NVM_SLOT 1 = slotB ∧ e.reg Reg.DST_BENTRY = wordBy g 0x14 &&& 0xFFFFFC ∧
        (∀ c ∈ d.pair, (e.bob c).running = true ∧ (e.bob c).pc = wordBy g 0x14 &&& 0xFFFFFC) ∧
        (∀ p, pol = some p → sig = true → ent = true →
          e.pl.rules = (List.range 64).map (fun i => ruleOf p i) ∧
          ∀ f < 32,
            (e.fn f).entry = (if (fnEntryOf p f).v then some (fnEntryOf p f) else none) ∧
            (e.fn f).desc = (r.descs.find? fun q => decide (q.1 = f)).map Prod.snd) ∧
        (plain → ∀ a, e.byte a = if at_ ≤ a ∧ a < at_ + len then g (0x100 + (a - at_)) else d.byte a))

/-! ### Clocks, the governor, temperature (R17 to R20, R476 to R495) -/

/-- Clocks, governor and temperature (R18 to R20, R476 to R479, R483, R489 to R495): PLL lock and reference loss show
in CLK_STAT, but not while the PLL is stopped in OFF and SLEEP; a sag steps down and never up until the return, counts and raises GOV_STEP; FORCE acts in SERVICE only;
the counts and extremes are cleared; a power fail abandons an erase; a valid reading moves every temperature level by
its trip and release and a shutdown ends RUN in ORDERLY-STOP, an invalid one shows and the third in a row acts as a
shutdown; the round grants or refuses a request of RUN that waits. The rounding of a temperature is the model's
reading (notes/assumptions/40.md). -/
def Obligations.ClocksGovernorTemperature : Prop :=
  ∀ (us : BitVec 16) (half : Bool) (m : Master) (v : Word) (volts : List Int) (j : FlashJob) (s : State),
    let d := s.dev
    let force := d.fld Reg.GOV_CTL 2 1
    let step := if half then 2 else 1
    let code := (hkCodeOf volts 0).toNat
    let round := Instr.housekeepingRoundPublish volts
    (d.mode = 0 ∨ d.mode = 0xB → exec (.pllLock us) s = .next s ∧ exec .referenceLoss s = .next s) ∧
    (d.mode ≠ 0 → d.mode ≠ 0xB → Gives (.pllLock us) s fun e =>
      e.rbit Reg.CLK_STAT 0 = true ∧ e.rbit Reg.CLK_STAT 1 = false ∧ e.reg Reg.CLK_LOCKT = us.setWidth 32 ∧
      d.keeps e [Reg.CLK_STAT, Reg.CLK_LOCKT]) ∧
    (d.mode ≠ 0 → d.mode ≠ 0xB → Gives .referenceLoss s fun e =>
      e.rbit Reg.CLK_STAT 0 = false ∧ e.rbit Reg.CLK_STAT 1 = true ∧ e.rbit Reg.CLK_STAT 8 = true ∧ e.raised Src.CLK_REF 0 ∧
      d.keeps e [Reg.CLK_STAT]) ∧
    (d.clocked → d.su.sag ≤ 2 →
      Gives (.governorStepDown half) s fun e =>
        e.su.sag = max d.su.sag step ∧ e.fld Reg.GOV_STAT 1 0 = max (max d.su.sag step) force ∧
        (d.fld Reg.GOV_STAT 1 0 < step → force = 0 → d.su.sag = 0 →
          e.raised Src.GOV_STEP 0 ∧ e.rbit Reg.GOV_STAT 8 = true ∧
          (half = true → e.fld Reg.GOV_CNT 31 16 = min 65535 (d.fld Reg.GOV_CNT 31 16 + 1)) ∧
          (half = false → e.fld Reg.GOV_CNT 15 0 = min 65535 (d.fld Reg.GOV_CNT 15 0 + 1))) ∧
        d.keeps e [Reg.GOV_STAT, Reg.GOV_CNT]) ∧
    (d.clocked → Gives .governorReturn s fun e =>
      e.su.sag = 0 ∧ e.fld Reg.GOV_STAT 1 0 = force ∧ d.keeps e [Reg.GOV_STAT, Reg.GOV_CNT]) ∧
    (d.admits m →
      (d.mode ≠ 10 ∨ bitsOf v 2 1 = 3 → exec (.governorForce m v) s = .next (s.withDev (d.answer .ok))) ∧
      (d.mode = 10 → bitsOf v 2 1 ≠ 3 → d.su.sag ≤ 2 →
        Gives (.governorForce m v) s fun e =>
          e.fld Reg.GOV_CTL 2 1 = bitsOf v 2 1 ∧ e.fld Reg.GOV_STAT 1 0 = max d.su.sag (bitsOf v 2 1) ∧
          d.keeps e [Reg.GOV_CTL, Reg.GOV_STAT, Reg.GOV_CNT]) ∧
      (force ≠ 3 →
        Gives (.governorCountClear m) s fun e =>
          e.reg Reg.GOV_CNT = 0 ∧ e.reg Reg.GOV_TIME = 0 ∧ e.fld Reg.GOV_STAT 3 2 = 0 ∧ e.fld Reg.GOV_CTL 2 1 = force ∧
          e.lastAccess = .ok ∧ d.keeps e [Reg.GOV_CNT, Reg.GOV_TIME, Reg.GOV_STAT, Reg.GOV_CTL]) ∧
      (Gives (.temperatureExtremesClear m) s fun e =>
        e.reg Reg.THM_MAX = 0x80007FFF ∧ e.lastAccess = .ok ∧ d.keeps e [Reg.THM_MAX])) ∧
    (d.fl.job = none ∨ (d.fl.job = some j ∧ j.op ≠ .erase) →
      exec .powerFail s = .next (s.withDev (d.setRbit Reg.GOV_STAT 9 true))) ∧
    (d.fl.job = some j → j.op = .erase →
      Gives .powerFail s fun e =>
        e.rbit Reg.GOV_STAT 9 = true ∧ e.fl.job = none ∧ e.sn.erasures = d.sn.erasures ++ [j.sector] ∧
        e.rbit Reg.THM_STAT 11 = true ∧ e.fld Reg.NVM_STAT 15 8 = 9 ∧ e.rbit Reg.NVM_STAT 0 = false ∧
        d.keeps e [Reg.GOV_STAT, Reg.THM_STAT, Reg.NVM_STAT]) ∧
    (d.clocked → d.rbit Reg.HKP_STAT 18 = true → d.mode = 5 → d.su.runReq = true →
      let p := (d.hkPublish volts).thermalRound code
      let late := d.su.runReqAt + ticksUs 100 < d.now ∨ ∃ c < 24, p.hkBad c = true
      let hot := p.rbit Reg.THM_STAT 0 = true ∨ p.rbit Reg.THM_STAT 4 = true
      let pins := d.rbit Reg.DST_PINS 0 = true ∨ d.rbit Reg.DST_PINS 1 = true
      let no := fun (e : Dev) (c : Nat) => e.mode = 5 ∧ e.rbit Reg.SNL_MREQ 16 = true ∧ e.fld Reg.SNL_MREQ 15 8 = c
      Gives round s fun e =>
        e.su.runReq = false ∧ e.rbit Reg.SNL_MREQ 17 = false ∧ (late → no e 5) ∧ (¬late → hot → no e 6) ∧
        (¬late → ¬hot → pins → no e 7) ∧
        (¬late → ¬hot → ¬pins → e.mode = d.runMode ∧ e.fld Reg.DST_MODE 7 4 = 5 ∧ e.rbit Reg.SNL_MREQ 18 = true)) ∧
    (d.clocked → d.rbit Reg.HKP_STAT 18 = true → d.su.invShut = false →
      (d.badReading code = false →
        Gives round s fun e =>
          (∀ x ∈ thmLevels,
            e.rbit Reg.THM_STAT x.bit =
              (if d.rbit Reg.THM_STAT x.bit then !x.released (d.tempOf code) else x.tripped (d.tempOf code)) ∧
            (d.rbit Reg.THM_STAT x.bit = false → x.tripped (d.tempOf code) = true → e.raised x.src 0)) ∧
          (d.mode = 6 ∨ d.mode = 7 → e.rbit Reg.THM_STAT 4 = true → e.mode = 8)) ∧
      (d.badReading code = true →
        Gives round s fun e =>
          e.rbit Reg.THM_STAT 9 = true ∧ (d.su.invalid ≤ 2 → e.su.invalid = d.su.invalid + 1) ∧
          (d.su.invalid = 2 → e.rbit Reg.THM_STAT 4 = true) ∧
          (d.su.invalid = 2 → d.rbit Reg.THM_STAT 4 = false → e.raised Src.THM_SHUT 0 ∧ e.su.invShut = true)))

/-! ### The flash (R496 to R506) -/

/-- The flash controller (R497, R499 to R502, R505): an operation that is busy, unknown, without rights (any but
a Bobbin's in supervisor mode), of a wrong length, in a region or mode that does not admit it, or with the gate closed is refused with its code; one that is
accepted is in progress; each word and sector that is done stands in the flash and advances PROG, the last ends the
job with DONE; what does not verify ends it with VERIFY; a record that is due is appended whole when it may be, and an
erase that is due again is done; before the PLL locks only BOOT does so. An append whose words the Flyer holds back reads each in its turn. The order of the checks is the model's reading (notes/assumptions/45.md); the words
of an erase or a program that failed are free (3.md, 76.md). -/
def Obligations.FlashOperations : Prop :=
  ∀ (m : Master) (c : Fin 3) (v : Word) (j : FlashJob) (x : Rec) (bs : List Byte) (q : Bool) (s : State),
    let d := s.dev
    let b : Master := .bobbin c
    let st := Reg.NVM_STAT
    let no := fun (i : Instr) (code : Nat) =>
      exec i s = .next (s.withDev (((d.setFld st 15 8 code).setRbit st 2 true).answer .ok))
    let n := d.fld Reg.NVM_LEN 10 0
    let dst := d.fld Reg.NVM_DST 22 5 * 32
    let src := d.fld Reg.NVM_SRC 23 5 * 32
    let runs := fun (i : Instr) (y : FlashJob) =>
      Gives i s fun e =>
        e.fl.job = some y ∧ e.rbit st 0 = true ∧ e.reg Reg.NVM_PROG = 0 ∧ e.lastAccess = .ok ∧ e.fl.mem = d.fl.mem ∧
        d.keeps e [st, Reg.NVM_PROG]
    let progSecs := firstRefusal d.bobRefusal (sectorsTouched dst n)
    let eraseSecs := firstRefusal d.bobRefusal ((List.range n).map (dst / 16384 + ·))
    let rom := d.clocked = true ∨ d.mode = 1
    let erasedSecs := ((List.range 32).filter fun k => d.sectorErased k).length
    (d.rbit st 0 = true → d.admits m →
      no (.flashAppend m v) 7 ∧ no (.flashProgram m v) 7 ∧ no (.flashErase m v) 7 ∧ no (.flashBadOp m v) 7) ∧
    (d.rbit st 0 = false → d.admits m →
      no (.flashBadOp m v) 1 ∧
      ((∀ k, m = .bobbin k → d.sup k = false) →
        no (.flashProgram m v) 11 ∧ no (.flashErase m v) 11 ∧ no (.flashAppend m v) 11)) ∧
    (d.rbit st 0 = false → d.clocked = true → d.sup c = true →
      (n = 0 ∨ 158 < n → no (.flashAppend b v) 6) ∧
      (1 ≤ n → n ≤ 158 →
        (bitsOf v 31 24 ≠ 7 → no (.flashAppend b v) 11) ∧
        (bitsOf v 31 24 = 7 → d.mode < 4 ∨ 10 < d.mode → no (.flashAppend b v) 3) ∧
        (bitsOf v 31 24 = 7 → 4 ≤ d.mode → d.mode ≤ 10 →
          (d.gateRefusal ≠ 0 → no (.flashAppend b v) d.gateRefusal) ∧
          (∀ p, d.gateRefusal = 0 → d.place n = some p → d.readsClean 130 → src + 32 * n ≤ 0x1000000 →
            let r : Rec := { kind := 7, tag := d.fld Reg.NVM_LEN 31 16, data := d.words src (8 * n) }
            runs (.flashAppend b v)
              { op := .append r, src := 0, data := some (r.bytes d.fl.seq d.recMinutes), dst := 32 * p, n := n + 2, done := 0,
                session := false }) ∧
          (∀ p, d.gateRefusal = 0 → d.place n = some p → d.quiet →
            Gives (.flashAppend b v) s fun e =>
              e.rbit st 0 = true ∧ e.fl.mem = d.fl.mem ∧
              e.fl.job.any (fun y => decide (y.dst = 32 * p) && decide (y.n = n + 2) && decide (y.done = 0)) = true) ∧
          (d.gateRefusal = 0 → d.place n = none → d.readsClean 130 → src + 32 * n ≤ 0x1000000 →
            Gives (.flashAppend b v) s fun e =>
              e.fld st 15 8 = 5 ∧ e.rbit st 2 = true ∧ e.fl.job = d.fl.job ∧ d.keeps e [st]))) ∧
      (n = 0 ∨ 1024 < n → no (.flashProgram b v) 6) ∧
      (1 ≤ n → n ≤ 1024 →
        (progSecs ≠ 0 → no (.flashProgram b v) progSecs) ∧
        (progSecs = 0 → d.gateRefusal ≠ 0 → no (.flashProgram b v) d.gateRefusal) ∧
        (progSecs = 0 → d.gateRefusal = 0 →
          runs (.flashProgram b v)
            { op := .program, src := src, data := none, dst := dst, n := n, done := 0, session := false })) ∧
      (n = 0 ∨ 224 < n → no (.flashErase b v) 6) ∧
      (1 ≤ n → n ≤ 224 →
        (eraseSecs ≠ 0 → no (.flashErase b v) eraseSecs) ∧
        (eraseSecs = 0 → d.gateRefusal ≠ 0 → no (.flashErase b v) d.gateRefusal) ∧
        (eraseSecs = 0 → d.gateRefusal = 0 →
          runs (.flashErase b v)
            { op := .erase, src := 0, data := none, dst := dst / 16384 * 16384, n := n, done := 0, session := false }))) ∧
    (¬rom → ∀ i ∈ [Instr.flashWordDone q, .flashSectorDone q, .distaffRecordAppend, .waitingRecordWrite],
      exec i s = .next s) ∧
    (d.fl.job = none → exec (.flashWordDone q) s = .next s ∧ exec (.flashSectorDone q) s = .next s) ∧
    (d.fl.job = some j → rom →
      let off := j.dst + 32 * j.done
      let word := fun (e : Dev) (k : Nat) (w : Nat → Byte) =>
        ∀ a, e.fbyte a = if off ≤ a ∧ a < off + k then w (a - off) else d.fbyte a
      let next := fun (e : Dev) =>
        e.reg Reg.NVM_PROG = BitVec.ofNat 32 (j.done + 1) ∧
        (j.done + 1 = j.n → e.fl.job = none ∧ e.fld st 15 8 = 0 ∧ e.rbit st 0 = false ∧ e.rbit st 2 = true) ∧
        (j.done + 1 ≠ j.n → d.rbit Reg.GOV_STAT 9 = false → e.fl.job = some { j with done := j.done + 1 }) ∧
        (j.done + 1 ≠ j.n → d.rbit Reg.GOV_STAT 9 = true → e.fl.job = none ∧ e.fld st 15 8 = 8)
      (j.op ≠ .erase →
        exec (.flashSectorDone q) s = .next s ∧
        (d.wordErased off = false →
          Gives (.flashWordDone q) s fun e =>
            e.fl.job = none ∧ e.fld st 15 8 = 5 ∧ e.rbit st 0 = false ∧ e.rbit st 2 = true ∧ e.fl.mem = d.fl.mem ∧
            d.keeps e [st]) ∧
        (d.wordErased off = true →
          Gives (.flashWordDone false) s fun e =>
            e.fl.job = none ∧ e.fld st 15 8 = 10 ∧ e.raised 130 0 ∧
            (∀ a, a < off ∨ off + 32 ≤ a → e.fbyte a = d.fbyte a) ∧ d.keeps e [st])) ∧
      (j.op = .program → d.wordErased off = true →
        (j.data = none → d.readsClean 130 → j.src % 32 = 0 → j.src + 32 * j.done + 32 ≤ 0x1000000 →
          Gives (.flashWordDone true) s fun e =>
            word e 32 (fun i => d.byte (j.src + 32 * j.done + i)) ∧ next e ∧ d.keeps e [st, Reg.NVM_PROG]) ∧
        (j.data = none → d.quiet →
          Gives (.flashWordDone true) s fun e => next e ∧ ∀ a, a < off ∨ off + 32 ≤ a → e.fbyte a = d.fbyte a) ∧
        (j.data = some bs →
          Gives (.flashWordDone true) s fun e =>
            word e (min 32 (bs.length - 32 * j.done)) (fun i => bs.getD (32 * j.done + i) 0) ∧ next e ∧
            d.keeps e [st, Reg.NVM_PROG])) ∧
      (j.op = .append x → j.data = some bs → d.wordErased off = true →
        (j.done + 1 ≠ j.n →
          Gives (.flashWordDone true) s fun e =>
            word e (min 32 (bs.length - 32 * j.done)) (fun i => bs.getD (32 * j.done + i) 0) ∧
            e.fl.job = some { j with done := j.done + 1 } ∧ e.fl.recs = d.fl.recs ∧ d.keeps e [Reg.NVM_PROG]) ∧
        (j.done + 1 = j.n → 3 ≤ erasedSecs →
          Gives (.flashWordDone true) s fun e =>
            e.fl.recs = d.fl.recs ++ [(d.fl.seq, { x with data := x.payload })] ∧ e.fl.seq = d.fl.seq + 1 ∧
            e.fl.job = none ∧ e.fld st 15 8 = 0 ∧ e.rbit st 2 = true ∧ d.keeps e [st, Reg.NVM_PROG, Reg.NVM_JRNL])) ∧
      (j.op = .erase →
        exec (.flashWordDone q) s = .next s ∧
        (Gives (.flashSectorDone true) s fun e =>
          (∀ a, e.fbyte a = if a / 16384 = j.sector then 0xFF else d.fbyte a) ∧
          e.reg Reg.NVM_PROG = BitVec.ofNat 32 (j.done + 1) ∧
          (j.done + 1 = j.n → e.fl.job = none ∧ e.fld st 15 8 = 0 ∧ e.rbit st 0 = false ∧ e.rbit st 2 = true) ∧
          (j.done + 1 ≠ j.n → d.rbit Reg.THM_STAT 8 = true → e.fl.job = some { j with done := j.done + 1 }) ∧
          (j.done + 1 ≠ j.n → d.rbit Reg.THM_STAT 8 = false → e.fl.job = none ∧ e.fld st 15 8 = 4) ∧
          d.keeps e [st, Reg.NVM_PROG]) ∧
        (Gives (.flashSectorDone false) s fun e =>
          e.fl.job = none ∧ e.fld st 15 8 = 10 ∧ e.raised 131 0 ∧
          (∀ a, a / 16384 ≠ j.sector → e.fbyte a = d.fbyte a) ∧ d.keeps e [st]))) ∧
    (d.fl.due = [] ∨ d.mayAppend = false → exec .distaffRecordAppend s = .next s) ∧
    (∀ r rest, d.fl.due = r :: rest → d.mayAppend = true → rom →
      (Gives .distaffRecordAppend s fun e => e.fl.due = rest ∧ e.rbit st 1 = !rest.isEmpty ∧ d.keeps e [st, Reg.NVM_JRNL]) ∧
      (∀ p, d.place r.len = some p → p < 16384 → 3 ≤ erasedSecs →
        Gives .distaffRecordAppend s fun e =>
          e.fl.recs = d.fl.recs ++ [(d.fl.seq, { r with data := r.payload })] ∧ e.fl.seq = d.fl.seq + 1 ∧
          e.fl.pos = p + r.len + 2 ∧ e.fl.due = rest ∧ e.rbit st 1 = !rest.isEmpty ∧
          e.fword (32 * p) = BitVec.ofNat 32 (0x4A310000 + r.kind % 256 * 256 + r.len) ∧
          (∀ a, a < 32 * p ∨ 32 * (p + r.len + 2) ≤ a → e.fbyte a = d.fbyte a) ∧ d.keeps e [st, Reg.NVM_JRNL])) ∧
    (d.fl.due = [] ∨ d.mayAppend = false → d.fl.redo = [] ∨ d.gateOpen = false ∨ d.fl.job.isSome = true →
      exec .waitingRecordWrite s = .next s) ∧
    (d.mayAppend = true → d.fl.job = none → rom →
      Gives .waitingRecordWrite s fun e => e.fl.due = [] ∧ e.fl.redo = [] ∧ d.keeps e [st, Reg.NVM_JRNL]) ∧
    (∀ k, d.fl.due = [] → d.fl.redo = [k] → d.gateOpen = true → d.fl.job = none → rom → 32 ≤ k → d.fl.pos ≤ 16384 →
      Gives .waitingRecordWrite s fun e =>
        e.fl.redo = [] ∧ (∀ a, a / 16384 = k → e.fbyte a = 0xFF) ∧ d.sameMem e) ∧
    (∀ p, d.rbit st 0 = false → d.clocked = true → d.sup c = true → 1 ≤ n → n ≤ 158 → bitsOf v 31 24 = 7 → 4 ≤ d.mode →
      d.mode ≤ 10 → d.gateRefusal = 0 → d.place n = some p → d.userData src n = none →
      runs (.flashAppend b v)
        { op := .append { kind := 7, tag := d.fld Reg.NVM_LEN 31 16, data := List.replicate (8 * n) 0 }, src := src,
          data := none, dst := 32 * p, n := n + 2, done := 0, session := false }) ∧
    (d.fl.job = some j → rom → j.op = .append x → j.data = none → 1 ≤ j.done → j.done + 1 < j.n →
      d.wordErased (j.dst + 32 * j.done) = true → d.readsClean 130 → j.src % 32 = 0 →
      j.src + 32 * j.done ≤ 0x1000000 →
      let off := j.dst + 32 * j.done
      Gives (.flashWordDone true) s fun e =>
        (∀ a, e.fbyte a =
          if off ≤ a ∧ a < off + 32 then d.byte (j.src + 32 * (j.done - 1) + (a - off)) else d.fbyte a) ∧
        e.fl.job.map FlashJob.done = some (j.done + 1) ∧ e.fl.recs = d.fl.recs ∧ d.keeps e [Reg.NVM_PROG])

/-! ### Service sessions (R512 to R517) and the HSPI slave (R535) -/

/-- Opening and ending a session (R513 to R516): HELLO gives a nonce, AUTH with the MAC over it opens the session for
its role, a failed AUTH is counted, raises SVC_AUTH and after the third in a row locks out; a frame of no session,
with a wrong MAC or out of sequence is answered so and acts on nothing, a repeated one gets the stored answer; BYE,
10 s without a valid frame and the loss of the transport end the session, the last two with SVC_LOST, and a SERVICE returns to the
mode it came from; the lockout ends after 60 s. The MAC is computed as its standard gives it, over a key that is a free value
until fused words have been read (notes/assumptions/74.md). -/
def Obligations.SessionOpening : Prop :=
  ∀ (h : SesFrame) (fuses : List (BitVec 9 × Word)) (struck : List (BitVec 18 × Bool)) (nonce mac : List Byte)
      (role : BitVec 8) (q : Bool) (req : BitVec 4) (a : Word) (ws : List Word)
      (bs : List Byte) (k c : Nat) (x y : BitVec 24) (s : State),
    let d := s.dev
    let tells := fun (i : Instr) (code : Nat) => exec i s = .next (s.withDev (d.reply code []))
    let frames := [Instr.sessionKeep h, .sessionBye h, .sessionRead h a k, .sessionWrite h a ws, .sessionMode h req,
      .sessionStatus h, .sessionJread h a, .sessionIdent h, .sessionErase h k c, .sessionProg h k bs, .sessionVerify h q fuses struck,
      .sessionRollback h struck, .sessionLdrun h ⟨x, y⟩]
    let entry := d.fld Reg.DST_MODE 11 8
    let back := if entry = 6 then d.runMode else entry
    let over_ := fun (e : Dev) =>
      e.sv.role = none ∧ e.sv.link = none ∧ e.sv.fails = d.sv.fails ∧ (d.mode ≠ 10 → d.keeps e []) ∧
        (d.mode = 10 → e.mode = back ∧ (entry = 3 → d.su.supplied.isSome = true → e.rbit Reg.DST_BOOT 3 = true))
    let taken := d.nonceValid = true ∧ d.sv.link = some h.t ∧ 1 ≤ role.toNat ∧ role.toNat ≤ 3 ∧ mac = d.authMac role.toNat
    let busy := (d.sv.role.isSome = true ∨ d.nonceValid = true) ∧ d.sv.link ≠ some h.t
    d.clocked →
    (d.mode < 3 ∨ 10 < d.mode → tells (.sessionHello h.t nonce) 0x12 ∧ tells (.sessionAuth h role mac) 0x12) ∧
    (3 ≤ d.mode → d.mode ≤ 10 →
      (d.sv.lockout = true → tells (.sessionHello h.t nonce) 0x15 ∧ tells (.sessionAuth h role mac) 0x15) ∧
      (d.sv.lockout = false →
        (busy → tells (.sessionHello h.t nonce) 0x16) ∧
        (¬busy →
          Gives (.sessionHello h.t nonce) s fun e =>
            e.sv.link = some h.t ∧ e.sv.nonce = some nonce ∧ e.sv.nonceAt = d.now ∧ e.sv.role = d.sv.role ∧
            e.sv.sent = some ⟨0, wordsOfBytes nonce ++ [d.idnWord 8, d.idnWord 0xC]⟩ ∧ d.keeps e []) ∧
        (taken →
          Gives (.sessionAuth h role mac) s fun e =>
            e.sv.role = some role.toNat ∧ e.sv.nonce = none ∧ e.sv.fails = 0 ∧ e.sv.seq = h.seq.toNat ∧
            e.sv.lastAt = d.now ∧ e.sv.sent = some ⟨0, []⟩ ∧ d.keeps e []) ∧
        (¬taken →
          Gives (.sessionAuth h role mac) s fun e =>
            e.sv.fails = d.sv.fails + 1 ∧ e.sv.lockout = decide (2 ≤ d.sv.fails) ∧
            (2 ≤ d.sv.fails → e.sv.lockAt = d.now) ∧ e.raised 134 0 ∧
            e.sv.sent = some ⟨0x10, []⟩ ∧ e.sv.role = d.sv.role ∧ d.keeps e []))) ∧
    (d.sv.role = none ∨ d.sv.link ≠ some h.t → ∀ i ∈ frames, tells i 0x10) ∧
    (d.sv.role.isSome = true → d.sv.link = some h.t →
      (h.macOk = false → ∀ i ∈ frames, tells i 0x14) ∧
      (h.macOk = true → h.seq.toNat = d.sv.seq →
        ∀ i ∈ frames, exec i s = .next (s.withDev (d.modSv fun x => { x with lastAt := d.now, sent := x.resp }))) ∧
      (h.macOk = true → h.seq.toNat ≠ d.sv.seq → h.seq.toNat ≠ (d.sv.seq + 1) % 65536 → ∀ i ∈ frames, tells i 0x14) ∧
      (h.macOk = true → h.seq.toNat = (d.sv.seq + 1) % 65536 →
        Gives (.sessionBye h) s fun e => over_ e ∧ e.sv.sent = some ⟨0, []⟩)) ∧
    (d.sv.role = none ∨ d.now < d.sv.lastAt + ticksMs 10000 → exec .sessionTimeout s = .next s) ∧
    (d.sv.role.isSome = true →
      (d.sv.lastAt + ticksMs 10000 ≤ d.now → Gives .sessionTimeout s fun e => over_ e ∧ e.raised 135 0) ∧
      (d.sv.link = some h.t → Gives (.sessionTransportLoss h.t) s fun e => over_ e ∧ e.raised 135 0)) ∧
    (d.sv.link ≠ some h.t → exec (.sessionTransportLoss h.t) s = .next s) ∧
    (d.sv.role = none → d.sv.link = some h.t →
      Gives (.sessionTransportLoss h.t) s fun e => e.sv.link = none ∧ e.sv.nonce = none ∧ d.keeps e []) ∧
    (d.now < d.sv.lockAt + ticksMs 60000 → exec .lockoutExpiry s = .next s) ∧
    (d.sv.lockAt + ticksMs 60000 ≤ d.now → Gives .lockoutExpiry s fun e => e.sv.lockout = false ∧ e.sv.role = d.sv.role ∧ d.keeps e [])

/-- Commands within a session (R457, R459, R500, R507 to R511, R517): each is answered by its code and, where it is
accepted, does what R517 gives it; a role or a mode that does not admit it is answered and nothing acts. The code of a
READ or WRITE of more than 256 words is a free value (notes/assumptions/3.md). The order of the checks and the layouts
of STATUS, JREAD and IDENT are the model's readings (notes/assumptions/31.md, 33.md). The fuses and the struck words
that a verification meets are operands (74.md, 76.md). -/
def Obligations.SessionCommands : Prop :=
  ∀ (h : SesFrame) (a w : Word) (ws : List Word) (bs : List Byte) (r k c : Nat) (q : Bool) (x y : BitVec 24) (req : BitVec 4)
      (fuses : List (BitVec 9 × Word)) (struck : List (BitVec 18 × Bool)) (s : State),
    let d := s.dev
    let said := fun (e : Dev) (code : Nat) (x : List Word) =>
      e.sv.sent = some ⟨code, x⟩ ∧ e.sv.resp = some ⟨code, x⟩ ∧ e.sv.seq = h.seq.toNat ∧ e.sv.lastAt = d.now
    let tells := fun (i : Instr) (code : Nat) (x : List Word) => Gives i s fun e => said e code x ∧ d.keeps e []
    let starts := fun (i : Instr) (x : FlashJob) =>
      Gives i s fun e =>
        e.fl.job = some x ∧ e.sv.waitFlash = some h.seq.toNat ∧ e.rbit Reg.NVM_STAT 0 = true ∧ e.reg Reg.NVM_PROG = 0 ∧
        e.sv.sent = d.sv.sent ∧ d.keeps e [Reg.NVM_STAT, Reg.NVM_PROG]
    let need := fun (ss : List Nat) => ss.foldl (fun n k => max n (sectorRole k)) 2
    let erase := (List.range (min k 512)).map (c + ·)
    let prog := sectorsTouched c ((bs.length + 31) / 32)
    let me := d.masterReq .session
    let entry := d.fld Reg.DST_MODE 11 8
    let counts := [Reg.NVM_STAT, Reg.NVM_CECNT]
    let other := !d.rbit Reg.NVM_SLOT 0
    let dv := d.meets fuses struck
    let dr := d.meets [] struck
    let good := (dv.imgSlotOk other && (d.polSlot (d.slotBytes other)).isSome) = true
    let back := fun (code : Nat) => Gives (.sessionRollback h struck) s fun e => said e code [] ∧ d.keeps e counts
    let g := fun o => d.byte (x.toNat + o)
    let p := fun o => d.byte (y.toNat + o)
    let runs := (d.imageOk g && decide (sha256 (bytesBy p 0 2688) = bytesBy g 0x18 32) && policySig g p && policyEnt p) = true
    let refused := fun (req : BitVec 4) (code : Word) =>
      Gives (.sessionMode h req) s fun e =>
        said e 0x18 [code] ∧ e.rbit Reg.SNL_MREQ 16 = true ∧ e.mode = d.mode ∧ d.keeps e [Reg.SNL_MREQ]
    let pins := d.rbit Reg.DST_PINS 0 = true ∨ d.rbit Reg.DST_PINS 1 = true
    d.clocked → d.sv.role = some r → d.sv.link = some h.t → h.macOk = true → h.seq.toNat = (d.sv.seq + 1) % 65536 → 1 ≤ r →
    tells (.sessionKeep h) 0 [] ∧ tells (.sessionStatus h) 0 d.statusWords ∧
    tells (.sessionJread h a) 0 (d.journalWords a.toNat) ∧ tells (.sessionIdent h) 0 d.identWords ∧
    (256 < k → Gives (.sessionRead h a k) s fun e => e.freeCtr = d.freeCtr + 1 ∧ ∃ z, z < 256 ∧ said e z [] ∧ d.keeps e []) ∧
    (256 < ws.length →
      Gives (.sessionWrite h a ws) s fun e => e.freeCtr = d.freeCtr + 1 ∧ ∃ z, z < 256 ∧ said e z [] ∧ d.keeps e []) ∧
    (a.toNat % 4 = 0 → k ≤ 256 → a.toNat + 4 * k ≤ 0x1000000 → d.readsClean me →
      tells (.sessionRead h a k) 0 (d.words a.toNat k)) ∧
    (a.toNat % 4 = 0 → 0x20000000 ≤ a.toNat → a.toNat < 0x40000000 →
      (readChanges a.toNat = false → d.readReg a.toNat = (d, some w) → tells (.sessionRead h a 1) 0 [w]) ∧
      (readChanges a.toNat = false → (d.readReg a.toNat).2 = none → tells (.sessionRead h a 1) 0x13 []) ∧
      (readChanges a.toNat = true → r < 2 → tells (.sessionRead h a 1) 0x11 []) ∧
      (readChanges a.toNat = true → 2 ≤ r → d.mode ≠ 10 → tells (.sessionRead h a 1) 0x12 [])) ∧
    (ws.length ≤ 256 → r < 2 → tells (.sessionWrite h a ws) 0x11 []) ∧
    (r < 2 → tells (.sessionMode h req) 0x11 []) ∧
    (r < 3 → tells (.sessionVerify h q fuses struck) 0x11 [] ∧ tells (.sessionRollback h struck) 0x11 [] ∧ tells (.sessionLdrun h ⟨x, y⟩) 0x11 []) ∧
    (2 ≤ r →
      (d.mode ≠ 10 → ws.length ≤ 256 → tells (.sessionWrite h a ws) 0x12 []) ∧
      (d.mode = 10 →
        (Gives (.sessionWrite h (BitVec.ofNat 32 Reg.GPIO_OUT) [w]) s fun e =>
          e.reg Reg.GPIO_OUT = w ∧ said e 0 [] ∧ d.keeps e [Reg.GPIO_OUT]) ∧
        ((0x1000000 ≤ a.toNat ∧ a.toNat < 0x20000000) ∨ 0x40000000 ≤ a.toNat → tells (.sessionWrite h a [w]) 0x13 []) ∧
        (a.toNat % 4 = 0 → d.settled → d.storeRefusal me a.toNat 4 false = none → d.blockedLine me a.toNat 4 = none →
          Gives (.sessionWrite h a [w]) s fun e =>
            said e 0 [] ∧
            ∀ z, e.byte z =
              if a.toNat ≤ z ∧ z < a.toNat + 4 then (bytesOfWord w).getD (z - a.toNat) 0 else d.byte z)) ∧
      tells (.sessionMode h 0) 0 [] ∧
      (pins → refused 6 7 ∧ refused 7 7) ∧
      (d.su.sleepReq = true → req ≠ 0 → ¬(pins ∧ (req = 6 ∨ req = 7)) → refused req 1) ∧
      (d.su.sleepReq = false →
        (d.mode ≠ 10 → req = 2 ∨ req = 3 ∨ req = 9 ∨ 12 ≤ req.toNat → refused req 1) ∧
        (d.mode ≠ 5 → refused 11 10) ∧
        (d.mode = 5 →
          (d.rbit Reg.DST_WAKE 0 = false → d.rbit Reg.DST_WAKE 2 = false → refused 11 10) ∧
          (d.rbit Reg.DST_WAKE 0 = true ∨ d.rbit Reg.DST_WAKE 2 = true →
            Gives (.sessionMode h 11) s fun e => said e 0 [] ∧ e.su.sleepReq = true ∧ e.mode = 5) ∧
          (¬pins → req = 6 ∨ req = 7 →
            Gives (.sessionMode h req) s fun e =>
              said e 0 [] ∧ e.su.runReq = true ∧ e.su.runReqAt = d.now ∧ e.rbit Reg.SNL_MREQ 17 = true ∧ e.mode = 5) ∧
          (d.allQuiet = false → refused 4 2)) ∧
        (d.mode = 6 ∨ d.mode = 7 →
          (d.allQuiet = false → refused 5 2 ∧ refused 1 2) ∧
          (d.allQuiet = true → Gives (.sessionMode h 5) s fun e => said e 0 [] ∧ e.mode = 5)) ∧
        (d.mode = 3 ∨ d.mode = 4 ∨ d.mode = 5 ∨ d.mode = 6 ∨ d.mode = 7 ∨ d.mode = 9 →
          Gives (.sessionMode h 10) s fun e => said e 0 [] ∧ e.mode = 10 ∧ e.fld Reg.DST_MODE 11 8 = d.mode) ∧
        (d.mode = 10 →
          (req.toNat = entry → req ∉ [0, 1, 6, 7, 8, 10, 11] →
            Gives (.sessionMode h req) s fun e => said e 0 [] ∧ e.mode = entry) ∧
          (¬pins → req = 6 ∨ req = 7 → entry = 6 ∨ entry = 7 →
            Gives (.sessionMode h req) s fun e => said e 0 [] ∧ e.mode = if entry = 6 then d.runMode else 7) ∧
          (req.toNat ≠ entry → req ∉ [0, 1, 6, 7, 8, 10, 11] → refused req 1)) ∧
        (d.mode = 5 → d.allQuiet = true →
          Gives (.sessionMode h 4) s fun e => said e 0 [] ∧ e.mode = 4 ∧ e.fld Reg.DST_MODE 7 4 = 5) ∧
        (d.mode = 4 →
          (d.rbit Reg.DST_POL 0 = true → d.anyCfgp = false → Gives (.sessionMode h 5) s fun e => said e 0 [] ∧ e.mode = 5) ∧
          (d.rbit Reg.DST_POL 0 = false → refused 5 3) ∧
          (d.rbit Reg.DST_POL 0 = true → d.anyCfgp = true → refused 5 4)) ∧
        (d.mode = 6 ∨ d.mode = 7 ∨ d.mode = 10 → Gives (.sessionMode h 8) s fun e => said e 0 [] ∧ e.mode = 8) ∧
        (d.mode = 4 ∨ d.mode = 5 ∨ d.mode = 9 ∨ d.mode = 10 →
          Gives (.sessionMode h 1) s fun e => e.mode = 1 ∧ e.reg Reg.DST_RSTC = 3 ∧ e.sv.role = none ∧ d.sameMem e))) ∧
    (r < need erase → tells (.sessionErase h c k) 0x11 []) ∧
    (need erase ≤ r →
      (d.flashMode = false → tells (.sessionErase h c k) 0x12 []) ∧
      (d.flashMode = true → d.rbit Reg.NVM_STAT 0 = true → tells (.sessionErase h c k) 7 []) ∧
      (d.flashMode = true → d.rbit Reg.NVM_STAT 0 = false →
        (k = 0 ∨ 224 < k → tells (.sessionErase h c k) 6 []) ∧
        (1 ≤ k → k ≤ 224 →
          (firstRefusal d.sesRefusal erase ≠ 0 → tells (.sessionErase h c k) (firstRefusal d.sesRefusal erase) []) ∧
          (firstRefusal d.sesRefusal erase = 0 → d.gateRefusal ≠ 0 → tells (.sessionErase h c k) d.gateRefusal []) ∧
          (firstRefusal d.sesRefusal erase = 0 → d.gateRefusal = 0 →
            starts (.sessionErase h c k)
              { op := .erase, src := 0, data := none, dst := c * 16384, n := k, done := 0, session := true })))) ∧
    (r < need prog → tells (.sessionProg h c bs) 0x11 []) ∧
    (need prog ≤ r →
      (d.flashMode = false → tells (.sessionProg h c bs) 0x12 []) ∧
      (d.flashMode = true → d.rbit Reg.NVM_STAT 0 = true → tells (.sessionProg h c bs) 7 []) ∧
      (d.flashMode = true → d.rbit Reg.NVM_STAT 0 = false →
        (bs.length = 0 ∨ 1024 < bs.length ∨ bs.length % 32 ≠ 0 ∨ c % 32 ≠ 0 → tells (.sessionProg h c bs) 6 []) ∧
        (1 ≤ bs.length → bs.length ≤ 1024 → bs.length % 32 = 0 → c % 32 = 0 →
          (firstRefusal d.sesRefusal prog ≠ 0 → tells (.sessionProg h c bs) (firstRefusal d.sesRefusal prog) []) ∧
          (firstRefusal d.sesRefusal prog = 0 → d.gateRefusal ≠ 0 → tells (.sessionProg h c bs) d.gateRefusal []) ∧
          (firstRefusal d.sesRefusal prog = 0 → d.gateRefusal = 0 →
            starts (.sessionProg h c bs)
              { op := .program, src := 0, data := some bs, dst := c, n := (bs.length + 31) / 32, done := 0,
                session := true })))) ∧
    (3 ≤ r → d.flashMode = false → tells (.sessionVerify h q fuses struck) 0x12 [] ∧ tells (.sessionRollback h struck) 0x12 []) ∧
    (3 ≤ r → d.flashMode = true →
      (¬good → Gives (.sessionVerify h q fuses struck) s fun e => said e 0x17 [] ∧ d.keeps e counts) ∧
      (good →
        Gives (.sessionVerify h q fuses struck) s fun e =>
          said e 0 [] ∧
          (q = true → e.fld Reg.IDN_FUSE 15 10 = max d.arb (wordBy (d.slotBytes other) 8).toNat) ∧
          (q = false → e.reg Reg.IDN_FUSE = d.reg Reg.IDN_FUSE) ∧ d.keeps e (Reg.IDN_FUSE :: counts)) ∧
      (d.newest = none → tells (.sessionRollback h struck) 0x17 []) ∧
      (∀ z, d.newest = some z →
        (dr.imgSlotOk (!z) = false → back 0x17) ∧
        (dr.imgSlotOk (!z) = true → d.rbit Reg.NVM_STAT 0 = true → back 7) ∧
        (dr.imgSlotOk (!z) = true → d.rbit Reg.NVM_STAT 0 = false → d.gateRefusal ≠ 0 → back d.gateRefusal) ∧
        (dr.imgSlotOk (!z) = true → d.rbit Reg.NVM_STAT 0 = false → d.gateRefusal = 0 →
          Gives (.sessionRollback h struck) s fun e =>
            e.fl.job = some { op := .erase, src := 0, data := none, dst := slotBase z, n := 1, done := 0, session := true } ∧
            e.sv.waitFlash = some h.seq.toNat ∧ e.rbit Reg.NVM_STAT 0 = true ∧ e.reg Reg.NVM_PROG = 0 ∧
            e.sv.sent = d.sv.sent ∧ d.keeps e (Reg.NVM_PROG :: counts)))) ∧
    (3 ≤ r → d.mode ≠ 10 ∨ entry ≠ 3 → tells (.sessionLdrun h ⟨x, y⟩) 0x12 []) ∧
    (3 ≤ r → d.mode = 10 → entry = 3 →
      (¬runs → tells (.sessionLdrun h ⟨x, y⟩) 0x17 []) ∧
      (runs →
        Gives (.sessionLdrun h ⟨x, y⟩) s fun e =>
          said e 0 [] ∧ e.su.supplied = some (x.toNat, y.toNat) ∧ d.keeps e []))

/-! ### Links and lands (R518 to R543) -/

/-- Frames and descriptors (R34, R52, R64, R522 to R527, R531 to R533, R537): a frame at a link that is off or bus-off
is lost, one that fails its check is counted and raises LNK_ERR, one that no filter takes is dropped unseen, a record
that fits enters the ring whole with its status beat and is counted, one that does not is dropped and raises LNK_DROP;
characters gather in a UART's record; a kick starts the transmission of an owned descriptor, whose end writes it back,
counts it and advances TXIDX; a reset ends it all and rolls the ring back to its last whole record. What the filters
and the check take is read as notes/assumptions/46.md and 77.md say. -/
def Obligations.LinkFrames : Prop :=
  ∀ (l : Fin 18) (r : RxFrame) (res : BitVec 2) (sec ns : Word) (fl : Nat) (info : Word) (s : State),
    let d := s.dev
    let x := d.link l
    let st := Reg.LNK_STAT l
    let drops := Reg.LNK_DROPS l
    let hn := d.fld (Reg.LNK_CTL l) 15 8
    let h := d.hank hn
    let live := x.busOff = false ∧ (d.linkEn l = true ∨ (d.rbit st 0 = true ∧ x.closing = true))
    let uart := l.val = 12 ∨ l.val = 13
    let fails := r.ok = false ∨ (l.val < 2 ∧ (r.data.length < 14 ∨ 1536 < r.data.length)) ∨
      (2 ≤ l.val ∧ l.val < 6 ∧ bitOf r.info 30 = true ∧ d.rbit (Reg.CAN_CFG l) 0 = false)
    let taken : Option (Nat × Word) :=
      if l.val < 2 then
        if l.val = 0 ∧ d.steered r.data = true then none
        else (d.ethAccept l r.data).map fun f =>
          (f, BitVec.ofNat 32 (256 * ((r.data[12]?).getD 0).toNat + ((r.data[13]?).getD 0).toNat))
      else if l.val < 6 ∧ d.canAccept l r.info = false then none
      else some (r.flags.toNat, r.info)
    let stamped := l.val ≠ 6 ∧ l.val ≠ 7
    let words := recordWords l fl info (if stamped then r.tsSec else 0) (if stamped then r.tsNs else 0) r.data
    let n := 4 * words.length
    let m := min n (h.bytes - h.wr)
    let a := d.descAddr l
    let outside := fun (e : Dev) (but : List Nat) => ∀ y, y < 0x37000000 ∨ 0x37001000 ≤ y → y ∉ but → e.reg y = d.reg y
    let wrong :=
      Gives (.frameReceive l r) s fun e =>
        e.fld drops 31 16 = min 65535 (d.fld drops 31 16 + 1) ∧ e.rbit st 4 = true ∧ e.raised 161 l ∧ d.keeps e [drops, st]
    let lost :=
      Gives (.frameReceive l r) s fun e =>
        e.fld drops 15 0 = min 65535 (d.fld drops 15 0 + 1) ∧ e.rbit st 3 = true ∧ e.raised 160 l ∧ d.sameMem e ∧
        outside e [drops, st]
    d.clocked →
    (x.busOff = true ∨ (d.linkEn l = false ∧ (d.rbit st 0 = false ∨ x.closing = false)) →
      exec (.frameReceive l r) s = .next s) ∧
    (live → ¬uart → fails → wrong) ∧
    (x.busOff = false → d.linkEn l = true → ¬uart → ¬fails → taken = none → exec (.frameReceive l r) s = .next s) ∧
    (live → ¬uart → ¬fails → taken = some (fl, info) →
      (2048 < r.data.length → wrong) ∧
      (r.data.length ≤ 2048 →
        (d.isCut (reqLink l) = true →
          Gives (.frameReceive l r) s fun e =>
            e.rbit st 3 = true ∧ e.raised 164 l ∧ e.raised 160 l ∧ d.keeps e [st]) ∧
        (d.isCut (reqLink l) = false → d.bufferFull l = true ∨ d.hankAccepts (reqLink l) hn = false → lost) ∧
        (d.isCut (reqLink l) = false → d.bufferFull l = false → d.hankAccepts (reqLink l) hn = true → h.kind = 1 →
          (h.free < n →
            lost ∧ Gives (.frameReceive l r) s fun e => e.rbit Reg.SKN_STAT 6 = true ∧ (e.hank hn).drops = satInc 16 h.drops) ∧
          (n ≤ h.free → d.quiet → h.wr < h.bytes → bankOf h.start = bankOf (h.start + h.bytes - 1) →
            d.blockedLine (reqLink l) (h.start + h.wr) m = none → d.blockedLine (reqLink l) h.start (n - m) = none →
            Gives (.frameReceive l r) s fun e =>
              e.reg (Reg.LNK_RXCNT l) = d.reg (Reg.LNK_RXCNT l) + 1 ∧ e.rbit st 1 = true ∧ e.hank hn = h.advance n ∧
              (e.link l).wr = (h.advance n).wr ∧
              (h.wr + n ≤ h.bytes →
                e.words (h.start + h.wr) words.length = words ∧
                ∀ y, y < h.start + h.wr ∨ h.start + h.wr + n ≤ y → e.byte y = d.byte y) ∧
              outside e [Reg.LNK_RXCNT l, st])))) ∧
    (live → uart →
      (r.data ≠ [] → x.uart.length + r.data.length ≤ 63 →
        Gives (.frameReceive l r) s fun e =>
          (e.link l).uart = x.uart ++ r.data ∧ (e.link l).uartErr = (x.uartErr || !r.ok) ∧ d.keeps e []) ∧
      (x.uart.length ≤ 63 → d.quiet → Gives (.frameReceive l r) s fun e => (e.link l).uart.length ≤ 63)) ∧
    (14 ≤ l.val → exec (.transmitKick l) s = .next s) ∧
    (l.val < 14 →
      (x.reading = true → exec (.transmitKick l) s = .next (s.withDev (d.modLink l fun y => { y with kick := true }))) ∧
      (x.reading = false → d.mayTransmit l = false → exec (.transmitKick l) s = .next (s.withDev (d.stopReading l))) ∧
      (x.reading = false → d.mayTransmit l = true → d.isCut (reqLink l) = true →
        Gives (.transmitKick l) s fun e => (e.link l).reading = false ∧ e.raised 164 l ∧ d.keeps e []) ∧
      (x.reading = false → d.mayTransmit l = true → d.isCut (reqLink l) = false → a + 16 ≤ 0x1000000 →
        d.drawsOf (bankOf a) = [] → (∀ i < 4, d.ecc (a + 4 * i) = .good) →
        Gives (.transmitKick l) s fun e =>
          (e.link l).sending = (d.byte (a + 7)).getLsbD 7 ∧ (e.link l).reading = (d.byte (a + 7)).getLsbD 7 ∧ d.keeps e [])) ∧
    (x.sending = false ∨ res = 3 → exec (.descriptorEnd l res sec ns) s = .next s) ∧
    (x.sending = true → res ≠ 3 → d.fld (Reg.LNK_TXQ l) 31 28 ≤ 8 → d.settled →
      let ts := bitOf (d.word (a + 4)) 30 = true ∧ stamped
      Gives (.descriptorEnd l res sec ns) s fun e =>
        e.reg (Reg.LNK_TXCNT l) = d.reg (Reg.LNK_TXCNT l) + 1 ∧ e.rbit st 2 = true ∧
        e.fld st 15 8 = (d.fld st 15 8 + 1) % 2 ^ d.fld (Reg.LNK_TXQ l) 31 28 ∧ (res = 1 → e.raised 163 l) ∧
        (d.storeRefusal (reqLink l) a 16 false = none → d.blockedLine (reqLink l) a 16 = none →
          e.word a = d.word a ∧ e.word (a + 4) = d.word (a + 4) &&& 0x7FFFFFFF ∧
          e.word (a + 8) = BitVec.ofNat 32 (res.toNat * 0x40000000) ||| (if ts then ns &&& 0x3FFFFFFF else 0) ∧
          e.word (a + 12) = if ts then sec else 0) ∧
        (∀ y, y < a ∨ a + 16 ≤ y → e.byte y = d.byte y) ∧ outside e [Reg.LNK_TXCNT l, st]) ∧
    ((∀ b, ∀ y ∈ d.drawsOf b, y.req = reqLink l) → (∀ k, (d.whorl k).notice = false) →
      Gives (.linkReset l) s fun e =>
        e.linkEn l = false ∧ e.rbit (Reg.LNK_CTL l) 2 = false ∧ e.fld st 15 8 = 0 ∧ e.isCut (reqLink l) = false ∧
        (e.link l).sending = false ∧ (e.link l).reading = false ∧ (e.link l).uart = [] ∧
        (x.sending = false →
          d.sameMem e ∧ (∀ b < 16, e.drawsOf b = []) ∧
          (let back := (h.wr + h.bytes - x.wr) % h.bytes
           h.v = true → h.kind = 1 → h.writer = reqLink l → back ≤ h.fill →
             e.hank hn = { h with wr := x.wr, fill := h.fill - back })))

/-- Link states, the link time and the lands (R528, R533, R534, R537 to R539, R541): a link that goes down shows it
and raises LNK_DOWN, one that comes up shows UP; bus-off ends with ABOR; an idle UART line closes its record; an
offset moves the time, a read of the seconds latches the nanoseconds; GPIO_SET and GPIO_CLR set and clear bits of
GPIO_OUT. HSPI transactions (R19, R535): a read without the READ right and a write without the WRITE right give result
3 and raise LNK_ERR of the link, a read that is not ready gives 1, one outside the map 2, one of registers or of the
Skein its words; a word written stands; STATUS gives the result of the last write; before the PLL runs nothing
happens. The result of an HSPI transaction without its right is the model's reading (notes/assumptions/46.md). -/
def Obligations.LinkStatesLandsHspi : Prop :=
  (∀ (l : Fin 18) (i : Fin 4) (u : Fin 2) (m : Master) (v : Word) (s : State),
     let d := s.dev
     let down := fun (e : Dev) (k : Nat) =>
       e.rbit (Reg.LNK_STAT k) 7 = false ∧ e.rbit (Reg.LNK_STAT k) 5 = true ∧ e.raised 162 k ∧ d.keeps e [Reg.LNK_STAT k]
     let c := 2 + i.val
     let k := 12 + u.val
     let t : Int := (d.lk.sec * 1000000000 + d.lk.ns : Nat) + v.toInt
     let w := (t % (2 ^ 48 * 1000000000 : Nat)).toNat
     d.clocked →
     (Gives (.canBusOff i) s fun e => down e c ∧ (e.link c).busOff = true) ∧
     (d.rbit (Reg.CAN_CFG c) 2 = true →
       Gives (.canBusOffRecovery i) s fun e => (e.link c).busOff = false ∧ (e.link c).uart = (d.link c).uart ∧ d.keeps e []) ∧
     (d.rbit (Reg.CAN_CFG c) 2 = false → exec (.canBusOffRecovery i) s = .next s) ∧
     (l.val < 2 ∨ l.val = 6 → Gives (.linkDown l) s fun e => down e l) ∧
     (2 ≤ l.val → l.val ≠ 6 → exec (.linkDown l) s = .next s) ∧
     (l.val < 2 ∨ l.val = 6 ∨ 14 ≤ l.val →
       exec (.linkUp l) s = .next (s.withDev (d.setRbit (Reg.LNK_STAT l) 7 true))) ∧
     (2 ≤ l.val → l.val < 14 → l.val ≠ 6 → exec (.linkUp l) s = .next s) ∧
     (Gives (.sentTimeout i) s fun e => down e (14 + i.val)) ∧
     ((d.link k).uart = [] → exec (.uartIdleClose u) s = .next s) ∧
     ((d.link k).uart ≠ [] →
       (d.quiet → Gives (.uartIdleClose u) s fun e => (e.link k).uart = [] ∧ (e.link k).uartErr = false) ∧
       ((d.link k).uart.length ≤ 64 → d.isCut (reqLink k) = true →
         Gives (.uartIdleClose u) s fun e =>
           (e.link k).uart = [] ∧ e.rbit (Reg.LNK_STAT k) 3 = true ∧ e.raised 164 k ∧ d.keeps e [Reg.LNK_STAT k])) ∧
     (d.mayRead m Reg.ETH_TSEC = true →
       Gives (.timeSecondsRead m) s fun e =>
         e.lastAccess = .data (BitVec.ofNat 32 d.lk.sec) ∧ e.reg Reg.ETH_TNS = BitVec.ofNat 32 d.lk.ns ∧
         d.keeps e [Reg.ETH_TNS]) ∧
     (d.admits m →
       (Gives (.timeOffsetWrite m v) s fun e =>
         e.lk.sec = w / 1000000000 ∧ e.lk.ns = w % 1000000000 ∧ e.lastAccess = .ok ∧ d.keeps e []) ∧
       (Gives (.gpioSet m v) s fun e =>
         e.reg Reg.GPIO_OUT = d.reg Reg.GPIO_OUT ||| v ∧ e.lastAccess = .ok ∧ d.keeps e [Reg.GPIO_OUT]) ∧
       (Gives (.gpioClr m v) s fun e =>
         e.reg Reg.GPIO_OUT = d.reg Reg.GPIO_OUT &&& ~~~v ∧ e.lastAccess = .ok ∧ d.keeps e [Reg.GPIO_OUT]))) ∧
  (∀ (a w : Word) (n : Nat) (q : Bool) (s : State),
     let d := s.dev
     let out := fun (e : Dev) (stat : Nat) (ws : List Word) =>
       e.lk.hspiStat = stat ∧ e.lk.hspiOut = ws ∧ d.keeps e []
     let may := d.rbit Reg.HSPI_RIGHTS
     (d.clocked = false → exec (.hspiRead a n q) s = .next s ∧ exec (.hspiWrite a [w]) s = .next s) ∧
     (d.clocked = true →
       (may 0 = false → Gives (.hspiRead a n q) s fun e => out e 3 [] ∧ e.raised 161 7) ∧
       (may 0 = true →
         (Gives (.hspiRead a n false) s fun e => out e 1 [] ∧ e.reports = d.reports) ∧
         (a.toNat % 4 = 0 → a.toNat + 4 * n ≤ 0x1000000 → d.readsClean 111 →
           Gives (.hspiRead a n true) s fun e => out e 0 (d.words a.toNat n)) ∧
         (a.toNat % 4 = 0 → 0x20000000 ≤ a.toNat → a.toNat < 0x40000000 →
           (d.readReg a.toNat = (d, some w) → Gives (.hspiRead a 1 true) s fun e => out e 0 [w]) ∧
           ((d.readReg a.toNat).2 = none → Gives (.hspiRead a 1 true) s fun e => out e 2 [])) ∧
         ((0x1000000 ≤ a.toNat ∧ a.toNat < 0x10000000) ∨ (0x10800000 ≤ a.toNat ∧ a.toNat < 0x20000000) ∨
             0x40000000 ≤ a.toNat → Gives (.hspiRead a 1 true) s fun e => out e 2 [])) ∧
       (may 1 = false → a.toNat ≠ Reg.SNL_MREQ →
         Gives (.hspiWrite a [w]) s fun e => e.lk.hspiLast = 3 ∧ e.raised 161 7 ∧ d.keeps e []) ∧
       (may 2 = false → bitsOf w 3 0 ≠ 0 →
         Gives (.hspiWrite (BitVec.ofNat 32 Reg.SNL_MREQ) [w]) s fun e =>
           e.lk.hspiLast = 3 ∧ e.raised 161 7 ∧ e.mode = d.mode ∧ d.keeps e [Reg.SNL_MREQ]) ∧
       (may 1 = true →
         (d.cfgMode = true →
           Gives (.hspiWrite (BitVec.ofNat 32 Reg.GPIO_OUT) [w]) s fun e =>
             e.lk.hspiLast = 0 ∧ e.reg Reg.GPIO_OUT = w ∧ d.keeps e [Reg.GPIO_OUT]) ∧
         (a.toNat % 4 = 0 → d.settled → d.storeRefusal 111 a.toNat 4 false = none → d.blockedLine 111 a.toNat 4 = none →
           Gives (.hspiWrite a [w]) s fun e =>
             e.lk.hspiLast = 0 ∧
             ∀ z, e.byte z =
               if a.toNat ≤ z ∧ z < a.toNat + 4 then (bytesOfWord w).getD (z - a.toNat) 0 else d.byte z) ∧
         ((0x1000000 ≤ a.toNat ∧ a.toNat < 0x20000000) ∨ 0x40000000 ≤ a.toNat →
           Gives (.hspiWrite a [w]) s fun e => e.lk.hspiLast = 2 ∧ d.keeps e []))) ∧
     (d.clocked = true → Gives .hspiStatus s fun e => e.lk.hspiStat = d.lk.hspiLast ∧ e.lk.hspiOut = [] ∧ d.keeps e []))
end

