-- ==== Sys2Proof/Laws/Decode.lean ====
section
/-! SUPPORT. The fields of an encoded word: each lies where its format puts it, and a format read back is what was
encoded. -/

namespace Sys2Proof

theorem extract_high {a b k : Nat} (x : BitVec a) (y : BitVec b) (lo : Nat) (h : b ≤ lo) :
    (x ++ y).extractLsb' lo k = x.extractLsb' (lo - b) k := by
  ext i hi
  have : ¬ lo + i < b := by omega
  have e : lo + i - b = lo - b + i := by omega
  simp [BitVec.getLsbD_append, this, e]

theorem extract_low {a b k : Nat} (x : BitVec a) (y : BitVec b) (lo : Nat) (h : lo + k ≤ b) :
    (x ++ y).extractLsb' lo k = y.extractLsb' lo k := by
  ext i hi
  have : lo + i < b := by omega
  simp [BitVec.getLsbD_append, this]

theorem extract_all {a : Nat} (x : BitVec a) : x.extractLsb' 0 a = x := by ext i hi; simp

/-- A word cut in two and put together again. -/
theorem append_extract {a b n : Nat} (w : BitVec n) (lo : Nat) :
    (w.extractLsb' (lo + b) a ++ w.extractLsb' lo b : BitVec (a + b)) = w.extractLsb' lo (a + b) := by
  ext i hi
  simp only [BitVec.getElem_append, BitVec.getElem_extractLsb']
  split
  · rfl
  · congr 1; omega

theorem encReg_major (m n : BitVec 6) (f : RegF) : (encReg m n f).extractLsb' 26 6 = m := by
  change (m ++ n ++ f.sh ++ f.rs2 ++ f.rs1 ++ f.rd : BitVec (6 + 6 + 5 + 5 + 5 + 5)).extractLsb' 26 6 = m
  rw [extract_high _ _ _ (by decide), extract_high _ _ _ (by decide), extract_high _ _ _ (by decide), extract_high _ _ _ (by decide), extract_high _ _ _ (by decide)]
  exact extract_all _

theorem encReg_fn (m n : BitVec 6) (f : RegF) : (encReg m n f).extractLsb' 20 6 = n := by
  change (m ++ n ++ f.sh ++ f.rs2 ++ f.rs1 ++ f.rd : BitVec (6 + 6 + 5 + 5 + 5 + 5)).extractLsb' 20 6 = n
  rw [extract_high _ _ _ (by decide), extract_high _ _ _ (by decide), extract_high _ _ _ (by decide), extract_high _ _ _ (by decide), extract_low _ _ _ (by decide)]
  exact extract_all _

theorem encReg_sh (m n : BitVec 6) (f : RegF) : (encReg m n f).extractLsb' 15 5 = f.sh := by
  change (m ++ n ++ f.sh ++ f.rs2 ++ f.rs1 ++ f.rd : BitVec (6 + 6 + 5 + 5 + 5 + 5)).extractLsb' 15 5 = f.sh
  rw [extract_high _ _ _ (by decide), extract_high _ _ _ (by decide), extract_high _ _ _ (by decide), extract_low _ _ _ (by decide)]
  exact extract_all _

theorem encReg_rs2 (m n : BitVec 6) (f : RegF) : (encReg m n f).extractLsb' 10 5 = f.rs2 := by
  change (m ++ n ++ f.sh ++ f.rs2 ++ f.rs1 ++ f.rd : BitVec (6 + 6 + 5 + 5 + 5 + 5)).extractLsb' 10 5 = f.rs2
  rw [extract_high _ _ _ (by decide), extract_high _ _ _ (by decide), extract_low _ _ _ (by decide)]
  exact extract_all _

theorem encReg_rs1 (m n : BitVec 6) (f : RegF) : (encReg m n f).extractLsb' 5 5 = f.rs1 := by
  change (m ++ n ++ f.sh ++ f.rs2 ++ f.rs1 ++ f.rd : BitVec (6 + 6 + 5 + 5 + 5 + 5)).extractLsb' 5 5 = f.rs1
  rw [extract_high _ _ _ (by decide), extract_low _ _ _ (by decide)]
  exact extract_all _

theorem encReg_rd (m n : BitVec 6) (f : RegF) : (encReg m n f).extractLsb' 0 5 = f.rd := by
  change (m ++ n ++ f.sh ++ f.rs2 ++ f.rs1 ++ f.rd : BitVec (6 + 6 + 5 + 5 + 5 + 5)).extractLsb' 0 5 = f.rd
  rw [extract_low _ _ _ (by decide)]
  exact extract_all _

@[simp] theorem decReg_encReg (m n : BitVec 6) (f : RegF) : decReg (encReg m n f) = f := by
  simp [decReg, encReg_sh, encReg_rs2, encReg_rs1, encReg_rd]

theorem encReg_decReg (m n : BitVec 6) (w : Word) (h0 : w.extractLsb' 26 6 = m) (h1 : w.extractLsb' 20 6 = n) : encReg m n (decReg w) = w := by
  have e : (w.extractLsb' 26 6 ++ w.extractLsb' 20 6 ++ w.extractLsb' 15 5 ++ w.extractLsb' 10 5 ++ w.extractLsb' 5 5 ++ w.extractLsb' 0 5 : BitVec (6 + 6 + 5 + 5 + 5 + 5)) = w := by
    rw [append_extract (b := 6) w 20, append_extract (b := 5) w 15, append_extract (b := 5) w 10, append_extract (b := 5) w 5, append_extract (b := 5) w 0]
    exact extract_all w
  rw [h0, h1] at e
  exact e

theorem encImm_major (m : BitVec 6) (f : ImmF) : (encImm m f).extractLsb' 26 6 = m := by
  change (m ++ f.imm ++ f.rs1 ++ f.rd : BitVec (6 + 16 + 5 + 5)).extractLsb' 26 6 = m
  rw [extract_high _ _ _ (by decide), extract_high _ _ _ (by decide), extract_high _ _ _ (by decide)]
  exact extract_all _

theorem encImm_imm (m : BitVec 6) (f : ImmF) : (encImm m f).extractLsb' 10 16 = f.imm := by
  change (m ++ f.imm ++ f.rs1 ++ f.rd : BitVec (6 + 16 + 5 + 5)).extractLsb' 10 16 = f.imm
  rw [extract_high _ _ _ (by decide), extract_high _ _ _ (by decide), extract_low _ _ _ (by decide)]
  exact extract_all _

theorem encImm_rs1 (m : BitVec 6) (f : ImmF) : (encImm m f).extractLsb' 5 5 = f.rs1 := by
  change (m ++ f.imm ++ f.rs1 ++ f.rd : BitVec (6 + 16 + 5 + 5)).extractLsb' 5 5 = f.rs1
  rw [extract_high _ _ _ (by decide), extract_low _ _ _ (by decide)]
  exact extract_all _

theorem encImm_rd (m : BitVec 6) (f : ImmF) : (encImm m f).extractLsb' 0 5 = f.rd := by
  change (m ++ f.imm ++ f.rs1 ++ f.rd : BitVec (6 + 16 + 5 + 5)).extractLsb' 0 5 = f.rd
  rw [extract_low _ _ _ (by decide)]
  exact extract_all _

@[simp] theorem decImm_encImm (m : BitVec 6) (f : ImmF) : decImm (encImm m f) = f := by
  simp [decImm, encImm_imm, encImm_rs1, encImm_rd]

theorem encImm_decImm (m : BitVec 6) (w : Word) (h0 : w.extractLsb' 26 6 = m) : encImm m (decImm w) = w := by
  have e : (w.extractLsb' 26 6 ++ w.extractLsb' 10 16 ++ w.extractLsb' 5 5 ++ w.extractLsb' 0 5 : BitVec (6 + 16 + 5 + 5)) = w := by
    rw [append_extract (b := 16) w 10, append_extract (b := 5) w 5, append_extract (b := 5) w 0]
    exact extract_all w
  rw [h0] at e
  exact e

theorem encStore_major (m : BitVec 6) (f : StoreF) : (encStore m f).extractLsb' 26 6 = m := by
  change (m ++ f.imm ++ f.rs1 ++ f.rs2 : BitVec (6 + 16 + 5 + 5)).extractLsb' 26 6 = m
  rw [extract_high _ _ _ (by decide), extract_high _ _ _ (by decide), extract_high _ _ _ (by decide)]
  exact extract_all _

theorem encStore_imm (m : BitVec 6) (f : StoreF) : (encStore m f).extractLsb' 10 16 = f.imm := by
  change (m ++ f.imm ++ f.rs1 ++ f.rs2 : BitVec (6 + 16 + 5 + 5)).extractLsb' 10 16 = f.imm
  rw [extract_high _ _ _ (by decide), extract_high _ _ _ (by decide), extract_low _ _ _ (by decide)]
  exact extract_all _

theorem encStore_rs1 (m : BitVec 6) (f : StoreF) : (encStore m f).extractLsb' 5 5 = f.rs1 := by
  change (m ++ f.imm ++ f.rs1 ++ f.rs2 : BitVec (6 + 16 + 5 + 5)).extractLsb' 5 5 = f.rs1
  rw [extract_high _ _ _ (by decide), extract_low _ _ _ (by decide)]
  exact extract_all _

theorem encStore_rs2 (m : BitVec 6) (f : StoreF) : (encStore m f).extractLsb' 0 5 = f.rs2 := by
  change (m ++ f.imm ++ f.rs1 ++ f.rs2 : BitVec (6 + 16 + 5 + 5)).extractLsb' 0 5 = f.rs2
  rw [extract_low _ _ _ (by decide)]
  exact extract_all _

@[simp] theorem decStore_encStore (m : BitVec 6) (f : StoreF) : decStore (encStore m f) = f := by
  simp [decStore, encStore_imm, encStore_rs1, encStore_rs2]

theorem encStore_decStore (m : BitVec 6) (w : Word) (h0 : w.extractLsb' 26 6 = m) : encStore m (decStore w) = w := by
  have e : (w.extractLsb' 26 6 ++ w.extractLsb' 10 16 ++ w.extractLsb' 5 5 ++ w.extractLsb' 0 5 : BitVec (6 + 16 + 5 + 5)) = w := by
    rw [append_extract (b := 16) w 10, append_extract (b := 5) w 5, append_extract (b := 5) w 0]
    exact extract_all w
  rw [h0] at e
  exact e

theorem encBranch_major (m : BitVec 6) (f : BranchF) : (encBranch m f).extractLsb' 26 6 = m := by
  change (m ++ f.off ++ f.rs1 ++ f.rs2 : BitVec (6 + 16 + 5 + 5)).extractLsb' 26 6 = m
  rw [extract_high _ _ _ (by decide), extract_high _ _ _ (by decide), extract_high _ _ _ (by decide)]
  exact extract_all _

theorem encBranch_off (m : BitVec 6) (f : BranchF) : (encBranch m f).extractLsb' 10 16 = f.off := by
  change (m ++ f.off ++ f.rs1 ++ f.rs2 : BitVec (6 + 16 + 5 + 5)).extractLsb' 10 16 = f.off
  rw [extract_high _ _ _ (by decide), extract_high _ _ _ (by decide), extract_low _ _ _ (by decide)]
  exact extract_all _

theorem encBranch_rs1 (m : BitVec 6) (f : BranchF) : (encBranch m f).extractLsb' 5 5 = f.rs1 := by
  change (m ++ f.off ++ f.rs1 ++ f.rs2 : BitVec (6 + 16 + 5 + 5)).extractLsb' 5 5 = f.rs1
  rw [extract_high _ _ _ (by decide), extract_low _ _ _ (by decide)]
  exact extract_all _

theorem encBranch_rs2 (m : BitVec 6) (f : BranchF) : (encBranch m f).extractLsb' 0 5 = f.rs2 := by
  change (m ++ f.off ++ f.rs1 ++ f.rs2 : BitVec (6 + 16 + 5 + 5)).extractLsb' 0 5 = f.rs2
  rw [extract_low _ _ _ (by decide)]
  exact extract_all _

@[simp] theorem decBranch_encBranch (m : BitVec 6) (f : BranchF) : decBranch (encBranch m f) = f := by
  simp [decBranch, encBranch_off, encBranch_rs1, encBranch_rs2]

theorem encBranch_decBranch (m : BitVec 6) (w : Word) (h0 : w.extractLsb' 26 6 = m) : encBranch m (decBranch w) = w := by
  have e : (w.extractLsb' 26 6 ++ w.extractLsb' 10 16 ++ w.extractLsb' 5 5 ++ w.extractLsb' 0 5 : BitVec (6 + 16 + 5 + 5)) = w := by
    rw [append_extract (b := 16) w 10, append_extract (b := 5) w 5, append_extract (b := 5) w 0]
    exact extract_all w
  rw [h0] at e
  exact e

theorem encJump_major (m : BitVec 6) (f : JumpF) : (encJump m f).extractLsb' 26 6 = m := by
  change (m ++ f.off : BitVec (6 + 26)).extractLsb' 26 6 = m
  rw [extract_high _ _ _ (by decide)]
  exact extract_all _

theorem encJump_off (m : BitVec 6) (f : JumpF) : (encJump m f).extractLsb' 0 26 = f.off := by
  change (m ++ f.off : BitVec (6 + 26)).extractLsb' 0 26 = f.off
  rw [extract_low _ _ _ (by decide)]
  exact extract_all _

@[simp] theorem decJump_encJump (m : BitVec 6) (f : JumpF) : decJump (encJump m f) = f := by
  simp [decJump, encJump_off]

theorem encJump_decJump (m : BitVec 6) (w : Word) (h0 : w.extractLsb' 26 6 = m) : encJump m (decJump w) = w := by
  have e : (w.extractLsb' 26 6 ++ w.extractLsb' 0 26 : BitVec (6 + 26)) = w := by
    rw [append_extract (b := 26) w 0]
    exact extract_all w
  rw [h0] at e
  exact e

theorem encMac_major (n : BitVec 3) (f : MacF) : (encMac n f).extractLsb' 26 6 = 0x20#6 := by
  change (0x20#6 ++ n ++ f.ad ++ f.mid ++ f.rs1 ++ f.low : BitVec (6 + 3 + 2 + 11 + 5 + 5)).extractLsb' 26 6 = 0x20#6
  rw [extract_high _ _ _ (by decide), extract_high _ _ _ (by decide), extract_high _ _ _ (by decide), extract_high _ _ _ (by decide), extract_high _ _ _ (by decide)]
  exact extract_all _

theorem encMac_fn (n : BitVec 3) (f : MacF) : (encMac n f).extractLsb' 23 3 = n := by
  change (0x20#6 ++ n ++ f.ad ++ f.mid ++ f.rs1 ++ f.low : BitVec (6 + 3 + 2 + 11 + 5 + 5)).extractLsb' 23 3 = n
  rw [extract_high _ _ _ (by decide), extract_high _ _ _ (by decide), extract_high _ _ _ (by decide), extract_high _ _ _ (by decide), extract_low _ _ _ (by decide)]
  exact extract_all _

theorem encMac_ad (n : BitVec 3) (f : MacF) : (encMac n f).extractLsb' 21 2 = f.ad := by
  change (0x20#6 ++ n ++ f.ad ++ f.mid ++ f.rs1 ++ f.low : BitVec (6 + 3 + 2 + 11 + 5 + 5)).extractLsb' 21 2 = f.ad
  rw [extract_high _ _ _ (by decide), extract_high _ _ _ (by decide), extract_high _ _ _ (by decide), extract_low _ _ _ (by decide)]
  exact extract_all _

theorem encMac_mid (n : BitVec 3) (f : MacF) : (encMac n f).extractLsb' 10 11 = f.mid := by
  change (0x20#6 ++ n ++ f.ad ++ f.mid ++ f.rs1 ++ f.low : BitVec (6 + 3 + 2 + 11 + 5 + 5)).extractLsb' 10 11 = f.mid
  rw [extract_high _ _ _ (by decide), extract_high _ _ _ (by decide), extract_low _ _ _ (by decide)]
  exact extract_all _

theorem encMac_rs1 (n : BitVec 3) (f : MacF) : (encMac n f).extractLsb' 5 5 = f.rs1 := by
  change (0x20#6 ++ n ++ f.ad ++ f.mid ++ f.rs1 ++ f.low : BitVec (6 + 3 + 2 + 11 + 5 + 5)).extractLsb' 5 5 = f.rs1
  rw [extract_high _ _ _ (by decide), extract_low _ _ _ (by decide)]
  exact extract_all _

theorem encMac_low (n : BitVec 3) (f : MacF) : (encMac n f).extractLsb' 0 5 = f.low := by
  change (0x20#6 ++ n ++ f.ad ++ f.mid ++ f.rs1 ++ f.low : BitVec (6 + 3 + 2 + 11 + 5 + 5)).extractLsb' 0 5 = f.low
  rw [extract_low _ _ _ (by decide)]
  exact extract_all _

@[simp] theorem decMac_encMac (n : BitVec 3) (f : MacF) : decMac (encMac n f) = f := by
  simp [decMac, encMac_ad, encMac_mid, encMac_rs1, encMac_low]

theorem encMac_decMac (n : BitVec 3) (w : Word) (h0 : w.extractLsb' 26 6 = 0x20#6) (h1 : w.extractLsb' 23 3 = n) : encMac n (decMac w) = w := by
  have e : (w.extractLsb' 26 6 ++ w.extractLsb' 23 3 ++ w.extractLsb' 21 2 ++ w.extractLsb' 10 11 ++ w.extractLsb' 5 5 ++ w.extractLsb' 0 5 : BitVec (6 + 3 + 2 + 11 + 5 + 5)) = w := by
    rw [append_extract (b := 3) w 23, append_extract (b := 2) w 21, append_extract (b := 11) w 10, append_extract (b := 5) w 5, append_extract (b := 5) w 0]
    exact extract_all w
  rw [h0, h1] at e
  exact e

theorem encKmem_major (m : BitVec 6) (f : KmemF) : (encKmem m f).extractLsb' 26 6 = m := by
  change (m ++ f.imm ++ f.k ++ f.rs1 : BitVec (6 + 13 + 8 + 5)).extractLsb' 26 6 = m
  rw [extract_high _ _ _ (by decide), extract_high _ _ _ (by decide), extract_high _ _ _ (by decide)]
  exact extract_all _

theorem encKmem_imm (m : BitVec 6) (f : KmemF) : (encKmem m f).extractLsb' 13 13 = f.imm := by
  change (m ++ f.imm ++ f.k ++ f.rs1 : BitVec (6 + 13 + 8 + 5)).extractLsb' 13 13 = f.imm
  rw [extract_high _ _ _ (by decide), extract_high _ _ _ (by decide), extract_low _ _ _ (by decide)]
  exact extract_all _

theorem encKmem_k (m : BitVec 6) (f : KmemF) : (encKmem m f).extractLsb' 5 8 = f.k := by
  change (m ++ f.imm ++ f.k ++ f.rs1 : BitVec (6 + 13 + 8 + 5)).extractLsb' 5 8 = f.k
  rw [extract_high _ _ _ (by decide), extract_low _ _ _ (by decide)]
  exact extract_all _

theorem encKmem_rs1 (m : BitVec 6) (f : KmemF) : (encKmem m f).extractLsb' 0 5 = f.rs1 := by
  change (m ++ f.imm ++ f.k ++ f.rs1 : BitVec (6 + 13 + 8 + 5)).extractLsb' 0 5 = f.rs1
  rw [extract_low _ _ _ (by decide)]
  exact extract_all _

@[simp] theorem decKmem_encKmem (m : BitVec 6) (f : KmemF) : decKmem (encKmem m f) = f := by
  simp [decKmem, encKmem_imm, encKmem_k, encKmem_rs1]

theorem encKmem_decKmem (m : BitVec 6) (w : Word) (h0 : w.extractLsb' 26 6 = m) : encKmem m (decKmem w) = w := by
  have e : (w.extractLsb' 26 6 ++ w.extractLsb' 13 13 ++ w.extractLsb' 5 8 ++ w.extractLsb' 0 5 : BitVec (6 + 13 + 8 + 5)) = w := by
    rw [append_extract (b := 13) w 13, append_extract (b := 8) w 5, append_extract (b := 5) w 0]
    exact extract_all w
  rw [h0] at e
  exact e

theorem encCtl_major (m : BitVec 6) (n : BitVec 3) (f : CtlF) : (encCtl m n f).extractLsb' 26 6 = m := by
  change (m ++ n ++ f.k ++ f.rs2 ++ f.rs1 ++ f.rd : BitVec (6 + 3 + 8 + 5 + 5 + 5)).extractLsb' 26 6 = m
  rw [extract_high _ _ _ (by decide), extract_high _ _ _ (by decide), extract_high _ _ _ (by decide), extract_high _ _ _ (by decide), extract_high _ _ _ (by decide)]
  exact extract_all _

theorem encCtl_fn (m : BitVec 6) (n : BitVec 3) (f : CtlF) : (encCtl m n f).extractLsb' 23 3 = n := by
  change (m ++ n ++ f.k ++ f.rs2 ++ f.rs1 ++ f.rd : BitVec (6 + 3 + 8 + 5 + 5 + 5)).extractLsb' 23 3 = n
  rw [extract_high _ _ _ (by decide), extract_high _ _ _ (by decide), extract_high _ _ _ (by decide), extract_high _ _ _ (by decide), extract_low _ _ _ (by decide)]
  exact extract_all _

theorem encCtl_k (m : BitVec 6) (n : BitVec 3) (f : CtlF) : (encCtl m n f).extractLsb' 15 8 = f.k := by
  change (m ++ n ++ f.k ++ f.rs2 ++ f.rs1 ++ f.rd : BitVec (6 + 3 + 8 + 5 + 5 + 5)).extractLsb' 15 8 = f.k
  rw [extract_high _ _ _ (by decide), extract_high _ _ _ (by decide), extract_high _ _ _ (by decide), extract_low _ _ _ (by decide)]
  exact extract_all _

theorem encCtl_rs2 (m : BitVec 6) (n : BitVec 3) (f : CtlF) : (encCtl m n f).extractLsb' 10 5 = f.rs2 := by
  change (m ++ n ++ f.k ++ f.rs2 ++ f.rs1 ++ f.rd : BitVec (6 + 3 + 8 + 5 + 5 + 5)).extractLsb' 10 5 = f.rs2
  rw [extract_high _ _ _ (by decide), extract_high _ _ _ (by decide), extract_low _ _ _ (by decide)]
  exact extract_all _

theorem encCtl_rs1 (m : BitVec 6) (n : BitVec 3) (f : CtlF) : (encCtl m n f).extractLsb' 5 5 = f.rs1 := by
  change (m ++ n ++ f.k ++ f.rs2 ++ f.rs1 ++ f.rd : BitVec (6 + 3 + 8 + 5 + 5 + 5)).extractLsb' 5 5 = f.rs1
  rw [extract_high _ _ _ (by decide), extract_low _ _ _ (by decide)]
  exact extract_all _

theorem encCtl_rd (m : BitVec 6) (n : BitVec 3) (f : CtlF) : (encCtl m n f).extractLsb' 0 5 = f.rd := by
  change (m ++ n ++ f.k ++ f.rs2 ++ f.rs1 ++ f.rd : BitVec (6 + 3 + 8 + 5 + 5 + 5)).extractLsb' 0 5 = f.rd
  rw [extract_low _ _ _ (by decide)]
  exact extract_all _

@[simp] theorem decCtl_encCtl (m : BitVec 6) (n : BitVec 3) (f : CtlF) : decCtl (encCtl m n f) = f := by
  simp [decCtl, encCtl_k, encCtl_rs2, encCtl_rs1, encCtl_rd]

theorem encCtl_decCtl (m : BitVec 6) (n : BitVec 3) (w : Word) (h0 : w.extractLsb' 26 6 = m) (h1 : w.extractLsb' 23 3 = n) : encCtl m n (decCtl w) = w := by
  have e : (w.extractLsb' 26 6 ++ w.extractLsb' 23 3 ++ w.extractLsb' 15 8 ++ w.extractLsb' 10 5 ++ w.extractLsb' 5 5 ++ w.extractLsb' 0 5 : BitVec (6 + 3 + 8 + 5 + 5 + 5)) = w := by
    rw [append_extract (b := 3) w 23, append_extract (b := 8) w 15, append_extract (b := 5) w 10, append_extract (b := 5) w 5, append_extract (b := 5) w 0]
    exact extract_all w
  rw [h0, h1] at e
  exact e

end Sys2Proof
end

