-- ==== Sys2Proof/Laws/Exec.lean ====
section
/-! SUPPORT. Every command but DRAW_REQUEST acts on the device and on nothing else: its meaning is one function of the
device, whatever commands wait. -/

namespace Sys2Proof.Machine

theorem exec_acts (i : Instr) (h : ∀ d, i ≠ .drawRequest d) : ∃ f : Dev → Dev, ∀ s, exec i s = s.act f := by
  cases i with
  | gateCommand n h l trip => exact ⟨_, fun s => by unfold exec execGateCommand; rfl⟩
  | statusFrame r => exact ⟨_, fun s => by unfold exec execStatusFrame; rfl⟩
  | urgentCode n => exact ⟨_, fun s => by unfold exec execUrgentCode; rfl⟩
  | linkLossSafeState die => exact ⟨_, fun s => by unfold exec execLinkLossSafeState; rfl⟩
  | pllLock us => exact ⟨_, fun s => by unfold exec execPllLock; rfl⟩
  | referenceLoss => exact ⟨_, fun s => by unfold exec execReferenceLoss; rfl⟩
  | governorStepDown half => exact ⟨_, fun s => by unfold exec execGovernorStepDown; rfl⟩
  | governorReturn => exact ⟨_, fun s => by unfold exec execGovernorReturn; rfl⟩
  | unitDisable u => exact ⟨_, fun s => by unfold exec execUnitDisable; rfl⟩
  | disableBoundary u => exact ⟨_, fun s => by unfold exec execDisableBoundary; rfl⟩
  | registerWrite m addr size v => exact ⟨_, fun s => by unfold exec execRegisterWrite; rfl⟩
  | w1cWrite m addr v hwSet => exact ⟨_, fun s => by unfold exec execW1cWrite; rfl⟩
  | drawRequest d => exact absurd rfl (h d)
  | drawComplete bank => exact ⟨_, fun s => by unfold exec execDrawComplete; rfl⟩
  | hankConfigWrite m cfg v => exact ⟨_, fun s => by unfold exec execHankConfigWrite; rfl⟩
  | hankReadOffsetWrite m v => exact ⟨_, fun s => by unfold exec execHankReadOffsetWrite; rfl⟩
  | ceCountClear m => exact ⟨_, fun s => by unfold exec execCeCountClear; rfl⟩
  | bankWatchdogBite bank => exact ⟨_, fun s => by unfold exec execBankWatchdogBite; rfl⟩
  | lockBreak line => exact ⟨_, fun s => by unfold exec execLockBreak; rfl⟩
  | scrubLine bank line found => exact ⟨_, fun s => by unfold exec execScrubLine; rfl⟩
  | bankChangeover => exact ⟨_, fun s => by unfold exec execBankChangeover; rfl⟩
  | softwareTrigger k => exact ⟨_, fun s => by unfold exec execSoftwareTrigger; rfl⟩
  | conversionEnd k vin parityFail => exact ⟨_, fun s => by unfold exec execConversionEnd; rfl⟩
  | conversionAbandon k => exact ⟨_, fun s => by unfold exec execConversionAbandon; rfl⟩
  | laneSleep k => exact ⟨_, fun s => by unfold exec execLaneSleep; rfl⟩
  | laneStartupEnd k => exact ⟨_, fun s => by unfold exec execLaneStartupEnd; rfl⟩
  | laneNosleepSet k => exact ⟨_, fun s => by unfold exec execLaneNosleepSet; rfl⟩
  | laneEnable k => exact ⟨_, fun s => by unfold exec execLaneEnable; rfl⟩
  | tdacWrite m v => exact ⟨_, fun s => by unfold exec execTdacWrite; rfl⟩
  | decimatorEnable n => exact ⟨_, fun s => by unfold exec execDecimatorEnable; rfl⟩
  | sdmClockEnableWrite m v => exact ⟨_, fun s => by unfold exec execSdmClockEnableWrite; rfl⟩
  | decimatorOutput n bits => exact ⟨_, fun s => by unfold exec execDecimatorOutput; rfl⟩
  | sdmStuck n bits => exact ⟨_, fun s => by unfold exec execSdmStuck; rfl⟩
  | fastFilterTrip n bits => exact ⟨_, fun s => by unfold exec execFastFilterTrip; rfl⟩
  | housekeepingRoundStart => exact ⟨_, fun s => by unfold exec execHousekeepingRoundStart; rfl⟩
  | housekeepingNow m => exact ⟨_, fun s => by unfold exec execHousekeepingNow; rfl⟩
  | housekeepingRoundPublish volts => exact ⟨_, fun s => by unfold exec execHousekeepingRoundPublish; rfl⟩
  | add c f => exact ⟨_, fun s => by unfold exec execAdd; rfl⟩
  | sub c f => exact ⟨_, fun s => by unfold exec execSub; rfl⟩
  | neg c f => exact ⟨_, fun s => by unfold exec execNeg; rfl⟩
  | abs_ c f => exact ⟨_, fun s => by unfold exec execAbs; rfl⟩
  | min_ c f => exact ⟨_, fun s => by unfold exec execMin; rfl⟩
  | max_ c f => exact ⟨_, fun s => by unfold exec execMax; rfl⟩
  | slt c f => exact ⟨_, fun s => by unfold exec execSlt; rfl⟩
  | sltu c f => exact ⟨_, fun s => by unfold exec execSltu; rfl⟩
  | seq c f => exact ⟨_, fun s => by unfold exec execSeq; rfl⟩
  | and_ c f => exact ⟨_, fun s => by unfold exec execAnd; rfl⟩
  | or_ c f => exact ⟨_, fun s => by unfold exec execOr; rfl⟩
  | xor_ c f => exact ⟨_, fun s => by unfold exec execXor; rfl⟩
  | andn c f => exact ⟨_, fun s => by unfold exec execAndn; rfl⟩
  | sll c f => exact ⟨_, fun s => by unfold exec execSll; rfl⟩
  | srl c f => exact ⟨_, fun s => by unfold exec execSrl; rfl⟩
  | sra c f => exact ⟨_, fun s => by unfold exec execSra; rfl⟩
  | sla c f => exact ⟨_, fun s => by unfold exec execSla; rfl⟩
  | slli c f => exact ⟨_, fun s => by unfold exec execSlli; rfl⟩
  | srli c f => exact ⟨_, fun s => by unfold exec execSrli; rfl⟩
  | srai c f => exact ⟨_, fun s => by unfold exec execSrai; rfl⟩
  | slai c f => exact ⟨_, fun s => by unfold exec execSlai; rfl⟩
  | jmpr c f => exact ⟨_, fun s => by unfold exec execJmpr; rfl⟩
  | jsubr c f => exact ⟨_, fun s => by unfold exec execJsubr; rfl⟩
  | fence c f => exact ⟨_, fun s => by unfold exec execFence; rfl⟩
  | mul c f => exact ⟨_, fun s => by unfold exec execMul; rfl⟩
  | mulq c f => exact ⟨_, fun s => by unfold exec execMulq; rfl⟩
  | mulqr c f => exact ⟨_, fun s => by unfold exec execMulqr; rfl⟩
  | mulh c f => exact ⟨_, fun s => by unfold exec execMulh; rfl⟩
  | div c f => exact ⟨_, fun s => by unfold exec execDiv; rfl⟩
  | divu c f => exact ⟨_, fun s => by unfold exec execDivu; rfl⟩
  | rem c f => exact ⟨_, fun s => by unfold exec execRem; rfl⟩
  | addi c f => exact ⟨_, fun s => by unfold exec execAddi; rfl⟩
  | slti c f => exact ⟨_, fun s => by unfold exec execSlti; rfl⟩
  | sltiu c f => exact ⟨_, fun s => by unfold exec execSltiu; rfl⟩
  | andi c f => exact ⟨_, fun s => by unfold exec execAndi; rfl⟩
  | ori c f => exact ⟨_, fun s => by unfold exec execOri; rfl⟩
  | xori c f => exact ⟨_, fun s => by unfold exec execXori; rfl⟩
  | lhi c f => exact ⟨_, fun s => by unfold exec execLhi; rfl⟩
  | beq c f => exact ⟨_, fun s => by unfold exec execBeq; rfl⟩
  | bne c f => exact ⟨_, fun s => by unfold exec execBne; rfl⟩
  | blt c f => exact ⟨_, fun s => by unfold exec execBlt; rfl⟩
  | bge c f => exact ⟨_, fun s => by unfold exec execBge; rfl⟩
  | bltu c f => exact ⟨_, fun s => by unfold exec execBltu; rfl⟩
  | bgeu c f => exact ⟨_, fun s => by unfold exec execBgeu; rfl⟩
  | jmp c f => exact ⟨_, fun s => by unfold exec execJmp; rfl⟩
  | jsub c f => exact ⟨_, fun s => by unfold exec execJsub; rfl⟩
  | ldW c f => exact ⟨_, fun s => by unfold exec execLdW; rfl⟩
  | stW c f => exact ⟨_, fun s => by unfold exec execStW; rfl⟩
  | ldA c f => exact ⟨_, fun s => by unfold exec execLdA; rfl⟩
  | stA c f => exact ⟨_, fun s => by unfold exec execStA; rfl⟩
  | ldB c f => exact ⟨_, fun s => by unfold exec execLdB; rfl⟩
  | ldBu c f => exact ⟨_, fun s => by unfold exec execLdBu; rfl⟩
  | ldH c f => exact ⟨_, fun s => by unfold exec execLdH; rfl⟩
  | ldHu c f => exact ⟨_, fun s => by unfold exec execLdHu; rfl⟩
  | stB c f => exact ⟨_, fun s => by unfold exec execStB; rfl⟩
  | stH c f => exact ⟨_, fun s => by unfold exec execStH; rfl⟩
  | ldK c f => exact ⟨_, fun s => by unfold exec execLdK; rfl⟩
  | stK c f => exact ⟨_, fun s => by unfold exec execStK; rfl⟩
  | macs c f => exact ⟨_, fun s => by unfold exec execMacs; rfl⟩
  | msus c f => exact ⟨_, fun s => by unfold exec execMsus; rfl⟩
  | muls c f => exact ⟨_, fun s => by unfold exec execMuls; rfl⟩
  | macv c f => exact ⟨_, fun s => by unfold exec execMacv; rfl⟩
  | rda c f => exact ⟨_, fun s => by unfold exec execRda; rfl⟩
  | wra c f => exact ⟨_, fun s => by unfold exec execWra; rfl⟩
  | adda c f => exact ⟨_, fun s => by unfold exec execAdda; rfl⟩
  | rdfl c f => exact ⟨_, fun s => by unfold exec execRdfl; rfl⟩
  | clrf c f => exact ⟨_, fun s => by unfold exec execClrf; rfl⟩
  | trap c f => exact ⟨_, fun s => by unfold exec execTrap; rfl⟩
  | eret c f => exact ⟨_, fun s => by unfold exec execEret; rfl⟩
  | wfi c f => exact ⟨_, fun s => by unfold exec execWfi; rfl⟩
  | wfiResume b => exact ⟨_, fun s => by unfold exec execWfiResume; rfl⟩
  | mfc c f => exact ⟨_, fun s => by unfold exec execMfc; rfl⟩
  | mtc c f => exact ⟨_, fun s => by unfold exec execMtc; rfl⟩
  | setc c f => exact ⟨_, fun s => by unfold exec execSetc; rfl⟩
  | clrc c f => exact ⟨_, fun s => by unfold exec execClrc; rfl⟩
  | interruptEntry b => exact ⟨_, fun s => by unfold exec execInterruptEntry; rfl⟩
  | coreTimerMatch b => exact ⟨_, fun s => by unfold exec execCoreTimerMatch; rfl⟩
  | postedStoreRefusal c => exact ⟨_, fun s => by unfold exec execPostedStoreRefusal; rfl⟩
  | clarke c f => exact ⟨_, fun s => by unfold exec execClarke; rfl⟩
  | clarke3 c f => exact ⟨_, fun s => by unfold exec execClarke3; rfl⟩
  | park c f => exact ⟨_, fun s => by unfold exec execPark; rfl⟩
  | ipark c f => exact ⟨_, fun s => by unfold exec execIpark; rfl⟩
  | svm c f => exact ⟨_, fun s => by unfold exec execSvm; rfl⟩
  | band2 c f => exact ⟨_, fun s => by unfold exec execBand2; rfl⟩
  | band3 c f => exact ⟨_, fun s => by unfold exec execBand3; rfl⟩
  | swtab c f => exact ⟨_, fun s => by unfold exec execSwtab; rfl⟩
  | biq c f => exact ⟨_, fun s => by unfold exec execBiq; rfl⟩
  | integ c f => exact ⟨_, fun s => by unfold exec execInteg; rfl⟩
  | lut c f => exact ⟨_, fun s => by unfold exec execLut; rfl⟩
  | obsEmf c f => exact ⟨_, fun s => by unfold exec execObsEmf; rfl⟩
  | obsPll c f => exact ⟨_, fun s => by unfold exec execObsPll; rfl⟩
  | lds c f => exact ⟨_, fun s => by unfold exec execLds; rfl⟩
  | ldsT c f => exact ⟨_, fun s => by unfold exec execLdsT; rfl⟩
  | ldp c f => exact ⟨_, fun s => by unfold exec execLdp; rfl⟩
  | stp c f => exact ⟨_, fun s => by unfold exec execStp; rfl⟩
  | waits c f => exact ⟨_, fun s => by unfold exec execWaits; rfl⟩
  | sampleWaitRelease p => exact ⟨_, fun s => by unfold exec execSampleWaitRelease; rfl⟩
  | putd c f => exact ⟨_, fun s => by unfold exec execPutd; rfl⟩
  | rahead c f => exact ⟨_, fun s => by unfold exec execRahead; rfl⟩
  | check c f => exact ⟨_, fun s => by unfold exec execCheck; rfl⟩
  | commit c f => exact ⟨_, fun s => by unfold exec execCommit; rfl⟩
  | plyLock c f => exact ⟨_, fun s => by unfold exec execPlyLock; rfl⟩
  | plyLockGrant c => exact ⟨_, fun s => by unfold exec execPlyLockGrant; rfl⟩
  | plyFree c f => exact ⟨_, fun s => by unfold exec execPlyFree; rfl⟩
  | plySt c f => exact ⟨_, fun s => by unfold exec execPlySt; rfl⟩
  | mboxPut c f => exact ⟨_, fun s => by unfold exec execMboxPut; rfl⟩
  | mboxGet c f => exact ⟨_, fun s => by unfold exec execMboxGet; rfl⟩
  | mboxSt c f => exact ⟨_, fun s => by unfold exec execMboxSt; rfl⟩
  | trace c f => exact ⟨_, fun s => by unfold exec execTrace; rfl⟩
  | inj c f => exact ⟨_, fun s => by unfold exec execInj; rfl⟩
  | halt c f => exact ⟨_, fun s => by unfold exec execHalt; rfl⟩
  | mailboxOutRead m p ix => exact ⟨_, fun s => by unfold exec execMailboxOutRead; rfl⟩
  | mailboxInWrite m p ix v => exact ⟨_, fun s => by unfold exec execMailboxInWrite; rfl⟩
  | periodStart p l => exact ⟨_, fun s => by unfold exec execPeriodStart; rfl⟩
  | slotClose p l => exact ⟨_, fun s => by unfold exec execSlotClose; rfl⟩
  | commitDeadline p l => exact ⟨_, fun s => by unfold exec execCommitDeadline; rfl⟩
  | loopEnable p l => exact ⟨_, fun s => by unfold exec execLoopEnable; rfl⟩
  | programWindowFillComplete p => exact ⟨_, fun s => by unfold exec execProgramWindowFillComplete; rfl⟩
  | hotSpareEnable p => exact ⟨_, fun s => by unfold exec execHotSpareEnable; rfl⟩
  | hotSpareFillComplete p => exact ⟨_, fun s => by unfold exec execHotSpareFillComplete; rfl⟩
  | lockstepMismatch m => exact ⟨_, fun s => by unfold exec execLockstepMismatch; rfl⟩
  | spindleTakeoverComplete q => exact ⟨_, fun s => by unfold exec execSpindleTakeoverComplete; rfl⟩
  | timebaseEnable j => exact ⟨_, fun s => by unfold exec execTimebaseEnable; rfl⟩
  | groupStart mask => exact ⟨_, fun s => by unfold exec execGroupStart; rfl⟩
  | timebaseLiveWrite j r v => exact ⟨_, fun s => by unfold exec execTimebaseLiveWrite; rfl⟩
  | timebaseEvent j e => exact ⟨_, fun s => by unfold exec execTimebaseEvent; rfl⟩
  | imageLand n => exact ⟨_, fun s => by unfold exec execImageLand; rfl⟩
  | whorlEnable n => exact ⟨_, fun s => by unfold exec execWhorlEnable; rfl⟩
  | gateDelayEnd n sec => exact ⟨_, fun s => by unfold exec execGateDelayEnd; rfl⟩
  | dwellExpiry n => exact ⟨_, fun s => by unfold exec execDwellExpiry; rfl⟩
  | forceWrite n v => exact ⟨_, fun s => by unfold exec execForceWrite; rfl⟩
  | tripLatch n trips => exact ⟨_, fun s => by unfold exec execTripLatch; rfl⟩
  | blankingEnd n => exact ⟨_, fun s => by unfold exec execBlankingEnd; rfl⟩
  | tripClear n => exact ⟨_, fun s => by unfold exec execTripClear; rfl⟩
  | chopperStateChange land uv => exact ⟨_, fun s => by unfold exec execChopperStateChange; rfl⟩
  | busOvervoltage land uv => exact ⟨_, fun s => by unfold exec execBusOvervoltage; rfl⟩
  | minimumPulseEnd n sec => exact ⟨_, fun s => by unfold exec execMinimumPulseEnd; rfl⟩
  | adaptationWindowOpen n w => exact ⟨_, fun s => by unfold exec execAdaptationWindowOpen; rfl⟩
  | edgeMeasured n sec on ns => exact ⟨_, fun s => by unfold exec execEdgeMeasured; rfl⟩
  | adaptationWindowClose n w => exact ⟨_, fun s => by unfold exec execAdaptationWindowClose; rfl⟩
  | sectionUndervoltage n u => exact ⟨_, fun s => by unfold exec execSectionUndervoltage; rfl⟩
  | supplyRelease r => exact ⟨_, fun s => by unfold exec execSupplyRelease; rfl⟩
  | vgd12Undervoltage die => exact ⟨_, fun s => by unfold exec execVgd12Undervoltage; rfl⟩
  | bootstrapUndervoltage m => exact ⟨_, fun s => by unfold exec execBootstrapUndervoltage; rfl⟩
  | bootstrapRecovered m => exact ⟨_, fun s => by unfold exec execBootstrapRecovered; rfl⟩
  | legOvertemperature die trip => exact ⟨_, fun s => by unfold exec execLegOvertemperature; rfl⟩
  | shortCircuitDetect n sec => exact ⟨_, fun s => by unfold exec execShortCircuitDetect; rfl⟩
  | dieBlankingEnd n sec => exact ⟨_, fun s => by unfold exec execDieBlankingEnd; rfl⟩
  | softTurnOffEnd n sec => exact ⟨_, fun s => by unfold exec execSoftTurnOffEnd; rfl⟩
  | retryWaitEnd n => exact ⟨_, fun s => by unfold exec execRetryWaitEnd; rfl⟩
  | triesReset n => exact ⟨_, fun s => by unfold exec execTriesReset; rfl⟩
  | rearm n => exact ⟨_, fun s => by unfold exec execRearm; rfl⟩
  | portCountClear n => exact ⟨_, fun s => by unfold exec execPortCountClear; rfl⟩
  | portConfigDelivered n => exact ⟨_, fun s => by unfold exec execPortConfigDelivered; rfl⟩
  | selfTestStart n sel => exact ⟨_, fun s => by unfold exec execSelfTestStart; rfl⟩
  | selfTestEnd n r => exact ⟨_, fun s => by unfold exec execSelfTestEnd; rfl⟩
  | lvBusLimit die => exact ⟨_, fun s => by unfold exec execLvBusLimit; rfl⟩
  | lvBusResume die => exact ⟨_, fun s => by unfold exec execLvBusResume; rfl⟩
  | encoderEdge e a b => exact ⟨_, fun s => by unfold exec execEncoderEdge; rfl⟩
  | encoderIndex i => exact ⟨_, fun s => by unfold exec execEncoderIndex; rfl⟩
  | hallEdge h st => exact ⟨_, fun s => by unfold exec execHallEdge; rfl⟩
  | pwmInSaturate u => exact ⟨_, fun s => by unfold exec execPwmInSaturate; rfl⟩
  | positionUnitEnable u => exact ⟨_, fun s => by unfold exec execPositionUnitEnable; rfl⟩
  | sequencerPeriod f o => exact ⟨_, fun s => by unfold exec execSequencerPeriod; rfl⟩
  | catchMeasurementEnd f es prim vline vbus => exact ⟨_, fun s => by unfold exec execCatchMeasurementEnd; rfl⟩
  | brakeEnd f speed => exact ⟨_, fun s => by unfold exec execBrakeEnd; rfl⟩
  | alignEnd f => exact ⟨_, fun s => by unfold exec execAlignEnd; rfl⟩
  | handover f lead => exact ⟨_, fun s => by unfold exec execHandover; rfl⟩
  | startFailure f => exact ⟨_, fun s => by unfold exec execStartFailure; rfl⟩
  | stopEnd f speed => exact ⟨_, fun s => by unfold exec execStopEnd; rfl⟩
  | lockedRotor f speed => exact ⟨_, fun s => by unfold exec execLockedRotor; rfl⟩
  | rotorLoss f execs vbus => exact ⟨_, fun s => by unfold exec execRotorLoss; rfl⟩
  | rotorRecovery f vecs => exact ⟨_, fun s => by unfold exec execRotorRecovery; rfl⟩
  | recatchTimeout f => exact ⟨_, fun s => by unfold exec execRecatchTimeout; rfl⟩
  | feedbackLoss f sums codes seqs vbus => exact ⟨_, fun s => by unfold exec execFeedbackLoss; rfl⟩
  | topologyDetect f p1 p2 p3 => exact ⟨_, fun s => by unfold exec execTopologyDetect; rfl⟩
  | gridLock f execs => exact ⟨_, fun s => by unfold exec execGridLock; rfl⟩
  | prechargeTimeout f => exact ⟨_, fun s => by unfold exec execPrechargeTimeout; rfl⟩
  | gridLoss f => exact ⟨_, fun s => by unfold exec execGridLoss; rfl⟩
  | gridResync f => exact ⟨_, fun s => by unfold exec execGridResync; rfl⟩
  | rectifierThreshold f current => exact ⟨_, fun s => by unfold exec execRectifierThreshold; rfl⟩
  | pilotLoss f => exact ⟨_, fun s => by unfold exec execPilotLoss; rfl⟩
  | chargeGateClose f => exact ⟨_, fun s => by unfold exec execChargeGateClose; rfl⟩
  | actuatorArrival f => exact ⟨_, fun s => by unfold exec execActuatorArrival; rfl⟩
  | homingTimeout f => exact ⟨_, fun s => by unfold exec execHomingTimeout; rfl⟩
  | actuatorStall f pos => exact ⟨_, fun s => by unfold exec execActuatorStall; rfl⟩
  | obstructionRetry f => exact ⟨_, fun s => by unfold exec execObstructionRetry; rfl⟩
  | toothTimeout f => exact ⟨_, fun s => by unfold exec execToothTimeout; rfl⟩
  | interlockEvaluation => exact ⟨_, fun s => by unfold exec execInterlockEvaluation; rfl⟩
  | permitDrop f pos => exact ⟨_, fun s => by unfold exec execPermitDrop; rfl⟩
  | orderlyStopRampEnd f execs vbus => exact ⟨_, fun s => by unfold exec execOrderlyStopRampEnd; rfl⟩
  | injectionEnable => exact ⟨_, fun s => by unfold exec execInjectionEnable; rfl⟩
  | injectionStop => exact ⟨_, fun s => by unfold exec execInjectionStop; rfl⟩
  | injectionAbort => exact ⟨_, fun s => by unfold exec execInjectionAbort; rfl⟩
  | reelArm n => exact ⟨_, fun s => by unfold exec execReelArm; rfl⟩
  | reelSoftwareTrigger n => exact ⟨_, fun s => by unfold exec execReelSoftwareTrigger; rfl⟩
  | reelStop n => exact ⟨_, fun s => by unfold exec execReelStop; rfl⟩
  | snarlEvent evs => exact ⟨_, fun s => by unfold exec execSnarlEvent; rfl⟩
  | wireFault e => exact ⟨_, fun s => by unfold exec execWireFault; rfl⟩
  | countWindowExpiry e => exact ⟨_, fun s => by unfold exec execCountWindowExpiry; rfl⟩
  | retentionLatchCopy => exact ⟨_, fun s => by unfold exec execRetentionLatchCopy; rfl⟩
  | reactionRetry e => exact ⟨_, fun s => by unfold exec execReactionRetry; rfl⟩
  | reactionRetire e => exact ⟨_, fun s => by unfold exec execReactionRetire; rfl⟩
  | reactionDegrade e => exact ⟨_, fun s => by unfold exec execReactionDegrade; rfl⟩
  | reactionFsafe e => exact ⟨_, fun s => by unfold exec execReactionFsafe; rfl⟩
  | reactionDsafe e => exact ⟨_, fun s => by unfold exec execReactionDsafe; rfl⟩
  | reactionRestart e severe failed => exact ⟨_, fun s => by unfold exec execReactionRestart; rfl⟩
  | soffAccept => exact ⟨_, fun s => by unfold exec execSoffAccept; rfl⟩
  | sascAccept => exact ⟨_, fun s => by unfold exec execSascAccept; rfl⟩
  | safetyPinRelease sasc => exact ⟨_, fun s => by unfold exec execSafetyPinRelease; rfl⟩
  | functionRelease m v => exact ⟨_, fun s => by unfold exec execFunctionRelease; rfl⟩
  | fltPulseEnd => exact ⟨_, fun s => by unfold exec execFltPulseEnd; rfl⟩
  | distaffWatchdogBite => exact ⟨_, fun s => by unfold exec execDistaffWatchdogBite; rfl⟩
  | bobbinWatchdogKick m b v => exact ⟨_, fun s => by unfold exec execBobbinWatchdogKick; rfl⟩
  | bobbinWatchdogBite b => exact ⟨_, fun s => by unfold exec execBobbinWatchdogBite; rfl⟩
  | faultInjectionArm m v => exact ⟨_, fun s => by unfold exec execFaultInjectionArm; rfl⟩
  | injectedEvent => exact ⟨_, fun s => by unfold exec execInjectedEvent; rfl⟩
  | faultInjectionTimeout => exact ⟨_, fun s => by unfold exec execFaultInjectionTimeout; rfl⟩
  | userSourceRaise m v => exact ⟨_, fun s => by unfold exec execUserSourceRaise; rfl⟩
  | retainedClear m => exact ⟨_, fun s => by unfold exec execRetainedClear; rfl⟩
  | modeRequestConfig m => exact ⟨_, fun s => by unfold exec execModeRequestConfig; rfl⟩
  | modeRequestStandby m => exact ⟨_, fun s => by unfold exec execModeRequestStandby; rfl⟩
  | modeRequestRun m degraded => exact ⟨_, fun s => by unfold exec execModeRequestRun; rfl⟩
  | modeRequestSleep m => exact ⟨_, fun s => by unfold exec execModeRequestSleep; rfl⟩
  | modeRequestOrderlyStop m => exact ⟨_, fun s => by unfold exec execModeRequestOrderlyStop; rfl⟩
  | modeRequestBoot m => exact ⟨_, fun s => by unfold exec execModeRequestBoot; rfl⟩
  | modeRequestService m => exact ⟨_, fun s => by unfold exec execModeRequestService; rfl⟩
  | orderlyStopEnd => exact ⟨_, fun s => by unfold exec execOrderlyStopEnd; rfl⟩
  | powerOn => exact ⟨_, fun s => by unfold exec execPowerOn; rfl⟩
  | supplyFall r => exact ⟨_, fun s => by unfold exec execSupplyFall; rfl⟩
  | pinReset => exact ⟨_, fun s => by unfold exec execPinReset; rfl⟩
  | bootEnd b => exact ⟨_, fun s => by unfold exec execBootEnd; rfl⟩
  | selftestEnd r => exact ⟨_, fun s => by unfold exec execSelftestEnd; rfl⟩
  | loadEnd r => exact ⟨_, fun s => by unfold exec execLoadEnd; rfl⟩
  | sleepEntry => exact ⟨_, fun s => by unfold exec execSleepEntry; rfl⟩
  | wake => exact ⟨_, fun s => by unfold exec execWake; rfl⟩
  | wakeTimer => exact ⟨_, fun s => by unfold exec execWakeTimer; rfl⟩
  | powerFail => exact ⟨_, fun s => by unfold exec execPowerFail; rfl⟩
  | temperatureExtremesClear m => exact ⟨_, fun s => by unfold exec execTemperatureExtremesClear; rfl⟩
  | governorForce m v => exact ⟨_, fun s => by unfold exec execGovernorForce; rfl⟩
  | governorCountClear m => exact ⟨_, fun s => by unfold exec execGovernorCountClear; rfl⟩
  | flashAppend m v => exact ⟨_, fun s => by unfold exec execFlashAppend; rfl⟩
  | flashProgram m v => exact ⟨_, fun s => by unfold exec execFlashProgram; rfl⟩
  | flashErase m v => exact ⟨_, fun s => by unfold exec execFlashErase; rfl⟩
  | flashBadOp m v => exact ⟨_, fun s => by unfold exec execFlashBadOp; rfl⟩
  | flashWordDone verified => exact ⟨_, fun s => by unfold exec execFlashWordDone; rfl⟩
  | flashSectorDone erased => exact ⟨_, fun s => by unfold exec execFlashSectorDone; rfl⟩
  | distaffRecordAppend => exact ⟨_, fun s => by unfold exec execDistaffRecordAppend; rfl⟩
  | waitingRecordWrite => exact ⟨_, fun s => by unfold exec execWaitingRecordWrite; rfl⟩
  | sessionHello t nonce => exact ⟨_, fun s => by unfold exec execSessionHello; rfl⟩
  | sessionAuth h role mac => exact ⟨_, fun s => by unfold exec execSessionAuth; rfl⟩
  | sessionKeep h => exact ⟨_, fun s => by unfold exec execSessionKeep; rfl⟩
  | sessionBye h => exact ⟨_, fun s => by unfold exec execSessionBye; rfl⟩
  | sessionRead h addr words => exact ⟨_, fun s => by unfold exec execSessionRead; rfl⟩
  | sessionWrite h addr words => exact ⟨_, fun s => by unfold exec execSessionWrite; rfl⟩
  | sessionMode h req => exact ⟨_, fun s => by unfold exec execSessionMode; rfl⟩
  | sessionStatus h => exact ⟨_, fun s => by unfold exec execSessionStatus; rfl⟩
  | sessionJread h from_ => exact ⟨_, fun s => by unfold exec execSessionJread; rfl⟩
  | sessionIdent h => exact ⟨_, fun s => by unfold exec execSessionIdent; rfl⟩
  | sessionErase h sector count => exact ⟨_, fun s => by unfold exec execSessionErase; rfl⟩
  | sessionProg h offset data => exact ⟨_, fun s => by unfold exec execSessionProg; rfl⟩
  | sessionVerify h arb fuses struck => exact ⟨_, fun s => by unfold exec execSessionVerify; rfl⟩
  | sessionRollback h struck => exact ⟨_, fun s => by unfold exec execSessionRollback; rfl⟩
  | sessionLdrun h r => exact ⟨_, fun s => by unfold exec execSessionLdrun; rfl⟩
  | sessionTimeout => exact ⟨_, fun s => by unfold exec execSessionTimeout; rfl⟩
  | sessionTransportLoss t => exact ⟨_, fun s => by unfold exec execSessionTransportLoss; rfl⟩
  | lockoutExpiry => exact ⟨_, fun s => by unfold exec execLockoutExpiry; rfl⟩
  | frameReceive l r => exact ⟨_, fun s => by unfold exec execFrameReceive; rfl⟩
  | transmitKick l => exact ⟨_, fun s => by unfold exec execTransmitKick; rfl⟩
  | descriptorEnd l result tsSec tsNs => exact ⟨_, fun s => by unfold exec execDescriptorEnd; rfl⟩
  | linkReset l => exact ⟨_, fun s => by unfold exec execLinkReset; rfl⟩
  | timeOffsetWrite m v => exact ⟨_, fun s => by unfold exec execTimeOffsetWrite; rfl⟩
  | timeSecondsRead m => exact ⟨_, fun s => by unfold exec execTimeSecondsRead; rfl⟩
  | canBusOff ix => exact ⟨_, fun s => by unfold exec execCanBusOff; rfl⟩
  | canBusOffRecovery ix => exact ⟨_, fun s => by unfold exec execCanBusOffRecovery; rfl⟩
  | linkDown l => exact ⟨_, fun s => by unfold exec execLinkDown; rfl⟩
  | hspiRead addr words ready => exact ⟨_, fun s => by unfold exec execHspiRead; rfl⟩
  | hspiWrite addr words => exact ⟨_, fun s => by unfold exec execHspiWrite; rfl⟩
  | hspiStatus => exact ⟨_, fun s => by unfold exec execHspiStatus; rfl⟩
  | uartIdleClose ix => exact ⟨_, fun s => by unfold exec execUartIdleClose; rfl⟩
  | sentTimeout ix => exact ⟨_, fun s => by unfold exec execSentTimeout; rfl⟩
  | gpioSet m v => exact ⟨_, fun s => by unfold exec execGpioSet; rfl⟩
  | gpioClr m v => exact ⟨_, fun s => by unfold exec execGpioClr; rfl⟩
  | legLinkRestored die => exact ⟨_, fun s => by unfold exec execLegLinkRestored; rfl⟩
  | pwmCompareEdge n fine => exact ⟨_, fun s => by unfold exec execPwmCompareEdge; rfl⟩
  | refreshLowEnd n => exact ⟨_, fun s => by unfold exec execRefreshLowEnd; rfl⟩
  | deadTimeFloorEnd n sec => exact ⟨_, fun s => by unfold exec execDeadTimeFloorEnd; rfl⟩
  | excitationStep x step => exact ⟨_, fun s => by unfold exec execExcitationStep; rfl⟩
  | controlPilotEdge level => exact ⟨_, fun s => by unfold exec execControlPilotEdge; rfl⟩
  | resetPinRelease => exact ⟨_, fun s => by unfold exec execResetPinRelease; rfl⟩
  | modeRequestNoRow m req => exact ⟨_, fun s => by unfold exec execModeRequestNoRow; rfl⟩
  | linkUp l => exact ⟨_, fun s => by unfold exec execLinkUp; rfl⟩

/-- DRAW_REQUEST faults on an impossible draw and acts on any other. -/
theorem exec_drawRequest (d : DrawSpec) (s : State) :
    exec (.drawRequest d) s = if d.wf then s.run fun e => e.issueDraw d else .fault .noSuchDraw := by
  have key : (d.beats = 0 ∨ 64 < d.beats ∨ (d.single ∧ d.beats ≠ 1) ∨ (d.write ∧ d.data.length ≠ drawLen d / 4)) ↔
      d.wf = false := by
    obtain ⟨req, commit, write, target, single, beats, data⟩ := d
    have h16 : 16 * beats / 4 = 4 * beats := by omega
    cases single <;> cases write <;> simp [DrawSpec.wf, drawLen, h16] <;> omega
  change execDrawRequest d s = _
  unfold execDrawRequest
  split
  · next h => simp [key.mp h]
  · next h =>
    have h2 : d.wf = true := by
      cases hw : d.wf
      · exact absurd (key.mpr hw) h
      · rfl
    simp [h2]

end Sys2Proof.Machine
end

