-- ==== Sys2Proof/Laws/SMap.lean ====
section
/-! SUPPORT. What reading and writing a sparse map do: a write is read back, every other key keeps its value, and the
canonical form is kept. -/

namespace Sys2Proof.Machine

variable {α : Type} (dflt : Nat → α)

theorem smGet_smDel_same (m : SMap α) (k : Nat) : smGet dflt (smDel m k) k = dflt k := by
  induction m with
  | nil => rfl
  | cons e m ih =>
    obtain ⟨a, v⟩ := e
    by_cases h : a = k <;> simp [smDel, smGet, h, ih]

theorem smGet_smDel_other (m : SMap α) {k j : Nat} (h : j ≠ k) :
    smGet dflt (smDel m k) j = smGet dflt m j := by
  induction m with
  | nil => rfl
  | cons e m ih =>
    obtain ⟨a, v⟩ := e
    by_cases hk : a = k
    · have : ¬ a = j := fun hj => h (hj ▸ hk ▸ rfl)
      have : ¬ k = j := fun hj => h hj.symm
      simp [smDel, smGet, hk, ih, this]
    · by_cases hj : a = j <;> simp [smDel, smGet, hk, hj, ih]
      subst hj; simp [smGet, hk]

theorem smGet_smIns_other (m : SMap α) {k j : Nat} (v : α) (h : j ≠ k) :
    smGet dflt (smIns m k v) j = smGet dflt m j := by
  have hk : ¬ k = j := fun e => h e.symm
  induction m with
  | nil => simp [smIns, smGet, hk]
  | cons e m ih =>
    obtain ⟨a, w⟩ := e
    simp only [smIns]
    split
    · simp [smGet, hk]
    · simp [smGet, ih]

theorem smGet_smIns_del_same (m : SMap α) (k : Nat) (v : α) :
    smGet dflt (smIns (smDel m k) k v) k = v := by
  induction m with
  | nil => simp [smDel, smIns, smGet]
  | cons e m ih =>
    obtain ⟨a, w⟩ := e
    by_cases h : a = k
    · simpa [smDel, h] using ih
    · simp only [smDel, h, if_false, smIns]
      split
      · simp [smGet]
      · simp [smGet, h, ih]

variable [DecidableEq α]

@[simp] theorem smGet_smSet_same (m : SMap α) (k : Nat) (v : α) :
    smGet dflt (smSet dflt m k v) k = v := by
  unfold smSet
  split
  · next h => rw [h, smGet_smDel_same]
  · exact smGet_smIns_del_same dflt m k v

theorem smGet_smSet_other (m : SMap α) {k j : Nat} (v : α) (h : j ≠ k) :
    smGet dflt (smSet dflt m k v) j = smGet dflt m j := by
  unfold smSet
  split
  · exact smGet_smDel_other dflt m h
  · rw [smGet_smIns_other dflt _ v h, smGet_smDel_other dflt m h]

theorem smGet_smSet (m : SMap α) (k j : Nat) (v : α) :
    smGet dflt (smSet dflt m k v) j = if j = k then v else smGet dflt m j := by
  by_cases h : j = k
  · subst h; simp
  · simp [smGet_smSet_other dflt m v h, h]

theorem all_smDel (m : SMap α) (k : Nat) (p : Nat × α → Bool) (h : m.all p) : (smDel m k).all p := by
  induction m with
  | nil => rfl
  | cons e m ih =>
    simp only [List.all_cons, Bool.and_eq_true] at h
    simp only [smDel]
    split
    · exact ih h.2
    · simp [h.1, ih h.2]

theorem all_smIns (m : SMap α) (k : Nat) (v : α) (p : Nat × α → Bool) (h : m.all p) (hk : p (k, v)) :
    (smIns m k v).all p := by
  induction m with
  | nil => simp [smIns, hk]
  | cons e m ih =>
    simp only [List.all_cons, Bool.and_eq_true] at h
    simp only [smIns]
    split
    · simp [hk, h.1, h.2]
    · simp [h.1, ih h.2]

theorem smWf_smDel (m : SMap α) (k : Nat) (h : smWf dflt m) : smWf dflt (smDel m k) := by
  induction m with
  | nil => rfl
  | cons e m ih =>
    simp only [smWf, Bool.and_eq_true] at h
    simp only [smDel]
    split
    · exact ih h.2
    · simp only [smWf, Bool.and_eq_true]
      exact ⟨⟨h.1.1, all_smDel m k _ h.1.2⟩, ih h.2⟩

theorem smDel_absent (m : SMap α) (k : Nat) : (smDel m k).all fun e => decide (e.1 ≠ k) := by
  induction m with
  | nil => rfl
  | cons e m ih =>
    simp only [smDel]
    split
    · exact ih
    · next h => simp only [List.all_cons, ih, Bool.and_true]; simpa using h

theorem smWf_smIns (m : SMap α) (k : Nat) (v : α) (h : smWf dflt m) (hv : v ≠ dflt k)
    (ha : m.all fun e => decide (e.1 ≠ k)) : smWf dflt (smIns m k v) := by
  induction m with
  | nil => simp [smIns, smWf, hv]
  | cons e m ih =>
    simp only [List.all_cons, Bool.and_eq_true, decide_eq_true_eq] at ha
    simp only [smWf, Bool.and_eq_true, decide_eq_true_eq] at h
    obtain ⟨⟨h1, h2⟩, h3⟩ := h
    simp only [smIns]
    split
    · next hlt =>
      simp only [smWf, List.all_cons, Bool.and_eq_true, decide_eq_true_eq]
      refine ⟨⟨hv, hlt, ?_⟩, ⟨h1, h2⟩, h3⟩
      simp only [List.all_eq_true, decide_eq_true_eq] at h2 ⊢
      intro x hx
      exact lt_trans hlt (h2 x hx)
    · next hge =>
      simp only [smWf, Bool.and_eq_true, decide_eq_true_eq]
      refine ⟨⟨h1, all_smIns m k v _ h2 ?_⟩, ih h3 ha.2⟩
      simp only [decide_eq_true_eq]
      omega

theorem smWf_smSet (m : SMap α) (k : Nat) (v : α) (h : smWf dflt m) : smWf dflt (smSet dflt m k v) := by
  unfold smSet
  split
  · exact smWf_smDel dflt m k h
  · next hv => exact smWf_smIns dflt _ k v (smWf_smDel dflt m k h) hv (smDel_absent m k)

end Sys2Proof.Machine
end

