-- ==== Sys2Proof/Laws/State.lean ====
section
/-! SUPPORT. Each part of the device under each named update, one lemma a part, true by computation: no later proof unfolds a record update. -/

namespace Sys2Proof.Machine

variable (d : Dev)

/-! ### setReg -/

@[simp] theorem Dev.setReg_now (a : Nat) (w : Word) : (d.setReg a w).now = d.now := rfl
@[simp] theorem Dev.setReg_regs (a : Nat) (w : Word) : (d.setReg a w).regs = smSet resetWord d.regs a w := rfl
@[simp] theorem Dev.setReg_lastAccess (a : Nat) (w : Word) : (d.setReg a w).lastAccess = d.lastAccess := rfl
@[simp] theorem Dev.setReg_reports (a : Nat) (w : Word) : (d.setReg a w).reports = d.reports := rfl
@[simp] theorem Dev.setReg_freeCtr (a : Nat) (w : Word) : (d.setReg a w).freeCtr = d.freeCtr := rfl
@[simp] theorem Dev.setReg_sk (a : Nat) (w : Word) : (d.setReg a w).sk = d.sk := rfl
@[simp] theorem Dev.setReg_ms (a : Nat) (w : Word) : (d.setReg a w).ms = d.ms := rfl
@[simp] theorem Dev.setReg_cr (a : Nat) (w : Word) : (d.setReg a w).cr = d.cr := rfl
@[simp] theorem Dev.setReg_md (a : Nat) (w : Word) : (d.setReg a w).md = d.md := rfl
@[simp] theorem Dev.setReg_pt (a : Nat) (w : Word) : (d.setReg a w).pt = d.pt := rfl
@[simp] theorem Dev.setReg_ps (a : Nat) (w : Word) : (d.setReg a w).ps = d.ps := rfl
@[simp] theorem Dev.setReg_tn (a : Nat) (w : Word) : (d.setReg a w).tn = d.tn := rfl
@[simp] theorem Dev.setReg_sn (a : Nat) (w : Word) : (d.setReg a w).sn = d.sn := rfl
@[simp] theorem Dev.setReg_pl (a : Nat) (w : Word) : (d.setReg a w).pl = d.pl := rfl
@[simp] theorem Dev.setReg_su (a : Nat) (w : Word) : (d.setReg a w).su = d.su := rfl
@[simp] theorem Dev.setReg_fl (a : Nat) (w : Word) : (d.setReg a w).fl = d.fl := rfl
@[simp] theorem Dev.setReg_sv (a : Nat) (w : Word) : (d.setReg a w).sv = d.sv := rfl
@[simp] theorem Dev.setReg_lk (a : Nat) (w : Word) : (d.setReg a w).lk = d.lk := rfl

/-! ### answer -/

@[simp] theorem Dev.answer_now (x : Access) : (d.answer x).now = d.now := rfl
@[simp] theorem Dev.answer_regs (x : Access) : (d.answer x).regs = d.regs := rfl
@[simp] theorem Dev.answer_lastAccess (x : Access) : (d.answer x).lastAccess = x := rfl
@[simp] theorem Dev.answer_reports (x : Access) : (d.answer x).reports = d.reports := rfl
@[simp] theorem Dev.answer_freeCtr (x : Access) : (d.answer x).freeCtr = d.freeCtr := rfl
@[simp] theorem Dev.answer_sk (x : Access) : (d.answer x).sk = d.sk := rfl
@[simp] theorem Dev.answer_ms (x : Access) : (d.answer x).ms = d.ms := rfl
@[simp] theorem Dev.answer_cr (x : Access) : (d.answer x).cr = d.cr := rfl
@[simp] theorem Dev.answer_md (x : Access) : (d.answer x).md = d.md := rfl
@[simp] theorem Dev.answer_pt (x : Access) : (d.answer x).pt = d.pt := rfl
@[simp] theorem Dev.answer_ps (x : Access) : (d.answer x).ps = d.ps := rfl
@[simp] theorem Dev.answer_tn (x : Access) : (d.answer x).tn = d.tn := rfl
@[simp] theorem Dev.answer_sn (x : Access) : (d.answer x).sn = d.sn := rfl
@[simp] theorem Dev.answer_pl (x : Access) : (d.answer x).pl = d.pl := rfl
@[simp] theorem Dev.answer_su (x : Access) : (d.answer x).su = d.su := rfl
@[simp] theorem Dev.answer_fl (x : Access) : (d.answer x).fl = d.fl := rfl
@[simp] theorem Dev.answer_sv (x : Access) : (d.answer x).sv = d.sv := rfl
@[simp] theorem Dev.answer_lk (x : Access) : (d.answer x).lk = d.lk := rfl

/-! ### modCr -/

@[simp] theorem Dev.modCr_now (f : CoreSt → CoreSt) : (d.modCr f).now = d.now := rfl
@[simp] theorem Dev.modCr_regs (f : CoreSt → CoreSt) : (d.modCr f).regs = d.regs := rfl
@[simp] theorem Dev.modCr_lastAccess (f : CoreSt → CoreSt) : (d.modCr f).lastAccess = d.lastAccess := rfl
@[simp] theorem Dev.modCr_reports (f : CoreSt → CoreSt) : (d.modCr f).reports = d.reports := rfl
@[simp] theorem Dev.modCr_freeCtr (f : CoreSt → CoreSt) : (d.modCr f).freeCtr = d.freeCtr := rfl
@[simp] theorem Dev.modCr_sk (f : CoreSt → CoreSt) : (d.modCr f).sk = d.sk := rfl
@[simp] theorem Dev.modCr_ms (f : CoreSt → CoreSt) : (d.modCr f).ms = d.ms := rfl
@[simp] theorem Dev.modCr_cr (f : CoreSt → CoreSt) : (d.modCr f).cr = f d.cr := rfl
@[simp] theorem Dev.modCr_md (f : CoreSt → CoreSt) : (d.modCr f).md = d.md := rfl
@[simp] theorem Dev.modCr_pt (f : CoreSt → CoreSt) : (d.modCr f).pt = d.pt := rfl
@[simp] theorem Dev.modCr_ps (f : CoreSt → CoreSt) : (d.modCr f).ps = d.ps := rfl
@[simp] theorem Dev.modCr_tn (f : CoreSt → CoreSt) : (d.modCr f).tn = d.tn := rfl
@[simp] theorem Dev.modCr_sn (f : CoreSt → CoreSt) : (d.modCr f).sn = d.sn := rfl
@[simp] theorem Dev.modCr_pl (f : CoreSt → CoreSt) : (d.modCr f).pl = d.pl := rfl
@[simp] theorem Dev.modCr_su (f : CoreSt → CoreSt) : (d.modCr f).su = d.su := rfl
@[simp] theorem Dev.modCr_fl (f : CoreSt → CoreSt) : (d.modCr f).fl = d.fl := rfl
@[simp] theorem Dev.modCr_sv (f : CoreSt → CoreSt) : (d.modCr f).sv = d.sv := rfl
@[simp] theorem Dev.modCr_lk (f : CoreSt → CoreSt) : (d.modCr f).lk = d.lk := rfl

/-! ### modPt -/

@[simp] theorem Dev.modPt_now (f : PortSt → PortSt) : (d.modPt f).now = d.now := rfl
@[simp] theorem Dev.modPt_regs (f : PortSt → PortSt) : (d.modPt f).regs = d.regs := rfl
@[simp] theorem Dev.modPt_lastAccess (f : PortSt → PortSt) : (d.modPt f).lastAccess = d.lastAccess := rfl
@[simp] theorem Dev.modPt_reports (f : PortSt → PortSt) : (d.modPt f).reports = d.reports := rfl
@[simp] theorem Dev.modPt_freeCtr (f : PortSt → PortSt) : (d.modPt f).freeCtr = d.freeCtr := rfl
@[simp] theorem Dev.modPt_sk (f : PortSt → PortSt) : (d.modPt f).sk = d.sk := rfl
@[simp] theorem Dev.modPt_ms (f : PortSt → PortSt) : (d.modPt f).ms = d.ms := rfl
@[simp] theorem Dev.modPt_cr (f : PortSt → PortSt) : (d.modPt f).cr = d.cr := rfl
@[simp] theorem Dev.modPt_md (f : PortSt → PortSt) : (d.modPt f).md = d.md := rfl
@[simp] theorem Dev.modPt_pt (f : PortSt → PortSt) : (d.modPt f).pt = f d.pt := rfl
@[simp] theorem Dev.modPt_ps (f : PortSt → PortSt) : (d.modPt f).ps = d.ps := rfl
@[simp] theorem Dev.modPt_tn (f : PortSt → PortSt) : (d.modPt f).tn = d.tn := rfl
@[simp] theorem Dev.modPt_sn (f : PortSt → PortSt) : (d.modPt f).sn = d.sn := rfl
@[simp] theorem Dev.modPt_pl (f : PortSt → PortSt) : (d.modPt f).pl = d.pl := rfl
@[simp] theorem Dev.modPt_su (f : PortSt → PortSt) : (d.modPt f).su = d.su := rfl
@[simp] theorem Dev.modPt_fl (f : PortSt → PortSt) : (d.modPt f).fl = d.fl := rfl
@[simp] theorem Dev.modPt_sv (f : PortSt → PortSt) : (d.modPt f).sv = d.sv := rfl
@[simp] theorem Dev.modPt_lk (f : PortSt → PortSt) : (d.modPt f).lk = d.lk := rfl

/-! ### modSn -/

@[simp] theorem Dev.modSn_now (f : SnarlSt → SnarlSt) : (d.modSn f).now = d.now := rfl
@[simp] theorem Dev.modSn_regs (f : SnarlSt → SnarlSt) : (d.modSn f).regs = d.regs := rfl
@[simp] theorem Dev.modSn_lastAccess (f : SnarlSt → SnarlSt) : (d.modSn f).lastAccess = d.lastAccess := rfl
@[simp] theorem Dev.modSn_reports (f : SnarlSt → SnarlSt) : (d.modSn f).reports = d.reports := rfl
@[simp] theorem Dev.modSn_freeCtr (f : SnarlSt → SnarlSt) : (d.modSn f).freeCtr = d.freeCtr := rfl
@[simp] theorem Dev.modSn_sk (f : SnarlSt → SnarlSt) : (d.modSn f).sk = d.sk := rfl
@[simp] theorem Dev.modSn_ms (f : SnarlSt → SnarlSt) : (d.modSn f).ms = d.ms := rfl
@[simp] theorem Dev.modSn_cr (f : SnarlSt → SnarlSt) : (d.modSn f).cr = d.cr := rfl
@[simp] theorem Dev.modSn_md (f : SnarlSt → SnarlSt) : (d.modSn f).md = d.md := rfl
@[simp] theorem Dev.modSn_pt (f : SnarlSt → SnarlSt) : (d.modSn f).pt = d.pt := rfl
@[simp] theorem Dev.modSn_ps (f : SnarlSt → SnarlSt) : (d.modSn f).ps = d.ps := rfl
@[simp] theorem Dev.modSn_tn (f : SnarlSt → SnarlSt) : (d.modSn f).tn = d.tn := rfl
@[simp] theorem Dev.modSn_sn (f : SnarlSt → SnarlSt) : (d.modSn f).sn = f d.sn := rfl
@[simp] theorem Dev.modSn_pl (f : SnarlSt → SnarlSt) : (d.modSn f).pl = d.pl := rfl
@[simp] theorem Dev.modSn_su (f : SnarlSt → SnarlSt) : (d.modSn f).su = d.su := rfl
@[simp] theorem Dev.modSn_fl (f : SnarlSt → SnarlSt) : (d.modSn f).fl = d.fl := rfl
@[simp] theorem Dev.modSn_sv (f : SnarlSt → SnarlSt) : (d.modSn f).sv = d.sv := rfl
@[simp] theorem Dev.modSn_lk (f : SnarlSt → SnarlSt) : (d.modSn f).lk = d.lk := rfl

/-! ### modPl -/

@[simp] theorem Dev.modPl_now (f : PolicySt → PolicySt) : (d.modPl f).now = d.now := rfl
@[simp] theorem Dev.modPl_regs (f : PolicySt → PolicySt) : (d.modPl f).regs = d.regs := rfl
@[simp] theorem Dev.modPl_lastAccess (f : PolicySt → PolicySt) : (d.modPl f).lastAccess = d.lastAccess := rfl
@[simp] theorem Dev.modPl_reports (f : PolicySt → PolicySt) : (d.modPl f).reports = d.reports := rfl
@[simp] theorem Dev.modPl_freeCtr (f : PolicySt → PolicySt) : (d.modPl f).freeCtr = d.freeCtr := rfl
@[simp] theorem Dev.modPl_sk (f : PolicySt → PolicySt) : (d.modPl f).sk = d.sk := rfl
@[simp] theorem Dev.modPl_ms (f : PolicySt → PolicySt) : (d.modPl f).ms = d.ms := rfl
@[simp] theorem Dev.modPl_cr (f : PolicySt → PolicySt) : (d.modPl f).cr = d.cr := rfl
@[simp] theorem Dev.modPl_md (f : PolicySt → PolicySt) : (d.modPl f).md = d.md := rfl
@[simp] theorem Dev.modPl_pt (f : PolicySt → PolicySt) : (d.modPl f).pt = d.pt := rfl
@[simp] theorem Dev.modPl_ps (f : PolicySt → PolicySt) : (d.modPl f).ps = d.ps := rfl
@[simp] theorem Dev.modPl_tn (f : PolicySt → PolicySt) : (d.modPl f).tn = d.tn := rfl
@[simp] theorem Dev.modPl_sn (f : PolicySt → PolicySt) : (d.modPl f).sn = d.sn := rfl
@[simp] theorem Dev.modPl_pl (f : PolicySt → PolicySt) : (d.modPl f).pl = f d.pl := rfl
@[simp] theorem Dev.modPl_su (f : PolicySt → PolicySt) : (d.modPl f).su = d.su := rfl
@[simp] theorem Dev.modPl_fl (f : PolicySt → PolicySt) : (d.modPl f).fl = d.fl := rfl
@[simp] theorem Dev.modPl_sv (f : PolicySt → PolicySt) : (d.modPl f).sv = d.sv := rfl
@[simp] theorem Dev.modPl_lk (f : PolicySt → PolicySt) : (d.modPl f).lk = d.lk := rfl

/-! ### modSu -/

@[simp] theorem Dev.modSu_now (f : SupplySt → SupplySt) : (d.modSu f).now = d.now := rfl
@[simp] theorem Dev.modSu_regs (f : SupplySt → SupplySt) : (d.modSu f).regs = d.regs := rfl
@[simp] theorem Dev.modSu_lastAccess (f : SupplySt → SupplySt) : (d.modSu f).lastAccess = d.lastAccess := rfl
@[simp] theorem Dev.modSu_reports (f : SupplySt → SupplySt) : (d.modSu f).reports = d.reports := rfl
@[simp] theorem Dev.modSu_freeCtr (f : SupplySt → SupplySt) : (d.modSu f).freeCtr = d.freeCtr := rfl
@[simp] theorem Dev.modSu_sk (f : SupplySt → SupplySt) : (d.modSu f).sk = d.sk := rfl
@[simp] theorem Dev.modSu_ms (f : SupplySt → SupplySt) : (d.modSu f).ms = d.ms := rfl
@[simp] theorem Dev.modSu_cr (f : SupplySt → SupplySt) : (d.modSu f).cr = d.cr := rfl
@[simp] theorem Dev.modSu_md (f : SupplySt → SupplySt) : (d.modSu f).md = d.md := rfl
@[simp] theorem Dev.modSu_pt (f : SupplySt → SupplySt) : (d.modSu f).pt = d.pt := rfl
@[simp] theorem Dev.modSu_ps (f : SupplySt → SupplySt) : (d.modSu f).ps = d.ps := rfl
@[simp] theorem Dev.modSu_tn (f : SupplySt → SupplySt) : (d.modSu f).tn = d.tn := rfl
@[simp] theorem Dev.modSu_sn (f : SupplySt → SupplySt) : (d.modSu f).sn = d.sn := rfl
@[simp] theorem Dev.modSu_pl (f : SupplySt → SupplySt) : (d.modSu f).pl = d.pl := rfl
@[simp] theorem Dev.modSu_su (f : SupplySt → SupplySt) : (d.modSu f).su = f d.su := rfl
@[simp] theorem Dev.modSu_fl (f : SupplySt → SupplySt) : (d.modSu f).fl = d.fl := rfl
@[simp] theorem Dev.modSu_sv (f : SupplySt → SupplySt) : (d.modSu f).sv = d.sv := rfl
@[simp] theorem Dev.modSu_lk (f : SupplySt → SupplySt) : (d.modSu f).lk = d.lk := rfl

/-! ### modFl -/

@[simp] theorem Dev.modFl_now (f : FlashSt → FlashSt) : (d.modFl f).now = d.now := rfl
@[simp] theorem Dev.modFl_regs (f : FlashSt → FlashSt) : (d.modFl f).regs = d.regs := rfl
@[simp] theorem Dev.modFl_lastAccess (f : FlashSt → FlashSt) : (d.modFl f).lastAccess = d.lastAccess := rfl
@[simp] theorem Dev.modFl_reports (f : FlashSt → FlashSt) : (d.modFl f).reports = d.reports := rfl
@[simp] theorem Dev.modFl_freeCtr (f : FlashSt → FlashSt) : (d.modFl f).freeCtr = d.freeCtr := rfl
@[simp] theorem Dev.modFl_sk (f : FlashSt → FlashSt) : (d.modFl f).sk = d.sk := rfl
@[simp] theorem Dev.modFl_ms (f : FlashSt → FlashSt) : (d.modFl f).ms = d.ms := rfl
@[simp] theorem Dev.modFl_cr (f : FlashSt → FlashSt) : (d.modFl f).cr = d.cr := rfl
@[simp] theorem Dev.modFl_md (f : FlashSt → FlashSt) : (d.modFl f).md = d.md := rfl
@[simp] theorem Dev.modFl_pt (f : FlashSt → FlashSt) : (d.modFl f).pt = d.pt := rfl
@[simp] theorem Dev.modFl_ps (f : FlashSt → FlashSt) : (d.modFl f).ps = d.ps := rfl
@[simp] theorem Dev.modFl_tn (f : FlashSt → FlashSt) : (d.modFl f).tn = d.tn := rfl
@[simp] theorem Dev.modFl_sn (f : FlashSt → FlashSt) : (d.modFl f).sn = d.sn := rfl
@[simp] theorem Dev.modFl_pl (f : FlashSt → FlashSt) : (d.modFl f).pl = d.pl := rfl
@[simp] theorem Dev.modFl_su (f : FlashSt → FlashSt) : (d.modFl f).su = d.su := rfl
@[simp] theorem Dev.modFl_fl (f : FlashSt → FlashSt) : (d.modFl f).fl = f d.fl := rfl
@[simp] theorem Dev.modFl_sv (f : FlashSt → FlashSt) : (d.modFl f).sv = d.sv := rfl
@[simp] theorem Dev.modFl_lk (f : FlashSt → FlashSt) : (d.modFl f).lk = d.lk := rfl

/-! ### modSv -/

@[simp] theorem Dev.modSv_now (f : SessionSt → SessionSt) : (d.modSv f).now = d.now := rfl
@[simp] theorem Dev.modSv_regs (f : SessionSt → SessionSt) : (d.modSv f).regs = d.regs := rfl
@[simp] theorem Dev.modSv_lastAccess (f : SessionSt → SessionSt) : (d.modSv f).lastAccess = d.lastAccess := rfl
@[simp] theorem Dev.modSv_reports (f : SessionSt → SessionSt) : (d.modSv f).reports = d.reports := rfl
@[simp] theorem Dev.modSv_freeCtr (f : SessionSt → SessionSt) : (d.modSv f).freeCtr = d.freeCtr := rfl
@[simp] theorem Dev.modSv_sk (f : SessionSt → SessionSt) : (d.modSv f).sk = d.sk := rfl
@[simp] theorem Dev.modSv_ms (f : SessionSt → SessionSt) : (d.modSv f).ms = d.ms := rfl
@[simp] theorem Dev.modSv_cr (f : SessionSt → SessionSt) : (d.modSv f).cr = d.cr := rfl
@[simp] theorem Dev.modSv_md (f : SessionSt → SessionSt) : (d.modSv f).md = d.md := rfl
@[simp] theorem Dev.modSv_pt (f : SessionSt → SessionSt) : (d.modSv f).pt = d.pt := rfl
@[simp] theorem Dev.modSv_ps (f : SessionSt → SessionSt) : (d.modSv f).ps = d.ps := rfl
@[simp] theorem Dev.modSv_tn (f : SessionSt → SessionSt) : (d.modSv f).tn = d.tn := rfl
@[simp] theorem Dev.modSv_sn (f : SessionSt → SessionSt) : (d.modSv f).sn = d.sn := rfl
@[simp] theorem Dev.modSv_pl (f : SessionSt → SessionSt) : (d.modSv f).pl = d.pl := rfl
@[simp] theorem Dev.modSv_su (f : SessionSt → SessionSt) : (d.modSv f).su = d.su := rfl
@[simp] theorem Dev.modSv_fl (f : SessionSt → SessionSt) : (d.modSv f).fl = d.fl := rfl
@[simp] theorem Dev.modSv_sv (f : SessionSt → SessionSt) : (d.modSv f).sv = f d.sv := rfl
@[simp] theorem Dev.modSv_lk (f : SessionSt → SessionSt) : (d.modSv f).lk = d.lk := rfl

/-! ### modLk -/

@[simp] theorem Dev.modLk_now (f : LinkSt → LinkSt) : (d.modLk f).now = d.now := rfl
@[simp] theorem Dev.modLk_regs (f : LinkSt → LinkSt) : (d.modLk f).regs = d.regs := rfl
@[simp] theorem Dev.modLk_lastAccess (f : LinkSt → LinkSt) : (d.modLk f).lastAccess = d.lastAccess := rfl
@[simp] theorem Dev.modLk_reports (f : LinkSt → LinkSt) : (d.modLk f).reports = d.reports := rfl
@[simp] theorem Dev.modLk_freeCtr (f : LinkSt → LinkSt) : (d.modLk f).freeCtr = d.freeCtr := rfl
@[simp] theorem Dev.modLk_sk (f : LinkSt → LinkSt) : (d.modLk f).sk = d.sk := rfl
@[simp] theorem Dev.modLk_ms (f : LinkSt → LinkSt) : (d.modLk f).ms = d.ms := rfl
@[simp] theorem Dev.modLk_cr (f : LinkSt → LinkSt) : (d.modLk f).cr = d.cr := rfl
@[simp] theorem Dev.modLk_md (f : LinkSt → LinkSt) : (d.modLk f).md = d.md := rfl
@[simp] theorem Dev.modLk_pt (f : LinkSt → LinkSt) : (d.modLk f).pt = d.pt := rfl
@[simp] theorem Dev.modLk_ps (f : LinkSt → LinkSt) : (d.modLk f).ps = d.ps := rfl
@[simp] theorem Dev.modLk_tn (f : LinkSt → LinkSt) : (d.modLk f).tn = d.tn := rfl
@[simp] theorem Dev.modLk_sn (f : LinkSt → LinkSt) : (d.modLk f).sn = d.sn := rfl
@[simp] theorem Dev.modLk_pl (f : LinkSt → LinkSt) : (d.modLk f).pl = d.pl := rfl
@[simp] theorem Dev.modLk_su (f : LinkSt → LinkSt) : (d.modLk f).su = d.su := rfl
@[simp] theorem Dev.modLk_fl (f : LinkSt → LinkSt) : (d.modLk f).fl = d.fl := rfl
@[simp] theorem Dev.modLk_sv (f : LinkSt → LinkSt) : (d.modLk f).sv = d.sv := rfl
@[simp] theorem Dev.modLk_lk (f : LinkSt → LinkSt) : (d.modLk f).lk = f d.lk := rfl

/-! ### setHank -/

@[simp] theorem Dev.setHank_now (i : Nat) (u : Hank) : (d.setHank i u).now = d.now := rfl
@[simp] theorem Dev.setHank_regs (i : Nat) (u : Hank) : (d.setHank i u).regs = d.regs := rfl
@[simp] theorem Dev.setHank_lastAccess (i : Nat) (u : Hank) : (d.setHank i u).lastAccess = d.lastAccess := rfl
@[simp] theorem Dev.setHank_reports (i : Nat) (u : Hank) : (d.setHank i u).reports = d.reports := rfl
@[simp] theorem Dev.setHank_freeCtr (i : Nat) (u : Hank) : (d.setHank i u).freeCtr = d.freeCtr := rfl
@[simp] theorem Dev.setHank_sk (i : Nat) (u : Hank) : (d.setHank i u).sk = { d.sk with hanks := smSet (fun _ => Hank.empty) d.sk.hanks i u } := rfl
@[simp] theorem Dev.setHank_ms (i : Nat) (u : Hank) : (d.setHank i u).ms = d.ms := rfl
@[simp] theorem Dev.setHank_cr (i : Nat) (u : Hank) : (d.setHank i u).cr = d.cr := rfl
@[simp] theorem Dev.setHank_md (i : Nat) (u : Hank) : (d.setHank i u).md = d.md := rfl
@[simp] theorem Dev.setHank_pt (i : Nat) (u : Hank) : (d.setHank i u).pt = d.pt := rfl
@[simp] theorem Dev.setHank_ps (i : Nat) (u : Hank) : (d.setHank i u).ps = d.ps := rfl
@[simp] theorem Dev.setHank_tn (i : Nat) (u : Hank) : (d.setHank i u).tn = d.tn := rfl
@[simp] theorem Dev.setHank_sn (i : Nat) (u : Hank) : (d.setHank i u).sn = d.sn := rfl
@[simp] theorem Dev.setHank_pl (i : Nat) (u : Hank) : (d.setHank i u).pl = d.pl := rfl
@[simp] theorem Dev.setHank_su (i : Nat) (u : Hank) : (d.setHank i u).su = d.su := rfl
@[simp] theorem Dev.setHank_fl (i : Nat) (u : Hank) : (d.setHank i u).fl = d.fl := rfl
@[simp] theorem Dev.setHank_sv (i : Nat) (u : Hank) : (d.setHank i u).sv = d.sv := rfl
@[simp] theorem Dev.setHank_lk (i : Nat) (u : Hank) : (d.setHank i u).lk = d.lk := rfl

/-! ### setLane -/

@[simp] theorem Dev.setLane_now (i : Nat) (u : Lane) : (d.setLane i u).now = d.now := rfl
@[simp] theorem Dev.setLane_regs (i : Nat) (u : Lane) : (d.setLane i u).regs = d.regs := rfl
@[simp] theorem Dev.setLane_lastAccess (i : Nat) (u : Lane) : (d.setLane i u).lastAccess = d.lastAccess := rfl
@[simp] theorem Dev.setLane_reports (i : Nat) (u : Lane) : (d.setLane i u).reports = d.reports := rfl
@[simp] theorem Dev.setLane_freeCtr (i : Nat) (u : Lane) : (d.setLane i u).freeCtr = d.freeCtr := rfl
@[simp] theorem Dev.setLane_sk (i : Nat) (u : Lane) : (d.setLane i u).sk = d.sk := rfl
@[simp] theorem Dev.setLane_ms (i : Nat) (u : Lane) : (d.setLane i u).ms = { d.ms with lanes := smSet (fun _ => Lane.reset) d.ms.lanes i u } := rfl
@[simp] theorem Dev.setLane_cr (i : Nat) (u : Lane) : (d.setLane i u).cr = d.cr := rfl
@[simp] theorem Dev.setLane_md (i : Nat) (u : Lane) : (d.setLane i u).md = d.md := rfl
@[simp] theorem Dev.setLane_pt (i : Nat) (u : Lane) : (d.setLane i u).pt = d.pt := rfl
@[simp] theorem Dev.setLane_ps (i : Nat) (u : Lane) : (d.setLane i u).ps = d.ps := rfl
@[simp] theorem Dev.setLane_tn (i : Nat) (u : Lane) : (d.setLane i u).tn = d.tn := rfl
@[simp] theorem Dev.setLane_sn (i : Nat) (u : Lane) : (d.setLane i u).sn = d.sn := rfl
@[simp] theorem Dev.setLane_pl (i : Nat) (u : Lane) : (d.setLane i u).pl = d.pl := rfl
@[simp] theorem Dev.setLane_su (i : Nat) (u : Lane) : (d.setLane i u).su = d.su := rfl
@[simp] theorem Dev.setLane_fl (i : Nat) (u : Lane) : (d.setLane i u).fl = d.fl := rfl
@[simp] theorem Dev.setLane_sv (i : Nat) (u : Lane) : (d.setLane i u).sv = d.sv := rfl
@[simp] theorem Dev.setLane_lk (i : Nat) (u : Lane) : (d.setLane i u).lk = d.lk := rfl

/-! ### setSdm -/

@[simp] theorem Dev.setSdm_now (i : Nat) (u : Sdm) : (d.setSdm i u).now = d.now := rfl
@[simp] theorem Dev.setSdm_regs (i : Nat) (u : Sdm) : (d.setSdm i u).regs = d.regs := rfl
@[simp] theorem Dev.setSdm_lastAccess (i : Nat) (u : Sdm) : (d.setSdm i u).lastAccess = d.lastAccess := rfl
@[simp] theorem Dev.setSdm_reports (i : Nat) (u : Sdm) : (d.setSdm i u).reports = d.reports := rfl
@[simp] theorem Dev.setSdm_freeCtr (i : Nat) (u : Sdm) : (d.setSdm i u).freeCtr = d.freeCtr := rfl
@[simp] theorem Dev.setSdm_sk (i : Nat) (u : Sdm) : (d.setSdm i u).sk = d.sk := rfl
@[simp] theorem Dev.setSdm_ms (i : Nat) (u : Sdm) : (d.setSdm i u).ms = { d.ms with sdms := smSet (fun _ => Sdm.reset) d.ms.sdms i u } := rfl
@[simp] theorem Dev.setSdm_cr (i : Nat) (u : Sdm) : (d.setSdm i u).cr = d.cr := rfl
@[simp] theorem Dev.setSdm_md (i : Nat) (u : Sdm) : (d.setSdm i u).md = d.md := rfl
@[simp] theorem Dev.setSdm_pt (i : Nat) (u : Sdm) : (d.setSdm i u).pt = d.pt := rfl
@[simp] theorem Dev.setSdm_ps (i : Nat) (u : Sdm) : (d.setSdm i u).ps = d.ps := rfl
@[simp] theorem Dev.setSdm_tn (i : Nat) (u : Sdm) : (d.setSdm i u).tn = d.tn := rfl
@[simp] theorem Dev.setSdm_sn (i : Nat) (u : Sdm) : (d.setSdm i u).sn = d.sn := rfl
@[simp] theorem Dev.setSdm_pl (i : Nat) (u : Sdm) : (d.setSdm i u).pl = d.pl := rfl
@[simp] theorem Dev.setSdm_su (i : Nat) (u : Sdm) : (d.setSdm i u).su = d.su := rfl
@[simp] theorem Dev.setSdm_fl (i : Nat) (u : Sdm) : (d.setSdm i u).fl = d.fl := rfl
@[simp] theorem Dev.setSdm_sv (i : Nat) (u : Sdm) : (d.setSdm i u).sv = d.sv := rfl
@[simp] theorem Dev.setSdm_lk (i : Nat) (u : Sdm) : (d.setSdm i u).lk = d.lk := rfl

/-! ### setSpn -/

@[simp] theorem Dev.setSpn_now (i : Nat) (u : Spindle) : (d.setSpn i u).now = d.now := rfl
@[simp] theorem Dev.setSpn_regs (i : Nat) (u : Spindle) : (d.setSpn i u).regs = d.regs := rfl
@[simp] theorem Dev.setSpn_lastAccess (i : Nat) (u : Spindle) : (d.setSpn i u).lastAccess = d.lastAccess := rfl
@[simp] theorem Dev.setSpn_reports (i : Nat) (u : Spindle) : (d.setSpn i u).reports = d.reports := rfl
@[simp] theorem Dev.setSpn_freeCtr (i : Nat) (u : Spindle) : (d.setSpn i u).freeCtr = d.freeCtr := rfl
@[simp] theorem Dev.setSpn_sk (i : Nat) (u : Spindle) : (d.setSpn i u).sk = d.sk := rfl
@[simp] theorem Dev.setSpn_ms (i : Nat) (u : Spindle) : (d.setSpn i u).ms = d.ms := rfl
@[simp] theorem Dev.setSpn_cr (i : Nat) (u : Spindle) : (d.setSpn i u).cr = { d.cr with spindles := smSet (fun _ => Spindle.reset) d.cr.spindles i u } := rfl
@[simp] theorem Dev.setSpn_md (i : Nat) (u : Spindle) : (d.setSpn i u).md = d.md := rfl
@[simp] theorem Dev.setSpn_pt (i : Nat) (u : Spindle) : (d.setSpn i u).pt = d.pt := rfl
@[simp] theorem Dev.setSpn_ps (i : Nat) (u : Spindle) : (d.setSpn i u).ps = d.ps := rfl
@[simp] theorem Dev.setSpn_tn (i : Nat) (u : Spindle) : (d.setSpn i u).tn = d.tn := rfl
@[simp] theorem Dev.setSpn_sn (i : Nat) (u : Spindle) : (d.setSpn i u).sn = d.sn := rfl
@[simp] theorem Dev.setSpn_pl (i : Nat) (u : Spindle) : (d.setSpn i u).pl = d.pl := rfl
@[simp] theorem Dev.setSpn_su (i : Nat) (u : Spindle) : (d.setSpn i u).su = d.su := rfl
@[simp] theorem Dev.setSpn_fl (i : Nat) (u : Spindle) : (d.setSpn i u).fl = d.fl := rfl
@[simp] theorem Dev.setSpn_sv (i : Nat) (u : Spindle) : (d.setSpn i u).sv = d.sv := rfl
@[simp] theorem Dev.setSpn_lk (i : Nat) (u : Spindle) : (d.setSpn i u).lk = d.lk := rfl

/-! ### setLoop -/

@[simp] theorem Dev.setLoop_now (i : Nat) (u : Loop) : (d.setLoop i u).now = d.now := rfl
@[simp] theorem Dev.setLoop_regs (i : Nat) (u : Loop) : (d.setLoop i u).regs = d.regs := rfl
@[simp] theorem Dev.setLoop_lastAccess (i : Nat) (u : Loop) : (d.setLoop i u).lastAccess = d.lastAccess := rfl
@[simp] theorem Dev.setLoop_reports (i : Nat) (u : Loop) : (d.setLoop i u).reports = d.reports := rfl
@[simp] theorem Dev.setLoop_freeCtr (i : Nat) (u : Loop) : (d.setLoop i u).freeCtr = d.freeCtr := rfl
@[simp] theorem Dev.setLoop_sk (i : Nat) (u : Loop) : (d.setLoop i u).sk = d.sk := rfl
@[simp] theorem Dev.setLoop_ms (i : Nat) (u : Loop) : (d.setLoop i u).ms = d.ms := rfl
@[simp] theorem Dev.setLoop_cr (i : Nat) (u : Loop) : (d.setLoop i u).cr = { d.cr with loops := smSet (fun _ => Loop.reset) d.cr.loops i u } := rfl
@[simp] theorem Dev.setLoop_md (i : Nat) (u : Loop) : (d.setLoop i u).md = d.md := rfl
@[simp] theorem Dev.setLoop_pt (i : Nat) (u : Loop) : (d.setLoop i u).pt = d.pt := rfl
@[simp] theorem Dev.setLoop_ps (i : Nat) (u : Loop) : (d.setLoop i u).ps = d.ps := rfl
@[simp] theorem Dev.setLoop_tn (i : Nat) (u : Loop) : (d.setLoop i u).tn = d.tn := rfl
@[simp] theorem Dev.setLoop_sn (i : Nat) (u : Loop) : (d.setLoop i u).sn = d.sn := rfl
@[simp] theorem Dev.setLoop_pl (i : Nat) (u : Loop) : (d.setLoop i u).pl = d.pl := rfl
@[simp] theorem Dev.setLoop_su (i : Nat) (u : Loop) : (d.setLoop i u).su = d.su := rfl
@[simp] theorem Dev.setLoop_fl (i : Nat) (u : Loop) : (d.setLoop i u).fl = d.fl := rfl
@[simp] theorem Dev.setLoop_sv (i : Nat) (u : Loop) : (d.setLoop i u).sv = d.sv := rfl
@[simp] theorem Dev.setLoop_lk (i : Nat) (u : Loop) : (d.setLoop i u).lk = d.lk := rfl

/-! ### setBob -/

@[simp] theorem Dev.setBob_now (i : Nat) (u : Bobbin) : (d.setBob i u).now = d.now := rfl
@[simp] theorem Dev.setBob_regs (i : Nat) (u : Bobbin) : (d.setBob i u).regs = d.regs := rfl
@[simp] theorem Dev.setBob_lastAccess (i : Nat) (u : Bobbin) : (d.setBob i u).lastAccess = d.lastAccess := rfl
@[simp] theorem Dev.setBob_reports (i : Nat) (u : Bobbin) : (d.setBob i u).reports = d.reports := rfl
@[simp] theorem Dev.setBob_freeCtr (i : Nat) (u : Bobbin) : (d.setBob i u).freeCtr = d.freeCtr := rfl
@[simp] theorem Dev.setBob_sk (i : Nat) (u : Bobbin) : (d.setBob i u).sk = d.sk := rfl
@[simp] theorem Dev.setBob_ms (i : Nat) (u : Bobbin) : (d.setBob i u).ms = d.ms := rfl
@[simp] theorem Dev.setBob_cr (i : Nat) (u : Bobbin) : (d.setBob i u).cr = { d.cr with bobbins := smSet (fun _ => Bobbin.reset) d.cr.bobbins i u } := rfl
@[simp] theorem Dev.setBob_md (i : Nat) (u : Bobbin) : (d.setBob i u).md = d.md := rfl
@[simp] theorem Dev.setBob_pt (i : Nat) (u : Bobbin) : (d.setBob i u).pt = d.pt := rfl
@[simp] theorem Dev.setBob_ps (i : Nat) (u : Bobbin) : (d.setBob i u).ps = d.ps := rfl
@[simp] theorem Dev.setBob_tn (i : Nat) (u : Bobbin) : (d.setBob i u).tn = d.tn := rfl
@[simp] theorem Dev.setBob_sn (i : Nat) (u : Bobbin) : (d.setBob i u).sn = d.sn := rfl
@[simp] theorem Dev.setBob_pl (i : Nat) (u : Bobbin) : (d.setBob i u).pl = d.pl := rfl
@[simp] theorem Dev.setBob_su (i : Nat) (u : Bobbin) : (d.setBob i u).su = d.su := rfl
@[simp] theorem Dev.setBob_fl (i : Nat) (u : Bobbin) : (d.setBob i u).fl = d.fl := rfl
@[simp] theorem Dev.setBob_sv (i : Nat) (u : Bobbin) : (d.setBob i u).sv = d.sv := rfl
@[simp] theorem Dev.setBob_lk (i : Nat) (u : Bobbin) : (d.setBob i u).lk = d.lk := rfl

/-! ### setTb -/

@[simp] theorem Dev.setTb_now (i : Nat) (u : Timebase) : (d.setTb i u).now = d.now := rfl
@[simp] theorem Dev.setTb_regs (i : Nat) (u : Timebase) : (d.setTb i u).regs = d.regs := rfl
@[simp] theorem Dev.setTb_lastAccess (i : Nat) (u : Timebase) : (d.setTb i u).lastAccess = d.lastAccess := rfl
@[simp] theorem Dev.setTb_reports (i : Nat) (u : Timebase) : (d.setTb i u).reports = d.reports := rfl
@[simp] theorem Dev.setTb_freeCtr (i : Nat) (u : Timebase) : (d.setTb i u).freeCtr = d.freeCtr := rfl
@[simp] theorem Dev.setTb_sk (i : Nat) (u : Timebase) : (d.setTb i u).sk = d.sk := rfl
@[simp] theorem Dev.setTb_ms (i : Nat) (u : Timebase) : (d.setTb i u).ms = d.ms := rfl
@[simp] theorem Dev.setTb_cr (i : Nat) (u : Timebase) : (d.setTb i u).cr = d.cr := rfl
@[simp] theorem Dev.setTb_md (i : Nat) (u : Timebase) : (d.setTb i u).md = { d.md with tbs := smSet (fun _ => Timebase.reset) d.md.tbs i u } := rfl
@[simp] theorem Dev.setTb_pt (i : Nat) (u : Timebase) : (d.setTb i u).pt = d.pt := rfl
@[simp] theorem Dev.setTb_ps (i : Nat) (u : Timebase) : (d.setTb i u).ps = d.ps := rfl
@[simp] theorem Dev.setTb_tn (i : Nat) (u : Timebase) : (d.setTb i u).tn = d.tn := rfl
@[simp] theorem Dev.setTb_sn (i : Nat) (u : Timebase) : (d.setTb i u).sn = d.sn := rfl
@[simp] theorem Dev.setTb_pl (i : Nat) (u : Timebase) : (d.setTb i u).pl = d.pl := rfl
@[simp] theorem Dev.setTb_su (i : Nat) (u : Timebase) : (d.setTb i u).su = d.su := rfl
@[simp] theorem Dev.setTb_fl (i : Nat) (u : Timebase) : (d.setTb i u).fl = d.fl := rfl
@[simp] theorem Dev.setTb_sv (i : Nat) (u : Timebase) : (d.setTb i u).sv = d.sv := rfl
@[simp] theorem Dev.setTb_lk (i : Nat) (u : Timebase) : (d.setTb i u).lk = d.lk := rfl

/-! ### setWhorl -/

@[simp] theorem Dev.setWhorl_now (i : Nat) (u : Whorl) : (d.setWhorl i u).now = d.now := rfl
@[simp] theorem Dev.setWhorl_regs (i : Nat) (u : Whorl) : (d.setWhorl i u).regs = d.regs := rfl
@[simp] theorem Dev.setWhorl_lastAccess (i : Nat) (u : Whorl) : (d.setWhorl i u).lastAccess = d.lastAccess := rfl
@[simp] theorem Dev.setWhorl_reports (i : Nat) (u : Whorl) : (d.setWhorl i u).reports = d.reports := rfl
@[simp] theorem Dev.setWhorl_freeCtr (i : Nat) (u : Whorl) : (d.setWhorl i u).freeCtr = d.freeCtr := rfl
@[simp] theorem Dev.setWhorl_sk (i : Nat) (u : Whorl) : (d.setWhorl i u).sk = d.sk := rfl
@[simp] theorem Dev.setWhorl_ms (i : Nat) (u : Whorl) : (d.setWhorl i u).ms = d.ms := rfl
@[simp] theorem Dev.setWhorl_cr (i : Nat) (u : Whorl) : (d.setWhorl i u).cr = d.cr := rfl
@[simp] theorem Dev.setWhorl_md (i : Nat) (u : Whorl) : (d.setWhorl i u).md = { d.md with whorls := smSet (fun _ => Whorl.reset) d.md.whorls i u } := rfl
@[simp] theorem Dev.setWhorl_pt (i : Nat) (u : Whorl) : (d.setWhorl i u).pt = d.pt := rfl
@[simp] theorem Dev.setWhorl_ps (i : Nat) (u : Whorl) : (d.setWhorl i u).ps = d.ps := rfl
@[simp] theorem Dev.setWhorl_tn (i : Nat) (u : Whorl) : (d.setWhorl i u).tn = d.tn := rfl
@[simp] theorem Dev.setWhorl_sn (i : Nat) (u : Whorl) : (d.setWhorl i u).sn = d.sn := rfl
@[simp] theorem Dev.setWhorl_pl (i : Nat) (u : Whorl) : (d.setWhorl i u).pl = d.pl := rfl
@[simp] theorem Dev.setWhorl_su (i : Nat) (u : Whorl) : (d.setWhorl i u).su = d.su := rfl
@[simp] theorem Dev.setWhorl_fl (i : Nat) (u : Whorl) : (d.setWhorl i u).fl = d.fl := rfl
@[simp] theorem Dev.setWhorl_sv (i : Nat) (u : Whorl) : (d.setWhorl i u).sv = d.sv := rfl
@[simp] theorem Dev.setWhorl_lk (i : Nat) (u : Whorl) : (d.setWhorl i u).lk = d.lk := rfl

/-! ### setPort -/

@[simp] theorem Dev.setPort_now (i : Nat) (u : Port) : (d.setPort i u).now = d.now := rfl
@[simp] theorem Dev.setPort_regs (i : Nat) (u : Port) : (d.setPort i u).regs = d.regs := rfl
@[simp] theorem Dev.setPort_lastAccess (i : Nat) (u : Port) : (d.setPort i u).lastAccess = d.lastAccess := rfl
@[simp] theorem Dev.setPort_reports (i : Nat) (u : Port) : (d.setPort i u).reports = d.reports := rfl
@[simp] theorem Dev.setPort_freeCtr (i : Nat) (u : Port) : (d.setPort i u).freeCtr = d.freeCtr := rfl
@[simp] theorem Dev.setPort_sk (i : Nat) (u : Port) : (d.setPort i u).sk = d.sk := rfl
@[simp] theorem Dev.setPort_ms (i : Nat) (u : Port) : (d.setPort i u).ms = d.ms := rfl
@[simp] theorem Dev.setPort_cr (i : Nat) (u : Port) : (d.setPort i u).cr = d.cr := rfl
@[simp] theorem Dev.setPort_md (i : Nat) (u : Port) : (d.setPort i u).md = d.md := rfl
@[simp] theorem Dev.setPort_pt (i : Nat) (u : Port) : (d.setPort i u).pt = { d.pt with ports := smSet (fun _ => Port.reset) d.pt.ports i u } := rfl
@[simp] theorem Dev.setPort_ps (i : Nat) (u : Port) : (d.setPort i u).ps = d.ps := rfl
@[simp] theorem Dev.setPort_tn (i : Nat) (u : Port) : (d.setPort i u).tn = d.tn := rfl
@[simp] theorem Dev.setPort_sn (i : Nat) (u : Port) : (d.setPort i u).sn = d.sn := rfl
@[simp] theorem Dev.setPort_pl (i : Nat) (u : Port) : (d.setPort i u).pl = d.pl := rfl
@[simp] theorem Dev.setPort_su (i : Nat) (u : Port) : (d.setPort i u).su = d.su := rfl
@[simp] theorem Dev.setPort_fl (i : Nat) (u : Port) : (d.setPort i u).fl = d.fl := rfl
@[simp] theorem Dev.setPort_sv (i : Nat) (u : Port) : (d.setPort i u).sv = d.sv := rfl
@[simp] theorem Dev.setPort_lk (i : Nat) (u : Port) : (d.setPort i u).lk = d.lk := rfl

/-! ### setReel -/

@[simp] theorem Dev.setReel_now (i : Nat) (u : Reel) : (d.setReel i u).now = d.now := rfl
@[simp] theorem Dev.setReel_regs (i : Nat) (u : Reel) : (d.setReel i u).regs = d.regs := rfl
@[simp] theorem Dev.setReel_lastAccess (i : Nat) (u : Reel) : (d.setReel i u).lastAccess = d.lastAccess := rfl
@[simp] theorem Dev.setReel_reports (i : Nat) (u : Reel) : (d.setReel i u).reports = d.reports := rfl
@[simp] theorem Dev.setReel_freeCtr (i : Nat) (u : Reel) : (d.setReel i u).freeCtr = d.freeCtr := rfl
@[simp] theorem Dev.setReel_sk (i : Nat) (u : Reel) : (d.setReel i u).sk = d.sk := rfl
@[simp] theorem Dev.setReel_ms (i : Nat) (u : Reel) : (d.setReel i u).ms = d.ms := rfl
@[simp] theorem Dev.setReel_cr (i : Nat) (u : Reel) : (d.setReel i u).cr = d.cr := rfl
@[simp] theorem Dev.setReel_md (i : Nat) (u : Reel) : (d.setReel i u).md = d.md := rfl
@[simp] theorem Dev.setReel_pt (i : Nat) (u : Reel) : (d.setReel i u).pt = d.pt := rfl
@[simp] theorem Dev.setReel_ps (i : Nat) (u : Reel) : (d.setReel i u).ps = d.ps := rfl
@[simp] theorem Dev.setReel_tn (i : Nat) (u : Reel) : (d.setReel i u).tn = { d.tn with reels := smSet (fun _ => Reel.reset) d.tn.reels i u } := rfl
@[simp] theorem Dev.setReel_sn (i : Nat) (u : Reel) : (d.setReel i u).sn = d.sn := rfl
@[simp] theorem Dev.setReel_pl (i : Nat) (u : Reel) : (d.setReel i u).pl = d.pl := rfl
@[simp] theorem Dev.setReel_su (i : Nat) (u : Reel) : (d.setReel i u).su = d.su := rfl
@[simp] theorem Dev.setReel_fl (i : Nat) (u : Reel) : (d.setReel i u).fl = d.fl := rfl
@[simp] theorem Dev.setReel_sv (i : Nat) (u : Reel) : (d.setReel i u).sv = d.sv := rfl
@[simp] theorem Dev.setReel_lk (i : Nat) (u : Reel) : (d.setReel i u).lk = d.lk := rfl

/-! ### setEnc -/

@[simp] theorem Dev.setEnc_now (i : Nat) (u : Encoder) : (d.setEnc i u).now = d.now := rfl
@[simp] theorem Dev.setEnc_regs (i : Nat) (u : Encoder) : (d.setEnc i u).regs = d.regs := rfl
@[simp] theorem Dev.setEnc_lastAccess (i : Nat) (u : Encoder) : (d.setEnc i u).lastAccess = d.lastAccess := rfl
@[simp] theorem Dev.setEnc_reports (i : Nat) (u : Encoder) : (d.setEnc i u).reports = d.reports := rfl
@[simp] theorem Dev.setEnc_freeCtr (i : Nat) (u : Encoder) : (d.setEnc i u).freeCtr = d.freeCtr := rfl
@[simp] theorem Dev.setEnc_sk (i : Nat) (u : Encoder) : (d.setEnc i u).sk = d.sk := rfl
@[simp] theorem Dev.setEnc_ms (i : Nat) (u : Encoder) : (d.setEnc i u).ms = d.ms := rfl
@[simp] theorem Dev.setEnc_cr (i : Nat) (u : Encoder) : (d.setEnc i u).cr = d.cr := rfl
@[simp] theorem Dev.setEnc_md (i : Nat) (u : Encoder) : (d.setEnc i u).md = d.md := rfl
@[simp] theorem Dev.setEnc_pt (i : Nat) (u : Encoder) : (d.setEnc i u).pt = d.pt := rfl
@[simp] theorem Dev.setEnc_ps (i : Nat) (u : Encoder) : (d.setEnc i u).ps = { d.ps with encs := smSet (fun _ => Encoder.reset) d.ps.encs i u } := rfl
@[simp] theorem Dev.setEnc_tn (i : Nat) (u : Encoder) : (d.setEnc i u).tn = d.tn := rfl
@[simp] theorem Dev.setEnc_sn (i : Nat) (u : Encoder) : (d.setEnc i u).sn = d.sn := rfl
@[simp] theorem Dev.setEnc_pl (i : Nat) (u : Encoder) : (d.setEnc i u).pl = d.pl := rfl
@[simp] theorem Dev.setEnc_su (i : Nat) (u : Encoder) : (d.setEnc i u).su = d.su := rfl
@[simp] theorem Dev.setEnc_fl (i : Nat) (u : Encoder) : (d.setEnc i u).fl = d.fl := rfl
@[simp] theorem Dev.setEnc_sv (i : Nat) (u : Encoder) : (d.setEnc i u).sv = d.sv := rfl
@[simp] theorem Dev.setEnc_lk (i : Nat) (u : Encoder) : (d.setEnc i u).lk = d.lk := rfl

/-! ### setHall -/

@[simp] theorem Dev.setHall_now (i : Nat) (u : Hall) : (d.setHall i u).now = d.now := rfl
@[simp] theorem Dev.setHall_regs (i : Nat) (u : Hall) : (d.setHall i u).regs = d.regs := rfl
@[simp] theorem Dev.setHall_lastAccess (i : Nat) (u : Hall) : (d.setHall i u).lastAccess = d.lastAccess := rfl
@[simp] theorem Dev.setHall_reports (i : Nat) (u : Hall) : (d.setHall i u).reports = d.reports := rfl
@[simp] theorem Dev.setHall_freeCtr (i : Nat) (u : Hall) : (d.setHall i u).freeCtr = d.freeCtr := rfl
@[simp] theorem Dev.setHall_sk (i : Nat) (u : Hall) : (d.setHall i u).sk = d.sk := rfl
@[simp] theorem Dev.setHall_ms (i : Nat) (u : Hall) : (d.setHall i u).ms = d.ms := rfl
@[simp] theorem Dev.setHall_cr (i : Nat) (u : Hall) : (d.setHall i u).cr = d.cr := rfl
@[simp] theorem Dev.setHall_md (i : Nat) (u : Hall) : (d.setHall i u).md = d.md := rfl
@[simp] theorem Dev.setHall_pt (i : Nat) (u : Hall) : (d.setHall i u).pt = d.pt := rfl
@[simp] theorem Dev.setHall_ps (i : Nat) (u : Hall) : (d.setHall i u).ps = { d.ps with halls := smSet (fun _ => Hall.reset) d.ps.halls i u } := rfl
@[simp] theorem Dev.setHall_tn (i : Nat) (u : Hall) : (d.setHall i u).tn = d.tn := rfl
@[simp] theorem Dev.setHall_sn (i : Nat) (u : Hall) : (d.setHall i u).sn = d.sn := rfl
@[simp] theorem Dev.setHall_pl (i : Nat) (u : Hall) : (d.setHall i u).pl = d.pl := rfl
@[simp] theorem Dev.setHall_su (i : Nat) (u : Hall) : (d.setHall i u).su = d.su := rfl
@[simp] theorem Dev.setHall_fl (i : Nat) (u : Hall) : (d.setHall i u).fl = d.fl := rfl
@[simp] theorem Dev.setHall_sv (i : Nat) (u : Hall) : (d.setHall i u).sv = d.sv := rfl
@[simp] theorem Dev.setHall_lk (i : Nat) (u : Hall) : (d.setHall i u).lk = d.lk := rfl

/-! ### setExc -/

@[simp] theorem Dev.setExc_now (i : Nat) (u : Excite) : (d.setExc i u).now = d.now := rfl
@[simp] theorem Dev.setExc_regs (i : Nat) (u : Excite) : (d.setExc i u).regs = d.regs := rfl
@[simp] theorem Dev.setExc_lastAccess (i : Nat) (u : Excite) : (d.setExc i u).lastAccess = d.lastAccess := rfl
@[simp] theorem Dev.setExc_reports (i : Nat) (u : Excite) : (d.setExc i u).reports = d.reports := rfl
@[simp] theorem Dev.setExc_freeCtr (i : Nat) (u : Excite) : (d.setExc i u).freeCtr = d.freeCtr := rfl
@[simp] theorem Dev.setExc_sk (i : Nat) (u : Excite) : (d.setExc i u).sk = d.sk := rfl
@[simp] theorem Dev.setExc_ms (i : Nat) (u : Excite) : (d.setExc i u).ms = d.ms := rfl
@[simp] theorem Dev.setExc_cr (i : Nat) (u : Excite) : (d.setExc i u).cr = d.cr := rfl
@[simp] theorem Dev.setExc_md (i : Nat) (u : Excite) : (d.setExc i u).md = d.md := rfl
@[simp] theorem Dev.setExc_pt (i : Nat) (u : Excite) : (d.setExc i u).pt = d.pt := rfl
@[simp] theorem Dev.setExc_ps (i : Nat) (u : Excite) : (d.setExc i u).ps = { d.ps with excs := smSet (fun _ => Excite.reset) d.ps.excs i u } := rfl
@[simp] theorem Dev.setExc_tn (i : Nat) (u : Excite) : (d.setExc i u).tn = d.tn := rfl
@[simp] theorem Dev.setExc_sn (i : Nat) (u : Excite) : (d.setExc i u).sn = d.sn := rfl
@[simp] theorem Dev.setExc_pl (i : Nat) (u : Excite) : (d.setExc i u).pl = d.pl := rfl
@[simp] theorem Dev.setExc_su (i : Nat) (u : Excite) : (d.setExc i u).su = d.su := rfl
@[simp] theorem Dev.setExc_fl (i : Nat) (u : Excite) : (d.setExc i u).fl = d.fl := rfl
@[simp] theorem Dev.setExc_sv (i : Nat) (u : Excite) : (d.setExc i u).sv = d.sv := rfl
@[simp] theorem Dev.setExc_lk (i : Nat) (u : Excite) : (d.setExc i u).lk = d.lk := rfl

/-! ### setFn -/

@[simp] theorem Dev.setFn_now (i : Nat) (u : Fn) : (d.setFn i u).now = d.now := rfl
@[simp] theorem Dev.setFn_regs (i : Nat) (u : Fn) : (d.setFn i u).regs = d.regs := rfl
@[simp] theorem Dev.setFn_lastAccess (i : Nat) (u : Fn) : (d.setFn i u).lastAccess = d.lastAccess := rfl
@[simp] theorem Dev.setFn_reports (i : Nat) (u : Fn) : (d.setFn i u).reports = d.reports := rfl
@[simp] theorem Dev.setFn_freeCtr (i : Nat) (u : Fn) : (d.setFn i u).freeCtr = d.freeCtr := rfl
@[simp] theorem Dev.setFn_sk (i : Nat) (u : Fn) : (d.setFn i u).sk = d.sk := rfl
@[simp] theorem Dev.setFn_ms (i : Nat) (u : Fn) : (d.setFn i u).ms = d.ms := rfl
@[simp] theorem Dev.setFn_cr (i : Nat) (u : Fn) : (d.setFn i u).cr = d.cr := rfl
@[simp] theorem Dev.setFn_md (i : Nat) (u : Fn) : (d.setFn i u).md = d.md := rfl
@[simp] theorem Dev.setFn_pt (i : Nat) (u : Fn) : (d.setFn i u).pt = d.pt := rfl
@[simp] theorem Dev.setFn_ps (i : Nat) (u : Fn) : (d.setFn i u).ps = d.ps := rfl
@[simp] theorem Dev.setFn_tn (i : Nat) (u : Fn) : (d.setFn i u).tn = d.tn := rfl
@[simp] theorem Dev.setFn_sn (i : Nat) (u : Fn) : (d.setFn i u).sn = d.sn := rfl
@[simp] theorem Dev.setFn_pl (i : Nat) (u : Fn) : (d.setFn i u).pl = { d.pl with fns := smSet (fun _ => Fn.reset) d.pl.fns i u } := rfl
@[simp] theorem Dev.setFn_su (i : Nat) (u : Fn) : (d.setFn i u).su = d.su := rfl
@[simp] theorem Dev.setFn_fl (i : Nat) (u : Fn) : (d.setFn i u).fl = d.fl := rfl
@[simp] theorem Dev.setFn_sv (i : Nat) (u : Fn) : (d.setFn i u).sv = d.sv := rfl
@[simp] theorem Dev.setFn_lk (i : Nat) (u : Fn) : (d.setFn i u).lk = d.lk := rfl

/-! ### setLink -/

@[simp] theorem Dev.setLink_now (i : Nat) (u : Link) : (d.setLink i u).now = d.now := rfl
@[simp] theorem Dev.setLink_regs (i : Nat) (u : Link) : (d.setLink i u).regs = d.regs := rfl
@[simp] theorem Dev.setLink_lastAccess (i : Nat) (u : Link) : (d.setLink i u).lastAccess = d.lastAccess := rfl
@[simp] theorem Dev.setLink_reports (i : Nat) (u : Link) : (d.setLink i u).reports = d.reports := rfl
@[simp] theorem Dev.setLink_freeCtr (i : Nat) (u : Link) : (d.setLink i u).freeCtr = d.freeCtr := rfl
@[simp] theorem Dev.setLink_sk (i : Nat) (u : Link) : (d.setLink i u).sk = d.sk := rfl
@[simp] theorem Dev.setLink_ms (i : Nat) (u : Link) : (d.setLink i u).ms = d.ms := rfl
@[simp] theorem Dev.setLink_cr (i : Nat) (u : Link) : (d.setLink i u).cr = d.cr := rfl
@[simp] theorem Dev.setLink_md (i : Nat) (u : Link) : (d.setLink i u).md = d.md := rfl
@[simp] theorem Dev.setLink_pt (i : Nat) (u : Link) : (d.setLink i u).pt = d.pt := rfl
@[simp] theorem Dev.setLink_ps (i : Nat) (u : Link) : (d.setLink i u).ps = d.ps := rfl
@[simp] theorem Dev.setLink_tn (i : Nat) (u : Link) : (d.setLink i u).tn = d.tn := rfl
@[simp] theorem Dev.setLink_sn (i : Nat) (u : Link) : (d.setLink i u).sn = d.sn := rfl
@[simp] theorem Dev.setLink_pl (i : Nat) (u : Link) : (d.setLink i u).pl = d.pl := rfl
@[simp] theorem Dev.setLink_su (i : Nat) (u : Link) : (d.setLink i u).su = d.su := rfl
@[simp] theorem Dev.setLink_fl (i : Nat) (u : Link) : (d.setLink i u).fl = d.fl := rfl
@[simp] theorem Dev.setLink_sv (i : Nat) (u : Link) : (d.setLink i u).sv = d.sv := rfl
@[simp] theorem Dev.setLink_lk (i : Nat) (u : Link) : (d.setLink i u).lk = { d.lk with links := smSet (fun _ => Link.reset) d.lk.links i u } := rfl

/-! ### setSnlCnt -/

@[simp] theorem Dev.setSnlCnt_now (i : Nat) (u : SnlCnt) : (d.setSnlCnt i u).now = d.now := rfl
@[simp] theorem Dev.setSnlCnt_regs (i : Nat) (u : SnlCnt) : (d.setSnlCnt i u).regs = d.regs := rfl
@[simp] theorem Dev.setSnlCnt_lastAccess (i : Nat) (u : SnlCnt) : (d.setSnlCnt i u).lastAccess = d.lastAccess := rfl
@[simp] theorem Dev.setSnlCnt_reports (i : Nat) (u : SnlCnt) : (d.setSnlCnt i u).reports = d.reports := rfl
@[simp] theorem Dev.setSnlCnt_freeCtr (i : Nat) (u : SnlCnt) : (d.setSnlCnt i u).freeCtr = d.freeCtr := rfl
@[simp] theorem Dev.setSnlCnt_sk (i : Nat) (u : SnlCnt) : (d.setSnlCnt i u).sk = d.sk := rfl
@[simp] theorem Dev.setSnlCnt_ms (i : Nat) (u : SnlCnt) : (d.setSnlCnt i u).ms = d.ms := rfl
@[simp] theorem Dev.setSnlCnt_cr (i : Nat) (u : SnlCnt) : (d.setSnlCnt i u).cr = d.cr := rfl
@[simp] theorem Dev.setSnlCnt_md (i : Nat) (u : SnlCnt) : (d.setSnlCnt i u).md = d.md := rfl
@[simp] theorem Dev.setSnlCnt_pt (i : Nat) (u : SnlCnt) : (d.setSnlCnt i u).pt = d.pt := rfl
@[simp] theorem Dev.setSnlCnt_ps (i : Nat) (u : SnlCnt) : (d.setSnlCnt i u).ps = d.ps := rfl
@[simp] theorem Dev.setSnlCnt_tn (i : Nat) (u : SnlCnt) : (d.setSnlCnt i u).tn = d.tn := rfl
@[simp] theorem Dev.setSnlCnt_sn (i : Nat) (u : SnlCnt) : (d.setSnlCnt i u).sn = { d.sn with counts := smSet (fun _ => SnlCnt.reset) d.sn.counts i u } := rfl
@[simp] theorem Dev.setSnlCnt_pl (i : Nat) (u : SnlCnt) : (d.setSnlCnt i u).pl = d.pl := rfl
@[simp] theorem Dev.setSnlCnt_su (i : Nat) (u : SnlCnt) : (d.setSnlCnt i u).su = d.su := rfl
@[simp] theorem Dev.setSnlCnt_fl (i : Nat) (u : SnlCnt) : (d.setSnlCnt i u).fl = d.fl := rfl
@[simp] theorem Dev.setSnlCnt_sv (i : Nat) (u : SnlCnt) : (d.setSnlCnt i u).sv = d.sv := rfl
@[simp] theorem Dev.setSnlCnt_lk (i : Nat) (u : SnlCnt) : (d.setSnlCnt i u).lk = d.lk := rfl

/-! ### raise -/

@[simp] theorem Dev.raise_now (s i : Nat) : (d.raise s i).now = d.now := by unfold Dev.raise; split <;> rfl
@[simp] theorem Dev.raise_regs (s i : Nat) : (d.raise s i).regs = d.regs := by unfold Dev.raise; split <;> rfl
@[simp] theorem Dev.raise_lastAccess (s i : Nat) : (d.raise s i).lastAccess = d.lastAccess := by unfold Dev.raise; split <;> rfl
@[simp] theorem Dev.raise_freeCtr (s i : Nat) : (d.raise s i).freeCtr = d.freeCtr := by unfold Dev.raise; split <;> rfl
@[simp] theorem Dev.raise_sk (s i : Nat) : (d.raise s i).sk = d.sk := by unfold Dev.raise; split <;> rfl
@[simp] theorem Dev.raise_ms (s i : Nat) : (d.raise s i).ms = d.ms := by unfold Dev.raise; split <;> rfl
@[simp] theorem Dev.raise_cr (s i : Nat) : (d.raise s i).cr = d.cr := by unfold Dev.raise; split <;> rfl
@[simp] theorem Dev.raise_md (s i : Nat) : (d.raise s i).md = d.md := by unfold Dev.raise; split <;> rfl
@[simp] theorem Dev.raise_pt (s i : Nat) : (d.raise s i).pt = d.pt := by unfold Dev.raise; split <;> rfl
@[simp] theorem Dev.raise_ps (s i : Nat) : (d.raise s i).ps = d.ps := by unfold Dev.raise; split <;> rfl
@[simp] theorem Dev.raise_tn (s i : Nat) : (d.raise s i).tn = d.tn := by unfold Dev.raise; split <;> rfl
@[simp] theorem Dev.raise_sn (s i : Nat) : (d.raise s i).sn = d.sn := by unfold Dev.raise; split <;> rfl
@[simp] theorem Dev.raise_pl (s i : Nat) : (d.raise s i).pl = d.pl := by unfold Dev.raise; split <;> rfl
@[simp] theorem Dev.raise_su (s i : Nat) : (d.raise s i).su = d.su := by unfold Dev.raise; split <;> rfl
@[simp] theorem Dev.raise_fl (s i : Nat) : (d.raise s i).fl = d.fl := by unfold Dev.raise; split <;> rfl
@[simp] theorem Dev.raise_sv (s i : Nat) : (d.raise s i).sv = d.sv := by unfold Dev.raise; split <;> rfl
@[simp] theorem Dev.raise_lk (s i : Nat) : (d.raise s i).lk = d.lk := by unfold Dev.raise; split <;> rfl

theorem Dev.raise_reports (s i : Nat) :
    (d.raise s i).reports = if srcInst s i ∈ d.reports then d.reports else d.reports ++ [srcInst s i] := by
  unfold Dev.raise; split <;> rfl

/-- A report raised stands (R418). -/
theorem Dev.mem_raise (s i : Nat) : srcInst s i ∈ (d.raise s i).reports := by
  rw [Dev.raise_reports]; split <;> simp_all

/-! ### The state around the device -/

@[simp] theorem State.withDev_dev (s : State) (d : Dev) : (s.withDev d).dev = d := rfl

@[simp] theorem State.withDev_pending (s : State) (d : Dev) : (s.withDev d).pending = s.pending := rfl

theorem State.act_eq (s : State) (f : Dev → Dev) : s.act f = .next (s.withDev (f s.dev)) := rfl

@[simp] theorem Dev.when_true (f : Dev → Dev) : d.when true f = f d := rfl

@[simp] theorem Dev.when_false (f : Dev → Dev) : d.when false f = d := rfl

end Sys2Proof.Machine
end

