-- ==== Sys2Proof/Laws/Units.lean ====
section
/-! SUPPORT. Each numbered unit under each named update: a unit written is read back, every other one stands. -/

namespace Sys2Proof.Machine

variable (d : Dev)

/-! ### hank -/

@[simp] theorem Dev.hank_setReg (a : Nat) (w : Word) (j : Nat) : (d.setReg a w).hank j = d.hank j := rfl
@[simp] theorem Dev.hank_answer (x : Access) (j : Nat) : (d.answer x).hank j = d.hank j := rfl
@[simp] theorem Dev.hank_modCr (f : CoreSt → CoreSt) (j : Nat) : (d.modCr f).hank j = d.hank j := rfl
@[simp] theorem Dev.hank_modPt (f : PortSt → PortSt) (j : Nat) : (d.modPt f).hank j = d.hank j := rfl
@[simp] theorem Dev.hank_modSn (f : SnarlSt → SnarlSt) (j : Nat) : (d.modSn f).hank j = d.hank j := rfl
@[simp] theorem Dev.hank_modPl (f : PolicySt → PolicySt) (j : Nat) : (d.modPl f).hank j = d.hank j := rfl
@[simp] theorem Dev.hank_modSu (f : SupplySt → SupplySt) (j : Nat) : (d.modSu f).hank j = d.hank j := rfl
@[simp] theorem Dev.hank_modFl (f : FlashSt → FlashSt) (j : Nat) : (d.modFl f).hank j = d.hank j := rfl
@[simp] theorem Dev.hank_modSv (f : SessionSt → SessionSt) (j : Nat) : (d.modSv f).hank j = d.hank j := rfl
@[simp] theorem Dev.hank_modLk (f : LinkSt → LinkSt) (j : Nat) : (d.modLk f).hank j = d.hank j := rfl
theorem Dev.hank_setHank (i j : Nat) (u : Hank) : (d.setHank i u).hank j = if j = i then u else d.hank j :=
  smGet_smSet _ _ i j u

@[simp] theorem Dev.hank_setHank_same (i : Nat) (u : Hank) : (d.setHank i u).hank i = u :=
  smGet_smSet_same _ _ i u

@[simp] theorem Dev.hank_setLane (k : Nat) (u : Lane) (j : Nat) : (d.setLane k u).hank j = d.hank j := rfl
@[simp] theorem Dev.hank_setSdm (k : Nat) (u : Sdm) (j : Nat) : (d.setSdm k u).hank j = d.hank j := rfl
@[simp] theorem Dev.hank_setSpn (k : Nat) (u : Spindle) (j : Nat) : (d.setSpn k u).hank j = d.hank j := rfl
@[simp] theorem Dev.hank_setLoop (k : Nat) (u : Loop) (j : Nat) : (d.setLoop k u).hank j = d.hank j := rfl
@[simp] theorem Dev.hank_setBob (k : Nat) (u : Bobbin) (j : Nat) : (d.setBob k u).hank j = d.hank j := rfl
@[simp] theorem Dev.hank_setTb (k : Nat) (u : Timebase) (j : Nat) : (d.setTb k u).hank j = d.hank j := rfl
@[simp] theorem Dev.hank_setWhorl (k : Nat) (u : Whorl) (j : Nat) : (d.setWhorl k u).hank j = d.hank j := rfl
@[simp] theorem Dev.hank_setPort (k : Nat) (u : Port) (j : Nat) : (d.setPort k u).hank j = d.hank j := rfl
@[simp] theorem Dev.hank_setReel (k : Nat) (u : Reel) (j : Nat) : (d.setReel k u).hank j = d.hank j := rfl
@[simp] theorem Dev.hank_setEnc (k : Nat) (u : Encoder) (j : Nat) : (d.setEnc k u).hank j = d.hank j := rfl
@[simp] theorem Dev.hank_setHall (k : Nat) (u : Hall) (j : Nat) : (d.setHall k u).hank j = d.hank j := rfl
@[simp] theorem Dev.hank_setExc (k : Nat) (u : Excite) (j : Nat) : (d.setExc k u).hank j = d.hank j := rfl
@[simp] theorem Dev.hank_setFn (k : Nat) (u : Fn) (j : Nat) : (d.setFn k u).hank j = d.hank j := rfl
@[simp] theorem Dev.hank_setLink (k : Nat) (u : Link) (j : Nat) : (d.setLink k u).hank j = d.hank j := rfl
@[simp] theorem Dev.hank_setSnlCnt (k : Nat) (u : SnlCnt) (j : Nat) : (d.setSnlCnt k u).hank j = d.hank j := rfl
@[simp] theorem Dev.hank_raise (s i j : Nat) : (d.raise s i).hank j = d.hank j := by simp [Dev.hank]

/-! ### lane -/

@[simp] theorem Dev.lane_setReg (a : Nat) (w : Word) (j : Nat) : (d.setReg a w).lane j = d.lane j := rfl
@[simp] theorem Dev.lane_answer (x : Access) (j : Nat) : (d.answer x).lane j = d.lane j := rfl
@[simp] theorem Dev.lane_modCr (f : CoreSt → CoreSt) (j : Nat) : (d.modCr f).lane j = d.lane j := rfl
@[simp] theorem Dev.lane_modPt (f : PortSt → PortSt) (j : Nat) : (d.modPt f).lane j = d.lane j := rfl
@[simp] theorem Dev.lane_modSn (f : SnarlSt → SnarlSt) (j : Nat) : (d.modSn f).lane j = d.lane j := rfl
@[simp] theorem Dev.lane_modPl (f : PolicySt → PolicySt) (j : Nat) : (d.modPl f).lane j = d.lane j := rfl
@[simp] theorem Dev.lane_modSu (f : SupplySt → SupplySt) (j : Nat) : (d.modSu f).lane j = d.lane j := rfl
@[simp] theorem Dev.lane_modFl (f : FlashSt → FlashSt) (j : Nat) : (d.modFl f).lane j = d.lane j := rfl
@[simp] theorem Dev.lane_modSv (f : SessionSt → SessionSt) (j : Nat) : (d.modSv f).lane j = d.lane j := rfl
@[simp] theorem Dev.lane_modLk (f : LinkSt → LinkSt) (j : Nat) : (d.modLk f).lane j = d.lane j := rfl
@[simp] theorem Dev.lane_setHank (k : Nat) (u : Hank) (j : Nat) : (d.setHank k u).lane j = d.lane j := rfl
theorem Dev.lane_setLane (i j : Nat) (u : Lane) : (d.setLane i u).lane j = if j = i then u else d.lane j :=
  smGet_smSet _ _ i j u

@[simp] theorem Dev.lane_setLane_same (i : Nat) (u : Lane) : (d.setLane i u).lane i = u :=
  smGet_smSet_same _ _ i u

@[simp] theorem Dev.lane_setSdm (k : Nat) (u : Sdm) (j : Nat) : (d.setSdm k u).lane j = d.lane j := rfl
@[simp] theorem Dev.lane_setSpn (k : Nat) (u : Spindle) (j : Nat) : (d.setSpn k u).lane j = d.lane j := rfl
@[simp] theorem Dev.lane_setLoop (k : Nat) (u : Loop) (j : Nat) : (d.setLoop k u).lane j = d.lane j := rfl
@[simp] theorem Dev.lane_setBob (k : Nat) (u : Bobbin) (j : Nat) : (d.setBob k u).lane j = d.lane j := rfl
@[simp] theorem Dev.lane_setTb (k : Nat) (u : Timebase) (j : Nat) : (d.setTb k u).lane j = d.lane j := rfl
@[simp] theorem Dev.lane_setWhorl (k : Nat) (u : Whorl) (j : Nat) : (d.setWhorl k u).lane j = d.lane j := rfl
@[simp] theorem Dev.lane_setPort (k : Nat) (u : Port) (j : Nat) : (d.setPort k u).lane j = d.lane j := rfl
@[simp] theorem Dev.lane_setReel (k : Nat) (u : Reel) (j : Nat) : (d.setReel k u).lane j = d.lane j := rfl
@[simp] theorem Dev.lane_setEnc (k : Nat) (u : Encoder) (j : Nat) : (d.setEnc k u).lane j = d.lane j := rfl
@[simp] theorem Dev.lane_setHall (k : Nat) (u : Hall) (j : Nat) : (d.setHall k u).lane j = d.lane j := rfl
@[simp] theorem Dev.lane_setExc (k : Nat) (u : Excite) (j : Nat) : (d.setExc k u).lane j = d.lane j := rfl
@[simp] theorem Dev.lane_setFn (k : Nat) (u : Fn) (j : Nat) : (d.setFn k u).lane j = d.lane j := rfl
@[simp] theorem Dev.lane_setLink (k : Nat) (u : Link) (j : Nat) : (d.setLink k u).lane j = d.lane j := rfl
@[simp] theorem Dev.lane_setSnlCnt (k : Nat) (u : SnlCnt) (j : Nat) : (d.setSnlCnt k u).lane j = d.lane j := rfl
@[simp] theorem Dev.lane_raise (s i j : Nat) : (d.raise s i).lane j = d.lane j := by simp [Dev.lane]

/-! ### sdm -/

@[simp] theorem Dev.sdm_setReg (a : Nat) (w : Word) (j : Nat) : (d.setReg a w).sdm j = d.sdm j := rfl
@[simp] theorem Dev.sdm_answer (x : Access) (j : Nat) : (d.answer x).sdm j = d.sdm j := rfl
@[simp] theorem Dev.sdm_modCr (f : CoreSt → CoreSt) (j : Nat) : (d.modCr f).sdm j = d.sdm j := rfl
@[simp] theorem Dev.sdm_modPt (f : PortSt → PortSt) (j : Nat) : (d.modPt f).sdm j = d.sdm j := rfl
@[simp] theorem Dev.sdm_modSn (f : SnarlSt → SnarlSt) (j : Nat) : (d.modSn f).sdm j = d.sdm j := rfl
@[simp] theorem Dev.sdm_modPl (f : PolicySt → PolicySt) (j : Nat) : (d.modPl f).sdm j = d.sdm j := rfl
@[simp] theorem Dev.sdm_modSu (f : SupplySt → SupplySt) (j : Nat) : (d.modSu f).sdm j = d.sdm j := rfl
@[simp] theorem Dev.sdm_modFl (f : FlashSt → FlashSt) (j : Nat) : (d.modFl f).sdm j = d.sdm j := rfl
@[simp] theorem Dev.sdm_modSv (f : SessionSt → SessionSt) (j : Nat) : (d.modSv f).sdm j = d.sdm j := rfl
@[simp] theorem Dev.sdm_modLk (f : LinkSt → LinkSt) (j : Nat) : (d.modLk f).sdm j = d.sdm j := rfl
@[simp] theorem Dev.sdm_setHank (k : Nat) (u : Hank) (j : Nat) : (d.setHank k u).sdm j = d.sdm j := rfl
@[simp] theorem Dev.sdm_setLane (k : Nat) (u : Lane) (j : Nat) : (d.setLane k u).sdm j = d.sdm j := rfl
theorem Dev.sdm_setSdm (i j : Nat) (u : Sdm) : (d.setSdm i u).sdm j = if j = i then u else d.sdm j :=
  smGet_smSet _ _ i j u

@[simp] theorem Dev.sdm_setSdm_same (i : Nat) (u : Sdm) : (d.setSdm i u).sdm i = u :=
  smGet_smSet_same _ _ i u

@[simp] theorem Dev.sdm_setSpn (k : Nat) (u : Spindle) (j : Nat) : (d.setSpn k u).sdm j = d.sdm j := rfl
@[simp] theorem Dev.sdm_setLoop (k : Nat) (u : Loop) (j : Nat) : (d.setLoop k u).sdm j = d.sdm j := rfl
@[simp] theorem Dev.sdm_setBob (k : Nat) (u : Bobbin) (j : Nat) : (d.setBob k u).sdm j = d.sdm j := rfl
@[simp] theorem Dev.sdm_setTb (k : Nat) (u : Timebase) (j : Nat) : (d.setTb k u).sdm j = d.sdm j := rfl
@[simp] theorem Dev.sdm_setWhorl (k : Nat) (u : Whorl) (j : Nat) : (d.setWhorl k u).sdm j = d.sdm j := rfl
@[simp] theorem Dev.sdm_setPort (k : Nat) (u : Port) (j : Nat) : (d.setPort k u).sdm j = d.sdm j := rfl
@[simp] theorem Dev.sdm_setReel (k : Nat) (u : Reel) (j : Nat) : (d.setReel k u).sdm j = d.sdm j := rfl
@[simp] theorem Dev.sdm_setEnc (k : Nat) (u : Encoder) (j : Nat) : (d.setEnc k u).sdm j = d.sdm j := rfl
@[simp] theorem Dev.sdm_setHall (k : Nat) (u : Hall) (j : Nat) : (d.setHall k u).sdm j = d.sdm j := rfl
@[simp] theorem Dev.sdm_setExc (k : Nat) (u : Excite) (j : Nat) : (d.setExc k u).sdm j = d.sdm j := rfl
@[simp] theorem Dev.sdm_setFn (k : Nat) (u : Fn) (j : Nat) : (d.setFn k u).sdm j = d.sdm j := rfl
@[simp] theorem Dev.sdm_setLink (k : Nat) (u : Link) (j : Nat) : (d.setLink k u).sdm j = d.sdm j := rfl
@[simp] theorem Dev.sdm_setSnlCnt (k : Nat) (u : SnlCnt) (j : Nat) : (d.setSnlCnt k u).sdm j = d.sdm j := rfl
@[simp] theorem Dev.sdm_raise (s i j : Nat) : (d.raise s i).sdm j = d.sdm j := by simp [Dev.sdm]

/-! ### spn -/

@[simp] theorem Dev.spn_setReg (a : Nat) (w : Word) (j : Nat) : (d.setReg a w).spn j = d.spn j := rfl
@[simp] theorem Dev.spn_answer (x : Access) (j : Nat) : (d.answer x).spn j = d.spn j := rfl
@[simp] theorem Dev.spn_modPt (f : PortSt → PortSt) (j : Nat) : (d.modPt f).spn j = d.spn j := rfl
@[simp] theorem Dev.spn_modSn (f : SnarlSt → SnarlSt) (j : Nat) : (d.modSn f).spn j = d.spn j := rfl
@[simp] theorem Dev.spn_modPl (f : PolicySt → PolicySt) (j : Nat) : (d.modPl f).spn j = d.spn j := rfl
@[simp] theorem Dev.spn_modSu (f : SupplySt → SupplySt) (j : Nat) : (d.modSu f).spn j = d.spn j := rfl
@[simp] theorem Dev.spn_modFl (f : FlashSt → FlashSt) (j : Nat) : (d.modFl f).spn j = d.spn j := rfl
@[simp] theorem Dev.spn_modSv (f : SessionSt → SessionSt) (j : Nat) : (d.modSv f).spn j = d.spn j := rfl
@[simp] theorem Dev.spn_modLk (f : LinkSt → LinkSt) (j : Nat) : (d.modLk f).spn j = d.spn j := rfl
@[simp] theorem Dev.spn_setHank (k : Nat) (u : Hank) (j : Nat) : (d.setHank k u).spn j = d.spn j := rfl
@[simp] theorem Dev.spn_setLane (k : Nat) (u : Lane) (j : Nat) : (d.setLane k u).spn j = d.spn j := rfl
@[simp] theorem Dev.spn_setSdm (k : Nat) (u : Sdm) (j : Nat) : (d.setSdm k u).spn j = d.spn j := rfl
theorem Dev.spn_setSpn (i j : Nat) (u : Spindle) : (d.setSpn i u).spn j = if j = i then u else d.spn j :=
  smGet_smSet _ _ i j u

@[simp] theorem Dev.spn_setSpn_same (i : Nat) (u : Spindle) : (d.setSpn i u).spn i = u :=
  smGet_smSet_same _ _ i u

@[simp] theorem Dev.spn_setLoop (k : Nat) (u : Loop) (j : Nat) : (d.setLoop k u).spn j = d.spn j := rfl
@[simp] theorem Dev.spn_setBob (k : Nat) (u : Bobbin) (j : Nat) : (d.setBob k u).spn j = d.spn j := rfl
@[simp] theorem Dev.spn_setTb (k : Nat) (u : Timebase) (j : Nat) : (d.setTb k u).spn j = d.spn j := rfl
@[simp] theorem Dev.spn_setWhorl (k : Nat) (u : Whorl) (j : Nat) : (d.setWhorl k u).spn j = d.spn j := rfl
@[simp] theorem Dev.spn_setPort (k : Nat) (u : Port) (j : Nat) : (d.setPort k u).spn j = d.spn j := rfl
@[simp] theorem Dev.spn_setReel (k : Nat) (u : Reel) (j : Nat) : (d.setReel k u).spn j = d.spn j := rfl
@[simp] theorem Dev.spn_setEnc (k : Nat) (u : Encoder) (j : Nat) : (d.setEnc k u).spn j = d.spn j := rfl
@[simp] theorem Dev.spn_setHall (k : Nat) (u : Hall) (j : Nat) : (d.setHall k u).spn j = d.spn j := rfl
@[simp] theorem Dev.spn_setExc (k : Nat) (u : Excite) (j : Nat) : (d.setExc k u).spn j = d.spn j := rfl
@[simp] theorem Dev.spn_setFn (k : Nat) (u : Fn) (j : Nat) : (d.setFn k u).spn j = d.spn j := rfl
@[simp] theorem Dev.spn_setLink (k : Nat) (u : Link) (j : Nat) : (d.setLink k u).spn j = d.spn j := rfl
@[simp] theorem Dev.spn_setSnlCnt (k : Nat) (u : SnlCnt) (j : Nat) : (d.setSnlCnt k u).spn j = d.spn j := rfl
@[simp] theorem Dev.spn_raise (s i j : Nat) : (d.raise s i).spn j = d.spn j := by simp [Dev.spn]

/-! ### loop -/

@[simp] theorem Dev.loop_setReg (a : Nat) (w : Word) (j : Nat) : (d.setReg a w).loop j = d.loop j := rfl
@[simp] theorem Dev.loop_answer (x : Access) (j : Nat) : (d.answer x).loop j = d.loop j := rfl
@[simp] theorem Dev.loop_modPt (f : PortSt → PortSt) (j : Nat) : (d.modPt f).loop j = d.loop j := rfl
@[simp] theorem Dev.loop_modSn (f : SnarlSt → SnarlSt) (j : Nat) : (d.modSn f).loop j = d.loop j := rfl
@[simp] theorem Dev.loop_modPl (f : PolicySt → PolicySt) (j : Nat) : (d.modPl f).loop j = d.loop j := rfl
@[simp] theorem Dev.loop_modSu (f : SupplySt → SupplySt) (j : Nat) : (d.modSu f).loop j = d.loop j := rfl
@[simp] theorem Dev.loop_modFl (f : FlashSt → FlashSt) (j : Nat) : (d.modFl f).loop j = d.loop j := rfl
@[simp] theorem Dev.loop_modSv (f : SessionSt → SessionSt) (j : Nat) : (d.modSv f).loop j = d.loop j := rfl
@[simp] theorem Dev.loop_modLk (f : LinkSt → LinkSt) (j : Nat) : (d.modLk f).loop j = d.loop j := rfl
@[simp] theorem Dev.loop_setHank (k : Nat) (u : Hank) (j : Nat) : (d.setHank k u).loop j = d.loop j := rfl
@[simp] theorem Dev.loop_setLane (k : Nat) (u : Lane) (j : Nat) : (d.setLane k u).loop j = d.loop j := rfl
@[simp] theorem Dev.loop_setSdm (k : Nat) (u : Sdm) (j : Nat) : (d.setSdm k u).loop j = d.loop j := rfl
@[simp] theorem Dev.loop_setSpn (k : Nat) (u : Spindle) (j : Nat) : (d.setSpn k u).loop j = d.loop j := rfl
theorem Dev.loop_setLoop (i j : Nat) (u : Loop) : (d.setLoop i u).loop j = if j = i then u else d.loop j :=
  smGet_smSet _ _ i j u

@[simp] theorem Dev.loop_setLoop_same (i : Nat) (u : Loop) : (d.setLoop i u).loop i = u :=
  smGet_smSet_same _ _ i u

@[simp] theorem Dev.loop_setBob (k : Nat) (u : Bobbin) (j : Nat) : (d.setBob k u).loop j = d.loop j := rfl
@[simp] theorem Dev.loop_setTb (k : Nat) (u : Timebase) (j : Nat) : (d.setTb k u).loop j = d.loop j := rfl
@[simp] theorem Dev.loop_setWhorl (k : Nat) (u : Whorl) (j : Nat) : (d.setWhorl k u).loop j = d.loop j := rfl
@[simp] theorem Dev.loop_setPort (k : Nat) (u : Port) (j : Nat) : (d.setPort k u).loop j = d.loop j := rfl
@[simp] theorem Dev.loop_setReel (k : Nat) (u : Reel) (j : Nat) : (d.setReel k u).loop j = d.loop j := rfl
@[simp] theorem Dev.loop_setEnc (k : Nat) (u : Encoder) (j : Nat) : (d.setEnc k u).loop j = d.loop j := rfl
@[simp] theorem Dev.loop_setHall (k : Nat) (u : Hall) (j : Nat) : (d.setHall k u).loop j = d.loop j := rfl
@[simp] theorem Dev.loop_setExc (k : Nat) (u : Excite) (j : Nat) : (d.setExc k u).loop j = d.loop j := rfl
@[simp] theorem Dev.loop_setFn (k : Nat) (u : Fn) (j : Nat) : (d.setFn k u).loop j = d.loop j := rfl
@[simp] theorem Dev.loop_setLink (k : Nat) (u : Link) (j : Nat) : (d.setLink k u).loop j = d.loop j := rfl
@[simp] theorem Dev.loop_setSnlCnt (k : Nat) (u : SnlCnt) (j : Nat) : (d.setSnlCnt k u).loop j = d.loop j := rfl
@[simp] theorem Dev.loop_raise (s i j : Nat) : (d.raise s i).loop j = d.loop j := by simp [Dev.loop]

/-! ### bob -/

@[simp] theorem Dev.bob_setReg (a : Nat) (w : Word) (j : Nat) : (d.setReg a w).bob j = d.bob j := rfl
@[simp] theorem Dev.bob_answer (x : Access) (j : Nat) : (d.answer x).bob j = d.bob j := rfl
@[simp] theorem Dev.bob_modPt (f : PortSt → PortSt) (j : Nat) : (d.modPt f).bob j = d.bob j := rfl
@[simp] theorem Dev.bob_modSn (f : SnarlSt → SnarlSt) (j : Nat) : (d.modSn f).bob j = d.bob j := rfl
@[simp] theorem Dev.bob_modPl (f : PolicySt → PolicySt) (j : Nat) : (d.modPl f).bob j = d.bob j := rfl
@[simp] theorem Dev.bob_modSu (f : SupplySt → SupplySt) (j : Nat) : (d.modSu f).bob j = d.bob j := rfl
@[simp] theorem Dev.bob_modFl (f : FlashSt → FlashSt) (j : Nat) : (d.modFl f).bob j = d.bob j := rfl
@[simp] theorem Dev.bob_modSv (f : SessionSt → SessionSt) (j : Nat) : (d.modSv f).bob j = d.bob j := rfl
@[simp] theorem Dev.bob_modLk (f : LinkSt → LinkSt) (j : Nat) : (d.modLk f).bob j = d.bob j := rfl
@[simp] theorem Dev.bob_setHank (k : Nat) (u : Hank) (j : Nat) : (d.setHank k u).bob j = d.bob j := rfl
@[simp] theorem Dev.bob_setLane (k : Nat) (u : Lane) (j : Nat) : (d.setLane k u).bob j = d.bob j := rfl
@[simp] theorem Dev.bob_setSdm (k : Nat) (u : Sdm) (j : Nat) : (d.setSdm k u).bob j = d.bob j := rfl
@[simp] theorem Dev.bob_setSpn (k : Nat) (u : Spindle) (j : Nat) : (d.setSpn k u).bob j = d.bob j := rfl
@[simp] theorem Dev.bob_setLoop (k : Nat) (u : Loop) (j : Nat) : (d.setLoop k u).bob j = d.bob j := rfl
theorem Dev.bob_setBob (i j : Nat) (u : Bobbin) : (d.setBob i u).bob j = if j = i then u else d.bob j :=
  smGet_smSet _ _ i j u

@[simp] theorem Dev.bob_setBob_same (i : Nat) (u : Bobbin) : (d.setBob i u).bob i = u :=
  smGet_smSet_same _ _ i u

@[simp] theorem Dev.bob_setTb (k : Nat) (u : Timebase) (j : Nat) : (d.setTb k u).bob j = d.bob j := rfl
@[simp] theorem Dev.bob_setWhorl (k : Nat) (u : Whorl) (j : Nat) : (d.setWhorl k u).bob j = d.bob j := rfl
@[simp] theorem Dev.bob_setPort (k : Nat) (u : Port) (j : Nat) : (d.setPort k u).bob j = d.bob j := rfl
@[simp] theorem Dev.bob_setReel (k : Nat) (u : Reel) (j : Nat) : (d.setReel k u).bob j = d.bob j := rfl
@[simp] theorem Dev.bob_setEnc (k : Nat) (u : Encoder) (j : Nat) : (d.setEnc k u).bob j = d.bob j := rfl
@[simp] theorem Dev.bob_setHall (k : Nat) (u : Hall) (j : Nat) : (d.setHall k u).bob j = d.bob j := rfl
@[simp] theorem Dev.bob_setExc (k : Nat) (u : Excite) (j : Nat) : (d.setExc k u).bob j = d.bob j := rfl
@[simp] theorem Dev.bob_setFn (k : Nat) (u : Fn) (j : Nat) : (d.setFn k u).bob j = d.bob j := rfl
@[simp] theorem Dev.bob_setLink (k : Nat) (u : Link) (j : Nat) : (d.setLink k u).bob j = d.bob j := rfl
@[simp] theorem Dev.bob_setSnlCnt (k : Nat) (u : SnlCnt) (j : Nat) : (d.setSnlCnt k u).bob j = d.bob j := rfl
@[simp] theorem Dev.bob_raise (s i j : Nat) : (d.raise s i).bob j = d.bob j := by simp [Dev.bob]

/-! ### tb -/

@[simp] theorem Dev.tb_setReg (a : Nat) (w : Word) (j : Nat) : (d.setReg a w).tb j = d.tb j := rfl
@[simp] theorem Dev.tb_answer (x : Access) (j : Nat) : (d.answer x).tb j = d.tb j := rfl
@[simp] theorem Dev.tb_modCr (f : CoreSt → CoreSt) (j : Nat) : (d.modCr f).tb j = d.tb j := rfl
@[simp] theorem Dev.tb_modPt (f : PortSt → PortSt) (j : Nat) : (d.modPt f).tb j = d.tb j := rfl
@[simp] theorem Dev.tb_modSn (f : SnarlSt → SnarlSt) (j : Nat) : (d.modSn f).tb j = d.tb j := rfl
@[simp] theorem Dev.tb_modPl (f : PolicySt → PolicySt) (j : Nat) : (d.modPl f).tb j = d.tb j := rfl
@[simp] theorem Dev.tb_modSu (f : SupplySt → SupplySt) (j : Nat) : (d.modSu f).tb j = d.tb j := rfl
@[simp] theorem Dev.tb_modFl (f : FlashSt → FlashSt) (j : Nat) : (d.modFl f).tb j = d.tb j := rfl
@[simp] theorem Dev.tb_modSv (f : SessionSt → SessionSt) (j : Nat) : (d.modSv f).tb j = d.tb j := rfl
@[simp] theorem Dev.tb_modLk (f : LinkSt → LinkSt) (j : Nat) : (d.modLk f).tb j = d.tb j := rfl
@[simp] theorem Dev.tb_setHank (k : Nat) (u : Hank) (j : Nat) : (d.setHank k u).tb j = d.tb j := rfl
@[simp] theorem Dev.tb_setLane (k : Nat) (u : Lane) (j : Nat) : (d.setLane k u).tb j = d.tb j := rfl
@[simp] theorem Dev.tb_setSdm (k : Nat) (u : Sdm) (j : Nat) : (d.setSdm k u).tb j = d.tb j := rfl
@[simp] theorem Dev.tb_setSpn (k : Nat) (u : Spindle) (j : Nat) : (d.setSpn k u).tb j = d.tb j := rfl
@[simp] theorem Dev.tb_setLoop (k : Nat) (u : Loop) (j : Nat) : (d.setLoop k u).tb j = d.tb j := rfl
@[simp] theorem Dev.tb_setBob (k : Nat) (u : Bobbin) (j : Nat) : (d.setBob k u).tb j = d.tb j := rfl
theorem Dev.tb_setTb (i j : Nat) (u : Timebase) : (d.setTb i u).tb j = if j = i then u else d.tb j :=
  smGet_smSet _ _ i j u

@[simp] theorem Dev.tb_setTb_same (i : Nat) (u : Timebase) : (d.setTb i u).tb i = u :=
  smGet_smSet_same _ _ i u

@[simp] theorem Dev.tb_setWhorl (k : Nat) (u : Whorl) (j : Nat) : (d.setWhorl k u).tb j = d.tb j := rfl
@[simp] theorem Dev.tb_setPort (k : Nat) (u : Port) (j : Nat) : (d.setPort k u).tb j = d.tb j := rfl
@[simp] theorem Dev.tb_setReel (k : Nat) (u : Reel) (j : Nat) : (d.setReel k u).tb j = d.tb j := rfl
@[simp] theorem Dev.tb_setEnc (k : Nat) (u : Encoder) (j : Nat) : (d.setEnc k u).tb j = d.tb j := rfl
@[simp] theorem Dev.tb_setHall (k : Nat) (u : Hall) (j : Nat) : (d.setHall k u).tb j = d.tb j := rfl
@[simp] theorem Dev.tb_setExc (k : Nat) (u : Excite) (j : Nat) : (d.setExc k u).tb j = d.tb j := rfl
@[simp] theorem Dev.tb_setFn (k : Nat) (u : Fn) (j : Nat) : (d.setFn k u).tb j = d.tb j := rfl
@[simp] theorem Dev.tb_setLink (k : Nat) (u : Link) (j : Nat) : (d.setLink k u).tb j = d.tb j := rfl
@[simp] theorem Dev.tb_setSnlCnt (k : Nat) (u : SnlCnt) (j : Nat) : (d.setSnlCnt k u).tb j = d.tb j := rfl
@[simp] theorem Dev.tb_raise (s i j : Nat) : (d.raise s i).tb j = d.tb j := by simp [Dev.tb]

/-! ### whorl -/

@[simp] theorem Dev.whorl_setReg (a : Nat) (w : Word) (j : Nat) : (d.setReg a w).whorl j = d.whorl j := rfl
@[simp] theorem Dev.whorl_answer (x : Access) (j : Nat) : (d.answer x).whorl j = d.whorl j := rfl
@[simp] theorem Dev.whorl_modCr (f : CoreSt → CoreSt) (j : Nat) : (d.modCr f).whorl j = d.whorl j := rfl
@[simp] theorem Dev.whorl_modPt (f : PortSt → PortSt) (j : Nat) : (d.modPt f).whorl j = d.whorl j := rfl
@[simp] theorem Dev.whorl_modSn (f : SnarlSt → SnarlSt) (j : Nat) : (d.modSn f).whorl j = d.whorl j := rfl
@[simp] theorem Dev.whorl_modPl (f : PolicySt → PolicySt) (j : Nat) : (d.modPl f).whorl j = d.whorl j := rfl
@[simp] theorem Dev.whorl_modSu (f : SupplySt → SupplySt) (j : Nat) : (d.modSu f).whorl j = d.whorl j := rfl
@[simp] theorem Dev.whorl_modFl (f : FlashSt → FlashSt) (j : Nat) : (d.modFl f).whorl j = d.whorl j := rfl
@[simp] theorem Dev.whorl_modSv (f : SessionSt → SessionSt) (j : Nat) : (d.modSv f).whorl j = d.whorl j := rfl
@[simp] theorem Dev.whorl_modLk (f : LinkSt → LinkSt) (j : Nat) : (d.modLk f).whorl j = d.whorl j := rfl
@[simp] theorem Dev.whorl_setHank (k : Nat) (u : Hank) (j : Nat) : (d.setHank k u).whorl j = d.whorl j := rfl
@[simp] theorem Dev.whorl_setLane (k : Nat) (u : Lane) (j : Nat) : (d.setLane k u).whorl j = d.whorl j := rfl
@[simp] theorem Dev.whorl_setSdm (k : Nat) (u : Sdm) (j : Nat) : (d.setSdm k u).whorl j = d.whorl j := rfl
@[simp] theorem Dev.whorl_setSpn (k : Nat) (u : Spindle) (j : Nat) : (d.setSpn k u).whorl j = d.whorl j := rfl
@[simp] theorem Dev.whorl_setLoop (k : Nat) (u : Loop) (j : Nat) : (d.setLoop k u).whorl j = d.whorl j := rfl
@[simp] theorem Dev.whorl_setBob (k : Nat) (u : Bobbin) (j : Nat) : (d.setBob k u).whorl j = d.whorl j := rfl
@[simp] theorem Dev.whorl_setTb (k : Nat) (u : Timebase) (j : Nat) : (d.setTb k u).whorl j = d.whorl j := rfl
theorem Dev.whorl_setWhorl (i j : Nat) (u : Whorl) : (d.setWhorl i u).whorl j = if j = i then u else d.whorl j :=
  smGet_smSet _ _ i j u

@[simp] theorem Dev.whorl_setWhorl_same (i : Nat) (u : Whorl) : (d.setWhorl i u).whorl i = u :=
  smGet_smSet_same _ _ i u

@[simp] theorem Dev.whorl_setPort (k : Nat) (u : Port) (j : Nat) : (d.setPort k u).whorl j = d.whorl j := rfl
@[simp] theorem Dev.whorl_setReel (k : Nat) (u : Reel) (j : Nat) : (d.setReel k u).whorl j = d.whorl j := rfl
@[simp] theorem Dev.whorl_setEnc (k : Nat) (u : Encoder) (j : Nat) : (d.setEnc k u).whorl j = d.whorl j := rfl
@[simp] theorem Dev.whorl_setHall (k : Nat) (u : Hall) (j : Nat) : (d.setHall k u).whorl j = d.whorl j := rfl
@[simp] theorem Dev.whorl_setExc (k : Nat) (u : Excite) (j : Nat) : (d.setExc k u).whorl j = d.whorl j := rfl
@[simp] theorem Dev.whorl_setFn (k : Nat) (u : Fn) (j : Nat) : (d.setFn k u).whorl j = d.whorl j := rfl
@[simp] theorem Dev.whorl_setLink (k : Nat) (u : Link) (j : Nat) : (d.setLink k u).whorl j = d.whorl j := rfl
@[simp] theorem Dev.whorl_setSnlCnt (k : Nat) (u : SnlCnt) (j : Nat) : (d.setSnlCnt k u).whorl j = d.whorl j := rfl
@[simp] theorem Dev.whorl_raise (s i j : Nat) : (d.raise s i).whorl j = d.whorl j := by simp [Dev.whorl]

/-! ### port -/

@[simp] theorem Dev.port_setReg (a : Nat) (w : Word) (j : Nat) : (d.setReg a w).port j = d.port j := rfl
@[simp] theorem Dev.port_answer (x : Access) (j : Nat) : (d.answer x).port j = d.port j := rfl
@[simp] theorem Dev.port_modCr (f : CoreSt → CoreSt) (j : Nat) : (d.modCr f).port j = d.port j := rfl
@[simp] theorem Dev.port_modSn (f : SnarlSt → SnarlSt) (j : Nat) : (d.modSn f).port j = d.port j := rfl
@[simp] theorem Dev.port_modPl (f : PolicySt → PolicySt) (j : Nat) : (d.modPl f).port j = d.port j := rfl
@[simp] theorem Dev.port_modSu (f : SupplySt → SupplySt) (j : Nat) : (d.modSu f).port j = d.port j := rfl
@[simp] theorem Dev.port_modFl (f : FlashSt → FlashSt) (j : Nat) : (d.modFl f).port j = d.port j := rfl
@[simp] theorem Dev.port_modSv (f : SessionSt → SessionSt) (j : Nat) : (d.modSv f).port j = d.port j := rfl
@[simp] theorem Dev.port_modLk (f : LinkSt → LinkSt) (j : Nat) : (d.modLk f).port j = d.port j := rfl
@[simp] theorem Dev.port_setHank (k : Nat) (u : Hank) (j : Nat) : (d.setHank k u).port j = d.port j := rfl
@[simp] theorem Dev.port_setLane (k : Nat) (u : Lane) (j : Nat) : (d.setLane k u).port j = d.port j := rfl
@[simp] theorem Dev.port_setSdm (k : Nat) (u : Sdm) (j : Nat) : (d.setSdm k u).port j = d.port j := rfl
@[simp] theorem Dev.port_setSpn (k : Nat) (u : Spindle) (j : Nat) : (d.setSpn k u).port j = d.port j := rfl
@[simp] theorem Dev.port_setLoop (k : Nat) (u : Loop) (j : Nat) : (d.setLoop k u).port j = d.port j := rfl
@[simp] theorem Dev.port_setBob (k : Nat) (u : Bobbin) (j : Nat) : (d.setBob k u).port j = d.port j := rfl
@[simp] theorem Dev.port_setTb (k : Nat) (u : Timebase) (j : Nat) : (d.setTb k u).port j = d.port j := rfl
@[simp] theorem Dev.port_setWhorl (k : Nat) (u : Whorl) (j : Nat) : (d.setWhorl k u).port j = d.port j := rfl
theorem Dev.port_setPort (i j : Nat) (u : Port) : (d.setPort i u).port j = if j = i then u else d.port j :=
  smGet_smSet _ _ i j u

@[simp] theorem Dev.port_setPort_same (i : Nat) (u : Port) : (d.setPort i u).port i = u :=
  smGet_smSet_same _ _ i u

@[simp] theorem Dev.port_setReel (k : Nat) (u : Reel) (j : Nat) : (d.setReel k u).port j = d.port j := rfl
@[simp] theorem Dev.port_setEnc (k : Nat) (u : Encoder) (j : Nat) : (d.setEnc k u).port j = d.port j := rfl
@[simp] theorem Dev.port_setHall (k : Nat) (u : Hall) (j : Nat) : (d.setHall k u).port j = d.port j := rfl
@[simp] theorem Dev.port_setExc (k : Nat) (u : Excite) (j : Nat) : (d.setExc k u).port j = d.port j := rfl
@[simp] theorem Dev.port_setFn (k : Nat) (u : Fn) (j : Nat) : (d.setFn k u).port j = d.port j := rfl
@[simp] theorem Dev.port_setLink (k : Nat) (u : Link) (j : Nat) : (d.setLink k u).port j = d.port j := rfl
@[simp] theorem Dev.port_setSnlCnt (k : Nat) (u : SnlCnt) (j : Nat) : (d.setSnlCnt k u).port j = d.port j := rfl
@[simp] theorem Dev.port_raise (s i j : Nat) : (d.raise s i).port j = d.port j := by simp [Dev.port]

/-! ### reel -/

@[simp] theorem Dev.reel_setReg (a : Nat) (w : Word) (j : Nat) : (d.setReg a w).reel j = d.reel j := rfl
@[simp] theorem Dev.reel_answer (x : Access) (j : Nat) : (d.answer x).reel j = d.reel j := rfl
@[simp] theorem Dev.reel_modCr (f : CoreSt → CoreSt) (j : Nat) : (d.modCr f).reel j = d.reel j := rfl
@[simp] theorem Dev.reel_modPt (f : PortSt → PortSt) (j : Nat) : (d.modPt f).reel j = d.reel j := rfl
@[simp] theorem Dev.reel_modSn (f : SnarlSt → SnarlSt) (j : Nat) : (d.modSn f).reel j = d.reel j := rfl
@[simp] theorem Dev.reel_modPl (f : PolicySt → PolicySt) (j : Nat) : (d.modPl f).reel j = d.reel j := rfl
@[simp] theorem Dev.reel_modSu (f : SupplySt → SupplySt) (j : Nat) : (d.modSu f).reel j = d.reel j := rfl
@[simp] theorem Dev.reel_modFl (f : FlashSt → FlashSt) (j : Nat) : (d.modFl f).reel j = d.reel j := rfl
@[simp] theorem Dev.reel_modSv (f : SessionSt → SessionSt) (j : Nat) : (d.modSv f).reel j = d.reel j := rfl
@[simp] theorem Dev.reel_modLk (f : LinkSt → LinkSt) (j : Nat) : (d.modLk f).reel j = d.reel j := rfl
@[simp] theorem Dev.reel_setHank (k : Nat) (u : Hank) (j : Nat) : (d.setHank k u).reel j = d.reel j := rfl
@[simp] theorem Dev.reel_setLane (k : Nat) (u : Lane) (j : Nat) : (d.setLane k u).reel j = d.reel j := rfl
@[simp] theorem Dev.reel_setSdm (k : Nat) (u : Sdm) (j : Nat) : (d.setSdm k u).reel j = d.reel j := rfl
@[simp] theorem Dev.reel_setSpn (k : Nat) (u : Spindle) (j : Nat) : (d.setSpn k u).reel j = d.reel j := rfl
@[simp] theorem Dev.reel_setLoop (k : Nat) (u : Loop) (j : Nat) : (d.setLoop k u).reel j = d.reel j := rfl
@[simp] theorem Dev.reel_setBob (k : Nat) (u : Bobbin) (j : Nat) : (d.setBob k u).reel j = d.reel j := rfl
@[simp] theorem Dev.reel_setTb (k : Nat) (u : Timebase) (j : Nat) : (d.setTb k u).reel j = d.reel j := rfl
@[simp] theorem Dev.reel_setWhorl (k : Nat) (u : Whorl) (j : Nat) : (d.setWhorl k u).reel j = d.reel j := rfl
@[simp] theorem Dev.reel_setPort (k : Nat) (u : Port) (j : Nat) : (d.setPort k u).reel j = d.reel j := rfl
theorem Dev.reel_setReel (i j : Nat) (u : Reel) : (d.setReel i u).reel j = if j = i then u else d.reel j :=
  smGet_smSet _ _ i j u

@[simp] theorem Dev.reel_setReel_same (i : Nat) (u : Reel) : (d.setReel i u).reel i = u :=
  smGet_smSet_same _ _ i u

@[simp] theorem Dev.reel_setEnc (k : Nat) (u : Encoder) (j : Nat) : (d.setEnc k u).reel j = d.reel j := rfl
@[simp] theorem Dev.reel_setHall (k : Nat) (u : Hall) (j : Nat) : (d.setHall k u).reel j = d.reel j := rfl
@[simp] theorem Dev.reel_setExc (k : Nat) (u : Excite) (j : Nat) : (d.setExc k u).reel j = d.reel j := rfl
@[simp] theorem Dev.reel_setFn (k : Nat) (u : Fn) (j : Nat) : (d.setFn k u).reel j = d.reel j := rfl
@[simp] theorem Dev.reel_setLink (k : Nat) (u : Link) (j : Nat) : (d.setLink k u).reel j = d.reel j := rfl
@[simp] theorem Dev.reel_setSnlCnt (k : Nat) (u : SnlCnt) (j : Nat) : (d.setSnlCnt k u).reel j = d.reel j := rfl
@[simp] theorem Dev.reel_raise (s i j : Nat) : (d.raise s i).reel j = d.reel j := by simp [Dev.reel]

/-! ### enc -/

@[simp] theorem Dev.enc_setReg (a : Nat) (w : Word) (j : Nat) : (d.setReg a w).enc j = d.enc j := rfl
@[simp] theorem Dev.enc_answer (x : Access) (j : Nat) : (d.answer x).enc j = d.enc j := rfl
@[simp] theorem Dev.enc_modCr (f : CoreSt → CoreSt) (j : Nat) : (d.modCr f).enc j = d.enc j := rfl
@[simp] theorem Dev.enc_modPt (f : PortSt → PortSt) (j : Nat) : (d.modPt f).enc j = d.enc j := rfl
@[simp] theorem Dev.enc_modSn (f : SnarlSt → SnarlSt) (j : Nat) : (d.modSn f).enc j = d.enc j := rfl
@[simp] theorem Dev.enc_modPl (f : PolicySt → PolicySt) (j : Nat) : (d.modPl f).enc j = d.enc j := rfl
@[simp] theorem Dev.enc_modSu (f : SupplySt → SupplySt) (j : Nat) : (d.modSu f).enc j = d.enc j := rfl
@[simp] theorem Dev.enc_modFl (f : FlashSt → FlashSt) (j : Nat) : (d.modFl f).enc j = d.enc j := rfl
@[simp] theorem Dev.enc_modSv (f : SessionSt → SessionSt) (j : Nat) : (d.modSv f).enc j = d.enc j := rfl
@[simp] theorem Dev.enc_modLk (f : LinkSt → LinkSt) (j : Nat) : (d.modLk f).enc j = d.enc j := rfl
@[simp] theorem Dev.enc_setHank (k : Nat) (u : Hank) (j : Nat) : (d.setHank k u).enc j = d.enc j := rfl
@[simp] theorem Dev.enc_setLane (k : Nat) (u : Lane) (j : Nat) : (d.setLane k u).enc j = d.enc j := rfl
@[simp] theorem Dev.enc_setSdm (k : Nat) (u : Sdm) (j : Nat) : (d.setSdm k u).enc j = d.enc j := rfl
@[simp] theorem Dev.enc_setSpn (k : Nat) (u : Spindle) (j : Nat) : (d.setSpn k u).enc j = d.enc j := rfl
@[simp] theorem Dev.enc_setLoop (k : Nat) (u : Loop) (j : Nat) : (d.setLoop k u).enc j = d.enc j := rfl
@[simp] theorem Dev.enc_setBob (k : Nat) (u : Bobbin) (j : Nat) : (d.setBob k u).enc j = d.enc j := rfl
@[simp] theorem Dev.enc_setTb (k : Nat) (u : Timebase) (j : Nat) : (d.setTb k u).enc j = d.enc j := rfl
@[simp] theorem Dev.enc_setWhorl (k : Nat) (u : Whorl) (j : Nat) : (d.setWhorl k u).enc j = d.enc j := rfl
@[simp] theorem Dev.enc_setPort (k : Nat) (u : Port) (j : Nat) : (d.setPort k u).enc j = d.enc j := rfl
@[simp] theorem Dev.enc_setReel (k : Nat) (u : Reel) (j : Nat) : (d.setReel k u).enc j = d.enc j := rfl
theorem Dev.enc_setEnc (i j : Nat) (u : Encoder) : (d.setEnc i u).enc j = if j = i then u else d.enc j :=
  smGet_smSet _ _ i j u

@[simp] theorem Dev.enc_setEnc_same (i : Nat) (u : Encoder) : (d.setEnc i u).enc i = u :=
  smGet_smSet_same _ _ i u

@[simp] theorem Dev.enc_setHall (k : Nat) (u : Hall) (j : Nat) : (d.setHall k u).enc j = d.enc j := rfl
@[simp] theorem Dev.enc_setExc (k : Nat) (u : Excite) (j : Nat) : (d.setExc k u).enc j = d.enc j := rfl
@[simp] theorem Dev.enc_setFn (k : Nat) (u : Fn) (j : Nat) : (d.setFn k u).enc j = d.enc j := rfl
@[simp] theorem Dev.enc_setLink (k : Nat) (u : Link) (j : Nat) : (d.setLink k u).enc j = d.enc j := rfl
@[simp] theorem Dev.enc_setSnlCnt (k : Nat) (u : SnlCnt) (j : Nat) : (d.setSnlCnt k u).enc j = d.enc j := rfl
@[simp] theorem Dev.enc_raise (s i j : Nat) : (d.raise s i).enc j = d.enc j := by simp [Dev.enc]

/-! ### hall -/

@[simp] theorem Dev.hall_setReg (a : Nat) (w : Word) (j : Nat) : (d.setReg a w).hall j = d.hall j := rfl
@[simp] theorem Dev.hall_answer (x : Access) (j : Nat) : (d.answer x).hall j = d.hall j := rfl
@[simp] theorem Dev.hall_modCr (f : CoreSt → CoreSt) (j : Nat) : (d.modCr f).hall j = d.hall j := rfl
@[simp] theorem Dev.hall_modPt (f : PortSt → PortSt) (j : Nat) : (d.modPt f).hall j = d.hall j := rfl
@[simp] theorem Dev.hall_modSn (f : SnarlSt → SnarlSt) (j : Nat) : (d.modSn f).hall j = d.hall j := rfl
@[simp] theorem Dev.hall_modPl (f : PolicySt → PolicySt) (j : Nat) : (d.modPl f).hall j = d.hall j := rfl
@[simp] theorem Dev.hall_modSu (f : SupplySt → SupplySt) (j : Nat) : (d.modSu f).hall j = d.hall j := rfl
@[simp] theorem Dev.hall_modFl (f : FlashSt → FlashSt) (j : Nat) : (d.modFl f).hall j = d.hall j := rfl
@[simp] theorem Dev.hall_modSv (f : SessionSt → SessionSt) (j : Nat) : (d.modSv f).hall j = d.hall j := rfl
@[simp] theorem Dev.hall_modLk (f : LinkSt → LinkSt) (j : Nat) : (d.modLk f).hall j = d.hall j := rfl
@[simp] theorem Dev.hall_setHank (k : Nat) (u : Hank) (j : Nat) : (d.setHank k u).hall j = d.hall j := rfl
@[simp] theorem Dev.hall_setLane (k : Nat) (u : Lane) (j : Nat) : (d.setLane k u).hall j = d.hall j := rfl
@[simp] theorem Dev.hall_setSdm (k : Nat) (u : Sdm) (j : Nat) : (d.setSdm k u).hall j = d.hall j := rfl
@[simp] theorem Dev.hall_setSpn (k : Nat) (u : Spindle) (j : Nat) : (d.setSpn k u).hall j = d.hall j := rfl
@[simp] theorem Dev.hall_setLoop (k : Nat) (u : Loop) (j : Nat) : (d.setLoop k u).hall j = d.hall j := rfl
@[simp] theorem Dev.hall_setBob (k : Nat) (u : Bobbin) (j : Nat) : (d.setBob k u).hall j = d.hall j := rfl
@[simp] theorem Dev.hall_setTb (k : Nat) (u : Timebase) (j : Nat) : (d.setTb k u).hall j = d.hall j := rfl
@[simp] theorem Dev.hall_setWhorl (k : Nat) (u : Whorl) (j : Nat) : (d.setWhorl k u).hall j = d.hall j := rfl
@[simp] theorem Dev.hall_setPort (k : Nat) (u : Port) (j : Nat) : (d.setPort k u).hall j = d.hall j := rfl
@[simp] theorem Dev.hall_setReel (k : Nat) (u : Reel) (j : Nat) : (d.setReel k u).hall j = d.hall j := rfl
@[simp] theorem Dev.hall_setEnc (k : Nat) (u : Encoder) (j : Nat) : (d.setEnc k u).hall j = d.hall j := rfl
theorem Dev.hall_setHall (i j : Nat) (u : Hall) : (d.setHall i u).hall j = if j = i then u else d.hall j :=
  smGet_smSet _ _ i j u

@[simp] theorem Dev.hall_setHall_same (i : Nat) (u : Hall) : (d.setHall i u).hall i = u :=
  smGet_smSet_same _ _ i u

@[simp] theorem Dev.hall_setExc (k : Nat) (u : Excite) (j : Nat) : (d.setExc k u).hall j = d.hall j := rfl
@[simp] theorem Dev.hall_setFn (k : Nat) (u : Fn) (j : Nat) : (d.setFn k u).hall j = d.hall j := rfl
@[simp] theorem Dev.hall_setLink (k : Nat) (u : Link) (j : Nat) : (d.setLink k u).hall j = d.hall j := rfl
@[simp] theorem Dev.hall_setSnlCnt (k : Nat) (u : SnlCnt) (j : Nat) : (d.setSnlCnt k u).hall j = d.hall j := rfl
@[simp] theorem Dev.hall_raise (s i j : Nat) : (d.raise s i).hall j = d.hall j := by simp [Dev.hall]

/-! ### exc -/

@[simp] theorem Dev.exc_setReg (a : Nat) (w : Word) (j : Nat) : (d.setReg a w).exc j = d.exc j := rfl
@[simp] theorem Dev.exc_answer (x : Access) (j : Nat) : (d.answer x).exc j = d.exc j := rfl
@[simp] theorem Dev.exc_modCr (f : CoreSt → CoreSt) (j : Nat) : (d.modCr f).exc j = d.exc j := rfl
@[simp] theorem Dev.exc_modPt (f : PortSt → PortSt) (j : Nat) : (d.modPt f).exc j = d.exc j := rfl
@[simp] theorem Dev.exc_modSn (f : SnarlSt → SnarlSt) (j : Nat) : (d.modSn f).exc j = d.exc j := rfl
@[simp] theorem Dev.exc_modPl (f : PolicySt → PolicySt) (j : Nat) : (d.modPl f).exc j = d.exc j := rfl
@[simp] theorem Dev.exc_modSu (f : SupplySt → SupplySt) (j : Nat) : (d.modSu f).exc j = d.exc j := rfl
@[simp] theorem Dev.exc_modFl (f : FlashSt → FlashSt) (j : Nat) : (d.modFl f).exc j = d.exc j := rfl
@[simp] theorem Dev.exc_modSv (f : SessionSt → SessionSt) (j : Nat) : (d.modSv f).exc j = d.exc j := rfl
@[simp] theorem Dev.exc_modLk (f : LinkSt → LinkSt) (j : Nat) : (d.modLk f).exc j = d.exc j := rfl
@[simp] theorem Dev.exc_setHank (k : Nat) (u : Hank) (j : Nat) : (d.setHank k u).exc j = d.exc j := rfl
@[simp] theorem Dev.exc_setLane (k : Nat) (u : Lane) (j : Nat) : (d.setLane k u).exc j = d.exc j := rfl
@[simp] theorem Dev.exc_setSdm (k : Nat) (u : Sdm) (j : Nat) : (d.setSdm k u).exc j = d.exc j := rfl
@[simp] theorem Dev.exc_setSpn (k : Nat) (u : Spindle) (j : Nat) : (d.setSpn k u).exc j = d.exc j := rfl
@[simp] theorem Dev.exc_setLoop (k : Nat) (u : Loop) (j : Nat) : (d.setLoop k u).exc j = d.exc j := rfl
@[simp] theorem Dev.exc_setBob (k : Nat) (u : Bobbin) (j : Nat) : (d.setBob k u).exc j = d.exc j := rfl
@[simp] theorem Dev.exc_setTb (k : Nat) (u : Timebase) (j : Nat) : (d.setTb k u).exc j = d.exc j := rfl
@[simp] theorem Dev.exc_setWhorl (k : Nat) (u : Whorl) (j : Nat) : (d.setWhorl k u).exc j = d.exc j := rfl
@[simp] theorem Dev.exc_setPort (k : Nat) (u : Port) (j : Nat) : (d.setPort k u).exc j = d.exc j := rfl
@[simp] theorem Dev.exc_setReel (k : Nat) (u : Reel) (j : Nat) : (d.setReel k u).exc j = d.exc j := rfl
@[simp] theorem Dev.exc_setEnc (k : Nat) (u : Encoder) (j : Nat) : (d.setEnc k u).exc j = d.exc j := rfl
@[simp] theorem Dev.exc_setHall (k : Nat) (u : Hall) (j : Nat) : (d.setHall k u).exc j = d.exc j := rfl
theorem Dev.exc_setExc (i j : Nat) (u : Excite) : (d.setExc i u).exc j = if j = i then u else d.exc j :=
  smGet_smSet _ _ i j u

@[simp] theorem Dev.exc_setExc_same (i : Nat) (u : Excite) : (d.setExc i u).exc i = u :=
  smGet_smSet_same _ _ i u

@[simp] theorem Dev.exc_setFn (k : Nat) (u : Fn) (j : Nat) : (d.setFn k u).exc j = d.exc j := rfl
@[simp] theorem Dev.exc_setLink (k : Nat) (u : Link) (j : Nat) : (d.setLink k u).exc j = d.exc j := rfl
@[simp] theorem Dev.exc_setSnlCnt (k : Nat) (u : SnlCnt) (j : Nat) : (d.setSnlCnt k u).exc j = d.exc j := rfl
@[simp] theorem Dev.exc_raise (s i j : Nat) : (d.raise s i).exc j = d.exc j := by simp [Dev.exc]

/-! ### fn -/

@[simp] theorem Dev.fn_setReg (a : Nat) (w : Word) (j : Nat) : (d.setReg a w).fn j = d.fn j := rfl
@[simp] theorem Dev.fn_answer (x : Access) (j : Nat) : (d.answer x).fn j = d.fn j := rfl
@[simp] theorem Dev.fn_modCr (f : CoreSt → CoreSt) (j : Nat) : (d.modCr f).fn j = d.fn j := rfl
@[simp] theorem Dev.fn_modPt (f : PortSt → PortSt) (j : Nat) : (d.modPt f).fn j = d.fn j := rfl
@[simp] theorem Dev.fn_modSn (f : SnarlSt → SnarlSt) (j : Nat) : (d.modSn f).fn j = d.fn j := rfl
@[simp] theorem Dev.fn_modSu (f : SupplySt → SupplySt) (j : Nat) : (d.modSu f).fn j = d.fn j := rfl
@[simp] theorem Dev.fn_modFl (f : FlashSt → FlashSt) (j : Nat) : (d.modFl f).fn j = d.fn j := rfl
@[simp] theorem Dev.fn_modSv (f : SessionSt → SessionSt) (j : Nat) : (d.modSv f).fn j = d.fn j := rfl
@[simp] theorem Dev.fn_modLk (f : LinkSt → LinkSt) (j : Nat) : (d.modLk f).fn j = d.fn j := rfl
@[simp] theorem Dev.fn_setHank (k : Nat) (u : Hank) (j : Nat) : (d.setHank k u).fn j = d.fn j := rfl
@[simp] theorem Dev.fn_setLane (k : Nat) (u : Lane) (j : Nat) : (d.setLane k u).fn j = d.fn j := rfl
@[simp] theorem Dev.fn_setSdm (k : Nat) (u : Sdm) (j : Nat) : (d.setSdm k u).fn j = d.fn j := rfl
@[simp] theorem Dev.fn_setSpn (k : Nat) (u : Spindle) (j : Nat) : (d.setSpn k u).fn j = d.fn j := rfl
@[simp] theorem Dev.fn_setLoop (k : Nat) (u : Loop) (j : Nat) : (d.setLoop k u).fn j = d.fn j := rfl
@[simp] theorem Dev.fn_setBob (k : Nat) (u : Bobbin) (j : Nat) : (d.setBob k u).fn j = d.fn j := rfl
@[simp] theorem Dev.fn_setTb (k : Nat) (u : Timebase) (j : Nat) : (d.setTb k u).fn j = d.fn j := rfl
@[simp] theorem Dev.fn_setWhorl (k : Nat) (u : Whorl) (j : Nat) : (d.setWhorl k u).fn j = d.fn j := rfl
@[simp] theorem Dev.fn_setPort (k : Nat) (u : Port) (j : Nat) : (d.setPort k u).fn j = d.fn j := rfl
@[simp] theorem Dev.fn_setReel (k : Nat) (u : Reel) (j : Nat) : (d.setReel k u).fn j = d.fn j := rfl
@[simp] theorem Dev.fn_setEnc (k : Nat) (u : Encoder) (j : Nat) : (d.setEnc k u).fn j = d.fn j := rfl
@[simp] theorem Dev.fn_setHall (k : Nat) (u : Hall) (j : Nat) : (d.setHall k u).fn j = d.fn j := rfl
@[simp] theorem Dev.fn_setExc (k : Nat) (u : Excite) (j : Nat) : (d.setExc k u).fn j = d.fn j := rfl
theorem Dev.fn_setFn (i j : Nat) (u : Fn) : (d.setFn i u).fn j = if j = i then u else d.fn j :=
  smGet_smSet _ _ i j u

@[simp] theorem Dev.fn_setFn_same (i : Nat) (u : Fn) : (d.setFn i u).fn i = u :=
  smGet_smSet_same _ _ i u

@[simp] theorem Dev.fn_setLink (k : Nat) (u : Link) (j : Nat) : (d.setLink k u).fn j = d.fn j := rfl
@[simp] theorem Dev.fn_setSnlCnt (k : Nat) (u : SnlCnt) (j : Nat) : (d.setSnlCnt k u).fn j = d.fn j := rfl
@[simp] theorem Dev.fn_raise (s i j : Nat) : (d.raise s i).fn j = d.fn j := by simp [Dev.fn]

/-! ### link -/

@[simp] theorem Dev.link_setReg (a : Nat) (w : Word) (j : Nat) : (d.setReg a w).link j = d.link j := rfl
@[simp] theorem Dev.link_answer (x : Access) (j : Nat) : (d.answer x).link j = d.link j := rfl
@[simp] theorem Dev.link_modCr (f : CoreSt → CoreSt) (j : Nat) : (d.modCr f).link j = d.link j := rfl
@[simp] theorem Dev.link_modPt (f : PortSt → PortSt) (j : Nat) : (d.modPt f).link j = d.link j := rfl
@[simp] theorem Dev.link_modSn (f : SnarlSt → SnarlSt) (j : Nat) : (d.modSn f).link j = d.link j := rfl
@[simp] theorem Dev.link_modPl (f : PolicySt → PolicySt) (j : Nat) : (d.modPl f).link j = d.link j := rfl
@[simp] theorem Dev.link_modSu (f : SupplySt → SupplySt) (j : Nat) : (d.modSu f).link j = d.link j := rfl
@[simp] theorem Dev.link_modFl (f : FlashSt → FlashSt) (j : Nat) : (d.modFl f).link j = d.link j := rfl
@[simp] theorem Dev.link_modSv (f : SessionSt → SessionSt) (j : Nat) : (d.modSv f).link j = d.link j := rfl
@[simp] theorem Dev.link_setHank (k : Nat) (u : Hank) (j : Nat) : (d.setHank k u).link j = d.link j := rfl
@[simp] theorem Dev.link_setLane (k : Nat) (u : Lane) (j : Nat) : (d.setLane k u).link j = d.link j := rfl
@[simp] theorem Dev.link_setSdm (k : Nat) (u : Sdm) (j : Nat) : (d.setSdm k u).link j = d.link j := rfl
@[simp] theorem Dev.link_setSpn (k : Nat) (u : Spindle) (j : Nat) : (d.setSpn k u).link j = d.link j := rfl
@[simp] theorem Dev.link_setLoop (k : Nat) (u : Loop) (j : Nat) : (d.setLoop k u).link j = d.link j := rfl
@[simp] theorem Dev.link_setBob (k : Nat) (u : Bobbin) (j : Nat) : (d.setBob k u).link j = d.link j := rfl
@[simp] theorem Dev.link_setTb (k : Nat) (u : Timebase) (j : Nat) : (d.setTb k u).link j = d.link j := rfl
@[simp] theorem Dev.link_setWhorl (k : Nat) (u : Whorl) (j : Nat) : (d.setWhorl k u).link j = d.link j := rfl
@[simp] theorem Dev.link_setPort (k : Nat) (u : Port) (j : Nat) : (d.setPort k u).link j = d.link j := rfl
@[simp] theorem Dev.link_setReel (k : Nat) (u : Reel) (j : Nat) : (d.setReel k u).link j = d.link j := rfl
@[simp] theorem Dev.link_setEnc (k : Nat) (u : Encoder) (j : Nat) : (d.setEnc k u).link j = d.link j := rfl
@[simp] theorem Dev.link_setHall (k : Nat) (u : Hall) (j : Nat) : (d.setHall k u).link j = d.link j := rfl
@[simp] theorem Dev.link_setExc (k : Nat) (u : Excite) (j : Nat) : (d.setExc k u).link j = d.link j := rfl
@[simp] theorem Dev.link_setFn (k : Nat) (u : Fn) (j : Nat) : (d.setFn k u).link j = d.link j := rfl
theorem Dev.link_setLink (i j : Nat) (u : Link) : (d.setLink i u).link j = if j = i then u else d.link j :=
  smGet_smSet _ _ i j u

@[simp] theorem Dev.link_setLink_same (i : Nat) (u : Link) : (d.setLink i u).link i = u :=
  smGet_smSet_same _ _ i u

@[simp] theorem Dev.link_setSnlCnt (k : Nat) (u : SnlCnt) (j : Nat) : (d.setSnlCnt k u).link j = d.link j := rfl
@[simp] theorem Dev.link_raise (s i j : Nat) : (d.raise s i).link j = d.link j := by simp [Dev.link]

/-! ### snlCnt -/

@[simp] theorem Dev.snlCnt_setReg (a : Nat) (w : Word) (j : Nat) : (d.setReg a w).snlCnt j = d.snlCnt j := rfl
@[simp] theorem Dev.snlCnt_answer (x : Access) (j : Nat) : (d.answer x).snlCnt j = d.snlCnt j := rfl
@[simp] theorem Dev.snlCnt_modCr (f : CoreSt → CoreSt) (j : Nat) : (d.modCr f).snlCnt j = d.snlCnt j := rfl
@[simp] theorem Dev.snlCnt_modPt (f : PortSt → PortSt) (j : Nat) : (d.modPt f).snlCnt j = d.snlCnt j := rfl
@[simp] theorem Dev.snlCnt_modPl (f : PolicySt → PolicySt) (j : Nat) : (d.modPl f).snlCnt j = d.snlCnt j := rfl
@[simp] theorem Dev.snlCnt_modSu (f : SupplySt → SupplySt) (j : Nat) : (d.modSu f).snlCnt j = d.snlCnt j := rfl
@[simp] theorem Dev.snlCnt_modFl (f : FlashSt → FlashSt) (j : Nat) : (d.modFl f).snlCnt j = d.snlCnt j := rfl
@[simp] theorem Dev.snlCnt_modSv (f : SessionSt → SessionSt) (j : Nat) : (d.modSv f).snlCnt j = d.snlCnt j := rfl
@[simp] theorem Dev.snlCnt_modLk (f : LinkSt → LinkSt) (j : Nat) : (d.modLk f).snlCnt j = d.snlCnt j := rfl
@[simp] theorem Dev.snlCnt_setHank (k : Nat) (u : Hank) (j : Nat) : (d.setHank k u).snlCnt j = d.snlCnt j := rfl
@[simp] theorem Dev.snlCnt_setLane (k : Nat) (u : Lane) (j : Nat) : (d.setLane k u).snlCnt j = d.snlCnt j := rfl
@[simp] theorem Dev.snlCnt_setSdm (k : Nat) (u : Sdm) (j : Nat) : (d.setSdm k u).snlCnt j = d.snlCnt j := rfl
@[simp] theorem Dev.snlCnt_setSpn (k : Nat) (u : Spindle) (j : Nat) : (d.setSpn k u).snlCnt j = d.snlCnt j := rfl
@[simp] theorem Dev.snlCnt_setLoop (k : Nat) (u : Loop) (j : Nat) : (d.setLoop k u).snlCnt j = d.snlCnt j := rfl
@[simp] theorem Dev.snlCnt_setBob (k : Nat) (u : Bobbin) (j : Nat) : (d.setBob k u).snlCnt j = d.snlCnt j := rfl
@[simp] theorem Dev.snlCnt_setTb (k : Nat) (u : Timebase) (j : Nat) : (d.setTb k u).snlCnt j = d.snlCnt j := rfl
@[simp] theorem Dev.snlCnt_setWhorl (k : Nat) (u : Whorl) (j : Nat) : (d.setWhorl k u).snlCnt j = d.snlCnt j := rfl
@[simp] theorem Dev.snlCnt_setPort (k : Nat) (u : Port) (j : Nat) : (d.setPort k u).snlCnt j = d.snlCnt j := rfl
@[simp] theorem Dev.snlCnt_setReel (k : Nat) (u : Reel) (j : Nat) : (d.setReel k u).snlCnt j = d.snlCnt j := rfl
@[simp] theorem Dev.snlCnt_setEnc (k : Nat) (u : Encoder) (j : Nat) : (d.setEnc k u).snlCnt j = d.snlCnt j := rfl
@[simp] theorem Dev.snlCnt_setHall (k : Nat) (u : Hall) (j : Nat) : (d.setHall k u).snlCnt j = d.snlCnt j := rfl
@[simp] theorem Dev.snlCnt_setExc (k : Nat) (u : Excite) (j : Nat) : (d.setExc k u).snlCnt j = d.snlCnt j := rfl
@[simp] theorem Dev.snlCnt_setFn (k : Nat) (u : Fn) (j : Nat) : (d.setFn k u).snlCnt j = d.snlCnt j := rfl
@[simp] theorem Dev.snlCnt_setLink (k : Nat) (u : Link) (j : Nat) : (d.setLink k u).snlCnt j = d.snlCnt j := rfl
theorem Dev.snlCnt_setSnlCnt (i j : Nat) (u : SnlCnt) : (d.setSnlCnt i u).snlCnt j = if j = i then u else d.snlCnt j :=
  smGet_smSet _ _ i j u

@[simp] theorem Dev.snlCnt_setSnlCnt_same (i : Nat) (u : SnlCnt) : (d.setSnlCnt i u).snlCnt i = u :=
  smGet_smSet_same _ _ i u

@[simp] theorem Dev.snlCnt_raise (s i j : Nat) : (d.raise s i).snlCnt j = d.snlCnt j := by simp [Dev.snlCnt]

end Sys2Proof.Machine
end

