-- ==== Sys2Proof/Laws/Regs.lean ====
section
/-! SUPPORT. Bit fields and registers: a field written is read back cut to its width, every other bit and every other
register stand; the registers keep their canonical form. -/

namespace Sys2Proof.Machine

/-! ### Bits of words -/

theorem bitOf_eq (w : Word) (i : Nat) : bitOf w i = w.getLsbD i := rfl

theorem testBit_bitsOf (w : Word) (hi lo j : Nat) :
    (bitsOf w hi lo).testBit j = (decide (j < hi + 1 - lo) && bitOf w (lo + j)) := by
  simp [bitsOf, bitOf, Nat.testBit_mod_two_pow, Nat.testBit_shiftRight]

/-- Two fields with the same bits are the same number. -/
theorem bitsOf_congr (w x : Word) (hi lo : Nat) (h : ∀ i, lo ≤ i → i ≤ hi → bitOf w i = bitOf x i) :
    bitsOf w hi lo = bitsOf x hi lo := by
  apply Nat.eq_of_testBit_eq
  intro j
  rw [testBit_bitsOf, testBit_bitsOf]
  by_cases hj : j < hi + 1 - lo
  · rw [h (lo + j) (by omega) (by omega)]
  · simp [hj]

theorem bitOf_putBits (w : Word) (hi lo v i : Nat) (hi32 : hi < 32) (hlo : lo ≤ hi) :
    bitOf (putBits w hi lo v) i = if lo ≤ i ∧ i ≤ hi then v.testBit (i - lo) else bitOf w i := by
  unfold putBits maskOf
  simp only [bitOf_eq, BitVec.getLsbD_or, BitVec.getLsbD_and, BitVec.getLsbD_not, BitVec.getLsbD_ofNat,
    Nat.testBit_shiftLeft, Nat.testBit_two_pow_sub_one, Nat.testBit_mod_two_pow]
  by_cases h32 : i < 32
  · by_cases h1 : lo ≤ i
    · by_cases h2 : i ≤ hi
      · have : i - lo < hi + 1 - lo := by omega
        simp [h32, h1, h2, this]
      · have : ¬ i - lo < hi + 1 - lo := by omega
        simp [h32, h1, h2, this]
    · simp [h32, h1]
  · have h2 : ¬ i ≤ hi := by omega
    have : w.getLsbD i = false := BitVec.getLsbD_of_ge w i (by omega)
    simp [h32, h2, this]

theorem bitOf_putBit (w : Word) (i j : Nat) (b : Bool) (hi : i < 32) :
    bitOf (putBit w i b) j = if j = i then b else bitOf w j := by
  unfold putBit
  rw [bitOf_putBits _ _ _ _ _ hi (le_refl i)]
  by_cases h : j = i
  · subst h; cases b <;> simp
  · have : ¬ (i ≤ j ∧ j ≤ i) := by omega
    simp [h, this]

theorem bitsOf_putBits_same (w : Word) (hi lo v : Nat) (hi32 : hi < 32) (hlo : lo ≤ hi) :
    bitsOf (putBits w hi lo v) hi lo = v % 2 ^ (hi + 1 - lo) := by
  apply Nat.eq_of_testBit_eq
  intro j
  rw [testBit_bitsOf, bitOf_putBits _ _ _ _ _ hi32 hlo, Nat.testBit_mod_two_pow]
  by_cases hj : j < hi + 1 - lo
  · have : lo ≤ lo + j ∧ lo + j ≤ hi := by omega
    simp [hj, this]
  · simp [hj]

theorem bitsOf_putBits_other (w : Word) (hi lo v h2 l2 : Nat) (hi32 : hi < 32) (hlo : lo ≤ hi)
    (hd : h2 < lo ∨ hi < l2) : bitsOf (putBits w hi lo v) h2 l2 = bitsOf w h2 l2 := by
  apply bitsOf_congr
  intro i h1 h3
  rw [bitOf_putBits _ _ _ _ _ hi32 hlo]
  have : ¬ (lo ≤ i ∧ i ≤ hi) := by omega
  simp [this]

theorem bitsOf_putBit_other (w : Word) (i : Nat) (b : Bool) (hi lo : Nat) (h32 : i < 32) (hd : hi < i ∨ i < lo) :
    bitsOf (putBit w i b) hi lo = bitsOf w hi lo :=
  bitsOf_putBits_other w i i _ hi lo h32 (le_refl i) hd

theorem bitOf_or (w x : Word) (i : Nat) : bitOf (w ||| x) i = (bitOf w i || bitOf x i) := by simp [bitOf_eq]

theorem bitsOf_lt (w : Word) (hi lo : Nat) : bitsOf w hi lo < 2 ^ (hi + 1 - lo) := Nat.mod_lt _ (Nat.two_pow_pos _)

/-! ### Registers by address -/

variable (d : Dev)

theorem Dev.reg_setReg (a j : Nat) (w : Word) : (d.setReg a w).reg j = if j = a then w else d.reg j :=
  smGet_smSet _ _ a j w

@[simp] theorem Dev.reg_setReg_same (a : Nat) (w : Word) : (d.setReg a w).reg a = w := smGet_smSet_same _ _ a w

theorem Dev.reg_setReg_other {a j : Nat} (w : Word) (h : j ≠ a) : (d.setReg a w).reg j = d.reg j :=
  smGet_smSet_other _ _ w h

@[simp] theorem Dev.reg_answer (x : Access) (j : Nat) : (d.answer x).reg j = d.reg j := rfl
@[simp] theorem Dev.reg_raise (s i j : Nat) : (d.raise s i).reg j = d.reg j := by simp [Dev.reg]
@[simp] theorem Dev.reg_modCr (f : CoreSt → CoreSt) (j : Nat) : (d.modCr f).reg j = d.reg j := rfl
@[simp] theorem Dev.reg_modPt (f : PortSt → PortSt) (j : Nat) : (d.modPt f).reg j = d.reg j := rfl
@[simp] theorem Dev.reg_modSn (f : SnarlSt → SnarlSt) (j : Nat) : (d.modSn f).reg j = d.reg j := rfl
@[simp] theorem Dev.reg_modPl (f : PolicySt → PolicySt) (j : Nat) : (d.modPl f).reg j = d.reg j := rfl
@[simp] theorem Dev.reg_modSu (f : SupplySt → SupplySt) (j : Nat) : (d.modSu f).reg j = d.reg j := rfl
@[simp] theorem Dev.reg_modFl (f : FlashSt → FlashSt) (j : Nat) : (d.modFl f).reg j = d.reg j := rfl
@[simp] theorem Dev.reg_modSv (f : SessionSt → SessionSt) (j : Nat) : (d.modSv f).reg j = d.reg j := rfl
@[simp] theorem Dev.reg_modLk (f : LinkSt → LinkSt) (j : Nat) : (d.modLk f).reg j = d.reg j := rfl
@[simp] theorem Dev.reg_setHank (i : Nat) (u : Hank) (j : Nat) : (d.setHank i u).reg j = d.reg j := rfl
@[simp] theorem Dev.reg_setLane (i : Nat) (u : Lane) (j : Nat) : (d.setLane i u).reg j = d.reg j := rfl
@[simp] theorem Dev.reg_setSdm (i : Nat) (u : Sdm) (j : Nat) : (d.setSdm i u).reg j = d.reg j := rfl
@[simp] theorem Dev.reg_setSpn (i : Nat) (u : Spindle) (j : Nat) : (d.setSpn i u).reg j = d.reg j := rfl
@[simp] theorem Dev.reg_setLoop (i : Nat) (u : Loop) (j : Nat) : (d.setLoop i u).reg j = d.reg j := rfl
@[simp] theorem Dev.reg_setBob (i : Nat) (u : Bobbin) (j : Nat) : (d.setBob i u).reg j = d.reg j := rfl
@[simp] theorem Dev.reg_setTb (i : Nat) (u : Timebase) (j : Nat) : (d.setTb i u).reg j = d.reg j := rfl
@[simp] theorem Dev.reg_setWhorl (i : Nat) (u : Whorl) (j : Nat) : (d.setWhorl i u).reg j = d.reg j := rfl
@[simp] theorem Dev.reg_setPort (i : Nat) (u : Port) (j : Nat) : (d.setPort i u).reg j = d.reg j := rfl
@[simp] theorem Dev.reg_setReel (i : Nat) (u : Reel) (j : Nat) : (d.setReel i u).reg j = d.reg j := rfl
@[simp] theorem Dev.reg_setEnc (i : Nat) (u : Encoder) (j : Nat) : (d.setEnc i u).reg j = d.reg j := rfl
@[simp] theorem Dev.reg_setHall (i : Nat) (u : Hall) (j : Nat) : (d.setHall i u).reg j = d.reg j := rfl
@[simp] theorem Dev.reg_setExc (i : Nat) (u : Excite) (j : Nat) : (d.setExc i u).reg j = d.reg j := rfl
@[simp] theorem Dev.reg_setFn (i : Nat) (u : Fn) (j : Nat) : (d.setFn i u).reg j = d.reg j := rfl
@[simp] theorem Dev.reg_setLink (i : Nat) (u : Link) (j : Nat) : (d.setLink i u).reg j = d.reg j := rfl
@[simp] theorem Dev.reg_setSnlCnt (i : Nat) (u : SnlCnt) (j : Nat) : (d.setSnlCnt i u).reg j = d.reg j := rfl

/-- A field written is read back, cut to its width. -/
theorem Dev.fld_setFld (a hi lo v : Nat) (h1 : hi < 32) (h2 : lo ≤ hi) :
    (d.setFld a hi lo v).fld a hi lo = v % 2 ^ (hi + 1 - lo) := by
  simp [Dev.fld, Dev.setFld, bitsOf_putBits_same _ _ _ _ h1 h2]

theorem Dev.fld_setFld_other (a hi lo v h l : Nat) (h1 : hi < 32) (h2 : lo ≤ hi) (hd : h < lo ∨ hi < l) :
    (d.setFld a hi lo v).fld a h l = d.fld a h l := by
  simp [Dev.fld, Dev.setFld, bitsOf_putBits_other _ _ _ _ _ _ h1 h2 hd]

theorem Dev.reg_setFld_other {a j : Nat} (hi lo v : Nat) (h : j ≠ a) : (d.setFld a hi lo v).reg j = d.reg j :=
  Dev.reg_setReg_other d _ h

/-- A bit written is read back; every other bit stands. -/
theorem Dev.rbit_setRbit (a i j : Nat) (b : Bool) (hi : i < 32) :
    (d.setRbit a i b).rbit a j = if j = i then b else d.rbit a j := by
  simp [Dev.rbit, Dev.setRbit, bitOf_putBit _ _ _ _ hi]

theorem Dev.reg_setRbit_other {a j : Nat} (i : Nat) (b : Bool) (h : j ≠ a) : (d.setRbit a i b).reg j = d.reg j :=
  Dev.reg_setReg_other d _ h

theorem Dev.rbit_orReg (a i : Nat) (m : Word) : (d.orReg a m).rbit a i = (d.rbit a i || bitOf m i) := by
  simp [Dev.rbit, Dev.orReg, bitOf_or]

/-- Writing a register keeps the registers canonical. -/
theorem Dev.regs_wf_setReg (a : Nat) (w : Word) (h : smWf resetWord d.regs) : smWf resetWord (d.setReg a w).regs :=
  smWf_smSet _ _ a w h

end Sys2Proof.Machine
end

