-- ==== Sys2Proof/Laws/Gwyn.lean ====
section
/-! SUPPORT. What running one GWYN instruction does: its four outcomes, said once, and how the registers of a core read
after each named write. -/

namespace Sys2Proof.Machine

variable (d e : Dev) (c : Core)

/-! ### Outcomes -/

variable {d e c}

theorem Dev.issue_eq {i : Instr} {prof : Profile} {ill : Bool} {f : Dev → Eff} (h : d.executes c i) :
    d.issue c i prof ill f = Dev.finish c ((encode i).getD 0) (d.effect c i prof ill f) := by
  obtain ⟨h1, h2, -, -⟩ := h
  simp [Dev.issue, h1, h2]

theorem Dev.effect_eq {i : Instr} {prof : Profile} {f : Dev → Eff} (h : d.executes c i) (hp : prof.has c = true) :
    d.effect c i prof false f = if d.leaves c i (f d) then .trap d 1 none else f d := by
  obtain ⟨-, -, -, h4⟩ := h
  cases c with
  | spn p => simp [Dev.effect, hp, Dev.fetchProt]
  | bob b => simp [Dev.effect, hp, Dev.fetchProt, h4 b rfl]

/-- An effect that stays in the program. -/
theorem Dev.leaves_eq {i : Instr} {x : Eff} (h : d.executes c i) :
    d.leaves c i x = match x with
      | .jump _ t => !d.mayExec c t
      | .trap _ cause _ => decide (cause = 1) && transfers i
      | _ => false := by
  obtain ⟨-, -, h3, -⟩ := h
  cases x <;> simp [Dev.leaves, h3]

/-- An instruction that completes: the next one follows. -/
theorem Dev.issue_next {i : Instr} {prof : Profile} {f : Dev → Eff} (h : d.executes c i) (hp : prof.has c = true)
    (hf : f d = .next e) (ha : e.alive c = true) : d.issue c i prof false f = e.setPc c (e.pcOf c + 4) := by
  rw [Dev.issue_eq h, Dev.effect_eq h hp, Dev.leaves_eq h, hf]
  simp [Dev.finish, ha]

/-- An instruction that transfers control. -/
theorem Dev.issue_jump {i : Instr} {prof : Profile} {f : Dev → Eff} {t : Int} (h : d.executes c i)
    (hp : prof.has c = true) (hf : f d = .jump e t) (ht : d.mayExec c t = true) :
    d.issue c i prof false f = e.setPc c (BitVec.ofInt 32 t) := by
  rw [Dev.issue_eq h, Dev.effect_eq h hp, Dev.leaves_eq h, hf]
  simp [Dev.finish, ht]

/-- A transfer out of the program: IFETCH of the transfer (R150). -/
theorem Dev.issue_jump_out {i : Instr} {prof : Profile} {f : Dev → Eff} {t : Int} (h : d.executes c i)
    (hp : prof.has c = true) (hf : f d = .jump e t) (ht : d.mayExec c t = false) :
    d.issue c i prof false f = d.takeTrap c ((encode i).getD 0) 1 none := by
  rw [Dev.issue_eq h, Dev.effect_eq h hp, Dev.leaves_eq h, hf]
  simp [Dev.finish, ht]

/-- An instruction that leaves the core where it put it. -/
theorem Dev.issue_stay {i : Instr} {prof : Profile} {f : Dev → Eff} (h : d.executes c i) (hp : prof.has c = true)
    (hf : f d = .stay e) : d.issue c i prof false f = e := by
  rw [Dev.issue_eq h, Dev.effect_eq h hp, Dev.leaves_eq h, hf]
  rfl

/-- An instruction that meets a trap condition. -/
theorem Dev.issue_trap {i : Instr} {prof : Profile} {f : Dev → Eff} {n : Nat} {ea : Option Word}
    (h : d.executes c i) (hp : prof.has c = true) (hf : f d = .trap e n ea) (hn : n ≠ 1) :
    d.issue c i prof false f = e.takeTrap c ((encode i).getD 0) n ea := by
  rw [Dev.issue_eq h, Dev.effect_eq h hp, Dev.leaves_eq h, hf]
  simp [Dev.finish, hn]

/-- ILL comes before the profile and every operand check, and behind IFETCH (R160). -/
theorem Dev.issue_ill {i : Instr} {prof : Profile} {f : Dev → Eff} (h : d.executes c i) (hl : d.leaves c i (f d) = false) :
    d.issue c i prof true f = d.takeTrap c ((encode i).getD 0) 2 none := by
  rw [Dev.issue_eq h]
  simp [Dev.effect, hl, Dev.finish]

/-- An instruction of the other profile traps PROF (R124, R160). -/
theorem Dev.issue_prof {i : Instr} {prof : Profile} {f : Dev → Eff} (h : d.executes c i) (hp : prof.has c = false)
    (hl : d.leaves c i (f d) = false) :
    d.issue c i prof false f = d.takeTrap c ((encode i).getD 0) 3 none := by
  rw [Dev.issue_eq h]
  simp [Dev.effect, hl, hp, Dev.finish]

/-- A core that is stopped or stalled runs nothing. -/
theorem Dev.issue_idle {i : Instr} {prof : Profile} {ill : Bool} {f : Dev → Eff} (h : d.ready c = false) :
    d.issue c i prof ill f = d := by
  simp [Dev.issue, h]

/-! ### Registers of a core under its writes -/

variable (d) (c)

theorem Dev.gv_zero : d.gv c 0 = 0 := by simp [Dev.gv]

/-- A value register written is read back; v0 stays 0 (R125). -/
theorem Dev.gv_setV (r q : BitVec 5) (w : Word) : (d.setV c r w).gv c q = if q = r ∧ r ≠ 0 then w else d.gv c q := by
  unfold Dev.setV Dev.gv
  by_cases hr : r = 0#5
  · simp [hr]
  · by_cases hq : q = 0#5
    · have h : ¬ (0#5 = r) := fun e => hr e.symm
      simp [hq, h]
    · have key : (q.toNat = r.toNat) = (q = r) := by simp [BitVec.toNat_inj]
      cases c <;> simp [hq, hr, Dev.modSpn, Dev.modBob, smGet_smSet, key]

theorem Dev.gv_setV_self (r : BitVec 5) (w : Word) (h : r ≠ 0#5) : (d.setV c r w).gv c r = w := by
  simp [Dev.gv_setV, h]

theorem Dev.ga_setA (a k : Nat) (w : DWord) : (d.setA c a w).ga c k = if k = a then w else d.ga c k := by
  cases c <;> simp [Dev.setA, Dev.ga, Dev.modSpn, Dev.modBob, smGet_smSet]

theorem Dev.ga_setV (r : BitVec 5) (w : Word) (k : Nat) : (d.setV c r w).ga c k = d.ga c k := by
  unfold Dev.setV
  split
  · rfl
  · cases c <;> simp [Dev.ga, Dev.modSpn, Dev.modBob]

theorem Dev.gv_setA (a : Nat) (w : DWord) (q : BitVec 5) : (d.setA c a w).gv c q = d.gv c q := by
  cases c <;> simp [Dev.setA, Dev.gv, Dev.modSpn, Dev.modBob]

@[simp] theorem Dev.alive_setV (r : BitVec 5) (w : Word) : (d.setV c r w).alive c = d.alive c := by
  unfold Dev.setV
  split
  · rfl
  · cases c <;> simp [Dev.alive, Dev.modSpn, Dev.modBob]

@[simp] theorem Dev.alive_setA (a : Nat) (w : DWord) : (d.setA c a w).alive c = d.alive c := by
  cases c <;> simp [Dev.setA, Dev.alive, Dev.modSpn, Dev.modBob]

@[simp] theorem Dev.pcOf_setV (r : BitVec 5) (w : Word) : (d.setV c r w).pcOf c = d.pcOf c := by
  unfold Dev.setV
  split
  · rfl
  · cases c <;> simp [Dev.pcOf, Dev.modSpn, Dev.modBob]

@[simp] theorem Dev.pcOf_setA (a : Nat) (w : DWord) : (d.setA c a w).pcOf c = d.pcOf c := by
  cases c <;> simp [Dev.setA, Dev.pcOf, Dev.modSpn, Dev.modBob]

@[simp] theorem Dev.pcOf_setPc (w : Word) : (d.setPc c w).pcOf c = w := by
  cases c <;> simp [Dev.setPc, Dev.pcOf, Dev.modSpn, Dev.modBob]

theorem Dev.gv_setPc (w : Word) (q : BitVec 5) : (d.setPc c w).gv c q = d.gv c q := by
  cases c <;> simp [Dev.setPc, Dev.gv, Dev.modSpn, Dev.modBob]

theorem Dev.ga_setPc (w : Word) (k : Nat) : (d.setPc c w).ga c k = d.ga c k := by
  cases c <;> simp [Dev.setPc, Dev.ga, Dev.modSpn, Dev.modBob]

@[simp] theorem Dev.alive_raiseFlags (m : Word) : (d.raiseFlags c m).alive c = d.alive c := by
  cases c with
  | spn p =>
    simp only [Dev.raiseFlags, Dev.raiseLoopFlags, Dev.setLoopFlags, Dev.setFld]
    split
    · rfl
    · split <;> simp [Dev.alive, Dev.modSpn]
  | bob b =>
    simp only [Dev.raiseFlags, Dev.setCsr]
    split
    · rfl
    · simp [Dev.alive, Dev.modBob]

@[simp] theorem Dev.pcOf_raiseFlags (m : Word) : (d.raiseFlags c m).pcOf c = d.pcOf c := by
  cases c with
  | spn p =>
    simp only [Dev.raiseFlags, Dev.raiseLoopFlags, Dev.setLoopFlags, Dev.setFld]
    split
    · rfl
    · split <;> simp [Dev.pcOf, Dev.modSpn]
  | bob b =>
    simp only [Dev.raiseFlags, Dev.setCsr]
    split
    · rfl
    · simp [Dev.pcOf, Dev.modBob]

@[simp] theorem Dev.alive_clearFlags (m : Word) : (d.clearFlags c m).alive c = d.alive c := by
  cases c with
  | spn p =>
    simp only [Dev.clearFlags, Dev.clearLoopFlags, Dev.setLoopFlags, Dev.setFld]
    split <;> simp [Dev.alive, Dev.modSpn]
  | bob b => simp [Dev.clearFlags, Dev.setCsr, Dev.alive, Dev.modBob]

@[simp] theorem Dev.pcOf_clearFlags (m : Word) : (d.clearFlags c m).pcOf c = d.pcOf c := by
  cases c with
  | spn p =>
    simp only [Dev.clearFlags, Dev.clearLoopFlags, Dev.setLoopFlags, Dev.setFld]
    split <;> simp [Dev.pcOf, Dev.modSpn]
  | bob b => simp [Dev.clearFlags, Dev.setCsr, Dev.pcOf, Dev.modBob]

/-- A core that executes runs on. -/
theorem Dev.alive_of_executes {d : Dev} {c : Core} {i : Instr} (h : d.executes c i) : d.alive c = true := by
  obtain ⟨h1, -, -, -⟩ := h
  cases c <;> simp_all [Dev.ready, Dev.free, Dev.alive]

/-! ### The effect on the rest of the device -/

@[simp] theorem Dev.sk_setV (r : BitVec 5) (w : Word) : (d.setV c r w).sk = d.sk := by
  unfold Dev.setV
  split
  · rfl
  · cases c <;> simp [Dev.modSpn, Dev.modBob]

@[simp] theorem Dev.sk_setA (a : Nat) (w : DWord) : (d.setA c a w).sk = d.sk := by
  cases c <;> simp [Dev.setA, Dev.modSpn, Dev.modBob]

@[simp] theorem Dev.sk_setPc (w : Word) : (d.setPc c w).sk = d.sk := by
  cases c <;> simp [Dev.setPc, Dev.modSpn, Dev.modBob]

@[simp] theorem Dev.regs_setV (r : BitVec 5) (w : Word) : (d.setV c r w).regs = d.regs := by
  unfold Dev.setV
  split
  · rfl
  · cases c <;> simp [Dev.modSpn, Dev.modBob]

@[simp] theorem Dev.regs_setA (a : Nat) (w : DWord) : (d.setA c a w).regs = d.regs := by
  cases c <;> simp [Dev.setA, Dev.modSpn, Dev.modBob]

@[simp] theorem Dev.regs_setPc (w : Word) : (d.setPc c w).regs = d.regs := by
  cases c <;> simp [Dev.setPc, Dev.modSpn, Dev.modBob]

@[simp] theorem Dev.sk_raiseFlags (m : Word) : (d.raiseFlags c m).sk = d.sk := by
  cases c with
  | spn p =>
    simp only [Dev.raiseFlags, Dev.raiseLoopFlags, Dev.setLoopFlags, Dev.setFld]
    split
    · rfl
    · split <;> simp [Dev.modSpn]
  | bob b =>
    simp only [Dev.raiseFlags, Dev.setCsr]
    split <;> simp [Dev.modBob]

/-- Raising flags touches no register but the loop's flag register. -/
theorem Dev.reg_raiseFlags (m : Word) (a : Nat) (h : ∀ p, c = .spn p → a ≠ Reg.SPN_FLAGS p) :
    (d.raiseFlags c m).reg a = d.reg a := by
  cases c with
  | spn p =>
    simp only [Dev.raiseFlags, Dev.raiseLoopFlags, Dev.setLoopFlags, Dev.setFld]
    split
    · rfl
    · split
      · rfl
      · exact Dev.reg_setReg_other _ _ (h p rfl)
  | bob b =>
    simp only [Dev.raiseFlags, Dev.setCsr]
    split <;> rfl

/-! ### Claims about one instruction -/

/-- An instruction whose meaning is `issue` and whose effect completes runs to that effect. -/
theorem runs_issue {s : State} {c : Core} {i : Instr} {prof : Profile} {f : Dev → Eff} {e : Dev}
    (hex : exec i s = .next (s.withDev (s.dev.issue c i prof false f))) (hp : prof.has c = true)
    (hf : f s.dev = .next e) (ha : e.alive c = s.dev.alive c) (hpc : e.pcOf c = s.dev.pcOf c) : RunsTo s c i e := by
  intro h
  rw [hex, Dev.issue_next h hp hf (by rw [ha]; exact Dev.alive_of_executes h), hpc]

theorem traps_issue {s : State} {c : Core} {i : Instr} {prof : Profile} {f : Dev → Eff} {n : Nat} {ea : Option Word}
    (hex : exec i s = .next (s.withDev (s.dev.issue c i prof false f))) (hp : prof.has c = true)
    (hf : f s.dev = .trap s.dev n ea) (hn : n ≠ 1) : Traps s c i n ea := by
  intro h
  rw [hex, Dev.issue_trap h hp hf hn]

theorem traps_ill {s : State} {c : Core} {i : Instr} {prof : Profile} {f : Dev → Eff}
    (hex : exec i s = .next (s.withDev (s.dev.issue c i prof true f))) (hl : s.dev.leaves c i (f s.dev) = false) :
    Traps s c i 2 none := by
  intro h
  rw [hex, Dev.issue_ill h hl]

theorem traps_prof {s : State} {c : Core} {i : Instr} {prof : Profile} {f : Dev → Eff}
    (hex : exec i s = .next (s.withDev (s.dev.issue c i prof false f))) (hp : prof.has c = false)
    (hl : s.dev.leaves c i (f s.dev) = false) : Traps s c i 3 none := by
  intro h
  rw [hex, Dev.issue_prof h hp hl]

/-- A saturating instruction runs to its destination and flag. -/
theorem runs_opSat {s : State} {c : Core} {i : Instr} {rd : BitVec 5} {x : Int}
    (hex : exec i s = .next (s.withDev (s.dev.opSat c i false rd x))) :
    RunsTo s c i ((s.dev.setV c rd (sat32 x).1).raiseFlags c (if (sat32 x).2 then fVSAT else 0)) :=
  runs_issue (f := fun d => .next (d.setSat c rd (sat32 x))) hex rfl rfl (by simp) (by simp)

/-- An exact or logical instruction runs to its destination. -/
theorem runs_opWord {s : State} {c : Core} {i : Instr} {rd : BitVec 5} {w : Word}
    (hex : exec i s = .next (s.withDev (s.dev.opWord c i false rd w))) : RunsTo s c i (s.dev.setV c rd w) :=
  runs_issue (f := fun d => .next (d.setV c rd w)) hex rfl rfl (by simp) (by simp)

end Sys2Proof.Machine
end

