-- ==== Sys2Proof/Laws/PerInstr.lean ====
section
/-! SUPPORT. One law per command about its word: no command but the trap of a reserved word has the all-zero or the
all-ones word (R141 reserves their major opcodes), and a command that no core issues has no word at all. -/

namespace Sys2Proof.Laws

open Sys2Proof

/-- A word with a major opcode of its own is neither all zeros nor all ones. -/
theorem word_ne (w : Word) (m : BitVec 6) (h : w.extractLsb' 26 6 = m) (h0 : m ≠ 0) (h1 : m ≠ 0x3F) :
    some w ≠ some 0 ∧ some w ≠ some (0xFFFFFFFF : Word) := by
  constructor <;> intro e <;> cases e <;> subst h
  · exact h0 (by decide)
  · exact h1 (by decide)

/-- A command without a word has neither. -/
theorem no_word : (none : Option Word) ≠ some 0 ∧ (none : Option Word) ≠ some 0xFFFFFFFF :=
  ⟨nofun, nofun⟩

/-- No command has the all-zero or the all-ones word, but the trap that such a reserved word takes itself. -/
def Coded.Statement (i : Instr) : Prop :=
  (∀ c f w, i ≠ .trap c ⟨f, some w⟩) → encode i ≠ some 0 ∧ encode i ≠ some 0xFFFFFFFF

theorem Coded.gateCommand (n : Fin 64) (h l trip : Bool) : Coded.Statement (.gateCommand n h l trip) :=
  fun _ => no_word
theorem Coded.statusFrame (r : SupplyFrame) : Coded.Statement (.statusFrame r) := fun _ => no_word
theorem Coded.urgentCode (n : Fin 64) : Coded.Statement (.urgentCode n) := fun _ => no_word
theorem Coded.linkLossSafeState (die : Fin 36) : Coded.Statement (.linkLossSafeState die) := fun _ => no_word
theorem Coded.pllLock (us : BitVec 16) : Coded.Statement (.pllLock us) := fun _ => no_word
theorem Coded.referenceLoss : Coded.Statement (.referenceLoss) := fun _ => no_word
theorem Coded.governorStepDown (half : Bool) : Coded.Statement (.governorStepDown half) := fun _ => no_word
theorem Coded.governorReturn : Coded.Statement (.governorReturn) := fun _ => no_word
theorem Coded.unitDisable (u : UnitRef) : Coded.Statement (.unitDisable u) := fun _ => no_word
theorem Coded.disableBoundary (u : UnitRef) : Coded.Statement (.disableBoundary u) := fun _ => no_word
theorem Coded.registerWrite (m : Master) (addr : Word) (size : AccessSize) (v : Word) : Coded.Statement (.registerWrite m addr size v) :=
  fun _ => no_word
theorem Coded.w1cWrite (m : Master) (addr v hwSet : Word) : Coded.Statement (.w1cWrite m addr v hwSet) :=
  fun _ => no_word
theorem Coded.drawRequest (d : DrawSpec) : Coded.Statement (.drawRequest d) := fun _ => no_word
theorem Coded.drawComplete (bank : Fin 16) : Coded.Statement (.drawComplete bank) := fun _ => no_word
theorem Coded.hankConfigWrite (m : Master) (cfg : Bool) (v : Word) : Coded.Statement (.hankConfigWrite m cfg v) :=
  fun _ => no_word
theorem Coded.hankReadOffsetWrite (m : Master) (v : Word) : Coded.Statement (.hankReadOffsetWrite m v) :=
  fun _ => no_word
theorem Coded.ceCountClear (m : Master) : Coded.Statement (.ceCountClear m) := fun _ => no_word
theorem Coded.bankWatchdogBite (bank : Fin 16) : Coded.Statement (.bankWatchdogBite bank) := fun _ => no_word
theorem Coded.lockBreak (line : BitVec 18) : Coded.Statement (.lockBreak line) := fun _ => no_word
theorem Coded.scrubLine (bank : Fin 16) (line : Fin 16384) (found : List (Fin 16 × Bool)) : Coded.Statement (.scrubLine bank line found) :=
  fun _ => no_word
theorem Coded.bankChangeover : Coded.Statement (.bankChangeover) := fun _ => no_word
theorem Coded.softwareTrigger (k : Fin 18) : Coded.Statement (.softwareTrigger k) := fun _ => no_word
theorem Coded.conversionEnd (k : Fin 18) (vin : Int) (parityFail : Bool) : Coded.Statement (.conversionEnd k vin parityFail) :=
  fun _ => no_word
theorem Coded.conversionAbandon (k : Fin 18) : Coded.Statement (.conversionAbandon k) := fun _ => no_word
theorem Coded.laneSleep (k : Fin 18) : Coded.Statement (.laneSleep k) := fun _ => no_word
theorem Coded.laneStartupEnd (k : Fin 18) : Coded.Statement (.laneStartupEnd k) := fun _ => no_word
theorem Coded.laneNosleepSet (k : Fin 18) : Coded.Statement (.laneNosleepSet k) := fun _ => no_word
theorem Coded.laneEnable (k : Fin 18) : Coded.Statement (.laneEnable k) := fun _ => no_word
theorem Coded.tdacWrite (m : Master) (v : Word) : Coded.Statement (.tdacWrite m v) := fun _ => no_word
theorem Coded.decimatorEnable (n : Fin 32) : Coded.Statement (.decimatorEnable n) := fun _ => no_word
theorem Coded.sdmClockEnableWrite (m : Master) (v : Word) : Coded.Statement (.sdmClockEnableWrite m v) :=
  fun _ => no_word
theorem Coded.decimatorOutput (n : Fin 32) (bits : List Bool) : Coded.Statement (.decimatorOutput n bits) :=
  fun _ => no_word
theorem Coded.sdmStuck (n : Fin 32) (bits : List Bool) : Coded.Statement (.sdmStuck n bits) := fun _ => no_word
theorem Coded.fastFilterTrip (n : Fin 32) (bits : List Bool) : Coded.Statement (.fastFilterTrip n bits) :=
  fun _ => no_word
theorem Coded.housekeepingRoundStart : Coded.Statement (.housekeepingRoundStart) := fun _ => no_word
theorem Coded.housekeepingNow (m : Master) : Coded.Statement (.housekeepingNow m) := fun _ => no_word
theorem Coded.housekeepingRoundPublish (volts : List Int) : Coded.Statement (.housekeepingRoundPublish volts) :=
  fun _ => no_word
theorem Coded.add (c : Core) (f : RegF) : Coded.Statement (.add c f) :=
  fun _ => word_ne _ _ (encReg_major _ _ _) (by decide) (by decide)
theorem Coded.sub (c : Core) (f : RegF) : Coded.Statement (.sub c f) :=
  fun _ => word_ne _ _ (encReg_major _ _ _) (by decide) (by decide)
theorem Coded.neg (c : Core) (f : RegF) : Coded.Statement (.neg c f) :=
  fun _ => word_ne _ _ (encReg_major _ _ _) (by decide) (by decide)
theorem Coded.abs_ (c : Core) (f : RegF) : Coded.Statement (.abs_ c f) :=
  fun _ => word_ne _ _ (encReg_major _ _ _) (by decide) (by decide)
theorem Coded.min_ (c : Core) (f : RegF) : Coded.Statement (.min_ c f) :=
  fun _ => word_ne _ _ (encReg_major _ _ _) (by decide) (by decide)
theorem Coded.max_ (c : Core) (f : RegF) : Coded.Statement (.max_ c f) :=
  fun _ => word_ne _ _ (encReg_major _ _ _) (by decide) (by decide)
theorem Coded.slt (c : Core) (f : RegF) : Coded.Statement (.slt c f) :=
  fun _ => word_ne _ _ (encReg_major _ _ _) (by decide) (by decide)
theorem Coded.sltu (c : Core) (f : RegF) : Coded.Statement (.sltu c f) :=
  fun _ => word_ne _ _ (encReg_major _ _ _) (by decide) (by decide)
theorem Coded.seq (c : Core) (f : RegF) : Coded.Statement (.seq c f) :=
  fun _ => word_ne _ _ (encReg_major _ _ _) (by decide) (by decide)
theorem Coded.and_ (c : Core) (f : RegF) : Coded.Statement (.and_ c f) :=
  fun _ => word_ne _ _ (encReg_major _ _ _) (by decide) (by decide)
theorem Coded.or_ (c : Core) (f : RegF) : Coded.Statement (.or_ c f) :=
  fun _ => word_ne _ _ (encReg_major _ _ _) (by decide) (by decide)
theorem Coded.xor_ (c : Core) (f : RegF) : Coded.Statement (.xor_ c f) :=
  fun _ => word_ne _ _ (encReg_major _ _ _) (by decide) (by decide)
theorem Coded.andn (c : Core) (f : RegF) : Coded.Statement (.andn c f) :=
  fun _ => word_ne _ _ (encReg_major _ _ _) (by decide) (by decide)
theorem Coded.sll (c : Core) (f : RegF) : Coded.Statement (.sll c f) :=
  fun _ => word_ne _ _ (encReg_major _ _ _) (by decide) (by decide)
theorem Coded.srl (c : Core) (f : RegF) : Coded.Statement (.srl c f) :=
  fun _ => word_ne _ _ (encReg_major _ _ _) (by decide) (by decide)
theorem Coded.sra (c : Core) (f : RegF) : Coded.Statement (.sra c f) :=
  fun _ => word_ne _ _ (encReg_major _ _ _) (by decide) (by decide)
theorem Coded.sla (c : Core) (f : RegF) : Coded.Statement (.sla c f) :=
  fun _ => word_ne _ _ (encReg_major _ _ _) (by decide) (by decide)
theorem Coded.slli (c : Core) (f : RegF) : Coded.Statement (.slli c f) :=
  fun _ => word_ne _ _ (encReg_major _ _ _) (by decide) (by decide)
theorem Coded.srli (c : Core) (f : RegF) : Coded.Statement (.srli c f) :=
  fun _ => word_ne _ _ (encReg_major _ _ _) (by decide) (by decide)
theorem Coded.srai (c : Core) (f : RegF) : Coded.Statement (.srai c f) :=
  fun _ => word_ne _ _ (encReg_major _ _ _) (by decide) (by decide)
theorem Coded.slai (c : Core) (f : RegF) : Coded.Statement (.slai c f) :=
  fun _ => word_ne _ _ (encReg_major _ _ _) (by decide) (by decide)
theorem Coded.jmpr (c : Core) (f : RegF) : Coded.Statement (.jmpr c f) :=
  fun _ => word_ne _ _ (encReg_major _ _ _) (by decide) (by decide)
theorem Coded.jsubr (c : Core) (f : RegF) : Coded.Statement (.jsubr c f) :=
  fun _ => word_ne _ _ (encReg_major _ _ _) (by decide) (by decide)
theorem Coded.fence (c : Core) (f : RegF) : Coded.Statement (.fence c f) :=
  fun _ => word_ne _ _ (encReg_major _ _ _) (by decide) (by decide)
theorem Coded.mul (c : Core) (f : RegF) : Coded.Statement (.mul c f) :=
  fun _ => word_ne _ _ (encReg_major _ _ _) (by decide) (by decide)
theorem Coded.mulq (c : Core) (f : RegF) : Coded.Statement (.mulq c f) :=
  fun _ => word_ne _ _ (encReg_major _ _ _) (by decide) (by decide)
theorem Coded.mulqr (c : Core) (f : RegF) : Coded.Statement (.mulqr c f) :=
  fun _ => word_ne _ _ (encReg_major _ _ _) (by decide) (by decide)
theorem Coded.mulh (c : Core) (f : RegF) : Coded.Statement (.mulh c f) :=
  fun _ => word_ne _ _ (encReg_major _ _ _) (by decide) (by decide)
theorem Coded.div (c : Core) (f : RegF) : Coded.Statement (.div c f) :=
  fun _ => word_ne _ _ (encReg_major _ _ _) (by decide) (by decide)
theorem Coded.divu (c : Core) (f : RegF) : Coded.Statement (.divu c f) :=
  fun _ => word_ne _ _ (encReg_major _ _ _) (by decide) (by decide)
theorem Coded.rem (c : Core) (f : RegF) : Coded.Statement (.rem c f) :=
  fun _ => word_ne _ _ (encReg_major _ _ _) (by decide) (by decide)
theorem Coded.addi (c : Core) (f : ImmF) : Coded.Statement (.addi c f) :=
  fun _ => word_ne _ _ (encImm_major _ _) (by decide) (by decide)
theorem Coded.slti (c : Core) (f : ImmF) : Coded.Statement (.slti c f) :=
  fun _ => word_ne _ _ (encImm_major _ _) (by decide) (by decide)
theorem Coded.sltiu (c : Core) (f : ImmF) : Coded.Statement (.sltiu c f) :=
  fun _ => word_ne _ _ (encImm_major _ _) (by decide) (by decide)
theorem Coded.andi (c : Core) (f : ImmF) : Coded.Statement (.andi c f) :=
  fun _ => word_ne _ _ (encImm_major _ _) (by decide) (by decide)
theorem Coded.ori (c : Core) (f : ImmF) : Coded.Statement (.ori c f) :=
  fun _ => word_ne _ _ (encImm_major _ _) (by decide) (by decide)
theorem Coded.xori (c : Core) (f : ImmF) : Coded.Statement (.xori c f) :=
  fun _ => word_ne _ _ (encImm_major _ _) (by decide) (by decide)
theorem Coded.lhi (c : Core) (f : ImmF) : Coded.Statement (.lhi c f) :=
  fun _ => word_ne _ _ (encImm_major _ _) (by decide) (by decide)
theorem Coded.beq (c : Core) (f : BranchF) : Coded.Statement (.beq c f) :=
  fun _ => word_ne _ _ (encBranch_major _ _) (by decide) (by decide)
theorem Coded.bne (c : Core) (f : BranchF) : Coded.Statement (.bne c f) :=
  fun _ => word_ne _ _ (encBranch_major _ _) (by decide) (by decide)
theorem Coded.blt (c : Core) (f : BranchF) : Coded.Statement (.blt c f) :=
  fun _ => word_ne _ _ (encBranch_major _ _) (by decide) (by decide)
theorem Coded.bge (c : Core) (f : BranchF) : Coded.Statement (.bge c f) :=
  fun _ => word_ne _ _ (encBranch_major _ _) (by decide) (by decide)
theorem Coded.bltu (c : Core) (f : BranchF) : Coded.Statement (.bltu c f) :=
  fun _ => word_ne _ _ (encBranch_major _ _) (by decide) (by decide)
theorem Coded.bgeu (c : Core) (f : BranchF) : Coded.Statement (.bgeu c f) :=
  fun _ => word_ne _ _ (encBranch_major _ _) (by decide) (by decide)
theorem Coded.jmp (c : Core) (f : JumpF) : Coded.Statement (.jmp c f) :=
  fun _ => word_ne _ _ (encJump_major _ _) (by decide) (by decide)
theorem Coded.jsub (c : Core) (f : JumpF) : Coded.Statement (.jsub c f) :=
  fun _ => word_ne _ _ (encJump_major _ _) (by decide) (by decide)
theorem Coded.ldW (c : Core) (f : ImmF) : Coded.Statement (.ldW c f) :=
  fun _ => word_ne _ _ (encImm_major _ _) (by decide) (by decide)
theorem Coded.stW (c : Core) (f : StoreF) : Coded.Statement (.stW c f) :=
  fun _ => word_ne _ _ (encStore_major _ _) (by decide) (by decide)
theorem Coded.ldA (c : Core) (f : ImmF) : Coded.Statement (.ldA c f) :=
  fun _ => word_ne _ _ (encImm_major _ _) (by decide) (by decide)
theorem Coded.stA (c : Core) (f : StoreF) : Coded.Statement (.stA c f) :=
  fun _ => word_ne _ _ (encStore_major _ _) (by decide) (by decide)
theorem Coded.ldB (c : Core) (f : ImmF) : Coded.Statement (.ldB c f) :=
  fun _ => word_ne _ _ (encImm_major _ _) (by decide) (by decide)
theorem Coded.ldBu (c : Core) (f : ImmF) : Coded.Statement (.ldBu c f) :=
  fun _ => word_ne _ _ (encImm_major _ _) (by decide) (by decide)
theorem Coded.ldH (c : Core) (f : ImmF) : Coded.Statement (.ldH c f) :=
  fun _ => word_ne _ _ (encImm_major _ _) (by decide) (by decide)
theorem Coded.ldHu (c : Core) (f : ImmF) : Coded.Statement (.ldHu c f) :=
  fun _ => word_ne _ _ (encImm_major _ _) (by decide) (by decide)
theorem Coded.stB (c : Core) (f : StoreF) : Coded.Statement (.stB c f) :=
  fun _ => word_ne _ _ (encStore_major _ _) (by decide) (by decide)
theorem Coded.stH (c : Core) (f : StoreF) : Coded.Statement (.stH c f) :=
  fun _ => word_ne _ _ (encStore_major _ _) (by decide) (by decide)
theorem Coded.ldK (c : Core) (f : KmemF) : Coded.Statement (.ldK c f) :=
  fun _ => word_ne _ _ (encKmem_major _ _) (by decide) (by decide)
theorem Coded.stK (c : Core) (f : KmemF) : Coded.Statement (.stK c f) :=
  fun _ => word_ne _ _ (encKmem_major _ _) (by decide) (by decide)
theorem Coded.macs (c : Core) (f : MacF) : Coded.Statement (.macs c f) :=
  fun _ => word_ne _ _ (encMac_major _ _) (by decide) (by decide)
theorem Coded.msus (c : Core) (f : MacF) : Coded.Statement (.msus c f) :=
  fun _ => word_ne _ _ (encMac_major _ _) (by decide) (by decide)
theorem Coded.muls (c : Core) (f : MacF) : Coded.Statement (.muls c f) :=
  fun _ => word_ne _ _ (encMac_major _ _) (by decide) (by decide)
theorem Coded.macv (c : Core) (f : MacF) : Coded.Statement (.macv c f) :=
  fun _ => word_ne _ _ (encMac_major _ _) (by decide) (by decide)
theorem Coded.rda (c : Core) (f : MacF) : Coded.Statement (.rda c f) :=
  fun _ => word_ne _ _ (encMac_major _ _) (by decide) (by decide)
theorem Coded.wra (c : Core) (f : MacF) : Coded.Statement (.wra c f) :=
  fun _ => word_ne _ _ (encMac_major _ _) (by decide) (by decide)
theorem Coded.adda (c : Core) (f : MacF) : Coded.Statement (.adda c f) :=
  fun _ => word_ne _ _ (encMac_major _ _) (by decide) (by decide)
theorem Coded.rdfl (c : Core) (f : ImmF) : Coded.Statement (.rdfl c f) :=
  fun _ => word_ne _ _ (encImm_major _ _) (by decide) (by decide)
theorem Coded.clrf (c : Core) (f : ImmF) : Coded.Statement (.clrf c f) :=
  fun _ => word_ne _ _ (encImm_major _ _) (by decide) (by decide)
theorem Coded.trap (c : Core) (f : TrapF) : Coded.Statement (.trap c f) :=
  fun h => match f, h with
  | ⟨_, none⟩, _ => word_ne _ _ (encReg_major _ _ _) (by decide) (by decide)
  | ⟨f, some w⟩, h => absurd rfl (h c f w)
theorem Coded.eret (c : Core) (f : RegF) : Coded.Statement (.eret c f) :=
  fun _ => word_ne _ _ (encReg_major _ _ _) (by decide) (by decide)
theorem Coded.wfi (c : Core) (f : RegF) : Coded.Statement (.wfi c f) :=
  fun _ => word_ne _ _ (encReg_major _ _ _) (by decide) (by decide)
theorem Coded.wfiResume (b : Fin 3) : Coded.Statement (.wfiResume b) := fun _ => no_word
theorem Coded.mfc (c : Core) (f : ImmF) : Coded.Statement (.mfc c f) :=
  fun _ => word_ne _ _ (encImm_major _ _) (by decide) (by decide)
theorem Coded.mtc (c : Core) (f : ImmF) : Coded.Statement (.mtc c f) :=
  fun _ => word_ne _ _ (encImm_major _ _) (by decide) (by decide)
theorem Coded.setc (c : Core) (f : ImmF) : Coded.Statement (.setc c f) :=
  fun _ => word_ne _ _ (encImm_major _ _) (by decide) (by decide)
theorem Coded.clrc (c : Core) (f : ImmF) : Coded.Statement (.clrc c f) :=
  fun _ => word_ne _ _ (encImm_major _ _) (by decide) (by decide)
theorem Coded.interruptEntry (b : Fin 3) : Coded.Statement (.interruptEntry b) := fun _ => no_word
theorem Coded.coreTimerMatch (b : Fin 3) : Coded.Statement (.coreTimerMatch b) := fun _ => no_word
theorem Coded.postedStoreRefusal (c : Core) : Coded.Statement (.postedStoreRefusal c) := fun _ => no_word
theorem Coded.clarke (c : Core) (f : CtlF) : Coded.Statement (.clarke c f) :=
  fun _ => word_ne _ _ (encCtl_major _ _ _) (by decide) (by decide)
theorem Coded.clarke3 (c : Core) (f : CtlF) : Coded.Statement (.clarke3 c f) :=
  fun _ => word_ne _ _ (encCtl_major _ _ _) (by decide) (by decide)
theorem Coded.park (c : Core) (f : CtlF) : Coded.Statement (.park c f) :=
  fun _ => word_ne _ _ (encCtl_major _ _ _) (by decide) (by decide)
theorem Coded.ipark (c : Core) (f : CtlF) : Coded.Statement (.ipark c f) :=
  fun _ => word_ne _ _ (encCtl_major _ _ _) (by decide) (by decide)
theorem Coded.svm (c : Core) (f : CtlF) : Coded.Statement (.svm c f) :=
  fun _ => word_ne _ _ (encCtl_major _ _ _) (by decide) (by decide)
theorem Coded.band2 (c : Core) (f : CtlF) : Coded.Statement (.band2 c f) :=
  fun _ => word_ne _ _ (encCtl_major _ _ _) (by decide) (by decide)
theorem Coded.band3 (c : Core) (f : CtlF) : Coded.Statement (.band3 c f) :=
  fun _ => word_ne _ _ (encCtl_major _ _ _) (by decide) (by decide)
theorem Coded.swtab (c : Core) (f : CtlF) : Coded.Statement (.swtab c f) :=
  fun _ => word_ne _ _ (encCtl_major _ _ _) (by decide) (by decide)
theorem Coded.biq (c : Core) (f : CtlF) : Coded.Statement (.biq c f) :=
  fun _ => word_ne _ _ (encCtl_major _ _ _) (by decide) (by decide)
theorem Coded.integ (c : Core) (f : CtlF) : Coded.Statement (.integ c f) :=
  fun _ => word_ne _ _ (encCtl_major _ _ _) (by decide) (by decide)
theorem Coded.lut (c : Core) (f : CtlF) : Coded.Statement (.lut c f) :=
  fun _ => word_ne _ _ (encCtl_major _ _ _) (by decide) (by decide)
theorem Coded.obsEmf (c : Core) (f : CtlF) : Coded.Statement (.obsEmf c f) :=
  fun _ => word_ne _ _ (encCtl_major _ _ _) (by decide) (by decide)
theorem Coded.obsPll (c : Core) (f : CtlF) : Coded.Statement (.obsPll c f) :=
  fun _ => word_ne _ _ (encCtl_major _ _ _) (by decide) (by decide)
theorem Coded.lds (c : Core) (f : CtlF) : Coded.Statement (.lds c f) :=
  fun _ => word_ne _ _ (encCtl_major _ _ _) (by decide) (by decide)
theorem Coded.ldsT (c : Core) (f : CtlF) : Coded.Statement (.ldsT c f) :=
  fun _ => word_ne _ _ (encCtl_major _ _ _) (by decide) (by decide)
theorem Coded.ldp (c : Core) (f : CtlF) : Coded.Statement (.ldp c f) :=
  fun _ => word_ne _ _ (encCtl_major _ _ _) (by decide) (by decide)
theorem Coded.stp (c : Core) (f : CtlF) : Coded.Statement (.stp c f) :=
  fun _ => word_ne _ _ (encCtl_major _ _ _) (by decide) (by decide)
theorem Coded.waits (c : Core) (f : CtlF) : Coded.Statement (.waits c f) :=
  fun _ => word_ne _ _ (encCtl_major _ _ _) (by decide) (by decide)
theorem Coded.sampleWaitRelease (p : Fin 18) : Coded.Statement (.sampleWaitRelease p) := fun _ => no_word
theorem Coded.putd (c : Core) (f : CtlF) : Coded.Statement (.putd c f) :=
  fun _ => word_ne _ _ (encCtl_major _ _ _) (by decide) (by decide)
theorem Coded.rahead (c : Core) (f : CtlF) : Coded.Statement (.rahead c f) :=
  fun _ => word_ne _ _ (encCtl_major _ _ _) (by decide) (by decide)
theorem Coded.check (c : Core) (f : CtlF) : Coded.Statement (.check c f) :=
  fun _ => word_ne _ _ (encCtl_major _ _ _) (by decide) (by decide)
theorem Coded.commit (c : Core) (f : CtlF) : Coded.Statement (.commit c f) :=
  fun _ => word_ne _ _ (encCtl_major _ _ _) (by decide) (by decide)
theorem Coded.plyLock (c : Core) (f : CtlF) : Coded.Statement (.plyLock c f) :=
  fun _ => word_ne _ _ (encCtl_major _ _ _) (by decide) (by decide)
theorem Coded.plyLockGrant (c : Core) : Coded.Statement (.plyLockGrant c) := fun _ => no_word
theorem Coded.plyFree (c : Core) (f : CtlF) : Coded.Statement (.plyFree c f) :=
  fun _ => word_ne _ _ (encCtl_major _ _ _) (by decide) (by decide)
theorem Coded.plySt (c : Core) (f : CtlF) : Coded.Statement (.plySt c f) :=
  fun _ => word_ne _ _ (encCtl_major _ _ _) (by decide) (by decide)
theorem Coded.mboxPut (c : Core) (f : CtlF) : Coded.Statement (.mboxPut c f) :=
  fun _ => word_ne _ _ (encCtl_major _ _ _) (by decide) (by decide)
theorem Coded.mboxGet (c : Core) (f : CtlF) : Coded.Statement (.mboxGet c f) :=
  fun _ => word_ne _ _ (encCtl_major _ _ _) (by decide) (by decide)
theorem Coded.mboxSt (c : Core) (f : CtlF) : Coded.Statement (.mboxSt c f) :=
  fun _ => word_ne _ _ (encCtl_major _ _ _) (by decide) (by decide)
theorem Coded.trace (c : Core) (f : CtlF) : Coded.Statement (.trace c f) :=
  fun _ => word_ne _ _ (encCtl_major _ _ _) (by decide) (by decide)
theorem Coded.inj (c : Core) (f : CtlF) : Coded.Statement (.inj c f) :=
  fun _ => word_ne _ _ (encCtl_major _ _ _) (by decide) (by decide)
theorem Coded.halt (c : Core) (f : CtlF) : Coded.Statement (.halt c f) :=
  fun _ => word_ne _ _ (encCtl_major _ _ _) (by decide) (by decide)
theorem Coded.mailboxOutRead (m : Master) (p : Fin 18) (i : Fin 4) : Coded.Statement (.mailboxOutRead m p i) :=
  fun _ => no_word
theorem Coded.mailboxInWrite (m : Master) (p : Fin 18) (i : Fin 4) (v : Word) : Coded.Statement (.mailboxInWrite m p i v) :=
  fun _ => no_word
theorem Coded.periodStart (p : Fin 18) (l : Fin 4) : Coded.Statement (.periodStart p l) := fun _ => no_word
theorem Coded.slotClose (p : Fin 18) (l : Fin 4) : Coded.Statement (.slotClose p l) := fun _ => no_word
theorem Coded.commitDeadline (p : Fin 18) (l : Fin 4) : Coded.Statement (.commitDeadline p l) := fun _ => no_word
theorem Coded.loopEnable (p : Fin 18) (l : Fin 4) : Coded.Statement (.loopEnable p l) := fun _ => no_word
theorem Coded.programWindowFillComplete (p : Fin 18) : Coded.Statement (.programWindowFillComplete p) :=
  fun _ => no_word
theorem Coded.hotSpareEnable (p : Fin 18) : Coded.Statement (.hotSpareEnable p) := fun _ => no_word
theorem Coded.hotSpareFillComplete (p : Fin 18) : Coded.Statement (.hotSpareFillComplete p) := fun _ => no_word
theorem Coded.lockstepMismatch (m : Mismatch) : Coded.Statement (.lockstepMismatch m) := fun _ => no_word
theorem Coded.spindleTakeoverComplete (q : Fin 18) : Coded.Statement (.spindleTakeoverComplete q) := fun _ => no_word
theorem Coded.timebaseEnable (j : Fin 16) : Coded.Statement (.timebaseEnable j) := fun _ => no_word
theorem Coded.groupStart (mask : BitVec 16) : Coded.Statement (.groupStart mask) := fun _ => no_word
theorem Coded.timebaseLiveWrite (j : Fin 16) (r : TbLive) (v : Word) : Coded.Statement (.timebaseLiveWrite j r v) :=
  fun _ => no_word
theorem Coded.timebaseEvent (j : Fin 16) (e : TbEvent) : Coded.Statement (.timebaseEvent j e) := fun _ => no_word
theorem Coded.imageLand (n : Fin 64) : Coded.Statement (.imageLand n) := fun _ => no_word
theorem Coded.whorlEnable (n : Fin 64) : Coded.Statement (.whorlEnable n) := fun _ => no_word
theorem Coded.gateDelayEnd (n : Fin 64) (sec : Section) : Coded.Statement (.gateDelayEnd n sec) := fun _ => no_word
theorem Coded.dwellExpiry (n : Fin 64) : Coded.Statement (.dwellExpiry n) := fun _ => no_word
theorem Coded.forceWrite (n : Fin 64) (v : Word) : Coded.Statement (.forceWrite n v) := fun _ => no_word
theorem Coded.tripLatch (n : Fin 64) (trips : BitVec 8) : Coded.Statement (.tripLatch n trips) := fun _ => no_word
theorem Coded.blankingEnd (n : Fin 64) : Coded.Statement (.blankingEnd n) := fun _ => no_word
theorem Coded.tripClear (n : Fin 64) : Coded.Statement (.tripClear n) := fun _ => no_word
theorem Coded.chopperStateChange (land : Fin 4) (uv : Nat) : Coded.Statement (.chopperStateChange land uv) :=
  fun _ => no_word
theorem Coded.busOvervoltage (land : Fin 4) (uv : Nat) : Coded.Statement (.busOvervoltage land uv) := fun _ => no_word
theorem Coded.minimumPulseEnd (n : Fin 64) (sec : Section) : Coded.Statement (.minimumPulseEnd n sec) :=
  fun _ => no_word
theorem Coded.adaptationWindowOpen (n : Fin 64) (w : AdaptWindow) : Coded.Statement (.adaptationWindowOpen n w) :=
  fun _ => no_word
theorem Coded.edgeMeasured (n : Fin 64) (sec : Section) (on : Bool) (ns : Option Nat) : Coded.Statement (.edgeMeasured n sec on ns) :=
  fun _ => no_word
theorem Coded.adaptationWindowClose (n : Fin 64) (w : AdaptWindow) : Coded.Statement (.adaptationWindowClose n w) :=
  fun _ => no_word
theorem Coded.sectionUndervoltage (n : Fin 32) (u : SectionSupply) : Coded.Statement (.sectionUndervoltage n u) :=
  fun _ => no_word
theorem Coded.supplyRelease (r : SupplyRef) : Coded.Statement (.supplyRelease r) := fun _ => no_word
theorem Coded.vgd12Undervoltage (die : Fin 4) : Coded.Statement (.vgd12Undervoltage die) := fun _ => no_word
theorem Coded.bootstrapUndervoltage (m : Fin 32) : Coded.Statement (.bootstrapUndervoltage m) := fun _ => no_word
theorem Coded.bootstrapRecovered (m : Fin 32) : Coded.Statement (.bootstrapRecovered m) := fun _ => no_word
theorem Coded.legOvertemperature (die : Fin 36) (trip : Bool) : Coded.Statement (.legOvertemperature die trip) :=
  fun _ => no_word
theorem Coded.shortCircuitDetect (n : Fin 64) (sec : Section) : Coded.Statement (.shortCircuitDetect n sec) :=
  fun _ => no_word
theorem Coded.dieBlankingEnd (n : Fin 64) (sec : Section) : Coded.Statement (.dieBlankingEnd n sec) :=
  fun _ => no_word
theorem Coded.softTurnOffEnd (n : Fin 64) (sec : Section) : Coded.Statement (.softTurnOffEnd n sec) :=
  fun _ => no_word
theorem Coded.retryWaitEnd (n : Fin 64) : Coded.Statement (.retryWaitEnd n) := fun _ => no_word
theorem Coded.triesReset (n : Fin 64) : Coded.Statement (.triesReset n) := fun _ => no_word
theorem Coded.rearm (n : Fin 64) : Coded.Statement (.rearm n) := fun _ => no_word
theorem Coded.portCountClear (n : Fin 64) : Coded.Statement (.portCountClear n) := fun _ => no_word
theorem Coded.portConfigDelivered (n : Fin 64) : Coded.Statement (.portConfigDelivered n) := fun _ => no_word
theorem Coded.selfTestStart (n : Fin 64) (sel : BitVec 3) : Coded.Statement (.selfTestStart n sel) := fun _ => no_word
theorem Coded.selfTestEnd (n : Fin 64) (r : TestEnd) : Coded.Statement (.selfTestEnd n r) := fun _ => no_word
theorem Coded.lvBusLimit (die : Fin 4) : Coded.Statement (.lvBusLimit die) := fun _ => no_word
theorem Coded.lvBusResume (die : Fin 4) : Coded.Statement (.lvBusResume die) := fun _ => no_word
theorem Coded.encoderEdge (e : Fin 4) (a b : Bool) : Coded.Statement (.encoderEdge e a b) := fun _ => no_word
theorem Coded.encoderIndex (i : IndexLevel) : Coded.Statement (.encoderIndex i) := fun _ => no_word
theorem Coded.hallEdge (h : Fin 10) (st : BitVec 3) : Coded.Statement (.hallEdge h st) := fun _ => no_word
theorem Coded.pwmInSaturate (u : PwmIn) : Coded.Statement (.pwmInSaturate u) := fun _ => no_word
theorem Coded.positionUnitEnable (u : PosUnit) : Coded.Statement (.positionUnitEnable u) := fun _ => no_word
theorem Coded.sequencerPeriod (f : Fin 32) (o : SeqObs) : Coded.Statement (.sequencerPeriod f o) := fun _ => no_word
theorem Coded.catchMeasurementEnd (f : Fin 32) (es : List (Int × Int)) (prim : Option PrimObs) (vline : Nat) (vbus : Int) :
    Coded.Statement (.catchMeasurementEnd f es prim vline vbus) := fun _ => no_word
theorem Coded.brakeEnd (f : Fin 32) (speed : Int) : Coded.Statement (.brakeEnd f speed) := fun _ => no_word
theorem Coded.alignEnd (f : Fin 32) : Coded.Statement (.alignEnd f) := fun _ => no_word
theorem Coded.handover (f : Fin 32) (lead : Word) : Coded.Statement (.handover f lead) := fun _ => no_word
theorem Coded.startFailure (f : Fin 32) : Coded.Statement (.startFailure f) := fun _ => no_word
theorem Coded.stopEnd (f : Fin 32) (speed : Int) : Coded.Statement (.stopEnd f speed) := fun _ => no_word
theorem Coded.lockedRotor (f : Fin 32) (speed : Int) : Coded.Statement (.lockedRotor f speed) := fun _ => no_word
theorem Coded.rotorLoss (f : Fin 32) (execs : List (Int × Int)) (vbus : Int) :
    Coded.Statement (.rotorLoss f execs vbus) := fun _ => no_word
theorem Coded.rotorRecovery (f : Fin 32) (vecs : List (Int × Int)) : Coded.Statement (.rotorRecovery f vecs) :=
  fun _ => no_word
theorem Coded.recatchTimeout (f : Fin 32) : Coded.Statement (.recatchTimeout f) := fun _ => no_word
theorem Coded.feedbackLoss (f : Fin 32) (sums : List Nat) (codes : SlotCodes) (seqs : List Nat) (vbus : Int) :
    Coded.Statement (.feedbackLoss f sums codes seqs vbus) := fun _ => no_word
theorem Coded.topologyDetect (f : Fin 32) (p1 p2 p3 : Nat) : Coded.Statement (.topologyDetect f p1 p2 p3) :=
  fun _ => no_word
theorem Coded.gridLock (f : Fin 32) (execs : List (Int × Int)) : Coded.Statement (.gridLock f execs) :=
  fun _ => no_word
theorem Coded.prechargeTimeout (f : Fin 32) : Coded.Statement (.prechargeTimeout f) := fun _ => no_word
theorem Coded.gridLoss (f : Fin 32) : Coded.Statement (.gridLoss f) := fun _ => no_word
theorem Coded.gridResync (f : Fin 32) : Coded.Statement (.gridResync f) := fun _ => no_word
theorem Coded.rectifierThreshold (f : Fin 32) (current : Int) : Coded.Statement (.rectifierThreshold f current) :=
  fun _ => no_word
theorem Coded.pilotLoss (f : Fin 32) : Coded.Statement (.pilotLoss f) := fun _ => no_word
theorem Coded.chargeGateClose (f : Fin 32) : Coded.Statement (.chargeGateClose f) := fun _ => no_word
theorem Coded.actuatorArrival (f : Fin 32) : Coded.Statement (.actuatorArrival f) := fun _ => no_word
theorem Coded.homingTimeout (f : Fin 32) : Coded.Statement (.homingTimeout f) := fun _ => no_word
theorem Coded.actuatorStall (f : Fin 32) (pos : Int) : Coded.Statement (.actuatorStall f pos) := fun _ => no_word
theorem Coded.obstructionRetry (f : Fin 32) : Coded.Statement (.obstructionRetry f) := fun _ => no_word
theorem Coded.toothTimeout (f : Fin 32) : Coded.Statement (.toothTimeout f) := fun _ => no_word
theorem Coded.interlockEvaluation : Coded.Statement (.interlockEvaluation) := fun _ => no_word
theorem Coded.permitDrop (f : Fin 32) (pos : Int) : Coded.Statement (.permitDrop f pos) := fun _ => no_word
theorem Coded.orderlyStopRampEnd (f : Fin 32) (execs : List (Int × Int)) (vbus : Int) :
    Coded.Statement (.orderlyStopRampEnd f execs vbus) := fun _ => no_word
theorem Coded.injectionEnable : Coded.Statement (.injectionEnable) := fun _ => no_word
theorem Coded.injectionStop : Coded.Statement (.injectionStop) := fun _ => no_word
theorem Coded.injectionAbort : Coded.Statement (.injectionAbort) := fun _ => no_word
theorem Coded.reelArm (n : Fin 8) : Coded.Statement (.reelArm n) := fun _ => no_word
theorem Coded.reelSoftwareTrigger (n : Fin 8) : Coded.Statement (.reelSoftwareTrigger n) := fun _ => no_word
theorem Coded.reelStop (n : Fin 8) : Coded.Statement (.reelStop n) := fun _ => no_word
theorem Coded.snarlEvent (evs : List SrcInst) : Coded.Statement (.snarlEvent evs) := fun _ => no_word
theorem Coded.wireFault (e : SrcInst) : Coded.Statement (.wireFault e) := fun _ => no_word
theorem Coded.countWindowExpiry (e : SrcInst) : Coded.Statement (.countWindowExpiry e) := fun _ => no_word
theorem Coded.retentionLatchCopy : Coded.Statement (.retentionLatchCopy) := fun _ => no_word
theorem Coded.reactionRetry (e : RetryCase) : Coded.Statement (.reactionRetry e) := fun _ => no_word
theorem Coded.reactionRetire (e : SrcInst) : Coded.Statement (.reactionRetire e) := fun _ => no_word
theorem Coded.reactionDegrade (e : SrcInst) : Coded.Statement (.reactionDegrade e) := fun _ => no_word
theorem Coded.reactionFsafe (e : SrcInst) : Coded.Statement (.reactionFsafe e) := fun _ => no_word
theorem Coded.reactionDsafe (e : SrcInst) : Coded.Statement (.reactionDsafe e) := fun _ => no_word
theorem Coded.reactionRestart (e : SrcInst) (severe : Bool) (failed : List (Fin 3)) : Coded.Statement (.reactionRestart e severe failed) :=
  fun _ => no_word
theorem Coded.soffAccept : Coded.Statement (.soffAccept) := fun _ => no_word
theorem Coded.sascAccept : Coded.Statement (.sascAccept) := fun _ => no_word
theorem Coded.safetyPinRelease (sasc : Bool) : Coded.Statement (.safetyPinRelease sasc) := fun _ => no_word
theorem Coded.functionRelease (m : Master) (v : Word) : Coded.Statement (.functionRelease m v) := fun _ => no_word
theorem Coded.fltPulseEnd : Coded.Statement (.fltPulseEnd) := fun _ => no_word
theorem Coded.distaffWatchdogBite : Coded.Statement (.distaffWatchdogBite) := fun _ => no_word
theorem Coded.bobbinWatchdogKick (m : Master) (b : Fin 3) (v : Word) : Coded.Statement (.bobbinWatchdogKick m b v) :=
  fun _ => no_word
theorem Coded.bobbinWatchdogBite (b : Fin 3) : Coded.Statement (.bobbinWatchdogBite b) := fun _ => no_word
theorem Coded.faultInjectionArm (m : Master) (v : Word) : Coded.Statement (.faultInjectionArm m v) := fun _ => no_word
theorem Coded.injectedEvent : Coded.Statement (.injectedEvent) := fun _ => no_word
theorem Coded.faultInjectionTimeout : Coded.Statement (.faultInjectionTimeout) := fun _ => no_word
theorem Coded.userSourceRaise (m : Master) (v : Word) : Coded.Statement (.userSourceRaise m v) := fun _ => no_word
theorem Coded.retainedClear (m : Master) : Coded.Statement (.retainedClear m) := fun _ => no_word
theorem Coded.modeRequestConfig (m : Asker) : Coded.Statement (.modeRequestConfig m) := fun _ => no_word
theorem Coded.modeRequestStandby (m : Asker) : Coded.Statement (.modeRequestStandby m) := fun _ => no_word
theorem Coded.modeRequestRun (m : Asker) (degraded : Bool) : Coded.Statement (.modeRequestRun m degraded) :=
  fun _ => no_word
theorem Coded.modeRequestSleep (m : Asker) : Coded.Statement (.modeRequestSleep m) := fun _ => no_word
theorem Coded.modeRequestOrderlyStop (m : Asker) : Coded.Statement (.modeRequestOrderlyStop m) := fun _ => no_word
theorem Coded.modeRequestBoot (m : Asker) : Coded.Statement (.modeRequestBoot m) := fun _ => no_word
theorem Coded.modeRequestService (m : Asker) : Coded.Statement (.modeRequestService m) := fun _ => no_word
theorem Coded.orderlyStopEnd : Coded.Statement (.orderlyStopEnd) := fun _ => no_word
theorem Coded.powerOn : Coded.Statement (.powerOn) := fun _ => no_word
theorem Coded.supplyFall (r : Rail) : Coded.Statement (.supplyFall r) := fun _ => no_word
theorem Coded.pinReset : Coded.Statement (.pinReset) := fun _ => no_word
theorem Coded.bootEnd (b : BootResult) : Coded.Statement (.bootEnd b) := fun _ => no_word
theorem Coded.selftestEnd (r : SelftestResult) : Coded.Statement (.selftestEnd r) := fun _ => no_word
theorem Coded.loadEnd (r : LoadResult) : Coded.Statement (.loadEnd r) := fun _ => no_word
theorem Coded.sleepEntry : Coded.Statement (.sleepEntry) := fun _ => no_word
theorem Coded.wake : Coded.Statement (.wake) := fun _ => no_word
theorem Coded.wakeTimer : Coded.Statement (.wakeTimer) := fun _ => no_word
theorem Coded.powerFail : Coded.Statement (.powerFail) := fun _ => no_word
theorem Coded.temperatureExtremesClear (m : Master) : Coded.Statement (.temperatureExtremesClear m) :=
  fun _ => no_word
theorem Coded.governorForce (m : Master) (v : Word) : Coded.Statement (.governorForce m v) := fun _ => no_word
theorem Coded.governorCountClear (m : Master) : Coded.Statement (.governorCountClear m) := fun _ => no_word
theorem Coded.flashAppend (m : Master) (v : Word) : Coded.Statement (.flashAppend m v) := fun _ => no_word
theorem Coded.flashProgram (m : Master) (v : Word) : Coded.Statement (.flashProgram m v) := fun _ => no_word
theorem Coded.flashErase (m : Master) (v : Word) : Coded.Statement (.flashErase m v) := fun _ => no_word
theorem Coded.flashBadOp (m : Master) (v : Word) : Coded.Statement (.flashBadOp m v) := fun _ => no_word
theorem Coded.flashWordDone (verified : Bool) : Coded.Statement (.flashWordDone verified) := fun _ => no_word
theorem Coded.flashSectorDone (erased : Bool) : Coded.Statement (.flashSectorDone erased) := fun _ => no_word
theorem Coded.distaffRecordAppend : Coded.Statement (.distaffRecordAppend) := fun _ => no_word
theorem Coded.waitingRecordWrite : Coded.Statement (.waitingRecordWrite) := fun _ => no_word
theorem Coded.sessionHello (t : Transport) (nonce : List Byte) : Coded.Statement (.sessionHello t nonce) :=
  fun _ => no_word
theorem Coded.sessionAuth (h : SesFrame) (role : BitVec 8) (mac : List Byte) : Coded.Statement (.sessionAuth h role mac) :=
  fun _ => no_word
theorem Coded.sessionKeep (h : SesFrame) : Coded.Statement (.sessionKeep h) := fun _ => no_word
theorem Coded.sessionBye (h : SesFrame) : Coded.Statement (.sessionBye h) := fun _ => no_word
theorem Coded.sessionRead (h : SesFrame) (addr : Word) (words : Nat) : Coded.Statement (.sessionRead h addr words) :=
  fun _ => no_word
theorem Coded.sessionWrite (h : SesFrame) (addr : Word) (words : List Word) : Coded.Statement (.sessionWrite h addr words) :=
  fun _ => no_word
theorem Coded.sessionMode (h : SesFrame) (req : BitVec 4) : Coded.Statement (.sessionMode h req) := fun _ => no_word
theorem Coded.sessionStatus (h : SesFrame) : Coded.Statement (.sessionStatus h) := fun _ => no_word
theorem Coded.sessionJread (h : SesFrame) (from_ : Word) : Coded.Statement (.sessionJread h from_) := fun _ => no_word
theorem Coded.sessionIdent (h : SesFrame) : Coded.Statement (.sessionIdent h) := fun _ => no_word
theorem Coded.sessionErase (h : SesFrame) (sector count : Nat) : Coded.Statement (.sessionErase h sector count) :=
  fun _ => no_word
theorem Coded.sessionProg (h : SesFrame) (offset : Nat) (data : List Byte) : Coded.Statement (.sessionProg h offset data) :=
  fun _ => no_word
theorem Coded.sessionVerify (h : SesFrame) (arb : Bool) (fuses : List (BitVec 9 × Word)) (struck : List (BitVec 18 × Bool)) :
    Coded.Statement (.sessionVerify h arb fuses struck) := fun _ => no_word
theorem Coded.sessionRollback (h : SesFrame) (struck : List (BitVec 18 × Bool)) :
    Coded.Statement (.sessionRollback h struck) := fun _ => no_word
theorem Coded.sessionLdrun (h : SesFrame) (r : Supplied) : Coded.Statement (.sessionLdrun h r) := fun _ => no_word
theorem Coded.sessionTimeout : Coded.Statement (.sessionTimeout) := fun _ => no_word
theorem Coded.sessionTransportLoss (t : Transport) : Coded.Statement (.sessionTransportLoss t) := fun _ => no_word
theorem Coded.lockoutExpiry : Coded.Statement (.lockoutExpiry) := fun _ => no_word
theorem Coded.frameReceive (l : Fin 18) (r : RxFrame) : Coded.Statement (.frameReceive l r) := fun _ => no_word
theorem Coded.transmitKick (l : Fin 18) : Coded.Statement (.transmitKick l) := fun _ => no_word
theorem Coded.descriptorEnd (l : Fin 18) (result : BitVec 2) (tsSec tsNs : Word) : Coded.Statement (.descriptorEnd l result tsSec tsNs) :=
  fun _ => no_word
theorem Coded.linkReset (l : Fin 18) : Coded.Statement (.linkReset l) := fun _ => no_word
theorem Coded.timeOffsetWrite (m : Master) (v : Word) : Coded.Statement (.timeOffsetWrite m v) := fun _ => no_word
theorem Coded.timeSecondsRead (m : Master) : Coded.Statement (.timeSecondsRead m) := fun _ => no_word
theorem Coded.canBusOff (i : Fin 4) : Coded.Statement (.canBusOff i) := fun _ => no_word
theorem Coded.canBusOffRecovery (i : Fin 4) : Coded.Statement (.canBusOffRecovery i) := fun _ => no_word
theorem Coded.linkDown (l : Fin 18) : Coded.Statement (.linkDown l) := fun _ => no_word
theorem Coded.hspiRead (addr : Word) (words : Nat) (ready : Bool) : Coded.Statement (.hspiRead addr words ready) :=
  fun _ => no_word
theorem Coded.hspiWrite (addr : Word) (words : List Word) : Coded.Statement (.hspiWrite addr words) :=
  fun _ => no_word
theorem Coded.hspiStatus : Coded.Statement (.hspiStatus) := fun _ => no_word
theorem Coded.uartIdleClose (i : Fin 2) : Coded.Statement (.uartIdleClose i) := fun _ => no_word
theorem Coded.sentTimeout (i : Fin 4) : Coded.Statement (.sentTimeout i) := fun _ => no_word
theorem Coded.gpioSet (m : Master) (v : Word) : Coded.Statement (.gpioSet m v) := fun _ => no_word
theorem Coded.gpioClr (m : Master) (v : Word) : Coded.Statement (.gpioClr m v) := fun _ => no_word
theorem Coded.legLinkRestored (die : Fin 36) : Coded.Statement (.legLinkRestored die) := fun _ => no_word
theorem Coded.pwmCompareEdge (n : Fin 64) (fine : Fin 32) : Coded.Statement (.pwmCompareEdge n fine) :=
  fun _ => no_word
theorem Coded.refreshLowEnd (n : Fin 64) : Coded.Statement (.refreshLowEnd n) := fun _ => no_word
theorem Coded.deadTimeFloorEnd (n : Fin 64) (sec : Section) : Coded.Statement (.deadTimeFloorEnd n sec) :=
  fun _ => no_word
theorem Coded.excitationStep (x : Fin 2) (step : Fin 64) : Coded.Statement (.excitationStep x step) :=
  fun _ => no_word
theorem Coded.controlPilotEdge (level : Bool) : Coded.Statement (.controlPilotEdge level) := fun _ => no_word
theorem Coded.resetPinRelease : Coded.Statement (.resetPinRelease) := fun _ => no_word
theorem Coded.modeRequestNoRow (m : Asker) (req : BitVec 4) : Coded.Statement (.modeRequestNoRow m req) :=
  fun _ => no_word
theorem Coded.linkUp (l : Fin 18) : Coded.Statement (.linkUp l) := fun _ => no_word

end Sys2Proof.Laws
end

