-- ==== Sys2Proof/Laws/Skein.lean ====
section
/-! SUPPORT. The Skein: what its operations do to its bytes, that they keep its canonical form, and what they leave
alone. -/

namespace Sys2Proof.Machine

variable (d : Dev)

/-! ### The Skein's part of the device -/

@[simp] theorem Dev.modSk_now (g : SkeinSt → SkeinSt) : (d.modSk g).now = d.now := rfl
@[simp] theorem Dev.modSk_regs (g : SkeinSt → SkeinSt) : (d.modSk g).regs = d.regs := rfl
@[simp] theorem Dev.modSk_lastAccess (g : SkeinSt → SkeinSt) : (d.modSk g).lastAccess = d.lastAccess := rfl
@[simp] theorem Dev.modSk_reports (g : SkeinSt → SkeinSt) : (d.modSk g).reports = d.reports := rfl
@[simp] theorem Dev.modSk_freeCtr (g : SkeinSt → SkeinSt) : (d.modSk g).freeCtr = d.freeCtr := rfl
@[simp] theorem Dev.modSk_ms (g : SkeinSt → SkeinSt) : (d.modSk g).ms = d.ms := rfl
@[simp] theorem Dev.modSk_cr (g : SkeinSt → SkeinSt) : (d.modSk g).cr = d.cr := rfl
@[simp] theorem Dev.modSk_md (g : SkeinSt → SkeinSt) : (d.modSk g).md = d.md := rfl
@[simp] theorem Dev.modSk_pt (g : SkeinSt → SkeinSt) : (d.modSk g).pt = d.pt := rfl
@[simp] theorem Dev.modSk_ps (g : SkeinSt → SkeinSt) : (d.modSk g).ps = d.ps := rfl
@[simp] theorem Dev.modSk_tn (g : SkeinSt → SkeinSt) : (d.modSk g).tn = d.tn := rfl
@[simp] theorem Dev.modSk_sn (g : SkeinSt → SkeinSt) : (d.modSk g).sn = d.sn := rfl
@[simp] theorem Dev.modSk_pl (g : SkeinSt → SkeinSt) : (d.modSk g).pl = d.pl := rfl
@[simp] theorem Dev.modSk_su (g : SkeinSt → SkeinSt) : (d.modSk g).su = d.su := rfl
@[simp] theorem Dev.modSk_fl (g : SkeinSt → SkeinSt) : (d.modSk g).fl = d.fl := rfl
@[simp] theorem Dev.modSk_sv (g : SkeinSt → SkeinSt) : (d.modSk g).sv = d.sv := rfl
@[simp] theorem Dev.modSk_lk (g : SkeinSt → SkeinSt) : (d.modSk g).lk = d.lk := rfl
@[simp] theorem Dev.modSk_sk (g : SkeinSt → SkeinSt) : (d.modSk g).sk = g d.sk := rfl
@[simp] theorem Dev.reg_modSk (g : SkeinSt → SkeinSt) (a : Nat) : (d.modSk g).reg a = d.reg a := rfl

/-! ### Bytes -/

theorem Dev.byte_setByte (a x : Nat) (b : Byte) : (d.setByte a b).byte x = if x = a then b else d.byte x :=
  smGet_smSet _ _ a x b

/-- Writing a byte keeps the canonical form. -/
theorem Memory.wf_setByte (a : Nat) (b : Byte) (h : Memory.wf d.sk.mem = true) : Memory.wf (d.setByte a b).sk.mem = true :=
  smWf_smSet _ _ a b h

theorem Dev.byte_setBytes (a x : Nat) (bs : List Byte) :
    (d.setBytes a bs).byte x = if a ≤ x ∧ x < a + bs.length then bs.getD (x - a) 0 else d.byte x := by
  induction bs generalizing d a with
  | nil =>
    have : ¬ (a ≤ x ∧ x < a + ([] : List Byte).length) := by simp
    rw [if_neg this]; rfl
  | cons b bs ih =>
    rw [Dev.setBytes, ih, Dev.byte_setByte]
    simp only [List.length_cons]
    by_cases h1 : x = a
    · subst h1
      simp
    · by_cases h2 : a + 1 ≤ x ∧ x < a + 1 + bs.length
      · have h3 : a ≤ x ∧ x < a + (bs.length + 1) := by omega
        have h4 : x - a = (x - (a + 1)) + 1 := by omega
        rw [if_pos h2, if_pos h3, h4, List.getD_cons_succ]
      · have h3 : ¬ (a ≤ x ∧ x < a + (bs.length + 1)) := by omega
        rw [if_neg h2, if_neg h3, if_neg h1]

theorem Memory.wf_setBytes (a : Nat) (bs : List Byte) (h : Memory.wf d.sk.mem = true) :
    Memory.wf (d.setBytes a bs).sk.mem = true := by
  induction bs generalizing d a with
  | nil => exact h
  | cons b bs ih => exact ih _ _ (Memory.wf_setByte d a b h)

/-! ### What the Skein's operations leave alone -/

/-- Two devices that differ only as an access of the Skein may make them differ: its marks, waits and statuses, the
registers of its block, what the prefetchers hold, the live coefficient copies, and reports. -/
structure Dev.skNear (d e : Dev) : Prop where
  mem : e.sk.mem = d.sk.mem
  locks : e.sk.locks = d.sk.locks
  hanks : e.sk.hanks = d.sk.hanks
  regs : ∀ a, ¬ (0x37000000 ≤ a ∧ a < 0x37001000) → e.reg a = d.reg a
  now : e.now = d.now
  lastAccess : e.lastAccess = d.lastAccess
  freeCtr : e.freeCtr = d.freeCtr
  ms : e.ms = d.ms
  loops : e.cr.loops = d.cr.loops
  bobbins : e.cr.bobbins = d.cr.bobbins
  pt : e.pt = d.pt
  ps : e.ps = d.ps
  tn : e.tn = d.tn
  sn : e.sn = d.sn
  pl : e.pl = d.pl
  su : e.su = d.su
  fl : e.fl = d.fl
  sv : e.sv = d.sv
  lk : e.lk = d.lk
  spn : ∀ p, ∃ live, e.spn p = { d.spn p with live := live }

theorem Dev.skNear.rfl {d : Dev} : d.skNear d where
  mem := by rfl
  locks := by rfl
  hanks := by rfl
  regs _ _ := by rfl
  now := by rfl
  lastAccess := by rfl
  freeCtr := by rfl
  ms := by rfl
  loops := by rfl
  bobbins := by rfl
  pt := by rfl
  ps := by rfl
  tn := by rfl
  sn := by rfl
  pl := by rfl
  su := by rfl
  fl := by rfl
  sv := by rfl
  lk := by rfl
  spn p := ⟨(d.spn p).live, by rfl⟩

theorem Dev.skNear.trans {d e f : Dev} (h : d.skNear e) (k : e.skNear f) : d.skNear f where
  mem := k.mem.trans h.mem
  locks := k.locks.trans h.locks
  hanks := k.hanks.trans h.hanks
  regs a ha := (k.regs a ha).trans (h.regs a ha)
  now := k.now.trans h.now
  lastAccess := k.lastAccess.trans h.lastAccess
  freeCtr := k.freeCtr.trans h.freeCtr
  ms := k.ms.trans h.ms
  loops := k.loops.trans h.loops
  bobbins := k.bobbins.trans h.bobbins
  pt := k.pt.trans h.pt
  ps := k.ps.trans h.ps
  tn := k.tn.trans h.tn
  sn := k.sn.trans h.sn
  pl := k.pl.trans h.pl
  su := k.su.trans h.su
  fl := k.fl.trans h.fl
  sv := k.sv.trans h.sv
  lk := k.lk.trans h.lk
  spn p := by
    obtain ⟨x, hx⟩ := h.spn p
    obtain ⟨y, hy⟩ := k.spn p
    exact ⟨y, by rw [hy, hx]⟩

/-- Changing only marks, waits, statuses, broken lines, draws or grants. -/
theorem Dev.skNear.ofSk {d : Dev} {f : SkeinSt → SkeinSt} (hm : (f d.sk).mem = d.sk.mem)
    (hl : (f d.sk).locks = d.sk.locks) (hh : (f d.sk).hanks = d.sk.hanks) : d.skNear (d.modSk f) where
  mem := hm
  locks := hl
  hanks := hh
  regs _ _ := by rfl
  now := by rfl
  lastAccess := by rfl
  freeCtr := by rfl
  ms := by rfl
  loops := by rfl
  bobbins := by rfl
  pt := by rfl
  ps := by rfl
  tn := by rfl
  sn := by rfl
  pl := by rfl
  su := by rfl
  fl := by rfl
  sv := by rfl
  lk := by rfl
  spn p := ⟨(d.spn p).live, by rfl⟩

/-- Changing a register of the Skein's block. -/
theorem Dev.skNear.ofReg {d : Dev} {a : Nat} {w : Word} (ha : 0x37000000 ≤ a ∧ a < 0x37001000) :
    d.skNear (d.setReg a w) where
  mem := by rfl
  locks := by rfl
  hanks := by rfl
  regs x hx := Dev.reg_setReg_other _ _ (fun h => hx (h ▸ ha))
  now := by rfl
  lastAccess := by rfl
  freeCtr := by rfl
  ms := by rfl
  loops := by rfl
  bobbins := by rfl
  pt := by rfl
  ps := by rfl
  tn := by rfl
  sn := by rfl
  pl := by rfl
  su := by rfl
  fl := by rfl
  sv := by rfl
  lk := by rfl
  spn p := ⟨(d.spn p).live, by rfl⟩

theorem Dev.skNear.ofRaise {d : Dev} (s i : Nat) : d.skNear (d.raise s i) where
  mem := by simp
  locks := by simp
  hanks := by simp
  regs a _ := by simp
  now := by simp
  lastAccess := by simp
  freeCtr := by simp
  ms := by simp
  loops := by simp
  bobbins := by simp
  pt := by simp
  ps := by simp
  tn := by simp
  sn := by simp
  pl := by simp
  su := by simp
  fl := by simp
  sv := by simp
  lk := by simp
  spn p := ⟨(d.spn p).live, by simp⟩

theorem Dev.skNear.ofWhorl {d : Dev} (n : Nat) (w : Whorl) : d.skNear (d.setWhorl n w) where
  mem := by rfl
  locks := by rfl
  hanks := by rfl
  regs _ _ := by rfl
  now := by rfl
  lastAccess := by rfl
  freeCtr := by rfl
  ms := by rfl
  loops := by rfl
  bobbins := by rfl
  pt := by rfl
  ps := by rfl
  tn := by rfl
  sn := by rfl
  pl := by rfl
  su := by rfl
  fl := by rfl
  sv := by rfl
  lk := by rfl
  spn p := ⟨(d.spn p).live, by rfl⟩

theorem Dev.skNear.ofLive {d : Dev} (p : Nat) (g : Spindle → SMap DWord) :
    d.skNear (d.modSpn p fun s => { s with live := g s }) where
  mem := by rfl
  locks := by rfl
  hanks := by rfl
  regs _ _ := by rfl
  now := by rfl
  lastAccess := by rfl
  freeCtr := by rfl
  ms := by rfl
  loops := by rfl
  bobbins := by rfl
  pt := by rfl
  ps := by rfl
  tn := by rfl
  sn := by rfl
  pl := by rfl
  su := by rfl
  fl := by rfl
  sv := by rfl
  lk := by rfl
  spn q := by
    unfold Dev.modSpn
    rw [Dev.spn_setSpn]
    split
    · next h => subst h; exact ⟨g (d.spn q), by rfl⟩
    · exact ⟨(d.spn q).live, by rfl⟩

/-- A fold of near steps is near. -/
theorem Dev.skNear.foldl {α : Type} {f : Dev → α → Dev} (h : ∀ (e : Dev) (x : α), e.skNear (f e x)) (xs : List α) (d : Dev) :
    d.skNear (xs.foldl f d) := by
  induction xs generalizing d with
  | nil => exact Dev.skNear.rfl
  | cons x xs ih => exact (h d x).trans (ih _)

theorem Dev.skNear.ite {d e f : Dev} {c : Prop} [Decidable c] (h : d.skNear e) (k : d.skNear f) :
    d.skNear (if c then e else f) := by split <;> assumption

theorem Dev.skNear_setEcc (a : Nat) (e : Ecc) : d.skNear (d.setEcc a e) := Dev.skNear.ofSk rfl rfl rfl

theorem Dev.skNear_setStatus (req : Nat) (st : DrawStatus) : d.skNear (d.setStatus req st) :=
  Dev.skNear.ofSk rfl rfl rfl

theorem Dev.skNear_setBroken (l : Nat) (b : Bool) : d.skNear (d.setBroken l b) := Dev.skNear.ofSk rfl rfl rfl

theorem Dev.skNear_addWait (w : LockWait) : d.skNear (d.addWait w) := Dev.skNear.ofSk rfl rfl rfl

theorem Dev.skNear_noteCe (a : Nat) : d.skNear (d.noteCe a) :=
  ((Dev.skNear_setEcc d a .good).trans (Dev.skNear.ofReg (by decide))).trans
    ((Dev.skNear.ofReg (by decide)).trans (Dev.skNear.ofRaise _ _))

theorem Dev.skNear_noteUe (a : Nat) (b : Bool) : d.skNear (d.noteUe a b) := by
  have h1 : d.skNear (d.setRbit Reg.SKN_STAT 1 true) := Dev.skNear.ofReg (by decide)
  have h2 : ∀ e : Dev, e.skNear (e.when b fun d => d.setRbit Reg.SKN_STAT 2 true) := by
    intro e; unfold Dev.when
    exact Dev.skNear.ite (Dev.skNear.ofReg (by decide)) Dev.skNear.rfl
  exact (h1.trans (h2 _)).trans ((Dev.skNear.ofReg (by decide)).trans (Dev.skNear.ofRaise _ _))

/-- Checking a word changes marks, the block's registers and reports at most. -/
theorem Dev.skNear_checkWord (a : Nat) : d.skNear (d.checkWord a).1 := by
  unfold Dev.checkWord
  split
  · exact Dev.skNear.rfl
  · exact Dev.skNear_noteCe d a
  · exact Dev.skNear_noteUe d a _
  · exact Dev.skNear_noteUe d a _

theorem Dev.skNear_checkWords (a n : Nat) : d.skNear (d.checkWords a n).1 := by
  induction n generalizing d a with
  | zero => exact Dev.skNear.rfl
  | succ n ih => exact (Dev.skNear_checkWord d a).trans (ih _ _)

theorem Dev.skNear_slotNotices (a n : Nat) : d.skNear (d.slotNotices a n) := by
  unfold Dev.slotNotices
  refine Dev.skNear.foldl (fun e i => ?_) _ _
  dsimp only
  split
  · exact Dev.skNear.ofWhorl _ _
  · exact Dev.skNear.rfl

theorem Dev.skNear_liveUpdate (k : Nat) (h : Hank) (a n : Nat) : d.skNear (d.liveUpdate k h a n) := by
  unfold Dev.liveUpdate
  refine Dev.skNear.foldl (fun e p => ?_) _ _
  split
  · refine Dev.skNear.foldl (fun e i => ?_) _ _
    split
    · exact Dev.skNear.ofLive p fun s => smSet (fun _ => 0) s.live _ _
    · exact Dev.skNear.rfl
  · exact Dev.skNear.rfl

theorem Dev.skNear_afterWrite (a n : Nat) : d.skNear (d.afterWrite a n) := by
  unfold Dev.afterWrite
  split
  · split
    · exact Dev.skNear_slotNotices d a n
    · split
      · exact Dev.skNear_liveUpdate d _ _ a n
      · exact Dev.skNear.rfl
  · exact Dev.skNear.rfl

theorem Dev.skNear_copyTouch (a n : Nat) : d.skNear (d.copyTouch a n) := by
  exact Dev.skNear.ofSk rfl rfl rfl

theorem Dev.skNear_clearMarks (req a n : Nat) : d.skNear (d.clearMarks req a n) := by
  unfold Dev.clearMarks
  refine Dev.skNear.foldl (fun e l => ?_) _ _
  split
  · exact Dev.skNear_setBroken e l false
  · exact Dev.skNear.rfl

/-- A write of bytes is those bytes set and what an access may change beside. -/
theorem Dev.skNear_writeBytes (req a : Nat) (bs : List Byte) : (d.setBytes a bs).skNear (d.writeBytes req a bs) := by
  unfold Dev.writeBytes Dev.putBytes
  refine Dev.skNear.trans ?_
    (((Dev.skNear_copyTouch _ _ _).trans (Dev.skNear_clearMarks _ _ _ _)).trans (Dev.skNear_afterWrite _ _ _))
  refine Dev.skNear.foldl (fun e i => ?_) _ _
  dsimp only
  split
  · exact Dev.skNear_setEcc e _ _
  · exact Dev.skNear.rfl

/-- What a write does to the bytes: exactly the written ones. -/
theorem Dev.byte_writeBytes (req a x : Nat) (bs : List Byte) :
    (d.writeBytes req a bs).byte x = if a ≤ x ∧ x < a + bs.length then bs.getD (x - a) 0 else d.byte x := by
  rw [← Dev.byte_setBytes]
  unfold Dev.byte
  rw [(Dev.skNear_writeBytes d req a bs).mem]

theorem Memory.wf_writeBytes (req a : Nat) (bs : List Byte) (h : Memory.wf d.sk.mem = true) :
    Memory.wf (d.writeBytes req a bs).sk.mem = true := by
  rw [(Dev.skNear_writeBytes d req a bs).mem]; exact Memory.wf_setBytes d a bs h

theorem Dev.skNear_noteGrant (bank cls req : Nat) : d.skNear (d.noteGrant bank cls req) := Dev.skNear.ofSk rfl rfl rfl

/-! ### Accesses of units -/

/-- In a bank where no request is raised, an access has its turn at once (R56). -/
theorem Dev.clearWay_idle (bank cls req : Nat) (h : d.drawsOf bank = []) : d.clearWay bank cls req = (d, true) := by
  simp [Dev.clearWay, h]

/-- A load in an idle bank leaves the bytes. -/
theorem Dev.skNear_load (req cls a n : Nat) (h : d.drawsOf (bankOf a) = []) : d.skNear (d.load req cls a n).1 := by
  unfold Dev.load
  simp only [h, List.isEmpty_nil, if_true]
  unfold Dev.loadAt
  split
  · exact Dev.skNear_setStatus _ _ _
  · split
    · exact Dev.skNear_setStatus _ _ _
    · split
      · exact Dev.skNear_setStatus _ _ _
      · rw [Dev.clearWay_idle d _ _ _ h]
        simp only [if_true]
        split
        · exact ((Dev.skNear_noteGrant d _ _ _).trans (Dev.skNear_checkWords _ _ _)).trans (Dev.skNear_setStatus _ _ _)
        · exact ((Dev.skNear_noteGrant d _ _ _).trans (Dev.skNear_checkWords _ _ _)).trans (Dev.skNear_setStatus _ _ _)

/-- A store that is granted writes its bytes or, where the word it would be merged with is bad, none (R42). -/
theorem Dev.skNear_storeNow (req a : Nat) (bs : List Byte) :
    d.skNear (d.storeNow req a bs []).1 ∨ (d.setBytes a bs).skNear (d.storeNow req a bs []).1 ∨
      ((d.checkWord a).1.setBytes a bs).skNear (d.storeNow req a bs []).1 := by
  unfold Dev.storeNow
  by_cases hp : (decide (a % 4 ≠ 0) || decide (bs.length % 4 ≠ 0)) = true
  · simp only [hp, if_true]
    split
    · exact .inr (.inr ((Dev.skNear_writeBytes _ _ _ _).trans (Dev.skNear_setStatus _ _ _)))
    · exact .inl ((Dev.skNear_checkWord _ _).trans (Dev.skNear_setStatus _ _ _))
  · simp only [hp]
    exact .inr (.inl ((Dev.skNear_writeBytes _ _ _ _).trans (Dev.skNear_setStatus _ _ _)))

/-- A request raised in a bank waits there until a draw is served by itself. -/
theorem Dev.skNear_setDraws (bank : Nat) (q : List Draw) : d.skNear (d.setDraws bank q) := Dev.skNear.ofSk rfl rfl rfl

/-- A granted store keeps the Skein's canonical form. -/
theorem Memory.wf_storeNow (req a : Nat) (bs : List Byte) (h : Memory.wf d.sk.mem = true) :
    Memory.wf (d.storeNow req a bs []).1.sk.mem = true := by
  rcases Dev.skNear_storeNow d req a bs with k | k | k
  · rw [k.mem]; exact h
  · rw [k.mem]; exact Memory.wf_setBytes d a bs h
  · rw [k.mem]
    refine Memory.wf_setBytes _ a bs ?_
    rw [(Dev.skNear_checkWord d a).mem]; exact h

end Sys2Proof.Machine
end

