-- ==== Sys2Proof/Tests/Slice0.lean ====
section
/-! SUPPORT. Small tests of the model: ill-formed commands, words and worked examples of the manual, and for every statement
with hypotheses a witness that meets them. -/

namespace Sys2Proof.Tests

set_option maxRecDepth 20000
set_option Elab.async false

open Sys2Proof Sys2Proof.Machine

/-! ### Claims over every key of a map are decided on its listed keys -/

/-- A key that a map does not list reads as its default. -/
theorem smGet_absent {α : Type} {dflt : Nat → α} (m : SMap α) (k : Nat) (h : ∀ e ∈ m, e.1 ≠ k) :
    smGet dflt m k = dflt k := by
  induction m with
  | nil => rfl
  | cons e m ih =>
    obtain ⟨j, v⟩ := e
    have := h (j, v) (by simp)
    rw [smGet]
    simp_all

/-- What holds of every default holds of every value once it holds of the listed ones. -/
theorem smGet_all_iff {α : Type} {dflt : Nat → α} (m : SMap α) {P : α → Prop} (h : ∀ k, P (dflt k)) :
    (∀ k, P (smGet dflt m k)) ↔ ∀ e ∈ m, P (smGet dflt m e.1) := by
  refine ⟨fun g e _ => g e.1, fun g k => ?_⟩
  by_cases hk : ∃ e ∈ m, e.1 = k
  · obtain ⟨e, he, rfl⟩ := hk; exact g e he
  · rw [smGet_absent m k (by simpa using fun a b hm he => hk ⟨(a, b), hm, he⟩)]; exact h k

/-- The claims over every bank, Whorl, word and hank come down to the listed ones. -/
theorem quiet_iff (d : Dev) : d.quiet ↔ ∀ e ∈ d.sk.draws, d.drawsOf e.1 = [] :=
  smGet_all_iff (P := (· = [])) d.sk.draws fun _ => rfl

theorem noNotice_iff (d : Dev) : (∀ n, (d.whorl n).notice = false) ↔ ∀ e ∈ d.md.whorls, (d.whorl e.1).notice = false :=
  smGet_all_iff (P := fun w : Whorl => w.notice = false) d.md.whorls fun _ => rfl

theorem hanksIn_iff (d : Dev) : (∀ k, (d.hank k).start + (d.hank k).bytes ≤ 0x1000000) ↔
    ∀ e ∈ d.sk.hanks, (d.hank e.1).start + (d.hank e.1).bytes ≤ 0x1000000 :=
  smGet_all_iff (P := fun h : Hank => h.start + h.bytes ≤ 0x1000000) d.sk.hanks fun _ => by decide

theorem eccGood_iff (d : Dev) : (∀ a, d.ecc a = .good) ↔
    ∀ e ∈ d.sk.ecc, smGet (fun _ => Ecc.good) d.sk.ecc e.1 = .good := by
  rw [← smGet_all_iff (P := (· = Ecc.good)) d.sk.ecc fun _ => rfl]
  exact ⟨fun h k => by simpa [Dev.ecc] using h (4 * k), fun h a => h (a / 4)⟩

theorem readsClean_iff (d : Dev) (req : Nat) : d.readsClean req ↔
    (∀ e ∈ d.sk.draws, d.drawsOf e.1 = []) ∧ d.isCut req = false ∧
      (∀ e ∈ d.sk.ecc, smGet (fun _ => Ecc.good) d.sk.ecc e.1 = .good) ∧
      ∀ e ∈ d.sk.hanks, (d.hank e.1).start + (d.hank e.1).bytes ≤ 0x1000000 := by
  rw [Dev.readsClean, quiet_iff, eccGood_iff, hanksIn_iff]

theorem draws_all_iff (d : Dev) (P : Draw → Prop) :
    (∀ k, ∀ x ∈ d.drawsOf k, P x) ↔ ∀ e ∈ d.sk.draws, ∀ x ∈ d.drawsOf e.1, P x :=
  smGet_all_iff (P := fun q : List Draw => ∀ x ∈ q, P x) d.sk.draws fun _ => by simp

theorem hanks_iff (d : Dev) (P : Hank → Prop) : (∀ k v, (k, v) ∈ d.sk.hanks → P v) ↔ ∀ e ∈ d.sk.hanks, P e.2 :=
  ⟨fun h e he => h e.1 e.2 he, fun h k v he => h (k, v) he⟩

theorem core_iff (t : DrawTag) : (∃ c pc ea l, t = .core c pc ea l) ↔
    (match t with | .core .. => true | _ => false) = true := by
  cases t <;> simp

theorem record_iff (t : DrawTag) : (∀ l f e, t ≠ .record l f e) ↔ (match t with | .record .. => false | _ => true) = true := by
  cases t <;> simp

theorem copyAway_iff (d : Dev) (cls bank : Nat) : d.copyAway cls bank ↔ (cls = 4 → (d.sk.copy.all fun c => decide (c.bank ≠ bank)) = true) := by
  simp only [Dev.copyAway, Option.all_eq_true, decide_eq_true_eq]

theorem noBlock_iff (d : Dev) (req : Nat) : (∀ i, d.blockedLine req i 1 = none) ↔
    ∀ e ∈ d.sk.locks, ∀ l ∈ e.2, d.lockedBy req l = false := by
  have key : ∀ i, d.blockedLine req i 1 = none ↔ d.lockedBy req (i / 64) = false := by
    intro i; simp [Dev.blockedLine, linesIn]
  simp only [key]
  refine ⟨fun h e _ l _ => by simpa using h (64 * l), fun h i => ?_⟩
  by_contra hb
  obtain ⟨e, he, h2⟩ := List.any_eq_true.1 (by simpa [Dev.lockedBy] using hb :
    (d.sk.locks.any fun e => decide (e.2 = some (i / 64)) && decide (lockIdx req ≠ some e.1)) = true)
  have h3 : e.2 = some (i / 64) := by simp at h2; exact h2.1
  have := h e he (i / 64) (by simp [h3])
  simp [this] at hb

theorem pins_iff (d : Dev) : (∀ i, smGet (fun _ => none) d.md.pinAt i = none) ↔
    ∀ e ∈ d.md.pinAt, smGet (fun _ => none) d.md.pinAt e.1 = none :=
  smGet_all_iff (P := (· = none)) d.md.pinAt fun _ => rfl

theorem since_iff (x : Hall) : (∀ i, x.since i = none) ↔ ∀ e ∈ x.pend, x.since e.1 = none :=
  smGet_all_iff (P := (· = none)) x.pend fun _ => rfl

/-! ### Devices of the tests -/

/-- The device right after reset, with the PLL locked. -/
def dev0 : Dev := State.reset.dev.setRbit Reg.CLK_STAT 0 true

/-- A device whose Bobbin 2 runs at address 0. -/
def bobDev : Dev := dev0.modBob 2 fun z => { z with running := true }

/-- A device whose Spindle 17 runs loop 3 in its program window. -/
def spnDev : Dev := dev0.modSpn 17 fun z => { z with slot := some 3, entry := some .body, pbeats := 1024 }

/-- A valid function entry: leg 63, command line at 0xFFFF00, status beat at 0xFFFF40. -/
def entry0 : FnEntry :=
  { v := true, ports := 1#64 <<< 63, lanes := 0, split := 0, dset := false, ascCap := true, safe := 1, cmdl := 0xFFFF00,
    statl := 0xFFFF40, loops := [] }

/-- A description of a motor function with small bounds. -/
def desc0 : FnDesc :=
  { kind := .motor, ascCapable := true, charging := false, park := false, incremental := false, kbase := none,
    tseq := 1000000000, vemin := 5, nzero := 10, ncatch := 20, iramp := 1, armp := 1, nho := 50, hoband := 5,
    nhop := 1, tal := 3, tbrk := 7, thof := 1, nstart := 2, tstrt := 4, adec := 1, aqs := 1, vdec := 1, vdecw := 1,
    nol := 30, nstop := 8, tstop := 1,
    tlock := 1, tqlk := 40, lkact := false, psi := 1, wrated := 2 ^ 31, vgn := 1000, vglo := 900, vghi := 1100,
    nlock := 1, tpre := 6, armpv := 1, isrlo := 10, isrhi := 20, bothTopologies := true, tpos := 2, epw := 3, nobs := 1,
    ehome1 := true, ihold := 1, istop := 1, ptooth := 1, pdrop := 0, land := none, landC := false,
    mo := { sensor := .resolver, unit := 0, dtc := false, irated := 2 ^ 31, ial := 1, thal := 0, tho := 1, nloss := 1,
            dwjmp := 1, tasc := 3, ttq := 1, nfb := 3, tfbq := 5, nfrz := 4, rb := 1000, nval := 2,
            kp := 0, ki := 0, kw := 0, rlo := 1, rhi := 1, rs := 1, lq := 1, fbase := 1000, zoff := 0, imax := 100, tmax := 100, pilim := 100,
            ctgt := 1000, curve := none },
    cv := { flo := 10, fhi := 20, tgrid := 3, tresync := 4, idmax := 5, irmax := 5, qref := 0, zcw := 100, kp := 0,
            ki := 0, lo := 0, hi := 0, dab := false, per := 1000, phmax := 1000, dstep := 10,
            single := false, sron := 0, sroff := 0 },
    ch := { rpu := 330, ibase := 1000, tblo := -100, tbhi := 800, tbhys := 50, battAddr := none },
    ac := { kstep := 1, vmax := 100, amax := 10, vstall := 1, tstop := 3, ihome := 5, vhome := 10, thome := 9,
            ttooth := 4 } }

/-- The same without a position sensor. -/
def descO : FnDesc := { desc0 with mo := { desc0.mo with sensor := .observer } }

/-- A committed period in which nothing moves. -/
def obs0 : SeqObs :=
  { committed := true, duties := [], speed := 0, demand := 0, current := 0, vbus := 0, pos := 0, dlim := false, moved := false,
    commut := false, z := false, code := 0, execs := [], sprs := [],
    g := { amp := 0, freq := 0, theta := 0, shift := 0, cmpA := 0, cmpB := 0 },
    c := { batt := none, cp := [], vpp := 0, vpu := 0, setMa := 0 } }

/-- What BOOT, SELFTEST and LOAD find on a device in order. -/
def boot0 : BootResult := { c25 := 0xFFF, slope := 0xFFF, fuses := [], fuseParity := true, extRef := true, struck := [] }

def selftest0 : SelftestResult :=
  { failed := [], scans := List.replicate 18 [32768, 27306, 18022], portFails := [63], volts := List.replicate 24 0 }

def load0 : LoadResult := { descs := [(31, desc0)] }

/-- A received frame of 64 bytes, without error. -/
def frame0 : RxFrame := { ok := true, data := List.replicate 64 0x55, flags := 0, info := 0, tsSec := 0, tsNs := 0 }

/-- A device with one function, F31, of a description. -/
def fnDev (k : FnDesc) : Dev := dev0.modFn 31 fun z => { z with entry := some entry0, desc := some k }

/-- A device with an open USB session of a role, whose next SEQ is 0. -/
def sesDev (r : Nat) : Dev := dev0.modSv fun z => { z with role := some r, link := some .usb, seq := 0xFFFF }

/-- The same in SERVICE, entered from LOAD, where the session may write the flash. -/
def flashDev : Dev := (sesDev 3).setReg Reg.DST_MODE 0x30A

/-- A device in CONFIG with n flash words or sectors set up from 0x90000 of the flash. -/
def nvmDev (n : Nat) : Dev :=
  (((dev0.setFld Reg.DST_MODE 3 0 4).setFld Reg.NVM_LEN 10 0 n).setFld Reg.NVM_DST 22 5 0x4800).setRbit Reg.THM_STAT 8 true

/-- The device after a command; the device itself where the command stops the block. -/
def after (i : Instr) (d : Dev) : Dev :=
  match exec i ⟨d, []⟩ with
  | .next t => t.dev
  | _ => d

/-! ### Ill-formed commands are refused by the check -/
theorem test_wf_csr_forms :
    Instr.wf (.mfc (.bob 0) ⟨0x4000, 0, 1⟩) = false ∧ Instr.wf (.mtc (.bob 0) ⟨0, 1, 0⟩) = false ∧
    Instr.wf (.setc (.bob 0) ⟨0x4000, 1, 0⟩) = false ∧ Instr.wf (.clrc (.bob 0) ⟨0x8000, 1, 0⟩) = false ∧
    Instr.wf (.rdfl (.bob 0) ⟨0, 1, 1⟩) = false ∧ Instr.wf (.clrf (.bob 0) ⟨1, 0, 0⟩) = false := by decide

theorem test_wf_draws :
    Instr.wf (.drawRequest ⟨0, false, false, .addr 0, false, 0, [], none, []⟩) = false ∧
    Instr.wf (.drawRequest ⟨0, false, false, .addr 0, false, 65, [], none, []⟩) = false ∧
    Instr.wf (.drawRequest ⟨0, false, false, .addr 0, true, 2, [], none, []⟩) = false ∧
    Instr.wf (.drawRequest ⟨0, false, true, .addr 0, false, 1, [0], none, []⟩) = false ∧
    Instr.wf (.drawRequest ⟨0, false, true, .addr 0, true, 1, [0], none, []⟩) = true := by decide

theorem test_wf_rounds : Instr.wf (.housekeepingRoundPublish []) = false ∧
    Instr.wf (.selftestEnd { selftest0 with volts := List.replicate 23 0 }) = false ∧
    Instr.wf (.selftestEnd { selftest0 with scans := List.replicate 18 [1, 2] }) = false ∧
    Instr.wf (.selftestEnd selftest0) = true := by decide +kernel

theorem test_wf_load :
    Instr.wf (.loadEnd ⟨[(32, desc0)]⟩) = false ∧ Instr.wf (.loadEnd ⟨[(31, desc0)]⟩) = true := by decide

theorem test_wf_clock_and_scrub :
    Instr.wf (.pllLock 201) = false ∧ Instr.wf (.pllLock 200) = true ∧
    Instr.wf (.scrubLine 0 0 [(1, false), (1, true)]) = false := by decide +kernel

theorem test_wf_sessions :
    Instr.wf (.sessionHello .usb (List.replicate 15 0)) = false ∧
    Instr.wf (.sessionRead ⟨.usb, 1, true⟩ 0 257) = false ∧
    Instr.wf (.sessionWrite ⟨.usb, 1, true⟩ 0 (List.replicate 257 0)) = false ∧
    Instr.wf (.sessionErase ⟨.usb, 1, true⟩ 512 0) = false ∧
    Instr.wf (.sessionProg ⟨.usb, 1, true⟩ 0x800000 []) = false ∧
    Instr.wf (.sessionProg ⟨.usb, 1, true⟩ 0 (List.replicate 1025 0)) = false := by decide +kernel

/-! ### Words of the manual's listings and of its encoding tables, one of each format -/

/-- The or of v0 with v0 that R143 names nop. -/
theorem test_decode_nop : decodeGwyn (.bob 0) 0b000001_010001_00000_00000_00000_00000#32 =
    some (.or_ (.bob 0) ⟨0, 0, 0, 0⟩) := by decide

/-- The four words of the worked example of chapter 04. -/
theorem test_decode_example : [0x04201486, 0x810180C0, 0x8001A100, 0x82000007].map (decodeGwyn (.spn 5)) =
    [some (.sub (.spn 5) ⟨0, 5, 4, 6⟩), some (.muls (.spn 5) ⟨0, 96, 6, 0⟩), some (.macs (.spn 5) ⟨0, 104, 8, 0⟩),
     some (.rda (.spn 5) ⟨0, 0, 0, 7⟩)] := by decide +kernel

/-- The word of the worked example of chapter 05. -/
theorem test_decode_svm : decodeGwyn (.spn 5) 0xA414014C = some (.svm (.spn 5) ⟨40, 0, 10, 12⟩) := by decide +kernel

/-- addi v1, v2, -1. -/
theorem test_decode_imm : decodeGwyn (.bob 0) 0b000100_1111111111111111_00010_00001#32 =
    some (.addi (.bob 0) ⟨0xFFFF, 2, 1⟩) := by decide +kernel

/-- st.w of v7 at v3 + 16. -/
theorem test_decode_store : decodeGwyn (.bob 0) 0b010101_0000000000010000_00011_00111#32 =
    some (.stW (.bob 0) ⟨16, 3, 7⟩) := by decide +kernel

/-- beq v3, v7 two words back. -/
theorem test_decode_branch : decodeGwyn (.bob 0) 0b001100_1111111111111110_00011_00111#32 =
    some (.beq (.bob 0) ⟨0xFFFE, 3, 7⟩) := by decide +kernel

/-- jmp one word back. -/
theorem test_decode_jump : decodeGwyn (.bob 0) 0b010010_11111111111111111111111111#32 =
    some (.jmp (.bob 0) ⟨0x3FFFFFF⟩) := by decide +kernel

/-- ld.k of k200 from v4 + 64, eight units of 8 bytes. -/
theorem test_decode_kmem : decodeGwyn (.bob 0) 0b011110_0000000001000_11001000_00100#32 =
    some (.ldK (.bob 0) ⟨8, 200, 4⟩) := by decide +kernel

theorem test_no_table_bits : decodeTableWord 32 0x04201486 = none := by decide

/-! ### The manual's worked examples -/

/-- Chapter 04, first inputs: v4 = 0x01000000, v5 = 0, v8 = 0x00200000, kp = 0.75 in k12 and kff = 0.5 in k13. -/
def ex4a : Dev := ((spnDev.setV (.spn 17) 4 0x01000000).setV (.spn 17) 8 0x00200000).modSpn 17 fun z =>
  { z with kfile := [(12, 0x1F60000000), (13, 0x1F40000000)] }

/-- Chapter 04, second inputs: v4 = 0x70000000 and v5 = 0xA0000000. -/
def ex4b : Dev := (ex4a.setV (.spn 17) 4 0x70000000).setV (.spn 17) 5 0xA0000000

def ex4sub (d : Dev) : Dev := after (.sub (.spn 17) ⟨0, 5, 4, 6⟩) d
def ex4muls (d : Dev) : Dev := after (.muls (.spn 17) ⟨0, 96, 6, 0⟩) (ex4sub d)
def ex4macs (d : Dev) : Dev := after (.macs (.spn 17) ⟨0, 104, 8, 0⟩) (ex4muls d)

theorem test_example4_sub : ((ex4sub ex4a).gv (.spn 17) 6, (ex4sub ex4b).gv (.spn 17) 6) = (0x01000000, 0x7FFFFFFF) := by
  decide +kernel

theorem test_example4_muls : ((ex4muls ex4a).ga (.spn 17) 0, (ex4muls ex4b).ga (.spn 17) 0) = (0x00C00000, 0x5FFFFFFF) := by
  decide +kernel

theorem test_example4_macs : ((ex4macs ex4a).ga (.spn 17) 0, (ex4macs ex4b).ga (.spn 17) 0) = (0x00D00000, 0x600FFFFF) := by
  decide +kernel

theorem test_example4_rda : ((after (.rda (.spn 17) ⟨0, 0, 0, 7⟩) (ex4macs ex4a)).gv (.spn 17) 7,
    (after (.rda (.spn 17) ⟨0, 0, 0, 7⟩) (ex4macs ex4b)).gv (.spn 17) 7) = (0x00D00000, 0x600FFFFF) := by decide +kernel

/-- VSAT in the second row, no flag in the first (loop 3 of Spindle 17). -/
theorem test_example4_flags : ((ex4macs ex4a).readFlags (.spn 17), (ex4macs ex4b).readFlags (.spn 17)) = (0, fVSAT) := by
  decide +kernel

/-- Chapter 05: the pair of |v| = 0.6 at 30 degrees through the limit of k40. -/
def ex5 : Dev := after (.svm (.spn 17) ⟨40, 0, 10, 12⟩)
  (((spnDev.setV (.spn 17) 10 0x4282C08E).setV (.spn 17) 11 0x26666666).modSpn 17 fun z =>
    { z with kfile := [(40, 0x407B645A1D)] })

/-- The duties 0.9820, 0.5000 and 0.0180 to four places, sector 1, DLIM raised. -/
theorem test_example5 : (((ex5.gv (.spn 17) 12).toNat * 10000 + 2 ^ 30) / 2 ^ 31,
    ((ex5.gv (.spn 17) 13).toNat * 10000 + 2 ^ 30) / 2 ^ 31,
    ((ex5.gv (.spn 17) 14).toNat * 10000 + 2 ^ 30) / 2 ^ 31, (ex5.gv (.spn 17) 15).toNat, ex5.readFlags (.spn 17)) =
    (9820, 5000, 180, 1, fDLIM) := by decide +kernel

/-- Chapter 15: C25 = 1642, SLOPE = 1500 and a code of 1273 give 1281, 160.1 degrees. -/
theorem test_example15 : ((dev0.setFld Reg.THM_TRIM 27 16 1642).setFld Reg.THM_TRIM 11 0 1500).tempOf 1273 = 1281 := by
  decide +kernel

/-- Chapter 07: the M60 brake chopper's thresholds, written to WHL_BUS0 in CONFIG. -/
def ex7 : Dev := after (.registerWrite .distaff (BitVec.ofNat 32 (Reg.WHL_BUS 0)) .word 0xBA5D874A) (dev0.setReg Reg.DST_MODE 4)

/-- Codes 933, 865 and 842; at 2.5345 V the chopper turns on, at 2.534 V it does not. -/
theorem test_example7 : ex7.fld (Reg.WHL_BUS 0) 29 20 = 933 ∧ ex7.fld (Reg.WHL_BUS 0) 19 10 = 865 ∧
    ex7.fld (Reg.WHL_BUS 0) 9 0 = 842 ∧ ((after (.chopperStateChange 0 2534500) ex7).rbit Reg.WHL_BUSST 4 = true) ∧
    ((after (.chopperStateChange 0 2534000) ex7).rbit Reg.WHL_BUSST 4 = false) := by decide +kernel

/-- Chapter 02: a 1 KiB ring hank at 0x1000 with WR = 0x3C0 and a fill takes a draw of 64 beats of requester 0. -/
def ex2 (fill : Nat) : Dev :=
  after (.drawComplete 0) (after (.drawRequest ⟨0, false, true, .hank 7, false, 64,
      (List.range 256).map (BitVec.ofNat 32), none, []⟩)
    (dev0.setHank 7 ⟨4, 0, 0, 1, true, 0x3C0, 0x3C0, fill, 0⟩))

/-- The draw wraps: WR returns to 0x3C0, FILL is 1024, and the fifth beat stands at offset 0. -/
theorem test_example2 : let d := ex2 0
    ((d.hank 7).wr, (d.hank 7).fill, d.byte 0x1000, d.byte 0x13C4) = (0x3C0, 1024, 16, 1) := by decide +kernel

/-- With 4 bytes or more in the ring the draw is refused whole. -/
theorem test_example2_refused : let d := ex2 16
    ((d.hank 7).wr, (d.hank 7).fill, (d.hank 7).drops, d.byte 0x1000) = (0x3C0, 16, 1, 0) := by decide +kernel

/-! ### SHA-256 and ECDSA -/

/-- The digest of "abc" that FIPS 180 gives. -/
theorem test_sha256 : sha256 [0x61, 0x62, 0x63] =
    bytesOfNat 32 0xBA7816BF8F01CFEA414140DE5DAE2223B00361A396177A9CB410FF61F20015AD := by decide +kernel

/-! ### Signed images of the tests

The key is the one of RFC 6979, A.2.5; the signatures were made outside the model. Hashes of long runs of one byte go block
by
block. -/

/-- The public key. -/
def witKey : List Byte := bytesOfNat 64
  (0x60FED4BA255A9D31C961EB74C6356D68C049B8923B61FA6CE669622E60F29FB6 * 2 ^ 256 +
   0x7903FE1008B8BC99A41AE9E95628BC64F2F1B20C2D7E9F5177A3C294D4462299)

/-- The header of an image of LEN 0x100 with a policy hash. -/
def witHead (hash : List Byte) : List Byte :=
  [0x31, 0x4E, 0x57, 0x47] ++ List.replicate 8 0 ++ [0, 1, 0, 0] ++ List.replicate 8 0 ++ hash ++ List.replicate 8 0 ++ witKey ++
    List.replicate 64 0

/-- The hash of a table that reads erased. -/
def ffHash : List Byte := bytesOfNat 32
  0xB3CD9AE375E9CE9FF32C0DB552D31A4AB2EA5E2385CF7808452EDB637EF8F5DB

/-- The hash of a table that names no function. -/
def polHash : List Byte := bytesOfNat 32
  0x7060662450B2AF7C9F11C1BE5830B7B821407CC7C8B9D7B17C27694367205AFA

/-- The signature of the image with an erased table. -/
def ffSig : List Byte := bytesOfNat 64
  (0xEFD48B2AACB6A8FD1140DD9CD45E81D69D2C877B56AAF991C34D0EA84EAF3716 * 2 ^ 256 +
   0xCB42906DF1C850B3EFBECD5ABF2A559B00C5810226BBA960AE5FE732D25EA32F)

/-- The signature of the image with a table that names no function. -/
def imgSig : List Byte := bytesOfNat 64
  (0xEFD48B2AACB6A8FD1140DD9CD45E81D69D2C877B56AAF991C34D0EA84EAF3716 * 2 ^ 256 +
   0x9A0EC980CFAD8A3EC2A817941D47BA429328BEB6A9E15DD69A48E12113659300)

/-- The signature of that table. -/
def polSig : List Byte := bytesOfNat 64
  (0xF1ABB023518351CD71D881567B1EA663ED3EFCF6C5132B354F28D3B0B7D38367 * 2 ^ 256 +
   0x3C379007982D991909AA6E3CE3000F7FBE0F1DE51B54FC758B2C175148196FD1)

/-- The hash of the key. -/
def witHash : List Byte := bytesOfNat 32
  0xD6C23E2744A840CB3A5A14B6554CCE7C070057C4E3298CB93577DE687EECE659

/-- The fused words: no fuse of anti-rollback blown, the hash of the key. -/
def witFuses : SMap Word := (2, 0) :: (List.range 8).map fun j => (3 + j, wordOfBytes ((witHash.drop (4 * j)).take 4))

theorem witKey_length : witKey.length = 64 := by decide

/-- The first block of the table. -/
def polHead : List Byte := [0x31, 0x4C, 0x4F, 0x50] ++ List.replicate 60 0

/-- Sixteen source entries of N = 1, as bytes and as the words that a digest takes; the table's 256 of them. -/
def oneBlock : List Byte := (List.replicate 16 ([1, 0, 0, 0] : List Byte)).flatten

def oneWords : List Word := List.replicate 16 0x01000000

def polOnes : List Byte := (List.replicate 16 oneBlock).flatten

/-- A block of one byte. -/
def byteBlock (x : Byte) (h : List Word) : List Word := shaBlock h (List.replicate 16 (x ++ x ++ x ++ x))

theorem shaBlocks_block (n : Nat) (h : List Word) (b rest : List Byte) (hb : b.length = 64) :
    shaBlocks (n + 1) h (b ++ rest) =
      shaBlocks n (shaBlock h ((List.range 16).map fun i => BitVec.ofNat 32 (natOfBytes ((b.drop (4 * i)).take 4)))) rest := by
  have h1 : (b ++ rest).drop 64 = rest := by rw [← hb]; simp
  rw [shaBlocks, h1]
  refine congrArg (fun ws => shaBlocks n (shaBlock h ws) rest) (List.map_congr_left fun i hi => ?_)
  have : i < 16 := by simpa using hi
  rw [List.drop_append_of_le_length (by omega), List.take_append_of_le_length (by rw [List.length_drop]; omega)]

/-- Equal blocks at the front of a message. -/
theorem shaBlocks_flatten (b : List Byte) (ws : List Word) (hb : b.length = 64) (hx : (List.range 16).map (fun i =>
      BitVec.ofNat 32 (natOfBytes ((b.drop (4 * i)).take 4))) = ws) (k n : Nat) (rest : List Byte) :
    ∀ h, shaBlocks (k + n) h ((List.replicate k b).flatten ++ rest) = shaBlocks n ((fun h => shaBlock h ws)^[k] h) rest := by
  induction k with
  | zero => intro h; simp
  | succ k ih =>
    intro h
    rw [List.replicate_succ, List.flatten_cons, List.append_assoc, show k + 1 + n = k + n + 1 by omega,
      shaBlocks_block _ _ _ _ hb, hx, ih]
    rfl

theorem shaBlocks_run (x : Byte) (hx : (List.range 16).map (fun i => BitVec.ofNat 32 (natOfBytes
      (((List.replicate 64 x).drop (4 * i)).take 4))) = List.replicate 16 (x ++ x ++ x ++ x)) (k n : Nat) (rest : List Byte)
    (h : List Word) :
    shaBlocks (k + n) h (List.replicate (64 * k) x ++ rest) = shaBlocks n ((byteBlock x)^[k] h) rest := by
  rw [Nat.mul_comm, ← List.flatten_replicate_replicate, shaBlocks_flatten _ _ List.length_replicate hx]
  rfl

/-- The padding block of a message of n bytes, n a multiple of 64. -/
def padBlock (n : Nat) : List Byte := [0x80] ++ List.replicate 55 0 ++ bytesOfNat 8 (8 * n)

theorem padBlock_length (n : Nat) : (padBlock n).length = 64 := by simp [padBlock, bytesOfNat]

theorem shaPad_whole (bs : List Byte) (h : bs.length % 64 = 0) : shaPad bs = bs ++ padBlock bs.length := by
  simp [shaPad, padBlock, h]

theorem ff_run_0 : (byteBlock 0xff)^[14]
    [0x6A09E667, 0xBB67AE85, 0x3C6EF372, 0xA54FF53A, 0x510E527F, 0x9B05688C, 0x1F83D9AB, 0x5BE0CD19] =
    [0xAA07B6EB, 0xD70577B5, 0xB2C948D9, 0x1B797872, 0x4672B5E9, 0xD5EFF520, 0x3955E1AD, 0xF965AEFF] := by decide +kernel

theorem ff_run_1 : (byteBlock 0xff)^[14]
    [0xAA07B6EB, 0xD70577B5, 0xB2C948D9, 0x1B797872, 0x4672B5E9, 0xD5EFF520, 0x3955E1AD, 0xF965AEFF] =
    [0xF992778D, 0xC4A61BD0, 0xFECC433C, 0x783A8D3E, 0xF8AD5CAA, 0x67C52B3F, 0x535B3A4D, 0xEF4AB0FB] := by decide +kernel

theorem ff_run_2 : (byteBlock 0xff)^[14]
    [0xF992778D, 0xC4A61BD0, 0xFECC433C, 0x783A8D3E, 0xF8AD5CAA, 0x67C52B3F, 0x535B3A4D, 0xEF4AB0FB] =
    [0x4B6156A0, 0x43BCD320, 0xEE290AA6, 0xD7B4C833, 0xE0A62D8A, 0x79857758, 0x99A42BE4, 0xC163454B] := by decide +kernel

theorem one_run_0 : (fun h => shaBlock h oneWords)^[8]
    [0x0D4217B3, 0x7948A1C2, 0x78A6F94B, 0x4BB034DD, 0xB9BF4DBB, 0x6DE14DA7, 0x5C4911FB, 0xBCC25CF2] =
    [0x18A328DA, 0xFDAFDBE8, 0x5C5F8471, 0x18FDF74B, 0xF73EED86, 0x68441E81, 0xFB323F16, 0xEC5A9187] := by decide +kernel

theorem one_run_1 : (fun h => shaBlock h oneWords)^[8]
    [0x18A328DA, 0xFDAFDBE8, 0x5C5F8471, 0x18FDF74B, 0xF73EED86, 0x68441E81, 0xFB323F16, 0xEC5A9187] =
    [0xDD78DAFA, 0xE61C8356, 0x5C2C2F1B, 0x026294E5, 0x44998991, 0xFFC47EFC, 0xA12187D4, 0xB198365C] := by decide +kernel

theorem zero_run_0 : (byteBlock 0x0)^[12]
    [0xDD78DAFA, 0xE61C8356, 0x5C2C2F1B, 0x026294E5, 0x44998991, 0xFFC47EFC, 0xA12187D4, 0xB198365C] =
    [0xC9EC98FB, 0xC7266F6E, 0x73939599, 0xEC6CFAB0, 0x3A58C4A5, 0x47D44A38, 0x545FA0C0, 0x1AEBECF0] := by decide +kernel

theorem zero_run_1 : (byteBlock 0x0)^[12]
    [0xC9EC98FB, 0xC7266F6E, 0x73939599, 0xEC6CFAB0, 0x3A58C4A5, 0x47D44A38, 0x545FA0C0, 0x1AEBECF0] =
    [0xCC7AC1DE, 0xA35B6F94, 0x43704100, 0x98630BD7, 0xCC93E566, 0x631933E7, 0xF66E28E6, 0xC93AD4A7] := by decide +kernel

theorem ff_run : (byteBlock 0xff)^[42]
    [0x6A09E667, 0xBB67AE85, 0x3C6EF372, 0xA54FF53A, 0x510E527F, 0x9B05688C, 0x1F83D9AB, 0x5BE0CD19] =
    [0x4B6156A0, 0x43BCD320, 0xEE290AA6, 0xD7B4C833, 0xE0A62D8A, 0x79857758, 0x99A42BE4, 0xC163454B] := by
  have e : 42 = 14 + 14 + 14 := rfl
  rw [e, Function.iterate_add_apply, Function.iterate_add_apply, ff_run_0, ff_run_1, ff_run_2]

theorem one_run : (fun h => shaBlock h oneWords)^[16]
    [0x0D4217B3, 0x7948A1C2, 0x78A6F94B, 0x4BB034DD, 0xB9BF4DBB, 0x6DE14DA7, 0x5C4911FB, 0xBCC25CF2] =
    [0xDD78DAFA, 0xE61C8356, 0x5C2C2F1B, 0x026294E5, 0x44998991, 0xFFC47EFC, 0xA12187D4, 0xB198365C] := by
  have e : 16 = 8 + 8 := rfl
  rw [e, Function.iterate_add_apply, one_run_0, one_run_1]

theorem zero_run : (byteBlock 0x0)^[24]
    [0xDD78DAFA, 0xE61C8356, 0x5C2C2F1B, 0x026294E5, 0x44998991, 0xFFC47EFC, 0xA12187D4, 0xB198365C] =
    [0xCC7AC1DE, 0xA35B6F94, 0x43704100, 0x98630BD7, 0xCC93E566, 0x631933E7, 0xF66E28E6, 0xC93AD4A7] := by
  have e : 24 = 12 + 12 := rfl
  rw [e, Function.iterate_add_apply, zero_run_0, zero_run_1]

theorem ff_hash : sha256 (List.replicate 2688 0xFF) = ffHash := by
  have h : shaPad (List.replicate 2688 0xFF) = List.replicate (64 * 42) 0xFF ++ padBlock 2688 := by
    rw [shaPad_whole _ (by rw [List.length_replicate]), List.length_replicate]
  have hl : (List.replicate (64 * 42) (0xFF : Byte) ++ padBlock 2688).length / 64 = 42 + 1 := by
    rw [List.length_append, List.length_replicate, padBlock_length]
  simp only [sha256, h, hl]
  rw [shaBlocks_run 0xFF (by decide +kernel), show shaInit = [0x6A09E667, 0xBB67AE85, 0x3C6EF372, 0xA54FF53A,
      0x510E527F, 0x9B05688C, 0x1F83D9AB, 0x5BE0CD19] from rfl, ff_run]
  decide +kernel

/-- A table that names no function, each source with N = 1, and the part of it that is signed. -/
def polMsg : List Byte := polHead ++ (polOnes ++ List.replicate (64 * 24) 0)

def polTable : List Byte := polMsg ++ polSig

theorem polHead_length : polHead.length = 64 := by decide

theorem polOnes_length : polOnes.length = 1024 := by decide +kernel

theorem polMsg_length : polMsg.length = 2624 := by
  rw [polMsg, List.length_append, List.length_append, List.length_replicate, polHead_length, polOnes_length]

theorem polSig_length : polSig.length = 64 := by decide

theorem polTable_length : polTable.length = 2688 := by rw [polTable, List.length_append, polMsg_length, polSig_length]

theorem pol_start (n : Nat) (rest : List Byte) :
    shaBlocks (16 + (24 + n) + 1) shaInit (polMsg ++ rest) =
      shaBlocks n [0xCC7AC1DE, 0xA35B6F94, 0x43704100, 0x98630BD7, 0xCC93E566, 0x631933E7, 0xF66E28E6, 0xC93AD4A7] rest := by
  have h : shaBlock shaInit ((List.range 16).map fun i => BitVec.ofNat 32 (natOfBytes ((polHead.drop (4 * i)).take 4))) =
      [0x0D4217B3, 0x7948A1C2, 0x78A6F94B, 0x4BB034DD, 0xB9BF4DBB, 0x6DE14DA7, 0x5C4911FB, 0xBCC25CF2] := by decide +kernel
  rw [polMsg, List.append_assoc, List.append_assoc, shaBlocks_block _ _ _ _ polHead_length, h, polOnes,
    shaBlocks_flatten oneBlock oneWords (by decide) (by decide +kernel), one_run, shaBlocks_run 0 (by decide +kernel), zero_run]

theorem pol_hash : sha256 polTable = polHash := by
  have h : shaPad polTable = polMsg ++ (polSig ++ padBlock 2688) := by
    rw [shaPad_whole _ (by rw [polTable_length]), polTable_length, polTable, List.append_assoc]
  have hl : (polMsg ++ (polSig ++ padBlock 2688)).length / 64 = 16 + (24 + 2) + 1 := by
    simp only [List.length_append, padBlock_length, polSig_length, polMsg_length]
  simp only [sha256, h, hl]
  rw [pol_start 2]
  decide +kernel

theorem polMsg_sha : sha256 polMsg = (shaBlocks 1 [0xCC7AC1DE, 0xA35B6F94, 0x43704100, 0x98630BD7, 0xCC93E566, 0x631933E7, 0xF66E28E6, 0xC93AD4A7]
    (padBlock 2624)).flatMap fun w => bytesOfNat 4 w.toNat := by
  have h : shaPad polMsg = polMsg ++ padBlock 2624 := by rw [shaPad_whole _ (by rw [polMsg_length]), polMsg_length]
  have hl : (polMsg ++ padBlock 2624).length / 64 = 16 + (24 + 1) + 1 := by
    simp only [List.length_append, padBlock_length, polMsg_length]
  simp only [sha256, h, hl]
  rw [pol_start 1]

theorem pol_sig : ecdsaOk witKey polSig polMsg = true := by
  rw [ecdsaOk, polMsg_sha]
  decide +kernel

/-- RFC 6979, A.2.5: the signature of "sample" with SHA-256; a changed message fails. -/
theorem test_ecdsa :
    let sig := bytesOfNat 64
      (0xEFD48B2AACB6A8FD1140DD9CD45E81D69D2C877B56AAF991C34D0EA84EAF3716 * 2 ^ 256 +
       0xF7CB1C942D657C41D436C7A1B6E29F65F3E900DBB9AFF4064DC4AB2F843ACDA8)
    ecdsaOk witKey sig [0x73, 0x61, 0x6D, 0x70, 0x6C, 0x65] = true ∧ ecdsaOk witKey sig [0x73] = false := by decide +kernel

theorem key_hash : sha256 witKey = witHash := by decide +kernel

theorem ff_sig : ecdsaOk witKey ffSig (witHead ffHash) = true := by decide +kernel

theorem img_sig : ecdsaOk witKey imgSig (witHead polHash) = true := by decide +kernel

theorem bytesBy_of (g : Nat → Byte) (bs : List Byte) (h : ∀ i < bs.length, g i = bs.getD i 0) (o n : Nat)
    (hn : o + n ≤ bs.length) : bytesBy g o n = (bs.drop o).take n := by
  refine List.ext_getElem (by rw [List.length_take, List.length_drop, bytesBy, List.length_map, List.length_range]; omega)
    fun i h1 h2 => ?_
  have hi : i < n := by simpa [bytesBy] using h1
  rw [List.getElem_take, List.getElem_drop]
  simp only [bytesBy, List.getElem_map, List.getElem_range]
  rw [h _ (by omega), List.getD_eq_getElem?_getD, List.getElem?_eq_getElem (by omega), Option.getD_some]

/-- An image whose bytes stand in a list verifies under the test key. -/
theorem image_ok (d : Dev) (g : Nat → Byte) (bs sig msg : List Byte) (hl : bs.length = 256)
    (h : ∀ i < 256, g i = bs.getD i 0) (ha : d.arb = 0) (hk : d.pkHash = witHash) (hw : wordOfBytes (bs.take 4) = 0x47574E31)
    (hv : wordOfBytes ((bs.drop 8).take 4) = 0) (hn : wordOfBytes ((bs.drop 12).take 4) = 0x100)
    (hkey : (bs.drop 0x40).take 64 = witKey) (hsig : (bs.drop 0xC0).take 64 = sig) (hmsg : bs.take 0xC0 = msg)
    (hok : ecdsaOk witKey sig msg = true) : d.imageOk g = true := by
  have b := bytesBy_of g bs (by rwa [hl])
  rw [hl] at b
  have e0 : wordBy g 0 = 0x47574E31 := by rw [wordBy, b 0 4 (by decide), List.drop_zero, hw]
  have e8 : wordBy g 8 = 0 := by rw [wordBy, b 8 4 (by decide), hv]
  have el : imageLen g = 256 := by rw [imageLen, wordBy, b 12 4 (by decide), hn]; rfl
  have m : bytesBy g 0 0xC0 ++ bytesBy g 0x100 (256 - 0x100) = msg := by
    rw [b 0 0xC0 (by decide), List.drop_zero, hmsg]; exact List.append_nil msg
  simp only [Dev.imageOk, el, e0, e8, ha, hk, m, b 0x40 64 (by decide), b 0xC0 64 (by decide), hkey, hsig, key_hash, hok]
  decide

/-- A byte of the flash after bytes are put at a place. -/
theorem fbyte_setFbytes (d : Dev) (a x : Nat) (bs : List Byte) :
    (d.setFbytes a bs).fbyte x = if a ≤ x ∧ x < a + bs.length then bs.getD (x - a) 0 else d.fbyte x := by
  have key : ∀ (bs : List Byte) (k : Nat) (m : List Host.Cell),
      smGet (fun _ => 0xFF) ((bs.zipIdx k).foldl (fun m b => smSet (fun _ => 0xFF) m (a + b.2) b.1) m) x =
        if a + k ≤ x ∧ x < a + k + bs.length then bs.getD (x - (a + k)) 0 else smGet (fun _ => (0xFF : Byte)) m x := by
    intro bs
    induction bs with
    | nil => intro k m; rw [if_neg (by simp)]; rfl
    | cons b bs ih =>
      intro k m
      rw [List.zipIdx_cons, List.foldl_cons, ih, smGet_smSet]
      by_cases h1 : x = a + k
      · subst h1; simp
      · by_cases h2 : a + k + 1 ≤ x ∧ x < a + k + 1 + bs.length
        · rw [if_pos (by omega), if_pos (by rw [List.length_cons]; omega), show x - (a + k) = x - (a + (k + 1)) + 1 by omega]
          rfl
        · rw [if_neg (by omega), if_neg h1, if_neg (by rw [List.length_cons]; omega)]
  exact key bs 0 d.fl.mem

/-- The image beside an erased table, in slot B of the flash; and the image with its table, in the Skein. -/
def flashImg : List Byte := witHead ffHash ++ ffSig

def skeinImg : List Byte := witHead polHash ++ imgSig

/-- A SERVICE device whose slot B holds a signed image, and the same with a newer image found in slot A. -/
def imgDev : Dev := (flashDev.modFl fun z => { z with fuses := witFuses }).setFbytes 0x480000 flashImg

def newerDev : Dev := imgDev.setFbytes 0x100000 [0x31, 0x4E, 0x57, 0x47]

/-- A SERVICE device with a signed image and its table in the Skein. -/
def ldrunDev : Dev :=
  ((flashDev.modFl fun z => { z with fuses := witFuses }).setBytes 0x1000 skeinImg).setBytes 0x10000 polTable

theorem flashImg_length : flashImg.length = 256 := by decide +kernel

theorem skeinImg_length : skeinImg.length = 256 := by decide +kernel

theorem imgDev_slot (d : Dev) (h : ∀ i < 256, d.fbyte (0x480000 + i) = flashImg.getD i 0) (ha : d.arb = 0)
    (hk : d.pkHash = witHash) (he : d.fl.ecc = []) : d.imgSlotOk true = true := by
  have b := bytesBy_of (d.slotBytes true) flashImg (by rw [flashImg_length]; exact h)
  rw [flashImg_length] at b
  have hw : wordBy (d.slotBytes true) 0 = 0x47574E31 := by rw [wordBy, b 0 4 (by decide)]; decide +kernel
  have el : imageLen (d.slotBytes true) = 256 := by rw [imageLen, wordBy, b 12 4 (by decide)]; decide +kernel
  have hc : (d.flashCheck 0x480000 256).2 = true := by
    have : ∀ w, d.fecc w = .good := fun w => by rw [Dev.fecc, he]; rfl
    simp [Dev.flashCheck, List.range_succ, this]
  rw [Dev.imgSlotOk, Dev.slotFound, hw, el, image_ok d (d.slotBytes true) flashImg ffSig (witHead ffHash) flashImg_length h ha hk
    (by decide +kernel) (by decide +kernel) (by decide +kernel) (by decide +kernel) (by decide +kernel) (by decide +kernel)
    ff_sig]
  exact Bool.and_eq_true_iff.2 ⟨Bool.and_eq_true_iff.2 ⟨by decide, hc⟩, rfl⟩

theorem imgDev_slotB : imgDev.imgSlotOk true = true :=
  imgDev_slot imgDev (fun i hi => by
    rw [imgDev, fbyte_setFbytes, flashImg_length, if_pos (by omega), Nat.add_sub_cancel_left]) (by decide +kernel)
    (by decide +kernel) rfl

theorem newerDev_img : ∀ i < 256, newerDev.fbyte (0x480000 + i) = flashImg.getD i 0 := fun i hi => by
  rw [newerDev, fbyte_setFbytes, if_neg (by simp; omega), imgDev, fbyte_setFbytes, flashImg_length, if_pos (by omega),
    Nat.add_sub_cancel_left]

theorem newerDev_fuses : newerDev.pkHash = witHash := by decide +kernel

theorem imgDev_table : (imgDev.polSlot (imgDev.slotBytes true)).isSome = true := by
  have hp : bytesBy (imgDev.polBytes false) 0 2688 = List.replicate 2688 0xFF := by
    rw [List.eq_replicate_iff]
    refine ⟨by rw [bytesBy, List.length_map, List.length_range], fun b hb => ?_⟩
    obtain ⟨i, hi, rfl⟩ := List.mem_map.1 hb
    have : i < 2688 := by simpa using hi
    rw [Dev.polBytes, imgDev, fbyte_setFbytes, if_neg (by simp; omega)]
    rfl
  have b := bytesBy_of (imgDev.slotBytes true) flashImg (by
    rw [flashImg_length]; intro i hi
    rw [Dev.slotBytes, imgDev, fbyte_setFbytes, flashImg_length, slotBase, if_pos rfl, if_pos (by omega),
    Nat.add_sub_cancel_left])
  rw [flashImg_length] at b
  have hh : sha256 (bytesBy (imgDev.polBytes false) 0 2688) = bytesBy (imgDev.slotBytes true) 0x18 32 := by
    rw [hp, ff_hash, b 0x18 32 (by decide)]; decide +kernel
  exact List.find?_isSome.2 ⟨false, by decide, decide_eq_true hh⟩

/-- Bytes put in the Skein change nothing else. -/
theorem setBytes_sk (bs : List Byte) : ∀ (d : Dev) (a : Nat), ∃ f, d.setBytes a bs = d.modSk f := by
  induction bs with
  | nil => exact fun d a => ⟨id, rfl⟩
  | cons b bs ih =>
    intro d a
    obtain ⟨f, hf⟩ := ih (d.setByte a b) (a + 1)
    exact ⟨fun s => f { s with mem := smSet (fun _ => 0) s.mem a b }, by rw [Dev.setBytes, hf]; rfl⟩

theorem setBytes_arb (d : Dev) (a : Nat) (bs : List Byte) : (d.setBytes a bs).arb = d.arb := by
  obtain ⟨f, hf⟩ := setBytes_sk bs d a; rw [hf]; rfl

theorem setBytes_pkHash (d : Dev) (a : Nat) (bs : List Byte) : (d.setBytes a bs).pkHash = d.pkHash := by
  obtain ⟨f, hf⟩ := setBytes_sk bs d a; rw [hf]; rfl

/-- The image and the table in the Skein verify. -/
theorem ldrunDev_runs (g p : Nat → Byte) (hg : g = fun o => ldrunDev.byte (0x1000 + o))
    (hp : p = fun o => ldrunDev.byte (0x10000 + o)) :
    (ldrunDev.imageOk g && decide (sha256 (bytesBy p 0 2688) = bytesBy g 0x18 32) && policySig g p && policyEnt p) = true := by
  have eg : ∀ i < 256, g i = skeinImg.getD i 0 := fun i hi => by
    rw [hg, ldrunDev]
    simp only [Dev.byte_setBytes]
    rw [if_neg (by omega), skeinImg_length, if_pos (by omega), Nat.add_sub_cancel_left]
  have ep : ∀ i < 2688, p i = polTable.getD i 0 := fun i hi => by
    rw [hp, ldrunDev]
    simp only [Dev.byte_setBytes]
    rw [polTable_length, if_pos (by omega), Nat.add_sub_cancel_left]
  have bg := bytesBy_of g skeinImg (by rwa [skeinImg_length])
  have bp := bytesBy_of p polTable (by rwa [polTable_length])
  rw [skeinImg_length] at bg
  rw [polTable_length] at bp
  have hi : ldrunDev.imageOk g = true :=
    image_ok ldrunDev g skeinImg imgSig (witHead polHash) skeinImg_length eg
      (by rw [ldrunDev, setBytes_arb, setBytes_arb]; decide +kernel)
      (by rw [ldrunDev, setBytes_pkHash, setBytes_pkHash]; decide +kernel) (by decide +kernel) (by decide +kernel)
          (by decide +kernel) (by decide +kernel) (by decide +kernel) (by decide +kernel)
      img_sig
  have hh : sha256 (bytesBy p 0 2688) = bytesBy g 0x18 32 := by
    rw [bp 0 2688 (by decide), List.drop_zero, List.take_of_length_le (by rw [polTable_length]), pol_hash, bg 0x18 32 (by decide)]
    decide +kernel
  have hs : policySig g p = true := by
    have k1 : (skeinImg.drop 0x40).take 64 = witKey := by decide +kernel
    have k2 : (polTable.drop 0xA40).take 64 = polSig := by
      rw [polTable, ← polMsg_length, List.drop_left, List.take_of_length_le (by rw [polSig_length])]
    have k3 : polTable.take 0xA40 = polMsg := by rw [polTable, ← polMsg_length, List.take_left]
    rw [policySig, bg 0x40 64 (by decide), bp 0xA40 64 (by decide), bp 0 0xA40 (by decide), List.drop_zero, k1, k2, k3, pol_sig]
  have hz : ∀ o, 1088 ≤ o → o + 4 ≤ 2624 → wordBy p o = 0 := fun o h1 h2 => by
    have : bytesBy p o 4 = List.replicate 4 0 := by
      rw [List.eq_replicate_iff]
      refine ⟨by simp [bytesBy], fun b hb => ?_⟩
      obtain ⟨i, hi, rfl⟩ := List.mem_map.1 hb
      have : i < 4 := by simpa using hi
      rw [ep _ (by omega), polTable, polMsg, List.getD_eq_getElem?_getD, List.append_assoc, List.append_assoc,
        List.getElem?_append_right (by rw [polHead_length]; omega),
        List.getElem?_append_right (by rw [polHead_length, polOnes_length]; omega),
        List.getElem?_append_left (by rw [polHead_length, polOnes_length, List.length_replicate]; omega),
        List.getElem?_replicate_of_lt (by rw [polHead_length, polOnes_length]; omega), Option.getD_some]
    rw [wordBy, this]; rfl
  have hw : ∀ o, o + 4 ≤ 64 → wordBy p o = wordOfBytes ((polHead.drop o).take 4) := fun o h2 => by
    rw [wordBy, bp o 4 (by omega), polTable, polMsg, List.append_assoc,
    List.drop_append_of_le_length (by rw [polHead_length]; omega),
      List.take_append_of_le_length (by rw [List.length_drop, polHead_length]; omega)]
  have ho : ∀ i < 256, srcWord p i = 1 := fun i hi => by
    have e : (polOnes.drop (4 * i)).take 4 = [1, 0, 0, 0] := by revert i; decide +kernel
    rw [srcWord, wordBy, bp (0x40 + 4 * i) 4 (by omega), polTable, polMsg, List.append_assoc, List.drop_append,
      List.drop_eq_nil_of_le (by rw [polHead_length]; omega), List.nil_append, polHead_length, List.append_assoc,
      show 0x40 + 4 * i - 64 = 4 * i by omega, List.drop_append_of_le_length (by rw [polOnes_length]; omega),
      List.take_append_of_le_length (by rw [List.length_drop, polOnes_length]; omega), e]
    rfl
  have ht : policyEnt p = true := by
    have h0 : wordBy p 0 = 0x504F4C31 := by rw [hw 0 (by decide)]; decide +kernel
    have h1 : ∀ i < 14, wordBy p (8 + 4 * i) = 0 := fun i hi => by
      rw [hw _ (by omega)]; revert i; decide +kernel
    have h2 : ∀ f < 32, (fnEntryOf p f).v = false := fun f hf => by
      rw [fnEntryOf, fnWord, hz _ (by omega) (by omega)]; rfl
    have h3 : ∀ i < 64, ruleOk (ruleOf p i) = true := fun i hi => by
      rw [ruleOf, hz _ (by omega) (by omega), hz _ (by omega) (by omega)]; decide
    have h5 : ∀ i < 256, srcEntOk i (srcWord p i) = true := fun i hi => by
      rw [ho i hi]; revert i; decide +kernel
    have h4 : ((List.range 32).map fun f => fnEntryOf p f).filter (fun e => e.v) = [] := by
      rw [List.filter_eq_nil_iff]
      intro e he
      obtain ⟨f, hf, rfl⟩ := List.mem_map.1 he
      rw [h2 f (by simpa using hf)]; decide
    simp only [policyEnt, h4, h0, List.all_eq_true, Bool.and_eq_true, decide_eq_true_eq, List.mem_range, fnEntryOk,
      List.filter_nil, List.length_nil]
    refine ⟨⟨⟨⟨⟨trivial, h1⟩, h5⟩, fun f hf => ?_⟩, fun _ _ => Nat.zero_le 1⟩, h3⟩
    rw [h2 f hf]; rfl
  rw [hi, hs, ht, decide_eq_true hh]
  rfl

/-! ### Witnesses: states and operands that meet the hypotheses of the statements, clause by clause -/

/-- A draw of 65 beats is the impossible one. -/
theorem witness_CommandsComplete : exec (.drawRequest ⟨0, false, false, .addr 0, false, 65, [], none,
    []⟩) State.reset = .fault .noSuchDraw :=
  rfl

theorem witness_WellFormedQueuesRun : (∃ t, step ⟨dev0, [.orderlyStopEnd, .pllLock 0]⟩ = .next t) ∧
    ∀ i ∈ [Instr.orderlyStopEnd, Instr.pllLock 0], i.wf = true := ⟨⟨_, rfl⟩, by decide⟩

theorem witness_EmptyQueueLetsATickPass : (State.reset.dev.quiet ∧ State.reset.dev.rbit Reg.CLK_STAT 0 = false ∧
    State.reset.dev.rbit Reg.CLK_STAT 1 = false) ∧
    needsPll .orderlyStopEnd = true ∧ Instr.wf .orderlyStopEnd = true ∧ State.reset.dev.clocked = false := by
  simp -zeta only [quiet_iff]; decide +kernel

/-- A jump that the core may make and one that it may not. -/
theorem witness_BranchesAndJumps_goes : bobDev.executes (.bob 2) (.jmp (.bob 2) ⟨0⟩) ∧
    bobDev.mayExec (.bob 2) (((bobDev.pcOf (.bob 2)).toNat : Int) + 4) = true ∧
    bobDev.executes (.bob 2) (.jmp (.bob 2) ⟨0x3FFFFFE⟩) ∧
    bobDev.mayExec (.bob 2) (((bobDev.pcOf (.bob 2)).toNat : Int) + 4 - 8) = false := by
  unfold Dev.executes; decide +kernel

/-- LOAD of an image that LDRUN supplied, without a body and with one whose copy a lock holds back. -/
theorem witness_StartUp_load :
    (let d := (dev0.setFld Reg.DST_MODE 3 0 3).modSu fun z => { z with supplied := some (0xFFFFFF, 0xFFFFFF) }
     d.mode = 3 ∧ d.clocked = true ∧ ∃ g pol slotB, d.loadSource = some (g, pol, slotB) ∧ (d.copyBody g).isSome = true) ∧
    (let d := (((dev0.setFld Reg.DST_MODE 3 0 3).setBytes 0x1000 skeinImg).setBytes 0x100D [2]).setLock (reqSpn 17) (some 0)
       |>.modSu fun z => { z with supplied := some (0x1000, 0x10000) }
     d.mode = 3 ∧ d.clocked = true ∧ ∃ g pol slotB, d.loadSource = some (g, pol, slotB) ∧ d.copyBody g = none) :=
  ⟨⟨by decide +kernel, by decide +kernel, _, _, _, rfl, by decide +kernel⟩,
    by decide +kernel, by decide +kernel, _, _, _, rfl, Option.isNone_iff_eq_none.1 (by decide +kernel)⟩

/-- A plain copy of a body of 256 bytes to address 0. -/
theorem witness_StartUp_plain :
    let g := fun i => skeinImg.getD i 0 ||| (if i = 13 then 3 else 0)
    let at_ := (wordBy g 0x10).toNat
    let len := min (imageLen g - 0x100) (0x1000000 - at_)
    len = 512 ∧ dev0.settled ∧ at_ % 64 = 0 ∧ len % 4 = 0 ∧ dev0.isCut 130 = false ∧
      ∀ a k, dev0.blockedLine 130 a k = none ∧ dev0.rangeRefuses a k false = false := by
  have hl : dev0.sk.locks = [] := rfl
  have hh : dev0.sk.hanks = [] := rfl
  refine ⟨by decide +kernel, by simp -zeta only [Dev.settled, quiet_iff, noNotice_iff]; decide +kernel, by decide +kernel,
    by decide +kernel, by decide +kernel, fun a k => ⟨?_, by simp [Dev.rangeRefuses, hh]⟩⟩
  simp [Dev.blockedLine, Dev.lockedBy, hl]

/-- An AUTH with the right code, in LOAD and in SERVICE, for the first role and the last. -/
theorem witness_SessionOpening_auth :
    (let d := (dev0.setFld Reg.DST_MODE 3 0 3).modSv fun z => { z with link := some .usb, nonce := some [] }
     3 ≤ d.mode ∧ d.mode ≤ 10 ∧ d.sv.lockout = false ∧ d.nonceValid = true ∧ d.sv.link = some .usb ∧
       ∃ mac, mac = d.authMac (1 : BitVec 8).toNat) ∧
    (let d := (dev0.setFld Reg.DST_MODE 3 0 10).modSv fun z => { z with link := some .usb, nonce := some [] }
     3 ≤ d.mode ∧ d.mode ≤ 10 ∧ d.sv.lockout = false ∧ d.nonceValid = true ∧ d.sv.link = some .usb ∧
       ∃ mac, mac = d.authMac (3 : BitVec 8).toNat) :=
  ⟨⟨by decide +kernel, by decide +kernel, rfl, by decide +kernel, rfl, _, rfl⟩,
    ⟨by decide +kernel, by decide +kernel, rfl, by decide +kernel, rfl, _, rfl⟩⟩

/-- The premises of an open session's frame of a role, at the wrap of SEQ. -/
def heard (d : Dev) (r : Nat) : Prop :=
  let h : SesFrame := ⟨.usb, 0, true⟩
  d.sv.role = some r ∧ d.sv.link = some h.t ∧ h.macOk = true ∧ h.seq.toNat = (d.sv.seq + 1) % 65536

theorem meets_nil (d : Dev) : d.meets [] [] = d := by
  simp [Dev.meets, Dev.readFuses, Dev.flashStrike, Dev.modFl]

theorem witness_SessionCommands_verify :
    let d := imgDev
    let other := !d.rbit Reg.NVM_SLOT 0
    heard d 3 ∧ d.flashMode = true ∧
      ((d.meets [] []).imgSlotOk other && (d.polSlot (d.slotBytes other)).isSome) = true := by
  simp only [meets_nil]
  have e : (!imgDev.rbit Reg.NVM_SLOT 0) = true := by decide +kernel
  refine ⟨⟨rfl, rfl, rfl, rfl⟩, by decide +kernel, ?_⟩
  simp only [e]
  rw [imgDev_slotB, imgDev_table]; rfl

theorem newerDev_newest : newerDev.newest = some false := by
  have hs : ∀ b, newerDev.slotBytes b = fun i =>
      if 0x100000 ≤ slotBase b + i ∧ slotBase b + i < 0x100004 then
        ([0x31, 0x4E, 0x57, 0x47] : List Byte).getD (slotBase b + i - 0x100000) 0
      else if 0x480000 ≤ slotBase b + i ∧ slotBase b + i < 0x480100 then flashImg.getD (slotBase b + i - 0x480000) 0
      else 0xFF := fun b => funext fun i => by
    rw [Dev.slotBytes, newerDev, fbyte_setFbytes, imgDev, fbyte_setFbytes, flashImg_length]; rfl
  simp only [Dev.newest, Dev.slotSeq, Dev.slotFound, hs]
  decide +kernel

theorem newer_slotB (a b : Nat) (v : Bool) (ha : (newerDev.setRbit a b v).arb = 0) :
    (newerDev.setRbit a b v).imgSlotOk (!false) = true :=
  imgDev_slot _ newerDev_img ha newerDev_fuses rfl

/-- ROLLBACK refused for BUSY, refused by the gate, and started. -/
theorem witness_SessionCommands_rollback :
    (let d := newerDev.setRbit Reg.NVM_STAT 0 true
     heard d 3 ∧ d.flashMode = true ∧ d.newest = some false ∧ (d.meets [] []).imgSlotOk (!false) = true ∧
       d.rbit Reg.NVM_STAT 0 = true) ∧
    (let d := newerDev.setRbit Reg.THM_STAT 8 false
     heard d 3 ∧ d.flashMode = true ∧ d.newest = some false ∧ (d.meets [] []).imgSlotOk (!false) = true ∧
       d.rbit Reg.NVM_STAT 0 = false ∧
       d.gateRefusal ≠ 0) ∧
    (let d := newerDev.setRbit Reg.THM_STAT 8 true
     heard d 3 ∧ d.flashMode = true ∧ d.newest = some false ∧ (d.meets [] []).imgSlotOk (!false) = true ∧
       d.rbit Reg.NVM_STAT 0 = false ∧
       d.gateRefusal = 0) := by
  simp only [meets_nil]
  exact ⟨⟨⟨rfl, rfl, rfl, rfl⟩, by decide +kernel, newerDev_newest, newer_slotB _ _ _ (by decide +kernel), by decide +kernel⟩,
    ⟨⟨rfl, rfl, rfl, rfl⟩, by decide +kernel, newerDev_newest, newer_slotB _ _ _ (by decide +kernel), by decide +kernel,
      by decide +kernel⟩,
    ⟨⟨rfl, rfl, rfl, rfl⟩, by decide +kernel, newerDev_newest, newer_slotB _ _ _ (by decide +kernel), by decide +kernel,
      by decide +kernel⟩⟩

theorem witness_SessionCommands_ldrun :
    let d := ldrunDev
    let g := fun o => d.byte (0x1000 + o)
    let p := fun o => d.byte (0x10000 + o)
    heard d 3 ∧ d.mode = 10 ∧ d.fld Reg.DST_MODE 11 8 = 3 ∧
      (d.imageOk g && decide (sha256 (bytesBy p 0 2688) = bytesBy g 0x18 32) && policySig g p && policyEnt p) = true := by
  obtain ⟨f, hf⟩ := setBytes_sk skeinImg (flashDev.modFl fun z => { z with fuses := witFuses }) 0x1000
  obtain ⟨k, hk⟩ := setBytes_sk polTable ((flashDev.modFl fun z => { z with fuses := witFuses }).modSk f) 0x10000
  have e : ldrunDev = ((flashDev.modFl fun z => { z with fuses := witFuses }).modSk f).modSk k := by rw [ldrunDev, hf, hk]
  have hm : flashDev.mode = 10 ∧ flashDev.fld Reg.DST_MODE 11 8 = 3 := by decide +kernel
  have hh : heard flashDev 3 := ⟨rfl, rfl, rfl, rfl⟩
  exact ⟨by rw [e]; exact hh, by rw [e]; exact hm.1, by rw [e]; exact hm.2, ldrunDev_runs _ _ rfl rfl⟩

/-- An instruction with its word. -/
theorem witness_DecodeOfEncode_word :
    ∃ w, encode (.clrf (.bob 2) ⟨0x7F, 1, 0⟩) = some w ∧ Instr.wf (.clrf (.bob 2) ⟨0x7F, 1, 0⟩) = true ∧
      ∀ c f x, Instr.clrf (.bob 2) ⟨0x7F, 1, 0⟩ ≠ .trap c ⟨f, some x⟩ :=
  ⟨_, rfl, by decide, fun _ _ _ h => by cases h⟩

theorem witness_DecodeOfEncode :
  (let c : Core := .bob 2
   let w : Word := 0
   decodeGwyn c w = none) := by
  decide +kernel

theorem witness_EncodeOfDecode :
  (let c : Core := .bob 2
   let w : Word := 0x4BFFFFFF
   let i : Instr := .jmp (.bob 2) ⟨0x3FFFFFF⟩
   decodeGwyn c w = some i) := by
  decide +kernel

theorem witness_WordsDecode :
  (let w : Word := 0xFFFFFFFF
   let major := (w.extractLsb' 26 6).toNat
   (major = 0 ∨ major = 3 ∨ major = 0x0B ∨ (0x21 ≤ major ∧ major ≤ 0x27) ∨ (0x38 ≤ major ∧
     major ≤ 0x3B) ∨ major = 0x3F)) ∧
  (let w : Word := 0x07F00000
   let major := (w.extractLsb' 26 6).toNat
   let fn := (w.extractLsb' 20 6).toNat
   (major = 1 ∧ (fn = 0 ∨ (0x0A ≤ fn ∧ fn ≤ 0x0F) ∨ (0x14 ≤ fn ∧ fn ≤ 0x17) ∨ 0x23 ≤ fn))) ∧
  (let w : Word := 0x0BF00000
   let major := (w.extractLsb' 26 6).toNat
   let fn := (w.extractLsb' 20 6).toNat
   (major = 2 ∧ (fn = 0 ∨ (5 ≤ fn ∧ fn ≤ 7) ∨ 0x0B ≤ fn))) ∧
  (let w : Word := 0x83800000
   let major := (w.extractLsb' 26 6).toNat
   let fn3 := (w.extractLsb' 23 3).toNat
   (major = 0x20 ∧ fn3 = 7)) ∧
  (let w : Word := 0xFBFFFFFF
   let major := (w.extractLsb' 26 6).toNat
   (major = 0x3E ∧ 2 ≤ (w.extractLsb' 5 5).toNat)) := by
  refine ⟨?_, ?_, ?_, ?_, ?_⟩ <;>
    decide +kernel

theorem witness_SaturatingArithmetic :
  (let c : Core := .bob 2
   let f : RegF := ⟨0, 0, 6, 4⟩
   let d : Dev := bobDev
   f.sh = 0 ∧ d.executes c (.add c f)) ∧
  (let c : Core := .bob 2
   let f : RegF := ⟨0, 0, 6, 4⟩
   let d : Dev := bobDev
   f.sh = 0 ∧ f.rs2 = 0 ∧ d.executes c (.neg c f)) ∧
  (let c : Core := .bob 2
   let f : RegF := ⟨0, 0, 6, 4⟩
   let d : Dev := bobDev
   f.rs2 = 0 ∧ d.executes c (.slai c f)) ∧
  (let c : Core := .bob 2
   let g : ImmF := ⟨0, 6, 4⟩
   let d : Dev := bobDev
   d.executes c (.addi c g)) := by
  refine ⟨?_, ?_, ?_, ?_⟩ <;>
    (simp -zeta only [Dev.executes]; decide +kernel)

theorem witness_CoreWritesFrame :
  (let c : Core := .bob 2
   let c' := .bob 1
   c' ≠ c) ∧
  (let c : Core := .spn 17
   let n := Reg.SPN_FLAGS 16
   (∀ p, c = .spn p → n ≠ Reg.SPN_FLAGS p)) := by
  refine ⟨?_, ?_⟩ <;>
    decide +kernel

theorem witness_FlagsStick :
  (let m : Word := 0
   let p : Fin 18 := 17
   let d : Dev := dev0
   (d.spn p).spec = false ∧ d.curLoop p < 4 ∧ (m &&& 0x7F = m)) ∧
  (let p : Fin 18 := 17
   let d : Dev := (dev0.modSpn p fun z => { z with spec := true })
   (d.spn p).spec = true) ∧
  (let c : Core := .bob 2
   let rd : BitVec 5 := 0
   let d : Dev := bobDev
   d.executes c (.rdfl c ⟨0, 0, rd⟩)) ∧
  (let c : Core := .bob 2
   let m : BitVec 16 := 127
   let d : Dev := bobDev
   m.toNat < 128 ∧ d.executes c (.clrf c ⟨m, 1, 0⟩)) := by
  refine ⟨?_, ?_, ?_, ?_⟩
  · decide +kernel
  · decide +kernel
  · simp -zeta only [Dev.executes]; decide +kernel
  · simp -zeta only [Dev.executes]; decide +kernel

theorem witness_ExactAndLogical :
  (let c : Core := .bob 2
   let f : RegF := ⟨0, 0, 6, 4⟩
   let d : Dev := bobDev
   f.sh = 0 ∧ d.executes c (.min_ c f)) ∧
  (let c : Core := .bob 2
   let f : RegF := ⟨0, 0, 6, 4⟩
   let d : Dev := bobDev
   f.rs2 = 0 ∧ d.executes c (.slli c f)) ∧
  (let c : Core := .bob 2
   let g : ImmF := ⟨0, 6, 4⟩
   let d : Dev := bobDev
   d.executes c (.slti c g)) ∧
  (let c : Core := .bob 2
   let g : ImmF := ⟨0xFFFF, 0, 31⟩
   let d : Dev := bobDev
   g.rs1 = 0 ∧ d.executes c (.lhi c g)) := by
  refine ⟨?_, ?_, ?_, ?_⟩ <;>
    (simp -zeta only [Dev.executes]; decide +kernel)

theorem witness_Division :
  (let c : Core := .bob 2
   let f : RegF := ⟨0, 31, 30, 0⟩
   let d : Dev := (bobDev.setV c 31 0xFFFFFFFF)
   let y := d.gv c f.rs2
   f.sh = 0 ∧ y ≠ 0 ∧ d.executes c (.div c f)) ∧
  (let c : Core := .bob 2
   let f : RegF := ⟨0, 0, 30, 31⟩
   let d : Dev := bobDev
   let y := d.gv c f.rs2
   f.sh = 0 ∧ y = 0 ∧ d.executes c (.div c f)) := by
  refine ⟨?_, ?_⟩ <;>
    (simp -zeta only [Dev.executes]; decide +kernel)

theorem witness_MacGroup :
  (let c : Core := .bob 2
   let ad : BitVec 2 := 0
   let n : BitVec 8 := 0
   let r : BitVec 1 := 0
   let rs1 : BitVec 5 := 0
   let kn : MacF := ⟨ad, n ++ r ++ 0#2, rs1, 0⟩
   let d : Dev := bobDev
   d.kinds c [(n.toNat, kPlain)] = true ∧ d.executes c (.macs c kn)) ∧
  (let c : Core := .bob 2
   let ad : BitVec 2 := 0
   let n : BitVec 8 := 255
   let r : BitVec 1 := 0
   let rs1 : BitVec 5 := 0
   let kn : MacF := ⟨ad, n ++ r ++ 0#2, rs1, 0⟩
   let d : Dev := (bobDev.modBob 2 fun z => { z with k := [(255, 1#64 <<< 38)] })
   d.kinds c [(n.toNat, kPlain)] = false ∧ d.executes c (.macs c kn)) ∧
  (let c : Core := .bob 2
   let ad : BitVec 2 := 0
   let r : BitVec 1 := 0
   let sh : BitVec 6 := 0
   let rs1 : BitVec 5 := 0
   let rs2 : BitVec 5 := 0
   let sn : MacF := ⟨ad, sh ++ r ++ 0#4, rs1, rs2⟩
   let d : Dev := bobDev
   d.executes c (.macv c sn)) ∧
  (let c : Core := .bob 2
   let ad : BitVec 2 := 0
   let as_ : BitVec 2 := 0
   let d : Dev := bobDev
   d.executes c (.adda c ⟨ad, as_ ++ 0#9, 0, 0⟩)) := by
  refine ⟨?_, ?_, ?_, ?_⟩ <;>
    (simp -zeta only [Dev.executes]; decide +kernel)

theorem witness_BranchesAndJumps :
  (let r : RegF := ⟨0, 0, 31, 0⟩
   r.sh = 0 ∧ r.rs2 = 0 ∧ r.rd = 0) ∧
  (let r : RegF := ⟨0, 0, 6, 4⟩
   r.sh = 0 ∧ r.rs2 = 0) := by
  refine ⟨?_, ?_⟩ <;>
    decide +kernel

theorem witness_IllegalFieldsAndAccessesTrap :
  (let c : Core := .bob 2
   let w := 0xFFFFFFFF
   let d : Dev := bobDev
   decodeGwyn c w = none ∧ d.executes c (readGwyn c w)) ∧
  (let c : Core := .bob 2
   let f : RegF := ⟨31, 31, 31, 31⟩
   let d : Dev := bobDev
   f.sh ≠ 0 ∧ d.executes c (.add c f)) ∧
  (let c : Core := .bob 2
   let f : RegF := ⟨31, 31, 31, 31⟩
   let s : State := ⟨bobDev, []⟩
   let d := s.dev
   f.sh ≠ 0 ∧ s.dev.mayExec c ((s.dev.gv c f.rs1).toNat : Int) = true ∧ d.executes c (.jmpr c f)) ∧
  (let c : Core := .bob 2
   let f : RegF := ⟨31, 0, 6, 4⟩
   let s : State := ⟨(bobDev.setV c 6 0xFFFFFFFF), []⟩
   let d := s.dev
   f.sh ≠ 0 ∧ s.dev.mayExec c ((s.dev.gv c f.rs1).toNat : Int) = false ∧ d.executes c (.jmpr c f)) ∧
  (let c : Core := .bob 2
   let f : RegF := ⟨31, 31, 31, 31⟩
   let d : Dev := bobDev
   f.rs2 ≠ 0 ∧ d.executes c (.slli c f)) ∧
  (let c : Core := .bob 2
   let g : ImmF := ⟨0, 31, 31⟩
   let d : Dev := bobDev
   g.rs1 ≠ 0 ∧ d.executes c (.lhi c g)) ∧
  (let c : Core := .bob 2
   let k : CtlF := ⟨0, 0, 0, 0⟩
   let d : Dev := bobDev
   (k.rd.toNat % 2 = 1 ∨ k.rd = 0) ∧ d.executes c (.clarke c k)) ∧
  (let c : Core := .spn 17
   let g : ImmF := ⟨0, 6, 4⟩
   let p := 17
   let d : Dev := spnDev
   c = .spn p ∧ d.executes c (.ldB c g)) ∧
  (let c : Core := .bob 2
   let k : CtlF := ⟨0, 0, 0, 0⟩
   let b := 2
   let d : Dev := bobDev
   c = .bob b ∧ k.k = 0 ∧ k.rs1 = 0 ∧ k.rs2 = 0 ∧ k.rd = 0 ∧ d.executes c (.rahead c k)) ∧
  (let c : Core := .bob 2
   let f : ImmF := ⟨0xFFFF, 0, 4⟩
   let d : Dev := bobDev
   let x := d.eaImm c f.rs1 f.imm
   x % 4 ≠ 0 ∧ d.executes c (.ldW c f)) ∧
  (let c : Core := .bob 2
   let f : ImmF := ⟨4, 0, 3⟩
   let d : Dev := bobDev
   let x := d.eaImm c f.rs1 f.imm
   x % 8 ≠ 0 ∧ f.rd.toNat < 4 ∧ d.executes c (.ldA c f)) ∧
  (let c : Core := .bob 2
   let g : StoreF := ⟨0x7FFF, 0, 4⟩
   let d : Dev := bobDev
   let y := d.eaImm c g.rs1 g.imm
   y % 4 ≠ 0 ∧ d.executes c (.stW c g)) ∧
  (let c : Core := .bob 2
   let f : ImmF := ⟨0xFFFC, 0, 4⟩
   let d : Dev := bobDev
   let x := d.eaImm c f.rs1 f.imm
   x % 4 = 0 ∧ x < 0 ∧ d.executes c (.ldW c f)) ∧
  (let c : Core := .spn 17
   let f : ImmF := ⟨0, 6, 4⟩
   let p := 17
   let d : Dev := (spnDev.setV c 6 0x1000000)
   let x := d.eaImm c f.rs1 f.imm
   c = .spn p ∧ x % 4 = 0 ∧ 0x1000000 ≤ x ∧ d.executes c (.ldW c f)) ∧
  (let c : Core := .spn 17
   let g : StoreF := ⟨0, 6, 4⟩
   let p := 17
   let d : Dev := (spnDev.setV c 6 0x1000000)
   let y := d.eaImm c g.rs1 g.imm
   c = .spn p ∧ y % 4 = 0 ∧ 0x1000000 ≤ y ∧ d.executes c (.stW c g)) ∧
  (let c : Core := .bob 2
   let g : StoreF := ⟨0, 6, 4⟩
   let b := 2
   let d : Dev := (((bobDev.setV c 6 0xFFFFFC).setCsr 2 0 0x10).setCsr 2 16 0x1F)
   let y := d.eaImm c g.rs1 g.imm
   c = .bob b ∧ y % 4 = 0 ∧ 0 ≤ y ∧ y + 4 ≤ 0x1000000 ∧ d.mpuOk b y.toNat .write = false ∧ d.executes c (.stW c g)) := by
  refine ⟨?_, ?_, ?_, ?_, ?_, ?_, ?_, ?_, ?_, ?_, ?_, ?_, ?_, ?_, ?_, ?_⟩ <;>
    (simp -zeta only [Dev.executes]; decide +kernel)

theorem witness_LoadsAndCoefficientEntries :
  (let c : Core := .bob 2
   let f : ImmF := ⟨0, 6, 4⟩
   let a : Nat := 0xFFFFF8
   let d : Dev := (bobDev.setV c 6 0xFFFFF8)
   d.eaImm c f.rs1 f.imm = (a : Int) ∧ a + 8 ≤ 0x1000000 ∧ a % 4 = 0 ∧ d.readsPlain c a ∧ d.executes c (.ldW c f)) ∧
  (let c : Core := .bob 2
   let f : ImmF := ⟨0, 6, 3⟩
   let a : Nat := 0xFFFFF8
   let d : Dev := (bobDev.setV c 6 0xFFFFF8)
   d.eaImm c f.rs1 f.imm = (a : Int) ∧ a + 8 ≤ 0x1000000 ∧ a % 8 = 0 ∧ f.rd.toNat < 4 ∧ d.readsPlain c a ∧
     d.readsPlain c (a + 4) ∧ d.executes c (.ldA c f)) ∧
  (let c : Core := .bob 2
   let f : ImmF := ⟨0, 6, 4⟩
   let a : Nat := 0xFFFFF7
   let b := 2
   let d : Dev := (bobDev.setV c 6 0xFFFFF7)
   d.eaImm c f.rs1 f.imm = (a : Int) ∧ a + 8 ≤ 0x1000000 ∧ c = .bob b ∧ d.readsPlain c (a / 4 * 4) ∧
     d.mpuOk b a .read = true ∧ d.executes c (.ldB c f)) ∧
  (let c : Core := .bob 2
   let f : ImmF := ⟨0, 6, 4⟩
   let a : Nat := 0xFFFFF7
   let b := 2
   let d : Dev := (bobDev.setV c 6 0xFFFFF7)
   d.eaImm c f.rs1 f.imm = (a : Int) ∧ a + 8 ≤ 0x1000000 ∧ c = .bob b ∧ d.readsPlain c (a / 4 * 4) ∧
     d.mpuOk b a .read = true ∧ d.executes c (.ldBu c f)) ∧
  (let c : Core := .bob 2
   let f : ImmF := ⟨0, 6, 4⟩
   let a : Nat := 0xFFFFF6
   let b := 2
   let d : Dev := (bobDev.setV c 6 0xFFFFF6)
   d.eaImm c f.rs1 f.imm = (a : Int) ∧ a + 8 ≤ 0x1000000 ∧ c = .bob b ∧ d.readsPlain c (a / 4 * 4) ∧
     d.mpuOk b a .read = true ∧ a % 2 = 0 ∧ d.executes c (.ldH c f)) ∧
  (let c : Core := .bob 2
   let f : ImmF := ⟨0, 6, 4⟩
   let a : Nat := 0xFFFFF6
   let b := 2
   let d : Dev := (bobDev.setV c 6 0xFFFFF6)
   d.eaImm c f.rs1 f.imm = (a : Int) ∧ a + 8 ≤ 0x1000000 ∧ c = .bob b ∧ d.readsPlain c (a / 4 * 4) ∧
     d.mpuOk b a .read = true ∧ a % 2 = 0 ∧ d.executes c (.ldHu c f)) ∧
  (let b : Fin 3 := 2
   let f : KmemF := ⟨0, 255, 6⟩
   let a : Nat := 0xFFFFF8
   let c : Core := .bob b
   let d : Dev := (bobDev.setV c 6 0xFFFFF8)
   d.eaK c f = (a : Int) ∧ a + 8 ≤ 0x1000000 ∧ a % 8 = 0 ∧ f.imm.toNat % 8 = 0 ∧ d.readsPlain c a ∧
     d.readsPlain c (a + 4) ∧ d.executes c (.ldK c f)) ∧
  (let b : Fin 3 := 2
   let f : KmemF := ⟨0, 255, 6⟩
   let a : Nat := 0xFFFFF8
   let c : Core := .bob b
   let d : Dev := (bobDev.setV c 6 0xFFFFF8)
   d.eaK c f = (a : Int) ∧ a + 8 ≤ 0x1000000 ∧ a % 8 = 0 ∧ f.imm.toNat % 8 = 0 ∧ d.storesPlain c a 8 ∧
     d.executes c (.stK c f)) := by
  refine ⟨?_, ?_, ?_, ?_, ?_, ?_, ?_, ?_⟩
  · simp -zeta only [Dev.executes, Dev.readsPlain]; decide +kernel
  · simp -zeta only [Dev.executes, Dev.readsPlain]; decide +kernel
  · simp -zeta only [Dev.executes, Dev.readsPlain]; decide +kernel
  · simp -zeta only [Dev.executes, Dev.readsPlain]; decide +kernel
  · simp -zeta only [Dev.executes, Dev.readsPlain]; decide +kernel
  · simp -zeta only [Dev.executes, Dev.readsPlain]; decide +kernel
  · simp -zeta only [Dev.executes, Dev.readsPlain]; decide +kernel
  · simp -zeta only [Dev.executes, Dev.storesPlain, quiet_iff]; decide +kernel

theorem witness_Stores :
  (let c : Core := .bob 2
   let f : StoreF := ⟨0, 6, 4⟩
   let a : Nat := 0xFFFFF8
   let d : Dev := (bobDev.setV c 6 0xFFFFF8)
   d.eaImm c f.rs1 f.imm = (a : Int) ∧ a + 8 ≤ 0x1000000 ∧ a % 4 = 0 ∧ d.storesPlain c a 4 ∧ d.executes c (.stW c f)) ∧
  (let c : Core := .bob 2
   let f : StoreF := ⟨0, 6, 3⟩
   let a : Nat := 0xFFFFF8
   let d : Dev := (bobDev.setV c 6 0xFFFFF8)
   d.eaImm c f.rs1 f.imm = (a : Int) ∧ a + 8 ≤ 0x1000000 ∧ a % 8 = 0 ∧ f.rs2.toNat < 4 ∧ d.storesPlain c a 8 ∧
     d.executes c (.stA c f)) ∧
  (let c : Core := .bob 2
   let f : StoreF := ⟨0, 6, 4⟩
   let a : Nat := 0xFFFFF7
   let b := 2
   let d : Dev := (bobDev.setV c 6 0xFFFFF7)
   d.eaImm c f.rs1 f.imm = (a : Int) ∧ a + 8 ≤ 0x1000000 ∧ c = .bob b ∧ d.storesPlain c a 1 ∧ d.ecc a = .good ∧
     d.executes c (.stB c f)) ∧
  (let c : Core := .bob 2
   let f : StoreF := ⟨0, 6, 4⟩
   let a : Nat := 0xFFFFF6
   let b := 2
   let d : Dev := (bobDev.setV c 6 0xFFFFF6)
   d.eaImm c f.rs1 f.imm = (a : Int) ∧ a + 8 ≤ 0x1000000 ∧ c = .bob b ∧ a % 2 = 0 ∧ d.storesPlain c a 2 ∧
     d.ecc a = .good ∧ d.executes c (.stH c f)) := by
  refine ⟨?_, ?_, ?_, ?_⟩ <;>
    (simp -zeta only [Dev.executes, Dev.storesPlain, quiet_iff]; decide +kernel)

theorem witness_QueuedStoresAndFence :
  (let p : Fin 18 := 17
   let f : StoreF := ⟨0, 6, 4⟩
   let a : Nat := 0xFFFFFC
   let c : Core := .spn p
   let d : Dev := (((spnDev.setV c 6 0xFFFFFC).modSpn p fun z => { z with ra := true }).modSpn p fun z =>
     { z with queue := List.replicate 63 (.trace 0 0) })
   d.eaImm c f.rs1 f.imm = (a : Int) ∧ a % 4 = 0 ∧ a < 0x1000000 ∧ (d.spn p).ra = true ∧
     (d.spn p).queue.length < 64 ∧ d.executes c (.stW c f)) ∧
  (let p : Fin 18 := 17
   let f : StoreF := ⟨0, 6, 4⟩
   let a : Nat := 0xFFFFFC
   let c : Core := .spn p
   let d : Dev := (((spnDev.setV c 6 0xFFFFFC).modSpn p fun z => { z with ra := true }).modSpn p fun z =>
     { z with queue := List.replicate 64 (.trace 0 0) })
   d.eaImm c f.rs1 f.imm = (a : Int) ∧ a % 4 = 0 ∧ a < 0x1000000 ∧ (d.spn p).ra = true ∧
     64 ≤ (d.spn p).queue.length ∧ d.executes c (.stW c f)) ∧
  (let c : Core := .bob 2
   let i : Instr := .fence c ⟨0, 0, 0, 0⟩
   let s : State := ⟨bobDev, []⟩
   let d := s.dev
   (∀ b < 16, ∀ x ∈ s.dev.drawsOf b, x.req ≠ coreReq c) ∧ d.executes c i) ∧
  (let c : Core := .spn 17
   let i : Instr := .fence c ⟨0, 0, 0, 0⟩
   let s : State := ⟨(spnDev.modSpn 17 fun z => { z with ra := true }), []⟩
   let d := s.dev
   s.dev.inRa c = true ∧ d.executes c i) ∧
  (let c : Core := .bob 2
   let i : Instr := .fence c ⟨0, 0, 0, 0⟩
   let s : State := ⟨(bobDev.setDraws 15 [⟨coreReq c, 2, none, true, none, 0, 4, [0, 0, 0, 0], [], false, some 0,
     false, .plain, 0, 0, false, false, false, []⟩]), []⟩
   s.dev.inRa c = false ∧ (∃ b < 16, ∃ x ∈ s.dev.drawsOf b, x.req = coreReq c) ∧ s.dev.executes c i) := by
  refine ⟨?_, ?_, ?_, ?_, ?_⟩ <;>
    (simp -zeta only [Dev.executes]; decide +kernel)

theorem witness_TrapEntry :
  (let b : Fin 3 := 2
   let cause : Fin 256 := 255
   let d : Dev := dev0
   cause.val ≠ 2 ∧ cause.val ≠ 3 ∧ cause.val ≠ 4 ∧ cause.val ≠ 13 ∧ bitOf (d.csr b 0) 5 = false) ∧
  (let b : Fin 3 := 2
   let cause : Fin 256 := 255
   let n := 4
   let d : Dev := dev0
   cause.val ≠ 2 ∧ cause.val ≠ 3 ∧ cause.val ≠ 4 ∧ cause.val ≠ 13 ∧ bitOf (d.csr b 0) 5 = false ∧ 4 ≤ n) ∧
  (let b : Fin 3 := 2
   let d : Dev := (dev0.setCsr b 0 0x20)
   bitOf (d.csr b 0) 5 = true) ∧
  (let p : Fin 18 := 17
   let l : Fin 4 := 3
   let d : Dev := (dev0.modSpn p fun z => { z with slot := some l.val })
   (d.spn p).ra = false ∧ (d.spn p).slot = some l.val) ∧
  (let p : Fin 18 := 17
   let l : Fin 4 := 3
   let d : Dev := (dev0.modSpn p fun z => { z with slot := some l.val })
   (d.spn p).ra = false ∧ (d.spn p).slot = some l.val ∧ d.rbit (Reg.SPN_TRAPC p) 31 = false) ∧
  (let p : Fin 18 := 17
   let l : Fin 4 := 3
   let d : Dev := ((dev0.modSpn p fun z => { z with slot := some l.val }).setRbit (Reg.SPN_TRAPC p) 31 true)
   (d.spn p).ra = false ∧ (d.spn p).slot = some l.val ∧ d.rbit (Reg.SPN_TRAPC p) 31 = true) := by
  refine ⟨?_, ?_, ?_, ?_, ?_, ?_⟩ <;>
    decide +kernel

theorem witness_SystemInstructions :
  (let b : Fin 3 := 2
   let n : BitVec 8 := 0
   let r : BitVec 5 := 0
   let c : Core := .bob b
   let mf : ImmF := ⟨0#8 ++ n, 0, r⟩
   let d : Dev := bobDev
   let st := d.csr b 0
   bitOf st 0 = true ∧ cregOk n.toNat = true ∧ d.executes c (.mfc c mf)) ∧
  (let b : Fin 3 := 2
   let n : BitVec 8 := 0
   let r : BitVec 5 := 0
   let c : Core := .bob b
   let wr := fun (op : BitVec 2) => (⟨op ++ 0#6 ++ n, r, 0⟩ : ImmF)
   let d : Dev := bobDev
   let st := d.csr b 0
   bitOf st 0 = true ∧ cregOk n.toNat = true ∧ cregRo n.toNat = false ∧ d.executes c (.mtc c (wr 1))) ∧
  (let b : Fin 3 := 2
   let n : BitVec 8 := 13
   let r : BitVec 5 := 0
   let c : Core := .bob b
   let wr := fun (op : BitVec 2) => (⟨op ++ 0#6 ++ n, r, 0⟩ : ImmF)
   let d : Dev := bobDev
   let st := d.csr b 0
   bitOf st 0 = true ∧ cregOk n.toNat = true ∧ cregRo n.toNat = true ∧ d.executes c (.mtc c (wr 1))) ∧
  (let b : Fin 3 := 2
   let n : BitVec 8 := 0xFF
   let r : BitVec 5 := 0
   let c : Core := .bob b
   let mf : ImmF := ⟨0#8 ++ n, 0, r⟩
   let d : Dev := bobDev
   cregOk n.toNat = false ∧ d.executes c (.mfc c mf)) ∧
  (let b : Fin 3 := 2
   let c : Core := .bob b
   let none_ : RegF := ⟨0, 0, 0, 0⟩
   let d : Dev := bobDev
   let st := d.csr b 0
   bitOf st 0 = true ∧ d.executes c (.eret c none_)) ∧
  (let b : Fin 3 := 2
   let c : Core := .bob b
   let none_ : RegF := ⟨0, 0, 0, 0⟩
   let d : Dev := ((bobDev.setCsr 2 10 1).setReg Reg.SNL_NOTE 0xFFFF)
   let st := d.csr b 0
   bitOf st 0 = true ∧ (d.irqLine b).isSome = true ∧ d.executes c (.wfi c none_)) ∧
  (let b : Fin 3 := 2
   let c : Core := .bob b
   let none_ : RegF := ⟨0, 0, 0, 0⟩
   let d : Dev := bobDev
   let st := d.csr b 0
   bitOf st 0 = true ∧ d.irqLine b = none ∧ d.executes c (.wfi c none_)) ∧
  (let b : Fin 3 := 2
   let c : Core := .bob b
   let none_ : RegF := ⟨0, 0, 0, 0⟩
   let d : Dev := (bobDev.setCsr 2 0 0)
   let st := d.csr b 0
   bitOf st 0 = false ∧ d.executes c (.eret c none_)) ∧
  (let b : Fin 3 := 2
   let n : BitVec 8 := 0
   let r : BitVec 5 := 0
   let c : Core := .bob b
   let mf : ImmF := ⟨0#8 ++ n, 0, r⟩
   let d : Dev := (bobDev.setCsr 2 0 0)
   let st := d.csr b 0
   bitOf st 0 = false ∧ cregOk n.toNat = true ∧ d.executes c (.mfc c mf)) ∧
  (let b : Fin 3 := 2
   let n : BitVec 8 := 0
   let r : BitVec 5 := 0
   let c : Core := .bob b
   let wr := fun (op : BitVec 2) => (⟨op ++ 0#6 ++ n, r, 0⟩ : ImmF)
   let d : Dev := (bobDev.setCsr 2 0 0)
   let st := d.csr b 0
   bitOf st 0 = false ∧ cregOk n.toNat = true ∧ cregRo n.toNat = false ∧ d.executes c (.mtc c (wr 1))) ∧
  (let b : Fin 3 := 2
   let z : RegF := ⟨31, 28, 0, 0⟩
   let c : Core := .bob b
   let d : Dev := bobDev
   let st := d.csr b 0
   z.rs2.toNat % 4 = 0 ∧ z.rs1 = 0 ∧ z.rd = 0 ∧ bitOf st 5 = false ∧ d.executes c (.trap c ⟨z, none⟩)) := by
  refine ⟨?_, ?_, ?_, ?_, ?_, ?_, ?_, ?_, ?_, ?_, ?_⟩ <;>
    (simp -zeta only [Dev.executes]; decide +kernel)

theorem witness_BobbinEvents :
  (let b : Fin 3 := 2
   let n : Nat := 0
   let c : Core := .bob b
   let d : Dev := (((bobDev.setCsr 2 0 3).setCsr 2 10 1).setReg Reg.SNL_NOTE 0xFFFF)
   d.free c = true ∧ (d.bob b).refused = [] ∧ bitOf (d.csr b 0) 1 = true ∧ d.irqLine b = some n) ∧
  (let b : Fin 3 := 2
   let d : Dev := dev0
   bitOf (d.csr b 0) 1 = false) ∧
  (let b : Fin 3 := 2
   let n : Nat := 0
   let d : Dev := ((((bobDev.setCsr 2 10 1).setReg Reg.SNL_NOTE 0xFFFF).modBob b fun z =>
     { z with running := true }).modBob b fun z => { z with wfi := true })
   d.clocked = true ∧ (d.bob b).running = true ∧ (d.bob b).wfi = true ∧ d.irqLine b = some n) ∧
  (let b : Fin 3 := 2
   let d : Dev := dev0
   d.irqLine b = none) ∧
  (let b : Fin 3 := 2
   let d : Dev := dev0
   d.clocked = true ∧ (d.bob b).cycle % 2 ^ 32 = (d.csr b 7).toNat) ∧
  (let b : Fin 3 := 2
   let r := ⟨7, 0, 0, 0⟩
   let rest := []
   let c : Core := .bob b
   let d : Dev := (bobDev.modBob b fun z => { z with refused := r :: rest })
   (d.bob b).refused = r :: rest ∧ d.free c = true ∧ bitOf (d.csr b 0) 5 = false) := by
  refine ⟨?_, ?_, ?_, ?_, ?_, ?_⟩ <;>
    decide +kernel

theorem witness_Transforms :
  (let c : Core := .bob 2
   let f : CtlF := ⟨0, 8, 6, 4⟩
   let d : Dev := bobDev
   f.k = 0 ∧ pairOk f.rd = true ∧ meets f.rd 2 f.rs1 1 = false ∧ meets f.rd 2 f.rs2 1 = false ∧
     d.executes c (.clarke c f)) ∧
  (let c : Core := .bob 2
   let f : CtlF := ⟨0, 8, 6, 4⟩
   let d : Dev := bobDev
   f.k = 0 ∧ pairOk f.rd = true ∧ pairOk f.rs2 = true ∧ meets f.rd 2 f.rs1 1 = false ∧
     meets f.rd 2 f.rs2 2 = false ∧ d.executes c (.clarke3 c f)) ∧
  (let c : Core := .bob 2
   let f : CtlF := ⟨0, 10, 6, 4⟩
   let d : Dev := bobDev
   f.k = 0 ∧ pairOk f.rd = true ∧ pairOk f.rs1 = true ∧ meets f.rd 2 f.rs1 2 = false ∧
     meets f.rd 2 f.rs2 1 = false ∧ d.executes c (.park c f)) ∧
  (let c : Core := .bob 2
   let f : CtlF := ⟨255, 0, 6, 8⟩
   let d : Dev := (bobDev.modBob 2 fun z => { z with k := [(255, 1#64 <<< 38)] })
   f.rs2 = 0 ∧ quadOk f.rd = true ∧ pairOk f.rs1 = true ∧ meets f.rd 4 f.rs1 2 = false ∧
     d.kinds c [(f.k.toNat, kLimit)] = true ∧ d.executes c (.svm c f)) ∧
  (let c : Core := .bob 2
   let f : CtlF := ⟨255, 0, 6, 8⟩
   let d : Dev := bobDev
   f.rs2 = 0 ∧ quadOk f.rd = true ∧ pairOk f.rs1 = true ∧ meets f.rd 4 f.rs1 2 = false ∧
     d.kinds c [(f.k.toNat, kLimit)] = false ∧ d.executes c (.svm c f)) := by
  refine ⟨?_, ?_, ?_, ?_, ?_⟩ <;>
    (simp -zeta only [Dev.executes]; decide +kernel)

theorem witness_ComparatorsAndTable :
  (let c : Core := .bob 2
   let f : CtlF := ⟨255, 0, 6, 8⟩
   let d : Dev := (bobDev.modBob 2 fun z => { z with k := [(255, 1#64 <<< 38)] })
   f.rs2 = 0 ∧ d.kinds c [(f.k.toNat, kLimit)] = true ∧ d.executes c (.band2 c f)) ∧
  (let c : Core := .bob 2
   let f : CtlF := ⟨255, 0, 6, 8⟩
   let d : Dev := bobDev
   f.rs2 = 0 ∧ d.kinds c [(f.k.toNat, kLimit)] = false ∧ d.executes c (.band2 c f)) ∧
  (let c : Core := .bob 2
   let f : CtlF := ⟨9, 10, 6, 8⟩
   let d : Dev := (bobDev.modBob 2 fun z => { z with k := [(9, 3#64 <<< 38 ||| 219)] })
   let idx := d.kv c f.k.toNat + swtabIndex (d.iv c f.rs1) (d.iv c f.rs2) (d.iv c (f.rs2 + 1))
   pairOk f.rs2 = true ∧ d.kinds c [(f.k.toNat, kPtr)] = true ∧ 0 ≤ idx ∧ idx ≤ 255 ∧
     d.kinds c [(idx.toNat, kPlain)] = true ∧ d.executes c (.swtab c f)) ∧
  (let c : Core := .bob 2
   let f : CtlF := ⟨9, 10, 6, 8⟩
   let d : Dev := (bobDev.modBob 2 fun z => { z with k := [(9, 3#64 <<< 38 ||| 256)] })
   let idx := d.kv c f.k.toNat + swtabIndex (d.iv c f.rs1) (d.iv c f.rs2) (d.iv c (f.rs2 + 1))
   pairOk f.rs2 = true ∧ d.kinds c [(f.k.toNat, kPtr)] = true ∧ (idx < 0 ∨ 255 < idx) ∧ d.executes c (.swtab c f)) := by
  refine ⟨?_, ?_, ?_, ?_⟩ <;>
    (simp -zeta only [Dev.executes]; decide +kernel)

theorem witness_FiltersCurveObservers :
  (let c : Core := .bob 2
   let f : CtlF := ⟨251, 2, 6, 8⟩
   let n := f.k.toNat
   let a := f.rs2.toNat
   let plain := fun (m i : Nat) => (List.range i).map fun j => (m + j, kPlain)
   let d : Dev := bobDev
   (a = 0 ∨ a = 2) ∧ d.kinds c (plain n 5) = true ∧ d.executes c (.biq c f)) ∧
  (let c : Core := .bob 2
   let f : CtlF := ⟨253, 3, 6, 8⟩
   let n := f.k.toNat
   let a := f.rs2.toNat
   let d : Dev := (bobDev.modBob 2 fun z => { z with k := [(254, 1#64 <<< 38), (255, 1#64 <<< 38)] })
   a < 4 ∧ d.kinds c [(n, kPlain), (n + 1, kLimit), (n + 2, kLimit)] = true ∧ d.executes c (.integ c f)) ∧
  (let c : Core := .bob 2
   let f : CtlF := ⟨9, 0, 6, 8⟩
   let n := f.k.toNat
   let plain := fun (m i : Nat) => (List.range i).map fun j => (m + j, kPlain)
   let d : Dev := (bobDev.modBob 2 fun z => { z with k := [(9, 3#64 <<< 38 ||| 224)] })
   f.rs2 = 0 ∧ d.kinds c [(n, kPtr)] = true ∧ 0 ≤ d.kv c n ∧ d.kv c n ≤ 224 ∧
     d.kinds c (plain (d.kv c n).toNat 32) = true ∧ d.executes c (.lut c f)) ∧
  (let c : Core := .bob 2
   let f : CtlF := ⟨9, 0, 6, 8⟩
   let n := f.k.toNat
   let d : Dev := (bobDev.modBob 2 fun z => { z with k := [(9, 3#64 <<< 38 ||| 0xFFFFFFFF)] })
   f.rs2 = 0 ∧ d.kinds c [(n, kPtr)] = true ∧ d.kv c n < 0 ∧ d.executes c (.lut c f)) ∧
  (let c : Core := .bob 2
   let f : CtlF := ⟨252, 31, 8, 4⟩
   let n := f.k.toNat
   let d : Dev := bobDev
   quadOk f.rd = true ∧ quadOk f.rs1 = true ∧ meets f.rd 4 f.rs1 4 = false ∧ meets f.rd 4 f.rs2 1 = false ∧
     meets f.rs1 4 f.rs2 1 = false ∧
     d.kinds c [(n, kPlain), (n + 1, kPlain), (n + 2, kPlain), (n + 3, kPlain)] = true ∧ d.executes c (.obsEmf c f)) ∧
  (let c : Core := .bob 2
   let f : CtlF := ⟨253, 3, 6, 8⟩
   let n := f.k.toNat
   let d : Dev := bobDev
   f.rs2.toNat < 4 ∧ pairOk f.rd = true ∧ pairOk f.rs1 = true ∧ meets f.rd 2 f.rs1 2 = false ∧
     d.kinds c [(n, kPlain), (n + 1, kPlain), (n + 2, kPlain)] = true ∧ d.executes c (.obsPll c f)) := by
  refine ⟨?_, ?_, ?_, ?_, ?_, ?_⟩ <;>
    (simp -zeta only [Dev.executes]; decide +kernel)

theorem witness_SamplesAndImages :
  (let p : Fin 18 := 17
   let st : Fin 4 := 3
   let j : Fin 16 := 15
   let r : BitVec 5 := 0
   let c : Core := .spn p
   let k : BitVec 8 := BitVec.ofNat 8 (64 * st + j)
   let d : Dev := (spnDev.setFld (Reg.SPN_SDEF p st) 4 0 16)
   j.val < d.nslot p st ∧ (d.spn p).ra = false ∧ (d.spn p).subst = [] ∧ d.executes c (.lds c ⟨k, 0, 0, r⟩)) ∧
  (let p : Fin 18 := 17
   let st : Fin 4 := 3
   let j : Fin 16 := 15
   let r : BitVec 5 := 0
   let c : Core := .spn p
   let k : BitVec 8 := BitVec.ofNat 8 (64 * st + j)
   let d : Dev := ((spnDev.setFld (Reg.SPN_SDEF p st) 4 0 16).modSpn p fun z => { z with ra := true })
   j.val < d.nslot p st ∧ (d.spn p).ra = true ∧ d.executes c (.lds c ⟨k, 0, 0, r⟩)) ∧
  (let p : Fin 18 := 17
   let st : Fin 4 := 3
   let j : Fin 16 := 15
   let r : BitVec 5 := 0
   let c : Core := .spn p
   let k : BitVec 8 := BitVec.ofNat 8 (64 * st + j)
   let d : Dev := (spnDev.setFld (Reg.SPN_SDEF p st) 4 0 16)
   j.val < d.nslot p st ∧ d.executes c (.ldp c ⟨k, 0, 0, r⟩)) ∧
  (let p : Fin 18 := 17
   let st : Fin 4 := 3
   let j : Fin 16 := 15
   let r : BitVec 5 := 0
   let c : Core := .spn p
   let k : BitVec 8 := BitVec.ofNat 8 (64 * st + j)
   let d : Dev := spnDev
   d.nslot p st ≤ j.val ∧ d.executes c (.lds c ⟨k, 0, 0, r⟩)) ∧
  (let p : Fin 18 := 17
   let w : Fin 16 := 15
   let u : Fin 4 := 3
   let r : BitVec 5 := 0
   let c : Core := .spn p
   let kd : BitVec 8 := BitVec.ofNat 8 (16 * w + u)
   let d : Dev := (spnDev.setFld (Reg.SPN_LENT1 p 3) 20 16 16)
   let l := d.curLoop p
   w.val < (d.whorlList p l).length ∧ d.executes c (.putd c ⟨kd, 0, r, 0⟩)) ∧
  (let p : Fin 18 := 17
   let w : Fin 16 := 15
   let u : Fin 4 := 3
   let r : BitVec 5 := 0
   let c : Core := .spn p
   let kd : BitVec 8 := BitVec.ofNat 8 (16 * w + u)
   let d : Dev := spnDev
   let l := d.curLoop p
   (d.whorlList p l).length ≤ w.val ∧ d.executes c (.putd c ⟨kd, 0, r, 0⟩)) ∧
  (let p : Fin 18 := 17
   let st : Fin 4 := 3
   let c : Core := .spn p
   let i : Instr := .waits c ⟨BitVec.ofNat 8 (64 * st), 0, 0, 0⟩
   let d : Dev := (spnDev.modSpn p fun z => { z with ra := true })
   (d.spn p).ra = true ∧ d.executes c i) ∧
  (let p : Fin 18 := 17
   let st : Fin 4 := 3
   let c : Core := .spn p
   let i : Instr := .waits c ⟨BitVec.ofNat 8 (64 * st), 0, 0, 0⟩
   let d : Dev := spnDev
   (d.spn p).ra = false ∧ d.nslot p st = 0 ∧ d.executes c i) ∧
  (let p : Fin 18 := 17
   let st : Fin 4 := 3
   let c : Core := .spn p
   let i : Instr := .waits c ⟨BitVec.ofNat 8 (64 * st), 0, 0, 0⟩
   let d : Dev := ((spnDev.setFld (Reg.SPN_SDEF p st) 4 0 1).setLock (reqSpn p) (some 0))
   (d.spn p).ra = false ∧ d.nslot p st ≠ 0 ∧ (d.lockOf (reqSpn p)).isSome = true ∧ d.executes c i) ∧
  (let p : Fin 18 := 17
   let st : Fin 4 := 3
   let c : Core := .spn p
   let i : Instr := .waits c ⟨BitVec.ofNat 8 (64 * st), 0, 0, 0⟩
   let d : Dev := (spnDev.setFld (Reg.SPN_SDEF p st) 4 0 1)
   let ready := ((d.spn p).win st).complete (d.nslot p st)
   (d.spn p).ra = false ∧ d.nslot p st ≠ 0 ∧ d.lockOf (reqSpn p) = none ∧ d.executes c i ∧ ready = false) ∧
  (let p : Fin 18 := 17
   let st : Fin 4 := 3
   let c : Core := .spn p
   let i : Instr := .waits c ⟨BitVec.ofNat 8 (64 * st), 0, 0, 0⟩
   let d : Dev := ((spnDev.setFld (Reg.SPN_SDEF p st) 4 0 1).modWin p st fun z =>
     { z with opened := true, filling := [(0, some 5)] })
   let ready := ((d.spn p).win st).complete (d.nslot p st)
   (d.spn p).ra = false ∧ d.nslot p st ≠ 0 ∧ d.lockOf (reqSpn p) = none ∧ d.executes c i ∧ ready = true) ∧
  (let p : Fin 18 := 17
   let st : Fin 4 := 3
   let d : Dev := (((spnDev.setFld (Reg.SPN_SDEF p st) 4 0 1).modSpn p fun z =>
     { z with wait := some (.waits st) }).modWin p st fun z => { z with opened := true, filling := [(0, some 5)] })
   let ready := ((d.spn p).win st).complete (d.nslot p st)
   (d.spn p).wait = some (.waits st) ∧ ready = true ∧ d.clocked = true) ∧
  (let p : Fin 18 := 17
   let st : Fin 4 := 3
   let d : Dev := ((spnDev.setFld (Reg.SPN_SDEF p st) 4 0 1).modSpn p fun z => { z with wait := some (.waits st) })
   let ready := ((d.spn p).win st).complete (d.nslot p st)
   (d.spn p).wait = some (.waits st) ∧ ready = false) := by
  refine ⟨?_, ?_, ?_, ?_, ?_, ?_, ?_, ?_, ?_, ?_, ?_, ?_, ?_⟩
  · simp -zeta only [Dev.executes]; decide +kernel
  · simp -zeta only [Dev.executes]; decide +kernel
  · simp -zeta only [Dev.executes]; decide +kernel
  · simp -zeta only [Dev.executes]; decide +kernel
  · simp -zeta only [Dev.executes]; decide +kernel
  · simp -zeta only [Dev.executes]; decide +kernel
  · simp -zeta only [Dev.executes]; decide +kernel
  · simp -zeta only [Dev.executes]; decide +kernel
  · simp -zeta only [Dev.executes]; decide +kernel
  · simp -zeta only [Dev.executes]; decide +kernel
  · simp -zeta only [Dev.executes]; decide +kernel
  · decide +kernel
  · decide +kernel

theorem witness_RunAhead :
  (let p : Fin 18 := 17
   let c : Core := .spn p
   let z : CtlF := ⟨0, 0, 0, 0⟩
   let d : Dev := (spnDev.modSpn p fun z => { z with ra := true })
   let l := d.curLoop p
   d.inWindow p ((d.entryPc p l .body).toNat : Int) = true ∧ (d.spn p).ra = true ∧ d.executes c (.rahead c z)) ∧
  (let p : Fin 18 := 17
   let c : Core := .spn p
   let z : CtlF := ⟨0, 0, 0, 0⟩
   let d : Dev := (spnDev.setLock (reqSpn p) (some 0))
   let l := d.curLoop p
   d.inWindow p ((d.entryPc p l .body).toNat : Int) = true ∧ (d.spn p).ra = false ∧
     (d.lockOf (reqSpn p)).isSome = true ∧ d.executes c (.rahead c z)) ∧
  (let p : Fin 18 := 17
   let c : Core := .spn p
   let z : CtlF := ⟨0, 0, 0, 0⟩
   let d : Dev := ((spnDev.setRbit (Reg.SPN_LSTAT p 3) 1 true).setRbit (Reg.SPN_LTRIG p 3) 8 true)
   let l := d.curLoop p
   d.inWindow p ((d.entryPc p l .body).toNat : Int) = true ∧ (d.spn p).ra = false ∧ d.lockOf (reqSpn p) = none ∧
     d.psv p l = true ∧ d.rbit (Reg.SPN_LSTAT p l) 1 = true ∧ (d.spn p).recovered = false ∧
     d.executes c (.rahead c z)) ∧
  (let p : Fin 18 := 17
   let c : Core := .spn p
   let z : CtlF := ⟨0, 0, 0, 0⟩
   let d : Dev := spnDev
   let l := d.curLoop p
   d.inWindow p ((d.entryPc p l .body).toNat : Int) = true ∧ (d.spn p).ra = false ∧ d.lockOf (reqSpn p) = none ∧
     d.psv p l = false ∧ d.executes c (.rahead c z)) ∧
  (let p : Fin 18 := 17
   let c : Core := .spn p
   let z : CtlF := ⟨0, 0, 0, 0⟩
   let d : Dev := ((spnDev.setFld (Reg.SPN_LENT0 p 3) 27 16 4095).modSpn p fun z => { z with pbeats := 1 })
   let l := d.curLoop p
   d.inWindow p ((d.entryPc p l .body).toNat : Int) = false ∧ d.executes c (.rahead c z)) ∧
  (let p : Fin 18 := 17
   let k : BitVec 8 := 0
   let c : Core := .spn p
   let d : Dev := spnDev
   (d.spn p).ra = false ∧ d.executes c (.check c ⟨k, 0, 0, 0⟩)) ∧
  (let p : Fin 18 := 17
   let k : BitVec 8 := 0
   let c : Core := .spn p
   let z : CtlF := ⟨0, 0, 0, 0⟩
   let d : Dev := (spnDev.modSpn p fun z => { z with ra := true })
   let l := d.curLoop p
   (d.spn p).ra = true ∧ d.kinds c (d.checkEntries p l k.toNat) = false ∧ d.executes c (.check c ⟨k, 0, 0, 0⟩)) ∧
  (let p : Fin 18 := 17
   let k : BitVec 8 := 255
   let c : Core := .spn p
   let z : CtlF := ⟨0, 0, 0, 0⟩
   let d : Dev := ((spnDev.modSpn p fun z => { z with kfile := [(255, 1#64 <<< 38)] }).modSpn p fun z =>
     { z with ra := true })
   let l := d.curLoop p
   (d.spn p).ra = true ∧ d.kinds c (d.checkEntries p l k.toNat) = true ∧ d.primaryReady p l = false ∧
     d.executes c (.check c ⟨k, 0, 0, 0⟩)) ∧
  (let p : Fin 18 := 17
   let c : Core := .spn p
   let z : CtlF := ⟨0, 0, 0, 0⟩
   let d : Dev := (spnDev.modSpn p fun z => { z with ra := true })
   (d.spn p).ra = true ∧ d.executes c (.commit c z)) ∧
  (let p : Fin 18 := 17
   let c : Core := .spn p
   let z : CtlF := ⟨0, 0, 0, 0⟩
   let d : Dev := (spnDev.modLp p 3 fun z => { z with committed := true })
   let l := d.curLoop p
   (d.spn p).ra = false ∧ (d.lp p l).committed = true ∧ d.executes c (.commit c z)) ∧
  (let p : Fin 18 := 17
   let ev := 0
   let c : Core := .spn p
   let z : CtlF := ⟨0, 0, 0, 0⟩
   let d : Dev := (spnDev.modLp p 3 fun z => { z with evAt := some ev })
   let l := d.curLoop p
   (d.spn p).ra = false ∧ (d.lp p l).committed = false ∧ (d.lp p l).evAt = some ev ∧
     (ev + (if d.rbit (Reg.SPN_LSTAT p l) 1 = true ∨ (d.spn p).recovered = true then d.fld (Reg.SPN_LDEAD p l) 15
     0 else d.fld (Reg.SPN_LSLOT p l) 31 16) ≤ d.now) ∧ d.executes c (.commit c z)) ∧
  (let p : Fin 18 := 17
   let c : Core := .spn p
   let z : CtlF := ⟨0, 0, 0, 0⟩
   let d : Dev := spnDev
   let l := d.curLoop p
   (d.spn p).ra = false ∧ (d.lp p l).committed = false ∧ (d.lp p l).evAt = none ∧ d.executes c (.commit c z)) ∧
  (let p : Fin 18 := 17
   let c : Core := .spn p
   let z : CtlF := ⟨0, 0, 0, 0⟩
   let d : Dev := (spnDev.modSpn p fun z => { z with entry := some .body })
   (d.spn p).ra = false ∧ d.executes c (.halt c z) ∧ (d.spn p).entry = some .body) ∧
  (let p : Fin 18 := 17
   let c : Core := .spn p
   let z : CtlF := ⟨0, 0, 0, 0⟩
   let d : Dev := (spnDev.modSpn p fun z => { z with entry := some .post })
   (d.spn p).ra = false ∧ d.executes c (.halt c z) ∧ (d.spn p).entry ≠ some .body) := by
  refine ⟨?_, ?_, ?_, ?_, ?_, ?_, ?_, ?_, ?_, ?_, ?_, ?_, ?_, ?_⟩ <;>
    (simp -zeta only [Dev.executes]; decide +kernel)

theorem witness_PlyLocks :
  (let c : Core := .spn 17
   let r : BitVec 5 := 6
   let lk : Instr := .plyLock c ⟨0, 0, r, 0⟩
   let d : Dev := (spnDev.modSpn 17 fun z => { z with ra := true })
   d.inRa c = true ∧ d.executes c lk) ∧
  (let c : Core := .bob 2
   let r : BitVec 5 := 6
   let lk : Instr := .plyLock c ⟨0, 0, r, 0⟩
   let d : Dev := (bobDev.setV c r 0x1000000)
   let a := d.gv c r
   d.inRa c = false ∧ 0x1000000 ≤ a.toNat ∧ d.executes c lk) ∧
  (let c : Core := .bob 2
   let r : BitVec 5 := 6
   let lk : Instr := .plyLock c ⟨0, 0, r, 0⟩
   let d : Dev := ((bobDev.setV c r 0xFFFFC0).setLock (coreReq c) (some 0))
   let a := d.gv c r
   d.inRa c = false ∧ a.toNat < 0x1000000 ∧ (d.lockOf (coreReq c)).isSome = true ∧ d.executes c lk) ∧
  (let c : Core := .bob 2
   let r : BitVec 5 := 6
   let lk : Instr := .plyLock c ⟨0, 0, r, 0⟩
   let d : Dev := ((bobDev.setV c r 0xFFFFC0).setHank 255 ⟨16383, 0, 0, 5, true, 0, 0, 0, 0⟩)
   let a := d.gv c r
   d.inRa c = false ∧ a.toNat < 0x1000000 ∧ d.lockOf (coreReq c) = none ∧ d.plyKind a.toNat = true ∧ d.executes c lk) ∧
  (let c : Core := .bob 2
   let r : BitVec 5 := 6
   let lk : Instr := .plyLock c ⟨0, 0, r, 0⟩
   let d : Dev := (bobDev.setV c r 0xFFFFC0)
   let a := d.gv c r
   let line := a.toNat / 64
   d.inRa c = false ∧ a.toNat < 0x1000000 ∧ d.lockOf (coreReq c) = none ∧ d.plyKind a.toNat = false ∧
     d.lockedBy (coreReq c) line = false ∧ d.executes c lk) ∧
  (let c : Core := .bob 2
   let r : BitVec 5 := 6
   let lk : Instr := .plyLock c ⟨0, 0, r, 0⟩
   let d : Dev := ((bobDev.setV c r 0xFFFFC0).setLock (reqSpn 0) (some 0x3FFFF))
   let a := d.gv c r
   let line := a.toNat / 64
   d.inRa c = false ∧ a.toNat < 0x1000000 ∧ d.lockOf (coreReq c) = none ∧ d.plyKind a.toNat = false ∧
     d.lockedBy (coreReq c) line = true ∧ d.executes c lk) ∧
  (let c : Core := .bob 2
   let r : BitVec 5 := 6
   let fr : Instr := .plyFree c ⟨0, 0, r, 0⟩
   let d : Dev := (bobDev.setV c r 0xFFFFC0)
   let a := d.gv c r
   let line := a.toNat / 64
   d.inRa c = false ∧ a.toNat < 0x1000000 ∧ d.lockOf (coreReq c) ≠ some line ∧ d.isBroken line = false ∧
     d.executes c fr) ∧
  (let c : Core := .bob 2
   let r : BitVec 5 := 6
   let fr : Instr := .plyFree c ⟨0, 0, r, 0⟩
   let d : Dev := ((bobDev.setV c r 0xFFFFC0).setLock (coreReq c) (some 0x3FFFF))
   let a := d.gv c r
   let line := a.toNat / 64
   d.inRa c = false ∧ a.toNat < 0x1000000 ∧ d.lockOf (coreReq c) = some line ∧ d.settled ∧ d.executes c fr) ∧
  (let c : Core := .spn 17
   let r : BitVec 5 := 6
   let p := 17
   let d : Dev := spnDev
   c = .spn p ∧ (d.spn p).ra = false ∧ d.executes c (.plySt c ⟨0, 0, 0, r⟩)) ∧
  (let c : Core := .bob 2
   let r : BitVec 5 := 6
   let b := 2
   let d : Dev := bobDev
   c = .bob b ∧ d.executes c (.plySt c ⟨0, 0, 0, r⟩)) ∧
  (let c : Core := .bob 2
   let n := 0x3FFFF
   let d : Dev := (bobDev.modBob 2 fun z => { z with wait := some 0x3FFFF })
   d.clocked = true ∧ d.waitLock c = some n ∧ d.lockedBy (coreReq c) n = false) ∧
  (let c : Core := .bob 2
   let n := 0x3FFFF
   let d : Dev := ((bobDev.modBob 2 fun z => { z with wait := some 0x3FFFF }).setLock (reqSpn 0) (some 0x3FFFF))
   d.waitLock c = some n ∧ d.lockedBy (coreReq c) n = true) := by
  refine ⟨?_, ?_, ?_, ?_, ?_, ?_, ?_, ?_, ?_, ?_, ?_, ?_⟩
  · simp -zeta only [Dev.executes]; decide +kernel
  · simp -zeta only [Dev.executes]; decide +kernel
  · simp -zeta only [Dev.executes]; decide +kernel
  · simp -zeta only [Dev.executes]; decide +kernel
  · simp -zeta only [Dev.executes]; decide +kernel
  · simp -zeta only [Dev.executes]; decide +kernel
  · simp -zeta only [Dev.executes]; decide +kernel
  · simp -zeta only [Dev.executes, Dev.settled, quiet_iff, noNotice_iff]; decide +kernel
  · simp -zeta only [Dev.executes]; decide +kernel
  · simp -zeta only [Dev.executes]; decide +kernel
  · decide +kernel
  · decide +kernel

theorem witness_MailboxesTraceInjection :
  (let p : Fin 18 := 17
   let n : Fin 4 := 3
   let r : BitVec 5 := 0
   let q : BitVec 5 := 0
   let c : Core := .spn p
   let k : BitVec 8 := BitVec.ofNat 8 n
   let st := Reg.SPN_MBSTAT p
   let d : Dev := (spnDev.setRbit (Reg.SPN_MBSTAT p) (4 + n) true)
   (d.spn p).ra = false ∧ d.rbit st (4 + n) = true ∧ d.executes c (.mboxPut c ⟨k, 0, r, q⟩)) ∧
  (let p : Fin 18 := 17
   let n : Fin 4 := 3
   let r : BitVec 5 := 0
   let q : BitVec 5 := 0
   let c : Core := .spn p
   let k : BitVec 8 := BitVec.ofNat 8 n
   let st := Reg.SPN_MBSTAT p
   let d : Dev := spnDev
   (d.spn p).ra = false ∧ d.rbit st (4 + n) = false ∧ d.executes c (.mboxPut c ⟨k, 0, r, q⟩)) ∧
  (let p : Fin 18 := 17
   let n : Fin 4 := 3
   let q : BitVec 5 := 0
   let c : Core := .spn p
   let k : BitVec 8 := BitVec.ofNat 8 n
   let st := Reg.SPN_MBSTAT p
   let d : Dev := (spnDev.setRbit (Reg.SPN_MBSTAT p) n true)
   (d.spn p).ra = false ∧ d.rbit st n = true ∧ d.executes c (.mboxGet c ⟨k, 0, 0, q⟩)) ∧
  (let p : Fin 18 := 17
   let n : Fin 4 := 3
   let q : BitVec 5 := 0
   let c : Core := .spn p
   let k : BitVec 8 := BitVec.ofNat 8 n
   let st := Reg.SPN_MBSTAT p
   let d : Dev := spnDev
   (d.spn p).ra = false ∧ d.rbit st n = false ∧ d.executes c (.mboxGet c ⟨k, 0, 0, q⟩)) ∧
  (let p : Fin 18 := 17
   let n : Fin 4 := 3
   let q : BitVec 5 := 0
   let c : Core := .spn p
   let k : BitVec 8 := BitVec.ofNat 8 n
   let d : Dev := spnDev
   (d.spn p).ra = false ∧ d.executes c (.mboxSt c ⟨k, 0, 0, q⟩)) ∧
  (let p : Fin 18 := 17
   let n : Fin 4 := 3
   let q : BitVec 5 := 0
   let c : Core := .spn p
   let k : BitVec 8 := BitVec.ofNat 8 n
   let d : Dev := spnDev
   d.executes c (.inj c ⟨k, 0, 0, q⟩)) ∧
  (let p : Fin 18 := 17
   let r : BitVec 5 := 0
   let tp : BitVec 6 := 0
   let c : Core := .spn p
   let d : Dev := (spnDev.modSpn p fun z => { z with ra := true })
   (d.spn p).ra = true ∧ (d.spn p).queue.length < 64 ∧ d.executes c (.trace c ⟨0#2 ++ tp, 0, r, 0⟩)) ∧
  (let p : Fin 18 := 17
   let r : BitVec 5 := 0
   let tp : BitVec 6 := 0
   let c : Core := .spn p
   let d : Dev := spnDev
   (d.spn p).ra = false ∧ d.logSpn p = none ∧ d.executes c (.trace c ⟨0#2 ++ tp, 0, r, 0⟩)) ∧
  (let p : Fin 18 := 17
   let n : Fin 4 := 3
   let m : Master := .distaff
   let st := Reg.SPN_MBSTAT p
   let d : Dev := spnDev
   d.admits m ∧ d.rbit (Reg.SPN_STAT p) 9 = false ∧ d.rbit st n = false) ∧
  (let p : Fin 18 := 17
   let n : Fin 4 := 3
   let m : Master := .distaff
   let st := Reg.SPN_MBSTAT p
   let d : Dev := (spnDev.setRbit (Reg.SPN_MBSTAT p) n true)
   d.admits m ∧ d.rbit (Reg.SPN_STAT p) 9 = false ∧ d.rbit st n = true) ∧
  (let p : Fin 18 := 17
   let n : Fin 4 := 3
   let m : Master := .distaff
   let st := Reg.SPN_MBSTAT p
   let d : Dev := (spnDev.setRbit (Reg.SPN_MBSTAT p) (4 + n) true)
   d.clocked = true ∧ d.mayRead m (Reg.SPN_MBOUT p n) = true ∧ d.rbit st (4 + n) = true) ∧
  (let p : Fin 18 := 17
   let n : Fin 4 := 3
   let m : Master := .distaff
   let st := Reg.SPN_MBSTAT p
   let d : Dev := spnDev
   d.clocked = true ∧ d.mayRead m (Reg.SPN_MBOUT p n) = true ∧ d.rbit st (4 + n) = false) := by
  refine ⟨?_, ?_, ?_, ?_, ?_, ?_, ?_, ?_, ?_, ?_, ?_, ?_⟩
  · simp -zeta only [Dev.executes]; decide +kernel
  · simp -zeta only [Dev.executes]; decide +kernel
  · simp -zeta only [Dev.executes]; decide +kernel
  · simp -zeta only [Dev.executes]; decide +kernel
  · simp -zeta only [Dev.executes]; decide +kernel
  · simp -zeta only [Dev.executes]; decide +kernel
  · simp -zeta only [Dev.executes]; decide +kernel
  · simp -zeta only [Dev.executes]; decide +kernel
  · simp -zeta only [Dev.admits]; decide +kernel
  · simp -zeta only [Dev.admits]; decide +kernel
  · decide +kernel
  · decide +kernel

theorem witness_SkeinDraws :
  (let req : Fin 133 := 132
   let d : Dev := (dev0.setReg (Reg.SKN_CUT 4) 0x10)
   d.isCut req = true ∧ d.clocked = true) ∧
  (let req : Fin 133 := 132
   let a : Word := 0x1000000
   let d : Dev := dev0
   d.isCut req = false ∧ 0x1000000 ≤ a.toNat ∧ d.clocked = true) ∧
  (let req : Fin 133 := 132
   let a : Word := 0xFFFFFF
   let d : Dev := dev0
   d.isCut req = false ∧ a.toNat < 0x1000000 ∧ a.toNat % 4 ≠ 0 ∧ d.clocked = true) ∧
  (let req : Fin 133 := 132
   let hn : BitVec 8 := 0
   let d : Dev := dev0
   let h := d.hank hn.toNat
   d.isCut req = false ∧ (h.v = false ∨ h.queueKind = false ∨ h.writer ≠ req.val) ∧ d.clocked = true) ∧
  (let req : Fin 133 := 132
   let cm : Bool := true
   let a : Word := 0xFFFFFC
   let d : Dev := dev0
   d.isCut req = false ∧ (∀ n, (d.whorl n).notice = false) ∧ a.toNat < 0x1000000 ∧ a.toNat % 4 = 0 ∧
     d.drawsOf (bankOf a.toNat) = [] ∧ d.isBroken (a.toNat / 64) = false ∧
     d.copyAway (classOf req cm) (bankOf a.toNat) ∧ d.ecc a.toNat = .good ∧ d.clocked = true) ∧
  (let req : Fin 133 := 132
   let cm : Bool := true
   let a : Word := 0xFFFFFC
   let d : Dev := dev0
   d.isCut req = false ∧ (∀ n, (d.whorl n).notice = false) ∧ a.toNat < 0x1000000 ∧ a.toNat % 4 = 0 ∧
     d.drawsOf (bankOf a.toNat) = [] ∧ d.isBroken (a.toNat / 64) = false ∧
     d.copyAway (classOf req cm) (bankOf a.toNat) ∧ d.hankAt a.toNat = none ∧ d.blockedLine req a.toNat 4 = none ∧
     d.clocked = true) ∧
  (let req : Fin 133 := 132
   let cm : Bool := true
   let hn : BitVec 8 := 255
   let d : Dev := (dev0.setHank 255 ⟨16383, 132, 0, 1, true, 0, 0, 1020, 0⟩)
   let h := d.hank hn.toNat
   d.isCut req = false ∧ (∀ n, (d.whorl n).notice = false) ∧ h.v = true ∧ h.kind = 1 ∧ h.writer = req.val ∧
     h.wr % 4 = 0 ∧ h.wr < h.bytes ∧ h.fill + 4 ≤ h.bytes ∧ d.drawsOf (bankOf (h.start + h.wr)) = [] ∧
     d.blockedLine req (h.start + h.wr) 4 = none ∧ d.isBroken ((h.start + h.wr) / 64) = false ∧
     (∀ k v, (k, v) ∈ d.sk.hanks → v.holds (h.start + h.wr) = true → v.kind = 1) ∧
     d.copyAway (classOf req cm) (bankOf (h.start + h.wr)) ∧ d.clocked = true) ∧
  (let req : Fin 133 := 132
   let cm : Bool := true
   let a : Word := 0
   let n : Fin 65 := 64
   let d : Dev := dev0
   2 ≤ n.val ∧ d.isCut req = false ∧ a.toNat % 16 = 0 ∧ a.toNat + 16 * n ≤ 0x1000000 ∧
     bankOf (a.toNat + 16 * n - 1) = bankOf a.toNat ∧ d.settled ∧ (∀ i < 4, d.ecc (a.toNat + 4 * i) = .good) ∧
     d.copyAway (classOf req cm) (bankOf a.toNat) ∧ d.clocked = true) ∧
  (let x : DrawSpec := ⟨132, false, false, .addr 0xFFFFFD, true, 1, [], none, []⟩
   let z := .accessError
   let d : Dev := dev0
   x.wf = true ∧ x.upsets = [] ∧ d.drawRefusal x = some z ∧ d.clocked = true) ∧
  (let x : DrawSpec := ⟨103, false, true, .addr 0xFFFFFC, true, 1, [7], none, []⟩
   let p := (0xFFFFFC : Word)
   let n := drawLen x
   let d : Dev := ((dev0.setLock (reqSpn 0) (some 0x3FFFF)).setLock 103 (some 0))
   x.wf = true ∧ x.upsets = [] ∧ d.drawRefusal x = none ∧ x.target = .addr p ∧ x.write = true ∧
     (d.blockedLine x.req p.toNat n).isSome = true ∧ (d.lockOf x.req).isSome = true ∧ d.clocked = true) ∧
  (let x : DrawSpec := ⟨132, false, false, .addr 0xFFFFF0, false, 1, [], none, []⟩
   let p := 0xFFFFF0
   let d : Dev := dev0
   x.wf = true ∧ x.upsets = [] ∧ d.drawRefusal x = none ∧ x.target = .addr p ∧ x.write = false ∧ d.settled ∧
     d.copyAway (classOf x.req x.commit) (bankOf p.toNat) ∧ (∀ i, d.ecc i = .good) ∧ d.clocked = true) ∧
  (let x : DrawSpec := ⟨132, false, true, .addr 0xFFFFF0, false, 1, [1, 2, 3, 4], none, []⟩
   let p := 0xFFFFF0
   let n := drawLen x
   let d : Dev := dev0
   x.wf = true ∧ x.upsets = [] ∧ d.drawRefusal x = none ∧ x.target = .addr p ∧ x.write = true ∧ d.settled ∧
     d.copyAway (classOf x.req x.commit) (bankOf p.toNat) ∧ d.blockedLine x.req p.toNat n = none ∧
     d.hankAt p.toNat = none ∧ d.clocked = true) ∧
  (let x : DrawSpec := ⟨132, false, true, .hank 255, false, 1, [1, 2, 3, 4], none, []⟩
   let g := 255
   let n := drawLen x
   let d : Dev := (dev0.setHank 255 ⟨16383, 132, 0, 1, true, 0, 0, 1009, 0⟩)
   let h := d.hank g.toNat
   let p := h.start + h.wr
   let m := min n (h.bytes - h.wr)
   x.wf = true ∧ x.upsets = [] ∧ d.drawRefusal x = none ∧ x.target = .hank g ∧ h.kind = 1 ∧ h.wr < h.bytes ∧
     bankOf h.start = bankOf (h.start + h.bytes - 1) ∧ d.settled ∧
     d.copyAway (classOf x.req x.commit) (bankOf p) ∧ d.blockedLine x.req p m = none ∧
     d.blockedLine x.req h.start (n - m) = none ∧ h.free < n ∧ d.clocked = true) ∧
  (let x : DrawSpec := ⟨132, false, true, .hank 255, false, 1, [1, 2, 3, 4], none, []⟩
   let g := 255
   let n := drawLen x
   let d : Dev := (dev0.setHank 255 ⟨16383, 132, 0, 1, true, 0, 0, 1008, 0⟩)
   let h := d.hank g.toNat
   let p := h.start + h.wr
   let m := min n (h.bytes - h.wr)
   x.wf = true ∧ x.upsets = [] ∧ d.drawRefusal x = none ∧ x.target = .hank g ∧ h.kind = 1 ∧ h.wr < h.bytes ∧
     bankOf h.start = bankOf (h.start + h.bytes - 1) ∧ d.settled ∧
     d.copyAway (classOf x.req x.commit) (bankOf p) ∧ d.blockedLine x.req p m = none ∧
     d.blockedLine x.req h.start (n - m) = none ∧ n ≤ h.free ∧ h.wr + n ≤ h.bytes ∧
     (∀ i v, (i, v) ∈ d.sk.hanks → v.holds p = true → v.kind = 1) ∧ d.clocked = true) ∧
  (let b : Fin 16 := 15
   let d : Dev := dev0
   d.drawsOf b = [] ∧ (∀ n, (d.whorl n).notice = false) ∧ d.clocked = true) ∧
  (let y : Draw := { unitDraw 132 4 none false none (15 * 0x100000) 32 [] [] false .plain with granted := true }
   let b : Fin 16 := 15
   let d : Dev := (dev0.setDraws b [y])
   d.drawsOf b = [y] ∧ y.granted = true ∧ y.hank = none ∧ y.gaps = [] ∧ y.supply = none ∧ y.tag = .plain ∧
     y.failed = false ∧ y.done % 16 = 0 ∧ y.len % 16 = 0 ∧ y.done < y.len ∧ bankOf y.start = b.val ∧
     bankOf (y.start + y.len - 1) = b.val ∧ (∀ n, (d.whorl n).notice = false) ∧ y.write = false ∧
     (∀ i, d.ecc i = .good) ∧ d.clocked = true) ∧
  (let y : Draw := { unitDraw 132 4 none true none (15 * 0x100000) 16 (List.replicate 16 7) [] false .plain with granted := true }
   let b : Fin 16 := 15
   let d : Dev := (dev0.setDraws b [y])
   d.drawsOf b = [y] ∧ y.granted = true ∧ y.hank = none ∧ y.gaps = [] ∧ y.supply = none ∧ y.tag = .plain ∧
     y.failed = false ∧ y.done % 16 = 0 ∧ y.len % 16 = 0 ∧ y.done < y.len ∧ bankOf y.start = b.val ∧
     bankOf (y.start + y.len - 1) = b.val ∧ (∀ n, (d.whorl n).notice = false) ∧ y.write = true ∧
     y.data.length = y.len ∧ (∀ i, d.blockedLine y.req i 1 = none) ∧
     (∀ i < y.len, d.hankAt (y.start + i) = none) ∧ d.clocked = true) ∧
  (let req : Fin 133 := 132
   let a : Word := 0xF00000
   let b : Fin 16 := 15
   let cls : Fin 5 := 4
   let n : Fin 65 := 64
   let d : Dev := (dev0.setDraws b
     [{ unitDraw req cls none false none a.toNat (16 * n) [] [] false .plain with granted := true }])
   1 ≤ n.val ∧ a.toNat % 16 = 0 ∧ bankOf a.toNat = b.val ∧ bankOf (a.toNat + 16 * n - 1) = b.val ∧
     (∀ i < 4 * n.val, d.ecc (a.toNat + 4 * i) = .good) ∧ (∀ k, (d.whorl k).notice = false) ∧
     d.drawsOf b = [{ unitDraw req cls none false none a.toNat (16 * n) [] [] false .plain with granted := true }]
     ∧ d.clocked = true) := by
  refine ⟨?_, ?_, ?_, ?_, ?_, ?_, ?_, ?_, ?_, ?_, ?_, ?_, ?_, ?_, ?_, ?_, ?_, ?_⟩
  · decide +kernel
  · decide +kernel
  · decide +kernel
  · decide +kernel
  · simp -zeta only [noNotice_iff, copyAway_iff]; decide +kernel
  · simp -zeta only [noNotice_iff, copyAway_iff]; decide +kernel
  · simp -zeta only [noNotice_iff, hanks_iff, copyAway_iff]; decide +kernel
  · simp -zeta only [Dev.settled, quiet_iff, noNotice_iff, copyAway_iff]; decide +kernel
  · decide +kernel
  · decide +kernel
  · simp -zeta only [Dev.settled, quiet_iff, noNotice_iff, eccGood_iff, copyAway_iff]; decide +kernel
  · simp -zeta only [Dev.settled, quiet_iff, noNotice_iff, copyAway_iff]; decide +kernel
  · simp -zeta only [Dev.settled, quiet_iff, noNotice_iff, copyAway_iff]; decide +kernel
  · simp -zeta only [Dev.settled, quiet_iff, noNotice_iff, hanks_iff, copyAway_iff]; decide +kernel
  · simp -zeta only [noNotice_iff]; decide +kernel
  · simp -zeta only [noNotice_iff, eccGood_iff]; decide +kernel
  · simp -zeta only [noNotice_iff, noBlock_iff]; decide +kernel
  · simp -zeta only [noNotice_iff]; decide +kernel

theorem witness_SkeinEvents :
  (let b : Fin 16 := 15
   let d : Dev := dev0
   d.holder b = none ∧ d.clocked = true) ∧
  (let b : Fin 16 := 15
   let dr := { unitDraw 132 4 none false none (15 * 0x100000) 32 [] [] false .plain with granted := true, supply := some 0 }
   let d : Dev := (dev0.setDraws b [dr])
   d.holder b = some dr ∧ dr.req < 133 ∧
     (∀ k, ∀ x ∈ d.drawsOf k, x.tag = .plain ∨ ∃ c pc ea l, x.tag = .core c pc ea l) ∧ d.clocked = true) ∧
  (let b : Fin 16 := 15
   let dr := { unitDraw 132 4 none false none (15 * 0x100000) 32 [] [] false .plain with granted := true, supply := some 0 }
   let d : Dev := (dev0.setDraws b [dr])
   d.holder b = some dr ∧ dr.req < 133 ∧
     (∀ k, ∀ x ∈ d.drawsOf k, x.tag = .plain ∨ ∃ c pc ea l, x.tag = .core c pc ea l) ∧
     (∀ k, ∀ x ∈ d.drawsOf k, x.req = dr.req) ∧ (∀ n, (d.whorl n).notice = false) ∧ d.clocked = true) ∧
  (let line : BitVec 18 := 0
   let d : Dev := dev0
   (d.ownerOf line.toNat = none ∨ d.waitedOn line.toNat = false) ∧ d.clocked = true) ∧
  (let line : BitVec 18 := 0x3FFFF
   let i := 20
   let d : Dev := (dev0.modSk fun z => { z with locks := [(20, some line.toNat)], waits := [⟨132, line.toNat⟩] })
   d.ownerOf line.toNat = some i ∧ d.waitedOn line.toNat = true ∧ d.settled ∧ d.clocked = true) ∧
  (let d : Dev := (dev0.setRbit Reg.SKN_SCRUB 0 false)
   d.rbit Reg.SKN_SCRUB 0 = false ∧ d.clocked = true) ∧
  (let b : Fin 16 := 15
   let d : Dev := dev0
   d.drawsOf b = [] ∧ d.isCut reqEngine = false ∧ d.clocked = true) ∧
  (let b : Fin 16 := 15
   let ln : Fin 16384 := 16383
   let a := b.val * 0x100000 + ln.val * 64
   let d : Dev := (dev0.setRbit Reg.SKN_SCRUB 0 true)
   d.rbit Reg.SKN_SCRUB 0 = true ∧ (∀ i < 16, d.ecc (a + 4 * i) = .good) ∧ d.drawsOf b = [] ∧
     d.isCut reqEngine = false ∧ d.clocked = true) ∧
  (let d : Dev := dev0
   d.sk.copy = none ∧ d.clocked = true) ∧
  (let b : Fin 16 := 15
   let c := ⟨15, 17, 0, false, []⟩
   let d : Dev := (dev0.modSk fun z => { z with copy := some c })
   d.sk.copy = some c ∧ c.bank = b.val ∧ (c.spare = 16 ∨ c.spare = 17) ∧ d.sk.copyQueue = [] ∧ d.settled ∧
     d.isCut reqEngine = false ∧ d.clocked = true) := by
  refine ⟨?_, ?_, ?_, ?_, ?_, ?_, ?_, ?_, ?_, ?_⟩
  · decide +kernel
  · simp -zeta only [draws_all_iff, core_iff]; decide +kernel
  · simp -zeta only [noNotice_iff, draws_all_iff, core_iff]; decide +kernel
  · decide +kernel
  · simp -zeta only [Dev.settled, quiet_iff, noNotice_iff]; decide +kernel
  · decide +kernel
  · decide +kernel
  · decide +kernel
  · decide +kernel
  · simp -zeta only [Dev.settled, quiet_iff, noNotice_iff]; decide +kernel

theorem witness_RegisterBus :
  (let d : Dev := State.reset.dev
   d.clocked = false) ∧
  (let m : Master := .distaff
   let a : Word := 0x3FFFFFFF
   let size : AccessSize := .half
   let d : Dev := dev0
   d.clocked = true ∧ d.mayWrite m a.toNat = true ∧ 0x20000000 ≤ a.toNat ∧ a.toNat < 0x40000000 ∧
     (size ≠ .word ∨ a.toNat % 4 ≠ 0)) ∧
  (let m : Master := .distaff
   let a : Word := 0xFFFFFF
   let size : AccessSize := .byte
   let d : Dev := dev0
   d.clocked = true ∧ d.mayWrite m a.toNat = true ∧ (∀ b, m ≠ .bobbin b) ∧ a.toNat < 0x1000000 ∧
     (size = .byte ∨ size = .half)) ∧
  (let m : Master := .distaff
   let a : Word := 0xFFFFF8
   let v : Word := 0
   let size : AccessSize := .entry 5
   let bs := sizeBytes v size
   let d : Dev := dev0
   d.clocked = true ∧ d.mayWrite m a.toNat = true ∧ a.toNat < 0x1000000 ∧ a.toNat % bs.length = 0 ∧
     widthOk m size = true ∧ d.settled ∧ (∀ x, d.ecc x = .good) ∧
     d.storeRefusal (d.masterReq m) a.toNat bs.length (decide (bs.length = 8)) = none ∧
     d.blockedLine (d.masterReq m) a.toNat bs.length = none) ∧
  (let m : Master := .distaff
   let a : Word := 0xFFFFFFFF
   let d : Dev := dev0
   d.clocked = true ∧ d.mayWrite m a.toNat = true ∧ ((0x1000000 ≤ a.toNat ∧
     a.toNat < 0x20000000) ∨ 0x40000000 ≤ a.toNat)) ∧
  (let d : Dev := dev0
   d.clocked = true ∧ d.sv.role = none) ∧
  (let a : Word := 0
   let d : Dev := dev0
   d.clocked = true ∧ a.toNat ≠ Reg.SNL_MREQ ∧ d.rbit Reg.HSPI_RIGHTS 1 = false) ∧
  (let m : Master := .distaff
   let k : Fin 18 := 17
   let d : Dev := dev0
   d.clocked = true ∧ d.mayWrite m 0 = true ∧ d.rbit (Reg.CNV_CTL k) 0 = false ∧ d.rbit (Reg.CNV_STAT k) 0 = false) ∧
  (let m : Master := .distaff
   let k : Fin 18 := 17
   let d : Dev := (dev0.setRbit (Reg.CNV_CTL k) 0 true)
   d.clocked = true ∧ d.mayWrite m 0 = true ∧ d.rbit (Reg.CNV_CTL k) 0 = true) ∧
  (let m : Master := .distaff
   let d : Dev := dev0
   d.clocked = true ∧ d.mayWrite m 0 = true) := by
  refine ⟨?_, ?_, ?_, ?_, ?_, ?_, ?_, ?_, ?_, ?_⟩
  · decide +kernel
  · decide +kernel
  · decide +kernel
  · simp -zeta only [Dev.settled, quiet_iff, noNotice_iff, eccGood_iff]; decide +kernel
  · decide +kernel
  · decide +kernel
  · decide +kernel
  · decide +kernel
  · decide +kernel
  · decide +kernel

theorem witness_ActingWritesAndDisable :
  (let m : Master := .distaff
   let v : Word := 0
   let d : Dev := (dev0.setFld Reg.DST_MODE 3 0 3)
   let i := d.hsel
   let h : Hank := ⟨(d.hank i).base, bitsOf v 15 8, bitsOf v 7 4, bitsOf v 3 1, bitOf v 0, 0, 0, 0, 0⟩
   d.admits m ∧ (d.mode = 3 ∨ d.mode = 4) ∧ d.hankOk i h = true) ∧
  (let m : Master := .distaff
   let v : Word := 0xF
   let d : Dev := (dev0.setFld Reg.DST_MODE 3 0 3)
   let i := d.hsel
   let h : Hank := ⟨(d.hank i).base, bitsOf v 15 8, bitsOf v 7 4, bitsOf v 3 1, bitOf v 0, 0, 0, 0, 0⟩
   d.admits m ∧ (d.mode = 3 ∨ d.mode = 4) ∧ d.hankOk i h = false) ∧
  (let m : Master := .distaff
   let v : Word := 0
   let d : Dev := (dev0.setFld Reg.DST_MODE 3 0 3)
   let i := d.hsel
   let g : Hank := { d.hank i with base := bitsOf v 23 10 }
   d.admits m ∧ (d.mode = 3 ∨ d.mode = 4) ∧ d.hankOk i g = true) ∧
  (let m : Master := .distaff
   let v : Word := 0xFFFC00
   let d : Dev := ((dev0.setFld Reg.DST_MODE 3 0 3).setHank 0 ⟨0, 0, 0, 7, true, 0, 0, 0, 0⟩)
   let i := d.hsel
   let g : Hank := { d.hank i with base := bitsOf v 23 10 }
   d.admits m ∧ (d.mode = 3 ∨ d.mode = 4) ∧ d.hankOk i g = false) ∧
  (let m : Master := .distaff
   let d : Dev := dev0
   d.admits m ∧ d.mode ≠ 3 ∧ d.mode ≠ 4) ∧
  (let m : Master := .distaff
   let v : Word := 1020
   let off := bitsOf v 22 0
   let d : Dev := (dev0.setHank 0 ⟨0, 0, 0, 1, true, 0, 0, 1020, 0⟩)
   let i := d.hsel
   let r := d.hank i
   let n := (off + r.bytes - r.rd) % r.bytes
   let takes := r.v = true ∧ (r.kind = 1 ∨ r.kind = 6) ∧ off % 4 = 0 ∧ off < r.bytes
   d.admits m ∧ takes ∧ n ≠ 0 ∧ n ≤ r.fill) ∧
  (let m : Master := .distaff
   let v : Word := 0
   let off := bitsOf v 22 0
   let d : Dev := (dev0.setHank 0 ⟨0, 0, 0, 1, true, 0, 0, 1024, 0⟩)
   let i := d.hsel
   let r := d.hank i
   let n := (off + r.bytes - r.rd) % r.bytes
   let takes := r.v = true ∧ (r.kind = 1 ∨ r.kind = 6) ∧ off % 4 = 0 ∧ off < r.bytes
   d.admits m ∧ takes ∧ n = 0 ∧ r.fill = r.bytes) ∧
  (let m : Master := .distaff
   let v : Word := 0
   let off := bitsOf v 22 0
   let d : Dev := (dev0.setHank 0 ⟨0, 0, 0, 1, true, 0, 0, 1023, 0⟩)
   let i := d.hsel
   let r := d.hank i
   let n := (off + r.bytes - r.rd) % r.bytes
   let takes := r.v = true ∧ (r.kind = 1 ∨ r.kind = 6) ∧ off % 4 = 0 ∧ off < r.bytes
   d.admits m ∧ takes ∧ n = 0 ∧ r.fill ≠ r.bytes) ∧
  (let m : Master := .distaff
   let v : Word := 0
   let off := bitsOf v 22 0
   let d : Dev := dev0
   let i := d.hsel
   let r := d.hank i
   let n := (off + r.bytes - r.rd) % r.bytes
   let takes := r.v = true ∧ (r.kind = 1 ∨ r.kind = 6) ∧ off % 4 = 0 ∧ off < r.bytes
   d.admits m ∧ (¬takes ∨ r.fill < n)) ∧
  (let m : Master := .distaff
   let d : Dev := (dev0.setFld Reg.DST_MODE 3 0 10)
   d.admits m) ∧
  (let m : Master := .distaff
   let d : Dev := (dev0.setFld Reg.DST_MODE 3 0 10)
   d.admits m ∧ d.cfgMode = true) ∧
  (let m : Master := .distaff
   let d : Dev := (dev0.setFld Reg.DST_MODE 3 0 6)
   d.admits m ∧ d.cfgMode = false) ∧
  (let m : Master := .distaff
   let d : Dev := (dev0.setFld Reg.DST_MODE 3 0 2)
   d.admits m ∧ 2 ≤ d.mode ∧ d.mode ≠ 0xB) ∧
  (let m : Master := .distaff
   let d : Dev := dev0
   d.admits m ∧ (d.mode < 2 ∨ d.mode = 0xB)) ∧
  (let u : UnitRef := .pilot
   let en := enPlace u
   let d : Dev := dev0
   (d.rbit en.1 en.2 = false ∨ d.blockShut u = true) ∧ d.clocked = true) ∧
  (let u : UnitRef := .lane 17
   let en := enPlace u
   let d : Dev := (dev0.setRbit (enPlace u).1 (enPlace u).2 true)
   d.rbit en.1 en.2 = true ∧ d.blockShut u = false ∧ d.quiet ∧ d.clocked = true) ∧
  (let u : UnitRef := .encoder 3
   let p : Fin 18 := 17
   let l : Fin 4 := 3
   let e : Fin 4 := 3
   let en := enPlace u
   let alone := (∀ p l, u ≠ .loop p l) ∧ (∀ l, u ≠ .link l) ∧ u ≠ .inj
   let d : Dev := ((dev0.setDraws 15
     [{ unitDraw 128 3 none true none (15 * 0x100000) 16 [] [] false (.position (Reg.POS_ESTAT 3) 4) with granted := false }]).setRbit (enPlace u).1 (enPlace u).2 true)
   d.rbit en.1 en.2 = true ∧ alone ∧ (∀ m, (d.whorl m).notice = false) ∧
     (∀ b : Fin 16, ∀ y ∈ d.drawsOf b, ownsDraw u y = true ∧ y.granted = false ∧ ∀ l f e, y.tag ≠ .record l f e) ∧
     d.clocked = true) ∧
  (let u : UnitRef := .encoder 3
   let p : Fin 18 := 17
   let l : Fin 4 := 3
   let en := enPlace u
   let alone := (∀ p l, u ≠ .loop p l) ∧ (∀ l, u ≠ .link l) ∧ u ≠ .inj
   let d : Dev := ((dev0.setDraws 15
     [{ unitDraw 128 3 none true none (15 * 0x100000) 16 [] [] false (.position (Reg.POS_ESTAT 3) 4) with granted := true, auto := false }]).setRbit (enPlace u).1 (enPlace u).2 true)
   d.rbit en.1 en.2 = true ∧ alone ∧ (∀ m, (d.whorl m).notice = false) ∧
     (∀ b : Fin 16, ∀ y ∈ d.drawsOf b, y.granted = true ∧ y.auto = false) ∧ d.clocked = true) ∧
  (let k : Fin 18 := 17
   let d : Dev := (dev0.setRbit (Reg.CNV_CTL k) 0 true)
   d.rbit (Reg.CNV_CTL k) 0 = true ∧ d.quiet ∧ d.clocked = true) ∧
  (let j : Fin 16 := 15
   let d : Dev := (dev0.setRbit (Reg.TB_CTL j) 0 true)
   d.rbit (Reg.TB_CTL j) 0 = true ∧ d.quiet ∧ d.clocked = true) ∧
  (let k : Fin 18 := 17
   let p : Fin 18 := 17
   let l : Fin 4 := 3
   let d : Dev := ((dev0.setRbit (Reg.SPN_CTL p) l true).modSpn p fun z => { z with slot := some l.val })
   d.rbit (Reg.SPN_CTL p) l = true ∧ d.rbit (Reg.SPN_STAT p) 9 = false ∧ d.quiet ∧ (d.spn p).slot = some l.val ∧
     (∀ k, k ∈ (d.spn p).slotWait → k = l.val) ∧ d.clocked = true) ∧
  (let u : UnitRef := .pilot
   let p : Fin 18 := 17
   let l : Fin 4 := 3
   let act := actPlace u
   let d : Dev := dev0
   d.rbit act.1 act.2 = false ∧ (∀ p l, u ≠ .loop p l) ∧ d.clocked = true) ∧
  (let u : UnitRef := .lane 17
   let p : Fin 18 := 17
   let l : Fin 4 := 3
   let act := actPlace u
   let d : Dev := ((dev0.modLane 17 fun z => { z with phase := .converting }).setRbit (actPlace u).1 (actPlace
     u).2 true)
   d.rbit act.1 act.2 = true ∧ d.atBoundary u = false ∧ (∀ p l, u ≠ .loop p l) ∧ d.clocked = true) ∧
  (let u : UnitRef := .lane 17
   let p : Fin 18 := 17
   let l : Fin 4 := 3
   let act := actPlace u
   let d : Dev := (dev0.setRbit (actPlace u).1 (actPlace u).2 true)
   d.rbit act.1 act.2 = true ∧ d.atBoundary u = true ∧ (∀ p l, u = .loop p l → (p.val, l.val) ∉ d.sn.restarts) ∧
     (∀ b : Fin 16, ∀ y ∈ (d.disableState u).drawsOf b, ownsDraw u y = false) ∧ d.clocked = true) ∧
  (let e : Fin 4 := 3
   let d : Dev := (dev0.setRbit (Reg.POS_ESTAT e) 0 true)
   d.rbit (Reg.POS_ESTAT e) 0 = true ∧ d.quiet ∧ d.clocked = true) ∧
  (let k : Fin 18 := 17
   let d : Dev := (dev0.setRbit (Reg.CNV_STAT k) 0 true)
   d.rbit (Reg.CNV_STAT k) 0 = true ∧ (d.lane k).phase ≠ .converting ∧
     (∀ b : Fin 16, ∀ y ∈ d.drawsOf b, ownsDraw (.lane k) y = false) ∧ d.clocked = true) ∧
  (let n : Fin 64 := 63
   let d : Dev := (dev0.setRbit (Reg.WHL_STAT n) 0 true)
   let still := fun (m : Nat) => ∀ b : Fin 16, ∀ y ∈ d.drawsOf b, y.req ≠ m
   d.rbit (Reg.WHL_STAT n) 0 = true ∧ still (reqWhl n) ∧ d.clocked = true) ∧
  (let n : Fin 64 := 63
   let d : Dev := ((dev0.setDraws 15
     [{ unitDraw (reqWhl n) 4 none false none (15 * 0x100000) 32 [] [] false .plain with granted := true }]).setRbit
     (Reg.WHL_STAT n) 0 true)
   let still := fun (m : Nat) => ∀ b : Fin 16, ∀ y ∈ d.drawsOf b, y.req ≠ m
   d.rbit (Reg.WHL_STAT n) 0 = true ∧ ¬still (reqWhl n) ∧ d.clocked = true) ∧
  (let j : Fin 16 := 15
   let d : Dev := (dev0.setRbit (Reg.TB_STAT j) 0 true)
   d.rbit (Reg.TB_STAT j) 0 = true ∧ d.clocked = true) ∧
  (let i : Fin 8 := 7
   let d : Dev := (dev0.setRbit (Reg.REL_STAT i) 0 true)
   d.rbit (Reg.REL_STAT i) 0 = true ∧ d.quiet ∧ d.clocked = true) ∧
  (let d : Dev := (dev0.setRbit Reg.INJ_STAT 0 true)
   d.rbit Reg.INJ_STAT 0 = true ∧ d.quiet ∧ d.clocked = true) := by
  refine ⟨?_, ?_, ?_, ?_, ?_, ?_, ?_, ?_, ?_, ?_, ?_, ?_, ?_, ?_, ?_, ?_, ?_, ?_, ?_, ?_, ?_, ?_, ?_, ?_, ?_, ?_,
    ?_, ?_, ?_, ?_, ?_⟩
  · simp -zeta only [Dev.admits]; decide +kernel
  · simp -zeta only [Dev.admits]; decide +kernel
  · simp -zeta only [Dev.admits]; decide +kernel
  · simp -zeta only [Dev.admits]; decide +kernel
  · simp -zeta only [Dev.admits]; decide +kernel
  · simp -zeta only [Dev.admits]; decide +kernel
  · simp -zeta only [Dev.admits]; decide +kernel
  · simp -zeta only [Dev.admits]; decide +kernel
  · simp -zeta only [Dev.admits]; decide +kernel
  · simp -zeta only [Dev.admits]; decide +kernel
  · simp -zeta only [Dev.admits]; decide +kernel
  · simp -zeta only [Dev.admits]; decide +kernel
  · simp -zeta only [Dev.admits]; decide +kernel
  · simp -zeta only [Dev.admits]; decide +kernel
  · decide +kernel
  · simp -zeta only [quiet_iff]; decide +kernel
  · simp -zeta only [noNotice_iff, record_iff]; decide +kernel
  · simp -zeta only [noNotice_iff]; decide +kernel
  · simp -zeta only [quiet_iff]; decide +kernel
  · simp -zeta only [quiet_iff]; decide +kernel
  · simp -zeta only [quiet_iff]; decide +kernel
  · decide +kernel
  · decide +kernel
  · decide +kernel
  · simp -zeta only [quiet_iff]; decide +kernel
  · decide +kernel
  · decide +kernel
  · decide +kernel
  · decide +kernel
  · simp -zeta only [quiet_iff]; decide +kernel
  · simp -zeta only [quiet_iff]; decide +kernel

theorem witness_Lanes :
  (let k : Fin 18 := 17
   let d : Dev := (dev0.modLane k fun z => { z with trig := some (dev0.now, true) })
   let x := d.lane k
   x.trig = some (d.now, true) ∧ d.clocked = true) ∧
  (let k : Fin 18 := 17
   let d : Dev := (((dev0.setReg (Reg.CNV_SCAN k) 0x800).setRbit (Reg.CNV_CTL k) 0 true).modLane k fun z =>
     { z with phase := .converting })
   let x := d.lane k
   let seq := (d.fld (Reg.CNV_SEQ k) 15 0 + 1) % 65536
   let scan := d.scanOf k seq
   x.trig ≠ some (d.now, true) ∧ scan ≠ [] ∧ x.busy = true ∧ d.clocked = true) ∧
  (let k : Fin 18 := 17
   let d : Dev := (((dev0.setReg (Reg.CNV_SCAN k) 0x800).setRbit (Reg.CNV_CTL k) 0 true).modLane k fun z =>
     { z with phase := .idle })
   let x := d.lane k
   let seq := (d.fld (Reg.CNV_SEQ k) 15 0 + 1) % 65536
   let scan := d.scanOf k seq
   x.trig ≠ some (d.now, true) ∧ d.rbit (Reg.CNV_CTL k) 0 = true ∧ scan ≠ [] ∧ x.busy = false ∧ x.phase = .idle ∧
     d.clocked = true) ∧
  (let k : Fin 18 := 17
   let d : Dev := ((dev0.setReg (Reg.CNV_SCAN k) 0x800).setRbit (Reg.CNV_CTL k) 0 true)
   let x := d.lane k
   let seq := (d.fld (Reg.CNV_SEQ k) 15 0 + 1) % 65536
   let scan := d.scanOf k seq
   x.trig ≠ some (d.now, true) ∧ d.rbit (Reg.CNV_CTL k) 0 = true ∧ scan ≠ [] ∧ x.busy = false ∧
     x.phase = .asleep ∧ d.clocked = true) ∧
  (let k : Fin 18 := 17
   let d : Dev := dev0
   let x := d.lane k
   let seq := (d.fld (Reg.CNV_SEQ k) 15 0 + 1) % 65536
   let scan := d.scanOf k seq
   x.trig ≠ some (d.now, true) ∧ (scan = [] ∨ (x.busy = false ∧ d.rbit (Reg.CNV_CTL k) 0 = false)) ∧ d.clocked = true) ∧
  (let k : Fin 18 := 17
   let c : Nat := 11
   let rest : List Nat := [3]
   let d : Dev := (((dev0.modLane k fun z => { z with phase := .converting }).modLane k fun z =>
     { z with scan := c :: rest }).setRbit (Reg.CNV_CTL k) 0 true)
   let x := d.lane k
   x.phase = .converting ∧ x.scan = c :: rest ∧ d.rbit (Reg.CNV_CTL k) 0 = true ∧ d.clocked = true) ∧
  (let k : Fin 18 := 17
   let c : Nat := 11
   let rest : List Nat := [3]
   let d : Dev := ((((dev0.setReg (Reg.SKN_CUT 0) 0x20000).modLane k fun z =>
     { z with phase := .converting }).modLane k fun z => { z with scan := c :: rest }).setRbit (Reg.CNV_CTL k) 0
     true)
   let x := d.lane k
   x.phase = .converting ∧ x.scan = c :: rest ∧ d.rbit (Reg.CNV_CTL k) 0 = true ∧
     (∀ n < 8, d.rbit (Reg.REL_CTL n) 0 = false) ∧ d.rbit (Reg.CNV_WC0CFG k) 0 = false ∧
     d.rbit (Reg.CNV_WC1CFG k) 0 = false ∧ d.isCut k = true ∧ d.clocked = true) ∧
  (let k : Fin 18 := 17
   let c : Nat := 11
   let rest : List Nat := [3]
   let d : Dev := ((dev0.modLane k fun z => { z with phase := .converting }).modLane k fun z =>
     { z with scan := c :: rest })
   let x := d.lane k
   x.phase = .converting ∧ x.scan = c :: rest ∧ d.quiet ∧ d.clocked = true) ∧
  (let k : Fin 18 := 17
   let d : Dev := dev0
   let x := d.lane k
   x.phase ≠ .converting ∧ d.clocked = true) ∧
  (let k : Fin 18 := 17
   let d : Dev := dev0
   let x := d.lane k
   (x.phase ≠ .idle ∨ d.rbit (Reg.CNV_CTL k) 1 = true) ∧ d.clocked = true) ∧
  (let k : Fin 18 := 17
   let d : Dev := (dev0.modLane k fun z => { z with phase := .idle })
   let x := d.lane k
   x.phase = .idle ∧ d.rbit (Reg.CNV_CTL k) 1 = false ∧ d.clocked = true) ∧
  (let k : Fin 18 := 17
   let d : Dev := (dev0.modLane k fun z => { z with phase := .starting })
   let x := d.lane k
   x.phase = .starting ∧ x.waiting = false ∧ d.clocked = true) ∧
  (let k : Fin 18 := 17
   let d : Dev := ((dev0.modLane k fun z => { z with phase := .starting }).modLane k fun z =>
     { z with waiting := true })
   let x := d.lane k
   x.phase = .starting ∧ x.waiting = true ∧ d.clocked = true) ∧
  (let k : Fin 18 := 17
   let d : Dev := ((dev0.setRbit (Reg.CNV_CTL k) 0 true).modLane k fun z => { z with phase := .asleep })
   let x := d.lane k
   d.rbit (Reg.CNV_CTL k) 0 = true ∧ x.phase = .asleep ∧ d.clocked = true) ∧
  (let k : Fin 18 := 17
   let st := Reg.CNV_STAT k
   let d : Dev := dev0
   d.rbit (Reg.CNV_CTL k) 0 = false ∧ d.rbit st 0 = false ∧ d.rbit st 2 = false ∧ d.clocked = true) ∧
  (let k : Fin 18 := 17
   let c : Nat := 11
   let rest : List Nat := [3]
   let d : Dev := (((dev0.modLane k fun z => { z with phase := .converting, scan := c :: rest }).setFld
     (Reg.CNV_HANK k) 7 0 255).setHank 255 ⟨16383, 17, 0, 2, true, 1020, 0, 0, 0⟩)
   let x := d.lane k
   let n := d.fld (Reg.CNV_HANK k) 7 0
   let h := d.hank n
   let a := h.start + h.wr
   x.phase = .converting ∧ x.scan = c :: rest ∧ h.v = true ∧ h.kind = 2 ∧ h.writer = k.val ∧ h.wr + 4 ≤ h.bytes ∧
     h.wr % 4 = 0 ∧ d.drawsOf (bankOf a) = [] ∧ d.isCut k = false ∧ d.blockedLine k a 4 = none ∧
     (∀ i < 8, d.rbit (Reg.REL_CTL i) 0 = false) ∧ d.rbit (Reg.CNV_WC0CFG k) 0 = false ∧
     d.rbit (Reg.CNV_WC1CFG k) 0 = false ∧ d.clocked = true) := by
  refine ⟨?_, ?_, ?_, ?_, ?_, ?_, ?_, ?_, ?_, ?_, ?_, ?_, ?_, ?_, ?_, ?_⟩
  · decide +kernel
  · decide +kernel
  · decide +kernel
  · decide +kernel
  · decide +kernel
  · decide +kernel
  · decide +kernel
  · simp -zeta only [quiet_iff]; decide +kernel
  · decide +kernel
  · decide +kernel
  · decide +kernel
  · decide +kernel
  · decide +kernel
  · decide +kernel
  · decide +kernel
  · decide +kernel

theorem witness_DecimatorsAndHousekeeping :
  (let n : Fin 32 := 31
   let ctl := Reg.SDM_CTL n
   let st := Reg.SDM_STAT n
   let d : Dev := (dev0.setRbit Reg.SDM_CLKEN 0 true)
   d.rbit ctl 0 = false ∧ d.rbit st 0 = false ∧ d.rbit Reg.SDM_CLKEN (d.fld ctl 2 1) = true ∧ d.clocked = true) ∧
  (let n : Fin 32 := 31
   let ctl := Reg.SDM_CTL n
   let st := Reg.SDM_STAT n
   let d : Dev := dev0
   d.rbit ctl 0 = false ∧ d.rbit st 0 = false ∧ d.rbit Reg.SDM_CLKEN (d.fld ctl 2 1) = false ∧ d.clocked = true) ∧
  (let n : Fin 32 := 31
   let ctl := Reg.SDM_CTL n
   let d : Dev := dev0
   d.rbit ctl 0 = false ∧ d.clocked = true) ∧
  (let n : Fin 32 := 31
   let ctl := Reg.SDM_CTL n
   let d : Dev := (((dev0.setFld (Reg.SDM_CTL n) 23 16 255).setRbit (Reg.SDM_CTL n) 0 true).modSdm n fun z =>
     { z with since := 255, run := 126 })
   let x := d.sdm n
   let osr := d.fld ctl 23 16 + 1
   d.rbit ctl 0 = true ∧ d.rbit (Reg.SDM_FAST n) 0 = false ∧ x.since + 1 = osr ∧ x.run < 127 ∧
     x.stuckHold = false ∧ d.rbit ctl 4 = false ∧ d.clocked = true) ∧
  (let n : Fin 32 := 31
   let b : Bool := true
   let ctl := Reg.SDM_CTL n
   let d : Dev := (((dev0.setRbit (Reg.SDM_CTL n) 0 true).modSdm n fun z =>
     { z with run := 127 }).modSdm n fun z => { z with lastBit := true })
   let x := d.sdm n
   let osr := d.fld ctl 23 16 + 1
   d.rbit ctl 0 = true ∧ d.rbit (Reg.SDM_FAST n) 0 = false ∧ x.since + 1 ≠ osr ∧ x.run = 127 ∧ x.lastBit = b ∧
     d.clocked = true) ∧
  (let n : Fin 32 := 31
   let b : Bool := true
   let ctl := Reg.SDM_CTL n
   let d : Dev := (((((dev0.setFld (Reg.SDM_CTL n) 23 16 255).setRbit (Reg.SDM_CTL n) 0 true).setRbit
     (Reg.SDM_FAST n) 0 true).setReg (Reg.SDM_FLIM n) 0x80008000).modSdm n fun z =>
     { z with since := 5, run := 126 })
   let x := d.sdm n
   let osr := d.fld ctl 23 16 + 1
   let r := d.fld (Reg.SDM_FAST n) 5 1 + 1
   let y := (sincCode (sincOut (sinc2Weight r) (2 * r - 1) ((b :: x.hist).take 768)) (r * r)).1
   d.rbit ctl 0 = true ∧ d.rbit (Reg.SDM_FAST n) 0 = true ∧ d.rbit (Reg.SDM_FAST n) 6 = false ∧
     d.tripLine (40 + n) = false ∧ x.since + 1 ≠ osr ∧ x.run < 127 ∧
     signed 16 (d.fld (Reg.SDM_FLIM n) 31 16) < y ∧ x.fastHi = false ∧ d.clocked = true) ∧
  (let n : Fin 32 := 31
   let b : Bool := true
   let ctl := Reg.SDM_CTL n
   let d : Dev := (((((dev0.setFld (Reg.SDM_CTL n) 23 16 255).setRbit (Reg.SDM_CTL n) 0 true).setRbit
     (Reg.SDM_FAST n) 0 true).setReg (Reg.SDM_FLIM n) 0x7FFF7FFF).modSdm n fun z =>
     { z with since := 5, run := 126 })
   let x := d.sdm n
   let osr := d.fld ctl 23 16 + 1
   let r := d.fld (Reg.SDM_FAST n) 5 1 + 1
   let y := (sincCode (sincOut (sinc2Weight r) (2 * r - 1) ((b :: x.hist).take 768)) (r * r)).1
   d.rbit ctl 0 = true ∧ d.rbit (Reg.SDM_FAST n) 0 = true ∧ d.rbit (Reg.SDM_FAST n) 6 = false ∧
     d.tripLine (40 + n) = false ∧ x.since + 1 ≠ osr ∧ x.run < 127 ∧ y < signed 16 (d.fld (Reg.SDM_FLIM n) 15 0) ∧
     x.fastLo = false ∧ d.clocked = true) ∧
  (let d : Dev := (dev0.setFld Reg.DST_MODE 3 0 9)
   d.clocked = true ∧ 2 ≤ d.mode ∧ d.mode ≠ 0xB ∧ d.rbit Reg.HKP_STAT 18 = false ∧ d.clocked = true) ∧
  (let d : Dev := ((dev0.setRbit Reg.HKP_STAT 18 true).setFld Reg.DST_MODE 3 0 9)
   d.clocked = true ∧ 2 ≤ d.mode ∧ d.mode ≠ 0xB ∧ d.rbit Reg.HKP_STAT 18 = true ∧ d.quiet ∧ d.su.runReq = false ∧
     d.mode ≠ 6 ∧ d.mode ≠ 7 ∧ d.mode ≠ 10 ∧ d.clocked = true) ∧
  (let d : Dev := dev0
   d.rbit Reg.HKP_STAT 18 = false ∧ d.clocked = true) ∧
  (let volts : List Int := List.replicate 24 (2999000 : Int)
   let c := 23
   let d : Dev := dev0
   hkDigital c = false ∧ c ≠ 0 ∧ 0 ≤ (volts[c]?).getD 0 ∧
     (8192 * (volts[c]?).getD 0 + 3000000 * hkDivider c) / (6000000 * hkDivider c) < 4096 ∧ d.clocked = true) := by
  refine ⟨?_, ?_, ?_, ?_, ?_, ?_, ?_, ?_, ?_, ?_, ?_⟩
  · decide +kernel
  · decide +kernel
  · decide +kernel
  · decide +kernel
  · decide +kernel
  · decide +kernel
  · decide +kernel
  · decide +kernel
  · simp -zeta only [quiet_iff]; decide +kernel
  · decide +kernel
  · decide +kernel

theorem witness_Periods :
  (let p : Fin 18 := 17
   let l : Fin 4 := 3
   let d : Dev := dev0
   let y := d.lp p l
   (d.fld (Reg.SPN_LSLOT p l) 15 0 ≠ 0 ∨ y.lastAt ≠ some d.now) ∧ d.clocked = true) ∧
  (let p : Fin 18 := 17
   let l : Fin 4 := 3
   let d : Dev := (dev0.modLp p l fun z => { z with lastAt := some 0, events := 1 })
   let y := d.lp p l
   d.fld (Reg.SPN_LSLOT p l) 15 0 = 0 ∧ y.lastAt = some d.now ∧ y.events = y.served * d.loopN p l + 1 ∧
     d.clocked = true) ∧
  (let p : Fin 18 := 17
   let l : Fin 4 := 3
   let d : Dev := dev0
   d.onHold p = false ∧ d.periodDue p l = false ∧ d.clocked = true) ∧
  (let p : Fin 18 := 17
   let l : Fin 4 := 3
   let d : Dev := (dev0.modCr fun z => { z with takeovers := [(1, 17)] })
   d.onHold p = true ∧ d.loopLive p l = false ∧ d.clocked = true) ∧
  (let p : Fin 18 := 17
   let l : Fin 4 := 3
   let d : Dev := ((dev0.modCr fun z => { z with takeovers := [(1, 17)] }).setRbit (Reg.SPN_CTL p) l true)
   d.onHold p = true ∧ d.loopLive p l = true ∧ d.inj.live = false ∧ d.clocked = true) ∧
  (let p : Fin 18 := 17
   let l : Fin 4 := 3
   let d : Dev := ((dev0.setRbit (Reg.SPN_CTL p) l true).modLp p l fun z => { z with started := true })
   let x := d.spn p
   d.onHold p = false ∧ d.periodDue p l = true ∧ x.slot = none ∧ d.rbit (Reg.SPN_LENT1 p l) 23 = false ∧
     d.inj.live = false ∧ d.clocked = true) ∧
  (let p : Fin 18 := 17
   let l : Fin 4 := 3
   let d : Dev := (((dev0.setRbit (Reg.SPN_CTL p) l true).modLp p l fun z =>
     { z with started := true }).modSpn p fun z => { z with slot := some 0 })
   let x := d.spn p
   d.onHold p = false ∧ d.periodDue p l = true ∧ x.slot ≠ none ∧ d.clocked = true) ∧
  (let p : Fin 18 := 17
   let l : Fin 4 := 3
   let d : Dev := (dev0.modLp p l fun z => { z with lost := true })
   let x := d.spn p
   let y := d.lp p l
   y.lost = true ∧ l.val ∉ x.slotWait ∧ d.loopLive p l = false ∧ d.clocked = true) ∧
  (let p : Fin 18 := 17
   let l : Fin 4 := 3
   let d : Dev := ((dev0.setRbit (Reg.SPN_CTL p) l true).modLp p l fun z => { z with lost := true })
   let x := d.spn p
   let y := d.lp p l
   y.lost = true ∧ l.val ∉ x.slotWait ∧ d.loopLive p l = true ∧ d.clocked = true) ∧
  (let p : Fin 18 := 17
   let l : Fin 4 := 3
   let st := Reg.SPN_LSTAT p l
   let d : Dev := dev0
   let x := d.spn p
   let y := d.lp p l
   d.onHold p = false ∧ y.lost = false ∧ l.val ∉ x.slotWait ∧
     (x.slot ≠ some l.val ∨ y.committed = true ∨ y.held = true ∨ d.rbit st 6 = true) ∧ d.clocked = true) ∧
  (let p : Fin 18 := 17
   let l : Fin 4 := 3
   let d : Dev := ((dev0.setRbit (Reg.SPN_CTL p) l true).modSpn p fun z => { z with slotWait := [3] })
   let x := d.spn p
   let y := d.lp p l
   d.onHold p = false ∧ y.lost = false ∧ l.val ∈ x.slotWait ∧ d.loopLive p l = true ∧ d.inj.live = false ∧
     d.clocked = true) ∧
  (let p : Fin 18 := 17
   let l : Fin 4 := 3
   let st := Reg.SPN_LSTAT p l
   let d : Dev := ((dev0.setRbit (Reg.SPN_CTL p) l true).modSpn p fun z => { z with slot := some l.val })
   let x := d.spn p
   let y := d.lp p l
   d.onHold p = false ∧ y.lost = false ∧ l.val ∉ x.slotWait ∧ x.slot = some l.val ∧ y.committed = false ∧
     y.held = false ∧ d.rbit st 6 = false ∧ x.recovered = false ∧ d.clocked = true) ∧
  (let p : Fin 18 := 17
   let l : Fin 4 := 3
   let st := Reg.SPN_LSTAT p l
   let d : Dev := ((dev0.modSpn p fun z => { z with slot := some l.val }).modSpn p fun z =>
     { z with recovered := true })
   let x := d.spn p
   let y := d.lp p l
   d.onHold p = false ∧ y.lost = false ∧ l.val ∉ x.slotWait ∧ x.slot = some l.val ∧ y.committed = false ∧
     y.held = false ∧ d.rbit st 6 = false ∧ x.recovered = true ∧ d.clocked = true) ∧
  (let p : Fin 18 := 17
   let l : Fin 4 := 3
   let d : Dev := ((dev0.modSpn p fun z => { z with slot := some l.val }).modLp p l fun z =>
     { z with committed := true })
   let x := d.spn p
   let y := d.lp p l
   d.onHold p = false ∧ y.lost = false ∧ x.slot = some l.val ∧ (y.committed = true ∨ y.held = true) ∧
     x.slotWait = [] ∧ x.recovered = false ∧ d.clocked = true) ∧
  (let p : Fin 18 := 17
   let l : Fin 4 := 3
   let d : Dev := (((dev0.modSpn p fun z => { z with slot := some l.val }).modLp p l fun z =>
     { z with committed := true }).modSpn p fun z => { z with recovered := true })
   let x := d.spn p
   let y := d.lp p l
   d.onHold p = false ∧ y.lost = false ∧ x.slot = some l.val ∧ (y.committed = true ∨ y.held = true) ∧
     x.slotWait = [] ∧ x.recovered = true ∧ x.entry = none ∧ d.clocked = true) ∧
  (let p : Fin 18 := 17
   let l : Fin 4 := 3
   let d : Dev := (((dev0.modCr fun z => { z with takeovers := [(1, 17)] }).setRbit (Reg.SPN_CTL p) l true).modSpn
     p fun z => { z with slotWait := [3] })
   let x := d.spn p
   d.onHold p = true ∧ l.val ∈ x.slotWait ∧ d.loopLive p l = true ∧ d.inj.live = false ∧ d.clocked = true) ∧
  (let p : Fin 18 := 17
   let l : Fin 4 := 3
   let d : Dev := (((dev0.modCr fun z => { z with takeovers := [(1, 17)] }).modSpn p fun z =>
     { z with slot := some l.val }).modLp p l fun z => { z with committed := true })
   let x := d.spn p
   let y := d.lp p l
   d.onHold p = true ∧ x.slot = some l.val ∧ x.slotWait = [] ∧ y.lost = false ∧
     (y.committed = true ∨ y.held = true) ∧ x.entry = none ∧ d.clocked = true) ∧
  (let p : Fin 18 := 17
   let l : Fin 4 := 3
   let d : Dev := dev0
   let x := d.spn p
   x.slot ≠ some l.val ∧ l.val ∉ x.slotWait ∧ d.clocked = true) ∧
  (let p : Fin 18 := 17
   let l : Fin 4 := 3
   let d : Dev := (dev0.modSpn p fun z => { z with slotWait := [3] })
   let x := d.spn p
   x.slot ≠ some l.val ∧ l.val ∈ x.slotWait ∧ d.clocked = true) ∧
  (let p : Fin 18 := 17
   let l : Fin 4 := 3
   let d : Dev := (dev0.setRbit (Reg.SPN_CTL p) l true)
   (d.loopEn p l = true ∨ d.rbit (Reg.SPN_STAT p) l = true ∨ d.rbit (Reg.SPN_STAT p) 9 = true) ∧ d.clocked = true) ∧
  (let p : Fin 18 := 17
   let l : Fin 4 := 3
   let d : Dev := (dev0.setFld (Reg.SPN_LDEAD p l) 15 0 1)
   d.loopEn p l = false ∧ d.rbit (Reg.SPN_STAT p) l = false ∧ d.rbit (Reg.SPN_STAT p) 9 = false ∧
     d.loopCfgBad p l = true ∧ d.clocked = true) ∧
  (let p : Fin 18 := 17
   let l : Fin 4 := 3
   let d : Dev := dev0
   d.loopEn p l = false ∧ d.rbit (Reg.SPN_STAT p) l = false ∧ d.rbit (Reg.SPN_STAT p) 9 = false ∧
     d.loopCfgBad p l = false ∧ d.quiet ∧ d.clocked = true) ∧
  (let p : Fin 18 := 17
   let l : Fin 4 := 3
   let d : Dev := dev0
   d.loopEn p l = false ∧ d.rbit (Reg.SPN_STAT p) l = false ∧ d.rbit (Reg.SPN_STAT p) 9 = false ∧
     d.loopCfgBad p l = false ∧ d.readsClean (reqSpn p) ∧ d.clocked = true) := by
  refine ⟨?_, ?_, ?_, ?_, ?_, ?_, ?_, ?_, ?_, ?_, ?_, ?_, ?_, ?_, ?_, ?_, ?_, ?_, ?_, ?_, ?_, ?_, ?_⟩
  · decide +kernel
  · decide +kernel
  · decide +kernel
  · decide +kernel
  · decide +kernel
  · decide +kernel
  · decide +kernel
  · decide +kernel
  · decide +kernel
  · decide +kernel
  · decide +kernel
  · decide +kernel
  · decide +kernel
  · decide +kernel
  · decide +kernel
  · decide +kernel
  · decide +kernel
  · decide +kernel
  · decide +kernel
  · decide +kernel
  · decide +kernel
  · simp -zeta only [quiet_iff]; decide +kernel
  · simp -zeta only [readsClean_iff]; decide +kernel

theorem witness_SpindleSpares :
  (let p : Fin 18 := 17
   let st := Reg.SPN_STAT p
   let d : Dev := dev0
   d.rbit st 8 = false ∧ d.clocked = true) ∧
  (let p : Fin 18 := 17
   let st := Reg.SPN_STAT p
   let d : Dev := (dev0.setRbit (Reg.SPN_STAT p) 8 true)
   d.rbit st 8 = true ∧ d.onHold p = false ∧ d.readsClean (reqSpn p) ∧ d.clocked = true) ∧
  (let p : Fin 18 := 17
   let st := Reg.SPN_STAT p
   let d : Dev := (dev0.setFld Reg.DST_MODE 3 0 4)
   16 ≤ p.val ∧ (d.mode = 4 ∨ d.mode = 10) ∧ d.rbit st 9 = false ∧ d.clocked = true) ∧
  (let p : Fin 18 := 17
   let d : Dev := dev0
   (p.val < 16 ∨ (d.mode ≠ 4 ∧ d.mode ≠ 10)) ∧ d.clocked = true) ∧
  (let p : Fin 18 := 17
   let d : Dev := (dev0.setRbit (Reg.SPN_HOT p) 0 true)
   d.rbit (Reg.SPN_HOT p) 0 = true ∧ 16 ≤ p.val ∧ d.readsClean (reqSpn p) ∧ d.clocked = true) ∧
  (let p : Fin 18 := 17
   let d : Dev := dev0
   d.rbit (Reg.SPN_HOT p) 0 = false ∧ d.clocked = true) ∧
  (let p : Fin 18 := 17
   let d : Dev := dev0
   (d.spn p).slot = none ∧ d.clocked = true) ∧
  (let p : Fin 18 := 17
   let l : Fin 4 := 3
   let d : Dev := ((dev0.modSpn p fun z => { z with slot := some l.val }).modSpn p fun z =>
     { z with entry := some .post })
   (d.spn p).slot = some l.val ∧ ((d.spn p).entry = some .post ∨ ((d.spn p).entry = some .body ∧
     (d.lp p l).committed = true)) ∧ d.clocked = true) ∧
  (let p : Fin 18 := 17
   let l : Fin 4 := 3
   let d : Dev := ((dev0.modSpn p fun z => { z with slot := some l.val }).modSpn p fun z =>
     { z with entry := some .pred })
   (d.spn p).slot = some l.val ∧ ((d.spn p).entry = some .pred ∨ (d.spn p).entry = some .body) ∧
     (d.lp p l).committed = false ∧ d.readsClean (reqSpn p) ∧ d.clocked = true) ∧
  (let d : Dev := dev0
   d.cr.takeovers = [] ∧ d.clocked = true) ∧
  (let p : Fin 18 := 17
   let q : Fin 16 := 15
   let d : Dev := (dev0.modCr fun z => { z with takeovers := [(q.val, p.val)] })
   d.cr.takeovers = [(q.val, p.val)] ∧ d.fld (Reg.SPN_CTL p) 3 0 = 0 ∧ d.readsClean (reqSpn p) ∧ d.clocked = true) := by
  refine ⟨?_, ?_, ?_, ?_, ?_, ?_, ?_, ?_, ?_, ?_, ?_⟩
  · decide +kernel
  · simp -zeta only [readsClean_iff]; decide +kernel
  · decide +kernel
  · decide +kernel
  · simp -zeta only [readsClean_iff]; decide +kernel
  · decide +kernel
  · decide +kernel
  · decide +kernel
  · simp -zeta only [readsClean_iff]; decide +kernel
  · decide +kernel
  · simp -zeta only [readsClean_iff]; decide +kernel

theorem witness_Timebases :
  (let j : Fin 16 := 15
   let ctl := Reg.TB_CTL j
   let st := Reg.TB_STAT j
   let d : Dev := (dev0.setRbit (Reg.TB_CTL j) 0 true)
   (d.rbit ctl 0 = true ∨ d.rbit st 0 = true) ∧ d.clocked = true) ∧
  (let j : Fin 16 := 15
   let ctl := Reg.TB_CTL j
   let st := Reg.TB_STAT j
   let d : Dev := ((dev0.setFld (Reg.TB_CTL j) 6 3 15).setRbit (Reg.TB_CTL j) 2 true)
   d.rbit ctl 0 = false ∧ d.rbit st 0 = false ∧ d.tbCfgBad j = true ∧ d.clocked = true) ∧
  (let j : Fin 16 := 15
   let ctl := Reg.TB_CTL j
   let st := Reg.TB_STAT j
   let d : Dev := (dev0.setRbit (Reg.TB_CTL j) 7 true)
   d.rbit ctl 0 = false ∧ d.rbit st 0 = false ∧ d.tbCfgBad j = false ∧ d.rbit ctl 7 = true ∧ d.clocked = true) ∧
  (let j : Fin 16 := 15
   let ctl := Reg.TB_CTL j
   let st := Reg.TB_STAT j
   let d : Dev := dev0
   d.rbit ctl 0 = false ∧ d.rbit st 0 = false ∧ d.tbCfgBad j = false ∧ d.rbit ctl 7 = false ∧ d.clocked = true) ∧
  (let v : Word := 0xFF000001
   let w := v &&& 0xFFFFFF
   let d : Dev := dev0
   w.toNat < 2 ∧ d.clocked = true) ∧
  (let j : Fin 16 := 15
   let v : Word := 2
   let ctl := Reg.TB_CTL j
   let st := Reg.TB_STAT j
   let w := v &&& 0xFFFFFF
   let d : Dev := (dev0.setRbit (Reg.TB_STAT j) 1 true)
   2 ≤ w.toNat ∧ d.rbit ctl 1 = false ∧ d.rbit st 1 = true ∧ d.clocked = true) ∧
  (let j : Fin 16 := 15
   let v : Word := 2
   let ctl := Reg.TB_CTL j
   let st := Reg.TB_STAT j
   let w := v &&& 0xFFFFFF
   let d : Dev := dev0
   2 ≤ w.toNat ∧ d.rbit ctl 1 = false ∧ d.rbit st 1 = false ∧ d.clocked = true) ∧
  (let j : Fin 16 := 15
   let st := Reg.TB_STAT j
   let d : Dev := (dev0.setRbit (Reg.TB_STAT j) 1 true)
   d.rbit st 1 = true ∧ d.clocked = true) ∧
  (let j : Fin 16 := 15
   let st := Reg.TB_STAT j
   let d : Dev := dev0
   d.rbit st 1 = false ∧ d.clocked = true) ∧
  (let j : Fin 16 := 15
   let ev : TbEvent := .zero
   let ctl := Reg.TB_CTL j
   let st := Reg.TB_STAT j
   let d : Dev := dev0
   (d.rbit st 1 = false ∨ d.evPos j ev = none ∨ (ev = .zero ∧ d.rbit ctl 0 = false)) ∧ d.clocked = true) ∧
  (let j : Fin 16 := 15
   let ev : TbEvent := .zero
   let pos := 0
   let down := false
   let ctl := Reg.TB_CTL j
   let st := Reg.TB_STAT j
   let d : Dev := ((dev0.setRbit (Reg.TB_STAT j) 1 true).setRbit (Reg.TB_CTL j) 0 true)
   d.quiet ∧ d.rbit st 1 = true ∧ d.rbit ctl 0 = true ∧ d.evPos j ev = some (pos, down) ∧ d.clocked = true) := by
  refine ⟨?_, ?_, ?_, ?_, ?_, ?_, ?_, ?_, ?_, ?_, ?_⟩
  · decide +kernel
  · decide +kernel
  · decide +kernel
  · decide +kernel
  · decide +kernel
  · decide +kernel
  · decide +kernel
  · decide +kernel
  · decide +kernel
  · decide +kernel
  · simp -zeta only [quiet_iff]; decide +kernel

theorem witness_WhorlImagesAndForces :
  (let n : Fin 64 := 63
   let d : Dev := (dev0.modWhorl n fun z => { z with beat := .none })
   let w := d.whorl n
   w.beat = .none ∧ d.clocked = true) ∧
  (let n : Fin 64 := 63
   let d : Dev := (dev0.modWhorl n fun z => { z with beat := .error })
   let w := d.whorl n
   w.beat = .error ∧ d.clocked = true) ∧
  (let n : Fin 64 := 63
   let ws := ([0, 0, 0, 0x5A000002] : List Word)
   let d : Dev := (dev0.modWhorl n fun z => { z with beat := .words ws })
   let w := d.whorl n
   w.beat = .words ws ∧ imageOk ws = true ∧ d.clocked = true) ∧
  (let n : Fin 64 := 63
   let st := Reg.WHL_STAT n
   let ctl := Reg.WHL_CTL n
   let d : Dev := dev0
   (d.su.ready = false ∨ d.rbit ctl 0 = true ∨ d.rbit st 0 = true) ∧ d.clocked = true) ∧
  (let n : Fin 64 := 63
   let st := Reg.WHL_STAT n
   let ctl := Reg.WHL_CTL n
   let d : Dev := (dev0.modSu fun z => { z with ready := true })
   d.su.ready = true ∧ d.rbit ctl 0 = false ∧ d.rbit st 0 = false ∧ d.fld ctl 15 14 ≠ 1 ∧ d.slotOk n = false ∧
     d.clocked = true) ∧
  (let n : Fin 64 := 63
   let st := Reg.WHL_STAT n
   let ctl := Reg.WHL_CTL n
   let d : Dev := (((dev0.modSu fun z => { z with ready := true }).setFld (Reg.WHL_SLOT n) 23 4 0xFFFFF).setHank
     255 ⟨16383, 0, 0, 5, true, 0, 0, 0, 0⟩)
   d.su.ready = true ∧ d.rbit ctl 0 = false ∧ d.rbit st 0 = false ∧ d.fld ctl 15 14 ≠ 1 ∧ d.slotOk n = true ∧
     d.clocked = true) ∧
  (let n : Fin 64 := 63
   let d : Dev := dev0
   let w := d.whorl n
   w.pendH = false ∧ d.clocked = true) ∧
  (let n : Fin 64 := 63
   let d : Dev := dev0
   let w := d.whorl n
   w.pendL = false ∧ d.clocked = true) ∧
  (let n : Fin 64 := 63
   let d : Dev := (dev0.modWhorl n fun z => { z with pendH := true })
   let w := d.whorl n
   d.tripHit n = none ∧ w.pendH = true ∧ d.clocked = true) ∧
  (let n : Fin 64 := 63
   let d : Dev := (dev0.modWhorl n fun z => { z with pendL := true })
   let w := d.whorl n
   d.tripHit n = none ∧ w.pendL = true ∧ d.clocked = true) ∧
  (let n : Fin 64 := 63
   let d : Dev := dev0
   let w := d.whorl n
   w.dwell = none ∧ d.clocked = true) ∧
  (let n : Fin 64 := 63
   let c := 2
   let d : Dev := (dev0.modWhorl n fun z => { z with dwell := some c })
   let w := d.whorl n
   w.dwell = some c ∧ d.clocked = true) ∧
  (let v : Word := 0x1C
   let f := v &&& 0x1F
   let d : Dev := dev0
   (bitsOf f 1 0 = 3 ∨ bitsOf f 3 2 = 3) ∧ d.clocked = true) ∧
  (let v : Word := 0xA
   let f := v &&& 0x1F
   let d : Dev := dev0
   bitsOf f 1 0 = 2 ∧ bitsOf f 3 2 = 2 ∧ d.clocked = true) ∧
  (let n : Fin 64 := 63
   let v : Word := 0xFFFFFFF5
   let ctl := Reg.WHL_CTL n
   let f := v &&& 0x1F
   let d : Dev := dev0
   bitsOf f 1 0 ≠ 3 ∧ bitsOf f 3 2 ≠ 3 ∧ (¬(bitsOf f 1 0 = 2 ∧ bitsOf f 3 2 = 2)) ∧ bitOf f 4 = true ∧
     d.fld ctl 15 14 ≠ 1 ∧ d.clocked = true) ∧
  (let n : Fin 64 := 63
   let v : Word := 0
   let ctl := Reg.WHL_CTL n
   let f := v &&& 0x1F
   let d : Dev := dev0
   bitsOf f 1 0 ≠ 3 ∧ bitsOf f 3 2 ≠ 3 ∧ (¬(bitsOf f 1 0 = 2 ∧ bitsOf f 3 2 = 2)) ∧
     (bitOf f 4 = false ∨ d.fld ctl 15 14 = 1) ∧ d.clocked = true) ∧
  (let n : Fin 64 := 63
   let d : Dev := dev0
   let w := d.whorl n
   w.refreshLow = false ∧ d.clocked = true) ∧
  (let n : Fin 64 := 63
   let d : Dev := (dev0.modWhorl n fun z => { z with refreshLow := true })
   let w := d.whorl n
   w.refreshLow = true ∧ d.clocked = true) := by
  refine ⟨?_, ?_, ?_, ?_, ?_, ?_, ?_, ?_, ?_, ?_, ?_, ?_, ?_, ?_, ?_, ?_, ?_, ?_⟩ <;>
    decide +kernel

theorem witness_Trips :
  (let d : Dev := dev0
   d.fld Reg.WHL_PINCFG 11 8 = 0 ∧ (∀ i, smGet (fun _ => none) d.md.pinAt i = none) ∧ d.clocked = true) ∧
  (let n : Fin 64 := 63
   let d : Dev := dev0
   let w := d.whorl n
   w.blanking = false ∧ d.clocked = true) ∧
  (let n : Fin 64 := 63
   let d : Dev := (dev0.modWhorl n fun z => { z with blanking := true })
   let w := d.whorl n
   w.blanking = true ∧ d.tripHit n = none ∧ d.clocked = true) ∧
  (let n : Fin 64 := 63
   let b : Nat := 75
   let st := Reg.WHL_STAT n
   let d : Dev := ((((dev0.modWhorl n fun z => { z with blanking := true }).setReg (Reg.WHL_TSEL n 2)
     0x800).setReg (Reg.WHL_LINES 2) 0x800).setRbit (Reg.WHL_CTL n) 0 true)
   let w := d.whorl n
   w.blanking = true ∧ d.tripHit n = some b ∧ d.whlLive n = true ∧ d.rbit st 1 = false ∧ d.clocked = true) ∧
  (let n : Fin 64 := 63
   let st := Reg.WHL_STAT n
   let d : Dev := dev0
   let w := d.whorl n
   (d.rbit st 1 = false ∨ w.clearing = true) ∧ d.clocked = true) ∧
  (let n : Fin 64 := 63
   let b : Nat := 75
   let st := Reg.WHL_STAT n
   let d : Dev := ((((dev0.setRbit (Reg.WHL_STAT n) 1 true).setReg (Reg.WHL_TSEL n 2) 0x800).setReg (Reg.WHL_LINES
     2) 0x800).setRbit (Reg.WHL_CTL n) 0 true)
   let w := d.whorl n
   d.rbit st 1 = true ∧ w.clearing = false ∧ d.tripHit n = some b ∧ d.clocked = true) ∧
  (let n : Fin 64 := 63
   let st := Reg.WHL_STAT n
   let d : Dev := (dev0.setRbit (Reg.WHL_STAT n) 1 true)
   let w := d.whorl n
   d.rbit st 1 = true ∧ w.clearing = false ∧ d.tripHit n = none ∧ d.fld (Reg.WHL_CTL n) 15 14 ≠ 1 ∧ d.clocked = true) := by
  refine ⟨?_, ?_, ?_, ?_, ?_, ?_, ?_⟩
  · simp -zeta only [pins_iff]; decide +kernel
  · decide +kernel
  · decide +kernel
  · decide +kernel
  · decide +kernel
  · decide +kernel
  · decide +kernel

theorem witness_PortSwitching :
  (let n : Fin 64 := 63
   let d : Dev := (dev0.modPort n fun z => { z with linkLost := true })
   let p := d.port n
   (p.linkLost = true ∨ p.linkHold = true ∨ p.order.isSome = true)) ∧
  (let n : Fin 64 := 63
   let h : Bool := false
   let l : Bool := true
   let d : Dev := dev0
   let p := d.port n
   d.clocked = true ∧ p.linkLost = false ∧ p.linkHold = false ∧ p.order = none ∧ (¬(h = true ∧ l = true))) ∧
  (let n : Fin 64 := 63
   let sec : Section := .l
   let d : Dev := ((dev0.modSu fun z => { z with ready := true }).modPort n fun z => { z with gdBad := false })
   let p := d.port n
   let x := p.sec sec
   let y := p.sec (otherSec sec)
   d.clocked = true ∧ p.linkLost = false ∧ p.linkHold = false ∧ p.order = none ∧ x.cmd = false ∧ y.cmd = false ∧
     x.on = false ∧ p.test = none ∧ d.heldOff n sec = false) ∧
  (let n : Fin 64 := 63
   let sec : Section := .l
   let d : Dev := ((((dev0.modSu fun z => { z with ready := true }).modPort n fun z =>
     { z with gdBad := false }).modSec n (otherSec sec) fun z =>
     { z with cmd := true }).modSec n (otherSec sec) fun z => { z with on := true })
   let p := d.port n
   let x := p.sec sec
   let y := p.sec (otherSec sec)
   d.clocked = true ∧ p.linkLost = false ∧ p.linkHold = false ∧ p.order = none ∧ x.cmd = false ∧ y.cmd = true ∧
     x.on = false ∧ y.on = true ∧ y.offWait = false ∧ y.young = false ∧ p.test = none ∧ d.heldOff n sec = false) ∧
  (let n : Fin 64 := 63
   let sec : Section := .l
   let d : Dev := ((((dev0.modSec n sec fun z => { z with cmd := true }).modSec n sec fun z =>
     { z with on := true }).modSec n sec fun z => { z with young := true }).modSec n sec fun z =>
     { z with cmdAt := 0 })
   let p := d.port n
   let x := p.sec sec
   let y := p.sec (otherSec sec)
   d.clocked = true ∧ p.linkLost = false ∧ p.linkHold = false ∧ p.order = none ∧ x.cmd = true ∧ y.cmd = false ∧
     x.on = true ∧ x.offWait = false ∧ x.young = true ∧ d.now < x.cmdAt + minPulseTicks n) ∧
  (let n : Fin 64 := 63
   let sec : Section := .l
   let d : Dev := ((dev0.modSec n sec fun z => { z with cmd := true }).modSec n sec fun z => { z with on := true })
   let p := d.port n
   let x := p.sec sec
   let y := p.sec (otherSec sec)
   d.clocked = true ∧ p.linkLost = false ∧ p.linkHold = false ∧ p.order = none ∧ x.cmd = true ∧ y.cmd = false ∧
     x.on = true ∧ x.offWait = false ∧ (x.young = false ∨ x.cmdAt + minPulseTicks n ≤ d.now)) ∧
  (let n : Fin 64 := 63
   let sec : Section := .l
   let d : Dev := (((dev0.setRbit (pCfg n) 11 true).modSec n sec fun z =>
     { z with cmd := true }).modSec n sec fun z => { z with on := true })
   let p := d.port n
   let x := p.sec sec
   let y := p.sec (otherSec sec)
   d.clocked = true ∧ p.linkLost = false ∧ p.linkHold = false ∧ p.order = none ∧ x.cmd = true ∧ y.cmd = false ∧
     x.on = true ∧ x.offWait = false ∧ (32 ≤ n.val ∨ d.dieBit n (pCfg n) 11 = true)) ∧
  (let n : Fin 64 := 31
   let sec : Section := .l
   let d : Dev := ((((dev0.setRbit (pCfg n) 11 false).modSec n sec fun z =>
     { z with cmd := true }).modSec n sec fun z => { z with on := true }).modPort n fun z =>
     { z with gdBad := false })
   let p := d.port n
   let x := p.sec sec
   let y := p.sec (otherSec sec)
   d.clocked = true ∧ p.linkLost = false ∧ p.linkHold = false ∧ p.order = none ∧ x.cmd = true ∧ y.cmd = false ∧
     x.on = true ∧ x.offWait = false ∧ n.val < 32 ∧ d.dieBit n (pCfg n) 11 = false ∧ x.soft = false) ∧
  (let n : Fin 64 := 63
   let sec : Section := .l
   let d : Dev := dev0
   let p := d.port n
   let x := p.sec sec
   x.floorWait = false) ∧
  (let n : Fin 64 := 63
   let sec : Section := .l
   let d : Dev := (dev0.modSec n sec fun z => { z with floorWait := true })
   let p := d.port n
   let x := p.sec sec
   let y := p.sec (otherSec sec)
   x.floorWait = true ∧ y.on = false ∧ y.soft = false) ∧
  (let n : Fin 64 := 63
   let w : AdaptWindow := .test
   let d : Dev := ((dev0.setFld Reg.DST_MODE 3 0 10).setRbit (pAdpctl n) 2 true)
   let p := d.port n
   let adpn := d.dieFld n (pAdpctl n) 31 24
   let due : AdaptWindow → Bool := fun w => match w with
     | .start => d.rbit (Reg.WHL_STAT n) 2 && d.dieBit n (pAdpctl n) 0 && decide (adpn ≠ 0)
     | .recovery => !p.hold && d.dieBit n (pAdpctl n) 1 && decide (adpn ≠ 0)
     | .test => decide (d.mode = 10) && d.dieBit n (pAdpctl n) 2
   p.h.win = none ∧ p.l.win = none ∧ due w = true) ∧
  (let n : Fin 64 := 63
   let w : AdaptWindow := .test
   let d : Dev := dev0
   let p := d.port n
   let adpn := d.dieFld n (pAdpctl n) 31 24
   let due : AdaptWindow → Bool := fun w => match w with
     | .start => d.rbit (Reg.WHL_STAT n) 2 && d.dieBit n (pAdpctl n) 0 && decide (adpn ≠ 0)
     | .recovery => !p.hold && d.dieBit n (pAdpctl n) 1 && decide (adpn ≠ 0)
     | .test => decide (d.mode = 10) && d.dieBit n (pAdpctl n) 2
   (p.h.win.isSome = true ∨ p.l.win.isSome = true ∨ due w = false)) ∧
  (let n : Fin 64 := 63
   let sec : Section := .l
   let w : AdaptWindow := .start
   let d : Dev := (dev0.modSec n sec fun z => { z with win := some ⟨.start, 0⟩ })
   let p := d.port n
   let x := p.sec sec
   x.win = some ⟨w, 0⟩ ∧ w ≠ .test) ∧
  (let n : Fin 64 := 63
   let sec : Section := .l
   let k := 1
   let d : Dev := (dev0.modSec n sec fun z => { z with win := some ⟨.test, 1⟩ })
   let p := d.port n
   let x := p.sec sec
   x.win = some ⟨.test, k⟩ ∧ (d.mode ≠ 10 ∨ d.dieBit n (pAdpctl n) 2 = false)) ∧
  (let n : Fin 64 := 63
   let d : Dev := dev0
   let p := d.port n
   p.h.win = none ∧ p.l.win = none) ∧
  (let n : Fin 64 := 63
   let sec : Section := .l
   let d : Dev := dev0
   let p := d.port n
   let x := p.sec sec
   x.win = none) ∧
  (let n : Fin 64 := 63
   let sec : Section := .l
   let d : Dev := (dev0.modSec n sec fun z => { z with win := some ⟨.start, 1⟩ })
   let p := d.port n
   let x := p.sec sec
   x.win.isSome = true) := by
  refine ⟨?_, ?_, ?_, ?_, ?_, ?_, ?_, ?_, ?_, ?_, ?_, ?_, ?_, ?_, ?_, ?_, ?_⟩ <;>
    decide +kernel

theorem witness_PortProtection :
  (let n : Fin 64 := 63
   let sec : Section := .l
   let own := if sec = .h then 0 else 1
   let d : Dev := dev0
   let p := d.port n
   ((p.sec sec).armed = false ∨ p.test = some own)) ∧
  (let n : Fin 64 := 63
   let sec : Section := .l
   let own := if sec = .h then 0 else 1
   let d : Dev := (dev0.modSec n sec fun z => { z with armed := true })
   let p := d.port n
   (p.sec sec).armed = true ∧ p.test ≠ some own) ∧
  (let n : Fin 64 := 63
   let d : Dev := dev0
   let p := d.port n
   p.retryWait = false) ∧
  (let n : Fin 64 := 63
   let d : Dev := ((((dev0.setFld (pStat n) 19 17 6).modPort n fun z =>
     { z with retryWait := true }).setFld (pCfg n) 18 16 7).setFld (pStat n) 19 17 6)
   let p := d.port n
   p.retryWait = true ∧ d.tries n < d.nretry n) ∧
  (let n : Fin 64 := 63
   let d : Dev := (dev0.modPort n fun z => { z with retryWait := true })
   let p := d.port n
   p.retryWait = true ∧ d.nretry n ≤ d.tries n) ∧
  (let n : Fin 64 := 63
   let d : Dev := (dev0.modPort n fun z => { z with hold := true })
   let p := d.port n
   p.hold = true) ∧
  (let n : Fin 64 := 63
   let d : Dev := dev0
   let p := d.port n
   p.hold = false) ∧
  (let n : Fin 64 := 63
   let st := pStat n
   let d : Dev := dev0
   (d.rbit st 2 = false ∨ d.rbit st 23 = true ∨ d.mode = 9 ∨ d.supplyLow n = true)) ∧
  (let n : Fin 64 := 63
   let st := pStat n
   let d : Dev := ((dev0.setRbit (pStat n) 2 true).modPort n fun z => { z with gdBad := false })
   d.clocked = true ∧ d.rbit st 2 = true ∧ d.rbit st 23 = false ∧ d.mode ≠ 9 ∧ d.supplyLow n = false) ∧
  (let d : Dev := dev0
   d.clocked = true) ∧
  (let n : Fin 64 := 63
   let sel : BitVec 3 := 5
   (if n.val < 32 then 6 else 4) < sel.toNat) ∧
  (let n : Fin 64 := 63
   let sel : BitVec 3 := 4
   let idle := fun (x : Sect) => x.cmd = false ∧ x.on = false ∧ x.soft = false ∧ x.offWait = false ∧
     x.floorWait = false
   let d : Dev := dev0
   let p := d.port n
   d.clocked = true ∧ sel.toNat ≤ (if n.val < 32 then 6 else 4) ∧ idle p.h ∧ idle p.l) ∧
  (let n : Fin 64 := 63
   let sel : BitVec 3 := 4
   let idle := fun (x : Sect) => x.cmd = false ∧ x.on = false ∧ x.soft = false ∧ x.offWait = false ∧
     x.floorWait = false
   let d : Dev := (dev0.modSec n .h fun z => { z with soft := true })
   let p := d.port n
   d.clocked = true ∧ sel.toNat ≤ (if n.val < 32 then 6 else 4) ∧ (¬idle p.h ∨ ¬idle p.l)) ∧
  (let n : Fin 64 := 63
   let d : Dev := dev0
   let p := d.port n
   p.test = none) ∧
  (let n : Fin 64 := 63
   let d : Dev := (dev0.modPort n fun z => { z with test := some 4 })
   let p := d.port n
   p.test.isSome = true) := by
  refine ⟨?_, ?_, ?_, ?_, ?_, ?_, ?_, ?_, ?_, ?_, ?_, ?_, ?_, ?_, ?_⟩ <;>
    decide +kernel

theorem witness_PortSupplies :
  (let n : Fin 32 := 31
   let d : Dev := (dev0.modPort n fun z => { z with linkLost := true })
   (d.port n).linkLost = true) ∧
  (let n : Fin 32 := 31
   let d : Dev := dev0
   d.clocked = true ∧ (d.port n).linkLost = false) ∧
  (let d : Dev := dev0
   d.clocked = true) ∧
  (let n : Fin 32 := 31
   let sec : Section := .l
   let rail : GateRail := (GateRail.vpos)
   let mv : Int := 11000
   let d : Dev := dev0
   (d.railTrips n rail mv = false ∨ (d.port n).test = some (uvTestSel sec rail))) ∧
  (let n : Fin 32 := 31
   let rail : GateRail := (GateRail.vpos)
   let d : Dev := dev0
   d.dieFld n (pCfg n) 1 0 = 0 ∧ rail = .vpos) ∧
  (let rail : GateRail := (GateRail.vneg)
   rail = .vneg) ∧
  (let n : Fin 32 := 31
   let d : Dev := dev0
   d.dieFld n (pCfg n) 1 0 = 0 ∧ d.dieBit n (pCfg n) 9 = true) ∧
  (let n : Fin 32 := 31
   let sec : Section := .l
   let rail : GateRail := (GateRail.vpos)
   let mv : Int := 10999
   let d : Dev := dev0
   d.railTrips n rail mv = true ∧ (d.port n).test ≠ some (uvTestSel sec rail)) ∧
  (let n : Fin 32 := 31
   let vpos : Int := 0
   let vneg : Int := 0
   let d : Dev := dev0
   d.railsBack n vpos vneg = false) ∧
  (let n : Fin 32 := 31
   let vpos : Int := 20000
   let vneg : Int := -10000
   let d : Dev := dev0
   d.railsBack n vpos vneg = true) ∧
  (let k : Fin 4 := 3
   let lv := legsOf (32 + k.val)
   let d : Dev := (dev0.modPort 63 fun z => { z with test := some 3 })
   (∃ i ∈ lv, (d.port i).test = some 3)) ∧
  (let k : Fin 4 := 3
   let lv := legsOf (32 + k.val)
   let d : Dev := dev0
   (∀ i ∈ lv, (d.port i).test ≠ some 3)) ∧
  (let n : Fin 32 := 31
   let m := 32 + n.val
   let d : Dev := dev0
   ((d.port m).h.cmd = false ∨ (d.port m).test = some 2)) ∧
  (let n : Fin 32 := 31
   let m := 32 + n.val
   let d : Dev := (dev0.modPort (32 + n.val) fun z => { z with h := { z.h with cmd := true } })
   (d.port m).h.cmd = true ∧ (d.port m).test ≠ some 2) ∧
  (let n : Fin 32 := 31
   let m := 32 + n.val
   let d : Dev := (dev0.modPort (32 + n.val) fun z => { z with gdBad := true })
   (d.port m).gdBad = true) ∧
  (let n : Fin 32 := 31
   let m := 32 + n.val
   let d : Dev := (dev0.modPort m fun z => { z with gdBad := false })
   (d.port m).gdBad = false) ∧
  (let die : Fin 36 := 35
   let own : Nat → Nat := fun i => if i < 32 then 6 else 4
   let d : Dev := (dev0.modPort 63 fun z => { z with test := some 4 })
   (∃ i ∈ legsOf die, (d.port i).test = some (own i))) ∧
  (let die : Fin 36 := 35
   let own : Nat → Nat := fun i => if i < 32 then 6 else 4
   let d : Dev := dev0
   (∀ i ∈ legsOf die, (d.port i).test ≠ some (own i))) := by
  refine ⟨?_, ?_, ?_, ?_, ?_, ?_, ?_, ?_, ?_, ?_, ?_, ?_, ?_, ?_, ?_, ?_, ?_, ?_⟩ <;>
    decide +kernel

theorem witness_PositionInputs :
  (let n : Fin 4 := 3
   let ec := Reg.POS_ECTL n
   let d : Dev := (dev0.setFld (Reg.POS_ECTL n) 7 4 15)
   let x := d.enc n
   x.pa = none ∧ x.pb = none ∧ x.pz = none ∧ d.fld ec 7 4 ≠ 0 ∧ d.clocked = true) ∧
  (let n : Fin 4 := 3
   let a : Bool := true
   let b : Bool := true
   let ec := Reg.POS_ECTL n
   let d : Dev := dev0
   let x := d.enc n
   x.pa = none ∧ x.pb = none ∧ x.pz = none ∧ d.fld ec 7 4 = 0 ∧ (d.rbit ec 0 = false ∨ (a = x.a ∧ b = x.b)) ∧
     d.clocked = true) ∧
  (let n : Fin 4 := 3
   let a : Bool := true
   let ec := Reg.POS_ECTL n
   let d : Dev := dev0
   let x := d.enc n
   x.pa = none ∧ x.pb = none ∧ x.pz = none ∧ d.fld ec 7 4 = 0 ∧ (d.rbit ec 0 = false ∨ a = false ∨ x.z = true) ∧
     d.clocked = true) ∧
  (let n : Fin 4 := 3
   let a : Bool := true
   let ec := Reg.POS_ECTL n
   let d : Dev := ((dev0.setRbit (Reg.POS_ECTL n) 0 true).setRbit (Reg.POS_ECTL n) 1 true)
   let x := d.enc n
   x.pa = none ∧ x.pb = none ∧ x.pz = none ∧ d.fld ec 7 4 = 0 ∧ d.rbit ec 0 = true ∧ d.rbit ec 1 = true ∧
     a = true ∧ x.z = false ∧ d.clocked = true) ∧
  (let n : Fin 4 := 3
   let a : Bool := true
   let b : Bool := true
   let ec := Reg.POS_ECTL n
   let d : Dev := (dev0.setRbit (Reg.POS_ECTL n) 0 true)
   let x := d.enc n
   x.pa = none ∧ x.pb = none ∧ x.pz = none ∧ d.fld ec 7 4 = 0 ∧ d.rbit ec 0 = true ∧ d.rbit ec 1 = false ∧
     a ≠ x.a ∧ b ≠ x.b ∧ d.clocked = true) ∧
  (let n : Fin 4 := 3
   let a : Bool := true
   let b : Bool := false
   let ec := Reg.POS_ECTL n
   let d : Dev := (dev0.setRbit (Reg.POS_ECTL n) 0 true)
   let x := d.enc n
   x.pa = none ∧ x.pb = none ∧ x.pz = none ∧ d.fld ec 7 4 = 0 ∧ d.rbit ec 0 = true ∧ d.rbit ec 1 = false ∧
     x.zAt ≠ some d.now ∧ a ≠ x.a ∧ b = x.b ∧ d.clocked = true) ∧
  (let n : Fin 4 := 3
   let a : Bool := false
   let b : Bool := true
   let ec := Reg.POS_ECTL n
   let d : Dev := (dev0.setRbit (Reg.POS_ECTL n) 0 true)
   let x := d.enc n
   x.pa = none ∧ x.pb = none ∧ x.pz = none ∧ d.fld ec 7 4 = 0 ∧ d.rbit ec 0 = true ∧ d.rbit ec 1 = false ∧
     x.zAt ≠ some d.now ∧ a = x.a ∧ b ≠ x.b ∧ d.clocked = true) ∧
  (let n : Fin 4 := 3
   let a : Bool := true
   let ec := Reg.POS_ECTL n
   let d : Dev := (dev0.setRbit (Reg.POS_ECTL n) 0 true)
   let x := d.enc n
   x.pa = none ∧ x.pb = none ∧ x.pz = none ∧ d.fld ec 7 4 = 0 ∧ d.rbit ec 0 = true ∧ d.rbit ec 1 = false ∧
     a = true ∧ x.z = false ∧ d.clocked = true) ∧
  (let n : Fin 4 := 3
   let a : Bool := true
   let ec := Reg.POS_ECTL n
   let d : Dev := ((dev0.setRbit (Reg.POS_ECTL n) 0 true).setRbit (Reg.POS_ECTL n) 1 true)
   let x := d.enc n
   x.pa = none ∧ x.pb = none ∧ x.pz = none ∧ d.fld ec 7 4 = 0 ∧ d.rbit ec 0 = true ∧ d.rbit ec 1 = true ∧
     a ≠ x.a ∧ d.clocked = true) ∧
  (let n : Fin 4 := 3
   let ec := Reg.POS_ECTL n
   let d : Dev := ((dev0.setRbit (Reg.POS_ECTL n) 0 true).setRbit (Reg.POS_ECTL n) 1 true)
   d.rbit ec 0 = true ∧ d.rbit ec 1 = true ∧ d.clocked = true) ∧
  (let n : Fin 4 := 3
   let ec := Reg.POS_ECTL n
   let d : Dev := dev0
   (d.rbit ec 0 = false ∨ d.rbit ec 1 = false) ∧ d.clocked = true) ∧
  (let h : Fin 10 := 9
   let st : BitVec 3 := 6
   let d : Dev := (dev0.setFld (Reg.POS_HCTL h) 7 4 15)
   let y := d.hall h
   y.inp < 8 ∧ y.inp ≠ st.toNat ∧ (∀ i, y.since i = none) ∧ d.fld (Reg.POS_HCTL h) 7 4 ≠ 0 ∧ d.clocked = true) ∧
  (let h : Fin 10 := 9
   let st : BitVec 3 := 6
   let d : Dev := dev0
   let y := d.hall h
   y.inp < 8 ∧ y.inp ≠ st.toNat ∧ (∀ i, y.since i = none) ∧ d.fld (Reg.POS_HCTL h) 7 4 = 0 ∧
     d.rbit (Reg.POS_HCTL h) 0 = false ∧ d.clocked = true) ∧
  (let h : Fin 10 := 9
   let st : BitVec 3 := 7
   let d : Dev := (dev0.setRbit (Reg.POS_HCTL h) 0 true)
   let y := d.hall h
   y.inp < 8 ∧ y.inp ≠ st.toNat ∧ (∀ i, y.since i = none) ∧ d.fld (Reg.POS_HCTL h) 7 4 = 0 ∧
     d.rbit (Reg.POS_HCTL h) 0 = true ∧ (st = 0 ∨ st = 7) ∧ d.clocked = true) ∧
  (let h : Fin 10 := 9
   let st : BitVec 3 := 6
   let hs := Reg.POS_HSTAT h
   let d : Dev := (dev0.setRbit (Reg.POS_HCTL h) 0 true)
   let y := d.hall h
   y.inp < 8 ∧ y.inp ≠ st.toNat ∧ (∀ i, y.since i = none) ∧ d.fld (Reg.POS_HCTL h) 7 4 = 0 ∧
     d.rbit (Reg.POS_HCTL h) 0 = true ∧ st ≠ 0 ∧ st ≠ 7 ∧ d.fld hs 10 8 ≠ st.toNat ∧ d.clocked = true) ∧
  (let h : Fin 10 := 9
   let st : BitVec 3 := 6
   let hs := Reg.POS_HSTAT h
   let d : Dev := ((dev0.setRbit (Reg.POS_HCTL h) 0 true).setFld (Reg.POS_HSTAT h) 10 8 6)
   let y := d.hall h
   y.inp < 8 ∧ y.inp ≠ st.toNat ∧ (∀ i, y.since i = none) ∧ d.fld (Reg.POS_HCTL h) 7 4 = 0 ∧
     d.rbit (Reg.POS_HCTL h) 0 = true ∧ st ≠ 0 ∧ st ≠ 7 ∧ d.fld hs 10 8 = st.toNat ∧ d.clocked = true) ∧
  (let d : Dev := (dev0.setRbit Reg.CPC_CTL 0 true)
   d.rbit Reg.CPC_CTL 0 = true ∧ d.clocked = true) ∧
  (let d : Dev := dev0
   d.rbit Reg.CPC_CTL 0 = false ∧ d.clocked = true) ∧
  (let o : Fin 2 := 1
   let k : Fin 64 := 63
   let d : Dev := ((((dev0.setRbit (Reg.TB_STAT 0) 1 true).modTb 0 fun z =>
     { z with per := 0xFFFFFF }).setRbit (Reg.POS_XCTL o) 0 true).setFld (Reg.TB_CNT 0) 23 0 (63 * 0x40000))
   let on := d.rbit (Reg.POS_XCTL o) 0 = true ∨ d.rbit (Reg.POS_XSTAT o) 0 = true
   let j := d.fld (Reg.POS_XCTL o) 7 4
   let there := d.tbRuns j = true ∧ d.fld (Reg.TB_CNT j) 23 0 = k.val * ((d.tbPer j + 1) / 64)
   on ∧ there ∧ d.clocked = true) ∧
  (let o : Fin 2 := 1
   let k : Fin 64 := 1
   let d : Dev := (((dev0.setFld (Reg.TB_PER 0) 23 0 0xFFFFFF).setRbit (Reg.TB_CTL 0) 0 true).setRbit
     (Reg.POS_XCTL o) 0 true)
   let on := d.rbit (Reg.POS_XCTL o) 0 = true ∨ d.rbit (Reg.POS_XSTAT o) 0 = true
   let j := d.fld (Reg.POS_XCTL o) 7 4
   let there := d.tbRuns j = true ∧ d.fld (Reg.TB_CNT j) 23 0 = k.val * ((d.tbPer j + 1) / 64)
   (¬on ∨ ¬there) ∧ d.clocked = true) ∧
  (let n : Fin 4 := 3
   let h : Fin 10 := 9
   let u : PosUnit := .pilot
   let d : Dev := (dev0.setRbit Reg.CPC_STAT 0 true)
   let x := d.enc n
   let place : PosUnit → Nat × Nat × Nat × Nat := fun u => match u with
     | .encoder e => (Reg.POS_ECTL e, Reg.POS_ESTAT e, Reg.POS_EADDR e, 4)
     | .hall h => (Reg.POS_HCTL h, Reg.POS_HSTAT h, Reg.POS_HADDR h, 3)
     | .excitation x => (Reg.POS_XCTL x, Reg.POS_XSTAT x, 0, 2)
     | .pilot => (Reg.CPC_CTL, Reg.CPC_STAT, Reg.CPC_ADDR, 3)
   let c := (place u).1
   let r := (place u).2.1
   (d.rbit c 0 = true ∨ d.rbit r 0 = true) ∧ d.clocked = true) ∧
  (let n : Fin 4 := 3
   let h : Fin 10 := 9
   let u : PosUnit := .pilot
   let d : Dev := dev0
   let x := d.enc n
   let place : PosUnit → Nat × Nat × Nat × Nat := fun u => match u with
     | .encoder e => (Reg.POS_ECTL e, Reg.POS_ESTAT e, Reg.POS_EADDR e, 4)
     | .hall h => (Reg.POS_HCTL h, Reg.POS_HSTAT h, Reg.POS_HADDR h, 3)
     | .excitation x => (Reg.POS_XCTL x, Reg.POS_XSTAT x, 0, 2)
     | .pilot => (Reg.CPC_CTL, Reg.CPC_STAT, Reg.CPC_ADDR, 3)
   let c := (place u).1
   let r := (place u).2.1
   let beat := d.fld (place u).2.2.1 23 4 * 16
   d.rbit c 0 = false ∧ d.rbit r 0 = false ∧ (∀ x, u ≠ .excitation x) ∧ d.plainBeat beat = false ∧ d.clocked = true) ∧
  (let n : Fin 4 := 3
   let h : Fin 10 := 9
   let u : PosUnit := .pilot
   let d : Dev := ((dev0.setFld Reg.CPC_ADDR 23 4 0xFFFFF).setHank 255 ⟨16383, 0, 0, 0, true, 0, 0, 0, 0⟩)
   let x := d.enc n
   let place : PosUnit → Nat × Nat × Nat × Nat := fun u => match u with
     | .encoder e => (Reg.POS_ECTL e, Reg.POS_ESTAT e, Reg.POS_EADDR e, 4)
     | .hall h => (Reg.POS_HCTL h, Reg.POS_HSTAT h, Reg.POS_HADDR h, 3)
     | .excitation x => (Reg.POS_XCTL x, Reg.POS_XSTAT x, 0, 2)
     | .pilot => (Reg.CPC_CTL, Reg.CPC_STAT, Reg.CPC_ADDR, 3)
   let c := (place u).1
   let r := (place u).2.1
   let beat := d.fld (place u).2.2.1 23 4 * 16
   d.rbit c 0 = false ∧ d.rbit r 0 = false ∧ (∀ x, u ≠ .excitation x) ∧ d.plainBeat beat = true ∧ d.clocked = true) ∧
  (let n : Fin 4 := 3
   let h : Fin 10 := 9
   let u : PosUnit := .encoder 3
   let d : Dev := ((dev0.setFld (Reg.POS_EADDR 3) 23 4 0xFFFFF).setHank 255 ⟨16383, 0, 0, 0, true, 0, 0, 0, 0⟩)
   let x := d.enc n
   let place : PosUnit → Nat × Nat × Nat × Nat := fun u => match u with
     | .encoder e => (Reg.POS_ECTL e, Reg.POS_ESTAT e, Reg.POS_EADDR e, 4)
     | .hall h => (Reg.POS_HCTL h, Reg.POS_HSTAT h, Reg.POS_HADDR h, 3)
     | .excitation x => (Reg.POS_XCTL x, Reg.POS_XSTAT x, 0, 2)
     | .pilot => (Reg.CPC_CTL, Reg.CPC_STAT, Reg.CPC_ADDR, 3)
   let c := (place u).1
   let r := (place u).2.1
   let beat := d.fld (place u).2.2.1 23 4 * 16
   d.rbit c 0 = false ∧ d.rbit r 0 = false ∧ u = .encoder n ∧ d.plainBeat beat = true ∧ d.clocked = true) ∧
  (let n : Fin 4 := 3
   let h : Fin 10 := 9
   let u : PosUnit := .hall 9
   let d : Dev := (((dev0.setFld (Reg.POS_HADDR 9) 23 4 0xFFFFF).setHank 255 ⟨16383, 0, 0, 0, true, 0, 0, 0,
     0⟩).modHall 9 fun z => { z with inp := 6 })
   let x := d.enc n
   let y := d.hall h
   let place : PosUnit → Nat × Nat × Nat × Nat := fun u => match u with
     | .encoder e => (Reg.POS_ECTL e, Reg.POS_ESTAT e, Reg.POS_EADDR e, 4)
     | .hall h => (Reg.POS_HCTL h, Reg.POS_HSTAT h, Reg.POS_HADDR h, 3)
     | .excitation x => (Reg.POS_XCTL x, Reg.POS_XSTAT x, 0, 2)
     | .pilot => (Reg.CPC_CTL, Reg.CPC_STAT, Reg.CPC_ADDR, 3)
   let c := (place u).1
   let r := (place u).2.1
   let beat := d.fld (place u).2.2.1 23 4 * 16
   d.rbit c 0 = false ∧ d.rbit r 0 = false ∧ u = .hall h ∧ d.plainBeat beat = true ∧ 1 ≤ y.inp ∧ y.inp ≤ 6 ∧
     d.clocked = true) ∧
  (let n : Fin 4 := 3
   let h : Fin 10 := 9
   let o : Fin 2 := 1
   let u : PosUnit := .excitation 1
   let d : Dev := (dev0.setFld (Reg.TB_PER 0) 23 0 0xFFFFFF)
   let x := d.enc n
   let place : PosUnit → Nat × Nat × Nat × Nat := fun u => match u with
     | .encoder e => (Reg.POS_ECTL e, Reg.POS_ESTAT e, Reg.POS_EADDR e, 4)
     | .hall h => (Reg.POS_HCTL h, Reg.POS_HSTAT h, Reg.POS_HADDR h, 3)
     | .excitation x => (Reg.POS_XCTL x, Reg.POS_XSTAT x, 0, 2)
     | .pilot => (Reg.CPC_CTL, Reg.CPC_STAT, Reg.CPC_ADDR, 3)
   let c := (place u).1
   let r := (place u).2.1
   let j := d.fld (Reg.POS_XCTL o) 7 4
   d.rbit c 0 = false ∧ d.rbit r 0 = false ∧ u = .excitation o ∧ d.rbit (Reg.TB_CTL j) 1 = false ∧
     (d.fld (Reg.TB_PER j) 23 0 + 1) % 64 = 0 ∧ d.clocked = true) ∧
  (let n : Fin 4 := 3
   let h : Fin 10 := 9
   let o : Fin 2 := 1
   let u : PosUnit := .excitation 1
   let d : Dev := (dev0.setFld (Reg.TB_PER 0) 23 0 62)
   let x := d.enc n
   let place : PosUnit → Nat × Nat × Nat × Nat := fun u => match u with
     | .encoder e => (Reg.POS_ECTL e, Reg.POS_ESTAT e, Reg.POS_EADDR e, 4)
     | .hall h => (Reg.POS_HCTL h, Reg.POS_HSTAT h, Reg.POS_HADDR h, 3)
     | .excitation x => (Reg.POS_XCTL x, Reg.POS_XSTAT x, 0, 2)
     | .pilot => (Reg.CPC_CTL, Reg.CPC_STAT, Reg.CPC_ADDR, 3)
   let c := (place u).1
   let r := (place u).2.1
   let j := d.fld (Reg.POS_XCTL o) 7 4
   d.rbit c 0 = false ∧ d.rbit r 0 = false ∧ u = .excitation o ∧
     (d.rbit (Reg.TB_CTL j) 1 = true ∨ (d.fld (Reg.TB_PER j) 23 0 + 1) % 64 ≠ 0) ∧ d.clocked = true) := by
  refine ⟨?_, ?_, ?_, ?_, ?_, ?_, ?_, ?_, ?_, ?_, ?_, ?_, ?_, ?_, ?_, ?_, ?_, ?_, ?_, ?_, ?_, ?_, ?_, ?_, ?_, ?_, ?_⟩
  · decide +kernel
  · decide +kernel
  · decide +kernel
  · decide +kernel
  · decide +kernel
  · decide +kernel
  · decide +kernel
  · decide +kernel
  · decide +kernel
  · decide +kernel
  · decide +kernel
  · simp -zeta only [since_iff]; decide +kernel
  · simp -zeta only [since_iff]; decide +kernel
  · simp -zeta only [since_iff]; decide +kernel
  · simp -zeta only [since_iff]; decide +kernel
  · simp -zeta only [since_iff]; decide +kernel
  · decide +kernel
  · decide +kernel
  · decide +kernel
  · decide +kernel
  · decide +kernel
  · decide +kernel
  · decide +kernel
  · decide +kernel
  · decide +kernel
  · decide +kernel
  · decide +kernel

theorem witness_SequencerPeriod :
  (let f : Fin 32 := 31
   let s : State := ⟨dev0, []⟩
   (s.dev.fnEntry f = none ∨ (s.dev.fn f).desc = none)) ∧
  (let f : Fin 32 := 31
   let o : SeqObs := { obs0 with committed := false }
   let x : FnEntry := entry0
   let k : FnDesc := desc0
   let a := x.cmdl.toNat
   let d : Dev := (fnDev k)
   d.fnEntry f = some x ∧ d.quiet ∧ a % 16 = 0 ∧ (d.fn f).desc = some k ∧ d.isCut (d.fnReq x) = false ∧
     (∀ i < 4, d.ecc (a + 4 * i) = .good) ∧ o.committed = false ∧ d.clocked = true) ∧
  (let f : Fin 32 := 31
   let o : SeqObs := { obs0 with committed := true }
   let x : FnEntry := entry0
   let k : FnDesc := desc0
   let a := x.cmdl.toNat
   let d : Dev := (fnDev k)
   d.fnEntry f = some x ∧ d.quiet ∧ a % 16 = 0 ∧ (d.fn f).desc = some k ∧ d.isCut (d.fnReq x) = false ∧
     (∀ i < 4, d.ecc (a + 4 * i) = .good) ∧ o.committed = true ∧ d.clocked = true) ∧
  (let f : Fin 32 := 31
   let x : FnEntry := entry0
   let a := x.cmdl.toNat
   let d : Dev := (fnDev desc0)
   d.fnEntry f = some x ∧ d.quiet ∧ a % 4 = 0 ∧ (∀ g < 32, g ≠ f.val → d.fnEntry g = none) ∧ d.pl.rules = [] ∧
     (d.reg Reg.GPIO_DIR &&& d.reg Reg.GPIO_MSEL = 0) ∧ d.storeRefusal reqDistaff (a + 8) 4 false = none ∧
     d.blockedLine reqDistaff (a + 8) 4 = none ∧ d.clocked = true) := by
  refine ⟨?_, ?_, ?_, ?_⟩
  · decide +kernel
  · simp -zeta only [quiet_iff]; decide +kernel
  · simp -zeta only [quiet_iff]; decide +kernel
  · simp -zeta only [quiet_iff]; decide +kernel

theorem witness_MotorEvents :
  (let f : Fin 32 := 31
   let vline : Nat := 9
   let vbus : Int := 10
   let ent : FnEntry := entry0
   let k : FnDesc := desc0
   let d : Dev := ((fnDev k).modFn f fun z => { z with st := 1 })
   let x := d.fn f
   d.fnEntry f = some ent ∧ x.desc = some k ∧ k.kind = .motor ∧ d.quiet ∧ x.st = 1 ∧ x.recatch = false ∧
     9 * vbus ≤ 10 * (vline : Int) ∧ d.clocked = true) ∧
  (let f : Fin 32 := 31
   let obs : Option PrimObs := (none : Option PrimObs)
   let vline : Nat := 9
   let vbus : Int := 11
   let ent : FnEntry := entry0
   let k : FnDesc := desc0
   let d : Dev := ((fnDev k).modFn f fun z => { z with st := 1, timer := 2000000 })
   let x := d.fn f
   let prim := d.primSpeed k obs
   d.fnEntry f = some ent ∧ x.desc = some k ∧ k.kind = .motor ∧ d.quiet ∧ x.st = 1 ∧ x.recatch = false ∧
     10 * (vline : Int) < 9 * vbus ∧ catchDone k x prim = true ∧ d.clocked = true) ∧
  (let f : Fin 32 := 31
   let obs : Option PrimObs := (none : Option PrimObs)
   let vline : Nat := 9
   let vbus : Int := 11
   let ent : FnEntry := entry0
   let k : FnDesc := desc0
   let d : Dev := ((fnDev k).modFn f fun z => { z with st := 1 })
   let x := d.fn f
   let prim := d.primSpeed k obs
   d.fnEntry f = some ent ∧ x.desc = some k ∧ k.kind = .motor ∧ d.quiet ∧ x.st = 1 ∧ x.recatch = false ∧
     10 * (vline : Int) < 9 * vbus ∧ catchDone k x prim = false ∧ d.clocked = true) ∧
  (let f : Fin 32 := 31
   let v : Int := -9
   let ent : FnEntry := entry0
   let k : FnDesc := desc0
   let d : Dev := ((fnDev k).modFn f fun z => { z with st := 6 })
   let x := d.fn f
   d.fnEntry f = some ent ∧ x.desc = some k ∧ k.kind = .motor ∧ d.quiet ∧ x.st = 6 ∧ x.c.brkOff = 0 ∧
     v.natAbs < k.wr k.nzero ∧ d.clocked = true) ∧
  (let f : Fin 32 := 31
   let v : Int := -10
   let ent : FnEntry := entry0
   let k : FnDesc := desc0
   let d : Dev := ((fnDev k).modFn f fun z => { z with st := 6, timer := 7 })
   let x := d.fn f
   d.fnEntry f = some ent ∧ x.desc = some k ∧ k.kind = .motor ∧ d.quiet ∧ x.st = 6 ∧ x.c.brkOff = 0 ∧
     k.wr k.nzero ≤ v.natAbs ∧ k.tbrk ≤ x.timer ∧ d.clocked = true) ∧
  (let f : Fin 32 := 31
   let v : Int := 10
   let ent : FnEntry := entry0
   let k : FnDesc := desc0
   let d : Dev := ((fnDev k).modFn f fun z => { z with st := 6, timer := 6 })
   let x := d.fn f
   d.fnEntry f = some ent ∧ x.desc = some k ∧ k.kind = .motor ∧ d.quiet ∧ x.st = 6 ∧ x.c.brkOff = 0 ∧
     k.wr k.nzero ≤ v.natAbs ∧ x.timer < k.tbrk ∧ d.clocked = true) ∧
  (let f : Fin 32 := 31
   let ent : FnEntry := entry0
   let k : FnDesc := desc0
   let d : Dev := ((fnDev k).modFn f fun z => { z with st := 2, timer := 3 })
   let x := d.fn f
   d.fnEntry f = some ent ∧ x.desc = some k ∧ k.kind = .motor ∧ d.quiet ∧ x.st = 2 ∧ k.tal ≤ x.timer ∧
     d.clocked = true) ∧
  (let f : Fin 32 := 31
   let ent : FnEntry := entry0
   let k : FnDesc := desc0
   let d : Dev := ((fnDev k).modFn f fun z => { z with st := 2, timer := 2 })
   let x := d.fn f
   d.fnEntry f = some ent ∧ x.desc = some k ∧ k.kind = .motor ∧ d.quiet ∧ x.st = 2 ∧ x.timer < k.tal ∧
     d.clocked = true) ∧
  (let f : Fin 32 := 31
   let ent : FnEntry := entry0
   let k : FnDesc := desc0
   let d : Dev := ((fnDev k).modFn f fun z =>
     { z with st := 3, wi := 50, speed := 45, c := { z.c with valid := true, hoN := 1 } })
   let x := d.fn f
   d.fnEntry f = some ent ∧ x.desc = some k ∧ k.kind = .motor ∧ d.quiet ∧ (x.st = 3 ∨ (x.st = 5 ∧
     x.openLoop = true ∧ x.run = true)) ∧ handsOver k x = true ∧ k.nhop ≤ x.c.hoN ∧ d.clocked = true) ∧
  (let f : Fin 32 := 31
   let ent : FnEntry := entry0
   let k : FnDesc := desc0
   let d : Dev := ((fnDev k).modFn f fun z =>
     { z with st := 3, wi := 50, speed := 44, c := { z.c with valid := true, hoN := 1 } })
   let x := d.fn f
   d.fnEntry f = some ent ∧ x.desc = some k ∧ k.kind = .motor ∧ d.quiet ∧ (x.st = 3 ∨ (x.st = 5 ∧
     x.openLoop = true ∧ x.run = true)) ∧ (handsOver k x = false ∨ x.c.hoN < k.nhop) ∧ d.clocked = true) ∧
  (let f : Fin 32 := 31
   let ent : FnEntry := entry0
   let k : FnDesc := desc0
   let d : Dev := ((fnDev k).modFn f fun z => { z with st := 3, wi := 50, c := { z.c with nhoN := 1 } })
   let x := d.fn f
   d.fnEntry f = some ent ∧ x.desc = some k ∧ k.kind = .motor ∧ d.quiet ∧ x.st = 3 ∧ x.atNho k = true ∧
     k.thof ≤ x.c.nhoN ∧ d.clocked = true) ∧
  (let f : Fin 32 := 31
   let ent : FnEntry := entry0
   let k : FnDesc := desc0
   let d : Dev := ((fnDev k).modFn f fun z => { z with st := 3, wi := 49, c := { z.c with nhoN := 1 } })
   let x := d.fn f
   d.fnEntry f = some ent ∧ x.desc = some k ∧ k.kind = .motor ∧ d.quiet ∧ x.st = 3 ∧
     (x.atNho k = false ∨ x.c.nhoN < k.thof) ∧ d.clocked = true) ∧
  (let f : Fin 32 := 31
   let v : Int := -7
   let ent : FnEntry := entry0
   let k : FnDesc := desc0
   let d : Dev := ((fnDev k).modFn f fun z => { z with st := 5, c := { z.c with stopN := 1 } })
   let x := d.fn f
   let stands := if x.openLoop then x.wi = 0 else v.natAbs < k.wr k.nstop ∧ k.tstop ≤ x.c.stopN
   d.fnEntry f = some ent ∧ x.desc = some k ∧ k.kind = .motor ∧ d.quiet ∧ x.st = 5 ∧ x.run = false ∧ stands ∧
     d.clocked = true) ∧
  (let f : Fin 32 := 31
   let v : Int := 0
   let ent : FnEntry := entry0
   let k : FnDesc := desc0
   let d : Dev := ((fnDev k).modFn f fun z => { z with st := 5, openLoop := true, wi := 1 })
   let x := d.fn f
   let stands := if x.openLoop then x.wi = 0 else v.natAbs < k.wr k.nstop ∧ k.tstop ≤ x.c.stopN
   d.fnEntry f = some ent ∧ x.desc = some k ∧ k.kind = .motor ∧ d.quiet ∧ x.st = 5 ∧ (x.run = true ∨ ¬stands) ∧
     d.clocked = true) ∧
  (let f : Fin 32 := 31
   let ent : FnEntry := entry0
   let k : FnDesc := desc0
   let d : Dev := ((fnDev k).modFn f fun z => { z with st := 4, c := { z.c with lossDue := true } })
   let x := d.fn f
   d.fnEntry f = some ent ∧ x.desc = some k ∧ k.kind = .motor ∧ d.quiet ∧ x.st = 4 ∧ d.outranked f ent k = true ∧
     d.clocked = true) ∧
  (let f : Fin 32 := 31
   let v : Int := -29
   let ent : FnEntry := entry0
   let k : FnDesc := descO
   let d : Dev := ((fnDev k).modFn f fun z => { z with st := 4, tq := -41 })
   let x := d.fn f
   let low := k.sensorless = true ∧ x.c.valid = false ∧ v.natAbs < k.wr k.nol
   let locked := (k.tqlk < x.tq.natAbs ∧ low) ∨ (k.tlock ≤ x.c.stillN ∧ 0 < x.c.stillN)
   d.fnEntry f = some ent ∧ x.desc = some k ∧ k.kind = .motor ∧ d.quiet ∧ x.st = 4 ∧ d.outranked f ent k = false ∧
     locked ∧ d.clocked = true) ∧
  (let f : Fin 32 := 31
   let v : Int := -29
   let ent : FnEntry := entry0
   let k : FnDesc := descO
   let d : Dev := ((fnDev k).modFn f fun z => { z with st := 4, tq := -40 })
   let x := d.fn f
   let low := k.sensorless = true ∧ x.c.valid = false ∧ v.natAbs < k.wr k.nol
   let locked := (k.tqlk < x.tq.natAbs ∧ low) ∨ (k.tlock ≤ x.c.stillN ∧ 0 < x.c.stillN)
   d.fnEntry f = some ent ∧ x.desc = some k ∧ k.kind = .motor ∧ d.quiet ∧ x.st = 4 ∧ d.outranked f ent k = false ∧
     ¬locked ∧ low ∧ d.clocked = true) ∧
  (let f : Fin 32 := 31
   let v : Int := 0
   let ent : FnEntry := entry0
   let k : FnDesc := desc0
   let d : Dev := ((fnDev k).modFn f fun z => { z with st := 4 })
   let x := d.fn f
   let low := k.sensorless = true ∧ x.c.valid = false ∧ v.natAbs < k.wr k.nol
   let locked := (k.tqlk < x.tq.natAbs ∧ low) ∨ (k.tlock ≤ x.c.stillN ∧ 0 < x.c.stillN)
   d.fnEntry f = some ent ∧ x.desc = some k ∧ k.kind = .motor ∧ d.quiet ∧ x.st = 4 ∧ d.outranked f ent k = false ∧
     ¬locked ∧ ¬low ∧ d.clocked = true) ∧
  (let f : Fin 32 := 31
   let es : List (Int × Int) := ([(1001, 0)] : List (Int × Int))
   let ent : FnEntry := entry0
   let k : FnDesc := descO
   let d : Dev := ((fnDev k).modFn f fun z => { z with st := 4, speed := -30 })
   let x := d.fn f
   d.fnEntry f = some ent ∧ x.desc = some k ∧ k.kind = .motor ∧ d.quiet ∧ losableOf k x = true ∧
     (x.c.executes k es).2 = true ∧ x.c.lossDue = false ∧ d.clocked = true) ∧
  (let f : Fin 32 := 31
   let es : List (Int × Int) := ([(2, 0)] : List (Int × Int))
   let ent : FnEntry := entry0
   let k : FnDesc := descO
   let d : Dev := ((fnDev k).modFn f fun z => { z with st := 4, speed := -29 })
   let x := d.fn f
   d.fnEntry f = some ent ∧ x.desc = some k ∧ k.kind = .motor ∧ d.quiet ∧
     (losableOf k x = false ∨ (x.c.executes k es).2 = false ∨ x.c.lossDue = true) ∧ d.clocked = true) ∧
  (let f : Fin 32 := 31
   let es : List (Int × Int) := ([(5, 1)] : List (Int × Int))
   let ent : FnEntry := entry0
   let k : FnDesc := desc0
   let d : Dev := ((fnDev k).modFn f fun z => { z with st := 1, recatch := true, timer := 1 })
   let x := d.fn f
   let there := if x.c.asc then k.mo.tasc + k.per 1000 ≤ x.timer else k.per 1500 ≤ x.timer
   d.fnEntry f = some ent ∧ x.desc = some k ∧ k.kind = .motor ∧ d.quiet ∧ x.st = 1 ∧ x.recatch = true ∧ es ≠ [] ∧
     there ∧ d.clocked = true) ∧
  (let f : Fin 32 := 31
   let es : List (Int × Int) := ([(5, 1)] : List (Int × Int))
   let ent : FnEntry := entry0
   let k : FnDesc := desc0
   let d : Dev := ((fnDev k).modFn f fun z => { z with st := 1, recatch := true, timer := 0 })
   let x := d.fn f
   let there := if x.c.asc then k.mo.tasc + k.per 1000 ≤ x.timer else k.per 1500 ≤ x.timer
   d.fnEntry f = some ent ∧ x.desc = some k ∧ k.kind = .motor ∧ d.quiet ∧ x.st = 1 ∧ x.recatch = true ∧
     (es = [] ∨ ¬there) ∧ d.clocked = true) ∧
  (let f : Fin 32 := 31
   let ent : FnEntry := entry0
   let k : FnDesc := desc0
   let d : Dev := ((fnDev k).modFn f fun z => { z with st := 1, recatch := true, c := { z.c with recN := 1 } })
   let x := d.fn f
   d.fnEntry f = some ent ∧ x.desc = some k ∧ k.kind = .motor ∧ d.quiet ∧ x.st = 1 ∧ x.recatch = true ∧
     k.per 20000 ≤ x.c.recN ∧ d.clocked = true) ∧
  (let f : Fin 32 := 31
   let ent : FnEntry := entry0
   let k : FnDesc := desc0
   let d : Dev := ((fnDev k).modFn f fun z => { z with st := 1, recatch := true })
   let x := d.fn f
   d.fnEntry f = some ent ∧ x.desc = some k ∧ k.kind = .motor ∧ d.quiet ∧ x.st = 1 ∧ x.recatch = true ∧
     x.c.recN < k.per 20000 ∧ d.clocked = true) ∧
  (let f : Fin 32 := 31
   let ent : FnEntry := entry0
   let k : FnDesc := desc0
   let d : Dev := (fnDev k)
   let x := d.fn f
   d.fnEntry f = some ent ∧ x.desc = some k ∧ k.kind = .motor ∧ d.quiet ∧ x.st = 0 ∧ d.clocked = true) ∧
  (let f : Fin 32 := 31
   let ent : FnEntry := entry0
   let k : FnDesc := desc0
   let d : Dev := ((fnDev k).modFn f fun z => { z with st := 4, c := { z.c with sub := some 5 } })
   let x := d.fn f
   d.fnEntry f = some ent ∧ x.desc = some k ∧ k.kind = .motor ∧ d.quiet ∧ x.quiet = false ∧
     slotLostOf k x = true ∧ d.clocked = true) ∧
  (let f : Fin 32 := 31
   let sums : List Nat := ([0, 0, 0] : List Nat)
   let ent : FnEntry := entry0
   let k : FnDesc := desc0
   let d : Dev := ((fnDev k).modFn f fun z => { z with st := 4 })
   let x := d.fn f
   let pos := d.posFails k x sums = true ∧ x.flag 16 = false
   d.fnEntry f = some ent ∧ x.desc = some k ∧ k.kind = .motor ∧ d.quiet ∧ x.quiet = false ∧
     slotLostOf k x = false ∧ pos ∧ d.clocked = true) ∧
  (let f : Fin 32 := 31
   let sums : List Nat := ([] : List Nat)
   let seqs : List Nat := ([7, 7, 7, 7] : List Nat)
   let codes : SlotCodes := (⟨0, []⟩ : SlotCodes)
   let ent : FnEntry := entry0
   let k : FnDesc := desc0
   let d : Dev := ((fnDev k).modFn f fun z => { z with st := 4 })
   let x := d.fn f
   let pos := d.posFails k x sums = true ∧ x.flag 16 = false
   let cur := slotFails k codes seqs = true ∧ x.c.sub = none
   d.fnEntry f = some ent ∧ x.desc = some k ∧ k.kind = .motor ∧ d.quiet ∧ x.quiet = false ∧
     slotLostOf k x = false ∧ ¬pos ∧ cur ∧ d.clocked = true) ∧
  (let f : Fin 32 := 31
   let sums : List Nat := ([] : List Nat)
   let seqs : List Nat := ([7, 7, 7] : List Nat)
   let codes : SlotCodes := (⟨0, []⟩ : SlotCodes)
   let ent : FnEntry := entry0
   let k : FnDesc := desc0
   let d : Dev := ((fnDev k).modFn f fun z => { z with st := 4, c := { z.c with sub := some (4, 0) } })
   let x := d.fn f
   let pos := d.posFails k x sums = true ∧ x.flag 16 = false
   let cur := slotFails k codes seqs = true ∧ x.c.sub = none
   d.fnEntry f = some ent ∧ x.desc = some k ∧ k.kind = .motor ∧ d.quiet ∧ x.quiet = false ∧
     slotLostOf k x = false ∧ ¬pos ∧ ¬cur ∧ d.clocked = true) := by
  refine ⟨?_, ?_, ?_, ?_, ?_, ?_, ?_, ?_, ?_, ?_, ?_, ?_, ?_, ?_, ?_, ?_, ?_, ?_, ?_, ?_, ?_, ?_, ?_, ?_, ?_, ?_,
    ?_, ?_, ?_⟩
  · simp -zeta only [quiet_iff]; decide +kernel
  · simp -zeta only [quiet_iff]; decide +kernel
  · simp -zeta only [quiet_iff]; decide +kernel
  · simp -zeta only [quiet_iff]; decide +kernel
  · simp -zeta only [quiet_iff]; decide +kernel
  · simp -zeta only [quiet_iff]; decide +kernel
  · simp -zeta only [quiet_iff]; decide +kernel
  · simp -zeta only [quiet_iff]; decide +kernel
  · simp -zeta only [quiet_iff]; decide +kernel
  · simp -zeta only [quiet_iff]; decide +kernel
  · simp -zeta only [quiet_iff]; decide +kernel
  · simp -zeta only [quiet_iff]; decide +kernel
  · simp -zeta only [quiet_iff]; decide +kernel
  · simp -zeta only [quiet_iff]; decide +kernel
  · simp -zeta only [quiet_iff]; decide +kernel
  · simp -zeta only [quiet_iff]; decide +kernel
  · simp -zeta only [quiet_iff]; decide +kernel
  · simp -zeta only [quiet_iff]; decide +kernel
  · simp -zeta only [Dev.executes, quiet_iff]; decide +kernel
  · simp -zeta only [Dev.executes, quiet_iff]; decide +kernel
  · simp -zeta only [quiet_iff]; decide +kernel
  · simp -zeta only [quiet_iff]; decide +kernel
  · simp -zeta only [quiet_iff]; decide +kernel
  · simp -zeta only [quiet_iff]; decide +kernel
  · simp -zeta only [quiet_iff]; decide +kernel
  · simp -zeta only [quiet_iff]; decide +kernel
  · simp -zeta only [quiet_iff]; decide +kernel
  · simp -zeta only [quiet_iff]; decide +kernel
  · simp -zeta only [quiet_iff]; decide +kernel

theorem witness_ConverterAndActuatorEvents :
  (let f : Fin 32 := 31
   let p1 : Nat := 500
   let p2 : Nat := 1000
   let p3 : Nat := 1000
   let ent : FnEntry := entry0
   let k : FnDesc := { desc0 with kind := .grid, vglo := 2 ^ 31 / 2, vghi := 2 ^ 31 }
   let three := inWindow k p1 = true ∧ inWindow k p2 = true ∧ inWindow k p3 = true
   let d : Dev := ((fnDev k).modFn f fun z => { z with st := 1, timer := 1 })
   let x := d.fn f
   d.fnEntry f = some ent ∧ x.desc = some k ∧ d.quiet ∧ k.kind = .grid ∧ x.st = 1 ∧ k.bothTopologies = true ∧
     k.per 40000 ≤ x.timer ∧ three ∧ d.clocked = true) ∧
  (let f : Fin 32 := 31
   let p1 : Nat := 500
   let p2 : Nat := 99
   let p3 : Nat := 99
   let ent : FnEntry := entry0
   let k : FnDesc := { desc0 with kind := .grid, vglo := 2 ^ 31 / 2, vghi := 2 ^ 31 }
   let three := inWindow k p1 = true ∧ inWindow k p2 = true ∧ inWindow k p3 = true
   let single := inWindow k p1 = true ∧ 10 * p2 < k.vgn ∧ 10 * p3 < k.vgn
   let d : Dev := ((fnDev k).modFn f fun z => { z with st := 1, timer := 1 })
   let x := d.fn f
   d.fnEntry f = some ent ∧ x.desc = some k ∧ d.quiet ∧ k.kind = .grid ∧ x.st = 1 ∧ k.bothTopologies = true ∧
     k.per 40000 ≤ x.timer ∧ ¬three ∧ single ∧ d.clocked = true) ∧
  (let f : Fin 32 := 31
   let p1 : Nat := 499
   let p2 : Nat := 0
   let p3 : Nat := 0
   let ent : FnEntry := entry0
   let k : FnDesc := { desc0 with kind := .grid, vglo := 2 ^ 31 / 2, vghi := 2 ^ 31 }
   let three := inWindow k p1 = true ∧ inWindow k p2 = true ∧ inWindow k p3 = true
   let single := inWindow k p1 = true ∧ 10 * p2 < k.vgn ∧ 10 * p3 < k.vgn
   let d : Dev := ((fnDev k).modFn f fun z => { z with st := 1, timer := 1 })
   let x := d.fn f
   d.fnEntry f = some ent ∧ x.desc = some k ∧ d.quiet ∧ k.kind = .grid ∧ x.st = 1 ∧ k.bothTopologies = true ∧
     k.per 40000 ≤ x.timer ∧ ¬three ∧ ¬single ∧ d.clocked = true) ∧
  (let f : Fin 32 := 31
   let ent : FnEntry := entry0
   let k : FnDesc := { desc0 with kind := .grid, vglo := 2 ^ 31 / 2, vghi := 2 ^ 31 }
   let d : Dev := ((fnDev k).modFn f fun z => { z with st := 1, timer := 0 })
   let x := d.fn f
   d.fnEntry f = some ent ∧ x.desc = some k ∧ d.quiet ∧
     (k.kind ≠ .grid ∨ x.st ≠ 1 ∨ k.bothTopologies = false ∨ x.timer < k.per 40000) ∧ d.clocked = true) ∧
  (let f : Fin 32 := 31
   let pos : Int := 0
   let es : List (Int × Int) := ([(2 ^ 31, 0), (42949672, 20)] : List (Int × Int))
   let ent : FnEntry := entry0
   let k : FnDesc := { desc0 with kind := .grid, vglo := 2 ^ 31 / 2, vghi := 2 ^ 31 }
   let ys := es.reverse.take k.nlock
   let due := ys ≠ [] ∧ k.nlock ≤ es.length
   let d : Dev := (fnDev k)
   let x := d.fn f
   let y : Fn := { x with pos := pos }
   d.fnEntry f = some ent ∧ x.desc = some k ∧ d.quiet ∧ k.kind = .grid ∧ due ∧ (∀ y ∈ ys, locks k y = true) ∧
     d.clocked = true) ∧
  (let f : Fin 32 := 31
   let pos : Int := 0
   let es : List (Int × Int) := ([(42949673, 20)] : List (Int × Int))
   let ent : FnEntry := entry0
   let k : FnDesc := { desc0 with kind := .grid, vglo := 2 ^ 31 / 2, vghi := 2 ^ 31 }
   let ys := es.reverse.take k.nlock
   let due := ys ≠ [] ∧ k.nlock ≤ es.length
   let d : Dev := (fnDev k)
   let x := d.fn f
   let y : Fn := { x with pos := pos }
   d.fnEntry f = some ent ∧ x.desc = some k ∧ d.quiet ∧ k.kind = .grid ∧ due ∧ (∀ y ∈ ys, locks k y = false) ∧
     d.clocked = true) ∧
  (let f : Fin 32 := 31
   let pos : Int := 0
   let es : List (Int × Int) := ([] : List (Int × Int))
   let ent : FnEntry := entry0
   let k : FnDesc := { desc0 with kind := .grid, vglo := 2 ^ 31 / 2, vghi := 2 ^ 31 }
   let ys := es.reverse.take k.nlock
   let due := ys ≠ [] ∧ k.nlock ≤ es.length
   let d : Dev := (fnDev k)
   let x := d.fn f
   let y : Fn := { x with pos := pos }
   d.fnEntry f = some ent ∧ x.desc = some k ∧ d.quiet ∧ k.kind = .grid ∧ (¬due ∨ ((∃ y ∈ ys, locks k y = true) ∧
     ∃ y ∈ ys, locks k y = false)) ∧ d.clocked = true) ∧
  (let f : Fin 32 := 31
   let ent : FnEntry := entry0
   let k : FnDesc := { desc0 with kind := .grid, vglo := 2 ^ 31 / 2, vghi := 2 ^ 31 }
   let d : Dev := ((fnDev k).modFn f fun z => { z with st := 1, timer := 6 })
   let x := d.fn f
   d.fnEntry f = some ent ∧ x.desc = some k ∧ d.quiet ∧ k.kind = .grid ∧ x.st = 1 ∧ x.resync = false ∧
     k.tpre ≤ x.timer ∧ d.clocked = true) ∧
  (let f : Fin 32 := 31
   let ent : FnEntry := entry0
   let k : FnDesc := { desc0 with kind := .grid, vglo := 2 ^ 31 / 2, vghi := 2 ^ 31 }
   let d : Dev := ((fnDev k).modFn f fun z => { z with st := 1, timer := 5 })
   let x := d.fn f
   d.fnEntry f = some ent ∧ x.desc = some k ∧ d.quiet ∧ k.kind = .grid ∧
     (x.timer < k.tpre ∨ x.resync = true ∨ x.st ≠ 1) ∧ d.clocked = true) ∧
  (let f : Fin 32 := 31
   let ent : FnEntry := entry0
   let k : FnDesc := { desc0 with kind := .grid, vglo := 2 ^ 31 / 2, vghi := 2 ^ 31 }
   let d : Dev := ((fnDev k).modFn f fun z => { z with st := 4, c := { z.c with outN := 3 } })
   let x := d.fn f
   d.fnEntry f = some ent ∧ x.desc = some k ∧ d.quiet ∧ k.kind = .grid ∧ (x.st = 3 ∨ x.st = 4) ∧ 0 < x.c.outN ∧
     k.cv.tgrid ≤ x.c.outN ∧ d.clocked = true) ∧
  (let f : Fin 32 := 31
   let ent : FnEntry := entry0
   let k : FnDesc := { desc0 with kind := .grid, vglo := 2 ^ 31 / 2, vghi := 2 ^ 31 }
   let d : Dev := ((fnDev k).modFn f fun z => { z with st := 4, c := { z.c with outN := 2 } })
   let x := d.fn f
   d.fnEntry f = some ent ∧ x.desc = some k ∧ d.quiet ∧ k.kind = .grid ∧ ((x.st ≠ 3 ∧
     x.st ≠ 4) ∨ x.c.outN = 0 ∨ x.c.outN < k.cv.tgrid) ∧ d.clocked = true) ∧
  (let f : Fin 32 := 31
   let ent : FnEntry := entry0
   let k : FnDesc := { desc0 with kind := .grid, vglo := 2 ^ 31 / 2, vghi := 2 ^ 31 }
   let d : Dev := ((fnDev k).modFn f fun z => { z with st := 1, resync := true, c := { z.c with inN := 3 } })
   let x := d.fn f
   d.fnEntry f = some ent ∧ x.desc = some k ∧ d.quiet ∧ k.kind = .grid ∧
     (x.st ≠ 1 ∨ x.resync = false ∨ x.c.inN = 0 ∨ x.c.inN < k.cv.tresync) ∧ d.clocked = true) ∧
  (let f : Fin 32 := 31
   let ent : FnEntry := entry0
   let k : FnDesc := { desc0 with kind := .grid, vglo := 2 ^ 31 / 2, vghi := 2 ^ 31 }
   let d : Dev := ((fnDev k).modFn f fun z => { z with st := 1, resync := true, c := { z.c with inN := 4 } })
   let x := d.fn f
   d.fnEntry f = some ent ∧ x.desc = some k ∧ d.quiet ∧ k.kind = .grid ∧ x.st = 1 ∧ x.resync = true ∧
     0 < x.c.inN ∧ k.cv.tresync ≤ x.c.inN ∧ d.clocked = true) ∧
  (let f : Fin 32 := 31
   let v : Int := 9
   let ent : FnEntry := entry0
   let k : FnDesc := { desc0 with kind := .bridge }
   let d : Dev := (fnDev k)
   let x := d.fn f
   d.fnEntry f = some ent ∧ x.desc = some k ∧ d.quiet ∧ k.kind = .bridge ∧ v < k.isrlo ∧ d.clocked = true) ∧
  (let f : Fin 32 := 31
   let v : Int := 21
   let ent : FnEntry := entry0
   let k : FnDesc := { desc0 with kind := .bridge }
   let d : Dev := (fnDev k)
   let x := d.fn f
   d.fnEntry f = some ent ∧ x.desc = some k ∧ d.quiet ∧ k.kind = .bridge ∧ k.isrlo ≤ v ∧ k.isrhi < v ∧
     d.clocked = true) ∧
  (let f : Fin 32 := 31
   let v : Int := 20
   let ent : FnEntry := entry0
   let k : FnDesc := { desc0 with kind := .bridge }
   let d : Dev := (fnDev k)
   let x := d.fn f
   d.fnEntry f = some ent ∧ x.desc = some k ∧ d.quiet ∧ k.kind = .bridge ∧ k.isrlo ≤ v ∧ v ≤ k.isrhi ∧
     d.clocked = true) ∧
  (let f : Fin 32 := 31
   let ent : FnEntry := entry0
   let k : FnDesc := { desc0 with charging := true }
   let d : Dev := ((fnDev k).modFn f fun z => { z with st := 4, c := { z.c with pilotBad := 1 } })
   let x := d.fn f
   d.fnEntry f = some ent ∧ x.desc = some k ∧ d.quiet ∧ k.charging = true ∧ 0 < x.c.pilotBad ∧
     k.per 3000 ≤ x.c.pilotBad ∧ (x.st = 3 ∨ x.st = 4) ∧ d.clocked = true) ∧
  (let f : Fin 32 := 31
   let ent : FnEntry := entry0
   let k : FnDesc := { desc0 with charging := true }
   let d : Dev := ((fnDev k).modFn f fun z => { z with st := 5, c := { z.c with pilotBad := 1 } })
   let x := d.fn f
   d.fnEntry f = some ent ∧ x.desc = some k ∧ d.quiet ∧ k.charging = true ∧ 0 < x.c.pilotBad ∧
     k.per 3000 ≤ x.c.pilotBad ∧ x.st = 5 ∧ d.clocked = true) ∧
  (let f : Fin 32 := 31
   let ent : FnEntry := entry0
   let k : FnDesc := { desc0 with charging := true }
   let d : Dev := (fnDev k)
   let x := d.fn f
   d.fnEntry f = some ent ∧ x.desc = some k ∧ d.quiet ∧ k.charging = true ∧
     (x.c.pilotBad = 0 ∨ x.c.pilotBad < k.per 3000) ∧ d.clocked = true) ∧
  (let f : Fin 32 := 31
   let ent : FnEntry := entry0
   let k : FnDesc := { desc0 with charging := true }
   let d : Dev := ((fnDev k).modFn f fun z => { z with st := 5, c := { z.c with battIn := true, battN := 2 } })
   let x := d.fn f
   d.fnEntry f = some ent ∧ x.desc = some k ∧ d.quiet ∧ k.charging = true ∧ d.chargeGate k x = false ∧
     (x.st = 3 ∨ x.st = 4 ∨ x.st = 5) ∧ d.clocked = true) ∧
  (let f : Fin 32 := 31
   let ent : FnEntry := entry0
   let k : FnDesc := { desc0 with charging := true }
   let d : Dev := ((fnDev k).modFn f fun z => { z with c := { z.c with battIn := true, battN := 1 } })
   let x := d.fn f
   d.fnEntry f = some ent ∧ x.desc = some k ∧ d.quiet ∧ k.charging = true ∧ d.chargeGate k x = true ∧
     d.clocked = true) ∧
  (let f : Fin 32 := 31
   let ent : FnEntry := entry0
   let k : FnDesc := desc0
   let d : Dev := (fnDev k)
   let x := d.fn f
   d.fnEntry f = some ent ∧ x.desc = some k ∧ d.quiet ∧ (k.charging = false ∨ (x.st ≠ 3 ∧ x.st ≠ 4 ∧ x.st ≠ 5)) ∧
     d.clocked = true) ∧
  (let f : Fin 32 := 31
   let ent : FnEntry := entry0
   let k : FnDesc := { desc0 with kind := .actuator }
   let d : Dev := ((fnDev k).modFn f fun z => { z with st := 4, c := { z.c with arrN := 10 } })
   let x := d.fn f
   d.fnEntry f = some ent ∧ x.desc = some k ∧ d.quiet ∧ k.kind = .actuator ∧ x.st = 4 ∧ 10 ≤ x.c.arrN ∧
     d.clocked = true) ∧
  (let f : Fin 32 := 31
   let ent : FnEntry := entry0
   let k : FnDesc := { desc0 with kind := .actuator }
   let d : Dev := ((fnDev k).modFn f fun z => { z with st := 4, c := { z.c with arrN := 9 } })
   let x := d.fn f
   d.fnEntry f = some ent ∧ x.desc = some k ∧ d.quiet ∧ k.kind = .actuator ∧ (x.c.arrN < 10 ∨ x.st ≠ 4) ∧
     d.clocked = true) ∧
  (let f : Fin 32 := 31
   let ent : FnEntry := entry0
   let k : FnDesc := { desc0 with kind := .actuator }
   let d : Dev := ((fnDev k).modFn f fun z => { z with st := 3, timer := 9 })
   let x := d.fn f
   d.fnEntry f = some ent ∧ x.desc = some k ∧ d.quiet ∧ k.kind = .actuator ∧ x.st = 3 ∧ k.ac.thome ≤ x.timer ∧
     d.clocked = true) ∧
  (let f : Fin 32 := 31
   let ent : FnEntry := entry0
   let k : FnDesc := { desc0 with kind := .actuator }
   let d : Dev := ((fnDev k).modFn f fun z => { z with st := 3, timer := 8 })
   let x := d.fn f
   d.fnEntry f = some ent ∧ x.desc = some k ∧ d.quiet ∧ k.kind = .actuator ∧ (x.st ≠ 3 ∨ x.timer < k.ac.thome) ∧
     d.clocked = true) ∧
  (let f : Fin 32 := 31
   let ent : FnEntry := entry0
   let k : FnDesc := { desc0 with kind := .actuator }
   let d : Dev := ((fnDev k).modFn f fun z => { z with st := 4, c := { z.c with stallN := 2 } })
   let x := d.fn f
   d.fnEntry f = some ent ∧ x.desc = some k ∧ d.quiet ∧ k.kind = .actuator ∧ (stalled k x = false ∨ (x.st ≠ 3 ∧
     x.st ≠ 4)) ∧ d.clocked = true) ∧
  (let f : Fin 32 := 31
   let ent : FnEntry := entry0
   let k : FnDesc := { desc0 with kind := .actuator }
   let homeEnd : Int := if k.ehome1 then 2 ^ 31 - 1 else 0
   let d : Dev := ((fnDev k).modFn f fun z =>
     { z with st := 3, target := 2 ^ 31 - 1, c := { z.c with stallN := 3 } })
   let x := d.fn f
   let goes := (x.target - homeEnd).natAbs ≤ k.tpos ∨ d.permitted f (decide (homeEnd < x.target)) = true
   d.fnEntry f = some ent ∧ x.desc = some k ∧ d.quiet ∧ k.kind = .actuator ∧ stalled k x = true ∧ x.st = 3 ∧
     goes ∧ d.clocked = true) ∧
  (let f : Fin 32 := 31
   let ent : FnEntry := entry0
   let k : FnDesc := { desc0 with kind := .actuator }
   let homeEnd : Int := if k.ehome1 then 2 ^ 31 - 1 else 0
   let d : Dev := ((fnDev k).modFn f fun z => { z with st := 3, c := { z.c with stallN := 3 } })
   let x := d.fn f
   let goes := (x.target - homeEnd).natAbs ≤ k.tpos ∨ d.permitted f (decide (homeEnd < x.target)) = true
   d.fnEntry f = some ent ∧ x.desc = some k ∧ d.quiet ∧ k.kind = .actuator ∧ stalled k x = true ∧ x.st = 3 ∧
     ¬goes ∧ d.clocked = true) ∧
  (let f : Fin 32 := 31
   let pos : Int := 2 ^ 31 - 4
   let ent : FnEntry := entry0
   let k : FnDesc := { desc0 with kind := .actuator }
   let d : Dev := ((fnDev k).modFn f fun z =>
     { z with st := 4, target := 2 ^ 31 - 1, up := true, c := { z.c with stallN := 3 } })
   let x := d.fn f
   let y : Fn := { x with pos := pos }
   d.fnEntry f = some ent ∧ x.desc = some k ∧ d.quiet ∧ k.kind = .actuator ∧ stalled k x = true ∧ x.st = 4 ∧
     x.blocked = false ∧ nearEnd k y = true ∧ d.clocked = true) ∧
  (let f : Fin 32 := 31
   let pos : Int := 1
   let ent : FnEntry := entry0
   let k : FnDesc := { desc0 with kind := .actuator, park := true }
   let d : Dev := ((fnDev k).modFn f fun z =>
     { z with st := 4, target := 2 ^ 31 - 1, up := true, c := { z.c with stallN := 3 } })
   let x := d.fn f
   let y : Fn := { x with pos := pos }
   let tooth := k.park = true ∧ x.up = true ∧ (k.ptooth : Int) ≤ pos
   d.fnEntry f = some ent ∧ x.desc = some k ∧ d.quiet ∧ k.kind = .actuator ∧ stalled k x = true ∧ x.st = 4 ∧
     x.blocked = false ∧ nearEnd k y = false ∧ tooth ∧ d.clocked = true) ∧
  (let f : Fin 32 := 31
   let pos : Int := 4
   let ent : FnEntry := entry0
   let k : FnDesc := { desc0 with kind := .actuator }
   let d : Dev := ((fnDev k).modFn f fun z => { z with st := 4, target := 0, c := { z.c with stallN := 3 } })
   let x := d.fn f
   let y : Fn := { x with pos := pos }
   let tooth := k.park = true ∧ x.up = true ∧ (k.ptooth : Int) ≤ pos
   d.fnEntry f = some ent ∧ x.desc = some k ∧ d.quiet ∧ k.kind = .actuator ∧ stalled k x = true ∧ x.st = 4 ∧
     x.blocked = false ∧ nearEnd k y = false ∧ ¬tooth ∧ x.retries < k.nobs ∧ d.clocked = true) ∧
  (let f : Fin 32 := 31
   let pos : Int := 4
   let ent : FnEntry := entry0
   let k : FnDesc := { desc0 with kind := .actuator }
   let d : Dev := ((fnDev k).modFn f fun z =>
     { z with st := 4, target := 0, retries := 1, c := { z.c with stallN := 3 } })
   let x := d.fn f
   let y : Fn := { x with pos := pos }
   let tooth := k.park = true ∧ x.up = true ∧ (k.ptooth : Int) ≤ pos
   d.fnEntry f = some ent ∧ x.desc = some k ∧ d.quiet ∧ k.kind = .actuator ∧ stalled k x = true ∧ x.st = 4 ∧
     x.blocked = false ∧ nearEnd k y = false ∧ ¬tooth ∧ k.nobs ≤ x.retries ∧ d.clocked = true) ∧
  (let f : Fin 32 := 31
   let pos : Int := 0
   let ent : FnEntry := entry0
   let k : FnDesc := { desc0 with kind := .actuator }
   let d : Dev := ((fnDev k).modFn f fun z => { z with st := 3, permit := 1 })
   let x := d.fn f
   let y : Fn := { x with pos := pos }
   d.fnEntry f = some ent ∧ x.desc = some k ∧ d.quiet ∧ k.kind = .actuator ∧ (x.st = 3 ∨ x.st = 4) ∧
     d.permitted f (movesUp k y) = true ∧ d.clocked = true) ∧
  (let f : Fin 32 := 31
   let pos : Int := 3
   let ent : FnEntry := entry0
   let k : FnDesc := { desc0 with kind := .actuator }
   let d : Dev := ((fnDev k).modFn f fun z =>
     { z with st := 4, target := 0, permit := 1, c := { z.c with stallN := 3 } })
   let x := d.fn f
   let y : Fn := { x with pos := pos }
   let ends := x.st = 4 ∧ stalled k x = true ∧ nearEnd k y = true
   d.fnEntry f = some ent ∧ x.desc = some k ∧ d.quiet ∧ k.kind = .actuator ∧ (x.st = 3 ∨ x.st = 4) ∧
     d.permitted f (movesUp k y) = false ∧ ends ∧ d.clocked = true) ∧
  (let f : Fin 32 := 31
   let pos : Int := 0
   let ent : FnEntry := entry0
   let k : FnDesc := { desc0 with kind := .actuator }
   let homeEnd : Int := if k.ehome1 then 2 ^ 31 - 1 else 0
   let d : Dev := ((fnDev k).modFn f fun z =>
     { z with st := 3, target := 2 ^ 31 - 1, c := { z.c with stallN := 3 } })
   let x := d.fn f
   let y : Fn := { x with pos := pos }
   let goes := (x.target - homeEnd).natAbs ≤ k.tpos ∨ d.permitted f (decide (homeEnd < x.target)) = true
   let homes := x.st = 3 ∧ stalled k x = true
   d.fnEntry f = some ent ∧ x.desc = some k ∧ d.quiet ∧ k.kind = .actuator ∧ (x.st = 3 ∨ x.st = 4) ∧
     d.permitted f (movesUp k y) = false ∧ homes ∧ goes ∧ d.clocked = true) ∧
  (let f : Fin 32 := 31
   let pos : Int := 0
   let ent : FnEntry := entry0
   let k : FnDesc := { desc0 with kind := .actuator }
   let homeEnd : Int := if k.ehome1 then 2 ^ 31 - 1 else 0
   let d : Dev := ((fnDev k).modFn f fun z => { z with st := 3, c := { z.c with stallN := 3 } })
   let x := d.fn f
   let y : Fn := { x with pos := pos }
   let goes := (x.target - homeEnd).natAbs ≤ k.tpos ∨ d.permitted f (decide (homeEnd < x.target)) = true
   let homes := x.st = 3 ∧ stalled k x = true
   d.fnEntry f = some ent ∧ x.desc = some k ∧ d.quiet ∧ k.kind = .actuator ∧ (x.st = 3 ∨ x.st = 4) ∧
     d.permitted f (movesUp k y) = false ∧ homes ∧ ¬goes ∧ d.clocked = true) ∧
  (let f : Fin 32 := 31
   let pos : Int := 0
   let ent : FnEntry := entry0
   let k : FnDesc := { desc0 with kind := .actuator, pdrop := 2 }
   let d : Dev := ((fnDev k).modFn f fun z => { z with st := 3, permit := 2 })
   let x := d.fn f
   let y : Fn := { x with pos := pos }
   let ends := x.st = 4 ∧ stalled k x = true ∧ nearEnd k y = true
   let homes := x.st = 3 ∧ stalled k x = true
   d.fnEntry f = some ent ∧ x.desc = some k ∧ d.quiet ∧ k.kind = .actuator ∧ (x.st = 3 ∨ x.st = 4) ∧
     d.permitted f (movesUp k y) = false ∧ ¬ends ∧ ¬homes ∧ k.pdrop = 2 ∧ d.clocked = true) ∧
  (let f : Fin 32 := 31
   let pos : Int := 5
   let ent : FnEntry := entry0
   let k : FnDesc := { desc0 with kind := .actuator, pdrop := 1 }
   let d : Dev := ((fnDev k).modFn f fun z => { z with st := 4, up := true, start := 4, permit := 2, target := 9 })
   let x := d.fn f
   let y : Fn := { x with pos := pos }
   let ends := x.st = 4 ∧ stalled k x = true ∧ nearEnd k y = true
   let homes := x.st = 3 ∧ stalled k x = true
   let back := d.permitted f (decide (pos < x.start)) = true
   d.fnEntry f = some ent ∧ x.desc = some k ∧ d.quiet ∧ k.kind = .actuator ∧ (x.st = 3 ∨ x.st = 4) ∧
     d.permitted f (movesUp k y) = false ∧ ¬ends ∧ ¬homes ∧ k.pdrop = 1 ∧ back ∧ d.clocked = true) ∧
  (let f : Fin 32 := 31
   let pos : Int := 5
   let ent : FnEntry := entry0
   let k : FnDesc := { desc0 with kind := .actuator }
   let d : Dev := ((fnDev k).modFn f fun z => { z with st := 4, target := 4, permit := 1 })
   let x := d.fn f
   let y : Fn := { x with pos := pos }
   let ends := x.st = 4 ∧ stalled k x = true ∧ nearEnd k y = true
   let homes := x.st = 3 ∧ stalled k x = true
   let back := d.permitted f (decide (pos < x.start)) = true
   d.fnEntry f = some ent ∧ x.desc = some k ∧ d.quiet ∧ k.kind = .actuator ∧ (x.st = 3 ∨ x.st = 4) ∧
     d.permitted f (movesUp k y) = false ∧ ¬ends ∧ ¬homes ∧ k.pdrop ≠ 2 ∧ (k.pdrop = 1 → ¬back) ∧ d.clocked = true) ∧
  (let f : Fin 32 := 31
   let ent : FnEntry := entry0
   let k : FnDesc := desc0
   let d : Dev := ((fnDev k).modFn f fun z => { z with blocked := true, c := { z.c with blkN := 1 } })
   let x := d.fn f
   d.fnEntry f = some ent ∧ x.desc = some k ∧ d.quiet ∧ x.blocked = true ∧ k.per 100000 ≤ x.c.blkN ∧ d.clocked = true) ∧
  (let f : Fin 32 := 31
   let ent : FnEntry := entry0
   let k : FnDesc := desc0
   let d : Dev := ((fnDev k).modFn f fun z => { z with blocked := true })
   let x := d.fn f
   d.fnEntry f = some ent ∧ x.desc = some k ∧ d.quiet ∧ (x.blocked = false ∨ x.c.blkN < k.per 100000) ∧
     d.clocked = true) ∧
  (let f : Fin 32 := 31
   let ent : FnEntry := entry0
   let k : FnDesc := desc0
   let d : Dev := ((fnDev k).modFn f fun z => { z with st := 4, flags := 1 <<< 30, c := { z.c with tooN := 4 } })
   let x := d.fn f
   d.fnEntry f = some ent ∧ x.desc = some k ∧ d.quiet ∧ x.st = 4 ∧ x.flag 30 = true ∧ k.ac.ttooth ≤ x.c.tooN ∧
     d.clocked = true) ∧
  (let f : Fin 32 := 31
   let ent : FnEntry := entry0
   let k : FnDesc := desc0
   let d : Dev := ((fnDev k).modFn f fun z => { z with st := 4, flags := 1 <<< 30, c := { z.c with tooN := 3 } })
   let x := d.fn f
   d.fnEntry f = some ent ∧ x.desc = some k ∧ d.quiet ∧ (x.st ≠ 4 ∨ x.flag 30 = false ∨ x.c.tooN < k.ac.ttooth) ∧
     d.clocked = true) ∧
  (let f : Fin 32 := 31
   let ent : FnEntry := entry0
   let k : FnDesc := desc0
   let d : Dev := (((fnDev k).modFn f fun z => { z with ordRamp := true }).setReg Reg.THM_ORD 0)
   let x := d.fn f
   let past := x.c.ordAt + 38400 * d.fld Reg.THM_ORD 7 0 ≤ d.now
   d.fnEntry f = some ent ∧ x.desc = some k ∧ d.quiet ∧ x.ordRamp = true ∧ x.st ≠ 9 ∧ past ∧ d.clocked = true) ∧
  (let f : Fin 32 := 31
   let ent : FnEntry := entry0
   let k : FnDesc := desc0
   let d : Dev := ((fnDev k).modFn f fun z => { z with ordRamp := true, st := 9 })
   let x := d.fn f
   let past := x.c.ordAt + 38400 * d.fld Reg.THM_ORD 7 0 ≤ d.now
   d.fnEntry f = some ent ∧ x.desc = some k ∧ d.quiet ∧ (x.ordRamp = false ∨ x.st = 9 ∨ ¬past) ∧ d.clocked = true) := by
  refine ⟨?_, ?_, ?_, ?_, ?_, ?_, ?_, ?_, ?_, ?_, ?_, ?_, ?_, ?_, ?_, ?_, ?_, ?_, ?_, ?_, ?_, ?_, ?_, ?_, ?_, ?_,
    ?_, ?_, ?_, ?_, ?_, ?_, ?_, ?_, ?_, ?_, ?_, ?_, ?_, ?_, ?_, ?_, ?_, ?_, ?_, ?_⟩ <;>
    (simp -zeta only [quiet_iff]; decide +kernel)

theorem witness_TuningAndReels :
  (let d : Dev := dev0
   (d.mode ≠ 10 ∨ d.rbit Reg.INJ_CTL 0 = true ∨ d.rbit Reg.INJ_STAT 0 = true) ∧ d.clocked = true) ∧
  (let d : Dev := (dev0.setFld Reg.DST_MODE 3 0 10)
   let t := d.injTarget
   let c := d.hank (d.fld Reg.INJ_CAP 7 0)
   let fits := d.rbit (Reg.SPN_CTL t.1) t.2 && !d.rbit (Reg.SPN_LSTAT t.1 t.2) 6 && (!d.rbit Reg.INJ_CTL 6 || (c.v
     && decide (c.kind = 6) && decide (c.writer = 132)))
   d.mode = 10 ∧ d.rbit Reg.INJ_CTL 0 = false ∧ d.rbit Reg.INJ_STAT 0 = false ∧ fits = false ∧ d.clocked = true) ∧
  (let d : Dev := ((((dev0.setFld Reg.DST_MODE 3 0 10).setReg (Reg.SPN_CTL 0) 1).setRbit Reg.INJ_CTL 6
     true).setHank 0 ⟨16383, 132, 0, 6, true, 0, 0, 0, 0⟩)
   let t := d.injTarget
   let c := d.hank (d.fld Reg.INJ_CAP 7 0)
   let fits := d.rbit (Reg.SPN_CTL t.1) t.2 && !d.rbit (Reg.SPN_LSTAT t.1 t.2) 6 && (!d.rbit Reg.INJ_CTL 6 || (c.v
     && decide (c.kind = 6) && decide (c.writer = 132)))
   d.mode = 10 ∧ d.rbit Reg.INJ_CTL 0 = false ∧ d.rbit Reg.INJ_STAT 0 = false ∧ fits = true ∧ d.clocked = true) ∧
  (let d : Dev := ((dev0.modInj fun z => { z with live := true }).modInj fun z => { z with stopDue := true })
   d.inj.live = true ∧ d.inj.stopDue = true ∧ d.clocked = true) ∧
  (let d : Dev := ((dev0.modInj fun z => { z with live := true }).modInj fun z => { z with abortDue := true })
   d.inj.live = true ∧ d.inj.abortDue = true ∧ d.clocked = true) ∧
  (let d : Dev := dev0
   (d.inj.live = false ∨ d.inj.stopDue = false) ∧ d.clocked = true) ∧
  (let d : Dev := dev0
   (d.inj.live = false ∨ d.inj.abortDue = false) ∧ d.clocked = true) ∧
  (let n : Fin 8 := 7
   let d : Dev := dev0
   d.rbit (Reg.REL_CTL n) 0 = false ∧ d.clocked = true) ∧
  (let n : Fin 8 := 7
   let d : Dev := (((dev0.setRbit (Reg.REL_CTL n) 0 true).setHank 0 ⟨16383, reqReel n, 0, 6, true, 0, 0, 0,
     0⟩).setFld (Reg.REL_PRE n) 19 0 128)
   let hn := d.fld (Reg.REL_HANK n) 7 0
   let h := d.hank hn
   let room := (d.fld (Reg.REL_PRE n) 19 0 + d.fld (Reg.REL_POST n) 19 0 + 1) * 8
   d.rbit (Reg.REL_CTL n) 0 = true ∧ (h.bytes < room ∨ h.v = false ∨ h.kind ≠ 6 ∨ h.writer ≠ reqReel n) ∧
     d.clocked = true) ∧
  (let n : Fin 8 := 7
   let d : Dev := (((dev0.setRbit (Reg.REL_CTL n) 0 true).setHank 0 ⟨16383, reqReel n, 0, 6, true, 0, 0, 0,
     0⟩).setFld (Reg.REL_PRE n) 19 0 127)
   let hn := d.fld (Reg.REL_HANK n) 7 0
   let h := d.hank hn
   let room := (d.fld (Reg.REL_PRE n) 19 0 + d.fld (Reg.REL_POST n) 19 0 + 1) * 8
   d.rbit (Reg.REL_CTL n) 0 = true ∧ room ≤ h.bytes ∧ h.v = true ∧ h.kind = 6 ∧ h.writer = reqReel n ∧
     d.clocked = true) ∧
  (let n : Fin 8 := 7
   let d : Dev := (dev0.setRbit (Reg.REL_STAT n) 1 true)
   d.reelOpen n = true ∧ d.fld (Reg.REL_CTL n) 5 3 = 0 ∧ d.clocked = true) ∧
  (let n : Fin 8 := 7
   let d : Dev := dev0
   (d.reelOpen n = false ∨ d.fld (Reg.REL_CTL n) 5 3 ≠ 0) ∧ d.clocked = true) ∧
  (let n : Fin 8 := 7
   let st := Reg.REL_STAT n
   let d : Dev := dev0
   d.rbit st 1 = false ∧ d.clocked = true) ∧
  (let n : Fin 8 := 7
   let st := Reg.REL_STAT n
   let d : Dev := (dev0.setRbit (Reg.REL_STAT n) 1 true)
   d.rbit st 1 = true ∧ d.clocked = true) := by
  refine ⟨?_, ?_, ?_, ?_, ?_, ?_, ?_, ?_, ?_, ?_, ?_, ?_, ?_, ?_⟩ <;>
    decide +kernel

theorem witness_SnarlEvents :
  (let x : SrcInst := srcInst 223 0
   let d : Dev := dev0
   srcOk x = true ∧ x ∉ d.sn.high ∧ d.reports = [] ∧ d.clocked = true) ∧
  (let x : SrcInst := srcInst 223 1
   srcOk x = false) ∧
  (let x : SrcInst := srcInst 223 0
   let d : Dev := dev0
   srcOk x = true ∧ x.src ≠ 0 ∧ d.clocked = true) ∧
  (let x : SrcInst := srcInst 223 0
   let i := x.src.toNat
   let d : Dev := (({ dev0 with now := 10 ^ 14 } : Dev).modSnlCnt (cntKey (srcInst 223 0)) fun z =>
     { z with opened := true })
   let c := d.snlCnt (cntKey x)
   let past := c.start + windowUs (bitsOf (d.scfg i) 7 4) ≤ d.now / 480
   c.opened = true ∧ past ∧ d.clocked = true) ∧
  (let x : SrcInst := srcInst 223 0
   let i := x.src.toNat
   let d : Dev := dev0
   let c := d.snlCnt (cntKey x)
   let past := c.start + windowUs (bitsOf (d.scfg i) 7 4) ≤ d.now / 480
   (c.opened = false ∨ ¬past)) ∧
  (let m : Master := .distaff
   let d : Dev := dev0
   d.admits m) ∧
  (let n : Fin 64 := 63
   let d : Dev := dev0
   (smGet (fun _ => []) d.pt.urgent n = [])) ∧
  (let x : SrcInst := srcInst 223 0
   let n : Fin 64 := 63
   let rest := ([] : List SrcInst)
   let d : Dev := (dev0.modPt fun z => { z with urgent := [(63, [x])] })
   (smGet (fun _ => []) d.pt.urgent n = x :: rest) ∧ d.clocked = true) := by
  refine ⟨?_, ?_, ?_, ?_, ?_, ?_, ?_, ?_⟩
  · decide +kernel
  · decide +kernel
  · decide +kernel
  · decide +kernel
  · decide +kernel
  · simp -zeta only [Dev.admits]; decide +kernel
  · decide +kernel
  · decide +kernel

theorem witness_Reactions :
  (let x : SrcInst := srcInst 191 0
   let sev : Bool := true
   let d : Dev := (dev0.modSn fun z => { z with due := [⟨5, x, true⟩] })
   let turn := fun (code : Nat) (y : Bool) => d.sn.due.head? = some ⟨code, x, y⟩
   turn 5 sev ∧ d.clocked = true) ∧
  (let x : SrcInst := srcInst 191 0
   let d : Dev := dev0
   let turn := fun (code : Nat) (y : Bool) => d.sn.due.head? = some ⟨code, x, y⟩
   (∀ y, ¬turn 5 y) ∧ d.clocked = true) ∧
  (let x : SrcInst := srcInst 191 0
   let sev : Bool := true
   let d : Dev := (dev0.modSn fun z => { z with due := [⟨6, x, false⟩] })
   let turn := fun (code : Nat) (y : Bool) => d.sn.due.head? = some ⟨code, x, y⟩
   turn 6 (!sev) ∧ d.clocked = true) ∧
  (let x : SrcInst := srcInst 191 0
   let sev : Bool := true
   let d : Dev := ((dev0.modSn fun z => { z with due := [⟨5, x, true⟩] }).setFld Reg.DST_MODE 3 0 6)
   let turn := fun (code : Nat) (y : Bool) => d.sn.due.head? = some ⟨code, x, y⟩
   turn 5 sev ∧ d.mode ≠ 0 ∧ d.mode ≠ 0xB ∧ d.clocked = true) ∧
  (let x : SrcInst := srcInst 191 0
   let sev : Bool := true
   let d : Dev := ((dev0.setFld Reg.DST_MODE 3 0 0).modSn fun z => { z with due := [⟨5, x, true⟩] })
   let turn := fun (code : Nat) (y : Bool) => d.sn.due.head? = some ⟨code, x, y⟩
   turn 5 sev ∧ (d.mode = 0 ∨ d.mode = 0xB) ∧ d.clocked = true) ∧
  (let x : SrcInst := srcInst 191 0
   let sev : Bool := true
   let d : Dev := (dev0.modSn fun z => { z with due := [⟨4, x, true⟩] })
   let turn := fun (code : Nat) (y : Bool) => d.sn.due.head? = some ⟨code, x, y⟩
   turn 4 sev ∧ d.clocked = true) ∧
  (let x : SrcInst := srcInst 191 0
   let sev : Bool := true
   let d : Dev := (dev0.modSn fun z => { z with due := [⟨2, x, true⟩] })
   let turn := fun (code : Nat) (y : Bool) => d.sn.due.head? = some ⟨code, x, y⟩
   turn 2 sev ∧ d.unitOfSrc x = none ∧ d.clocked = true) ∧
  (let x : SrcInst := srcInst 102 63
   let sev : Bool := true
   let n := 63
   let y := entry0
   let d : Dev := ((dev0.setRbit (pStat n) 23 true).modSn fun z => { z with due := [⟨2, x, true⟩] })
   let leg : Option Nat := match d.unitOfSrc x with | some (.leg n) => some n.val | _ => none
   let turn := fun (code : Nat) (y : Bool) => d.sn.due.head? = some ⟨code, x, y⟩
   turn 2 sev ∧ leg = some n ∧ d.rbit (pStat n) 23 = true ∧ d.clocked = true) ∧
  (let x : SrcInst := srcInst 102 63
   let sev : Bool := true
   let n := 63
   let y := entry0
   let d : Dev := (dev0.modSn fun z => { z with due := [⟨2, x, true⟩] })
   let leg : Option Nat := match d.unitOfSrc x with | some (.leg n) => some n.val | _ => none
   let turn := fun (code : Nat) (y : Bool) => d.sn.due.head? = some ⟨code, x, y⟩
   turn 2 sev ∧ leg = some n ∧ d.rbit (pStat n) 23 = false ∧ d.clocked = true) ∧
  (let x : SrcInst := srcInst 102 63
   let sev : Bool := true
   let n := 63
   let d : Dev := ((dev0.setRbit (pStat n) 23 true).modSn fun z => { z with due := [⟨3, x, true⟩] })
   let leg : Option Nat := match d.unitOfSrc x with | some (.leg n) => some n.val | _ => none
   let turn := fun (code : Nat) (y : Bool) => d.sn.due.head? = some ⟨code, x, y⟩
   turn 3 sev ∧ leg = some n ∧ d.rbit (pStat n) 23 = true ∧ d.clocked = true) ∧
  (let x : SrcInst := srcInst 102 63
   let sev : Bool := true
   let n := 63
   let d : Dev := (dev0.modSn fun z => { z with due := [⟨3, x, true⟩] })
   let leg : Option Nat := match d.unitOfSrc x with | some (.leg n) => some n.val | _ => none
   let turn := fun (code : Nat) (y : Bool) => d.sn.due.head? = some ⟨code, x, y⟩
   let uses := fun (n f : Nat) => (d.fnEntry f).any fun y => y.ports.getLsbD n
   turn 3 sev ∧ leg = some n ∧ d.rbit (pStat n) 23 = false ∧ (∀ f < 32, uses n f = false) ∧ d.clocked = true) ∧
  (let x : SrcInst := srcInst 102 63
   let sev : Bool := true
   let n := 63
   let f : Fin 32 := 31
   let y : FnEntry := entry0
   let d : Dev := ((fnDev desc0).modSn fun z => { z with due := [⟨3, x, true⟩] })
   let leg : Option Nat := match d.unitOfSrc x with | some (.leg n) => some n.val | _ => none
   let turn := fun (code : Nat) (y : Bool) => d.sn.due.head? = some ⟨code, x, y⟩
   let uses := fun (n f : Nat) => (d.fnEntry f).any fun y => y.ports.getLsbD n
   turn 3 sev ∧ leg = some n ∧ d.rbit (pStat n) 23 = false ∧ d.fnEntry f = some y ∧ y.ports.getLsbD n = true ∧
     (y.dset = false ∨ (d.fn f).sets ≠ 0) ∧ (∀ g < 32, g ≠ f.val → uses n g = false) ∧ d.clocked = true) ∧
  (let x : SrcInst := srcInst 102 63
   let sev : Bool := true
   let n := 63
   let f : Fin 32 := 31
   let y : FnEntry := { entry0 with dset := true }
   let d : Dev := (((fnDev desc0).modFn f fun z => { z with entry := some { entry0 with dset := true } }).modSn
     fun z => { z with due := [⟨3, x, true⟩] })
   let leg : Option Nat := match d.unitOfSrc x with | some (.leg n) => some n.val | _ => none
   let turn := fun (code : Nat) (y : Bool) => d.sn.due.head? = some ⟨code, x, y⟩
   let uses := fun (n f : Nat) => (d.fnEntry f).any fun y => y.ports.getLsbD n
   turn 3 sev ∧ leg = some n ∧ d.rbit (pStat n) 23 = false ∧ d.fnEntry f = some y ∧ y.ports.getLsbD n = true ∧
     y.dset = true ∧ (d.fn f).sets = 0 ∧ (∀ g < 32, g ≠ f.val → uses n g = false) ∧ d.quiet ∧ d.clocked = true) ∧
  (let x : SrcInst := srcInst 66 0
   let sev : Bool := true
   let d : Dev := ((dev0.setReg Reg.DST_BOBMAP 4).modSn fun z => { z with due := [⟨3, x, true⟩] })
   let leg : Option Nat := match d.unitOfSrc x with | some (.leg n) => some n.val | _ => none
   let turn := fun (code : Nat) (y : Bool) => d.sn.due.head? = some ⟨code, x, y⟩
   turn 3 sev ∧ leg = none ∧ d.clocked = true) ∧
  (let x : SrcInst := srcInst 191 0
   let sev : Bool := true
   let d : Dev := ((dev0.setReg Reg.DST_BOBMAP 4).modSn fun z => { z with due := [⟨1, x, true⟩] })
   let turn := fun (code : Nat) (y : Bool) => d.sn.due.head? = some ⟨code, x, y⟩
   turn 1 sev ∧ x.src ≠ 49 ∧ x.src ≠ 51 ∧ (x.src.toNat < 64 ∨ 66 < x.src.toNat) ∧ d.clocked = true) ∧
  (let x : SrcInst := srcInst 66 0
   let sev : Bool := true
   let d : Dev := ((dev0.setReg Reg.DST_BOBMAP 4).modSn fun z => { z with due := [⟨1, x, true⟩] })
   let turn := fun (code : Nat) (y : Bool) => d.sn.due.head? = some ⟨code, x, y⟩
   d.pair = [0, 1] ∧ d.rbit Reg.DST_BOBMAP 4 = false ∧ d.rbit Reg.DST_BOBMAP 5 = false ∧ turn 1 sev ∧
     64 ≤ x.src.toNat ∧ x.src.toNat ≤ 66 ∧ d.clocked = true) ∧
  (let x : SrcInst := srcInst 64 0
   let sev : Bool := true
   let d : Dev := (((dev0.modSn fun z => { z with due := [⟨1, x, true⟩] }).setFld Reg.DST_MODE 3 0 6).setReg
     Reg.DST_BOBMAP 4)
   let turn := fun (code : Nat) (y : Bool) => d.sn.due.head? = some ⟨code, x, y⟩
   d.pair = [0, 1] ∧ d.rbit Reg.DST_BOBMAP 4 = false ∧ d.rbit Reg.DST_BOBMAP 5 = false ∧ turn 1 sev ∧
     64 ≤ x.src.toNat ∧ x.src.toNat ≤ 66 ∧ d.mode ≠ 0 ∧ d.mode ≠ 0xB ∧ d.clocked = true) ∧
  (let x : SrcInst := srcInst 191 0
   let d : Dev := ((dev0.setReg Reg.DST_BOBMAP 4).modSn fun z => { z with due := [⟨6, x, true⟩] })
   let turn := fun (code : Nat) (y : Bool) => d.sn.due.head? = some ⟨code, x, y⟩
   d.pair = [0, 1] ∧ d.rbit Reg.DST_BOBMAP 4 = false ∧ d.rbit Reg.DST_BOBMAP 5 = false ∧ turn 6 true ∧
     d.clocked = true) ∧
  (let x : SrcInst := srcInst 191 0
   let d : Dev := (((dev0.modSn fun z => { z with due := [⟨6, x, true⟩] }).setFld Reg.DST_MODE 3 0 6).setReg
     Reg.DST_BOBMAP 4)
   let turn := fun (code : Nat) (y : Bool) => d.sn.due.head? = some ⟨code, x, y⟩
   d.pair = [0, 1] ∧ d.rbit Reg.DST_BOBMAP 4 = false ∧ d.rbit Reg.DST_BOBMAP 5 = false ∧ turn 6 true ∧
     d.mode ≠ 0 ∧ d.mode ≠ 0xB ∧ d.clocked = true) ∧
  (let x : SrcInst := srcInst 191 0
   let d : Dev := (((dev0.modSn fun z => { z with due := [⟨6, x, false⟩] }).setFld Reg.DST_MODE 3 0 6).setReg
     Reg.DST_BOBMAP 4)
   let turn := fun (code : Nat) (y : Bool) => d.sn.due.head? = some ⟨code, x, y⟩
   d.pair = [0, 1] ∧ d.rbit Reg.DST_BOBMAP 4 = false ∧ d.rbit Reg.DST_BOBMAP 5 = false ∧ turn 6 false ∧
     d.mode ≠ 0 ∧ d.mode ≠ 0xB ∧ d.clocked = true) := by
  refine ⟨?_, ?_, ?_, ?_, ?_, ?_, ?_, ?_, ?_, ?_, ?_, ?_, ?_, ?_, ?_, ?_, ?_, ?_, ?_, ?_⟩
  · decide +kernel
  · decide +kernel
  · decide +kernel
  · decide +kernel
  · decide +kernel
  · decide +kernel
  · decide +kernel
  · decide +kernel
  · decide +kernel
  · decide +kernel
  · decide +kernel
  · decide +kernel
  · simp -zeta only [quiet_iff]; decide +kernel
  · decide +kernel
  · decide +kernel
  · decide +kernel
  · decide +kernel
  · decide +kernel
  · decide +kernel
  · decide +kernel

theorem witness_PinsWatchdogsInjection :
  (let d : Dev := (dev0.setRbit Reg.DST_PINS 0 true)
   d.rbit Reg.DST_PINS 0 = true ∧ d.rbit Reg.DST_PINS 1 = false ∧ d.clocked = true) ∧
  (let d : Dev := (dev0.setRbit Reg.DST_PINS 1 true)
   d.rbit Reg.DST_PINS 0 = false ∧ d.rbit Reg.DST_PINS 1 = true ∧ d.clocked = true) ∧
  (let d : Dev := ((dev0.setRbit Reg.DST_PINS 0 true).setRbit Reg.DST_PINS 1 true)
   d.rbit Reg.DST_PINS 0 = true ∧ d.rbit Reg.DST_PINS 1 = true ∧ d.clocked = true) ∧
  (let d : Dev := (dev0.setRbit Reg.DST_PINS 0 true)
   d.rbit Reg.DST_PINS 0 = true ∧ d.clocked = true) ∧
  (let m : Master := .distaff
   let d : Dev := (dev0.setFld Reg.DST_MODE 3 0 6)
   d.admits m ∧ d.rbit Reg.DST_PINS 0 = false ∧ d.rbit Reg.DST_PINS 1 = false ∧ (d.mode = 6 ∨ d.mode = 7)) ∧
  (let m : Master := .distaff
   let d : Dev := (dev0.setRbit Reg.DST_PINS 0 true)
   d.admits m ∧ (d.rbit Reg.DST_PINS 0 = true ∨ d.rbit Reg.DST_PINS 1 = true ∨ (d.mode ≠ 6 ∧ d.mode ≠ 7))) ∧
  (let d : Dev := dev0
   d.now < d.su.fltAt + ticksUs 100) ∧
  (let d : Dev := ({ dev0 with now := 10 ^ 14 } : Dev)
   d.su.fltAt + ticksUs 100 ≤ d.now) ∧
  (let d : Dev := (dev0.setFld Reg.DST_MODE 3 0 0)
   (d.mode = 0 ∨ d.mode = 0xB)) ∧
  (let d : Dev := dev0
   d.mode ≠ 0 ∧ d.mode ≠ 0xB) ∧
  (let m : Master := .distaff
   let v : Word := 0xFFFF4B1C
   let d : Dev := dev0
   d.admits m ∧ bitsOf v 15 0 = 0x4B1C) ∧
  (let m : Master := .distaff
   let v : Word := 0
   let d : Dev := dev0
   d.admits m ∧ bitsOf v 15 0 ≠ 0x4B1C) ∧
  (let b : Fin 3 := 2
   let d : Dev := dev0
   ((d.bob b).running = false ∨ d.now < smGet (fun _ => 0) d.su.kicks b + ticksUs 1000)) ∧
  (let b : Fin 3 := 2
   let d : Dev := (({ dev0 with now := 10 ^ 14 } : Dev).modBob b fun z => { z with running := true })
   (d.bob b).running = true ∧ (smGet (fun _ => 0) d.su.kicks b + ticksUs 1000 ≤ d.now) ∧ d.clocked = true) ∧
  (let m : Master := .distaff
   let v : Word := 0x100DF
   let d : Dev := dev0
   let go := d.rbit Reg.SNL_INJ 17 = false ∧ bitOf v 16 = true ∧ (d.mode = 4 ∨ d.mode = 6 ∨ d.mode = 7 ∨ d.mode = 10)
   d.admits m ∧ ¬go) ∧
  (let m : Master := .distaff
   let v : Word := 0x10010
   let t := srcInst (bitsOf v 7 0) (bitsOf v 14 8)
   let d : Dev := (dev0.setFld Reg.DST_MODE 3 0 10)
   let go := d.rbit Reg.SNL_INJ 17 = false ∧ bitOf v 16 = true ∧ (d.mode = 4 ∨ d.mode = 6 ∨ d.mode = 7 ∨ d.mode = 10)
   d.admits m ∧ go ∧ injectable t = true) ∧
  (let m : Master := .distaff
   let v : Word := 0x101DF
   let t := srcInst (bitsOf v 7 0) (bitsOf v 14 8)
   let d : Dev := (dev0.setFld Reg.DST_MODE 3 0 10)
   let go := d.rbit Reg.SNL_INJ 17 = false ∧ bitOf v 16 = true ∧ (d.mode = 4 ∨ d.mode = 6 ∨ d.mode = 7 ∨ d.mode = 10)
   d.admits m ∧ go ∧ injectable t = false) ∧
  (let d : Dev := dev0
   d.sn.inject = none) ∧
  (let j := (⟨srcInst 16 0, true, 0⟩ : Injected)
   let d : Dev := (dev0.modSn fun z => { z with inject := some j })
   d.sn.inject = some j ∧ d.now < j.since + ticksMs 10) ∧
  (let j := (⟨srcInst 16 0, true, 0⟩ : Injected)
   let d : Dev := (dev0.modSn fun z => { z with inject := some j })
   d.sn.inject = some j ∧ d.clocked = true) ∧
  (let j := (⟨srcInst 16 0, true, 0⟩ : Injected)
   let d : Dev := (({ dev0 with now := 10 ^ 14 } : Dev).modSn fun z => { z with inject := some j })
   d.sn.inject = some j ∧ j.since + ticksMs 10 ≤ d.now ∧ d.clocked = true) := by
  refine ⟨?_, ?_, ?_, ?_, ?_, ?_, ?_, ?_, ?_, ?_, ?_, ?_, ?_, ?_, ?_, ?_, ?_, ?_, ?_, ?_, ?_⟩
  · decide +kernel
  · decide +kernel
  · decide +kernel
  · decide +kernel
  · simp -zeta only [Dev.admits]; decide +kernel
  · simp -zeta only [Dev.admits]; decide +kernel
  · decide +kernel
  · decide +kernel
  · decide +kernel
  · decide +kernel
  · simp -zeta only [Dev.admits]; decide +kernel
  · simp -zeta only [Dev.admits]; decide +kernel
  · decide +kernel
  · decide +kernel
  · simp -zeta only [Dev.admits]; decide +kernel
  · simp -zeta only [Dev.admits]; decide +kernel
  · simp -zeta only [Dev.admits]; decide +kernel
  · decide +kernel
  · decide +kernel
  · decide +kernel
  · decide +kernel

theorem witness_ModeRequests :
  (let m : Asker := ⟨.distaff, false⟩
   let d : Dev := dev0
   d.clocked = true ∧ (m.master = .distaff ∨ (m.master = .session ∧
     d.sv.role.any (fun r => decide (2 ≤ r)) = false) ∨ (∃ b, m.master = .bobbin b ∧ d.sup b = false))) ∧
  (let m : Asker := ⟨.hspi, false⟩
   let d : Dev := dev0
   d.clocked = true ∧ m.master = .hspi ∧ d.rbit Reg.HSPI_RIGHTS 2 = false) ∧
  (let d : Dev := dev0
   d.clocked = true) ∧
  (let m : Asker := ⟨.bobbin 2, true⟩
   let d : Dev := dev0
   d.clocked = true ∧ d.mayRequest m.master = true ∧ m.beaten = true) ∧
  (let m : Asker := ⟨.bobbin 2, true⟩
   let req : BitVec 4 := 15
   let d : Dev := dev0
   d.clocked = true ∧ d.mayRequest m.master = true ∧ m.beaten = true ∧ req ≠ 0) ∧
  (let m : Asker := ⟨.bobbin 2, false⟩
   let d : Dev := dev0
   d.clocked = true ∧ d.mayRequest m.master = true ∧ m.beaten = false) ∧
  (let m : Asker := ⟨.bobbin 2, false⟩
   let d : Dev := (dev0.setRbit Reg.DST_PINS 1 true)
   let pins := d.rbit Reg.DST_PINS 0 = true ∨ d.rbit Reg.DST_PINS 1 = true
   d.clocked = true ∧ d.mayRequest m.master = true ∧ m.beaten = false ∧ pins) ∧
  (let m : Asker := ⟨.bobbin 2, false⟩
   let req : BitVec 4 := 12
   let d : Dev := dev0
   d.clocked = true ∧ d.mayRequest m.master = true ∧ m.beaten = false ∧
     (req = 2 ∨ req = 3 ∨ req = 9 ∨ 12 ≤ req.toNat)) ∧
  (let m : Asker := ⟨.bobbin 2, false⟩
   let d : Dev := (dev0.modSu fun z => { z with sleepReq := true })
   d.clocked = true ∧ d.mayRequest m.master = true ∧ m.beaten = false ∧ d.su.sleepReq = true) ∧
  (let m : Asker := ⟨.bobbin 2, false⟩
   let d : Dev := (dev0.modSu fun z => { z with sleepReq := true })
   let pins := d.rbit Reg.DST_PINS 0 = true ∨ d.rbit Reg.DST_PINS 1 = true
   d.clocked = true ∧ d.mayRequest m.master = true ∧ m.beaten = false ∧ d.su.sleepReq = true ∧ ¬pins) ∧
  (let m : Asker := ⟨.bobbin 2, false⟩
   let d : Dev := (dev0.setFld Reg.DST_MODE 3 0 5)
   d.clocked = true ∧ d.mayRequest m.master = true ∧ m.beaten = false ∧ d.su.sleepReq = false ∧ d.mode = 5 ∧
     d.allQuiet = true) ∧
  (let m : Asker := ⟨.bobbin 2, false⟩
   let d : Dev := (((fnDev desc0).modFn 31 fun z => { z with st := 4 }).setFld Reg.DST_MODE 3 0 5)
   d.clocked = true ∧ d.mayRequest m.master = true ∧ m.beaten = false ∧ d.su.sleepReq = false ∧ d.mode = 5 ∧
     d.allQuiet = false) ∧
  (let m : Asker := ⟨.bobbin 2, false⟩
   let d : Dev := (dev0.setFld Reg.DST_MODE 3 0 5)
   let pins := d.rbit Reg.DST_PINS 0 = true ∨ d.rbit Reg.DST_PINS 1 = true
   d.clocked = true ∧ d.mayRequest m.master = true ∧ m.beaten = false ∧ d.su.sleepReq = false ∧ d.mode = 5 ∧ ¬pins) ∧
  (let m : Asker := ⟨.bobbin 2, false⟩
   let d : Dev := ((dev0.setFld Reg.DST_MODE 3 0 5).setRbit Reg.DST_WAKE 0 true)
   d.clocked = true ∧ d.mayRequest m.master = true ∧ m.beaten = false ∧ d.su.sleepReq = false ∧ d.mode = 5 ∧
     (d.rbit Reg.DST_WAKE 0 = true ∨ d.rbit Reg.DST_WAKE 2 = true)) ∧
  (let m : Asker := ⟨.bobbin 2, false⟩
   let d : Dev := (dev0.setFld Reg.DST_MODE 3 0 5)
   d.clocked = true ∧ d.mayRequest m.master = true ∧ m.beaten = false ∧ d.su.sleepReq = false ∧ d.mode = 5 ∧
     d.rbit Reg.DST_WAKE 0 = false ∧ d.rbit Reg.DST_WAKE 2 = false) ∧
  (let m : Asker := ⟨.bobbin 2, false⟩
   let d : Dev := dev0
   d.clocked = true ∧ d.mayRequest m.master = true ∧ m.beaten = false ∧ d.su.sleepReq = false ∧ d.mode ≠ 5) ∧
  (let m : Asker := ⟨.bobbin 2, false⟩
   let d : Dev := dev0
   let pins := d.rbit Reg.DST_PINS 0 = true ∨ d.rbit Reg.DST_PINS 1 = true
   d.clocked = true ∧ d.mayRequest m.master = true ∧ m.beaten = false ∧ d.su.sleepReq = false ∧ d.mode ≠ 5 ∧ ¬pins) ∧
  (let m : Asker := ⟨.bobbin 2, false⟩
   let d : Dev := (((fnDev desc0).modFn 31 fun z => { z with st := 4 }).setFld Reg.DST_MODE 3 0 4)
   d.clocked = true ∧ d.mayRequest m.master = true ∧ m.beaten = false ∧ d.su.sleepReq = false ∧ d.mode = 4 ∧
     d.rbit Reg.DST_POL 0 = false) ∧
  (let m : Asker := ⟨.bobbin 2, false⟩
   let d : Dev := (((dev0.setFld Reg.DST_MODE 3 0 4).setRbit Reg.DST_POL 0 true).setRbit (pStat 63) 24 true)
   d.clocked = true ∧ d.mayRequest m.master = true ∧ m.beaten = false ∧ d.su.sleepReq = false ∧ d.mode = 4 ∧
     d.rbit Reg.DST_POL 0 = true ∧ d.anyCfgp = true) ∧
  (let m : Asker := ⟨.bobbin 2, false⟩
   let d : Dev := ((dev0.setFld Reg.DST_MODE 3 0 4).setRbit Reg.DST_POL 0 true)
   d.clocked = true ∧ d.mayRequest m.master = true ∧ m.beaten = false ∧ d.su.sleepReq = false ∧ d.mode = 4 ∧
     d.rbit Reg.DST_POL 0 = true ∧ d.anyCfgp = false) ∧
  (let m : Asker := ⟨.bobbin 2, false⟩
   let d : Dev := (dev0.setFld Reg.DST_MODE 3 0 6)
   d.clocked = true ∧ d.mayRequest m.master = true ∧ m.beaten = false ∧ d.su.sleepReq = false ∧
     (d.mode = 6 ∨ d.mode = 7) ∧ d.allQuiet = true) ∧
  (let m : Asker := ⟨.bobbin 2, false⟩
   let d : Dev := (((fnDev desc0).modFn 31 fun z => { z with st := 4 }).setFld Reg.DST_MODE 3 0 6)
   d.clocked = true ∧ d.mayRequest m.master = true ∧ m.beaten = false ∧ d.su.sleepReq = false ∧
     (d.mode = 6 ∨ d.mode = 7) ∧ d.allQuiet = false) ∧
  (let m : Asker := ⟨.bobbin 2, false⟩
   let d : Dev := dev0
   d.clocked = true ∧ d.mayRequest m.master = true ∧ m.beaten = false ∧ d.su.sleepReq = false ∧ d.mode ∉ [4, 6, 7]) ∧
  (let m : Asker := ⟨.bobbin 2, false⟩
   let d : Dev := (dev0.setFld Reg.DST_MODE 3 0 6)
   d.clocked = true ∧ d.mayRequest m.master = true ∧ m.beaten = false ∧ d.su.sleepReq = false ∧
     (d.mode = 6 ∨ d.mode = 7 ∨ d.mode = 10)) ∧
  (let m : Asker := ⟨.bobbin 2, false⟩
   let d : Dev := dev0
   d.clocked = true ∧ d.mayRequest m.master = true ∧ m.beaten = false ∧ d.su.sleepReq = false ∧ d.mode ∉ [6, 7, 10]) ∧
  (let m : Asker := ⟨.bobbin 2, false⟩
   let d : Dev := (dev0.setFld Reg.DST_MODE 3 0 4)
   d.clocked = true ∧ d.mayRequest m.master = true ∧ m.beaten = false ∧ d.su.sleepReq = false ∧
     (d.mode = 4 ∨ d.mode = 5 ∨ d.mode = 9 ∨ d.mode = 10)) ∧
  (let m : Asker := ⟨.bobbin 2, false⟩
   let d : Dev := dev0
   d.clocked = true ∧ d.mayRequest m.master = true ∧ m.beaten = false ∧ d.su.sleepReq = false ∧
     d.mode ∉ [4, 5, 6, 7, 9, 10]) ∧
  (let d : Dev := dev0
   let past := d.allQuiet = true ∨ d.su.ordAt + d.fld Reg.THM_ORD 7 0 * ticksUs 100 ≤ d.now
   (d.mode ≠ 8 ∨ ¬past)) ∧
  (let d : Dev := (dev0.setFld Reg.DST_MODE 3 0 8)
   let past := d.allQuiet = true ∨ d.su.ordAt + d.fld Reg.THM_ORD 7 0 * ticksUs 100 ≤ d.now
   d.mode = 8 ∧ past ∧ d.clocked = true) := by
  refine ⟨?_, ?_, ?_, ?_, ?_, ?_, ?_, ?_, ?_, ?_, ?_, ?_, ?_, ?_, ?_, ?_, ?_, ?_, ?_, ?_, ?_, ?_, ?_, ?_, ?_, ?_,
    ?_, ?_, ?_⟩
  · decide +kernel
  · decide +kernel
  · decide +kernel
  · simp -zeta only [Dev.mayRequest]; decide +kernel
  · simp -zeta only [Dev.mayRequest]; decide +kernel
  · simp -zeta only [Dev.mayRequest]; decide +kernel
  · simp -zeta only [Dev.mayRequest]; decide +kernel
  · simp -zeta only [Dev.mayRequest]; decide +kernel
  · simp -zeta only [Dev.mayRequest]; decide +kernel
  · simp -zeta only [Dev.mayRequest]; decide +kernel
  · simp -zeta only [Dev.mayRequest]; decide +kernel
  · simp -zeta only [Dev.mayRequest]; decide +kernel
  · simp -zeta only [Dev.mayRequest]; decide +kernel
  · simp -zeta only [Dev.mayRequest]; decide +kernel
  · simp -zeta only [Dev.mayRequest]; decide +kernel
  · simp -zeta only [Dev.mayRequest]; decide +kernel
  · simp -zeta only [Dev.mayRequest]; decide +kernel
  · simp -zeta only [Dev.mayRequest]; decide +kernel
  · simp -zeta only [Dev.mayRequest]; decide +kernel
  · simp -zeta only [Dev.mayRequest]; decide +kernel
  · simp -zeta only [Dev.mayRequest]; decide +kernel
  · simp -zeta only [Dev.mayRequest]; decide +kernel
  · simp -zeta only [Dev.mayRequest]; decide +kernel
  · simp -zeta only [Dev.mayRequest]; decide +kernel
  · simp -zeta only [Dev.mayRequest]; decide +kernel
  · simp -zeta only [Dev.mayRequest]; decide +kernel
  · simp -zeta only [Dev.mayRequest]; decide +kernel
  · decide +kernel
  · decide +kernel

theorem witness_ResetsAndSleep :
  (let d : Dev := dev0
   d.su.supplyLow = false) ∧
  (let d : Dev := (dev0.modSu fun z => { z with supplyLow := true })
   d.mode ≠ 0xB ∧ d.su.supplyLow = true) ∧
  (let d : Dev := ((dev0.setFld Reg.DST_MODE 3 0 0xB).modSu fun z => { z with supplyLow := true })
   d.mode = 0xB ∧ d.su.supplyLow = true ∧ d.su.wakes = 0) ∧
  (let d : Dev := (((dev0.setFld Reg.DST_MODE 3 0 0xB).modSu fun z => { z with supplyLow := true }).modSu fun z =>
     { z with wakes := 1 })
   d.mode = 0xB ∧ d.su.supplyLow = true ∧ d.su.wakes ≠ 0) ∧
  (let r : Rail := .vio18
   let d : Dev := (dev0.setFld Reg.DST_MODE 3 0 0xB)
   d.mode = 0xB ∧ r ≠ .vio33) ∧
  (let r : Rail := .vio33
   let d : Dev := dev0
   (d.mode ≠ 0xB ∨ r = .vio33)) ∧
  (let d : Dev := (dev0.setFld Reg.DST_MODE 3 0 0)
   d.mode = 0 ∧ d.su.supplyLow = false) ∧
  (let d : Dev := dev0
   (d.mode ≠ 0 ∨ d.su.supplyLow = true)) ∧
  (let d : Dev := dev0
   let active := fun (u : UnitRef) => d.rbit (actPlace u).1 (actPlace u).2
   (d.su.sleepReq = false ∨ d.mode ≠ 5 ∨ (∃ u ∈ allUnits, active u = true))) ∧
  (let d : Dev := ((dev0.modSu fun z => { z with sleepReq := true }).setFld Reg.DST_MODE 3 0 5)
   let active := fun (u : UnitRef) => d.rbit (actPlace u).1 (actPlace u).2
   d.su.sleepReq = true ∧ d.mode = 5 ∧ (∀ u ∈ allUnits, active u = false) ∧
     (d.su.wakes = 0 ∨ d.su.supplyLow = true) ∧ d.clocked = true) ∧
  (let d : Dev := (((dev0.modSu fun z => { z with sleepReq := true }).setFld Reg.DST_MODE 3 0 5).modSu fun z =>
     { z with wakes := 1 })
   let active := fun (u : UnitRef) => d.rbit (actPlace u).1 (actPlace u).2
   d.su.sleepReq = true ∧ d.mode = 5 ∧ (∀ u ∈ allUnits, active u = false) ∧ d.su.wakes ≠ 0 ∧
     d.su.supplyLow = false ∧ d.clocked = true) ∧
  (let d : Dev := dev0
   (d.rbit Reg.DST_WAKE 0 = false ∨ (d.mode ≠ 0xB ∧ d.su.sleepReq = false))) ∧
  (let d : Dev := ((dev0.setRbit Reg.DST_WAKE 0 true).setFld Reg.DST_MODE 3 0 0xB)
   d.rbit Reg.DST_WAKE 0 = true ∧ d.mode = 0xB ∧ d.su.supplyLow = false) ∧
  (let d : Dev := ((dev0.setRbit Reg.DST_WAKE 0 true).modSu fun z => { z with sleepReq := true })
   d.rbit Reg.DST_WAKE 0 = true ∧ ((d.mode = 0xB ∧ d.su.supplyLow = true) ∨ (d.mode ≠ 0xB ∧ d.su.sleepReq = true))) ∧
  (let d : Dev := ((dev0.setRbit Reg.DST_WAKE 2 true).setFld Reg.DST_MODE 3 0 0xB)
   let up := 10 * d.su.sleptAt + 9 * (d.fld Reg.DST_WAKE 31 16 * ticksMs 1000) ≤ 10 * d.now
   d.rbit Reg.DST_WAKE 2 = true ∧ d.mode = 0xB ∧ up ∧ d.su.supplyLow = false) ∧
  (let d : Dev := (((dev0.setRbit Reg.DST_WAKE 2 true).setFld Reg.DST_MODE 3 0 0xB).modSu fun z =>
     { z with supplyLow := true })
   let up := 10 * d.su.sleptAt + 9 * (d.fld Reg.DST_WAKE 31 16 * ticksMs 1000) ≤ 10 * d.now
   d.rbit Reg.DST_WAKE 2 = true ∧ d.mode = 0xB ∧ up ∧ d.su.supplyLow = true) ∧
  (let d : Dev := dev0
   let up := 10 * d.su.sleptAt + 9 * (d.fld Reg.DST_WAKE 31 16 * ticksMs 1000) ≤ 10 * d.now
   (d.rbit Reg.DST_WAKE 2 = false ∨ d.mode ≠ 0xB ∨ ¬up)) := by
  refine ⟨?_, ?_, ?_, ?_, ?_, ?_, ?_, ?_, ?_, ?_, ?_, ?_, ?_, ?_, ?_, ?_, ?_⟩ <;>
    decide +kernel

theorem witness_StartUp :
  (let d : Dev := (dev0.setFld Reg.DST_MODE 3 0 2)
   d.mode ≠ 1) ∧
  (let d : Dev := (dev0.setFld Reg.DST_MODE 3 0 1)
   d.mode = 1) ∧
  (let d : Dev := dev0
   (d.mode ≠ 2 ∨ d.clocked = false)) ∧
  (let t : SelftestResult := { selftest0 with failed := [.distaff] }
   let d : Dev := (dev0.setFld Reg.DST_MODE 3 0 2)
   d.mode = 2 ∧ d.clocked = true ∧ Retiree.distaff ∈ t.failed) ∧
  (let t : SelftestResult := selftest0
   let d : Dev := (dev0.setFld Reg.DST_MODE 3 0 2)
   d.mode = 2 ∧ d.clocked = true ∧ Retiree.distaff ∉ t.failed ∧ d.settled) ∧
  (let t : SelftestResult := selftest0
   let d : Dev := (dev0.setFld Reg.DST_MODE 3 0 2)
   d.mode = 2 ∧ d.clocked = true ∧ t.failed = [] ∧ badLanes t = []) ∧
  (let d : Dev := dev0
   (d.mode ≠ 3 ∨ d.clocked = false ∨ d.loadSource.isNone = true)) ∧
  (let d : Dev := dev0
   d.rbit Reg.DST_BOOT 0 = false ∧ d.su.supplied = none) := by
  refine ⟨?_, ?_, ?_, ?_, ?_, ?_, ?_, ?_⟩
  · decide +kernel
  · decide +kernel
  · decide +kernel
  · decide +kernel
  · simp -zeta only [Dev.settled, quiet_iff, noNotice_iff]; decide +kernel
  · decide +kernel
  · decide +kernel
  · decide +kernel

theorem witness_ClocksGovernorTemperature :
  (let d : Dev := (dev0.setFld Reg.DST_MODE 3 0 0)
   (d.mode = 0 ∨ d.mode = 0xB)) ∧
  (let d : Dev := dev0
   d.mode ≠ 0 ∧ d.mode ≠ 0xB) ∧
  (let d : Dev := dev0
   d.su.sag ≤ 2 ∧ d.clocked = true) ∧
  (let m : Master := .distaff
   let v : Word := 0
   let d : Dev := dev0
   d.admits m ∧ (d.mode ≠ 10 ∨ bitsOf v 2 1 = 3)) ∧
  (let m : Master := .distaff
   let v : Word := 0
   let d : Dev := (dev0.setFld Reg.DST_MODE 3 0 10)
   d.admits m ∧ d.mode = 10 ∧ bitsOf v 2 1 ≠ 3 ∧ d.su.sag ≤ 2) ∧
  (let m : Master := .distaff
   let d : Dev := dev0
   let force := d.fld Reg.GOV_CTL 2 1
   d.admits m ∧ force ≠ 3) ∧
  (let m : Master := .distaff
   let d : Dev := dev0
   d.admits m) ∧
  (let j : FlashJob := ⟨.program, 0, none, 0x84000, 2, 0, false⟩
   let d : Dev := dev0
   (d.fl.job = none ∨ (d.fl.job = some j ∧ j.op ≠ .erase))) ∧
  (let j : FlashJob := ⟨.erase, 0, none, 0x84000, 2, 0, false⟩
   let d : Dev := (dev0.modFl fun z => { z with job := some j })
   d.fl.job = some j ∧ j.op = .erase) ∧
  (let d : Dev := (((dev0.setRbit Reg.HKP_STAT 18 true).setFld Reg.DST_MODE 3 0 5).modSu fun z =>
     { z with runReq := true })
   d.rbit Reg.HKP_STAT 18 = true ∧ d.mode = 5 ∧ d.su.runReq = true ∧ d.clocked = true) ∧
  (let volts : List Int := (List.replicate 24 1642 : List Int)
   let code := (hkCodeOf volts 0).toNat
   let d : Dev := (((dev0.setRbit Reg.HKP_STAT 18 true).setFld Reg.THM_TRIM 27 16 1642).setFld Reg.THM_TRIM 11 0
     1500)
   d.rbit Reg.HKP_STAT 18 = true ∧ d.su.invShut = false ∧ d.badReading code = false ∧ d.clocked = true) ∧
  (let volts : List Int := (List.replicate 24 0 : List Int)
   let code := (hkCodeOf volts 0).toNat
   let d : Dev := (dev0.setRbit Reg.HKP_STAT 18 true)
   d.rbit Reg.HKP_STAT 18 = true ∧ d.su.invShut = false ∧ d.badReading code = true ∧ d.clocked = true) := by
  refine ⟨?_, ?_, ?_, ?_, ?_, ?_, ?_, ?_, ?_, ?_, ?_, ?_⟩
  · decide +kernel
  · decide +kernel
  · decide +kernel
  · simp -zeta only [Dev.admits]; decide +kernel
  · simp -zeta only [Dev.admits]; decide +kernel
  · simp -zeta only [Dev.admits]; decide +kernel
  · simp -zeta only [Dev.admits]; decide +kernel
  · decide +kernel
  · decide +kernel
  · decide +kernel
  · decide +kernel
  · decide +kernel

theorem witness_FlashOperations :
  (let m : Master := .distaff
   let st := Reg.NVM_STAT
   let d : Dev := (dev0.setRbit (Reg.NVM_STAT) 0 true)
   d.rbit st 0 = true ∧ d.admits m) ∧
  (let m : Master := .distaff
   let st := Reg.NVM_STAT
   let d : Dev := dev0
   d.rbit st 0 = false ∧ d.admits m) ∧
  (let m : Master := .distaff
   let st := Reg.NVM_STAT
   let d : Dev := dev0
   d.rbit st 0 = false ∧ d.admits m ∧ (∀ k, m = .bobbin k → d.sup k = false)) ∧
  (let c : Fin 3 := 2
   let st := Reg.NVM_STAT
   let d : Dev := (nvmDev 159)
   let n := d.fld Reg.NVM_LEN 10 0
   d.rbit st 0 = false ∧ d.clocked = true ∧ d.sup c = true ∧ (n = 0 ∨ 158 < n)) ∧
  (let c : Fin 3 := 2
   let v : Word := 0x08000000
   let st := Reg.NVM_STAT
   let d : Dev := (nvmDev 158)
   let n := d.fld Reg.NVM_LEN 10 0
   d.rbit st 0 = false ∧ d.clocked = true ∧ d.sup c = true ∧ 1 ≤ n ∧ n ≤ 158 ∧ bitsOf v 31 24 ≠ 7) ∧
  (let c : Fin 3 := 2
   let v : Word := 0x07000000
   let st := Reg.NVM_STAT
   let d : Dev := ((nvmDev 158).setFld Reg.DST_MODE 3 0 11)
   let n := d.fld Reg.NVM_LEN 10 0
   d.rbit st 0 = false ∧ d.clocked = true ∧ d.sup c = true ∧ 1 ≤ n ∧ n ≤ 158 ∧ bitsOf v 31 24 = 7 ∧
     (d.mode < 4 ∨ 10 < d.mode)) ∧
  (let c : Fin 3 := 2
   let v : Word := 0x07000000
   let st := Reg.NVM_STAT
   let d : Dev := ((nvmDev 158).setRbit Reg.GOV_STAT 9 true)
   let n := d.fld Reg.NVM_LEN 10 0
   d.rbit st 0 = false ∧ d.clocked = true ∧ d.sup c = true ∧ 1 ≤ n ∧ n ≤ 158 ∧ bitsOf v 31 24 = 7 ∧ 4 ≤ d.mode ∧
     d.mode ≤ 10 ∧ d.gateRefusal ≠ 0) ∧
  (let c : Fin 3 := 2
   let v : Word := 0x07000000
   let p := 0
   let st := Reg.NVM_STAT
   let d : Dev := ((nvmDev 158).setReg Reg.NVM_SRC 0xFF6C40)
   let n := d.fld Reg.NVM_LEN 10 0
   let src := d.fld Reg.NVM_SRC 23 5 * 32
   d.rbit st 0 = false ∧ d.clocked = true ∧ d.sup c = true ∧ 1 ≤ n ∧ n ≤ 158 ∧ bitsOf v 31 24 = 7 ∧ 4 ≤ d.mode ∧
     d.mode ≤ 10 ∧ d.gateRefusal = 0 ∧ d.place n = some p ∧ d.readsClean 130 ∧ src + 32 * n ≤ 0x1000000) ∧
  (let c : Fin 3 := 2
   let v : Word := 0x07000000
   let p := 0
   let st := Reg.NVM_STAT
   let d : Dev := ((nvmDev 158).setReg Reg.NVM_SRC 0xFF6C40)
   let n := d.fld Reg.NVM_LEN 10 0
   d.rbit st 0 = false ∧ d.clocked = true ∧ d.sup c = true ∧ 1 ≤ n ∧ n ≤ 158 ∧ bitsOf v 31 24 = 7 ∧ 4 ≤ d.mode ∧
     d.mode ≤ 10 ∧ d.gateRefusal = 0 ∧ d.place n = some p ∧ d.quiet) ∧
  (let c : Fin 3 := 2
   let v : Word := 0x07000000
   let st := Reg.NVM_STAT
   let d : Dev := (((nvmDev 158).setReg Reg.NVM_SRC 0xFF6C40).modFl fun z =>
     { z with mem := (List.range 32).map fun k => (16384 * k, 0) })
   let n := d.fld Reg.NVM_LEN 10 0
   let src := d.fld Reg.NVM_SRC 23 5 * 32
   d.rbit st 0 = false ∧ d.clocked = true ∧ d.sup c = true ∧ 1 ≤ n ∧ n ≤ 158 ∧ bitsOf v 31 24 = 7 ∧ 4 ≤ d.mode ∧
     d.mode ≤ 10 ∧ d.gateRefusal = 0 ∧ d.place n = none ∧ d.readsClean 130 ∧ src + 32 * n ≤ 0x1000000) ∧
  (let c : Fin 3 := 2
   let st := Reg.NVM_STAT
   let d : Dev := (nvmDev 1025)
   let n := d.fld Reg.NVM_LEN 10 0
   d.rbit st 0 = false ∧ d.clocked = true ∧ d.sup c = true ∧ (n = 0 ∨ 1024 < n)) ∧
  (let c : Fin 3 := 2
   let st := Reg.NVM_STAT
   let d : Dev := ((nvmDev 1024).setReg Reg.NVM_DST 0)
   let n := d.fld Reg.NVM_LEN 10 0
   let dst := d.fld Reg.NVM_DST 22 5 * 32
   let progSecs := firstRefusal d.bobRefusal (sectorsTouched dst n)
   d.rbit st 0 = false ∧ d.clocked = true ∧ d.sup c = true ∧ 1 ≤ n ∧ n ≤ 1024 ∧ progSecs ≠ 0) ∧
  (let c : Fin 3 := 2
   let st := Reg.NVM_STAT
   let d : Dev := ((nvmDev 1024).setRbit Reg.THM_STAT 8 false)
   let n := d.fld Reg.NVM_LEN 10 0
   let dst := d.fld Reg.NVM_DST 22 5 * 32
   let progSecs := firstRefusal d.bobRefusal (sectorsTouched dst n)
   d.rbit st 0 = false ∧ d.clocked = true ∧ d.sup c = true ∧ 1 ≤ n ∧ n ≤ 1024 ∧ progSecs = 0 ∧ d.gateRefusal ≠ 0) ∧
  (let c : Fin 3 := 2
   let st := Reg.NVM_STAT
   let d : Dev := (nvmDev 1024)
   let n := d.fld Reg.NVM_LEN 10 0
   let dst := d.fld Reg.NVM_DST 22 5 * 32
   let progSecs := firstRefusal d.bobRefusal (sectorsTouched dst n)
   d.rbit st 0 = false ∧ d.clocked = true ∧ d.sup c = true ∧ 1 ≤ n ∧ n ≤ 1024 ∧ progSecs = 0 ∧ d.gateRefusal = 0) ∧
  (let c : Fin 3 := 2
   let st := Reg.NVM_STAT
   let d : Dev := (nvmDev 225)
   let n := d.fld Reg.NVM_LEN 10 0
   d.rbit st 0 = false ∧ d.clocked = true ∧ d.sup c = true ∧ (n = 0 ∨ 224 < n)) ∧
  (let c : Fin 3 := 2
   let st := Reg.NVM_STAT
   let d : Dev := ((nvmDev 224).setReg Reg.NVM_DST 0x7FC000)
   let n := d.fld Reg.NVM_LEN 10 0
   let dst := d.fld Reg.NVM_DST 22 5 * 32
   let eraseSecs := firstRefusal d.bobRefusal ((List.range n).map (dst / 16384 + ·))
   d.rbit st 0 = false ∧ d.clocked = true ∧ d.sup c = true ∧ 1 ≤ n ∧ n ≤ 224 ∧ eraseSecs ≠ 0) ∧
  (let c : Fin 3 := 2
   let st := Reg.NVM_STAT
   let d : Dev := (((nvmDev 224).setReg Reg.NVM_DST 0x480000).setRbit Reg.THM_STAT 8 false)
   let n := d.fld Reg.NVM_LEN 10 0
   let dst := d.fld Reg.NVM_DST 22 5 * 32
   let eraseSecs := firstRefusal d.bobRefusal ((List.range n).map (dst / 16384 + ·))
   d.rbit st 0 = false ∧ d.clocked = true ∧ d.sup c = true ∧ 1 ≤ n ∧ n ≤ 224 ∧ eraseSecs = 0 ∧ d.gateRefusal ≠ 0) ∧
  (let c : Fin 3 := 2
   let st := Reg.NVM_STAT
   let d : Dev := ((nvmDev 224).setReg Reg.NVM_DST 0x480000)
   let n := d.fld Reg.NVM_LEN 10 0
   let dst := d.fld Reg.NVM_DST 22 5 * 32
   let eraseSecs := firstRefusal d.bobRefusal ((List.range n).map (dst / 16384 + ·))
   d.rbit st 0 = false ∧ d.clocked = true ∧ d.sup c = true ∧ 1 ≤ n ∧ n ≤ 224 ∧ eraseSecs = 0 ∧ d.gateRefusal = 0) ∧
  (let d : Dev := (State.reset.dev.setFld Reg.DST_MODE 3 0 11)
   let rom := d.clocked = true ∨ d.mode = 1
   ¬rom) ∧
  (let d : Dev := dev0
   d.fl.job = none) ∧
  (let j : FlashJob := ⟨.program, 0, none, 0x90000, 2, 0, false⟩
   let d : Dev := (dev0.modFl fun z => { z with job := some j })
   let rom := d.clocked = true ∨ d.mode = 1
   d.fl.job = some j ∧ rom ∧ j.op ≠ .erase) ∧
  (let j : FlashJob := ⟨.program, 0, none, 0x90000, 2, 0, false⟩
   let off := j.dst + 32 * j.done
   let d : Dev := ((dev0.modFl fun z => { z with job := some j }).setFbytes 0x90000 [0])
   let rom := d.clocked = true ∨ d.mode = 1
   d.fl.job = some j ∧ rom ∧ j.op ≠ .erase ∧ d.wordErased off = false) ∧
  (let j : FlashJob := ⟨.program, 0, none, 0x90000, 2, 0, false⟩
   let off := j.dst + 32 * j.done
   let d : Dev := (dev0.modFl fun z => { z with job := some j })
   let rom := d.clocked = true ∨ d.mode = 1
   d.fl.job = some j ∧ rom ∧ j.op ≠ .erase ∧ d.wordErased off = true) ∧
  (let j : FlashJob := ⟨.program, 0, none, 0x90000, 2, 0, false⟩
   let off := j.dst + 32 * j.done
   let d : Dev := (dev0.modFl fun z => { z with job := some j })
   let rom := d.clocked = true ∨ d.mode = 1
   d.fl.job = some j ∧ rom ∧ j.op = .program ∧ d.wordErased off = true ∧ j.data = none ∧ d.readsClean 130 ∧
     j.src % 32 = 0 ∧ j.src + 32 * j.done + 32 ≤ 0x1000000) ∧
  (let j : FlashJob := ⟨.program, 0, none, 0x90000, 2, 0, false⟩
   let off := j.dst + 32 * j.done
   let d : Dev := (dev0.modFl fun z => { z with job := some j })
   let rom := d.clocked = true ∨ d.mode = 1
   d.fl.job = some j ∧ rom ∧ j.op = .program ∧ d.wordErased off = true ∧ j.data = none ∧ d.quiet) ∧
  (let j : FlashJob := ⟨.program, 0, some (List.replicate 64 7), 0x90000, 2, 0, true⟩
   let bs : List Byte := (List.replicate 64 7)
   let off := j.dst + 32 * j.done
   let d : Dev := (dev0.modFl fun z => { z with job := some j })
   let rom := d.clocked = true ∨ d.mode = 1
   d.fl.job = some j ∧ rom ∧ j.op = .program ∧ d.wordErased off = true ∧ j.data = some bs) ∧
  (let j : FlashJob := ⟨.append ⟨7, 1, [5]⟩, 0, some (List.replicate 64 7), 0, 3, 1, false⟩
   let x : Rec := (⟨7, 1, [5]⟩ : Rec)
   let bs : List Byte := (List.replicate 64 7)
   let off := j.dst + 32 * j.done
   let d : Dev := (dev0.modFl fun z => { z with job := some j })
   let rom := d.clocked = true ∨ d.mode = 1
   d.fl.job = some j ∧ rom ∧ j.op = .append x ∧ j.data = some bs ∧ d.wordErased off = true ∧ j.done + 1 ≠ j.n) ∧
  (let j : FlashJob := ⟨.append ⟨7, 1, [5]⟩, 0, some (List.replicate 64 7), 0, 3, 2, false⟩
   let x : Rec := (⟨7, 1, [5]⟩ : Rec)
   let bs : List Byte := (List.replicate 64 7)
   let off := j.dst + 32 * j.done
   let d : Dev := (dev0.modFl fun z => { z with job := some j })
   let rom := d.clocked = true ∨ d.mode = 1
   let erasedSecs := ((List.range 32).filter fun k => d.sectorErased k).length
   d.fl.job = some j ∧ rom ∧ j.op = .append x ∧ j.data = some bs ∧ d.wordErased off = true ∧ j.done + 1 = j.n ∧
     3 ≤ erasedSecs) ∧
  (let j : FlashJob := ⟨.erase, 0, none, 0x84000, 2, 0, false⟩
   let d : Dev := (dev0.modFl fun z => { z with job := some j })
   let rom := d.clocked = true ∨ d.mode = 1
   d.fl.job = some j ∧ rom ∧ j.op = .erase) ∧
  (let d : Dev := dev0
   (d.fl.due = [] ∨ d.mayAppend = false)) ∧
  (let r := (⟨1, 0, []⟩ : Rec)
   let rest := ([] : List Rec)
   let d : Dev := ((nvmDev 1).modFl fun z => { z with due := [⟨1, 0, []⟩] })
   let rom := d.clocked = true ∨ d.mode = 1
   d.fl.due = r :: rest ∧ d.mayAppend = true ∧ rom) ∧
  (let r := (⟨1, 0, []⟩ : Rec)
   let rest := ([] : List Rec)
   let p := 0
   let d : Dev := ((nvmDev 1).modFl fun z => { z with due := [⟨1, 0, []⟩] })
   let rom := d.clocked = true ∨ d.mode = 1
   let erasedSecs := ((List.range 32).filter fun k => d.sectorErased k).length
   d.fl.due = r :: rest ∧ d.mayAppend = true ∧ rom ∧ d.place r.len = some p ∧ p < 16384 ∧ 3 ≤ erasedSecs) ∧
  (let d : Dev := dev0
   (d.fl.due = [] ∨ d.mayAppend = false) ∧ (d.fl.redo = [] ∨ d.gateOpen = false ∨ d.fl.job.isSome = true)) ∧
  (let d : Dev := ((nvmDev 1).modFl fun z => { z with due := [⟨1, 0, []⟩] })
   let rom := d.clocked = true ∨ d.mode = 1
   d.mayAppend = true ∧ d.fl.job = none ∧ rom) ∧
  (let k := 32
   let d : Dev := ((nvmDev 1).modFl fun z => { z with redo := [32] })
   let rom := d.clocked = true ∨ d.mode = 1
   d.fl.due = [] ∧ d.fl.redo = [k] ∧ d.gateOpen = true ∧ d.fl.job = none ∧ rom ∧ 32 ≤ k ∧ d.fl.pos ≤ 16384) ∧
  (let c : Fin 3 := 2
   let v : Word := 0x07000000
   let p := 0
   let st := Reg.NVM_STAT
   let d : Dev := ((nvmDev 1).setDraws 0
     [{ unitDraw 128 0 none true none 0 16 [] [] false (.position (Reg.POS_ESTAT 3) 4) with granted := true, auto := false, supply := some 0 }])
   let n := d.fld Reg.NVM_LEN 10 0
   let src := d.fld Reg.NVM_SRC 23 5 * 32
   d.rbit st 0 = false ∧ d.clocked = true ∧ d.sup c = true ∧ 1 ≤ n ∧ n ≤ 158 ∧ bitsOf v 31 24 = 7 ∧ 4 ≤ d.mode ∧
     d.mode ≤ 10 ∧ d.gateRefusal = 0 ∧ d.place n = some p ∧ d.userData src n = none) ∧
  (let j : FlashJob := ⟨.append ⟨7, 1, List.replicate 16 0⟩, 0, none, 0, 4, 2, false⟩
   let x : Rec := (⟨7, 1, List.replicate 16 0⟩ : Rec)
   let d : Dev := (dev0.modFl fun z => { z with job := some j })
   let rom := d.clocked = true ∨ d.mode = 1
   d.fl.job = some j ∧ rom ∧ j.op = .append x ∧ j.data = none ∧ 1 ≤ j.done ∧ j.done + 1 < j.n ∧
     d.wordErased (j.dst + 32 * j.done) = true ∧ d.readsClean 130 ∧ j.src % 32 = 0 ∧ j.src + 32 * j.done ≤ 0x1000000) := by
  refine ⟨?_, ?_, ?_, ?_, ?_, ?_, ?_, ?_, ?_, ?_, ?_, ?_, ?_, ?_, ?_, ?_, ?_, ?_, ?_, ?_, ?_, ?_, ?_, ?_, ?_, ?_,
    ?_, ?_, ?_, ?_, ?_, ?_, ?_, ?_, ?_, ?_, ?_⟩
  · simp -zeta only [Dev.admits]; decide +kernel
  · simp -zeta only [Dev.admits]; decide +kernel
  · simp -zeta only [Dev.admits]; decide +kernel
  · decide +kernel
  · decide +kernel
  · decide +kernel
  · decide +kernel
  · simp -zeta only [readsClean_iff]; decide +kernel
  · simp -zeta only [quiet_iff]; decide +kernel
  · simp -zeta only [readsClean_iff]; decide +kernel
  · decide +kernel
  · decide +kernel
  · decide +kernel
  · decide +kernel
  · decide +kernel
  · decide +kernel
  · decide +kernel
  · decide +kernel
  · decide +kernel
  · decide +kernel
  · decide +kernel
  · decide +kernel
  · decide +kernel
  · simp -zeta only [readsClean_iff]; decide +kernel
  · simp -zeta only [quiet_iff]; decide +kernel
  · decide +kernel
  · decide +kernel
  · decide +kernel
  · decide +kernel
  · decide +kernel
  · decide +kernel
  · decide +kernel
  · decide +kernel
  · decide +kernel
  · decide +kernel
  · decide +kernel
  · simp -zeta only [readsClean_iff]; decide +kernel

theorem witness_SessionOpening :
  (let d : Dev := dev0
   (d.mode < 3 ∨ 10 < d.mode) ∧ d.clocked = true) ∧
  (let d : Dev := ((dev0.setFld Reg.DST_MODE 3 0 10).modSv fun z => { z with lockout := true })
   3 ≤ d.mode ∧ d.mode ≤ 10 ∧ d.sv.lockout = true ∧ d.clocked = true) ∧
  (let h : SesFrame := ⟨.usb, 1, true⟩
   let d : Dev := ((dev0.setFld Reg.DST_MODE 3 0 10).modSv fun z => { z with role := some 3 })
   let busy := (d.sv.role.isSome = true ∨ d.nonceValid = true) ∧ d.sv.link ≠ some h.t
   3 ≤ d.mode ∧ d.mode ≤ 10 ∧ d.sv.lockout = false ∧ busy ∧ d.clocked = true) ∧
  (let h : SesFrame := ⟨.usb, 1, true⟩
   let d : Dev := (dev0.setFld Reg.DST_MODE 3 0 10)
   let busy := (d.sv.role.isSome = true ∨ d.nonceValid = true) ∧ d.sv.link ≠ some h.t
   3 ≤ d.mode ∧ d.mode ≤ 10 ∧ d.sv.lockout = false ∧ ¬busy ∧ d.clocked = true) ∧
  (let h : SesFrame := ⟨.usb, 1, true⟩
   let mac : List Byte := []
   let role : BitVec 8 := 3
   let d : Dev := (dev0.setFld Reg.DST_MODE 3 0 3)
   let taken := d.nonceValid = true ∧ d.sv.link = some h.t ∧ 1 ≤ role.toNat ∧ role.toNat ≤ 3 ∧
     mac = d.authMac role.toNat
   3 ≤ d.mode ∧ d.mode ≤ 10 ∧ d.sv.lockout = false ∧ ¬taken ∧ d.clocked = true) ∧
  (let h : SesFrame := ⟨.usb, 1, true⟩
   let d : Dev := dev0
   (d.sv.role = none ∨ d.sv.link ≠ some h.t) ∧ d.clocked = true) ∧
  (let h : SesFrame := ⟨.usb, 0, false⟩
   let d : Dev := (sesDev 3)
   d.sv.role.isSome = true ∧ d.sv.link = some h.t ∧ h.macOk = false ∧ d.clocked = true) ∧
  (let h : SesFrame := ⟨.usb, 0xFFFF, true⟩
   let d : Dev := (sesDev 3)
   d.sv.role.isSome = true ∧ d.sv.link = some h.t ∧ h.macOk = true ∧ h.seq.toNat = d.sv.seq ∧ d.clocked = true) ∧
  (let h : SesFrame := ⟨.usb, 1, true⟩
   let d : Dev := (sesDev 3)
   d.sv.role.isSome = true ∧ d.sv.link = some h.t ∧ h.macOk = true ∧ h.seq.toNat ≠ d.sv.seq ∧
     h.seq.toNat ≠ (d.sv.seq + 1) % 65536 ∧ d.clocked = true) ∧
  (let h : SesFrame := ⟨.usb, 0, true⟩
   let d : Dev := (sesDev 3)
   d.sv.role.isSome = true ∧ d.sv.link = some h.t ∧ h.macOk = true ∧ h.seq.toNat = (d.sv.seq + 1) % 65536 ∧
     d.clocked = true) ∧
  (let d : Dev := dev0
   (d.sv.role = none ∨ d.now < d.sv.lastAt + ticksMs 10000) ∧ d.clocked = true) ∧
  (let d : Dev := ({ sesDev 1 with now := 10 ^ 14 } : Dev)
   d.sv.role.isSome = true ∧ d.sv.lastAt + ticksMs 10000 ≤ d.now ∧ d.clocked = true) ∧
  (let h : SesFrame := ⟨.usb, 0, true⟩
   let d : Dev := (sesDev 1)
   d.sv.role.isSome = true ∧ d.sv.link = some h.t ∧ d.clocked = true) ∧
  (let h : SesFrame := ⟨.usb, 0, true⟩
   let d : Dev := dev0
   d.sv.link ≠ some h.t ∧ d.clocked = true) ∧
  (let h : SesFrame := ⟨.usb, 0, true⟩
   let d : Dev := (dev0.modSv fun z => { z with link := some h.t })
   d.sv.role = none ∧ d.sv.link = some h.t ∧ d.clocked = true) ∧
  (let d : Dev := dev0
   d.now < d.sv.lockAt + ticksMs 60000 ∧ d.clocked = true) ∧
  (let d : Dev := ({ dev0 with now := 10 ^ 14 } : Dev)
   d.sv.lockAt + ticksMs 60000 ≤ d.now ∧ d.clocked = true) := by
  refine ⟨?_, ?_, ?_, ?_, ?_, ?_, ?_, ?_, ?_, ?_, ?_, ?_, ?_, ?_, ?_, ?_, ?_⟩ <;>
    decide +kernel

theorem witness_SessionCommands :
  (let h : SesFrame := ⟨.usb, 0, true⟩
   let r : Nat := 1
   let d : Dev := (sesDev r)
   d.sv.role = some r ∧ d.sv.link = some h.t ∧ h.macOk = true ∧ h.seq.toNat = (d.sv.seq + 1) % 65536 ∧ 1 ≤ r ∧
     d.clocked = true) ∧
  (let h : SesFrame := ⟨.usb, 0, true⟩
   let r : Nat := 1
   let k : Nat := 257
   let d : Dev := (sesDev r)
   d.sv.role = some r ∧ d.sv.link = some h.t ∧ h.macOk = true ∧ h.seq.toNat = (d.sv.seq + 1) % 65536 ∧ 1 ≤ r ∧
     256 < k ∧ d.clocked = true) ∧
  (let h : SesFrame := ⟨.usb, 0, true⟩
   let ws : List Word := (List.replicate 257 0 : List Word)
   let r : Nat := 1
   let d : Dev := (sesDev r)
   d.sv.role = some r ∧ d.sv.link = some h.t ∧ h.macOk = true ∧ h.seq.toNat = (d.sv.seq + 1) % 65536 ∧ 1 ≤ r ∧
     256 < ws.length ∧ d.clocked = true) ∧
  (let h : SesFrame := ⟨.usb, 0, true⟩
   let a : Word := 0xFFFC00
   let r : Nat := 1
   let k : Nat := 256
   let d : Dev := (sesDev r)
   let me := d.masterReq .session
   d.sv.role = some r ∧ d.sv.link = some h.t ∧ h.macOk = true ∧ h.seq.toNat = (d.sv.seq + 1) % 65536 ∧ 1 ≤ r ∧
     a.toNat % 4 = 0 ∧ k ≤ 256 ∧ a.toNat + 4 * k ≤ 0x1000000 ∧ d.readsClean me ∧ d.clocked = true) ∧
  (let h : SesFrame := ⟨.usb, 0, true⟩
   let a : Word := 0x34020004
   let w : Word := 0
   let r : Nat := 1
   let d : Dev := (sesDev r)
   d.sv.role = some r ∧ d.sv.link = some h.t ∧ h.macOk = true ∧ h.seq.toNat = (d.sv.seq + 1) % 65536 ∧ 1 ≤ r ∧
     a.toNat % 4 = 0 ∧ 0x20000000 ≤ a.toNat ∧ a.toNat < 0x40000000 ∧ readChanges a.toNat = false ∧
     d.readReg a.toNat = (d, some w) ∧ d.clocked = true) ∧
  (let h : SesFrame := ⟨.usb, 0, true⟩
   let a : Word := 0x3FFFFFFC
   let r : Nat := 1
   let d : Dev := (sesDev r)
   d.sv.role = some r ∧ d.sv.link = some h.t ∧ h.macOk = true ∧ h.seq.toNat = (d.sv.seq + 1) % 65536 ∧ 1 ≤ r ∧
     a.toNat % 4 = 0 ∧ 0x20000000 ≤ a.toNat ∧ a.toNat < 0x40000000 ∧ readChanges a.toNat = false ∧
     (d.readReg a.toNat).2 = none ∧ d.clocked = true) ∧
  (let h : SesFrame := ⟨.usb, 0, true⟩
   let a : Word := 0x34000108
   let r : Nat := 1
   let d : Dev := (sesDev r)
   d.sv.role = some r ∧ d.sv.link = some h.t ∧ h.macOk = true ∧ h.seq.toNat = (d.sv.seq + 1) % 65536 ∧ 1 ≤ r ∧
     a.toNat % 4 = 0 ∧ 0x20000000 ≤ a.toNat ∧ a.toNat < 0x40000000 ∧ readChanges a.toNat = true ∧ r < 2 ∧
     d.clocked = true) ∧
  (let h : SesFrame := ⟨.usb, 0, true⟩
   let a : Word := 0x34000108
   let r : Nat := 2
   let d : Dev := (sesDev r)
   d.sv.role = some r ∧ d.sv.link = some h.t ∧ h.macOk = true ∧ h.seq.toNat = (d.sv.seq + 1) % 65536 ∧ 1 ≤ r ∧
     a.toNat % 4 = 0 ∧ 0x20000000 ≤ a.toNat ∧ a.toNat < 0x40000000 ∧ readChanges a.toNat = true ∧ 2 ≤ r ∧
     d.mode ≠ 10 ∧ d.clocked = true) ∧
  (let h : SesFrame := ⟨.usb, 0, true⟩
   let ws : List Word := (List.replicate 256 0 : List Word)
   let r : Nat := 1
   let d : Dev := (sesDev r)
   d.sv.role = some r ∧ d.sv.link = some h.t ∧ h.macOk = true ∧ h.seq.toNat = (d.sv.seq + 1) % 65536 ∧ 1 ≤ r ∧
     ws.length ≤ 256 ∧ r < 2 ∧ d.clocked = true) ∧
  (let h : SesFrame := ⟨.usb, 0, true⟩
   let r : Nat := 1
   let d : Dev := (sesDev r)
   d.sv.role = some r ∧ d.sv.link = some h.t ∧ h.macOk = true ∧ h.seq.toNat = (d.sv.seq + 1) % 65536 ∧ 1 ≤ r ∧
     r < 2 ∧ d.clocked = true) ∧
  (let h : SesFrame := ⟨.usb, 0, true⟩
   let r : Nat := 2
   let d : Dev := (sesDev r)
   d.sv.role = some r ∧ d.sv.link = some h.t ∧ h.macOk = true ∧ h.seq.toNat = (d.sv.seq + 1) % 65536 ∧ 1 ≤ r ∧
     r < 3 ∧ d.clocked = true) ∧
  (let h : SesFrame := ⟨.usb, 0, true⟩
   let ws : List Word := (List.replicate 256 0 : List Word)
   let r : Nat := 2
   let d : Dev := (sesDev r)
   d.sv.role = some r ∧ d.sv.link = some h.t ∧ h.macOk = true ∧ h.seq.toNat = (d.sv.seq + 1) % 65536 ∧ 1 ≤ r ∧
     2 ≤ r ∧ d.mode ≠ 10 ∧ ws.length ≤ 256 ∧ d.clocked = true) ∧
  (let h : SesFrame := ⟨.usb, 0, true⟩
   let r : Nat := 3
   let d : Dev := flashDev
   d.sv.role = some r ∧ d.sv.link = some h.t ∧ h.macOk = true ∧ h.seq.toNat = (d.sv.seq + 1) % 65536 ∧ 1 ≤ r ∧
     2 ≤ r ∧ d.mode = 10 ∧ d.clocked = true) ∧
  (let h : SesFrame := ⟨.usb, 0, true⟩
   let a : Word := 0xFFFFFFFF
   let r : Nat := 3
   let d : Dev := flashDev
   d.sv.role = some r ∧ d.sv.link = some h.t ∧ h.macOk = true ∧ h.seq.toNat = (d.sv.seq + 1) % 65536 ∧ 1 ≤ r ∧
     2 ≤ r ∧ d.mode = 10 ∧ ((0x1000000 ≤ a.toNat ∧ a.toNat < 0x20000000) ∨ 0x40000000 ≤ a.toNat) ∧ d.clocked = true) ∧
  (let h : SesFrame := ⟨.usb, 0, true⟩
   let a : Word := 0xFFFFFC
   let r : Nat := 3
   let d : Dev := flashDev
   let me := d.masterReq .session
   d.sv.role = some r ∧ d.sv.link = some h.t ∧ h.macOk = true ∧ h.seq.toNat = (d.sv.seq + 1) % 65536 ∧ 1 ≤ r ∧
     2 ≤ r ∧ d.mode = 10 ∧ a.toNat % 4 = 0 ∧ d.settled ∧ d.storeRefusal me a.toNat 4 false = none ∧
     d.blockedLine me a.toNat 4 = none ∧ d.clocked = true) ∧
  (let h : SesFrame := ⟨.usb, 0, true⟩
   let r : Nat := 2
   let d : Dev := (sesDev r)
   d.sv.role = some r ∧ d.sv.link = some h.t ∧ h.macOk = true ∧ h.seq.toNat = (d.sv.seq + 1) % 65536 ∧ 1 ≤ r ∧
     2 ≤ r ∧ d.clocked = true) ∧
  (let h : SesFrame := ⟨.usb, 0, true⟩
   let r : Nat := 2
   let d : Dev := ((sesDev r).setRbit Reg.DST_PINS 1 true)
   let pins := d.rbit Reg.DST_PINS 0 = true ∨ d.rbit Reg.DST_PINS 1 = true
   d.sv.role = some r ∧ d.sv.link = some h.t ∧ h.macOk = true ∧ h.seq.toNat = (d.sv.seq + 1) % 65536 ∧ 1 ≤ r ∧
     2 ≤ r ∧ pins ∧ d.clocked = true) ∧
  (let h : SesFrame := ⟨.usb, 0, true⟩
   let r : Nat := 2
   let req : BitVec 4 := 15
   let d : Dev := ((sesDev r).modSu fun z => { z with sleepReq := true })
   let pins := d.rbit Reg.DST_PINS 0 = true ∨ d.rbit Reg.DST_PINS 1 = true
   d.sv.role = some r ∧ d.sv.link = some h.t ∧ h.macOk = true ∧ h.seq.toNat = (d.sv.seq + 1) % 65536 ∧ 1 ≤ r ∧
     2 ≤ r ∧ d.su.sleepReq = true ∧ req ≠ 0 ∧ (¬(pins ∧ (req = 6 ∨ req = 7))) ∧ d.clocked = true) ∧
  (let h : SesFrame := ⟨.usb, 0, true⟩
   let r : Nat := 2
   let req : BitVec 4 := 15
   let d : Dev := (sesDev r)
   d.sv.role = some r ∧ d.sv.link = some h.t ∧ h.macOk = true ∧ h.seq.toNat = (d.sv.seq + 1) % 65536 ∧ 1 ≤ r ∧
     2 ≤ r ∧ d.su.sleepReq = false ∧ d.mode ≠ 10 ∧ (req = 2 ∨ req = 3 ∨ req = 9 ∨ 12 ≤ req.toNat) ∧ d.clocked = true) ∧
  (let h : SesFrame := ⟨.usb, 0, true⟩
   let r : Nat := 2
   let d : Dev := (sesDev r)
   d.sv.role = some r ∧ d.sv.link = some h.t ∧ h.macOk = true ∧ h.seq.toNat = (d.sv.seq + 1) % 65536 ∧ 1 ≤ r ∧
     2 ≤ r ∧ d.su.sleepReq = false ∧ d.mode ≠ 5 ∧ d.clocked = true) ∧
  (let h : SesFrame := ⟨.usb, 0, true⟩
   let r : Nat := 2
   let d : Dev := ((sesDev r).setFld Reg.DST_MODE 3 0 5)
   d.sv.role = some r ∧ d.sv.link = some h.t ∧ h.macOk = true ∧ h.seq.toNat = (d.sv.seq + 1) % 65536 ∧ 1 ≤ r ∧
     2 ≤ r ∧ d.su.sleepReq = false ∧ d.mode = 5 ∧ d.rbit Reg.DST_WAKE 0 = false ∧ d.rbit Reg.DST_WAKE 2 = false ∧
     d.clocked = true) ∧
  (let h : SesFrame := ⟨.usb, 0, true⟩
   let r : Nat := 2
   let d : Dev := (((sesDev r).setFld Reg.DST_MODE 3 0 5).setRbit Reg.DST_WAKE 2 true)
   d.sv.role = some r ∧ d.sv.link = some h.t ∧ h.macOk = true ∧ h.seq.toNat = (d.sv.seq + 1) % 65536 ∧ 1 ≤ r ∧
     2 ≤ r ∧ d.su.sleepReq = false ∧ d.mode = 5 ∧ (d.rbit Reg.DST_WAKE 0 = true ∨ d.rbit Reg.DST_WAKE 2 = true) ∧
     d.clocked = true) ∧
  (let h : SesFrame := ⟨.usb, 0, true⟩
   let r : Nat := 2
   let req : BitVec 4 := 7
   let d : Dev := ((sesDev r).setFld Reg.DST_MODE 3 0 5)
   let pins := d.rbit Reg.DST_PINS 0 = true ∨ d.rbit Reg.DST_PINS 1 = true
   d.sv.role = some r ∧ d.sv.link = some h.t ∧ h.macOk = true ∧ h.seq.toNat = (d.sv.seq + 1) % 65536 ∧ 1 ≤ r ∧
     2 ≤ r ∧ d.su.sleepReq = false ∧ d.mode = 5 ∧ ¬pins ∧ (req = 6 ∨ req = 7) ∧ d.clocked = true) ∧
  (let h : SesFrame := ⟨.usb, 0, true⟩
   let r : Nat := 2
   let d : Dev := (((sesDev r).setFld Reg.DST_MODE 3 0 5).modFn 31 fun z =>
     { z with entry := some entry0, desc := some desc0, st := 4 })
   d.sv.role = some r ∧ d.sv.link = some h.t ∧ h.macOk = true ∧ h.seq.toNat = (d.sv.seq + 1) % 65536 ∧ 1 ≤ r ∧
     2 ≤ r ∧ d.su.sleepReq = false ∧ d.mode = 5 ∧ d.allQuiet = false ∧ d.clocked = true) ∧
  (let h : SesFrame := ⟨.usb, 0, true⟩
   let r : Nat := 2
   let d : Dev := (((sesDev r).setFld Reg.DST_MODE 3 0 7).modFn 31 fun z =>
     { z with entry := some entry0, desc := some desc0, st := 4 })
   d.sv.role = some r ∧ d.sv.link = some h.t ∧ h.macOk = true ∧ h.seq.toNat = (d.sv.seq + 1) % 65536 ∧ 1 ≤ r ∧
     2 ≤ r ∧ d.su.sleepReq = false ∧ (d.mode = 6 ∨ d.mode = 7) ∧ d.allQuiet = false ∧ d.clocked = true) ∧
  (let h : SesFrame := ⟨.usb, 0, true⟩
   let r : Nat := 2
   let d : Dev := ((sesDev r).setFld Reg.DST_MODE 3 0 7)
   d.sv.role = some r ∧ d.sv.link = some h.t ∧ h.macOk = true ∧ h.seq.toNat = (d.sv.seq + 1) % 65536 ∧ 1 ≤ r ∧
     2 ≤ r ∧ d.su.sleepReq = false ∧ (d.mode = 6 ∨ d.mode = 7) ∧ d.allQuiet = true ∧ d.clocked = true) ∧
  (let h : SesFrame := ⟨.usb, 0, true⟩
   let r : Nat := 2
   let d : Dev := ((sesDev r).setFld Reg.DST_MODE 3 0 9)
   d.sv.role = some r ∧ d.sv.link = some h.t ∧ h.macOk = true ∧ h.seq.toNat = (d.sv.seq + 1) % 65536 ∧ 1 ≤ r ∧
     2 ≤ r ∧ d.su.sleepReq = false ∧
     (d.mode = 3 ∨ d.mode = 4 ∨ d.mode = 5 ∨ d.mode = 6 ∨ d.mode = 7 ∨ d.mode = 9) ∧ d.clocked = true) ∧
  (let h : SesFrame := ⟨.usb, 0, true⟩
   let r : Nat := 3
   let req : BitVec 4 := 3
   let d : Dev := flashDev
   let entry := d.fld Reg.DST_MODE 11 8
   d.sv.role = some r ∧ d.sv.link = some h.t ∧ h.macOk = true ∧ h.seq.toNat = (d.sv.seq + 1) % 65536 ∧ 1 ≤ r ∧
     2 ≤ r ∧ d.su.sleepReq = false ∧ d.mode = 10 ∧ req.toNat = entry ∧ req ∉ [0, 1, 6, 7, 8, 10, 11] ∧
     d.clocked = true) ∧
  (let h : SesFrame := ⟨.usb, 0, true⟩
   let r : Nat := 3
   let req : BitVec 4 := 7
   let d : Dev := (flashDev.setReg Reg.DST_MODE 0x70A)
   let entry := d.fld Reg.DST_MODE 11 8
   let pins := d.rbit Reg.DST_PINS 0 = true ∨ d.rbit Reg.DST_PINS 1 = true
   d.sv.role = some r ∧ d.sv.link = some h.t ∧ h.macOk = true ∧ h.seq.toNat = (d.sv.seq + 1) % 65536 ∧ 1 ≤ r ∧
     2 ≤ r ∧ d.su.sleepReq = false ∧ d.mode = 10 ∧ ¬pins ∧ (req = 6 ∨ req = 7) ∧ (entry = 6 ∨ entry = 7) ∧
     d.clocked = true) ∧
  (let h : SesFrame := ⟨.usb, 0, true⟩
   let r : Nat := 3
   let req : BitVec 4 := 15
   let d : Dev := flashDev
   let entry := d.fld Reg.DST_MODE 11 8
   d.sv.role = some r ∧ d.sv.link = some h.t ∧ h.macOk = true ∧ h.seq.toNat = (d.sv.seq + 1) % 65536 ∧ 1 ≤ r ∧
     2 ≤ r ∧ d.su.sleepReq = false ∧ d.mode = 10 ∧ req.toNat ≠ entry ∧ req ∉ [0, 1, 6, 7, 8, 10, 11] ∧
     d.clocked = true) ∧
  (let h : SesFrame := ⟨.usb, 0, true⟩
   let r : Nat := 2
   let d : Dev := ((sesDev r).setFld Reg.DST_MODE 3 0 5)
   d.sv.role = some r ∧ d.sv.link = some h.t ∧ h.macOk = true ∧ h.seq.toNat = (d.sv.seq + 1) % 65536 ∧ 1 ≤ r ∧
     2 ≤ r ∧ d.su.sleepReq = false ∧ d.mode = 5 ∧ d.allQuiet = true ∧ d.clocked = true) ∧
  (let h : SesFrame := ⟨.usb, 0, true⟩
   let r : Nat := 2
   let d : Dev := (((sesDev r).setFld Reg.DST_MODE 3 0 4).setRbit Reg.DST_POL 0 true)
   d.sv.role = some r ∧ d.sv.link = some h.t ∧ h.macOk = true ∧ h.seq.toNat = (d.sv.seq + 1) % 65536 ∧ 1 ≤ r ∧
     2 ≤ r ∧ d.su.sleepReq = false ∧ d.mode = 4 ∧ d.rbit Reg.DST_POL 0 = true ∧ d.anyCfgp = false ∧ d.clocked = true) ∧
  (let h : SesFrame := ⟨.usb, 0, true⟩
   let r : Nat := 2
   let d : Dev := ((sesDev r).setFld Reg.DST_MODE 3 0 4)
   d.sv.role = some r ∧ d.sv.link = some h.t ∧ h.macOk = true ∧ h.seq.toNat = (d.sv.seq + 1) % 65536 ∧ 1 ≤ r ∧
     2 ≤ r ∧ d.su.sleepReq = false ∧ d.mode = 4 ∧ d.rbit Reg.DST_POL 0 = false ∧ d.clocked = true) ∧
  (let h : SesFrame := ⟨.usb, 0, true⟩
   let r : Nat := 2
   let d : Dev := ((((sesDev r).setFld Reg.DST_MODE 3 0 4).setRbit Reg.DST_POL 0 true).setRbit (pStat 63) 24 true)
   d.sv.role = some r ∧ d.sv.link = some h.t ∧ h.macOk = true ∧ h.seq.toNat = (d.sv.seq + 1) % 65536 ∧ 1 ≤ r ∧
     2 ≤ r ∧ d.su.sleepReq = false ∧ d.mode = 4 ∧ d.rbit Reg.DST_POL 0 = true ∧ d.anyCfgp = true ∧ d.clocked = true) ∧
  (let h : SesFrame := ⟨.usb, 0, true⟩
   let r : Nat := 3
   let d : Dev := flashDev
   d.sv.role = some r ∧ d.sv.link = some h.t ∧ h.macOk = true ∧ h.seq.toNat = (d.sv.seq + 1) % 65536 ∧ 1 ≤ r ∧
     2 ≤ r ∧ d.su.sleepReq = false ∧ (d.mode = 6 ∨ d.mode = 7 ∨ d.mode = 10) ∧ d.clocked = true) ∧
  (let h : SesFrame := ⟨.usb, 0, true⟩
   let r : Nat := 3
   let d : Dev := flashDev
   d.sv.role = some r ∧ d.sv.link = some h.t ∧ h.macOk = true ∧ h.seq.toNat = (d.sv.seq + 1) % 65536 ∧ 1 ≤ r ∧
     2 ≤ r ∧ d.su.sleepReq = false ∧ (d.mode = 4 ∨ d.mode = 5 ∨ d.mode = 9 ∨ d.mode = 10) ∧ d.clocked = true) ∧
  (let h : SesFrame := ⟨.usb, 0, true⟩
   let r : Nat := 1
   let k : Nat := 1
   let c : Nat := 0
   let need := fun (ss : List Nat) => ss.foldl (fun n k => max n (sectorRole k)) 2
   let erase := (List.range (min k 512)).map (c + ·)
   let d : Dev := (sesDev r)
   d.sv.role = some r ∧ d.sv.link = some h.t ∧ h.macOk = true ∧ h.seq.toNat = (d.sv.seq + 1) % 65536 ∧ 1 ≤ r ∧
     r < need erase ∧ d.clocked = true) ∧
  (let h : SesFrame := ⟨.usb, 0, true⟩
   let r : Nat := 3
   let k : Nat := 224
   let c : Nat := 288
   let need := fun (ss : List Nat) => ss.foldl (fun n k => max n (sectorRole k)) 2
   let erase := (List.range (min k 512)).map (c + ·)
   let d : Dev := (sesDev r)
   d.sv.role = some r ∧ d.sv.link = some h.t ∧ h.macOk = true ∧ h.seq.toNat = (d.sv.seq + 1) % 65536 ∧ 1 ≤ r ∧
     need erase ≤ r ∧ d.flashMode = false ∧ d.clocked = true) ∧
  (let h : SesFrame := ⟨.usb, 0, true⟩
   let r : Nat := 3
   let k : Nat := 224
   let c : Nat := 288
   let need := fun (ss : List Nat) => ss.foldl (fun n k => max n (sectorRole k)) 2
   let erase := (List.range (min k 512)).map (c + ·)
   let d : Dev := (flashDev.setRbit Reg.NVM_STAT 0 true)
   d.sv.role = some r ∧ d.sv.link = some h.t ∧ h.macOk = true ∧ h.seq.toNat = (d.sv.seq + 1) % 65536 ∧ 1 ≤ r ∧
     need erase ≤ r ∧ d.flashMode = true ∧ d.rbit Reg.NVM_STAT 0 = true ∧ d.clocked = true) ∧
  (let h : SesFrame := ⟨.usb, 0, true⟩
   let r : Nat := 3
   let k : Nat := 225
   let c : Nat := 288
   let need := fun (ss : List Nat) => ss.foldl (fun n k => max n (sectorRole k)) 2
   let erase := (List.range (min k 512)).map (c + ·)
   let d : Dev := flashDev
   d.sv.role = some r ∧ d.sv.link = some h.t ∧ h.macOk = true ∧ h.seq.toNat = (d.sv.seq + 1) % 65536 ∧ 1 ≤ r ∧
     need erase ≤ r ∧ d.flashMode = true ∧ d.rbit Reg.NVM_STAT 0 = false ∧ (k = 0 ∨ 224 < k) ∧ d.clocked = true) ∧
  (let h : SesFrame := ⟨.usb, 0, true⟩
   let r : Nat := 3
   let k : Nat := 224
   let c : Nat := 0
   let need := fun (ss : List Nat) => ss.foldl (fun n k => max n (sectorRole k)) 2
   let erase := (List.range (min k 512)).map (c + ·)
   let d : Dev := flashDev
   d.sv.role = some r ∧ d.sv.link = some h.t ∧ h.macOk = true ∧ h.seq.toNat = (d.sv.seq + 1) % 65536 ∧ 1 ≤ r ∧
     need erase ≤ r ∧ d.flashMode = true ∧ d.rbit Reg.NVM_STAT 0 = false ∧ 1 ≤ k ∧ k ≤ 224 ∧
     firstRefusal d.sesRefusal erase ≠ 0 ∧ d.clocked = true) ∧
  (let h : SesFrame := ⟨.usb, 0, true⟩
   let r : Nat := 3
   let k : Nat := 224
   let c : Nat := 288
   let need := fun (ss : List Nat) => ss.foldl (fun n k => max n (sectorRole k)) 2
   let erase := (List.range (min k 512)).map (c + ·)
   let d : Dev := flashDev
   d.sv.role = some r ∧ d.sv.link = some h.t ∧ h.macOk = true ∧ h.seq.toNat = (d.sv.seq + 1) % 65536 ∧ 1 ≤ r ∧
     need erase ≤ r ∧ d.flashMode = true ∧ d.rbit Reg.NVM_STAT 0 = false ∧ 1 ≤ k ∧ k ≤ 224 ∧
     firstRefusal d.sesRefusal erase = 0 ∧ d.gateRefusal ≠ 0 ∧ d.clocked = true) ∧
  (let h : SesFrame := ⟨.usb, 0, true⟩
   let r : Nat := 3
   let k : Nat := 224
   let c : Nat := 288
   let need := fun (ss : List Nat) => ss.foldl (fun n k => max n (sectorRole k)) 2
   let erase := (List.range (min k 512)).map (c + ·)
   let d : Dev := (flashDev.setRbit Reg.THM_STAT 8 true)
   d.sv.role = some r ∧ d.sv.link = some h.t ∧ h.macOk = true ∧ h.seq.toNat = (d.sv.seq + 1) % 65536 ∧ 1 ≤ r ∧
     need erase ≤ r ∧ d.flashMode = true ∧ d.rbit Reg.NVM_STAT 0 = false ∧ 1 ≤ k ∧ k ≤ 224 ∧
     firstRefusal d.sesRefusal erase = 0 ∧ d.gateRefusal = 0 ∧ d.clocked = true) ∧
  (let h : SesFrame := ⟨.usb, 0, true⟩
   let bs : List Byte := []
   let r : Nat := 1
   let k : Nat := 0
   let c : Nat := 0
   let need := fun (ss : List Nat) => ss.foldl (fun n k => max n (sectorRole k)) 2
   let prog := sectorsTouched c ((bs.length + 31) / 32)
   let d : Dev := (sesDev r)
   d.sv.role = some r ∧ d.sv.link = some h.t ∧ h.macOk = true ∧ h.seq.toNat = (d.sv.seq + 1) % 65536 ∧ 1 ≤ r ∧
     r < need prog ∧ d.clocked = true) ∧
  (let h : SesFrame := ⟨.usb, 0, true⟩
   let bs : List Byte := (List.replicate 1024 0 : List Byte)
   let r : Nat := 3
   let k : Nat := 0
   let c : Nat := 0x7FFC00
   let need := fun (ss : List Nat) => ss.foldl (fun n k => max n (sectorRole k)) 2
   let prog := sectorsTouched c ((bs.length + 31) / 32)
   let d : Dev := (sesDev r)
   d.sv.role = some r ∧ d.sv.link = some h.t ∧ h.macOk = true ∧ h.seq.toNat = (d.sv.seq + 1) % 65536 ∧ 1 ≤ r ∧
     need prog ≤ r ∧ d.flashMode = false ∧ d.clocked = true) ∧
  (let h : SesFrame := ⟨.usb, 0, true⟩
   let bs : List Byte := (List.replicate 1024 0 : List Byte)
   let r : Nat := 3
   let k : Nat := 0
   let c : Nat := 0x7FFC00
   let need := fun (ss : List Nat) => ss.foldl (fun n k => max n (sectorRole k)) 2
   let prog := sectorsTouched c ((bs.length + 31) / 32)
   let d : Dev := (flashDev.setRbit Reg.NVM_STAT 0 true)
   d.sv.role = some r ∧ d.sv.link = some h.t ∧ h.macOk = true ∧ h.seq.toNat = (d.sv.seq + 1) % 65536 ∧ 1 ≤ r ∧
     need prog ≤ r ∧ d.flashMode = true ∧ d.rbit Reg.NVM_STAT 0 = true ∧ d.clocked = true) ∧
  (let h : SesFrame := ⟨.usb, 0, true⟩
   let bs : List Byte := (List.replicate 1056 0 : List Byte)
   let r : Nat := 3
   let k : Nat := 0
   let c : Nat := 0
   let need := fun (ss : List Nat) => ss.foldl (fun n k => max n (sectorRole k)) 2
   let prog := sectorsTouched c ((bs.length + 31) / 32)
   let d : Dev := flashDev
   d.sv.role = some r ∧ d.sv.link = some h.t ∧ h.macOk = true ∧ h.seq.toNat = (d.sv.seq + 1) % 65536 ∧ 1 ≤ r ∧
     need prog ≤ r ∧ d.flashMode = true ∧ d.rbit Reg.NVM_STAT 0 = false ∧
     (bs.length = 0 ∨ 1024 < bs.length ∨ bs.length % 32 ≠ 0 ∨ c % 32 ≠ 0) ∧ d.clocked = true) ∧
  (let h : SesFrame := ⟨.usb, 0, true⟩
   let bs : List Byte := (List.replicate 1024 0 : List Byte)
   let r : Nat := 3
   let k : Nat := 0
   let c : Nat := 0
   let need := fun (ss : List Nat) => ss.foldl (fun n k => max n (sectorRole k)) 2
   let prog := sectorsTouched c ((bs.length + 31) / 32)
   let d : Dev := flashDev
   d.sv.role = some r ∧ d.sv.link = some h.t ∧ h.macOk = true ∧ h.seq.toNat = (d.sv.seq + 1) % 65536 ∧ 1 ≤ r ∧
     need prog ≤ r ∧ d.flashMode = true ∧ d.rbit Reg.NVM_STAT 0 = false ∧ 1 ≤ bs.length ∧ bs.length ≤ 1024 ∧
     bs.length % 32 = 0 ∧ c % 32 = 0 ∧ firstRefusal d.sesRefusal prog ≠ 0 ∧ d.clocked = true) ∧
  (let h : SesFrame := ⟨.usb, 0, true⟩
   let bs : List Byte := (List.replicate 1024 0 : List Byte)
   let r : Nat := 3
   let k : Nat := 0
   let c : Nat := 0x7FFC00
   let need := fun (ss : List Nat) => ss.foldl (fun n k => max n (sectorRole k)) 2
   let prog := sectorsTouched c ((bs.length + 31) / 32)
   let d : Dev := flashDev
   d.sv.role = some r ∧ d.sv.link = some h.t ∧ h.macOk = true ∧ h.seq.toNat = (d.sv.seq + 1) % 65536 ∧ 1 ≤ r ∧
     need prog ≤ r ∧ d.flashMode = true ∧ d.rbit Reg.NVM_STAT 0 = false ∧ 1 ≤ bs.length ∧ bs.length ≤ 1024 ∧
     bs.length % 32 = 0 ∧ c % 32 = 0 ∧ firstRefusal d.sesRefusal prog = 0 ∧ d.gateRefusal ≠ 0 ∧ d.clocked = true) ∧
  (let h : SesFrame := ⟨.usb, 0, true⟩
   let bs : List Byte := (List.replicate 1024 0 : List Byte)
   let r : Nat := 3
   let k : Nat := 0
   let c : Nat := 0x7FFC00
   let need := fun (ss : List Nat) => ss.foldl (fun n k => max n (sectorRole k)) 2
   let prog := sectorsTouched c ((bs.length + 31) / 32)
   let d : Dev := (flashDev.setRbit Reg.THM_STAT 8 true)
   d.sv.role = some r ∧ d.sv.link = some h.t ∧ h.macOk = true ∧ h.seq.toNat = (d.sv.seq + 1) % 65536 ∧ 1 ≤ r ∧
     need prog ≤ r ∧ d.flashMode = true ∧ d.rbit Reg.NVM_STAT 0 = false ∧ 1 ≤ bs.length ∧ bs.length ≤ 1024 ∧
     bs.length % 32 = 0 ∧ c % 32 = 0 ∧ firstRefusal d.sesRefusal prog = 0 ∧ d.gateRefusal = 0 ∧ d.clocked = true) ∧
  (let h : SesFrame := ⟨.usb, 0, true⟩
   let r : Nat := 3
   let d : Dev := (sesDev r)
   d.sv.role = some r ∧ d.sv.link = some h.t ∧ h.macOk = true ∧ h.seq.toNat = (d.sv.seq + 1) % 65536 ∧ 1 ≤ r ∧
     3 ≤ r ∧ d.flashMode = false ∧ d.clocked = true) ∧
  (let h : SesFrame := ⟨.usb, 0, true⟩
   let r : Nat := 3
   let fuses : List (BitVec 9 × Word) := ([] : List (BitVec 9 × Word))
   let struck : List (BitVec 18 × Bool) := ([] : List (BitVec 18 × Bool))
   let d : Dev := flashDev
   let other := !d.rbit Reg.NVM_SLOT 0
   let dv := d.meets fuses struck
   let good := (dv.imgSlotOk other && (d.polSlot (d.slotBytes other)).isSome) = true
   d.sv.role = some r ∧ d.sv.link = some h.t ∧ h.macOk = true ∧ h.seq.toNat = (d.sv.seq + 1) % 65536 ∧ 1 ≤ r ∧
     3 ≤ r ∧ d.flashMode = true ∧ ¬good ∧ d.clocked = true) ∧
  (let h : SesFrame := ⟨.usb, 0, true⟩
   let r : Nat := 3
   let d : Dev := flashDev
   d.sv.role = some r ∧ d.sv.link = some h.t ∧ h.macOk = true ∧ h.seq.toNat = (d.sv.seq + 1) % 65536 ∧ 1 ≤ r ∧
     3 ≤ r ∧ d.flashMode = true ∧ d.newest = none ∧ d.clocked = true) ∧
  (let h : SesFrame := ⟨.usb, 0, true⟩
   let r : Nat := 3
   let struck : List (BitVec 18 × Bool) := ([] : List (BitVec 18 × Bool))
   let z := false
   let d : Dev := (flashDev.setFbytes 0x100000 [0x31, 0x4E, 0x57, 0x47])
   let dr := d.meets [] struck
   d.sv.role = some r ∧ d.sv.link = some h.t ∧ h.macOk = true ∧ h.seq.toNat = (d.sv.seq + 1) % 65536 ∧ 1 ≤ r ∧
     3 ≤ r ∧ d.flashMode = true ∧ d.newest = some z ∧ dr.imgSlotOk (!z) = false ∧ d.clocked = true) ∧
  (let h : SesFrame := ⟨.usb, 0, true⟩
   let r : Nat := 3
   let d : Dev := (sesDev r)
   let entry := d.fld Reg.DST_MODE 11 8
   d.sv.role = some r ∧ d.sv.link = some h.t ∧ h.macOk = true ∧ h.seq.toNat = (d.sv.seq + 1) % 65536 ∧ 1 ≤ r ∧
     3 ≤ r ∧ (d.mode ≠ 10 ∨ entry ≠ 3) ∧ d.clocked = true) ∧
  (let h : SesFrame := ⟨.usb, 0, true⟩
   let r : Nat := 3
   let x : BitVec 24 := 0
   let y : BitVec 24 := 0
   let d : Dev := flashDev
   let entry := d.fld Reg.DST_MODE 11 8
   let g := fun o => d.byte (x.toNat + o)
   let p := fun o => d.byte (y.toNat + o)
   let runs := (d.imageOk g && decide (sha256 (bytesBy p 0 2688) = bytesBy g 0x18 32) && policySig g p &&
     policyEnt p) = true
   d.sv.role = some r ∧ d.sv.link = some h.t ∧ h.macOk = true ∧ h.seq.toNat = (d.sv.seq + 1) % 65536 ∧ 1 ≤ r ∧
     3 ≤ r ∧ d.mode = 10 ∧ entry = 3 ∧ ¬runs ∧ d.clocked = true) := by
  refine ⟨?_, ?_, ?_, ?_, ?_, ?_, ?_, ?_, ?_, ?_, ?_, ?_, ?_, ?_, ?_, ?_, ?_, ?_, ?_, ?_, ?_, ?_, ?_, ?_, ?_, ?_,
    ?_, ?_, ?_, ?_, ?_, ?_, ?_, ?_, ?_, ?_, ?_, ?_, ?_, ?_, ?_, ?_, ?_, ?_, ?_, ?_, ?_, ?_, ?_, ?_, ?_, ?_, ?_, ?_,
    ?_, ?_⟩
  · decide +kernel
  · decide +kernel
  · decide +kernel
  · simp -zeta only [readsClean_iff]; decide +kernel
  · decide +kernel
  · decide +kernel
  · decide +kernel
  · decide +kernel
  · decide +kernel
  · decide +kernel
  · decide +kernel
  · decide +kernel
  · decide +kernel
  · decide +kernel
  · simp -zeta only [Dev.settled, quiet_iff, noNotice_iff]; decide +kernel
  · decide +kernel
  · decide +kernel
  · decide +kernel
  · decide +kernel
  · decide +kernel
  · decide +kernel
  · decide +kernel
  · decide +kernel
  · decide +kernel
  · decide +kernel
  · decide +kernel
  · decide +kernel
  · decide +kernel
  · decide +kernel
  · decide +kernel
  · decide +kernel
  · decide +kernel
  · decide +kernel
  · decide +kernel
  · decide +kernel
  · decide +kernel
  · decide +kernel
  · decide +kernel
  · decide +kernel
  · decide +kernel
  · decide +kernel
  · decide +kernel
  · decide +kernel
  · decide +kernel
  · decide +kernel
  · decide +kernel
  · decide +kernel
  · decide +kernel
  · decide +kernel
  · decide +kernel
  · decide +kernel
  · decide +kernel
  · decide +kernel
  · decide +kernel
  · decide +kernel
  · decide +kernel

theorem witness_LinkFrames :
  (let l : Fin 18 := 17
   let st := Reg.LNK_STAT l
   let d : Dev := (dev0.modLink l fun z => { z with busOff := true })
   let x := d.link l
   (x.busOff = true ∨ (d.linkEn l = false ∧ (d.rbit st 0 = false ∨ x.closing = false))) ∧ d.clocked = true) ∧
  (let l : Fin 18 := 1
   let r : RxFrame := { frame0 with data := List.replicate 13 0x55 }
   let st := Reg.LNK_STAT l
   let uart := l.val = 12 ∨ l.val = 13
   let d : Dev := (dev0.setRbit (Reg.LNK_CTL l) 0 true)
   let x := d.link l
   let live := x.busOff = false ∧ (d.linkEn l = true ∨ (d.rbit st 0 = true ∧ x.closing = true))
   let fails := r.ok = false ∨ (l.val < 2 ∧ (r.data.length < 14 ∨ 1536 < r.data.length)) ∨ (2 ≤ l.val ∧
     l.val < 6 ∧ bitOf r.info 30 = true ∧ d.rbit (Reg.CAN_CFG l) 0 = false)
   live ∧ ¬uart ∧ fails ∧ d.clocked = true) ∧
  (let l : Fin 18 := 1
   let r : RxFrame := { frame0 with data := List.replicate 14 0x55 }
   let uart := l.val = 12 ∨ l.val = 13
   let d : Dev := (dev0.setRbit (Reg.LNK_CTL l) 0 true)
   let x := d.link l
   let fails := r.ok = false ∨ (l.val < 2 ∧ (r.data.length < 14 ∨ 1536 < r.data.length)) ∨ (2 ≤ l.val ∧
     l.val < 6 ∧ bitOf r.info 30 = true ∧ d.rbit (Reg.CAN_CFG l) 0 = false)
   let taken : Option (Nat × Word) := if l.val < 2 then if l.val = 0 ∧
     d.steered r.data = true then none else (d.ethAccept l r.data).map fun f => (f,
     BitVec.ofNat 32 (256 * ((r.data[12]?).getD 0).toNat + ((r.data[13]?).getD 0).toNat)) else if l.val < 6 ∧
     d.canAccept l r.info = false then none else some (r.flags.toNat, r.info)
   x.busOff = false ∧ d.linkEn l = true ∧ ¬uart ∧ ¬fails ∧ taken = none ∧ d.clocked = true) ∧
  (let l : Fin 18 := 17
   let r : RxFrame := { frame0 with data := List.replicate 2049 0x55 }
   let fl : Nat := 0
   let info : Word := 0
   let st := Reg.LNK_STAT l
   let uart := l.val = 12 ∨ l.val = 13
   let d : Dev := (dev0.setRbit (Reg.LNK_CTL l) 0 true)
   let x := d.link l
   let live := x.busOff = false ∧ (d.linkEn l = true ∨ (d.rbit st 0 = true ∧ x.closing = true))
   let fails := r.ok = false ∨ (l.val < 2 ∧ (r.data.length < 14 ∨ 1536 < r.data.length)) ∨ (2 ≤ l.val ∧
     l.val < 6 ∧ bitOf r.info 30 = true ∧ d.rbit (Reg.CAN_CFG l) 0 = false)
   let taken : Option (Nat × Word) := if l.val < 2 then if l.val = 0 ∧
     d.steered r.data = true then none else (d.ethAccept l r.data).map fun f => (f,
     BitVec.ofNat 32 (256 * ((r.data[12]?).getD 0).toNat + ((r.data[13]?).getD 0).toNat)) else if l.val < 6 ∧
     d.canAccept l r.info = false then none else some (r.flags.toNat, r.info)
   live ∧ ¬uart ∧ ¬fails ∧ taken = some (fl, info) ∧ 2048 < r.data.length ∧ d.clocked = true) ∧
  (let l : Fin 18 := 17
   let r : RxFrame := frame0
   let fl : Nat := 0
   let info : Word := 0
   let st := Reg.LNK_STAT l
   let uart := l.val = 12 ∨ l.val = 13
   let d : Dev := ((dev0.setRbit (Reg.LNK_CTL l) 0 true).setReg (Reg.SKN_CUT (reqLink l / 32)) 0xFFFFFFFF)
   let x := d.link l
   let live := x.busOff = false ∧ (d.linkEn l = true ∨ (d.rbit st 0 = true ∧ x.closing = true))
   let fails := r.ok = false ∨ (l.val < 2 ∧ (r.data.length < 14 ∨ 1536 < r.data.length)) ∨ (2 ≤ l.val ∧
     l.val < 6 ∧ bitOf r.info 30 = true ∧ d.rbit (Reg.CAN_CFG l) 0 = false)
   let taken : Option (Nat × Word) := if l.val < 2 then if l.val = 0 ∧
     d.steered r.data = true then none else (d.ethAccept l r.data).map fun f => (f,
     BitVec.ofNat 32 (256 * ((r.data[12]?).getD 0).toNat + ((r.data[13]?).getD 0).toNat)) else if l.val < 6 ∧
     d.canAccept l r.info = false then none else some (r.flags.toNat, r.info)
   live ∧ ¬uart ∧ ¬fails ∧ taken = some (fl, info) ∧ r.data.length ≤ 2048 ∧ d.isCut (reqLink l) = true ∧
     d.clocked = true) ∧
  (let l : Fin 18 := 17
   let r : RxFrame := frame0
   let fl : Nat := 0
   let info : Word := 0
   let st := Reg.LNK_STAT l
   let uart := l.val = 12 ∨ l.val = 13
   let d : Dev := (dev0.setRbit (Reg.LNK_CTL l) 0 true)
   let x := d.link l
   let hn := d.fld (Reg.LNK_CTL l) 15 8
   let live := x.busOff = false ∧ (d.linkEn l = true ∨ (d.rbit st 0 = true ∧ x.closing = true))
   let fails := r.ok = false ∨ (l.val < 2 ∧ (r.data.length < 14 ∨ 1536 < r.data.length)) ∨ (2 ≤ l.val ∧
     l.val < 6 ∧ bitOf r.info 30 = true ∧ d.rbit (Reg.CAN_CFG l) 0 = false)
   let taken : Option (Nat × Word) := if l.val < 2 then if l.val = 0 ∧
     d.steered r.data = true then none else (d.ethAccept l r.data).map fun f => (f,
     BitVec.ofNat 32 (256 * ((r.data[12]?).getD 0).toNat + ((r.data[13]?).getD 0).toNat)) else if l.val < 6 ∧
     d.canAccept l r.info = false then none else some (r.flags.toNat, r.info)
   live ∧ ¬uart ∧ ¬fails ∧ taken = some (fl, info) ∧ r.data.length ≤ 2048 ∧ d.isCut (reqLink l) = false ∧
     (d.bufferFull l = true ∨ d.hankAccepts (reqLink l) hn = false) ∧ d.clocked = true) ∧
  (let l : Fin 18 := 17
   let r : RxFrame := frame0
   let fl : Nat := 0
   let info : Word := 0
   let st := Reg.LNK_STAT l
   let uart := l.val = 12 ∨ l.val = 13
   let stamped := l.val ≠ 6 ∧ l.val ≠ 7
   let words := recordWords l fl info (if stamped then r.tsSec else 0) (if stamped then r.tsNs else 0) r.data
   let n := 4 * words.length
   let d : Dev := (((dev0.setRbit (Reg.LNK_CTL l) 0 true).setFld (Reg.LNK_CTL l) 15 8 255).setHank 255 ⟨16383,
     reqLink l, 0, 1, true, 0, 0, 945, 0⟩)
   let x := d.link l
   let hn := d.fld (Reg.LNK_CTL l) 15 8
   let h := d.hank hn
   let live := x.busOff = false ∧ (d.linkEn l = true ∨ (d.rbit st 0 = true ∧ x.closing = true))
   let fails := r.ok = false ∨ (l.val < 2 ∧ (r.data.length < 14 ∨ 1536 < r.data.length)) ∨ (2 ≤ l.val ∧
     l.val < 6 ∧ bitOf r.info 30 = true ∧ d.rbit (Reg.CAN_CFG l) 0 = false)
   let taken : Option (Nat × Word) := if l.val < 2 then if l.val = 0 ∧
     d.steered r.data = true then none else (d.ethAccept l r.data).map fun f => (f,
     BitVec.ofNat 32 (256 * ((r.data[12]?).getD 0).toNat + ((r.data[13]?).getD 0).toNat)) else if l.val < 6 ∧
     d.canAccept l r.info = false then none else some (r.flags.toNat, r.info)
   live ∧ ¬uart ∧ ¬fails ∧ taken = some (fl, info) ∧ r.data.length ≤ 2048 ∧ d.isCut (reqLink l) = false ∧
     d.bufferFull l = false ∧ d.hankAccepts (reqLink l) hn = true ∧ h.kind = 1 ∧ h.free < n ∧ d.clocked = true) ∧
  (let l : Fin 18 := 17
   let r : RxFrame := frame0
   let fl : Nat := 0
   let info : Word := 0
   let st := Reg.LNK_STAT l
   let uart := l.val = 12 ∨ l.val = 13
   let stamped := l.val ≠ 6 ∧ l.val ≠ 7
   let words := recordWords l fl info (if stamped then r.tsSec else 0) (if stamped then r.tsNs else 0) r.data
   let n := 4 * words.length
   let d : Dev := (((dev0.setRbit (Reg.LNK_CTL l) 0 true).setFld (Reg.LNK_CTL l) 15 8 255).setHank 255 ⟨16383,
     reqLink l, 0, 1, true, 0, 0, 944, 0⟩)
   let x := d.link l
   let hn := d.fld (Reg.LNK_CTL l) 15 8
   let h := d.hank hn
   let live := x.busOff = false ∧ (d.linkEn l = true ∨ (d.rbit st 0 = true ∧ x.closing = true))
   let fails := r.ok = false ∨ (l.val < 2 ∧ (r.data.length < 14 ∨ 1536 < r.data.length)) ∨ (2 ≤ l.val ∧
     l.val < 6 ∧ bitOf r.info 30 = true ∧ d.rbit (Reg.CAN_CFG l) 0 = false)
   let taken : Option (Nat × Word) := if l.val < 2 then if l.val = 0 ∧
     d.steered r.data = true then none else (d.ethAccept l r.data).map fun f => (f,
     BitVec.ofNat 32 (256 * ((r.data[12]?).getD 0).toNat + ((r.data[13]?).getD 0).toNat)) else if l.val < 6 ∧
     d.canAccept l r.info = false then none else some (r.flags.toNat, r.info)
   let m := min n (h.bytes - h.wr)
   live ∧ ¬uart ∧ ¬fails ∧ taken = some (fl, info) ∧ r.data.length ≤ 2048 ∧ d.isCut (reqLink l) = false ∧
     d.bufferFull l = false ∧ d.hankAccepts (reqLink l) hn = true ∧ h.kind = 1 ∧ n ≤ h.free ∧ d.quiet ∧
     h.wr < h.bytes ∧ bankOf h.start = bankOf (h.start + h.bytes - 1) ∧
     d.blockedLine (reqLink l) (h.start + h.wr) m = none ∧ d.blockedLine (reqLink l) h.start (n - m) = none ∧
     d.clocked = true) ∧
  (let l : Fin 18 := 13
   let r : RxFrame := { frame0 with data := [0xFF] }
   let st := Reg.LNK_STAT l
   let uart := l.val = 12 ∨ l.val = 13
   let d : Dev := ((dev0.setRbit (Reg.LNK_CTL l) 0 true).modLink l fun z => { z with uart := List.replicate 62 0 })
   let x := d.link l
   let live := x.busOff = false ∧ (d.linkEn l = true ∨ (d.rbit st 0 = true ∧ x.closing = true))
   live ∧ uart ∧ r.data ≠ [] ∧ x.uart.length + r.data.length ≤ 63 ∧ d.clocked = true) ∧
  (let l : Fin 18 := 13
   let st := Reg.LNK_STAT l
   let uart := l.val = 12 ∨ l.val = 13
   let d : Dev := (dev0.setRbit (Reg.LNK_CTL l) 0 true)
   let x := d.link l
   let live := x.busOff = false ∧ (d.linkEn l = true ∨ (d.rbit st 0 = true ∧ x.closing = true))
   live ∧ uart ∧ x.uart.length ≤ 63 ∧ d.quiet ∧ d.clocked = true) ∧
  (let l : Fin 18 := 17
   let d : Dev := dev0
   14 ≤ l.val ∧ d.clocked = true) ∧
  (let l : Fin 18 := 13
   let d : Dev := (dev0.modLink l fun z => { z with reading := true })
   let x := d.link l
   l.val < 14 ∧ x.reading = true ∧ d.clocked = true) ∧
  (let l : Fin 18 := 13
   let d : Dev := dev0
   let x := d.link l
   l.val < 14 ∧ x.reading = false ∧ d.mayTransmit l = false ∧ d.clocked = true) ∧
  (let l : Fin 18 := 13
   let d : Dev := (((dev0.setRbit (Reg.LNK_CTL l) 0 true).setRbit (Reg.LNK_CTL l) 2 true).setReg (Reg.SKN_CUT
     (reqLink l / 32)) 0xFFFFFFFF)
   let x := d.link l
   l.val < 14 ∧ x.reading = false ∧ d.mayTransmit l = true ∧ d.isCut (reqLink l) = true ∧ d.clocked = true) ∧
  (let l : Fin 18 := 13
   let d : Dev := ((dev0.setRbit (Reg.LNK_CTL l) 0 true).setRbit (Reg.LNK_CTL l) 2 true)
   let x := d.link l
   let a := d.descAddr l
   l.val < 14 ∧ x.reading = false ∧ d.mayTransmit l = true ∧ d.isCut (reqLink l) = false ∧ a + 16 ≤ 0x1000000 ∧
     d.drawsOf (bankOf a) = [] ∧ (∀ i < 4, d.ecc (a + 4 * i) = .good) ∧ d.clocked = true) ∧
  (let l : Fin 18 := 17
   let res : BitVec 2 := 0
   let d : Dev := dev0
   let x := d.link l
   (x.sending = false ∨ res = 3) ∧ d.clocked = true) ∧
  (let l : Fin 18 := 17
   let res : BitVec 2 := 0
   let d : Dev := (dev0.modLink l fun z => { z with sending := true })
   let x := d.link l
   x.sending = true ∧ res ≠ 3 ∧ d.fld (Reg.LNK_TXQ l) 31 28 ≤ 8 ∧ d.settled ∧ d.clocked = true) ∧
  (let l : Fin 18 := 17
   let d : Dev := dev0
   (∀ b, ∀ y ∈ d.drawsOf b, y.req = reqLink l) ∧ (∀ k, (d.whorl k).notice = false) ∧ d.clocked = true) := by
  refine ⟨?_, ?_, ?_, ?_, ?_, ?_, ?_, ?_, ?_, ?_, ?_, ?_, ?_, ?_, ?_, ?_, ?_, ?_⟩
  · decide +kernel
  · decide +kernel
  · decide +kernel
  · decide +kernel
  · decide +kernel
  · decide +kernel
  · decide +kernel
  · simp only [quiet_iff]; decide +kernel
  · decide +kernel
  · simp -zeta only [quiet_iff]; decide +kernel
  · decide +kernel
  · decide +kernel
  · decide +kernel
  · decide +kernel
  · decide +kernel
  · decide +kernel
  · simp -zeta only [Dev.settled, quiet_iff, noNotice_iff]; decide +kernel
  · simp -zeta only [noNotice_iff, draws_all_iff]; decide +kernel

theorem witness_LinkStatesLandsHspi :
  (let i : Fin 4 := 3
   let c := 2 + i.val
   let d : Dev := (dev0.setRbit (Reg.CAN_CFG (2 + i.val)) 2 true)
   d.rbit (Reg.CAN_CFG c) 2 = true ∧ d.clocked = true) ∧
  (let i : Fin 4 := 3
   let c := 2 + i.val
   let d : Dev := dev0
   d.rbit (Reg.CAN_CFG c) 2 = false ∧ d.clocked = true) ∧
  (let l : Fin 18 := 6
   let d : Dev := dev0
   (l.val < 2 ∨ l.val = 6) ∧ d.clocked = true) ∧
  (let l : Fin 18 := 17
   let d : Dev := dev0
   2 ≤ l.val ∧ l.val ≠ 6 ∧ d.clocked = true) ∧
  (let l : Fin 18 := 17
   let d : Dev := dev0
   (l.val < 2 ∨ l.val = 6 ∨ 14 ≤ l.val) ∧ d.clocked = true) ∧
  (let l : Fin 18 := 13
   let d : Dev := dev0
   2 ≤ l.val ∧ l.val < 14 ∧ l.val ≠ 6 ∧ d.clocked = true) ∧
  (let u : Fin 2 := 1
   let k := 12 + u.val
   let d : Dev := dev0
   (d.link k).uart = [] ∧ d.clocked = true) ∧
  (let u : Fin 2 := 1
   let k := 12 + u.val
   let d : Dev := (dev0.modLink k fun z => { z with uart := [0] })
   (d.link k).uart ≠ [] ∧ d.quiet ∧ d.clocked = true) ∧
  (let u : Fin 2 := 1
   let k := 12 + u.val
   let d : Dev := ((dev0.setReg (Reg.SKN_CUT (reqLink k / 32)) 0xFFFFFFFF).modLink k fun z => { z with uart := [0] })
   (d.link k).uart ≠ [] ∧ (d.link k).uart.length ≤ 64 ∧ d.isCut (reqLink k) = true ∧ d.clocked = true) ∧
  (let m : Master := .distaff
   let d : Dev := dev0
   d.mayRead m Reg.ETH_TSEC = true ∧ d.clocked = true) ∧
  (let m : Master := .distaff
   let d : Dev := dev0
   d.admits m ∧ d.clocked = true) ∧
  (let d : Dev := State.reset.dev
   d.clocked = false) ∧
  (let d : Dev := (dev0.setFld Reg.DST_MODE 3 0 10)
   let may := d.rbit Reg.HSPI_RIGHTS
   d.clocked = true ∧ may 0 = false) ∧
  (let d : Dev := (dev0.setRbit Reg.HSPI_RIGHTS 0 true)
   let may := d.rbit Reg.HSPI_RIGHTS
   d.clocked = true ∧ may 0 = true) ∧
  (let a : Word := 0xFFFF00
   let n : Nat := 64
   let d : Dev := (dev0.setRbit Reg.HSPI_RIGHTS 0 true)
   let may := d.rbit Reg.HSPI_RIGHTS
   d.clocked = true ∧ may 0 = true ∧ a.toNat % 4 = 0 ∧ a.toNat + 4 * n ≤ 0x1000000 ∧ d.readsClean 111) ∧
  (let a : Word := 0x34020004
   let w : Word := 0
   let d : Dev := (dev0.setRbit Reg.HSPI_RIGHTS 0 true)
   let may := d.rbit Reg.HSPI_RIGHTS
   d.clocked = true ∧ may 0 = true ∧ a.toNat % 4 = 0 ∧ 0x20000000 ≤ a.toNat ∧ a.toNat < 0x40000000 ∧
     d.readReg a.toNat = (d, some w)) ∧
  (let a : Word := 0x3FFFFFFC
   let d : Dev := (dev0.setRbit Reg.HSPI_RIGHTS 0 true)
   let may := d.rbit Reg.HSPI_RIGHTS
   d.clocked = true ∧ may 0 = true ∧ a.toNat % 4 = 0 ∧ 0x20000000 ≤ a.toNat ∧ a.toNat < 0x40000000 ∧
     (d.readReg a.toNat).2 = none) ∧
  (let a : Word := 0xFFFFFFFF
   let d : Dev := (dev0.setRbit Reg.HSPI_RIGHTS 0 true)
   let may := d.rbit Reg.HSPI_RIGHTS
   d.clocked = true ∧ may 0 = true ∧ ((0x1000000 ≤ a.toNat ∧ a.toNat < 0x10000000) ∨ (0x10800000 ≤ a.toNat ∧
     a.toNat < 0x20000000) ∨ 0x40000000 ≤ a.toNat)) ∧
  (let a : Word := 0
   let d : Dev := dev0
   let may := d.rbit Reg.HSPI_RIGHTS
   d.clocked = true ∧ may 1 = false ∧ a.toNat ≠ Reg.SNL_MREQ) ∧
  (let w : Word := 1
   let d : Dev := dev0
   let may := d.rbit Reg.HSPI_RIGHTS
   d.clocked = true ∧ may 2 = false ∧ bitsOf w 3 0 ≠ 0) ∧
  (let d : Dev := ((dev0.setRbit Reg.HSPI_RIGHTS 1 true).setFld Reg.DST_MODE 3 0 4)
   let may := d.rbit Reg.HSPI_RIGHTS
   d.clocked = true ∧ may 1 = true ∧ d.cfgMode = true) ∧
  (let a : Word := 0xFFFFFC
   let d : Dev := (dev0.setRbit Reg.HSPI_RIGHTS 1 true)
   let may := d.rbit Reg.HSPI_RIGHTS
   d.clocked = true ∧ may 1 = true ∧ a.toNat % 4 = 0 ∧ d.settled ∧ d.storeRefusal 111 a.toNat 4 false = none ∧
     d.blockedLine 111 a.toNat 4 = none) ∧
  (let a : Word := 0xFFFFFFFF
   let d : Dev := (dev0.setRbit Reg.HSPI_RIGHTS 1 true)
   let may := d.rbit Reg.HSPI_RIGHTS
   d.clocked = true ∧ may 1 = true ∧ ((0x1000000 ≤ a.toNat ∧ a.toNat < 0x20000000) ∨ 0x40000000 ≤ a.toNat)) ∧
  (let d : Dev := dev0
   d.clocked = true) := by
  refine ⟨?_, ?_, ?_, ?_, ?_, ?_, ?_, ?_, ?_, ?_, ?_, ?_, ?_, ?_, ?_, ?_, ?_, ?_, ?_, ?_, ?_, ?_, ?_, ?_⟩
  · decide +kernel
  · decide +kernel
  · decide +kernel
  · decide +kernel
  · decide +kernel
  · decide +kernel
  · decide +kernel
  · simp -zeta only [quiet_iff]; decide +kernel
  · decide +kernel
  · decide +kernel
  · simp -zeta only [Dev.admits]; decide +kernel
  · decide +kernel
  · decide +kernel
  · decide +kernel
  · simp -zeta only [readsClean_iff]; decide +kernel
  · decide +kernel
  · decide +kernel
  · decide +kernel
  · decide +kernel
  · decide +kernel
  · decide +kernel
  · simp -zeta only [Dev.settled, quiet_iff, noNotice_iff]; decide +kernel
  · decide +kernel
  · decide +kernel

end Sys2Proof.Tests
end

section
/-! SUPPORT. The legs of the gate-drive ports (08_gate_drive_ports.md): what an update of one section of one leg
changes, and that it leaves the Skein, the clock, the supplies and every other leg alone. -/

namespace Sys2Proof.Machine

/-! ### Commands that act on the device -/

theorem Gives.of_act {i : Instr} {s : State} {f : Dev → Dev} {P : Dev → Prop} (h : exec i s = s.act f)
    (hp : P (f s.dev)) : Gives i s P := ⟨_, h, rfl, hp⟩

/-- A command of the clocked logic, with the clock running (R19). -/
theorem Gives.of_run {i : Instr} {s : State} {f : Dev → Dev} {P : Dev → Prop} (h : exec i s = s.run f)
    (hc : s.dev.clocked = true) (hp : P (f s.dev)) : Gives i s P := by
  refine .of_act (f := fun d => if d.clocked then f d else d) h ?_
  simpa only [hc, if_true] using hp

theorem Gives.mono {i : Instr} {s : State} {P Q : Dev → Prop} (h : Gives i s P) (hq : ∀ e, P e → Q e) :
    Gives i s Q := by
  obtain ⟨t, ht, hpend, hp⟩ := h
  exact ⟨t, ht, hpend, hq _ hp⟩

theorem exec_idle_of_act {i : Instr} {s : State} {f : Dev → Dev} (h : exec i s = s.act f) (hf : f s.dev = s.dev) :
    exec i s = .next s := by
  rw [h, State.act_eq, hf]; rfl

theorem exec_idle_of_run {i : Instr} {s : State} {f : Dev → Dev} (h : exec i s = s.run f) (hf : f s.dev = s.dev) :
    exec i s = .next s :=
  exec_idle_of_act (f := fun d => if d.clocked then f d else d) h (by simp only [hf, ite_self])

/-! ### The sections of a leg -/

@[simp] theorem otherSec_otherSec (s : Section) : otherSec (otherSec s) = s := by cases s <;> rfl

@[simp] theorem Port.sec_setSec_same (p : Port) (s : Section) (x : Sect) : (p.setSec s x).sec s = x := by
  cases s <;> rfl

@[simp] theorem Port.sec_setSec_other (p : Port) (s : Section) (x : Sect) :
    (p.setSec s x).sec (otherSec s) = p.sec (otherSec s) := by cases s <;> rfl

/-- Both sections conduct. -/
def Port.crossed (p : Port) : Prop := p.h.on = true ∧ p.l.on = true

theorem Port.crossed_iff (p : Port) (s : Section) :
    p.crossed ↔ (p.sec s).on = true ∧ (p.sec (otherSec s)).on = true := by
  cases s
  · exact Iff.rfl
  · exact and_comm

variable (d : Dev) (n : Nat) (s : Section)

theorem Dev.port_modPort (f : Port → Port) (m : Nat) :
    (d.modPort n f).port m = if m = n then f (d.port n) else d.port m := Dev.port_setPort d n m _

@[simp] theorem Dev.port_modPort_same (f : Port → Port) : (d.modPort n f).port n = f (d.port n) :=
  Dev.port_setPort_same d n _

@[simp] theorem Dev.reg_modPort (f : Port → Port) (a : Nat) : (d.modPort n f).reg a = d.reg a := rfl

@[simp] theorem Dev.port_modSec_same (f : Sect → Sect) :
    (d.modSec n s f).port n = (d.port n).setSec s (f ((d.port n).sec s)) := Dev.port_modPort_same d n _

@[simp] theorem Dev.reg_modSec (f : Sect → Sect) (a : Nat) : (d.modSec n s f).reg a = d.reg a := rfl

theorem Dev.sec_modSec_same (f : Sect → Sect) : ((d.modSec n s f).port n).sec s = f ((d.port n).sec s) := by simp

theorem Dev.sec_modSec_other (f : Sect → Sect) :
    ((d.modSec n s f).port n).sec (otherSec s) = (d.port n).sec (otherSec s) := by simp

/-! ### The frame of an operation of one leg -/

/-- Two devices that differ in one leg and the named registers only. -/
structure Dev.legNear (d e : Dev) (n : Nat) (but : List Nat) : Prop where
  sk : e.sk = d.sk
  regs : d.sameRegs e but
  legs : d.keepsLegs e [n]
  now : e.now = d.now
  su : e.su = d.su
  fl : e.fl = d.fl

variable {d n s} {e f : Dev} {but : List Nat}

theorem Dev.legNear.keeps (h : d.legNear e n but) : d.keeps e but :=
  ⟨fun a => by simp only [Dev.byte, h.sk], h.regs⟩

theorem Dev.legNear.rfl : d.legNear d n but := ⟨by rfl, fun _ _ => by rfl, fun _ _ => by rfl, by rfl, by rfl, by rfl⟩

theorem Dev.legNear.trans (h : d.legNear e n but) (k : e.legNear f n but) : d.legNear f n but where
  sk := k.sk.trans h.sk
  regs a ha := (k.regs a ha).trans (h.regs a ha)
  legs m hm := (k.legs m hm).trans (h.legs m hm)
  now := k.now.trans h.now
  su := k.su.trans h.su
  fl := k.fl.trans h.fl

theorem Dev.legNear.modPort (g : Port → Port) : d.legNear (d.modPort n g) n but where
  sk := by rfl
  regs _ _ := by rfl
  legs m hm := by rw [Dev.port_modPort, if_neg (by simpa using hm)]
  now := by rfl
  su := by rfl
  fl := by rfl

theorem Dev.legNear.modSec (g : Sect → Sect) : d.legNear (d.modSec n s g) n but := .modPort _

theorem Dev.legNear.setReg {a : Nat} (w : Word) (ha : a ∈ but) : d.legNear (d.setReg a w) n but where
  sk := by rfl
  regs b hb := Dev.reg_setReg_other d w fun h => hb (h ▸ ha)
  legs _ _ := by rfl
  now := by rfl
  su := by rfl
  fl := by rfl

theorem Dev.legNear.ite {c : Prop} [Decidable c] (h : d.legNear e n but) (k : d.legNear f n but) :
    d.legNear (if c then e else f) n but := by
  split
  · exact h
  · exact k

/-- Two devices that differ in one section of one leg only. -/
def Dev.onlySec (d e : Dev) (n : Nat) (s : Section) : Prop :=
  (e.port n).sec (otherSec s) = (d.port n).sec (otherSec s) ∧ d.keeps e [] ∧ d.keepsLegs e [n]

theorem Dev.onlySec_modSec (g : Sect → Sect) : d.onlySec (d.modSec n s g) n s :=
  ⟨Dev.sec_modSec_other .., (Dev.legNear.modSec g).keeps, (Dev.legNear.modSec (but := []) g).legs⟩

end Sys2Proof.Machine
end

section
/-! SUPPORT. The gate command at its die (R13, R16, R282, R283, R297): what turning one section off or on does to its
leg, and the turn-offs and turn-ons that a gate command is made of. -/

namespace Sys2Proof.Machine

variable {d e f : Dev} {n : Nat} {s : Section}

/-! ### Addresses -/

theorem pStat_ne_WHL_CTL (n : Nat) : Reg.WHL_CTL n ≠ pStat n := by
  unfold pStat isHv Reg.WHL_CTL Reg.HVP_STAT Reg.LVP_STAT
  split <;> simp_all
  omega

/-! ### A turn-off by command (R283, R296, R297) -/

/-- What a turn-off command makes of its section. -/
def Dev.offSect (d : Dev) (n : Nat) (trip : Bool) (x : Sect) : Sect :=
  let y := { x with cmd := false, floorWait := false, armed := false }
  if !x.on || x.offWait then y
  else if trip && (!isHv n || d.dieBit n (pCfg n) 11) then d.softOff y
  else if trip then d.sunkFull n y
  else if x.young && decide (d.now < x.cmdAt + minPulseTicks n) then { y with offWait := true }
  else d.sunk n y

theorem Dev.cmdOff_eq (trip : Bool) : d.cmdOff n s trip = d.modSec n s (d.offSect n trip) := by rfl

theorem Dev.cmdOff_legNear (trip : Bool) {but : List Nat} : d.legNear (d.cmdOff n s trip) n but :=
  Dev.legNear.modSec (s := s) (d.offSect n trip)

theorem Dev.sec_cmdOff_same (trip : Bool) :
    ((d.cmdOff n s trip).port n).sec s = d.offSect n trip ((d.port n).sec s) := Dev.sec_modSec_same ..

@[simp] theorem Dev.sec_cmdOff_other (trip : Bool) :
    ((d.cmdOff n s trip).port n).sec (otherSec s) = (d.port n).sec (otherSec s) := Dev.sec_modSec_other ..

theorem Dev.cmd_offSect (trip : Bool) (x : Sect) : (d.offSect n trip x).cmd = false := by
  unfold Dev.offSect
  split_ifs <;> rfl

theorem Dev.bad_offSect (trip : Bool) (x : Sect) : (d.offSect n trip x).bad = x.bad := by
  unfold Dev.offSect
  split_ifs <;> rfl

/-- No branch of a turn-off makes a section conduct. -/
theorem Dev.on_of_offSect_on {trip : Bool} {x : Sect} (h : (d.offSect n trip x).on = true) : x.on = true := by
  by_contra hon
  rw [Bool.not_eq_true] at hon
  have hoff : (d.offSect n trip x).on = false := by simp [Dev.offSect, hon]
  rw [hoff] at h
  exact Bool.noConfusion h

/-- The minimum pulse still runs: the section waits for its end (R283). -/
theorem Dev.offSect_young {x : Sect} (hon : x.on = true) (hw : x.offWait = false) (hy : x.young = true)
    (ht : d.now < x.cmdAt + minPulseTicks n) :
    d.offSect n false x = { x with cmd := false, floorWait := false, armed := false, offWait := true } := by
  simp [Dev.offSect, hon, hw, hy, ht]

/-- A plain turn-off past the minimum pulse is immediate (R283). -/
theorem Dev.offSect_plain {x : Sect} (hon : x.on = true) (hw : x.offWait = false)
    (hy : x.young = false ∨ x.cmdAt + minPulseTicks n ≤ d.now) :
    d.offSect n false x = d.sunk n { x with cmd := false, floorWait := false, armed := false } := by
  have ht : (x.young && decide (d.now < x.cmdAt + minPulseTicks n)) = false := by
    rcases hy with hy | hy
    · simp [hy]
    · simp [Nat.not_lt.mpr hy]
  simp only [Dev.offSect, hon, hw, ht]; rfl

/-- A trip-coded turn-off on LV, or on HV with its configuration bit, is soft (R296, R297). -/
theorem Dev.offSect_soft {x : Sect} (hon : x.on = true) (hw : x.offWait = false)
    (hs : 32 ≤ n ∨ d.dieBit n (pCfg n) 11 = true) :
    d.offSect n true x = d.softOff { x with cmd := false, floorWait := false, armed := false } := by
  have hs' : (!isHv n || d.dieBit n (pCfg n) 11) = true := by
    rcases hs with hs | hs
    · simp [isHv, hs]
    · simp [hs]
  simp only [Dev.offSect, hon, hw, hs']; rfl

/-- Any other trip-coded turn-off is at full strength (R297). -/
theorem Dev.offSect_full {x : Sect} (hon : x.on = true) (hw : x.offWait = false) (hn : n < 32)
    (hc : d.dieBit n (pCfg n) 11 = false) :
    d.offSect n true x = d.sunkFull n { x with cmd := false, floorWait := false, armed := false } := by
  have hs : (!isHv n || d.dieBit n (pCfg n) 11) = false := by simp [isHv, hn, hc]
  simp only [Dev.offSect, hon, hw, hs]; rfl

/-! ### A turn-on by command (R282, R285, R295) -/

/-- What a turn-on command and its release of holds may change beside the section: the leg's status word but for its
latch and its retirement, and the bootstrap hold, which may end. -/
structure Dev.eased (d e : Dev) (n : Nat) : Prop where
  near : d.legNear e n [pStat n]
  latched : e.rbit (pStat n) 2 = d.rbit (pStat n) 2
  retired : e.rbit (pStat n) 23 = d.rbit (pStat n) 23
  port : e.port n = d.port n ∨ e.port n = { d.port n with bootHold := false }

theorem Dev.eased.rfl : d.eased d n := ⟨.rfl, by rfl, by rfl, .inl (by rfl)⟩

theorem Dev.eased.trans (h : d.eased e n) (k : e.eased f n) : d.eased f n where
  near := h.near.trans k.near
  latched := k.latched.trans h.latched
  retired := k.retired.trans h.retired
  port := by
    rcases k.port with hk | hk <;> rcases h.port with hp | hp <;> simp [hk, hp]

theorem Dev.eased.setRbit {i : Nat} (b : Bool) (h2 : i ≠ 2) (h23 : i < 23) : d.eased (d.setRbit (pStat n) i b) n where
  near := .setReg _ (by simp)
  latched := by rw [Dev.rbit_setRbit _ _ _ _ _ (by omega), if_neg (by omega)]
  retired := by rw [Dev.rbit_setRbit _ _ _ _ _ (by omega), if_neg (by omega)]
  port := .inl (by rfl)

theorem Dev.eased.endBootHold : d.eased (d.modPort n fun p => { p with bootHold := false }) n where
  near := .modPort _
  latched := by rfl
  retired := by rfl
  port := .inr (by simp)

theorem Dev.eased.when (b : Bool) {g : Dev → Dev} (h : d.eased (g d) n) : d.eased (d.when b g) n := by
  cases b
  · exact .rfl
  · exact h

theorem Dev.endHolds_eased : d.eased (d.endHolds n s) n := by
  have h5 : d.eased (d.when (!(d.port n).otBad) fun d => d.setRbit (pStat n) 5 false) n :=
    .when _ (.setRbit _ (by decide) (by decide))
  unfold Dev.endHolds
  split
  · exact h5.trans (.when _ (.setRbit _ (by split <;> decide) (by split <;> decide)))
  · exact ((h5.trans (.when _ (.setRbit _ (by decide) (by decide)))).trans
      (.when _ (.setRbit _ (by decide) (by decide)))).trans (.when _ .endBootHold)

theorem Dev.eased.sec (h : d.eased e n) (t : Section) : (e.port n).sec t = (d.port n).sec t := by
  rcases h.port with hp | hp <;> rw [hp]
  cases t <;> rfl

theorem Dev.heldOff_eq : d.heldOff n s =
    (!d.su.ready || (d.port n).hold || d.rbit (pStat n) 2 || d.rbit (pStat n) 23 || (d.port n).otBad ||
      (if isHv n then ((d.port n).sec s).bad
       else (d.port n).gdBad || (d.port n).busBad ||
        ((d.port n).bootHold && (decide (s = .h) || !d.rbit (Reg.WHL_CTL n) 1)))) := by rfl

/-- Nothing that a turn-on command changes of the die's state holds a section off that was not held off. -/
theorem Dev.eased.heldOff (h : d.eased e n) (hh : d.heldOff n s = false) : e.heldOff n s = false := by
  have hctl : e.rbit (Reg.WHL_CTL n) 1 = d.rbit (Reg.WHL_CTL n) 1 := by
    unfold Dev.rbit
    rw [h.near.regs _ (by simpa using pStat_ne_WHL_CTL n)]
  rw [Dev.heldOff_eq] at hh ⊢
  rw [h.near.su, h.latched, h.retired, hctl, h.sec s]
  rcases h.port with hp | hp <;> rw [hp]
  · exact hh
  · split_ifs at hh ⊢ <;> simp_all

/-- A turn-on or turn-off of a section leaves what holds a section off. -/
theorem Dev.heldOff_modSec {t : Section} {g : Sect → Sect}
    (hg : (g ((d.port n).sec t)).bad = ((d.port n).sec t).bad) :
    (d.modSec n t g).heldOff n s = d.heldOff n s := by
  have hbad : (((d.port n).setSec t (g ((d.port n).sec t))).sec s).bad = ((d.port n).sec s).bad := by
    cases s <;> cases t <;> simp_all [Port.setSec, Port.sec]
  rw [Dev.heldOff_eq, Dev.heldOff_eq, Dev.port_modSec_same, hbad]
  cases t <;> rfl

theorem Dev.abortTest_of_none (h : (d.port n).test = none) : d.abortTest n = d := by simp [Dev.abortTest, h]

theorem Dev.abortTest_legNear : d.legNear (d.abortTest n) n [pStat n] := by
  unfold Dev.abortTest
  split
  · exact ((Dev.legNear.modPort _).trans (.setReg _ (by simp))).trans (.setReg _ (by simp))
  · exact .rfl

@[simp] theorem Dev.sec_abortTest (t : Section) : ((d.abortTest n).port n).sec t = (d.port n).sec t := by
  unfold Dev.abortTest
  split
  · simp only [Dev.setFld, Dev.setRbit, Dev.port_setReg, Dev.port_modPort_same]
    cases t <;> rfl
  · rfl

/-- A section that has its turn-on command. -/
def Dev.onSect (d : Dev) (x : Sect) : Sect :=
  { x with cmd := true, cmdAt := d.now, armed := false, clamp := false,
           win := x.win.map fun w => { w with left := w.left - 1 } }

/-- The device when the command has reached the section, before anything turns on. -/
def Dev.onSeen (d : Dev) (n : Nat) (s : Section) : Dev :=
  ((d.cmdSeen n s).modSec n s fun x =>
    { x with win := x.win.map fun w => { w with left := w.left - 1 } }).endHolds n s

theorem Dev.cmdOn_eq : d.cmdOn n s =
    if (d.onSeen n s).heldOff n s then d.onSeen n s else (d.onSeen n s).turnOn n s := by rfl

theorem Dev.onSeen_legNear : d.legNear (d.onSeen n s) n [pStat n] :=
  ((Dev.abortTest_legNear.trans (.modSec _)).trans (.modSec _)).trans Dev.endHolds_eased.near

theorem Dev.sec_onSeen_same : ((d.onSeen n s).port n).sec s = d.onSect ((d.port n).sec s) := by
  rw [Dev.onSeen, Dev.endHolds_eased.sec, Dev.sec_modSec_same, Dev.cmdSeen, Dev.sec_modSec_same, Dev.sec_abortTest]
  rfl

theorem Dev.sec_onSeen_other : ((d.onSeen n s).port n).sec (otherSec s) = (d.port n).sec (otherSec s) := by
  rw [Dev.onSeen, Dev.endHolds_eased.sec, Dev.sec_modSec_other, Dev.cmdSeen, Dev.sec_modSec_other, Dev.sec_abortTest]

theorem Dev.onSeen_heldOff (ht : (d.port n).test = none) (hh : d.heldOff n s = false) :
    (d.onSeen n s).heldOff n s = false := by
  apply Dev.endHolds_eased.heldOff
  rw [Dev.heldOff_modSec rfl, Dev.cmdSeen, Dev.heldOff_modSec rfl, Dev.abortTest_of_none ht, hh]

theorem Dev.floorPassed_congr (h : e.now = d.now) (x : Sect) : e.floorPassed n x = d.floorPassed n x := by
  simp [Dev.floorPassed, h]

theorem Dev.floorPassed_on {x : Sect} (h : d.floorPassed n x = true) : x.on = false := by
  simp only [Dev.floorPassed, Bool.and_eq_true, Bool.not_eq_true'] at h
  obtain ⟨⟨hon, -⟩, -⟩ := h
  exact hon

/-- A section that turns off now has its whole floor before it (R282). -/
theorem Dev.floorPassed_sunk (x : Sect) : d.floorPassed n (d.sunk n x) = false := by
  have hf : 0 < floorTicks n := by unfold floorTicks; split <;> decide
  have ht : ¬ d.now + floorTicks n ≤ d.now := by omega
  simp [Dev.floorPassed, Dev.sunk, ht]

theorem Dev.turnOn_legNear {but : List Nat} : d.legNear (d.turnOn n s) n but :=
  .ite .rfl (.ite (.modSec _) (.modSec _))

@[simp] theorem Dev.sec_turnOn_other : ((d.turnOn n s).port n).sec (otherSec s) = (d.port n).sec (otherSec s) := by
  unfold Dev.turnOn
  split_ifs
  · rfl
  · exact Dev.sec_modSec_other ..
  · exact Dev.sec_modSec_other ..

/-- A section that is off conducts once the floor of the other section has passed, and waits for it otherwise. -/
theorem Dev.sec_turnOn_same (hon : ((d.port n).sec s).on = false) :
    ((d.turnOn n s).port n).sec s =
      if d.floorPassed n ((d.port n).sec (otherSec s)) then
        { (d.port n).sec s with on := true, floorWait := false, young := true, offWait := false, full := false }
      else { (d.port n).sec s with floorWait := true } := by
  unfold Dev.turnOn
  rw [if_neg (by simp [hon])]
  split
  · exact Dev.sec_modSec_same ..
  · exact Dev.sec_modSec_same ..

theorem Dev.cmd_turnOn : (((d.turnOn n s).port n).sec s).cmd = ((d.port n).sec s).cmd := by
  cases hon : ((d.port n).sec s).on
  · rw [Dev.sec_turnOn_same hon]; split <;> rfl
  · rw [Dev.turnOn, if_pos hon]

/-- No turn-on makes a section conduct beside the other (R282). -/
theorem Dev.turnOn_crossed (h : ((d.turnOn n s).port n).crossed) : (d.port n).crossed := by
  rw [Port.crossed_iff _ s, Dev.sec_turnOn_other] at h
  obtain ⟨hx, hy⟩ := h
  rw [Port.crossed_iff _ s]
  refine ⟨?_, hy⟩
  by_contra hon
  rw [Bool.not_eq_true] at hon
  have hfloor : ¬ d.floorPassed n ((d.port n).sec (otherSec s)) = true := fun hf => by
    rw [Dev.floorPassed_on hf] at hy; exact Bool.noConfusion hy
  rw [Dev.sec_turnOn_same hon, if_neg hfloor] at hx
  rw [hon] at hx; exact Bool.noConfusion hx

theorem Dev.cmdOn_legNear : d.legNear (d.cmdOn n s) n [pStat n] :=
  .ite Dev.onSeen_legNear (Dev.onSeen_legNear.trans Dev.turnOn_legNear)

@[simp] theorem Dev.sec_cmdOn_other : ((d.cmdOn n s).port n).sec (otherSec s) = (d.port n).sec (otherSec s) := by
  rw [Dev.cmdOn_eq]
  split
  · exact Dev.sec_onSeen_other
  · rw [Dev.sec_turnOn_other, Dev.sec_onSeen_other]

theorem Dev.cmd_cmdOn : (((d.cmdOn n s).port n).sec s).cmd = true := by
  rw [Dev.cmdOn_eq]
  split
  · rw [Dev.sec_onSeen_same]; rfl
  · rw [Dev.cmd_turnOn, Dev.sec_onSeen_same]; rfl

/-- A turn-on command that nothing holds off, at a section that does not conduct. -/
theorem Dev.sec_cmdOn_same (ht : (d.port n).test = none) (hh : d.heldOff n s = false)
    (hon : ((d.port n).sec s).on = false) :
    ((d.cmdOn n s).port n).sec s =
      if d.floorPassed n ((d.port n).sec (otherSec s)) then
        { d.onSect ((d.port n).sec s) with
          on := true, floorWait := false, young := true, offWait := false, full := false }
      else { d.onSect ((d.port n).sec s) with floorWait := true } := by
  have hseen : (((d.onSeen n s).port n).sec s).on = false := by rw [Dev.sec_onSeen_same]; exact hon
  rw [Dev.cmdOn_eq, if_neg (by simp [Dev.onSeen_heldOff ht hh]), Dev.sec_turnOn_same hseen, Dev.sec_onSeen_same,
    Dev.sec_onSeen_other, Dev.floorPassed_congr Dev.onSeen_legNear.now]

theorem Dev.cmdOff_crossed (trip : Bool) (h : ((d.cmdOff n s trip).port n).crossed) : (d.port n).crossed := by
  rw [Port.crossed_iff _ s, Dev.sec_cmdOff_same, Dev.sec_cmdOff_other] at h
  obtain ⟨hx, hy⟩ := h
  exact (Port.crossed_iff _ s).mpr ⟨Dev.on_of_offSect_on hx, hy⟩

theorem Dev.cmdOn_crossed (h : ((d.cmdOn n s).port n).crossed) : (d.port n).crossed := by
  have hseen : ((d.onSeen n s).port n).crossed → (d.port n).crossed := by
    rw [Port.crossed_iff _ s, Port.crossed_iff _ s, Dev.sec_onSeen_same, Dev.sec_onSeen_other]
    exact id
  rw [Dev.cmdOn_eq] at h
  split at h
  · exact hseen h
  · exact hseen (Dev.turnOn_crossed h)

/-! ### The gate command (R13, R16) -/

/-- A die that hears its gate command: the link stands, and neither a hold nor an order is in force (R15, R437). -/
structure Port.hears (p : Port) : Prop where
  link : p.linkLost = false
  hold : p.linkHold = false
  order : p.order = none

/-- A section that its command names off, turned off. -/
def Dev.offUnless (d : Dev) (n : Nat) (s : Section) (want trip : Bool) : Dev :=
  if !want && ((d.port n).sec s).cmd then d.cmdOff n s trip else d

/-- A section that its command names on, turned on. -/
def Dev.onWhen (d : Dev) (n : Nat) (s : Section) (want : Bool) : Dev :=
  if want && !((d.port n).sec s).cmd then d.cmdOn n s else d

variable (want trip : Bool)

theorem Dev.offUnless_induct {P : Dev → Prop} (h0 : P d) (h1 : P (d.cmdOff n s trip)) :
    P (d.offUnless n s want trip) := by
  unfold Dev.offUnless
  split
  · exact h1
  · exact h0

theorem Dev.onWhen_induct {P : Dev → Prop} (h0 : P d) (h1 : P (d.cmdOn n s)) : P (d.onWhen n s want) := by
  unfold Dev.onWhen
  split
  · exact h1
  · exact h0

theorem Dev.cmd_offUnless_same :
    (((d.offUnless n s want trip).port n).sec s).cmd = (((d.port n).sec s).cmd && want) := by
  unfold Dev.offUnless
  split
  · next h =>
    rw [Dev.sec_cmdOff_same, Dev.cmd_offSect]
    simp_all
  · next h => cases want <;> simp_all

@[simp] theorem Dev.sec_offUnless_other :
    ((d.offUnless n s want trip).port n).sec (otherSec s) = (d.port n).sec (otherSec s) :=
  Dev.offUnless_induct (P := fun e => (e.port n).sec (otherSec s) = (d.port n).sec (otherSec s)) want trip rfl
    (Dev.sec_cmdOff_other trip)

theorem Dev.cmd_onWhen_same :
    (((d.onWhen n s want).port n).sec s).cmd = (((d.port n).sec s).cmd || want) := by
  unfold Dev.onWhen
  split
  · next h => rw [Dev.cmd_cmdOn]; simp_all
  · next h => cases want <;> simp_all

@[simp] theorem Dev.sec_onWhen_other : ((d.onWhen n s want).port n).sec (otherSec s) = (d.port n).sec (otherSec s) :=
  Dev.onWhen_induct (P := fun e => (e.port n).sec (otherSec s) = (d.port n).sec (otherSec s)) want rfl
    Dev.sec_cmdOn_other

end Sys2Proof.Machine
end

section
/-! SUPPORT. The gate command at its die (R13, R16): the turn-offs that it asks for come first, then the turn-ons,
and what both keep it keeps. -/

namespace Sys2Proof.Machine

variable {d e : Dev} {n : Nat} {s : Section}

/-! ### The gate command at its die -/

@[simp] theorem Dev.onWhen_false : d.onWhen n s false = d := rfl

theorem Dev.offUnless_of_not_cmd (want trip : Bool) (h : ((d.port n).sec s).cmd = false) :
    d.offUnless n s want trip = d := by simp [Dev.offUnless, h]

theorem Dev.offUnless_of_cmd (trip : Bool) (h : ((d.port n).sec s).cmd = true) :
    d.offUnless n s false trip = d.cmdOff n s trip := by simp [Dev.offUnless, h]

theorem Dev.onWhen_of_not_cmd (h : ((d.port n).sec s).cmd = false) : d.onWhen n s true = d.cmdOn n s := by
  simp [Dev.onWhen, h]

theorem Dev.offUnless_eq_of_cmd {want trip c : Bool} (h : ((d.port n).sec s).cmd = c) :
    d.offUnless n s want trip = if !want && c then d.cmdOff n s trip else d := by rw [Dev.offUnless, h]

theorem Dev.onWhen_eq_of_cmd {want c : Bool} (h : ((d.port n).sec s).cmd = (c && want)) :
    d.onWhen n s want = if want && !c then d.cmdOn n s else d := by
  have hc : (want && !(c && want)) = (want && !c) := by cases want <;> simp
  rw [Dev.onWhen, h, hc]

/-- The two turn-offs of a command take away the commands that it does not repeat. -/
theorem Dev.cmd_afterOffs (h l trip : Bool) :
    (((d.offUnless n .h h trip).offUnless n .l l trip).port n).h.cmd = ((d.port n).h.cmd && h) ∧
    (((d.offUnless n .h h trip).offUnless n .l l trip).port n).l.cmd = ((d.port n).l.cmd && l) := by
  have hl1 : ((d.offUnless n .h h trip).port n).l = (d.port n).l := Dev.sec_offUnless_other (s := .h) h trip
  constructor
  · exact (congrArg Sect.cmd (Dev.sec_offUnless_other (s := .l) l trip)).trans (Dev.cmd_offUnless_same h trip)
  · rw [← hl1]
    exact Dev.cmd_offUnless_same (s := .l) l trip

/-- The two turn-ons of a command add the commands that it gives. -/
theorem Dev.cmd_afterOns (h l : Bool) :
    (((d.onWhen n .h h).onWhen n .l l).port n).h.cmd = ((d.port n).h.cmd || h) ∧
    (((d.onWhen n .h h).onWhen n .l l).port n).l.cmd = ((d.port n).l.cmd || l) := by
  have hl1 : ((d.onWhen n .h h).port n).l = (d.port n).l := Dev.sec_onWhen_other (s := .h) h
  constructor
  · exact (congrArg Sect.cmd (Dev.sec_onWhen_other (s := .l) l)).trans (Dev.cmd_onWhen_same h)
  · rw [← hl1]
    exact Dev.cmd_onWhen_same (s := .l) l

/-- A command that reaches its die turns off the sections that it names off, then on those that it names on. -/
theorem Dev.gateCmd_of_hears {h l trip : Bool} (hp : (d.port n).hears) (hb : (h && l) = false) :
    d.gateCmd n h l trip =
      (((d.offUnless n .h h trip).offUnless n .l l trip).onWhen n .h h).onWhen n .l l := by
  have hl1 : ((d.offUnless n .h h trip).port n).l = (d.port n).l := Dev.sec_offUnless_other (s := .h) h trip
  obtain ⟨hh2, hl2⟩ := Dev.cmd_afterOffs (d := d) (n := n) h l trip
  have hl3 : ((((d.offUnless n .h h trip).offUnless n .l l trip).onWhen n .h h).port n).l.cmd =
      ((d.port n).l.cmd && l) := (congrArg Sect.cmd (Dev.sec_onWhen_other (s := .h) h)).trans hl2
  rw [Dev.onWhen_eq_of_cmd (s := .l) hl3, Dev.onWhen_eq_of_cmd (s := .h) hh2,
    Dev.offUnless_eq_of_cmd (s := .l) (congrArg Sect.cmd hl1)]
  have heard : ((h && l) || (d.port n).linkLost || (d.port n).linkHold || (d.port n).order.isSome) = false := by
    simp [hb, hp.link, hp.hold, hp.order]
  unfold Dev.gateCmd
  rw [if_neg (by rw [heard]; decide)]
  rfl

/-- A command that a die does not hear, or that names both sections on, changes nothing (R13, R16). -/
theorem Dev.gateCmd_refused {h l trip : Bool}
    (hr : (h && l) = true ∨ (d.port n).linkLost = true ∨ (d.port n).linkHold = true ∨
      (d.port n).order.isSome = true) :
    d.gateCmd n h l trip = d := by
  unfold Dev.gateCmd
  refine if_pos ?_
  rcases hr with hr | hr | hr | hr <;> simp [hr]

/-- A command that names one section on. -/
theorem Dev.gateCmd_one (s : Section) (hp : (d.port n).hears) :
    d.gateCmd n (decide (s = .h)) (decide (s = .l)) false =
      (d.offUnless n (otherSec s) false false).onWhen n s true := by
  cases s
  · exact Dev.gateCmd_of_hears hp rfl
  · exact Dev.gateCmd_of_hears hp rfl

/-- A command that names both sections off, when at most one was commanded on. -/
theorem Dev.gateCmd_none {trip : Bool} (hp : (d.port n).hears) (hx : ((d.port n).sec s).cmd = true)
    (hy : ((d.port n).sec (otherSec s)).cmd = false) : d.gateCmd n false false trip = d.cmdOff n s trip := by
  rw [Dev.gateCmd_of_hears hp rfl, Dev.onWhen_false, Dev.onWhen_false]
  cases s with
  | h =>
    rw [Dev.offUnless_of_cmd _ hx]
    refine Dev.offUnless_of_not_cmd false trip ?_
    exact (congrArg Sect.cmd (Dev.sec_cmdOff_other (s := .h) trip)).trans hy
  | l =>
    rw [Dev.offUnless_of_not_cmd (s := .h) _ _ hy]
    exact Dev.offUnless_of_cmd trip hx

/-- What every turn-off and turn-on of the leg keeps, a gate command keeps. -/
theorem Dev.gateCmd_induct {P : Dev → Prop} {h l trip : Bool} (hp : (d.port n).hears) (hb : (h && l) = false)
    (h0 : P d) (hoff : ∀ e t, P e → P (e.cmdOff n t trip)) (hon : ∀ e t, P e → P (e.cmdOn n t)) :
    P (d.gateCmd n h l trip) := by
  have off : ∀ e t w, P e → P (e.offUnless n t w trip) := fun e t w he => Dev.offUnless_induct w trip he (hoff e t he)
  have on : ∀ e t w, P e → P (e.onWhen n t w) := fun e t w he => Dev.onWhen_induct w he (hon e t he)
  rw [Dev.gateCmd_of_hears hp hb]
  exact on _ _ _ (on _ _ _ (off _ _ _ (off _ _ _ h0)))

/-- After a command that is heard each section is commanded as it says. -/
theorem Dev.gateCmd_cmd {h l trip : Bool} (hp : (d.port n).hears) (hb : (h && l) = false) :
    ((d.gateCmd n h l trip).port n).h.cmd = h ∧ ((d.gateCmd n h l trip).port n).l.cmd = l := by
  obtain ⟨hoffh, hoffl⟩ := Dev.cmd_afterOffs (d := d) (n := n) h l trip
  obtain ⟨hh, hl⟩ := Dev.cmd_afterOns (d := (d.offUnless n .h h trip).offUnless n .l l trip) (n := n) h l
  rw [Dev.gateCmd_of_hears hp hb, hh, hl, hoffh, hoffl]
  simp

theorem Dev.gateCmd_legNear {h l trip : Bool} (hp : (d.port n).hears) (hb : (h && l) = false) :
    d.legNear (d.gateCmd n h l trip) n [pStat n] :=
  Dev.gateCmd_induct (P := fun e => d.legNear e n [pStat n]) hp hb .rfl
    (fun _ _ he => he.trans (Dev.cmdOff_legNear trip)) fun _ _ he => he.trans Dev.cmdOn_legNear

theorem Dev.gateCmd_crossed {h l trip : Bool} (hp : (d.port n).hears) (hb : (h && l) = false) :
    ((d.gateCmd n h l trip).port n).crossed → (d.port n).crossed :=
  Dev.gateCmd_induct (P := fun e => (e.port n).crossed → (d.port n).crossed) hp hb id
    (fun _ _ he hc => he (Dev.cmdOff_crossed trip hc)) fun _ _ he hc => he (Dev.cmdOn_crossed hc)

/-- How the die sinks a section that has turned off at full strength (R284, R296, R297). -/
theorem Dev.gateDrive_of_sunkFull {x : Sect} (h : (e.port n).sec s = d.sunkFull n x) :
    e.gateDrive n s = .sink (if n < 32 then 8 else 16) := by
  unfold Dev.gateDrive
  rw [h]
  by_cases hn : n < 32 <;> simp [Dev.sunkFull, Dev.sunk, fullCode, isHv, hn]

end Sys2Proof.Machine
end

section
/-! SUPPORT. GATE_COMMAND and the ends of its waits (R13, R16, R281 to R283, R295 to R297): what each case does to its
leg, and that nothing else changes. -/

namespace Sys2Proof.Machine

theorem Dev.test_cmdOff {d : Dev} {n : Nat} (t : Section) (trip : Bool) :
    ((d.cmdOff n t trip).port n).test = (d.port n).test := by
  rw [Dev.cmdOff_eq, Dev.port_modSec_same]
  cases t <;> rfl

variable {n : Fin 64} {sec : Section} {h l trip : Bool} {s : State}

theorem gateCommand_refused
    (hr : (h && l) = true ∨ (s.dev.port n).linkLost = true ∨ (s.dev.port n).linkHold = true ∨
      (s.dev.port n).order.isSome = true) : exec (.gateCommand n h l trip) s = .next s :=
  exec_idle_of_run (f := fun d => d.gateCmd n h l trip) rfl (Dev.gateCmd_refused hr)

/-- A heard command does to the device what the die does. -/
theorem gateCommand_gives {P : Dev → Prop} (hc : s.dev.clocked = true) (hp : P (s.dev.gateCmd n h l trip)) :
    Gives (.gateCommand n h l trip) s P := .of_run (f := fun d => d.gateCmd n h l trip) rfl hc hp

/-- A heard command is taken, and no two sections come to conduct together (R13, R16, R282). -/
theorem gateCommand_taken (hc : s.dev.clocked = true) (hp : (s.dev.port n).hears) (hb : ¬(h = true ∧ l = true)) :
    Gives (.gateCommand n h l trip) s fun e =>
      (e.port n).h.cmd = h ∧ (e.port n).l.cmd = l ∧ s.dev.keeps e [pStat n] ∧ s.dev.keepsLegs e [n] ∧
      (¬(s.dev.port n).crossed → ¬(e.port n).crossed) := by
  have hb' : (h && l) = false := by simpa using hb
  have hnear := Dev.gateCmd_legNear (trip := trip) hp hb'
  obtain ⟨hh, hl⟩ := Dev.gateCmd_cmd (trip := trip) hp hb'
  exact gateCommand_gives hc ⟨hh, hl, hnear.keeps, hnear.legs, mt (Dev.gateCmd_crossed hp hb')⟩

/-- A turn-on that nothing holds off conducts once the other section's floor has passed, and waits otherwise
(R282). -/
theorem gateCommand_turnsOn (hc : s.dev.clocked = true) (hp : (s.dev.port n).hears)
    (hx : ((s.dev.port n).sec sec).cmd = false) (hy : ((s.dev.port n).sec (otherSec sec)).cmd = false)
    (hon : ((s.dev.port n).sec sec).on = false) (ht : (s.dev.port n).test = none) (hh : s.dev.heldOff n sec = false) :
    Gives (.gateCommand n (decide (sec = .h)) (decide (sec = .l)) false) s fun e =>
      ((e.port n).sec sec).cmd = true ∧
      ((e.port n).sec sec).on = s.dev.floorPassed n ((s.dev.port n).sec (otherSec sec)) ∧
      (s.dev.floorPassed n ((s.dev.port n).sec (otherSec sec)) = false → ((e.port n).sec sec).floorWait = true) ∧
      (e.port n).sec (otherSec sec) = (s.dev.port n).sec (otherSec sec) ∧
      s.dev.keeps e [pStat n] ∧ s.dev.keepsLegs e [n] := by
  refine gateCommand_gives hc ?_
  rw [Dev.gateCmd_one sec hp, Dev.offUnless_of_not_cmd _ _ hy, Dev.onWhen_of_not_cmd hx]
  refine ⟨Dev.cmd_cmdOn, ?_, ?_, Dev.sec_cmdOn_other, Dev.cmdOn_legNear.keeps, Dev.cmdOn_legNear.legs⟩
  · rw [Dev.sec_cmdOn_same ht hh hon]
    split
    · next hf => rw [hf]
    · next hf => rw [Bool.not_eq_true] at hf; rw [hf]; exact hon
  · intro hf
    rw [Dev.sec_cmdOn_same ht hh hon, hf]; rfl

/-- A command that swaps the conducting section: the other one turns off now, and the turn-on waits for its floor
(R282). -/
theorem gateCommand_swaps (hc : s.dev.clocked = true) (hp : (s.dev.port n).hears)
    (hx : ((s.dev.port n).sec sec).cmd = false) (hy : ((s.dev.port n).sec (otherSec sec)).cmd = true)
    (hon : ((s.dev.port n).sec sec).on = false) (hyon : ((s.dev.port n).sec (otherSec sec)).on = true)
    (hw : ((s.dev.port n).sec (otherSec sec)).offWait = false)
    (hyoung : ((s.dev.port n).sec (otherSec sec)).young = false) (ht : (s.dev.port n).test = none)
    (hh : s.dev.heldOff n sec = false) :
    Gives (.gateCommand n (decide (sec = .h)) (decide (sec = .l)) false) s fun e =>
      ((e.port n).sec sec).cmd = true ∧ ((e.port n).sec sec).on = false ∧ ((e.port n).sec sec).floorWait = true ∧
      ((e.port n).sec (otherSec sec)).on = false ∧ ((e.port n).sec (otherSec sec)).offAt = some s.dev.now ∧
      s.dev.keeps e [pStat n] ∧ s.dev.keepsLegs e [n] := by
  let d1 := s.dev.cmdOff n (otherSec sec) false
  have hnear : s.dev.legNear d1 n [pStat n] := Dev.cmdOff_legNear false
  have hother : (d1.port n).sec (otherSec sec) = s.dev.sunk n
      { (s.dev.port n).sec (otherSec sec) with cmd := false, floorWait := false, armed := false } := by
    rw [Dev.sec_cmdOff_same, Dev.offSect_plain hyon hw (.inl hyoung)]
  have hsec : (d1.port n).sec sec = (s.dev.port n).sec sec := by
    simpa using Dev.sec_cmdOff_other (d := s.dev) (n := n) (s := otherSec sec) false
  have hheld : d1.heldOff n sec = false :=
    (Dev.heldOff_modSec (Dev.bad_offSect false _)).trans hh
  have hfloor : d1.floorPassed n ((d1.port n).sec (otherSec sec)) = false := by
    rw [hother, Dev.floorPassed_congr hnear.now, Dev.floorPassed_sunk]
  have hself := Dev.sec_cmdOn_same (d := d1) (s := sec) ((Dev.test_cmdOff _ _).trans ht) hheld (by rw [hsec, hon])
  rw [hfloor] at hself
  have hall := hnear.trans (Dev.cmdOn_legNear (s := sec))
  refine gateCommand_gives hc ?_
  rw [Dev.gateCmd_one sec hp, Dev.offUnless_of_cmd _ hy, Dev.onWhen_of_not_cmd (by rw [hsec, hx])]
  refine ⟨Dev.cmd_cmdOn, ?_, ?_, ?_, ?_, hall.keeps, hall.legs⟩
  · rw [hself]; exact (congrArg Sect.on hsec).trans hon
  · rw [hself]; rfl
  · rw [Dev.sec_cmdOn_other, hother]; rfl
  · rw [Dev.sec_cmdOn_other, hother]; rfl

section

variable (hc : s.dev.clocked = true) (hp : (s.dev.port n).hears) (hx : ((s.dev.port n).sec sec).cmd = true)
  (hy : ((s.dev.port n).sec (otherSec sec)).cmd = false)
include hc hp hx hy

/-- A command that turns off the one section commanded on does to that section what its turn-off does. -/
theorem gateCommand_turnsOff :
    Gives (.gateCommand n false false trip) s fun e =>
      (e.port n).sec sec = s.dev.offSect n trip ((s.dev.port n).sec sec) ∧ s.dev.onlySec e n sec := by
  refine gateCommand_gives hc ?_
  rw [Dev.gateCmd_none hp hx hy]
  exact ⟨Dev.sec_cmdOff_same trip, Dev.onlySec_modSec _⟩

variable (hon : ((s.dev.port n).sec sec).on = true) (hw : ((s.dev.port n).sec sec).offWait = false)
include hon hw

theorem gateCommand_waits (hyoung : ((s.dev.port n).sec sec).young = true)
    (ht : s.dev.now < ((s.dev.port n).sec sec).cmdAt + minPulseTicks n) :
    Gives (.gateCommand n false false false) s fun e =>
      ((e.port n).sec sec).on = true ∧ ((e.port n).sec sec).offWait = true ∧ ((e.port n).sec sec).cmd = false ∧
      s.dev.onlySec e n sec :=
  (gateCommand_turnsOff hc hp hx hy).mono fun e ⟨hs, hrest⟩ => by
    rw [hs, Dev.offSect_young hon hw hyoung ht]
    exact ⟨hon, rfl, rfl, hrest⟩

theorem gateCommand_sinks (hyoung : ((s.dev.port n).sec sec).young = false ∨
      ((s.dev.port n).sec sec).cmdAt + minPulseTicks n ≤ s.dev.now) :
    Gives (.gateCommand n false false false) s fun e =>
      ((e.port n).sec sec).on = false ∧ ((e.port n).sec sec).offAt = some s.dev.now ∧
      ((e.port n).sec sec).cmd = false ∧ s.dev.onlySec e n sec :=
  (gateCommand_turnsOff hc hp hx hy).mono fun e ⟨hs, hrest⟩ => by
    rw [hs, Dev.offSect_plain hon hw hyoung]
    exact ⟨rfl, rfl, rfl, hrest⟩

theorem gateCommand_tripsSoft (hs : 32 ≤ n.val ∨ s.dev.dieBit n (pCfg n) 11 = true) :
    Gives (.gateCommand n false false true) s fun e =>
      ((e.port n).sec sec).on = false ∧ ((e.port n).sec sec).soft = true ∧ ((e.port n).sec sec).softAt = s.dev.now ∧
      s.dev.onlySec e n sec :=
  (gateCommand_turnsOff hc hp hx hy).mono fun e ⟨he, hrest⟩ => by
    rw [he, Dev.offSect_soft hon hw hs]
    exact ⟨rfl, rfl, rfl, hrest⟩

theorem gateCommand_tripsFull (hn : n.val < 32) (hcfg : s.dev.dieBit n (pCfg n) 11 = false) :
    Gives (.gateCommand n false false true) s fun e =>
      ((e.port n).sec sec).on = false ∧ ((e.port n).sec sec).soft = false ∧ e.gateDrive n sec = .sink 8 ∧
      s.dev.onlySec e n sec :=
  (gateCommand_turnsOff hc hp hx hy).mono fun e ⟨he, hrest⟩ => by
    rw [Dev.offSect_full hon hw hn hcfg] at he
    have hdrive := Dev.gateDrive_of_sunkFull he
    rw [if_pos hn] at hdrive
    rw [he]
    exact ⟨rfl, rfl, hdrive, hrest⟩

end

/-! ### The ends of the waits -/

/-- A command that updates one section of one leg. -/
theorem Gives.of_modSec {i : Instr} {g : Dev → Sect → Sect} (h : exec i s = s.act fun d => d.modSec n sec (g d)) :
    Gives i s fun e =>
      (e.port n).sec sec = g s.dev ((s.dev.port n).sec sec) ∧ s.dev.onlySec e n sec :=
  .of_act h ⟨Dev.sec_modSec_same .., Dev.onlySec_modSec _⟩

/-- A turn-off that waited for the minimum pulse takes effect at its end (R283). -/
theorem minimumPulseEnd_gives :
    Gives (.minimumPulseEnd n sec) s fun e =>
      ((e.port n).sec sec).young = false ∧ ((e.port n).sec sec).offWait = false ∧
      ((e.port n).sec sec).on = (((s.dev.port n).sec sec).on && !((s.dev.port n).sec sec).offWait) ∧
      s.dev.onlySec e n sec :=
  (Gives.of_modSec (g := fun d x => if x.offWait then d.sunk n x else { x with young := false }) rfl).mono
    fun e ⟨hs, hrest⟩ => by
      cases hw : ((s.dev.port n).sec sec).offWait
      · rw [hw, if_neg (by decide)] at hs
        rw [hs]
        exact ⟨rfl, rfl, (Bool.and_true _).symm, hrest⟩
      · rw [hw, if_pos rfl] at hs
        rw [hs]
        exact ⟨rfl, rfl, (Bool.and_false _).symm, hrest⟩

theorem exec_deadTimeFloorEnd : exec (.deadTimeFloorEnd n sec) s = s.act fun d =>
    if ((d.port n).sec sec).floorWait && !((d.port n).sec (otherSec sec)).on &&
      !((d.port n).sec (otherSec sec)).soft then d.conduct n sec else d := by rfl

theorem deadTimeFloorEnd_idle (hw : ((s.dev.port n).sec sec).floorWait = false) :
    exec (.deadTimeFloorEnd n sec) s = .next s :=
  exec_idle_of_act exec_deadTimeFloorEnd (if_neg (by simp [hw]))

/-- A section that waits for its floor turns on at its end (R282). -/
theorem deadTimeFloorEnd_gives (hw : ((s.dev.port n).sec sec).floorWait = true)
    (hon : ((s.dev.port n).sec (otherSec sec)).on = false)
    (hsoft : ((s.dev.port n).sec (otherSec sec)).soft = false) :
    Gives (.deadTimeFloorEnd n sec) s fun e =>
      ((e.port n).sec sec).on = true ∧ ((e.port n).sec sec).floorWait = false ∧ ((e.port n).sec sec).young = true ∧
      s.dev.onlySec e n sec := by
  refine .of_act exec_deadTimeFloorEnd ?_
  rw [if_pos (by simp [hw, hon, hsoft])]
  have hs : ((s.dev.conduct n sec).port n).sec sec = { (s.dev.port n).sec sec with
      on := true, floorWait := false, young := true, offWait := false, full := false } := Dev.sec_modSec_same ..
  rw [hs]
  exact ⟨rfl, rfl, rfl, Dev.onlySec_modSec _⟩

/-- The comparator is armed when the die blanking ends under a command that is on (R295; notes/assumptions/69.md). -/
theorem dieBlankingEnd_gives :
    Gives (.dieBlankingEnd n sec) s fun e =>
      ((e.port n).sec sec).armed =
        (((s.dev.port n).sec sec).cmd && (((s.dev.port n).sec sec).on || ((s.dev.port n).sec sec).floorWait)) ∧
      ((e.port n).sec sec).on = ((s.dev.port n).sec sec).on ∧ s.dev.onlySec e n sec :=
  (Gives.of_modSec (g := fun _ x => { x with armed := x.cmd && (x.on || x.floorWait) }) rfl).mono
    fun e ⟨hs, hrest⟩ => by
      rw [hs]
      exact ⟨rfl, rfl, hrest⟩

/-- A soft turn-off ends at full strength, with the clamp (R281, R296). -/
theorem softTurnOffEnd_gives :
    Gives (.softTurnOffEnd n sec) s fun e =>
      ((e.port n).sec sec).soft = false ∧
      (((s.dev.port n).sec sec).soft = true → ((e.port n).sec sec).offAt = some s.dev.now ∧
        ((e.port n).sec sec).clamp = s.dev.clamps n ∧ e.gateDrive n sec = .sink (if n.val < 32 then 8 else 16)) ∧
      s.dev.onlySec e n sec :=
  (Gives.of_modSec (g := fun d x => if x.soft then d.sunkFull n x else x) rfl).mono fun e ⟨hs, hrest⟩ => by
    cases hsoft : ((s.dev.port n).sec sec).soft
    · rw [hsoft, if_neg (by decide)] at hs
      rw [hs]
      exact ⟨hsoft, fun h => Bool.noConfusion h, hrest⟩
    · rw [hsoft, if_pos rfl] at hs
      have hdrive := Dev.gateDrive_of_sunkFull hs
      rw [hs]
      exact ⟨rfl, fun _ => ⟨rfl, rfl, hdrive⟩, hrest⟩

end Sys2Proof.Machine
end

section
/-! SUPPORT. Adaptation of the gate drive (R284 to R288): opening a window, closing it into CAL, and the adjustment
that a measured edge makes at the device. -/

namespace Sys2Proof.Machine

/-! ### The registers of a port -/

theorem pCal_range {n : Nat} (h : n < 64) : 0x31000000 ≤ pCal n ∧ pCal n < 0x31006000 := by
  unfold pCal isHv Reg.HVP_CAL Reg.LVP_CAL
  split <;> simp_all <;> omega

theorem pStat_ne_pCal (n : Nat) : pStat n ≠ pCal n := by
  unfold pStat pCal isHv Reg.HVP_STAT Reg.LVP_STAT Reg.HVP_CAL Reg.LVP_CAL
  split <;> simp

theorem pAdpctl_ne_pCal (n : Nat) : pAdpctl n ≠ pCal n := by
  unfold pAdpctl pCal isHv Reg.HVP_ADPCTL Reg.LVP_ADPCTL Reg.HVP_CAL Reg.LVP_CAL
  split <;> simp

/-- The register that keeps a section's measured times (R286). -/
def pMeas (n : Nat) (s : Section) : Nat := if s = .h then pMeasH n else pMeasL n

theorem pMeas_ne_pCal (n : Nat) (s : Section) : pMeas n s ≠ pCal n := by
  unfold pMeas pMeasH pMeasL pCal isHv Reg.HVP_MEASH Reg.LVP_MEASH Reg.HVP_MEASL Reg.LVP_MEASL Reg.HVP_CAL Reg.LVP_CAL
  split_ifs <;> simp

theorem pMeas_ne_pStat (n : Nat) (s : Section) : pMeas n s ≠ pStat n := by
  unfold pMeas pMeasH pMeasL pStat isHv Reg.HVP_MEASH Reg.LVP_MEASH Reg.HVP_MEASL Reg.LVP_MEASL Reg.HVP_STAT
    Reg.LVP_STAT
  split_ifs <;> simp

theorem calPos_le (s : Section) (b : Bool) : calPos s b ≤ 12 := by
  cases s <;> cases b <;> decide

theorem fullCode_lt (n : Nat) : fullCode n < 16 := by
  unfold fullCode; split <;> decide

variable {d e : Dev} {n : Nat} {s : Section}

theorem Dev.fld_congr {a : Nat} (h : e.reg a = d.reg a) (hi lo : Nat) : e.fld a hi lo = d.fld a hi lo := by
  rw [Dev.fld, h, Dev.fld]

theorem Dev.rbit_congr {a : Nat} (h : e.reg a = d.reg a) (i : Nat) : e.rbit a i = d.rbit a i := by
  rw [Dev.rbit, h, Dev.rbit]

/-! ### Opening a window (R285) -/

/-- A window of the kind is enabled, and has turn-ons to count unless it is a TEST window (R285). -/
def Dev.opens (d : Dev) (n : Nat) (w : AdaptWindow) : Bool :=
  d.dieBit n (pAdpctl n) (match w with
    | .start => 0
    | .recovery => 1
    | .test => 2) && (decide (w = .test) || decide (d.dieFld n (pAdpctl n) 31 24 ≠ 0))

/-- The device with both windows open: they start from CAL (R285, R286). -/
def Dev.opened (d : Dev) (n : Nat) (w : AdaptWindow) : Dev :=
  (d.modPort n fun p =>
    { p with h := { p.h with win := some ⟨w, 16 * d.dieFld n (pAdpctl n) 31 24⟩ },
             l := { p.l with win := some ⟨w, 16 * d.dieFld n (pAdpctl n) 31 24⟩ } }).setFld
    (pCal n) 31 16 (d.dieFld n (pCal n) 15 0)

theorem Dev.openWin_eq (w : AdaptWindow) : d.openWin n w = if d.opens n w then d.opened n w else d := by
  cases w <;> rfl

theorem Dev.opened_legNear (w : AdaptWindow) : d.legNear (d.opened n w) n [pCal n] :=
  (Dev.legNear.modPort _).trans (.setReg _ (by simp))

theorem Dev.opened_inUse (w : AdaptWindow) : (d.opened n w).fld (pCal n) 31 16 = d.dieFld n (pCal n) 15 0 := by
  rw [Dev.opened, Dev.fld_setFld _ _ _ _ _ (by decide) (by decide)]
  exact Nat.mod_eq_of_lt (bitsOf_lt _ 15 0)

theorem Dev.opened_stored (w : AdaptWindow) : (d.opened n w).fld (pCal n) 15 0 = d.fld (pCal n) 15 0 := by
  rw [Dev.opened, Dev.fld_setFld_other _ _ _ _ _ _ _ (by decide) (by decide) (by decide)]
  rfl

theorem Dev.opened_wins (w : AdaptWindow) :
    ((d.opened n w).port n).h.win = some ⟨w, 16 * d.dieFld n (pAdpctl n) 31 24⟩ ∧
      ((d.opened n w).port n).l.win = some ⟨w, 16 * d.dieFld n (pAdpctl n) 31 24⟩ := by
  simp [Dev.opened, Dev.setFld]

/-! ### Closing a window (R288) -/

/-- CAL takes the count in use of one kind of edge, and the count in use returns to full strength. -/
def Dev.closeEdge (d : Dev) (n : Nat) (s : Section) (b : Bool) : Dev :=
  (d.setFld (pCal n) (calPos s b + 3) (calPos s b) (d.fld (pCal n) (calPos s b + 19) (calPos s b + 16))).setFld
    (pCal n) (calPos s b + 19) (calPos s b + 16) (fullCode n)

theorem Dev.closeSec_eq : d.closeSec n s =
    ((((d.closeEdge n s true).closeEdge n s false).modSec n s fun x => { x with win := none }).modPort n fun p =>
      { p with late := p.late.filter fun x => decide (x.1 ≠ pCal n) }) := by rfl

theorem Dev.closeEdge_legNear (b : Bool) : d.legNear (d.closeEdge n s b) n [pCal n] :=
  (Dev.legNear.setReg _ (by simp)).trans (.setReg _ (by simp))

theorem Dev.port_closeEdge (b : Bool) (m : Nat) : (d.closeEdge n s b).port m = d.port m := rfl

/-- A field of CAL that closing one kind of edge does not touch. -/
def apart (s : Section) (b : Bool) (hi lo : Nat) : Prop :=
  (hi < calPos s b ∨ calPos s b + 3 < lo) ∧ (hi < calPos s b + 16 ∨ calPos s b + 19 < lo)

theorem Dev.closeEdge_apart {b : Bool} {hi lo : Nat} (h : apart s b hi lo) :
    (d.closeEdge n s b).fld (pCal n) hi lo = d.fld (pCal n) hi lo := by
  have hk := calPos_le s b
  rw [Dev.closeEdge, Dev.fld_setFld_other _ _ _ _ _ _ _ (by omega) (by omega) h.2,
    Dev.fld_setFld_other _ _ _ _ _ _ _ (by omega) (by omega) h.1]

theorem Dev.closeEdge_stored (b : Bool) :
    (d.closeEdge n s b).fld (pCal n) (calPos s b + 3) (calPos s b) =
      d.fld (pCal n) (calPos s b + 19) (calPos s b + 16) := by
  have hk := calPos_le s b
  have hlt : d.fld (pCal n) (calPos s b + 19) (calPos s b + 16) < 2 ^ (calPos s b + 3 + 1 - calPos s b) := by
    have hw : calPos s b + 19 + 1 - (calPos s b + 16) = calPos s b + 3 + 1 - calPos s b := by omega
    exact hw ▸ bitsOf_lt _ _ _
  rw [Dev.closeEdge, Dev.fld_setFld_other _ _ _ _ _ _ _ (by omega) (by omega) (by omega),
    Dev.fld_setFld _ _ _ _ _ (by omega) (by omega), Nat.mod_eq_of_lt hlt]

theorem Dev.closeEdge_inUse (b : Bool) :
    (d.closeEdge n s b).fld (pCal n) (calPos s b + 19) (calPos s b + 16) = fullCode n := by
  have hk := calPos_le s b
  have hw : calPos s b + 19 + 1 - (calPos s b + 16) = 4 := by omega
  rw [Dev.closeEdge, Dev.fld_setFld _ _ _ _ _ (by omega) (by omega), hw]
  exact Nat.mod_eq_of_lt (fullCode_lt n)

theorem Dev.closeSec_legNear : d.legNear (d.closeSec n s) n [pCal n] := by
  rw [Dev.closeSec_eq]
  exact (((Dev.closeEdge_legNear true).trans (Dev.closeEdge_legNear false)).trans (.modSec _)).trans (.modPort _)

theorem Dev.win_closeSec_same : (((d.closeSec n s).port n).sec s).win = none := by
  rw [Dev.closeSec_eq, Dev.port_modPort_same, Dev.port_modSec_same]
  cases s <;> rfl

theorem Dev.sec_closeSec_other : ((d.closeSec n s).port n).sec (otherSec s) = (d.port n).sec (otherSec s) := by
  rw [Dev.closeSec_eq, Dev.port_modPort_same, Dev.port_modSec_same, Dev.port_closeEdge, Dev.port_closeEdge]
  cases s <;> rfl

theorem Dev.fld_closeSec (a hi lo : Nat) :
    (d.closeSec n s).fld a hi lo = ((d.closeEdge n s true).closeEdge n s false).fld a hi lo :=
  Dev.fld_congr (by rw [Dev.closeSec_eq, Dev.reg_modPort, Dev.reg_modSec]) hi lo

theorem Dev.closeSec_apart {hi lo : Nat} (h : ∀ b, apart s b hi lo) :
    (d.closeSec n s).fld (pCal n) hi lo = d.fld (pCal n) hi lo := by
  rw [Dev.fld_closeSec, Dev.closeEdge_apart (h false), Dev.closeEdge_apart (h true)]

/-- The fields of the two kinds of edge of a section lie apart. -/
theorem apart_edges (s : Section) :
    apart s true (calPos s false + 3) (calPos s false) ∧ apart s true (calPos s false + 19) (calPos s false + 16) ∧
    apart s false (calPos s true + 3) (calPos s true) ∧ apart s false (calPos s true + 19) (calPos s true + 16) := by
  cases s <;> simp [apart, calPos]

/-- The fields of the two sections lie apart. -/
theorem apart_sections (s : Section) (b c : Bool) :
    apart (otherSec s) c (calPos s b + 3) (calPos s b) ∧
      apart (otherSec s) c (calPos s b + 19) (calPos s b + 16) := by
  cases s <;> cases b <;> cases c <;> simp [apart, calPos, otherSec]

theorem apart_section (s : Section) (c : Bool) :
    apart s c (calPos (otherSec s) true + 7) (calPos (otherSec s) true) := by
  cases s <;> cases c <;> simp [apart, calPos, otherSec]

/-- A section of the leg is closed: its window is gone, CAL has its counts, and it drives at full strength. -/
structure Dev.closed (d e : Dev) (n : Nat) (s : Section) : Prop where
  win : ((e.port n).sec s).win = none
  cal : ∀ b, e.fld (pCal n) (calPos s b + 3) (calPos s b) = d.fld (pCal n) (calPos s b + 19) (calPos s b + 16) ∧
    e.fld (pCal n) (calPos s b + 19) (calPos s b + 16) = fullCode n

theorem Dev.closeSec_closed : d.closed (d.closeSec n s) n s where
  win := Dev.win_closeSec_same
  cal b := by
    obtain ⟨hf3, hf19, ht3, ht19⟩ := apart_edges s
    rw [Dev.fld_closeSec, Dev.fld_closeSec]
    cases b with
    | true =>
      rw [Dev.closeEdge_apart ht3, Dev.closeEdge_apart ht19]
      exact ⟨Dev.closeEdge_stored true, Dev.closeEdge_inUse true⟩
    | false =>
      rw [Dev.closeEdge_stored, Dev.closeEdge_apart hf19]
      exact ⟨rfl, Dev.closeEdge_inUse false⟩

/-- The window of a section is of the kind, and its end has come. -/
def Dev.winEnded (d : Dev) (n : Nat) (k : AdaptWindow) (s : Section) : Bool :=
  match ((d.port n).sec s).win with
  | some w => decide (w.kind = k) &&
      (if k = .test then decide (d.mode ≠ 10) || !d.dieBit n (pAdpctl n) 2 else decide (w.left = 0))
  | none => false

/-- A section whose window has ended, closed. -/
def Dev.closeEnded (d : Dev) (n : Nat) (k : AdaptWindow) (s : Section) : Dev :=
  if d.winEnded n k s then d.closeSec n s else d

theorem Dev.closeWin_eq (k : AdaptWindow) : d.closeWin n k = (d.closeEnded n k .h).closeEnded n k .l := by rfl

theorem Dev.closeEnded_induct {P : Dev → Prop} (k : AdaptWindow) (h0 : P d) (h1 : P (d.closeSec n s)) :
    P (d.closeEnded n k s) := by
  unfold Dev.closeEnded
  split
  · exact h1
  · exact h0

theorem Dev.closeEnded_legNear (k : AdaptWindow) : d.legNear (d.closeEnded n k s) n [pCal n] :=
  Dev.closeEnded_induct (P := fun e => d.legNear e n [pCal n]) k .rfl Dev.closeSec_legNear

theorem Dev.closeWin_legNear (k : AdaptWindow) : d.legNear (d.closeWin n k) n [pCal n] :=
  (Dev.closeEnded_legNear k).trans (Dev.closeEnded_legNear k)

theorem Dev.closeEnded_of_none (k : AdaptWindow) (h : ((d.port n).sec s).win = none) : d.closeEnded n k s = d := by
  simp [Dev.closeEnded, Dev.winEnded, h]

/-- Closing one section leaves the end of the other's window. -/
theorem Dev.winEnded_closeSec_other (hn : n < 64) (k : AdaptWindow) :
    (d.closeSec n s).winEnded n k (otherSec s) = d.winEnded n k (otherSec s) := by
  have hmode : (d.closeSec n s).mode = d.mode :=
    Dev.fld_congr (Dev.closeSec_legNear.regs _ (by have := pCal_range hn; simp [Reg.DST_MODE]; omega)) 3 0
  have hctl : (d.closeSec n s).dieWord n (pAdpctl n) = d.dieWord n (pAdpctl n) := by
    have hreg : (d.closeSec n s).reg (pAdpctl n) = d.reg (pAdpctl n) :=
      Dev.closeSec_legNear.regs _ (by simpa using pAdpctl_ne_pCal n)
    have hlate : ((d.closeSec n s).port n).late = (d.port n).late.filter fun x => decide (x.1 ≠ pCal n) := by
      rw [Dev.closeSec_eq, Dev.port_modPort_same, Dev.port_modSec_same, Dev.port_closeEdge, Dev.port_closeEdge]
      cases s <;> rfl
    have hfind : ((d.closeSec n s).port n).late.find? (fun x => decide (x.1 = pAdpctl n)) =
        (d.port n).late.find? fun x => decide (x.1 = pAdpctl n) := by
      rw [hlate, List.find?_filter]
      congr 1
      funext x
      by_cases hx : x.1 = pAdpctl n <;> simp [hx, pAdpctl_ne_pCal n]
    rw [Dev.dieWord, hfind, hreg]; rfl
  unfold Dev.winEnded Dev.dieBit
  rw [Dev.sec_closeSec_other, hmode, hctl]

theorem Dev.closed.closeSec_other (h : d.closed e n s) : d.closed (e.closeSec n (otherSec s)) n s where
  win := by
    have hsec := Dev.sec_closeSec_other (d := e) (n := n) (s := otherSec s)
    rw [otherSec_otherSec] at hsec
    rw [hsec, h.win]
  cal b := by
    rw [Dev.closeSec_apart fun c => (apart_sections s b c).1, Dev.closeSec_apart fun c => (apart_sections s b c).2]
    exact h.cal b

/-- Both sections of a leg whose window of the kind has ended are closed, whichever closes first. -/
theorem Dev.closeWin_closed (hn : n < 64) {k : AdaptWindow} (hx : d.winEnded n k s = true) :
    d.closed (d.closeWin n k) n s := by
  rw [Dev.closeWin_eq]
  cases s with
  | h =>
    have h1 : d.closeEnded n k .h = d.closeSec n .h := if_pos hx
    rw [h1]
    exact Dev.closeEnded_induct (s := .l) (P := fun e => d.closed e n .h) k Dev.closeSec_closed
      Dev.closeSec_closed.closeSec_other
  | l =>
    have hended : (d.closeEnded n k .h).winEnded n k .l = true :=
      Dev.closeEnded_induct (P := fun e => e.winEnded n k .l = true) k hx
        ((Dev.winEnded_closeSec_other (s := .h) hn k).trans hx)
    have hfld : ∀ b, (d.closeEnded n k .h).fld (pCal n) (calPos .l b + 19) (calPos .l b + 16) =
        d.fld (pCal n) (calPos .l b + 19) (calPos .l b + 16) := fun b =>
      Dev.closeEnded_induct (P := fun e => e.fld (pCal n) _ _ = d.fld (pCal n) _ _) k rfl
        (Dev.closeSec_apart fun c => (apart_sections .l b c).2)
    rw [Dev.closeEnded, if_pos hended]
    obtain ⟨hwin, hcal⟩ := Dev.closeSec_closed (d := d.closeEnded n k .h) (n := n) (s := .l)
    exact ⟨hwin, fun b => hfld b ▸ hcal b⟩

/-- With no window open at the other section, only the one section closes. -/
theorem Dev.closeWin_single {k : AdaptWindow} (hx : d.winEnded n k s = true)
    (hy : ((d.port n).sec (otherSec s)).win = none) : d.closeWin n k = d.closeSec n s := by
  have hs : d.closeEnded n k s = d.closeSec n s := if_pos hx
  rw [Dev.closeWin_eq]
  cases s with
  | h => rw [hs, Dev.closeEnded_of_none (s := .l) k ((congrArg Sect.win (Dev.sec_closeSec_other (s := .h))).trans hy)]
  | l => rw [Dev.closeEnded_of_none (s := .h) k hy, hs]

/-- The end of a TEST window goes into a calibration record, or sets CALNW while no flash write is permitted
(R288). -/
def Dev.calNote (d : Dev) (n : Nat) : Dev :=
  if d.rbit Reg.THM_STAT 8 && !d.rbit Reg.GOV_STAT 9 then
    d.recordDue { kind := 3, tag := 0, data := (List.range 64).map fun p => d.reg (pCal p) }
  else d.setRbit (pStat n) 25 true

theorem Dev.port_calNote (m : Nat) : (d.calNote n).port m = d.port m := by
  unfold Dev.calNote; split <;> rfl

theorem Dev.sk_calNote : (d.calNote n).sk = d.sk := by
  unfold Dev.calNote; split <;> rfl

theorem Dev.reg_calNote {a : Nat} (hs : a ≠ pStat n) (hn : a ≠ Reg.NVM_STAT) : (d.calNote n).reg a = d.reg a := by
  unfold Dev.calNote
  split
  · exact Dev.reg_setRbit_other _ _ _ hn
  · exact Dev.reg_setRbit_other _ _ _ hs

theorem Dev.calNote_outcome :
    if d.rbit Reg.THM_STAT 8 = true ∧ d.rbit Reg.GOV_STAT 9 = false then
      ∃ r, (d.calNote n).fl.due = d.fl.due ++ [r] ∧ r.kind = 3
    else (d.calNote n).rbit (pStat n) 25 = true := by
  unfold Dev.calNote
  split
  · next h => rw [if_pos (by simp [h])]; exact ⟨_, rfl, rfl⟩
  · next h => rw [if_neg (by simpa using h), Dev.rbit_setRbit _ _ _ _ _ (by decide)]; rfl

/-! ### A measured edge (R286, R287) -/

/-- A count moved by one toward the target, between the step `off` codes below 1 and the code of `smax` (R287). -/
def adjusted (off smax tgt band t code : Nat) : Nat :=
  (if tgt + band < t then min (code + off + 1) smax
   else if t + band < tgt then max (code + off - 1) 1 else code + off) - off

theorem adjusted_slow {off smax tgt band t code : Nat} (ht : tgt + band < t) (hc : code + off < smax) :
    adjusted off smax tgt band t code = code + 1 := by
  rw [adjusted, if_pos ht]; omega

theorem adjusted_inBand {off smax tgt band t code : Nat} (h1 : t ≤ tgt + band) (h2 : tgt ≤ t + band) :
    adjusted off smax tgt band t code = code := by
  rw [adjusted, if_neg (by omega), if_neg (by omega)]; omega

theorem adjusted_fast {off smax tgt band t code : Nat} (ht : t + band < tgt) (hc : 1 < code + off) (ho : off ≤ 1) :
    adjusted off smax tgt band t code = code - 1 := by
  rw [adjusted, if_neg (by omega), if_pos ht]; omega

/-- The target of an edge kind in ns. -/
def Dev.edgeTarget (d : Dev) (n : Nat) (on : Bool) : Nat :=
  if on then d.dieFld n (pAdptgt n) 8 0 else d.dieFld n (pAdptgt n) 24 16

/-- The band around a target in ns. -/
def Dev.edgeBand (d : Dev) (n : Nat) : Nat :=
  if isHv n then d.dieFld n (pAdpctl n) 15 8 else d.dieFld n (pAdpctl n) 23 16

/-- The count in use of an edge kind, as CAL codes it. -/
def Dev.edgeCode (d : Dev) (n : Nat) (s : Section) (on : Bool) : Nat :=
  d.fld (pCal n) (calPos s on + 16 + 3) (calPos s on + 16)

/-- The count after a measured edge. -/
def Dev.edgeNext (d : Dev) (n : Nat) (s : Section) (on : Bool) (t : Nat) : Nat :=
  adjusted (if isHv n then 0 else 1) (if isHv n then 8 else 16)
    (d.edgeTarget n on) (d.edgeBand n) t (d.edgeCode n s on)

/-- The device with the measured time kept. -/
def Dev.edgeKept (d : Dev) (n : Nat) (s : Section) (on : Bool) (t : Nat) : Dev :=
  if on then d.setFld (pMeas n s) 8 0 t else d.setFld (pMeas n s) 24 16 t

/-- The device with the time kept and the count adjusted. -/
def Dev.edgeSet (d : Dev) (n : Nat) (s : Section) (on : Bool) (t : Nat) : Dev :=
  (d.edgeKept n s on t).setFld (pCal n) (calPos s on + 16 + 3) (calPos s on + 16) (d.edgeNext n s on t)

theorem Dev.edge_of_none {on : Bool} {ns : Option Nat} (h : ((d.port n).sec s).win = none) :
    d.edge n s on ns = d := by
  simp only [Dev.edge, h]

theorem Dev.edge_unmeasured {on : Bool} (h : ((d.port n).sec s).win.isSome = true) :
    d.edge n s on none = d.setRbit (pStat n) 15 true := by
  obtain ⟨w, hw⟩ := Option.isSome_iff_exists.mp h
  simp only [Dev.edge, hw]

theorem Dev.when_or (b : Bool) (f : Dev → Dev) : d.when b f = d ∨ d.when b f = f d := by
  cases b
  · exact .inl rfl
  · exact .inr rfl

/-- A measured edge keeps its time and adjusts its count; at a limit it also sets a status bit. -/
theorem Dev.edge_measured {on : Bool} (t : Nat) (h : ((d.port n).sec s).win.isSome = true) :
    d.edge n s on (some t) = d.edgeSet n s on (min t 511) ∨
      d.edge n s on (some t) = (d.edgeSet n s on (min t 511)).setRbit (pStat n) 14 true := by
  obtain ⟨w, hw⟩ := Option.isSome_iff_exists.mp h
  simp only [Dev.edge, hw]
  exact Dev.when_or ..

theorem Dev.port_edgeSet {on : Bool} {t : Nat} (m : Nat) : (d.edgeSet n s on t).port m = d.port m := by
  unfold Dev.edgeSet Dev.edgeKept
  split <;> rfl

theorem Dev.sk_edgeSet {on : Bool} {t : Nat} : (d.edgeSet n s on t).sk = d.sk := by
  unfold Dev.edgeSet Dev.edgeKept
  split <;> rfl

theorem Dev.reg_edgeKept {on : Bool} {t a : Nat} (ha : a ≠ pMeas n s) : (d.edgeKept n s on t).reg a = d.reg a := by
  unfold Dev.edgeKept
  split <;> exact Dev.reg_setFld_other _ _ _ _ ha

theorem Dev.reg_edgeSet {on : Bool} {t a : Nat} (hm : a ≠ pMeas n s) (hc : a ≠ pCal n) :
    (d.edgeSet n s on t).reg a = d.reg a :=
  (Dev.reg_setFld_other _ _ _ _ hc).trans (Dev.reg_edgeKept hm)

/-- The time of the edge reads back. -/
theorem Dev.fld_edgeSet_meas {on : Bool} {t : Nat} (ht : t ≤ 511) :
    (if on then (d.edgeSet n s on t).fld (pMeas n s) 8 0 else (d.edgeSet n s on t).fld (pMeas n s) 24 16) = t := by
  have hreg : (d.edgeSet n s on t).reg (pMeas n s) = (d.edgeKept n s on t).reg (pMeas n s) :=
    Dev.reg_setFld_other _ _ _ _ (pMeas_ne_pCal n s)
  rw [Dev.fld_congr hreg, Dev.fld_congr hreg]
  cases on
  · exact (Dev.fld_setFld _ _ _ _ _ (by decide) (by decide)).trans (Nat.mod_eq_of_lt (by omega))
  · exact (Dev.fld_setFld _ _ _ _ _ (by decide) (by decide)).trans (Nat.mod_eq_of_lt (by omega))

theorem Dev.edgeCode_lt (on : Bool) : d.edgeCode n s on < 16 := by
  have hw : calPos s on + 16 + 3 + 1 - (calPos s on + 16) = 4 := by omega
  have hlt := bitsOf_lt (d.reg (pCal n)) (calPos s on + 16 + 3) (calPos s on + 16)
  rw [hw] at hlt
  exact hlt

/-- The adjusted count fits its field, whatever CAL held. -/
theorem Dev.edgeNext_lt (on : Bool) (t : Nat) : d.edgeNext n s on t < 16 := by
  have hcode := Dev.edgeCode_lt (d := d) (n := n) (s := s) on
  unfold Dev.edgeNext adjusted
  split_ifs <;> omega

/-- The adjusted count reads back. -/
theorem Dev.fld_edgeSet_cal {on : Bool} {t : Nat} :
    (d.edgeSet n s on t).fld (pCal n) (calPos s on + 16 + 3) (calPos s on + 16) = d.edgeNext n s on t := by
  have hk := calPos_le s on
  have hw : calPos s on + 16 + 3 + 1 - (calPos s on + 16) = 4 := by omega
  rw [Dev.edgeSet, Dev.fld_setFld _ _ _ _ _ (by omega) (by omega), hw]
  exact Nat.mod_eq_of_lt (Dev.edgeNext_lt on t)

theorem Dev.edgeNext_slow {on : Bool} {t : Nat} (ht : d.edgeTarget n on + d.edgeBand n < t)
    (hc : d.edgeCode n s on < fullCode n) : d.edgeNext n s on t = d.edgeCode n s on + 1 := by
  refine adjusted_slow ht ?_
  unfold fullCode at hc
  split_ifs at hc ⊢ <;> omega

theorem Dev.edgeNext_inBand {on : Bool} {t : Nat} (h1 : t ≤ d.edgeTarget n on + d.edgeBand n)
    (h2 : d.edgeTarget n on ≤ t + d.edgeBand n) : d.edgeNext n s on t = d.edgeCode n s on := adjusted_inBand h1 h2

theorem Dev.edgeNext_fast {on : Bool} {t : Nat} (ht : t + d.edgeBand n < d.edgeTarget n on)
    (hc : (if n < 32 then 1 else 0) < d.edgeCode n s on) : d.edgeNext n s on t = d.edgeCode n s on - 1 := by
  refine adjusted_fast ht ?_ ?_
  · have hcode : 1 < d.edgeCode n s on + (if n < 32 then 0 else 1) := by split_ifs at hc ⊢ <;> omega
    simpa [isHv] using hcode
  · split <;> decide

end Sys2Proof.Machine
end

section
/-! SUPPORT. The commands of the adaptation (R285 to R288): when a window opens and closes, and what an edge
leaves. -/

namespace Sys2Proof.Machine

variable {n : Fin 64} {sec : Section} {w : AdaptWindow} {on : Bool} {s : State}

/-- The event that a kind of window waits for has come (R285). -/
def Dev.winDue (d : Dev) (n : Nat) (w : AdaptWindow) : Bool :=
  match w with
  | .start => d.rbit (Reg.WHL_STAT n) 2
  | .recovery => !(d.port n).hold
  | .test => decide (d.mode = 10)

theorem exec_adaptationWindowOpen : exec (.adaptationWindowOpen n w) s = s.act fun d =>
    if d.winDue n w && (d.port n).h.win.isNone && (d.port n).l.win.isNone then d.openWin n w else d := by
  cases w <;> rfl

theorem adaptationWindowOpen_idle
    (hr : (s.dev.port n).h.win.isSome = true ∨ (s.dev.port n).l.win.isSome = true ∨
      (s.dev.winDue n w && s.dev.opens n w) = false) : exec (.adaptationWindowOpen n w) s = .next s := by
  refine exec_idle_of_act exec_adaptationWindowOpen ?_
  split
  · next hd =>
    simp only [Bool.and_eq_true, Option.isNone_iff_eq_none] at hd
    obtain ⟨⟨hdue, hh⟩, hl⟩ := hd
    rw [Dev.openWin_eq, if_neg]
    simpa [hh, hl, hdue] using hr
  · rfl

/-- Both sections start a window of ADPN x 16 turn-ons from CAL (R285, R286). -/
theorem adaptationWindowOpen_gives (hh : (s.dev.port n).h.win = none) (hl : (s.dev.port n).l.win = none)
    (hd : (s.dev.winDue n w && s.dev.opens n w) = true) :
    Gives (.adaptationWindowOpen n w) s fun e =>
      (e.port n).h.win = some ⟨w, 16 * s.dev.dieFld n (pAdpctl n) 31 24⟩ ∧
      (e.port n).l.win = some ⟨w, 16 * s.dev.dieFld n (pAdpctl n) 31 24⟩ ∧
      e.fld (pCal n) 31 16 = s.dev.dieFld n (pCal n) 15 0 ∧ e.fld (pCal n) 15 0 = s.dev.fld (pCal n) 15 0 ∧
      s.dev.keeps e [pCal n] ∧ s.dev.keepsLegs e [n] := by
  obtain ⟨hdue, hopens⟩ := Bool.and_eq_true_iff.mp hd
  have hnear := Dev.opened_legNear (d := s.dev) (n := n) w
  obtain ⟨hwh, hwl⟩ := Dev.opened_wins (d := s.dev) (n := n) w
  refine .of_act exec_adaptationWindowOpen ?_
  rw [if_pos (by simp [hdue, hh, hl]), Dev.openWin_eq, if_pos hopens]
  exact ⟨hwh, hwl, Dev.opened_inUse w, Dev.opened_stored w, hnear.keeps, hnear.legs⟩

theorem exec_adaptationWindowClose : exec (.adaptationWindowClose n w) s = s.act fun d =>
    if w = .test ∧ d.closeWin n w ≠ d then (d.closeWin n w).calNote n else d.closeWin n w := by rfl

theorem adaptationWindowClose_idle (hh : (s.dev.port n).h.win = none) (hl : (s.dev.port n).l.win = none) :
    exec (.adaptationWindowClose n w) s = .next s := by
  have hid : s.dev.closeWin n w = s.dev := by
    rw [Dev.closeWin_eq, Dev.closeEnded_of_none (s := .h) w hh, Dev.closeEnded_of_none (s := .l) w hl]
  refine exec_idle_of_act exec_adaptationWindowClose ?_
  rw [hid, if_neg (by simp)]

/-- A window that has counted its turn-ons closes, and CAL keeps the other section's counts while that one has no
window (R288). -/
theorem adaptationWindowClose_counted (hw : ((s.dev.port n).sec sec).win = some ⟨w, 0⟩) (hk : w ≠ .test) :
    Gives (.adaptationWindowClose n w) s fun e =>
      s.dev.closed e n sec ∧ s.dev.keepsLegs e [n] ∧
      (((s.dev.port n).sec (otherSec sec)).win = none →
        e.fld (pCal n) (calPos (otherSec sec) true + 7) (calPos (otherSec sec) true) =
          s.dev.fld (pCal n) (calPos (otherSec sec) true + 7) (calPos (otherSec sec) true)) ∧
      s.dev.keeps e [pCal n] := by
  have hended : s.dev.winEnded n w sec = true := by simp [Dev.winEnded, hw, hk]
  have hnear := Dev.closeWin_legNear (d := s.dev) (n := n) w
  refine .of_act exec_adaptationWindowClose ?_
  rw [if_neg fun h => hk h.1]
  refine ⟨Dev.closeWin_closed n.isLt hended, hnear.legs, fun hy => ?_, hnear.keeps⟩
  rw [Dev.closeWin_single hended hy]
  exact Dev.closeSec_apart (apart_section sec)

/-- A TEST window that SERVICE or its enable has left closes, and its end is recorded or noted (R288). -/
theorem adaptationWindowClose_test {k : Nat} (hw : ((s.dev.port n).sec sec).win = some ⟨.test, k⟩)
    (hend : s.dev.mode ≠ 10 ∨ s.dev.dieBit n (pAdpctl n) 2 = false) :
    Gives (.adaptationWindowClose n .test) s fun e =>
      s.dev.closed e n sec ∧ s.dev.keepsLegs e [n] ∧ s.dev.keeps e [pCal n, pStat n, Reg.NVM_STAT] ∧
      (if s.dev.rbit Reg.THM_STAT 8 = true ∧ s.dev.rbit Reg.GOV_STAT 9 = false then
        ∃ r, e.fl.due = s.dev.fl.due ++ [r] ∧ r.kind = 3
       else e.rbit (pStat n) 25 = true) := by
  have hended : s.dev.winEnded n .test sec = true := by simpa [Dev.winEnded, hw] using hend
  have hclosed := Dev.closeWin_closed n.isLt hended
  have hnear := Dev.closeWin_legNear (d := s.dev) (n := n) .test
  have hne : s.dev.closeWin n .test ≠ s.dev := fun h => by
    have hnone := hclosed.win
    rw [h, hw] at hnone
    exact Option.some_ne_none _ hnone
  obtain ⟨hlo, hhi⟩ := pCal_range n.isLt
  have hthm : Reg.THM_STAT ≠ pCal n := by unfold Reg.THM_STAT; omega
  have hgov : Reg.GOV_STAT ≠ pCal n := by unfold Reg.GOV_STAT; omega
  have hnvm : pCal n ≠ Reg.NVM_STAT := by unfold Reg.NVM_STAT; omega
  have hcal : ((s.dev.closeWin n .test).calNote n).reg (pCal n) = (s.dev.closeWin n .test).reg (pCal n) :=
    Dev.reg_calNote (pStat_ne_pCal n).symm hnvm
  have hnote := Dev.calNote_outcome (d := s.dev.closeWin n .test) (n := n)
  rw [Dev.rbit_congr (hnear.regs _ (by simpa using hthm)), Dev.rbit_congr (hnear.regs _ (by simpa using hgov)),
    hnear.fl] at hnote
  refine .of_act exec_adaptationWindowClose ?_
  rw [if_pos ⟨rfl, hne⟩]
  refine ⟨⟨?_, fun b => ?_⟩, fun m hm => (Dev.port_calNote m).trans (hnear.legs m hm),
    ⟨fun a => ?_, fun a ha => ?_⟩, hnote⟩
  · rw [Dev.port_calNote]; exact hclosed.win
  · rw [Dev.fld_congr hcal, Dev.fld_congr hcal]; exact hclosed.cal b
  · rw [Dev.byte, Dev.sk_calNote, hnear.sk]; rfl
  · simp only [List.mem_cons, List.not_mem_nil, or_false, not_or] at ha
    obtain ⟨hac, has, han⟩ := ha
    exact (Dev.reg_calNote has han).trans (hnear.regs a (by simpa using hac))

theorem edgeMeasured_idle {ns : Option Nat} (hw : ((s.dev.port n).sec sec).win = none) :
    exec (.edgeMeasured n sec on ns) s = .next s :=
  exec_idle_of_act (f := fun d => d.edge n sec on ns) rfl (Dev.edge_of_none hw)

/-- An edge without a measurement sets NOMEAS (R286). -/
theorem edgeMeasured_unmeasured (hw : ((s.dev.port n).sec sec).win.isSome = true) :
    exec (.edgeMeasured n sec on none) s = .next (s.withDev (s.dev.setRbit (pStat n) 15 true)) :=
  (State.act_eq s fun d => d.edge n sec on none).trans (by rw [Dev.edge_unmeasured hw])

/-- A measured edge keeps its time, and moves its count by one toward the target (R286, R287). -/
theorem edgeMeasured_gives (t : Nat) (hw : ((s.dev.port n).sec sec).win.isSome = true) :
    Gives (.edgeMeasured n sec on (some t)) s fun e =>
      (if on then e.fld (pMeas n sec) 8 0 else e.fld (pMeas n sec) 24 16) = min t 511 ∧
      e.edgeCode n sec on = s.dev.edgeNext n sec on (min t 511) ∧
      s.dev.keeps e [pMeas n sec, pCal n, pStat n] ∧ s.dev.keepsLegs e [] := by
  refine .of_act (f := fun d => d.edge n sec on (some t)) rfl ?_
  have key : ∀ e : Dev, (∀ a, a ≠ pStat n → e.reg a = (s.dev.edgeSet n sec on (min t 511)).reg a) →
      e.sk = s.dev.sk → (∀ m, e.port m = s.dev.port m) →
      (if on then e.fld (pMeas n sec) 8 0 else e.fld (pMeas n sec) 24 16) = min t 511 ∧
      e.edgeCode n sec on = s.dev.edgeNext n sec on (min t 511) ∧
      s.dev.keeps e [pMeas n sec, pCal n, pStat n] ∧ s.dev.keepsLegs e [] := by
    intro e hreg hsk hport
    have hmeas := hreg _ (pMeas_ne_pStat n sec)
    refine ⟨?_, ?_, ⟨fun a => by rw [Dev.byte, hsk]; rfl, fun a ha => ?_⟩, fun m _ => hport m⟩
    · rw [Dev.fld_congr hmeas, Dev.fld_congr hmeas]
      exact Dev.fld_edgeSet_meas (Nat.min_le_right t 511)
    · exact (Dev.fld_congr (hreg _ (pStat_ne_pCal n).symm) _ _).trans Dev.fld_edgeSet_cal
    · simp only [List.mem_cons, List.not_mem_nil, or_false, not_or] at ha
      obtain ⟨ham, hac, has⟩ := ha
      exact (hreg a has).trans (Dev.reg_edgeSet ham hac)
  obtain h | h := Dev.edge_measured (d := s.dev) (n := n) (s := sec) (on := on) t hw
  · rw [h]
    exact key _ (fun _ _ => rfl) Dev.sk_edgeSet Dev.port_edgeSet
  · rw [h]
    exact key _ (fun a ha => Dev.reg_setRbit_other _ _ _ ha) Dev.sk_edgeSet Dev.port_edgeSet

end Sys2Proof.Machine
end

section
/-! SUPPORT. The settlement of the switching of a leg. -/

namespace Sys2Proof.Machine

theorem Dev.edgeBand_eq (d : Dev) (n : Nat) :
    d.edgeBand n = if n < 32 then d.dieFld n (pAdpctl n) 15 8 else d.dieFld n (pAdpctl n) 23 16 := by
  simp [Dev.edgeBand, isHv]

/-- Settles O41: the gate command by what its turn-offs and turn-ons do to one section, the ends of the waits as
updates of one section, and the adaptation window by the fields of CAL that opening it, closing it and a measured edge
write. -/
theorem portSwitching : Obligations.PortSwitching := by
  unfold Obligations.PortSwitching
  intro n sec w h l trip on t s d p x y st cal turnOn
  refine ⟨fun hr => gateCommand_refused (.inr hr), gateCommand_refused (.inl rfl), fun hc hlost hhold horder => ?_,
    minimumPulseEnd_gives, deadTimeFloorEnd_idle, deadTimeFloorEnd_gives, dieBlankingEnd_gives, softTurnOffEnd_gives,
    ?_, ?_, adaptationWindowClose_idle, ?_⟩
  · have hp : p.hears := ⟨hlost, hhold, horder⟩
    refine ⟨gateCommand_taken hc hp, gateCommand_turnsOn hc hp, gateCommand_swaps hc hp, fun hx hy hon hw => ?_⟩
    exact ⟨gateCommand_waits hc hp hx hy hon hw, gateCommand_sinks hc hp hx hy hon hw,
      gateCommand_tripsSoft hc hp hx hy hon hw, fun hn hcfg _ => gateCommand_tripsFull hc hp hx hy hon hw hn hcfg⟩
  · intro adpn due
    have hdue : due w = (d.winDue n w && d.opens n w) := by
      cases w <;> simp [due, Dev.winDue, Dev.opens, Bool.and_assoc, adpn, p]
    rw [hdue]
    exact ⟨adaptationWindowOpen_gives, adaptationWindowOpen_idle⟩
  · intro closed
    have hclosed : ∀ e, d.closed e n sec → d.keepsLegs e [n] → closed e := fun e hs hlegs => ⟨hs.win, hs.cal, hlegs⟩
    constructor
    · intro hw hk
      exact (adaptationWindowClose_counted hw hk).mono fun e ⟨hs, hlegs, hrest⟩ => ⟨hclosed e hs hlegs, hrest⟩
    · intro k hw hend
      exact (adaptationWindowClose_test hw hend).mono fun e ⟨hs, hlegs, hrest⟩ => ⟨hclosed e hs hlegs, hrest⟩
  · intro tgt band meas k seg ns
    have hband : band = d.edgeBand n := (Dev.edgeBand_eq d n).symm
    refine ⟨fun hw => ⟨edgeMeasured_idle hw, edgeMeasured_idle hw⟩, fun hw => ⟨edgeMeasured_unmeasured hw, ?_⟩⟩
    rw [hband]
    refine (edgeMeasured_gives t hw).mono fun e ⟨hmeas, hcode, hrest⟩ => ⟨hmeas, ?_, ?_, ?_, hrest⟩
    · exact fun ht hc => hcode.trans (Dev.edgeNext_slow ht hc)
    · exact fun h1 h2 => hcode.trans (Dev.edgeNext_inBand h1 h2)
    · exact fun ht hc => hcode.trans (Dev.edgeNext_fast ht hc)

end Sys2Proof.Machine
end

section
/-! SUPPORT. The lock table and the marks of a core (R66 to R73, R201, R202): what each operation of a ply lock writes, and
that the registers of the core, the Skein's bytes and the registers of the block stand. -/

namespace Sys2Proof.Machine

variable {d e f : Dev} {c : Core}

/-! ### The frame of the lock operations -/

/-- Two devices that agree in all that a lock operation of a core leaves alone: the Skein's bytes, the registers, and
the value registers, the pc and the running state of the core. -/
structure Dev.plyNear (d e : Dev) (c : Core) : Prop where
  mem : d.sameMem e
  regs : d.sameRegs e []
  gv : ∀ q, e.gv c q = d.gv c q
  pc : e.pcOf c = d.pcOf c
  alive : e.alive c = d.alive c

theorem Dev.plyNear.rfl : d.plyNear d c := ⟨fun _ => by rfl, fun _ _ => by rfl, fun _ => by rfl, by rfl, by rfl⟩

theorem Dev.plyNear.trans (h : d.plyNear e c) (k : e.plyNear f c) : d.plyNear f c where
  mem a := (k.mem a).trans (h.mem a)
  regs a ha := (k.regs a ha).trans (h.regs a ha)
  gv q := (k.gv q).trans (h.gv q)
  pc := k.pc.trans h.pc
  alive := k.alive.trans h.alive

theorem Dev.plyNear.modSk {g : SkeinSt → SkeinSt} (hm : (g d.sk).mem = d.sk.mem) : d.plyNear (d.modSk g) c where
  mem a := by simp [Dev.byte, hm]
  regs _ _ := by rfl
  gv _ := by cases c <;> rfl
  pc := by cases c <;> rfl
  alive := by cases c <;> rfl

/-- An update of a core's own state: of the Spindle's or of the Bobbin's that it is. -/
def Dev.modCore (d : Dev) (c : Core) (g : Spindle → Spindle) (k : Bobbin → Bobbin) : Dev :=
  match c with
  | .spn p => d.modSpn p g
  | .bob b => d.modBob b k

theorem Dev.plyNear_modCore {g : Spindle → Spindle} {k : Bobbin → Bobbin}
    (hg : ∀ x, (g x).v = x.v ∧ (g x).pc = x.pc ∧ (g x).entry = x.entry)
    (hk : ∀ x, (k x).v = x.v ∧ (k x).pc = x.pc ∧ (k x).running = x.running) : d.plyNear (d.modCore c g k) c where
  mem _ := by cases c <;> rfl
  regs _ _ := by cases c <;> rfl
  gv _ := by cases c <;> simp [Dev.gv, Dev.modCore, Dev.modSpn, Dev.modBob, hg, hk]
  pc := by cases c <;> simp [Dev.pcOf, Dev.modCore, Dev.modSpn, Dev.modBob, hg, hk]
  alive := by cases c <;> simp [Dev.alive, Dev.modCore, Dev.modSpn, Dev.modBob, hg, hk]

theorem Dev.noteLb_true (d : Dev) (c : Core) :
    d.noteLb c true = d.modCore c (fun x => { x with lb := true }) fun x => { x with lb := true } := by
  cases c <;> rfl

theorem Dev.setWaitLock_eq (d : Dev) (c : Core) (line : Option Nat) :
    d.setWaitLock c line =
      d.modCore c (fun x => { x with wait := line.map .lock }) fun x => { x with wait := line } := by
  cases c <;> rfl

theorem Dev.plyNear_setLock (req : Nat) (line : Option Nat) : d.plyNear (d.setLock req line) c := by
  unfold Dev.setLock
  split
  · exact .modSk (by rfl)
  · exact .rfl

theorem Dev.plyNear_noteLb (brk : Bool) : d.plyNear (d.noteLb c brk) c := by
  cases brk with
  | false => exact .rfl
  | true =>
    rw [Dev.noteLb_true]
    exact Dev.plyNear_modCore (fun _ => ⟨rfl, rfl, rfl⟩) fun _ => ⟨rfl, rfl, rfl⟩

theorem Dev.plyNear_setWaitLock (line : Option Nat) : d.plyNear (d.setWaitLock c line) c := by
  rw [Dev.setWaitLock_eq]
  exact Dev.plyNear_modCore (fun _ => ⟨rfl, rfl, rfl⟩) fun _ => ⟨rfl, rfl, rfl⟩

theorem Dev.plyNear_addWait (w : LockWait) : d.plyNear (d.addWait w) c := .modSk (by rfl)

theorem Dev.plyNear_takeLock (line : Nat) : d.plyNear (d.takeLock c line) c :=
  (Dev.plyNear_setLock _ _).trans (Dev.plyNear_noteLb _)

/-- A core that goes on at the next instruction after a lock operation. -/
theorem Dev.plyNear.goesOn (h : d.plyNear e c) (w : Word) :
    (e.setPc c w).pcOf c = w ∧ (∀ q, (e.setPc c w).gv c q = d.gv c q) ∧ d.sameMem (e.setPc c w) ∧
      d.sameRegs (e.setPc c w) [] := by
  refine ⟨Dev.pcOf_setPc .., fun q => (Dev.gv_setPc ..).trans (h.gv q), fun a => ?_, fun a ha => ?_⟩
  · rw [← h.mem a]; simp only [Dev.byte, Dev.sk_setPc]
  · rw [← h.regs a ha]; simp only [Dev.reg, Dev.regs_setPc]

/-! ### The lock of a requester -/

theorem lockIdx_coreReq (c : Core) : ∃ i, lockIdx (coreReq c) = some i := by
  cases c with
  | spn p => exact ⟨_, if_pos (show 18 ≤ 18 + p.val ∧ 18 + p.val ≤ 35 by omega)⟩
  | bob b =>
    exact ⟨_, (if_neg (show ¬(18 ≤ 100 + b.val ∧ 100 + b.val ≤ 35) by omega)).trans
      (if_pos (show 100 ≤ 100 + b.val ∧ 100 + b.val ≤ 103 by omega))⟩

theorem Dev.lockOf_congr (h : e.sk.locks = d.sk.locks) (req : Nat) : e.lockOf req = d.lockOf req := by
  simp only [Dev.lockOf, h]

theorem Dev.lockOf_setLock_self (c : Core) (line : Option Nat) :
    (d.setLock (coreReq c) line).lockOf (coreReq c) = line := by
  obtain ⟨i, hi⟩ := lockIdx_coreReq c
  simp [Dev.lockOf, Dev.setLock, hi]

theorem Dev.lockOf_setLock_other {req q : Nat} (h : lockIdx q ≠ lockIdx req) (line : Option Nat) :
    (d.setLock req line).lockOf q = d.lockOf q := by
  unfold Dev.setLock
  cases hr : lockIdx req with
  | none => rfl
  | some i =>
    unfold Dev.lockOf
    cases hq : lockIdx q with
    | none => rfl
    | some j =>
      have hne : j ≠ i := fun hji => h (by rw [hq, hr, hji])
      exact smGet_smSet_other _ _ _ hne

theorem Dev.sk_noteLb (c : Core) (brk : Bool) : (d.noteLb c brk).sk = d.sk := by
  cases brk with
  | false => rfl
  | true => cases c <;> rfl

theorem Dev.lockOf_noteLb_setPc (brk : Bool) (w : Word) (req : Nat) :
    ((d.noteLb c brk).setPc c w).lockOf req = d.lockOf req :=
  Dev.lockOf_congr (by rw [Dev.sk_setPc, Dev.sk_noteLb]) req

/-! ### The line that a core waits for -/

@[simp] theorem Dev.waitLock_setWaitLock (line : Option Nat) : (d.setWaitLock c line).waitLock c = line := by
  cases c <;> cases line <;> simp [Dev.waitLock, Dev.setWaitLock, Dev.modSpn, Dev.modBob]

@[simp] theorem Dev.waitLock_modSk (g : SkeinSt → SkeinSt) : (d.modSk g).waitLock c = d.waitLock c := by
  cases c <;> rfl

@[simp] theorem Dev.waitLock_setLock (req : Nat) (line : Option Nat) :
    (d.setLock req line).waitLock c = d.waitLock c := by
  unfold Dev.setLock
  split
  · exact Dev.waitLock_modSk _
  · rfl

@[simp] theorem Dev.waitLock_noteLb (brk : Bool) : (d.noteLb c brk).waitLock c = d.waitLock c := by
  cases brk with
  | false => rfl
  | true => cases c <;> simp [Dev.noteLb, Dev.waitLock, Dev.modSpn, Dev.modBob]

@[simp] theorem Dev.waitLock_setPc (w : Word) : (d.setPc c w).waitLock c = d.waitLock c := by
  cases c <;> simp [Dev.setPc, Dev.waitLock, Dev.modSpn, Dev.modBob]

/-! ### Freeing a lock where nothing of the Skein's traffic is under way -/

/-- A bank with no draw raised has nothing to settle. -/
theorem Dev.settle_idle {bank : Nat} (h : d.drawsOf bank = []) : d.settle bank = d := by
  have hr : d.raisedDraws bank = [] := by simp [Dev.raisedDraws, h, oldest]
  unfold Dev.settle
  cases d.drawFuel with
  | zero => rfl
  | succ n => simp [Dev.settleN, hr]

/-- Where no Whorl owes a prefetch, none is made. -/
theorem Dev.prefetches_idle (h : ∀ n, (d.whorl n).notice = false) : d.prefetches = d := by
  have hround : d.md.whorls.foldl (fun e w => if (e.whorl w.1).notice then e.prefetch w.1 else e) d = d := by
    induction d.md.whorls with
    | nil => rfl
    | cons w ws ih => simpa [h w.1] using ih
  unfold Dev.prefetches
  induction d.drawFuel + 1 with
  | zero => rfl
  | succ n ih => simp only [Dev.prefetchN, hround, ih, ite_self]

theorem Dev.freeLock_settled {req line : Nat} (hl : d.lockOf req = some line) (hd : d.settled) :
    d.freeLock req = d.setLock req none := by
  obtain ⟨hquiet, hnotice⟩ := hd
  have hdraws : (d.setLock req none).drawsOf (line / 16384) = [] := by
    rw [← hquiet (line / 16384)]
    unfold Dev.setLock
    split <;> rfl
  have hwhorl : ∀ n, ((d.setLock req none).whorl n).notice = false := fun n => by
    rw [← hnotice n]
    unfold Dev.setLock
    split <;> rfl
  simp only [Dev.freeLock, hl, Dev.settle_idle hdraws, Dev.prefetches_idle hwhorl]

end Sys2Proof.Machine
end

section
/-! SUPPORT. ply.lock, ply.free, ply.st and PLY_LOCK_GRANT: the effect of each, case by case. -/

namespace Sys2Proof.Machine

/-! ### Instructions that run-ahead makes illegal -/

/-- What holds of the device that an instruction runs to, with the pc moved on. -/
theorem RunsTo.gives {s : State} {c : Core} {i : Instr} {e : Dev} {P : Dev → Prop} (h : RunsTo s c i e)
    (hx : s.dev.executes c i) (hp : P (e.setPc c (s.dev.pcOf c + 4))) : Gives i s P := ⟨_, h hx, rfl, hp⟩

section
variable {s : State} {c : Core} {i : Instr} {g : Dev → Eff}
  (hex : exec i s = s.act fun d => d.issue c i .both false fun d => d.raill c (g d))
include hex

theorem traps_raill (hra : s.dev.inRa c = true) : Traps s c i 0x10 none :=
  traps_issue hex rfl (if_pos hra) (by decide)

theorem traps_outside_raill {n : Nat} {ea : Option Word} (hra : s.dev.inRa c = false) (hg : g s.dev = .trap s.dev n ea)
    (hn : n ≠ 1) : Traps s c i n ea :=
  traps_issue hex rfl ((if_neg (by simp [hra])).trans hg) hn

theorem runs_outside_raill {e : Dev} (hra : s.dev.inRa c = false) (hg : g s.dev = .next e)
    (ha : e.alive c = s.dev.alive c) (hpc : e.pcOf c = s.dev.pcOf c) : RunsTo s c i e :=
  runs_issue hex rfl ((if_neg (by simp [hra])).trans hg) ha hpc

theorem gives_stay_outside_raill {e : Dev} {P : Dev → Prop} (hra : s.dev.inRa c = false) (hg : g s.dev = .stay e)
    (hx : s.dev.executes c i) (hp : P e) : Gives i s P := by
  refine .of_act hex ?_
  rw [Dev.issue_stay hx rfl ((if_neg (by simp [hra])).trans hg)]
  exact hp

end

/-! ### The effects outside run-ahead -/

/-- What ply.lock of an address does outside run-ahead. -/
def Dev.plyLockEff (d : Dev) (c : Core) (a : Word) : Eff :=
  if 0x1000000 ≤ a.toNat then .trap d 7 (some a)
  else if d.holdsLock c then .trap d 0x11 (some a)
  else if d.plyKind a.toNat then .trap d 0x13 (some a)
  else if d.lockedBy (coreReq c) (lineOfAddr a) then
    .stay ((d.setWaitLock c (some (lineOfAddr a))).addWait ⟨coreReq c, lineOfAddr a⟩)
  else .next (d.takeLock c (lineOfAddr a))

/-- What ply.free of an address does outside run-ahead. -/
def Dev.plyFreeEff (d : Dev) (c : Core) (a : Word) : Eff :=
  if 0x1000000 ≤ a.toNat then .trap d 7 (some a)
  else if d.lockOf (coreReq c) = some (lineOfAddr a) then
    .next ((d.freeLock (coreReq c)).noteLb c (d.isBroken (lineOfAddr a)))
  else if d.isBroken (lineOfAddr a) then .next (d.noteLb c true)
  else .trap d 0x14 (some a)

/-- LB of a core (R202). -/
def Dev.lbOf (d : Dev) : Core → Bool
  | .spn p => (d.spn p).lb
  | .bob b => (d.bob b).lb

/-- LB cleared. -/
def Dev.clearLb (d : Dev) (c : Core) : Dev :=
  d.modCore c (fun x => { x with lb := false }) fun x => { x with lb := false }

theorem Dev.plyNear_clearLb {d : Dev} {c : Core} : d.plyNear (d.clearLb c) c :=
  Dev.plyNear_modCore (fun _ => ⟨rfl, rfl, rfl⟩) fun _ => ⟨rfl, rfl, rfl⟩

variable {s : State} {c : Core} {r : BitVec 5}

theorem exec_plyLock : exec (.plyLock c ⟨0, 0, r, 0⟩) s = s.act fun d =>
    d.issue c (.plyLock c ⟨0, 0, r, 0⟩) .both false fun d => d.raill c (d.plyLockEff c (d.gv c r)) := by rfl

theorem exec_plyFree : exec (.plyFree c ⟨0, 0, r, 0⟩) s = s.act fun d =>
    d.issue c (.plyFree c ⟨0, 0, r, 0⟩) .both false fun d => d.raill c (d.plyFreeEff c (d.gv c r)) := by rfl

theorem exec_plySt : exec (.plySt c ⟨0, 0, 0, r⟩) s = s.act fun d =>
    d.issue c (.plySt c ⟨0, 0, 0, r⟩) .both false fun d =>
      d.raill c (.next ((d.setV c r (boolWord (d.lbOf c))).clearLb c)) := by
  cases c <;> rfl

section
variable {d : Dev} {a : Word}

theorem Dev.plyLockEff_outside (ha : 0x1000000 ≤ a.toNat) : d.plyLockEff c a = .trap d 7 (some a) := if_pos ha

theorem Dev.plyFreeEff_outside (ha : 0x1000000 ≤ a.toNat) : d.plyFreeEff c a = .trap d 7 (some a) := if_pos ha

theorem Dev.plyLockEff_second (ha : a.toNat < 0x1000000) (hl : (d.lockOf (coreReq c)).isSome = true) :
    d.plyLockEff c a = .trap d 0x11 (some a) := by
  simp [Dev.plyLockEff, Dev.holdsLock, ha, hl]

theorem Dev.plyLockEff_kind (ha : a.toNat < 0x1000000) (hl : d.lockOf (coreReq c) = none)
    (hk : d.plyKind a.toNat = true) : d.plyLockEff c a = .trap d 0x13 (some a) := by
  simp [Dev.plyLockEff, Dev.holdsLock, ha, hl, hk]

theorem Dev.plyLockEff_waits (ha : a.toNat < 0x1000000) (hl : d.lockOf (coreReq c) = none)
    (hk : d.plyKind a.toNat = false) (hb : d.lockedBy (coreReq c) (lineOfAddr a) = true) :
    d.plyLockEff c a = .stay ((d.setWaitLock c (some (lineOfAddr a))).addWait ⟨coreReq c, lineOfAddr a⟩) := by
  simp [Dev.plyLockEff, Dev.holdsLock, ha, hl, hk, hb]

theorem Dev.plyLockEff_takes (ha : a.toNat < 0x1000000) (hl : d.lockOf (coreReq c) = none)
    (hk : d.plyKind a.toNat = false) (hb : d.lockedBy (coreReq c) (lineOfAddr a) = false) :
    d.plyLockEff c a = .next (d.takeLock c (lineOfAddr a)) := by
  simp [Dev.plyLockEff, Dev.holdsLock, ha, hl, hk, hb]

theorem Dev.plyFreeEff_frees (ha : a.toNat < 0x1000000) (hl : d.lockOf (coreReq c) = some (lineOfAddr a))
    (hd : d.settled) :
    d.plyFreeEff c a = .next ((d.setLock (coreReq c) none).noteLb c (d.isBroken (lineOfAddr a))) := by
  rw [Dev.plyFreeEff, if_neg (by omega), if_pos hl, Dev.freeLock_settled hl hd]

theorem Dev.plyFreeEff_notHeld (ha : a.toNat < 0x1000000) (hl : d.lockOf (coreReq c) ≠ some (lineOfAddr a))
    (hb : d.isBroken (lineOfAddr a) = false) : d.plyFreeEff c a = .trap d 0x14 (some a) := by
  simp [Dev.plyFreeEff, ha, hl, hb]

end

/-! ### The commands -/

theorem plyLock_takes (hra : s.dev.inRa c = false) (ha : (s.dev.gv c r).toNat < 0x1000000)
    (hl : s.dev.lockOf (coreReq c) = none) (hk : s.dev.plyKind (s.dev.gv c r).toNat = false)
    (hb : s.dev.lockedBy (coreReq c) (lineOfAddr (s.dev.gv c r)) = false) :
    RunsTo s c (.plyLock c ⟨0, 0, r, 0⟩) (s.dev.takeLock c (lineOfAddr (s.dev.gv c r))) :=
  have hnear := Dev.plyNear_takeLock _
  runs_outside_raill exec_plyLock hra (Dev.plyLockEff_takes ha hl hk hb) hnear.alive hnear.pc

theorem plyFree_frees (hra : s.dev.inRa c = false) (ha : (s.dev.gv c r).toNat < 0x1000000)
    (hl : s.dev.lockOf (coreReq c) = some (lineOfAddr (s.dev.gv c r))) (hd : s.dev.settled) :
    RunsTo s c (.plyFree c ⟨0, 0, r, 0⟩)
      ((s.dev.setLock (coreReq c) none).noteLb c (s.dev.isBroken (lineOfAddr (s.dev.gv c r)))) :=
  have hnear := (Dev.plyNear_setLock _ _).trans (Dev.plyNear_noteLb _)
  runs_outside_raill exec_plyFree hra (Dev.plyFreeEff_frees ha hl hd) hnear.alive hnear.pc

theorem plySt_reads (hra : s.dev.inRa c = false) :
    RunsTo s c (.plySt c ⟨0, 0, 0, r⟩) ((s.dev.setV c r (if s.dev.lbOf c then 1 else 0)).clearLb c) :=
  runs_outside_raill exec_plySt hra rfl (Dev.plyNear_clearLb.alive.trans (Dev.alive_setV ..))
    (Dev.plyNear_clearLb.pc.trans (Dev.pcOf_setV ..))

/-- The wait of a core for a line ends: neither the core nor the list of waits keeps it. -/
def Dev.endWait (d : Dev) (c : Core) : Dev :=
  (d.setWaitLock c none).modSk fun x => { x with waits := x.waits.filter fun w => decide (w.req ≠ coreReq c) }

theorem Dev.plyNear_endWait {d : Dev} {c : Core} : d.plyNear (d.endWait c) c :=
  (Dev.plyNear_setWaitLock none).trans (.modSk (by rfl))

theorem Dev.waitLock_endWait {d : Dev} {c : Core} : (d.endWait c).waitLock c = none :=
  (Dev.waitLock_modSk _).trans (Dev.waitLock_setWaitLock none)

theorem exec_plyLockGrant : exec (.plyLockGrant c) s = s.run fun d =>
    match d.waitLock c with
    | some n => if d.lockedBy (coreReq c) n then d else ((d.endWait c).takeLock c n).setPc c (d.pcOf c + 4)
    | none => d := by rfl

theorem plyLockGrant_waits {n : Nat} (hw : s.dev.waitLock c = some n) (hb : s.dev.lockedBy (coreReq c) n = true) :
    exec (.plyLockGrant c) s = .next s :=
  exec_idle_of_run exec_plyLockGrant (by simp [hw, hb])

theorem plyLockGrant_grants {n : Nat} {P : Dev → Prop} (hc : s.dev.clocked = true) (hw : s.dev.waitLock c = some n)
    (hb : s.dev.lockedBy (coreReq c) n = false)
    (hp : P (((s.dev.endWait c).takeLock c n).setPc c (s.dev.pcOf c + 4))) : Gives (.plyLockGrant c) s P :=
  .of_run exec_plyLockGrant hc (by simpa [hw, hb] using hp)

end Sys2Proof.Machine
end

section
/-! SUPPORT. The settlement of the ply locks. -/

namespace Sys2Proof.Machine

/-- Settles O28: each trap and each grant is one case of an instruction's effect, and what a lock operation leaves alone
is said once for all of them. -/
theorem plyLocks : Obligations.PlyLocks := by
  unfold Obligations.PlyLocks
  intro c r s d a line lk fr
  refine ⟨fun hra => ⟨traps_raill exec_plyLock hra, traps_raill exec_plyFree hra, traps_raill exec_plySt hra⟩,
    fun hra ha => ⟨traps_outside_raill exec_plyLock hra (Dev.plyLockEff_outside ha) (by decide),
      traps_outside_raill exec_plyFree hra (Dev.plyFreeEff_outside ha) (by decide)⟩,
    fun hra ha => ⟨fun hl => ?second, fun hl hk => ?kind, fun hl hk hb hx => ?takes, fun hl hk hb hx => ?waits,
      fun hl hb => ?notHeld, fun hl hd hx => ?frees⟩, ?plyStSpindle, ?plyStBobbin, fun n hc hw hb => ?granted,
    fun n => plyLockGrant_waits⟩
  case second => exact traps_outside_raill exec_plyLock hra (Dev.plyLockEff_second ha hl) (by decide)
  case kind => exact traps_outside_raill exec_plyLock hra (Dev.plyLockEff_kind ha hl hk) (by decide)
  case takes =>
    obtain ⟨hpc, hgv, hmem, hregs⟩ := (Dev.plyNear_takeLock (d := d) (c := c) line).goesOn (d.pcOf c + 4)
    refine (plyLock_takes hra ha hl hk hb).gives hx ⟨?_, hpc, hgv, fun req hreq => ?_, hmem, hregs⟩
    · exact (Dev.lockOf_noteLb_setPc ..).trans (Dev.lockOf_setLock_self c _)
    · exact (Dev.lockOf_noteLb_setPc ..).trans (Dev.lockOf_setLock_other hreq _)
  case waits =>
    have hnear :=
      (Dev.plyNear_setWaitLock (d := d) (c := c) (some line)).trans (Dev.plyNear_addWait ⟨coreReq c, line⟩)
    refine gives_stay_outside_raill exec_plyLock hra (Dev.plyLockEff_waits ha hl hk hb) hx
      ⟨?_, ?_, hnear.pc, hnear.mem, hnear.regs⟩
    · exact (Dev.waitLock_modSk _).trans (Dev.waitLock_setWaitLock _)
    · exact List.mem_append_right _ (List.mem_singleton_self _)
  case notHeld => exact traps_outside_raill exec_plyFree hra (Dev.plyFreeEff_notHeld ha hl hb) (by decide)
  case frees =>
    have hnear := (Dev.plyNear_setLock (d := d) (c := c) (coreReq c) none).trans (Dev.plyNear_noteLb (d.isBroken line))
    refine (plyFree_frees hra ha hl hd).gives hx ⟨?_, hnear.goesOn _⟩
    exact (Dev.lockOf_noteLb_setPc ..).trans (Dev.lockOf_setLock_self c _)
  case plyStSpindle =>
    rintro p rfl hra
    exact plySt_reads hra
  case plyStBobbin =>
    rintro b rfl
    exact plySt_reads rfl
  case granted =>
    have hnear := (Dev.plyNear_endWait (d := d) (c := c)).trans (Dev.plyNear_takeLock n)
    refine plyLockGrant_grants hc hw hb ⟨?_, ?_, hnear.goesOn _⟩
    · exact (Dev.lockOf_noteLb_setPc ..).trans (Dev.lockOf_setLock_self c _)
    · simp [Dev.takeLock, Dev.waitLock_endWait]

end Sys2Proof.Machine
end

section
/-! SUPPORT. Division (R145, R146): the three instructions share one write, of a result or, by a divisor of 0, of its
substitute with DZ. -/

namespace Sys2Proof.Machine

@[simp] theorem Dev.raiseFlags_zero (d : Dev) (c : Core) : d.raiseFlags c 0#32 = d := by
  cases c <;> simp [Dev.raiseFlags, Dev.raiseLoopFlags]

section
variable {s : State} {c : Core} {i : Instr} {rd r : BitVec 5} {x : Dev → Word × Bool} {z : Dev → Word}
  (hex : exec i s = s.act fun d => d.issue c i .both false fun d =>
    .next (d.setDiv c rd (decide (d.gv c r = 0)) (x d) (z d)))
include hex

theorem runs_setDiv_of_ne_zero (hr : s.dev.gv c r ≠ 0) :
    RunsTo s c i ((s.dev.setV c rd (x s.dev).1).raiseFlags c (if (x s.dev).2 then fVSAT else 0)) := by
  refine runs_issue hex rfl ?_ (by simp) (by simp)
  rw [decide_eq_false hr]
  rfl

theorem runs_setDiv_of_zero (hr : s.dev.gv c r = 0) : RunsTo s c i ((s.dev.setV c rd (z s.dev)).raiseFlags c fDZ) := by
  refine runs_issue hex rfl ?_ (by simp) (by simp)
  rw [decide_eq_true hr]
  rfl

end

/-- A result that never saturates raises no flag. -/
theorem runs_setDiv_exact {s : State} {c : Core} {i : Instr} {rd r : BitVec 5} {x z : Dev → Word}
    (hex : exec i s = s.act fun d => d.issue c i .both false fun d =>
      .next (d.setDiv c rd (decide (d.gv c r = 0)) (x d, false) (z d)))
    (hr : s.dev.gv c r ≠ 0) : RunsTo s c i (s.dev.setV c rd (x s.dev)) := by
  simpa using runs_setDiv_of_ne_zero (x := fun d => (x d, false)) hex hr

section
variable {s : State} {c : Core} {f : RegF} (hf : f.sh = 0)
include hf

theorem exec_div : exec (.div c f) s = s.act fun d => d.issue c (.div c f) .both false fun d =>
    .next (d.setDiv c f.rd (decide (d.gv c f.rs2 = 0)) (sat32 (divTz (d.iv c f.rs1) (d.iv c f.rs2)))
      (if 0 ≤ d.iv c f.rs1 then 0x7FFFFFFF else 0x80000000)) := by
  cases f
  cases hf
  rfl

theorem exec_divu : exec (.divu c f) s = s.act fun d => d.issue c (.divu c f) .both false fun d =>
    .next (d.setDiv c f.rd (decide (d.gv c f.rs2 = 0))
      (BitVec.ofNat 32 ((d.gv c f.rs1).toNat / (d.gv c f.rs2).toNat), false) 0xFFFFFFFF) := by
  cases f
  cases hf
  rfl

theorem exec_rem : exec (.rem c f) s = s.act fun d => d.issue c (.rem c f) .both false fun d =>
    .next (d.setDiv c f.rd (decide (d.gv c f.rs2 = 0))
      (BitVec.ofInt 32 ((d.iv c f.rs1).tmod (d.iv c f.rs2)), false) (d.gv c f.rs1)) := by
  cases f
  cases hf
  rfl

end

/-- Settles O13: each of the three divisions is the shared write, read off for a divisor other than 0 and for 0. -/
theorem division : Obligations.Division := by
  unfold Obligations.Division
  intro c f s hf d x y q
  have hdiv := exec_div (s := s) (c := c) hf
  have hdivu := exec_divu (s := s) (c := c) hf
  have hrem := exec_rem (s := s) (c := c) hf
  refine ⟨fun hy => ⟨?_, ?_, ?_⟩, fun hy => ⟨?_, ?_, ?_⟩⟩
  · exact (runs_setDiv_of_ne_zero hdiv hy :)
  · exact (runs_setDiv_exact hdivu hy :)
  · exact (runs_setDiv_exact hrem hy :)
  · exact (runs_setDiv_of_zero hdiv hy :)
  · exact (runs_setDiv_of_zero hdivu hy :)
  · exact (runs_setDiv_of_zero hrem hy :)

end Sys2Proof.Machine
end

section
/-! SUPPORT. Trap entry and double trap of a Bobbin (R167, R168): its control registers and pc afterwards, and that the
Skein and the registers of the block stand. -/

namespace Sys2Proof.Machine

variable {d : Dev} {b : Nat}

/-! ### Control registers -/

theorem Dev.csr_setCsr (n : Nat) (w : Word) (k : Nat) :
    (d.setCsr b n w).csr b k = if k = n then w else d.csr b k := by
  simp [Dev.setCsr, Dev.csr, Dev.modBob, smGet_smSet]

theorem Dev.csr_modBob {g : Bobbin → Bobbin} (hg : ∀ x, (g x).csr = x.csr) (n : Nat) :
    (d.modBob b g).csr b n = d.csr b n := by
  simp [Dev.csr, Dev.modBob, hg]

@[simp] theorem Dev.csr_raise (s i n : Nat) : (d.raise s i).csr b n = d.csr b n := by simp [Dev.csr]

/-! ### Trap entry -/

/-- The status word in a handler (R167): SUP and IE saved and then 1 and 0, and TRP. -/
def handlerStatus (st : Word) : Word :=
  putBit (putBit (putBit (putBit (putBit st 2 (bitOf st 0)) 3 (bitOf st 1)) 0 true) 1 false) 5 true

theorem bitOf_handlerStatus (st : Word) (i : Nat) : bitOf (handlerStatus st) i =
    if i = 5 then true else if i = 1 then false else if i = 0 then true
    else if i = 3 then bitOf st 1 else if i = 2 then bitOf st 0 else bitOf st i := by
  simp only [handlerStatus, bitOf_putBit, Nat.reduceLT]

theorem Dev.csr_trapEntry (epc cause tval : Word) (n : Nat) : (d.trapEntry b epc cause tval).csr b n =
    if n = 0 then handlerStatus (d.csr b 0) else if n = 3 then tval else if n = 2 then cause
    else if n = 1 then epc else d.csr b n := by
  unfold Dev.trapEntry
  rw [Dev.csr_modBob (by intro x; rfl)]
  simp only [Dev.csr_setCsr]
  rfl

theorem Dev.bitOf_status_trapEntry (epc cause tval : Word) (i : Nat) :
    bitOf ((d.trapEntry b epc cause tval).csr b 0) i =
      if i = 5 then true else if i = 1 then false else if i = 0 then true
      else if i = 3 then bitOf (d.csr b 0) 1 else if i = 2 then bitOf (d.csr b 0) 0 else bitOf (d.csr b 0) i := by
  rw [Dev.csr_trapEntry, if_pos rfl, bitOf_handlerStatus]

theorem Dev.pc_trapEntry (epc cause tval : Word) :
    ((d.trapEntry b epc cause tval).bob b).pc = d.csr b 4 &&& 0xFFFFFF00 := by
  simp [Dev.trapEntry, Dev.modBob]

theorem Dev.bobTrap_entry {epc cause tval : Word} (h : d.trp b = false) :
    d.bobTrap b epc cause (some tval) = d.trapEntry b epc cause tval := by
  simp [Dev.bobTrap, h, Dev.tvalOr]

/-! ### Double trap -/

/-- The Bobbin stopped. -/
def Dev.bobStopped (d : Dev) (b : Nat) : Dev :=
  d.modBob b fun x => { x with running := false, wfi := false, wait := none }

theorem Dev.csr_bobStopped (n : Nat) : (d.bobStopped b).csr b n = d.csr b n := Dev.csr_modBob (by intro x; rfl) n

theorem Dev.running_bobStopped : ((d.bobStopped b).bob b).running = false := by simp [Dev.bobStopped, Dev.modBob]

theorem Dev.bobTrap_double {epc cause : Word} {tval : Option Word} (h : d.trp b = true) :
    d.bobTrap b epc cause tval = (d.bobStopped b).raise Src.BOB_DTRAP b := if_pos h

/-! ### What either leaves alone -/

theorem Dev.keeps_of_eq {e : Dev} (hsk : e.sk = d.sk) (hregs : e.regs = d.regs) : d.keeps e [] :=
  ⟨fun _ => by simp only [Dev.byte, hsk], fun _ _ => by simp only [Dev.reg, hregs]⟩

theorem Dev.keeps_trapEntry (epc cause tval : Word) : d.keeps (d.trapEntry b epc cause tval) [] :=
  Dev.keeps_of_eq (by simp [Dev.trapEntry, Dev.setCsr, Dev.modBob]) (by simp [Dev.trapEntry, Dev.setCsr, Dev.modBob])

theorem Dev.keeps_bobTrap (epc cause tval : Word) : d.keeps (d.bobTrap b epc cause (some tval)) [] := by
  cases h : d.trp b with
  | false => rw [Dev.bobTrap_entry h]; exact Dev.keeps_trapEntry ..
  | true =>
    rw [Dev.bobTrap_double h]
    exact Dev.keeps_of_eq (Dev.raise_sk ..) (Dev.raise_regs ..)

/-! ### The trap of an instruction -/

/-- A trap with an address is a trap entry or a double trap with some cause word and tval. -/
theorem Dev.takeTrap_bob (b : Fin 3) (w ea : Word) (cause : Nat) : ∃ code tval : Word,
    d.takeTrap (.bob b) w cause (some ea) = d.bobTrap b (d.bob b).pc code (some tval) := by
  by_cases h : cause = 2 ∨ cause = 3 ∨ cause = 4
  · exact ⟨_, w, congrArg (d.bobTrap b _ _) (if_pos h)⟩
  · exact ⟨_, ea, congrArg (d.bobTrap b _ _) (if_neg h)⟩

/-- A cause with neither the instruction's word nor a trap code takes the address as its tval (R165, R167). -/
theorem Dev.takeTrap_bob_addressed {b : Fin 3} {w ea : Word} {cause : Nat} (h2 : cause ≠ 2) (h3 : cause ≠ 3)
    (h4 : cause ≠ 4) (h13 : cause ≠ 13) (h : d.trp b = false) :
    d.takeTrap (.bob b) w cause (some ea) = d.trapEntry b (d.bob b).pc (BitVec.ofNat 32 cause) ea := by
  rw [← Dev.bobTrap_entry h]
  simp [Dev.takeTrap, h2, h3, h4, h13]

end Sys2Proof.Machine
end

section
/-! SUPPORT. The trap of a Spindle (R161, R240): it stops the entry point, marks the loop, notes the trap in the record
and reports it. -/

namespace Sys2Proof.Machine

variable {d : Dev} {p l cause : Nat} {pc ea : Word} {imp : Bool}

/-! ### The parts of the trap -/

/-- The entry point of the loop stopped and TRAPPED set. -/
def Dev.loopTrapped (d : Dev) (p l : Nat) : Dev :=
  (d.when (decide ((d.spn p).slot = some l)) fun d => d.stopEntry p).setRbit (Reg.SPN_LSTAT p l) 6 true

/-- SPN_TRAPC of a new record: V, MORE as it was, and the low bits. -/
def trapRecord (old : Word) (l cause : Nat) (imp : Bool) : Word :=
  (0x80000000 : Word) ||| (old &&& (0x40000000 : Word)) |||
    (BitVec.ofNat 32 (imp.toNat <<< 10 ||| l <<< 8 ||| cause % 256) : Word)

/-- The trap noted: a new record, or MORE beside the one that stands (R240). -/
def Dev.trapNoted (d : Dev) (p l cause : Nat) (pc ea : Word) (imp : Bool) : Dev :=
  if d.rbit (Reg.SPN_TRAPC p) 31 then (d.loopTrapped p l).setRbit (Reg.SPN_TRAPC p) 30 true
  else (((d.loopTrapped p l).setReg (Reg.SPN_TRAPC p) (trapRecord (d.reg (Reg.SPN_TRAPC p)) l cause imp)).setReg
    (Reg.SPN_TRAPPC p) pc).setReg (Reg.SPN_TRAPEA p) ea

theorem Dev.spnTrap_eq : d.spnTrap p l cause pc ea imp =
    ((d.trapNoted p l cause pc ea imp).raise Src.SPN_TRAP (d.loopInst p l)).injTargetGone p l := by rfl

/-! ### The bits of a record -/

theorem bitOf_trapRecord_flags (old : Word) {i : Nat} (hi : i < 30) :
    bitOf (0x80000000 ||| (old &&& 0x40000000)) i = false := by
  have hV : bitOf 0x80000000 i = false := by revert i; decide
  have hM : bitOf 0x40000000 i = false := by revert i; decide
  rw [bitOf_eq] at hV hM ⊢
  rw [BitVec.getLsbD_or, BitVec.getLsbD_and, hV, hM, Bool.and_false, Bool.or_self]

theorem trapRecord_low (hl : l < 4) (cause : Nat) (imp : Bool) :
    imp.toNat <<< 10 ||| l <<< 8 ||| cause % 256 = imp.toNat * 1024 + l * 256 + cause % 256 := by
  have hcode : cause % 256 < 2 ^ 8 := Nat.mod_lt _ (by decide)
  have hloop : l <<< 8 + cause % 256 < 2 ^ 10 := by rw [Nat.shiftLeft_eq]; omega
  rw [Nat.lor_assoc, ← Nat.shiftLeft_add_eq_or_of_lt hcode, ← Nat.shiftLeft_add_eq_or_of_lt hloop, Nat.shiftLeft_eq,
    Nat.shiftLeft_eq]
  omega

/-- Fields below MORE read the low bits. -/
theorem bitsOf_trapRecord (old : Word) (hl : l < 4) {hi lo : Nat} (hhi : hi < 30) :
    bitsOf (trapRecord old l cause imp) hi lo =
      (imp.toNat * 1024 + l * 256 + cause % 256) / 2 ^ lo % 2 ^ (hi + 1 - lo) := by
  have himp := Bool.toNat_le imp
  have hlow : bitsOf (trapRecord old l cause imp) hi lo =
      bitsOf (BitVec.ofNat 32 (imp.toNat * 1024 + l * 256 + cause % 256)) hi lo :=
    bitsOf_congr _ _ _ _ fun i _ h => by
      rw [trapRecord, trapRecord_low hl, bitOf_or, bitOf_trapRecord_flags old (by omega), Bool.false_or]
  have hword : imp.toNat * 1024 + l * 256 + cause % 256 < 2 ^ 32 := by omega
  rw [hlow, bitsOf, BitVec.toNat_ofNat, Nat.mod_eq_of_lt hword, Nat.shiftRight_eq_div_pow]

theorem cause_trapRecord (old : Word) (hl : l < 4) : bitsOf (trapRecord old l cause imp) 7 0 = cause % 256 := by
  rw [bitsOf_trapRecord old hl (by decide)]
  omega

theorem loop_trapRecord (old : Word) (hl : l < 4) : bitsOf (trapRecord old l cause imp) 9 8 = l := by
  rw [bitsOf_trapRecord old hl (by decide)]
  omega

theorem imp_trapRecord (old : Word) (hl : l < 4) : bitOf (trapRecord old l cause imp) 10 = imp := by
  have hbit : bitsOf (trapRecord old l cause imp) 10 10 = imp.toNat := by
    rw [bitsOf_trapRecord old hl (by decide)]
    have himp := Bool.toNat_le imp
    omega
  have htest := testBit_bitsOf (trapRecord old l cause imp) 10 10 0
  rw [hbit] at htest
  cases imp <;> simpa using htest.symm

theorem valid_trapRecord (old : Word) : bitOf (trapRecord old l cause imp) 31 = true := by
  rw [trapRecord, bitOf_or, bitOf_or]
  rfl

/-! ### Stopping the entry point and marking the loop -/

theorem trapRegs_lt (p l : Nat) : Reg.SPN_TRAPC p < Reg.SPN_TRAPPC p ∧ Reg.SPN_TRAPPC p < Reg.SPN_TRAPEA p ∧
    Reg.SPN_TRAPEA p < Reg.SPN_LSTAT p l := by
  unfold Reg.SPN_TRAPC Reg.SPN_TRAPPC Reg.SPN_TRAPEA Reg.SPN_LSTAT
  omega

theorem Dev.reg_loopTrapped {a : Nat} (ha : a ≠ Reg.SPN_LSTAT p l) : (d.loopTrapped p l).reg a = d.reg a := by
  refine (Dev.reg_setRbit_other _ _ _ ha).trans ?_
  cases decide ((d.spn p).slot = some l) <;> rfl

theorem Dev.trapped_loopTrapped : (d.loopTrapped p l).rbit (Reg.SPN_LSTAT p l) 6 = true := by
  rw [Dev.loopTrapped, Dev.rbit_setRbit _ _ _ _ _ (by decide), if_pos rfl]

theorem Dev.byte_loopTrapped (a : Nat) : (d.loopTrapped p l).byte a = d.byte a := by
  unfold Dev.loopTrapped
  cases decide ((d.spn p).slot = some l) <;> rfl

theorem Dev.entry_stopEntry : ((d.stopEntry p).spn p).entry = none := by simp [Dev.stopEntry, Dev.modSpn]

theorem Dev.entry_loopTrapped (h : (d.spn p).slot = some l) : ((d.loopTrapped p l).spn p).entry = none := by
  unfold Dev.loopTrapped
  rw [decide_eq_true h]
  exact Dev.entry_stopEntry

/-! ### Noting the trap -/

theorem Dev.spn_trapNoted (q : Nat) : (d.trapNoted p l cause pc ea imp).spn q = (d.loopTrapped p l).spn q := by
  unfold Dev.trapNoted
  split <;> rfl

theorem Dev.byte_trapNoted (a : Nat) : (d.trapNoted p l cause pc ea imp).byte a = d.byte a := by
  refine Eq.trans ?_ (Dev.byte_loopTrapped (p := p) (l := l) a)
  unfold Dev.trapNoted
  split <;> rfl

/-- The record's own registers aside, the trap noted is the loop trapped. -/
theorem Dev.reg_trapNoted {a : Nat} (hC : a ≠ Reg.SPN_TRAPC p) (hP : a ≠ Reg.SPN_TRAPPC p)
    (hE : a ≠ Reg.SPN_TRAPEA p) : (d.trapNoted p l cause pc ea imp).reg a = (d.loopTrapped p l).reg a := by
  unfold Dev.trapNoted
  split
  · exact Dev.reg_setRbit_other _ _ _ hC
  · rw [Dev.reg_setReg_other _ _ hE, Dev.reg_setReg_other _ _ hP, Dev.reg_setReg_other _ _ hC]

/-- An empty record takes the trap (R240). -/
theorem Dev.trapNoted_record (h : d.rbit (Reg.SPN_TRAPC p) 31 = false) :
    (d.trapNoted p l cause pc ea imp).reg (Reg.SPN_TRAPC p) = trapRecord (d.reg (Reg.SPN_TRAPC p)) l cause imp ∧
    (d.trapNoted p l cause pc ea imp).reg (Reg.SPN_TRAPPC p) = pc ∧
    (d.trapNoted p l cause pc ea imp).reg (Reg.SPN_TRAPEA p) = ea := by
  obtain ⟨hCP, hPE, -⟩ := trapRegs_lt p l
  have hCE := hCP.trans hPE
  rw [Dev.trapNoted, h, if_neg Bool.false_ne_true]
  refine ⟨?_, ?_, Dev.reg_setReg_same ..⟩
  · rw [Dev.reg_setReg_other _ _ hCE.ne, Dev.reg_setReg_other _ _ hCP.ne, Dev.reg_setReg_same]
  · rw [Dev.reg_setReg_other _ _ hPE.ne, Dev.reg_setReg_same]

/-- A record that stands stays, with MORE beside it (R240). -/
theorem Dev.trapNoted_more (h : d.rbit (Reg.SPN_TRAPC p) 31 = true) :
    (d.trapNoted p l cause pc ea imp).rbit (Reg.SPN_TRAPC p) 30 = true ∧
    (d.trapNoted p l cause pc ea imp).reg (Reg.SPN_TRAPPC p) = d.reg (Reg.SPN_TRAPPC p) ∧
    (d.trapNoted p l cause pc ea imp).reg (Reg.SPN_TRAPEA p) = d.reg (Reg.SPN_TRAPEA p) := by
  obtain ⟨hCP, hPE, hEL⟩ := trapRegs_lt p l
  rw [Dev.trapNoted, h, if_pos rfl]
  refine ⟨?_, ?_, ?_⟩
  · rw [Dev.rbit_setRbit _ _ _ _ _ (by decide), if_pos rfl]
  · exact (Dev.reg_setRbit_other _ _ _ hCP.ne').trans (Dev.reg_loopTrapped (hPE.trans hEL).ne)
  · exact (Dev.reg_setRbit_other _ _ _ (hCP.trans hPE).ne').trans (Dev.reg_loopTrapped hEL.ne)

/-! ### The generator's abort (R408) -/

theorem Dev.injTargetGone_eq (d : Dev) (p l : Nat) : ∃ t, d.injTargetGone p l = { d with tn := t } := by
  unfold Dev.injTargetGone Dev.injAbort
  split_ifs
  · exact ⟨_, rfl⟩
  · exact ⟨d.tn, rfl⟩
  · exact ⟨d.tn, rfl⟩

theorem Dev.regs_injTargetGone : (d.injTargetGone p l).regs = d.regs := by
  obtain ⟨_, h⟩ := d.injTargetGone_eq p l
  rw [h]

theorem Dev.sk_injTargetGone : (d.injTargetGone p l).sk = d.sk := by
  obtain ⟨_, h⟩ := d.injTargetGone_eq p l
  rw [h]

theorem Dev.cr_injTargetGone : (d.injTargetGone p l).cr = d.cr := by
  obtain ⟨_, h⟩ := d.injTargetGone_eq p l
  rw [h]

theorem Dev.reports_injTargetGone : (d.injTargetGone p l).reports = d.reports := by
  obtain ⟨_, h⟩ := d.injTargetGone_eq p l
  rw [h]

/-! ### The trap -/

theorem Dev.reg_spnTrap (a : Nat) :
    (d.spnTrap p l cause pc ea imp).reg a = (d.trapNoted p l cause pc ea imp).reg a := by
  rw [Dev.spnTrap_eq, Dev.reg, Dev.regs_injTargetGone]
  exact Dev.reg_raise ..

theorem Dev.entry_spnTrap (h : (d.spn p).slot = some l) : ((d.spnTrap p l cause pc ea imp).spn p).entry = none := by
  rw [Dev.spnTrap_eq, Dev.spn, Dev.cr_injTargetGone, ← Dev.spn, Dev.spn_raise, Dev.spn_trapNoted]
  exact Dev.entry_loopTrapped h

theorem Dev.raised_spnTrap : srcInst Src.SPN_TRAP (d.loopInst p l) ∈ (d.spnTrap p l cause pc ea imp).reports := by
  rw [Dev.spnTrap_eq, Dev.reports_injTargetGone]
  exact Dev.mem_raise ..

theorem Dev.trapped_spnTrap : (d.spnTrap p l cause pc ea imp).rbit (Reg.SPN_LSTAT p l) 6 = true := by
  obtain ⟨hCP, hPE, hEL⟩ := trapRegs_lt p l
  have hreg := Dev.reg_trapNoted (d := d) (l := l) (cause := cause) (pc := pc) (ea := ea) (imp := imp)
    (hCP.trans (hPE.trans hEL)).ne' (hPE.trans hEL).ne' hEL.ne'
  rw [Dev.rbit_congr ((Dev.reg_spnTrap _).trans hreg)]
  exact Dev.trapped_loopTrapped

theorem Dev.keeps_spnTrap : d.keeps (d.spnTrap p l cause pc ea imp)
    [Reg.SPN_LSTAT p l, Reg.SPN_TRAPC p, Reg.SPN_TRAPPC p, Reg.SPN_TRAPEA p] := by
  constructor
  · intro a
    rw [Dev.spnTrap_eq, Dev.byte, Dev.sk_injTargetGone, Dev.raise_sk]
    exact Dev.byte_trapNoted a
  · intro a ha
    simp only [List.mem_cons, List.not_mem_nil, or_false, not_or] at ha
    obtain ⟨hL, hC, hP, hE⟩ := ha
    rw [Dev.reg_spnTrap, Dev.reg_trapNoted hC hP hE, Dev.reg_loopTrapped hL]

/-- Outside run-ahead the running loop takes the trap (R161). -/
theorem Dev.takeTrap_spn {p : Fin 18} {w : Word} (hra : (d.spn p).ra = false) (hl : (d.spn p).slot = some l) :
    d.takeTrap (.spn p) w cause (some ea) = d.spnTrap p l cause (d.spn p).pc ea false := by
  simp [Dev.takeTrap, Dev.curLoop, hra, hl]

end Sys2Proof.Machine
end

section
/-! SUPPORT. The settlement of the traps. -/

namespace Sys2Proof.Machine

/-- Settles O20: the Bobbin's traps by the control registers after a trap entry and after a double trap, the Spindle's
by the parts of its trap. -/
theorem trapEntry : Obligations.TrapEntry := by
  unfold Obligations.TrapEntry
  refine ⟨?bobbin, ?spindle⟩
  case bobbin =>
    intro b cause ea w d e
    refine ⟨fun h2 h3 h4 h13 htrp => ?entry, fun htrp => ?double, ?frame⟩
    case entry =>
      have he : e = d.trapEntry b (d.bob b).pc (BitVec.ofNat 32 cause) ea :=
        Dev.takeTrap_bob_addressed h2 h3 h4 h13 htrp
      have hcsr := Dev.csr_trapEntry (d := d) (b := b) (d.bob b).pc (BitVec.ofNat 32 cause) ea
      have hbit := Dev.bitOf_status_trapEntry (d := d) (b := b) (d.bob b).pc (BitVec.ofNat 32 cause) ea
      rw [he]
      refine ⟨hcsr 1, hcsr 2, hcsr 3, hbit 0, hbit 1, hbit 5, hbit 2, hbit 3, hbit 4, Dev.pc_trapEntry ..,
        fun n hn => ?_⟩
      rw [hcsr, if_neg (by omega), if_neg (by omega), if_neg (by omega), if_neg (by omega)]
    case double =>
      obtain ⟨code, tval, he⟩ := Dev.takeTrap_bob (d := d) b w ea cause
      rw [Dev.bobTrap_double htrp] at he
      simp only [e, he, Dev.bob_raise, Dev.csr_raise]
      exact ⟨Dev.running_bobStopped, Dev.mem_raise .., Dev.csr_bobStopped⟩
    case frame =>
      obtain ⟨code, tval, he⟩ := Dev.takeTrap_bob (d := d) b w ea cause
      simp only [e, he]
      exact Dev.keeps_bobTrap ..
  case spindle =>
    intro p l cause ea w d e hra hslot
    have he : e = d.spnTrap p l cause (d.spn p).pc ea false := Dev.takeTrap_spn hra hslot
    rw [he]
    refine ⟨Dev.entry_spnTrap hslot, Dev.trapped_spnTrap, Dev.raised_spnTrap, fun hV => ?_, fun hV => ?_,
      Dev.keeps_spnTrap⟩
    · obtain ⟨hC, hP, hE⟩ := Dev.trapNoted_record (l := l) (cause := cause)
        (pc := (d.spn p).pc) (ea := ea) (imp := false) hV
      simp only [Dev.fld, Dev.rbit, Dev.reg_spnTrap, hC, hP, hE, and_true]
      exact ⟨(cause_trapRecord _ l.isLt).trans (Nat.mod_eq_of_lt cause.isLt), loop_trapRecord _ l.isLt,
        imp_trapRecord _ l.isLt, valid_trapRecord _⟩
    · rw [Dev.rbit_congr (Dev.reg_spnTrap _), Dev.reg_spnTrap, Dev.reg_spnTrap]
      exact Dev.trapNoted_more hV

end Sys2Proof.Machine
end

section
/-! SUPPORT. The Whorls' looks at their trip lines (R271 to R276): what a look at one Whorl and at every Whorl changes,
and that a Whorl which sees a selected line latches it once and for all. -/

namespace Sys2Proof.Machine

/-! ### Bits and registers -/

/-- A field written with its own value stands. -/
theorem putBits_bitsOf_self (w : Word) {hi lo : Nat} (h32 : hi < 32) (hle : lo ≤ hi) :
    putBits w hi lo (bitsOf w hi lo) = w := by
  refine BitVec.eq_of_getLsbD_eq fun i _ => ?_
  rw [← bitOf_eq, ← bitOf_eq, bitOf_putBits _ _ _ _ _ h32 hle]
  split
  · next h =>
    rw [testBit_bitsOf, Nat.add_sub_cancel' h.1, decide_eq_true (by omega), Bool.true_and]
  · rfl

theorem putBit_bitOf_self (w : Word) {i : Nat} (h32 : i < 32) : putBit w i (bitOf w i) = w := by
  have hbit : (bitOf w i).toNat = bitsOf w i i := by
    simp [bitsOf, bitOf, Nat.toNat_testBit, Nat.shiftRight_eq_div_pow]
  rw [putBit, hbit, putBits_bitsOf_self w h32 (le_refl i)]

/-- An element of a list without repeats stands in it once. -/
theorem nodup_split {α : Type} {l : List α} (h : l.Nodup) {a : α} (ha : a ∈ l) :
    ∃ p q, l = p ++ a :: q ∧ a ∉ p ∧ a ∉ q := by
  obtain ⟨p, q, rfl⟩ := List.append_of_mem ha
  have hpq : a ∉ p ++ q := (List.nodup_cons.mp (List.nodup_middle.mp h)).1
  rw [List.mem_append, not_or] at hpq
  exact ⟨p, q, rfl, hpq⟩

/-- A command of the clocked logic completes at one device, with the clock running (R19). -/
theorem exec_eq_of_run {i : Instr} {s : State} {f : Dev → Dev} (h : exec i s = s.run f) (hc : s.dev.clocked = true) :
    exec i s = .next (s.withDev (f s.dev)) := by
  rw [h, State.run, State.act_eq, if_pos hc]

variable {d e f : Dev} {n m b : Nat} {ns ms : List Nat}

theorem Dev.rbit_setFld_other (a hi lo v i : Nat) (h32 : hi < 32) (hle : lo ≤ hi) (hi' : i < lo ∨ hi < i) :
    (d.setFld a hi lo v).rbit a i = d.rbit a i := by
  rw [Dev.rbit, Dev.setFld, Dev.reg_setReg_same, bitOf_putBits _ _ _ _ _ h32 hle, if_neg (by omega), Dev.rbit]

@[simp] theorem Dev.reg_modWhorl (g : Whorl → Whorl) (a : Nat) : (d.modWhorl n g).reg a = d.reg a := by rfl

theorem Dev.whorl_modWhorl (g : Whorl → Whorl) :
    (d.modWhorl n g).whorl m = if m = n then g (d.whorl n) else d.whorl m := Dev.whorl_setWhorl d n m _

@[simp] theorem Dev.whorl_modWhorl_same (g : Whorl → Whorl) : (d.modWhorl n g).whorl n = g (d.whorl n) :=
  Dev.whorl_setWhorl_same d n _

theorem Dev.keeps.trans {as bs : List Nat} (h : d.keeps e as) (k : e.keeps f bs) : d.keeps f (as ++ bs) := by
  obtain ⟨hmem, hregs⟩ := h
  obtain ⟨kmem, kregs⟩ := k
  refine ⟨fun a => (kmem a).trans (hmem a), fun a ha => ?_⟩
  rw [List.mem_append, not_or] at ha
  exact (kregs a ha.2).trans (hregs a ha.1)

theorem Dev.keeps_setReg (a : Nat) (w : Word) : d.keeps (d.setReg a w) [a] :=
  ⟨fun _ => by rfl, fun _ hb => Dev.reg_setReg_other d w (by simpa using hb)⟩

/-! ### The frame of an operation of some Whorls -/

/-- A register that is no status and no output of the Whorls named. -/
def apartFrom (ns : List Nat) (a : Nat) : Prop := ∀ n ∈ ns, a ≠ Reg.WHL_STAT n ∧ a ≠ Reg.WHL_OUT n

/-- Two devices that differ in the named Whorls, their status and outputs, and in reports that came in between. -/
structure Dev.whlNear (d e : Dev) (ns : List Nat) : Prop where
  regs : ∀ a, apartFrom ns a → e.reg a = d.reg a
  sk : e.sk = d.sk
  pt : e.pt = d.pt
  whorls : ∀ m, m ∉ ns → e.whorl m = d.whorl m
  reports : d.reports ⊆ e.reports

theorem Dev.whlNear.rfl : d.whlNear d ns := ⟨fun _ _ => by rfl, by rfl, by rfl, fun _ _ => by rfl, fun _ h => h⟩

theorem Dev.whlNear.trans (h : d.whlNear e ns) (k : e.whlNear f ns) : d.whlNear f ns where
  regs a ha := (k.regs a ha).trans (h.regs a ha)
  sk := k.sk.trans h.sk
  pt := k.pt.trans h.pt
  whorls m hm := (k.whorls m hm).trans (h.whorls m hm)
  reports _ hr := k.reports (h.reports hr)

theorem Dev.whlNear.mono (h : d.whlNear e ns) (hs : ns ⊆ ms) : d.whlNear e ms where
  regs a ha := h.regs a fun n hn => ha n (hs hn)
  sk := h.sk
  pt := h.pt
  whorls m hm := h.whorls m fun hn => hm (hs hn)
  reports := h.reports

theorem Dev.whlNear.of_mem (h : d.whlNear e [n]) (hn : n ∈ ns) : d.whlNear e ns := h.mono (by simpa using hn)

theorem Dev.whlNear.setReg {a : Nat} (w : Word) (ha : a = Reg.WHL_STAT n ∨ a = Reg.WHL_OUT n) :
    d.whlNear (d.setReg a w) [n] where
  regs c hc := Dev.reg_setReg_other d w fun h => by
    obtain ⟨hs, ho⟩ := hc n (List.mem_singleton_self n)
    exact ha.elim (hs ∘ h.trans) (ho ∘ h.trans)
  sk := by rfl
  pt := by rfl
  whorls _ _ := by rfl
  reports _ h := h

theorem Dev.whlNear.modWhorl (g : Whorl → Whorl) : d.whlNear (d.modWhorl n g) [n] where
  regs _ _ := by rfl
  sk := by rfl
  pt := by rfl
  whorls m hm := by rw [Dev.whorl_modWhorl, if_neg (by simpa using hm)]
  reports _ h := h

theorem Dev.whlNear.raise (s i : Nat) : d.whlNear (d.raise s i) ns where
  regs _ _ := by simp
  sk := by simp
  pt := by simp
  whorls _ _ := by simp
  reports r hr := by
    rw [Dev.raise_reports]
    split
    · exact hr
    · exact List.mem_append_left _ hr

/-- Writing a register with what it holds leaves every Whorl, and every register. -/
theorem Dev.whlNear.setReg_self {a : Nat} {w : Word} (h : w = d.reg a) : (d.setReg a w).whlNear d ns where
  regs c _ := by
    rw [Dev.reg_setReg]
    split
    · next hc => rw [hc, h]
    · rfl
  sk := by rfl
  pt := by rfl
  whorls _ _ := by rfl
  reports _ h := h

theorem Dev.whlNear.foldl {g : Dev → Nat → Dev} {l : List Nat} (hg : ∀ n ∈ l, ∀ e : Dev, e.whlNear (g e n) ns) :
    d.whlNear (l.foldl g d) ns := by
  induction l generalizing d with
  | nil => exact .rfl
  | cons n l ih => exact (hg n (by simp) d).trans (ih fun k hk => hg k (by simp [hk]))

theorem Dev.whlNear.keeps (h : d.whlNear e ns) : d.keeps e (ns.map Reg.WHL_STAT ++ ns.map Reg.WHL_OUT) := by
  refine ⟨fun a => by simp only [Dev.byte, h.sk], fun a ha => h.regs a fun n hn => ?_⟩
  simp only [List.mem_append, List.mem_map, not_or, not_exists, not_and] at ha
  exact ⟨fun hs => ha.1 n hn hs.symm, fun ho => ha.2 n hn ho.symm⟩

/-! ### What an operation of other Whorls leaves -/

theorem apartFrom_WHL_CTL (ns : List Nat) (n : Nat) : apartFrom ns (Reg.WHL_CTL n) := by
  intro m _; simp only [Reg.WHL_CTL, Reg.WHL_STAT, Reg.WHL_OUT]; omega

theorem apartFrom_WHL_TRIP (ns : List Nat) (n : Nat) : apartFrom ns (Reg.WHL_TRIP n) := by
  intro m _; simp only [Reg.WHL_TRIP, Reg.WHL_STAT, Reg.WHL_OUT]; omega

theorem apartFrom_WHL_TSEL (ns : List Nat) (n : Nat) {i : Nat} (hi : i < 3) : apartFrom ns (Reg.WHL_TSEL n i) := by
  intro m _; simp only [Reg.WHL_TSEL, Reg.WHL_STAT, Reg.WHL_OUT]; omega

theorem apartFrom_WHL_LINES (ns : List Nat) {i : Nat} (hi : i < 3) : apartFrom ns (Reg.WHL_LINES i) := by
  intro m _; simp only [Reg.WHL_LINES, Reg.WHL_STAT, Reg.WHL_OUT]; omega

theorem apartFrom_WHL_BUSST (ns : List Nat) : apartFrom ns Reg.WHL_BUSST := by
  intro m _; simp only [Reg.WHL_BUSST, Reg.WHL_STAT, Reg.WHL_OUT]; omega

theorem apartFrom_WHL_STAT (hn : n ∉ ns) : apartFrom ns (Reg.WHL_STAT n) := by
  intro m hm
  have hne : m ≠ n := fun h => hn (h ▸ hm)
  simp only [Reg.WHL_STAT, Reg.WHL_OUT]; omega

theorem apartFrom_WHL_OUT (hn : n ∉ ns) : apartFrom ns (Reg.WHL_OUT n) := by
  intro m hm
  have hne : m ≠ n := fun h => hn (h ▸ hm)
  simp only [Reg.WHL_STAT, Reg.WHL_OUT]; omega

theorem Dev.whlNear.tripLine (h : d.whlNear e ns) (hb : b < 96) : e.tripLine b = d.tripLine b :=
  Dev.rbit_congr (h.regs _ (apartFrom_WHL_LINES ns (by omega))) _

theorem Dev.whlNear.tripGrp (h : d.whlNear e ns) (n : Nat) : e.tripGrp n = d.tripGrp n :=
  Dev.fld_congr (h.regs _ (apartFrom_WHL_TRIP ns n)) ..

theorem Dev.whlNear.lineOf (h : d.whlNear e ns) (n b : Nat) : e.lineOf n b = d.lineOf n b := by
  have hport : e.port n = d.port n := by rw [Dev.port, h.pt, Dev.port]
  unfold Dev.lineOf
  split_ifs
  · rw [hport]
  · simp only [h.pt, h.tripGrp]
  · exact h.tripLine (by omega)
  · rfl

/-- The line that a Whorl sees stands: of what it looks at, no status and no output of a Whorl is part. -/
theorem Dev.whlNear.tripHit (h : d.whlNear e ns) (n : Nat) : e.tripHit n = d.tripHit n := by
  refine List.find?_congr fun b hb => ?_
  rw [List.mem_range] at hb
  rw [h.lineOf, Dev.rbit_congr (h.regs _ (apartFrom_WHL_TSEL ns n (by omega)))]

theorem Dev.whlNear.whlLive (h : d.whlNear e ns) (hn : n ∉ ns) : e.whlLive n = d.whlLive n := by
  simp only [Dev.whlLive, Dev.rbit_congr (h.regs _ (apartFrom_WHL_CTL ns n)),
    Dev.rbit_congr (h.regs _ (apartFrom_WHL_STAT hn))]

theorem Dev.tripHit_lt (h : d.tripHit n = some b) : b < 96 := List.mem_range.mp (List.mem_of_find?_eq_some h)

/-! ### Driving the outputs (R252, R263, R275) -/

theorem Dev.setOut_near (h l : Bool) : d.whlNear (d.setOut n h l) [n] := by
  unfold Dev.setOut
  dsimp only
  split
  · exact .rfl
  · exact (Dev.whlNear.setReg _ (.inr (by rfl))).trans (.modWhorl _)

theorem Dev.drive_near (trip : Bool) : d.whlNear (d.drive n trip) [n] :=
  (Dev.whlNear.modWhorl _).trans (Dev.setOut_near _ _)

theorem Dev.reg_setOut_same (h l : Bool) :
    (d.setOut n h l).reg (Reg.WHL_OUT n) = BitVec.ofNat 32 (h.toNat + 2 * l.toNat) := by
  unfold Dev.setOut
  dsimp only
  split
  · assumption
  · rw [Dev.reg_modWhorl, Dev.reg_setReg_same]

theorem Dev.reg_setOut_other {a : Nat} (h l : Bool) (ha : a ≠ Reg.WHL_OUT n) : (d.setOut n h l).reg a = d.reg a := by
  unfold Dev.setOut
  dsimp only
  split
  · rfl
  · rw [Dev.reg_modWhorl, Dev.reg_setReg_other _ _ ha]

theorem Dev.clearing_setOut (h l : Bool) : ((d.setOut n h l).whorl n).clearing = (d.whorl n).clearing := by
  unfold Dev.setOut
  dsimp only
  split
  · rfl
  · rw [Dev.whorl_modWhorl_same, Dev.whorl_setReg]

theorem Dev.rbit_setOut_high (h l : Bool) : (d.setOut n h l).rbit (Reg.WHL_OUT n) 0 = h := by
  rw [Dev.rbit, Dev.reg_setOut_same]
  cases h <;> cases l <;> rfl

theorem Dev.rbit_setOut_low (h l : Bool) : (d.setOut n h l).rbit (Reg.WHL_OUT n) 1 = l := by
  rw [Dev.rbit, Dev.reg_setOut_same]
  cases h <;> cases l <;> rfl

theorem Dev.reg_drive_other {a : Nat} (trip : Bool) (ha : a ≠ Reg.WHL_OUT n) : (d.drive n trip).reg a = d.reg a := by
  rw [Dev.drive, Dev.reg_setOut_other _ _ ha, Dev.reg_modWhorl]

theorem Dev.clearing_drive (trip : Bool) : ((d.drive n trip).whorl n).clearing = (d.whorl n).clearing := by
  rw [Dev.drive, Dev.clearing_setOut, Dev.whorl_modWhorl_same]

/-- An output is on only where the precedence has it on. -/
theorem Dev.drive_high {trip : Bool} (h : (d.drive n trip).rbit (Reg.WHL_OUT n) 0 = true) :
    (d.targetPair n).1 = true := by
  rw [Dev.drive, Dev.rbit_setOut_high] at h
  simp only [Bool.or_eq_true, Bool.and_eq_true] at h
  tauto

theorem Dev.drive_low {trip : Bool} (h : (d.drive n trip).rbit (Reg.WHL_OUT n) 1 = true) :
    (d.targetPair n).2 = true := by
  rw [Dev.drive, Dev.rbit_setOut_low] at h
  simp only [Bool.or_eq_true, Bool.and_eq_true] at h
  tauto

/-- Rank 2 of the precedence: a latched trip commands its trip action (R270). -/
theorem Dev.targetPair_of_trip (h : d.rbit (Reg.WHL_STAT n) 1 = true) :
    d.targetPair n = legPair (d.fld (Reg.WHL_TRIP n) 11 10) := by rw [Dev.targetPair, if_pos h]

/-! ### A look at one Whorl (R273, R274) -/

/-- The status and the latch that a trip of a line writes, before the outputs follow (R273). -/
def Dev.marked (d : Dev) (n b : Nat) : Dev :=
  ((d.setRbit (Reg.WHL_STAT n) 1 true).setFld (Reg.WHL_STAT n) 30 24 b).modWhorl n fun w => { w with clearing := false }

/-- The trip of a line. -/
def Dev.latchTrip (d : Dev) (n b : Nat) : Dev := ((d.marked n b).drive n true).raise Src.WHL_TRIP n

theorem Dev.marked_near : d.whlNear (d.marked n b) [n] :=
  ((Dev.whlNear.setReg _ (.inl (by rfl))).trans (.setReg _ (.inl (by rfl)))).trans (.modWhorl _)

theorem Dev.latchTrip_near : d.whlNear (d.latchTrip n b) [n] :=
  (Dev.marked_near.trans (Dev.drive_near true)).trans (.raise _ _)

theorem Dev.tripLook_eq (before : Dev) : d.tripLook before n =
    if (d.whorl n).blanking then d.when (d.newHit before n) fun d => d.setRbit (Reg.WHL_STAT n) 13 true
    else if !d.whlLive n then d
    else if d.rbit (Reg.WHL_STAT n) 1 && !(d.whorl n).clearing then d
    else (d.tripHit n).elim d (d.latchTrip n) := by
  unfold Dev.tripLook
  cases d.tripHit n <;> rfl

theorem Dev.tripLook_near (before : Dev) : d.whlNear (d.tripLook before n) [n] := by
  rw [Dev.tripLook_eq]
  split_ifs
  · unfold Dev.when
    split
    · exact .setReg _ (.inl (by rfl))
    · exact .rfl
  · exact .rfl
  · exact .rfl
  · cases d.tripHit n with
    | none => exact .rfl
    | some b => exact Dev.latchTrip_near

theorem Dev.tripLook_unseen (before : Dev) (hb : (d.whorl n).blanking = false) (h : d.tripHit n = none) :
    d.tripLook before n = d := by
  simp [Dev.tripLook_eq, hb, h]

/-- A live Whorl outside blanking, with no trip latched, sees a selected line asserted. -/
structure Dev.trips (d : Dev) (n b : Nat) : Prop where
  hit : d.tripHit n = some b
  live : d.whlLive n = true
  armed : d.rbit (Reg.WHL_STAT n) 1 = false
  unmasked : (d.whorl n).blanking = false

theorem Dev.trips.tripLook (h : d.trips n b) (before : Dev) : d.tripLook before n = d.latchTrip n b := by
  simp [Dev.tripLook_eq, h.unmasked, h.live, h.armed, h.hit]

theorem Dev.trips.congr (h : d.trips n b) (k : d.whlNear e ns) (hn : n ∉ ns) : e.trips n b where
  hit := (k.tripHit n).trans h.hit
  live := (k.whlLive hn).trans h.live
  armed := (Dev.rbit_congr (k.regs _ (apartFrom_WHL_STAT hn)) _).trans h.armed
  unmasked := (congrArg Whorl.blanking (k.whorls n hn)).trans h.unmasked

/-- The trip of a line stands latched: TRIPSRC names the line, WHL_TRIP is raised, and no output is on but the one that
the trip action holds on (R273). -/
structure Dev.latched (e : Dev) (n b : Nat) : Prop where
  trip : e.rbit (Reg.WHL_STAT n) 1 = true
  src : e.fld (Reg.WHL_STAT n) 30 24 = b
  raised : e.raised Src.WHL_TRIP n
  high : e.rbit (Reg.WHL_OUT n) 0 = true → e.fld (Reg.WHL_TRIP n) 11 10 = 2
  low : e.rbit (Reg.WHL_OUT n) 1 = true → e.fld (Reg.WHL_TRIP n) 11 10 = 1
  kept : (e.whorl n).clearing = false

theorem Dev.marked_trip : (d.marked n b).rbit (Reg.WHL_STAT n) 1 = true := by
  rw [Dev.marked, Dev.rbit_congr (Dev.reg_modWhorl _ _),
    Dev.rbit_setFld_other _ _ _ _ _ (by decide) (by decide) (by decide), Dev.rbit_setRbit _ _ _ _ _ (by decide)]
  rfl

theorem Dev.marked_src (hb : b < 96) : (d.marked n b).fld (Reg.WHL_STAT n) 30 24 = b := by
  rw [Dev.marked, Dev.fld_congr (Dev.reg_modWhorl _ _), Dev.fld_setFld _ _ _ _ _ (by decide) (by decide)]
  exact Nat.mod_eq_of_lt (by omega)

theorem Dev.latchTrip_latched (hb : b < 96) : (d.latchTrip n b).latched n b := by
  have hstat : (d.latchTrip n b).reg (Reg.WHL_STAT n) = (d.marked n b).reg (Reg.WHL_STAT n) := by
    rw [Dev.latchTrip, Dev.reg_raise, Dev.reg_drive_other _ (by simp [Reg.WHL_STAT, Reg.WHL_OUT])]
  have hact : (d.marked n b).fld (Reg.WHL_TRIP n) 11 10 = (d.latchTrip n b).fld (Reg.WHL_TRIP n) 11 10 := by
    have hapart := apartFrom_WHL_TRIP [n] n
    exact Dev.fld_congr ((Dev.marked_near.regs _ hapart).trans (Dev.latchTrip_near.regs _ hapart).symm) ..
  have hout (i : Nat) : (d.latchTrip n b).rbit (Reg.WHL_OUT n) i = ((d.marked n b).drive n true).rbit (Reg.WHL_OUT n) i :=
    Dev.rbit_congr (Dev.reg_raise ..) _
  have htarget := Dev.targetPair_of_trip (Dev.marked_trip (d := d) (n := n) (b := b))
  refine ⟨?_, ?_, Dev.mem_raise .., fun h => ?_, fun h => ?_, ?_⟩
  · rw [Dev.rbit_congr hstat, Dev.marked_trip]
  · rw [Dev.fld_congr hstat, Dev.marked_src hb]
  · have hon := Dev.drive_high ((hout 0).symm.trans h)
    rw [htarget, hact] at hon
    exact of_decide_eq_true hon
  · have hon := Dev.drive_low ((hout 1).symm.trans h)
    rw [htarget, hact] at hon
    exact of_decide_eq_true hon
  · rw [Dev.latchTrip, Dev.whorl_raise, Dev.clearing_drive, Dev.marked, Dev.whorl_modWhorl_same]

theorem Dev.trips.latched (h : d.trips n b) (before : Dev) : (d.tripLook before n).latched n b := by
  rw [h.tripLook]
  exact Dev.latchTrip_latched (Dev.tripHit_lt h.hit)

theorem Dev.latched.congr (h : d.latched n b) (k : d.whlNear e ns) (hn : n ∉ ns) : e.latched n b := by
  have hstat := k.regs _ (apartFrom_WHL_STAT hn)
  have hout := k.regs _ (apartFrom_WHL_OUT hn)
  have hact := k.regs _ (apartFrom_WHL_TRIP ns n)
  refine ⟨?_, ?_, k.reports h.raised, ?_, ?_, ?_⟩
  · rw [Dev.rbit_congr hstat, h.trip]
  · rw [Dev.fld_congr hstat, h.src]
  · rw [Dev.rbit_congr hout, Dev.fld_congr hact]
    exact h.high
  · rw [Dev.rbit_congr hout, Dev.fld_congr hact]
    exact h.low
  · rw [k.whorls n hn, h.kept]

theorem Dev.newHit_self : d.newHit d n = false := by simp [Dev.newHit]

/-- A Whorl with its trip latched does not latch again: a second look at the same lines changes nothing. -/
theorem Dev.latched.tripEval (h : d.latched n b) : d.tripEval n = d := by
  rw [Dev.tripEval, Dev.tripLook_eq, Dev.newHit_self, Dev.when_false, h.trip, h.kept]
  simp

/-! ### A look at every Whorl -/

theorem Dev.tripAll_near (before : Dev) : d.whlNear (d.tripAll before) (List.range 64) :=
  .foldl fun _ hn _ => (Dev.tripLook_near before).of_mem hn

/-- Of the looks at all Whorls, the Whorl's own latches it: those before leave what it sees, those after leave it. -/
theorem Dev.trips.tripAll (h : d.trips n b) (hn : n < 64) (before : Dev) : (d.tripAll before).latched n b := by
  have hlooks (l : List Nat) (e : Dev) : e.whlNear (l.foldl (fun e n => e.tripLook before n) e) l :=
    .foldl fun _ hn _ => (Dev.tripLook_near before).of_mem hn
  obtain ⟨p, q, hpq, hp, hq⟩ := nodup_split List.nodup_range (List.mem_range.mpr hn)
  rw [Dev.tripAll, hpq, List.foldl_append, List.foldl_cons]
  exact ((h.congr (hlooks p d) hp).latched before).congr (hlooks q _) hq

/-- A line takes a level: beside it, only what the looks of the Whorls write changes, also where it had that level. -/
theorem Dev.setLine_near (on : Bool) :
    (d.setRbit (Reg.WHL_LINES (b / 32)) (b % 32) on).whlNear (d.setLine b on) (List.range 64) := by
  unfold Dev.setLine
  split
  · next h =>
    refine .setReg_self ?_
    rw [← h, Dev.tripLine, Dev.rbit, putBit_bitOf_self _ (Nat.mod_lt _ (by decide))]
  · exact Dev.tripAll_near _

end Sys2Proof.Machine
end

section
/-! SUPPORT. The TRIP pins (R271): with no filter the levels that the pins show are accepted at once, and lines 0 to 7
follow them and the polarity. -/

namespace Sys2Proof.Machine

/-! ### Sums and sets of bits -/

theorem sum_bits_eq_mod (x w : Nat) :
    ((List.range w).map fun i => if x.testBit i then 2 ^ i else 0).sum = x % 2 ^ w := by
  induction w with
  | zero => simp [Nat.mod_one]
  | succ w ih =>
    rw [List.range_succ, List.map_append, List.sum_append, ih, Nat.mod_pow_succ, ← Nat.toNat_testBit]
    cases h : x.testBit w <;> simp [h]

theorem testBit_foldl_flip {l : List Nat} (hl : l.Nodup) (v i : Nat) :
    (l.foldl (fun v i => Nat.xor v (2 ^ i)) v).testBit i = (v.testBit i ^^ decide (i ∈ l)) := by
  induction l generalizing v with
  | nil => simp
  | cons a l ih =>
    obtain ⟨ha, hl⟩ := List.nodup_cons.mp hl
    rw [List.foldl_cons, ih hl]
    have hxor : (Nat.xor v (2 ^ a)).testBit i = (v.testBit i ^^ decide (a = i)) := by
      rw [← Nat.testBit_two_pow]; exact Nat.testBit_xor ..
    rw [hxor]
    by_cases h : a = i
    · subst h; simp [ha]
    · simp [h, Ne.symm h]

/-- Keys written one after another, each with its own value. -/
theorem smGet_foldl_smSet {α : Type} [DecidableEq α] (dflt : Nat → α) (g : Nat → α) (l : List Nat) (m : SMap α)
    (k : Nat) : smGet dflt (l.foldl (fun m i => smSet dflt m i (g i)) m) k = if k ∈ l then g k else smGet dflt m k := by
  induction l generalizing m with
  | nil => simp
  | cons a l ih =>
    rw [List.foldl_cons, ih, smGet_smSet]
    by_cases h : k = a
    · subst h; simp
    · simp [h]

/-! ### The pins and their lines -/

/-- The device with the pins accepted at these levels, and these waits for the filter. -/
def Dev.withPins (d : Dev) (pins : Nat) (at_ : SMap (Option Nat)) : Dev :=
  { d with md := { d.md with pins := pins, pinAt := at_ } }

variable {d : Dev} {n b : Nat}

/-- Since when each pin differs from its accepted level, once the pins show these. -/
def Dev.shownAt (d : Dev) (v : Nat) : SMap (Option Nat) :=
  (List.range 8).foldl
    (fun m i => smSet (fun _ => none) m i
      (feed (d.md.pins.testBit i) (smGet (fun _ => none) d.md.pinAt i) (v.testBit i) d.now)) d.md.pinAt

/-- The pins whose new level has passed the filter. -/
def Dev.duePins (d : Dev) (v : Nat) : List Nat :=
  (List.range 8).filter fun i =>
    stable (smGet (fun _ => none) (d.shownAt v) i) (d.fld Reg.WHL_PINCFG 11 8) d.now

/-- With no filter, the pins that are due are those that differ. -/
theorem Dev.mem_duePins (hf : d.fld Reg.WHL_PINCFG 11 8 = 0) (hp : ∀ i, smGet (fun _ => none) d.md.pinAt i = none)
    (v : Nat) {i : Nat} (hi : i < 8) : decide (i ∈ d.duePins v) = (d.md.pins.testBit i ^^ v.testBit i) := by
  have hat : smGet (fun _ => none) (d.shownAt v) i = feed (d.md.pins.testBit i) none (v.testBit i) d.now := by
    rw [Dev.shownAt, smGet_foldl_smSet, if_pos (List.mem_range.mpr hi), hp]
  simp only [Dev.duePins, List.mem_filter, List.mem_range, hat, hf, hi, true_and, Bool.decide_eq_true]
  cases d.md.pins.testBit i <;> cases v.testBit i <;> simp [feed, stable]

/-- With no filter, the levels that the pins show are accepted at once. -/
theorem Dev.pinLevels_eq (hf : d.fld Reg.WHL_PINCFG 11 8 = 0) (hp : ∀ i, smGet (fun _ => none) d.md.pinAt i = none)
    (v : Nat) :
    ∃ pins at_, d.pinLevels v = (d.withPins pins at_).showPins ∧ ∀ i < 8, pins.testBit i = v.testBit i := by
  refine ⟨(d.duePins v).foldl (fun v i => Nat.xor v (2 ^ i)) d.md.pins,
    (d.duePins v).foldl (fun m i => smSet (fun _ => none) m i none) (d.shownAt v), by rfl, fun i hi => ?_⟩
  rw [testBit_foldl_flip (l := d.duePins v) (List.nodup_range.filter _), d.mem_duePins hf hp v hi, ← Bool.xor_assoc,
    Bool.xor_self, Bool.false_xor]

/-- With the pins at these levels, each of lines 0 to 7 is asserted where its pin has the level that POL gives it. -/
theorem Dev.pinLines_eq (trips : BitVec 8) (hv : ∀ i < 8, d.md.pins.testBit i = trips.toNat.testBit i) :
    d.pinLines = (~~~(trips ^^^ BitVec.ofNat 8 (d.fld Reg.WHL_PINCFG 7 0))).toNat := by
  have hbits := sum_bits_eq_mod (~~~(trips ^^^ BitVec.ofNat 8 (d.fld Reg.WHL_PINCFG 7 0))).toNat 8
  rw [Nat.mod_eq_of_lt (BitVec.isLt _)] at hbits
  rw [← hbits, Dev.pinLines]
  congr 1
  refine List.map_congr_left fun i hi => ?_
  rw [List.mem_range] at hi
  have hpol : (d.fld Reg.WHL_PINCFG 7 0).testBit i = d.rbit Reg.WHL_PINCFG i := by
    rw [Dev.fld, testBit_bitsOf, decide_eq_true (by omega), Nat.zero_add, Bool.true_and, Dev.rbit]
  have hline : (~~~(trips ^^^ BitVec.ofNat 8 (d.fld Reg.WHL_PINCFG 7 0))).toNat.testBit i =
      !(d.md.pins.testBit i ^^ d.rbit Reg.WHL_PINCFG i) := by
    rw [hv i hi, ← hpol]
    simp only [BitVec.testBit_toNat, BitVec.getLsbD_not, BitVec.getLsbD_xor, BitVec.getLsbD_ofNat, hi, decide_true,
      Bool.true_and]
  rw [hline]
  cases d.md.pins.testBit i <;> cases d.rbit Reg.WHL_PINCFG i <;> rfl

/-- Lines 0 to 7 follow the pins, also where they showed them already; the Whorls look at them. -/
theorem Dev.showPins_near :
    (d.setFld (Reg.WHL_LINES 0) 7 0 d.pinLines).whlNear d.showPins (List.range 64) := by
  unfold Dev.showPins
  split
  · next h =>
    refine .setReg_self ?_
    rw [← h, Dev.fld, putBits_bitsOf_self _ (by decide) (by decide)]
  · exact Dev.tripAll_near _

theorem Dev.showPins_latched (h : (d.setFld (Reg.WHL_LINES 0) 7 0 d.pinLines).trips n b) (hn : n < 64) :
    (d.showPins.tripEval n).latched n b := by
  unfold Dev.showPins
  split
  · next heq =>
    have hsame : (d.setFld (Reg.WHL_LINES 0) 7 0 d.pinLines).whlNear d [] := by
      refine .setReg_self ?_
      rw [← heq, Dev.fld, putBits_bitsOf_self _ (by decide) (by decide)]
    exact (h.congr hsame (by simp)).latched d
  · have hall := h.tripAll hn d
    rwa [hall.tripEval]

end Sys2Proof.Machine
end

section
/-! SUPPORT. The commands of the trips and of the bus comparators (R271 to R280). -/

namespace Sys2Proof.Machine

variable {n : Fin 64} {land : Fin 4} {b uv : Nat} {trips : BitVec 8} {s : State}

/-! ### The trip lines of the pins (R271, R273) -/

/-- Lines 0 to 7 as the pins and POL give them. -/
def Dev.linesOf (d : Dev) (trips : BitVec 8) : BitVec 8 := ~~~(trips ^^^ BitVec.ofNat 8 (d.fld Reg.WHL_PINCFG 7 0))

/-- The device with lines 0 to 7 as the pins and POL give them, before a Whorl looks. -/
def Dev.withLines (d : Dev) (trips : BitVec 8) : Dev := d.setFld (Reg.WHL_LINES 0) 7 0 (d.linesOf trips).toNat

theorem Dev.fld_withLines (d : Dev) (trips : BitVec 8) :
    (d.withLines trips).fld (Reg.WHL_LINES 0) 7 0 = (d.linesOf trips).toNat := by
  rw [Dev.withLines, Dev.fld_setFld _ _ _ _ _ (by decide) (by decide)]
  exact Nat.mod_eq_of_lt (BitVec.isLt _)

/-- The lines are no register of a Whorl: the Whorl stands as it stood before. -/
theorem Dev.withLines_trips {d : Dev} (hit : (d.withLines trips).tripHit n = some b) (live : d.whlLive n = true)
    (armed : d.rbit (Reg.WHL_STAT n) 1 = false) (hopen : (d.whorl n).blanking = false) :
    (d.withLines trips).trips n b := by
  have hctl : (d.withLines trips).reg (Reg.WHL_CTL n) = d.reg (Reg.WHL_CTL n) :=
    Dev.reg_setFld_other _ _ _ _ (by simp only [Reg.WHL_CTL, Reg.WHL_LINES]; omega)
  have hstat : (d.withLines trips).reg (Reg.WHL_STAT n) = d.reg (Reg.WHL_STAT n) :=
    Dev.reg_setFld_other _ _ _ _ (by simp only [Reg.WHL_STAT, Reg.WHL_LINES]; omega)
  refine ⟨hit, ?_, ?_, hopen⟩
  · rw [Dev.whlLive, Dev.rbit_congr hctl, Dev.rbit_congr hstat]
    exact live
  · rw [Dev.rbit_congr hstat, armed]

theorem exec_tripLatch : exec (.tripLatch n trips) s = s.run fun d => (d.pinLevels trips.toNat).tripEval n := by rfl

/-- The lines follow the pins, a Whorl that sees its line then latches it, and beside the lines only the Whorls' own
registers change. -/
theorem tripLatch_gives (hc : s.dev.clocked = true) (hf : s.dev.fld Reg.WHL_PINCFG 11 8 = 0)
    (hp : ∀ i, smGet (fun _ => none) s.dev.md.pinAt i = none) :
    Gives (.tripLatch n trips) s fun e =>
      (s.dev.withLines trips).whlNear e (List.range 64) ∧ ((s.dev.withLines trips).trips n b → e.latched n b) := by
  obtain ⟨pins, at_, hlevels, hbits⟩ := Dev.pinLevels_eq hf hp trips.toNat
  have hlines : (s.dev.withPins pins at_).pinLines = (s.dev.linesOf trips).toNat := Dev.pinLines_eq trips hbits
  have hfrom : (s.dev.withLines trips).whlNear
      ((s.dev.withPins pins at_).setFld (Reg.WHL_LINES 0) 7 0 (s.dev.withPins pins at_).pinLines) [] := by
    rw [hlines]
    exact ⟨fun _ _ => by rfl, by rfl, by rfl, fun _ _ => by rfl, fun _ h => h⟩
  refine .of_run exec_tripLatch hc ?_
  rw [hlevels]
  refine ⟨?_, fun h => Dev.showPins_latched (h.congr hfrom (by simp)) n.isLt⟩
  exact ((hfrom.mono (by simp)).trans Dev.showPins_near).trans
    ((Dev.tripLook_near _).of_mem (List.mem_range.mpr n.isLt))

/-! ### The end of blanking, and the clear (R274, R276) -/

theorem exec_blankingEnd : exec (.blankingEnd n) s = s.run fun d => d.blankEnd n := by rfl

theorem blankingEnd_idle (hb : (s.dev.whorl n).blanking = false) : exec (.blankingEnd n) s = .next s :=
  exec_idle_of_run exec_blankingEnd (by simp [Dev.blankEnd, hb])

/-- The device with the window of a Whorl closed. -/
def Dev.unblanked (d : Dev) (n : Nat) : Dev := d.modWhorl n fun w => { w with blanking := false }

theorem Dev.unblanked_near (d : Dev) : d.whlNear (d.unblanked n) [n.val] := .modWhorl _

theorem Dev.blankEnd_eq {d : Dev} (hb : (d.whorl n).blanking = true) :
    d.blankEnd n = (d.unblanked n).tripEval n := by rw [Dev.blankEnd, if_pos hb, Dev.unblanked]

theorem Dev.blanking_unblanked (d : Dev) : ((d.unblanked n).whorl n).blanking = false := by
  rw [Dev.unblanked, Dev.whorl_modWhorl_same]

theorem blankingEnd_unseen (hc : s.dev.clocked = true) (hb : (s.dev.whorl n).blanking = true)
    (hit : s.dev.tripHit n = none) : exec (.blankingEnd n) s = .next (s.withDev (s.dev.unblanked n)) := by
  rw [exec_eq_of_run exec_blankingEnd hc, Dev.blankEnd_eq hb, Dev.tripEval,
    Dev.tripLook_unseen _ s.dev.blanking_unblanked ((s.dev.unblanked_near.tripHit n).trans hit)]

theorem blankingEnd_latches (hc : s.dev.clocked = true) (hb : (s.dev.whorl n).blanking = true)
    (hit : s.dev.tripHit n = some b) (live : s.dev.whlLive n = true) (armed : s.dev.rbit (Reg.WHL_STAT n) 1 = false) :
    Gives (.blankingEnd n) s fun e => e.latched n b ∧ s.dev.keeps e [Reg.WHL_STAT n, Reg.WHL_OUT n] := by
  have htrips : (s.dev.unblanked n).trips n b :=
    ⟨(s.dev.unblanked_near.tripHit n).trans hit, live, armed, s.dev.blanking_unblanked⟩
  refine .of_run exec_blankingEnd hc ?_
  rw [Dev.blankEnd_eq hb]
  exact ⟨htrips.latched _, (s.dev.unblanked_near.trans (Dev.tripLook_near _)).keeps⟩

theorem exec_tripClear : exec (.tripClear n) s = s.run fun d => d.tripClear n := by rfl

theorem tripClear_idle (h : s.dev.rbit (Reg.WHL_STAT n) 1 = false ∨ (s.dev.whorl n).clearing = true) :
    exec (.tripClear n) s = .next s :=
  exec_idle_of_run exec_tripClear (if_pos (by simpa using h))

theorem tripClear_refused (hc : s.dev.clocked = true) (ht : s.dev.rbit (Reg.WHL_STAT n) 1 = true)
    (hw : (s.dev.whorl n).clearing = false) (hit : s.dev.tripHit n = some b) :
    exec (.tripClear n) s = .next (s.withDev (s.dev.setRbit (Reg.WHL_STAT n) 8 true)) := by
  rw [exec_eq_of_run exec_tripClear hc, Dev.tripClear, if_neg (by simp [ht, hw]), if_pos (by simp [hit])]

theorem tripClear_taken (hc : s.dev.clocked = true) (ht : s.dev.rbit (Reg.WHL_STAT n) 1 = true)
    (hw : (s.dev.whorl n).clearing = false) (hit : s.dev.tripHit n = none)
    (hsrc : s.dev.fld (Reg.WHL_CTL n) 15 14 ≠ 1) :
    exec (.tripClear n) s = .next (s.withDev (s.dev.modWhorl n fun x => { x with clearing := true })) := by
  rw [exec_eq_of_run exec_tripClear hc, Dev.tripClear, if_neg (by simp [ht, hw]), if_neg (by simp [hit]), if_neg hsrc]

/-! ### The bus comparators (R277 to R280) -/

theorem exec_chopperStateChange : exec (.chopperStateChange land uv) s = s.run fun d => d.chopper land uv := by rfl

theorem exec_busOvervoltage : exec (.busOvervoltage land uv) s = s.run fun d => d.busOv land uv := by rfl

/-- The chopper state that a land's voltage gives it (R278). -/
def Dev.chopAt (d : Dev) (land uv : Nat) : Bool :=
  if aboveCode uv (d.fld (Reg.WHL_BUS land) 19 10) then true
  else if belowCode uv (d.fld (Reg.WHL_BUS land) 9 0) then false
  else d.rbit Reg.WHL_BUSST (4 + land)

/-- The chopper state of a land is written, and the Whorls of that land follow it. -/
theorem Dev.chopper_near (d : Dev) (land uv : Nat) :
    (d.setRbit Reg.WHL_BUSST (4 + land) (d.chopAt land uv)).whlNear (d.chopper land uv) (List.range 64) := by
  refine .foldl fun n hn e => ?_
  split
  · exact ((Dev.drive_near false).trans (Dev.tripLook_near _)).of_mem hn
  · exact .rfl

theorem chopperStateChange_gives (hc : s.dev.clocked = true) :
    Gives (.chopperStateChange land uv) s fun e =>
      e.rbit Reg.WHL_BUSST (4 + land) = s.dev.chopAt land uv ∧
      s.dev.keeps e (Reg.WHL_BUSST :: ((List.range 64).map Reg.WHL_STAT ++ (List.range 64).map Reg.WHL_OUT)) := by
  have hnear := s.dev.chopper_near land uv
  refine .of_run exec_chopperStateChange hc ⟨?_, ?_⟩
  · rw [Dev.rbit_congr (hnear.regs _ (apartFrom_WHL_BUSST _)), Dev.rbit_setRbit _ _ _ _ _ (by omega), if_pos rfl]
  · exact (Dev.keeps_setReg _ _).trans hnear.keeps

theorem busOvervoltage_gives (hc : s.dev.clocked = true) :
    Gives (.busOvervoltage land uv) s fun e =>
      e.rbit Reg.WHL_BUSST land = aboveCode uv (s.dev.fld (Reg.WHL_BUS land) 29 20) ∧
      e.tripLine (72 + land) =
        (aboveCode uv (s.dev.fld (Reg.WHL_BUS land) 29 20) && s.dev.rbit (Reg.WHL_BUS land) 31) ∧
      s.dev.keeps e (Reg.WHL_BUSST :: Reg.WHL_LINES 2 ::
        ((List.range 64).map Reg.WHL_STAT ++ (List.range 64).map Reg.WHL_OUT)) := by
  have hbank : (72 + land.val) / 32 = 2 := by omega
  refine .of_run exec_busOvervoltage hc ?_
  unfold Dev.busOv
  extract_lets over_
  have hnear := Dev.setLine_near (d := s.dev.setRbit Reg.WHL_BUSST land over_) (b := 72 + land)
    (over_ && s.dev.rbit (Reg.WHL_BUS land) 31)
  rw [hbank] at hnear
  refine ⟨?_, ?_, ?_⟩
  · rw [Dev.rbit_congr (hnear.regs _ (apartFrom_WHL_BUSST _)), Dev.rbit_congr (Dev.reg_setRbit_other _ _ _ (by decide)),
      Dev.rbit_setRbit _ _ _ _ _ (by omega), if_pos rfl]
  · rw [hnear.tripLine (by omega), Dev.tripLine, hbank, Dev.rbit_setRbit _ _ _ _ _ (Nat.mod_lt _ (by decide)),
      if_pos rfl]
  · exact (Dev.keeps_setReg _ _).trans ((Dev.keeps_setReg _ _).trans hnear.keeps)

end Sys2Proof.Machine
end

section
/-! SUPPORT. The settlement of the trips and the bus comparators. -/

namespace Sys2Proof.Machine

/-- Settles O40: a look of a Whorl that sees a selected line latches it, the looks of the others leave it, and no look
writes more than the status and the outputs of its Whorl. -/
theorem trips : Obligations.Trips := by
  unfold Obligations.Trips
  intro n trips land uv b s d w st out every hc
  refine ⟨?_, blankingEnd_idle, fun hb => ⟨blankingEnd_unseen hc hb, fun hit live armed => ?_⟩,
    tripClear_idle, fun ht hw => ⟨tripClear_refused hc ht hw, tripClear_taken hc ht hw⟩, ?_⟩
  · intro lines hf hp
    refine (tripLatch_gives (b := b) hc hf hp).mono fun e ⟨hnear, hlatched⟩ => ⟨?_, ?_, fun hit live armed hopen => ?_⟩
    · rw [Dev.fld_congr (hnear.regs _ (apartFrom_WHL_LINES _ (by decide))), Dev.fld_withLines]
      rfl
    · exact (Dev.keeps_setReg _ _).trans hnear.keeps
    · have hl := hlatched (Dev.withLines_trips hit live armed hopen)
      have hact : e.fld (Reg.WHL_TRIP n) 11 10 = d.fld (Reg.WHL_TRIP n) 11 10 :=
        Dev.fld_congr ((hnear.regs _ (apartFrom_WHL_TRIP _ n)).trans
          (Dev.reg_setFld_other _ _ _ _ (by simp only [Reg.WHL_TRIP, Reg.WHL_LINES]; omega))) ..
      rw [← hact]
      exact ⟨hl.trip, hl.src, hl.raised, hl.high, hl.low⟩
  · exact (blankingEnd_latches hc hb hit live armed).mono fun e ⟨hl, hkeeps⟩ => ⟨hl.trip, hl.src, hl.raised, hkeeps⟩
  · refine ⟨?_, busOvervoltage_gives hc⟩
    refine (chopperStateChange_gives hc).mono fun e ⟨hstate, hkeeps⟩ => ⟨?_, hkeeps⟩
    rw [hstate, Dev.chopAt]
    simp only [aboveCode, belowCode, decide_eq_true_eq]
    rfl

end Sys2Proof.Machine
end

section
/-! SUPPORT. The block: what one command and one step leave of the queue, and which command stops it. -/

namespace Sys2Proof.Machine

/-- Every command acts on the device alone, or is an impossible draw, which stops the block (R38). -/
theorem exec_outcome (i : Instr) (s : State) :
    (∃ f : Dev → Dev, exec i s = s.act f) ∨
      ∃ d, i = .drawRequest d ∧ d.wf = false ∧ exec i s = .fault .noSuchDraw := by
  by_cases h : ∃ d, i = .drawRequest d
  · obtain ⟨d, rfl⟩ := h
    rw [exec_drawRequest]
    cases hw : d.wf
    · exact .inr ⟨d, rfl, hw, rfl⟩
    · exact .inl ⟨_, rfl⟩
  · obtain ⟨f, hf⟩ := exec_acts i fun d hd => h ⟨d, hd⟩
    exact .inl ⟨f, hf s⟩

theorem exec_next_pending {i : Instr} {s t : State} (h : exec i s = .next t) : t.pending = s.pending := by
  rcases exec_outcome i s with ⟨f, hf⟩ | ⟨d, -, -, hf⟩
  · rw [hf, State.act_eq] at h
    cases h
    rfl
  · rw [hf] at h
    cases h

theorem exec_completes_iff (i : Instr) (s : State) :
    (∀ d, i = .drawRequest d → d.wf = true) ↔ ∃ t, exec i s = .next t := by
  rcases exec_outcome i s with ⟨f, hf⟩ | ⟨d, rfl, hw, hf⟩
  · refine iff_of_true (fun d hd => ?_) ⟨_, hf⟩
    subst hd
    rw [exec_drawRequest] at hf
    by_contra hw
    rw [if_neg hw, State.act_eq] at hf
    cases hf
  · refine iff_of_false (fun h => ?_) ?_
    · rw [h d rfl] at hw
      cases hw
    · rintro ⟨t, ht⟩
      rw [hf] at ht
      cases ht

/-- Settles O1: a step on a queue with a command is its meaning, by definition. -/
theorem stepRunsFront : Obligations.StepRunsFront := fun _ _ _ => rfl

/-- Settles O3: a command that acts on the device completes; the only other outcome is an impossible draw's fault. -/
theorem commandsComplete : Obligations.CommandsComplete := by
  refine ⟨exec_completes_iff, fun i s => ?_⟩
  rcases exec_outcome i s with ⟨f, hf⟩ | ⟨d, hd, hw, hf⟩
  · rw [hf, State.act_eq]
    exact ⟨nofun, nofun⟩
  · rw [hf]
    refine ⟨nofun, ?_⟩
    rintro _ ⟨⟩
    exact ⟨rfl, d, hd, hw⟩

theorem step_pending {s t : State} (h : step s = .next t) : t.pending = s.pending.tail := by
  obtain ⟨d, q⟩ := s
  cases q with
  | nil =>
    cases h
    rfl
  | cons c rest => exact exec_next_pending h

/-- Settles O4: a step takes the front command away and adds none, and a well-formed command is no impossible draw. -/
theorem wellFormedQueuesRun : Obligations.WellFormedQueuesRun := by
  refine ⟨fun s t => step_pending, fun s hs => ?_⟩
  have hstep : ∃ t, step s = .next t := by
    obtain ⟨d, q⟩ := s
    cases q with
    | nil => exact ⟨_, rfl⟩
    | cons c rest =>
      refine (exec_completes_iff c _).mp fun x hx => ?_
      subst hx
      exact hs _ (List.mem_cons_self ..)
  obtain ⟨t, ht⟩ := hstep
  refine ⟨t, ht, fun i hi => hs i ?_⟩
  rw [step_pending ht] at hi
  exact List.mem_of_mem_tail hi

end Sys2Proof.Machine
end

section
/-! SUPPORT. Words of GWYN (R140 to R143): the decoder on an encoded word, major by major. -/

namespace Sys2Proof

variable (c : Core)

theorem decodeGwyn_encReg_opr (n : BitVec 6) (f : RegF) :
    decodeGwyn c (encReg 0x01 n f) = decOpr c (encReg 0x01 n f) n.toNat := by
  simp [decodeGwyn, encReg_major, encReg_fn]

theorem decodeGwyn_encReg_opm (n : BitVec 6) (f : RegF) :
    decodeGwyn c (encReg 0x02 n f) = decOpm c (encReg 0x02 n f) n.toNat := by
  simp [decodeGwyn, encReg_major, encReg_fn]

theorem decodeGwyn_encReg_sys (n : BitVec 6) (f : RegF) :
    decodeGwyn c (encReg 0x3C n f) = decSys c (encReg 0x3C n f) n.toNat := by
  simp [decodeGwyn, encReg_major, encReg_fn]

theorem decodeGwyn_encMac (n : BitVec 3) (f : MacF) : decodeGwyn c (encMac n f) = decMacs c (encMac n f) n.toNat := by
  simp [decodeGwyn, encMac_major, encMac_fn]

/-- The sub-function of a CSR word is part of its immediate (R174). -/
theorem decodeGwyn_encImm_csr (f : ImmF) :
    decodeGwyn c (encImm 0x3D f) = decCsr c (encImm 0x3D f) (f.imm.extractLsb' 14 2).toNat := by
  have h : (encImm 0x3D f).extractLsb' 24 2 = f.imm.extractLsb' 14 2 := by
    rw [← encImm_imm 0x3D f]
    ext i hi
    have : 14 + i < 16 := by omega
    simp [this, ← Nat.add_assoc]
  unfold decodeGwyn
  rw [encImm_major, h]
  rfl

/-- The sub-function of a flag word is its rs1 field (R157). -/
theorem decodeGwyn_encImm_flg (f : ImmF) :
    decodeGwyn c (encImm 0x3E f) = decFlg c (encImm 0x3E f) f.rs1.toNat := by
  simp [decodeGwyn, encImm_major, encImm_rs1]

/-- Settles O6: the decoder finds the major and the function that the encoder put, and reads the fields back. -/
theorem decodeOfEncode : Obligations.DecodeOfEncode := by
  refine ⟨fun i w he hwf hres => ?_, fun c w h => by rw [readGwyn, h]; rfl⟩
  cases i
  case trap c f =>
    obtain ⟨f, x⟩ := f
    cases x with
    | none =>
      cases he
      exact ⟨c, by rw [decodeGwyn_encReg_sys]; simp [decSys]⟩
    | some x => exact absurd rfl (hres c f x)
  case mfc c f | mtc c f | setc c f | clrc c f =>
    cases he
    refine ⟨c, ?_⟩
    rw [decodeGwyn_encImm_csr, of_decide_eq_true hwf]
    simp [decCsr]
  case rdfl c f | clrf c f =>
    cases he
    refine ⟨c, ?_⟩
    rw [decodeGwyn_encImm_flg, of_decide_eq_true hwf]
    simp [decFlg]
  all_goals cases he
  all_goals refine ⟨‹Core›, ?_⟩
  all_goals simp [decodeGwyn, encReg_major, encReg_fn, encImm_major, encStore_major, encBranch_major, encJump_major,
    encMac_major, encMac_fn, encKmem_major, encCtl_major, encCtl_fn, decOpr, decOpm, decSys, decMacs, decCtl28, decCtl29,
    decCtl2A, decCtl2B, decCtl2C, decCtl2D, decCtl2E, decCtl2F, decCtl30, decCtl31, decCtl32, decCtl33, decCtl34,
    decCtl35, decCtl36, decCtl37]

end Sys2Proof
end

section
/-! SUPPORT. Words of GWYN (R140 to R143): the encoder on a decoded word, sub-decoder by sub-decoder, and the words that
decode to nothing. -/

namespace Sys2Proof

variable {c : Core} {w : Word} {i : Instr}

/-- The sub-function of a CSR word, as a part of its immediate (R174). -/
theorem decImm_imm_csr (w : Word) : (decImm w).imm.extractLsb' 14 2 = w.extractLsb' 24 2 := by
  ext i hi
  have : 14 + i < 16 := by omega
  simp [decImm, this, ← Nat.add_assoc]

theorem encode_of_decOpr (hm : w.extractLsb' 26 6 = 0x01)
    (h : decOpr c w (w.extractLsb' 20 6).toNat = some i) : encode i = some w ∧ i.wf = true := by
  unfold decOpr at h
  split at h <;> cases h
  all_goals exact ⟨congrArg some (encReg_decReg _ _ _ hm (BitVec.eq_of_toNat_eq ‹_›)), rfl⟩

theorem encode_of_decOpm (hm : w.extractLsb' 26 6 = 0x02)
    (h : decOpm c w (w.extractLsb' 20 6).toNat = some i) : encode i = some w ∧ i.wf = true := by
  unfold decOpm at h
  split at h <;> cases h
  all_goals exact ⟨congrArg some (encReg_decReg _ _ _ hm (BitVec.eq_of_toNat_eq ‹_›)), rfl⟩

theorem encode_of_decSys (hm : w.extractLsb' 26 6 = 0x3C)
    (h : decSys c w (w.extractLsb' 20 6).toNat = some i) : encode i = some w ∧ i.wf = true := by
  unfold decSys at h
  split at h <;> cases h
  all_goals exact ⟨congrArg some (encReg_decReg _ _ _ hm (BitVec.eq_of_toNat_eq ‹_›)), rfl⟩

theorem encode_of_decMacs (hm : w.extractLsb' 26 6 = 0x20)
    (h : decMacs c w (w.extractLsb' 23 3).toNat = some i) : encode i = some w ∧ i.wf = true := by
  unfold decMacs at h
  split at h <;> cases h
  all_goals exact ⟨congrArg some (encMac_decMac _ _ hm (BitVec.eq_of_toNat_eq ‹_›)), rfl⟩

theorem encode_of_decCsr (hm : w.extractLsb' 26 6 = 0x3D)
    (h : decCsr c w (w.extractLsb' 24 2).toNat = some i) : encode i = some w ∧ i.wf = true := by
  unfold decCsr at h
  split at h <;> cases h
  all_goals exact ⟨congrArg some (encImm_decImm _ _ hm),
    decide_eq_true ((decImm_imm_csr w).trans (BitVec.eq_of_toNat_eq ‹_›))⟩

theorem encode_of_decFlg (hm : w.extractLsb' 26 6 = 0x3E)
    (h : decFlg c w (w.extractLsb' 5 5).toNat = some i) : encode i = some w ∧ i.wf = true := by
  unfold decFlg at h
  split at h <;> cases h
  all_goals exact ⟨congrArg some (encImm_decImm _ _ hm), decide_eq_true (BitVec.eq_of_toNat_eq ‹_›)⟩

/-- A word that decodes is the word of the well-formed instruction that it decodes to. -/
theorem encode_of_decodeGwyn (h : decodeGwyn c w = some i) : encode i = some w ∧ i.wf = true := by
  unfold decodeGwyn at h
  split at h
  case h_1 hm => exact encode_of_decOpr (BitVec.eq_of_toNat_eq hm) h
  case h_2 hm => exact encode_of_decOpm (BitVec.eq_of_toNat_eq hm) h
  case h_3 hm => exact encode_of_decMacs (BitVec.eq_of_toNat_eq hm) h
  case h_4 hm => exact encode_of_decSys (BitVec.eq_of_toNat_eq hm) h
  case h_5 hm => exact encode_of_decCsr (BitVec.eq_of_toNat_eq hm) h
  case h_6 hm => exact encode_of_decFlg (BitVec.eq_of_toNat_eq hm) h
  case h_7 hm | h_8 hm | h_9 hm | h_10 hm | h_11 hm | h_12 hm | h_13 hm | h_14 hm | h_15 hm | h_16 hm | h_17 hm
      | h_18 hm | h_19 hm =>
    cases h
    exact ⟨congrArg some (encImm_decImm _ _ (BitVec.eq_of_toNat_eq hm)), rfl⟩
  case h_20 hm | h_21 hm | h_22 hm | h_23 hm =>
    cases h
    exact ⟨congrArg some (encStore_decStore _ _ (BitVec.eq_of_toNat_eq hm)), rfl⟩
  case h_24 hm | h_25 hm | h_26 hm | h_27 hm | h_28 hm | h_29 hm =>
    cases h
    exact ⟨congrArg some (encBranch_decBranch _ _ (BitVec.eq_of_toNat_eq hm)), rfl⟩
  case h_30 hm | h_31 hm =>
    cases h
    exact ⟨congrArg some (encJump_decJump _ _ (BitVec.eq_of_toNat_eq hm)), rfl⟩
  case h_32 hm | h_33 hm =>
    cases h
    exact ⟨congrArg some (encKmem_decKmem _ _ (BitVec.eq_of_toNat_eq hm)), rfl⟩
  case h_50 => cases h
  all_goals
    rename_i hm
    simp only [decCtl28, decCtl29, decCtl2A, decCtl2B, decCtl2C, decCtl2D, decCtl2E, decCtl2F, decCtl30, decCtl31,
      decCtl32, decCtl33, decCtl34, decCtl35, decCtl36, decCtl37] at h
    split at h <;> cases h
  all_goals exact ⟨congrArg some (encCtl_decCtl _ _ _ (BitVec.eq_of_toNat_eq hm) (BitVec.eq_of_toNat_eq ‹_›)), rfl⟩

/-- Settles O7: a word that decodes is its instruction's word, and a reserved word is the word of its own trap. -/
theorem encodeOfDecode : Obligations.EncodeOfDecode := by
  refine ⟨fun c w i => encode_of_decodeGwyn, fun c w => ?_⟩
  unfold readGwyn
  cases h : decodeGwyn c w with
  | none => exact ⟨rfl, rfl⟩
  | some i => exact encode_of_decodeGwyn h

/-! ### Reserved words (R141, R143) -/

theorem decodeGwyn_reserved_major (h : (w.extractLsb' 26 6).toNat = 0 ∨ (w.extractLsb' 26 6).toNat = 3 ∨
      (w.extractLsb' 26 6).toNat = 0x0B ∨
      (0x21 ≤ (w.extractLsb' 26 6).toNat ∧ (w.extractLsb' 26 6).toNat ≤ 0x27) ∨
      (0x38 ≤ (w.extractLsb' 26 6).toNat ∧ (w.extractLsb' 26 6).toNat ≤ 0x3B) ∨ (w.extractLsb' 26 6).toNat = 0x3F) :
    decodeGwyn c w = none := by
  unfold decodeGwyn
  split
  case h_50 => rfl
  all_goals omega

theorem decOpr_reserved {n : Nat} (h : n = 0 ∨ (0x0A ≤ n ∧ n ≤ 0x0F) ∨ (0x14 ≤ n ∧ n ≤ 0x17) ∨ 0x23 ≤ n) :
    decOpr c w n = none := by
  unfold decOpr
  split
  case h_25 => rfl
  all_goals omega

theorem decOpm_reserved {n : Nat} (h : n = 0 ∨ (5 ≤ n ∧ n ≤ 7) ∨ 0x0B ≤ n) : decOpm c w n = none := by
  unfold decOpm
  split
  case h_8 => rfl
  all_goals omega

theorem decFlg_reserved {n : Nat} (h : 2 ≤ n) : decFlg c w n = none := by
  unfold decFlg
  split
  case h_3 => rfl
  all_goals omega

/-- Settles O8: a reserved major, or a reserved function of its major, meets no row of the decoder; the listed words are
decoded field by field. -/
theorem wordsDecode : Obligations.WordsDecode := by
  refine ⟨fun c w => ⟨decodeGwyn_reserved_major, ?opr, ?opm, ?mac, ?flg⟩, fun c => ?listed⟩
  case opr =>
    rintro ⟨hm, hf⟩
    simp only [decodeGwyn, hm]
    exact decOpr_reserved hf
  case opm =>
    rintro ⟨hm, hf⟩
    simp only [decodeGwyn, hm]
    exact decOpm_reserved hf
  case mac =>
    rintro ⟨hm, hf⟩
    simp only [decodeGwyn, hm, hf]
    rfl
  case flg =>
    rintro ⟨hm, hf⟩
    simp only [decodeGwyn, hm]
    exact decFlg_reserved hf
  case listed =>
    simp [decodeGwyn, decReg, decMac, decCtl, decImm, decStore, decBranch, decJump, decKmem, decOpr, decMacs, decCtl29]

end Sys2Proof
end

section
/-! SUPPORT. What the writes of one core leave of another core, and what they leave of the core's own other parts
(R125, R126, R136, R138). -/

namespace Sys2Proof.Machine

/-- The core of one device is the core of the other. -/
def Dev.coreEq (d e : Dev) : Core → Prop
  | .spn p => e.spn p = d.spn p
  | .bob b => e.bob b = d.bob b

variable {d e f : Dev} {c c' : Core}

theorem Dev.coreEq.rfl : d.coreEq d c := by cases c <;> rfl

theorem Dev.coreEq.trans (h : d.coreEq e c) (k : e.coreEq f c) : d.coreEq f c := by
  cases c
  · exact Eq.trans k h
  · exact Eq.trans k h

theorem Dev.coreEq.gv (h : d.coreEq e c) (q : BitVec 5) : e.gv c q = d.gv c q := by
  cases c <;> unfold Dev.coreEq at h <;> simp only [Dev.gv, h]

theorem Dev.coreEq.ga (h : d.coreEq e c) (k : Nat) : e.ga c k = d.ga c k := by
  cases c <;> unfold Dev.coreEq at h <;> simp only [Dev.ga, h]

theorem Dev.coreEq.pcOf (h : d.coreEq e c) : e.pcOf c = d.pcOf c := by
  cases c <;> unfold Dev.coreEq at h <;> simp only [Dev.pcOf, h]

theorem Dev.coreEq_modSpn {p : Fin 18} (g : Spindle → Spindle) (h : c' ≠ .spn p) : d.coreEq (d.modSpn p g) c' := by
  cases c' with
  | spn q => exact (Dev.spn_setSpn ..).trans (if_neg fun hq => h (congrArg Core.spn (Fin.ext hq)))
  | bob b => rfl

theorem Dev.coreEq_modBob {b : Fin 3} (g : Bobbin → Bobbin) (h : c' ≠ .bob b) : d.coreEq (d.modBob b g) c' := by
  cases c' with
  | spn q => rfl
  | bob q => exact (Dev.bob_setBob ..).trans (if_neg fun hq => h (congrArg Core.bob (Fin.ext hq)))

theorem Dev.coreEq_setReg (a : Nat) (w : Word) : d.coreEq (d.setReg a w) c := by cases c <;> rfl

section
variable (h : c' ≠ c)
include h

theorem Dev.coreEq_setV (r : BitVec 5) (w : Word) : d.coreEq (d.setV c r w) c' := by
  unfold Dev.setV
  split
  · exact .rfl
  · cases c
    · exact Dev.coreEq_modSpn _ h
    · exact Dev.coreEq_modBob _ h

theorem Dev.coreEq_setA (a : Nat) (w : DWord) : d.coreEq (d.setA c a w) c' := by
  cases c
  · exact Dev.coreEq_modSpn _ h
  · exact Dev.coreEq_modBob _ h

theorem Dev.coreEq_setPc (w : Word) : d.coreEq (d.setPc c w) c' := by
  cases c
  · exact Dev.coreEq_modSpn _ h
  · exact Dev.coreEq_modBob _ h

theorem Dev.coreEq_raiseFlags (m : Word) : d.coreEq (d.raiseFlags c m) c' := by
  cases c with
  | spn p =>
    simp only [Dev.raiseFlags, Dev.raiseLoopFlags]
    split
    · exact .rfl
    · split
      · exact Dev.coreEq_modSpn _ h
      · exact Dev.coreEq_setReg _ _
  | bob b =>
    simp only [Dev.raiseFlags]
    split
    · exact .rfl
    · exact Dev.coreEq_modBob _ h

end

/-! ### Flags leave the registers of their own core -/

theorem Dev.gv_raiseFlags (m : Word) (q : BitVec 5) : (d.raiseFlags c m).gv c q = d.gv c q := by
  cases c with
  | spn p =>
    simp only [Dev.raiseFlags, Dev.raiseLoopFlags, Dev.setLoopFlags, Dev.setFld]
    split
    · rfl
    · split <;> simp [Dev.gv, Dev.modSpn]
  | bob b =>
    simp only [Dev.raiseFlags, Dev.setCsr]
    split
    · rfl
    · simp [Dev.gv, Dev.modBob]

theorem Dev.ga_raiseFlags (m : Word) (k : Nat) : (d.raiseFlags c m).ga c k = d.ga c k := by
  cases c with
  | spn p =>
    simp only [Dev.raiseFlags, Dev.raiseLoopFlags, Dev.setLoopFlags, Dev.setFld]
    split
    · rfl
    · split <;> simp [Dev.ga, Dev.modSpn]
  | bob b =>
    simp only [Dev.raiseFlags, Dev.setCsr]
    split
    · rfl
    · simp [Dev.ga, Dev.modBob]

theorem Dev.sameMem_of_sk (h : e.sk = d.sk) : d.sameMem e := fun _ => by simp only [Dev.byte, h]

/-- What raised flags and a new pc leave of the registers of register space. -/
theorem Dev.reg_setPc_raiseFlags (m pc : Word) {n : Nat} (h : ∀ p, c = .spn p → n ≠ Reg.SPN_FLAGS p) :
    ((d.raiseFlags c m).setPc c pc).reg n = d.reg n := by
  rw [Dev.reg, Dev.regs_setPc]
  exact Dev.reg_raiseFlags d c m n h

/-- Settles O10: each of the writes is read back and leaves the rest, and so does their sequence. -/
theorem coreWritesFrame : Obligations.CoreWritesFrame := by
  intro d c r w a x m pc v y
  refine ⟨fun q => ?_, fun k => ?_, Dev.pcOf_setPc .., fun k => ?_, fun q => ?_, Dev.pcOf_setPc .., fun c' q k hc => ?_,
    Dev.sameMem_of_sk ?_, Dev.sameMem_of_sk ?_, fun n hn => ⟨?_, ?_⟩⟩
  · exact (Dev.gv_setPc ..).trans ((Dev.gv_raiseFlags ..).trans (Dev.gv_setV ..))
  · exact (Dev.ga_setPc ..).trans ((Dev.ga_raiseFlags ..).trans (Dev.ga_setV ..))
  · exact (Dev.ga_setPc ..).trans ((Dev.ga_raiseFlags ..).trans (Dev.ga_setA ..))
  · exact (Dev.gv_setPc ..).trans ((Dev.gv_raiseFlags ..).trans (Dev.gv_setA ..))
  · have hv : d.coreEq v c' :=
      ((Dev.coreEq_setV hc r w).trans (Dev.coreEq_raiseFlags hc m)).trans (Dev.coreEq_setPc hc pc)
    have hy : d.coreEq y c' :=
      ((Dev.coreEq_setA hc a x).trans (Dev.coreEq_raiseFlags hc m)).trans (Dev.coreEq_setPc hc pc)
    exact ⟨hv.gv q, hv.ga k, hv.pcOf, hy.gv q, hy.ga k, hy.pcOf⟩
  · rw [Dev.sk_setPc, Dev.sk_raiseFlags, Dev.sk_setV]
  · rw [Dev.sk_setPc, Dev.sk_raiseFlags, Dev.sk_setA]
  · rw [Dev.reg_setPc_raiseFlags m pc hn, Dev.reg, Dev.regs_setV, Dev.reg]
  · rw [Dev.reg_setPc_raiseFlags m pc hn, Dev.reg, Dev.regs_setA, Dev.reg]

end Sys2Proof.Machine
end

section
/-! SUPPORT. The saturating, exact and multiply-accumulate instructions (R132 to R134, R144, R145, R147, R148): what
saturation and the shift give, and one rule for each kind of result. -/

namespace Sys2Proof.Machine

/-! ### Saturation (R132) and the shift (R134) -/

theorem toInt_ofInt_of_fits {n : Nat} {x : Int} (h : 0 < n) (hlo : -2 ^ (n - 1) ≤ x) (hhi : x < 2 ^ (n - 1)) :
    (BitVec.ofInt n x).toInt = x := by
  obtain ⟨k, rfl⟩ : ∃ k, n = k + 1 := ⟨n - 1, by omega⟩
  rw [BitVec.toInt_ofInt]
  refine Int.bmod_eq_of_le ?_ ?_ <;> simp only [Nat.add_sub_cancel] at hlo hhi <;> push_cast [pow_succ] <;> omega

theorem toInt_sat32 (x : Int) : (sat32 x).1.toInt = max (-2147483648) (min 2147483647 x) := by
  unfold sat32
  split_ifs with h1 h2
  · rw [min_eq_right (by omega), max_eq_left (by omega)]; rfl
  · rw [min_eq_left (by omega)]; rfl
  · rw [min_eq_right (by omega), max_eq_right (by omega)]
    exact toInt_ofInt_of_fits (by decide) (by norm_num; omega) (by norm_num; omega)

theorem toInt_sat64 (x : Int) : (sat64 x).1.toInt = max (-9223372036854775808) (min 9223372036854775807 x) := by
  unfold sat64
  split_ifs with h1 h2
  · rw [min_eq_right (by omega), max_eq_left (by omega)]; rfl
  · rw [min_eq_left (by omega)]; rfl
  · rw [min_eq_right (by omega), max_eq_right (by omega)]
    exact toInt_ofInt_of_fits (by decide) (by norm_num; omega) (by norm_num; omega)

theorem saturates_sat32 (x : Int) : (sat32 x).2 = true ↔ x < -2147483648 ∨ 2147483647 < x := by
  unfold sat32
  split_ifs <;> simp <;> omega

theorem saturates_sat64 (x : Int) : (sat64 x).2 = true ↔ x < -9223372036854775808 ∨ 9223372036854775807 < x := by
  unfold sat64
  split_ifs <;> simp <;> omega

theorem shrR_floor (x : Int) (n : Nat) : shrR x n false = x / 2 ^ n := by simp [shrR]

theorem shrR_round (x : Int) (n : Nat) : shrR x (n + 1) true = (x + 2 ^ n) / 2 ^ (n + 1) := by simp [shrR]

/-- The shift by a rounding bit of a word (R148). -/
theorem shrR_bit (x : Int) (t : Nat) (r : BitVec 1) :
    shrR x t (decide (r = 1)) = (x + if r = 1 ∧ 1 ≤ t then (2 : Int) ^ (t - 1) else 0) / 2 ^ t := by
  simp [shrR]

theorem sraW_eq (w : Word) (n : Nat) : sraW w n = w.sshiftRight n := by
  rw [sraW, BitVec.sshiftRight, Int.shiftRight_eq_div_pow]
  norm_cast

/-! ### One rule for each kind of result -/

variable {s : State} {c : Core} {i : Instr} {ill : Bool} {rd : BitVec 5}

theorem runs_sat {x : Int} (hill : ill = false) (hex : exec i s = .next (s.withDev (s.dev.opSat c i ill rd x))) :
    RunsTo s c i ((s.dev.setV c rd (sat32 x).1).raiseFlags c (if (sat32 x).2 then fVSAT else 0)) :=
  runs_opSat (by rw [hex, hill])

theorem runs_word {w : Word} (hill : ill = false) (hex : exec i s = .next (s.withDev (s.dev.opWord c i ill rd w))) :
    RunsTo s c i (s.dev.setV c rd w) :=
  runs_opWord (by rw [hex, hill])

/-- An accumulator written with the flag of its saturation. -/
theorem runs_asat {f : Dev → Eff} {a : Nat} {z : Int} (hill : ill = false)
    (hex : exec i s = .next (s.withDev (s.dev.issue c i .both ill f)))
    (hf : f s.dev = .next (s.dev.setAsat c a (sat64 z))) :
    RunsTo s c i ((s.dev.setA c a (sat64 z).1).raiseFlags c (if (sat64 z).2 then fASAT else 0)) := by
  subst hill
  exact runs_issue hex rfl hf (by simp [Dev.setAsat]) (by simp [Dev.setAsat])

theorem illDst_eq_false {f : RegF} (h : f.sh = 0) : illDst f = false := by simp [illDst, h]

theorem illDs_eq_false {f : RegF} (h : f.sh = 0) (h2 : f.rs2 = 0) : illDs f = false := by simp [illDs, h, h2]

theorem illSh_eq_false {f : RegF} (h : f.rs2 = 0) : illSh f = false := by simp [illSh, h]

/-- Settles O9: saturation by its three cases; each saturating instruction is the one rule with its exact result. -/
theorem saturatingArithmetic : Obligations.SaturatingArithmetic := by
  refine ⟨fun x => ⟨toInt_sat32 x, saturates_sat32 x, toInt_sat64 x, saturates_sat64 x⟩, ?_⟩
  intro c f g s d x y sat
  refine ⟨fun h => runs_sat (illDst_eq_false h) rfl, fun h => runs_sat (illDst_eq_false h) rfl,
    fun h h2 => runs_sat (illDs_eq_false h h2) rfl, fun h h2 => runs_sat (illDs_eq_false h h2) rfl,
    fun h => runs_sat (illDst_eq_false h) rfl, fun h => runs_sat (illSh_eq_false h) rfl,
    fun h => runs_sat (illDst_eq_false h) rfl, fun h => ?_, fun h => ?_, runs_sat rfl rfl⟩
  · rw [← shrR_floor]
    exact runs_sat (illDst_eq_false h) rfl
  · rw [← shrR_round]
    exact runs_sat (illDst_eq_false h) rfl

/-- Settles O12: each instruction is the one rule of an exact result. -/
theorem exactAndLogical : Obligations.ExactAndLogical := by
  intro c f g s d x y n u b
  refine ⟨fun h => ?_, fun h => ⟨runs_word (illSh_eq_false h) rfl, runs_word (illSh_eq_false h) rfl, ?srai⟩,
    runs_word rfl rfl, runs_word rfl rfl, runs_word rfl rfl, runs_word rfl rfl, runs_word rfl rfl,
    fun h => runs_word (by simp [nz, h]) rfl⟩
  case srai =>
    rw [← sraW_eq]
    exact runs_word (illSh_eq_false h) rfl
  have hill := illDst_eq_false h
  refine ⟨runs_word hill rfl, runs_word hill rfl, runs_word hill rfl, runs_word hill rfl, runs_word hill rfl,
    runs_word hill rfl, runs_word hill rfl, runs_word hill rfl, runs_word hill rfl, runs_word hill rfl,
    runs_word hill rfl, ?sra, ?mulh⟩
  case sra =>
    rw [← sraW_eq]
    exact runs_word hill rfl
  case mulh =>
    rw [← shrR_floor]
    exact runs_word hill rfl

end Sys2Proof.Machine
end

section
/-! SUPPORT. The fields of the MAC words (R148) and the flags words (R136, R157). -/

namespace Sys2Proof.Machine

theorem toNat_append_eq {a b : Nat} (x : BitVec a) (y : BitVec b) : (x ++ y).toNat = x.toNat * 2 ^ b + y.toNat := by
  rw [BitVec.toNat_append, ← Nat.shiftLeft_add_eq_or_of_lt y.isLt, Nat.shiftLeft_eq]

section
variable (ad : BitVec 2) (n : BitVec 8) (r : BitVec 1) (sh : BitVec 6) (rs1 low : BitVec 5)

theorem macN_entry : macN ⟨ad, n ++ r ++ 0#2, rs1, low⟩ = n.toNat := by
  have := r.isLt
  simp only [macN, toNat_append_eq, BitVec.toNat_ofNat]
  omega

theorem macRndK_entry : macRndK ⟨ad, n ++ r ++ 0#2, rs1, low⟩ = decide (r = 1) := by
  have hr : (r = 1) ↔ r.toNat = 1 := by decide +revert
  have := r.isLt
  rw [macRndK, ← BitVec.testBit_toNat, Nat.testBit_eq_decide_div_mod_eq, decide_eq_decide, hr]
  simp only [toNat_append_eq, BitVec.toNat_ofNat]
  omega

theorem illMacK_entry : illMacK ⟨ad, n ++ r ++ 0#2, rs1, 0⟩ = false := by
  have h : (n ++ r ++ 0#2).toNat % 4 = 0 := by
    simp only [toNat_append_eq, BitVec.toNat_ofNat]
    omega
  simp [illMacK, h]

theorem macSh_shift : macSh ⟨ad, sh ++ r ++ 0#4, rs1, low⟩ = sh.toNat := by
  have := r.isLt
  simp only [macSh, toNat_append_eq, BitVec.toNat_ofNat]
  omega

theorem macRnd_shift : macRnd ⟨ad, sh ++ r ++ 0#4, rs1, low⟩ = decide (r = 1) := by
  have hr : (r = 1) ↔ r.toNat = 1 := by decide +revert
  have := r.isLt
  rw [macRnd, ← BitVec.testBit_toNat, Nat.testBit_eq_decide_div_mod_eq, decide_eq_decide, hr]
  simp only [toNat_append_eq, BitVec.toNat_ofNat]
  omega

theorem illMacv_shift : illMacv ⟨ad, sh ++ r ++ 0#4, rs1, low⟩ = false := by
  have h : (sh ++ r ++ 0#4).toNat % 16 = 0 := by
    simp only [toNat_append_eq, BitVec.toNat_ofNat]
    omega
  simp [illMacv, h]

theorem illRda_shift : illRda ⟨ad, sh ++ r ++ 0#4, 0, low⟩ = false := by
  have h := illMacv_shift ad r sh 0 low
  simp only [illMacv] at h
  simp [illRda, h]

theorem macSh_wra : macSh ⟨ad, sh ++ 0#5, rs1, low⟩ = sh.toNat := by
  simp only [macSh, toNat_append_eq, BitVec.toNat_ofNat]
  omega

theorem illWra_wra : illWra ⟨ad, sh ++ 0#5, rs1, 0⟩ = false := by
  have h : (sh ++ 0#5).toNat % 32 = 0 := by
    simp only [toNat_append_eq, BitVec.toNat_ofNat]
    omega
  simp [illWra, h]

theorem macAs_adda (as_ : BitVec 2) : macAs ⟨ad, as_ ++ 0#9, rs1, low⟩ = as_.toNat := by
  simp only [macAs, toNat_append_eq, BitVec.toNat_ofNat]
  omega

theorem illAdda_adda (as_ : BitVec 2) : illAdda ⟨ad, as_ ++ 0#9, 0, 0⟩ = false := by
  have h : (as_ ++ 0#9).toNat % 512 = 0 := by
    simp only [toNat_append_eq, BitVec.toNat_ofNat]
    omega
  simp [illAdda, h]

end

/-! ### Instructions that read coefficient entries (R128, R179) -/

variable {s : State} {c : Core} {i : Instr} {ill : Bool} {es : List (Nat × Nat)} {g : Dev → Eff} {prof : Profile}

theorem traps_kinds (hill : ill = false)
    (hex : exec i s = .next (s.withDev (s.dev.issue c i .both ill fun d => d.withKinds c es (g d))))
    (hk : s.dev.kinds c es = false) : Traps s c i 5 none := by
  subst hill
  exact traps_issue hex rfl (by simp [Dev.withKinds, hk]) (by decide)

/-- An instruction whose fields are legal and whose effect completes runs to that effect. -/
theorem runs_effect {f : Dev → Eff} {e : Dev} (hill : ill = false)
    (hex : exec i s = .next (s.withDev (s.dev.issue c i prof ill f))) (hp : prof.has c = true)
    (hf : f s.dev = .next e) (ha : e.alive c = s.dev.alive c) (hpc : e.pcOf c = s.dev.pcOf c) : RunsTo s c i e := by
  subst hill
  exact runs_issue hex hp hf ha hpc

theorem Dev.withKinds_of {d : Dev} {e : Eff} (hk : d.kinds c es = true) : d.withKinds c es e = e := if_pos hk

/-- Settles O14: the fields are read off the word, and each instruction is the one rule of an accumulator's result. -/
theorem macGroup : Obligations.MacGroup := by
  intro c ad n r sh rs1 rs2 s d a v k half shr kn sn acc
  have hK := macN_entry ad n r rs1 0
  have hR := macRndK_entry ad n r rs1 0
  have hkill : illMacK kn = false := illMacK_entry ad n r rs1
  have hentry : shrR (v * kValue (d.kOf c (macN kn))) (kShift (d.kOf c (macN kn))) (macRndK kn) =
      shr (v * kValue k) (kShift k) := by rw [hK, hR, shrR_bit]
  have hshift : ∀ z : Int, shrR z (macSh sn) (macRnd sn) = shr z sh.toNat := fun z => by
    rw [macSh_shift, macRnd_shift, shrR_bit]
  refine ⟨fun hk => ?plain, fun hk => ?kind, ?macv, ?rda, ?wra, fun as_ => ?adda⟩
  case plain =>
    have hk' : d.kinds c [(macN kn, kPlain)] = true := by rw [hK]; exact hk
    refine ⟨runs_asat hkill rfl ?_, runs_asat hkill rfl ?_, ?_⟩
    · change d.macK c kn 1 = _
      rw [Dev.macK, Dev.withKinds_of hk', hentry, one_mul]
    · change d.macK c kn (-1) = _
      rw [Dev.macK, Dev.withKinds_of hk', hentry, neg_one_mul, ← sub_eq_add_neg]
    · refine runs_effect hkill rfl rfl ?_ (Dev.alive_setA ..) (Dev.pcOf_setA ..)
      change d.withKinds c [(macN kn, kPlain)] (.next (d.setA c ad.toNat (BitVec.ofInt 64
        (shrR (v * kValue (d.kOf c (macN kn))) (kShift (d.kOf c (macN kn))) (macRndK kn))))) = _
      rw [Dev.withKinds_of hk', hentry]
  case kind =>
    have hk' : d.kinds c [(macN kn, kPlain)] = false := by rw [hK]; exact hk
    exact ⟨traps_kinds hkill rfl hk', traps_kinds hkill rfl hk', traps_kinds hkill rfl hk'⟩
  case macv =>
    refine runs_asat (illMacv_shift ad r sh rs1 rs2) rfl ?_
    change Eff.next (d.setAsat c ad.toNat (sat64 (a + shrR (v * d.iv c rs2) (macSh sn) (macRnd sn)))) = _
    rw [hshift]
  case rda =>
    refine runs_effect (illRda_shift ad r sh rs2) rfl rfl ?_
      ((Dev.alive_raiseFlags ..).trans (Dev.alive_setV ..)) ((Dev.pcOf_raiseFlags ..).trans (Dev.pcOf_setV ..))
    change Eff.next (d.setSat c rs2 (sat32 (shrR a (macSh sn) (macRnd sn)))) = _
    rw [hshift]
    rfl
  case wra =>
    refine runs_asat (illWra_wra ad sh rs1) rfl ?_
    change Eff.next (d.setAsat c ad.toNat (sat64 (v * 2 ^ macSh _))) = _
    rw [macSh_wra]
  case adda =>
    refine runs_asat (illAdda_adda ad as_) rfl ?_
    change Eff.next (d.setAsat c ad.toNat (sat64 (a + d.ia c (macAs _)))) = _
    rw [macAs_adda]

/-! ### Flags -/

variable {d : Dev}

@[simp] theorem Dev.csr_setCsr_same (b n : Nat) (w : Word) : (d.setCsr b n w).csr b n = w := by
  simp [Dev.csr, Dev.setCsr, Dev.modBob]

/-- The committed word of a loop, written with a word of seven bits. -/
theorem Dev.loopFlags_setLoopFlags {p l : Nat} (hl : l < 4) {w : Word} (hw : w &&& 0x7F = w) :
    (d.setLoopFlags p l w).loopFlags p l = w := by
  have h128 : w.toNat < 2 ^ 7 := by
    rw [← hw, BitVec.toNat_and]
    exact Nat.lt_of_le_of_lt Nat.and_le_right (by decide)
  have hwidth : 8 * l + 6 + 1 - 8 * l = 7 := by omega
  rw [Dev.loopFlags, Dev.setLoopFlags, Dev.fld_setFld _ _ _ _ _ (by omega) (by omega), hwidth, Nat.mod_eq_of_lt h128]
  simp

theorem Dev.loopFlags_seven (p l : Nat) : d.loopFlags p l &&& 0x7F = d.loopFlags p l := by
  have h : (d.loopFlags p l).toNat < 2 ^ 7 := by
    have := bitsOf_lt (d.reg (Reg.SPN_FLAGS p)) (8 * l + 6) (8 * l)
    have hwidth : 8 * l + 6 + 1 - 8 * l = 7 := by omega
    rw [hwidth] at this
    exact Nat.lt_of_le_of_lt (Nat.mod_le _ _) this
  apply BitVec.eq_of_toNat_eq
  rw [BitVec.toNat_and]
  exact Nat.and_two_pow_sub_one_of_lt_two_pow h

/-- A flag that is raised in the masks shows, and no other changes (R138). -/
theorem flagView_raised (l c s m : Word) :
    (l &&& ~~~(c &&& ~~~m)) ||| (s ||| m) = ((l &&& ~~~c) ||| s) ||| m := by
  ext i hi
  simp only [BitVec.getElem_or, BitVec.getElem_and, BitVec.getElem_not]
  exact (by decide : ∀ x y z u : Bool, (x && !(y && !u) || (z || u)) = ((x && !y || z) || u)) _ _ _ _

/-- Settles O11: on each core the flags word is written with the flags joined or taken away, and reads back. -/
theorem flagsStick : Obligations.FlagsStick := by
  refine ⟨fun d m => ⟨fun b => ⟨?_, ?_⟩, fun p hspec hl hm => ⟨?_, ?_⟩, fun p hspec => ⟨?_, ?_⟩⟩, fun c rd m s => ⟨?_, ?_⟩⟩
  · simp only [Dev.raiseFlags]
    split
    · next h => simp [Dev.readFlags, h]
    · exact Dev.csr_setCsr_same ..
  · exact Dev.csr_setCsr_same ..
  · simp only [Dev.raiseFlags, Dev.raiseLoopFlags, hspec]
    split
    · next h => simp [h]
    · refine Dev.loopFlags_setLoopFlags hl ?_
      rw [BitVec.and_comm, BitVec.and_or_distrib_left]
      simp only [BitVec.and_comm 0x7F, Dev.loopFlags_seven, hm]
  · simp only [Dev.clearFlags, Dev.clearLoopFlags, hspec]
    refine Dev.loopFlags_setLoopFlags hl ?_
    rw [BitVec.and_assoc, BitVec.and_comm (~~~m), ← BitVec.and_assoc, Dev.loopFlags_seven]
  · simp only [Dev.raiseFlags, Dev.raiseLoopFlags, hspec]
    split <;> rfl
  · simp only [Dev.raiseFlags, Dev.raiseLoopFlags, hspec, if_true]
    split
    · next h => simp [h]
    · have hspn : (d.modSpn p fun s => { s with maskS := s.maskS ||| m, maskC := s.maskC &&& ~~~m }).spn p =
          { d.spn p with maskS := (d.spn p).maskS ||| m, maskC := (d.spn p).maskC &&& ~~~m } :=
        Dev.spn_setSpn_same ..
      simp only [Dev.readFlags, Dev.flagView, Dev.curLoop, hspn]
      exact flagView_raised ..
  · exact runs_issue (f := fun d => .next (d.setV c rd (d.readFlags c))) rfl rfl rfl (by simp) (by simp)
  · intro hm
    exact runs_effect (by simp [nz]; omega) rfl rfl rfl (by simp) (by simp)

end Sys2Proof.Machine
end

section
/-! SUPPORT. Transfers of control (R149 to R151), and what the encoding and the map forbid (R124, R141, R152 to R154,
R160). -/

namespace Sys2Proof.Machine

variable {s : State} {c : Core} {i : Instr} {ill : Bool} {g : Dev → Eff} {prof : Profile} {d e : Dev} {t : Int}

/-- A transfer goes to its target, or traps IFETCH where the core may not execute there. -/
theorem goes_issue (hill : ill = false) (hex : exec i s = .next (s.withDev (s.dev.issue c i .both ill g)))
    (hg : g s.dev = .jump e t) (h : s.dev.executes c i) :
    (s.dev.mayExec c t = true → exec i s = .next (s.withDev (e.setPc c (BitVec.ofInt 32 t)))) ∧
      (s.dev.mayExec c t = false → exec i s = .next (s.withDev (s.dev.takeTrap c ((encode i).getD 0) 1 none))) := by
  subst hill
  exact ⟨fun ht => by rw [hex, Dev.issue_jump h rfl hg ht], fun ht => by rw [hex, Dev.issue_jump_out h rfl hg ht]⟩

theorem illS_eq_false {f : RegF} (h : f.sh = 0) (h2 : f.rs2 = 0) (h3 : f.rd = 0) : illS f = false := by
  simp [illS, h, h2, h3]

/-- Settles O15: each branch and jump is one transfer, with the link written where it has one. -/
theorem branchesAndJumps : Obligations.BranchesAndJumps := by
  intro c f j r s d pc x y goes br
  exact ⟨goes_issue rfl rfl rfl, goes_issue rfl rfl rfl, goes_issue rfl rfl rfl, goes_issue rfl rfl rfl,
    goes_issue rfl rfl rfl, goes_issue rfl rfl rfl, goes_issue rfl rfl rfl, goes_issue rfl rfl rfl,
    fun h h2 h3 => goes_issue (illS_eq_false h h2 h3) rfl rfl, fun h h2 => goes_issue (illDs_eq_false h h2) rfl rfl⟩

/-! ### Forbidden words -/

/-- An effect that transfers no control. -/
def Eff.noJump : Eff → Prop
  | .jump _ _ => False
  | _ => True

theorem Eff.noJump_next : (Eff.next d).noJump := trivial

theorem Eff.noJump_stay : (Eff.stay d).noJump := trivial

theorem Eff.noJump_trap {n : Nat} {ea : Option Word} : (Eff.trap d n ea).noJump := trivial

theorem Dev.noJump_priv {x : Eff} (h : x.noJump) : (d.priv c x).noJump := by
  cases c with
  | spn p => exact h
  | bob b =>
    change (if d.sup b then x else Eff.trap d 4 none).noJump
    by_cases hs : d.sup b = true
    · rwa [if_pos hs]
    · rw [if_neg hs]
      exact Eff.noJump_trap

theorem Dev.noJump_withKinds {es : List (Nat × Nat)} {x : Eff} (h : x.noJump) : (d.withKinds c es x).noJump := by
  unfold Dev.withKinds
  split
  · exact h
  · exact Eff.noJump_trap

theorem Dev.noJump_loadSub {ea : Int} {n : Nat} {k : Dev → Word → Eff} (h : ∀ e w, (k e w).noJump) :
    (d.loadSub c ea n k).noJump := by
  unfold Dev.loadSub
  split
  · exact Eff.noJump_trap
  · split
    · exact h _ _
    · exact Eff.noJump_trap
    · exact Eff.noJump_stay

/-- An instruction that is no transfer, and does not jump, stays in the program. -/
theorem Dev.leaves_of_noJump {x : Eff} (h : d.executes c i) (ht : transfers i = false) (hx : x.noJump) :
    d.leaves c i x = false := by
  rw [Dev.leaves_eq h]
  cases x with
  | jump e t => exact hx.elim
  | trap e n ea => simp [ht]
  | _ => rfl

theorem traps_illegal (hill : ill = true) (hex : exec i s = .next (s.withDev (s.dev.issue c i prof ill g)))
    (ht : transfers i = false) (hg : (g s.dev).noJump) : Traps s c i 2 none := by
  subst hill
  intro h
  rw [hex, Dev.issue_ill h (Dev.leaves_of_noJump h ht hg)]

theorem traps_foreign (hill : ill = false) (hex : exec i s = .next (s.withDev (s.dev.issue c i prof ill g)))
    (hp : prof.has c = false) (ht : transfers i = false) (hg : (g s.dev).noJump) : Traps s c i 3 none := by
  subst hill
  intro h
  rw [hex, Dev.issue_prof h hp (Dev.leaves_of_noJump h ht hg)]

/-- An instruction of GWYN-C on a Bobbin. -/
theorem traps_onSpn {b : Fin 3} {k : Dev → Fin 18 → Nat → Eff} (hill : ill = false)
    (hex : exec i s = .next (s.withDev (s.dev.issue (.bob b) i .c ill fun d => d.onSpn (.bob b) (k d)))) :
    Traps s (.bob b) i 3 none := by
  subst hill
  intro h
  rw [hex, Dev.issue_prof h rfl (by rw [Dev.leaves_eq h]; rfl)]

/-- An illegal word of jmpr: IFETCH comes before it where its target is no place to execute. -/
theorem traps_illegal_jmpr {f : RegF} (h : f.sh ≠ 0) :
    (s.dev.mayExec c ((s.dev.gv c f.rs1).toNat : Int) = true → Traps s c (.jmpr c f) 2 none) ∧
      (s.dev.mayExec c ((s.dev.gv c f.rs1).toNat : Int) = false → Traps s c (.jmpr c f) 1 none) := by
  have hill : illS f = true := by simp only [illS, decide_eq_true h, Bool.true_or]
  have hex : exec (.jmpr c f) s = .next (s.withDev (s.dev.issue c (.jmpr c f) .both true
      fun d => .jump d ((d.gv c f.rs1).toNat : Int))) := by rw [← hill]; rfl
  refine ⟨fun hm => fun hx => ?_, fun hm => fun hx => ?_⟩
  · rw [hex, Dev.issue_ill hx (by rw [Dev.leaves_eq hx]; simp [hm])]
  · rw [hex, Dev.issue_eq hx, Dev.effect, Dev.leaves_eq hx]
    simp [hm, Dev.finish]

theorem pairOk_eq_false {r : BitVec 5} (h : r.toNat % 2 = 1 ∨ r = 0) : pairOk r = false := by
  rcases h with h | rfl
  · simp [pairOk, h]
  · rfl

theorem quadOk_eq_false {r : BitVec 5} (h : r.toNat % 2 = 1 ∨ r = 0) : quadOk r = false := by
  rcases h with h | rfl
  · have : r.toNat % 4 ≠ 0 := by omega
    simp [quadOk, this]
  · rfl

/-! ### Accesses that cannot be made -/

theorem Dev.accessCause_unaligned {ea : Int} {n : Nat} {w : Bool} (h : ea % n ≠ 0) :
    d.accessCause c ea n w = some 6 := if_pos h

theorem Dev.accessCause_below {ea : Int} {n : Nat} {w : Bool} (h : ea % n = 0) (h0 : ea < 0) :
    d.accessCause c ea n w = some 7 := by simp [Dev.accessCause, h, h0]

/-- A Spindle reaches the Skein alone (R153). -/
theorem Dev.accessCause_beyond {ea : Int} {n : Nat} {w : Bool} {p : Fin 18} (h : ea % n = 0) (h0 : 0x1000000 ≤ ea) :
    d.accessCause (.spn p) ea n w = some 7 := by
  have : ¬ ea < 0 := by omega
  simp [Dev.accessCause, h, h0]

theorem Dev.accessCause_protected {ea : Int} {n : Nat} {b : Fin 3} (h : ea % n = 0) (h0 : 0 ≤ ea)
    (h1 : ea + n ≤ 0x1000000) (hm : d.mpuOk b ea.toNat .write = false) :
    d.accessCause (.bob b) ea n true = some 8 := by
  have hneg : ¬ ea < 0 := by omega
  have hmap : mapRefuses ea.toNat n true = false := if_pos (by omega)
  simp [Dev.accessCause, h, hneg, hmap, hm]

theorem Dev.loadW_refused {ea : Int} {n : Nat} {k : Dev → Word → Eff} (h : d.accessCause c ea 4 false = some n) :
    d.loadW c ea k = .trap d n (some (eaWord ea)) := by simp [Dev.loadW, h]

theorem Dev.loadD_refused {ea : Int} {n : Nat} {k : Dev → DWord → Eff} (h : d.accessCause c ea 8 false = some n) :
    d.loadD c ea k = .trap d n (some (eaWord ea)) := by simp [Dev.loadD, h]

theorem Dev.storeW_refused {ea : Int} {n : Nat} {w : Word} (h : d.accessCause c ea 4 true = some n) :
    d.storeW c ea w = .trap d n (some (eaWord ea)) := by
  have h' : d.accessCause c ea (bytesOfWord w).length true = some n := h
  simp [Dev.storeW, Dev.storeBytes, h']

theorem traps_ldW {f : ImmF} {n : Nat} (h : s.dev.accessCause c (s.dev.eaImm c f.rs1 f.imm) 4 false = some n)
    (hn : n ≠ 1) : Traps s c (.ldW c f) n (some (BitVec.ofInt 32 (s.dev.eaImm c f.rs1 f.imm))) :=
  traps_issue rfl rfl (Dev.loadW_refused h) hn

theorem traps_stW {f : StoreF} {n : Nat} (h : s.dev.accessCause c (s.dev.eaImm c f.rs1 f.imm) 4 true = some n)
    (hn : n ≠ 1) : Traps s c (.stW c f) n (some (BitVec.ofInt 32 (s.dev.eaImm c f.rs1 f.imm))) :=
  traps_issue rfl rfl (Dev.storeW_refused h) hn

theorem traps_ldA {f : ImmF} {n : Nat} (hr : f.rd.toNat < 4)
    (h : s.dev.accessCause c (s.dev.eaImm c f.rs1 f.imm) 8 false = some n)
    (hn : n ≠ 1) : Traps s c (.ldA c f) n (some (BitVec.ofInt 32 (s.dev.eaImm c f.rs1 f.imm))) := by
  have hill : illAccLow f.rd = false := decide_eq_false (by omega)
  have hex : exec (.ldA c f) s = .next (s.withDev (s.dev.issue c (.ldA c f) .both false fun d =>
      d.loadD c (d.eaImm c f.rs1 f.imm) fun d w => .next (d.setA c (accLow f.rd) w))) := by rw [← hill]; rfl
  exact traps_issue hex rfl (Dev.loadD_refused h) hn

/-- Settles O16: a forbidden field by the one rule of illegal words, a foreign instruction by that of profiles, and an
access by the first of its conditions that fails. -/
theorem illegalFieldsAndAccessesTrap : Obligations.IllegalFieldsAndAccessesTrap := by
  refine ⟨fun c f g k s => ⟨fun w hw => ?reserved, fun h => ?sh, fun h => ?rs2, fun h => ?lhi, fun h => ?group, ?spn,
    ?bob⟩, fun c f g s => ?access⟩
  case reserved =>
    have hread : readGwyn c w = .trap c ⟨decReg w, some w⟩ := by rw [readGwyn, hw]; rfl
    rw [hread]
    have hex : exec (.trap c ⟨decReg w, some w⟩) s = .next (s.withDev (s.dev.issue c (.trap c ⟨decReg w, some w⟩) .both
        true fun d => .trap d 2 none)) := by
      have hact : exec (.trap c ⟨decReg w, some w⟩) s = s.act fun d => if (decodeGwyn c w).isNone then
          d.issue c (.trap c ⟨decReg w, some w⟩) .both true fun d => .trap d 2 none else d := rfl
      rw [hact, hw]
      rfl
    exact traps_illegal rfl hex rfl Eff.noJump_trap
  case sh =>
    exact ⟨traps_illegal (decide_eq_true h) rfl rfl Eff.noJump_next,
      traps_illegal (decide_eq_true h) rfl rfl Eff.noJump_next,
      traps_illegal (by simp only [illNone, decide_eq_true h, Bool.true_or]) rfl rfl (Dev.noJump_priv Eff.noJump_stay), traps_illegal_jmpr h⟩
  case rs2 =>
    refine ⟨traps_illegal (decide_eq_true h) rfl rfl Eff.noJump_next,
      traps_illegal (by simp only [illDs, decide_eq_true h, Bool.or_true]) rfl rfl Eff.noJump_next, traps_illegal (by simp only [illNone, decide_eq_true h, Bool.true_or, Bool.or_true]) rfl rfl ?_⟩
    split
    · exact Eff.noJump_stay
    · exact Eff.noJump_next
  case lhi => exact traps_illegal (decide_eq_true h) rfl rfl Eff.noJump_next
  case group =>
    have hp := pairOk_eq_false h
    have hq := quadOk_eq_false h
    exact ⟨traps_illegal (by simp [hp]) rfl rfl Eff.noJump_next,
      traps_illegal (by simp [illPark, hp]) rfl rfl Eff.noJump_next,
      traps_illegal (by simp [hq]) rfl rfl (Dev.noJump_withKinds Eff.noJump_next)⟩
  case spn =>
    rintro p rfl
    exact ⟨traps_foreign rfl rfl rfl rfl (Dev.noJump_loadSub fun _ _ => Eff.noJump_next),
      traps_foreign rfl rfl rfl rfl (Dev.noJump_loadSub fun _ _ => Eff.noJump_next),
      traps_foreign rfl rfl rfl rfl Eff.noJump_stay, traps_foreign rfl rfl rfl rfl Eff.noJump_trap⟩
  case bob =>
    rintro b rfl hk h1 h2 h3
    have hctl : illCtl k = false := by simp [illCtl, nz, hk, h1, h2, h3]
    exact ⟨traps_onSpn hctl rfl, traps_onSpn hctl rfl, traps_onSpn hctl rfl,
      traps_onSpn (by simp [illSlot, nz, hk, h1, h2]) rfl, traps_onSpn (by simp [nz, hk, h1, h2, h3]) rfl⟩
  case access =>
    intro d x y
    refine ⟨fun h => traps_ldW (Dev.accessCause_unaligned h) (by decide),
      fun h hr => traps_ldA hr (Dev.accessCause_unaligned h) (by decide),
      fun h => traps_stW (Dev.accessCause_unaligned h) (by decide),
      fun h h0 => traps_ldW (Dev.accessCause_below h h0) (by decide), ?_, ?_, ?_⟩
    · rintro p rfl h h0
      exact traps_ldW (Dev.accessCause_beyond h h0) (by decide)
    · rintro p rfl h h0
      exact traps_stW (Dev.accessCause_beyond h h0) (by decide)
    · rintro b rfl h h0 h1 hm
      exact traps_stW (Dev.accessCause_protected h h0 h1 hm) (by decide)

end Sys2Proof.Machine
end

section
/-! SUPPORT. The device right after reset (R125, R166, R454). -/

namespace Sys2Proof.Machine

/-- Settles O5: the named registers are evaluated; every list of the reset state is empty, so every unlisted value is
read. -/
theorem resetState : Obligations.ResetState := by
  refine ⟨by decide +kernel, rfl, rfl, rfl, fun _ => rfl, fun c r => ?_, fun c k => ?_, fun c => ?_, fun b => ⟨rfl, rfl⟩,
    fun req => ?_⟩
  · unfold Dev.gv
    split
    · rfl
    · cases c <;> rfl
  · cases c <;> rfl
  · cases c <;> rfl
  · unfold Dev.lockOf
    split <;> rfl

end Sys2Proof.Machine
end

section
/-! SUPPORT. The control instructions (R176 to R188): registers written one after another, and the rules that the
instructions share. -/

namespace Sys2Proof.Machine

variable {s : State} {c : Core} {i : Instr} {ill : Bool} {d : Dev}

/-- What a control instruction may do to its core: its values, accumulators and flags. -/
structure Dev.runsOn (d e : Dev) (c : Core) : Prop where
  alive : e.alive c = d.alive c
  pc : e.pcOf c = d.pcOf c

theorem Dev.runsOn.rfl : d.runsOn d c := ⟨by rfl, by rfl⟩

section
variable {e : Dev} (h : d.runsOn e c)
include h

theorem Dev.runsOn.setV (r : BitVec 5) (w : Word) : d.runsOn (e.setV c r w) c :=
  ⟨(Dev.alive_setV ..).trans h.alive, (Dev.pcOf_setV ..).trans h.pc⟩

theorem Dev.runsOn.setA (a : Nat) (w : DWord) : d.runsOn (e.setA c a w) c :=
  ⟨(Dev.alive_setA ..).trans h.alive, (Dev.pcOf_setA ..).trans h.pc⟩

theorem Dev.runsOn.raiseFlags (m : Word) : d.runsOn (e.raiseFlags c m) c :=
  ⟨(Dev.alive_raiseFlags ..).trans h.alive, (Dev.pcOf_raiseFlags ..).trans h.pc⟩

end

theorem runs_control {g : Dev → Eff} {e : Dev} (hill : ill = false)
    (hex : exec i s = .next (s.withDev (s.dev.issue c i .both ill g))) (hg : g s.dev = .next e)
    (he : s.dev.runsOn e c) : RunsTo s c i e := runs_effect hill hex rfl hg he.alive he.pc

/-- A control instruction that reads coefficient entries which exist and are of their kinds. -/
theorem runs_kinds {g : Dev → Dev} {es : Dev → List (Nat × Nat)} (hill : ill = false)
    (hex : exec i s = .next (s.withDev (s.dev.issue c i .both ill fun d => d.withKinds c (es d) (.next (g d)))))
    (hk : s.dev.kinds c (es s.dev) = true) (he : s.dev.runsOn (g s.dev) c) : RunsTo s c i (g s.dev) :=
  runs_control hill hex (Dev.withKinds_of hk) he

/-- A pair of results. -/
theorem runs_pair {x : Dev → Word × Word × Bool} {rd : BitVec 5} (hill : ill = false)
    (hex : exec i s = .next (s.withDev (s.dev.issue c i .both ill fun d => .next (d.setPair c rd (x d))))) :
    RunsTo s c i (s.dev.setPair c rd (x s.dev)) :=
  runs_control hill hex rfl (((Dev.runsOn.rfl.setV _ _).setV _ _).raiseFlags _)

theorem illPark_eq_false {f : CtlF} (hk : f.k = 0) (h1 : pairOk f.rd = true) (h2 : pairOk f.rs1 = true)
    (h3 : meets f.rd 2 f.rs1 2 = false) (h4 : meets f.rd 2 f.rs2 1 = false) : illPark f = false := by
  simp [illPark, hk, h1, h2, h3, h4]

/-- Settles O23: the four transforms are pairs of results, and svm a group of four under the check of its limit. -/
theorem transforms : Obligations.Transforms := by
  intro c f s d r1 x y th put2 shr
  have hround : ∀ z : Int, shrR z 31 true = shr z := fun z => shrR_round z 30
  have hput : ∀ p q : Int, d.setPair c f.rd (sat2 p q) = put2 p q := fun _ _ => rfl
  refine ⟨fun hk hrd => ⟨fun h1 h2 => ?clarke, fun hr h1 h2 => ?clarke3, fun hr h1 h2 => ⟨?park, ?ipark⟩⟩,
    fun hz hrd hr h1 => ⟨fun hlim => ?svm, fun hlim => ?kind⟩⟩
  case clarke =>
    rw [← hround, ← hput]
    exact runs_pair (x := fun d => clarkeF (d.iv c f.rs1) (d.iv c f.rs2)) (by simp [hk, hrd, h1, h2]) rfl
  case clarke3 =>
    rw [← hround, ← hround, ← hput]
    exact runs_pair (x := fun d => clarke3F (d.iv c f.rs1) (d.iv c f.rs2) (d.iv c (at_ f.rs2 1)))
      (by simp [hk, hrd, hr, h1, h2]) rfl
  case park =>
    rw [← hround, ← hround, ← hput]
    exact runs_pair (x := fun d => parkF (d.iv c f.rs1) (d.iv c (at_ f.rs1 1)) (d.gv c f.rs2).toNat)
      (illPark_eq_false hk hrd hr h1 h2) rfl
  case ipark =>
    rw [← hround, ← hround, ← hput]
    exact runs_pair (x := fun d => iparkF (d.iv c f.rs1) (d.iv c (at_ f.rs1 1)) (d.gv c f.rs2).toNat)
      (illPark_eq_false hk hrd hr h1 h2) rfl
  case svm =>
    intro o
    have hill : (nz f.rs2 || !quadOk f.rd || !pairOk f.rs1 || meets f.rd 4 f.rs1 2) = false := by
      simp [nz, hz, hrd, hr, h1]
    exact runs_control hill rfl (Dev.withKinds_of hlim)
      (((((Dev.runsOn.rfl.setV _ _).setV _ _).setV _ _).setV _ _).raiseFlags _)
  case kind => exact traps_kinds (by simp [nz, hz, hrd, hr, h1]) rfl hlim

/-! ### Comparators and the table (R182, R183) -/

theorem band2F_eq (st e h0 : Int) : band2F st e h0 =
    if max h0 0 < e then 1 else if e < -max h0 0 then 0 else if st = 1 then 1 else 0 := by
  unfold band2F
  dsimp only
  split_ifs <;> omega

theorem band2F_word (st e h0 : Int) : BitVec.ofInt 32 (band2F st e h0) =
    if max h0 0 < e then (1 : Word) else if e < -max h0 0 then 0 else if st = 1 then 1 else 0 := by
  rw [band2F_eq]
  split_ifs <;> rfl

theorem band3F_eq (st e h0 : Int) : band3F st e h0 =
    if max h0 0 < e then 1 else if e < -max h0 0 then -1
      else if st = 1 ∧ 0 ≤ e then 1 else if st = -1 ∧ e ≤ 0 then -1 else 0 := by
  unfold band3F
  dsimp only
  split_ifs <;> omega

theorem band3F_word (st e h0 : Int) : BitVec.ofInt 32 (band3F st e h0) =
    if max h0 0 < e then (1 : Word) else if e < -max h0 0 then 0xFFFFFFFF
      else if st = 1 ∧ 0 ≤ e then 1 else if st = -1 ∧ e ≤ 0 then 0xFFFFFFFF else 0 := by
  rw [band3F_eq]
  split_ifs <;> rfl

theorem entryIndex_of_mem {b off : Int} (h0 : 0 ≤ b + off) (h1 : b + off ≤ 255) :
    entryIndex b off = some (b + off).toNat := if_pos ⟨h0, h1⟩

theorem entryIndex_of_not_mem {b off : Int} (h : b + off < 0 ∨ 255 < b + off) : entryIndex b off = none :=
  if_neg (by omega)

/-- Settles O24: each comparator is one result under the check of its limit; the table's entry is chosen by its index. -/
theorem comparatorsAndTable : Obligations.ComparatorsAndTable := by
  intro c f s d st e h idx
  refine ⟨fun hz hk => ⟨?_, ?_⟩, fun hz hk => ⟨traps_kinds (by simp [nz, hz]) rfl hk, traps_kinds (by simp [nz, hz]) rfl hk⟩,
    fun hr hk => ⟨fun h0 h1 hp => ?entry, fun ho => ?outside⟩⟩
  · rw [← band2F_word]
    exact runs_control (by simp [nz, hz]) rfl (Dev.withKinds_of hk) (Dev.runsOn.rfl.setV _ _)
  · rw [← band3F_word]
    exact runs_control (by simp [nz, hz]) rfl (Dev.withKinds_of hk) (Dev.runsOn.rfl.setV _ _)
  case entry =>
    refine runs_control (by simp [hr]) rfl ((Dev.withKinds_of hk).trans ?_) (Dev.runsOn.rfl.setV _ _)
    have hidx : entryIndex (d.kv c f.k.toNat) (swtabIndex (d.iv c f.rs1) (d.iv c f.rs2) (d.iv c (at_ f.rs2 1))) =
        some idx.toNat := entryIndex_of_mem h0 h1
    rw [hidx]
    exact Dev.withKinds_of hp
  case outside =>
    have hidx : entryIndex (d.kv c f.k.toNat) (swtabIndex (d.iv c f.rs1) (d.iv c f.rs2) (d.iv c (at_ f.rs2 1))) =
        none := entryIndex_of_not_mem ho
    have hill : (!pairOk f.rs2) = false := by simp [hr]
    have hex : exec (.swtab c f) s = .next (s.withDev (s.dev.issue c (.swtab c f) .both false fun d =>
      d.withKinds c [(f.k.toNat, kPtr)]
      (match entryIndex (d.kv c f.k.toNat)
          (swtabIndex (d.iv c f.rs1) (d.iv c f.rs2) (d.iv c (at_ f.rs2 1))) with
        | some e => d.withKinds c [(e, kPlain)] (.next (d.setV c f.rd (BitVec.ofInt 32 (d.kv c e))))
        | none => .trap d 5 none))) := by rw [← hill]; rfl
    refine traps_issue hex rfl ((Dev.withKinds_of hk).trans ?_) (by decide)
    rw [hidx]

end Sys2Proof.Machine
end

section
/-! SUPPORT. Filters, the curve and the observer helpers (R184 to R188). -/

namespace Sys2Proof.Machine

variable {s : State} {c : Core} {i : Instr} {ill : Bool} {d : Dev}

theorem illAccRs2_eq_false {f : CtlF} (h : f.rs2.toNat < 4) : illAccRs2 f = false := decide_eq_false (by omega)

theorem accRs2_of_lt {f : CtlF} (h : f.rs2.toNat < 4) : accRs2 f = f.rs2.toNat := Nat.mod_eq_of_lt h

/-- The rounding shifts by the 16 guard bits and by 31 (R134, R178). -/
theorem shrR_guard (x : Int) : shrR x 16 true = (x + 2 ^ 15) / 2 ^ 16 := shrR_round x 15

theorem shrR_unit (x : Int) : shrR x 31 true = (x + 2 ^ 30) / 2 ^ 31 := shrR_round x 30

/-- The new value of an integrator between its limits, and whether the limits held it or contradict each other (R185). -/
theorem integ_cases (z l h : Int) :
    (if h < l then (h, false, true) else if h < z then (h, true, false) else if z < l then (l, true, false)
      else (z, false, false) : Int × Bool × Bool) =
    (if h < l then h else if h < z then h else if z < l then l else z,
      decide (l ≤ h ∧ (h < z ∨ z < l)), decide (h < l)) := by
  split_ifs <;> simp <;> omega

theorem integF_eq (x ad : Int) (ki lo hi : DWord) :
    let z := ad + pgK ki x
    let l := kValue lo * 2 ^ 16
    let h := kValue hi * 2 ^ 16
    let r := if h < l then h else if h < z then h else if z < l then l else z
    integF x ad ki lo hi = ⟨BitVec.ofInt 32 ((r + 2 ^ 15) / 2 ^ 16), BitVec.ofInt 64 r,
      decide (l ≤ h ∧ (h < z ∨ z < l)), decide (h < l)⟩ := by
  intro z l h r
  have hlt : kValue hi < kValue lo ↔ kValue hi * 2 ^ 16 < kValue lo * 2 ^ 16 := by omega
  unfold integF
  simp only [hlt, integ_cases, shrR_guard]
  rfl

theorem flagsIf_decide (p : Prop) [Decidable p] (m : Word) : flagsIf (decide p) m = if p then m else 0 := by
  simp [flagsIf]

theorem at_zero (r : BitVec 5) : at_ r 0 = r := BitVec.add_zero r

theorem traps_effect {prof : Profile} {f : Dev → Eff} {n : Nat} {ea : Option Word} (hill : ill = false)
    (hex : exec i s = .next (s.withDev (s.dev.issue c i prof ill f))) (hp : prof.has c = true)
    (hf : f s.dev = .trap s.dev n ea) (hn : n ≠ 1) : Traps s c i n ea := by
  subst hill
  exact traps_issue hex hp hf hn

/-- What obs.pll writes of its outcome (R188). -/
def Dev.pllStep (d : Dev) (c : Core) (f : CtlF) (x : PllOut) : Dev :=
  (((d.setV c f.rd x.theta).setV c (at_ f.rd 1) x.omega).setA c (accRs2 f) x.ad).raiseFlags c
    (flagsIf x.vsat fVSAT ||| flagsIf x.asat fASAT)

/-- Settles O25: the functions of the filters, of the curve and of the observers are written out; each instruction is
one result under the check of its entries. -/
theorem filtersCurveObservers : Obligations.FiltersCurveObservers := by
  refine ⟨fun c f s => ?_, fun c f s => ?_⟩
  · intro d n a x k plain
    refine ⟨fun ha hk => ?biq, fun ha hk => ?integ, fun hz hk h0 h1 hp => ?lut, fun hz hk h0 => ?outside⟩
    case biq =>
      intro y s1 s2
      have h4 : a < 4 := by omega
      have hacc : accRs2 f = a := accRs2_of_lt h4
      have heven : accRs2 f % 2 = 0 := by rw [hacc]; omega
      have hill : (illAccRs2 f || decide (accRs2 f % 2 ≠ 0)) = false := by simp [illAccRs2_eq_false h4, heven]
      have hy : y = sat32 (shrR (d.ia c (accRs2 f) + pgK (k 0) x) 16 true) := by rw [hacc, shrR_round]
      simp only [s1, s2, hy, ← hacc]
      exact runs_control hill rfl (Dev.withKinds_of hk)
        ((((Dev.runsOn.rfl.setV _ _).setA _ _).setA _ _).raiseFlags _)
    case integ =>
      intro z lo hi r
      have hacc : accRs2 f = a := accRs2_of_lt ha
      have hk' : d.kinds c (entries f.k.toNat [kPlain, kLimit, kLimit]) = true := hk
      have hex : exec (.integ c f) s = .next (s.withDev (s.dev.issue c (.integ c f) .both (illAccRs2 f) fun d =>
          let y := integF (d.iv c f.rs1) (d.ia c (accRs2 f)) (d.kOf c f.k.toNat) (d.kOf c (f.k.toNat + 1))
            (d.kOf c (f.k.toNat + 2))
          d.withKinds c (entries f.k.toNat [kPlain, kLimit, kLimit])
            (.next (((d.setV c f.rd y.vd).setA c (accRs2 f) y.ad).raiseFlags c
              (flagsIf y.isat fISAT ||| flagsIf y.ilim fILIM))))) := rfl
      simp only [hacc, integF_eq, flagsIf_decide] at hex
      exact runs_control (illAccRs2_eq_false ha) hex (Dev.withKinds_of hk)
        (((Dev.runsOn.rfl.setV _ _).setA _ _).raiseFlags _)
    case lut =>
      intro b y
      have hidx : entryIndex (d.kv c n) 0 = some b := by
        rw [entryIndex_of_mem (by omega) (by omega), Int.add_zero]
      refine runs_control (decide_eq_false (not_not_intro hz)) rfl ((Dev.withKinds_of hk).trans ?_)
        ((Dev.runsOn.rfl.setV _ _).raiseFlags _)
      rw [hidx]
      exact Dev.withKinds_of hp
    case outside =>
      have hidx : entryIndex (d.kv c n) 0 = none := entryIndex_of_not_mem (by omega)
      refine traps_effect (decide_eq_false (not_not_intro hz)) rfl rfl ((Dev.withKinds_of hk).trans ?_) (by decide)
      rw [hidx]
  · intro d n k r m
    refine ⟨fun hr1 hr2 hm1 hm2 hm3 hk => ?emf, fun ha hr1 hr2 hm1 hk => ?pll⟩
    case emf =>
      intro ra rb x1 x2 x3 x4 x5
      have h0 : ∀ r : BitVec 5, d.iv c (r + 0) = d.iv c r := fun r => congrArg (d.iv c) (BitVec.add_zero r)
      have hill : (!quadOk f.rd || !quadOk f.rs1 || meets f.rd 4 f.rs1 4 || meets f.rd 4 f.rs2 1 || meets f.rs1 4 f.rs2 1) =
          false := by simp [hr1, hr2, hm1, hm2, hm3]
      exact runs_control hill rfl (Dev.withKinds_of hk)
        ((((((Dev.runsOn.rfl.setV _ _).setV _ _).setV _ _).setV _ _).setV _ _).raiseFlags _)
    case pll =>
      intro th ep ad om
      have hill : (illAccRs2 f || !pairOk f.rd || !pairOk f.rs1 || meets f.rd 2 f.rs1 2) = false := by
        simp [illAccRs2_eq_false ha, hr1, hr2, hm1]
      have hacc : accRs2 f = f.rs2.toNat := accRs2_of_lt ha
      have hz : d.iv c f.rs1 = m 0 := congrArg (d.iv c) (BitVec.add_zero f.rs1).symm
      have hpll : pllF th (d.iv c f.rs1) (d.iv c (at_ f.rs1 1)) (d.ia c (accRs2 f)) (k 0) (k 1) (k 2) =
          ⟨BitVec.ofInt 32 ((th : Int) + pK (k 2) om.1.toInt), om.1, ad.1, ep.2 || om.2, ad.2⟩ := by
        simp only [pllF, shrR_unit, shrR_guard, hacc, hz]
        rfl
      refine runs_control hill rfl ((Dev.withKinds_of hk).trans (congrArg Eff.next ?_))
        ((((Dev.runsOn.rfl.setV _ _).setV _ _).setA _ _).raiseFlags _)
      change d.pllStep c f (pllF th (d.iv c f.rs1) (d.iv c (at_ f.rs1 1)) (d.ia c (accRs2 f)) (k 0) (k 1) (k 2)) = _
      rw [hpll, Dev.pllStep, hacc]
      rfl

end Sys2Proof.Machine
end

section
/-! SUPPORT. The system instructions of a Bobbin and its events (R155, R164 to R174). -/

namespace Sys2Proof.Machine

variable {s : State} {b : Fin 3} {i : Instr} {ill : Bool} {g : Dev → Eff} {e : Eff} {d : Dev}

/-! ### CSR words (R165, R174) -/

section
variable (op : BitVec 2) (n : BitVec 8) (rs1 rd : BitVec 5)

theorem cregOf_csrWord : cregOf ⟨op ++ 0#6 ++ n, rs1, rd⟩ = n.toNat := by
  have := n.isLt
  simp only [cregOf, toNat_append_eq, BitVec.toNat_ofNat]
  omega

theorem illCsr_csrWord (w : Bool) : illCsr ⟨op ++ 0#6 ++ n, rs1, rd⟩ op.toNat w =
    (!cregOk n.toNat || (w && cregRo n.toNat) || if w then nz rd else nz rs1) := by
  have h : (op ++ 0#6 ++ n).toNat / 256 = 64 * op.toNat := by
    have := n.isLt
    simp only [toNat_append_eq, BitVec.toNat_ofNat]
    omega
  have hop : decide ((op ++ 0#6 ++ n).toNat / 256 ≠ 64 * op.toNat) = false := decide_eq_false (not_not_intro h)
  simp only [illCsr, cregOf_csrWord, hop, Bool.false_or]

end

/-! ### Privilege (R164) -/

theorem Dev.priv_sup (h : bitOf (d.csr b 0) 0 = true) : d.priv (.bob b) e = e := if_pos h

theorem Dev.priv_user (h : bitOf (d.csr b 0) 0 = false) : d.priv (.bob b) e = .trap d 4 none :=
  if_neg (by simp [Dev.sup, h])

section
variable (hill : ill = false)
  (hex : exec i s = .next (s.withDev (s.dev.issue (.bob b) i .s ill fun d => d.priv (.bob b) (g d))))
include hill hex

theorem traps_priv (h : bitOf (s.dev.csr b 0) 0 = false) : Traps s (.bob b) i 4 none :=
  traps_effect hill hex rfl (Dev.priv_user h) (by decide)

theorem runs_priv {x : Dev} (h : bitOf (s.dev.csr b 0) 0 = true) (hg : g s.dev = .next x)
    (hx : s.dev.runsOn x (.bob b)) : RunsTo s (.bob b) i x :=
  runs_effect hill hex rfl ((Dev.priv_sup h).trans hg) hx.alive hx.pc

theorem stays_priv {x : Dev} (h : bitOf (s.dev.csr b 0) 0 = true) (hg : g s.dev = .stay x)
    (hx : s.dev.executes (.bob b) i) : exec i s = .next (s.withDev x) := by
  subst hill
  rw [hex, Dev.issue_stay hx rfl ((Dev.priv_sup h).trans hg)]

end

theorem Dev.runsOn_writeCreg (n : Nat) (w : Word) : d.runsOn (d.writeCreg b n w) (.bob b) := by
  unfold Dev.writeCreg
  constructor
  · dsimp only
    split <;> simp [Dev.alive, Dev.setCsr, Dev.modBob]
  · dsimp only
    split <;> simp [Dev.pcOf, Dev.setCsr, Dev.modBob]

/-- The status word that eret leaves (R167). -/
def returnStatus (st : Word) : Word := putBit (putBit (putBit st 0 (bitOf st 2)) 1 (bitOf st 3)) 5 false

theorem bitOf_returnStatus (st : Word) (k : Nat) : bitOf (returnStatus st) k =
    if k = 5 then false else if k = 1 then bitOf st 3 else if k = 0 then bitOf st 2 else bitOf st k := by
  simp only [returnStatus, bitOf_putBit, Nat.reduceLT]

/-- What eret does (R167). -/
def Dev.returned (d : Dev) (b : Fin 3) : Dev := (d.setCsr b 0 (returnStatus (d.csr b 0))).setPc (.bob b) (d.csr b 1)

theorem Dev.csr_returned (k : Nat) :
    (d.returned b).csr b k = if k = 0 then returnStatus (d.csr b 0) else d.csr b k :=
  (Dev.csr_modBob (by intro x; rfl) k).trans (Dev.csr_setCsr ..)

theorem Dev.gv_setCsr (n : Nat) (w : Word) (c : Core) (q : BitVec 5) : (d.setCsr b n w).gv c q = d.gv c q := by
  cases c with
  | spn p => rfl
  | bob k =>
    simp only [Dev.gv, Dev.setCsr, Dev.modBob, Dev.bob_setBob]
    split
    · rfl
    · split <;> simp_all

theorem Dev.gv_returned (q : BitVec 5) : (d.returned b).gv (.bob b) q = d.gv (.bob b) q :=
  (Dev.gv_setPc ..).trans (Dev.gv_setCsr ..)

/-- The code of a trap instruction's word (R164). -/
theorem trapCode (z : RegF) : bitsOf (encReg 0x3C 0x01 z) 19 12 = z.sh.toNat * 8 + z.rs2.toNat / 4 := by
  have h1 := z.sh.isLt
  have h2 := z.rs2.isLt
  have h3 := z.rs1.isLt
  have h4 := z.rd.isLt
  simp only [bitsOf, encReg, toNat_append_eq, BitVec.toNat_ofNat, Nat.shiftRight_eq_div_pow]
  omega

theorem Dev.gv_trapEntry (epc cause tval : Word) (q : BitVec 5) :
    (d.trapEntry b epc cause tval).gv (.bob b) q = d.gv (.bob b) q := by
  unfold Dev.trapEntry
  simp only [Dev.gv, Dev.setCsr, Dev.modBob, Dev.bob_setBob_same]

theorem Dev.irqLine_isSome_eq {n : Nat} (h : d.irqLine b = some n) : (d.irqLine b).isSome = true := by rw [h]; rfl

/-- A trap entry whose tval the manual leaves open. -/
def Dev.freeTrap (d : Dev) (b : Fin 3) (cause : Word) : Dev :=
  { d with freeCtr := d.freeCtr + 1 }.trapEntry b (d.bob b).pc cause (Config.freeWord d.freeCtr)

/-- A Bobbin that has entered its handler for a cause (R167). -/
structure Dev.entered (d e : Dev) (b : Fin 3) (cause : Word) : Prop where
  epc : e.csr b 1 = (d.bob b).pc
  cause : e.csr b 2 = cause
  status : ∀ k, bitOf (e.csr b 0) k = bitOf (handlerStatus (d.csr b 0)) k
  pc : (e.bob b).pc = d.csr b 4 &&& 0xFFFFFF00
  values : ∀ q, e.gv (.bob b) q = d.gv (.bob b) q
  keeps : d.keeps e []

theorem Dev.entered_trapEntry (cause tval : Word) :
    d.entered (d.trapEntry b (d.bob b).pc cause tval) b cause where
  epc := by simp [Dev.csr_trapEntry]
  cause := by simp [Dev.csr_trapEntry]
  status k := by simp [Dev.csr_trapEntry]
  pc := Dev.pc_trapEntry ..
  values _ := Dev.gv_trapEntry ..
  keeps := Dev.keeps_trapEntry ..

theorem Dev.entered_freeTrap (cause : Word) : d.entered (d.freeTrap b cause) b cause :=
  have h := Dev.entered_trapEntry (d := { d with freeCtr := d.freeCtr + 1 }) (b := b) cause (Config.freeWord d.freeCtr)
  ⟨h.epc, h.cause, h.status, h.pc, h.values, h.keeps⟩

/-- Settles O21: each instruction under its privilege, with its fields read off the word; eret and trap by the control
registers they leave. -/
theorem systemInstructions : Obligations.SystemInstructions := by
  intro b n r z s d c st v x none_ mf wr
  have hmf : cregOf mf = n.toNat := cregOf_csrWord 0 n 0 r
  have hmfIll : illCsr mf 0 false = !cregOk n.toNat := (illCsr_csrWord 0 n 0 r false).trans (by simp [nz])
  have hwr : ∀ op, cregOf (wr op) = n.toNat := fun op => cregOf_csrWord op n r 0
  have hwrIll : ∀ op : BitVec 2, illCsr (wr op) op.toNat true = (!cregOk n.toNat || cregRo n.toNat) := fun op =>
    (illCsr_csrWord op n r 0 true).trans (by simp [nz])
  refine ⟨fun hs hok => ⟨?mfc, fun hro => ⟨?mtc, ?setc, ?clrc⟩, fun hro => ?readOnly⟩, fun hok => ⟨?mfcNone, ?mtcNone⟩,
    fun hs hx => ?eret, fun hs hl => ?wfiOn, fun hs hl hx => ?wfiStands, fun hu => ⟨?eretUser, ?wfiUser, fun hok => ?mfcUser,
    fun hok hro => ?mtcUser⟩, fun h2 h1 h0 ht hx => ?trap⟩
  case mfc =>
    have hill : illCsr mf 0 false = false := by rw [hmfIll, hok]; rfl
    simp only [v, ← hmf]
    exact runs_priv hill rfl hs rfl (Dev.runsOn.rfl.setV _ _)
  case mtc =>
    have hill : illCsr (wr 1) 1 true = false := (hwrIll 1).trans (by rw [hok, hro]; rfl)
    rw [← hwr 1]
    exact runs_priv hill rfl hs rfl (Dev.runsOn_writeCreg _ _)
  case setc =>
    have hill : illCsr (wr 2) 2 true = false := (hwrIll 2).trans (by rw [hok, hro]; rfl)
    simp only [v, ← hwr 2]
    exact runs_priv hill rfl hs rfl (Dev.runsOn_writeCreg _ _)
  case clrc =>
    have hill : illCsr (wr 3) 3 true = false := (hwrIll 3).trans (by rw [hok, hro]; rfl)
    simp only [v, ← hwr 3]
    exact runs_priv hill rfl hs rfl (Dev.runsOn_writeCreg _ _)
  case readOnly =>
    exact traps_illegal ((hwrIll 1).trans (by rw [hro, Bool.or_true])) rfl rfl (Dev.noJump_priv Eff.noJump_next)
  case mfcNone => exact traps_illegal (by rw [hmfIll, hok]; rfl) rfl rfl (Dev.noJump_priv Eff.noJump_next)
  case mtcNone =>
    exact traps_illegal ((hwrIll 1).trans (by rw [hok]; rfl)) rfl rfl (Dev.noJump_priv Eff.noJump_next)
  case eret =>
    have hret : exec (.eret c none_) s = .next (s.withDev (d.returned b)) :=
      stays_priv (ill := illNone none_) rfl rfl hs rfl hx
    refine ⟨_, hret, rfl, Dev.pcOf_setPc _ c _, ?_, ?_, ?_, ?_, fun k hk => ?_, Dev.gv_returned, ?_⟩
    · simp [Dev.csr_returned, bitOf_returnStatus, st]
    · simp [Dev.csr_returned, bitOf_returnStatus, st]
    · simp [Dev.csr_returned, bitOf_returnStatus]
    · simp [Dev.csr_returned, bitOf_returnStatus, st]
    · simp [Dev.csr_returned, hk]
    · exact Dev.keeps_of_eq rfl rfl
  case wfiOn => exact runs_priv (ill := illNone none_) rfl rfl hs (if_pos hl) Dev.runsOn.rfl
  case wfiStands =>
    have hl' : s.dev.irqLine b = none := hl
    exact stays_priv (ill := illNone none_) rfl rfl hs (if_neg (by simp [hl'])) hx
  case eretUser => exact traps_priv (ill := illNone none_) rfl rfl hu
  case wfiUser => exact traps_priv (ill := illNone none_) rfl rfl hu
  case mfcUser => exact traps_priv (by rw [hmfIll, hok]; rfl) rfl hu
  case mtcUser => exact traps_priv ((hwrIll 1).trans (by rw [hok, hro]; rfl)) rfl hu
  case trap =>
    have hill : (decide (z.rs2.toNat % 4 ≠ 0) || nz z.rs1 || nz z.rd) = false := by simp [nz, h2, h1, h0]
    have hex : exec (.trap c ⟨z, none⟩) s = .next (s.withDev (d.issue c (.trap c ⟨z, none⟩) .s false
        fun d => .trap d 0xD none)) := by rw [← hill]; rfl
    have hcode : BitVec.ofNat 32 ((z.sh.toNat * 8 + z.rs2.toNat / 4) * 256 + 0xD) =
        BitVec.ofNat 32 (bitsOf (encReg 0x3C 0x01 z) 19 12 * 256 + 0xD) := by rw [trapCode]
    rw [Dev.issue_trap hx rfl rfl (by decide)] at hex
    have htrap : d.takeTrap c (encReg 0x3C 0x01 z) 0xD none = d.freeTrap b
        (BitVec.ofNat 32 (bitsOf (encReg 0x3C 0x01 z) 19 12 * 256 + 0xD)) := if_neg (ne_true_of_eq_false ht)
    rw [hcode]
    have h := Dev.entered_freeTrap (d := d) (b := b) (BitVec.ofNat 32 (bitsOf (encReg 0x3C 0x01 z) 19 12 * 256 + 0xD))
    refine ⟨_, hex.trans (congrArg (fun e => Host.Outcome.next (s.withDev e)) htrap), rfl, h.epc, h.cause, ?_, ?_, h.pc, h.values, h.keeps⟩
    · exact (h.status 0).trans (by simp [bitOf_handlerStatus])
    · exact (h.status 2).trans (by simp [bitOf_handlerStatus, st])

/-! ### Events (R155, R169 to R171) -/

theorem Gives.of_next {P : Dev → Prop} {x : Dev} (h : exec i s = .next (s.withDev x)) (hp : P x) : Gives i s P :=
  ⟨_, h, rfl, hp⟩

/-- The first refused store of a Bobbin taken off its list. -/
def Dev.dropRefused (d : Dev) (b : Fin 3) (rest : List Refused) : Dev :=
  d.modBob b fun x => { x with refused := rest }

theorem Dev.csr_dropRefused (rest : List Refused) (k : Nat) : (d.dropRefused b rest).csr b k = d.csr b k :=
  Dev.csr_modBob (by intro x; rfl) k

theorem Dev.bob_dropRefused (rest : List Refused) :
    (d.dropRefused b rest).bob b = { d.bob b with refused := rest } := Dev.bob_setBob_same ..

theorem Dev.keeps_modBob (g : Bobbin → Bobbin) : d.keeps (d.modBob b g) [] := Dev.keeps_of_eq rfl rfl

theorem Dev.refused_trapEntry (epc cause tval : Word) :
    ((d.trapEntry b epc cause tval).bob b).refused = (d.bob b).refused := by
  simp [Dev.trapEntry, Dev.modBob, Dev.setCsr]

theorem exec_wfiResume : exec (.wfiResume b) s = s.run fun d =>
    if d.clocked && (d.bob b).running && (d.bob b).wfi && (d.irqLine b).isSome then
      (d.modBob b fun x => { x with wfi := false }).setPc (.bob b) ((d.bob b).pc + 4)
    else d := rfl

theorem exec_interruptEntry : exec (.interruptEntry b) s = s.run fun d =>
    if d.free (.bob b) && (d.bob b).refused.isEmpty && d.ie b then
      match d.irqLine b with
      | some n => d.freeTrap b (BitVec.ofNat 32 (0x80000000 + n))
      | none => d
    else d := rfl

theorem exec_coreTimerMatch : exec (.coreTimerMatch b) s = s.run fun d =>
    if (d.bob b).cycle % 2 ^ 32 = (d.csr b 7).toNat then d.modBob b fun x => { x with timer := true } else d := rfl

theorem exec_postedStoreRefusal : exec (.postedStoreRefusal (.bob b)) s = s.run fun d =>
    match (d.bob b).refused with
    | [] => d
    | r :: rest =>
      if d.free (.bob b) then
        (d.dropRefused b rest).bobTrap b (d.bob b).pc (0x40000000 ||| BitVec.ofNat 32 r.cause) (some r.ea)
      else d := rfl

theorem Dev.clocked_of_free {c : Core} (h : d.free c = true) : d.clocked = true := by
  simp only [Dev.free, Bool.and_eq_true] at h
  exact h.1

/-- POSTED_STORE_REFUSAL at a Bobbin that stands at a boundary outside a handler (R155). -/
theorem postedStoreRefusal_taken {r : Refused} {rest : List Refused} (hr : (s.dev.bob b).refused = r :: rest)
    (hf : s.dev.free (.bob b) = true) (ht : s.dev.trp b = false) :
    exec (.postedStoreRefusal (.bob b)) s = .next (s.withDev ((s.dev.dropRefused b rest).trapEntry b (s.dev.bob b).pc
      (0x40000000 ||| BitVec.ofNat 32 r.cause) r.ea)) := by
  have ht' : (s.dev.dropRefused b rest).trp b = false := by rw [Dev.trp, Dev.csr_dropRefused]; exact ht
  rw [exec_postedStoreRefusal, State.run, State.act_eq, if_pos (Dev.clocked_of_free hf)]
  simp only [hr, hf, if_true]
  exact congrArg (fun e => Host.Outcome.next (s.withDev e)) (Dev.bobTrap_entry ht')

/-- Settles O22: each event under its condition; interrupts and refused stores by the control registers of the trap
entry. -/
theorem bobbinEvents : Obligations.BobbinEvents := by
  intro b n s d c
  refine ⟨fun hf hr hie hl => ?interrupt, fun hie => ?masked, fun hc hrun hw hl => ?resume, fun hl => ?sleeps,
    fun hc ht => ?timer, fun r rest hr hf ht => ?refused⟩
  case interrupt =>
    have hirq : exec (.interruptEntry b) s = .next (s.withDev (d.freeTrap b (BitVec.ofNat 32 (0x80000000 + n)))) := by
      have hcond : (s.dev.free (.bob b) && (s.dev.bob b).refused.isEmpty && s.dev.ie b) = true := by
        simp only [Bool.and_eq_true]
        exact ⟨⟨hf, List.isEmpty_iff.mpr hr⟩, hie⟩
      have hl' : s.dev.irqLine b = some n := hl
      rw [exec_interruptEntry, State.run, State.act_eq, if_pos (Dev.clocked_of_free hf), if_pos hcond, hl']
    have h := Dev.entered_freeTrap (d := d) (b := b) (BitVec.ofNat 32 (0x80000000 + n))
    refine ⟨_, hirq, rfl, h.epc, h.cause, h.pc, ?_, ?_, ?_, ?_, h.values, h.keeps⟩
    · exact (h.status 0).trans (by simp [bitOf_handlerStatus])
    · exact (h.status 1).trans (by simp [bitOf_handlerStatus])
    · exact (h.status 3).trans (by simp [bitOf_handlerStatus, hie])
    · exact (h.status 5).trans (by simp [bitOf_handlerStatus])
  case masked =>
    refine exec_idle_of_run exec_interruptEntry (if_neg ?_)
    simp only [Bool.and_eq_true, not_and]
    exact fun _ => ne_true_of_eq_false hie
  case resume =>
    have hcond : (s.dev.clocked && (s.dev.bob b).running && (s.dev.bob b).wfi && (s.dev.irqLine b).isSome) = true := by
      simp only [Bool.and_eq_true]
      exact ⟨⟨⟨hc, hrun⟩, hw⟩, Dev.irqLine_isSome_eq hl⟩
    refine .of_run exec_wfiResume hc ?_
    rw [if_pos hcond]
    refine ⟨?_, Dev.pcOf_setPc _ c _, fun q => ?_, Dev.keeps_of_eq rfl rfl⟩
    · simp [Dev.setPc, Dev.modBob]
    · refine (Dev.gv_setPc ..).trans ?_
      simp [Dev.gv, Dev.modBob, d, c]
  case sleeps =>
    have hl' : s.dev.irqLine b = none := hl
    exact exec_idle_of_run exec_wfiResume (if_neg (by simp [hl']))
  case timer =>
    rw [exec_eq_of_run exec_coreTimerMatch hc, if_pos ht]
  case refused =>
    have h := Dev.keeps_trapEntry (d := d.dropRefused b rest) (b := b) (d.bob b).pc
      (0x40000000 ||| BitVec.ofNat 32 r.cause) r.ea
    refine .of_next (postedStoreRefusal_taken hr hf ht) ⟨?_, ?_, ?_, ?_, ?_, ?_⟩
    · simp [Dev.csr_trapEntry, d]
    · simp [Dev.csr_trapEntry]
    · simp [Dev.csr_trapEntry]
    · exact (Dev.refused_trapEntry ..).trans (by rw [Dev.bob_dropRefused])
    · exact (Dev.pc_trapEntry ..).trans (by rw [Dev.csr_dropRefused])
    · exact h

end Sys2Proof.Machine
end

section
/-! SUPPORT. Accesses of the Skein where no draw is raised (R42, R56, R255): a load and a store have their turn at once,
and the prefetches that a store calls for leave every byte and every core as they are. -/

namespace Sys2Proof.Machine

variable {d e f : Dev} {c : Core} {b : Fin 3} {s : State} {a n req cls bank : Nat} {bs : List Byte}

/-! ### The raised draws stand -/

theorem Dev.foldl_stands {α β : Type} (g : Dev → β) {f : Dev → α → Dev} (h : ∀ e x, g (f e x) = g e) (xs : List α) :
    ∀ d : Dev, g (xs.foldl f d) = g d := by
  induction xs with
  | nil => exact fun _ => rfl
  | cons x xs ih => exact fun d => (ih _).trans (h d x)

/-- Two devices that differ only as an access of the Skein may make them differ, with the same draws raised. -/
structure Dev.skCalm (d e : Dev) : Prop extends Dev.skNear d e where
  draws : e.sk.draws = d.sk.draws

theorem Dev.skCalm.rfl : d.skCalm d := ⟨.rfl, by rfl⟩

theorem Dev.skCalm.trans (h : d.skCalm e) (k : e.skCalm f) : d.skCalm f := ⟨h.1.trans k.1, k.draws.trans h.draws⟩

theorem Dev.skCalm.drawsOf (h : d.skCalm e) (bank : Nat) : e.drawsOf bank = d.drawsOf bank := by
  unfold Dev.drawsOf
  rw [h.draws]

theorem Dev.skCalm.quiet (h : d.skCalm e) (hq : d.quiet) : e.quiet := fun b => (h.drawsOf b).trans (hq b)

theorem Dev.draws_checkWord : (d.checkWord a).1.sk.draws = d.sk.draws := by
  unfold Dev.checkWord
  split
  · rfl
  · simp [Dev.noteCe, Dev.setEcc, Dev.incFld, Dev.setRbit, Dev.setFld]
  all_goals simp [Dev.noteUe, Dev.setRbit, Dev.when]

theorem Dev.skCalm_checkWord : d.skCalm (d.checkWord a).1 := ⟨Dev.skNear_checkWord d a, Dev.draws_checkWord⟩

theorem Dev.skCalm_checkWords (a n : Nat) : d.skCalm (d.checkWords a n).1 := by
  induction n generalizing d a with
  | zero => exact .rfl
  | succ n ih => exact Dev.skCalm_checkWord.trans (ih _)

theorem Dev.skCalm_noteGrant : d.skCalm (d.noteGrant bank cls req) := ⟨Dev.skNear_noteGrant .., by rfl⟩

theorem Dev.skCalm_setStatus (st : DrawStatus) : d.skCalm (d.setStatus req st) := ⟨Dev.skNear_setStatus .., by rfl⟩

theorem Dev.skCalm_modWhorl (n : Nat) (g : Whorl → Whorl) : d.skCalm (d.modWhorl n g) := ⟨.ofWhorl n _, by rfl⟩

theorem Dev.draws_slotNotices : (d.slotNotices a n).sk.draws = d.sk.draws := by
  refine Dev.foldl_stands (fun d : Dev => d.sk.draws) (fun e i => ?_) _ d
  dsimp only
  split <;> rfl

theorem Dev.draws_liveUpdate (k : Nat) (h : Hank) : (d.liveUpdate k h a n).sk.draws = d.sk.draws := by
  refine Dev.foldl_stands (fun d : Dev => d.sk.draws) (fun e p => ?_) _ d
  split
  · refine Dev.foldl_stands (fun d : Dev => d.sk.draws) (fun e i => ?_) _ e
    split <;> rfl
  · rfl

theorem Dev.draws_afterWrite : (d.afterWrite a n).sk.draws = d.sk.draws := by
  unfold Dev.afterWrite
  split
  · split
    · exact Dev.draws_slotNotices
    · split
      · exact Dev.draws_liveUpdate ..
      · rfl
  · rfl

theorem Dev.draws_clearMarks : (d.clearMarks req a n).sk.draws = d.sk.draws := by
  refine Dev.foldl_stands (fun d : Dev => d.sk.draws) (fun e l => ?_) _ d
  split <;> rfl

theorem Dev.draws_setBytes (a : Nat) : (d.setBytes a bs).sk.draws = d.sk.draws := by
  induction bs generalizing d a with
  | nil => rfl
  | cons b bs ih => exact ih _

theorem Dev.draws_writeBytes : (d.writeBytes req a bs).sk.draws = (d.setBytes a bs).sk.draws := by
  unfold Dev.writeBytes
  rw [Dev.draws_afterWrite, Dev.draws_clearMarks]
  refine Dev.foldl_stands (fun d : Dev => d.sk.draws) (fun e i => ?_) _ _
  dsimp only
  split <;> rfl

theorem Dev.skCalm_writeBytes : (d.setBytes a bs).skCalm (d.writeBytes req a bs) :=
  ⟨Dev.skNear_writeBytes .., Dev.draws_writeBytes⟩

/-! ### A load has its turn at once -/

theorem Dev.loadAt_calm (hq : d.drawsOf (bankOf a) = []) :
    d.skCalm (d.loadAt req cls a n).1 ∧ (d.loadAt req cls a n).2.1 ≠ .wait := by
  unfold Dev.loadAt
  split
  · exact ⟨Dev.skCalm_setStatus _, by simp⟩
  split
  · exact ⟨Dev.skCalm_setStatus _, by simp⟩
  split
  · exact ⟨Dev.skCalm_setStatus _, by simp⟩
  rw [Dev.clearWay_idle d _ _ _ hq]
  have hread := Dev.skCalm_noteGrant.trans (Dev.skCalm_checkWords (d := d.noteGrant (bankOf a) cls req) a (wordsIn a n))
  simp only [if_true]
  split
  all_goals exact ⟨hread.trans (Dev.skCalm_setStatus _), by simp⟩

/-- A device that an access has passed through: the requester has the last grant and its status. -/
def Dev.granted (d : Dev) (req cls a : Nat) (st : DrawStatus) : Dev := (d.noteGrant (bankOf a) cls req).setStatus req st

theorem Dev.skCalm_granted (st : DrawStatus) : d.skCalm (d.granted req cls a st) :=
  Dev.skCalm_noteGrant.trans (Dev.skCalm_setStatus st)

theorem Dev.checkWords_good (a n : Nat) (h : ∀ i < n, d.ecc (a + 4 * i) = .good) : d.checkWords a n = (d, true) := by
  induction n generalizing a with
  | zero => rfl
  | succ n ih =>
    have h0 : d.checkWord a = (d, true) := by
      have h0 := h 0 (Nat.succ_pos n)
      rw [Nat.mul_zero, Nat.add_zero] at h0
      simp [Dev.checkWord, h0]
    have hrest := ih (a + 4) fun i hi => by
      rw [show a + 4 + 4 * i = a + 4 * (i + 1) by omega]
      exact h (i + 1) (Nat.succ_lt_succ hi)
    simp [Dev.checkWords, h0, hrest]

/-- A load of good words through an open port: the mark of a broken line shows in its status alone. -/
theorem Dev.load_read (hq : d.drawsOf (bankOf a) = []) (hcut : d.isCut req = false) (hend : a + n ≤ 0x1000000)
    (hbank : bankOf a = bankOf (a + n - 1)) (hecc : ∀ i < wordsIn a n, d.ecc (a + 4 * i) = .good) :
    d.load req cls a n =
      (d.granted req cls a (if d.anyBroken a n then .lockbrk else .ok), .done (d.anyBroken a n), d.bytes a n) := by
  have hcheck : (d.noteGrant (bankOf a) cls req).checkWords a (wordsIn a n) = (d.noteGrant (bankOf a) cls req, true) :=
    Dev.checkWords_good a _ hecc
  have hread : d.loadAt req cls a n =
      (d.granted req cls a (if d.anyBroken a n then .lockbrk else .ok), .done (d.anyBroken a n), d.bytes a n) := by
    unfold Dev.loadAt
    rw [if_neg (by simp [hcut]), if_neg (by omega), if_neg (not_not_intro hbank), Dev.clearWay_idle d _ _ _ hq]
    simp only [hcheck, if_true]
    rfl
  unfold Dev.load
  rw [hq, hread]
  rfl

/-- A load whose every condition is met: its bytes, and nothing beside the grant and the status. -/
theorem Dev.load_plain (hq : d.drawsOf (bankOf a) = []) (hcut : d.isCut req = false) (hend : a + n ≤ 0x1000000)
    (hbank : bankOf a = bankOf (a + n - 1)) (hecc : ∀ i < wordsIn a n, d.ecc (a + 4 * i) = .good)
    (hbroken : d.anyBroken a n = false) :
    d.load req cls a n = (d.granted req cls a .ok, .done false, d.bytes a n) := by
  rw [Dev.load_read hq hcut hend hbank hecc, hbroken, if_neg Bool.false_ne_true]

/-! ### A store has its turn at once -/

theorem Dev.prefetch_calm (hq : d.quiet) (n : Nat) : d.skCalm (d.prefetch n) := by
  unfold Dev.prefetch
  have h0 := Dev.skCalm_modWhorl (d := d) n fun w => { w with notice := false }
  obtain ⟨hread, hres⟩ := Dev.loadAt_calm (req := reqWhl n) (cls := 0) (n := 16)
    (h0.quiet hq (bankOf (d.fld (Reg.WHL_SLOT n) 23 4 * 16)))
  dsimp only
  split
  · exact (h0.trans hread).trans (Dev.skCalm_modWhorl n _)
  · exact (h0.trans hread).trans (Dev.skCalm_modWhorl n _)
  · next h => exact absurd h hres

theorem Dev.prefetchRound_calm (ws : List (Nat × Whorl)) (hq : d.quiet) :
    d.skCalm (ws.foldl (fun e w => if (e.whorl w.1).notice then e.prefetch w.1 else e) d) := by
  induction ws generalizing d with
  | nil => exact .rfl
  | cons w ws ih =>
    rw [List.foldl_cons]
    split
    · have h := Dev.prefetch_calm hq w.1
      exact h.trans (ih (h.quiet hq))
    · exact ih hq

/-- The prefetches read (R255): no byte, register outside the Skein's block or core changes. -/
theorem Dev.prefetches_calm (hq : d.quiet) : d.skCalm d.prefetches := by
  unfold Dev.prefetches
  induction d.drawFuel + 1 generalizing d with
  | zero => exact .rfl
  | succ n ih =>
    unfold Dev.prefetchN
    split
    · have h := Dev.prefetchRound_calm d.md.whorls hq
      exact h.trans (ih (h.quiet hq))
    · exact .rfl

/-- Whether a store of a range writes whole words, or merges with a word that is good (R42). -/
def Dev.mergesClean (d : Dev) (a : Nat) (bs : List Byte) : Prop := a % 4 = 0 ∧ bs.length % 4 = 0 ∨ d.ecc a = .good

theorem Dev.storeNow_clean (hm : d.mergesClean a bs) :
    ∃ e brk, d.storeNow req a bs [] = (e, .done brk) ∧ (d.setBytes a bs).skCalm e := by
  have hr : (if (decide (a % 4 ≠ 0) || decide (bs.length % 4 ≠ 0)) = true then d.checkWord a else (d, true)) = (d, true) := by
    rcases hm with ⟨ha, hl⟩ | hg
    · simp [ha, hl]
    · simp [Dev.checkWord, hg]
  unfold Dev.storeNow
  dsimp only
  rw [hr]
  exact ⟨_, _, rfl, Dev.skCalm_writeBytes.trans (Dev.skCalm_setStatus _)⟩

theorem Dev.setBytes_eq (a : Nat) : ∃ m, d.setBytes a bs = d.modSk fun s => { s with mem := m } := by
  induction bs generalizing d a with
  | nil => exact ⟨d.sk.mem, rfl⟩
  | cons x bs ih =>
    obtain ⟨m, hm⟩ := ih (d := d.setByte a x) (a + 1)
    exact ⟨m, hm⟩

theorem Dev.setBytes_noteGrant (a : Nat) :
    (d.noteGrant bank cls req).setBytes a bs = (d.setBytes a bs).noteGrant bank cls req := by
  induction bs generalizing d a with
  | nil => rfl
  | cons x bs ih => exact ih (d := d.setByte a x) (a + 1)

/-- A store whose every condition is met is made at once, and the prefetches that it calls for are. -/
theorem Dev.postStore_plain {loop : Option Nat} {entry : Bool} {tag : DrawTag} (hq : d.quiet)
    (hr : d.storeRefusal req a bs.length entry = none) (hb : d.blockedLine req a bs.length = none)
    (hm : d.mergesClean a bs) :
    ∃ e brk, d.postStore req cls loop a bs [] entry tag = (e, .done brk) ∧ (d.setBytes a bs).skCalm e := by
  have hturns : d.takesTurns (bankOf a) cls bs.length = false := by
    simp [Dev.takesTurns, Dev.raisedDraws, hq (bankOf a), oldest]
  obtain ⟨x, brk, hx, hcalm⟩ := Dev.storeNow_clean (d := d.noteGrant (bankOf a) cls req) (req := req) (a := a) (bs := bs) hm
  have hstore : d.store req cls loop a bs [] entry tag = (x, .done brk) := by
    unfold Dev.store
    rw [hr, hb, Dev.clearWay_idle d _ _ _ (hq _)]
    simpa [hturns] using hx
  rw [Dev.setBytes_noteGrant] at hcalm
  have hx : (d.setBytes a bs).skCalm x := Dev.skCalm_noteGrant.trans hcalm
  have hquiet : x.quiet := fun k => by
    rw [hx.drawsOf, Dev.drawsOf, Dev.draws_setBytes]
    exact hq k
  refine ⟨x.prefetches, brk, ?_, hx.trans (Dev.prefetches_calm hquiet)⟩
  unfold Dev.postStore
  rw [hstore]

/-! ### What of a core an access leaves -/

theorem Dev.skNear.bob (h : d.skNear e) (b : Nat) : e.bob b = d.bob b := by
  unfold Dev.bob
  rw [h.bobbins]

theorem Dev.skNear.gv (h : d.skNear e) (c : Core) (q : BitVec 5) : e.gv c q = d.gv c q := by
  cases c with
  | spn p =>
    obtain ⟨live, hp⟩ := h.spn p
    simp only [Dev.gv, hp]
  | bob b => simp only [Dev.gv, h.bob]

theorem Dev.skNear.ga (h : d.skNear e) (c : Core) (k : Nat) : e.ga c k = d.ga c k := by
  cases c with
  | spn p =>
    obtain ⟨live, hp⟩ := h.spn p
    simp only [Dev.ga, hp]
  | bob b => simp only [Dev.ga, h.bob]

theorem Dev.skNear.pcOf (h : d.skNear e) (c : Core) : e.pcOf c = d.pcOf c := by
  cases c with
  | spn p =>
    obtain ⟨live, hp⟩ := h.spn p
    simp only [Dev.pcOf, hp]
  | bob b => simp only [Dev.pcOf, h.bob]

theorem Dev.skNear.alive (h : d.skNear e) (c : Core) : e.alive c = d.alive c := by
  cases c with
  | spn p =>
    obtain ⟨live, hp⟩ := h.spn p
    simp only [Dev.alive, hp]
  | bob b => simp only [Dev.alive, h.bob]

theorem Dev.skNear.byte (h : d.skNear e) (x : Nat) : e.byte x = d.byte x := by simp only [Dev.byte, h.mem]

/-! ### A core's posted store -/

theorem Dev.ga_noteLb (brk : Bool) (k : Nat) : (d.noteLb c brk).ga c k = d.ga c k := by
  cases brk with
  | false => rfl
  | true => cases c <;> simp [Dev.noteLb, Dev.ga, Dev.modSpn, Dev.modBob]

/-- A core that goes on at the next instruction after its store. -/
theorem Dev.stored_goesOn (h : (d.setBytes a bs).skNear e) (brk : Bool) :
    d.stored ((e.noteLb c brk).setPc c (d.pcOf c + 4)) c a bs := by
  obtain ⟨m, hm⟩ := Dev.setBytes_eq (d := d) (bs := bs) a
  have hsk : ((e.noteLb c brk).setPc c (d.pcOf c + 4)).sk = e.sk := by rw [Dev.sk_setPc, Dev.sk_noteLb]
  refine ⟨fun x => ?_, fun q => ?_, fun k => ?_, Dev.pcOf_setPc ..⟩
  · rw [← Dev.byte_setBytes, ← h.byte]
    simp only [Dev.byte, hsk]
  · rw [Dev.gv_setPc, (Dev.plyNear_noteLb brk).gv, h.gv, hm]
    cases c <;> rfl
  · rw [Dev.ga_setPc, Dev.ga_noteLb, h.ga, hm]
    cases c <;> rfl

end Sys2Proof.Machine
end

section
/-! SUPPORT. Loads and stores of the cores (R131, R152 to R156, R159, R194): a core's access of a word that reads or
stores plainly, the store queue, and the fence. -/

namespace Sys2Proof.Machine

variable {d e : Dev} {c : Core} {b : Fin 3} {p : Fin 18} {s : State} {i : Instr} {ill : Bool} {prof : Profile}
  {g : Dev → Eff} {a n : Nat} {bs : List Byte} {w : Word}

/-! ### Conditions of an access (R160) -/

theorem Dev.accessCause_plain {write : Bool} (hn : 0 < n) (ha : a % n = 0) (hend : a + n ≤ 0x1000000)
    (hmpu : ∀ b, c = .bob b → d.mpuOk b a (if write then .write else .read) = true) :
    d.accessCause c (a : Int) n write = none := by
  have halign : ((a : Int) % (n : Int)) = 0 := by exact_mod_cast ha
  have hmap : mapRefuses a n write = false := if_pos hend
  unfold Dev.accessCause
  rw [if_neg (not_not_intro halign), if_neg (by omega)]
  cases c with
  | spn p => exact if_neg (by omega)
  | bob b => simp [hmap, hmpu b rfl]

/-! ### Words as bytes (R11) -/

theorem toNat_pushByte {w : Word} (x : Byte) (hw : w.toNat < 2 ^ 24) :
    ((w <<< 8) ||| x.setWidth 32).toNat = 256 * w.toNat + x.toNat := by
  have hx := x.isLt
  have hshift : (w.toNat <<< 8) % 2 ^ 32 = w.toNat <<< 8 := Nat.mod_eq_of_lt (by rw [Nat.shiftLeft_eq]; omega)
  rw [BitVec.toNat_or, BitVec.toNat_shiftLeft, BitVec.toNat_setWidth, hshift, Nat.mod_eq_of_lt (by omega),
    ← Nat.shiftLeft_add_eq_or_of_lt hx, Nat.shiftLeft_eq]
  omega

theorem toNat_wordOfBytes (x0 x1 x2 x3 : Byte) :
    (wordOfBytes [x0, x1, x2, x3]).toNat = x0.toNat + 256 * (x1.toNat + 256 * (x2.toNat + 256 * x3.toNat)) := by
  have h0 := x0.isLt
  have h1 := x1.isLt
  have h2 := x2.isLt
  have h3 := x3.isLt
  simp only [wordOfBytes, List.foldr]
  have p3 := toNat_pushByte (w := 0) x3 (by decide)
  have p2 := toNat_pushByte (w := (0 : Word) <<< 8 ||| x3.setWidth 32) x2 (by rw [p3]; simp; omega)
  rw [p3] at p2
  have p1 := toNat_pushByte (w := ((0 : Word) <<< 8 ||| x3.setWidth 32) <<< 8 ||| x2.setWidth 32) x1 (by rw [p2]; simp; omega)
  rw [p2] at p1
  have p0 := toNat_pushByte x0 (by rw [p1]; simp; omega)
  rw [p0, p1]
  simp
  omega

theorem Dev.toNat_word (a : Nat) : (d.word a).toNat =
    (d.byte a).toNat + 256 * ((d.byte (a + 1)).toNat + 256 * ((d.byte (a + 2)).toNat + 256 * (d.byte (a + 3)).toNat)) :=
  toNat_wordOfBytes ..

/-- The byte at an address, out of the word that holds it. -/
theorem Dev.byte_of_word (a : Nat) : (d.word (a / 4 * 4) >>> (8 * (a % 4))).setWidth 8 = d.byte a := by
  have hk : a / 4 * 4 + a % 4 = a := by omega
  have hlt := fun j : Nat => (d.byte (a / 4 * 4 + j)).isLt
  have h0 := hlt 0
  have h1 := hlt 1
  have h2 := hlt 2
  have h3 := hlt 3
  apply BitVec.eq_of_toNat_eq
  rw [BitVec.toNat_setWidth, BitVec.toNat_ushiftRight, Dev.toNat_word, Nat.shiftRight_eq_div_pow]
  conv_rhs => rw [← hk]
  have hr : a % 4 < 4 := Nat.mod_lt _ (by decide)
  generalize a % 4 = r at *
  rcases (by omega : r = 0 ∨ r = 1 ∨ r = 2 ∨ r = 3) with rfl | rfl | rfl | rfl <;> simp only [Nat.add_zero] at * <;> omega

/-- The halfword at an address, out of the word that holds it. -/
theorem Dev.half_of_word (h : a % 2 = 0) :
    (d.word (a / 4 * 4) >>> (8 * (a % 4))).setWidth 16 = (d.byte (a + 1) ++ d.byte a : BitVec 16) := by
  have hk : a / 4 * 4 + a % 4 = a := by omega
  have hlt := fun j : Nat => (d.byte (a / 4 * 4 + j)).isLt
  have h0 := hlt 0
  have h1 := hlt 1
  have h2 := hlt 2
  have h3 := hlt 3
  apply BitVec.eq_of_toNat_eq
  rw [BitVec.toNat_setWidth, BitVec.toNat_ushiftRight, Dev.toNat_word, Nat.shiftRight_eq_div_pow, toNat_append_eq]
  conv_rhs => rw [← hk]
  have hr : a % 4 = 0 ∨ a % 4 = 2 := by omega
  generalize a % 4 = r at *
  rcases hr with rfl | rfl <;> simp only [Nat.add_zero, Nat.add_assoc, Nat.reduceAdd] at * <;> omega

/-! ### A plain read of a core (R153 to R155) -/

/-- What a plain read of a word leaves behind. -/
def Dev.readBy (d : Dev) (c : Core) (a : Nat) : Dev := d.granted (coreReq c) (classOf (coreReq c) false) a .ok

theorem Dev.plyNear_readBy : d.plyNear (d.readBy c a) c where
  mem _ := by rfl
  regs _ _ := by rfl
  gv _ := by cases c <;> rfl
  pc := by cases c <;> rfl
  alive := by cases c <;> rfl

theorem Dev.coreEq_readBy (k : Nat) : (d.readBy c a).ga c k = d.ga c k := by cases c <;> rfl

theorem linesIn_of_line (hn : 0 < n) (h : (a + n - 1) / 64 = a / 64) : linesIn a n = [a / 64] := by
  unfold linesIn
  rw [if_neg (by omega), h, Nat.sub_self]
  simp

theorem Dev.anyBroken_line (hn : 0 < n) (h : (a + n - 1) / 64 = a / 64) : d.anyBroken a n = d.isBroken (a / 64) := by
  unfold Dev.anyBroken
  rw [linesIn_of_line hn h]
  simp

/-- A core's load of one word or of the two words of an aligned doubleword. -/
theorem Dev.load_readsPlain (hn : n = 4 ∨ n = 8) (ha : a % n = 0) (hend : a + n ≤ 0x1000000)
    (h : d.readsPlain c a) (h4 : n = 8 → d.ecc (a + 4) = .good) :
    d.load (coreReq c) (classOf (coreReq c) false) a n = (d.readBy c a, .done false, d.bytes a n) := by
  obtain ⟨hdraws, hcut, hecc, hbroken, -, -⟩ := h
  have hbank : bankOf a = bankOf (a + n - 1) := by
    unfold bankOf
    rcases hn with rfl | rfl <;> omega
  have hline : (a + n - 1) / 64 = a / 64 := by rcases hn with rfl | rfl <;> omega
  refine Dev.load_plain hdraws hcut hend hbank (fun i hi => ?_) ?_
  · rcases Nat.eq_zero_or_pos i with rfl | hpos
    · exact hecc
    · rcases hn with rfl | rfl
      · rw [wordsIn, if_neg (by decide)] at hi
        omega
      · have h1 : i = 1 := by
          rw [wordsIn, if_neg (by decide)] at hi
          omega
        subst h1
        exact h4 rfl
  · rw [Dev.anyBroken_line (by omega) hline]
    exact hbroken

theorem Dev.coreWord_plain (ha : a % 4 = 0) (hend : a + 4 ≤ 0x1000000) (h : d.readsPlain c a) :
    d.coreWord c a = (d.readBy c a, .word (d.word a) false) := by
  have hword : d.skeinWord c a = (d.readBy c a, .word (d.word a) false) := by
    unfold Dev.skeinWord
    rw [Dev.load_readsPlain (.inl rfl) ha hend h (by simp)]
    rfl
  obtain ⟨-, -, -, -, -, hspn⟩ := h
  cases c with
  | spn p =>
    obtain ⟨hhand, hqueue⟩ := hspn p rfl
    have hnone : (if (d.spn p).ra then queuedWord (d.spn p).queue a else none) = none := by
      split
      · next hra => exact hqueue hra
      · rfl
    simp only [Dev.coreWord, Dev.spnWord, hnone, hhand, Bool.false_and, Bool.false_eq_true, if_false]
    exact hword
  | bob b =>
    have hlt : a < 0x1000000 := by omega
    simp only [Dev.coreWord, Dev.bobWord, hlt, if_true]
    exact hword

theorem Dev.coreDword_plain (ha : a % 8 = 0) (hend : a + 8 ≤ 0x1000000) (h : d.readsPlain c a)
    (h4 : d.readsPlain c (a + 4)) : d.coreDword c a = (d.readBy c a, .word (d.word a) false, d.word (a + 4)) := by
  have hload := Dev.load_readsPlain (.inr rfl) ha hend h fun _ => h4.2.2.1
  have hbeat : d.oneBeat c a = true := by
    obtain ⟨-, -, -, -, -, hspn⟩ := h
    obtain ⟨-, -, -, -, -, hspn4⟩ := h4
    cases c with
    | spn p =>
      obtain ⟨hhand, hqueue⟩ := hspn p rfl
      obtain ⟨-, hqueue4⟩ := hspn4 p rfl
      cases hra : (d.spn p).ra with
      | false => simp [Dev.oneBeat, hra, hhand]
      | true => simp [Dev.oneBeat, hhand, hqueue hra, hqueue4 hra]
    | bob b => exact decide_eq_true (by omega)
  unfold Dev.coreDword
  rw [if_pos hbeat, hload]
  rfl

theorem Dev.loadW_plain {ea : Int} {k : Dev → Word → Eff} (hea : ea = (a : Int)) (ha : a % 4 = 0)
    (hend : a + 4 ≤ 0x1000000) (h : d.readsPlain c a) : d.loadW c ea k = k (d.readBy c a) (d.word a) := by
  subst hea
  unfold Dev.loadW
  rw [Dev.accessCause_plain (n := 4) (by decide) ha hend fun b hb => h.2.2.2.2.1 b hb, Int.toNat_natCast,
    Dev.coreWord_plain ha hend h]
  rfl

theorem Dev.loadD_plain {ea : Int} {k : Dev → DWord → Eff} (hea : ea = (a : Int)) (ha : a % 8 = 0)
    (hend : a + 8 ≤ 0x1000000) (h : d.readsPlain c a) (h4 : d.readsPlain c (a + 4)) :
    d.loadD c ea k = k (d.readBy c a) (d.word (a + 4) ++ d.word a) := by
  subst hea
  unfold Dev.loadD
  rw [Dev.accessCause_plain (n := 8) (by decide) ha hend fun b hb => h.2.2.2.2.1 b hb, Int.toNat_natCast,
    Dev.coreDword_plain ha hend h h4]
  rfl

theorem Dev.loadSub_plain {ea : Int} {k : Dev → Word → Eff} (hea : ea = (a : Int)) (hn : 0 < n) (ha : a % n = 0)
    (hn4 : n ≤ 4) (hend : a + 8 ≤ 0x1000000) (h : d.readsPlain c (a / 4 * 4))
    (hmpu : ∀ b, c = .bob b → d.mpuOk b a .read = true) :
    d.loadSub c ea n k = k (d.readBy c (a / 4 * 4)) (d.word (a / 4 * 4) >>> (8 * (a % 4))) := by
  subst hea
  unfold Dev.loadSub
  rw [Dev.accessCause_plain hn ha (by omega) hmpu, Int.toNat_natCast, Dev.coreWord_plain (by omega) (by omega) h]
  rfl

/-! ### What a load gives its core -/

/-- A load whose effect is a device that only the access and the destination tell from the old one. -/
theorem gives_load {P : Dev → Prop} (hill : ill = false)
    (hex : exec i s = .next (s.withDev (s.dev.issue c i prof ill g))) (hp : prof.has c = true) (hg : g s.dev = .next e)
    (he : s.dev.runsOn e c) (hx : s.dev.executes c i) (hP : P (e.setPc c (s.dev.pcOf c + 4))) : Gives i s P :=
  .of_next (runs_effect hill hex hp hg he.alive he.pc hx) hP

theorem Dev.runsOn_readBy : d.runsOn (d.readBy c a) c := ⟨Dev.plyNear_readBy.alive, Dev.plyNear_readBy.pc⟩

theorem Dev.getsV_readBy (rd : BitVec 5) (w : Word) :
    d.getsV (((d.readBy c a).setV c rd w).setPc c (d.pcOf c + 4)) c rd w := by
  have h := Dev.plyNear_readBy (d := d) (c := c) (a := a)
  refine ⟨fun q => ?_, fun k => ?_, Dev.pcOf_setPc .., fun x => ?_, fun x hx => ?_⟩
  · rw [Dev.gv_setPc, Dev.gv_setV, h.gv]
  · rw [Dev.ga_setPc, Dev.ga_setV, Dev.coreEq_readBy]
  · rw [← h.mem x]
    simp only [Dev.byte, Dev.sk_setPc, Dev.sk_setV]
  · rw [← h.regs x hx]
    simp only [Dev.reg, Dev.regs_setPc, Dev.regs_setV]

theorem Dev.getsA_readBy (k : Nat) (w : DWord) :
    d.getsA (((d.readBy c a).setA c k w).setPc c (d.pcOf c + 4)) c k w := by
  have h := Dev.plyNear_readBy (d := d) (c := c) (a := a)
  refine ⟨fun j => ?_, fun q => ?_, Dev.pcOf_setPc .., fun x => ?_, fun x hx => ?_⟩
  · rw [Dev.ga_setPc, Dev.ga_setA, Dev.coreEq_readBy]
  · rw [Dev.gv_setPc, Dev.gv_setA, h.gv]
  · rw [← h.mem x]
    simp only [Dev.byte, Dev.sk_setPc, Dev.sk_setA]
  · rw [← h.regs x hx]
    simp only [Dev.reg, Dev.regs_setPc, Dev.regs_setA]

/-- ld.k's write of a Bobbin's coefficient file (R130). -/
def Dev.setK (d : Dev) (b : Fin 3) (n : Nat) (w : DWord) : Dev := d.modBob b fun x => { x with k := smSet (fun _ => 0) x.k n w }

theorem Dev.kOf_setK (k n : Nat) (w : DWord) (pc : Word) :
    ((d.setK b k w).setPc (.bob b) pc).kOf (.bob b) n = if n = k then w else d.kOf (.bob b) n := by
  simp [Dev.kOf, Dev.setPc, Dev.setK, Dev.modBob, smGet_smSet]

theorem Dev.plyNear_setK (k : Nat) (w : DWord) : d.plyNear (d.setK b k w) (.bob b) :=
  Dev.plyNear_modCore (c := .bob b) (g := id) (fun _ => ⟨rfl, rfl, rfl⟩) fun _ => ⟨rfl, rfl, rfl⟩

/-! ### A plain store of a core (R155, R159) -/

theorem Dev.drawsBy_quiet (hq : d.quiet) (req : Nat) : d.drawsBy req = [] := by
  simp [Dev.drawsBy, hq _]

/-- A posted store whose address lies in no ring hank that the core writes. -/
theorem Dev.corePost_byAddress {loop : Option Nat} {pc : Word} {brk : Bool} (hring : d.ringOf (coreReq c) a = none)
    (h : d.postStore (coreReq c) (classOf (coreReq c) false) loop a bs [] (decide (bs.length = 8) && Profile.s.has c)
      (.core c pc (BitVec.ofNat 32 a) (loop.getD 0)) = (e, .done brk)) :
    d.corePost c loop a bs [] pc = e.noteLb c brk := by
  unfold Dev.corePost
  cases c with
  | spn p =>
    simp only [Profile.has, Bool.and_false] at h
    simp only [hring, h]
  | bob b =>
    simp only [Profile.has, Bool.and_true] at h
    simp only [hring, h]

/-- A core's store at an address where it stores plainly. -/
theorem Dev.corePost_plain {loop : Option Nat} {pc : Word} (h : d.storesPlain c a bs.length) (hm : d.mergesClean a bs) :
    ∃ e brk, d.corePost c loop a bs [] pc = e.noteLb c brk ∧ (d.setBytes a bs).skCalm e := by
  obtain ⟨hq, -, -, hr, hring, hb⟩ := h
  obtain ⟨e, brk, hpost, hcalm⟩ := Dev.postStore_plain hq hr hb hm
  exact ⟨e, brk, Dev.corePost_byAddress hring hpost, hcalm⟩

theorem Dev.storeBytes_plain {ea : Int} {q : Queued} (hea : ea = (a : Int)) (h0 : 0 < bs.length) (ha : a % bs.length = 0)
    (hend : a + bs.length ≤ 0x1000000) (h : d.storesPlain c a bs.length) (hm : d.mergesClean a bs) :
    ∃ e brk, d.storeBytes c ea bs q = .next (e.noteLb c brk) ∧ (d.setBytes a bs).skCalm e := by
  subst hea
  have hplain := h
  obtain ⟨hq, hra, hmpu, -, hring, hb⟩ := hplain
  have hheld : d.heldFault c a bs.length = false := by simp [Dev.heldFault, hring, hb]
  have hwait : ¬postMax c ≤ d.storesWaiting c := by
    simp only [Dev.storesWaiting, Dev.drawsBy_quiet hq]
    cases c <;> simp [postMax]
  unfold Dev.storeBytes
  rw [Dev.accessCause_plain h0 ha hend hmpu]
  simp only [Int.toNat_natCast, hheld, hwait, Bool.false_eq_true, if_false]
  cases c with
  | spn p =>
    obtain ⟨e, brk, hpost, hcalm⟩ := Dev.corePost_plain (loop := some (d.curLoop p)) (pc := (d.spn p).pc) h hm
    have hra' : (d.spn p).ra = false := hra
    exact ⟨e, brk, (if_neg (by simp [hra'])).trans (congrArg Eff.next hpost), hcalm⟩
  | bob b =>
    obtain ⟨e, brk, hpost, hcalm⟩ := Dev.corePost_plain (loop := none) (pc := (d.bob b).pc) h hm
    exact ⟨e, brk, congrArg Eff.next ((if_pos (by omega)).trans hpost), hcalm⟩

/-- An instruction that stores bytes plainly. -/
theorem gives_store {ea : Int} {q : Queued} (hill : ill = false)
    (hex : exec i s = .next (s.withDev (s.dev.issue c i prof ill g))) (hp : prof.has c = true)
    (hg : g s.dev = s.dev.storeBytes c ea bs q) (hea : ea = (a : Int)) (h0 : 0 < bs.length) (ha : a % bs.length = 0)
    (hend : a + bs.length ≤ 0x1000000) (h : s.dev.storesPlain c a bs.length) (hm : s.dev.mergesClean a bs)
    (hx : s.dev.executes c i) : Gives i s fun e => s.dev.stored e c a bs := by
  obtain ⟨e, brk, hstore, hcalm⟩ := Dev.storeBytes_plain (q := q) hea h0 ha hend h hm
  obtain ⟨m, hmem⟩ := Dev.setBytes_eq (d := s.dev) (bs := bs) a
  have hlb := Dev.plyNear_noteLb (d := e) (c := c) brk
  refine gives_load hill hex hp (hg.trans hstore) ⟨?_, ?_⟩ hx (Dev.stored_goesOn hcalm.1 brk)
  · rw [hlb.alive, hcalm.alive, hmem]
    cases c <;> rfl
  · rw [hlb.pc, hcalm.pcOf, hmem]
    cases c <;> rfl

end Sys2Proof.Machine
end

section
/-! SUPPORT. The settlement of the loads and stores of the cores (R131, R152 to R156, R159, R194). -/

namespace Sys2Proof.Machine

variable {d e : Dev} {c : Core} {b : Fin 3} {p : Fin 18} {s : State} {a n : Nat}

@[simp] theorem length_bytesOfWord (w : Word) : (bytesOfWord w).length = 4 := rfl

@[simp] theorem length_bytesOfDword (w : DWord) : (bytesOfDword w).length = 8 := rfl

theorem bytesOfDword_eq (w : DWord) : bytesOfDword w = (List.range 8).map fun i => w.extractLsb' (8 * i) 8 := by
  have hlow : ∀ k, k + 8 ≤ 32 → (w.extractLsb' 0 32).extractLsb' k 8 = w.extractLsb' k 8 := fun k hk => by
    ext i hi
    simp [show k + i < 32 by omega]
  have hhigh : ∀ k, k + 8 ≤ 32 → (w.extractLsb' 32 32).extractLsb' k 8 = w.extractLsb' (32 + k) 8 := fun k hk => by
    ext i hi
    simp [show k + i < 32 by omega, Nat.add_assoc]
  simp only [bytesOfDword, bytesOfWord, hlow 0 (by decide), hlow 8 (by decide), hlow 16 (by decide), hlow 24 (by decide),
    hhigh 0 (by decide), hhigh 8 (by decide), hhigh 16 (by decide), hhigh 24 (by decide)]
  rfl

theorem Dev.aliveOf_setK (k : Nat) (w : DWord) : d.runsOn ((d.readBy (.bob b) a).setK b k w) (.bob b) :=
  have h := Dev.plyNear_readBy.trans (Dev.plyNear_setK (d := d.readBy (.bob b) a) k w)
  ⟨h.alive, h.pc⟩

/-- Settles O17: each load is a plain read of its word, its bytes taken out of that word; ld.k and st.k alike on a
Bobbin's coefficient file. -/
theorem loadsAndCoefficientEntries : Obligations.LoadsAndCoefficientEntries := by
  constructor
  on_goal 1 =>
    intro c f a s d hea hend
    refine ⟨fun ha hr hx => ?word, fun ha hrd hr hr4 hx => ?dword, fun b hc hr hmpu => ?parts⟩
  on_goal 4 =>
    intro b f a s d c hea hend ha himm
    refine ⟨fun hr hr4 hx => ?ldK, fun hst hx => ?stK⟩
  case word =>
    exact gives_load rfl rfl rfl (Dev.loadW_plain hea ha (by omega) hr) (Dev.runsOn_readBy.setV _ _) hx
      (Dev.getsV_readBy _ _)
  case dword =>
    have hill : illAccLow f.rd = false := decide_eq_false (by omega)
    have hlow : accLow f.rd = f.rd.toNat := Nat.mod_eq_of_lt hrd
    rw [← hlow]
    exact gives_load hill rfl rfl (Dev.loadD_plain hea ha (by omega) hr hr4) (Dev.runsOn_readBy.setA _ _) hx
      (Dev.getsA_readBy _ _)
  case parts =>
    subst hc
    have hm : ∀ k, Core.bob b = .bob k → d.mpuOk k a .read = true := fun k hk => by cases hk; exact hmpu
    have hsub := fun n (hn : 0 < n) (hn4 : n ≤ 4) (ha : a % n = 0) k =>
      Dev.loadSub_plain (d := d) (k := k) hea hn ha hn4 hend hr hm
    refine ⟨fun hx => ?byte, fun hx => ?byteU, fun ha hx => ?half, fun ha hx => ?halfU⟩
    case byte =>
      rw [← Dev.byte_of_word]
      exact gives_load rfl rfl rfl (hsub 1 (by decide) (by decide) (Nat.mod_one a) _) (Dev.runsOn_readBy.setV _ _) hx
        (Dev.getsV_readBy _ _)
    case byteU =>
      rw [← Dev.byte_of_word]
      exact gives_load rfl rfl rfl (hsub 1 (by decide) (by decide) (Nat.mod_one a) _) (Dev.runsOn_readBy.setV _ _) hx
        (Dev.getsV_readBy _ _)
    case half =>
      rw [← Dev.half_of_word ha]
      exact gives_load rfl rfl rfl (hsub 2 (by decide) (by decide) ha _) (Dev.runsOn_readBy.setV _ _) hx
        (Dev.getsV_readBy _ _)
    case halfU =>
      rw [← Dev.half_of_word ha]
      exact gives_load rfl rfl rfl (hsub 2 (by decide) (by decide) ha _) (Dev.runsOn_readBy.setV _ _) hx
        (Dev.getsV_readBy _ _)
  case ldK =>
    have hill : illKmem f = false := decide_eq_false (not_not_intro himm)
    have h := Dev.plyNear_readBy.trans (Dev.plyNear_setK (d := d.readBy c a) f.k.toNat (d.word (a + 4) ++ d.word a))
    refine gives_load hill rfl rfl (Dev.loadD_plain hea ha (by omega) hr hr4) (Dev.aliveOf_setK _ _) hx ?_
    obtain ⟨hpc, hgv, hmem, hregs⟩ := h.goesOn (d.pcOf c + 4)
    exact ⟨fun n => Dev.kOf_setK .., hgv, fun k => (Dev.ga_setPc ..).trans (by simp [Dev.ga, Dev.setK, Dev.readBy, c, Dev.modBob]; rfl),
      hpc, hmem, hregs⟩
  case stK =>
    have hill : illKmem f = false := decide_eq_false (not_not_intro himm)
    rw [← bytesOfDword_eq]
    exact gives_store hill rfl rfl rfl hea (Nat.succ_pos _) ha hend hst (.inl ⟨by omega, by simp⟩) hx

/-- Settles O18: each store puts the bytes of its operand, the parts of a word merged with a word that is good. -/
theorem stores : Obligations.Stores := by
  intro c f a s d w hea hend
  refine ⟨fun ha hst hx => ?word, fun ha hr hst hx => ?dword, fun b hc hst hecc hx => ?byte, fun b hc ha hst hecc hx => ?half⟩
  case word =>
    exact gives_store (bs := bytesOfWord w) rfl rfl rfl rfl hea (Nat.succ_pos _) ha (by change a + 4 ≤ _; omega) hst
      (.inl ⟨ha, by simp⟩) hx
  case dword =>
    have hill : illAccLow f.rs2 = false := decide_eq_false (by omega)
    have hlow : accLow f.rs2 = f.rs2.toNat := Nat.mod_eq_of_lt hr
    rw [← bytesOfDword_eq, ← hlow]
    exact gives_store hill rfl rfl rfl hea (Nat.succ_pos _) ha hend hst (.inl ⟨by omega, by simp⟩) hx
  case byte =>
    subst hc
    exact gives_store rfl rfl rfl rfl hea (Nat.succ_pos _) (Nat.mod_one a) (by change a + 1 ≤ _; omega) hst (.inr hecc) hx
  case half =>
    subst hc
    exact gives_store rfl rfl rfl rfl hea (Nat.succ_pos _) ha (by change a + 2 ≤ _; omega) hst (.inr hecc) hx

/-! ### The store queue and the fence (R152, R194) -/

/-- A store of run-ahead put at the end of the queue. -/
def Dev.queued (d : Dev) (p : Fin 18) (q : Queued) : Dev := d.modSpn p fun s => { s with queue := s.queue ++ [q] }

theorem Dev.plyNear_queued (q : Queued) : d.plyNear (d.queued p q) (.spn p) :=
  Dev.plyNear_modCore (c := .spn p) (k := id) (fun _ => ⟨rfl, rfl, rfl⟩) fun _ => ⟨rfl, rfl, rfl⟩

theorem Dev.storeW_queued {w : Word} (ha : a % 4 = 0) (hlt : a < 0x1000000) (hra : (d.spn p).ra = true) :
    d.storeW (.spn p) (a : Int) w = d.enqueue p (.word a w (d.pcOf (.spn p))) (some (BitVec.ofNat 32 a)) := by
  have hcause : d.accessCause (.spn p) (a : Int) (bytesOfWord w).length true = none :=
    Dev.accessCause_plain (Nat.succ_pos _) ha (by change a + 4 ≤ _; omega) (by simp)
  have hea : eaWord (a : Int) = BitVec.ofNat 32 a := BitVec.ofInt_natCast ..
  unfold Dev.storeW Dev.storeBytes
  rw [hcause, ← hea]
  exact if_pos hra

theorem Dev.hasDraw_iff (req : Nat) : d.hasDraw req none = true ↔ ∃ k < 16, ∃ x ∈ d.drawsOf k, x.req = req := by
  simp [Dev.hasDraw, Dev.drawsBy]

/-- Settles O19: a store of run-ahead joins the queue while it has a place; the fence looks for the core's draws. -/
theorem queuedStoresAndFence : Obligations.QueuedStoresAndFence := by
  constructor
  on_goal 1 =>
    intro p f a s d c hea ha hlt hra
    refine ⟨fun hlen hx => ?queued, fun hlen => ?full⟩
  on_goal 3 =>
    intro c s i
    refine ⟨fun hnone => ?passes, fun hra => ?runsAhead, fun hra hsome hx => ?stands⟩
  case queued =>
    have hstore : d.storeW c (d.eaImm c f.rs1 f.imm) (d.gv c f.rs2) = .next (d.queued p (.word a (d.gv c f.rs2) (d.pcOf c))) := by
      rw [hea, Dev.storeW_queued ha hlt hra]
      exact if_neg (by omega)
    have h := Dev.plyNear_queued (d := d) (p := p) (.word a (d.gv c f.rs2) (d.pcOf c))
    refine gives_load rfl rfl rfl hstore ⟨h.alive, h.pc⟩ hx ?_
    obtain ⟨hpc, hgv, hmem, hregs⟩ := h.goesOn (d.pcOf c + 4)
    refine ⟨?_, hpc, hgv, hmem, hregs⟩
    simp [c, Dev.setPc, Dev.queued, Dev.modSpn]
  case full =>
    refine traps_issue rfl rfl ?_ (by decide)
    change d.storeW c (d.eaImm c f.rs1 f.imm) (d.gv c f.rs2) = _
    rw [hea, Dev.storeW_queued ha hlt hra]
    exact if_pos hlen
  case passes =>
    have hdraw : s.dev.hasDraw (coreReq c) none = false := by
      rw [Bool.eq_false_iff, Ne, Dev.hasDraw_iff]
      exact fun ⟨k, hk, x, hx, hreq⟩ => hnone k hk x hx hreq
    exact runs_issue (prof := .both) (f := fun d => if !d.inRa c && d.hasDraw (coreReq c) none then .stay d else .next d)
      rfl rfl (if_neg (by simp [hdraw])) rfl rfl
  case runsAhead =>
    exact runs_issue (prof := .both) (f := fun d => if !d.inRa c && d.hasDraw (coreReq c) none then .stay d else .next d)
      rfl rfl (if_neg (by simp [hra])) rfl rfl
  case stands =>
    have hdraw : s.dev.hasDraw (coreReq c) none = true := (Dev.hasDraw_iff _).mpr hsome
    have hex : exec i s = .next (s.withDev (s.dev.issue c i .both false fun d =>
        if !d.inRa c && d.hasDraw (coreReq c) none then .stay d else .next d)) := rfl
    rw [hex, Dev.issue_stay hx rfl (if_pos (by simp [hra, hdraw]))]
    rfl

end Sys2Proof.Machine
end

section
/-! SUPPORT. The settlement of the sample and duty instructions: the library's own substitution of a slot (R365) is
not among the conditions that the statement sets on lds. -/

namespace Sys2Proof.Machine

/-- A device whose Spindle 17 runs loop 3, with slot 15 of its primary set 3 substituted by the library alone. -/
def librarySubstituted : Dev :=
  (((Tests.spnDev.setFld (Reg.SPN_SDEF 17 3) 4 0 16).setFld (Reg.SPN_LTRIG 17 3) 7 6 3).setRbit (Reg.SPN_LTRIG 17 3) 8
    true).modLp 17 3 fun x => { x with libSub := [15] }

/-- The slot is in the library's list. -/
example : (librarySubstituted.lp 17 3).libSub = [15] := by decide +kernel

/-- The substitution flag of the running loop, after an outcome. -/
def Outcome.flagsOf : Host.Outcome State Fault Refusal → Option Word
  | .next t => some (t.dev.reg (Reg.SPN_FLAGS 17))
  | _ => none

/-- Refutes O26: outside run-ahead, lds of a slot that the library has substituted gives the prediction and raises TSUB,
while the statement asks only that the check of run-ahead has substituted none (`subst = []`). -/
theorem not_samplesAndImages : ¬ Obligations.SamplesAndImages := by
  intro h
  obtain ⟨hslots, -⟩ := h
  let s : State := ⟨librarySubstituted, []⟩
  obtain ⟨hslot, -⟩ := hslots 17 3 15 0 0 0 s
  obtain ⟨hreal, -⟩ := hslot (by decide +kernel)
  obtain ⟨hlds, -⟩ := hreal (by decide +kernel) (by decide +kernel)
  have hrun := congrArg Outcome.flagsOf (hlds (by simp -zeta only [Dev.executes]; decide +kernel))
  revert hrun
  decide +kernel

end Sys2Proof.Machine
end

section
/-! SUPPORT. The register bus (R5 to R10, R26 to R29): a word that a master with the right writes or reads in register
space; and the mailboxes, trace points and injected values of a Spindle (R203 to R205). -/

namespace Sys2Proof.Machine

variable {d e : Dev} {s : State} {m : Master} {a : Nat} {v hw : Word} {id : BlockId} {inst off : Nat}

/-! ### A word written or read in register space -/

theorem Dev.mayWrite_of_admits (h : d.admits m) (a : Nat) : d.mayWrite m a = true := by
  obtain ⟨-, h⟩ := h
  cases m with
  | bobbin b => rfl
  | distaff => rfl
  | session => exact h
  | hspi =>
    have h0 : decide (0 = Reg.SNL_MREQ) = false := by decide
    have hr : d.rbit Reg.HSPI_RIGHTS 1 = true := by simpa only [Dev.mayWrite, h0, Bool.false_or] using h
    simp only [Dev.mayWrite, hr, Bool.or_true]

/-- Whether the register at an address is a row without W1C bits at a place of a block. -/
def plainRow (a : Nat) (id : BlockId) (inst off : Nat) : Bool :=
  match findReg a with
  | some h => decide (h.id = id) && decide (h.inst = inst) && decide (h.off = off) && (h.row.any fun r => decide (r.w1c = 0))
  | none => false

theorem plainRow_iff : plainRow a id inst off = true ↔ ∃ r, findReg a = some ⟨id, inst, off, some r⟩ ∧ r.w1c = 0 := by
  unfold plainRow
  cases h : findReg a with
  | none => simp
  | some x =>
    obtain ⟨id', inst', off', row⟩ := x
    cases row with
    | none => simp
    | some r =>
      simp only [Option.any_some, Bool.and_eq_true, decide_eq_true_eq, Option.some.injEq, RegHit.mk.injEq]
      constructor
      · rintro ⟨⟨⟨rfl, rfl⟩, rfl⟩, hw⟩
        exact ⟨r, ⟨rfl, rfl, rfl, rfl⟩, hw⟩
      · rintro ⟨r, ⟨rfl, rfl, rfl, rfl⟩, hw⟩
        exact ⟨⟨⟨rfl, rfl⟩, rfl⟩, hw⟩

theorem Dev.writeReg_plain (hrow : plainRow a id inst off = true) (hbad : writeBad id inst off v = false)
    (hret : id = .spn → d.rbit (Reg.SPN_STAT inst) 9 = false) :
    ∃ r, d.writeReg m a v hw = (d.writeFields m a ⟨id, inst, off, some r⟩ r v, true) := by
  obtain ⟨r, hfind, hw1c⟩ := plainRow_iff.mp hrow
  have hclear : ∀ v, d.clearW1c a r v hw = d := fun v => if_pos hw1c
  have hserves : ¬(id = .spn ∧ d.rbit (Reg.SPN_STAT inst) 9 = true) := fun ⟨hid, h9⟩ => by simp [hret hid] at h9
  refine ⟨r, ?_⟩
  unfold Dev.writeReg
  simp only [hfind, hbad, hserves, hclear, if_false, Bool.false_eq_true]

theorem Dev.readReg_plain (hrow : plainRow a id inst off = true) :
    ∃ r, d.readReg a = ((d.readRow a ⟨id, inst, off, some r⟩ r).1, some (d.readRow a ⟨id, inst, off, some r⟩ r).2) := by
  obtain ⟨r, hfind, -⟩ := plainRow_iff.mp hrow
  refine ⟨r, ?_⟩
  unfold Dev.readReg
  simp only [hfind]

/-- An address of a word of register space other than the mode request's. -/
def regAddr (a : Nat) : Bool := decide (0x20000000 ≤ a) && decide (a < 0x40000000) && decide (a % 4 = 0) && decide (a ≠ Reg.SNL_MREQ)

theorem Dev.busWrite_reg (h : d.admits m) (ha : regAddr a = true) (hr : d.writeReg m a v hw = (e, true)) :
    d.busWrite m a .word v hw = e.answer .ok := by
  simp only [regAddr, Bool.and_eq_true, decide_eq_true_eq] at ha
  obtain ⟨⟨⟨hlo, hhi⟩, halign⟩, hne⟩ := ha
  have hmap : d.mapWrite m a .word v hw = (e, true) := by
    unfold Dev.mapWrite
    rw [if_neg (by omega), if_pos ⟨hlo, hhi⟩, if_neg (by simp [halign]), hr]
  unfold Dev.busWrite
  simp only [h.1, Dev.mayWrite_of_admits h, hmap, hne, Bool.not_true, Bool.false_eq_true, if_false, if_true, false_and]

theorem Dev.busRead_reg {w : Word} (hc : d.clocked = true) (hm : d.mayRead m a = true) (ha : regAddr a = true)
    (hr : d.readReg a = (e, some w)) : d.busRead m a = e.answer (.data w) := by
  simp only [regAddr, Bool.and_eq_true, decide_eq_true_eq] at ha
  obtain ⟨⟨⟨hlo, hhi⟩, halign⟩, hne⟩ := ha
  have hmap : d.mapRead m a = (e, .data w) := by
    unfold Dev.mapRead
    rw [if_neg (not_not_intro halign), if_neg (by omega), if_neg (by omega), if_pos ⟨hlo, hhi⟩, hr]
    rfl
  unfold Dev.busRead
  simp only [hc, hm, hmap, Bool.not_true, Bool.false_eq_true, if_false, if_true]

/-! ### The mailbox registers (R203) -/

theorem mbIn_row : ∀ (p : Fin 18) (n : Fin 4), plainRow (Reg.SPN_MBIN p n) .spn p (0x50 + 4 * n) = true ∧
    regAddr (Reg.SPN_MBIN p n) = true := by decide +kernel

theorem mbOut_row : ∀ (p : Fin 18) (n : Fin 4), plainRow (Reg.SPN_MBOUT p n) .spn p (0x40 + 4 * n) = true ∧
    regAddr (Reg.SPN_MBOUT p n) = true := by decide +kernel

variable {p : Fin 18} {n : Fin 4}

theorem mailboxInWrite_eq (h : s.dev.admits m) (hret : s.dev.rbit (Reg.SPN_STAT p) 9 = false) :
    exec (.mailboxInWrite m p n v) s = .next (s.withDev ((s.dev.mbWrite p n v).answer .ok)) := by
  have hn := n.isLt
  obtain ⟨hrow, haddr⟩ := mbIn_row p n
  have hbad : writeBad .spn p (0x50 + 4 * n) v = false := by
    simp only [writeBad, Bool.or_eq_false_iff, Bool.and_eq_false_iff, decide_eq_false_iff_not]
    omega
  obtain ⟨r, hwrite⟩ := Dev.writeReg_plain (d := s.dev) (m := m) (hw := 0) hrow hbad fun _ => hret
  have hfields : s.dev.writeFields m (Reg.SPN_MBIN p n) ⟨.spn, p, 0x50 + 4 * n, some r⟩ r v = s.dev.mbWrite p n v := by
    have hi : (0x50 + 4 * n.val - 0x50) / 4 = n := by omega
    simp only [Dev.writeFields, p.isLt, dite_true, Dev.writeSpn]
    rw [if_neg (by omega), if_neg (by omega), if_pos (by omega), hi]
  have hex : exec (.mailboxInWrite m p n v) s = s.act fun d => d.busWrite m (Reg.SPN_MBIN p n) .word v 0 := rfl
  rw [hex, State.act_eq, Dev.busWrite_reg h haddr (hwrite.trans (by rw [hfields]))]

theorem mailboxOutRead_eq (hc : s.dev.clocked = true) (hm : s.dev.mayRead m (Reg.SPN_MBOUT p n) = true) :
    exec (.mailboxOutRead m p n) s = .next (s.withDev ((s.dev.mbRead p n).1.answer (.data (s.dev.mbRead p n).2))) := by
  have hn := n.isLt
  obtain ⟨hrow, haddr⟩ := mbOut_row p n
  obtain ⟨r, hread⟩ := Dev.readReg_plain (d := s.dev) hrow
  have hbox : s.dev.readRow (Reg.SPN_MBOUT p n) ⟨.spn, p, 0x40 + 4 * n, some r⟩ r = s.dev.mbRead p n := by
    have hi : (0x40 + 4 * n.val - 0x40) / 4 = n := by omega
    simp only [Dev.readRow]
    rw [if_pos (by omega), hi]
  have hex : exec (.mailboxOutRead m p n) s = s.act fun d => d.busRead m (Reg.SPN_MBOUT p n) := rfl
  rw [hex, State.act_eq, Dev.busRead_reg hc hm haddr (hread.trans (by rw [hbox]))]

/-! ### The settlement -/

theorem boxOf_ofNat (n : Fin 4) : (BitVec.ofNat 8 n).toNat = n := Nat.mod_eq_of_lt (by omega)

theorem Dev.runsOn.modSpn {c : Core} {g : Spindle → Spindle} {p : Nat} (h : d.runsOn e c)
    (hg : ∀ x, (g x).entry = x.entry ∧ (g x).pc = x.pc) : d.runsOn (e.modSpn p g) c := by
  cases c with
  | spn q =>
    obtain ⟨ha, hpc⟩ := h
    refine ⟨ha ▸ ?_, hpc ▸ ?_⟩ <;>
    · simp only [Dev.alive, Dev.pcOf, Dev.modSpn, Dev.spn_setSpn]
      split
      · next hqp => simp [hg, hqp]
      · rfl
  | bob b => exact ⟨h.alive, h.pc⟩

theorem Dev.runsOn_setRbit {c : Core} (a i : Nat) (x : Bool) : d.runsOn (d.setRbit a i x) c := by
  cases c <;> exact ⟨rfl, rfl⟩

theorem Dev.raill_spn {x : Eff} (h : (d.spn p).ra = false) : d.raill (.spn p) x = x := if_neg (by simp [Dev.inRa, h])

theorem ofNat_lowByte (w : Word) : BitVec.ofNat 32 (bitsOf w 7 0) = w &&& 0xFF := by
  have hmask : w.toNat &&& 255 = w.toNat % 256 := Nat.and_two_pow_sub_one_eq_mod w.toNat 8
  apply BitVec.eq_of_toNat_eq
  rw [BitVec.toNat_and, BitVec.toNat_ofNat, show (0xFF : Word).toNat = 255 from rfl, hmask]
  simp only [bitsOf, Nat.shiftRight_zero, Nat.reducePow, Nat.reduceAdd, Nat.reduceSub]
  omega

/-- The trace point of a trace instruction's field. -/
theorem tracePoint (tp : BitVec 6) : (0#2 ++ tp).toNat = tp.toNat := by
  rw [toNat_append_eq]
  simp

/-- Settles O29: the instructions by the state of their box, the masters' accesses by the register that they meet. -/
theorem mailboxesTraceInjection : Obligations.MailboxesTraceInjection := by
  intro p n m r q tp v s d c k st
  have hk : k.toNat = n := boxOf_ofNat n
  have hk4 : k.toNat % 4 = n := by omega
  have hhigh : decide (k.toNat / 4 ≠ 0) = false := by simp [hk, Nat.div_eq_of_lt n.isLt]
  have hbox : ∀ x y : BitVec 5, illBox ⟨k, 0, x, y⟩ = false := fun x y => by simp only [illBox, hhigh]; rfl
  have hpoint : (decide (64 ≤ (0#2 ++ tp).toNat) || nz 0 || nz 0) = false := by
    rw [tracePoint]
    simp only [decide_eq_false (show ¬64 ≤ tp.toNat by omega)]
    rfl
  refine ⟨fun hra => ⟨fun hfull => ?putFull, fun hfree => ?put, fun hfull => ?get, fun hfree => ?getNone, ?status⟩, ?inj,
    fun hra hlen => ?traceQueued, fun hra hlog => ?traceNowhere, fun hm hret => ⟨fun hfree => ?masterFills, fun hfull => ?overflow⟩,
    fun hc hm hfull => ?masterTakes, fun hc hm hfree => ?masterNone⟩
  case putFull =>
    refine runs_effect (hbox r q) rfl rfl ((Dev.raill_spn hra).trans ?_) (Dev.alive_setV ..) (Dev.pcOf_setV ..)
    exact congrArg Eff.next (if_pos (by rw [hk4]; exact hfull))
  case put =>
    have hx := ((Dev.runsOn_setRbit (d := d) (c := c) st (4 + n) true).modSpn (p := p)
      (g := fun x => { x with mbOut := smSet (fun _ => 0) x.mbOut n (d.gv c r) }) fun _ => ⟨rfl, rfl⟩).setV q 1
    refine runs_effect (hbox r q) rfl rfl ((Dev.raill_spn hra).trans ?_) hx.alive hx.pc
    exact congrArg Eff.next ((if_neg (by rw [hk4]; simp [st, hfree, d])).trans (by rw [hk4]))
  case get =>
    have hx := ((Dev.runsOn_setRbit (d := d) (c := c) st n false).modSpn (p := p)
      (g := fun x => { x with mbIn := smSet (fun _ => 0) x.mbIn n 0 }) fun _ => ⟨rfl, rfl⟩).setV q
        (smGet (fun _ => 0) (d.spn p).mbIn n)
    refine runs_effect (Bool.or_eq_false_iff.mpr ⟨hbox 0 q, rfl⟩) rfl rfl ((Dev.raill_spn hra).trans ?_) hx.alive hx.pc
    exact congrArg Eff.next ((if_pos (by rw [hk4]; exact hfull)).trans (by rw [hk4]))
  case getNone =>
    refine runs_effect (Bool.or_eq_false_iff.mpr ⟨hbox 0 q, rfl⟩) rfl rfl ((Dev.raill_spn hra).trans ?_)
      (Dev.alive_setV ..) (Dev.pcOf_setV ..)
    exact congrArg Eff.next (if_neg (by rw [hk4]; simp [st, hfree, d]))
  case status =>
    refine runs_effect (Bool.or_eq_false_iff.mpr ⟨hbox 0 q, rfl⟩) rfl rfl ((Dev.raill_spn hra).trans ?_)
      (Dev.alive_setV ..) (Dev.pcOf_setV ..)
    exact congrArg (fun w => Eff.next (d.setV c q w)) (ofNat_lowByte _)
  case inj =>
    refine runs_effect (Bool.or_eq_false_iff.mpr ⟨Bool.or_eq_false_iff.mpr ⟨hhigh, rfl⟩, rfl⟩) rfl rfl ?_
      (Dev.alive_setV ..) (Dev.pcOf_setV ..)
    exact congrArg (fun i => Eff.next (d.setV c q (smGet (fun _ => 0) (d.spn p).inj i))) hk4
  case traceQueued =>
    have hx : d.runsOn (d.modSpn p fun x => { x with queue := x.queue ++ [.trace tp.toNat (d.gv c r)] }) c :=
      Dev.runsOn.rfl.modSpn fun _ => ⟨rfl, rfl⟩
    refine runs_effect hpoint rfl rfl ((if_pos hra).trans ?_) hx.alive hx.pc
    rw [tracePoint]
    exact if_neg (Nat.not_le.mpr hlen)
  case traceNowhere =>
    have hnone : d.trace p (d.curLoop p) (0#2 ++ tp).toNat (d.gv c r) = d := by simp only [Dev.trace, hlog]
    exact runs_effect hpoint rfl rfl ((if_neg (by simp [d, hra])).trans (congrArg Eff.next hnone)) rfl rfl
  case masterFills => rw [mailboxInWrite_eq hm hret, Dev.mbWrite, if_neg (by simp [st, hfree, d])]
  case overflow => rw [mailboxInWrite_eq hm hret, Dev.mbWrite, if_pos hfull]
  case masterTakes => rw [mailboxOutRead_eq hc hm, Dev.mbRead, if_pos hfull]
  case masterNone => rw [mailboxOutRead_eq hc hm, Dev.mbRead, if_neg (by simp [st, hfree, d])]

end Sys2Proof.Machine
end

section
/-! SUPPORT. The settlement of the draws: a ring hank whose write offset is not word-aligned. -/

namespace Sys2Proof.Machine

/-- A ring hank of requester 0 at the Skein's start, whose write offset is byte 1. -/
def offsetRing : Hank := ⟨0, 0, 0, 1, true, 1, 0, 0, 0⟩

/-- A clocked device with that ring, whose first word is uncorrectable. -/
def offsetRingStruck : Dev :=
  Tests.dev0.modSk fun s => { s with hanks := [(0, offsetRing)], ecc := [(0, .uncorrectable)] }

/-- How requester 0's last draw ended, after an outcome. -/
def Outcome.firstStatus : Host.Outcome State Fault Refusal → Option DrawStatus
  | .next t => some (smGet (fun _ => .none) t.dev.sk.status 0)
  | _ => none

/-- A single word written by requester 0 into hank 0. -/
def ringWrite : DrawSpec := ⟨0, false, true, .hank 0, true, 1, [0], none, []⟩

/-- The write at byte 1 is merged with the struck word, and so fails. -/
theorem firstStatus_ringWrite : Outcome.firstStatus (exec (.drawRequest ringWrite) ⟨offsetRingStruck, []⟩) =
    some .eccError := by
  decide +kernel

theorem settled_offsetRingStruck : offsetRingStruck.settled := ⟨fun _ => rfl, fun _ => rfl⟩

/-- No draw stands before the write. -/
example : (offsetRingStruck.drawsOf 0).isEmpty = true := by decide +kernel

/-- Refutes O30: a single-word write by hank number at a write offset that is not word-aligned is merged with the word
that stands there; where that word is uncorrectable the draw ends with ECC and stores nothing. The last clause for draws by
hank number supposes neither an aligned offset nor a good word. -/
theorem not_skeinDraws : ¬ Obligations.SkeinDraws := by
  intro h
  let s : State := ⟨offsetRingStruck, []⟩
  obtain ⟨-, -, -, -, -, -, hdraws, -⟩ :=
    h 0 false 0 0 0 ringWrite (offsetRingStruck.drawOf ringWrite) s (by decide +kernel)
  obtain ⟨-, haccepted⟩ := hdraws (by decide +kernel) rfl
  obtain ⟨-, hring⟩ := haccepted (by decide +kernel)
  obtain ⟨-, hfits⟩ := hring 0 rfl (by decide +kernel) (by decide +kernel) (by decide +kernel)
    settled_offsetRingStruck (fun _ c hc => nomatch (show none = some c from hc)) (by decide +kernel) (by decide +kernel)
  obtain ⟨t, hrun, -, ⟨-, hok⟩, -⟩ := hfits (by decide +kernel) (by decide +kernel) (by
    intro i v hm _
    obtain ⟨-, rfl⟩ := Prod.mk.inj (List.mem_singleton.1 hm)
    rfl)
  have hst : smGet (fun _ => DrawStatus.none) t.dev.sk.status 0 = .ok := by
    refine (hok (by decide +kernel)).trans ?_
    decide +kernel
  have hecc := firstStatus_ringWrite
  rw [hrun] at hecc
  rw [Outcome.firstStatus, hst] at hecc
  revert hecc
  decide

end Sys2Proof.Machine
end

section
/-! SUPPORT. The settlement of the converter lanes: a prefetch that is owed is made behind a refused delivery. -/

namespace Sys2Proof.Machine

/-- A device whose lane 0 converts channel 0 with its port cut, in bank 0 a draw of class 4 stands, and Whorl 0 owes the
prefetch of its slot, whose first word is uncorrectable. -/
def cutLane : Dev :=
  ((((Tests.dev0.setRbit (Reg.CNV_CTL 0) 0 true).setRbit (Reg.SKN_CUT 0) 0 true).modLane 0 fun x =>
    { x with phase := .converting, scan := [0] }).modWhorl 0 fun w => { w with notice := true }).modSk fun s =>
      { s with draws := [(0, [unitDraw 50 4 none false none 0x100 4 [] [] false .plain])], ecc := [(0, .uncorrectable)] }

/-- The lane's port is cut. -/
example : cutLane.rbit (Reg.SKN_CUT 0) 0 = true := by decide +kernel

/-- SKN_STAT after an outcome. -/
def Outcome.skeinStat : Host.Outcome State Fault Refusal → Option Word
  | .next t => some (t.dev.reg Reg.SKN_STAT)
  | _ => none

theorem skeinStat_conversionEnd :
    Outcome.skeinStat (exec (.conversionEnd 0 0 false) ⟨cutLane, []⟩) ≠ some (cutLane.reg Reg.SKN_STAT) := by
  decide +kernel

/-- Refutes O34: a conversion ends at a lane whose port is cut while a draw stands in bank 0 and a Whorl owes a prefetch:
the prefetch is made behind the refused delivery, and its struck word shows in SKN_STAT, while the statement lets CNV_LAST
alone change and supposes nothing of the Skein's traffic. -/
theorem not_lanes : ¬ Obligations.Lanes := by
  rintro ⟨h, -⟩
  let s : State := ⟨cutLane, []⟩
  obtain ⟨-, -, hconv, -⟩ := h 0 0 0 [] s (by decide +kernel)
  obtain ⟨-, -, hcut⟩ := hconv (by decide +kernel) (by decide +kernel) (by decide +kernel)
  obtain ⟨t, hrun, -, -, -, -, -, -, -, hregs⟩ := hcut (by decide +kernel) (by decide +kernel) (by decide +kernel) (by decide +kernel)
  refine skeinStat_conversionEnd ?_
  rw [show exec (.conversionEnd 0 0 false) ⟨cutLane, []⟩ = .next t from hrun]
  exact congrArg some (hregs Reg.SKN_STAT (by decide +kernel))

end Sys2Proof.Machine
end

section
/-! SUPPORT. Settlements of statements about reactions, pins and Reels that leave the Skein's traffic out. -/

namespace Sys2Proof.Machine

/-! ### The state resistor of a charging function (R387, R542) -/

/-- A device whose function F00 is a grid function with its state resistor at C, which land 0 gives at level 0. -/
def resistorAtC : Dev :=
  Tests.dev0.modFn 0 fun x =>
    { x with entry := some Tests.entry0, desc := some { Tests.desc0 with kind := .grid, land := some 0 }, stateC := true }

/-- The resistor is at C. -/
example : (resistorAtC.fn 0).stateC = true := by decide +kernel

/-- Byte 0 of the Skein after an outcome. -/
def Outcome.firstByte : Host.Outcome State Fault Refusal → Option Byte
  | .next t => some (t.dev.byte 0)
  | _ => none

/-- The event of the Distaff's own fault, which the examples react to. -/
def distaffFault : SrcInst := srcInst 1 0

/-- That device with a DSAFE reaction due. -/
def safeDue : Dev := resistorAtC.modSn fun y => { y with due := [⟨5, distaffFault, true⟩] }

/-- The safe state returns the resistor to B: the mirror word of its land is written. -/
theorem firstByte_reactionDsafe : Outcome.firstByte (exec (.reactionDsafe distaffFault) ⟨safeDue, []⟩) = some 1 := by
  decide +kernel

/-- Refutes O50: DSAFE puts a charging function into its safe state, which returns its state resistor to B by a store into
the mirror word of its land, so not every byte of the Skein stands. -/
theorem not_reactions : ¬ Obligations.Reactions := by
  intro h
  let s : State := ⟨safeDue, []⟩
  obtain ⟨-, -, -, hdsafe, -⟩ := h distaffFault true [] s (by decide +kernel)
  obtain ⟨hsafe, -⟩ := hdsafe (by decide +kernel)
  obtain ⟨t, hrun, -, -, -, -, -, hmem⟩ := hsafe (by decide +kernel) (by decide +kernel)
  have hbyte := firstByte_reactionDsafe
  rw [show exec (.reactionDsafe distaffFault) ⟨safeDue, []⟩ = .next t from hrun] at hbyte
  have hstands : t.dev.byte 0 = 1 := by simpa [Outcome.firstByte] using hbyte
  rw [hmem 0] at hstands
  revert hstands
  decide +kernel

/-- SOFF_N does the same. -/
theorem firstByte_soffAccept : Outcome.firstByte (exec .soffAccept ⟨resistorAtC, []⟩) = some 1 := by
  decide +kernel

/-- Refutes O51: SOFF_N puts a charging function into its safe state, which returns its state resistor to B by a store into
the mirror word of its land, so not every byte of the Skein stands. -/
theorem not_pinsWatchdogsInjection : ¬ Obligations.PinsWatchdogsInjection := by
  intro h
  let s : State := ⟨resistorAtC, []⟩
  obtain ⟨hsoff, -⟩ := h 0 .distaff 0 s
  obtain ⟨t, hrun, -, -, -, -, -, -, hmem, -⟩ := hsoff (by decide +kernel)
  have hbyte := firstByte_soffAccept
  rw [show exec .soffAccept ⟨resistorAtC, []⟩ = .next t from hrun] at hbyte
  have hstands : t.dev.byte 0 = 1 := by simpa [Outcome.firstByte] using hbyte
  rw [hmem 0] at hstands
  revert hstands
  decide +kernel

/-! ### A draw that ends before a Reel's last one (R327, R417) -/

/-- A device whose Reel 0 records into hank 0 and holds one word, while a read of a struck word stands in the bank, whose
failure shows in REL_STAT bit 2. -/
def recordingReel : Dev :=
  (((Tests.dev0.setRbit (Reg.REL_STAT 0) 1 true).modReel 0 fun r => { r with held := [(0, 0)] }).setHank 0
    ⟨0, reqReel 0, 0, 6, true, 0, 0, 0, 0⟩).modSk fun s =>
      { s with
        draws := [(0, [unitDraw 50 0 none false none 0x800 4 [] [] false (.position (Reg.REL_STAT 0) 2)])],
        ecc := [(0x200, .uncorrectable)] }

/-- The Reel records. -/
example : recordingReel.rbit (Reg.REL_STAT 0) 1 = true := by decide +kernel

/-- TRIGD of Reel 0 after an outcome. -/
def Outcome.triggered : Host.Outcome State Fault Refusal → Option Bool
  | .next t => some (t.dev.rbit (Reg.REL_STAT 0) 2)
  | _ => none

theorem triggered_reelStop : Outcome.triggered (exec (.reelStop 0) ⟨recordingReel, []⟩) = some true := by
  decide +kernel

/-- Refutes O48: before the last words of a Reel are placed, the Flyer serves what stands before them in the bank, and the
end of such a draw may set a bit of any status register, REL_STAT's too; only the last part of the clause of STOP supposes
that no draw stands. -/
theorem not_tuningAndReels : ¬ Obligations.TuningAndReels := by
  intro h
  let s : State := ⟨recordingReel, []⟩
  obtain ⟨-, -, -, -, -, -, -, -, -, -, hstop⟩ := h 0 s (by decide +kernel)
  obtain ⟨t, hrun, -, -, -, htrigd, -⟩ := hstop (by decide +kernel)
  have hset := triggered_reelStop
  rw [show exec (.reelStop 0) ⟨recordingReel, []⟩ = .next t from hrun] at hset
  have hstands : t.dev.rbit (Reg.REL_STAT 0) 2 = true := by simpa [Outcome.triggered] using hset
  rw [show t.dev.rbit (Reg.REL_STAT 0) 2 = _ from htrigd] at hstands
  revert hstands
  decide +kernel

end Sys2Proof.Machine
end

section
/-! SUPPORT. Settlements of statements about mode requests, resets and start-up that leave out the state resistor, or the
Skein's traffic that a record program ends with. -/

namespace Sys2Proof.Machine

/-! ### Modes that put a charging function into its safe state (R387, R455, R468, R485) -/

/-- The device with a charging function at C, in a mode. -/
def resistorInMode (mode : Nat) : Dev := resistorAtC.setFld Reg.DST_MODE 3 0 mode

/-- The mode is the one that was asked for. -/
example : (resistorInMode 8).mode = 8 := by decide +kernel

/-- The end of an orderly stop returns the resistor to B. -/
theorem firstByte_orderlyStopEnd : Outcome.firstByte (exec .orderlyStopEnd ⟨resistorInMode 8, []⟩) = some 1 := by
  decide +kernel

/-- Refutes O52: the orderly stop ends in SAFE, where a charging function's state resistor returns to B by a store into the
mirror word of its land, so not every byte of the Skein stands. -/
theorem not_modeRequests : ¬ Obligations.ModeRequests := by
  intro h
  let s : State := ⟨resistorInMode 8, []⟩
  obtain ⟨-, -, -, -, -, hends⟩ := h ⟨.distaff, false⟩ false 0 s
  obtain ⟨t, hrun, -, -, -, -, -, -, -, hmem⟩ := hends (by decide +kernel) (by decide +kernel) (by decide +kernel)
  have hbyte := firstByte_orderlyStopEnd
  rw [show exec .orderlyStopEnd ⟨resistorInMode 8, []⟩ = .next t from hrun] at hbyte
  have hstands : t.dev.byte 0 = 1 := by simpa [Outcome.firstByte] using hbyte
  rw [hmem 0] at hstands
  revert hstands
  decide +kernel

/-- A SELFTEST that finds the Distaff failed. -/
def distaffFails : SelftestResult := ⟨[.distaff], [], [], []⟩

/-- Its end returns the resistor to B. -/
theorem firstByte_selftestEnd : Outcome.firstByte (exec (.selftestEnd distaffFails) ⟨resistorInMode 2, []⟩) = some 1 := by
  decide +kernel

/-- Refutes O54: a SELFTEST that finds the Distaff failed ends in SAFE, where a charging function's state resistor returns to
B by a store into the mirror word of its land, so not every byte of the Skein stands. -/
theorem not_startUp : ¬ Obligations.StartUp := by
  intro h
  let s : State := ⟨resistorInMode 2, []⟩
  obtain ⟨-, -, -, hselftest, -⟩ := h ⟨0, 0, [], false, false, []⟩ distaffFails ⟨[]⟩ (fun _ => 0) none false s
  obtain ⟨hfails, -, -⟩ := hselftest (by decide +kernel) (by decide +kernel)
  obtain ⟨t, hrun, -, -, hmem⟩ := hfails (by decide +kernel)
  have hbyte := firstByte_selftestEnd
  rw [show exec (.selftestEnd distaffFails) ⟨resistorInMode 2, []⟩ = .next t from hrun] at hbyte
  have hstands : t.dev.byte 0 = 1 := by simpa [Outcome.firstByte] using hbyte
  rw [hmem 0] at hstands
  revert hstands
  decide +kernel

/-! ### A record program that reads its payload from the Skein (R488, R499) -/

/-- A record program whose payload word is still to be read at address 0. -/
def payloadDue : FlashJob :=
  { op := .append ⟨7, 0, List.replicate 8 0⟩, src := 0, data := none, dst := 0, n := 3, done := 1, session := false }

/-- A device with that program, while a write of byte 0 stands in the bank that it reads. -/
def writeBeforePayload : Dev :=
  (Tests.dev0.modFl fun x => { x with job := some payloadDue }).modSk fun s =>
    { s with draws := [(0, [unitDraw 50 0 none true none 0 4 [1, 0, 0, 0] [] false .plain])] }

/-- The record program completes over the reset; its read has the write before it served. -/
theorem firstByte_pinReset : Outcome.firstByte (exec .pinReset ⟨writeBeforePayload, []⟩) = some 1 := by
  decide +kernel

/-- Refutes O53: a record program that has started completes over a reset and reads the rest of its payload from the Skein;
a write that stands before that read in the bank is served first, so not every byte of the Skein stands. -/
theorem not_resetsAndSleep : ¬ Obligations.ResetsAndSleep := by
  intro h
  let s : State := ⟨writeBeforePayload, []⟩
  obtain ⟨hreset, -⟩ := h .vio33 s
  obtain ⟨t, hrun, -, -, -, hmem⟩ := hreset
  have hbyte := firstByte_pinReset
  rw [show exec .pinReset ⟨writeBeforePayload, []⟩ = .next t from hrun] at hbyte
  have hstands : t.dev.byte 0 = 1 := by simpa [Outcome.firstByte] using hbyte
  rw [hmem 0] at hstands
  revert hstands
  decide +kernel

/-! ### A session's request of BOOT -/

/-- That device in CONFIG, with a session of role SERVICE open. -/
def serviceOpen : Dev :=
  (writeBeforePayload.setFld Reg.DST_MODE 3 0 4).modSv fun x => { x with role := some 2, link := some .usb, seq := 0 }

/-- The session's device is in CONFIG. -/
example : serviceOpen.mode = 4 := by decide +kernel

/-- The next frame of that session. -/
def nextFrame : SesFrame := ⟨.usb, 1, true⟩

theorem firstByte_sessionMode : Outcome.firstByte (exec (.sessionMode nextFrame 1) ⟨serviceOpen, []⟩) = some 1 := by
  decide +kernel

/-- Refutes O58: a session's request of BOOT is such a reset: the record program completes, and a write that stands before
its read in the bank is served first. -/
theorem not_sessionCommands : ¬ Obligations.SessionCommands := by
  intro h
  let s : State := ⟨serviceOpen, []⟩
  obtain ⟨-, -, -, -, -, -, -, -, -, -, -, hservice, -⟩ :=
    h nextFrame 0 0 [] [] 2 0 0 false 0 0 0 [] [] s (by decide +kernel) rfl rfl rfl (by decide +kernel) (by decide)
  obtain ⟨-, -, -, -, -, hmodes⟩ := hservice (by decide)
  obtain ⟨-, -, -, -, -, -, -, -, -, hboot⟩ := hmodes (by decide +kernel)
  obtain ⟨t, hrun, -, -, -, -, hmem⟩ := hboot (by decide +kernel)
  have hbyte := firstByte_sessionMode
  rw [show exec (.sessionMode nextFrame 1) ⟨serviceOpen, []⟩ = .next t from hrun] at hbyte
  have hstands : t.dev.byte 0 = 1 := by simpa [Outcome.firstByte] using hbyte
  rw [hmem 0] at hstands
  revert hstands
  decide +kernel

end Sys2Proof.Machine
end

section
/-! SUPPORT. Settlements of statements about a published round, the flash controller and received frames that leave out a
draw which stands, or an offset that is not aligned. -/

namespace Sys2Proof.Machine

/-! ### A draw that ends before word 3 of a command line is placed (R480) -/

/-- A device whose housekeeping round is under way and whose function F00 has its command line at 0, while a read of a struck
word stands in that bank, whose failure shows in THM_STAT bit 2. -/
def roundUnderWay : Dev :=
  (((Tests.dev0.setRbit Reg.HKP_STAT 18 true).modFn 0 fun x =>
    { x with entry := some { Tests.entry0 with cmdl := 0 } }).modSk fun s =>
      { s with
        draws := [(0, [unitDraw 50 0 none false none 0x800 4 [] [] false (.position Reg.THM_STAT 2)])],
        ecc := [(0x200, .uncorrectable)] })

/-- The round is under way. -/
example : roundUnderWay.rbit Reg.HKP_STAT 18 = true := by decide +kernel

/-- Rail voltages of a round whose temperature is 25 degrees. -/
def roundVolts : List Int := [2000]

/-- WARN after an outcome. -/
def Outcome.warns : Host.Outcome State Fault Refusal → Option Bool
  | .next t => some (t.dev.rbit Reg.THM_STAT 2)
  | _ => none

theorem warns_round : Outcome.warns (exec (.housekeepingRoundPublish roundVolts) ⟨roundUnderWay, []⟩) = some true := by
  decide +kernel

/-- Refutes O55: after the levels are judged the Distaff writes word 3 of every command line; before that store the Flyer
serves what stands in the bank, and the end of such a draw may set a bit of any status register, THM_STAT's too. -/
theorem not_clocksGovernorTemperature : ¬ Obligations.ClocksGovernorTemperature := by
  intro h
  let s : State := ⟨roundUnderWay, []⟩
  obtain ⟨-, -, -, -, -, -, -, -, -, hround⟩ := h 0 false .distaff 0 roundVolts payloadDue s
  obtain ⟨hvalid, -⟩ := hround (by decide +kernel) (by decide +kernel) (by decide +kernel)
  obtain ⟨t, hrun, -, hlevels, -⟩ := hvalid (by decide +kernel)
  obtain ⟨hwarn, -⟩ := hlevels ⟨2, Src.THM_WARN, false, 1120, some 1080⟩ (by decide)
  have hset := warns_round
  rw [show exec (.housekeepingRoundPublish roundVolts) ⟨roundUnderWay, []⟩ = .next t from hrun] at hset
  have hstands : t.dev.rbit Reg.THM_STAT 2 = true := by simpa [Outcome.warns] using hset
  rw [show t.dev.rbit Reg.THM_STAT 2 = _ from hwarn] at hstands
  revert hstands
  decide +kernel

/-! ### A record that crosses a sector boundary (R506) -/

/-- A RETIRE record. -/
def retireRecord : Rec := ⟨1, 0, []⟩

/-- A record program with one word left, whose place crosses the boundary of sectors 0 and 1. -/
def crossingJob : FlashJob :=
  { op := .append retireRecord, src := 0, data := some (List.replicate 32 0), dst := 16368, n := 1, done := 0,
    session := false }

/-- A device with that program, sectors 0 to 2 erased and no other. -/
def crossingDev : Dev :=
  Tests.dev0.modFl fun x =>
    { x with job := some crossingJob, mem := (List.range 29).map fun i => (16384 * (i + 3), 0) }

/-- The sequence numbers of the journal's records after an outcome. -/
def Outcome.journal : Host.Outcome State Fault Refusal → Option (List Nat)
  | .next t => some (t.dev.fl.recs.map Prod.fst)
  | _ => none

/-- The word takes two erased sectors, so the journal is compacted and its record renumbered. -/
theorem journal_flashWordDone : Outcome.journal (exec (.flashWordDone true) ⟨crossingDev, []⟩) = some [1] := by
  decide +kernel

/-- Refutes O56: three erased sectors are enough only for a word that lies within one; the clause does not say that the
program's place is aligned, and a word across a sector boundary leaves one erased sector, so the journal is compacted. -/
theorem not_flashOperations : ¬ Obligations.FlashOperations := by
  intro h
  let s : State := ⟨crossingDev, []⟩
  obtain ⟨-, -, -, -, -, hjob, -⟩ := h .distaff 0 0 crossingJob retireRecord (List.replicate 32 0) true s
  obtain ⟨-, -, happend, -⟩ := hjob rfl (by decide +kernel)
  obtain ⟨-, hlast⟩ := happend rfl rfl (by decide +kernel)
  obtain ⟨t, hrun, -, hrecs, -⟩ := hlast rfl (by decide +kernel)
  have hjournal := journal_flashWordDone
  rw [show exec (.flashWordDone true) ⟨crossingDev, []⟩ = .next t from hrun] at hjournal
  have hone : t.dev.fl.recs.map Prod.fst = [1] := by simpa [Outcome.journal] using hjournal
  rw [hrecs] at hone
  revert hone
  decide +kernel

/-! ### A granted draw of a link that is reset (R32, R527) -/

/-- A SENT receiver that is on, whose granted write of byte 0 stands in its bank. -/
def grantedReceiver : Dev :=
  (Tests.dev0.setRbit (Reg.LNK_CTL 14) 0 true).modSk fun s =>
    { s with draws := [(0, [{ unitDraw (reqLink 14) 3 none true none 0 4 [1, 0, 0, 0] [] false .plain with granted := true }])] }

/-- The receiver is on. -/
example : grantedReceiver.rbit (Reg.LNK_CTL 14) 0 = true := by decide +kernel

/-- The reset clears EN first, and that withdraws only what is not granted: the granted write goes on. -/
theorem firstByte_linkReset : Outcome.firstByte (exec (.linkReset 14) ⟨grantedReceiver, []⟩) = some 1 := by
  decide +kernel

theorem req_of_mem_drawsOf_grantedReceiver (b : Nat) (y : Draw) (hy : y ∈ grantedReceiver.drawsOf b) : y.req = reqLink 14 := by
  by_cases hb : b = 0
  · subst hb
    revert y
    decide +kernel
  · have hnone : grantedReceiver.drawsOf b = [] := by
      simp [Dev.drawsOf, grantedReceiver, Dev.modSk, smGet, Ne.symm hb]
    simp [hnone] at hy

/-- Refutes O59: a link's reset acts first as a clear of EN, which withdraws the draws that are not granted and lets the
others go on before the reset drops them, so not every byte of the Skein stands. -/
theorem not_linkFrames : ¬ Obligations.LinkFrames := by
  intro h
  let s : State := ⟨grantedReceiver, []⟩
  obtain ⟨-, -, -, -, -, -, -, -, -, hreset⟩ := h 14 ⟨true, [], 0, 0, 0, 0⟩ 0 0 0 0 0 s (by decide +kernel)
  obtain ⟨t, hrun, -, -, -, -, -, -, -, -, hidle⟩ := hreset req_of_mem_drawsOf_grantedReceiver (fun _ => rfl)
  obtain ⟨hmem, -⟩ := hidle (by decide +kernel)
  have hbyte := firstByte_linkReset
  rw [show exec (.linkReset 14) ⟨grantedReceiver, []⟩ = .next t from hrun] at hbyte
  have hstands : t.dev.byte 0 = 1 := by simpa [Outcome.firstByte] using hbyte
  rw [hmem 0] at hstands
  revert hstands
  decide +kernel

end Sys2Proof.Machine
end

section
/-! SUPPORT. The opening and the end of a service session (R513 to R516): what a frame of a session meets, and where a
SERVICE returns to. -/

namespace Sys2Proof.Machine

variable {d e : Dev} {s : State}

/-! ### Rules for what a chain of updates keeps -/

theorem Dev.keeps.rfl {but : List Nat} : d.keeps d but := ⟨fun _ => by rfl, fun _ _ => by rfl⟩

/-- An update of no register and no byte. -/
theorem Dev.keeps.same {but : List Nat} {f : Dev} (h : d.keeps e but) (hsk : f.sk = e.sk) (hregs : f.regs = e.regs) :
    d.keeps f but := by
  simpa using h.trans (Dev.keeps_of_eq hsk hregs)

theorem Dev.keeps.mono {as bs : List Nat} (h : d.keeps e as) (hs : as ⊆ bs) : d.keeps e bs :=
  ⟨h.1, fun a ha => h.2 a fun hm => ha (hs hm)⟩

/-- A write of a register that is named. -/
theorem Dev.keeps.set {but : List Nat} (h : d.keeps e but) (a : Nat) (w : Word) (ha : a ∈ but) : d.keeps (e.setReg a w) but :=
  (h.trans (Dev.keeps_setReg a w)).mono (by simpa using ha)

theorem Dev.keeps.bit {but : List Nat} (h : d.keeps e but) (a i : Nat) (b : Bool) (ha : a ∈ but) :
    d.keeps (e.setRbit a i b) but := h.set a _ ha

theorem Dev.keeps.field {but : List Nat} (h : d.keeps e but) (a hi lo v : Nat) (ha : a ∈ but) :
    d.keeps (e.setFld a hi lo v) but := h.set a _ ha

/-! ### A change of the mode (R458, R459) -/

/-- The registers that a change of the mode may write. -/
def modeRegs : List Nat := [Reg.DST_MODE, Reg.SNL_MREQ, Reg.GOV_CTL, Reg.GOV_STAT, Reg.GOV_CNT]

theorem Dev.keeps_govEval : d.keeps d.govEval [Reg.GOV_STAT, Reg.GOV_CNT] := by
  simp only [Dev.govEval]
  split
  · refine .same ?_ (Dev.raise_sk ..) (Dev.raise_regs ..)
    exact (((Dev.keeps.rfl.set _ _ (by simp)).set _ _ (by simp)).set _ _ (by simp)).set _ _ (by simp)
  · exact Dev.keeps.rfl.set _ _ (by simp)

theorem Dev.sv_govEval : d.govEval.sv = d.sv := by
  simp only [Dev.govEval]
  split <;> simp [Dev.setFld, Dev.setRbit, Dev.incFld]

theorem Dev.su_govEval : d.govEval.su = d.su := by
  simp only [Dev.govEval]
  split <;> simp [Dev.setFld, Dev.setRbit, Dev.incFld]

theorem Dev.keeps_injAbort : d.keeps d.injAbort [] := by
  unfold Dev.injAbort
  split
  · exact Dev.keeps_of_eq (by rfl) (by rfl)
  · exact .rfl

theorem Dev.sv_injAbort : d.injAbort.sv = d.sv := by
  unfold Dev.injAbort
  split <;> rfl

theorem Dev.su_injAbort : d.injAbort.su = d.su := by
  unfold Dev.injAbort
  split <;> rfl

/-- The end of SERVICE aborts an injection and ends FORCE. -/
def Dev.serviceEnds (d : Dev) : Dev := (d.injAbort.setFld Reg.GOV_CTL 2 1 0).govEval

theorem Dev.keeps_serviceEnds : d.keeps d.serviceEnds [Reg.GOV_CTL, Reg.GOV_STAT, Reg.GOV_CNT] :=
  (((Dev.keeps_injAbort.mono (List.nil_subset [Reg.GOV_CTL])).set _ _ (by simp)).trans Dev.keeps_govEval).mono (by simp)

theorem Dev.keeps_reqRefuse (code : Nat) : d.keeps (d.reqRefuse code) [Reg.SNL_MREQ] :=
  (Dev.keeps.rfl.bit Reg.SNL_MREQ _ _ (by simp)).field _ _ _ _ (by simp)

/-- A RUN request that waits for its round is refused when the mode goes elsewhere. -/
def Dev.runDropped (d : Dev) (m : Nat) : Dev :=
  if d.su.runReq && decide (m ≠ 6) && decide (m ≠ 7) then
    ((d.setRbit Reg.SNL_MREQ 17 false).reqRefuse 8).modSu fun x => { x with runReq := false }
  else d

theorem Dev.keeps_runDropped (m : Nat) : d.keeps (d.runDropped m) [Reg.SNL_MREQ] := by
  unfold Dev.runDropped
  split
  · have hbit : d.keeps (d.setRbit Reg.SNL_MREQ 17 false) [Reg.SNL_MREQ] := Dev.keeps.rfl.bit _ _ _ (by simp)
    exact ((hbit.trans (Dev.keeps_reqRefuse 8)).mono (by simp)).same (by rfl) (by rfl)
  · exact .rfl

theorem Dev.sv_runDropped (m : Nat) : (d.runDropped m).sv = d.sv := by
  unfold Dev.runDropped
  split <;> rfl

/-- The mode registers of a change to another mode. -/
def Dev.modeShown (d : Dev) (m : Nat) : Dev :=
  ((d.setFld Reg.DST_MODE 7 4 d.mode).setFld Reg.DST_MODE 3 0 m).setRbit Reg.SNL_MREQ 18 true

theorem Dev.keeps_modeShown (m : Nat) : d.keeps (d.modeShown m) [Reg.DST_MODE, Reg.SNL_MREQ] :=
  ((Dev.keeps.rfl.set _ _ (by simp)).set _ _ (by simp)).set _ _ (by simp)

theorem Dev.mode_modeShown {m : Nat} (hm : m < 16) : (d.modeShown m).mode = m := by
  rw [Dev.mode, Dev.fld, Dev.modeShown, Dev.reg_setRbit_other _ _ _ (by decide)]
  exact (Dev.fld_setFld _ _ 3 0 m (by decide) (by decide)).trans (Nat.mod_eq_of_lt hm)

/-- A change of the mode: the mode registers, the end of SERVICE, the RUN request that waits. -/
theorem Dev.setMode_eq {m : Nat} (h : d.mode ≠ m) :
    d.setMode m = ((if d.mode = 10 then (d.modeShown m).serviceEnds else d.modeShown m).runDropped m).modSu
      fun x => { x with sleepReq := false } := by
  unfold Dev.setMode
  simp only [if_neg h]
  rfl

theorem Dev.setMode_self : d.setMode d.mode = d := if_pos rfl

theorem Dev.keeps_setMode (m : Nat) : d.keeps (d.setMode m) modeRegs := by
  by_cases h : d.mode = m
  · subst h; rw [Dev.setMode_self]; exact .rfl
  · rw [Dev.setMode_eq h]
    refine .same (((Dev.keeps_modeShown m).trans (?_ : Dev.keeps _ _ modeRegs)).trans (Dev.keeps_runDropped m) |>.mono
      (by simp [modeRegs])) (by rfl) (by rfl)
    split
    · exact Dev.keeps_serviceEnds.mono (by simp [modeRegs])
    · exact .rfl

theorem Dev.mode_setMode {m : Nat} (hm : m < 16) : (d.setMode m).mode = m := by
  by_cases h : d.mode = m
  · rw [← h, Dev.setMode_self]
  · rw [Dev.setMode_eq h]
    refine Eq.trans (congrArg (fun w => bitsOf w 3 0) ?_) (Dev.mode_modeShown (d := d) hm)
    refine ((Dev.keeps_runDropped m).2 _ (by decide)).trans ?_
    split
    · exact Dev.keeps_serviceEnds.2 _ (by decide)
    · rfl

theorem Dev.sv_setMode (m : Nat) : (d.setMode m).sv = d.sv := by
  by_cases h : d.mode = m
  · rw [← h, Dev.setMode_self]
  · rw [Dev.setMode_eq h, Dev.modSu_sv, Dev.sv_runDropped]
    split
    · exact Dev.sv_govEval.trans Dev.sv_injAbort
    · rfl

/-! ### The end of a session (R516) -/

theorem Dev.leaveService_other (h : d.mode ≠ 10) : d.leaveService = d := if_neg h

/-- The mode that a SERVICE returns to (R459). -/
def Dev.modeBefore (d : Dev) : Nat := if d.fld Reg.DST_MODE 11 8 = 6 then d.runMode else d.fld Reg.DST_MODE 11 8

theorem Dev.runMode_lt : d.runMode < 16 := by
  unfold Dev.runMode
  split <;> decide

theorem Dev.modeBefore_lt : d.modeBefore < 16 := by
  unfold Dev.modeBefore
  split
  · exact Dev.runMode_lt
  · exact bitsOf_lt _ 11 8

theorem Dev.leaveService_service (h : d.mode = 10) :
    d.leaveService = (d.setMode d.modeBefore).when (decide (d.fld Reg.DST_MODE 11 8 = 3) && d.su.supplied.isSome)
      fun e => e.setRbit Reg.DST_BOOT 3 true := by
  unfold Dev.leaveService
  simp only [if_pos h, Dev.when]
  rfl

theorem Dev.mode_leaveService (h : d.mode = 10) : d.leaveService.mode = d.modeBefore := by
  rw [Dev.leaveService_service h, Dev.when]
  split
  · rw [Dev.mode, Dev.fld, Dev.reg_setRbit_other _ _ _ (by decide)]
    exact Dev.mode_setMode Dev.modeBefore_lt
  · exact Dev.mode_setMode Dev.modeBefore_lt

theorem Dev.sv_leaveService : d.leaveService.sv = d.sv := by
  by_cases h : d.mode = 10
  · rw [Dev.leaveService_service h, Dev.when]
    split <;> exact Dev.sv_setMode _
  · rw [Dev.leaveService_other h]

/-- An image supplied in the SERVICE of LOAD is used. -/
theorem Dev.supplied_leaveService (h : d.mode = 10) (hentry : d.fld Reg.DST_MODE 11 8 = 3)
    (hsup : d.su.supplied.isSome = true) : d.leaveService.rbit Reg.DST_BOOT 3 = true := by
  rw [Dev.leaveService_service h, decide_eq_true hentry, hsup]
  exact (Dev.rbit_setRbit _ _ 3 3 true (by decide)).trans (if_pos rfl)

/-- What the end of a session leaves: none open, the failed AUTHs, and outside SERVICE every register and byte. -/
structure Dev.sessionOver (d e : Dev) : Prop where
  role : e.sv.role = none
  link : e.sv.link = none
  fails : e.sv.fails = d.sv.fails
  kept : d.mode ≠ 10 → d.keeps e []
  mode : d.mode = 10 → e.mode = d.modeBefore
  boot : d.mode = 10 → d.fld Reg.DST_MODE 11 8 = 3 → d.su.supplied.isSome = true → e.rbit Reg.DST_BOOT 3 = true

theorem Dev.sessionOver_endSession (lost : Bool) : d.sessionOver (d.endSession lost) := by
  have hreg : ∀ a, (d.endSession lost).reg a = d.dropSession.leaveService.reg a := fun a => by
    unfold Dev.endSession Dev.when
    split
    · exact Dev.reg_raise ..
    · rfl
  have hsv : (d.endSession lost).sv = d.dropSession.sv := by
    refine Eq.trans ?_ (Dev.sv_leaveService (d := d.dropSession))
    unfold Dev.endSession Dev.when
    split
    · exact Dev.raise_sv ..
    · rfl
  have hsk : (d.endSession lost).sk = d.dropSession.leaveService.sk := by
    unfold Dev.endSession Dev.when
    split
    · exact Dev.raise_sk ..
    · rfl
  refine ⟨by rw [hsv]; rfl, by rw [hsv]; rfl, by rw [hsv]; rfl, fun h => ?_, fun h => ?_, fun h hentry hsup => ?_⟩
  · have hleave : d.dropSession.leaveService = d.dropSession := Dev.leaveService_other h
    rw [hleave] at hreg hsk
    exact ⟨fun a => by rw [Dev.byte, hsk]; rfl, fun a _ => hreg a⟩
  · exact (congrArg (fun w => bitsOf w 3 0) (hreg _)).trans (Dev.mode_leaveService (d := d.dropSession) h)
  · exact (congrArg (fun w => bitOf w 3) (hreg _)).trans (Dev.supplied_leaveService (d := d.dropSession) h hentry hsup)

theorem Dev.raised_endSession : (d.endSession true).raised 135 0 := Dev.mem_raise _ _ _

/-! ### A frame of a session (R515) -/

variable {h : SesFrame} {act : Dev → Dev}

theorem Dev.frame_closed (ho : d.sv.role = none ∨ d.sv.link ≠ some h.t) : d.frame h act = d.reply 0x10 [] :=
  if_pos (by simpa using ho)

variable (hr : d.sv.role.isSome = true) (hl : d.sv.link = some h.t)

include hr hl in
theorem Dev.frame_open : d.frame h act =
    if !h.macOk then d.reply 0x14 []
    else if h.seq.toNat = d.sv.seq then d.modSv fun x => { x with lastAt := d.now, sent := x.resp }
    else if h.seq.toNat ≠ (d.sv.seq + 1) % 65536 then d.reply 0x14 []
    else act (d.modSv fun x => { x with lastAt := d.now, seq := h.seq.toNat, resp := none }) :=
  if_neg (by simpa [hl] using Option.isSome_iff_ne_none.mp hr)

include hr hl in
theorem Dev.frame_badMac (hm : h.macOk = false) : d.frame h act = d.reply 0x14 [] := by
  rw [Dev.frame_open hr hl, hm]; rfl

include hr hl in
theorem Dev.frame_repeated (hm : h.macOk = true) (hs : h.seq.toNat = d.sv.seq) :
    d.frame h act = d.modSv fun x => { x with lastAt := d.now, sent := x.resp } := by
  rw [Dev.frame_open hr hl, hm, Bool.not_true, if_neg Bool.false_ne_true, if_pos hs]

include hr hl in
theorem Dev.frame_outOfSeq (hm : h.macOk = true) (hs : h.seq.toNat ≠ d.sv.seq)
    (hn : h.seq.toNat ≠ (d.sv.seq + 1) % 65536) : d.frame h act = d.reply 0x14 [] := by
  rw [Dev.frame_open hr hl, hm, Bool.not_true, if_neg Bool.false_ne_true, if_neg hs, if_pos hn]

theorem seqNext_ne (q : BitVec 16) (n : Nat) (h : q.toNat = (n + 1) % 65536) : q.toNat ≠ n := by
  have := q.isLt
  omega

include hr hl in
theorem Dev.frame_next (hm : h.macOk = true) (hs : h.seq.toNat = (d.sv.seq + 1) % 65536) :
    d.frame h act = act (d.modSv fun x => { x with lastAt := d.now, seq := h.seq.toNat, resp := none }) := by
  rw [Dev.frame_open hr hl, hm, Bool.not_true, if_neg Bool.false_ne_true, if_neg (seqNext_ne _ _ hs), if_neg (not_not.mpr hs)]

/-! ### HELLO and AUTH (R513, R514) -/

theorem Dev.keeps_modSv (g : SessionSt → SessionSt) : d.keeps (d.modSv g) [] := Dev.keeps_of_eq rfl rfl

theorem Dev.helloMode_iff : d.helloMode = true ↔ 3 ≤ d.mode ∧ d.mode ≤ 10 := by simp [Dev.helloMode]

section Opening

variable {t : Transport} {nonce mac : List Byte} {role : Nat}

theorem Dev.hello_otherMode (hm : d.helloMode = false) : d.hello t nonce = d.reply 0x12 [] := by
  rw [Dev.hello, hm]; rfl

theorem Dev.auth_otherMode (hm : d.helloMode = false) : d.auth h role mac = d.reply 0x12 [] := by
  rw [Dev.auth, hm]; rfl

theorem Dev.hello_lockout (hm : d.helloMode = true) (hk : d.sv.lockout = true) : d.hello t nonce = d.reply 0x15 [] := by
  rw [Dev.hello, hm, hk]; rfl

theorem Dev.auth_lockout (hm : d.helloMode = true) (hk : d.sv.lockout = true) : d.auth h role mac = d.reply 0x15 [] := by
  rw [Dev.auth, hm, hk]; rfl

/-- HELLO where a session or a nonce stands on another transport is refused; elsewhere it takes the transport. -/
theorem Dev.hello_eq (hm : d.helloMode = true) (hk : d.sv.lockout = false) : d.hello t nonce =
    if (d.sv.role.isSome = true ∨ d.nonceValid = true) ∧ d.sv.link ≠ some t then d.reply 0x16 []
    else (d.modSv fun x => { x with link := some t, nonce := some nonce, nonceAt := d.now }).reply 0
      (wordsOfBytes nonce ++ [d.idnWord 8, d.idnWord 0xC]) := by
  rw [Dev.hello, hm, hk]
  simp

/-- AUTH with the MAC over a nonce that stands opens the session; any other fails. -/
theorem Dev.auth_eq (hm : d.helloMode = true) (hk : d.sv.lockout = false) : d.auth h role mac =
    if d.nonceValid = true ∧ d.sv.link = some h.t ∧ 1 ≤ role ∧ role ≤ 3 ∧ mac = d.authMac role then
      (d.modSv fun x => { x with nonce := none, role := some role, seq := h.seq.toNat, lastAt := d.now, fails := 0,
                                 waitFlash := none }).respond 0 []
    else d.authFail := by
  rw [Dev.auth, hm, hk]
  simp [and_assoc]

end Opening

/-- A failed AUTH: the count, after three in a row the lockout, and SVC_AUTH. -/
theorem Dev.authFail_fails :
    d.authFail.sv.fails = d.sv.fails + 1 ∧ d.authFail.sv.lockout = decide (2 ≤ d.sv.fails) ∧
      (2 ≤ d.sv.fails → d.authFail.sv.lockAt = d.now) ∧ d.authFail.raised 134 0 ∧
      d.authFail.sv.sent = some ⟨0x10, []⟩ ∧ d.authFail.sv.role = d.sv.role ∧ d.keeps d.authFail [] := by
  have hsv : d.authFail.sv = { d.sv with
      fails := d.sv.fails + 1, lockout := decide (3 ≤ d.sv.fails + 1),
      lockAt := if 3 ≤ d.sv.fails + 1 then d.now else d.sv.lockAt,
      nonce := if 3 ≤ d.sv.fails + 1 then none else d.sv.nonce, sent := some ⟨0x10, []⟩ } := by
    simp [Dev.authFail, Dev.reply]
  rw [hsv]
  refine ⟨rfl, by simp, fun h2 => if_pos (by omega), Dev.mem_raise _ _ _, rfl, rfl, ?_⟩
  exact Dev.keeps_of_eq (by simp [Dev.authFail, Dev.reply]) (by simp [Dev.authFail, Dev.reply])

/-- The commands of an open session are frames of it. -/
theorem exec_sessionFrame {a : Word} {k c : Nat} {ws : List Word} {bs : List Byte} {q : Bool} {req : BitVec 4}
    {x y : BitVec 24} {fuses : List (BitVec 9 × Word)} {struck : List (BitVec 18 × Bool)} {i : Instr}
    (hi : i ∈ [Instr.sessionKeep h, .sessionBye h, .sessionRead h a k, .sessionWrite h a ws, .sessionMode h req,
      .sessionStatus h, .sessionJread h a, .sessionIdent h, .sessionErase h k c, .sessionProg h k bs,
      .sessionVerify h q fuses struck, .sessionRollback h struck, .sessionLdrun h ⟨x, y⟩]) :
    ∃ act, exec i s = s.run fun d => d.frame h act := by
  simp only [List.mem_cons, List.not_mem_nil, or_false] at hi
  obtain rfl | rfl | rfl | rfl | rfl | rfl | rfl | rfl | rfl | rfl | rfl | rfl | rfl := hi <;> exact ⟨_, rfl⟩

theorem exec_sessionBye : exec (.sessionBye h) s = s.run fun d => d.frame h fun d => (d.reply 0 []).endSession false := rfl

theorem exec_sessionTimeout : exec .sessionTimeout s = s.run fun d =>
    if d.sv.role.isSome && decide (d.sv.lastAt + ticksMs 10000 ≤ d.now) then d.endSession true else d := rfl

theorem exec_sessionTransportLoss {t : Transport} : exec (.sessionTransportLoss t) s = s.run fun d =>
    if d.sv.link = some t then
      (if d.sv.role.isSome then d.endSession true else d.modSv fun x => { x with link := none, nonce := none })
    else d := rfl

theorem exec_lockoutExpiry : exec .lockoutExpiry s = s.run fun d =>
    if d.sv.lockAt + ticksMs 60000 ≤ d.now then d.modSv fun x => { x with lockout := false } else d := rfl

/-- A session that outlives its last valid frame by less than 10 s goes on. -/
theorem sessionTimeout_early {T : Nat} (hT : T = ticksMs 10000) (h : s.dev.sv.role = none ∨ s.dev.now < s.dev.sv.lastAt + T) :
    exec .sessionTimeout s = .next s := by
  subst hT
  refine exec_idle_of_run exec_sessionTimeout (if_neg ?_)
  rw [Bool.and_eq_true, decide_eq_true_eq]
  rintro ⟨hr, hlate⟩
  rcases h with hnone | hearly
  · rw [hnone] at hr
    exact Bool.noConfusion hr
  · exact absurd hlate (Nat.not_le.mpr hearly)

theorem sessionTimeout_late (hc : s.dev.clocked = true) (hr : s.dev.sv.role.isSome = true)
    (h : s.dev.sv.lastAt + ticksMs 10000 ≤ s.dev.now) :
    exec .sessionTimeout s = .next (s.withDev (s.dev.endSession true)) := by
  rw [exec_eq_of_run exec_sessionTimeout hc, if_pos]
  rw [hr, decide_eq_true h]
  rfl

theorem lockoutExpiry_early (h : s.dev.now < s.dev.sv.lockAt + ticksMs 60000) : exec .lockoutExpiry s = .next s :=
  exec_idle_of_run exec_lockoutExpiry (if_neg (Nat.not_le.mpr h))

theorem lockoutExpiry_late (hc : s.dev.clocked = true) (h : s.dev.sv.lockAt + ticksMs 60000 ≤ s.dev.now) :
    exec .lockoutExpiry s = .next (s.withDev (s.dev.modSv fun x => { x with lockout := false })) := by
  rw [exec_eq_of_run exec_lockoutExpiry hc, if_pos h]

theorem Dev.sent_endSession (lost : Bool) : (d.endSession lost).sv.sent = d.sv.sent := by
  have h : (d.endSession lost).sv = d.dropSession.leaveService.sv := by
    unfold Dev.endSession Dev.when
    split
    · exact Dev.raise_sv ..
    · rfl
  rw [h, Dev.sv_leaveService]
  rfl

/-- BYE ends the session with its answer. -/
theorem Dev.sessionOver_bye {seq now : Nat} :
    let x := (d.modSv fun x => { x with lastAt := now, seq := seq, resp := none }).reply 0 []
    d.sessionOver (x.endSession false) ∧ (x.endSession false).sv.sent = some ⟨0, []⟩ := by
  intro x
  obtain ⟨hrole, hlink, hfails, hkept, hmode, hboot⟩ := Dev.sessionOver_endSession (d := x) false
  exact ⟨⟨hrole, hlink, hfails, hkept, hmode, hboot⟩, Dev.sent_endSession (d := x) false⟩

section Frames

variable {a : Word} {k c : Nat} {ws : List Word} {bs : List Byte} {q : Bool} {req : BitVec 4} {x y : BitVec 24}
  {fuses : List (BitVec 9 × Word)} {struck : List (BitVec 18 × Bool)} {f : Dev} {i : Instr}

/-- A frame that its session meets the same way, whatever it asks for. -/
theorem exec_sessionFrame_eq (hc : s.dev.clocked = true) (hf : ∀ act, s.dev.frame h act = f)
    (hi : i ∈ [Instr.sessionKeep h, .sessionBye h, .sessionRead h a k, .sessionWrite h a ws, .sessionMode h req,
      .sessionStatus h, .sessionJread h a, .sessionIdent h, .sessionErase h k c, .sessionProg h k bs,
      .sessionVerify h q fuses struck, .sessionRollback h struck, .sessionLdrun h ⟨x, y⟩]) :
    exec i s = .next (s.withDev f) := by
  obtain ⟨act, hex⟩ := exec_sessionFrame (s := s) hi
  rw [exec_eq_of_run hex hc, hf act]

end Frames

theorem sessionHello_eq {t : Transport} {nonce : List Byte} (hc : s.dev.clocked = true) :
    exec (.sessionHello t nonce) s = .next (s.withDev (s.dev.hello t nonce)) :=
  exec_eq_of_run (f := fun d => d.hello t nonce) rfl hc

theorem sessionHello_of {t : Transport} {nonce : List Byte} {f : Dev} (hf : s.dev.hello t nonce = f)
    (hc : s.dev.clocked = true) : exec (.sessionHello t nonce) s = .next (s.withDev f) := hf ▸ sessionHello_eq hc

theorem sessionAuth_eq {role : BitVec 8} {mac : List Byte} (hc : s.dev.clocked = true) :
    exec (.sessionAuth h role mac) s = .next (s.withDev (s.dev.auth h role.toNat mac)) :=
  exec_eq_of_run (f := fun d => d.auth h role.toNat mac) rfl hc

theorem sessionAuth_of {role : BitVec 8} {mac : List Byte} {f : Dev} (hf : s.dev.auth h role.toNat mac = f)
    (hc : s.dev.clocked = true) : exec (.sessionAuth h role mac) s = .next (s.withDev f) := hf ▸ sessionAuth_eq hc

/-- Settles O57: the frames by what an open session admits, HELLO and AUTH by their conditions, the ends of a session by
what it leaves. -/
theorem sessionOpening : Obligations.SessionOpening := by
  intro h fuses struck nonce mac role q req a ws bs k c x y s d tells frames entry back over_ taken busy hc
  have hover : ∀ {e : Dev}, d.sessionOver e → over_ e := fun h =>
    ⟨h.role, h.link, h.fails, h.kept, fun hm => ⟨h.mode hm, h.boot hm⟩⟩
  refine ⟨fun hmode => ?otherMode, fun hlo hhi => ⟨fun hlock => ?lockout, fun hlock => ⟨fun hbusy => ?busy, fun hbusy => ?hello,
    fun htaken => ?taken, fun htaken => ?failed⟩⟩, fun hclosed _ => exec_sessionFrame_eq hc fun _ => Dev.frame_closed hclosed,
    fun hr hl => ⟨fun hm _ => exec_sessionFrame_eq hc fun _ => Dev.frame_badMac hr hl hm,
      fun hm hs _ => exec_sessionFrame_eq hc fun _ => Dev.frame_repeated hr hl hm hs,
      fun hm hs hn _ => exec_sessionFrame_eq hc fun _ => Dev.frame_outOfSeq hr hl hm hs hn, fun hm hs => ?bye⟩,
    fun hearly => sessionTimeout_early rfl hearly, fun hr => ⟨fun hlate => ?timeout, fun hl => ?loss⟩,
    fun hl => exec_idle_of_run exec_sessionTransportLoss (if_neg hl), fun hr hl => ?forgotten,
    fun hearly => lockoutExpiry_early hearly, fun hlate => ?expiry⟩
  case otherMode =>
    have hm : d.helloMode = false := by
      rw [Bool.eq_false_iff, Ne, Dev.helloMode_iff]
      omega
    exact ⟨sessionHello_of (Dev.hello_otherMode hm) hc, sessionAuth_of (Dev.auth_otherMode hm) hc⟩
  case lockout =>
    have hm := Dev.helloMode_iff.mpr ⟨hlo, hhi⟩
    exact ⟨sessionHello_of (Dev.hello_lockout hm hlock) hc, sessionAuth_of (Dev.auth_lockout hm hlock) hc⟩
  case busy =>
    exact sessionHello_of ((Dev.hello_eq (Dev.helloMode_iff.mpr ⟨hlo, hhi⟩) hlock).trans (if_pos hbusy)) hc
  case hello =>
    refine .of_next (sessionHello_eq hc) ?_
    rw [Dev.hello_eq (Dev.helloMode_iff.mpr ⟨hlo, hhi⟩) hlock, if_neg hbusy]
    exact ⟨rfl, rfl, rfl, rfl, rfl, Dev.keeps_of_eq rfl rfl⟩
  case taken =>
    refine .of_next (sessionAuth_eq hc) ?_
    rw [Dev.auth_eq (Dev.helloMode_iff.mpr ⟨hlo, hhi⟩) hlock, if_pos htaken]
    exact ⟨rfl, rfl, rfl, rfl, rfl, rfl, Dev.keeps_of_eq rfl rfl⟩
  case failed =>
    refine .of_next (sessionAuth_eq hc) ?_
    rw [Dev.auth_eq (Dev.helloMode_iff.mpr ⟨hlo, hhi⟩) hlock, if_neg htaken]
    exact Dev.authFail_fails
  case bye =>
    refine .of_run exec_sessionBye hc ?_
    rw [Dev.frame_next hr hl hm hs]
    obtain ⟨hend, hsent⟩ := Dev.sessionOver_bye (d := d) (seq := h.seq.toNat) (now := d.now)
    exact ⟨hover hend, hsent⟩
  case timeout =>
    exact .of_next (sessionTimeout_late hc hr hlate) ⟨hover (Dev.sessionOver_endSession true), Dev.raised_endSession⟩
  case loss =>
    refine .of_run exec_sessionTransportLoss hc ?_
    rw [if_pos hl, if_pos hr]
    exact ⟨hover (Dev.sessionOver_endSession true), Dev.raised_endSession⟩
  case forgotten =>
    refine .of_run exec_sessionTransportLoss hc ?_
    rw [if_pos hl, if_neg (by rw [show s.dev.sv.role = none from hr]; exact Bool.false_ne_true)]
    exact ⟨rfl, rfl, Dev.keeps_modSv _⟩
  case expiry =>
    exact .of_next (lockoutExpiry_late hc hlate) ⟨rfl, rfl, Dev.keeps_modSv _⟩

end Sys2Proof.Machine
end

section
/-! SUPPORT. What any traffic of the Skein leaves (R38 to R66, R255): a relation between devices that the marks, a grant, a
beat of a draw and its end keep is kept by every run of the Flyer, and by every access that starts one. -/

namespace Sys2Proof.Machine

variable {d e f : Dev} {a n req cls bank : Nat}

/-! ### The bookkeeping of an access -/

/-- The registers in which the Skein notes what its checks and its copy engine meet. -/
def noteRegs : List Nat := [Reg.SKN_STAT, Reg.SKN_CECNT, Reg.SKN_UEADDR, Reg.SKN_RBPROG]

/-- Two devices between which only marks, grants, statuses, the registers that note them, the prefetchers' words, live
copies and new reports lie. -/
structure Dev.skStep (d e : Dev) : Prop extends Dev.skCalm d e where
  noted : ∀ a, a ∉ noteRegs → e.reg a = d.reg a
  stat : ∀ i, d.rbit Reg.SKN_STAT i = true → e.rbit Reg.SKN_STAT i = true
  reports : d.reports ⊆ e.reports
  whorls : ∀ n, ∃ b o, e.whorl n = { d.whorl n with beat := b, notice := o }

theorem Dev.skStep.rfl : d.skStep d :=
  ⟨.rfl, fun _ _ => by rfl, fun _ h => h, fun _ h => h, fun n => ⟨(d.whorl n).beat, (d.whorl n).notice, by rfl⟩⟩

theorem Dev.skStep.trans (h : d.skStep e) (k : e.skStep f) : d.skStep f where
  toskCalm := h.toskCalm.trans k.toskCalm
  noted a ha := (k.noted a ha).trans (h.noted a ha)
  stat i hi := k.stat i (h.stat i hi)
  reports _ hr := k.reports (h.reports hr)
  whorls n := by
    obtain ⟨b, o, hw⟩ := h.whorls n
    obtain ⟨b', o', hw'⟩ := k.whorls n
    exact ⟨b', o', by rw [hw', hw]⟩

/-- A step that touches neither registers nor reports nor Whorls. -/
theorem Dev.skStep.of_same (h : d.skCalm e) (hg : ∀ a, e.reg a = d.reg a) (hr : e.reports = d.reports)
    (hw : ∀ n, e.whorl n = d.whorl n) : d.skStep e :=
  ⟨h, fun a _ => hg a, fun i hi => by rwa [Dev.rbit_congr (hg _)], fun _ hx => hr ▸ hx,
    fun n => ⟨(d.whorl n).beat, (d.whorl n).notice, hw n⟩⟩

/-- A register that notes a check or the copy, but the status word. -/
theorem Dev.skStep_note {w : Word} (ha : a ∈ [Reg.SKN_CECNT, Reg.SKN_UEADDR, Reg.SKN_RBPROG]) : d.skStep (d.setReg a w) where
  toskCalm := ⟨.ofReg (by revert a; decide), by rfl⟩
  noted b hb := Dev.reg_setReg_other _ _ (fun h : b = a => hb (h ▸ List.mem_cons_of_mem _ ha))
  stat i hi := by
    have hne : Reg.SKN_STAT ≠ a := fun h => absurd (h ▸ ha) (by decide)
    rwa [Dev.rbit_congr (Dev.reg_setReg_other _ _ hne)]
  reports _ h := h
  whorls n := ⟨(d.whorl n).beat, (d.whorl n).notice, by rfl⟩

/-- A bit of the status word comes up. -/
theorem Dev.skStep_stat (k : Nat) (hk : k < 32) : d.skStep (d.setRbit Reg.SKN_STAT k true) where
  toskCalm := ⟨.ofReg (by decide), by rfl⟩
  noted b hb := Dev.reg_setRbit_other _ _ _ fun h => hb (h ▸ List.mem_cons_self)
  stat i hi := by
    rw [Dev.rbit_setRbit _ _ _ _ _ hk]
    split
    · rfl
    · exact hi
  reports _ h := h
  whorls n := ⟨(d.whorl n).beat, (d.whorl n).notice, by rfl⟩

theorem Dev.skStep_raise (s i : Nat) : d.skStep (d.raise s i) where
  toskCalm := ⟨.ofRaise s i, by simp⟩
  noted a _ := by simp
  stat i hi := by rwa [Dev.rbit_congr (Dev.reg_raise ..)]
  reports r hr := by
    rw [Dev.raise_reports]
    split
    · exact hr
    · exact List.mem_append_left _ hr
  whorls n := ⟨(d.whorl n).beat, (d.whorl n).notice, by simp⟩

theorem Dev.skStep_modWhorl (i : Nat) (g : Whorl → Whorl)
    (hg : ∀ w, ∃ b o, g w = { w with beat := b, notice := o }) : d.skStep (d.modWhorl i g) where
  toskCalm := Dev.skCalm_modWhorl i g
  noted _ _ := by rfl
  stat _ hi := hi
  reports _ hr := hr
  whorls n := by
    by_cases h : n = i
    · subst h
      obtain ⟨b, o, hw⟩ := hg (d.whorl n)
      exact ⟨b, o, by rw [Dev.whorl_modWhorl_same, hw]⟩
    · exact ⟨(d.whorl n).beat, (d.whorl n).notice, by rw [Dev.whorl_modWhorl, if_neg h]⟩

theorem Dev.skStep.foldl {α : Type} {g : Dev → α → Dev} (h : ∀ (e : Dev) x, e.skStep (g e x)) (xs : List α) (d : Dev) :
    d.skStep (xs.foldl g d) := by
  induction xs generalizing d with
  | nil => exact .rfl
  | cons x xs ih => exact (h d x).trans (ih _)

theorem Dev.skStep_noteGrant : d.skStep (d.noteGrant bank cls req) := .of_same Dev.skCalm_noteGrant (fun _ => by rfl) (by rfl) fun _ => by rfl

theorem Dev.skStep_setStatus (st : DrawStatus) : d.skStep (d.setStatus req st) :=
  .of_same (Dev.skCalm_setStatus st) (fun _ => by rfl) (by rfl) fun _ => by rfl

theorem Dev.skStep_setEcc (x : Ecc) : d.skStep (d.setEcc a x) :=
  .of_same ⟨Dev.skNear_setEcc d a x, by rfl⟩ (fun _ => by rfl) (by rfl) fun _ => by rfl

theorem Dev.skStep_setBroken (l : Nat) (b : Bool) : d.skStep (d.setBroken l b) :=
  .of_same ⟨Dev.skNear_setBroken d l b, by rfl⟩ (fun _ => by rfl) (by rfl) fun _ => by rfl

theorem Dev.skStep_modCopy (g : SkeinSt → Option Copy) : d.skStep (d.modSk fun s => { s with copy := g s }) :=
  .of_same ⟨Dev.skNear.ofSk rfl rfl rfl, by rfl⟩ (fun _ => by rfl) (by rfl) fun _ => by rfl

theorem Dev.skStep_noteCe : d.skStep (d.noteCe a) :=
  (((Dev.skStep_setEcc .good).trans (Dev.skStep_note (by decide))).trans (Dev.skStep_stat 0 (by decide))).trans
    (Dev.skStep_raise _ _)

theorem Dev.skStep_noteUe (pois : Bool) : d.skStep (d.noteUe a pois) := by
  have hpois : ∀ x : Dev, x.skStep (x.when pois fun d => d.setRbit Reg.SKN_STAT 2 true) := fun x => by
    unfold Dev.when
    split
    · exact Dev.skStep_stat 2 (by decide)
    · exact .rfl
  exact (((Dev.skStep_stat 1 (by decide)).trans (hpois _)).trans (Dev.skStep_note (by decide))).trans (Dev.skStep_raise _ _)

theorem Dev.skStep_checkWord : d.skStep (d.checkWord a).1 := by
  unfold Dev.checkWord
  split
  · exact .rfl
  · exact Dev.skStep_noteCe
  · exact Dev.skStep_noteUe _
  · exact Dev.skStep_noteUe _

theorem Dev.skStep_checkWords (a n : Nat) : d.skStep (d.checkWords a n).1 := by
  induction n generalizing d a with
  | zero => exact .rfl
  | succ n ih => exact Dev.skStep_checkWord.trans (ih _)

theorem Dev.skStep_slotNotices : d.skStep (d.slotNotices a n) := by
  refine .foldl (fun e i => ?_) _ _
  dsimp only
  split
  · exact Dev.skStep_modWhorl _ _ fun w => ⟨w.beat, true, by rfl⟩
  · exact .rfl

theorem Dev.skStep_modLive (p : Nat) (g : Spindle → SMap DWord) : d.skStep (d.modSpn p fun s => { s with live := g s }) :=
  .of_same ⟨.ofLive p g, by rfl⟩ (fun _ => by rfl) (by rfl) fun _ => by rfl

theorem Dev.skStep_liveUpdate (k : Nat) (h : Hank) : d.skStep (d.liveUpdate k h a n) := by
  refine .foldl (fun e p => ?_) _ _
  split
  · refine .foldl (fun e i => ?_) _ _
    split
    · exact Dev.skStep_modLive p _
    · exact .rfl
  · exact .rfl

theorem Dev.skStep_afterWrite : d.skStep (d.afterWrite a n) := by
  unfold Dev.afterWrite
  split
  · split
    · exact Dev.skStep_slotNotices
    · split
      · exact Dev.skStep_liveUpdate _ _
      · exact .rfl
  · exact .rfl

theorem Dev.skStep_clearMarks : d.skStep (d.clearMarks req a n) := by
  refine .foldl (fun e l => ?_) _ _
  split
  · exact Dev.skStep_setBroken l false
  · exact .rfl

/-- Bytes written are bytes set, and bookkeeping. -/
theorem Dev.skStep_writeBytes (bs : List Byte) : (d.setBytes a bs).skStep (d.writeBytes req a bs) := by
  have hput : (d.setBytes a bs).skStep (d.putBytes a bs) := by
    refine .foldl (fun e i => ?_) _ _
    dsimp only
    split
    · exact Dev.skStep_setEcc .good
    · exact .rfl
  exact ((hput.trans (Dev.skStep_modCopy _)).trans Dev.skStep_clearMarks).trans Dev.skStep_afterWrite

/-! ### Draws as they move -/

/-- A draw later on: what it is, not how far it has come; one by address keeps its address. -/
structure Draw.later (x y : Draw) : Prop where
  req : y.req = x.req
  cls : y.cls = x.cls
  write : y.write = x.write
  hank : y.hank = x.hank
  len : y.len = x.len
  data : y.data = x.data
  tag : y.tag = x.tag
  start : x.hank = none → y.start = x.start

/-- Every prefetch that a port lets pass is one of `ok`. -/
def Dev.fetchesOk (ok : Draw → Prop) (d : Dev) : Prop :=
  ∀ n a, d.isCut (reqWhl n) = false → ok (unitDraw (reqWhl n) 0 none false none a 16 [] [] false (.prefetch n))

/-- Every draw that is raised in one of the banks `B`, or will be to read a slot, is one of `ok`. -/
structure Dev.drawsOk (B : Nat → Prop) (ok : Draw → Prop) (d : Dev) : Prop where
  fetches : d.fetchesOk ok
  draws : ∀ b, B b → ∀ x ∈ d.drawsOf b, ok x

/-- A relation between devices that the Flyer's traffic in the banks `B` keeps where every draw is one of `ok`: bookkeeping, the draws
themselves, the hanks' offsets, the bytes that such a draw writes, and what its end does. -/
structure Traffic (B : Nat → Prop) (ok : Draw → Prop) (R : Dev → Dev → Prop) : Prop where
  banks : ∀ b < 16, B b
  refl : ∀ d, R d d
  trans : ∀ {d e f}, R d e → R e f → R d f
  step : ∀ {d e : Dev}, d.skStep e → R d e
  draws : ∀ (d : Dev) (bank : Nat) (q : List Draw), R d (d.setDraws bank q)
  hank : ∀ (d : Dev) (x : Draw) (i : Nat) (h : Hank), ok x → x.hank = some i → R d (d.setHank i h)
  lost : ∀ (d : Dev) (x : Draw) (i : Nat), ok x → x.hank = some i → x.req = 132 → R d (d.setRbit Reg.INJ_STAT 5 true)
  bytes : ∀ (d : Dev) (x : Draw) (a : Nat) (bs : List Byte), ok x → x.write = true →
    (x.hank = none → ∀ z, a ≤ z → z < a + bs.length → x.start ≤ z ∧ z < x.start + x.len) → R d (d.setBytes a bs)
  tag : ∀ (d : Dev) (x : Draw) (st : DrawStatus) (data : List Byte) (got : List Word), ok x → R d (d.tagEnd x.tag st data got)
  moved : ∀ {x y : Draw}, ok x → x.later y → ok y
  fetch : ∀ {d e}, R d e → d.fetchesOk ok → e.fetchesOk ok

/-- What such traffic makes of a device. -/
def Dev.moves (B : Nat → Prop) (ok : Draw → Prop) (R : Dev → Dev → Prop) (d e : Dev) : Prop := d.drawsOk B ok → R d e ∧ e.drawsOk B ok

section

variable {B : Nat → Prop} {ok : Draw → Prop} {R : Dev → Dev → Prop} {x y : Draw}

theorem Dev.drawsOk_of_quiet (h : d.quiet) (hf : d.fetchesOk ok) : d.drawsOk B ok where
  fetches := hf
  draws b _ x hx := by
    rw [h b] at hx
    exact absurd hx List.not_mem_nil

theorem Dev.drawsOk_of_all (h : ∀ x, ok x) : d.drawsOk B ok := ⟨fun _ _ _ => h _, fun _ _ _ _ => h _⟩

theorem Dev.drawsOf_setDraws (b : Nat) (q : List Draw) :
    (d.setDraws bank q).drawsOf b = if b = bank then q else d.drawsOf b := smGet_smSet _ _ bank b q


theorem Dev.sk_tagEnd (t : DrawTag) (st : DrawStatus) (data : List Byte) (got : List Word) :
    (d.tagEnd t st data got).sk = d.sk := by
  have hlb : ∀ (x : Dev) (p : Nat) (b : Bool), (x.noteSpnLb p b).sk = x.sk := fun x p b => by
    cases b <;> rfl
  have hfill : ∀ decim unit ch w seq, (d.fillSlots decim unit ch w seq).sk = d.sk := fun decim unit ch w seq => by
    refine Dev.foldl_stands Dev.sk (fun e sp => Dev.foldl_stands Dev.sk (fun e sw => Dev.foldl_stands Dev.sk (fun e j => ?_) _ _) _ _) _ _
    dsimp only
    split <;> rfl
  cases t with
  | plain => rfl
  | core c pc ea loop =>
    simp only [Dev.tagEnd]
    split
    · cases c <;> (simp only [Dev.noteLb]; split <;> rfl)
    · cases c <;> rfl
  | checkpoint p l =>
    simp only [Dev.tagEnd]
    split
    · exact hlb _ _ _
    · rfl
  | image p => exact hlb d p _
  | sample decim unit ch w seq =>
    simp only [Dev.tagEnd]
    split
    · exact hfill ..
    · rfl
  | prefetch n => rfl
  | record l first last =>
    simp only [Dev.tagEnd]
    split
    · split <;> rfl
    · simp [Dev.linkCut, Dev.setRbit]
  | position stat bit =>
    simp only [Dev.tagEnd]
    split <;> rfl
  | reel n k => rfl
  | capture => rfl

theorem mem_oldest {q : List Draw} (h : x ∈ oldest q) : x ∈ q := by
  induction q with
  | nil => exact h
  | cons y ys ih =>
    rcases List.mem_cons.mp h with rfl | h
    · exact List.mem_cons_self
    · exact List.mem_cons_of_mem _ (ih (List.mem_filter.mp h).1)

theorem Dev.mem_bestDraw {last : Option Nat} {q : List Draw} (h : d.bestDraw last q = some x) : x ∈ q := by
  induction q generalizing x with
  | nil => exact absurd h (by simp [Dev.bestDraw])
  | cons y ys ih =>
    unfold Dev.bestDraw at h
    split at h
    · obtain rfl := Option.some.inj h
      exact List.mem_cons_self
    · next z hz =>
      split at h <;> obtain rfl := Option.some.inj h
      · exact List.mem_cons_of_mem _ (ih hz)
      · exact List.mem_cons_self

/-- The Flyer picks a draw that is raised in the bank. -/
theorem Dev.mem_flyerPick (h : d.flyerPick bank = some x) : x ∈ d.drawsOf bank := by
  obtain ⟨c, -, hc⟩ := List.exists_of_findSome?_eq_some h
  exact mem_oldest (List.mem_filter.mp (List.mem_filter.mp (Dev.mem_bestDraw hc)).1).1

theorem mem_replaceDraw {q fs : List Draw} (h : y ∈ replaceDraw x fs q) : y ∈ q ∨ y ∈ fs := by
  induction q with
  | nil => exact Or.inl h
  | cons z zs ih =>
    unfold replaceDraw at h
    split at h
    · rcases List.mem_append.mp h with h | h
      · exact Or.inr h
      · exact Or.inl (List.mem_cons_of_mem _ h)
    · rcases List.mem_cons.mp h with rfl | h
      · exact Or.inl List.mem_cons_self
      · exact (ih h).imp_left (List.mem_cons_of_mem _)

/-! ### Kept by the parts of a grant -/

variable (T : Traffic B ok R)

include T

theorem Traffic.of_draws (h : d.drawsOk B ok) (hR : R d e) (hd : e.sk.draws = d.sk.draws) : e.drawsOk B ok where
  fetches := T.fetch hR h.fetches
  draws b hb x hx := h.draws b hb x (by simpa only [Dev.drawsOf, hd] using hx)

theorem Traffic.setDraws {q : List Draw} (h : d.drawsOk B ok) (hq : B bank → ∀ x ∈ q, ok x) : (d.setDraws bank q).drawsOk B ok where
  fetches := T.fetch (T.draws d bank q) h.fetches
  draws b hb x hx := by
    rw [Dev.drawsOf_setDraws] at hx
    split at hx
    · next hbank => exact hq (hbank ▸ hb) x hx
    · exact h.draws b hb x hx

/-- A move that leaves the draws as they stand. -/
theorem Traffic.moves_of_draws (hR : R d e) (hd : e.sk.draws = d.sk.draws) : d.moves B ok R e := fun h => ⟨hR, T.of_draws h hR hd⟩

theorem Traffic.moves_refl : d.moves B ok R d := fun h => ⟨T.refl d, h⟩

theorem Traffic.moves_trans (h : d.moves B ok R e) (k : e.moves B ok R f) : d.moves B ok R f := fun hd =>
  ⟨T.trans (h hd).1 (k (h hd).2).1, (k (h hd).2).2⟩

theorem Traffic.moves_step (h : d.skStep e) : d.moves B ok R e := T.moves_of_draws (T.step h) h.draws

theorem Traffic.moves_foldl {α : Type} {g : Dev → α → Dev} (h : ∀ (e : Dev) x, e.moves B ok R (g e x)) (xs : List α) (d : Dev) :
    d.moves B ok R (xs.foldl g d) := by
  induction xs generalizing d with
  | nil => exact T.moves_refl
  | cons x xs ih => exact T.moves_trans (h d x) (ih _)

theorem Traffic.moves_setHank (hx : ok x) {i : Nat} (hi : x.hank = some i) (h : Hank) : d.moves B ok R (d.setHank i h) :=
  T.moves_of_draws (T.hank d x i h hx hi) (by rfl)

theorem Traffic.moves_swapDraw {fs : List Draw} (hf : ∀ y ∈ fs, ok y) : d.moves B ok R (d.swapDraw bank x fs) := fun hd =>
  ⟨T.draws d bank _, T.setDraws hd fun hb _ hy => (mem_replaceDraw hy).elim (hd.draws bank hb _) (hf _)⟩

theorem Traffic.moves_drawEnd (hx : ok x) (st : DrawStatus) : d.moves B ok R (d.drawEnd x st) :=
  T.moves_trans (T.moves_step (Dev.skStep_setStatus st))
    (T.moves_of_draws (T.tag _ x st _ _ hx) (congrArg SkeinSt.draws (Dev.sk_tagEnd ..)))

theorem Traffic.moves_writeBytes (hx : ok x) (hw : x.write = true) {bs : List Byte}
    (hin : x.hank = none → ∀ z, a ≤ z → z < a + bs.length → x.start ≤ z ∧ z < x.start + x.len) : d.moves B ok R (d.writeBytes req a bs) :=
  T.moves_trans (T.moves_of_draws (T.bytes d x a bs hx hw hin) (Dev.draws_setBytes a))
    (T.moves_step (Dev.skStep_writeBytes bs))

theorem Traffic.moves_writeEnabled (hx : ok x) (hw : x.write = true) {bs : List Byte} (gaps : List Nat)
    (hin : x.hank = none → ∀ z, a ≤ z → z < a + bs.length → x.start ≤ z ∧ z < x.start + x.len) : d.moves B ok R (d.writeEnabled req a bs gaps) := by
  unfold Dev.writeEnabled
  split
  · exact T.moves_writeBytes hx hw hin
  · have hstep : ∀ (is : List Nat), (∀ i ∈ is, i < bs.length / 4) → ∀ e : Dev, e.moves B ok R
        (is.foldl (fun e i => if i ∈ gaps then e else e.writeBytes req (a + 4 * i) ((bs.drop (4 * i)).take 4)) e) := by
      intro is his
      induction is with
      | nil => exact fun e => T.moves_refl
      | cons i is ih =>
        intro e
        refine T.moves_trans ?_ (ih (fun j hj => his j (List.mem_cons_of_mem _ hj)) _)
        have hi := his i List.mem_cons_self
        dsimp only
        split
        · exact T.moves_refl
        · refine T.moves_writeBytes hx hw fun hn z hlo hhi => hin hn z (by omega) ?_
          simp only [List.length_take, List.length_drop] at hhi
          omega
    exact hstep _ (fun i hi => List.mem_range.mp hi) d

/-- The free space judged: offsets and counts of the hank, and GAP of the capture's requester. -/
theorem Traffic.moves_judge (hx : ok x) {hn : Nat} (hh : x.hank = some hn) (hreq : x.req = req) : d.moves B ok R (d.judge req hn n).1 := by
  unfold Dev.judge
  dsimp only
  split
  · exact T.moves_refl
  split
  · exact T.moves_trans (T.moves_setHank hx hh _) (T.moves_step (Dev.skStep_stat _ (by decide)))
  split
  · refine T.moves_trans (T.moves_setHank hx hh ((d.hank hn).makeRoom n)) ?_
    unfold Dev.when
    split
    · next hlost =>
      simp only [Bool.and_eq_true, decide_eq_true_eq] at hlost
      exact T.moves_of_draws (T.lost _ x _ hx hh (hreq.trans hlost.1)) (by rfl)
    · exact T.moves_refl
  · exact T.moves_refl

theorem Traffic.moves_firstGrant (hx : ok x) : d.moves B ok R (d.firstGrant x).1 ∧ ok (d.firstGrant x).2.2 := by
  unfold Dev.firstGrant
  split
  · next hnone => exact ⟨T.moves_refl, T.moved hx ⟨rfl, rfl, rfl, rfl, rfl, rfl, rfl, fun _ => rfl⟩⟩
  · next hn hsome =>
    refine ⟨T.moves_judge hx hsome rfl, T.moved hx ⟨rfl, rfl, rfl, rfl, rfl, rfl, rfl, fun h => ?_⟩⟩
    rw [hsome] at h
    exact absurd h (by simp)

theorem Traffic.moves_doBeat (hx : ok x) : d.moves B ok R (d.doBeat x).1 ∧ ok (d.doBeat x).2 := by
  have hin : x.hank = none → ∀ z, d.beatAddr x ≤ z → z < d.beatAddr x + ((x.data.drop x.done).take (d.beatLen x)).length →
      x.start ≤ z ∧ z < x.start + x.len := by
    intro hnone z hlo hhi
    have haddr : d.beatAddr x = x.start + x.done := by simp [Dev.beatAddr, hnone]
    have hfirst : d.firstPart x = x.len := by simp [Dev.firstPart, hnone]
    have hlen : d.beatLen x ≤ x.len - x.done := by
      simp only [Dev.beatLen, hfirst]
      split <;> omega
    rw [List.length_take] at hhi
    omega
  unfold Dev.doBeat
  dsimp only
  split
  · next hw =>
    have hcheck : d.moves B ok R (if d.beatAddr x % 4 ≠ 0 ∨ d.beatLen x % 4 ≠ 0 then d.checkWord (d.beatAddr x) else (d, true)).1 := by
      split
      · exact T.moves_step Dev.skStep_checkWord
      · exact T.moves_refl
    generalize (if d.beatAddr x % 4 ≠ 0 ∨ d.beatLen x % 4 ≠ 0 then d.checkWord (d.beatAddr x) else (d, true)) = r at hcheck ⊢
    split
    · refine ⟨T.moves_trans hcheck ?_, T.moved hx ⟨rfl, rfl, rfl, rfl, rfl, rfl, rfl, fun _ => rfl⟩⟩
      exact T.moves_writeEnabled hx hw _ hin
    · exact ⟨hcheck, T.moved hx ⟨rfl, rfl, rfl, rfl, rfl, rfl, rfl, fun _ => rfl⟩⟩
  · exact ⟨T.moves_step (Dev.skStep_checkWords _ _), T.moved hx ⟨rfl, rfl, rfl, rfl, rfl, rfl, rfl, fun _ => rfl⟩⟩

theorem Traffic.moves_drawDone (hx : ok x) : d.moves B ok R (d.drawDone x) := by
  unfold Dev.drawDone
  dsimp only
  split
  · next hn hsome => exact T.moves_trans (T.moves_setHank hx hsome _) (T.moves_drawEnd hx _)
  · exact T.moves_drawEnd hx _

/-! ### Kept by the Flyer -/

theorem Traffic.moves_copyWord : d.moves B ok R (d.copyWord a) := by
  unfold Dev.copyWord
  dsimp only
  split
  · exact T.moves_step Dev.skStep_checkWord
  · exact T.moves_step (Dev.skStep_checkWord.trans (Dev.skStep_modCopy _))

theorem Traffic.moves_copyBeat : d.moves B ok R d.copyBeat := by
  unfold Dev.copyBeat
  split
  · exact T.moves_refl
  · next c hc =>
    have hshown : ∀ (k : Nat) (g : SkeinSt → Option Copy), d.skStep
        (((d.modSk fun s => { s with copy := g s }).setReg Reg.SKN_RBPROG (BitVec.ofNat 32 k)).noteGrant c.bank 4 reqEngine) :=
      fun k g => ((Dev.skStep_modCopy g).trans (Dev.skStep_note (by decide))).trans Dev.skStep_noteGrant
    dsimp only
    generalize (if c.held then c.next + 1 else c.next) = k
    split
    · exact T.moves_trans (T.moves_step (hshown _ _)) (T.moves_foldl (fun e a => T.moves_copyWord) _ _)
    · exact T.moves_step (hshown _ _)

/-- A draw that earlier draws pushed into another bank is raised there. -/
theorem Traffic.moves_rebank (hb : B bank) (hx : x ∈ d.drawsOf bank) (other : Nat) (front : Bool) :
    d.moves B ok R ((d.swapDraw bank x []).setDraws other
      (if front then x :: (d.swapDraw bank x []).drawsOf other else (d.swapDraw bank x []).drawsOf other ++ [x])) := fun hd => by
  have hswap := T.moves_swapDraw (d := d) (bank := bank) (x := x) (fs := []) (by simp) hd
  refine ⟨T.trans hswap.1 (T.draws _ _ _), T.setDraws hswap.2 fun hother y hy => ?_⟩
  split at hy
  · rcases List.mem_cons.mp hy with rfl | hy
    · exact hd.draws bank hb _ hx
    · exact hswap.2.draws other hother y hy
  · rcases List.mem_append.mp hy with hy | hy
    · exact hswap.2.draws other hother y hy
    · rw [List.mem_singleton.mp hy]
      exact hd.draws bank hb _ hx

theorem Traffic.moves_drawBeat (hb : B bank) : d.moves B ok R (d.drawBeat bank) := by
  intro hd
  unfold Dev.drawBeat
  split
  · exact ⟨T.refl d, hd⟩
  next x hpick =>
    have hmem := Dev.mem_flyerPick hpick
    have hx := hd.draws bank hb _ hmem
    split
    · exact T.moves_rebank hb hmem _ _ hd
    refine T.moves_trans (T.moves_step (Dev.skStep_noteGrant (bank := bank) (cls := x.cls) (req := x.req))) ?_ hd
    dsimp only
    split
    · exact T.moves_trans (T.moves_swapDraw (bank := bank) (x := x) (fs := []) (by simp)) (T.moves_drawEnd hx _)
    have hgrant : (d.noteGrant bank x.cls x.req).moves B ok R
        (if x.granted then (d.noteGrant bank x.cls x.req, none, x) else (d.noteGrant bank x.cls x.req).firstGrant x).1 ∧
        ok (if x.granted then (d.noteGrant bank x.cls x.req, none, x) else (d.noteGrant bank x.cls x.req).firstGrant x).2.2 := by
      split
      · exact ⟨T.moves_refl, hx⟩
      · exact T.moves_firstGrant hx
    generalize (if x.granted then (d.noteGrant bank x.cls x.req, none, x)
      else (d.noteGrant bank x.cls x.req).firstGrant x) = g at hgrant ⊢
    obtain ⟨hg, hy⟩ := hgrant
    refine T.moves_trans hg ?_
    split
    · exact T.moves_trans (T.moves_swapDraw (bank := bank) (x := x) (fs := []) (by simp)) (T.moves_drawEnd hx _)
    split
    · exact T.moves_swapDraw (by simpa using hy)
    obtain ⟨hbeat, hz⟩ := T.moves_doBeat (d := g.1) hy
    refine T.moves_trans hbeat ?_
    split
    · exact T.moves_trans (T.moves_swapDraw (bank := bank) (x := x) (fs := []) (by simp)) (T.moves_drawDone hz)
    · exact T.moves_swapDraw (by simpa using hz)

theorem Traffic.moves_flyerBeat (hb : B bank) : d.moves B ok R (d.flyerBeat bank) := by
  unfold Dev.flyerBeat
  split
  · exact T.moves_copyBeat
  · exact T.moves_drawBeat hb

theorem Traffic.moves_settleN (hb : B bank) (k : Nat) : d.moves B ok R (d.settleN bank k) := by
  induction k generalizing d with
  | zero => exact T.moves_refl
  | succ k ih =>
    unfold Dev.settleN
    split
    · exact T.moves_trans (T.moves_flyerBeat hb) ih
    · exact T.moves_refl

theorem Traffic.moves_settle (hb : B bank) : d.moves B ok R (d.settle bank) := T.moves_settleN hb _

theorem Traffic.moves_settleAll : d.moves B ok R d.settleAll := by
  have hall : ∀ (bs : List Nat), (∀ b ∈ bs, b < 16) → ∀ e : Dev, e.moves B ok R (bs.foldl (fun e b => e.settle b) e) := by
    intro bs
    induction bs with
    | nil => exact fun _ _ => T.moves_refl
    | cons b bs ih =>
      exact fun hbs e => T.moves_trans (T.moves_settle (T.banks b (hbs b List.mem_cons_self)))
        (ih (fun c hc => hbs c (List.mem_cons_of_mem _ hc)) _)
  exact hall _ (fun _ => List.mem_range.mp) d

theorem Traffic.moves_flyerRun (hb : B bank) (k : Nat) : d.moves B ok R (d.flyerRun bank k) := by
  induction k generalizing d with
  | zero => exact T.moves_refl
  | succ k ih =>
    unfold Dev.flyerRun
    dsimp only
    split
    · exact T.moves_flyerBeat hb
    · exact T.moves_trans (T.moves_flyerBeat hb) ih

theorem Traffic.moves_clearWayN (hb : B bank) (k : Nat) : d.moves B ok R (d.clearWayN bank cls req k).1 := by
  induction k generalizing d with
  | zero => exact T.moves_refl
  | succ k ih =>
    unfold Dev.clearWayN
    split
    · exact T.moves_refl
    split
    · split
      · exact T.moves_trans (T.moves_flyerBeat hb) ih
      · exact T.moves_refl
    · exact T.moves_refl

theorem Traffic.moves_clearWay (hb : B bank) : d.moves B ok R (d.clearWay bank cls req).1 := by
  unfold Dev.clearWay
  split
  · exact T.moves_refl
  · exact T.moves_clearWayN hb _

theorem Traffic.moves_raiseDraw (hb : B bank) (hx : ok x) : d.moves B ok R (d.raiseDraw bank x) :=
  T.moves_trans (fun hd => ⟨T.draws d bank _, T.setDraws hd fun hbank y hy => (List.mem_append.mp hy).elim
    (hd.draws bank hbank y) fun h => List.mem_singleton.mp h ▸ hx⟩) (T.moves_settle hb)

/-! ### Kept by accesses -/

omit T in
/-- An access that stays within the Skein and one bank is the Flyer's. -/
theorem bankOf_within (h : ¬ 0x1000000 < a + n) (hb : ¬ bankOf a ≠ bankOf (a + n - 1)) : bankOf a < 16 := by
  simp only [bankOf, ne_eq, Decidable.not_not] at hb ⊢
  omega

omit T in
theorem bankOf_of_storeRefusal {entry : Bool} (h : d.storeRefusal req a n entry = none) : bankOf a < 16 := by
  unfold Dev.storeRefusal at h
  split at h
  · exact absurd h (by simp)
  split at h
  · exact absurd h (by simp)
  next hin =>
  split at h
  · exact absurd h (by simp)
  next hbank =>
  exact bankOf_within hin hbank

theorem Traffic.moves_loadAt : d.moves B ok R (d.loadAt req cls a n).1 := by
  unfold Dev.loadAt
  split
  · exact T.moves_step (Dev.skStep_setStatus _)
  split
  · exact T.moves_step (Dev.skStep_setStatus _)
  next hin =>
  split
  · exact T.moves_step (Dev.skStep_setStatus _)
  next hbank =>
  refine T.moves_trans (T.moves_clearWay (T.banks _ (bankOf_within hin hbank))) (?_ : Dev.moves B ok R (d.clearWay (bankOf a) cls req).1 _)
  dsimp only
  split
  · have hread := Dev.skStep_noteGrant.trans (Dev.skStep_checkWords
      (d := (d.clearWay (bankOf a) cls req).1.noteGrant (bankOf a) cls req) a (wordsIn a n))
    split <;> exact T.moves_step (hread.trans (Dev.skStep_setStatus _))
  · exact T.moves_refl

theorem Traffic.moves_prefetch (k : Nat) : d.moves B ok R (d.prefetch k) := by
  have hbeat : ∀ (x : Dev) (b : Beat), x.moves B ok R (x.modWhorl k fun w => { w with beat := b }) := fun x b =>
    T.moves_step (Dev.skStep_modWhorl _ _ fun w => ⟨b, w.notice, by rfl⟩)
  unfold Dev.prefetch
  refine T.moves_trans (T.moves_step (Dev.skStep_modWhorl k _ fun w => ⟨w.beat, false, by rfl⟩)) ?_
  generalize d.modWhorl k (fun w => { w with notice := false }) = d0
  generalize ha : d.fld (Reg.WHL_SLOT k) 23 4 * 16 = a
  have hslot : a < 0x1000000 := by
    have : d.fld (Reg.WHL_SLOT k) 23 4 < 2 ^ (23 + 1 - 4) := bitsOf_lt ..
    omega
  have hload := T.moves_loadAt (d := d0) (req := reqWhl k) (cls := 0) (a := a) (n := 16)
  dsimp only
  split
  · exact T.moves_trans hload (hbeat _ _)
  · exact T.moves_trans hload (hbeat _ _)
  · next hwait =>
    intro hd
    refine T.moves_trans hload (T.moves_raiseDraw (T.banks _ (Nat.div_lt_of_lt_mul hslot)) (hd.fetches k _ ?_)) hd
    by_contra hcut
    simp [Dev.loadAt, Bool.of_not_eq_false hcut] at hwait

theorem Traffic.moves_prefetchN (k : Nat) : d.moves B ok R (d.prefetchN k) := by
  induction k generalizing d with
  | zero => exact T.moves_refl
  | succ k ih =>
    unfold Dev.prefetchN
    split
    · refine T.moves_trans (T.moves_foldl (fun e w => ?_) _ _) ih
      split
      · exact T.moves_prefetch _
      · exact T.moves_refl
    · exact T.moves_refl

theorem Traffic.moves_prefetches : d.moves B ok R d.prefetches := T.moves_prefetchN _

theorem Traffic.moves_prefetchAfter (x : Dev) : d.moves B ok R (d.prefetchAfter x) := by
  unfold Dev.prefetchAfter
  split
  · exact T.moves_refl
  · exact T.moves_prefetches

theorem Traffic.moves_load : d.moves B ok R (d.load req cls a n).1 := by
  unfold Dev.load
  dsimp only
  split
  · exact T.moves_loadAt
  · exact T.moves_trans T.moves_loadAt T.moves_prefetches

section

variable {loop : Option Nat} {bs : List Byte} {gaps : List Nat} {entry : Bool} {tag : DrawTag} {hn : Nat} {ws : List Word}

theorem Traffic.moves_storeNow (hx : ok (unitDraw req cls loop true none a bs.length bs gaps entry tag)) :
    d.moves B ok R (d.storeNow req a bs gaps).1 := by
  have hcheck : d.moves B ok R (if (decide (a % 4 ≠ 0) || decide (bs.length % 4 ≠ 0)) = true then d.checkWord a else (d, true)).1 := by
    split
    · exact T.moves_step Dev.skStep_checkWord
    · exact T.moves_refl
  unfold Dev.storeNow
  dsimp only
  generalize (if (decide (a % 4 ≠ 0) || decide (bs.length % 4 ≠ 0)) = true then d.checkWord a else (d, true)) = r at hcheck ⊢
  split
  · exact T.moves_trans (T.moves_trans hcheck (T.moves_writeEnabled hx rfl gaps fun _ z hlo hhi => ⟨hlo, hhi⟩))
      (T.moves_step (Dev.skStep_setStatus _))
  · exact T.moves_trans hcheck (T.moves_step (Dev.skStep_setStatus _))

theorem Traffic.moves_store (hx : ok (unitDraw req cls loop true none a bs.length bs gaps entry tag)) :
    d.moves B ok R (d.store req cls loop a bs gaps entry tag).1 := by
  unfold Dev.store
  split
  · exact T.moves_step (Dev.skStep_setStatus _)
  next hfree =>
  dsimp only
  split
  · exact T.moves_step (Dev.skStep_setStatus _)
  have hb : B (bankOf a) := T.banks _ (bankOf_of_storeRefusal hfree)
  refine T.moves_trans (T.moves_clearWay hb) (?_ : Dev.moves B ok R (d.clearWay (bankOf a) cls req).1 _)
  split
  · exact T.moves_raiseDraw hb hx
  · exact T.moves_trans (T.moves_step Dev.skStep_noteGrant) (T.moves_storeNow hx)

theorem Traffic.moves_postStore (hx : ok (unitDraw req cls loop true none a bs.length bs gaps entry tag)) :
    d.moves B ok R (d.postStore req cls loop a bs gaps entry tag).1 := T.moves_trans (T.moves_store hx) T.moves_prefetches

theorem Traffic.moves_hankNow
    (hx : ok (unitDraw req cls loop true (some hn) 0 (4 * ws.length) (bytesOfWords ws) [] false tag)) :
    d.moves B ok R (d.hankNow req hn ws).1 := by
  have hwrite : ∀ (x : Dev) (a : Nat) (bs : List Byte), x.moves B ok R (x.writeBytes req a bs) := fun x a bs =>
    T.moves_writeBytes hx rfl fun h => absurd h (by simp [unitDraw])
  unfold Dev.hankNow
  refine T.moves_trans (T.moves_judge (n := 4 * ws.length) hx rfl rfl) ?_
  dsimp only
  split
  · exact T.moves_step (Dev.skStep_setStatus _)
  · have hparts : ∀ (x : Dev) (a b m : Nat) (c : Prop) [Decidable c], x.moves B ok R
        (if c then (x.writeBytes req a ((bytesOfWords ws).take m)).writeBytes req b ((bytesOfWords ws).drop m)
          else x.writeBytes req a ((bytesOfWords ws).take m)) := fun x a b m c _ => by
      split
      · exact T.moves_trans (hwrite _ _ _) (hwrite _ _ _)
      · exact hwrite _ _ _
    exact T.moves_trans (hparts _ _ _ _ _) (T.moves_trans (T.moves_setHank hx rfl _) (T.moves_step (Dev.skStep_setStatus _)))

theorem Traffic.moves_hankPutAt
    (hx : ok (unitDraw req (classOf req false) loop true (some hn) 0 (4 * ws.length) (bytesOfWords ws) [] false tag))
    (hb : ∀ e : Dev, B (bankOf ((e.hank hn).start + (e.hank hn).wr))) : d.moves B ok R (d.hankPutAt req loop hn ws tag).1 := by
  unfold Dev.hankPutAt
  dsimp only
  split
  · exact T.moves_step (Dev.skStep_setStatus _)
  split
  · exact T.moves_step (Dev.skStep_setStatus _)
  refine T.moves_trans (T.moves_clearWay (hb d))
    (?_ : Dev.moves B ok R (d.clearWay (bankOf ((d.hank hn).start + (d.hank hn).wr)) (classOf req false) req).1 _)
  split
  · exact T.moves_raiseDraw (hb _) hx
  · exact T.moves_trans (T.moves_step Dev.skStep_noteGrant) (T.moves_hankNow hx)

theorem Traffic.moves_hankPut
    (hx : ok (unitDraw req (classOf req false) loop true (some hn) 0 (4 * ws.length) (bytesOfWords ws) [] false tag))
    (hb : ∀ e : Dev, B (bankOf ((e.hank hn).start + (e.hank hn).wr))) : d.moves B ok R (d.hankPut req loop hn ws tag).1 := by
  unfold Dev.hankPut
  dsimp only
  split
  · exact T.moves_hankPutAt hx hb
  · exact T.moves_trans (T.moves_hankPutAt hx hb) T.moves_prefetches

end

/-! ### Kept where draws are taken out -/

theorem Traffic.moves_filterDraws (keep : Draw → Bool) : d.moves B ok R (d.filterDraws keep) := by
  refine T.moves_foldl (fun e b => ?_) _ _
  split
  · exact T.moves_refl
  · exact fun hd => ⟨T.draws _ _ _, T.setDraws hd fun hb y hy => hd.draws b hb y (List.mem_filter.mp hy).1⟩

theorem Traffic.moves_dropDraws : d.moves B ok R (d.dropDraws req) := by
  intro hd
  have hmine : ∀ x ∈ d.drawsBy req, ok x := fun x hx => by
    obtain ⟨b, hb, hx⟩ := List.mem_flatMap.mp hx
    exact hd.draws b (T.banks b (List.mem_range.mp hb)) x (List.mem_filter.mp hx).1
  have hends : ∀ (q : List Draw), (∀ x ∈ q, ok x) → ∀ e : Dev,
      e.moves B ok R (q.foldl (fun e x => e.drawEnd x .errorStatus) e) := fun q => by
    induction q with
    | nil => exact fun _ _ => T.moves_refl
    | cons x q ih =>
      exact fun hq e => T.moves_trans (T.moves_drawEnd (hq x List.mem_cons_self) _)
        (ih (fun y hy => hq y (List.mem_cons_of_mem _ hy)) _)
  exact T.moves_trans (T.moves_filterDraws _) (hends _ hmine _) hd

end

end Sys2Proof.Machine
end

section
/-! SUPPORT. Links, their time, the lands and the HSPI slave (R522 to R541): what the end of a draw may touch, reads that
are clean, and a word that a host reads or writes. -/

namespace Sys2Proof.Machine

variable {d e f : Dev} {s : State} {a n req cls : Nat}

/-! ### What the end of a draw touches -/

/-- A relation that the ends of draws keep: cores, the words of the prefetchers, Reels and captures, the roll-back place of
a link, its two registers and reports. -/
structure EndRules (R : Dev → Dev → Prop) : Prop where
  refl : ∀ d, R d d
  trans : ∀ {d e f}, R d e → R e f → R d f
  core : ∀ (d : Dev) (g : CoreSt → CoreSt), R d (d.modCr g)
  whorl : ∀ (d : Dev) (k : Nat) (b : Beat), R d (d.modWhorl k fun w => { w with beat := b })
  tuning : ∀ (d : Dev) (g : TuneSt → TuneSt), R d { d with tn := g d.tn }
  link : ∀ (d : Dev) (l w : Nat), R d (d.modLink l fun x => { x with wr := w })
  stat : ∀ (d : Dev) (l : Nat) (w : Word), R d (d.setReg (Reg.LNK_STAT l) w)
  count : ∀ (d : Dev) (l : Nat) (w : Word), R d (d.setReg (Reg.LNK_RXCNT l) w)
  raise : ∀ (d : Dev) (s i : Nat), R d (d.raise s i)

section

variable {R : Dev → Dev → Prop} (T : EndRules R)

include T

theorem EndRules.foldl {α : Type} {g : Dev → α → Dev} (h : ∀ (e : Dev) x, R e (g e x)) (xs : List α) (d : Dev) :
    R d (xs.foldl g d) := by
  induction xs generalizing d with
  | nil => exact T.refl d
  | cons x xs ih => exact T.trans (h d x) (ih _)

theorem EndRules.modSpn (p : Nat) (g : Spindle → Spindle) : R d (d.modSpn p g) :=
  T.core d fun c => { c with spindles := smSet (fun _ => Spindle.reset) c.spindles p (g (d.spn p)) }

theorem EndRules.modBob (b : Nat) (g : Bobbin → Bobbin) : R d (d.modBob b g) :=
  T.core d fun c => { c with bobbins := smSet (fun _ => Bobbin.reset) c.bobbins b (g (d.bob b)) }

theorem EndRules.modLoop (i : Nat) (g : Loop → Loop) : R d (d.modLoop i g) :=
  T.core d fun c => { c with loops := smSet (fun _ => Loop.reset) c.loops i (g (d.loop i)) }

theorem EndRules.noteSpnLb (p : Nat) (b : Bool) : R d (d.noteSpnLb p b) := by
  unfold Dev.noteSpnLb
  split
  · exact T.modSpn p _
  · exact T.refl d

theorem EndRules.noteLb (c : Core) (b : Bool) : R d (d.noteLb c b) := by
  unfold Dev.noteLb
  split
  · cases c with
    | spn p => exact T.modSpn p _
    | bob b => exact T.modBob b _
  · exact T.refl d

theorem EndRules.noteRefused (c : Core) (st : DrawStatus) (pc ea : Word) (loop : Nat) : R d (d.noteRefused c st pc ea loop) := by
  cases c with
  | spn p => exact T.modSpn p fun x => { x with refused := x.refused ++ [⟨causeOf st, ea, pc, loop⟩] }
  | bob b => exact T.modBob b fun x => { x with refused := x.refused ++ [⟨causeOf st, ea, pc, loop⟩] }

theorem EndRules.fillSlots (decim : Bool) (unit ch : Nat) (w : Word) (seq : Nat) : R d (d.fillSlots decim unit ch w seq) := by
  refine T.foldl (fun e sp => T.foldl (fun e sw => T.foldl (fun e j => ?_) _ _) _ _) _ _
  dsimp only
  split
  · exact T.modSpn sp.1 _
  · exact T.refl e

theorem EndRules.linkCounted (l : Nat) : R d (d.linkCounted l) :=
  T.trans (T.trans (T.count d l _) (T.stat _ l _)) (T.link _ l _)

theorem EndRules.linkCut (l : Nat) : R d (d.linkCut l) := T.trans (T.trans (T.stat d l _) (T.raise _ _ _)) (T.raise _ _ _)

/-- The end of a draw, whatever its tag: what the end of a position draw sets is up to its issuer. -/
theorem EndRules.tagEnd (t : DrawTag) (st : DrawStatus) (data : List Byte) (got : List Word)
    (hpos : ∀ a i, t = .position a i → R d (d.setRbit a i true)) : R d (d.tagEnd t st data got) := by
  cases t with
  | plain => exact T.refl d
  | core c pc ea loop =>
    simp only [Dev.tagEnd]
    split
    · exact T.noteLb c _
    · exact T.noteRefused c st pc ea loop
  | checkpoint p l =>
    simp only [Dev.tagEnd]
    split
    · exact T.trans (T.modLoop _ _) (T.noteSpnLb p _)
    · exact T.refl d
  | image p => exact T.noteSpnLb p _
  | sample decim unit ch w seq =>
    simp only [Dev.tagEnd]
    split
    · exact T.fillSlots ..
    · exact T.refl d
  | prefetch k => exact T.whorl d k _
  | record l first last =>
    simp only [Dev.tagEnd]
    split
    · split
      · exact T.linkCounted l
      · exact T.refl d
    · exact T.linkCut l
  | position stat bit =>
    simp only [Dev.tagEnd]
    split
    · exact T.refl d
    · exact hpos stat bit rfl
  | reel k m => exact T.tuning d fun t => { t with reels := smSet (fun _ => Reel.reset) t.reels k (_ : Reel) }
  | capture => exact T.tuning d fun t => { t with inj := _ }

end

/-! ### The open record of a UART (R537) -/

/-- The open record of a link stands. -/
def Dev.sameRecord (l : Nat) (d e : Dev) : Prop := (e.link l).uart = (d.link l).uart ∧ (e.link l).uartErr = (d.link l).uartErr

theorem Dev.sameRecord.trans {l : Nat} (h : Dev.sameRecord l d e) (k : Dev.sameRecord l e f) : Dev.sameRecord l d f :=
  ⟨k.1.trans h.1, k.2.trans h.2⟩

theorem Dev.sameRecord_of_lk {l : Nat} (h : e.lk = d.lk) : Dev.sameRecord l d e := by simp only [Dev.sameRecord, Dev.link, h, and_self]

theorem Dev.sameRecord_modLink (l k w : Nat) : Dev.sameRecord l d (d.modLink k fun x => { x with wr := w }) := by
  unfold Dev.sameRecord Dev.modLink
  rw [Dev.link_setLink]
  split
  · next h => subst h; exact ⟨rfl, rfl⟩
  · exact ⟨rfl, rfl⟩

theorem endRules_sameRecord (l : Nat) : EndRules (Dev.sameRecord l) where
  refl _ := Dev.sameRecord_of_lk rfl
  trans := .trans
  core _ _ := Dev.sameRecord_of_lk (by rfl)
  whorl _ _ _ := Dev.sameRecord_of_lk (by rfl)
  tuning _ _ := Dev.sameRecord_of_lk (by rfl)
  link _ k w := Dev.sameRecord_modLink l k w
  stat _ _ _ := Dev.sameRecord_of_lk (by rfl)
  count _ _ _ := Dev.sameRecord_of_lk (by rfl)
  raise _ _ _ := Dev.sameRecord_of_lk (Dev.raise_lk ..)

theorem Dev.lk_setBytes (bs : List Byte) (a : Nat) : (d.setBytes a bs).lk = d.lk := by
  obtain ⟨m, hm⟩ := Dev.setBytes_eq (d := d) (bs := bs) a
  rw [hm]
  rfl

theorem traffic_sameRecord (l : Nat) : Traffic (fun _ => True) (fun _ => True) (Dev.sameRecord l) where
  banks _ _ := trivial
  refl := (endRules_sameRecord l).refl
  trans := (endRules_sameRecord l).trans
  step h := Dev.sameRecord_of_lk h.lk
  draws _ _ _ := Dev.sameRecord_of_lk rfl
  hank _ _ _ _ _ _ := Dev.sameRecord_of_lk rfl
  lost _ _ _ _ _ _ := Dev.sameRecord_of_lk rfl
  bytes _ _ _ _ _ _ _ := Dev.sameRecord_of_lk (Dev.lk_setBytes _ _)
  tag d x st data got _ := (endRules_sameRecord l).tagEnd _ st data got fun _ _ _ => Dev.sameRecord_of_lk rfl
  moved _ _ := trivial
  fetch _ _ _ _ _ := trivial

theorem Dev.sameRecord_recordDraw (l k : Nat) (ws : List Word) (first last : Bool) :
    Dev.sameRecord l d (d.recordDraw k ws first last) := by
  have hput : Dev.sameRecord l d (d.hankPut (reqLink k) none (d.fld (Reg.LNK_CTL k) 15 8) ws (.record k first last)).1 :=
    ((traffic_sameRecord l).moves_hankPut trivial (fun _ => trivial) (Dev.drawsOk_of_all fun _ => trivial)).1
  unfold Dev.recordDraw
  dsimp only
  split
  · unfold Dev.when
    split
    · exact hput.trans ((endRules_sameRecord l).linkCounted k)
    · exact hput
  · exact hput
  · exact hput.trans ((endRules_sameRecord l).linkCut k)
  · exact hput.trans (Dev.sameRecord_of_lk (by simp [Dev.linkDrop, Dev.incFld, Dev.setRbit, Dev.setFld]))

/-- A record that goes into its ring, whole or not, opens no record of a link. -/
theorem Dev.sameRecord_linkRecord (l k flags : Nat) (info sec ns : Word) (data : List Byte) :
    Dev.sameRecord l d (d.linkRecord k flags info sec ns data) := by
  have hdrop : ∀ x : Dev, x.lk = d.lk → Dev.sameRecord l d (x.linkDrop k) := fun x hx =>
    Dev.sameRecord_of_lk (by simpa [Dev.linkDrop, Dev.incFld, Dev.setRbit, Dev.setFld] using hx)
  simp only [Dev.linkRecord]
  generalize recordWords k flags info _ _ data = ws
  split
  · exact Dev.sameRecord_of_lk (by simp [Dev.linkErr, Dev.incFld, Dev.setRbit, Dev.setFld])
  split
  · exact (endRules_sameRecord l).linkCut k
  split
  · exact hdrop d rfl
  split
  · exact hdrop d rfl
  split
  · exact hdrop _ rfl
  · refine (endRules_sameRecord l).foldl (fun e w => ?_) _ _
    exact Dev.sameRecord_recordDraw l k w.1 (decide (w.2 = 0)) _

end Sys2Proof.Machine
end

section
/-! SUPPORT. The settlement of the link states, the link time, the lands and the HSPI slave's transactions. -/

namespace Sys2Proof.Machine

variable {d e f : Dev} {s : State} {a n req cls : Nat}

/-! ### Link states, link time and lands (R528, R533, R539, R541) -/

theorem Dev.linkIsDown_down (l : Nat) :
    (d.linkIsDown l).rbit (Reg.LNK_STAT l) 7 = false ∧ (d.linkIsDown l).rbit (Reg.LNK_STAT l) 5 = true ∧
      (d.linkIsDown l).raised 162 l ∧ d.keeps (d.linkIsDown l) [Reg.LNK_STAT l] := by
  have hregs : ∀ i, (d.linkIsDown l).rbit (Reg.LNK_STAT l) i =
      ((d.setRbit (Reg.LNK_STAT l) 7 false).setRbit (Reg.LNK_STAT l) 5 true).rbit (Reg.LNK_STAT l) i := fun i => by
    simp [Dev.linkIsDown, Dev.rbit, Dev.reg]
  refine ⟨?_, ?_, Dev.mem_raise _ _ _, ?_⟩
  · rw [hregs, Dev.rbit_setRbit _ _ _ _ _ (by decide), if_neg (by decide), Dev.rbit_setRbit _ _ _ _ _ (by decide), if_pos rfl]
  · rw [hregs, Dev.rbit_setRbit _ _ _ _ _ (by decide), if_pos rfl]
  · exact ((Dev.keeps.rfl.bit _ _ _ (by simp)).bit _ _ _ (by simp)).same (Dev.raise_sk ..) (Dev.raise_regs ..)

theorem Dev.keeps_modLink (l : Nat) (g : Link → Link) (but : List Nat) : d.keeps (d.modLink l g) but :=
  Dev.keeps.rfl.same rfl rfl

theorem Dev.linkCut_cut (l : Nat) : (d.linkCut l).rbit (Reg.LNK_STAT l) 3 = true ∧ (d.linkCut l).raised 164 l ∧
    d.keeps (d.linkCut l) [Reg.LNK_STAT l] := by
  refine ⟨?_, ?_, ?_⟩
  · have hreg : (d.linkCut l).rbit (Reg.LNK_STAT l) 3 = (d.setRbit (Reg.LNK_STAT l) 3 true).rbit (Reg.LNK_STAT l) 3 := by
      simp [Dev.linkCut, Dev.rbit, Dev.reg]
    rw [hreg, Dev.rbit_setRbit _ _ _ _ _ (by decide), if_pos rfl]
  · unfold Dev.raised Dev.linkCut
    rw [Dev.raise_reports]
    split
    · exact Dev.mem_raise _ _ _
    · exact List.mem_append_left _ (Dev.mem_raise _ _ _)
  · exact ((Dev.keeps.rfl.bit _ _ _ (by simp)).same (Dev.raise_sk ..) (Dev.raise_regs ..)).same (Dev.raise_sk ..) (Dev.raise_regs ..)

theorem Dev.uartClose_empty {l : Nat} (h : (d.link l).uart = []) : d.uartClose l = d := by
  simp [Dev.uartClose, h]

/-- What a UART's record is when its record has just been closed. -/
def Dev.recordClosed (d : Dev) (l : Nat) : Dev := d.modLink l fun x => { x with uart := [], uartErr := false }

theorem Dev.uartClose_open {l : Nat} (h : (d.link l).uart ≠ []) :
    d.uartClose l = (d.recordClosed l).linkRecord l (d.link l).uartErr.toNat 0 (d.link l).uartSec (d.link l).uartNs
      (d.link l).uart := by
  simp [Dev.uartClose, h, Dev.recordClosed]

theorem Dev.link_recordClosed (l : Nat) :
    ((d.recordClosed l).link l).uart = [] ∧ ((d.recordClosed l).link l).uartErr = false := by
  simp [Dev.recordClosed, Dev.modLink]

theorem Dev.linkRecord_cut {l flags : Nat} {info sec ns : Word} {data : List Byte} (hlen : data.length ≤ 2048)
    (hcut : d.isCut (reqLink l) = true) : d.linkRecord l flags info sec ns data = d.linkCut l := by
  unfold Dev.linkRecord
  rw [if_neg (Nat.not_lt.mpr hlen), if_pos hcut]

theorem Dev.asMaster_admits {m : Master} {g : Dev → Dev} (h : d.admits m) : d.asMaster m g = (g d).answer .ok := by
  obtain ⟨hc, hm⟩ := h
  unfold Dev.asMaster
  rw [hc, Bool.not_true, if_neg Bool.false_ne_true]
  cases m with
  | bobbin b => rfl
  | distaff => rfl
  | session => exact if_pos hm
  | hspi => exact if_pos (by simpa [Dev.mayWrite, Reg.SNL_MREQ] using hm)

theorem ethTsec_row : plainRow Reg.ETH_TSEC .lnk 0 0x108 = true ∧ regAddr Reg.ETH_TSEC = true := by decide +kernel

theorem Dev.readReg_ethTsec :
    d.readReg Reg.ETH_TSEC = (d.setReg Reg.ETH_TNS (BitVec.ofNat 32 d.lk.ns), some (BitVec.ofNat 32 d.lk.sec)) := by
  obtain ⟨r, hr⟩ := Dev.readReg_plain (d := d) ethTsec_row.1
  rw [hr, Dev.readRow]
  simp only [if_true]

/-! ### A read by the HSPI host (R535) -/

/-- A load that no mark and no draw stands in the way of; the mark of a broken line shows in its status alone. -/
theorem Dev.load_clean (h : d.readsClean req) (hend : a + n ≤ 0x1000000) (hbank : bankOf a = bankOf (a + n - 1)) :
    ∃ st brk, d.load req cls a n = (d.granted req cls a st, .done brk, d.bytes a n) := by
  obtain ⟨hq, hcut, hecc, -⟩ := h
  exact ⟨_, _, Dev.load_read (hq _) hcut hend hbank fun i _ => hecc _⟩

theorem Dev.readsClean_granted (st : DrawStatus) (h : d.readsClean req) : (d.granted req cls a st).readsClean req := h

theorem bankOf_word (h : a % 4 = 0) : bankOf a = bankOf (a + 4 - 1) := by
  unfold bankOf
  omega

theorem Dev.mapRead_skein {m : Master} (ha : a % 4 = 0) (hend : a + 4 ≤ 0x1000000) (h : d.readsClean (d.masterReq m)) :
    ∃ st, d.mapRead m a = (d.granted (d.masterReq m) (classOf (d.masterReq m) false) a st, .data (d.word a)) := by
  obtain ⟨st, brk, hload⟩ := Dev.load_clean (cls := classOf (d.masterReq m) false) h hend (bankOf_word ha)
  refine ⟨st, ?_⟩
  unfold Dev.mapRead
  rw [if_neg (not_not_intro ha), if_pos (by omega)]
  simp only [hload]
  rfl

theorem Dev.words_succ : d.words a (n + 1) = d.word a :: d.words (a + 4) n := by
  simp only [Dev.words, List.range_succ_eq_map, List.map_cons, List.map_map, Nat.mul_zero, Nat.add_zero, List.cons.injEq,
    true_and]
  refine List.map_congr_left fun i _ => congrArg d.word ?_
  omega

/-- Words read one after another, each clean. -/
theorem Dev.readWords_skein (ha : a % 4 = 0) (hend : a + 4 * n ≤ 0x1000000) (h : d.readsClean 111) :
    ∃ e, d.readWords .hspi a n = (e, none, d.words a n) ∧ d.keeps e [] := by
  induction n generalizing d a with
  | zero => exact ⟨d, rfl, .rfl⟩
  | succ n ih =>
    obtain ⟨st, hread⟩ := Dev.mapRead_skein (m := .hspi) ha (by omega) h
    have hg : d.keeps (d.granted 111 (classOf 111 false) a st) [] := ⟨fun _ => by rfl, fun _ _ => by rfl⟩
    obtain ⟨e, hrest, hkeeps⟩ := ih (a := a + 4) (by omega) (by omega) (Dev.readsClean_granted (cls := classOf 111 false) (a := a) st h)
    refine ⟨e, ?_, hg.trans hkeeps⟩
    unfold Dev.readWords
    rw [hread, Dev.words_succ]
    have hrest' : (d.granted (d.masterReq .hspi) (classOf (d.masterReq .hspi) false) a st).readWords .hspi (a + 4) n =
        (e, none, d.words (a + 4) n) := hrest
    simp only [hrest']

theorem Dev.mapRead_reg {m : Master} (ha : a % 4 = 0) (hlo : 0x20000000 ≤ a) (hhi : a < 0x40000000) :
    d.mapRead m a = ((d.readReg a).1, answerOf (d.readReg a).2) := by
  unfold Dev.mapRead
  rw [if_neg (not_not_intro ha), if_neg (by omega), if_neg (by omega), if_pos ⟨hlo, hhi⟩]

/-- A place of no part of the map. -/
def unmapped (a : Nat) : Prop := (0x1000000 ≤ a ∧ a < 0x10000000) ∨ (0x10800000 ≤ a ∧ a < 0x20000000) ∨ 0x40000000 ≤ a

theorem Dev.mapRead_unmapped {m : Master} (h : unmapped a) : d.mapRead m a = (d, .accessError) := by
  unfold unmapped at h
  unfold Dev.mapRead
  split
  · rfl
  · rw [if_neg (by omega), if_neg (by omega), if_neg (by omega)]

theorem Dev.readReg_none (h : (d.readReg a).2 = none) : (d.readReg a).1 = d := by
  unfold Dev.readReg at h ⊢
  cases hf : findReg a with
  | none => rfl
  | some x =>
    obtain ⟨id, inst, off, row⟩ := x
    cases row with
    | none => rfl
    | some r => simp [hf] at h

theorem Dev.readWords_word {m : Master} {w : Word} (h : d.mapRead m a = (e, .data w)) : d.readWords m a 1 = (e, none, [w]) := by
  unfold Dev.readWords
  rw [h]
  rfl

theorem Dev.readWords_error {m : Master} (h : d.mapRead m a = (e, .accessError)) :
    d.readWords m a 1 = (e, some .accessError, []) := by
  unfold Dev.readWords
  rw [h]

/-- What a transaction answered, and what it left. -/
def Dev.hspiSays (d : Dev) (stat : Nat) (ws : List Word) (e : Dev) : Prop := e.lk.hspiStat = stat ∧ e.lk.hspiOut = ws ∧ d.keeps e []

theorem Dev.hspiSays_answer {stat : Nat} {ws : List Word} (h : d.keeps e []) : d.hspiSays stat ws (e.hspiAnswer stat ws) :=
  ⟨rfl, rfl, h.same rfl rfl⟩

section Reads

variable {q : Bool} (hc : d.clocked = true)

include hc

theorem Dev.hspiReadTx_noRight (h : d.rbit Reg.HSPI_RIGHTS 0 = false) :
    d.hspiReadTx a n q = (d.raise 161 7).hspiAnswer 3 [] := by
  simp [Dev.hspiReadTx, hc, h]

variable (hr : d.rbit Reg.HSPI_RIGHTS 0 = true)

include hr

theorem Dev.hspiReadTx_notReady : d.hspiReadTx a n false = d.hspiAnswer 1 [] := by
  simp [Dev.hspiReadTx, hc, hr]

theorem Dev.hspiReadTx_words {ws : List Word} (h : d.readWords .hspi a n = (e, none, ws)) :
    d.hspiReadTx a n true = e.hspiAnswer 0 ws := by
  simp [Dev.hspiReadTx, hc, hr, h]

theorem Dev.hspiReadTx_error (h : d.mapRead .hspi a = (e, .accessError)) : d.hspiReadTx a 1 true = e.hspiAnswer 2 [] := by
  simp [Dev.hspiReadTx, hc, hr, Dev.readWords_error h]

end Reads

/-! ### A word written by the HSPI host (R535) -/

theorem Dev.hspiWriteTx_one {w : Word} (hc : d.clocked = true) :
    d.hspiWriteTx a [w] = (d.hspiWord a w).1.modLk fun x => { x with hspiLast := (d.hspiWord a w).2 } := by
  simp [Dev.hspiWriteTx, hc]

theorem Dev.keeps_hspiLast (k : Nat) {but : List Nat} (h : d.keeps e but) :
    d.keeps (e.modLk fun x => { x with hspiLast := k }) but := h.same rfl rfl

theorem Dev.hspiWord_noRight {w : Word} (h : d.rbit Reg.HSPI_RIGHTS 1 = false) (ha : a ≠ Reg.SNL_MREQ) :
    d.hspiWord a w = (d.raise 161 7, 3) := by
  simp [Dev.hspiWord, Dev.mayWrite, h, ha]

theorem Dev.hspiWord_may {w : Word} (h : d.mayWrite .hspi a = true) : d.hspiWord a w =
    (((d.answer .none).mapWrite .hspi a .word w 0).1,
      if ((d.answer .none).mapWrite .hspi a .word w 0).1.lastAccess = .rights then 3
      else if ((d.answer .none).mapWrite .hspi a .word w 0).2 then 0 else 2) := by
  simp [Dev.hspiWord, h]

theorem Dev.mapWrite_reg {m : Master} {w hw : Word} (ha : a % 4 = 0) (hlo : 0x20000000 ≤ a) (hhi : a < 0x40000000) :
    d.mapWrite m a .word w hw = d.writeReg m a w hw := by
  unfold Dev.mapWrite
  rw [if_neg (by omega), if_pos ⟨hlo, hhi⟩, if_neg (by simp [ha])]

theorem Dev.mapWrite_unmapped {m : Master} {w hw : Word} (h : (0x1000000 ≤ a ∧ a < 0x20000000) ∨ 0x40000000 ≤ a) :
    d.mapWrite m a .word w hw = (d, false) := by
  unfold Dev.mapWrite
  rw [if_neg (by omega), if_neg (by omega)]

theorem gpioOut_row : plainRow Reg.GPIO_OUT .gpio 0 4 = true ∧
    ((findReg Reg.GPIO_OUT).any fun h => h.row.any fun r => decide (r.rw = 0xFFFFFFFF)) = true := by decide +kernel

theorem Dev.writeReg_gpioOut {m : Master} {w : Word} (h : d.cfgMode = true) :
    d.writeReg m Reg.GPIO_OUT w 0 = (d.setReg Reg.GPIO_OUT w, true) := by
  obtain ⟨r, hfind, hw1c⟩ := plainRow_iff.mp gpioOut_row.1
  have hrw : r.rw = 0xFFFFFFFF := by simpa [hfind] using gpioOut_row.2
  have hclear : d.clearW1c Reg.GPIO_OUT r w 0 = d := if_pos hw1c
  have hput : d.put Reg.GPIO_OUT r true 0 w = d.setReg Reg.GPIO_OUT w := by
    have hall : (0xFFFFFFFF : Word) &&& ~~~0 = BitVec.allOnes 32 := by decide
    simp only [Dev.put, if_true, hrw, hall, BitVec.not_allOnes, BitVec.and_zero, BitVec.zero_or, BitVec.and_allOnes]
  unfold Dev.writeReg
  rw [hfind]
  dsimp only
  rw [if_neg (by simp [writeBad]), if_neg (by simp), hclear]
  have hwin : d.winOpen ⟨.gpio, 0, 4, some r⟩ = true := h
  simp [Dev.writeFields, hwin, ← hput]

theorem snlMreq_row : ((findReg Reg.SNL_MREQ).any fun h =>
    decide (h.id = .snl) && decide (h.inst = 0) && decide (h.off = 0xDC) && h.row.isSome) = true := by decide +kernel

theorem Dev.keeps_clearW1c_mreq (r : RegDef) (v hw : Word) : d.keeps (d.clearW1c Reg.SNL_MREQ r v hw) [Reg.SNL_MREQ] := by
  unfold Dev.clearW1c Dev.afterClear
  split
  · exact .rfl
  rw [if_neg (by decide), if_neg (by decide)]
  split
  · exact (Dev.keeps.rfl.set _ _ (by simp)).field _ _ _ _ (by simp)
  · exact Dev.keeps.rfl.set _ _ (by simp)

/-- A write of SNL_MREQ by a host without the MODE right. -/
theorem Dev.writeReg_mreq {w : Word} (hc : d.clocked = true) (hr : d.rbit Reg.HSPI_RIGHTS 2 = false) (hw : bitsOf w 3 0 ≠ 0) :
    ∃ e, d.writeReg .hspi Reg.SNL_MREQ w 0 = (((e.reqRefuse 11).raise 161 7).answer .rights, true) ∧
      d.keeps e [Reg.SNL_MREQ] := by
  have hrow := snlMreq_row
  cases hfind : findReg Reg.SNL_MREQ with
  | none => simp [hfind] at hrow
  | some x =>
    obtain ⟨id, inst, off, row⟩ := x
    obtain ⟨⟨⟨rfl, rfl⟩, rfl⟩, hsome⟩ : ((id = .snl ∧ inst = 0) ∧ off = 0xDC) ∧ row.isSome = true := by simpa [hfind] using hrow
    obtain ⟨r, rfl⟩ := Option.isSome_iff_exists.mp hsome
    have hkeeps := Dev.keeps_clearW1c_mreq (d := d) r w 0
    refine ⟨d.clearW1c Reg.SNL_MREQ r w 0, ?_, hkeeps⟩
    have hclk : (d.clearW1c Reg.SNL_MREQ r w 0).clocked = true := by
      simpa only [Dev.clocked, Dev.rbit, hkeeps.2 Reg.CLK_STAT (by decide)] using hc
    have hright : (d.clearW1c Reg.SNL_MREQ r w 0).mayRequest .hspi = false := by
      simpa only [Dev.mayRequest, Dev.rbit, hkeeps.2 Reg.HSPI_RIGHTS (by decide)] using hr
    unfold Dev.writeReg
    rw [hfind]
    dsimp only
    rw [if_neg (by simp [writeBad]), if_neg (by simp)]
    refine congrArg (·, true) (?_ : Dev.modeRequest _ ⟨.hspi, false⟩ (bitsOf w 3 0) = _)
    unfold Dev.modeRequest
    rw [hclk, Bool.not_true, if_neg Bool.false_ne_true, if_neg hw, hright, if_neg Bool.false_ne_true]
    rfl

theorem Dev.lastAccess_setBytes (bs : List Byte) (a : Nat) : (d.setBytes a bs).lastAccess = d.lastAccess := by
  obtain ⟨m, hm⟩ := Dev.setBytes_eq (d := d) (bs := bs) a
  rw [hm]
  rfl

theorem Dev.storeRefusal_none {entry : Bool} (h : d.storeRefusal req a n entry = none) : a + n ≤ 0x1000000 := by
  unfold Dev.storeRefusal at h
  split at h
  · exact nomatch h
  split at h
  · exact nomatch h
  · omega

theorem Dev.masterReq_hspi : d.masterReq .hspi = 111 := rfl

theorem Dev.mapWrite_skein {w : Word} {brk : Bool} (ha : a % 4 = 0) (hlt : a < 0x1000000)
    (h : d.postStore 111 (classOf 111 false) none a (bytesOfWord w) [] false .plain = (e, .done brk)) :
    d.mapWrite .hspi a .word w 0 = (e, true) := by
  unfold Dev.mapWrite
  rw [if_pos hlt]
  have hput : d.postStore (d.masterReq .hspi) (classOf (d.masterReq .hspi) false) none a (sizeBytes w .word) []
      (decide ((sizeBytes w .word).length = 8)) .plain = (e, .done brk) := h
  dsimp only
  split
  · next hbad =>
    have hgood : (decide (a % 4 ≠ 0) || !widthOk .hspi .word) = false := by rw [ha]; rfl
    exact absurd (hgood.symm.trans hbad) Bool.false_ne_true
  · simp only [hput]

theorem Dev.hspiWord_store {w : Word} (hr : d.rbit Reg.HSPI_RIGHTS 1 = true) (ha : a % 4 = 0) (hs : d.settled)
    (href : d.storeRefusal 111 a 4 false = none) (hblock : d.blockedLine 111 a 4 = none) :
    (d.hspiWord a w).2 = 0 ∧ ∀ z, (d.hspiWord a w).1.byte z =
      if a ≤ z ∧ z < a + 4 then (bytesOfWord w).getD (z - a) 0 else d.byte z := by
  have hlt : a < 0x1000000 := by
    have := Dev.storeRefusal_none href
    omega
  obtain ⟨e, brk, hpost, hcalm⟩ := Dev.postStore_plain (d := d.answer .none) (req := 111) (cls := classOf 111 false) (a := a)
    (bs := bytesOfWord w) (loop := none) (entry := false) (tag := .plain) hs.1 href hblock (.inl ⟨ha, by simp⟩)
  have hmap : (d.answer .none).mapWrite .hspi a .word w 0 = (e, true) := Dev.mapWrite_skein ha hlt hpost
  rw [Dev.hspiWord_may (by simp [Dev.mayWrite, hr]), hmap]
  have hacc : e.lastAccess = .none := hcalm.1.lastAccess.trans (Dev.lastAccess_setBytes _ _)
  refine ⟨by simp [hacc], fun z => ?_⟩
  rw [hcalm.1.byte, Dev.byte_setBytes]
  rfl

/-! ### The commands -/

theorem exec_canBusOff (i : Fin 4) : exec (.canBusOff i) s =
    s.run fun d => (d.linkIsDown (2 + i.val)).modLink (2 + i.val) fun x => { x with busOff := true } := rfl

theorem exec_canBusOffRecovery (i : Fin 4) : exec (.canBusOffRecovery i) s = s.run fun d =>
    if d.rbit (Reg.CAN_CFG (2 + i.val)) 2 then d.modLink (2 + i.val) fun x => { x with busOff := false } else d := rfl

theorem exec_linkDown (l : Fin 18) : exec (.linkDown l) s =
    s.run fun d => if l.val < 2 ∨ l.val = 6 then d.linkIsDown l else d := rfl

theorem exec_linkUp (l : Fin 18) : exec (.linkUp l) s =
    s.run fun d => if hasUp l then d.setRbit (Reg.LNK_STAT l) 7 true else d := rfl

theorem exec_sentTimeout (i : Fin 4) : exec (.sentTimeout i) s = s.run fun d => d.linkIsDown (14 + i.val) := rfl

theorem exec_uartIdleClose (u : Fin 2) : exec (.uartIdleClose u) s = s.run fun d => d.uartClose (12 + u.val) := rfl

theorem exec_timeSecondsRead (m : Master) : exec (.timeSecondsRead m) s = s.act fun d => d.busRead m Reg.ETH_TSEC := rfl

theorem exec_timeOffsetWrite (m : Master) (v : Word) : exec (.timeOffsetWrite m v) s =
    s.act fun d => d.asMaster m fun d => d.addNs v.toInt := rfl

theorem exec_gpioSet (m : Master) (v : Word) : exec (.gpioSet m v) s =
    s.act fun d => d.asMaster m fun d => d.orReg Reg.GPIO_OUT v := rfl

theorem exec_gpioClr (m : Master) (v : Word) : exec (.gpioClr m v) s =
    s.act fun d => d.asMaster m fun d => d.setReg Reg.GPIO_OUT (d.reg Reg.GPIO_OUT &&& ~~~v) := rfl

theorem exec_hspiRead (a : Word) (n : Nat) (q : Bool) : exec (.hspiRead a n q) s =
    s.run fun d => d.hspiReadTx a.toNat n q := rfl

theorem exec_hspiWrite (a : Word) (ws : List Word) : exec (.hspiWrite a ws) s =
    s.run fun d => d.hspiWriteTx a.toNat ws := rfl

theorem exec_hspiStatus : exec .hspiStatus s = s.run fun d => d.hspiAnswer d.lk.hspiLast [] := rfl

/-- What a link that goes down shows. -/
theorem gives_linkIsDown {i : Instr} {g : Dev → Dev} {l : Nat} (h : exec i s = s.run g) (hc : s.dev.clocked = true)
    (hg : g s.dev = s.dev.linkIsDown l) : Gives i s fun e => e.rbit (Reg.LNK_STAT l) 7 = false ∧ e.rbit (Reg.LNK_STAT l) 5 = true ∧
      e.raised 162 l ∧ s.dev.keeps e [Reg.LNK_STAT l] :=
  .of_run h hc (hg ▸ Dev.linkIsDown_down l)

theorem exec_stays_stopped {i : Instr} {g : Dev → Dev} (h : exec i s = s.run g) (hc : s.dev.clocked = false) :
    exec i s = .next s := by
  refine exec_idle_of_act (f := fun d => if d.clocked then g d else d) h ?_
  simp [hc]

/-- Settles O60: each link event, time or land write is its chain of updates; a UART's record is emptied before it goes into its
ring, which opens no record; a transaction of the HSPI host reads clean words, and writes one word of register space or of
the Skein. -/
theorem linkStatesLandsHspi : Obligations.LinkStatesLandsHspi := by
  refine ⟨fun l i u m v s hc => ⟨?_, ?_, ?_, ?_, ?_, ?_, ?_, ?_, ?_, ?_, ?_, ?_⟩, fun a w n q s => ⟨?_, ?_, ?_⟩⟩
  · obtain ⟨h7, h5, hraised, hkeeps⟩ := Dev.linkIsDown_down (d := s.dev) (2 + i.val)
    exact .of_run (exec_canBusOff i) hc ⟨⟨h7, h5, hraised, hkeeps.same rfl rfl⟩, by simp [Dev.modLink]⟩
  · intro habor
    refine .of_run (exec_canBusOffRecovery i) hc ?_
    rw [if_pos habor]
    exact ⟨by simp [Dev.modLink], by simp [Dev.modLink], Dev.keeps_modLink _ _ _⟩
  · exact fun habor => exec_idle_of_run (exec_canBusOffRecovery i) (by simp [habor])
  · exact fun hl => gives_linkIsDown (exec_linkDown l) hc (if_pos hl)
  · exact fun h2 h6 => exec_idle_of_run (exec_linkDown l) (if_neg (by omega))
  · intro hl
    rw [exec_eq_of_run (exec_linkUp l) hc, if_pos (by simp [hasUp]; omega)]
  · exact fun h2 h14 h6 => exec_idle_of_run (exec_linkUp l) (if_neg (by simp [hasUp]; omega))
  · exact gives_linkIsDown (exec_sentTimeout i) hc rfl
  · exact fun h => exec_idle_of_run (exec_uartIdleClose u) (Dev.uartClose_empty h)
  · intro hopen
    have hclosed := Dev.link_recordClosed (d := s.dev) (12 + u.val)
    refine ⟨fun _ => .of_run (exec_uartIdleClose u) hc ?_, fun hlen hcut => .of_run (exec_uartIdleClose u) hc ?_⟩
    · rw [Dev.uartClose_open hopen]
      obtain ⟨huart, herr⟩ := Dev.sameRecord_linkRecord (d := s.dev.recordClosed (12 + u.val)) (12 + u.val) (12 + u.val)
        (s.dev.link (12 + u.val)).uartErr.toNat 0 (s.dev.link (12 + u.val)).uartSec (s.dev.link (12 + u.val)).uartNs
        (s.dev.link (12 + u.val)).uart
      exact ⟨huart.trans hclosed.1, herr.trans hclosed.2⟩
    · rw [Dev.uartClose_open hopen, Dev.linkRecord_cut (d := s.dev.recordClosed (12 + u.val)) (hlen.trans (by decide)) hcut]
      obtain ⟨h3, hraised, hkeeps⟩ := Dev.linkCut_cut (d := s.dev.recordClosed (12 + u.val)) (12 + u.val)
      refine ⟨?_, h3, hraised, by simpa using (Dev.keeps_modLink _ _ []).trans hkeeps⟩
      have hsame := (endRules_sameRecord (12 + u.val)).linkCut (d := s.dev.recordClosed (12 + u.val)) (12 + u.val)
      exact hsame.1.trans hclosed.1
  · intro hm
    refine .of_act (exec_timeSecondsRead m) ?_
    rw [Dev.busRead_reg hc hm ethTsec_row.2 Dev.readReg_ethTsec]
    exact ⟨rfl, Dev.reg_setReg_same .., (Dev.keeps.rfl.set _ _ (by simp)).same rfl rfl⟩
  · intro hadm
    refine ⟨.of_act (exec_timeOffsetWrite m v) ?_, .of_act (exec_gpioSet m v) ?_, .of_act (exec_gpioClr m v) ?_⟩
    · rw [Dev.asMaster_admits hadm]
      exact ⟨rfl, rfl, rfl, Dev.keeps.rfl.same rfl rfl⟩
    · rw [Dev.asMaster_admits hadm]
      exact ⟨Dev.reg_setReg_same .., rfl, (Dev.keeps.rfl.set _ _ (by simp)).same rfl rfl⟩
    · rw [Dev.asMaster_admits hadm]
      exact ⟨Dev.reg_setReg_same .., rfl, (Dev.keeps.rfl.set _ _ (by simp)).same rfl rfl⟩
  · exact fun hc => ⟨exec_stays_stopped (exec_hspiRead a n q) hc, exec_stays_stopped (exec_hspiWrite a [w]) hc⟩
  · intro hc
    refine ⟨fun hr => .of_run (exec_hspiRead a n q) hc ?_, fun hr => ⟨.of_run (exec_hspiRead a n false) hc ?_, ?_, ?_, ?_⟩, ?_, ?_, ?_⟩
    · rw [Dev.hspiReadTx_noRight hc hr]
      exact ⟨Dev.hspiSays_answer (Dev.keeps.rfl.same (Dev.raise_sk ..) (Dev.raise_regs ..)), Dev.mem_raise _ _ _⟩
    · rw [Dev.hspiReadTx_notReady hc hr]
      exact ⟨Dev.hspiSays_answer .rfl, rfl⟩
    · intro ha hend hclean
      obtain ⟨e, hwords, hkeeps⟩ := Dev.readWords_skein ha hend hclean
      refine .of_run (exec_hspiRead a n true) hc ?_
      rw [Dev.hspiReadTx_words hc hr hwords]
      exact Dev.hspiSays_answer hkeeps
    · intro ha hlo hhi
      have hmap := Dev.mapRead_reg (d := s.dev) (m := .hspi) ha hlo hhi
      refine ⟨fun hread => .of_run (exec_hspiRead a 1 true) hc ?_, fun hread => .of_run (exec_hspiRead a 1 true) hc ?_⟩
      · rw [Dev.hspiReadTx_words hc hr (Dev.readWords_word (hmap.trans (by rw [hread]; rfl)))]
        exact Dev.hspiSays_answer .rfl
      · rw [Dev.hspiReadTx_error hc hr (hmap.trans (by rw [Dev.readReg_none hread, hread]; rfl))]
        exact Dev.hspiSays_answer .rfl
    · intro hun
      refine .of_run (exec_hspiRead a 1 true) hc ?_
      rw [Dev.hspiReadTx_error hc hr (Dev.mapRead_unmapped hun)]
      exact Dev.hspiSays_answer .rfl
    · intro hr ha
      refine .of_run (exec_hspiWrite a [w]) hc ?_
      rw [Dev.hspiWriteTx_one hc, Dev.hspiWord_noRight hr ha]
      exact ⟨rfl, Dev.mem_raise _ _ _, (Dev.keeps.rfl.same (Dev.raise_sk ..) (Dev.raise_regs ..)).same rfl rfl⟩
    · intro hr hw
      refine .of_run (exec_hspiWrite _ [w]) hc ?_
      obtain ⟨e, hwrite, hkeeps⟩ := Dev.writeReg_mreq (d := s.dev.answer .none) hc hr hw
      have hmap : (s.dev.answer .none).mapWrite .hspi (BitVec.ofNat 32 Reg.SNL_MREQ).toNat .word w 0 = _ :=
        (Dev.mapWrite_reg (by decide) (by decide) (by decide)).trans hwrite
      rw [Dev.hspiWriteTx_one hc, Dev.hspiWord_may rfl, hmap]
      have hall : s.dev.keeps ((e.reqRefuse 11).raise 161 7) [Reg.SNL_MREQ] :=
        ((hkeeps.trans (Dev.keeps_reqRefuse 11)).mono (by simp)).same (Dev.raise_sk ..) (Dev.raise_regs ..)
      exact ⟨rfl, Dev.mem_raise _ _ _, Dev.fld_congr (hall.2 Reg.DST_MODE (by decide)) _ _, hall.same rfl rfl⟩
    · intro hr
      refine ⟨fun hcfg => .of_run (exec_hspiWrite _ [w]) hc ?_, fun ha hs href hblock => .of_run (exec_hspiWrite a [w]) hc ?_,
        fun hun => .of_run (exec_hspiWrite a [w]) hc ?_⟩
      · have hmap : (s.dev.answer .none).mapWrite .hspi (BitVec.ofNat 32 Reg.GPIO_OUT).toNat .word w 0 = _ :=
          (Dev.mapWrite_reg (by decide) (by decide) (by decide)).trans (Dev.writeReg_gpioOut (w := w) hcfg)
        rw [Dev.hspiWriteTx_one hc, Dev.hspiWord_may (by simp [Dev.mayWrite, hr]), hmap]
        exact ⟨rfl, Dev.reg_setReg_same .., (Dev.keeps.rfl.set _ _ (by simp)).same rfl rfl⟩
      · rw [Dev.hspiWriteTx_one hc]
        exact Dev.hspiWord_store hr ha hs href hblock
      · rw [Dev.hspiWriteTx_one hc, Dev.hspiWord_may (by simp [Dev.mayWrite, hr]), Dev.mapWrite_unmapped hun]
        exact ⟨rfl, Dev.keeps.rfl.same rfl rfl⟩
  · exact fun hc => .of_run exec_hspiStatus hc ⟨rfl, rfl, Dev.keeps.rfl.same rfl rfl⟩

end Sys2Proof.Machine
end

section
/-! SUPPORT. The settlement of the images, forces and gate commands of a Whorl (R248 to R268). -/

namespace Sys2Proof.Machine

variable {d e : Dev} {s : State} {n : Nat}

/-! ### What the outputs' update and a look leave of a Whorl -/

/-- A Whorl whose outputs have been brought up to date: delays, blanking and the clear of a trip aside, it stands. -/
def Whorl.driven (w x : Whorl) : Prop :=
  ∃ ph pl eo tg lc bl cl, x = { w with pendH := ph, pendL := pl, edgeOff := eo, tgt := tg, lastChange := lc, blanking := bl, clearing := cl }

theorem Whorl.driven_refl {w : Whorl} : w.driven w :=
  ⟨w.pendH, w.pendL, w.edgeOff, w.tgt, w.lastChange, w.blanking, w.clearing, by cases w; rfl⟩

theorem Whorl.driven.trans {w x y : Whorl} (h : w.driven x) (k : x.driven y) : w.driven y := by
  obtain ⟨_, _, _, _, _, _, _, rfl⟩ := h
  obtain ⟨ph, pl, eo, tg, lc, bl, cl, rfl⟩ := k
  exact ⟨ph, pl, eo, tg, lc, bl, cl, by rfl⟩

theorem Dev.whorl_setOut (h l : Bool) :
    ∃ bl, (d.setOut n h l).whorl n = { d.whorl n with blanking := bl } := by
  unfold Dev.setOut
  dsimp only
  split
  · exact ⟨(d.whorl n).blanking, by rfl⟩
  · exact ⟨_, Dev.whorl_modWhorl_same _⟩

theorem Dev.whorl_drive (trip : Bool) : (d.whorl n).driven ((d.drive n trip).whorl n) := by
  unfold Dev.drive
  dsimp only
  obtain ⟨bl, h⟩ := Dev.whorl_setOut (d := d.modWhorl n _) (n := n) _ _
  rw [h, Dev.whorl_modWhorl_same]
  exact ⟨_, _, _, _, _, bl, (d.whorl n).clearing, by rfl⟩

theorem Dev.whorl_marked (b : Nat) : (d.whorl n).driven ((d.marked n b).whorl n) := by
  rw [Dev.marked, Dev.whorl_modWhorl_same]
  exact ⟨(d.whorl n).pendH, (d.whorl n).pendL, (d.whorl n).edgeOff, (d.whorl n).tgt, (d.whorl n).lastChange,
    (d.whorl n).blanking, false, by rfl⟩

/-- A look when no line changes: nothing, or the trip of a line. -/
theorem Dev.tripEval_cases : d.tripEval n = d ∨ ∃ b, d.tripEval n = d.latchTrip n b := by
  rw [Dev.tripEval, Dev.tripLook_eq, Dev.newHit_self]
  split_ifs
  · exact .inl rfl
  · exact .inl rfl
  · exact .inl rfl
  · cases d.tripHit n with
    | none => exact .inl rfl
    | some b => exact .inr ⟨b, rfl⟩

theorem Dev.tripEval_unseen (h : d.tripHit n = none) : d.tripEval n = d := by
  rw [Dev.tripEval, Dev.tripLook_eq, Dev.newHit_self, h]
  simp [Dev.when]

theorem Dev.whorl_tripEval : (d.whorl n).driven ((d.tripEval n).whorl n) := by
  rcases Dev.tripEval_cases (d := d) (n := n) with h | ⟨b, h⟩
  · rw [h]
    exact Whorl.driven_refl
  · rw [h, Dev.latchTrip, Dev.whorl_raise]
    exact (Dev.whorl_marked b).trans (Dev.whorl_drive true)

/-- A trip writes TRIP and TRIPSRC alone of the status. -/
theorem Dev.rbit_tripEval {i : Nat} (h1 : i ≠ 1) (h24 : i < 24) :
    (d.tripEval n).rbit (Reg.WHL_STAT n) i = d.rbit (Reg.WHL_STAT n) i := by
  have hne : Reg.WHL_STAT n ≠ Reg.WHL_OUT n := by simp [Reg.WHL_STAT, Reg.WHL_OUT]
  rcases Dev.tripEval_cases (d := d) (n := n) with h | ⟨b, h⟩
  · rw [h]
  · rw [h, Dev.latchTrip, Dev.rbit_congr ((Dev.reg_raise ..).trans (Dev.reg_drive_other true hne)), Dev.marked,
      Dev.rbit_congr (Dev.reg_modWhorl _ _), Dev.rbit_setFld_other _ _ _ _ _ (by decide) (by decide) (.inl h24),
      Dev.rbit_setRbit _ _ _ _ _ (by decide), if_neg h1]

theorem Dev.keeps_setOut (h l : Bool) : d.keeps (d.setOut n h l) [Reg.WHL_OUT n] :=
  ⟨fun a => by simp only [Dev.byte, (Dev.setOut_near h l).sk], fun a ha => Dev.reg_setOut_other h l (by simpa using ha)⟩

theorem Dev.keeps_drive (trip : Bool) : d.keeps (d.drive n trip) [Reg.WHL_OUT n] :=
  ⟨fun a => by simp only [Dev.byte, (Dev.drive_near trip).sk], fun a ha => Dev.reg_drive_other trip (by simpa using ha)⟩

theorem Dev.keeps_modWhorl (g : Whorl → Whorl) (but : List Nat) : d.keeps (d.modWhorl n g) but := Dev.keeps.rfl.same rfl rfl

theorem Dev.keeps_tripEval : d.keeps (d.tripEval n) [Reg.WHL_STAT n, Reg.WHL_OUT n] := (Dev.tripLook_near d).keeps

/-! ### Images (R257, R260) -/

/-- The beat that waited is gone. -/
def Whorl.dropsBeat (w : Whorl) : Whorl := { w with beat := .none }

/-- The beat that waited is the shadow. -/
def Whorl.takesBeat (ws : List Word) (w : Whorl) : Whorl := { w with beat := .none, shadow := ws, fresh := true, landed := true }

/-- A beat that is refused. -/
def Dev.imageRefused (d : Dev) (n : Nat) : Dev :=
  ((d.modWhorl n Whorl.dropsBeat).setRbit (Reg.WHL_STAT n) 10 true).raise Src.WHL_SLOTERR n

theorem Dev.imageLand_refused
    (h : (d.whorl n).beat = .error ∨ ∃ ws, (d.whorl n).beat = .words ws ∧ Machine.imageOk ws = false) :
    d.imageLand n = d.imageRefused n := by
  unfold Dev.imageLand
  rcases h with h | ⟨ws, h, hok⟩
  · simp only [h]; rfl
  · simp only [h, hok]; rfl

theorem Dev.imageRefused_shows : (d.imageRefused n).rbit (Reg.WHL_STAT n) 10 = true ∧ (d.imageRefused n).raised Src.WHL_SLOTERR n ∧
    (d.imageRefused n).whorl n = (d.whorl n).dropsBeat ∧ d.keeps (d.imageRefused n) [Reg.WHL_STAT n] := by
  refine ⟨?_, Dev.mem_raise _ _ _, ?_, ?_⟩
  · rw [Dev.imageRefused, Dev.rbit_congr (Dev.reg_raise ..), Dev.rbit_setRbit _ _ _ _ _ (by decide), if_pos rfl]
  · rw [Dev.imageRefused, Dev.whorl_raise, Dev.setRbit, Dev.whorl_setReg, Dev.whorl_modWhorl_same]
  · exact ((Dev.keeps_modWhorl _ _).bit _ _ _ (by simp)).same (Dev.raise_sk ..) (Dev.raise_regs ..)

/-- A beat that is accepted, over a fresh shadow or not. -/
def Dev.imageTaken (d : Dev) (n : Nat) (ws : List Word) (stale : Bool) : Dev :=
  (d.modWhorl n (Whorl.takesBeat ws)).when stale fun d => d.setRbit (Reg.WHL_STAT n) 11 true

theorem Dev.imageLand_taken {ws : List Word} (h : (d.whorl n).beat = .words ws) (hok : Machine.imageOk ws = true) :
    d.imageLand n = d.imageTaken n ws (d.whorl n).fresh := by
  unfold Dev.imageLand
  simp only [h, hok]
  rfl

theorem Dev.imageTaken_shows (ws : List Word) (b : Bool) :
    (d.imageTaken n ws b).whorl n = (d.whorl n).takesBeat ws ∧
      (d.imageTaken n ws b).rbit (Reg.WHL_STAT n) 11 = (b || d.rbit (Reg.WHL_STAT n) 11) ∧
      d.keeps (d.imageTaken n ws b) [Reg.WHL_STAT n] := by
  cases b with
  | false =>
    rw [Dev.imageTaken, Dev.when_false, Bool.false_or]
    exact ⟨Dev.whorl_modWhorl_same _, by rfl, Dev.keeps_modWhorl _ _⟩
  | true =>
    rw [Dev.imageTaken, Dev.when_true, Bool.true_or]
    refine ⟨?_, (Dev.rbit_setRbit _ _ _ _ _ (by decide)).trans (if_pos rfl), (Dev.keeps_modWhorl _ _).bit _ _ _ (by simp)⟩
    rw [Dev.setRbit, Dev.whorl_setReg, Dev.whorl_modWhorl_same]

/-! ### Enabling (R261) -/

/-- No image has landed since EN. -/
def Whorl.startsAnew (w : Whorl) : Whorl := { w with landed := false, ending := false }

/-- A port that no library function drives has restarted. -/
def Dev.portRestarted (d : Dev) (n : Nat) : Dev := d.when (!d.sequenced n) fun d => d.endLinkHold n

/-- A Whorl whose EN has just been set, before its outputs follow. -/
def Dev.whlStarted (d : Dev) (n : Nat) : Dev :=
  (((d.portRestarted n).setRbit (Reg.WHL_CTL n) 0 true).setRbit (Reg.WHL_STAT n) 2 false).modWhorl n Whorl.startsAnew

theorem Dev.portRestarted_stands : (d.portRestarted n).regs = d.regs ∧ (d.portRestarted n).sk = d.sk ∧
    (d.portRestarted n).whorl n = d.whorl n := by
  unfold Dev.portRestarted
  cases d.sequenced n <;> exact ⟨rfl, rfl, rfl⟩

theorem Dev.whlEnable_ignored (h : d.su.ready = false ∨ d.rbit (Reg.WHL_CTL n) 0 = true ∨ d.rbit (Reg.WHL_STAT n) 0 = true) :
    d.whlEnable n = d := if_pos (by simpa [or_assoc] using h)

section

variable (hr : d.su.ready = true) (hen : d.rbit (Reg.WHL_CTL n) 0 = false) (hact : d.rbit (Reg.WHL_STAT n) 0 = false)
  (hsrc : d.fld (Reg.WHL_CTL n) 15 14 ≠ 1)

include hr hen hact hsrc

theorem Dev.whlEnable_refused (hslot : d.slotOk n = false) : d.whlEnable n = d.setRbit (Reg.WHL_STAT n) 16 true := by
  simp [Dev.whlEnable, hr, hen, hact, hsrc, hslot]

theorem Dev.whlEnable_started (hslot : d.slotOk n = true) : d.whlEnable n = ((d.whlStarted n).drive n false).tripEval n := by
  simp only [Dev.whlEnable, hr, hen, hact, hsrc, hslot, Bool.not_true, Bool.or_self, Bool.false_eq_true, if_false, decide_false,
    Bool.not_false, Bool.and_false]
  rfl

end

theorem Dev.whlStarted_shows : (d.whlStarted n).rbit (Reg.WHL_CTL n) 0 = true ∧ (d.whlStarted n).rbit (Reg.WHL_STAT n) 2 = false ∧
    (d.whlStarted n).whorl n = (d.whorl n).startsAnew ∧ d.keeps (d.whlStarted n) [Reg.WHL_CTL n, Reg.WHL_STAT n] := by
  obtain ⟨hregs, hsk, hwhorl⟩ := Dev.portRestarted_stands (d := d) (n := n)
  have hne : Reg.WHL_CTL n ≠ Reg.WHL_STAT n := by simp [Reg.WHL_STAT, Reg.WHL_CTL]
  refine ⟨?_, ?_, ?_, ?_⟩
  · rw [Dev.whlStarted, Dev.rbit_congr (Dev.reg_modWhorl _ _), Dev.rbit_congr (Dev.reg_setRbit_other _ _ _ hne),
      Dev.rbit_setRbit _ _ _ _ _ (by decide), if_pos rfl]
  · rw [Dev.whlStarted, Dev.rbit_congr (Dev.reg_modWhorl _ _), Dev.rbit_setRbit _ _ _ _ _ (by decide), if_pos rfl]
  · rw [Dev.whlStarted, Dev.whorl_modWhorl_same, Dev.setRbit, Dev.whorl_setReg, Dev.setRbit, Dev.whorl_setReg, hwhorl]
  · have hbits := ((Dev.keeps.rfl (d := d) (but := [Reg.WHL_CTL n, Reg.WHL_STAT n])).same hsk hregs).bit (Reg.WHL_CTL n) 0 true (by simp)
    exact ((hbits.bit (Reg.WHL_STAT n) 2 false (by simp)).trans (Dev.keeps_modWhorl Whorl.startsAnew [])).mono (by simp)

/-! ### Delays, dwells, forces and edges (R248, R252, R264, R267, R268) -/

theorem Dev.gateDelayEnd_high (h : (d.whorl n).pendH = true) : d.gateDelayEnd n .h =
    ((d.modWhorl n fun w => { w with pendH := false, edgeOff := false }).setOut n true (d.rbit (Reg.WHL_OUT n) 1)).tripEval n := by
  simp [Dev.gateDelayEnd, h]

theorem Dev.gateDelayEnd_low (h : (d.whorl n).pendL = true) : d.gateDelayEnd n .l =
    ((d.modWhorl n fun w => { w with pendL := false, edgeOff := false }).setOut n (d.rbit (Reg.WHL_OUT n) 0) true).tripEval n := by
  simp [Dev.gateDelayEnd, h]

/-- A Whorl changed and its outputs set: no trip, where none was. -/
theorem Dev.setOut_unseen (g : Whorl → Whorl) (h l : Bool) (hit : d.tripHit n = none) :
    ((d.modWhorl n g).setOut n h l).tripEval n = (d.modWhorl n g).setOut n h l :=
  Dev.tripEval_unseen ((((Dev.whlNear.modWhorl g).trans (Dev.setOut_near h l)).tripHit n).trans hit)

theorem Dev.keeps_modWhorl_setOut (g : Whorl → Whorl) (h l : Bool) : d.keeps ((d.modWhorl n g).setOut n h l) [Reg.WHL_OUT n] :=
  (Dev.keeps_modWhorl g []).trans (Dev.keeps_setOut h l)

theorem Dev.keeps_modWhorl_drive (g : Whorl → Whorl) : d.keeps ((d.modWhorl n g).drive n false) [Reg.WHL_OUT n] :=
  (Dev.keeps_modWhorl g []).trans (Dev.keeps_drive false)

/-- The Whorl that is changed, and then driven. -/
theorem Dev.whorl_modWhorl_drive (g : Whorl → Whorl) : (g (d.whorl n)).driven (((d.modWhorl n g).drive n false).whorl n) := by
  simpa only [Dev.whorl_modWhorl_same] using Dev.whorl_drive (d := d.modWhorl n g) (n := n) false

theorem Whorl.driven.fields {w x : Whorl} (h : w.driven x) : x.leg = w.leg ∧ x.dwell = w.dwell ∧ x.frc = w.frc ∧
    x.frcWait = w.frcWait ∧ x.pwm = w.pwm ∧ x.refreshLow = w.refreshLow ∧ x.landed = w.landed ∧ x.fresh = w.fresh := by
  obtain ⟨_, _, _, _, _, _, _, rfl⟩ := h
  exact ⟨rfl, rfl, rfl, rfl, rfl, rfl, rfl, rfl⟩

theorem Dev.pwmEdge_pwm (fine : Nat) :
    ((d.pwmEdge n fine).whorl n).pwm = d.pwmLevel n (d.posNow n fine).1 (d.posNow n fine).2 := by
  obtain ⟨-, -, -, -, hpwm, -⟩ := (Dev.whorl_modWhorl_drive (d := d) (n := n) fun w =>
    { w with pwm := d.pwmLevel n (d.posNow n fine).1 (d.posNow n fine).2 }).fields
  exact hpwm

/-- Both outputs forced off are off at once. -/
theorem Dev.drive_off (h : d.targetPair n = (false, false)) : (d.drive n false).reg (Reg.WHL_OUT n) = 0 := by
  rw [Dev.drive, Dev.reg_setOut_same, h]
  simp

/-- A force that takes effect at once, before the outputs follow. -/
def Dev.forced (d : Dev) (n : Nat) (f : Word) : Dev :=
  ((d.setReg (Reg.WHL_FRC n) f).modWhorl n fun w => { w with frc := f, frcWait := none }).setRbit (Reg.WHL_STAT n) 3 false

section

variable {v : Word} (h3 : bitsOf (v &&& 0x1F) 1 0 ≠ 3) (l3 : bitsOf (v &&& 0x1F) 3 2 ≠ 3)
  (hon : ¬(bitsOf (v &&& 0x1F) 1 0 = 2 ∧ bitsOf (v &&& 0x1F) 3 2 = 2))

include h3 l3 hon

theorem Dev.forceWrite_waits (hs : bitOf (v &&& 0x1F) 4 = true) (hsrc : d.fld (Reg.WHL_CTL n) 15 14 ≠ 1) :
    d.forceWrite n v = ((d.setReg (Reg.WHL_FRC n) (v &&& 0x1F)).modWhorl n fun w => { w with frcWait := some (v &&& 0x1F) }).setRbit
      (Reg.WHL_STAT n) 3 true := by
  simp only [Dev.forceWrite, h3, l3, hon, hs, or_self, if_false, hsrc, ne_eq, not_false_eq_true, decide_true, Bool.and_self, if_true]

theorem Dev.forceWrite_now (hs : bitOf (v &&& 0x1F) 4 = false ∨ d.fld (Reg.WHL_CTL n) 15 14 = 1) :
    d.forceWrite n v = (d.forced n (v &&& 0x1F)).drive n false := by
  have hno : (bitOf (v &&& 0x1F) 4 && decide (d.fld (Reg.WHL_CTL n) 15 14 ≠ 1)) = false := by
    rcases hs with hs | hs
    · rw [hs, Bool.false_and]
    · simp [hs]
  simp only [Dev.forceWrite, h3, l3, hon, hno, or_self, if_false, Bool.false_eq_true]
  rfl

end

theorem frc_ne_stat (n : Nat) : Reg.WHL_STAT n ≠ Reg.WHL_FRC n := by simp [Reg.WHL_STAT, Reg.WHL_FRC]

theorem Dev.reg_forced (f : Word) : (d.forced n f).reg (Reg.WHL_FRC n) = f := by
  rw [Dev.forced, Dev.reg_setRbit_other _ _ _ (frc_ne_stat n).symm, Dev.reg_modWhorl, Dev.reg_setReg_same]

theorem Dev.rbit_forced (f : Word) {i : Nat} (hi : i ≠ 3) : (d.forced n f).rbit (Reg.WHL_STAT n) i = d.rbit (Reg.WHL_STAT n) i := by
  rw [Dev.forced, Dev.rbit_setRbit _ _ _ _ _ (by decide), if_neg hi, Dev.rbit_congr (Dev.reg_modWhorl _ _),
    Dev.rbit_congr (Dev.reg_setReg_other _ _ (frc_ne_stat n))]

theorem Dev.whorl_forced (f : Word) : (d.forced n f).whorl n = { d.whorl n with frc := f, frcWait := none } := by
  rw [Dev.forced, Dev.setRbit, Dev.whorl_setReg, Dev.whorl_modWhorl_same, Dev.whorl_setReg]

theorem forcePair_off (x : Bool × Bool) : forcePair 5 x = (false, false) := by
  have h : bitsOf 5 1 0 = 1 := by decide
  have l : bitsOf 5 3 2 = 1 := by decide
  unfold forcePair
  rw [h, l]
  rfl

/-- The force that turns both outputs off commands that of a live Whorl in RUN without a trip (R267, R270). -/
theorem Dev.targetPair_forced_off (hlive : d.whlLive n = true) (htrip : d.rbit (Reg.WHL_STAT n) 1 = false)
    (hrun : d.rbit (Reg.WHL_STAT n) 2 = true) : (d.forced n 5).targetPair n = (false, false) := by
  have hctl : (d.forced n 5).reg (Reg.WHL_CTL n) = d.reg (Reg.WHL_CTL n) := by
    rw [Dev.forced, Dev.reg_setRbit_other _ _ _ (by simp [Reg.WHL_STAT, Reg.WHL_CTL]), Dev.reg_modWhorl,
      Dev.reg_setReg_other _ _ (by simp [Reg.WHL_FRC, Reg.WHL_CTL])]
  have hlive' : (d.forced n 5).whlLive n = true := by
    rw [Dev.whlLive, Dev.rbit_congr hctl, Dev.rbit_forced _ (by decide)]
    exact hlive
  rw [Dev.targetPair, Dev.rbit_forced _ (by decide), htrip, if_neg Bool.false_ne_true, hlive', Dev.rbit_forced _ (by decide), hrun,
    Dev.whorl_forced, if_neg (by decide)]
  exact forcePair_off _

theorem Dev.keeps_forced (f : Word) : d.keeps (d.forced n f) [Reg.WHL_FRC n, Reg.WHL_STAT n] :=
  (((Dev.keeps_setReg (Reg.WHL_FRC n) f).trans (Dev.keeps_modWhorl _ [])).mono (by simp)).bit _ _ _ (by simp)

/-- The level of an image at a position, low within an interval (R248, R249, R266). -/
def levelAt (centre : Bool) (a b low : Nat) (p : Nat × Bool) : Bool :=
  if centre then (if p.2 then decide (b < p.1) && decide (low < 2 * p.1) else decide (a ≤ p.1) && decide (low ≤ 2 * p.1))
  else decide (a ≤ p.1) && decide (p.1 < b) && decide (low ≤ p.1)

/-- A position some fine steps into a tick (R248). -/
def finePos (down : Bool) (c fine : Nat) : Nat × Bool := if down then (c - fine, true) else (c + fine, false)

theorem levelAt_outside (centre down : Bool) (a b c fine : Nat) : levelAt centre a b 0 (finePos down c fine) =
    (if centre then (if down then decide (b < c - fine) else decide (a ≤ c + fine))
     else if down then decide (a ≤ c - fine ∧ c - fine < b) else decide (a ≤ c + fine ∧ c + fine < b)) := by
  have hpos : b < c - fine → 0 < c - fine := Nat.lt_of_le_of_lt (Nat.zero_le _)
  cases centre <;> cases down <;> rw [Bool.eq_iff_iff] <;> simp [levelAt, finePos]
  omega

theorem levelAt_within (centre down : Bool) (a b c fine : Nat) {low : Nat} (h : 2 * (c + fine) < low) :
    levelAt centre a b low (finePos down c fine) = false := by
  cases centre <;> cases down <;> simp [levelAt, finePos] <;> omega

theorem Dev.pwmLevel_eq (fine : Nat) : d.pwmLevel n (d.posNow n fine).1 (d.posNow n fine).2 =
    levelAt (d.tbCentre (d.fld (Reg.WHL_CTL n) 7 4)) (d.fld (Reg.WHL_ACT n 0) 28 0) (d.fld (Reg.WHL_ACT n 1) 28 0)
      (if (d.whorl n).refresh then d.refreshLen n else 0)
      (finePos (d.rbit (Reg.TB_CNT (d.fld (Reg.WHL_CTL n) 7 4)) 24) (32 * d.fld (Reg.TB_CNT (d.fld (Reg.WHL_CTL n) 7 4)) 23 0) fine) := rfl

/-! ### The commands -/

variable {k : Fin 64} {v : Word} {fine : Fin 32}

theorem exec_imageLand : exec (.imageLand k) s = s.run fun d => d.imageLand k := rfl

theorem exec_whorlEnable : exec (.whorlEnable k) s = s.run fun d => d.whlEnable k := rfl

theorem exec_gateDelayEnd (sec : Section) : exec (.gateDelayEnd k sec) s = s.run fun d => d.gateDelayEnd k sec := rfl

theorem exec_dwellExpiry : exec (.dwellExpiry k) s = s.run fun d => d.dwellEnd k := rfl

theorem exec_forceWrite : exec (.forceWrite k v) s = s.run fun d => d.forceWrite k v := rfl

theorem exec_pwmCompareEdge : exec (.pwmCompareEdge k fine) s = s.run fun d => d.pwmEdge k fine := rfl

theorem exec_refreshLowEnd : exec (.refreshLowEnd k) s = s.run fun d => d.refreshEnd k := rfl

/-- Settles O39: each command is an update of its Whorl and then of its outputs, which leaves everything of the Whorl but its
delays, and of the registers its output alone; a trip that a look finds adds the trip's status. -/
theorem whorlImagesAndForces : Obligations.WhorlImagesAndForces := by
  intro n v fine s d w st ctl out hc
  refine ⟨?_, ?_, ?_, ?_, ?_, ?_, ?_, ?_, ?_, ?_, ?_, ?_, ?_, ?_⟩
  · exact fun h => exec_idle_of_run exec_imageLand (by simp only [Dev.imageLand, show (s.dev.whorl n).beat = .none from h])
  · intro h
    refine .of_run exec_imageLand hc ?_
    rw [Dev.imageLand_refused h]
    obtain ⟨h10, hraised, hwhorl, hkeeps⟩ := Dev.imageRefused_shows (d := s.dev) (n := n)
    rw [hwhorl]
    exact ⟨h10, hraised, rfl, rfl, rfl, hkeeps⟩
  · intro ws h hok
    refine .of_run exec_imageLand hc ?_
    rw [Dev.imageLand_taken h hok]
    obtain ⟨hwhorl, h11, hkeeps⟩ := Dev.imageTaken_shows (d := s.dev) (n := n) ws (s.dev.whorl n).fresh
    rw [hwhorl]
    exact ⟨rfl, rfl, rfl, rfl, h11, hkeeps⟩
  · exact fun h => exec_idle_of_run exec_whorlEnable (Dev.whlEnable_ignored h)
  · intro hr hen hact hsrc
    refine ⟨fun hslot => ?_, fun hslot => .of_run exec_whorlEnable hc ?_⟩
    · rw [exec_eq_of_run exec_whorlEnable hc, Dev.whlEnable_refused hr hen hact hsrc hslot]
    · rw [Dev.whlEnable_started hr hen hact hsrc hslot]
      obtain ⟨hctl, hrun, hwhorl, hkeeps⟩ := Dev.whlStarted_shows (d := s.dev) (n := n.val)
      have hnear : (s.dev.whlStarted n).whlNear (((s.dev.whlStarted n).drive n false).tripEval n) [n.val] :=
        (Dev.drive_near false).trans (Dev.tripLook_near _)
      obtain ⟨-, -, -, -, -, -, hlanded, hfresh⟩ := ((Dev.whorl_drive (d := s.dev.whlStarted n) (n := n.val) false).trans
        Dev.whorl_tripEval).fields
      refine ⟨?_, ?_, ?_, ?_, ?_⟩
      · exact (Dev.rbit_congr (hnear.regs _ (apartFrom_WHL_CTL _ _)) 0).trans hctl
      · exact (Dev.rbit_tripEval (by decide) (by decide)).trans
          ((Dev.rbit_congr (Dev.reg_drive_other false (by simp [Reg.WHL_STAT, Reg.WHL_OUT])) 2).trans hrun)
      · rw [hlanded, hwhorl]; rfl
      · rw [hfresh, hwhorl]; rfl
      · have hsub : [Reg.WHL_CTL n, Reg.WHL_STAT n] ++ ([n.val].map Reg.WHL_STAT ++ [n.val].map Reg.WHL_OUT) ⊆
            [Reg.WHL_CTL n, Reg.WHL_STAT n, Reg.WHL_OUT n] := by simp
        exact (hkeeps.trans hnear.keeps).mono hsub
  · exact fun h => exec_idle_of_run (exec_gateDelayEnd .h) (by simp [Dev.gateDelayEnd, show (s.dev.whorl n).pendH = false from h])
  · exact fun h => exec_idle_of_run (exec_gateDelayEnd .l) (by simp [Dev.gateDelayEnd, show (s.dev.whorl n).pendL = false from h])
  · intro hit
    refine ⟨fun h => .of_run (exec_gateDelayEnd .h) hc ?_, fun h => .of_run (exec_gateDelayEnd .l) hc ?_⟩
    · rw [Dev.gateDelayEnd_high h, Dev.setOut_unseen _ _ _ hit]
      obtain ⟨bl, hwhorl⟩ := Dev.whorl_setOut (d := s.dev.modWhorl n fun w => { w with pendH := false, edgeOff := false }) (n := n.val)
        true (s.dev.rbit (Reg.WHL_OUT n) 1)
      rw [hwhorl, Dev.whorl_modWhorl_same]
      exact ⟨Dev.rbit_setOut_high _ _, Dev.rbit_setOut_low _ _, rfl, Dev.keeps_modWhorl_setOut _ _ _⟩
    · rw [Dev.gateDelayEnd_low h, Dev.setOut_unseen _ _ _ hit]
      obtain ⟨bl, hwhorl⟩ := Dev.whorl_setOut (d := s.dev.modWhorl n fun w => { w with pendL := false, edgeOff := false }) (n := n.val)
        (s.dev.rbit (Reg.WHL_OUT n) 0) true
      rw [hwhorl, Dev.whorl_modWhorl_same]
      exact ⟨Dev.rbit_setOut_low _ _, Dev.rbit_setOut_high _ _, rfl, Dev.keeps_modWhorl_setOut _ _ _⟩
  · exact fun h => exec_idle_of_run exec_dwellExpiry (by simp only [Dev.dwellEnd, show (s.dev.whorl n).dwell = none from h])
  · intro c h
    refine .of_run exec_dwellExpiry hc ?_
    have hend : s.dev.dwellEnd n = (s.dev.modWhorl n fun w => { w with leg := c, dwell := none }).drive n false := by
      simp only [Dev.dwellEnd, show (s.dev.whorl n).dwell = some c from h]
    rw [hend]
    obtain ⟨hleg, hdwell, -⟩ := (Dev.whorl_modWhorl_drive (d := s.dev) (n := n.val) fun w => { w with leg := c, dwell := none }).fields
    exact ⟨hleg, hdwell, Dev.keeps_modWhorl_drive _⟩
  · refine ⟨fun h => exec_idle_of_run exec_forceWrite (if_pos h), fun hh hl => ?_, fun h3 l3 hon => ⟨fun hs hsrc => ?_, fun hs => ?_⟩⟩
    · rw [exec_eq_of_run exec_forceWrite hc]
      simp only [Dev.forceWrite, hh, hl, and_self, if_true]
      rfl
    · refine .of_run exec_forceWrite hc ?_
      rw [Dev.forceWrite_waits h3 l3 hon hs hsrc]
      have hkeeps : s.dev.keeps ((s.dev.setReg (Reg.WHL_FRC n) (v &&& 0x1F)).modWhorl n fun w =>
          { w with frcWait := some (v &&& 0x1F) }) [Reg.WHL_FRC n, Reg.WHL_STAT n] :=
        ((Dev.keeps_setReg _ _).trans (Dev.keeps_modWhorl _ [])).mono (by simp)
      refine ⟨?_, (Dev.rbit_setRbit _ _ _ _ _ (by decide)).trans (if_pos rfl), ?_, ?_, hkeeps.bit _ _ _ (by simp)⟩
      · rw [Dev.reg_setRbit_other _ _ _ (frc_ne_stat n).symm, Dev.reg_modWhorl, Dev.reg_setReg_same]
      · rw [Dev.setRbit, Dev.whorl_setReg, Dev.whorl_modWhorl_same]
      · rw [Dev.setRbit, Dev.whorl_setReg, Dev.whorl_modWhorl_same, Dev.whorl_setReg]
    · refine .of_run exec_forceWrite hc ?_
      rw [Dev.forceWrite_now h3 l3 hon hs]
      have hout : Reg.WHL_FRC n ≠ Reg.WHL_OUT n := by simp [Reg.WHL_FRC, Reg.WHL_OUT]
      have hst : Reg.WHL_STAT n ≠ Reg.WHL_OUT n := by simp [Reg.WHL_STAT, Reg.WHL_OUT]
      obtain ⟨-, -, hfrc, hwait, -⟩ := (Dev.whorl_drive (d := s.dev.forced n (v &&& 0x1F)) (n := n.val) false).fields
      refine ⟨?_, ?_, ?_, ?_, fun h5 hlive htrip hrun => ?_, ?_⟩
      · rw [Dev.reg_drive_other false hout, Dev.reg_forced]
      · rw [Dev.rbit_congr (Dev.reg_drive_other false hst), Dev.forced, Dev.rbit_setRbit _ _ _ _ _ (by decide), if_pos rfl]
      · rw [hwait, Dev.whorl_forced]
      · rw [hfrc, Dev.whorl_forced]
      · rw [show v &&& 0x1F = 5 from h5]
        exact Dev.drive_off (Dev.targetPair_forced_off hlive htrip hrun)
      · have hsub : [Reg.WHL_FRC n, Reg.WHL_STAT n] ++ [Reg.WHL_OUT n] ⊆ [Reg.WHL_FRC n, Reg.WHL_STAT n, Reg.WHL_OUT n] := by simp
        exact ((Dev.keeps_forced _).trans (Dev.keeps_drive false)).mono hsub
  · refine .of_run exec_pwmCompareEdge hc ⟨Dev.keeps_modWhorl_drive _, fun hr => ?_, fun hr hlow => ?_⟩
    · rw [Dev.pwmEdge_pwm, Dev.pwmLevel_eq, show (s.dev.whorl n).refresh = false from hr, if_neg Bool.false_ne_true]
      exact levelAt_outside ..
    · rw [Dev.pwmEdge_pwm, Dev.pwmLevel_eq, show (s.dev.whorl n).refresh = true from hr, if_pos rfl]
      exact levelAt_within _ _ _ _ _ _ hlow
  · exact fun h => exec_idle_of_run exec_refreshLowEnd (by simp [Dev.refreshEnd, show (s.dev.whorl n).refreshLow = false from h])
  · intro h
    refine .of_run exec_refreshLowEnd hc ?_
    have hend : s.dev.refreshEnd n = (s.dev.modWhorl n fun w => { w with refreshLow := false }).drive n false := by
      simp only [Dev.refreshEnd, show (s.dev.whorl n).refreshLow = true from h, if_true]
    rw [hend]
    obtain ⟨-, -, -, -, -, hlow, -⟩ := (Dev.whorl_modWhorl_drive (d := s.dev) (n := n.val) fun w => { w with refreshLow := false }).fields
    exact ⟨hlow, Dev.keeps_modWhorl_drive _⟩

end Sys2Proof.Machine
end

section
/-! SUPPORT. The settlement of a leg's protection (R295 to R303, R306). -/

namespace Sys2Proof.Machine

variable {d e f : Dev} {s : State} {n : Nat} {sec : Section} {but : List Nat}

/-! ### The registers of a port -/

theorem pCnt_ne_pStat (n : Nat) : pCnt n ≠ pStat n := by
  unfold pCnt pStat isHv Reg.HVP_CNT Reg.HVP_STAT Reg.LVP_CNT Reg.LVP_STAT
  split <;> omega

theorem pCal_ne_pStat (n : Nat) : pCal n ≠ pStat n := by
  unfold pCal pStat isHv Reg.HVP_CAL Reg.HVP_STAT Reg.LVP_CAL Reg.LVP_STAT
  split <;> omega

theorem pCfg_ne_pStat (n : Nat) : pCfg n ≠ pStat n := by
  unfold pCfg pStat isHv Reg.HVP_CFG Reg.HVP_STAT Reg.LVP_CFG Reg.LVP_STAT
  split <;> omega

/-! ### Steps that stay with one leg -/

theorem Dev.legNear.urgent (x : SrcInst) : d.legNear (d.urgent n x) n but :=
  ⟨by rfl, fun _ _ => by rfl, fun _ _ => by rfl, by rfl, by rfl, by rfl⟩

theorem Dev.legNear.raise (a i : Nat) : d.legNear (d.raise a i) n but :=
  ⟨by simp, fun _ _ => by simp, fun _ _ => by simp, by simp, by simp, by simp⟩

theorem Dev.reg_urgent (x : SrcInst) (a : Nat) : (d.urgent n x).reg a = d.reg a := rfl

theorem Dev.port_urgent (x : SrcInst) (m : Nat) : (d.urgent n x).port m = d.port m := rfl

/-- The codes that wait at a die. -/
def Dev.queue (d : Dev) (n : Nat) : List SrcInst := smGet (fun _ => []) d.pt.urgent n

theorem Dev.queue_urgent (x : SrcInst) : (d.urgent n x).queue n = d.queue n ++ [x] := smGet_smSet_same ..

theorem Dev.queue_modPort (g : Port → Port) : (d.modPort n g).queue n = d.queue n := rfl

theorem Dev.mem_queue_urgent (x : SrcInst) : x ∈ (d.urgent n x).queue n := by
  rw [Dev.queue_urgent]
  exact List.mem_append_right _ (List.mem_singleton_self _)

theorem mem_raise_self (x : SrcInst) : x ∈ (d.raise x.src.toNat x.inst.toNat).reports := by
  simpa [srcInst] using d.mem_raise x.src.toNat x.inst.toNat

/-! ### A short circuit (R295, R299) -/

/-- What a turn-off at once makes of its section. -/
def Dev.forcedSect (d : Dev) (n : Nat) (x : Sect) : Sect :=
  let y := { x with floorWait := false, young := false, offWait := false, armed := false }
  if x.on then d.sunk n y else y

theorem Dev.forceOff_eq (n : Nat) (sec : Section) : d.forceOff n sec = d.modSec n sec (d.forcedSect n) := rfl

theorem Dev.on_forcedSect (x : Sect) : (d.forcedSect n x).on = false := by
  unfold Dev.forcedSect
  dsimp only
  split
  · rfl
  · next h => exact Bool.eq_false_iff.mpr h

/-- A leg whose short circuit has been shown and reported, before it waits for its retry or latches. -/
def Dev.shorted (d : Dev) (n : Nat) (sec : Section) : Dev :=
  ((((((d.forceOff n (otherSec sec)).modSec n sec d.softOff).modPort n fun p => { p with hold := true }).orReg (pStat n)
    (if sec = .h then 0x201 else 0x202)).incFld (pCnt n) 15 0)).urgent n (pSrc n Src.HVP_SC Src.LVP_SC)

theorem Dev.shortCircuit_idle
    (h : ((d.port n).sec sec).armed = false ∨ (d.port n).test = some (if sec = .h then 0 else 1)) : d.shortCircuit n sec = d := by
  refine if_neg ?_
  rcases h with h | h <;> simp [h, Dev.underTest]

section

variable (ha : ((d.port n).sec sec).armed = true) (ht : (d.port n).test ≠ some (if sec = .h then 0 else 1))

include ha ht

theorem Dev.shortCircuit_latches (h : d.nretry n ≤ d.tries n) : d.shortCircuit n sec =
    ((d.shorted n sec).latchLeg n).urgent n (pSrc n Src.HVP_SCLAT Src.LVP_SCLAT) := by
  have hseen : (((d.port n).sec sec).armed && !d.underTest n (if sec = .h then 0 else 1)) = true := by simp [ha, Dev.underTest, ht]
  exact (if_pos hseen).trans (if_pos h)

theorem Dev.shortCircuit_retries (h : d.tries n < d.nretry n) : d.shortCircuit n sec =
    (d.shorted n sec).modPort n fun p => { p with retryWait := true } := by
  have hseen : (((d.port n).sec sec).armed && !d.underTest n (if sec = .h then 0 else 1)) = true := by simp [ha, Dev.underTest, ht]
  exact (if_pos hseen).trans (if_neg (by omega))

end

theorem Dev.shorted_near : d.legNear (d.shorted n sec) n [pStat n, pCnt n] :=
  (((((Dev.legNear.modSec _).trans (.modSec _)).trans (.modPort _)).trans (.setReg _ (by simp))).trans (.setReg _ (by simp))).trans
    (.urgent _)

theorem Dev.port_shorted : ∃ x y, (d.shorted n sec).port n = ((({ d.port n with hold := true } : Port).setSec sec x).setSec (otherSec sec) y) ∧
    x.on = false ∧ x.soft = true ∧ y.on = false := by
  refine ⟨d.softOff ((d.port n).sec sec), d.forcedSect n ((d.port n).sec (otherSec sec)), ?_, rfl, rfl, Dev.on_forcedSect _⟩
  have hport : (d.shorted n sec).port n =
      ((((d.forceOff n (otherSec sec)).modSec n sec d.softOff).modPort n fun p => { p with hold := true })).port n := rfl
  rw [hport, Dev.port_modPort_same, Dev.port_modSec_same, Dev.forceOff_eq, Dev.port_modSec_same]
  cases sec <;> rfl

theorem Dev.stat_shorted : (d.shorted n sec).reg (pStat n) = d.reg (pStat n) ||| (if sec = .h then 0x201 else 0x202) :=
  (Dev.reg_setReg_other _ _ (pCnt_ne_pStat n).symm).trans (Dev.reg_setReg_same ..)

theorem satInc_eq (k x : Nat) (h : x < 2 ^ k) : satInc k x = min (2 ^ k - 1) (x + 1) := by
  unfold satInc
  split <;> omega

theorem Dev.fld_incFld (a hi lo : Nat) (h1 : hi < 32) (h2 : lo ≤ hi) :
    (d.incFld a hi lo).fld a hi lo = min (2 ^ (hi + 1 - lo) - 1) (d.fld a hi lo + 1) := by
  have hlt : d.fld a hi lo < 2 ^ (hi + 1 - lo) := bitsOf_lt _ _ _
  rw [Dev.incFld, Dev.fld_setFld _ _ _ _ _ h1 h2, satInc_eq _ _ hlt]
  exact Nat.mod_eq_of_lt (by omega)

theorem Dev.cnt_shorted : (d.shorted n sec).fld (pCnt n) 15 0 = min 65535 (d.fld (pCnt n) 15 0 + 1) := by
  refine (Dev.fld_incFld (pCnt n) 15 0 (by decide) (by decide)).trans ?_
  refine congrArg (fun x => min 65535 (x + 1)) (Dev.fld_congr ?_ 15 0)
  exact (Dev.reg_setReg_other _ _ (pCnt_ne_pStat n)).trans rfl

/-- What a short circuit shows, whichever way it goes on (R295). -/
def Dev.showsShort (d : Dev) (n : Nat) (sec : Section) (e : Dev) : Prop :=
  (e.port n).h.on = false ∧ (e.port n).l.on = false ∧ ((e.port n).sec sec).soft = true ∧ (e.port n).hold = true ∧
    e.rbit (pStat n) (if sec = .h then 0 else 1) = true ∧ e.rbit (pStat n) 9 = true ∧
    e.fld (pCnt n) 15 0 = min 65535 (d.fld (pCnt n) 15 0 + 1) ∧ pSrc n Src.HVP_SC Src.LVP_SC ∈ e.queue n

theorem Dev.showsShort_shorted : d.showsShort n sec (d.shorted n sec) := by
  obtain ⟨x, y, hport, hx, hsoft, hy⟩ := Dev.port_shorted (d := d) (n := n) (sec := sec)
  have hbit : ∀ i, (d.shorted n sec).rbit (pStat n) i = (d.rbit (pStat n) i || bitOf (if sec = .h then 0x201 else 0x202) i) := fun i => by
    rw [Dev.rbit, Dev.stat_shorted, bitOf_or, Dev.rbit]
  refine ⟨?_, ?_, ?_, ?_, ?_, ?_, Dev.cnt_shorted, ?_⟩
  · rw [hport]; cases sec <;> assumption
  · rw [hport]; cases sec <;> assumption
  · rw [hport]; cases sec <;> assumption
  · rw [hport]; cases sec <;> rfl
  · rw [hbit]; cases sec <;> exact Bool.or_true _
  · rw [hbit]; cases sec <;> exact Bool.or_true _
  · exact Dev.mem_queue_urgent _

/-- A leg that goes on to wait or to latch shows it still. -/
theorem Dev.showsShort.congr (h : d.showsShort n sec e) (hh : (f.port n).h = (e.port n).h) (hl : (f.port n).l = (e.port n).l)
    (hhold : (f.port n).hold = true) (hst : ∀ i, i ≠ 2 → f.rbit (pStat n) i = e.rbit (pStat n) i)
    (hcnt : f.reg (pCnt n) = e.reg (pCnt n)) (hq : e.queue n ⊆ f.queue n) : d.showsShort n sec f := by
  obtain ⟨h1, h2, h3, -, h5, h6, h7, h8⟩ := h
  refine ⟨by rw [hh, h1], by rw [hl, h2], ?_, hhold, ?_, by rw [hst 9 (by decide), h6], by rw [Dev.fld_congr hcnt, h7], hq h8⟩
  · cases sec
    · exact (congrArg Sect.soft hh).trans h3
    · exact (congrArg Sect.soft hl).trans h3
  · rw [hst _ (by cases sec <;> decide), h5]

theorem Dev.latchLeg_near (hb : pStat n ∈ but) : d.legNear (d.latchLeg n) n but := (Dev.legNear.modPort _).trans (.setReg _ hb)

theorem Dev.rbit_latchLeg (i : Nat) : (d.latchLeg n).rbit (pStat n) i = if i = 2 then true else d.rbit (pStat n) i :=
  Dev.rbit_setRbit _ _ _ _ _ (by decide)

theorem Dev.reg_latchLeg_other {a : Nat} (h : a ≠ pStat n) : (d.latchLeg n).reg a = d.reg a := by
  rw [Dev.latchLeg, Dev.reg_setRbit_other _ _ _ h, Dev.reg_modPort]

/-- A leg that is latched off. -/
def Port.latched (p : Port) : Port := { p with retryWait := false, hold := true }

/-- A leg that waits for its retry. -/
def Port.waiting (p : Port) : Port := { p with retryWait := true }

/-- A leg that is re-armed. -/
def Port.released (p : Port) : Port := { p with hold := false, retryWait := false, line := false }

/-- A leg whose sections have a window open. -/
def Port.opened (w : AdaptWin) (p : Port) : Port := { p with h := { p.h with win := some w }, l := { p.l with win := some w } }

theorem Dev.port_latchLeg : (d.latchLeg n).port n = (d.port n).latched := Dev.port_modPort_same d n Port.latched

theorem Dev.showsShort_latched (x : SrcInst) : d.showsShort n sec (((d.shorted n sec).latchLeg n).urgent n x) := by
  have hport : (((d.shorted n sec).latchLeg n).urgent n x).port n = ((d.shorted n sec).port n).latched := by
    rw [Dev.port_urgent, Dev.port_latchLeg]
  refine Dev.showsShort_shorted.congr (by rw [hport]; rfl) (by rw [hport]; rfl) (by rw [hport]; rfl) (fun i hi => ?_) ?_ ?_
  · rw [Dev.rbit_congr (Dev.reg_urgent _ _) i, Dev.rbit_latchLeg, if_neg hi]
  · rw [Dev.reg_urgent, Dev.reg_latchLeg_other (pCnt_ne_pStat n)]
  · rw [Dev.queue_urgent]
    exact List.subset_append_left _ _

theorem Dev.showsShort_waits : d.showsShort n sec ((d.shorted n sec).modPort n Port.waiting) := by
  have hport := Dev.port_modPort_same (d.shorted n sec) n Port.waiting
  have hshort := Dev.showsShort_shorted (d := d) (n := n) (sec := sec)
  refine hshort.congr (by rw [hport]; rfl) (by rw [hport]; rfl) (by rw [hport]; exact hshort.2.2.2.1)
    (fun i _ => Dev.rbit_congr (Dev.reg_modPort ..) i) (Dev.reg_modPort ..) ?_
  rw [Dev.queue_modPort]
  exact List.Subset.refl _

/-! ### Retry and REARM (R299, R301) -/

theorem Dev.openWin_cases (k : AdaptWindow) : d.openWin n k = d ∨
    ∃ w v, d.openWin n k = (d.modPort n (Port.opened w)).setFld (pCal n) 31 16 v := by
  simp only [Dev.openWin]
  generalize d.dieBit n (pAdpctl n) _ = en
  split
  · exact .inr ⟨⟨k, 16 * d.dieFld n (pAdpctl n) 31 24⟩, d.dieFld n (pCal n) 15 0, rfl⟩
  · exact .inl rfl

theorem Dev.openWin_near (k : AdaptWindow) (hb : pCal n ∈ but) : d.legNear (d.openWin n k) n but := by
  rcases Dev.openWin_cases (d := d) (n := n) k with h | ⟨w, v, h⟩
  · rw [h]; exact .rfl
  · rw [h]; exact (Dev.legNear.modPort _).trans (.setReg _ hb)

theorem Dev.stat_openWin (k : AdaptWindow) : (d.openWin n k).reg (pStat n) = d.reg (pStat n) := by
  rcases Dev.openWin_cases (d := d) (n := n) k with h | ⟨w, v, h⟩
  · rw [h]
  · rw [h]
    exact Dev.reg_setReg_other _ _ (pCal_ne_pStat n).symm

theorem Dev.port_openWin (k : AdaptWindow) : ((d.openWin n k).port n).hold = (d.port n).hold ∧
    ((d.openWin n k).port n).retryWait = (d.port n).retryWait ∧ ((d.openWin n k).port n).line = (d.port n).line := by
  rcases Dev.openWin_cases (d := d) (n := n) k with h | ⟨w, v, h⟩
  · rw [h]; exact ⟨rfl, rfl, rfl⟩
  · rw [h, Dev.setFld, Dev.port_setReg, Dev.port_modPort_same]; exact ⟨rfl, rfl, rfl⟩

theorem Dev.rearmLeg_eq : d.rearmLeg n = ((d.modPort n Port.released).setFld (pStat n) 1 0 0).openWin n .recovery := rfl

/-- The hold of a leg is released. -/
theorem Dev.rearmLeg_shows : ((d.rearmLeg n).port n).hold = false ∧ ((d.rearmLeg n).port n).retryWait = false ∧
    ((d.rearmLeg n).port n).line = false ∧ (d.rearmLeg n).reg (pStat n) = putBits (d.reg (pStat n)) 1 0 0 := by
  obtain ⟨hhold, hwait, hline⟩ := Dev.port_openWin (d := (d.modPort n Port.released).setFld (pStat n) 1 0 0) (n := n) .recovery
  rw [Dev.setFld, Dev.port_setReg, Dev.port_modPort_same] at hhold hwait hline
  refine ⟨hhold, hwait, hline, ?_⟩
  rw [Dev.rearmLeg_eq, Dev.stat_openWin, Dev.setFld, Dev.reg_setReg_same, Dev.reg_modPort]

theorem Dev.rearmLeg_near (hs : pStat n ∈ but) (hc : pCal n ∈ but) : d.legNear (d.rearmLeg n) n but :=
  ((Dev.legNear.modPort _).trans (.setReg _ hs)).trans (Dev.openWin_near _ hc)

/-- A latched leg that REARM frees, before its hold ends. -/
def Dev.unlatched (d : Dev) (n : Nat) : Dev :=
  (((d.setRbit (pStat n) 2 false).setFld (pStat n) 19 17 0).setRbit (pStat n) 6 false).modPort n fun p => { p with scmAt := none }

theorem Dev.rearm_idle (h : d.rbit (pStat n) 2 = false ∨ d.rbit (pStat n) 23 = true ∨ d.mode = 9 ∨ d.supplyLow n = true) :
    d.rearm n = d := by
  refine if_neg ?_
  rcases h with h | h | h | h <;> simp [h]

theorem Dev.rearm_taken (h2 : d.rbit (pStat n) 2 = true) (h23 : d.rbit (pStat n) 23 = false) (hm : d.mode ≠ 9)
    (hs : d.supplyLow n = false) : d.rearm n = (d.unlatched n).rearmLeg n := if_pos (by simp [h2, h23, hm, hs])

theorem Dev.stat_unlatched :
    (d.unlatched n).reg (pStat n) = putBit (putBits (putBit (d.reg (pStat n)) 2 false) 19 17 0) 6 false := by
  rw [Dev.unlatched, Dev.reg_modPort, Dev.setRbit, Dev.reg_setReg_same, Dev.setFld, Dev.reg_setReg_same, Dev.setRbit,
    Dev.reg_setReg_same]

/-- The status word of a leg that is re-armed out of its latch. -/
theorem unlatched_word (w : Word) :
    let v := putBits (putBit (putBits (putBit w 2 false) 19 17 0) 6 false) 1 0 0
    bitOf v 2 = false ∧ bitOf v 6 = false ∧ bitsOf v 19 17 = 0 ∧ bitsOf v 1 0 = 0 := by
  refine ⟨?_, ?_, ?_, bitsOf_putBits_same _ _ _ _ (by decide) (by decide)⟩
  · simp [bitOf_putBits, bitOf_putBit]
  · simp [bitOf_putBits, bitOf_putBit]
  · rw [bitsOf_putBits_other _ _ _ _ _ _ (by decide) (by decide) (by decide), bitsOf_putBit_other _ _ _ _ _ (by decide) (by decide),
      bitsOf_putBits_same _ _ _ _ (by decide) (by decide)]
    rfl

theorem Dev.unlatched_near (hs : pStat n ∈ but) : d.legNear (d.unlatched n) n but :=
  (((Dev.legNear.setReg _ hs).trans (.setReg _ hs)).trans (.setReg _ hs)).trans (.modPort _)

theorem Dev.retryEnd_idle (h : (d.port n).retryWait = false) : d.retryEnd n = d := if_neg (by simp [h])

theorem Dev.retryEnd_retries (h : (d.port n).retryWait = true) (ht : d.tries n < d.nretry n) :
    d.retryEnd n = (d.setFld (pStat n) 19 17 (d.tries n + 1)).rearmLeg n := (if_pos h).trans (if_pos ht)

theorem Dev.retryEnd_latches (h : (d.port n).retryWait = true) (ht : d.nretry n ≤ d.tries n) :
    d.retryEnd n = (d.latchLeg n).raise (pSrc n Src.HVP_SCLAT Src.LVP_SCLAT).src.toNat
      (pSrc n Src.HVP_SCLAT Src.LVP_SCLAT).inst.toNat := (if_pos h).trans (if_neg (Nat.not_lt.mpr ht))

theorem Dev.tries_retried (ht : d.tries n < d.nretry n) :
    ((d.setFld (pStat n) 19 17 (d.tries n + 1)).rearmLeg n).tries n = d.tries n + 1 := by
  have hlt : d.nretry n < 2 ^ 3 := bitsOf_lt _ _ _
  rw [Dev.tries, Dev.fld, Dev.rearmLeg_shows.2.2.2, bitsOf_putBits_other _ _ _ _ _ _ (by decide) (by decide) (by decide), Dev.setFld,
    Dev.reg_setReg_same, bitsOf_putBits_same _ _ _ _ (by decide) (by decide)]
  exact Nat.mod_eq_of_lt (by omega)

/-! ### Self-tests and the configuration (R302, R303, R306) -/

/-- Nothing of a section is commanded on or under way. -/
def Sect.idle (x : Sect) : Prop := x.cmd = false ∧ x.on = false ∧ x.soft = false ∧ x.offWait = false ∧ x.floorWait = false

theorem Sect.idle_iff (x : Sect) : (!x.cmd && !x.on && !x.soft && !x.offWait && !x.floorWait) = true ↔ x.idle := by
  simp [Sect.idle, and_assoc]

theorem Dev.testStart_idle {sel : Nat} (hsel : sel ≤ if n < 32 then 6 else 4) (hh : (d.port n).h.idle) (hl : (d.port n).l.idle) :
    d.testStart n sel = (d.modPort n fun p => { p with test := some sel }).setRbit (pStat n) 22 true := by
  have hs : ¬(if isHv n then 6 else 4) < sel := by simpa [isHv] using hsel
  simp only [Dev.testStart, hs, if_false, (Sect.idle_iff _).mpr hh, (Sect.idle_iff _).mpr hl, Bool.and_self, if_true]

theorem Dev.testStart_busy {sel : Nat} (hsel : sel ≤ if n < 32 then 6 else 4) (h : ¬(d.port n).h.idle ∨ ¬(d.port n).l.idle) :
    d.testStart n sel = d.setFld (pStat n) 21 20 3 := by
  have hs : ¬(if isHv n then 6 else 4) < sel := by simpa [isHv] using hsel
  have hbusy : ¬((!(d.port n).h.cmd && !(d.port n).h.on && !(d.port n).h.soft && !(d.port n).h.offWait && !(d.port n).h.floorWait) &&
      (!(d.port n).l.cmd && !(d.port n).l.on && !(d.port n).l.soft && !(d.port n).l.offWait && !(d.port n).l.floorWait)) = true := by
    rw [Bool.and_eq_true, Sect.idle_iff, Sect.idle_iff, not_and_or]
    exact h
  simp only [Dev.testStart, hs, if_false]
  exact if_neg hbusy

theorem Dev.testEnd_idle (h : (d.port n).test = none) (r : TestEnd) : d.testEnd n r = d := by simp only [Dev.testEnd, h]

/-- A test of a leg that has ended, before its result shows. -/
def Dev.testOver (d : Dev) (n : Nat) : Dev := (d.modPort n fun p => { p with test := none }).setRbit (pStat n) 22 false

theorem Dev.testEnd_tripped (h : (d.port n).test.isSome = true) : d.testEnd n .tripped = (d.testOver n).setFld (pStat n) 21 20 1 := by
  obtain ⟨x, hx⟩ := Option.isSome_iff_exists.mp h
  simp only [Dev.testEnd, hx]
  rfl

theorem Dev.testEnd_silent (h : (d.port n).test.isSome = true) : d.testEnd n .silent =
    (((d.testOver n).setFld (pStat n) 21 20 2).setRbit (pStat n) 13 true).raise (pSrc n Src.HVP_STFAIL Src.LVP_STFAIL).src.toNat
      (pSrc n Src.HVP_STFAIL Src.LVP_STFAIL).inst.toNat := by
  obtain ⟨x, hx⟩ := Option.isSome_iff_exists.mp h
  simp only [Dev.testEnd, hx]
  rfl

/-- The status word of a leg whose comparator stayed silent. -/
theorem silent_word (w : Word) :
    let v := putBit (putBits (putBit w 22 false) 21 20 2) 13 true
    bitOf v 22 = false ∧ bitsOf v 21 20 = 2 ∧ bitOf v 13 = true := by
  refine ⟨?_, ?_, ?_⟩
  · simp [bitOf_putBits, bitOf_putBit]
  · rw [bitsOf_putBit_other _ _ _ _ _ (by decide) (by decide), bitsOf_putBits_same _ _ _ _ (by decide) (by decide)]
    rfl
  · simp [bitOf_putBit]

theorem Dev.testOver_near (hs : pStat n ∈ but) : d.legNear (d.testOver n) n but := (Dev.legNear.modPort _).trans (.setReg _ hs)

theorem Dev.test_testOver : ((d.testOver n).port n).test = none := by
  rw [Dev.testOver, Dev.setRbit, Dev.port_setReg, Dev.port_modPort_same]

theorem Dev.stat_testOver : (d.testOver n).reg (pStat n) = putBit (d.reg (pStat n)) 22 false := by
  rw [Dev.testOver, Dev.setRbit, Dev.reg_setReg_same, Dev.reg_modPort]

/-- A port with no write left to deliver. -/
def Port.configured (p : Port) : Port := { p with late := [] }

/-- A die whose configuration has been delivered. -/
def Dev.delivered (d : Dev) (n : Nat) : Dev := (d.modPort n Port.configured).setRbit (pStat n) 24 false

theorem Dev.delivered_near (hs : pStat n ∈ but) : d.legNear (d.delivered n) n but := (Dev.legNear.modPort _).trans (.setReg _ hs)

theorem Dev.port_delivered : (d.delivered n).port n = (d.port n).configured := by
  rw [Dev.delivered, Dev.setRbit, Dev.port_setReg, Dev.port_modPort_same]

theorem Dev.dieWord_delivered {a : Nat} (ha : a ≠ pStat n) : (d.delivered n).dieWord n a = d.reg a := by
  rw [Dev.dieWord, Dev.port_delivered]
  exact Dev.reg_setRbit_other _ _ _ ha

/-! ### The commands -/

variable {k : Fin 64}

theorem exec_shortCircuitDetect (sec : Section) : exec (.shortCircuitDetect k sec) s = s.act fun d => d.shortCircuit k sec := rfl

theorem exec_retryWaitEnd : exec (.retryWaitEnd k) s = s.act fun d => d.retryEnd k := rfl

theorem exec_triesReset : exec (.triesReset k) s =
    s.act fun d => if (d.port k).hold then d else d.setFld (pStat k) 19 17 0 := rfl

theorem exec_rearm : exec (.rearm k) s = s.run fun d => d.rearm k := rfl

theorem exec_portCountClear : exec (.portCountClear k) s = s.run fun d => d.setReg (pCnt k) 0 := rfl

theorem exec_portConfigDelivered : exec (.portConfigDelivered k) s = s.run fun d => d.delivered k := rfl

theorem exec_selfTestStart (sel : BitVec 3) : exec (.selfTestStart k sel) s = s.run fun d => d.testStart k sel.toNat := rfl

theorem exec_selfTestEnd (r : TestEnd) : exec (.selfTestEnd k r) s = s.act fun d => d.testEnd k r := rfl

/-- Settles O42: each command is a chain of updates of its leg and of the leg's own registers, whose status bits are read off the
chain. -/
theorem portProtection : Obligations.PortProtection := by
  intro n sec sel s d p st cal queued own
  have hcnt : pCnt n.val ≠ pStat n.val := pCnt_ne_pStat n
  refine ⟨fun h => exec_idle_of_act (exec_shortCircuitDetect sec) (Dev.shortCircuit_idle h), fun ha ht => ?_,
    fun h => exec_idle_of_act exec_retryWaitEnd (Dev.retryEnd_idle h), fun hw => ⟨fun ht => ?_, fun ht => ?_⟩,
    fun h => exec_idle_of_act exec_triesReset (if_pos h), fun h => ?_, fun h => exec_idle_of_run exec_rearm (Dev.rearm_idle h),
    fun hc h2 h23 hm hs => ?_, fun hc => exec_eq_of_run exec_portCountClear hc, fun hc => ?_, ?_, ?_,
    fun h r => exec_idle_of_act (exec_selfTestEnd r) (Dev.testEnd_idle h r), fun h => ⟨?_, ?_⟩⟩
  · refine .of_act (exec_shortCircuitDetect sec) ?_
    by_cases ht' : s.dev.nretry n ≤ s.dev.tries n
    · rw [Dev.shortCircuit_latches ha ht ht']
      obtain ⟨h1, h2, h3, h4, h5, h6, h7, h8⟩ := Dev.showsShort_latched (d := s.dev) (n := n.val) (sec := sec)
        (pSrc n Src.HVP_SCLAT Src.LVP_SCLAT)
      have hnear : s.dev.legNear (((s.dev.shorted n sec).latchLeg n).urgent n (pSrc n Src.HVP_SCLAT Src.LVP_SCLAT)) n
          [pStat n, pCnt n] := (Dev.shorted_near.trans (Dev.latchLeg_near (by simp))).trans (.urgent _)
      refine ⟨h1, h2, h3, h4, h5, h6, h7, h8, fun hlt => absurd ht' (Nat.not_le.mpr hlt), fun _ => ⟨?_, ?_, ?_⟩, hnear.keeps, hnear.legs⟩
      · rw [Dev.port_urgent, Dev.port_latchLeg]; rfl
      · rw [Dev.rbit_congr (Dev.reg_urgent _ _), Dev.rbit_latchLeg, if_pos rfl]
      · exact Dev.mem_queue_urgent _
    · have hlt := Nat.not_le.mp ht'
      rw [Dev.shortCircuit_retries ha ht hlt]
      obtain ⟨h1, h2, h3, h4, h5, h6, h7, h8⟩ := Dev.showsShort_waits (d := s.dev) (n := n.val) (sec := sec)
      have hnear : s.dev.legNear ((s.dev.shorted n sec).modPort n Port.waiting) n [pStat n, pCnt n] := Dev.shorted_near.trans (.modPort _)
      refine ⟨h1, h2, h3, h4, h5, h6, h7, h8, fun _ => ⟨?_, ?_⟩, fun hle => absurd hle ht', hnear.keeps, hnear.legs⟩
      · exact congrArg Port.retryWait (Dev.port_modPort_same (s.dev.shorted n sec) n Port.waiting)
      · refine (show _ = (s.dev.shorted n sec).rbit (pStat n) 2 from rfl).trans ?_
        rw [Dev.rbit, Dev.stat_shorted, bitOf_or]
        cases sec <;> exact Bool.or_false _
  · refine .of_act exec_retryWaitEnd ?_
    rw [Dev.retryEnd_retries hw ht]
    obtain ⟨hhold, hwait, hline, hstat⟩ := Dev.rearmLeg_shows (d := s.dev.setFld (pStat n) 19 17 (s.dev.tries n + 1)) (n := n.val)
    have hnear : s.dev.legNear ((s.dev.setFld (pStat n) 19 17 (s.dev.tries n + 1)).rearmLeg n) n [pStat n, pCal n] :=
      (Dev.legNear.setReg _ (by simp)).trans (Dev.rearmLeg_near (by simp) (by simp))
    refine ⟨hhold, hwait, hline, Dev.tries_retried ht, ?_, hnear.keeps, hnear.legs⟩
    rw [Dev.fld, hstat, bitsOf_putBits_same _ _ _ _ (by decide) (by decide)]
    rfl
  · refine .of_act exec_retryWaitEnd ?_
    rw [Dev.retryEnd_latches hw ht]
    have hnear : s.dev.legNear ((s.dev.latchLeg n).raise (pSrc n Src.HVP_SCLAT Src.LVP_SCLAT).src.toNat
      (pSrc n Src.HVP_SCLAT Src.LVP_SCLAT).inst.toNat) n [pStat n] := (Dev.latchLeg_near (by simp)).trans (.raise _ _)
    refine ⟨?_, ?_, ?_, mem_raise_self _, hnear.keeps, hnear.legs⟩
    · rw [Dev.port_raise, Dev.port_latchLeg]; rfl
    · rw [Dev.port_raise, Dev.port_latchLeg]; rfl
    · rw [Dev.rbit_congr (Dev.reg_raise ..), Dev.rbit_latchLeg, if_pos rfl]
  · refine .of_act exec_triesReset ?_
    rw [if_neg (by simpa using h)]
    exact ⟨Dev.fld_setFld _ _ _ _ _ (by decide) (by decide), Dev.port_setReg .., Dev.keeps.rfl.field _ _ _ _ (List.mem_singleton_self (pStat n))⟩
  · refine .of_run exec_rearm hc ?_
    rw [Dev.rearm_taken h2 h23 hm hs]
    obtain ⟨hhold, -, hline, hstat⟩ := Dev.rearmLeg_shows (d := s.dev.unlatched n) (n := n.val)
    have hnear : s.dev.legNear ((s.dev.unlatched n).rearmLeg n) n [pStat n, pCal n] :=
      (Dev.unlatched_near (by simp)).trans (Dev.rearmLeg_near (by simp) (by simp))
    obtain ⟨h2', h6', htries, hlines⟩ := unlatched_word (s.dev.reg (pStat n))
    rw [Dev.stat_unlatched] at hstat
    exact ⟨(congrArg (bitOf · 2) hstat).trans h2', (congrArg (bitOf · 6) hstat).trans h6', (congrArg (bitsOf · 19 17) hstat).trans htries,
      (congrArg (bitsOf · 1 0) hstat).trans hlines, hhold, hline, hnear.keeps, hnear.legs⟩
  · refine .of_run exec_portConfigDelivered hc ?_
    have hword := fun a (ha : a ≠ pStat n) => Dev.dieWord_delivered (d := s.dev) (n := n.val) ha
    have hnear : s.dev.legNear (s.dev.delivered n) n [pStat n] := Dev.delivered_near (by simp)
    refine ⟨congrArg (bitsOf · 13 12) (hword _ (pCfg_ne_pStat n)), congrArg (bitsOf · 18 16) (hword _ (pCfg_ne_pStat n)), hword, ?_, ?_,
      (Dev.rbit_setRbit _ _ _ _ _ (by decide)).trans (if_pos rfl), hnear.keeps, hnear.legs⟩
    · rw [Dev.port_delivered]; rfl
    · rw [Dev.port_delivered]; rfl
  · exact fun hsel => exec_idle_of_run (exec_selfTestStart sel) (if_pos (by simpa [isHv] using hsel))
  · intro idle hc hsel
    refine ⟨fun hh hl => .of_run (exec_selfTestStart sel) hc ?_, fun h => ?_⟩
    · rw [Dev.testStart_idle hsel hh hl]
      have hnear : s.dev.legNear ((s.dev.modPort n fun p => { p with test := some sel.toNat }).setRbit (pStat n) 22 true) n [pStat n] :=
        (Dev.legNear.modPort _).trans (.setReg _ (by simp))
      refine ⟨?_, (Dev.rbit_setRbit _ _ _ _ _ (by decide)).trans (if_pos rfl), hnear.keeps, hnear.legs⟩
      rw [Dev.setRbit, Dev.port_setReg, Dev.port_modPort_same]
    · rw [exec_eq_of_run (exec_selfTestStart sel) hc, Dev.testStart_busy hsel h]
  · refine .of_act (exec_selfTestEnd _) ?_
    rw [Dev.testEnd_tripped h]
    have hnear : s.dev.legNear ((s.dev.testOver n).setFld (pStat n) 21 20 1) n [pStat n] := (Dev.testOver_near (by simp)).trans (.setReg _ (by simp))
    refine ⟨?_, ?_, Dev.fld_setFld _ _ _ _ _ (by decide) (by decide), rfl, hnear.keeps, hnear.legs⟩
    · rw [Dev.setFld, Dev.port_setReg, Dev.test_testOver]
    · rw [Dev.rbit_setFld_other _ _ _ _ _ (by decide) (by decide) (by decide), Dev.rbit, Dev.stat_testOver,
        bitOf_putBit _ _ _ _ (by decide), if_pos rfl]
  · refine .of_act (exec_selfTestEnd _) ?_
    rw [Dev.testEnd_silent h]
    have hnear : s.dev.legNear ((((s.dev.testOver n).setFld (pStat n) 21 20 2).setRbit (pStat n) 13 true).raise
        (pSrc n Src.HVP_STFAIL Src.LVP_STFAIL).src.toNat (pSrc n Src.HVP_STFAIL Src.LVP_STFAIL).inst.toNat) n [pStat n] :=
      (((Dev.testOver_near (by simp)).trans (.setReg _ (by simp))).trans (.setReg _ (by simp))).trans (.raise _ _)
    have hstat : ((((s.dev.testOver n).setFld (pStat n) 21 20 2).setRbit (pStat n) 13 true).raise
        (pSrc n Src.HVP_STFAIL Src.LVP_STFAIL).src.toNat (pSrc n Src.HVP_STFAIL Src.LVP_STFAIL).inst.toNat).reg (pStat n) =
        putBit (putBits (putBit (s.dev.reg (pStat n)) 22 false) 21 20 2) 13 true := by
      rw [Dev.reg_raise, Dev.setRbit, Dev.reg_setReg_same, Dev.setFld, Dev.reg_setReg_same, Dev.stat_testOver]
    obtain ⟨h22, hres, h13⟩ := silent_word (s.dev.reg (pStat n))
    refine ⟨?_, (congrArg (bitOf · 22) hstat).trans h22, (congrArg (bitsOf · 21 20) hstat).trans hres,
      (congrArg (bitOf · 13) hstat).trans h13, mem_raise_self _, hnear.keeps, hnear.legs⟩
    rw [Dev.port_raise, Dev.setRbit, Dev.port_setReg, Dev.setFld, Dev.port_setReg, Dev.test_testOver]

end Sys2Proof.Machine
end

section
/-! SUPPORT. The settlement of the links, supplies and temperature of the leg dies (R14, R15, R290 to R294, R304): what a
step over the legs of a die does at each of them. -/

namespace Sys2Proof.Machine

variable {d e f : Dev} {s : State} {n i : Nat} {sec : Section} {but ls ns ms : List Nat}

/-! ### A step over several legs -/

theorem pStat_inj {a b : Nat} (h : pStat a = pStat b) : a = b := by
  unfold pStat isHv Reg.HVP_STAT Reg.LVP_STAT at h
  split at h <;> split at h <;> simp_all <;> omega

/-- Two devices that differ in some legs, their status and reports only. -/
structure Dev.legsNear (d e : Dev) (ns : List Nat) : Prop where
  keeps : d.keeps e (ns.map pStat)
  legs : d.keepsLegs e ns

theorem Dev.legsNear.rfl : d.legsNear d ns := ⟨.rfl, fun _ _ => by rfl⟩

theorem Dev.legsNear.trans (h : d.legsNear e ns) (k : e.legsNear f ns) : d.legsNear f ns where
  keeps := (h.keeps.trans k.keeps).mono (by simp)
  legs m hm := (k.legs m hm).trans (h.legs m hm)

theorem Dev.legsNear.mono (h : d.legsNear e ns) (hs : ns ⊆ ms) : d.legsNear e ms where
  keeps := h.keeps.mono (List.map_subset _ hs)
  legs m hm := h.legs m fun hn => hm (hs hn)

theorem Dev.legNear.legsNear (h : d.legNear e n [pStat n]) : d.legsNear e [n] := ⟨h.keeps, h.legs⟩

theorem Dev.legsNear.foldl {g : Dev → Nat → Dev} (hg : ∀ m ∈ ls, ∀ e : Dev, e.legNear (g e m) m [pStat m]) :
    d.legsNear (ls.foldl g d) ls := by
  have h : ∀ (ks : List Nat), ks ⊆ ls → ∀ d : Dev, d.legsNear (ks.foldl g d) ls := fun ks => by
    induction ks with
    | nil => exact fun _ _ => .rfl
    | cons k ks ih =>
      intro hs d
      have hk : k ∈ ls := hs List.mem_cons_self
      exact ((hg k hk d).legsNear.mono (by simpa using hk)).trans (ih (fun x hx => hs (List.mem_cons_of_mem _ hx)) _)
  exact h ls (List.Subset.refl _) d

/-- A leg and its status, among other legs, stand. -/
theorem Dev.legsNear.at (h : d.legsNear e ns) (hi : i ∉ ns) : e.port i = d.port i ∧ e.reg (pStat i) = d.reg (pStat i) :=
  ⟨h.legs i hi, h.keeps.2 _ fun hm => by
    obtain ⟨m, hm, heq⟩ := List.mem_map.mp hm
    exact hi (pStat_inj heq ▸ hm)⟩

/-- What a step over the legs does at one of them is its step there, from a device in which that leg stands as it stood. -/
theorem Dev.foldl_at {g : Dev → Nat → Dev} (hnd : ls.Nodup) (hg : ∀ m ∈ ls, ∀ e : Dev, e.legNear (g e m) m [pStat m]) (hi : i ∈ ls) :
    ∃ e ms, d.legsNear e ms ∧ i ∉ ms ∧ (∀ a, a ∉ ls.map pStat → e.reg a = d.reg a) ∧ (ls.foldl g d).port i = (g e i).port i ∧
      (ls.foldl g d).reg (pStat i) = (g e i).reg (pStat i) := by
  obtain ⟨p, q, rfl, hp, hq⟩ := nodup_split hnd hi
  have hbefore : d.legsNear (p.foldl g d) p := .foldl fun m hm => hg m (by simp [hm])
  have hafter := (Dev.legsNear.foldl (d := g (p.foldl g d) i) (ls := q) fun m hm => hg m (by simp [hm])).at hq
  refine ⟨p.foldl g d, p, hbefore, hp, fun a ha => hbefore.keeps.2 a fun hm => ha ?_, ?_, ?_⟩
  · rw [List.map_append]
    exact List.mem_append_left _ hm
  · rw [List.foldl_append, List.foldl_cons]
    exact hafter.1
  · rw [List.foldl_append, List.foldl_cons]
    exact hafter.2

theorem nodup_legsOf (die : Nat) : (legsOf die).Nodup := by
  unfold legsOf
  split
  · exact List.nodup_singleton _
  · refine List.Nodup.map_on (fun a _ b _ h => ?_) List.nodup_range
    omega

/-! ### A leg turned off -/

theorem Dev.forceOff_near (n : Nat) (sec : Section) : d.legNear (d.forceOff n sec) n but := by
  rw [Dev.forceOff_eq]
  exact .modSec _

theorem Dev.legOff_near : d.legNear (d.legOff n) n but := (Dev.forceOff_near n .h).trans (Dev.forceOff_near n .l)

theorem Dev.port_legOff : ∃ x y, (d.legOff n).port n = { d.port n with h := x, l := y } ∧ x.on = false ∧ y.on = false := by
  refine ⟨d.forcedSect n (d.port n).h, (d.forceOff n .h).forcedSect n (d.port n).l, ?_, Dev.on_forcedSect _, Dev.on_forcedSect _⟩
  rw [Dev.legOff, Dev.forceOff_eq, Dev.port_modSec_same, Dev.forceOff_eq, Dev.port_modSec_same]
  rfl

/-- A leg that is shown bad and turned off: the mark is set by `g`, the status takes the bits of a mask. -/
def Dev.legDown (g : Port → Port) (m : Word) (e : Dev) (n : Nat) : Dev := ((e.modPort n g).legOff n).orReg (pStat n) m

theorem Dev.legDown_near (g : Port → Port) (m : Word) : d.legNear (Dev.legDown g m d n) n [pStat n] :=
  ((Dev.legNear.modPort _).trans Dev.legOff_near).trans (.setReg _ (by simp))

theorem Dev.port_legDown (g : Port → Port) (m : Word) :
    ∃ x y, (Dev.legDown g m d n).port n = { g (d.port n) with h := x, l := y } ∧ x.on = false ∧ y.on = false := by
  obtain ⟨x, y, hp, hx, hy⟩ := Dev.port_legOff (d := d.modPort n g) (n := n)
  refine ⟨x, y, ?_, hx, hy⟩
  rw [Dev.legDown, Dev.orReg, Dev.port_setReg, hp, Dev.port_modPort_same]

theorem Dev.stat_legDown (g : Port → Port) (m : Word) : (Dev.legDown g m d n).reg (pStat n) = d.reg (pStat n) ||| m := by
  rw [Dev.legDown, Dev.orReg, Dev.reg_setReg_same]
  exact congrArg (· ||| m) (((Dev.legOff_near (but := [])).regs _ (by simp)).trans (Dev.reg_modPort ..))

/-- Every leg of a die shown bad and turned off. -/
theorem Dev.legsDown (g : Port → Port) (m : Word) {die : Nat} (hi : i ∈ legsOf die) :
    (∃ x y, ((legsOf die).foldl (Dev.legDown g m) d).port i = { g (d.port i) with h := x, l := y } ∧ x.on = false ∧ y.on = false) ∧
      ((legsOf die).foldl (Dev.legDown g m) d).reg (pStat i) = d.reg (pStat i) ||| m := by
  obtain ⟨e, ms, hnear, hout, -, hport, hstat⟩ := Dev.foldl_at (d := d) (nodup_legsOf die)
    (fun k _ e => Dev.legDown_near (d := e) (n := k) g m) hi
  obtain ⟨hpe, hse⟩ := hnear.at hout
  obtain ⟨x, y, hp, hx, hy⟩ := Dev.port_legDown (d := e) (n := i) g m
  exact ⟨⟨x, y, by rw [hport, hp, hpe], hx, hy⟩, by rw [hstat, Dev.stat_legDown, hse]⟩

theorem Dev.legsDown_near (g : Port → Port) (m : Word) (die : Nat) : d.legsNear ((legsOf die).foldl (Dev.legDown g m) d) (legsOf die) :=
  .foldl fun _ _ _ => Dev.legDown_near g m

/-- Every leg of a die released by `g`. -/
theorem Dev.legsFreed (g : Port → Port) {die : Nat} :
    d.legsNear ((legsOf die).foldl (fun e n => e.modPort n g) d) (legsOf die) ∧
      (∀ i ∈ legsOf die, ((legsOf die).foldl (fun e n => e.modPort n g) d).port i = g (d.port i)) ∧
      d.keeps ((legsOf die).foldl (fun e n => e.modPort n g) d) [] := by
  refine ⟨.foldl fun _ _ _ => .modPort _, fun i hi => ?_, ?_⟩
  · obtain ⟨e, ms, hnear, hout, -, hport, -⟩ := Dev.foldl_at (d := d) (nodup_legsOf die)
      (fun k _ e => Dev.legNear.modPort (d := e) (n := k) g) hi
    rw [hport, Dev.port_modPort_same, (hnear.at hout).1]
  · generalize legsOf die = ks
    induction ks generalizing d with
    | nil => exact .rfl
    | cons k ks ih => exact (Dev.legNear.modPort (d := d) (n := k) (but := []) g).keeps.trans ih

/-! ### A die that loses its link (R15) -/

/-- A section turned off by a safe state. -/
def Dev.safeOff (d : Dev) (n : Nat) (sec : Section) : Dev := (d.modSec n sec fun x => { x with cmd := false }).forceOff n sec

/-- A section turned on by a safe state, one floor later where it is off. -/
def Dev.safeOn (d : Dev) (n : Nat) (sec : Section) : Dev :=
  if ((d.port n).sec sec).on then d.modSec n sec fun x => { x with cmd := true, offWait := false }
  else if (d.cmdSeen n sec).heldOff n sec then d.cmdSeen n sec
  else (d.cmdSeen n sec).modSec n sec fun x => { x with floorWait := true }

theorem Dev.dieSafe_off : d.dieSafe n 0 = (d.safeOff n .h).safeOff n .l := rfl

theorem Dev.dieSafe_low : d.dieSafe n 1 = (d.safeOff n .h).safeOn n .l := rfl

theorem Dev.dieSafe_high : d.dieSafe n 2 = (d.safeOff n .l).safeOn n .h := rfl

theorem Dev.dieSafe_cases (st : Nat) : d.dieSafe n st = d.dieSafe n 0 ∨ d.dieSafe n st = d.dieSafe n 1 ∨ d.dieSafe n st = d.dieSafe n 2 := by
  by_cases h1 : st = 1
  · exact .inr (.inl (by rw [h1]))
  · by_cases h2 : st = 2
    · exact .inr (.inr (by rw [h2]))
    · exact .inl ((if_neg h1).trans (if_neg h2))

theorem Dev.safeOff_near (n : Nat) (sec : Section) : d.legNear (d.safeOff n sec) n but := (Dev.legNear.modSec _).trans (Dev.forceOff_near n sec)

theorem Dev.safeOn_near (n : Nat) (sec : Section) : d.legNear (d.safeOn n sec) n [pStat n] := by
  have hseen : d.legNear (d.cmdSeen n sec) n [pStat n] := Dev.abortTest_legNear.trans (.modSec _)
  exact .ite (.modSec _) (.ite hseen (hseen.trans (.modSec _)))

theorem Dev.dieSafe_near (st : Nat) : d.legNear (d.dieSafe n st) n [pStat n] := by
  rcases Dev.dieSafe_cases (d := d) (n := n) st with h | h | h
  · rw [h]; exact (Dev.safeOff_near n .h).trans (Dev.safeOff_near n .l)
  · rw [h]; exact (Dev.safeOff_near n .h).trans (Dev.safeOn_near n .l)
  · rw [h]; exact (Dev.safeOff_near n .l).trans (Dev.safeOn_near n .h)

theorem Dev.port_safeOff (n : Nat) (sec : Section) :
    ∃ x, (d.safeOff n sec).port n = (d.port n).setSec sec x ∧ x.on = false ∧ x.cmd = false := by
  let off : Sect → Sect := fun x => { x with cmd := false }
  refine ⟨(d.modSec n sec off).forcedSect n (off ((d.port n).sec sec)), ?_, Dev.on_forcedSect _, ?_⟩
  · rw [Dev.safeOff, Dev.forceOff_eq, Dev.port_modSec_same, Dev.port_modSec_same, Port.sec_setSec_same]
    cases sec <;> rfl
  · unfold Dev.forcedSect
    dsimp only
    split <;> rfl

/-- A leg with the off-state test that runs on it. -/
def Port.testing (p : Port) (t : Option Nat) : Port := { p with test := t }

theorem Dev.port_abortTest_kept : ∃ t, (d.abortTest n).port n = (d.port n).testing t := by
  unfold Dev.abortTest
  split
  · refine ⟨none, ?_⟩
    rw [Dev.setFld, Dev.port_setReg, Dev.setRbit, Dev.port_setReg, Dev.port_modPort_same]
    rfl
  · exact ⟨(d.port n).test, rfl⟩

/-- A section that a turn-on command has reached. -/
def Sect.commanded (x : Sect) (now : Nat) : Sect := { x with cmd := true, cmdAt := now, armed := false, clamp := false }

theorem Dev.port_safeOn (n : Nat) (sec : Section) :
    ∃ x t, (d.safeOn n sec).port n = ((d.port n).testing t).setSec sec x ∧ x.cmd = true := by
  obtain ⟨t, ht⟩ := Dev.port_abortTest_kept (d := d) (n := n)
  have hseen : ∃ x, (d.cmdSeen n sec).port n = ((d.port n).testing t).setSec sec x ∧ x.cmd = true := by
    refine ⟨((d.port n).sec sec).commanded d.now, ?_, rfl⟩
    rw [Dev.cmdSeen, Dev.port_modSec_same, Dev.sec_abortTest, ht]
    rfl
  unfold Dev.safeOn
  split
  · refine ⟨{ (d.port n).sec sec with cmd := true, offWait := false }, (d.port n).test, ?_, rfl⟩
    rw [Dev.port_modSec_same]
    rfl
  · split
    · obtain ⟨x, hp, hx⟩ := hseen
      exact ⟨x, t, hp, hx⟩
    · obtain ⟨x, hp, hx⟩ := hseen
      refine ⟨{ x with floorWait := true }, t, ?_, hx⟩
      rw [Dev.port_modSec_same, hp, Port.sec_setSec_same]
      cases sec <;> rfl

/-- What a lost link makes of a leg whose loaded safe state is `st`. -/
def Port.safe (p : Port) (st : Nat) : Prop :=
  p.linkLost = true ∧ p.linkHold = true ∧
    (st = 0 → (p.h.on = false ∧ p.l.on = false) ∧ p.h.cmd = false ∧ p.l.cmd = false) ∧
    (st = 1 → p.h.on = false ∧ p.l.cmd = true) ∧ (st = 2 → p.l.on = false ∧ p.h.cmd = true)

/-- A leg of a die whose link is lost. -/
def Port.unlinked (p : Port) : Port := { p with linkLost := true, linkHold := true }

theorem Dev.safe_dieSafe (st : Nat) (hlost : (d.port n).linkLost = true) (hhold : (d.port n).linkHold = true) : ((d.dieSafe n st).port n).safe st := by
  have hoff : ((d.dieSafe n 0).port n).safe 0 := by
    obtain ⟨x, hp, hx, hxc⟩ := Dev.port_safeOff (d := d) n .h
    obtain ⟨y, hq, hy, hyc⟩ := Dev.port_safeOff (d := d.safeOff n .h) n .l
    rw [Dev.dieSafe_off, hq, hp]
    exact ⟨hlost, hhold, fun _ => ⟨⟨hx, hy⟩, hxc, hyc⟩, fun h => absurd h (by decide), fun h => absurd h (by decide)⟩
  have hlow : ((d.dieSafe n 1).port n).safe 1 := by
    obtain ⟨x, hp, hx, -⟩ := Dev.port_safeOff (d := d) n .h
    obtain ⟨y, t, hq, hy⟩ := Dev.port_safeOn (d := d.safeOff n .h) n .l
    rw [Dev.dieSafe_low, hq, hp]
    exact ⟨hlost, hhold, fun h => absurd h (by decide), fun _ => ⟨hx, hy⟩, fun h => absurd h (by decide)⟩
  have hhigh : ((d.dieSafe n 2).port n).safe 2 := by
    obtain ⟨x, hp, hx, -⟩ := Dev.port_safeOff (d := d) n .l
    obtain ⟨y, t, hq, hy⟩ := Dev.port_safeOn (d := d.safeOff n .l) n .h
    rw [Dev.dieSafe_high, hq, hp]
    exact ⟨hlost, hhold, fun h => absurd h (by decide), fun h => absurd h (by decide), fun _ => ⟨hx, hy⟩⟩
  have hheld := hoff
  obtain ⟨hl, hh, -⟩ := hheld
  by_cases h1 : st = 1
  · rw [h1]; exact hlow
  · by_cases h2 : st = 2
    · rw [h2]; exact hhigh
    · by_cases h0 : st = 0
      · rw [h0]; exact hoff
      · have heq : d.dieSafe n st = d.dieSafe n 0 := (if_neg h1).trans (if_neg h2)
        rw [heq]
        exact ⟨hl, hh, fun h => absurd h h0, fun h => absurd h h1, fun h => absurd h h2⟩

/-- One leg of a die that loses its link. -/
def Dev.legUnlinked (d : Dev) (n : Nat) : Dev := (d.modPort n Port.unlinked).dieSafe n (d.lsafe n)

theorem Dev.legUnlinked_near : d.legNear (d.legUnlinked n) n [pStat n] := (Dev.legNear.modPort _).trans (Dev.dieSafe_near _)

theorem Dev.lsafe_congr (h : e.port n = d.port n) (hr : e.reg (pCfg n) = d.reg (pCfg n)) : e.lsafe n = d.lsafe n := by
  unfold Dev.lsafe Dev.dieFld Dev.dieWord
  rw [h, hr]

theorem pCfg_not_pStat (ns : List Nat) : pCfg n ∉ ns.map pStat := by
  intro h
  obtain ⟨m, -, hm⟩ := List.mem_map.mp h
  unfold pCfg pStat isHv Reg.HVP_CFG Reg.HVP_STAT Reg.LVP_CFG Reg.LVP_STAT at hm
  split at hm <;> split at hm <;> simp_all <;> omega

/-- The legs of a die whose link is lost. -/
def Dev.dieUnlinked (d : Dev) (die : Nat) : Dev := (legsOf die).foldl Dev.legUnlinked d

theorem Dev.linkLoss_eq (die : Nat) : d.linkLoss die =
    if die < 32 then (d.dieUnlinked die).raise Src.HVP_LINK die else (d.dieUnlinked die).raise Src.LVP_LINK (8 * (die - 32)) := rfl

theorem Dev.dieUnlinked_near (die : Nat) : d.legsNear (d.dieUnlinked die) (legsOf die) := .foldl fun _ _ _ => Dev.legUnlinked_near

theorem Dev.dieUnlinked_safe {die : Nat} (hi : i ∈ legsOf die) : ((d.dieUnlinked die).port i).safe (d.lsafe i) := by
  obtain ⟨e, ms, hnear, hout, hregs, hport, -⟩ := Dev.foldl_at (d := d) (nodup_legsOf die)
    (fun k _ e => Dev.legUnlinked_near (d := e) (n := k)) hi
  rw [Dev.dieUnlinked, hport, ← Dev.lsafe_congr (hnear.at hout).1 (hregs _ (pCfg_not_pStat _))]
  refine Dev.safe_dieSafe _ ?_ ?_ <;> rw [Dev.port_modPort_same] <;> rfl

theorem Dev.port_linkLoss (die i : Nat) : (d.linkLoss die).port i = (d.dieUnlinked die).port i := by
  rw [Dev.linkLoss_eq]
  split <;> exact Dev.port_raise ..

theorem Dev.raised_linkLoss (die : Nat) :
    if die < 32 then (d.linkLoss die).raised Src.HVP_LINK die else (d.linkLoss die).raised Src.LVP_LINK (8 * (die - 32)) := by
  rw [Dev.linkLoss_eq]
  split <;> exact Dev.mem_raise _ _ _

theorem Dev.legsNear.urgent (n : Nat) (x : SrcInst) : d.legsNear (d.urgent n x) ns := ⟨(Dev.legNear.urgent (n := n) x).keeps, fun _ _ => by rfl⟩

theorem Dev.legsNear.raise (a i : Nat) : d.legsNear (d.raise a i) ns :=
  ⟨(Dev.legNear.raise (n := 0) a i).keeps, fun _ _ => by rw [Dev.port_raise]⟩

theorem Dev.linkLoss_near (die : Nat) : d.legsNear (d.linkLoss die) (legsOf die) := by
  rw [Dev.linkLoss_eq]
  split
  · exact (Dev.dieUnlinked_near die).trans (.raise _ _)
  · exact (Dev.dieUnlinked_near die).trans (.raise _ _)

/-! ### An undervoltage of a section (R290) -/

theorem Dev.bad_forcedSect (x : Sect) : (d.forcedSect n x).bad = x.bad := by
  unfold Dev.forcedSect
  dsimp only
  split <;> rfl

theorem Dev.soft_forcedSect (x : Sect) (h : x.soft = false) : (d.forcedSect n x).soft = false := by
  unfold Dev.forcedSect
  dsimp only
  split
  · rfl
  · exact h

theorem Dev.gateDrive_of_full (hon : ((d.port n).sec sec).on = false) (hsoft : ((d.port n).sec sec).soft = false)
    (hfull : ((d.port n).sec sec).full = true) (hn : n < 32) : d.gateDrive n sec = .sink 8 := by
  simp [Dev.gateDrive, hon, hsoft, hfull, fullCode, isHv, hn]

/-- A section whose supply is bad. -/
def Sect.starved (x : Sect) : Sect := { x with bad := true }

/-- A section sunk through all segments. -/
def Sect.fully (x : Sect) : Sect := { x with full := true }

/-- A leg whose supply-good flag of one section has fallen. -/
def Port.unsupplied (p : Port) (sec : Section) : Port := if sec = .h then { p with frameH := false } else { p with frameL := false }

/-- A leg whose section has lost its supply, before the code leaves its die. -/
def Dev.starvedLeg (d : Dev) (n : Nat) (sec : Section) : Dev :=
  (((d.modSec n sec Sect.starved).forceOff n sec).modSec n sec Sect.fully).modPort n fun p => p.unsupplied sec

theorem Dev.starvedLeg_near : d.legNear (d.starvedLeg n sec) n but :=
  (((Dev.legNear.modSec _).trans (Dev.forceOff_near n sec)).trans (.modSec _)).trans (.modPort _)

theorem Dev.port_starvedLeg : (d.starvedLeg n sec).port n =
    ((d.port n).setSec sec ((d.modSec n sec Sect.starved).forcedSect n ((d.port n).sec sec).starved).fully).unsupplied sec := by
  rw [Dev.starvedLeg, Dev.port_modPort_same, Dev.port_modSec_same, Dev.forceOff_eq, Dev.port_modSec_same, Dev.port_modSec_same]
  cases sec <;> rfl

theorem Port.sec_unsupplied (p : Port) (sec t : Section) : (p.unsupplied sec).sec t = p.sec t := by cases sec <;> cases t <;> rfl

theorem Dev.sec_starvedLeg : ((d.starvedLeg n sec).port n).sec sec =
    ((d.modSec n sec Sect.starved).forcedSect n ((d.port n).sec sec).starved).fully := by
  rw [Dev.port_starvedLeg, Port.sec_unsupplied, Port.sec_setSec_same]

theorem Dev.sectionUv_idle {r : GateRail} {mv : Int} (h : d.railTrips n r mv = false ∨ (d.port n).test = some (uvTestSel sec r)) :
    d.sectionUv n sec r mv = d := by
  refine if_neg ?_
  rcases h with h | h <;> simp [h, Dev.underTest]

theorem Dev.sectionUv_acts {r : GateRail} {mv : Int} (h : d.railTrips n r mv = true) (ht : (d.port n).test ≠ some (uvTestSel sec r)) :
    d.sectionUv n sec r mv =
      (((d.starvedLeg n sec).orReg (pStat n) (if sec = .h then 0x808 else 0x810)).incFld (pCnt n) 31 16).urgent n (srcInst Src.HVP_UV n) := by
  have hseen : (d.railTrips n r mv && !d.underTest n (uvTestSel sec r)) = true := by simp [h, Dev.underTest, ht]
  exact if_pos hseen

/-- A status word that has taken a mask and a count that has gone up (R290, R292). -/
theorem Dev.counted_near (m : Word) (x : SrcInst) :
    d.legNear (((d.orReg (pStat n) m).incFld (pCnt n) 31 16).urgent n x) n [pStat n, pCnt n] :=
  ((Dev.legNear.setReg _ (by simp)).trans (.setReg _ (by simp))).trans (.urgent _)

theorem Dev.port_counted (m : Word) (x : SrcInst) :
    (((d.orReg (pStat n) m).incFld (pCnt n) 31 16).urgent n x).port n = d.port n := by
  rw [Dev.port_urgent, Dev.incFld, Dev.setFld, Dev.port_setReg, Dev.orReg, Dev.port_setReg]

theorem Dev.stat_counted (m : Word) (x : SrcInst) :
    (((d.orReg (pStat n) m).incFld (pCnt n) 31 16).urgent n x).reg (pStat n) = d.reg (pStat n) ||| m := by
  rw [Dev.reg_urgent, Dev.incFld, Dev.setFld, Dev.reg_setReg_other _ _ (pCnt_ne_pStat n).symm, Dev.orReg, Dev.reg_setReg_same]

theorem Dev.cnt_counted (m : Word) (x : SrcInst) :
    (((d.orReg (pStat n) m).incFld (pCnt n) 31 16).urgent n x).fld (pCnt n) 31 16 = min 65535 (d.fld (pCnt n) 31 16 + 1) := by
  refine (Dev.fld_incFld (d := d.orReg (pStat n) m) (pCnt n) 31 16 (by decide) (by decide)).trans ?_
  exact congrArg (fun x => min 65535 (x + 1)) (Dev.fld_congr (Dev.reg_setReg_other _ _ (pCnt_ne_pStat n)) 31 16)

theorem rbit_of_mask {m : Word} (h : e.reg (pStat n) = d.reg (pStat n) ||| m) (b : Nat) (hm : bitOf m b = true) :
    e.rbit (pStat n) b = true := by
  rw [Dev.rbit, h, bitOf_or, hm, Bool.or_true]

/-! ### A bootstrap supply that is low (R292, R293) -/

/-- A leg whose bootstrap supply is low. -/
def Port.bootLow (p : Port) : Port := { p with bootBad := true, bootHold := true }

/-- A leg held off for its bootstrap supply, its low side too where the Whorl drives both. -/
def Dev.bootHeld (d : Dev) (n : Nat) : Dev :=
  ((d.modPort n Port.bootLow).forceOff n .h).when (!d.rbit (Reg.WHL_CTL n) 1) fun d => d.forceOff n .l

theorem Dev.bootHeld_near : d.legNear (d.bootHeld n) n but := by
  have hh : d.legNear ((d.modPort n Port.bootLow).forceOff n .h) n but := (Dev.legNear.modPort _).trans (Dev.forceOff_near n .h)
  exact .ite (hh.trans (Dev.forceOff_near n .l)) hh

theorem Dev.port_bootHeld : ∃ x y, (d.bootHeld n).port n = { (d.port n).bootLow with h := x, l := y } ∧ x.on = false ∧
    (d.rbit (Reg.WHL_CTL n) 1 = false → y.on = false) := by
  have hh : ((d.modPort n Port.bootLow).forceOff n .h).port n =
      { (d.port n).bootLow with h := (d.modPort n Port.bootLow).forcedSect n (d.port n).h } := by
    rw [Dev.forceOff_eq, Dev.port_modSec_same, Dev.port_modPort_same]
    rfl
  cases hc : d.rbit (Reg.WHL_CTL n) 1
  · refine ⟨_, ((d.modPort n Port.bootLow).forceOff n .h).forcedSect n (d.port n).l, ?_, Dev.on_forcedSect (d := d.modPort n Port.bootLow)
      (n := n) (d.port n).h, fun _ => Dev.on_forcedSect _⟩
    rw [Dev.bootHeld, hc, Bool.not_false, Dev.when, if_pos rfl, Dev.forceOff_eq, Dev.port_modSec_same, hh]
    rfl
  · refine ⟨_, (d.port n).l, ?_, Dev.on_forcedSect (d := d.modPort n Port.bootLow) (n := n) (d.port n).h, fun h => absurd h (by decide)⟩
    rw [Dev.bootHeld, hc, Bool.not_true, Dev.when, if_neg (by decide), hh]
    rfl

theorem Dev.bootUv_idle {m : Nat} (h : (d.port (32 + m)).h.cmd = false ∨ (d.port (32 + m)).test = some 2) : d.bootUv m = d := by
  refine if_neg ?_
  rcases h with h | h <;> simp [h, Dev.underTest]

theorem Dev.bootUv_acts {m : Nat} (h : (d.port (32 + m)).h.cmd = true) (ht : (d.port (32 + m)).test ≠ some 2) :
    d.bootUv m = (((d.bootHeld (32 + m)).orReg (pStat (32 + m)) 0x108).incFld (pCnt (32 + m)) 31 16).urgent (32 + m)
      (srcInst Src.LVP_BOOTUV m) := by
  have hseen : ((d.port (32 + m)).h.cmd && !d.underTest (32 + m) 2) = true := by simp [h, Dev.underTest, ht]
  exact if_pos hseen

/-! ### The supplies and the temperature of a die -/

/-- A leg whose die has lost its gate supply. -/
def Port.undriven (p : Port) : Port := { p with gdBad := true }

/-- A leg whose die is too hot. -/
def Port.tooHot (p : Port) : Port := { p with otBad := true }

/-- A leg whose bus is too high. -/
def Port.overBus (p : Port) : Port := { p with busBad := true }

theorem Dev.vgdUv_idle {k : Nat} (h : ∃ i ∈ legsOf (32 + k), (d.port i).test = some 3) : d.vgdUv k = d := by
  obtain ⟨i, hi, ht⟩ := h
  exact if_pos (List.any_eq_true.mpr ⟨i, hi, by simp [Dev.underTest, ht]⟩)

theorem Dev.vgdUv_acts {k : Nat} (h : ∀ i ∈ legsOf (32 + k), (d.port i).test ≠ some 3) :
    d.vgdUv k = ((legsOf (32 + k)).foldl (Dev.legDown Port.undriven 0x410) d).urgent (32 + 8 * k) (srcInst Src.LVP_GDUV (8 * k)) := by
  have hno : ¬ ((legsOf (32 + k)).any fun n => d.underTest n 3) = true := by
    rw [List.any_eq_true]
    rintro ⟨i, hi, ht⟩
    exact h i hi (of_decide_eq_true ht)
  exact if_neg hno

/-- The off-state test of a leg's own temperature detector. -/
def otTest (i : Nat) : Nat := if i < 32 then 6 else 4

theorem Dev.otTested_iff (die : Nat) : ((legsOf die).any fun n => d.underTest n (if isHv n then 6 else 4)) = true ↔
    ∃ i ∈ legsOf die, (d.port i).test = some (otTest i) := by
  simp [Dev.underTest, otTest, isHv]

theorem Dev.legOt_idle {die : Nat} (h : ∃ i ∈ legsOf die, (d.port i).test = some (otTest i)) : d.legOt die true = d := by
  have hany := (Dev.otTested_iff die).mpr h
  exact if_pos (by rw [hany]; rfl)

theorem Dev.legOt_trips {die : Nat} (h : ∀ i ∈ legsOf die, (d.port i).test ≠ some (otTest i)) :
    d.legOt die true = if die < 32 then ((legsOf die).foldl (Dev.legDown Port.tooHot 0x1020) d).urgent die (srcInst Src.HVP_OT die)
      else ((legsOf die).foldl (Dev.legDown Port.tooHot 0x1020) d).urgent (32 + 8 * (die - 32)) (srcInst Src.LVP_OT (8 * (die - 32))) := by
  have hno : ¬ (true && (legsOf die).any fun n => d.underTest n (if isHv n then 6 else 4)) = true := by
    rw [Bool.true_and, Dev.otTested_iff]
    rintro ⟨i, hi, ht⟩
    exact h i hi ht
  exact (if_neg hno).trans (if_pos rfl)

/-! ### The commands -/

theorem exec_statusFrame (r : SupplyFrame) : exec (.statusFrame r) s = s.run fun d => if (d.port r.n).linkLost then d
    else d.modPort r.n fun p =>
      { p with frameH := d.railsBack r.n r.h.vpos r.h.vneg, frameL := d.railsBack r.n r.l.vpos r.l.vneg } := rfl

theorem exec_linkLossSafeState (die : Fin 36) : exec (.linkLossSafeState die) s = s.act fun d => d.linkLoss die := rfl

theorem exec_legLinkRestored (die : Fin 36) : exec (.legLinkRestored die) s = s.run fun d => d.linkBack die := rfl

theorem exec_sectionUndervoltage (n : Fin 32) (u : SectionSupply) :
    exec (.sectionUndervoltage n u) s = s.act fun d => d.sectionUv n u.sec u.rail u.mv := rfl

theorem exec_supplyRelease (r : SupplyRef) : exec (.supplyRelease r) s = s.act fun d => d.supplyBack r := rfl

theorem exec_vgd12Undervoltage (k : Fin 4) : exec (.vgd12Undervoltage k) s = s.act fun d => d.vgdUv k := rfl

theorem exec_bootstrapUndervoltage (n : Fin 32) : exec (.bootstrapUndervoltage n) s = s.act fun d => d.bootUv n := rfl

theorem exec_bootstrapRecovered (n : Fin 32) : exec (.bootstrapRecovered n) s = s.act fun d => d.bootBack n := rfl

theorem exec_legOvertemperature (die : Fin 36) (trip : Bool) : exec (.legOvertemperature die trip) s = s.act fun d => d.legOt die trip := rfl

theorem exec_lvBusLimit (k : Fin 4) : exec (.lvBusLimit k) s = s.act fun d => d.busLimit k := rfl

theorem exec_lvBusResume (k : Fin 4) : exec (.lvBusResume k) s = s.act fun d => d.busBack k := rfl

theorem Dev.railTrips_vpos {mv : Int} (h : d.dieFld n (pCfg n) 1 0 = 0) : d.railTrips n .vpos mv = true ↔ mv < 11000 := by
  simp [Dev.railTrips, Dev.uvsel, h, uvLevels]

theorem Dev.railTrips_vneg {mv : Int} : d.railTrips n .vneg mv = true ↔ d.dieBit n (pCfg n) 9 = true ∧ -1500 < mv := by
  simp [Dev.railTrips]

theorem Dev.railsBack_iff {vpos vneg : Int} (h : d.dieFld n (pCfg n) 1 0 = 0) (h9 : d.dieBit n (pCfg n) 9 = true) :
    d.railsBack n vpos vneg = true ↔ 12000 < vpos ∧ vneg < -2000 := by
  simp [Dev.railsBack, Dev.uvsel, h, h9, uvLevels]

/-- A section loses its supply (R290). -/
theorem sectionUndervoltage_gives {n : Fin 32} {rail : GateRail} {mv : Int} (h : s.dev.railTrips n rail mv = true)
    (ht : (s.dev.port n).test ≠ some (uvTestSel sec rail)) :
    Gives (.sectionUndervoltage n ⟨sec, rail, mv⟩) s fun e =>
      ((e.port n).sec sec).bad = true ∧ ((e.port n).sec sec).on = false ∧
      (if sec = .h then (e.port n).frameH = false else (e.port n).frameL = false) ∧
      (((s.dev.port n).sec sec).soft = false → e.gateDrive n sec = .sink 8) ∧
      (e.port n).sec (otherSec sec) = (s.dev.port n).sec (otherSec sec) ∧ e.rbit (pStat n) (if sec = .h then 3 else 4) = true ∧
      e.rbit (pStat n) 11 = true ∧ e.fld (pCnt n) 31 16 = min 65535 (s.dev.fld (pCnt n) 31 16 + 1) ∧
      srcInst Src.HVP_UV n ∈ e.queue n ∧ s.dev.keeps e [pStat n, pCnt n] ∧ s.dev.keepsLegs e [n] := by
  refine .of_act (exec_sectionUndervoltage n _) ?_
  rw [Dev.sectionUv_acts h ht]
  have hnear : s.dev.legNear _ n.val [pStat n, pCnt n] := Dev.starvedLeg_near.trans (Dev.counted_near (d := s.dev.starvedLeg n sec)
    (if sec = .h then 0x808 else 0x810) (srcInst Src.HVP_UV n))
  have hport := Dev.port_counted (d := s.dev.starvedLeg n sec) (n := n.val) (if sec = .h then 0x808 else 0x810) (srcInst Src.HVP_UV n)
  have hstat := Dev.stat_counted (d := s.dev.starvedLeg n sec) (n := n.val) (if sec = .h then 0x808 else 0x810) (srcInst Src.HVP_UV n)
  have hcnt := Dev.cnt_counted (d := s.dev.starvedLeg n sec) (n := n.val) (if sec = .h then 0x808 else 0x810) (srcInst Src.HVP_UV n)
  have hqueue := Dev.mem_queue_urgent (d := ((s.dev.starvedLeg n sec).orReg (pStat n) (if sec = .h then 0x808 else 0x810)).incFld
    (pCnt n) 31 16) (n := n.val) (srcInst Src.HVP_UV n)
  have hsec := Dev.sec_starvedLeg (d := s.dev) (n := n.val) (sec := sec)
  have hkept : (s.dev.starvedLeg n sec).reg (pStat n) = s.dev.reg (pStat n) := (Dev.starvedLeg_near (but := [])).regs _ (by simp)
  have hcount : (s.dev.starvedLeg n sec).fld (pCnt n) 31 16 = s.dev.fld (pCnt n) 31 16 :=
    Dev.fld_congr ((Dev.starvedLeg_near (but := [])).regs _ (by simp)) 31 16
  rw [hkept] at hstat
  rw [hcount] at hcnt
  generalize (((s.dev.starvedLeg n sec).orReg (pStat n) (if sec = .h then 0x808 else 0x810)).incFld (pCnt n) 31 16).urgent n
    (srcInst Src.HVP_UV n) = e at *
  have hon : ((e.port n).sec sec).on = false := by rw [hport, hsec]; exact Dev.on_forcedSect _
  refine ⟨?_, hon, ?_, fun hs => Dev.gateDrive_of_full hon ?_ ?_ n.isLt, ?_, ?_, ?_, hcnt, hqueue, hnear.keeps, hnear.legs⟩
  · rw [hport, hsec]; exact Dev.bad_forcedSect _
  · rw [hport, Dev.port_starvedLeg]; cases sec <;> rfl
  · rw [hport, hsec]; exact Dev.soft_forcedSect _ hs
  · rw [hport, hsec]; rfl
  · rw [hport, Dev.port_starvedLeg, Port.sec_unsupplied, Port.sec_setSec_other]
  · exact rbit_of_mask hstat _ (by cases sec <;> decide)
  · exact rbit_of_mask hstat _ (by cases sec <;> decide)

/-- A bootstrap supply falls while its high side is commanded on (R292). -/
theorem bootstrapUndervoltage_gives {n : Fin 32} (hc : (s.dev.port (32 + n.val)).h.cmd = true)
    (ht : (s.dev.port (32 + n.val)).test ≠ some 2) :
    Gives (.bootstrapUndervoltage n) s fun e =>
      (e.port (32 + n.val)).bootBad = true ∧ (e.port (32 + n.val)).bootHold = true ∧ (e.port (32 + n.val)).h.on = false ∧
      (s.dev.rbit (Reg.WHL_CTL (32 + n.val)) 1 = false → (e.port (32 + n.val)).l.on = false) ∧
      e.rbit (pStat (32 + n.val)) 3 = true ∧ e.rbit (pStat (32 + n.val)) 8 = true ∧
      srcInst Src.LVP_BOOTUV n ∈ e.queue (32 + n.val) ∧ s.dev.keeps e [pStat (32 + n.val), pCnt (32 + n.val)] ∧
      s.dev.keepsLegs e [32 + n.val] := by
  refine .of_act (exec_bootstrapUndervoltage n) ?_
  rw [Dev.bootUv_acts hc ht]
  generalize 32 + n.val = m
  have hnear : s.dev.legNear _ m [pStat m, pCnt m] := Dev.bootHeld_near.trans (Dev.counted_near (d := s.dev.bootHeld m) 0x108
    (srcInst Src.LVP_BOOTUV n))
  have hstat := Dev.stat_counted (d := s.dev.bootHeld m) (n := m) 0x108 (srcInst Src.LVP_BOOTUV n)
  obtain ⟨x, y, hport, hx, hy⟩ := Dev.port_bootHeld (d := s.dev) (n := m)
  rw [← Dev.port_counted (d := s.dev.bootHeld m) 0x108 (srcInst Src.LVP_BOOTUV n)] at hport
  refine ⟨?_, ?_, ?_, fun h => ?_, rbit_of_mask hstat 3 (by decide), rbit_of_mask hstat 8 (by decide), Dev.mem_queue_urgent _,
    hnear.keeps, hnear.legs⟩
  · rw [hport]; rfl
  · rw [hport]; rfl
  · rw [hport]; exact hx
  · rw [hport]; exact hy h

/-- Every leg of a die takes the mark that `g` sets and is off, its status takes the mask. -/
theorem Dev.legsDown_shows (g : Port → Port) (mark : Port → Bool) (m : Word) (b c : Nat)
    (hm : ∀ p x y, mark { g p with h := x, l := y } = true) (hb : bitOf m b = true) (hc : bitOf m c = true) {die i : Nat}
    (hi : i ∈ legsOf die) (he : e.port i = ((legsOf die).foldl (Dev.legDown g m) d).port i)
    (hr : e.reg (pStat i) = ((legsOf die).foldl (Dev.legDown g m) d).reg (pStat i)) :
    mark (e.port i) = true ∧ ((e.port i).h.on = false ∧ (e.port i).l.on = false) ∧ e.rbit (pStat i) b = true ∧
      e.rbit (pStat i) c = true := by
  obtain ⟨⟨x, y, hp, hx, hy⟩, hstat⟩ := Dev.legsDown (d := d) g m hi
  rw [← hr] at hstat
  rw [he, hp]
  exact ⟨hm _ x y, ⟨hx, hy⟩, rbit_of_mask hstat b hb, rbit_of_mask hstat c hc⟩

/-- A release of every leg of a die. -/
theorem Dev.legsFreed_shows (g : Port → Port) (hg : ∀ p, (g p).h = p.h) (die : Nat) :
    (∀ i ∈ legsOf die, ((legsOf die).foldl (fun e n => e.modPort n g) d).port i = g (d.port i) ∧
      (((legsOf die).foldl (fun e n => e.modPort n g) d).port i).h = (d.port i).h) ∧
      d.keeps ((legsOf die).foldl (fun e n => e.modPort n g) d) [] ∧
      d.keepsLegs ((legsOf die).foldl (fun e n => e.modPort n g) d) (legsOf die) := by
  obtain ⟨hnear, hports, hkeeps⟩ := Dev.legsFreed (d := d) g (die := die)
  exact ⟨fun i hi => ⟨hports i hi, by rw [hports i hi, hg]⟩, hkeeps, hnear.legs⟩

/-- Settles O43: the legs of a die are stepped over one after another, and each keeps to itself. -/
theorem portSupplies : Obligations.PortSupplies := by
  intro n die k sec rail mv vpos vneg hi lo s d m lv off queued
  refine ⟨fun h => exec_idle_of_run (exec_statusFrame _) (if_pos h), fun hc h => ?_, ?_, fun hc => ?_,
    fun h => exec_idle_of_act (exec_sectionUndervoltage n _) (Dev.sectionUv_idle h), fun h hr => ?_, fun hr => ?_,
    fun h h9 => Dev.railsBack_iff h h9, fun h ht => sectionUndervoltage_gives h ht,
    fun h => exec_idle_of_act (exec_supplyRelease _) (if_neg (by simpa using h)), fun h => ?_, ?_,
    fun h => exec_idle_of_act (exec_vgd12Undervoltage k) (Dev.vgdUv_idle h), fun h => ?_,
    fun h => exec_idle_of_act (exec_bootstrapUndervoltage n) (Dev.bootUv_idle h), fun h ht => bootstrapUndervoltage_gives h ht,
    fun h => exec_idle_of_act (exec_bootstrapRecovered n) (if_pos h), fun h => ?_,
    ⟨fun h => exec_idle_of_act (exec_legOvertemperature die true) (Dev.legOt_idle h), fun h => ?_⟩, ?_, ?_, ?_⟩
  · refine .of_run (exec_statusFrame _) hc ?_
    rw [if_neg (by simpa using h)]
    have hnear := fun g => Dev.legNear.modPort (d := s.dev) (n := n.val) (but := []) g
    refine ⟨?_, ?_, ?_, ?_, (hnear _).keeps, (hnear _).legs⟩ <;> rw [Dev.port_modPort_same] <;> rfl
  · refine .of_act (exec_linkLossSafeState die) ?_
    refine ⟨fun i hi => ?_, Dev.raised_linkLoss die, (Dev.linkLoss_near die).keeps, (Dev.linkLoss_near die).legs⟩
    simp only [off, Dev.port_linkLoss]
    exact Dev.dieUnlinked_safe hi
  · refine .of_run (exec_legLinkRestored die) hc ?_
    obtain ⟨hports, hrest⟩ := Dev.legsFreed_shows (d := s.dev) (fun p => { p with linkLost := false }) (fun _ => rfl) die.val
    refine ⟨fun i hi => ?_, hrest⟩
    rw [Dev.linkBack, (hports i hi).1]
    exact ⟨rfl, rfl⟩
  · rw [hr]; exact Dev.railTrips_vpos h
  · rw [hr]; exact Dev.railTrips_vneg
  · refine .of_act (exec_supplyRelease _) ?_
    rw [Dev.supplyBack, if_pos h]
    have hnear : s.dev.legNear (s.dev.modSec n sec fun x => { x with bad := false }) n.val [] := .modSec _
    refine ⟨?_, ?_, hnear.keeps, hnear.legs⟩ <;> rw [Dev.sec_modSec_same]
  · refine .of_act (exec_supplyRelease _) ?_
    obtain ⟨hports, hrest⟩ := Dev.legsFreed_shows (d := s.dev) (fun p => { p with gdBad := false }) (fun _ => rfl) (32 + k.val)
    refine ⟨fun i hi => ⟨?_, (hports i hi).2⟩, hrest⟩
    rw [Dev.supplyBack, (hports i hi).1]
  · refine .of_act (exec_vgd12Undervoltage k) ?_
    rw [Dev.vgdUv_acts h]
    have hnear := (Dev.legsDown_near (d := s.dev) Port.undriven 0x410 (32 + k)).trans
      (.urgent (32 + 8 * k.val) (srcInst Src.LVP_GDUV (8 * k.val)))
    refine ⟨fun i hi => ?_, Dev.mem_queue_urgent _, hnear.keeps, hnear.legs⟩
    exact Dev.legsDown_shows Port.undriven Port.gdBad 0x410 4 10 (fun _ _ _ => rfl) (by decide) (by decide) hi (Dev.port_urgent _ _)
      (Dev.reg_urgent _ _)
  · refine .of_act (exec_bootstrapRecovered n) ?_
    rw [Dev.bootBack, if_neg (by simpa using h)]
    have hnear : s.dev.legNear _ (32 + n.val) [pStat (32 + n.val)] :=
      (Dev.legNear.modPort fun p => { p with bootBad := false }).trans
        (.setReg (a := pStat (32 + n.val)) (putBit (s.dev.reg (pStat (32 + n.val))) 3 false) (by simp))
    refine ⟨?_, ?_, (Dev.rbit_setRbit _ _ _ _ _ (by decide)).trans (if_pos rfl), hnear.keeps, hnear.legs⟩ <;>
      rw [Dev.setRbit, Dev.port_setReg, Dev.port_modPort_same]
  · refine .of_act (exec_legOvertemperature die true) ?_
    rw [Dev.legOt_trips h]
    have hnear := Dev.legsDown_near (d := s.dev) Port.tooHot 0x1020 die
    have hlegs := fun n x i (hi : i ∈ legsOf die) =>
      Dev.legsDown_shows (d := s.dev) Port.tooHot Port.otBad 0x1020 5 12 (fun _ _ _ => rfl) (by decide) (by decide) hi
        (Dev.port_urgent (n := n) x _) (Dev.reg_urgent x _)
    split
    · next hd =>
      refine ⟨fun i hi => ?_, ?_, (hnear.trans (.urgent _ _)).keeps, (hnear.trans (.urgent _ _)).legs⟩
      · exact hlegs die (srcInst Src.HVP_OT die) i hi
      · exact Dev.mem_queue_urgent _
    · next hd =>
      refine ⟨fun i hi => ?_, ?_, (hnear.trans (.urgent _ _)).keeps, (hnear.trans (.urgent _ _)).legs⟩
      · exact hlegs (32 + 8 * (die.val - 32)) (srcInst Src.LVP_OT (8 * (die.val - 32))) i hi
      · exact Dev.mem_queue_urgent _
  · refine .of_act (exec_legOvertemperature die false) ?_
    obtain ⟨hports, hrest⟩ := Dev.legsFreed_shows (d := s.dev) (fun p => { p with otBad := false }) (fun _ => rfl) die.val
    refine ⟨fun i hi => ⟨?_, (hports i hi).2⟩, hrest⟩
    exact congrArg Port.otBad (hports i hi).1
  · refine .of_act (exec_lvBusLimit k) ?_
    have hnear := (Dev.legsDown_near (d := s.dev) Port.overBus 0x880 (32 + k)).trans (.raise Src.LVP_BUSOV (8 * k.val))
    refine ⟨fun i hi => ?_, Dev.mem_raise _ _ _, hnear.keeps, hnear.legs⟩
    exact Dev.legsDown_shows (d := s.dev) Port.overBus Port.busBad 0x880 7 11 (fun _ _ _ => rfl) (by decide) (by decide) hi
      (Dev.port_raise _ Src.LVP_BUSOV (8 * k.val) i) (Dev.reg_raise _ Src.LVP_BUSOV (8 * k.val) _)
  · refine .of_act (exec_lvBusResume k) ?_
    obtain ⟨hports, hrest⟩ := Dev.legsFreed_shows (d := s.dev) (fun p => { p with busBad := false }) (fun _ => rfl) (32 + k.val)
    refine ⟨fun i hi => ⟨?_, (hports i hi).2⟩, hrest⟩
    exact congrArg Port.busBad (hports i hi).1

end Sys2Proof.Machine
end

section
/-! SUPPORT. The settlement of a loop's period (R211 to R229): its start, its guard, its close and its enabling. -/

namespace Sys2Proof.Machine

variable {d e f : Dev} {s : State} {p q l req : Nat} {lost lsr : Bool}

/-! ### Cores and loops under single updates -/

theorem Dev.spn_modSpn_same (g : Spindle → Spindle) : (d.modSpn p g).spn p = g (d.spn p) := by simp [Dev.modSpn]

theorem Dev.spn_modLp (g : Loop → Loop) : (d.modLp p l g).spn q = d.spn q := rfl

theorem Dev.lp_modLp_same (g : Loop → Loop) : (d.modLp p l g).lp p l = g (d.lp p l) := by
  simp [Dev.modLp, Dev.modLoop, Dev.lp]

theorem Dev.lp_modSpn (g : Spindle → Spindle) : (d.modSpn q g).lp p l = d.lp p l := rfl

theorem Dev.lp_setReg (a : Nat) (w : Word) : (d.setReg a w).lp p l = d.lp p l := rfl

theorem Dev.lp_raise (a i : Nat) : (d.raise a i).lp p l = d.lp p l := by simp [Dev.lp]

theorem Dev.reg_modSpn (g : Spindle → Spindle) (a : Nat) : (d.modSpn p g).reg a = d.reg a := rfl

theorem Dev.keeps_modSpn (g : Spindle → Spindle) (but : List Nat) : d.keeps (d.modSpn p g) but := Dev.keeps.rfl.same rfl rfl

theorem Dev.keeps_modLp (g : Loop → Loop) (but : List Nat) : d.keeps (d.modLp p l g) but := Dev.keeps.rfl.same rfl rfl

theorem Dev.keeps_raise (a i : Nat) (but : List Nat) : d.keeps (d.raise a i) but :=
  Dev.keeps.rfl.same (Dev.raise_sk ..) (Dev.raise_regs ..)

theorem Dev.spn_stopEntry : (d.stopEntry p).spn p =
    { d.spn p with entry := none, ra := false, spec := false, wait := none, queue := [], maskS := 0, maskC := 0 } :=
  Dev.spn_modSpn_same (d := d.modSk fun x => { x with waits := x.waits.filter fun w => decide (w.req ≠ reqSpn p) }) _

theorem Dev.lp_stopEntry : (d.stopEntry q).lp p l = d.lp p l := rfl

theorem Dev.keeps_stopEntry (but : List Nat) : d.keeps (d.stopEntry p) but := ⟨fun _ => by rfl, fun _ _ => by rfl⟩

theorem SPN_LCNT_ne (p l : Nat) : Reg.SPN_LCNT p l ≠ Reg.SPN_LSTAT p l := by
  unfold Reg.SPN_LCNT Reg.SPN_LSTAT
  omega

theorem SPN_LENT1_ne (p l : Nat) : Reg.SPN_LENT1 p l ≠ Reg.SPN_LSTAT p l := by
  unfold Reg.SPN_LENT1 Reg.SPN_LSTAT
  omega

/-! ### The number of the period that starts (R211, R212) -/

/-- What a period that becomes due leaves of its loop. -/
def Dev.due (d : Dev) (p l : Nat) (lost : Bool) (z : Loop) : Loop :=
  { z with per := d.nextPeriod p l, served := d.nextPeriod p l + 1, evAt := if d.eventMine p l then some d.now else none,
           evStamp := if d.eventMine p l then some (d.lp p l).lastStamp else none, held := false, lost := lost }

theorem Dev.lp_takePeriod : (d.takePeriod p l lost).lp p l = d.due p l lost (d.lp p l) := Dev.lp_modLp_same _

theorem Dev.due_committed (z : Loop) : (d.due p l lost z).committed = z.committed := rfl

theorem Dev.due_per (z : Loop) : (d.due p l lost z).per = d.nextPeriod p l := rfl

theorem Dev.due_served (z : Loop) : (d.due p l lost z).served = d.nextPeriod p l + 1 := rfl

theorem Dev.reg_takePeriod (a : Nat) : (d.takePeriod p l lost).reg a = d.reg a := rfl

theorem Dev.byte_takePeriod (a : Nat) : (d.takePeriod p l lost).byte a = d.byte a := rfl

theorem Dev.spn_takePeriod (q : Nat) : (d.takePeriod p l lost).spn q = d.spn q := rfl

/-- A loop of whose present period nothing has happened yet. -/
def Loop.fresh (x : Loop) : Loop := { x with committed := false, inTime := false, clean := false }

theorem Dev.freshPeriod_eq : d.freshPeriod p l = d.modLp p l Loop.fresh := rfl

theorem Dev.nextPeriod_congr (h : (e.lp p l).served = (d.lp p l).served) (he : (e.lp p l).events = (d.lp p l).events)
    (ha : (e.lp p l).lastAt = (d.lp p l).lastAt) (hn : e.now = d.now)
    (hs : e.reg (Reg.SPN_LSLOT p l) = d.reg (Reg.SPN_LSLOT p l)) (ht : e.reg (Reg.SPN_LTRIG p l) = d.reg (Reg.SPN_LTRIG p l)) :
    e.nextPeriod p l = d.nextPeriod p l := by
  simp only [Dev.nextPeriod, Dev.eventHere, Loop.next, Dev.loopN, Dev.fld, h, he, ha, hn, hs, ht]
  rfl

theorem Dev.eventHere_ahead (h : d.fld (Reg.SPN_LSLOT p l) 15 0 ≠ 0 ∨ (d.lp p l).lastAt ≠ some d.now) : d.eventHere p l = false := by
  rcases h with h | h <;> simp [Dev.eventHere, h]

theorem Dev.nextPeriod_ahead (h : d.fld (Reg.SPN_LSLOT p l) 15 0 ≠ 0 ∨ (d.lp p l).lastAt ≠ some d.now) :
    d.nextPeriod p l = (d.lp p l).next (d.loopN p l) (d.lp p l).events ∧ d.eventMine p l = false := by
  have hev := Dev.eventHere_ahead h
  constructor
  · simp only [Dev.nextPeriod, hev]
    rfl
  · simp only [Dev.eventMine, hev, Bool.false_and]

/-- A number of whole divisors, counted in divisors. -/
theorem divisors_counted (k n : Nat) (hn : 0 < n) : max k ((k * n + n - 1) / n) = k := by
  have h : (k * n + n - 1) / n = k := by
    have heq : k * n + n - 1 = n * k + (n - 1) := by rw [Nat.mul_comm]; omega
    rw [heq, Nat.mul_add_div hn, Nat.div_eq_of_lt (by omega)]
    rfl
  rw [h, Nat.max_self]

theorem Dev.nextPeriod_here (hs : d.fld (Reg.SPN_LSLOT p l) 15 0 = 0) (ha : (d.lp p l).lastAt = some d.now)
    (he : (d.lp p l).events = (d.lp p l).served * d.loopN p l + 1) :
    d.nextPeriod p l = (d.lp p l).served ∧ d.eventMine p l = true := by
  have hev : d.eventHere p l = true := by simp [Dev.eventHere, hs, ha, he]
  have hone : (d.lp p l).events - 1 = (d.lp p l).served * d.loopN p l := by omega
  have hnext : d.nextPeriod p l = (d.lp p l).served := by
    simp only [Dev.nextPeriod, hev, if_true, hone, Loop.next]
    exact divisors_counted _ _ (Nat.succ_pos _)
  refine ⟨hnext, ?_⟩
  simp [Dev.eventMine, hev, hone, hnext]

/-! ### The start of a period (R213, R214) -/

theorem Dev.injPeriod_off (h : d.inj.live = false) : d.injPeriod p l = d := if_neg (by simp [h])

theorem Dev.periodStart_lost (hh : d.onHold p = true) (hl : d.loopLive p l = true) (hi : d.inj.live = false) :
    d.periodStart p l = (d.takePeriod p l true).freshPeriod p l := by
  rw [Dev.periodStart, if_pos hh, if_pos hl, Dev.injPeriod_off hi]

theorem Dev.periodStart_idle (hh : d.onHold p = false) (hd : d.periodDue p l = false) : d.periodStart p l = d := by
  rw [Dev.periodStart, if_neg (by simp [hh]), if_neg (by simp [hd])]

theorem Dev.periodStart_opens (hh : d.onHold p = false) (hd : d.periodDue p l = true) (hs : (d.spn p).slot = none) :
    d.periodStart p l = (d.openSlot p l).takePeriod p l false := by
  rw [Dev.periodStart, if_neg (by simp [hh]), if_pos hd, hs]

theorem Dev.periodStart_waits (hh : d.onHold p = false) (hd : d.periodDue p l = true) (hs : (d.spn p).slot ≠ none) :
    d.periodStart p l = (d.takePeriod p l false).modSpn p fun s => { s with slotWait := s.slotWait ++ [l] } := by
  obtain ⟨m, hm⟩ := Option.ne_none_iff_exists'.mp hs
  rw [Dev.periodStart, if_neg (by simp [hh]), if_pos hd, hm]

/-- A loop whose marks for the next period's mode have been taken. -/
def Loop.modeTaken (x : Loop) : Loop := { x with raenOff := false, fbf := false }

/-- The device with other register contents. -/
def Dev.withRegs (d : Dev) (r : SMap Word) : Dev := { d with regs := r }

theorem Dev.startMode_eq : ∃ r, d.startMode p l = (d.withRegs r).modLp p l Loop.modeTaken ∧
    ∀ a, a ≠ Reg.SPN_LSTAT p l → (d.withRegs r).reg a = d.reg a := by
  simp only [Dev.startMode]
  generalize ((d.lp p l).raenOff || (d.lp p l).fbf || decide (2 ≤ (d.lp p l).holds)) = back
  cases back
  · exact ⟨_, rfl, fun a ha => Dev.reg_setReg_other d _ ha⟩
  · refine ⟨_, rfl, fun a ha => ?_⟩
    refine (Dev.reg_setRbit_other _ _ _ ha).trans ?_
    exact (Dev.reg_setRbit_other (d.setFld (Reg.SPN_LSTAT p l) 5 2 0) 1 false ha).trans (Dev.reg_setFld_other d 5 2 0 ha)

/-- A Spindle whose LB has fallen. -/
def Spindle.lbOff (s : Spindle) : Spindle := { s with lb := false }

/-- A Spindle whose period reads no handoff line. -/
def Spindle.handoffOff (s : Spindle) : Spindle := { s with handoff := .off }

/-- What opening a slot leaves of its Spindle. -/
def Dev.slotOpened (d : Dev) (p l : Nat) (r : SMap Word) : Dev :=
  let d0 := (d.modSpn p Spindle.lbOff).withRegs r
  let d1 := (d0.modLp p l Loop.modeTaken).modSpn p Spindle.handoffOff
  (d1.freshPeriod p l).modSpn p fun s =>
    { s with kfile := liveOf s.live (d.selHank p l), inj := [], slot := some l, entry := some .pred,
             v := upperRegs (d.lp p l).v, a := (d.lp p l).a, ra := false, spec := false, maskS := 0, maskC := 0,
             queue := [], wait := none, subst := [], released := false, recovered := false, again := false,
             restoring := false, pc := d.entryPc p l .pred }

theorem Dev.takeHandoff_off (h : d.rbit (Reg.SPN_LENT1 p l) 23 = false) :
    d.takeHandoff p l = d.modSpn p Spindle.handoffOff := if_neg (by simp [h])

theorem Dev.openSlot_plain (hh : d.rbit (Reg.SPN_LENT1 p l) 23 = false) (hi : d.inj.live = false) :
    ∃ r, d.openSlot p l = d.slotOpened p l r ∧ ∀ a, a ≠ Reg.SPN_LSTAT p l → (d.withRegs r).reg a = d.reg a := by
  obtain ⟨r, hr, hregs⟩ := Dev.startMode_eq (d := d.modSpn p Spindle.lbOff) (p := p) (l := l)
  have hoff : (((d.modSpn p Spindle.lbOff).withRegs r).modLp p l Loop.modeTaken).rbit (Reg.SPN_LENT1 p l) 23 = false :=
    (Dev.rbit_congr (hregs _ (SPN_LENT1_ne p l)) 23).trans hh
  refine ⟨r, ?_, hregs⟩
  simp only [Dev.openSlot, hi, Bool.false_and]
  have hinj : ((((d.modSpn p Spindle.lbOff).withRegs r).modLp p l Loop.modeTaken).modSpn p Spindle.handoffOff).injPeriod p l = _ :=
    Dev.injPeriod_off hi
  rw [show (d.modSpn p fun s => { s with lb := false }) = d.modSpn p Spindle.lbOff from rfl, hr, Dev.takeHandoff_off hoff, hinj]
  rfl

theorem smGet_upperRegs {q : Nat} (hq : q < 16) (v : SMap Word) : smGet (fun _ => 0) (upperRegs v) q = 0 := by
  induction v with
  | nil => rfl
  | cons x v ih =>
    unfold upperRegs
    rw [List.filter_cons]
    split
    · next hx =>
      have h16 : 16 ≤ x.1 := of_decide_eq_true hx
      exact (if_neg (by omega)).trans ih
    · exact ih

theorem Dev.spn_slotOpened (r : SMap Word) : ∃ x, (d.slotOpened p l r).spn p = x ∧ x.slot = some l ∧ x.entry = some .pred ∧
    x.pc = d.entryPc p l .pred ∧ x.kfile = liveOf (d.spn p).live (d.selHank p l) ∧ x.ra = false ∧ x.queue = [] ∧
    x.v = upperRegs (d.lp p l).v := by
  have hlive : (((d.modSpn p Spindle.lbOff).withRegs r).spn p).live = (d.spn p).live :=
    (congrArg Spindle.live (Dev.spn_modSpn_same (d := d) (p := p) Spindle.lbOff)).trans rfl
  refine ⟨_, rfl, ?_⟩
  simp only [Dev.slotOpened, Dev.spn_modSpn_same, Dev.freshPeriod, Dev.spn_modLp]
  exact ⟨trivial, trivial, trivial, congrArg (liveOf · _) hlive, trivial, trivial, trivial⟩

theorem Dev.lp_slotOpened (r : SMap Word) : (d.slotOpened p l r).lp p l =
    { (d.lp p l).modeTaken with committed := false, inTime := false, clean := false } := by
  simp only [Dev.slotOpened, Dev.lp_modSpn, Dev.freshPeriod, Dev.lp_modLp_same]
  rfl

theorem Dev.reg_slotOpened (r : SMap Word) (a : Nat) : (d.slotOpened p l r).reg a = (d.withRegs r).reg a := rfl

theorem Dev.byte_slotOpened (r : SMap Word) (a : Nat) : (d.slotOpened p l r).byte a = d.byte a := rfl

theorem Dev.nextPeriod_slotOpened {r : SMap Word} (hr : ∀ a, a ≠ Reg.SPN_LSTAT p l → (d.withRegs r).reg a = d.reg a) :
    (d.slotOpened p l r).nextPeriod p l = d.nextPeriod p l := by
  have hlp := Dev.lp_slotOpened (d := d) (p := p) (l := l) r
  refine Dev.nextPeriod_congr ?_ ?_ ?_ rfl (hr _ ?_) (hr _ ?_)
  · rw [hlp]; rfl
  · rw [hlp]; rfl
  · rw [hlp]; rfl
  · unfold Reg.SPN_LSLOT Reg.SPN_LSTAT; omega
  · unfold Reg.SPN_LTRIG Reg.SPN_LSTAT; omega

/-! ### A period that is held (R227, R228) -/

/-- A loop whose period has been held. -/
def Loop.heldNow (x : Loop) : Loop :=
  { x with images := x.imagesC, holds := x.holds + 1, held := true, committed := false, inTime := false, clean := false, lost := false }

/-- The loop's status word with one more hold. -/
def heldStat (w : Word) : Word := putBits w 31 16 (satInc 16 (bitsOf w 31 16))

theorem holds_heldStat (w : Word) : bitsOf (heldStat w) 31 16 = min 65535 (bitsOf w 31 16 + 1) := by
  have hlt := bitsOf_lt w 31 16
  rw [heldStat, bitsOf_putBits_same _ _ _ _ (by decide) (by decide), satInc_eq _ _ hlt]
  exact Nat.mod_eq_of_lt (by omega)

theorem Dev.countHold_lsr : d.countHold p l true =
    ((d.modLp p l Loop.heldNow).setReg (Reg.SPN_LSTAT p l) (heldStat (d.reg (Reg.SPN_LSTAT p l)))).setRbit (Reg.SPN_LSTAT p l) 7 true :=
  rfl

theorem Dev.countHold_miss : d.countHold p l false =
    (((d.modLp p l Loop.heldNow).setReg (Reg.SPN_LSTAT p l) (heldStat (d.reg (Reg.SPN_LSTAT p l)))).incFld (Reg.SPN_LCNT p l) 31 16).raise
      Src.SPN_MISS (d.loopInst p l) := rfl

theorem Dev.lp_countHold : (d.countHold p l lsr).lp p l = (d.lp p l).heldNow := by
  cases lsr
  · rw [Dev.countHold_miss, Dev.lp_raise, Dev.incFld, Dev.setFld, Dev.lp_setReg, Dev.lp_setReg, Dev.lp_modLp_same]
  · rw [Dev.countHold_lsr, Dev.setRbit, Dev.lp_setReg, Dev.lp_setReg, Dev.lp_modLp_same]

theorem Dev.spn_countHold : (d.countHold p l lsr).spn q = d.spn q := by
  cases lsr
  · rw [Dev.countHold_miss, Dev.spn_raise]; rfl
  · rfl

theorem Dev.stat_countHold : (d.countHold p l lsr).reg (Reg.SPN_LSTAT p l) =
    if lsr then putBit (heldStat (d.reg (Reg.SPN_LSTAT p l))) 7 true else heldStat (d.reg (Reg.SPN_LSTAT p l)) := by
  cases lsr
  · rw [Dev.countHold_miss, Dev.reg_raise, Dev.incFld, Dev.reg_setFld_other _ _ _ _ (SPN_LCNT_ne p l).symm, Dev.reg_setReg_same]
    rfl
  · rw [Dev.countHold_lsr, Dev.setRbit, Dev.reg_setReg_same, Dev.reg_setReg_same]
    rfl

theorem Dev.keeps_countHold_lsr : d.keeps (d.countHold p l true) [Reg.SPN_LSTAT p l] := by
  rw [Dev.countHold_lsr]
  exact ((Dev.keeps_modLp _ _).set _ _ (by simp)).bit _ _ _ (by simp)

theorem Dev.keeps_countHold_miss : d.keeps (d.countHold p l false) [Reg.SPN_LSTAT p l, Reg.SPN_LCNT p l] := by
  rw [Dev.countHold_miss]
  exact (((Dev.keeps_modLp _ _).set _ _ (by simp)).field _ _ _ _ (by simp)).same (Dev.raise_sk ..) (Dev.raise_regs ..)

theorem Dev.reports_countHold_lsr : (d.countHold p l true).reports = d.reports := rfl

theorem Dev.raised_countHold_miss : (d.countHold p l false).raised Src.SPN_MISS (d.loopInst p l) := by
  rw [Dev.countHold_miss]
  exact Dev.mem_raise _ _ _

theorem Dev.misses_countHold : (d.countHold p l false).fld (Reg.SPN_LCNT p l) 31 16 = min 65535 (d.fld (Reg.SPN_LCNT p l) 31 16 + 1) := by
  rw [Dev.countHold_miss, Dev.fld_congr (Dev.reg_raise ..)]
  refine (Dev.fld_incFld (Reg.SPN_LCNT p l) 31 16 (by decide) (by decide)).trans ?_
  exact congrArg (fun x => min 65535 (x + 1)) (Dev.fld_congr (Dev.reg_setReg_other _ _ (SPN_LCNT_ne p l)) 31 16)

theorem Dev.holds_countHold : (d.countHold p l lsr).fld (Reg.SPN_LSTAT p l) 31 16 = min 65535 (d.fld (Reg.SPN_LSTAT p l) 31 16 + 1) := by
  rw [Dev.fld, Dev.stat_countHold]
  cases lsr
  · exact holds_heldStat _
  · exact (bitsOf_putBit_other _ 7 _ 31 16 (by decide) (by decide)).trans (holds_heldStat _)

theorem Dev.lsr_countHold : (d.countHold p l true).rbit (Reg.SPN_LSTAT p l) 7 = true := by
  rw [Dev.countHold_lsr, Dev.rbit_setRbit _ _ _ _ _ (by decide), if_pos rfl]

/-! ### The guard of a period (R227, R228) -/

theorem Dev.deadline_lost (h : (d.lp p l).lost = true) (hw : l ∉ (d.spn p).slotWait) :
    d.deadline p l = if d.loopLive p l then d.countHold p l true else d := by
  rw [Dev.deadline, if_neg hw, if_pos (by simp [h])]

theorem Dev.deadline_past (hl : (d.lp p l).lost = false) (hh : d.onHold p = false ∨ (d.lp p l).committed = true ∨ (d.lp p l).held = true)
    (hw : l ∉ (d.spn p).slotWait)
    (h : (d.spn p).slot ≠ some l ∨ (d.lp p l).committed = true ∨ (d.lp p l).held = true ∨ d.rbit (Reg.SPN_LSTAT p l) 6 = true) :
    d.deadline p l = d := by
  rw [Dev.deadline, if_neg hw, if_neg, if_neg]
  · rcases h with h | h | h | h <;> simp [h]
  · rcases hh with hh | hh | hh <;> simp [hl, hh]

theorem Dev.deadline_holds (hl : (d.lp p l).lost = false) (hh : d.onHold p = false) (hw : l ∉ (d.spn p).slotWait)
    (hs : (d.spn p).slot = some l) (hc : (d.lp p l).committed = false) (hd : (d.lp p l).held = false)
    (ht : d.rbit (Reg.SPN_LSTAT p l) 6 = false) : d.deadline p l = (d.stopEntry p).countHold p l (d.spn p).recovered := by
  rw [Dev.deadline, if_neg hw, if_neg (by simp [hl, hh]), if_pos (by simp [hs, hc, hd, ht]), Dev.holdPeriod]

/-- A Spindle whose loop no longer waits for its slot. -/
def Spindle.unwaited (s : Spindle) (l : Nat) : Spindle := { s with slotWait := s.slotWait.filter (· ≠ l) }

theorem Spindle.not_mem_unwaited (s : Spindle) : l ∉ (s.unwaited l).slotWait := by simp [Spindle.unwaited]

/-- A period that never had its slot. -/
def Dev.missed (d : Dev) (p l : Nat) : Dev :=
  ((d.countHold p l false).setFld (Reg.SPN_LSTAT p l) 5 2 0).modSpn p fun s => s.unwaited l

theorem Dev.deadline_missed (hh : d.onHold p = false) (hw : l ∈ (d.spn p).slotWait) (hl : d.loopLive p l = true)
    (hi : d.inj.live = false) : d.deadline p l = d.missed p l := by
  rw [Dev.deadline, if_pos hw, Dev.dropPeriod, if_pos hl, Dev.injPeriod_off hi, hh]
  rfl

/-- A period whose slot a takeover has kept. -/
def Dev.passedOver (d : Dev) (p l : Nat) : Dev := (d.countHold p l true).modSpn p fun s => s.unwaited l

theorem Dev.deadline_kept (hh : d.onHold p = true) (hw : l ∈ (d.spn p).slotWait) (hl : d.loopLive p l = true)
    (hi : d.inj.live = false) : d.deadline p l = d.passedOver p l := by
  rw [Dev.deadline, if_pos hw, Dev.dropPeriod, if_pos hl, Dev.injPeriod_off hi, hh]
  rfl

theorem Dev.missed_shows : l ∉ ((d.missed p l).spn p).slotWait ∧ (d.missed p l).lp p l = (d.lp p l).heldNow ∧
    (d.missed p l).fld (Reg.SPN_LSTAT p l) 5 2 = 0 ∧
    (d.missed p l).fld (Reg.SPN_LSTAT p l) 31 16 = min 65535 (d.fld (Reg.SPN_LSTAT p l) 31 16 + 1) ∧
    (d.missed p l).raised Src.SPN_MISS (d.loopInst p l) ∧ d.keeps (d.missed p l) [Reg.SPN_LSTAT p l, Reg.SPN_LCNT p l] := by
  have hfld : ∀ hi lo, (d.missed p l).fld (Reg.SPN_LSTAT p l) hi lo =
      ((d.countHold p l false).setFld (Reg.SPN_LSTAT p l) 5 2 0).fld (Reg.SPN_LSTAT p l) hi lo := fun _ _ => by rfl
  refine ⟨?_, ?_, ?_, ?_, Dev.raised_countHold_miss, (Dev.keeps_countHold_miss.field _ _ _ _ (by simp)).same rfl rfl⟩
  · rw [Dev.missed, Dev.spn_modSpn_same]
    exact Spindle.not_mem_unwaited _
  · rw [Dev.missed, Dev.lp_modSpn, Dev.setFld, Dev.lp_setReg, Dev.lp_countHold]
  · rw [hfld, Dev.fld_setFld _ _ _ _ _ (by decide) (by decide), Nat.zero_mod]
  · rw [hfld, ← Dev.holds_countHold (lsr := false), Dev.fld, Dev.setFld, Dev.reg_setReg_same]
    exact bitsOf_putBits_other _ 5 2 0 31 16 (by decide) (by decide) (by decide)

theorem Dev.reports_modSpn (g : Spindle → Spindle) : (d.modSpn p g).reports = d.reports := rfl

theorem Dev.passedOver_shows : l ∉ ((d.passedOver p l).spn p).slotWait ∧ (d.passedOver p l).lp p l = (d.lp p l).heldNow ∧
    (d.passedOver p l).rbit (Reg.SPN_LSTAT p l) 7 = true ∧
    (d.passedOver p l).fld (Reg.SPN_LSTAT p l) 5 2 = d.fld (Reg.SPN_LSTAT p l) 5 2 ∧
    (d.passedOver p l).reports = d.reports ∧ d.keeps (d.passedOver p l) [Reg.SPN_LSTAT p l] := by
  have hreg : ∀ a, (d.passedOver p l).reg a = (d.countHold p l true).reg a := fun _ => by rfl
  refine ⟨?_, ?_, (Dev.rbit_congr (hreg _) 7).trans Dev.lsr_countHold, ?_, ?_,
    Dev.keeps_countHold_lsr.same (f := d.passedOver p l) rfl rfl⟩
  · rw [Dev.passedOver, Dev.spn_modSpn_same]
    exact Spindle.not_mem_unwaited _
  · rw [Dev.passedOver, Dev.lp_modSpn, Dev.lp_countHold]
  · rw [Dev.fld, hreg, Dev.stat_countHold, if_pos rfl, bitsOf_putBit_other _ 7 true 5 2 (by decide) (by decide), heldStat,
      bitsOf_putBits_other _ 31 16 _ 5 2 (by decide) (by decide) (by decide)]
    rfl
  · rw [Dev.passedOver, Dev.reports_modSpn, Dev.reports_countHold_lsr]

/-! ### The close of a slot (R216, R223) -/

/-- A Spindle whose slot has closed. -/
def Spindle.closed (s : Spindle) : Spindle := { s with slot := none, recovered := false, again := false, restoring := false }

/-- An entry point that still ran at the close, with its report. -/
def Dev.overrun (d : Dev) (p l : Nat) : Dev := (d.setRbit (Reg.SPN_LSTAT p l) 8 true).raise Src.SPN_OVR (d.loopInst p l)

theorem Dev.openNext_none (h : (d.spn p).slotWait = []) : d.openNext p = d := by rw [Dev.openNext, h]

theorem Dev.slotClose_done (hs : (d.spn p).slot = some l) (hd : d.deadline p l = d) (hw : (d.spn p).slotWait = []) :
    d.slotClose p l = ((((d.stopEntry p).when (d.spn p).entry.isSome fun e => e.overrun p l).when (!d.onHold p) fun e =>
      e.endQual p l).modSpn p Spindle.closed) := by
  have hover : ((d.stopEntry p).when (d.spn p).entry.isSome fun e => e.overrun p l).spn p = (d.stopEntry p).spn p := by
    cases (d.spn p).entry.isSome
    · rfl
    · exact Dev.spn_raise ..
  have hqual : ∀ e : Dev, (e.endQual p l).spn p = e.spn p := fun e => by
    simp only [Dev.endQual]
    split <;> rfl
  have hspn : (((d.stopEntry p).when (d.spn p).entry.isSome fun e => e.overrun p l).when (!d.onHold p) fun e => e.endQual p l).spn p =
      (d.stopEntry p).spn p := by
    cases d.onHold p
    · exact (hqual _).trans hover
    · exact hover
  simp only [Dev.slotClose]
  rw [if_pos hs, hd, Dev.openNext_none]
  · rfl
  · rw [Dev.spn_modSpn_same]
    refine (congrArg Spindle.slotWait hspn).trans ?_
    rw [Dev.spn_stopEntry]
    exact hw

/-- QUAL after a period that ran to its end. -/
def Loop.qualAfter (x : Loop) (q : Nat) : Nat := if x.inTime && x.clean then min 8 (q + 1) else 0

theorem Loop.qualAfter_lt (x : Loop) (q : Nat) : x.qualAfter q < 16 := by
  unfold Loop.qualAfter
  split <;> omega

theorem Dev.endQual_counts (h : (d.spn p).recovered = false) :
    d.endQual p l = d.setFld (Reg.SPN_LSTAT p l) 5 2 ((d.lp p l).qualAfter (d.fld (Reg.SPN_LSTAT p l) 5 2)) := by
  rw [Dev.endQual, if_neg (by simp [h])]
  rfl

theorem Dev.endQual_kept (h : (d.spn p).recovered = true) : d.endQual p l = d := if_pos h

section

variable (hs : (d.spn p).slot = some l) (hc : (d.lp p l).committed = true ∨ (d.lp p l).held = true) (hw : (d.spn p).slotWait = [])
  (hl : (d.lp p l).lost = false)

include hs hc hw hl

theorem Dev.deadline_done : d.deadline p l = d :=
  Dev.deadline_past hl (.inr hc) (by simp [hw]) (.inr (hc.elim .inl fun h => .inr (.inl h)))

theorem Dev.slotClose_stopped (he : (d.spn p).entry = none) (hq : d.onHold p = true ∨ (d.spn p).recovered = true) :
    d.slotClose p l = (d.stopEntry p).modSpn p Spindle.closed := by
  rw [Dev.slotClose_done hs (Dev.deadline_done hs hc hw hl) hw, he]
  cases hh : d.onHold p
  · have hr : ((d.stopEntry p).spn p).recovered = true := by
      rw [Dev.spn_stopEntry]
      exact hq.resolve_left (by simp [hh])
    exact congrArg (Dev.modSpn · p Spindle.closed) (Dev.endQual_kept hr)
  · rfl

/-- A slot that closes with its period judged (R216, R223). -/
theorem Dev.slotClose_shows (hr : (d.spn p).recovered = false) (hh : d.onHold p = false) :
    ((d.slotClose p l).spn p).slot = none ∧ ((d.slotClose p l).spn p).entry = none ∧
      (d.slotClose p l).fld (Reg.SPN_LSTAT p l) 5 2 = (d.lp p l).qualAfter (d.fld (Reg.SPN_LSTAT p l) 5 2) ∧
      ((d.spn p).entry ≠ none → (d.slotClose p l).rbit (Reg.SPN_LSTAT p l) 8 = true ∧
        (d.slotClose p l).raised Src.SPN_OVR (d.loopInst p l)) ∧ d.keeps (d.slotClose p l) [Reg.SPN_LSTAT p l] := by
  rw [Dev.slotClose_done hs (Dev.deadline_done hs hc hw hl) hw, hh]
  have hrun : ∃ e : Dev, ((d.stopEntry p).when (d.spn p).entry.isSome fun e => e.overrun p l) = e ∧ e.spn p = (d.stopEntry p).spn p ∧
      e.lp p l = d.lp p l ∧ e.fld (Reg.SPN_LSTAT p l) 5 2 = d.fld (Reg.SPN_LSTAT p l) 5 2 ∧
      ((d.spn p).entry ≠ none → e.rbit (Reg.SPN_LSTAT p l) 8 = true ∧ e.raised Src.SPN_OVR (d.loopInst p l)) ∧
      d.keeps e [Reg.SPN_LSTAT p l] := by
    refine ⟨_, rfl, ?_⟩
    cases hent : (d.spn p).entry with
    | none => exact ⟨by rfl, by rfl, by rfl, fun h => absurd rfl h, Dev.keeps_stopEntry _⟩
    | some x =>
      have hreg := Dev.reg_raise ((d.stopEntry p).setRbit (Reg.SPN_LSTAT p l) 8 true) Src.SPN_OVR ((d.stopEntry p).loopInst p l)
      refine ⟨Dev.spn_raise .., Dev.lp_raise .., ?_, fun _ => ⟨?_, Dev.mem_raise _ _ _⟩, ?_⟩
      · refine (Dev.fld_congr (hreg _) 5 2).trans ?_
        rw [Dev.fld, Dev.setRbit, Dev.reg_setReg_same]
        exact bitsOf_putBit_other _ 8 true 5 2 (by decide) (by decide)
      · exact (Dev.rbit_congr (hreg _) 8).trans ((Dev.rbit_setRbit _ _ _ _ _ (by decide)).trans (if_pos rfl))
      · exact ((Dev.keeps_stopEntry _).bit _ _ _ (by simp)).same (Dev.raise_sk ..) (Dev.raise_regs ..)
  obtain ⟨e, he, hspn, hlp, hfld, hover, hkeeps⟩ := hrun
  rw [he]
  have hrec : (e.spn p).recovered = false := by rw [hspn, Dev.spn_stopEntry]; exact hr
  have hend : (e.when (!false) fun e => e.endQual p l) =
      e.setFld (Reg.SPN_LSTAT p l) 5 2 ((d.lp p l).qualAfter (d.fld (Reg.SPN_LSTAT p l) 5 2)) := by
    rw [← hlp, ← hfld]
    exact Dev.endQual_counts hrec
  rw [hend]
  refine ⟨?_, ?_, ?_, fun h => ⟨?_, (hover h).2⟩, (hkeeps.field _ _ _ _ (by simp)).same rfl rfl⟩
  · rw [Dev.spn_modSpn_same]; rfl
  · rw [Dev.spn_modSpn_same, Dev.setFld, Dev.spn_setReg, hspn, Dev.spn_stopEntry]; rfl
  · refine (Dev.fld_setFld e _ _ _ _ (by decide) (by decide)).trans (Nat.mod_eq_of_lt ?_)
    exact Loop.qualAfter_lt _ _
  · rw [Dev.rbit, Dev.reg_modSpn, ← Dev.rbit, Dev.rbit_setFld_other _ _ _ _ _ (by decide) (by decide) (by decide)]
    exact (hover h).1

end

end Sys2Proof.Machine
end

section
/-! SUPPORT. What a Spindle reads of the Skein beside its instructions: the pulls of its fills and the checkpoint of a loop's
context (R217, R232, R242). -/

namespace Sys2Proof.Machine

variable {d e f : Dev} {p q l req cls a n : Nat}

/-! ### Reads with nothing raised -/

/-- Two devices that differ by reads of a Spindle that found no draw raised. -/
structure Dev.readNear (d e : Dev) : Prop where
  mem : e.sk.mem = d.sk.mem
  hanks : e.sk.hanks = d.sk.hanks
  draws : e.sk.draws = d.sk.draws
  loops : e.cr.loops = d.cr.loops
  now : e.now = d.now
  regs : ∀ a, ¬ (0x37000000 ≤ a ∧ a < 0x37001000) → e.reg a = d.reg a

theorem Dev.readNear.rfl : d.readNear d := ⟨by rfl, by rfl, by rfl, by rfl, by rfl, fun _ _ => by rfl⟩

theorem Dev.readNear.trans (h : d.readNear e) (k : e.readNear f) : d.readNear f where
  mem := k.mem.trans h.mem
  hanks := k.hanks.trans h.hanks
  draws := k.draws.trans h.draws
  loops := k.loops.trans h.loops
  now := k.now.trans h.now
  regs a ha := (k.regs a ha).trans (h.regs a ha)

theorem Dev.skCalm.readNear (h : d.skCalm e) : d.readNear e := ⟨h.mem, h.hanks, h.draws, h.loops, h.now, h.regs⟩

theorem Dev.readNear.modSpn (g : Spindle → Spindle) : d.readNear (d.modSpn p g) := ⟨by rfl, by rfl, by rfl, by rfl, by rfl, fun _ _ => by rfl⟩

theorem Dev.readNear.quiet (h : d.readNear e) (hq : d.quiet) : e.quiet := fun b => by
  rw [← hq b, Dev.drawsOf, h.draws]
  rfl

theorem Dev.readNear.byte (h : d.readNear e) (a : Nat) : e.byte a = d.byte a := by simp only [Dev.byte, h.mem]

theorem Dev.readNear.lp (h : d.readNear e) : e.lp p l = d.lp p l := by
  unfold Dev.lp Dev.loop
  rw [h.loops]

theorem Dev.load_calm (hq : d.quiet) : d.skCalm (d.load req cls a n).1 ∧ (d.load req cls a n).2.1 ≠ .wait := by
  unfold Dev.load
  rw [hq (bankOf a)]
  exact Dev.loadAt_calm (hq _)

theorem Dev.readNear_noteSpnLb (b : Bool) : d.readNear (d.noteSpnLb p b) := by
  unfold Dev.noteSpnLb
  split
  · exact .modSpn _
  · exact .rfl

theorem Dev.pull_near (k : Nat) (hq : d.quiet) : d.readNear (d.pull req a n k).1 ∧ (d.pull req a n k).2 ≠ .wait := by
  induction k generalizing d a n with
  | zero => exact ⟨.rfl, SkRes.noConfusion⟩
  | succ k ih =>
    unfold Dev.pull
    split
    · exact ⟨.rfl, SkRes.noConfusion⟩
    · obtain ⟨hcalm, hres⟩ := Dev.load_calm (d := d) (req := req) (cls := 1) (a := a) (n := min n 1024) hq
      dsimp only
      split
      · next brk _ =>
        have hnear := hcalm.readNear.trans (Dev.readNear_noteSpnLb (p := req - 18) brk)
        obtain ⟨hrest, hend⟩ := ih (a := a + min n 1024) (n := n - min n 1024) (hnear.quiet hq)
        exact ⟨hnear.trans hrest, hend⟩
      · exact ⟨hcalm.readNear, hres⟩

theorem Dev.copyLive_near (h : Nat) : d.readNear (d.copyLive p h) := by
  unfold Dev.copyLive
  exact .modSpn _

theorem Dev.fillLive_near (h : Nat) (hq : d.quiet) : d.readNear (d.fillLive p h).1 ∧ (d.fillLive p h).2 ≠ .wait := by
  have hpull : ∀ r : Dev × SkRes, d.readNear r.1 ∧ r.2 ≠ .wait →
      d.readNear (match r.2 with | .done b => (r.1.copyLive p h, SkRes.done b) | e => (r.1, e)).1 ∧
      (match r.2 with | .done b => (r.1.copyLive p h, SkRes.done b) | e => (r.1, e)).2 ≠ .wait := by
    rintro ⟨e, res⟩ ⟨hnear, hres⟩
    cases res with
    | done b => exact ⟨hnear.trans (f := e.copyLive p h) (Dev.copyLive_near h), SkRes.noConfusion⟩
    | refused st => exact ⟨hnear, SkRes.noConfusion⟩
    | wait => exact absurd rfl hres
  refine hpull (if (d.hank h).v then d.pull (reqSpn p) (d.hank h).start (min 2048 (d.hank h).bytes) 3 else (d, .done false)) ?_
  split
  · exact Dev.pull_near 3 hq
  · exact ⟨.rfl, SkRes.noConfusion⟩

theorem Dev.fillLives_near (hs : List Nat) (hq : d.quiet) : d.readNear (d.fillLives p hs).1 ∧ (d.fillLives p hs).2 ≠ .wait := by
  induction hs generalizing d with
  | nil => exact ⟨.rfl, SkRes.noConfusion⟩
  | cons h hs ih =>
    obtain ⟨hnear, hres⟩ := Dev.fillLive_near (p := p) h hq
    unfold Dev.fillLives
    dsimp only
    split
    · obtain ⟨hrest, hend⟩ := ih (hnear.quiet hq)
      exact ⟨hnear.trans hrest, hend⟩
    · exact ⟨hnear, hres⟩

/-! ### Reads that meet nothing wrong -/

/-- Two devices that differ by clean reads of a Spindle: its LB and live copies, and what the Flyer notes of a grant. -/
structure Dev.readClean (d e : Dev) (p : Nat) : Prop where
  near : d.readNear e
  regs : e.regs = d.regs
  ecc : e.sk.ecc = d.sk.ecc
  takeovers : e.cr.takeovers = d.cr.takeovers
  reports : e.reports = d.reports
  md : e.md = d.md
  spn : ∃ live lb, e.spn p = { d.spn p with live := live, lb := lb }

theorem Dev.readClean.rfl : d.readClean d p := ⟨.rfl, by rfl, by rfl, by rfl, by rfl, by rfl, ⟨(d.spn p).live, (d.spn p).lb, by rfl⟩⟩

theorem Dev.readClean.trans (h : d.readClean e p) (k : e.readClean f p) : d.readClean f p where
  near := h.near.trans k.near
  regs := k.regs.trans h.regs
  ecc := k.ecc.trans h.ecc
  takeovers := k.takeovers.trans h.takeovers
  reports := k.reports.trans h.reports
  md := k.md.trans h.md
  spn := by
    obtain ⟨x, b, hx⟩ := h.spn
    obtain ⟨y, c, hy⟩ := k.spn
    exact ⟨y, c, by rw [hy, hx]⟩

theorem Dev.readClean.granted (st : DrawStatus) : d.readClean (d.granted req cls a st) p :=
  ⟨(Dev.skCalm_granted st).readNear, by rfl, by rfl, by rfl, by rfl, by rfl, ⟨(d.spn p).live, (d.spn p).lb, by rfl⟩⟩

theorem Dev.readClean.modSpn {g : Spindle → Spindle} (h : ∃ live lb, g (d.spn p) = { d.spn p with live := live, lb := lb }) :
    d.readClean (d.modSpn p g) p := by
  obtain ⟨live, lb, h⟩ := h
  exact ⟨.modSpn _, by rfl, by rfl, by rfl, by rfl, by rfl, ⟨live, lb, by rw [Dev.spn_modSpn_same, h]⟩⟩

theorem Dev.readClean.lbNoted (b : Bool) : d.readClean (d.noteSpnLb p b) p := by
  cases b
  · exact .rfl
  · unfold Dev.noteSpnLb
    rw [if_pos (Eq.refl true)]
    exact .modSpn ⟨(d.spn p).live, true, Eq.refl _⟩

theorem Dev.readClean.copyLive (h : Nat) : d.readClean (d.copyLive p h) p := by
  unfold Dev.copyLive
  exact .modSpn ⟨_, (d.spn p).lb, Eq.refl _⟩

theorem Dev.readClean.hank (h : d.readClean e p) (k : Nat) : e.hank k = d.hank k := by
  unfold Dev.hank
  rw [h.near.hanks]

theorem Dev.readClean.reads (h : d.readClean e p) (hc : d.readsClean req) : e.readsClean req := by
  obtain ⟨hq, hcut, hecc, hend⟩ := hc
  refine ⟨h.near.quiet hq, ?_, fun a => ?_, fun k => ?_⟩
  · rw [← hcut]
    simp only [Dev.isCut, Dev.rbit, Dev.reg, h.regs]
  · rw [← hecc a, Dev.ecc, h.ecc]
    rfl
  · rw [h.hank]
    exact hend k

theorem Dev.readClean.keeps (h : d.readClean e p) (but : List Nat) : d.keeps e but :=
  ⟨h.near.byte, fun a _ => by rw [Dev.reg, h.regs]; rfl⟩

theorem Dev.readClean.word (h : d.readClean e p) (a : Nat) : e.word a = d.word a := by
  unfold Dev.word Dev.bytes
  simp only [h.near.byte]

theorem reqSpn_sub (p : Nat) : reqSpn p - 18 = p := by
  unfold reqSpn
  omega

/-- A pull of a range whose draws each lie in one bank and in the Skein. -/
theorem Dev.pull_clean (k : Nat) (hc : d.readsClean (reqSpn p)) (hk : n ≤ 1024 * k) (ha : a % 1024 = 0 ∨ n = 0) (hend : a + n ≤ 0x1000000) :
    d.readClean (d.pull (reqSpn p) a n k).1 p ∧ ∃ b, (d.pull (reqSpn p) a n k).2 = .done b := by
  induction k generalizing d a n with
  | zero => exact ⟨.rfl, false, rfl⟩
  | succ k ih =>
    unfold Dev.pull
    split
    · exact ⟨.rfl, false, rfl⟩
    · next hn =>
      obtain ⟨st, brk, hload⟩ := Dev.load_clean (cls := 1) (a := a) (n := min n 1024) hc (by omega) (by unfold bankOf; omega)
      simp only [hload]
      have hnear : d.readClean ((d.granted (reqSpn p) 1 a st).noteSpnLb (reqSpn p - 18) brk) p := by
        rw [reqSpn_sub]
        exact (Dev.readClean.granted st).trans (.lbNoted brk)
      obtain ⟨hrest, hres⟩ := ih (a := a + min n 1024) (n := n - min n 1024) (hnear.reads hc) (by omega)
        (by omega) (by omega)
      exact ⟨hnear.trans hrest, hres⟩

theorem Hank.start_aligned (h : Hank) : h.start % 1024 = 0 := by
  unfold Hank.start
  omega

theorem Hank.bytes_ge (h : Hank) : 1024 ≤ h.bytes := by
  unfold Hank.bytes
  exact Nat.pow_le_pow_right (n := 2) (by decide) (by omega : 10 ≤ h.size + 10)

theorem Dev.fillLive_clean (h : Nat) (hc : d.readsClean (reqSpn p)) :
    d.readClean (d.fillLive p h).1 p ∧ ∃ b, (d.fillLive p h).2 = .done b := by
  have hpull : ∀ r : Dev × SkRes, d.readClean r.1 p ∧ (∃ b, r.2 = .done b) →
      d.readClean (match r.2 with | .done b => (r.1.copyLive p h, SkRes.done b) | e => (r.1, e)).1 p ∧
      ∃ b, (match r.2 with | .done b => (r.1.copyLive p h, SkRes.done b) | e => (r.1, e)).2 = .done b := by
    rintro ⟨e, res⟩ ⟨hnear, b, rfl⟩
    exact ⟨hnear.trans (.copyLive h), b, rfl⟩
  refine hpull (if (d.hank h).v then d.pull (reqSpn p) (d.hank h).start (min 2048 (d.hank h).bytes) 3 else (d, .done false)) ?_
  split
  · refine Dev.pull_clean 3 hc (by omega) (.inl (Hank.start_aligned _)) ?_
    have hend := hc.2.2.2 h
    omega
  · exact ⟨.rfl, false, rfl⟩

theorem Dev.fillLives_clean (hs : List Nat) (hc : d.readsClean (reqSpn p)) :
    d.readClean (d.fillLives p hs).1 p ∧ ∃ b, (d.fillLives p hs).2 = .done b := by
  induction hs generalizing d with
  | nil => exact ⟨.rfl, false, rfl⟩
  | cons h hs ih =>
    obtain ⟨hnear, b, hres⟩ := Dev.fillLive_clean (p := p) h hc
    obtain ⟨hrest, hend⟩ := ih (hnear.reads hc)
    unfold Dev.fillLives
    simp only [hres]
    exact ⟨hnear.trans hrest, hend⟩

/-! ### A loop's committed context (R217) -/

/-- The context that a checkpoint's bytes give a loop, and its flags. -/
def Dev.withCtx (d : Dev) (p l : Nat) (bs : List Byte) : Dev :=
  (d.modLp p l fun x => x.ofCkpt bs).setLoopFlags p l (ckptWord bs 0x60)

/-- The start of a loop's state hank. -/
def Dev.ctxAt (d : Dev) (p l : Nat) : Nat := (d.hank (d.fld (Reg.SPN_LHANK p l) 7 0)).start

/-- A loop's context once its checkpoint has been read. -/
def Dev.ctxRead (e : Dev) (p l : Nat) (bs : List Byte) : SkRes → Dev × SkRes
  | .done b => (e.withCtx p l bs, .done b)
  | r => (e, r)

theorem Dev.restoreCtx_of {e : Dev} {res : SkRes} {bs : List Byte} (h : d.load (reqSpn p) 1 (d.ctxAt p l) 128 = (e, res, bs)) :
    d.restoreCtx p l = e.ctxRead p l bs res := by
  rw [Dev.ctxAt] at h
  simp only [Dev.restoreCtx, h]
  cases res <;> rfl

theorem Dev.restoreCtx_quiet (hq : d.quiet) : ∃ e, d.readNear e ∧
    ((∃ st, d.restoreCtx p l = (e, .refused st)) ∨ ∃ bs b, d.restoreCtx p l = (e.withCtx p l bs, .done b)) := by
  obtain ⟨hcalm, hres⟩ := Dev.load_calm (d := d) (req := reqSpn p) (cls := 1) (a := d.ctxAt p l) (n := 128) hq
  rcases hload : d.load (reqSpn p) 1 (d.ctxAt p l) 128 with ⟨e, res, bs⟩
  rw [hload] at hcalm hres
  refine ⟨e, hcalm.readNear, ?_⟩
  rw [Dev.restoreCtx_of hload]
  cases res with
  | done b => exact .inr ⟨bs, b, Eq.refl _⟩
  | refused st => exact .inl ⟨st, Eq.refl _⟩
  | wait => exact absurd (Eq.refl _) hres

theorem Dev.restoreCtx_clean (hc : d.readsClean (reqSpn p)) : ∃ e b, d.readClean e p ∧
    d.restoreCtx p l = (e.withCtx p l (d.bytes (d.ctxAt p l) 128), .done b) := by
  have hstart : d.ctxAt p l % 1024 = 0 := Hank.start_aligned _
  have hend : d.ctxAt p l + (d.hank (d.fld (Reg.SPN_LHANK p l) 7 0)).bytes ≤ 0x1000000 := hc.2.2.2 _
  have hlen := Hank.bytes_ge (d.hank (d.fld (Reg.SPN_LHANK p l) 7 0))
  obtain ⟨st, brk, hload⟩ := Dev.load_clean (cls := 1) (a := d.ctxAt p l) (n := 128) hc (by omega) (by unfold bankOf; omega)
  exact ⟨_, brk, .granted st, Dev.restoreCtx_of hload⟩

theorem ckptWord_bytes {k : Nat} (hk : k + 4 ≤ n) : ckptWord (d.bytes a n) k = d.word (a + k) := by
  unfold ckptWord Dev.word
  congr 1
  refine List.ext_getElem (by simp [Dev.bytes]; omega) fun i h1 h2 => ?_
  simp [Dev.bytes, Nat.add_assoc]

theorem Loop.v_ofCkpt (x : Loop) (bs : List Byte) {i : Nat} (hi : i < 16) :
    smGet (fun _ => 0) (x.ofCkpt bs).v (16 + i) = ckptWord bs (4 * i) := by
  have hfold : (x.ofCkpt bs).v = ((List.range 16).map (16 + ·)).foldl (fun m j => smSet (fun _ => 0) m j (ckptWord bs (4 * (j - 16)))) [] := by
    rw [List.foldl_map]
    simp [Loop.ofCkpt]
  rw [hfold, smGet_foldl_smSet, if_pos (List.mem_map.mpr ⟨i, List.mem_range.mpr hi, rfl⟩), Nat.add_sub_cancel_left]

theorem Dev.lp_withCtx (bs : List Byte) : (d.withCtx p l bs).lp p l = (d.lp p l).ofCkpt bs := by
  rw [Dev.withCtx, Dev.setLoopFlags, Dev.setFld, Dev.lp_setReg, Dev.lp_modLp_same]

theorem Dev.reg_withCtx (bs : List Byte) (ha : a ≠ Reg.SPN_FLAGS p) : (d.withCtx p l bs).reg a = d.reg a :=
  Dev.reg_setFld_other (d.modLp p l fun x => x.ofCkpt bs) _ _ _ ha

theorem Dev.keeps_withCtx (bs : List Byte) : d.keeps (d.withCtx p l bs) [Reg.SPN_FLAGS p] :=
  (Dev.keeps_modLp _ _).field _ _ _ _ (List.mem_singleton_self _)

end Sys2Proof.Machine
end

section
/-! SUPPORT. The settlement of a loop's period (R211 to R229). -/

namespace Sys2Proof.Machine

variable {d e f : Dev} {s : State} {p q l a : Nat}

/-! ### The enabling of a loop (R212, R217, R232) -/

/-- A loop marked enabled, with nothing counted, on a Spindle that fills its window when the loop is its first. -/
def Dev.loopMarked (e : Dev) (p l : Nat) (first : Bool) (now : Nat) : Dev :=
  (((((e.setRbit (Reg.SPN_CTL p) l true).setFld (Reg.SPN_LSTAT p l) 31 16 0).setFld (Reg.SPN_LSTAT p l) 6 1 0).setReg
    (Reg.SPN_LCNT p l) 0).when first fun d => d.setRbit (Reg.SPN_STAT p) 8 true).modLp p l fun _ => { Loop.reset with enAt := now }

/-- What the enabling of a loop shows, trapped or not. -/
structure Dev.loopShown (e : Dev) (p l : Nat) (first : Bool) (now : Nat) : Prop where
  en : e.loopEn p l = true
  cnt : e.reg (Reg.SPN_LCNT p l) = 0
  holds : e.fld (Reg.SPN_LSTAT p l) 31 16 = 0
  enAt : (e.lp p l).enAt = now
  fills : first = true → e.rbit (Reg.SPN_STAT p) 8 = true

/-- The block of a Spindle, in which its loops' registers lie. -/
theorem spnBlock (hl : l < 4) : Reg.SPN_CTL p < Reg.SPN_STAT p ∧ Reg.SPN_STAT p < Reg.SPN_FLAGS p ∧
    Reg.SPN_FLAGS p < Reg.SPN_TRAPC p ∧ Reg.SPN_TRAPEA p < Reg.SPN_LSTAT p l ∧ Reg.SPN_LSTAT p l < Reg.SPN_LCNT p l ∧
    Reg.SPN_LCNT p l < 0x20010000 + 0x10000 * p := by
  unfold Reg.SPN_CTL Reg.SPN_STAT Reg.SPN_FLAGS Reg.SPN_TRAPC Reg.SPN_TRAPEA Reg.SPN_LSTAT Reg.SPN_LCNT
  omega

theorem Dev.reg_modLp (g : Loop → Loop) : (d.modLp p l g).reg a = d.reg a := rfl

theorem Dev.reg_loopMarked_other (first : Bool) (now : Nat) (hC : a ≠ Reg.SPN_CTL p) (hL : a ≠ Reg.SPN_LSTAT p l) (hN : a ≠ Reg.SPN_LCNT p l)
    (hS : a ≠ Reg.SPN_STAT p) : (e.loopMarked p l first now).reg a = e.reg a := by
  rw [Dev.loopMarked, Dev.reg_modLp]
  have hfill : ∀ x : Dev, (x.when first fun d => d.setRbit (Reg.SPN_STAT p) 8 true).reg a = x.reg a := fun x => by
    cases first
    · rfl
    · exact Dev.reg_setRbit_other _ _ _ hS
  rw [hfill, Dev.reg_setReg_other _ _ hN, Dev.reg_setFld_other _ _ _ _ hL, Dev.reg_setFld_other _ _ _ _ hL, Dev.reg_setRbit_other _ _ _ hC]

theorem Dev.stat_loopMarked (first : Bool) (now : Nat) (hl : l < 4) :
    (e.loopMarked p l first now).reg (Reg.SPN_LSTAT p l) = putBits (putBits (e.reg (Reg.SPN_LSTAT p l)) 31 16 0) 6 1 0 := by
  obtain ⟨h1, h2, h3, h4, h5, -⟩ := spnBlock (p := p) hl
  have hT := trapRegs_lt p l
  have hfill : ∀ x : Dev, (x.when first fun d => d.setRbit (Reg.SPN_STAT p) 8 true).reg (Reg.SPN_LSTAT p l) = x.reg (Reg.SPN_LSTAT p l) := fun x => by
    cases first
    · rfl
    · exact Dev.reg_setRbit_other _ _ _ (by omega)
  refine (hfill _).trans ?_
  rw [Dev.reg_setReg_other _ _ h5.ne, Dev.setFld, Dev.reg_setReg_same, Dev.setFld, Dev.reg_setReg_same,
    Dev.reg_setRbit_other _ _ _ (by omega)]

theorem Dev.loopShown_loopMarked (first : Bool) (now : Nat) (hl : l < 4) : (e.loopMarked p l first now).loopShown p l first now := by
  obtain ⟨h1, h2, h3, h4, h5, -⟩ := spnBlock (p := p) hl
  have hT := trapRegs_lt p l
  have hfill : ∀ x : Dev, ∀ a, a ≠ Reg.SPN_STAT p → (x.when first fun d => d.setRbit (Reg.SPN_STAT p) 8 true).reg a = x.reg a := fun x a ha => by
    cases first
    · rfl
    · exact Dev.reg_setRbit_other _ _ _ ha
  refine ⟨?_, ?_, ?_, congrArg Loop.enAt (Dev.lp_modLp_same _), fun h => ?_⟩
  · refine (Dev.rbit_congr (hfill _ _ (by omega)) l).trans ?_
    refine (Dev.rbit_congr (Dev.reg_setReg_other _ _ (by omega)) l).trans ?_
    refine (Dev.rbit_congr (Dev.reg_setFld_other _ _ _ _ (by omega)) l).trans ?_
    refine (Dev.rbit_congr (Dev.reg_setFld_other _ _ _ _ (by omega)) l).trans ?_
    exact (Dev.rbit_setRbit _ _ _ _ _ (by omega)).trans (if_pos rfl)
  · exact (hfill _ _ (by omega)).trans (Dev.reg_setReg_same ..)
  · rw [Dev.fld, Dev.stat_loopMarked first now hl, bitsOf_putBits_other _ 6 1 0 31 16 (by decide) (by decide) (by decide),
      bitsOf_putBits_same _ _ _ _ (by decide) (by decide), Nat.zero_mod]
  · rw [h, Dev.loopMarked, Dev.rbit, Dev.reg_modLp, Dev.when, if_pos rfl, ← Dev.rbit, Dev.rbit_setRbit _ _ _ _ _ (by decide), if_pos rfl]

theorem Dev.sk_loopMarked (first : Bool) (now : Nat) : (e.loopMarked p l first now).sk = e.sk := by cases first <;> rfl

/-- A step that keeps what the enabling of a loop shows. -/
theorem Dev.loopShown.mono {first : Bool} {now : Nat} (h : d.loopShown p l first now)
    (hlp : (e.lp p l).enAt = (d.lp p l).enAt) (hctl : e.reg (Reg.SPN_CTL p) = d.reg (Reg.SPN_CTL p))
    (hstat : e.reg (Reg.SPN_STAT p) = d.reg (Reg.SPN_STAT p)) (hcnt : e.reg (Reg.SPN_LCNT p l) = d.reg (Reg.SPN_LCNT p l))
    (hl : e.fld (Reg.SPN_LSTAT p l) 31 16 = d.fld (Reg.SPN_LSTAT p l) 31 16) : e.loopShown p l first now where
  en := (Dev.rbit_congr hctl l).trans h.en
  cnt := hcnt.trans h.cnt
  holds := hl.trans h.holds
  enAt := hlp.trans h.enAt
  fills hf := (Dev.rbit_congr hstat 8).trans (h.fills hf)

theorem Dev.lp_spnTrap {cause : Nat} {pc ea : Word} {imp : Bool} (m : Nat) : (d.spnTrap p l cause pc ea imp).lp q m = d.lp q m := by
  have hnoted : (d.trapNoted p l cause pc ea imp).lp q m = (d.loopTrapped p l).lp q m := by
    unfold Dev.trapNoted
    split <;> rfl
  have htrapped : (d.loopTrapped p l).lp q m = d.lp q m := by
    unfold Dev.loopTrapped
    cases decide ((d.spn p).slot = some l) <;> rfl
  rw [Dev.spnTrap_eq, Dev.lp, Dev.loop, Dev.cr_injTargetGone, Dev.raise_cr]
  exact hnoted.trans htrapped

theorem Dev.stat_spnTrap {cause : Nat} {pc ea : Word} {imp : Bool} :
    (d.spnTrap p l cause pc ea imp).reg (Reg.SPN_LSTAT p l) = putBit (d.reg (Reg.SPN_LSTAT p l)) 6 true := by
  obtain ⟨hCP, hPE, hEL⟩ := trapRegs_lt p l
  rw [Dev.reg_spnTrap, Dev.reg_trapNoted (hCP.trans (hPE.trans hEL)).ne' (hPE.trans hEL).ne' hEL.ne', Dev.loopTrapped, Dev.setRbit,
    Dev.reg_setReg_same]
  cases decide ((d.spn p).slot = some l) <;> rfl

theorem Dev.loopShown.spnTrap {first : Bool} {now cause : Nat} {pc ea : Word} {imp : Bool} (h : d.loopShown p l first now) (hl : l < 4) :
    (d.spnTrap p l cause pc ea imp).loopShown p l first now := by
  obtain ⟨h1, h2, h3, h4, h5, -⟩ := spnBlock (p := p) hl
  obtain ⟨hCP, hPE, hEL⟩ := trapRegs_lt p l
  have hkeep : ∀ a, a ≠ Reg.SPN_LSTAT p l → a ≠ Reg.SPN_TRAPC p → a ≠ Reg.SPN_TRAPPC p → a ≠ Reg.SPN_TRAPEA p →
      (d.spnTrap p l cause pc ea imp).reg a = d.reg a := fun a h1 h2 h3 h4 => Dev.keeps_spnTrap.2 a (by simp [h1, h2, h3, h4])
  refine h.mono (congrArg Loop.enAt (Dev.lp_spnTrap l)) (hkeep _ ?_ ?_ ?_ ?_) (hkeep _ ?_ ?_ ?_ ?_) (hkeep _ ?_ ?_ ?_ ?_) ?_
  case refine_13 =>
    rw [Dev.fld, Dev.stat_spnTrap]
    exact bitsOf_putBit_other _ 6 true 31 16 (by decide) (by decide)
  all_goals omega

theorem Dev.loopShown.readNear {first : Bool} {now : Nat} (h : d.loopShown p l first now) (hn : d.readNear e) (hl : l < 4) (hp : p < 18) :
    e.loopShown p l first now := by
  obtain ⟨h1, h2, h3, h4, h5, h6⟩ := spnBlock (p := p) hl
  obtain ⟨hCP, hPE, hEL⟩ := trapRegs_lt p l
  refine h.mono (congrArg Loop.enAt hn.lp) (hn.regs _ ?_) (hn.regs _ ?_) (hn.regs _ ?_) (Dev.fld_congr (hn.regs _ ?_) 31 16)
  all_goals omega

theorem Dev.loopShown.withCtx {first : Bool} {now : Nat} {bs : List Byte} (h : d.loopShown p l first now) (hl : l < 4) :
    (d.withCtx p l bs).loopShown p l first now := by
  obtain ⟨h1, h2, h3, h4, h5, h6⟩ := spnBlock (p := p) hl
  obtain ⟨hCP, hPE, hEL⟩ := trapRegs_lt p l
  have hlp : ((d.withCtx p l bs).lp p l).enAt = (d.lp p l).enAt := by rw [Dev.lp_withCtx]; rfl
  refine h.mono hlp (Dev.reg_withCtx bs ?_) (Dev.reg_withCtx bs ?_) (Dev.reg_withCtx bs ?_) (Dev.fld_congr (Dev.reg_withCtx bs ?_) 31 16)
  all_goals omega

/-- Whether a loop is the first of its Spindle. -/
def Dev.firstLoop (d : Dev) (p : Nat) : Bool := decide (d.fld (Reg.SPN_CTL p) 3 0 = 0)

/-- The fill of the live copies that a further loop's enabling makes. -/
def Dev.enableFill (d : Dev) (p l : Nat) : Dev × SkRes :=
  if d.firstLoop p then (d, .done false) else d.fillLives p [d.fld (Reg.SPN_LHANK p l) 15 8, d.fld (Reg.SPN_LHANK p l) 23 16]

theorem Dev.enableFill_near (hq : d.quiet) : d.readNear (d.enableFill p l).1 ∧ (d.enableFill p l).2 ≠ .wait := by
  unfold Dev.enableFill
  split
  · exact ⟨.rfl, SkRes.noConfusion⟩
  · exact Dev.fillLives_near _ hq

theorem Dev.enableFill_clean (hc : d.readsClean (reqSpn p)) : d.readClean (d.enableFill p l).1 p ∧ ∃ b, (d.enableFill p l).2 = .done b := by
  unfold Dev.enableFill
  split
  · exact ⟨.rfl, false, rfl⟩
  · exact Dev.fillLives_clean _ hc

section

variable (hen : d.loopEn p l = false) (ha : d.rbit (Reg.SPN_STAT p) l = false) (hr : d.rbit (Reg.SPN_STAT p) 9 = false)

include hen ha hr

theorem Dev.loopEnable_bad (hb : d.loopCfgBad p l = true) : d.loopEnable p l = d.setRbit (Reg.SPN_STAT p) 17 true := by
  rw [Dev.loopEnable, if_neg (by simp [hen, ha, hr]), if_pos hb]

variable (hb : d.loopCfgBad p l = false)

include hb

theorem Dev.loopEnable_refused {m : Dev} {st : DrawStatus} (hf : d.enableFill p l = (m, .refused st)) : d.loopEnable p l =
    (m.loopMarked p l (d.firstLoop p) d.now).spnTrap p l (causeOf st) (d.entryPc p l .pred) 0 false := by
  unfold Dev.enableFill Dev.firstLoop at hf
  rw [Dev.loopEnable, if_neg (by simp [hen, ha, hr]), if_neg (by simp [hb])]
  simp only [hf]
  rfl

theorem Dev.loopEnable_done {m e : Dev} {b : Bool} {res : SkRes} (hf : d.enableFill p l = (m, .done b))
    (hc : (m.loopMarked p l (d.firstLoop p) d.now).restoreCtx p l = (e, res)) (hw : res ≠ .wait) : d.loopEnable p l =
    match res with | .refused st => e.spnTrap p l (causeOf st) (d.entryPc p l .pred) 0 false | _ => e := by
  unfold Dev.enableFill Dev.firstLoop at hf
  unfold Dev.loopMarked Dev.firstLoop at hc
  rw [Dev.loopEnable, if_neg (by simp [hen, ha, hr]), if_neg (by simp [hb])]
  simp only [hf, hc]
  cases res with
  | wait => exact absurd rfl hw
  | refused st => rfl
  | done b => rfl

/-- A loop is enabled where the Flyer serves its reads at once (R212). -/
theorem Dev.loopEnable_quiet (hl : l < 4) (hp : p < 18) (hq : d.quiet) :
    (d.loopEnable p l).loopShown p l (d.firstLoop p) d.now ∧ d.sameMem (d.loopEnable p l) := by
  obtain ⟨hnear, hres⟩ := Dev.enableFill_near (p := p) (l := l) hq
  rcases hf : d.enableFill p l with ⟨m, res⟩
  rw [hf] at hnear hres
  have hmarked : (m.loopMarked p l (d.firstLoop p) d.now).loopShown p l (d.firstLoop p) d.now := Dev.loopShown_loopMarked _ _ hl
  have hsk : (m.loopMarked p l (d.firstLoop p) d.now).sk = m.sk := Dev.sk_loopMarked _ _
  have hmem : d.sameMem (m.loopMarked p l (d.firstLoop p) d.now) := fun a => by
    rw [Dev.byte, hsk]
    exact hnear.byte a
  have hquiet : (m.loopMarked p l (d.firstLoop p) d.now).quiet := fun b => by
    rw [Dev.drawsOf, hsk]
    exact hnear.quiet hq b
  cases res with
  | wait => exact absurd rfl hres
  | refused st =>
    rw [Dev.loopEnable_refused hen ha hr hb hf]
    exact ⟨hmarked.spnTrap hl, fun a => (Dev.keeps_spnTrap.1 a).trans (hmem a)⟩
  | done b =>
    obtain ⟨e, hread, ⟨st, hctx⟩ | ⟨bs, b', hctx⟩⟩ := Dev.restoreCtx_quiet (p := p) (l := l) hquiet
    · rw [Dev.loopEnable_done hen ha hr hb hf hctx SkRes.noConfusion]
      exact ⟨(hmarked.readNear hread hl hp).spnTrap hl, fun a => (Dev.keeps_spnTrap.1 a).trans ((hread.byte a).trans (hmem a))⟩
    · rw [Dev.loopEnable_done hen ha hr hb hf hctx SkRes.noConfusion]
      exact ⟨(hmarked.readNear hread hl hp).withCtx hl, fun a => ((Dev.keeps_withCtx bs).1 a).trans ((hread.byte a).trans (hmem a))⟩

/-- A loop that is enabled has the context that its state hank holds (R217). -/
theorem Dev.loopEnable_clean (hl : l < 4) (hp : p < 18) (hc : d.readsClean (reqSpn p)) :
    (d.loopEnable p l).rbit (Reg.SPN_LSTAT p l) 6 = false ∧
      ∀ i < 16, smGet (fun _ => 0) ((d.loopEnable p l).lp p l).v (16 + i) = d.word (d.ctxAt p l + 4 * i) := by
  obtain ⟨h1, h2, h3, h4, h5, h6⟩ := spnBlock (p := p) hl
  have hT := trapRegs_lt p l
  have hH : Reg.SPN_TRAPEA p < Reg.SPN_LHANK p l ∧ Reg.SPN_LHANK p l < Reg.SPN_LSTAT p l := by
    unfold Reg.SPN_TRAPEA Reg.SPN_LHANK Reg.SPN_LSTAT
    omega
  have hK : 0x37000000 ≤ Reg.SKN_CUT (reqSpn p / 32) := by
    unfold Reg.SKN_CUT
    omega
  obtain ⟨hnear, b, hres⟩ := Dev.enableFill_clean (p := p) (l := l) hc
  have hmc := hnear.reads hc
  generalize hm : (d.enableFill p l).1 = m at hnear hmc
  have hf : d.enableFill p l = (m, .done b) := Prod.ext hm hres
  have hsk : (m.loopMarked p l (d.firstLoop p) d.now).sk = m.sk := Dev.sk_loopMarked _ _
  have hreads : (m.loopMarked p l (d.firstLoop p) d.now).readsClean (reqSpn p) := by
    obtain ⟨hq, hcut, hecc, hend⟩ := hmc
    refine ⟨fun b => ?_, ?_, fun a => ?_, fun k => ?_⟩
    · rw [Dev.drawsOf, hsk]; exact hq b
    · rw [Dev.isCut, Dev.rbit_congr (Dev.reg_loopMarked_other _ _ ?_ ?_ ?_ ?_)]
      · exact hcut
      all_goals omega
    · rw [Dev.ecc, hsk]; exact hecc a
    · rw [Dev.hank, hsk]; exact hend k
  have hat : (m.loopMarked p l (d.firstLoop p) d.now).ctxAt p l = d.ctxAt p l := by
    have hreg : (m.loopMarked p l (d.firstLoop p) d.now).reg (Reg.SPN_LHANK p l) = d.reg (Reg.SPN_LHANK p l) := by
      rw [Dev.reg_loopMarked_other, Dev.reg, hnear.regs]
      · rfl
      all_goals omega
    have hh : ∀ k, (m.loopMarked p l (d.firstLoop p) d.now).hank k = d.hank k := fun k => by
      rw [← hnear.hank k, Dev.hank, hsk]
      rfl
    rw [Dev.ctxAt, Dev.ctxAt, hh, Dev.fld_congr hreg]
  obtain ⟨e, b', hread, hctx⟩ := Dev.restoreCtx_clean (l := l) hreads
  have hword : ∀ a, (m.loopMarked p l (d.firstLoop p) d.now).word a = d.word a := fun a => by
    rw [← hnear.word a]
    simp only [Dev.word, Dev.bytes, Dev.byte, hsk]
  rw [Dev.loopEnable_done hen ha hr hb hf hctx SkRes.noConfusion]
  constructor
  · have hstat : (e.withCtx p l ((m.loopMarked p l (d.firstLoop p) d.now).bytes ((m.loopMarked p l (d.firstLoop p) d.now).ctxAt p l) 128)).reg
        (Reg.SPN_LSTAT p l) = putBits (putBits (m.reg (Reg.SPN_LSTAT p l)) 31 16 0) 6 1 0 := by
      rw [Dev.reg_withCtx _ ?_, Dev.reg, hread.regs]
      · exact Dev.stat_loopMarked _ _ hl
      · omega
    rw [Dev.rbit, hstat, bitOf_putBits _ _ _ _ _ (by decide) (by decide)]
    rfl
  · intro i hi
    rw [Dev.lp_withCtx, Loop.v_ofCkpt _ _ hi, ckptWord_bytes (by omega), hword, hat]

end

/-! ### The commands -/

theorem exec_periodStart (p : Fin 18) (l : Fin 4) : exec (.periodStart p l) s = s.run fun d => d.periodStart p l := rfl

theorem exec_commitDeadline (p : Fin 18) (l : Fin 4) : exec (.commitDeadline p l) s = s.run fun d => d.deadline p l := rfl

theorem exec_slotClose (p : Fin 18) (l : Fin 4) : exec (.slotClose p l) s = s.run fun d => d.slotClose p l := rfl

theorem exec_loopEnable (p : Fin 18) (l : Fin 4) : exec (.loopEnable p l) s = s.run fun d => d.loopEnable p l := rfl

theorem Dev.loopEnable_idle (h : d.loopEn p l = true ∨ d.rbit (Reg.SPN_STAT p) l = true ∨ d.rbit (Reg.SPN_STAT p) 9 = true) :
    d.loopEnable p l = d := by
  refine if_pos ?_
  rcases h with h | h | h <;> simp [h]

theorem Dev.slotClose_idle (h : (d.spn p).slot ≠ some l) (hw : l ∉ (d.spn p).slotWait) : d.slotClose p l = d := by
  rw [Dev.slotClose, if_neg h, if_neg hw]

theorem Dev.slotClose_waits (h : (d.spn p).slot ≠ some l) (hw : l ∈ (d.spn p).slotWait) : d.slotClose p l = d.deadline p l := by
  rw [Dev.slotClose, if_neg h, if_pos hw]

/-- A slot opens at its period's start (R213, R214). -/
theorem Dev.periodStart_shows (hh : d.onHold p = false) (hd : d.periodDue p l = true) (hs : (d.spn p).slot = none)
    (ho : d.rbit (Reg.SPN_LENT1 p l) 23 = false) (hi : d.inj.live = false) :
    ∃ x y, (d.periodStart p l).spn p = x ∧ (d.periodStart p l).lp p l = y ∧ x.slot = some l ∧ x.entry = some .pred ∧
      x.pc = d.entryPc p l .pred ∧ x.kfile = liveOf (d.spn p).live (d.selHank p l) ∧ x.ra = false ∧ x.queue = [] ∧
      (∀ q < 16, smGet (fun _ => 0) x.v q = 0) ∧ y.committed = false ∧ y.per = d.nextPeriod p l ∧
      y.served = d.nextPeriod p l + 1 ∧ d.keeps (d.periodStart p l) [Reg.SPN_LSTAT p l] := by
  obtain ⟨r, hopen, hregs⟩ := Dev.openSlot_plain ho hi
  obtain ⟨x, hx, h1, h2, h3, h4, h5, h6, hv⟩ := Dev.spn_slotOpened (d := d) (p := p) (l := l) r
  rw [Dev.periodStart_opens hh hd hs, hopen]
  refine ⟨x, (d.slotOpened p l r).due p l false ((d.slotOpened p l r).lp p l), ?_, Dev.lp_takePeriod, h1, h2, h3, h4, h5, h6,
    fun q hq => by rw [hv]; exact smGet_upperRegs hq _, ?_, ?_, ?_, fun a => ?_, fun a ha => ?_⟩
  · rw [Dev.spn_takePeriod, hx]
  · rw [Dev.due_committed, Dev.lp_slotOpened]
  · rw [Dev.due_per, Dev.nextPeriod_slotOpened hregs]
  · rw [Dev.due_served, Dev.nextPeriod_slotOpened hregs]
  · rw [Dev.byte_takePeriod, Dev.byte_slotOpened]
  · rw [Dev.reg_takePeriod, Dev.reg_slotOpened]
    exact hregs a (by simpa using ha)

/-- A period that is held while its slot is open (R227). -/
theorem Dev.deadline_shows (hl : (d.lp p l).lost = false) (hh : d.onHold p = false) (hw : l ∉ (d.spn p).slotWait)
    (hs : (d.spn p).slot = some l) (hc : (d.lp p l).committed = false) (hd : (d.lp p l).held = false)
    (ht : d.rbit (Reg.SPN_LSTAT p l) 6 = false) (hr : (d.spn p).recovered = false) :
    ((d.deadline p l).spn p).entry = none ∧ ((d.deadline p l).spn p).queue = [] ∧
      ((d.deadline p l).lp p l).images = (d.lp p l).imagesC ∧ ((d.deadline p l).lp p l).holds = (d.lp p l).holds + 1 ∧
      ((d.deadline p l).lp p l).held = true ∧
      (d.deadline p l).fld (Reg.SPN_LSTAT p l) 31 16 = min 65535 (d.fld (Reg.SPN_LSTAT p l) 31 16 + 1) ∧
      (d.deadline p l).fld (Reg.SPN_LCNT p l) 31 16 = min 65535 (d.fld (Reg.SPN_LCNT p l) 31 16 + 1) ∧
      (d.deadline p l).raised Src.SPN_MISS (d.loopInst p l) ∧ d.keeps (d.deadline p l) [Reg.SPN_LSTAT p l, Reg.SPN_LCNT p l] := by
  rw [Dev.deadline_holds hl hh hw hs hc hd ht, hr, Dev.spn_countHold, Dev.lp_countHold, Dev.spn_stopEntry]
  exact ⟨rfl, rfl, rfl, rfl, rfl, Dev.holds_countHold.trans rfl, Dev.misses_countHold.trans rfl, Dev.raised_countHold_miss,
    ((Dev.keeps_stopEntry []).trans Dev.keeps_countHold_miss).mono (by simp)⟩

/-- Settles O36: the start, the guard and the close of a period by what each leaves of its loop and Spindle; the enabling by
what the reads of its context leave. -/
theorem periods : Obligations.Periods := by
  intro p l s d x y st k here due hc
  refine ⟨Dev.nextPeriod_ahead, Dev.nextPeriod_here, fun hh hd => exec_idle_of_run (exec_periodStart p l) (Dev.periodStart_idle hh hd),
    fun hh hl => exec_idle_of_run (exec_periodStart p l) ?_, fun hh hl hi => .of_run (exec_periodStart p l) hc ?_,
    fun hh hd => ⟨fun hs ho hi => .of_run (exec_periodStart p l) hc ?_, fun hs => ?_⟩, fun hl hw => ⟨fun hv => ?_, fun hv => ?_⟩,
    fun hh hl => ⟨fun hw h => exec_idle_of_run (exec_commitDeadline p l) (Dev.deadline_past hl (.inl hh) hw h), fun hw hv hi => ?_,
      fun hw hs hcm hd ht => ⟨fun hr => ?_, fun hr => ?_⟩, fun hs hcm hw => ⟨fun hr => ?_, fun hr he => ?_⟩⟩,
    fun hh => ⟨fun hw hv hi => ?_, fun hs hw hl hcm he => ?_⟩,
    fun h hw => exec_idle_of_run (exec_slotClose p l) (Dev.slotClose_idle h hw), fun h hw => ?_,
    fun h => exec_idle_of_run (exec_loopEnable p l) (Dev.loopEnable_idle h), fun hen ha hr => ⟨fun hb => ?_, fun hb hq => ?_, fun hb hrc => ?_⟩⟩
  · change s.dev.periodStart p l = s.dev
    rw [Dev.periodStart, if_pos hh, if_neg (by simpa using hl)]
  · rw [Dev.periodStart_lost hh hl hi]
    rw [Dev.freshPeriod_eq, Dev.lp_modLp_same, Dev.lp_takePeriod]
    refine ⟨rfl, rfl, rfl, ?_, fun a => ?_, fun a _ => ?_⟩
    · rw [Dev.spn_modLp, Dev.spn_takePeriod]
    · exact ((Dev.keeps_modLp (d := s.dev.takePeriod p l true) Loop.fresh []).1 a).trans (Dev.byte_takePeriod a)
    · rw [Dev.reg_modLp, Dev.reg_takePeriod]
  · obtain ⟨x, y, hx, hy, h1, h2, h3, h4, h5, h6, hv, h7, h8, h9, hk⟩ := Dev.periodStart_shows hh hd hs ho hi
    rw [hx, hy]
    refine ⟨h1, h2, h3, h4, h5, h6, fun q hq => ?_, h7, h8, h9, hk⟩
    unfold Dev.gv
    split
    · rfl
    · dsimp only
      rw [hx]
      exact hv _ hq
  · rw [exec_eq_of_run (exec_periodStart p l) hc, Dev.periodStart_waits hh hd hs]
    rfl
  · exact exec_idle_of_run (exec_commitDeadline p l) ((Dev.deadline_lost hl hw).trans (if_neg (by simpa using hv)))
  · refine .of_run (exec_commitDeadline p l) hc ?_
    rw [Dev.deadline_lost hl hw, if_pos hv, Dev.lp_countHold]
    exact ⟨rfl, rfl, rfl, Dev.lsr_countHold, Dev.holds_countHold, rfl, Dev.keeps_countHold_lsr⟩
  · refine .of_run (exec_commitDeadline p l) hc ?_
    rw [Dev.deadline_missed hh hw hv hi]
    obtain ⟨h1, h2, h3, h4, h5, h6⟩ := Dev.missed_shows (d := s.dev) (p := p) (l := l)
    rw [h2]
    exact ⟨h1, rfl, rfl, h3, h4, h5, h6⟩
  · exact .of_run (exec_commitDeadline p l) hc (Dev.deadline_shows hl hh hw hs hcm hd ht hr)
  · refine .of_run (exec_commitDeadline p l) hc ?_
    rw [Dev.deadline_holds hl hh hw hs hcm hd ht, hr, Dev.lp_countHold]
    exact ⟨rfl, Dev.lsr_countHold, rfl, ((Dev.keeps_stopEntry []).trans Dev.keeps_countHold_lsr).mono (by simp [st])⟩
  · exact .of_run (exec_slotClose p l) hc (Dev.slotClose_shows hs hcm hw hl hr hh)
  · refine .of_run (exec_slotClose p l) hc ?_
    rw [Dev.slotClose_stopped hs hcm hw hl he (.inr hr), Dev.spn_modSpn_same]
    exact ⟨rfl, rfl, (Dev.keeps_stopEntry []).same rfl rfl⟩
  · refine .of_run (exec_commitDeadline p l) hc ?_
    rw [Dev.deadline_kept hh hw hv hi]
    obtain ⟨h1, h2, h3, h4, h5, h6⟩ := Dev.passedOver_shows (d := s.dev) (p := p) (l := l)
    rw [h2]
    exact ⟨h1, rfl, h3, h4, h5, h6⟩
  · refine .of_run (exec_slotClose p l) hc ?_
    rw [Dev.slotClose_stopped hs hcm hw hl he (.inl hh), Dev.spn_modSpn_same, Dev.spn_stopEntry]
    exact ⟨rfl, rfl, (Dev.keeps_stopEntry []).same rfl rfl⟩
  · rw [exec_eq_of_run (exec_slotClose p l) hc, exec_eq_of_run (exec_commitDeadline p l) hc, Dev.slotClose_waits h hw]
  · rw [exec_eq_of_run (exec_loopEnable p l) hc, Dev.loopEnable_bad hen ha hr hb]
  · obtain ⟨hshown, hmem⟩ := Dev.loopEnable_quiet hen ha hr hb l.isLt p.isLt hq
    exact .of_run (exec_loopEnable p l) hc
      ⟨hshown.en, hshown.cnt, hshown.holds, hshown.enAt, fun h => hshown.fills (decide_eq_true h), hmem⟩
  · exact .of_run (exec_loopEnable p l) hc (Dev.loopEnable_clean hen ha hr hb l.isLt p.isLt hrc)

end Sys2Proof.Machine
end

section
/-! SUPPORT. The settlement of the program windows, the hot spares, the lockstep and the takeovers of the Spindles (R233 to
R238, R242). -/

namespace Sys2Proof.Machine

variable {d e f : Dev} {s : State} {p q l src a : Nat}

/-! ### The fill of a program window (R242) -/

/-- The hank whose words a program window holds. -/
def Dev.progHank (d : Dev) (src : Nat) : Hank := d.hank (d.fld (Reg.SPN_PROG src) 7 0)

/-- The number of words that a window takes from its hank. -/
def Dev.progWords (d : Dev) (src : Nat) : Nat := min (4 * min 1024 (d.fld (Reg.SPN_PROG src) 17 8 + 1)) ((d.progHank src).bytes / 4)

theorem Dev.spn_copyWindow : ((d.copyWindow p src).spn p).pbase = (d.progHank src).start ∧
    ∀ i < d.progWords src, smGet (fun _ => 0) ((d.copyWindow p src).spn p).pwin i = d.word ((d.progHank src).start + 4 * i) := by
  have h : (d.copyWindow p src).spn p = { d.spn p with
      pbase := (d.progHank src).start, pbeats := min 1024 (d.fld (Reg.SPN_PROG src) 17 8 + 1),
      pwin := (List.range (d.progWords src)).foldl (fun m i => smSet (fun _ => 0) m i (d.word ((d.progHank src).start + 4 * i))) [] } :=
    Dev.spn_modSpn_same _
  rw [h]
  refine ⟨rfl, fun i hi => ?_⟩
  rw [smGet_foldl_smSet, if_pos (List.mem_range.mpr hi)]

theorem Dev.readsClean_copyWindow {req : Nat} (hc : d.readsClean req) : (d.copyWindow p src).readsClean req := hc

/-- A fill that meets nothing wrong: the window's hank is read, copied, and the live copies are filled. -/
theorem Dev.fillWindow_clean (hc : d.readsClean (reqSpn p)) :
    ∃ m b, d.readClean m p ∧ (m.copyWindow p src).readClean (d.fillWindow p src).1 p ∧ (d.fillWindow p src).2 = .done b := by
  have hend : (d.progHank src).start + (d.progHank src).bytes ≤ 0x1000000 := hc.2.2.2 _
  have hfld : d.fld (Reg.SPN_PROG src) 17 8 < 1024 := bitsOf_lt _ _ _
  obtain ⟨hpull, b, hres⟩ := Dev.pull_clean (d := d) (p := p) (a := (d.progHank src).start)
    (n := min (16 * (d.fld (Reg.SPN_PROG src) 17 8 + 1)) (d.progHank src).bytes) 17 hc (by omega) (.inl (Hank.start_aligned _)) (by omega)
  generalize hm : d.pull (reqSpn p) (d.progHank src).start (min (16 * (d.fld (Reg.SPN_PROG src) 17 8 + 1)) (d.progHank src).bytes) 17 = r
    at hpull hres
  obtain ⟨m, res⟩ := r
  obtain rfl : res = .done b := hres
  have hfill : d.fillWindow p src = (m.copyWindow p src).fillLives p (d.coefHanks src) := by
    unfold Dev.progHank at hm
    simp only [Dev.fillWindow, hm]
  obtain ⟨hlive, hdone⟩ := Dev.fillLives_clean (d.coefHanks src) (Dev.readsClean_copyWindow (p := p) (src := src) (hpull.reads hc))
  rw [hfill]
  obtain ⟨b', hb'⟩ := hdone
  exact ⟨m, b', hpull, hlive, hb'⟩

/-- What a fill that meets nothing wrong leaves. -/
structure Dev.filled (d e : Dev) (p src : Nat) : Prop where
  keeps : d.keeps e []
  takeovers : e.cr.takeovers = d.cr.takeovers
  pbase : (e.spn p).pbase = (d.progHank src).start
  pwin : ∀ i < d.progWords src, smGet (fun _ => 0) (e.spn p).pwin i = d.word ((d.progHank src).start + 4 * i)

theorem Dev.fillWindow_filled (hc : d.readsClean (reqSpn p)) :
    ∃ b, (d.fillWindow p src).2 = .done b ∧ d.filled (d.fillWindow p src).1 p src := by
  obtain ⟨m, b, hm, hlive, hres⟩ := Dev.fillWindow_clean (src := src) hc
  have hprog : m.progHank src = d.progHank src := by
    rw [Dev.progHank, hm.hank, Dev.fld_congr (show m.reg _ = d.reg _ by rw [Dev.reg, hm.regs]; rfl)]
    rfl
  have hwords : m.progWords src = d.progWords src := by
    rw [Dev.progWords, hprog, Dev.fld_congr (show m.reg _ = d.reg _ by rw [Dev.reg, hm.regs]; rfl)]
    rfl
  obtain ⟨hbase, hwin⟩ := Dev.spn_copyWindow (d := m) (p := p) (src := src)
  obtain ⟨live, lb, hspn⟩ := hlive.spn
  refine ⟨b, hres, ⟨((hm.keeps []).trans ((Dev.keeps_modSpn _ []).trans (hlive.keeps []))).mono (by simp), ?_, ?_, fun i hi => ?_⟩⟩
  · exact hlive.takeovers.trans hm.takeovers
  · rw [hspn, ← hprog]
    exact hbase
  · rw [hspn, ← hm.word, ← hprog]
    exact hwin i (hwords ▸ hi)

/-- What waits for the end of a fill: the enabled loops' time and the hot spares' readiness. -/
def Dev.fillEnded (d : Dev) (e : Dev) (p : Nat) : Dev :=
  [16, 17].foldl
    (fun e q =>
      if e.rbit (Reg.SPN_HOT q) 0 && decide (e.fld (Reg.SPN_HOT q) 5 1 = p) then e.setRbit (Reg.SPN_STAT q) 16 false else e)
    ((List.range 4).foldl (fun e l => if e.loopEn p l then e.modLp p l fun x => { x with enAt := d.now } else e)
      (e.setRbit (Reg.SPN_STAT p) 8 false))

theorem Dev.windowFilled_done {b : Bool} (h8 : d.rbit (Reg.SPN_STAT p) 8 = true) (hh : d.onHold p = false)
    (hf : d.fillWindow p p = (e, .done b)) : d.windowFilled p = d.fillEnded e p := by
  rw [Dev.windowFilled, if_pos (by simp [h8, hh])]
  simp only [hf]
  rfl

/-- A step over a list that each time changes no Spindle and of the registers some status words only, never their bit 8. -/
structure Dev.fillCalm (d e : Dev) (p : Nat) : Prop where
  keeps : d.keeps e [Reg.SPN_STAT p, Reg.SPN_STAT 16, Reg.SPN_STAT 17]
  spn : ∀ q, e.spn q = d.spn q
  bit : e.rbit (Reg.SPN_STAT p) 8 = d.rbit (Reg.SPN_STAT p) 8

theorem Dev.fillCalm.rfl : d.fillCalm d p := ⟨.rfl, fun _ => by rfl, by rfl⟩

theorem Dev.fillCalm.trans (h : d.fillCalm e p) (k : e.fillCalm f p) : d.fillCalm f p where
  keeps := (h.keeps.trans k.keeps).mono (by simp)
  spn q := (k.spn q).trans (h.spn q)
  bit := k.bit.trans h.bit

theorem Dev.fillCalm.foldl {α : Type} {g : Dev → α → Dev} (xs : List α) (hg : ∀ x ∈ xs, ∀ e : Dev, e.fillCalm (g e x) p) :
    d.fillCalm (xs.foldl g d) p := by
  induction xs generalizing d with
  | nil => exact .rfl
  | cons x xs ih =>
    exact (hg x List.mem_cons_self d).trans (ih fun y hy => hg y (List.mem_cons_of_mem _ hy))

theorem Dev.fillCalm_enAt (l now : Nat) : d.fillCalm (if d.loopEn p l then d.modLp p l fun x => { x with enAt := now } else d) p := by
  split
  · exact ⟨(Dev.keeps_modLp _ _).same (by rfl) (by rfl), fun _ => Dev.spn_modLp _, by rfl⟩
  · exact .rfl

theorem Dev.fillCalm_hot (q : Nat) (hq : q = 16 ∨ q = 17) :
    d.fillCalm (if d.rbit (Reg.SPN_HOT q) 0 && decide (d.fld (Reg.SPN_HOT q) 5 1 = p) then d.setRbit (Reg.SPN_STAT q) 16 false else d) p := by
  split
  · refine ⟨Dev.keeps.rfl.bit _ _ _ (by rcases hq with rfl | rfl <;> simp), fun _ => Dev.spn_setReg .., ?_⟩
    by_cases hp : Reg.SPN_STAT p = Reg.SPN_STAT q
    · rw [hp, Dev.rbit_setRbit _ _ _ _ _ (by decide), if_neg (by decide)]
    · exact Dev.rbit_congr (Dev.reg_setRbit_other _ _ _ hp) 8
  · exact .rfl

theorem Dev.fillCalm_fillEnded : (e.setRbit (Reg.SPN_STAT p) 8 false).fillCalm (d.fillEnded e p) p := by
  unfold Dev.fillEnded
  refine Dev.fillCalm.trans (.foldl _ fun l _ e => Dev.fillCalm_enAt l d.now) (.foldl _ fun q hq e => Dev.fillCalm_hot q ?_)
  simpa using hq

/-- The fills of a Spindle end (R242). -/
theorem Dev.windowFilled_clean (h8 : d.rbit (Reg.SPN_STAT p) 8 = true) (hh : d.onHold p = false) (hc : d.readsClean (reqSpn p)) :
    (d.windowFilled p).rbit (Reg.SPN_STAT p) 8 = false ∧ ((d.windowFilled p).spn p).pbase = (d.progHank p).start ∧
      (∀ i < d.progWords p, smGet (fun _ => 0) ((d.windowFilled p).spn p).pwin i = d.word ((d.progHank p).start + 4 * i)) ∧
      d.keeps (d.windowFilled p) [Reg.SPN_STAT p, Reg.SPN_STAT 16, Reg.SPN_STAT 17] := by
  obtain ⟨b, hres, hfilled⟩ := Dev.fillWindow_filled (src := p) hc
  generalize hf : d.fillWindow p p = r at hres hfilled
  obtain ⟨e, res⟩ := r
  obtain rfl : res = .done b := hres
  rw [Dev.windowFilled_done h8 hh hf]
  obtain ⟨hk, hspn, hbit⟩ := Dev.fillCalm_fillEnded (d := d) (e := e) (p := p)
  have hsame : (d.fillEnded e p).spn p = e.spn p := hspn p
  have hset : d.keeps (e.setRbit (Reg.SPN_STAT p) 8 false) [Reg.SPN_STAT p] :=
    (hfilled.keeps.mono (List.nil_subset _)).bit _ _ _ (List.mem_singleton_self _)
  rw [hsame, hbit, Dev.rbit_setRbit _ _ _ _ _ (by decide)]
  exact ⟨if_pos rfl, hfilled.pbase, hfilled.pwin, (hset.trans hk).mono (by simp)⟩

/-! ### Hot spares (R238) -/

theorem Dev.hotFilled_clean (h : d.rbit (Reg.SPN_HOT p) 0 = true) (hp : 16 ≤ p) (hc : d.readsClean (reqSpn p)) :
    (d.hotFilled p).rbit (Reg.SPN_STAT p) 16 = true ∧ d.keeps (d.hotFilled p) [Reg.SPN_STAT p] := by
  obtain ⟨b, hres, hkeeps, -⟩ := Dev.fillWindow_filled (src := d.fld (Reg.SPN_HOT p) 5 1) hc
  have heq : d.hotFilled p = (d.fillWindow p (d.fld (Reg.SPN_HOT p) 5 1)).1.setRbit (Reg.SPN_STAT p) 16 true := by
    rw [Dev.hotFilled, if_pos (by simp [h, hp])]
    simp only [hres]
  rw [heq]
  exact ⟨(Dev.rbit_setRbit _ _ _ _ _ (by decide)).trans (if_pos (Eq.refl _)),
    (hkeeps.mono (List.nil_subset _)).bit _ _ _ (List.mem_singleton_self _)⟩

/-! ### A lockstep mismatch (R233 to R236) -/

/-- A mismatch raised, and counted unless a commit was dropped. -/
def Dev.mismatched (d : Dev) (p : Nat) (drop : Bool) : Dev := (d.raise Src.SPN_LSM p).when (!drop) fun d => d.incFld (Reg.SPN_LSMCNT p) 15 0

theorem Dev.keeps_mismatched (drop : Bool) : d.keeps (d.mismatched p drop) [Reg.SPN_LSMCNT p] := by
  have hr := Dev.keeps_raise (d := d) Src.SPN_LSM p [Reg.SPN_LSMCNT p]
  cases drop
  · exact hr.field _ _ _ _ (List.mem_singleton_self _)
  · exact hr

theorem Dev.raised_mismatched (drop : Bool) : (d.mismatched p drop).raised Src.SPN_LSM p := by
  cases drop <;> exact Dev.mem_raise _ _ _

theorem Dev.count_mismatched : (d.mismatched p false).fld (Reg.SPN_LSMCNT p) 15 0 = min 65535 (d.fld (Reg.SPN_LSMCNT p) 15 0 + 1) := by
  refine (Dev.fld_incFld (d := d.raise Src.SPN_LSM p) (Reg.SPN_LSMCNT p) 15 0 (by decide) (by decide)).trans ?_
  exact congrArg (fun x => min 65535 (x + 1)) (Dev.fld_congr (Dev.reg_raise ..) 15 0)

theorem Dev.spn_mismatched (drop : Bool) (q : Nat) : (d.mismatched p drop).spn q = d.spn q := by
  cases drop
  · exact (Dev.spn_setReg ..).trans (Dev.spn_raise ..)
  · exact Dev.spn_raise ..

theorem Dev.lp_mismatched (drop : Bool) (q l : Nat) : (d.mismatched p drop).lp q l = d.lp q l := by
  cases drop <;> exact Dev.lp_raise ..

theorem Dev.sk_mismatched (drop : Bool) : (d.mismatched p drop).sk = d.sk := by
  cases drop <;> exact Dev.raise_sk ..

theorem Dev.lockstep_closed (drop : Bool) (hs : (d.spn p).slot = none) :
    d.lockstep p drop = if drop then d else d.mismatched p drop := by
  simp only [Dev.lockstep, hs]
  rfl

theorem Dev.lockstep_late (drop : Bool) (hs : (d.spn p).slot = some l)
    (he : (d.spn p).entry = some .post ∨ ((d.spn p).entry = some .body ∧ (d.lp p l).committed = true)) :
    d.lockstep p drop = if drop then d else (d.mismatched p drop).stopEntry p := by
  simp only [Dev.lockstep, hs]
  rcases he with he | ⟨he, hc⟩
  · rw [he]
    rfl
  · rw [he]
    exact if_pos hc

theorem Dev.lockstep_recovers (drop : Bool) (hs : (d.spn p).slot = some l) (he : (d.spn p).entry = some .pred ∨ (d.spn p).entry = some .body)
    (hc : (d.lp p l).committed = false) : d.lockstep p drop = ((d.mismatched p drop).stopEntry p).recoverRead p l := by
  simp only [Dev.lockstep, hs]
  have hn : ¬ (d.lp p l).committed = true := by simp [hc]
  rcases he with he | he
  · rw [he]
    exact if_neg hn
  · rw [he]
    exact if_neg hn

theorem smGet_upperRegs_high {i : Nat} (hi : 16 ≤ i) (v : SMap Word) : smGet (fun _ => 0) (upperRegs v) i = smGet (fun _ => 0) v i := by
  induction v with
  | nil => rfl
  | cons x v ih =>
    have htail : smGet (fun _ => 0) (v.filter fun e => decide (16 ≤ e.1)) i = smGet (fun _ => 0) v i := ih
    unfold upperRegs
    rw [List.filter_cons]
    split
    · simp only [smGet, htail]
    · next hx =>
      have hlow : x.1 ≠ i := fun h => hx (decide_eq_true (h ▸ hi))
      rw [htail, smGet, if_neg hlow]

/-- What a recovery leaves of its Spindle and its loop (R235). -/
structure Dev.recovered (d e : Dev) (p l : Nat) : Prop where
  entry : (e.spn p).entry = some .pred
  flag : (e.spn p).recovered = true
  ra : (e.spn p).ra = (d.spn p).ra
  queue : (e.spn p).queue = (d.spn p).queue
  pc : (e.spn p).pc = d.entryPc p l .pred
  images : (e.lp p l).images = (d.lp p l).imagesC
  regs : ∀ i < 16, smGet (fun _ => 0) (e.spn p).v (16 + i) = d.word (d.ctxAt p l + 4 * i)
  keeps : d.keeps e [Reg.SPN_FLAGS p]
  reports : e.reports = d.reports

theorem Dev.recovered.lbNoted (h : d.recovered e p l) (b : Bool) : d.recovered (e.noteSpnLb p b) p l := by
  cases b
  · exact h
  · have hspn : (e.noteSpnLb p true).spn p = { e.spn p with lb := true } := by
      unfold Dev.noteSpnLb
      rw [if_pos rfl, Dev.spn_modSpn_same]
    have hlp : (e.noteSpnLb p true).lp p l = e.lp p l := by rfl
    obtain ⟨h1, h2, h3, h4, h5, h6, h7, h8, h9⟩ := h
    refine ⟨?_, ?_, ?_, ?_, ?_, ?_, ?_, h8.same (f := e.noteSpnLb p true) (by rfl) (by rfl), h9⟩
    · rw [hspn]; exact h1
    · rw [hspn]; exact h2
    · rw [hspn]; exact h3
    · rw [hspn]; exact h4
    · rw [hspn]; exact h5
    · rw [hlp]; exact h6
    · rw [hspn]; exact h7

/-- A Spindle that restarts from PRED with the context of loop `x`. -/
def Spindle.restarted (s : Spindle) (x : Loop) (pc : Word) : Spindle :=
  { s with entry := some .pred, recovered := true, restoring := false, v := upperRegs x.v, a := x.a, lb := false, subst := [],
           again := s.again || s.released, released := false, pc := pc }

/-- A loop whose images are the committed ones. -/
def Loop.imagesBack (x : Loop) : Loop := { x with images := x.imagesC }

theorem Dev.recoverRead_done {b : Bool} (h : d.restoreCtx p l = (e, .done b)) : d.recoverRead p l =
    ((e.modLp p l Loop.imagesBack).modSpn p fun s => s.restarted (e.lp p l) (d.entryPc p l .pred)).noteSpnLb p b := by
  simp only [Dev.recoverRead, h]
  rfl

theorem Dev.recoverRead_clean (hc : d.readsClean (reqSpn p)) : d.recovered (d.recoverRead p l) p l := by
  obtain ⟨e, b, hread, hctx⟩ := Dev.restoreCtx_clean (l := l) hc
  rw [Dev.recoverRead_done hctx]
  refine Dev.recovered.lbNoted ?_ b
  generalize hbs : d.bytes (d.ctxAt p l) 128 = bs
  have hspn : (((e.withCtx p l bs).modLp p l Loop.imagesBack).modSpn p fun s =>
      s.restarted ((e.withCtx p l bs).lp p l) (d.entryPc p l .pred)).spn p =
      (e.spn p).restarted ((e.withCtx p l bs).lp p l) (d.entryPc p l .pred) := by
    rw [Dev.spn_modSpn_same, Dev.spn_modLp]
    rfl
  have hlp : (((e.withCtx p l bs).modLp p l Loop.imagesBack).modSpn p fun s =>
      s.restarted ((e.withCtx p l bs).lp p l) (d.entryPc p l .pred)).lp p l = ((e.lp p l).ofCkpt bs).imagesBack := by
    rw [Dev.lp_modSpn, Dev.lp_modLp_same, Dev.lp_withCtx]
  obtain ⟨live, lb, hold⟩ := hread.spn
  refine ⟨?_, ?_, ?_, ?_, ?_, ?_, fun i hi => ?_, ?_, ?_⟩
  · rw [hspn]; rfl
  · rw [hspn]; rfl
  · rw [hspn, hold]; rfl
  · rw [hspn, hold]; rfl
  · rw [hspn]; rfl
  · rw [hlp, hread.near.lp]; rfl
  · rw [hspn, Spindle.restarted, smGet_upperRegs_high (Nat.le_add_right 16 i), Dev.lp_withCtx, Loop.v_ofCkpt _ _ hi, ← hbs,
      ckptWord_bytes (by omega)]
  · refine Dev.keeps.same (e := e.withCtx p l bs) ?_ (by rfl) (by rfl)
    exact ((hread.keeps []).trans (Dev.keeps_withCtx bs)).mono (by simp)
  · exact hread.reports

theorem Dev.readsClean_of {req : Nat} (h : d.readsClean req) (hdraws : e.sk.draws = d.sk.draws) (hecc : e.sk.ecc = d.sk.ecc)
    (hhanks : e.sk.hanks = d.sk.hanks) (hcut : e.reg (Reg.SKN_CUT (req / 32)) = d.reg (Reg.SKN_CUT (req / 32))) : e.readsClean req := by
  obtain ⟨hq, hc, he, hend⟩ := h
  refine ⟨fun b => ?_, (Dev.rbit_congr hcut _).trans hc, fun a => ?_, fun k => ?_⟩
  · rw [Dev.drawsOf, hdraws]; exact hq b
  · rw [Dev.ecc, hecc]; exact he a
  · rw [Dev.hank, hhanks]; exact hend k

theorem Dev.sk_stopEntry : (d.stopEntry p).sk.draws = d.sk.draws ∧ (d.stopEntry p).sk.ecc = d.sk.ecc ∧
    (d.stopEntry p).sk.hanks = d.sk.hanks := ⟨rfl, rfl, rfl⟩

theorem SKN_CUT_ne_SPN_LSMCNT (hp : p < 18) (k : Nat) : Reg.SKN_CUT k ≠ Reg.SPN_LSMCNT p := by
  unfold Reg.SKN_CUT Reg.SPN_LSMCNT
  omega

theorem Dev.entryPc_congr (hb : (e.spn p).pbase = (d.spn p).pbase) (hr : e.reg (Reg.SPN_LENT0 p l) = d.reg (Reg.SPN_LENT0 p l)) :
    e.entryPc p l .pred = d.entryPc p l .pred := by
  unfold Dev.entryPc
  rw [hb, Dev.fld_congr hr]

theorem Dev.ctxAt_congr (hh : e.sk.hanks = d.sk.hanks) (hr : e.reg (Reg.SPN_LHANK p l) = d.reg (Reg.SPN_LHANK p l)) :
    e.ctxAt p l = d.ctxAt p l := by
  unfold Dev.ctxAt Dev.hank
  rw [hh, Dev.fld_congr hr]

theorem SPN_LSMCNT_ne (p l : Nat) : Reg.SPN_LENT0 p l ≠ Reg.SPN_LSMCNT p ∧ Reg.SPN_LHANK p l ≠ Reg.SPN_LSMCNT p := by
  unfold Reg.SPN_LENT0 Reg.SPN_LHANK Reg.SPN_LSMCNT
  omega

/-- A mismatch before the commit, its entry point stopped (R235). -/
def Dev.rolledBack (d : Dev) (p : Nat) (drop : Bool) : Dev := (d.mismatched p drop).stopEntry p

theorem Dev.keeps_rolledBack (drop : Bool) : d.keeps (d.rolledBack p drop) [Reg.SPN_LSMCNT p] :=
  ((Dev.keeps_mismatched drop).trans (Dev.keeps_stopEntry [])).mono (by simp)

theorem Dev.sk_rolledBack (drop : Bool) : (d.rolledBack p drop).sk.draws = d.sk.draws ∧ (d.rolledBack p drop).sk.ecc = d.sk.ecc ∧
    (d.rolledBack p drop).sk.hanks = d.sk.hanks := by
  obtain ⟨hdraws, hecc, hhanks⟩ := Dev.sk_stopEntry (d := d.mismatched p drop) (p := p)
  have hsk := Dev.sk_mismatched (d := d) (p := p) drop
  exact ⟨hdraws.trans (by rw [hsk]), hecc.trans (by rw [hsk]), hhanks.trans (by rw [hsk])⟩

theorem Dev.recovered_rolledBack (drop : Bool) (hp : p < 18) (hr : d.readsClean (reqSpn p)) :
    (d.rolledBack p drop).recovered ((d.rolledBack p drop).recoverRead p l) p l := by
  obtain ⟨hdraws, hecc, hhanks⟩ := Dev.sk_rolledBack (d := d) (p := p) drop
  refine Dev.recoverRead_clean (Dev.readsClean_of hr hdraws hecc hhanks ((Dev.keeps_rolledBack drop).2 _ ?_))
  simpa using SKN_CUT_ne_SPN_LSMCNT hp _

/-- What a recovery shows, told of the device before the mismatch (R235). -/
theorem Dev.recovered.ofRolledBack {drop : Bool} (h : (d.rolledBack p drop).recovered e p l) :
    e.raised Src.SPN_LSM p ∧
      (drop = false → e.raised Src.SPN_LSM p ∧ e.fld (Reg.SPN_LSMCNT p) 15 0 = min 65535 (d.fld (Reg.SPN_LSMCNT p) 15 0 + 1)) ∧
      (e.spn p).entry = some .pred ∧ (e.spn p).recovered = true ∧ (e.spn p).ra = false ∧ (e.spn p).queue = [] ∧
      (e.spn p).pc = d.entryPc p l .pred ∧ (e.lp p l).images = (d.lp p l).imagesC ∧
      (∀ i < 16, smGet (fun _ => 0) (e.spn p).v (16 + i) = d.word (d.ctxAt p l + 4 * i)) ∧
      d.keeps e [Reg.SPN_LSMCNT p, Reg.SPN_FLAGS p] := by
  obtain ⟨h1, h2, h3, h4, h5, h6, h7, h8, h9⟩ := h
  have hkeeps := Dev.keeps_rolledBack (d := d) (p := p) drop
  have hspn : (d.rolledBack p drop).spn p = { (d.mismatched p drop).spn p with
      entry := none, ra := false, spec := false, wait := none, queue := [], maskS := 0, maskC := 0 } := Dev.spn_stopEntry
  have hlsm : e.raised Src.SPN_LSM p := by
    unfold Dev.raised
    rw [h9]
    exact Dev.raised_mismatched drop
  obtain ⟨hent, hhank⟩ := SPN_LSMCNT_ne p l
  refine ⟨hlsm, ?_, h1, h2, ?_, ?_, ?_, ?_, fun i hi => ?_, (hkeeps.trans h8).mono (by simp)⟩
  · rintro rfl
    have hne : Reg.SPN_LSMCNT p ≠ Reg.SPN_FLAGS p := by
      unfold Reg.SPN_LSMCNT Reg.SPN_FLAGS
      omega
    refine ⟨hlsm, (Dev.fld_congr (h8.2 _ (by simpa using hne)) 15 0).trans ?_⟩
    exact (show (d.rolledBack p false).fld (Reg.SPN_LSMCNT p) 15 0 = (d.mismatched p false).fld (Reg.SPN_LSMCNT p) 15 0 from rfl).trans
      Dev.count_mismatched
  · rw [h3, hspn]
  · rw [h4, hspn]
  · rw [h5]
    refine Dev.entryPc_congr ?_ (hkeeps.2 _ (by simpa using hent))
    rw [hspn, Dev.spn_mismatched]
  · rw [h6, Dev.rolledBack, Dev.lp_stopEntry, Dev.lp_mismatched]
  · rw [h7 i hi, Dev.ctxAt_congr (Dev.sk_rolledBack drop).2.2 (hkeeps.2 _ (by simpa using hhank))]
    have hbyte : ∀ x, (d.rolledBack p drop).byte x = d.byte x := hkeeps.1
    unfold Dev.word Dev.bytes
    simp only [hbyte]

/-! ### A takeover (R237) -/

/-- The spare serves. -/
def Dev.served (e : Dev) (q : Nat) : Dev :=
  ({ e with cr := { e.cr with takeovers := [] } }.setRbit (Reg.SPN_STAT q) 8 false).setRbit (Reg.SPN_STAT q) 11 true

theorem Dev.any_loopEn (h : d.fld (Reg.SPN_CTL q) 3 0 = 0) : ∀ l < 4, d.loopEn q l = false := by
  intro l hl
  have htest := testBit_bitsOf (d.reg (Reg.SPN_CTL q)) 3 0 l
  rw [show bitsOf (d.reg (Reg.SPN_CTL q)) 3 0 = 0 from h] at htest
  have hlt : l ≤ 3 := by omega
  simpa [hlt, hl, Dev.loopEn, Dev.rbit] using htest.symm

theorem Dev.foldl_disabled {g : Dev → Nat → Dev} (h : d.fld (Reg.SPN_CTL q) 3 0 = 0) :
    (List.range 4).foldl (fun e l => if e.loopEn q l then g e l else e) d = d := by
  have hoff := Dev.any_loopEn h
  simp [List.range_succ, hoff]

/-- The fill that a takeover's end makes, none of a hot spare. -/
def Dev.spareFill (d : Dev) (p q : Nat) : Dev × SkRes :=
  if d.rbit (Reg.SPN_HOT q) 0 && decide (d.fld (Reg.SPN_HOT q) 5 1 = p) && d.rbit (Reg.SPN_STAT q) 16 then (d, .done false)
  else d.fillWindow q q

theorem Dev.takeoverDone_serves {b : Bool} (ht : d.cr.takeovers = [(p, q)]) (hf : d.spareFill p q = (e, .done b))
    (hen : e.fld (Reg.SPN_CTL q) 3 0 = 0) : d.takeoverDone q = e.served q := by
  have hnone : ((List.range 4).any fun l => e.loopEn q l && decide ((e.restoreCtx q l).2 = .wait)) = false := by
    rw [List.any_eq_false]
    intro l hl
    simp [Dev.any_loopEn hen l (List.mem_range.mp hl)]
  have hserved : (e.served q).fld (Reg.SPN_CTL q) 3 0 = 0 := by
    refine (Dev.fld_congr ?_ 3 0).trans hen
    have hne : Reg.SPN_CTL q ≠ Reg.SPN_STAT q := by
      unfold Reg.SPN_CTL Reg.SPN_STAT
      omega
    exact (Dev.reg_setRbit_other _ _ _ hne).trans (Dev.reg_setRbit_other _ _ _ hne)
  unfold Dev.spareFill at hf
  unfold Dev.takeoverDone
  simp only [ht, hf, hnone, if_true, Bool.false_eq_true, if_false]
  rw [Dev.served] at hserved ⊢
  rw [Dev.foldl_disabled hserved]

theorem Dev.spareFill_clean (hc : d.readsClean (reqSpn q)) :
    ∃ b, (d.spareFill p q).2 = .done b ∧ d.keeps (d.spareFill p q).1 [] := by
  unfold Dev.spareFill
  split
  · exact ⟨false, rfl, .rfl⟩
  · obtain ⟨b, hres, hkeeps, -⟩ := Dev.fillWindow_filled (src := q) hc
    exact ⟨b, hres, hkeeps⟩

theorem Dev.takeoverDone_clean (ht : d.cr.takeovers = [(p, q)]) (hen : d.fld (Reg.SPN_CTL q) 3 0 = 0) (hc : d.readsClean (reqSpn q)) :
    (d.takeoverDone q).cr.takeovers = [] ∧ (d.takeoverDone q).rbit (Reg.SPN_STAT q) 11 = true ∧
      (d.takeoverDone q).rbit (Reg.SPN_STAT q) 8 = false ∧ d.keeps (d.takeoverDone q) [Reg.SPN_STAT q] := by
  obtain ⟨b, hres, hkeeps⟩ := Dev.spareFill_clean (p := p) hc
  generalize hf : d.spareFill p q = r at hres hkeeps
  obtain ⟨e, res⟩ := r
  obtain rfl : res = .done b := hres
  have hctl : e.fld (Reg.SPN_CTL q) 3 0 = 0 := (Dev.fld_congr (hkeeps.2 _ List.not_mem_nil) 3 0).trans hen
  rw [Dev.takeoverDone_serves ht hf hctl]
  have hfree : d.keeps { e with cr := { e.cr with takeovers := [] } } [Reg.SPN_STAT q] :=
    (hkeeps.mono (List.nil_subset _)).same (by rfl) (by rfl)
  refine ⟨rfl, (Dev.rbit_setRbit _ _ _ _ _ (by decide)).trans (if_pos rfl), ?_,
    (hfree.bit _ 8 false (List.mem_singleton_self _)).bit _ 11 true (List.mem_singleton_self _)⟩
  rw [Dev.served, Dev.rbit_setRbit _ _ _ _ _ (by decide), if_neg (by decide), Dev.rbit_setRbit _ _ _ _ _ (by decide), if_pos rfl]

theorem Dev.windowFilled_idle (h : d.rbit (Reg.SPN_STAT p) 8 = false) : d.windowFilled p = d := if_neg (by simp [h])

theorem Dev.hotFilled_idle (h : d.rbit (Reg.SPN_HOT p) 0 = false) : d.hotFilled p = d := if_neg (by simp [h])

/-! ### The commands -/

theorem exec_programWindowFillComplete (p : Fin 18) : exec (.programWindowFillComplete p) s = s.run fun d => d.windowFilled p := rfl

theorem exec_hotSpareEnable (p : Fin 18) : exec (.hotSpareEnable p) s = s.run fun d =>
    if 16 ≤ p.val ∧ (d.mode = 4 ∨ d.mode = 10) ∧ !d.rbit (Reg.SPN_STAT p) 9 then d.hotEnable p else d := rfl

theorem exec_hotSpareFillComplete (p : Fin 18) : exec (.hotSpareFillComplete p) s = s.run fun d => d.hotFilled p := rfl

theorem exec_lockstepMismatch (m : Mismatch) : exec (.lockstepMismatch m) s = s.run fun d => d.lockstep m.p m.dropped := rfl

theorem exec_spindleTakeoverComplete (p : Fin 18) : exec (.spindleTakeoverComplete p) s = s.run fun d => d.takeoverDone p := rfl

/-- Settles O37: the fills by the reads that meet nothing wrong, the recovery by the checkpoint's read. -/
theorem spindleSpares : Obligations.SpindleSpares := by
  intro p s d st h n counted hc
  refine ⟨fun h8 => exec_idle_of_run (exec_programWindowFillComplete p) (Dev.windowFilled_idle h8),
    fun h8 hh hr => .of_run (exec_programWindowFillComplete p) hc (Dev.windowFilled_clean h8 hh hr), fun hp hm h9 => ?_, fun h => ?_,
    fun he hp hr => .of_run (exec_hotSpareFillComplete p) hc (Dev.hotFilled_clean he hp hr),
    fun he => exec_idle_of_run (exec_hotSpareFillComplete p) (Dev.hotFilled_idle he), fun hs => ⟨?_, ?_⟩, fun l hs he => ⟨?_, ?_⟩,
    fun l drop hs he hcm hr => ?_, fun ht => exec_idle_of_run (exec_spindleTakeoverComplete p) ?_,
    fun q ht hen hr => .of_run (exec_spindleTakeoverComplete p) hc (Dev.takeoverDone_clean ht hen hr)⟩
  · rw [exec_eq_of_run (exec_hotSpareEnable p) hc, if_pos ⟨hp, hm, by simpa using h9⟩]
    rfl
  · refine exec_idle_of_run (exec_hotSpareEnable p) (if_neg fun ⟨hp, hm, _⟩ => ?_)
    rcases h with h | ⟨h4, h10⟩
    · omega
    · exact hm.elim h4 h10
  · refine .of_run (exec_lockstepMismatch _) hc ?_
    rw [Dev.lockstep_closed false hs]
    exact ⟨⟨Dev.raised_mismatched false, Dev.count_mismatched⟩, Dev.spn_mismatched false p, Dev.keeps_mismatched false⟩
  · exact exec_idle_of_run (exec_lockstepMismatch _) (Dev.lockstep_closed true hs)
  · refine .of_run (exec_lockstepMismatch _) hc ?_
    rw [Dev.lockstep_late false hs he, if_neg (by decide), Dev.spn_stopEntry, Dev.lp_stopEntry, Dev.lp_mismatched]
    exact ⟨⟨Dev.raised_mismatched false, Dev.count_mismatched⟩, rfl, rfl, rfl,
      ((Dev.keeps_mismatched false).trans (Dev.keeps_stopEntry [])).mono (by simp)⟩
  · exact exec_idle_of_run (exec_lockstepMismatch _) (Dev.lockstep_late true hs he)
  · refine .of_run (exec_lockstepMismatch _) hc ?_
    have hrec := Dev.recovered_rolledBack (d := s.dev) (l := l) drop p.isLt hr
    rw [Dev.rolledBack] at hrec
    rw [Dev.lockstep_recovers drop hs he hcm]
    obtain ⟨h1, h2, h3, h4, h5, h6, h7, h8, h9, h10⟩ := Dev.recovered.ofRolledBack hrec
    refine ⟨h1, h2, h3, h4, h5, h6, h7, h8, fun i => ?_, h10⟩
    have hi : (BitVec.ofNat 5 (16 + i)).toNat = 16 + i := by
      rw [BitVec.toNat_ofNat]
      omega
    have hne : BitVec.ofNat 5 (16 + i) ≠ 0 := fun h => by
      have hz := congrArg BitVec.toNat h
      rw [hi] at hz
      simp at hz
    rw [Dev.gv, if_neg hne, hi]
    exact h9 i i.isLt
  · change s.dev.takeoverDone p = s.dev
    unfold Dev.takeoverDone
    rw [ht]

end Sys2Proof.Machine
end

section
/-! SUPPORT. The settlement of the register bus (R6, R8 to R10, R27 to R29, R37). -/

namespace Sys2Proof.Machine

variable {d e : Dev} {s : State} {m : Master} {a n : Nat} {v hw : Word} {size : AccessSize}

/-! ### Writes of the map that end in an access error -/

theorem exec_registerWrite (a : Word) : exec (.registerWrite m a size v) s = s.act fun d => d.busWrite m a.toNat size v 0 := rfl

theorem exec_w1cWrite (a : Word) : exec (.w1cWrite m a v hw) s = s.act fun d => d.busWrite m a.toNat .word v hw := rfl

theorem Dev.busWrite_stopped (h : d.clocked = false) : d.busWrite m a size v hw = d := if_pos (by simp [h])

theorem Dev.busWrite_refused (hc : d.clocked = true) (hm : d.mayWrite m a = true) (hw' : d.mapWrite m a size v hw = (d, false)) :
    d.busWrite m a size v hw = d.answer .accessError := by
  unfold Dev.busWrite
  simp [hc, hm, hw']

theorem Dev.busWrite_noRight (hc : d.clocked = true) (hm : d.mayWrite m a = false) : d.busWrite m a size v hw = d.noRight m := by
  unfold Dev.busWrite
  simp [hc, hm]

theorem Dev.mapWrite_regMisfit (hlo : 0x20000000 ≤ a) (hhi : a < 0x40000000) (h : size ≠ .word ∨ a % 4 ≠ 0) :
    d.mapWrite m a size v hw = (d, false) := by
  unfold Dev.mapWrite
  rw [if_neg (by omega), if_pos ⟨hlo, hhi⟩, if_pos h]

theorem Dev.mapWrite_outside (h : (0x1000000 ≤ a ∧ a < 0x20000000) ∨ 0x40000000 ≤ a) : d.mapWrite m a size v hw = (d, false) := by
  unfold Dev.mapWrite
  rw [if_neg (by omega), if_neg (by omega)]

theorem widthOk_part (hm : ∀ b, m ≠ .bobbin b) (h : size = .byte ∨ size = .half) : widthOk m size = false := by
  rcases h with rfl | rfl <;> cases m with
  | bobbin b => exact absurd rfl (hm b)
  | distaff => rfl
  | session => rfl
  | hspi => rfl

theorem Dev.mapWrite_narrow (hlt : a < 0x1000000) (h : widthOk m size = false) : d.mapWrite m a size v hw = (d, false) := by
  unfold Dev.mapWrite
  rw [if_pos hlt]
  exact if_pos (by simp [h])

/-! ### A write of the Skein -/

theorem Dev.mapWrite_stored {brk : Bool} (hlt : a < 0x1000000) (ha : a % (sizeBytes v size).length = 0) (hwd : widthOk m size = true)
    (h : d.postStore (d.masterReq m) (classOf (d.masterReq m) false) none a (sizeBytes v size) []
      (decide ((sizeBytes v size).length = 8)) .plain = (e, .done brk)) : d.mapWrite m a size v hw = (e, true) := by
  have hfit : ¬ (decide (a % (sizeBytes v size).length ≠ 0) || !widthOk m size) = true := by simp [ha, hwd]
  unfold Dev.mapWrite
  rw [if_pos hlt]
  refine (if_neg hfit).trans ?_
  simp only [h]

theorem Dev.busWrite_skein (hc : d.clocked = true) (hm : d.mayWrite m a = true) (hlt : a < 0x1000000) (hw' : d.mapWrite m a size v hw = (e, true)) :
    d.busWrite m a size v hw = e.answer .ok := by
  have hne : a ≠ Reg.SNL_MREQ := fun h => by
    rw [h] at hlt
    exact absurd hlt (by decide)
  unfold Dev.busWrite
  simp [hc, hm, hw', hne]

/-- A write that the Skein takes is stored. -/
theorem Dev.busWrite_stores (hc : d.clocked = true) (hm : d.mayWrite m a = true) (hlt : a < 0x1000000)
    (ha : a % (sizeBytes v size).length = 0) (hwd : widthOk m size = true) (hq : d.quiet) (hecc : ∀ x, d.ecc x = .good)
    (hr : d.storeRefusal (d.masterReq m) a (sizeBytes v size).length (decide ((sizeBytes v size).length = 8)) = none)
    (hb : d.blockedLine (d.masterReq m) a (sizeBytes v size).length = none) :
    (d.busWrite m a size v hw).lastAccess = .ok ∧ ∀ x, (d.busWrite m a size v hw).byte x =
      if a ≤ x ∧ x < a + (sizeBytes v size).length then (sizeBytes v size).getD (x - a) 0 else d.byte x := by
  obtain ⟨e, brk, hpost, hcalm⟩ := Dev.postStore_plain (cls := classOf (d.masterReq m) false) (loop := none) (tag := .plain) hq hr hb
    (.inr (hecc _))
  rw [Dev.busWrite_skein hc hm hlt (Dev.mapWrite_stored hlt ha hwd hpost)]
  refine ⟨rfl, fun x => ?_⟩
  have hbyte : (e.answer .ok).byte x = e.byte x := by rfl
  rw [hbyte, hcalm.1.byte, Dev.byte_setBytes]

/-! ### Registers whose write does no more than take its bits -/

/-- Whether an address is a register of a block with these RW, live and W1C bits. -/
def rowBits (a : Nat) (id : BlockId) (inst off : Nat) (rw live w1c : Word) : Bool :=
  match findReg a with
  | some h => decide (h.id = id) && decide (h.inst = inst) && decide (h.off = off) &&
      (h.row.any fun r => decide (r.rw = rw) && decide (r.live = live) && decide (r.w1c = w1c))
  | none => false

theorem rowBits_iff {id : BlockId} {inst off : Nat} {rw live w1c : Word} : rowBits a id inst off rw live w1c = true ↔
    ∃ r, findReg a = some ⟨id, inst, off, some r⟩ ∧ r.rw = rw ∧ r.live = live ∧ r.w1c = w1c := by
  unfold rowBits
  cases h : findReg a with
  | none => simp
  | some x =>
    obtain ⟨id', inst', off', row⟩ := x
    cases row with
    | none => simp
    | some r =>
      simp only [Option.any_some, Bool.and_eq_true, decide_eq_true_eq, Option.some.injEq, RegHit.mk.injEq]
      constructor
      · rintro ⟨⟨⟨rfl, rfl⟩, rfl⟩, ⟨hr, hl⟩, hc⟩
        exact ⟨r, ⟨rfl, rfl, rfl, rfl⟩, hr, hl, hc⟩
      · rintro ⟨r', ⟨rfl, rfl, rfl, rfl⟩, hr, hl, hc⟩
        exact ⟨⟨⟨rfl, rfl⟩, rfl⟩, ⟨hr, hl⟩, hc⟩

theorem cnvScan_row : ∀ k : Fin 18, rowBits (Reg.CNV_SCAN k) .cnv k 4 0xFFF 0 0 = true ∧ regAddr (Reg.CNV_SCAN k) = true := by decide +kernel

theorem sknStat_row : rowBits Reg.SKN_STAT .skn 0 0x28 0 0 0x7F = true ∧ regAddr Reg.SKN_STAT = true := by decide +kernel

/-- A register bus access whose write leaves `e` is answered so. -/
theorem Dev.busWrite_row (h : d.admits m) (ha : regAddr a = true) (hr : d.writeReg m a v hw = (e, true)) :
    (d.busWrite m a .word v hw).lastAccess = .ok ∧ (∀ b, (d.busWrite m a .word v hw).reg b = e.reg b) ∧
      ∀ b, (d.busWrite m a .word v hw).byte b = e.byte b := by
  rw [Dev.busWrite_reg h ha hr]
  exact ⟨rfl, fun _ => rfl, fun _ => rfl⟩

theorem Dev.writeReg_scan (k : Fin 18) : ∃ r, r.rw = 0xFFF ∧ r.live = 0 ∧ d.writeReg m (Reg.CNV_SCAN k) v 0 =
    (d.put (Reg.CNV_SCAN k) r (!d.rbit (Reg.CNV_CTL k) 0 && !d.rbit (Reg.CNV_STAT k) 0) 0 v, true) := by
  obtain ⟨r, hfind, hrw, hlive, hw1c⟩ := rowBits_iff.mp (cnvScan_row k).1
  have hclear : d.clearW1c (Reg.CNV_SCAN k) r v 0 = d := if_pos hw1c
  refine ⟨r, hrw, hlive, ?_⟩
  have hbad : writeBad .cnv k 4 v = false := rfl
  unfold Dev.writeReg
  simp only [hfind, hbad, hclear, Bool.false_eq_true, if_false, reduceCtorEq, false_and]
  simp only [Dev.writeFields, k.isLt, dite_true, Dev.writeCnv]
  rfl

theorem and_not_zero (x : Word) : x &&& ~~~(0 : Word) = x := by
  have hall : ~~~(0 : Word) = BitVec.allOnes 32 := by decide
  rw [hall, BitVec.and_allOnes]

theorem or_and_zero (x w : Word) : x ||| w &&& 0 = x := by simp

theorem Dev.put_open {r : RegDef} (hr : r.rw = v) (w : Word) : d.put a r true 0 w = d.setReg a ((d.reg a &&& ~~~v) ||| (w &&& v)) := by
  simp only [Dev.put, if_true, hr, and_not_zero]

theorem Dev.reg_put_shut {r : RegDef} (hr : r.rw &&& r.live = 0) (w : Word) (b : Nat) : (d.put a r false 0 w).reg b = d.reg b := by
  simp only [Dev.put, Bool.false_eq_true, if_false, hr]
  rw [Dev.reg_setReg]
  split
  · next h =>
    rw [h, and_not_zero, and_not_zero, or_and_zero]
  · rfl

theorem Dev.writeReg_stat : ∃ e, d.writeReg m Reg.SKN_STAT v hw = (e, true) ∧
    e.reg Reg.SKN_STAT = (d.reg Reg.SKN_STAT &&& ~~~(v &&& 0x7F)) ||| (hw &&& 0x7F) ∧ d.keeps e [Reg.SKN_STAT] := by
  obtain ⟨r, hfind, hrw, hlive, hw1c⟩ := rowBits_iff.mp sknStat_row.1
  have hclear : d.clearW1c Reg.SKN_STAT r v hw = d.setReg Reg.SKN_STAT ((d.reg Reg.SKN_STAT &&& ~~~(v &&& 0x7F)) ||| (hw &&& 0x7F)) := by
    unfold Dev.clearW1c
    rw [if_neg (by rw [hw1c]; decide), hw1c]
    unfold Dev.afterClear
    rw [if_neg (by decide), if_neg (by decide), if_neg fun h => absurd h.1 (by decide)]
  have hkeep : d.keeps (d.clearW1c Reg.SKN_STAT r v hw) [Reg.SKN_STAT] := by
    rw [hclear]
    exact Dev.keeps.rfl.set _ _ (by simp)
  have hput : ∀ win, ∀ b, ((d.clearW1c Reg.SKN_STAT r v hw).put Reg.SKN_STAT r win 0 v).reg b = (d.clearW1c Reg.SKN_STAT r v hw).reg b := by
    intro win b
    cases win
    · exact Dev.reg_put_shut (by rw [hrw]; simp) v b
    · rw [Dev.put_open hrw, Dev.reg_setReg]
      split
      · next h => rw [h, and_not_zero, or_and_zero]
      · rfl
  refine ⟨(d.clearW1c Reg.SKN_STAT r v hw).put Reg.SKN_STAT r
    ((d.clearW1c Reg.SKN_STAT r v hw).winOpen ⟨.skn, 0, 0x28, some r⟩) 0 v, ?_, (hput _ _).trans ?_, ?_⟩
  · unfold Dev.writeReg
    have hbad : writeBad .skn 0 0x28 v = false := rfl
    simp only [hfind, hbad, Bool.false_eq_true, if_false, reduceCtorEq, false_and]
    simp only [Dev.writeFields, Dev.writeSkn]
    rfl
  · rw [hclear, Dev.reg_setReg_same]
  · exact ⟨fun b => hkeep.1 b, fun b hb => (hput _ b).trans (hkeep.2 b hb)⟩

/-- Settles O32: by where in the map the address lies, and for two registers by their rows. -/
theorem registerBus : Obligations.RegisterBus := by
  intro m k a v hw size s d bs scan at_
  have hat : at_.toNat = scan := by
    have hk := k.isLt
    simp only [at_, scan, Reg.CNV_SCAN, BitVec.toNat_ofNat]
    omega
  refine ⟨fun hc => ⟨exec_idle_of_act (exec_registerWrite a) (Dev.busWrite_stopped hc), exec_idle_of_act (exec_w1cWrite a) (Dev.busWrite_stopped hc)⟩,
    fun hc => ⟨fun hm hlo hhi h => ?_, fun hm hb hlt h => ?_, fun hm hlt ha hwd hs hecc hr hb => ?_, fun hm h => ⟨?_, ?_⟩, fun h => ?_,
      fun hne h => ?_, fun hm => ⟨fun hen hact => ?_, fun hen => ?_⟩, fun hm => ?_⟩⟩
  · rw [exec_registerWrite, State.act_eq, Dev.busWrite_refused hc hm (Dev.mapWrite_regMisfit hlo hhi h)]
  · rw [exec_registerWrite, State.act_eq, Dev.busWrite_refused hc hm (Dev.mapWrite_narrow hlt (widthOk_part hb h))]
  · exact .of_act (exec_registerWrite a) (Dev.busWrite_stores hc hm hlt ha hwd hs.1 hecc hr hb)
  · rw [exec_registerWrite, State.act_eq, Dev.busWrite_refused hc hm (Dev.mapWrite_outside h)]
  · rw [exec_w1cWrite, State.act_eq, Dev.busWrite_refused hc hm (Dev.mapWrite_outside h)]
  · rw [exec_registerWrite, State.act_eq, Dev.busWrite_noRight hc]
    · rfl
    · have hrole : s.dev.sv.role = none := h
      change s.dev.mayWrite .session a.toNat = false
      simp [Dev.mayWrite, hrole]
  · rw [exec_registerWrite, State.act_eq, Dev.busWrite_noRight hc]
    · rfl
    · have hright : s.dev.rbit Reg.HSPI_RIGHTS 1 = false := h
      change s.dev.mayWrite .hspi a.toNat = false
      simp [Dev.mayWrite, hne, hright]
  · obtain ⟨r, hrw, -, hwrite⟩ := Dev.writeReg_scan (d := s.dev) (m := m) (v := v) k
    have hen' : s.dev.rbit (Reg.CNV_CTL k) 0 = false := hen
    have hact' : s.dev.rbit (Reg.CNV_STAT k) 0 = false := hact
    rw [hen', hact', Bool.not_false, Bool.and_self, Dev.put_open hrw] at hwrite
    obtain ⟨hacc, hregs, hbytes⟩ := Dev.busWrite_row ⟨hc, hm⟩ (cnvScan_row k).2 hwrite
    refine .of_act (exec_registerWrite at_) ?_
    rw [hat]
    have hset : s.dev.keeps (s.dev.setReg scan ((s.dev.reg scan &&& ~~~0xFFF) ||| (v &&& 0xFFF))) [scan] := Dev.keeps.rfl.set _ _ (by simp)
    exact ⟨(hregs _).trans (Dev.reg_setReg_same ..), hacc, fun b => (hbytes b).trans (hset.1 b), fun b hb => (hregs b).trans (hset.2 b hb)⟩
  · obtain ⟨r, hrw, hlive, hwrite⟩ := Dev.writeReg_scan (d := s.dev) (m := m) (v := v) k
    have hen' : s.dev.rbit (Reg.CNV_CTL k) 0 = true := hen
    rw [hen', Bool.not_true, Bool.false_and] at hwrite
    obtain ⟨hacc, hregs, hbytes⟩ := Dev.busWrite_row ⟨hc, hm⟩ (cnvScan_row k).2 hwrite
    refine .of_act (exec_registerWrite at_) ?_
    rw [hat]
    exact ⟨hacc, fun b => hbytes b, fun b _ => (hregs b).trans (Dev.reg_put_shut (by rw [hlive]; simp) v b)⟩
  · obtain ⟨e, hwrite, hstat, hkeep⟩ := Dev.writeReg_stat (d := s.dev) (m := m) (v := v) (hw := hw)
    obtain ⟨hacc, hregs, hbytes⟩ := Dev.busWrite_row ⟨hc, hm⟩ sknStat_row.2 hwrite
    refine .of_act (exec_w1cWrite _) ?_
    exact ⟨(hregs _).trans hstat, hacc, fun b => (hbytes b).trans (hkeep.1 b), fun b hb => (hregs b).trans (hkeep.2 b hb)⟩

end Sys2Proof.Machine
end

section
/-! SUPPORT. The Skein's own events (R63, R64, R72, R73, R76 to R81): the draws of a cut port, the one word that a read
corrects or reports, and the marks that a bank copy leaves. -/

namespace Sys2Proof.Machine

variable {d e f : Dev} {s : State} {a b c i n k req bank line : Nat}

/-! ### The bank watchdog -/

theorem exec_bankWatchdogBite (bank : Fin 16) (s : State) : exec (.bankWatchdogBite bank) s = s.run fun d => d.bankBite bank := rfl

theorem Dev.drawsOf_filterDraws (keep : Draw → Bool) (hb : b < 16) :
    (d.filterDraws keep).drawsOf b = (d.drawsOf b).filter keep := by
  have hstep : ∀ (e : Dev) (j : Nat), (if (e.drawsOf j).all keep then e else e.setDraws j ((e.drawsOf j).filter keep)).drawsOf b =
      if b = j then (e.drawsOf b).filter keep else e.drawsOf b := fun e j => by
    split
    · next hall =>
      split
      · next h => subst h; rw [List.filter_eq_self.mpr (List.all_eq_true.mp hall)]
      · rfl
    · rw [Dev.drawsOf_setDraws]
      split
      · next h => rw [h]
      · rfl
  have hall : ∀ (js : List Nat) (e : Dev), (js.foldl (fun e j => if (e.drawsOf j).all keep then e
      else e.setDraws j ((e.drawsOf j).filter keep)) e).drawsOf b = if b ∈ js then (e.drawsOf b).filter keep else e.drawsOf b := by
    intro js
    induction js with
    | nil => exact fun e => by simp
    | cons j js ih =>
      intro e
      rw [List.foldl_cons, ih, hstep]
      by_cases h : b = j <;> by_cases h' : b ∈ js <;> simp [h, h', List.filter_filter]
  exact (hall _ d).trans (if_pos (List.mem_range.mpr hb))

theorem Dev.draws_drawEnd (x : Draw) (st : DrawStatus) : (d.drawEnd x st).sk.draws = d.sk.draws :=
  (congrArg SkeinSt.draws (Dev.sk_tagEnd ..)).trans rfl

theorem Dev.drawsOf_dropDraws (hb : b < 16) :
    (d.dropDraws req).drawsOf b = (d.drawsOf b).filter fun x => decide (x.req ≠ req) := by
  rw [← Dev.drawsOf_filterDraws _ hb]
  exact Dev.foldl_stands (fun e => e.drawsOf b) (fun e x => by simp only [Dev.drawsOf, Dev.draws_drawEnd]) _ _

/-- The traffic under a watchdog bite: draws of none but cores, prefetchers and the plain masters. -/
def calmTag (x : Draw) : Prop :=
  x.tag = .plain ∨ (∃ c pc ea l, x.tag = .core c pc ea l) ∨ ∃ n, x.tag = .prefetch n

/-- The end of such a draw is noted by its core or its prefetcher, and in no register. -/
theorem calmTag.tagEnd {x : Draw} (h : calmTag x) (st : DrawStatus) (data : List Byte) (got : List Word) :
    (∀ a, (d.tagEnd x.tag st data got).reg a = d.reg a) ∧ (d.tagEnd x.tag st data got).reports = d.reports ∧
      ∀ n, ((d.tagEnd x.tag st data got).whorl n).notice = (d.whorl n).notice := by
  obtain h | ⟨c, pc, ea, l, h⟩ | ⟨k, h⟩ := h <;> rw [h]
  · exact ⟨fun _ => by rfl, by rfl, fun _ => by rfl⟩
  · simp only [Dev.tagEnd]
    split
    · unfold Dev.noteLb
      split
      · cases c <;> exact ⟨fun _ => by rfl, by rfl, fun _ => by rfl⟩
      · exact ⟨fun _ => by rfl, by rfl, fun _ => by rfl⟩
    · cases c <;> exact ⟨fun _ => by rfl, by rfl, fun _ => by rfl⟩
  · refine ⟨fun _ => by rfl, by rfl, fun n => ?_⟩
    simp only [Dev.tagEnd]
    rw [Dev.whorl_modWhorl]
    split
    · next h => rw [h]
    · rfl

/-- The end of a draw shows in its requester's status. -/
theorem Dev.status_drawEnd (x : Draw) (st : DrawStatus) :
    smGet (fun _ => DrawStatus.none) (d.drawEnd x st).sk.status x.req = st := by
  rw [Dev.drawEnd, Dev.sk_tagEnd]
  exact smGet_smSet_same ..

/-- The draws of a requester that end in error leave its status, and no register. -/
theorem Dev.dropDraws_shows (h : ∀ x ∈ d.drawsBy req, calmTag x) :
    (∀ a, (d.dropDraws req).reg a = d.reg a) ∧ d.sameMem (d.dropDraws req) ∧
    (∀ n, ((d.dropDraws req).whorl n).notice = (d.whorl n).notice) ∧
    (d.drawsBy req ≠ [] → smGet (fun _ => DrawStatus.none) (d.dropDraws req).sk.status req = .errorStatus) := by
  have hreq : ∀ x ∈ d.drawsBy req, x.req = req := fun x hx => by
    obtain ⟨b, -, hx⟩ := List.mem_flatMap.mp hx
    exact of_decide_eq_true (List.mem_filter.mp hx).2
  have hfilter : (∀ a, (d.filterDraws fun x => decide (x.req ≠ req)).reg a = d.reg a) ∧
      d.sameMem (d.filterDraws fun x => decide (x.req ≠ req)) ∧
      ∀ n, ((d.filterDraws fun x => decide (x.req ≠ req)).whorl n).notice = (d.whorl n).notice :=
    ⟨fun a => Dev.foldl_stands (fun e => e.reg a) (fun e b => by split <;> rfl) _ _,
      fun a => Dev.foldl_stands (fun e => e.byte a) (fun e b => by split <;> rfl) _ _,
      fun n => Dev.foldl_stands (fun e => (e.whorl n).notice) (fun e b => by split <;> rfl) _ _⟩
  have hends : ∀ (q : List Draw), (∀ x ∈ q, calmTag x) → (∀ x ∈ q, x.req = req) → ∀ e : Dev,
      (∀ a, (q.foldl (fun e x => e.drawEnd x .errorStatus) e).reg a = e.reg a) ∧
      e.sameMem (q.foldl (fun e x => e.drawEnd x .errorStatus) e) ∧
      (∀ n, ((q.foldl (fun e x => e.drawEnd x .errorStatus) e).whorl n).notice = (e.whorl n).notice) ∧
      (q ≠ [] → smGet (fun _ => DrawStatus.none) (q.foldl (fun e x => e.drawEnd x .errorStatus) e).sk.status req = .errorStatus) := by
    intro q
    induction q with
    | nil => exact fun _ _ e => ⟨fun _ => by rfl, fun _ => by rfl, fun _ => by rfl, fun h => absurd rfl h⟩
    | cons x q ih =>
      intro hcalm hmine e
      obtain ⟨hreg, -, hnotice⟩ := (hcalm x List.mem_cons_self).tagEnd (d := e.setStatus x.req .errorStatus) .errorStatus x.data x.got
      obtain ⟨hreg', hmem', hnotice', hstatus'⟩ := ih (fun y hy => hcalm y (List.mem_cons_of_mem _ hy))
        (fun y hy => hmine y (List.mem_cons_of_mem _ hy)) (e.drawEnd x .errorStatus)
      refine ⟨fun a => (hreg' a).trans (hreg a), fun a => (hmem' a).trans ?_, fun n => (hnotice' n).trans (hnotice n), fun _ => ?_⟩
      · simp only [Dev.byte, Dev.drawEnd, Dev.sk_tagEnd]
        rfl
      · cases q with
        | nil =>
          rw [← hmine x List.mem_cons_self]
          exact Dev.status_drawEnd x _
        | cons y q => exact hstatus' (List.cons_ne_nil _ _)
  obtain ⟨hreg, hmem, hnotice, hstatus⟩ := hends _ h hreq (d.filterDraws fun x => decide (x.req ≠ req))
  exact ⟨fun a => (hreg a).trans (hfilter.1 a), fun a => (hmem a).trans (hfilter.2.1 a),
    fun n => (hnotice n).trans (hfilter.2.2 n), hstatus⟩

/-- The registers that the traffic after a bite may touch: those that note it, and the capture's GAP. -/
def biteRegs : List Nat := Reg.INJ_STAT :: noteRegs

/-- What the traffic after a bite leaves: the cut, the record of the hang and its report. -/
structure Dev.biteStands (d e : Dev) : Prop where
  regs : ∀ a, a ∉ biteRegs → e.reg a = d.reg a
  stat : ∀ i, d.rbit Reg.SKN_STAT i = true → e.rbit Reg.SKN_STAT i = true
  reports : d.reports ⊆ e.reports

theorem Dev.biteStands.of_same (hg : ∀ a, e.reg a = d.reg a) (hr : e.reports = d.reports) : d.biteStands e :=
  ⟨fun a _ => hg a, fun i hi => by rwa [Dev.rbit_congr (hg _)], fun _ hx => hr ▸ hx⟩

theorem Dev.biteStands.trans (h : d.biteStands e) (g : e.biteStands f) : d.biteStands f :=
  ⟨fun a ha => (g.regs a ha).trans (h.regs a ha), fun i hi => g.stat i (h.stat i hi), fun _ hx => g.reports (h.reports hx)⟩

theorem cut_not_biteReg (hc : c < 133) : Reg.SKN_CUT (c / 32) ∉ biteRegs := by
  have : c / 32 < 5 := by omega
  generalize c / 32 = k at this ⊢
  interval_cases k <;> decide

theorem Dev.biteStands.isCut (h : d.biteStands e) (hc : c < 133) : e.isCut c = d.isCut c :=
  Dev.rbit_congr (h.regs _ (cut_not_biteReg hc)) _

/-- The draws after a bite: none of the port that is cut. -/
def outlives (c : Nat) (x : Draw) : Prop := x.req ≠ c ∧ calmTag x

theorem traffic_biteStands (hc : c < 133) : Traffic (· < 16) (outlives c) Dev.biteStands where
  banks _ h := h
  refl _ := .of_same (fun _ => by rfl) (by rfl)
  trans := .trans
  step h := ⟨fun a ha => h.noted a fun hm => ha (List.mem_cons_of_mem _ hm), h.stat, h.reports⟩
  draws _ _ _ := .of_same (fun _ => by rfl) (by rfl)
  hank _ _ _ _ _ _ := .of_same (fun _ => by rfl) (by rfl)
  lost d _ _ _ _ _ := ⟨fun a ha => Dev.reg_setRbit_other _ _ _ fun h => ha (h ▸ List.mem_cons_self),
    fun i hi => by rwa [Dev.rbit_congr (Dev.reg_setRbit_other _ _ _ (by decide))], fun _ h => h⟩
  bytes d x a bs _ _ _ := by
    obtain ⟨m, hm⟩ := Dev.setBytes_eq (d := d) (bs := bs) a
    rw [hm]
    exact .of_same (fun _ => by rfl) (by rfl)
  tag d x st data got h := .of_same (h.2.tagEnd st data got).1 (h.2.tagEnd st data got).2.1
  moved h hl := ⟨hl.req ▸ h.1, by simpa only [calmTag, hl.tag] using h.2⟩
  fetch {d e} h hf n a hcut := by
    by_cases hn : reqWhl n = c
    · exact hf n a (by rw [hn] at hcut ⊢; rwa [h.isCut hc] at hcut)
    · exact ⟨hn, .inr (.inr ⟨n, rfl⟩)⟩

/-- A bite up to the turns of the draws that waited. -/
def Dev.bitten (d : Dev) (c pb : Nat) : Dev :=
  ((((d.setRbit (Reg.SKN_CUT (c / 32)) (c % 32) true).dropDraws c).setRbit Reg.SKN_STAT 3 true).setReg Reg.SKN_HANGREQ
    (BitVec.ofNat 32 (pb <<< 8 ||| c))).raise Src.SKN_HANG pb

theorem Dev.bankBite_eq {x : Draw} (h : d.holder bank = some x) :
    d.bankBite bank = (d.bitten x.req (d.physBank bank)).settleAll.prefetches := by
  simp only [Dev.bankBite, h]
  rfl

/-- What a bite records and takes away. -/
theorem Dev.bitten_shows {pb : Nat} (hc : c < 133) (h : ∀ x ∈ d.drawsBy c, calmTag x) :
    (d.bitten c pb).isCut c = true ∧ (d.bitten c pb).rbit Reg.SKN_STAT 3 = true ∧
    (d.bitten c pb).reg Reg.SKN_HANGREQ = BitVec.ofNat 32 (pb <<< 8 ||| c) ∧ (d.bitten c pb).raised Src.SKN_HANG pb ∧
    (∀ b < 16, (d.bitten c pb).drawsOf b = (d.drawsOf b).filter fun x => decide (x.req ≠ c)) ∧
    d.sameMem (d.bitten c pb) ∧ d.sameRegs (d.bitten c pb) [Reg.SKN_CUT (c / 32), Reg.SKN_STAT, Reg.SKN_HANGREQ] ∧
    (∀ n, ((d.bitten c pb).whorl n).notice = (d.whorl n).notice) ∧
    (d.drawsBy c ≠ [] → smGet (fun _ => DrawStatus.none) (d.bitten c pb).sk.status c = .errorStatus) := by
  have hk : c / 32 < 5 := by omega
  obtain ⟨hreg, hmem, hnotice, hstatus⟩ := Dev.dropDraws_shows (d := d.setRbit (Reg.SKN_CUT (c / 32)) (c % 32) true) (req := c) h
  have hdraws : ∀ b < 16, ((d.setRbit (Reg.SKN_CUT (c / 32)) (c % 32) true).dropDraws c).drawsOf b =
      (d.drawsOf b).filter fun x => decide (x.req ≠ c) := fun b hb => Dev.drawsOf_dropDraws hb
  unfold Dev.bitten
  generalize (d.setRbit (Reg.SKN_CUT (c / 32)) (c % 32) true).dropDraws c = d1 at *
  have hstat : Reg.SKN_CUT (c / 32) ≠ Reg.SKN_STAT := by simp only [Reg.SKN_CUT, Reg.SKN_STAT]; omega
  have hhang : Reg.SKN_CUT (c / 32) ≠ Reg.SKN_HANGREQ := by simp only [Reg.SKN_CUT, Reg.SKN_HANGREQ]; omega
  refine ⟨?_, ?_, ?_, Dev.mem_raise _ _ _, fun b hb => ?_, fun a => ?_, fun a ha => ?_, fun n => ?_, fun hne => ?_⟩
  · rw [Dev.isCut, Dev.rbit_congr (Dev.reg_raise ..), Dev.rbit_congr (Dev.reg_setReg_other _ _ hhang),
      Dev.rbit_congr (Dev.reg_setRbit_other _ _ _ hstat), Dev.rbit_congr (hreg _), Dev.rbit_setRbit _ _ _ _ _ (by omega), if_pos rfl]
  · rw [Dev.rbit_congr (Dev.reg_raise ..), Dev.rbit_congr (Dev.reg_setReg_other _ _ (by decide)),
      Dev.rbit_setRbit _ _ _ _ _ (by decide), if_pos rfl]
  · rw [Dev.reg_raise, Dev.reg_setReg_same]
  · rw [← hdraws b hb]
    simp [Dev.drawsOf, Dev.setRbit, Dev.setReg]
  · refine Eq.trans ?_ (hmem a)
    simp [Dev.byte, Dev.setRbit, Dev.setReg]
  · simp only [List.mem_cons, List.not_mem_nil, or_false, not_or] at ha
    rw [Dev.reg_raise, Dev.reg_setReg_other _ _ ha.2.2, Dev.reg_setRbit_other _ _ _ ha.2.1, hreg, Dev.reg_setRbit_other _ _ _ ha.1]
  · refine Eq.trans ?_ (hnotice n)
    simp [Dev.setRbit, Dev.setReg, Dev.whorl]
  · rw [← hstatus hne]
    simp [Dev.setRbit, Dev.setReg]

/-- After a bite the traffic goes on without the requester that was cut. -/
theorem Dev.bankBite_shows {x : Draw} (h : d.holder bank = some x) (hc : x.req < 133)
    (ht : ∀ b, ∀ y ∈ d.drawsOf b, calmTag y) :
    (d.bankBite bank).isCut x.req = true ∧ (d.bankBite bank).rbit Reg.SKN_STAT 3 = true ∧
    (d.bankBite bank).reg Reg.SKN_HANGREQ = BitVec.ofNat 32 (d.physBank bank <<< 8 ||| x.req) ∧
    (d.bankBite bank).raised Src.SKN_HANG (d.physBank bank) ∧
    ∀ k < 16, ∀ y ∈ (d.bankBite bank).drawsOf k, y.req ≠ x.req := by
  have T := traffic_biteStands hc
  obtain ⟨hcut, hstat, hhang, hraised, hdraws, -⟩ := Dev.bitten_shows (d := d) (pb := d.physBank bank) hc fun y hy => by
    obtain ⟨b, -, hy⟩ := List.mem_flatMap.mp hy
    exact ht b y (List.mem_filter.mp hy).1
  rw [Dev.bankBite_eq h]
  generalize d.bitten x.req (d.physBank bank) = d1 at *
  have hok : d1.drawsOk (· < 16) (outlives x.req) := by
    refine ⟨fun n a hn => ⟨fun hx => ?_, .inr (.inr ⟨n, rfl⟩)⟩, fun b hb y hy => ?_⟩
    · have hx : reqWhl n = x.req := hx
      rw [hx, hcut] at hn
      exact absurd hn (by decide)
    · rw [hdraws b hb] at hy
      obtain ⟨hy, hreq⟩ := List.mem_filter.mp hy
      exact ⟨of_decide_eq_true hreq, ht b y hy⟩
  obtain ⟨hmoved, hleft⟩ := T.moves_trans T.moves_settleAll T.moves_prefetches hok
  generalize d1.settleAll.prefetches = e at *
  refine ⟨(hmoved.isCut hc).trans hcut, hmoved.stat 3 hstat, (hmoved.regs _ (by decide)).trans hhang, hmoved.reports hraised, ?_⟩
  exact fun k hk y hy => (hleft.draws k hk y hy).1

theorem Dev.settleAll_idle (h : ∀ b < 16, d.drawsOf b = []) : d.settleAll = d := by
  have hall : ∀ bs : List Nat, (∀ b ∈ bs, b < 16) → bs.foldl (fun e b => e.settle b) d = d := by
    intro bs
    induction bs with
    | nil => exact fun _ => rfl
    | cons b bs ih =>
      intro hbs
      rw [List.foldl_cons, Dev.settle_idle (h b (hbs b List.mem_cons_self))]
      exact ih fun c hc => hbs c (List.mem_cons_of_mem _ hc)
  exact hall _ fun _ => List.mem_range.mp

theorem Dev.mem_of_holder {x : Draw} (h : d.holder bank = some x) : x ∈ d.drawsOf bank := by
  obtain ⟨k, -, hk⟩ := List.exists_of_findSome?_eq_some h
  exact List.mem_of_find?_eq_some hk

/-- Where every draw is the requester's that is cut, nothing is left to go on. -/
theorem Dev.bankBite_alone {x : Draw} (h : d.holder bank = some x) (hbank : bank < 16) (hc : x.req < 133)
    (ht : ∀ b, ∀ y ∈ d.drawsOf b, calmTag y) (hmine : ∀ b, ∀ y ∈ d.drawsOf b, y.req = x.req)
    (hn : ∀ n, (d.whorl n).notice = false) :
    smGet (fun _ => DrawStatus.none) (d.bankBite bank).sk.status x.req = .errorStatus ∧ d.sameMem (d.bankBite bank) ∧
    d.sameRegs (d.bankBite bank) [Reg.SKN_CUT (x.req / 32), Reg.SKN_STAT, Reg.SKN_HANGREQ] := by
  obtain ⟨-, -, -, -, hdraws, hmem, hregs, hnotice, hstatus⟩ :=
    Dev.bitten_shows (d := d) (pb := d.physBank bank) hc fun y hy => by
      obtain ⟨b, -, hy⟩ := List.mem_flatMap.mp hy
      exact ht b y (List.mem_filter.mp hy).1
  have hheld : x ∈ d.drawsBy x.req :=
    List.mem_flatMap.mpr ⟨bank, List.mem_range.mpr hbank, List.mem_filter.mpr ⟨Dev.mem_of_holder h, decide_eq_true rfl⟩⟩
  rw [Dev.bankBite_eq h]
  generalize d.bitten x.req (d.physBank bank) = d1 at *
  have hempty : ∀ b < 16, d1.drawsOf b = [] := fun b hb => by
    rw [hdraws b hb]
    exact List.filter_eq_nil_iff.mpr fun y hy => by simp [hmine b y hy]
  rw [Dev.settleAll_idle hempty, Dev.prefetches_idle fun n => (hnotice n).trans (hn n)]
  exact ⟨hstatus (List.ne_nil_of_mem hheld), hmem, hregs⟩

/-! ### A broken lock -/

theorem exec_lockBreak (line : BitVec 18) (s : State) : exec (.lockBreak line) s = s.run fun d => d.breakLock line.toNat := rfl

theorem Dev.breakLock_shows (ho : d.ownerOf line = some i) (hw : d.waitedOn line = true) (hs : d.settled) :
    smGet (fun _ => none) (d.breakLock line).sk.locks i = none ∧ (d.breakLock line).isBroken line = true ∧
    (d.breakLock line).rbit Reg.SKN_STAT 4 = true ∧
    (d.breakLock line).reg Reg.SKN_LBADDR = BitVec.ofNat 32 (line * 64) ∧
    (d.breakLock line).raised Src.SKN_LOCKBRK (d.physBank (line / 16384)) ∧ d.sameMem (d.breakLock line) ∧
    d.sameRegs (d.breakLock line) [Reg.SKN_STAT, Reg.SKN_LBADDR] := by
  obtain ⟨hquiet, hnotice⟩ := hs
  simp only [Dev.breakLock, ho, hw, if_true]
  generalize hd1 : (d.modSk fun s => { s with locks := smSet (fun _ => none) s.locks i none }).setBroken line true = d1
  have hlock : smGet (fun _ => none) d1.sk.locks i = none := by
    rw [← hd1]
    exact smGet_smSet_same (fun _ => (none : Option Nat)) d.sk.locks i none
  have hbroken : d1.isBroken line = true := by
    rw [← hd1]
    exact smGet_smSet_same (fun _ => false) d.sk.broken line true
  have hreg : ∀ a, d1.reg a = d.reg a := fun a => by rw [← hd1]; rfl
  have hmem : d.sameMem d1 := fun a => by rw [← hd1]; rfl
  have hdraws : d1.sk.draws = d.sk.draws := by rw [← hd1]; rfl
  have hwhorl : ∀ n, d1.whorl n = d.whorl n := fun n => by rw [← hd1]; rfl
  generalize d.physBank (line / 16384) = pb
  generalize hd2 : (((d1.setRbit Reg.SKN_STAT 4 true).setReg Reg.SKN_LBADDR (BitVec.ofNat 32 (line * 64))).raise
    Src.SKN_LOCKBRK pb) = d2
  have hsk : d2.sk = d1.sk := by rw [← hd2]; simp [Dev.setRbit, Dev.setReg]
  have hidle : d2.drawsOf (line / 16384) = [] := by
    rw [← hquiet (line / 16384)]
    simp only [Dev.drawsOf, hsk, hdraws]
  have hcalm : ∀ n, (d2.whorl n).notice = false := fun n => by
    rw [← hnotice n, ← hwhorl n, ← hd2]
    simp [Dev.setRbit, Dev.setReg, Dev.whorl]
  rw [Dev.settle_idle hidle, Dev.prefetches_idle hcalm]
  refine ⟨by rw [hsk, hlock], by rwa [Dev.isBroken, hsk], ?_, ?_, hd2 ▸ Dev.mem_raise _ _ _, fun a => ?_, fun a ha => ?_⟩
  · rw [← hd2, Dev.rbit_congr (Dev.reg_raise ..), Dev.rbit_congr (Dev.reg_setReg_other _ _ (by decide)),
      Dev.rbit_setRbit _ _ _ _ _ (by decide), if_pos rfl]
  · rw [← hd2, Dev.reg_raise, Dev.reg_setReg_same]
  · rw [← hmem a]
    simp only [Dev.byte, hsk]
  · simp only [List.mem_cons, List.not_mem_nil, or_false, not_or] at ha
    rw [← hd2, Dev.reg_raise, Dev.reg_setReg_other _ _ ha.2, Dev.reg_setRbit_other _ _ _ ha.1, hreg]

end Sys2Proof.Machine
end

section
/-! SUPPORT. Scrub and changeover (R73 to R81): what the check of a word marks, notes and reports. -/

namespace Sys2Proof.Machine

variable {d e f : Dev} {s : State} {a b c i n k req bank line : Nat}

/-! ### The check of a word -/

theorem Dev.ecc_setEcc (x : Ecc) : (d.setEcc a x).ecc i = if i / 4 = a / 4 then x else d.ecc i := smGet_smSet _ _ _ _ _

/-- What reads and copies of words note: registers, and no byte. -/
structure Dev.noted (d e : Dev) (but : List Nat) : Prop where
  regs : d.sameRegs e but
  mem : d.sameMem e

theorem Dev.noted.rfl {but : List Nat} : d.noted d but := ⟨fun _ _ => by rfl, fun _ => by rfl⟩

theorem Dev.noted.trans {but : List Nat} (h : d.noted e but) (g : e.noted f but) : d.noted f but :=
  ⟨fun a ha => (g.regs a ha).trans (h.regs a ha), fun a => (g.mem a).trans (h.mem a)⟩

theorem Dev.noted.mono {but more : List Nat} (h : d.noted e but) (hm : but ⊆ more) : d.noted e more :=
  ⟨fun a ha => h.regs a fun hb => ha (hm hb), h.mem⟩

theorem Dev.noted.of_skNear {but : List Nat} (h : d.skNear e) (hg : d.sameRegs e but) : d.noted e but := ⟨hg, h.byte⟩

/-- The registers of the checks. -/
def checkRegs : List Nat := [Reg.SKN_CECNT, Reg.SKN_STAT, Reg.SKN_UEADDR]

theorem Dev.noteCe_shows :
    (d.noteCe a).fld Reg.SKN_CECNT 15 0 = min 65535 (d.fld Reg.SKN_CECNT 15 0 + 1) ∧
    (d.noteCe a).rbit Reg.SKN_STAT 0 = true ∧ (d.noteCe a).raised Src.SKN_CE (d.physBank (bankOf a)) ∧
    d.noted (d.noteCe a) [Reg.SKN_CECNT, Reg.SKN_STAT] ∧
    ∀ i, (d.noteCe a).ecc i = if i / 4 = a / 4 then .good else d.ecc i := by
  refine ⟨?_, ?_, Dev.mem_raise _ _ _, .of_skNear (Dev.skNear_noteCe d a) fun j hj => ?_, fun i => ?_⟩
  · rw [Dev.noteCe, Dev.fld_congr (Dev.reg_raise ..), Dev.fld_congr (Dev.reg_setRbit_other _ _ _ (by decide)),
      Dev.fld_incFld _ _ _ (by decide) (by decide)]
    rfl
  · rw [Dev.noteCe, Dev.rbit_congr (Dev.reg_raise ..), Dev.rbit_setRbit _ _ _ _ _ (by decide), if_pos rfl]
  · simp only [List.mem_cons, List.not_mem_nil, or_false, not_or] at hj
    rw [Dev.noteCe, Dev.reg_raise, Dev.reg_setRbit_other _ _ _ hj.2, Dev.incFld, Dev.reg_setFld_other _ _ _ _ hj.1]
    rfl
  · rw [← Dev.ecc_setEcc]
    simp [Dev.noteCe, Dev.ecc, Dev.incFld, Dev.setRbit, Dev.setFld, Dev.setReg]

theorem Dev.noteUe_shows (pois : Bool) :
    (d.noteUe a pois).reg Reg.SKN_UEADDR = BitVec.ofNat 32 (d.physBank (bankOf a) <<< 24 ||| a / 4 * 4) ∧
    (d.noteUe a pois).rbit Reg.SKN_STAT 1 = true ∧ (d.noteUe a pois).raised Src.SKN_UE (d.physBank (bankOf a)) ∧
    d.noted (d.noteUe a pois) [Reg.SKN_UEADDR, Reg.SKN_STAT] ∧ ∀ i, (d.noteUe a pois).ecc i = d.ecc i := by
  have hpois : ∀ x : Dev, x.rbit Reg.SKN_STAT 1 = true →
      (x.when pois fun d => d.setRbit Reg.SKN_STAT 2 true).rbit Reg.SKN_STAT 1 = true ∧
      (∀ j, j ≠ Reg.SKN_STAT → (x.when pois fun d => d.setRbit Reg.SKN_STAT 2 true).reg j = x.reg j) ∧
      (x.when pois fun d => d.setRbit Reg.SKN_STAT 2 true).sk = x.sk := fun x hx => by
    unfold Dev.when
    split
    · refine ⟨?_, fun j hj => Dev.reg_setRbit_other _ _ _ hj, by rfl⟩
      rw [Dev.rbit_setRbit _ _ _ _ _ (by decide), if_neg (by decide), hx]
    · exact ⟨hx, fun _ _ => by rfl, by rfl⟩
  obtain ⟨hstat, hreg, hsk⟩ := hpois (d.setRbit Reg.SKN_STAT 1 true) (by rw [Dev.rbit_setRbit _ _ _ _ _ (by decide), if_pos rfl])
  have hnear := Dev.skNear_noteUe d a pois
  unfold Dev.noteUe at hnear ⊢
  generalize (d.setRbit Reg.SKN_STAT 1 true).when pois (fun d => d.setRbit Reg.SKN_STAT 2 true) = x at *
  refine ⟨?_, ?_, Dev.mem_raise _ _ _, .of_skNear hnear fun j hj => ?_, fun i => ?_⟩
  · rw [Dev.reg_raise, Dev.reg_setReg_same]
  · rw [Dev.rbit_congr (Dev.reg_raise ..), Dev.rbit_congr (Dev.reg_setReg_other _ _ (by decide)), hstat]
  · simp only [List.mem_cons, List.not_mem_nil, or_false, not_or] at hj
    rw [Dev.reg_raise, Dev.reg_setReg_other _ _ hj.1, hreg j hj.2, Dev.reg_setRbit_other _ _ _ hj.2]
  · simp only [Dev.ecc, Dev.raise_sk]
    rw [show (x.setReg Reg.SKN_UEADDR (BitVec.ofNat 32 (d.physBank (bankOf a) <<< 24 ||| a / 4 * 4))).sk = x.sk by rfl, hsk]
    rfl

/-- The check of a word marks a correctable one good, and no other. -/
theorem Dev.checkWord_shows : d.noted (d.checkWord a).1 checkRegs ∧
    (∀ i, (d.checkWord a).1.ecc i = if i / 4 = a / 4 ∧ d.ecc a = .correctable then .good else d.ecc i) ∧
    ((d.checkWord a).2 = false ↔ d.ecc a = .uncorrectable ∨ d.ecc a = .poisoned) := by
  have hce := Dev.noteCe_shows (d := d) (a := a)
  have hue := fun p => Dev.noteUe_shows (d := d) (a := a) p
  unfold Dev.checkWord
  cases hecc : d.ecc a
  · exact ⟨.rfl, fun i => by simp, by simp⟩
  · exact ⟨hce.2.2.2.1.mono (by decide), fun i => by simp [hce.2.2.2.2], by simp⟩
  · exact ⟨(hue false).2.2.2.1.mono (by decide), fun i => by simp [(hue false).2.2.2.2], by simp⟩
  · exact ⟨(hue true).2.2.2.1.mono (by decide), fun i => by simp [(hue true).2.2.2.2], by simp⟩

theorem Dev.checkWords_noted (a n : Nat) : d.noted (d.checkWords a n).1 checkRegs := by
  induction n generalizing d a with
  | zero => exact .rfl
  | succ n ih => exact Dev.checkWord_shows.1.trans (ih _)

/-- The check of words leaves the marks of every other word. -/
theorem Dev.ecc_checkWords (a n : Nat) (ha : a % 4 = 0) (h : i < a ∨ a + 4 * n ≤ i) : (d.checkWords a n).1.ecc i = d.ecc i := by
  induction n generalizing d a with
  | zero => rfl
  | succ n ih =>
    have hrest := ih (d := (d.checkWord a).1) (a + 4) (by omega) (by omega)
    refine hrest.trans ?_
    rw [Dev.checkWord_shows.2.1, if_neg]
    omega

/-- Where every other word of a range is good, the check is that of the one. -/
theorem Dev.checkWords_one (hk : k < n) (h : ∀ i < n, i ≠ k → d.ecc (a + 4 * i) = .good) :
    (d.checkWords a n) = d.checkWord (a + 4 * k) := by
  induction n generalizing a k with
  | zero => exact absurd hk (Nat.not_lt_zero k)
  | succ n ih =>
    have hshift : ∀ i, a + 4 + 4 * i = a + 4 * (i + 1) := fun i => by omega
    cases k with
    | zero =>
      have hrest := Dev.checkWords_good (d := (d.checkWord a).1) (a + 4) n fun i hi => by
        rw [Dev.checkWord_shows.2.1, hshift, h (i + 1) (by omega) (by omega)]
        exact ite_self _
      simp only [Dev.checkWords, hrest, Nat.mul_zero, Nat.add_zero, Bool.and_true]
    | succ k =>
      have hfirst : d.checkWord a = (d, true) := by
        have := h 0 (by omega) (by omega)
        rw [Nat.mul_zero, Nat.add_zero] at this
        simp [Dev.checkWord, this]
      have hrest := ih (a := a + 4) (k := k) (by omega) fun i hi hne => by
        rw [hshift]
        exact h (i + 1) (by omega) (by omega)
      simp only [Dev.checkWords, hfirst, hrest, Bool.true_and, hshift]

/-! ### Scrub -/

theorem exec_scrubLine (bank : Fin 16) (line : Fin 16384) (found : List (Fin 16 × Bool)) (s : State) :
    exec (.scrubLine bank line found) s = s.run fun d => d.scrub bank line (found.map fun f => (f.1.val, f.2)) := rfl

/-- One word that an upset struck. -/
def Dev.struck (d : Dev) (f : Nat × Bool) : Dev :=
  match d.ecc (4 * f.1) with
  | .good => d.setEcc (4 * f.1) (if f.2 then .uncorrectable else .correctable)
  | .correctable => d.setEcc (4 * f.1) .uncorrectable
  | _ => d

theorem Dev.strike_eq (found : List (Nat × Bool)) : d.strike found = found.foldl Dev.struck d := rfl

theorem Dev.struck_marks (f : Nat × Bool) : ∃ m, d.struck f = d.modSk fun s => { s with ecc := m } := by
  unfold Dev.struck
  split
  · exact ⟨_, rfl⟩
  · exact ⟨_, rfl⟩
  · exact ⟨d.sk.ecc, rfl⟩

theorem Dev.ecc_struck {f : Nat × Bool} (h : f.1 ≠ i / 4) : (d.struck f).ecc i = d.ecc i := by
  have hset : ∀ x, (d.setEcc (4 * f.1) x).ecc i = d.ecc i := fun x => by
    rw [Dev.ecc_setEcc, if_neg (by omega)]
  unfold Dev.struck
  split
  · exact hset _
  · exact hset _
  · rfl

/-- Upsets strike marks, and nothing else. -/
theorem Dev.strike_same (found : List (Nat × Bool)) :
    (∀ a, (d.strike found).reg a = d.reg a) ∧ d.sameMem (d.strike found) ∧ ∀ b, (d.strike found).drawsOf b = d.drawsOf b := by
  rw [Dev.strike_eq]
  induction found generalizing d with
  | nil => exact ⟨fun _ => rfl, fun _ => rfl, fun _ => rfl⟩
  | cons f found ih =>
    obtain ⟨m, hm⟩ := Dev.struck_marks (d := d) f
    obtain ⟨hreg, hmem, hdraws⟩ := ih (d := d.struck f)
    rw [hm] at hreg hmem hdraws
    rw [List.foldl_cons, hm]
    exact ⟨hreg, hmem, hdraws⟩

theorem Dev.ecc_strike {found : List (Nat × Bool)} (h : ∀ f ∈ found, f.1 ≠ i / 4) : (d.strike found).ecc i = d.ecc i := by
  rw [Dev.strike_eq]
  induction found generalizing d with
  | nil => rfl
  | cons f found ih =>
    exact (ih fun g hg => h g (List.mem_cons_of_mem _ hg)).trans (Dev.ecc_struck (h f List.mem_cons_self))

/-- A read of an idle bank through an open port: its words are checked. -/
theorem Dev.load_checked (hq : d.drawsOf (bankOf a) = []) (hcut : d.isCut req = false) (hend : a + n ≤ 0x1000000)
    (hbank : bankOf a = bankOf (a + n - 1)) :
    ∃ st, (d.load req c a n).1 = ((d.noteGrant (bankOf a) c req).checkWords a (wordsIn a n)).1.setStatus req st := by
  have hread : ∃ st, (d.loadAt req c a n).1 = ((d.noteGrant (bankOf a) c req).checkWords a (wordsIn a n)).1.setStatus req st := by
    unfold Dev.loadAt
    rw [if_neg (by simp [hcut]), if_neg (by omega), if_neg (not_not_intro hbank), Dev.clearWay_idle d _ _ _ hq]
    simp only [if_true]
    split
    · exact ⟨_, rfl⟩
    · exact ⟨_, rfl⟩
  unfold Dev.load
  rw [hq]
  exact hread

/-- The first byte of a line of a bank. -/
def lineAt (bank line : Nat) : Nat := bank * 0x100000 + line * 64

theorem lineAt_within (hb : bank < 16) (hl : line < 16384) :
    lineAt bank line % 4 = 0 ∧ lineAt bank line + 64 ≤ 0x1000000 ∧ wordsIn (lineAt bank line) 64 = 16 ∧
    ∀ i < 64, bankOf (lineAt bank line + i) = bank := by
  unfold lineAt wordsIn bankOf
  refine ⟨by omega, by omega, ?_, fun i hi => by omega⟩
  rw [if_neg (by decide)]
  omega

/-- The marks that a scrub of a line meets. -/
def Dev.struckLine (d : Dev) (bank line : Nat) (found : List (Nat × Bool)) : Dev :=
  d.strike (found.map fun f => (lineAt bank line / 4 + f.1, f.2))

theorem Dev.scrub_eq (found : List (Nat × Bool)) : d.scrub bank line found =
    if d.rbit Reg.SKN_SCRUB 0 then ((d.struckLine bank line found).load reqEngine 4 (lineAt bank line) 64).1
    else d.struckLine bank line found := rfl

/-- The scrub of a line: the marks that upsets left, and the check of its words. -/
theorem Dev.scrub_checked {found : List (Nat × Bool)} (hb : bank < 16) (hl : line < 16384) (hq : d.drawsOf bank = [])
    (hcut : d.isCut reqEngine = false) (hon : d.rbit Reg.SKN_SCRUB 0 = true) :
    ∃ st, d.scrub bank line found =
      (((d.struckLine bank line found).noteGrant bank 4 reqEngine).checkWords (lineAt bank line) 16).1.setStatus reqEngine st := by
  obtain ⟨-, hend, hwords, hbank⟩ := lineAt_within hb hl
  have hfirst : bankOf (lineAt bank line) = bank := by simpa only [Nat.add_zero] using hbank 0 (by decide)
  have hlast : bankOf (lineAt bank line + 64 - 1) = bank :=
    (congrArg bankOf (Nat.add_sub_assoc (by decide) _)).trans (hbank 63 (by decide))
  obtain ⟨hreg, -, hdraws⟩ := Dev.strike_same (d := d) (found.map fun f => (lineAt bank line / 4 + f.1, f.2))
  rw [Dev.scrub_eq, if_pos hon]
  unfold Dev.struckLine
  generalize d.strike (found.map fun f => (lineAt bank line / 4 + f.1, f.2)) = d0 at *
  have hload := Dev.load_checked (d := d0) (req := reqEngine) (c := 4) (a := lineAt bank line) (n := 64)
    (by rw [hfirst, hdraws, hq]) ((Dev.rbit_congr (hreg _) _).trans hcut) hend (by rw [hfirst, hlast])
  rwa [hwords, hfirst] at hload

theorem Dev.scrub_noted (found : List (Fin 16 × Bool)) (hb : bank < 16) (hl : line < 16384) (hq : d.drawsOf bank = [])
    (hcut : d.isCut reqEngine = false) :
    d.noted (d.scrub bank line (found.map fun f => (f.1.val, f.2))) checkRegs ∧
    ∀ i, i < lineAt bank line ∨ lineAt bank line + 64 ≤ i →
      (d.scrub bank line (found.map fun f => (f.1.val, f.2))).ecc i = d.ecc i := by
  obtain ⟨halign, -⟩ := lineAt_within hb hl
  generalize hfs : found.map (fun f => (f.1.val, f.2)) = fs
  have hstruck : ∀ i, i < lineAt bank line ∨ lineAt bank line + 64 ≤ i → (d.struckLine bank line fs).ecc i = d.ecc i := by
    refine fun i hi => Dev.ecc_strike fun f hf => ?_
    simp only [← hfs, List.map_map, List.mem_map, Function.comp_apply] at hf
    obtain ⟨g, -, hg⟩ := hf
    have hlt := g.1.isLt
    subst hg
    dsimp only
    omega
  obtain ⟨hreg, hmem, -⟩ := Dev.strike_same (d := d) (fs.map fun f => (lineAt bank line / 4 + f.1, f.2))
  have hstrike : d.noted (d.struckLine bank line fs) checkRegs := ⟨fun a _ => hreg a, hmem⟩
  by_cases hon : d.rbit Reg.SKN_SCRUB 0 = true
  · obtain ⟨st, hst⟩ := Dev.scrub_checked (found := fs) hb hl hq hcut hon
    rw [hst]
    generalize d.struckLine bank line fs = d0 at *
    have hcheck := Dev.checkWords_noted (d := d0.noteGrant bank 4 reqEngine) (lineAt bank line) 16
    have hecc : ∀ i, i < lineAt bank line ∨ lineAt bank line + 64 ≤ i →
        ((d0.noteGrant bank 4 reqEngine).checkWords (lineAt bank line) 16).1.ecc i = d0.ecc i :=
      fun i hi => Dev.ecc_checkWords (d := d0.noteGrant bank 4 reqEngine) _ 16 halign hi
    generalize ((d0.noteGrant bank 4 reqEngine).checkWords (lineAt bank line) 16).1 = d1 at *
    exact ⟨hstrike.trans ⟨hcheck.regs, hcheck.mem⟩, fun i hi => (hecc i hi).trans (hstruck i hi)⟩
  · rw [Dev.scrub_eq, if_neg hon]
    exact ⟨hstrike, hstruck⟩

/-- The mark that an upset leaves in a good word. -/
def upsetMark (x : Bool) : Ecc := if x then .uncorrectable else .correctable

/-- The scrub of a good line with one struck word is the check of that word. -/
theorem Dev.scrub_one {x : Bool} (hb : bank < 16) (hl : line < 16384) (hk : k < 16) (hq : d.drawsOf bank = [])
    (hcut : d.isCut reqEngine = false) (hon : d.rbit Reg.SKN_SCRUB 0 = true)
    (hgood : ∀ i < 16, d.ecc (lineAt bank line + 4 * i) = .good) :
    ∃ st, d.scrub bank line [(k, x)] =
      (((d.setEcc (lineAt bank line + 4 * k) (upsetMark x)).noteGrant bank 4 reqEngine).checkWord
        (lineAt bank line + 4 * k)).1.setStatus reqEngine st := by
  obtain ⟨halign, -⟩ := lineAt_within hb hl
  obtain ⟨st, hst⟩ := Dev.scrub_checked (found := [(k, x)]) hb hl hq hcut hon
  refine ⟨st, hst.trans ?_⟩
  have hword : 4 * (lineAt bank line / 4 + k) = lineAt bank line + 4 * k := by omega
  have hstrike : d.struckLine bank line [(k, x)] = d.setEcc (lineAt bank line + 4 * k) (upsetMark x) := by
    simp only [Dev.struckLine, Dev.strike, List.map_cons, List.map_nil, List.foldl_cons, List.foldl_nil, hword, hgood k hk,
      upsetMark]
  generalize lineAt bank line = a at *
  have hgood' : ∀ i < 16, i ≠ k → ((d.setEcc (a + 4 * k) (upsetMark x)).noteGrant bank 4 reqEngine).ecc (a + 4 * i) = .good :=
    fun i hi hne => (Dev.ecc_setEcc (upsetMark x)).trans (by rw [if_neg (by omega), hgood i hi])
  rw [hstrike, Dev.checkWords_one hk hgood']

theorem Dev.scrub_corrects (hb : bank < 16) (hl : line < 16384) (hk : k < 16) (hq : d.drawsOf bank = [])
    (hcut : d.isCut reqEngine = false) (hon : d.rbit Reg.SKN_SCRUB 0 = true)
    (hgood : ∀ i < 16, d.ecc (lineAt bank line + 4 * i) = .good) :
    (d.scrub bank line [(k, false)]).ecc (lineAt bank line + 4 * k) = .good ∧
    (d.scrub bank line [(k, false)]).fld Reg.SKN_CECNT 15 0 = min 65535 (d.fld Reg.SKN_CECNT 15 0 + 1) ∧
    (d.scrub bank line [(k, false)]).rbit Reg.SKN_STAT 0 = true ∧
    (d.scrub bank line [(k, false)]).raised Src.SKN_CE (d.physBank bank) ∧
    d.noted (d.scrub bank line [(k, false)]) [Reg.SKN_CECNT, Reg.SKN_STAT] := by
  obtain ⟨-, -, -, hbank⟩ := lineAt_within hb hl
  obtain ⟨st, hst⟩ := Dev.scrub_one (x := false) hb hl hk hq hcut hon hgood
  rw [hst]
  have hpb := hbank (4 * k) (by omega)
  generalize lineAt bank line + 4 * k = w at *
  have hecc : ((d.setEcc w (upsetMark false)).noteGrant bank 4 reqEngine).ecc w = .correctable :=
    (Dev.ecc_setEcc (upsetMark false)).trans (if_pos rfl)
  have hbefore : d.noted ((d.setEcc w (upsetMark false)).noteGrant bank 4 reqEngine) [Reg.SKN_CECNT, Reg.SKN_STAT] :=
    ⟨fun _ _ => by rfl, fun _ => by rfl⟩
  have hcount : ((d.setEcc w (upsetMark false)).noteGrant bank 4 reqEngine).fld Reg.SKN_CECNT 15 0 = d.fld Reg.SKN_CECNT 15 0 := by rfl
  have hphys : ((d.setEcc w (upsetMark false)).noteGrant bank 4 reqEngine).physBank bank = d.physBank bank := by rfl
  generalize (d.setEcc w (upsetMark false)).noteGrant bank 4 reqEngine = d0 at *
  obtain ⟨hcnt, hstat, hraised, hnoted, hmark⟩ := Dev.noteCe_shows (d := d0) (a := w)
  rw [hpb, hphys] at hraised
  rw [hcount] at hcnt
  have hcheck : (d0.checkWord w).1 = d0.noteCe w := by simp only [Dev.checkWord, hecc]
  rw [hcheck]
  have hgood' := (hmark w).trans (if_pos rfl)
  generalize d0.noteCe w = d1 at *
  exact ⟨hgood', hcnt, hstat, hraised, hbefore.trans ⟨hnoted.regs, hnoted.mem⟩⟩

theorem Dev.scrub_reports (hb : bank < 16) (hl : line < 16384) (hk : k < 16) (hq : d.drawsOf bank = [])
    (hcut : d.isCut reqEngine = false) (hon : d.rbit Reg.SKN_SCRUB 0 = true)
    (hgood : ∀ i < 16, d.ecc (lineAt bank line + 4 * i) = .good) :
    (d.scrub bank line [(k, true)]).ecc (lineAt bank line + 4 * k) = .uncorrectable ∧
    (d.scrub bank line [(k, true)]).reg Reg.SKN_UEADDR =
      BitVec.ofNat 32 (d.physBank bank <<< 24 ||| (lineAt bank line + 4 * k)) ∧
    (d.scrub bank line [(k, true)]).rbit Reg.SKN_STAT 1 = true ∧
    (d.scrub bank line [(k, true)]).raised Src.SKN_UE (d.physBank bank) ∧
    d.noted (d.scrub bank line [(k, true)]) [Reg.SKN_UEADDR, Reg.SKN_STAT] := by
  obtain ⟨halign, -, -, hbank⟩ := lineAt_within hb hl
  obtain ⟨st, hst⟩ := Dev.scrub_one (x := true) hb hl hk hq hcut hon hgood
  rw [hst]
  have hpb := hbank (4 * k) (by omega)
  have hword : (lineAt bank line + 4 * k) / 4 * 4 = lineAt bank line + 4 * k := by omega
  generalize lineAt bank line + 4 * k = w at *
  have hecc : ((d.setEcc w (upsetMark true)).noteGrant bank 4 reqEngine).ecc w = .uncorrectable :=
    (Dev.ecc_setEcc (upsetMark true)).trans (if_pos rfl)
  have hbefore : d.noted ((d.setEcc w (upsetMark true)).noteGrant bank 4 reqEngine) [Reg.SKN_UEADDR, Reg.SKN_STAT] :=
    ⟨fun _ _ => by rfl, fun _ => by rfl⟩
  have hphys : ((d.setEcc w (upsetMark true)).noteGrant bank 4 reqEngine).physBank bank = d.physBank bank := by rfl
  generalize (d.setEcc w (upsetMark true)).noteGrant bank 4 reqEngine = d0 at *
  obtain ⟨haddr, hstat, hraised, hnoted, hmark⟩ := Dev.noteUe_shows (d := d0) (a := w) false
  rw [hpb, hphys, hword] at haddr
  rw [hpb, hphys] at hraised
  have hcheck : (d0.checkWord w).1 = d0.noteUe w false := by simp only [Dev.checkWord, hecc]
  rw [hcheck]
  have hmark' := (hmark w).trans hecc
  generalize d0.noteUe w false = d1 at *
  exact ⟨hmark', haddr, hstat, hraised, hbefore.trans ⟨hnoted.regs, hnoted.mem⟩⟩

/-! ### Changeover -/

theorem exec_bankChangeover (s : State) : exec .bankChangeover s = s.run fun d => d.changeover := rfl

/-- What the copy's reads leave: marks get better alone, and the engine's place stands. -/
structure Dev.copied (d e : Dev) : Prop extends Dev.noted d e checkRegs where
  draws : e.sk.draws = d.sk.draws
  whorls : ∀ n, e.whorl n = d.whorl n
  queue : e.sk.copyQueue = d.sk.copyQueue
  marks : ∀ i, e.ecc i = d.ecc i ∨ d.ecc i = .correctable ∧ e.ecc i = .good

theorem Dev.copied.rfl : d.copied d := ⟨.rfl, by rfl, fun _ => by rfl, by rfl, fun _ => Or.inl (Eq.refl _)⟩

theorem Dev.copied.trans (h : d.copied e) (g : e.copied f) : d.copied f where
  tonoted := h.tonoted.trans g.tonoted
  draws := g.draws.trans h.draws
  whorls n := (g.whorls n).trans (h.whorls n)
  queue := g.queue.trans h.queue
  marks i := by
    rcases h.marks i with h1 | ⟨h1, h1'⟩ <;> rcases g.marks i with h2 | ⟨h2, h2'⟩
    · exact Or.inl (h2.trans h1)
    · exact Or.inr ⟨h1 ▸ h2, h2'⟩
    · exact Or.inr ⟨h1, h2.trans h1'⟩
    · exact Or.inr ⟨h1, h2'⟩

/-- A good word stays good, and an uncorrectable one uncorrectable. -/
theorem Dev.copied.stays (h : d.copied e) (hi : d.ecc i ≠ .correctable) : e.ecc i = d.ecc i :=
  (h.marks i).resolve_right fun hc => hi hc.1

/-- The words that the copy found uncorrectable so far. -/
def Dev.copyBad (d : Dev) : List Nat := (d.sk.copy.map Copy.bad).getD []

theorem Dev.checkWord_copied : d.copied (d.checkWord a).1 ∧ (d.checkWord a).1.sk.copy = d.sk.copy := by
  obtain ⟨hnoted, hecc, -⟩ := Dev.checkWord_shows (d := d) (a := a)
  have hsk : (d.checkWord a).1.sk.copyQueue = d.sk.copyQueue ∧ (d.checkWord a).1.sk.copy = d.sk.copy ∧
      ∀ n, (d.checkWord a).1.whorl n = d.whorl n := by
    unfold Dev.checkWord
    split
    · exact ⟨by rfl, by rfl, fun _ => by rfl⟩
    · exact ⟨by simp [Dev.noteCe, Dev.incFld, Dev.setRbit, Dev.setFld, Dev.setEcc, Dev.modSk],
        by simp [Dev.noteCe, Dev.incFld, Dev.setRbit, Dev.setFld, Dev.setEcc, Dev.modSk],
        fun n => by simp only [Dev.noteCe, Dev.whorl_raise]; rfl⟩
    all_goals
      exact ⟨by simp [Dev.noteUe, Dev.when, Dev.setRbit], by simp [Dev.noteUe, Dev.when, Dev.setRbit],
        fun n => by simp only [Dev.noteUe, Dev.whorl_raise]; rfl⟩
  refine ⟨⟨hnoted, Dev.draws_checkWord, hsk.2.2, hsk.1, fun i => ?_⟩, hsk.2.1⟩
  rw [hecc]
  split
  · next h =>
    refine Or.inr ⟨?_, rfl⟩
    rw [← h.2]
    simp only [Dev.ecc, h.1]
  · exact Or.inl (Eq.refl _)

/-- A word that the copy reads is corrected, or noted as bad. -/
theorem Dev.copyWord_shows (hc : d.sk.copy.isSome) :
    d.copied (d.copyWord a) ∧ (d.copyWord a).sk.copy.isSome ∧ d.copyBad ⊆ (d.copyWord a).copyBad ∧
    (d.ecc a = .correctable → (d.copyWord a).ecc a = .good) ∧ (d.ecc a = .uncorrectable → a ∈ (d.copyWord a).copyBad) := by
  obtain ⟨hcopied, hcopy⟩ := Dev.checkWord_copied (d := d) (a := a)
  obtain ⟨-, hecc, hbad⟩ := Dev.checkWord_shows (d := d) (a := a)
  obtain ⟨c, hsome⟩ := Option.isSome_iff_exists.mp hc
  simp only [Dev.copyWord]
  generalize d.checkWord a = r at *
  split
  · next hok =>
    refine ⟨hcopied, hcopy ▸ hc, by simp only [Dev.copyBad, hcopy]; exact List.Subset.refl _, fun h => ?_, fun h => ?_⟩
    · rw [hecc, if_pos ⟨rfl, h⟩]
    · rw [hbad.mpr (Or.inl h)] at hok
      exact absurd hok (by decide)
  · refine ⟨⟨⟨hcopied.regs, hcopied.mem⟩, hcopied.draws, hcopied.whorls, hcopied.queue, hcopied.marks⟩, ?_, ?_, fun h => ?_, fun _ => ?_⟩
    · simp [Dev.modSk, hcopy, hsome]
    · simp [Dev.copyBad, Dev.modSk, hcopy, hsome]
    · exact (hecc a).trans (if_pos ⟨rfl, h⟩)
    · simp [Dev.copyBad, Dev.modSk, hcopy, hsome]

theorem Dev.copyWords_shows (ws : List Nat) (hc : d.sk.copy.isSome) :
    d.copied (ws.foldl (fun e a => e.copyWord a) d) ∧ d.copyBad ⊆ (ws.foldl (fun e a => e.copyWord a) d).copyBad ∧
    ∀ a ∈ ws, (d.ecc a = .correctable → (ws.foldl (fun e a => e.copyWord a) d).ecc a = .good) ∧
      (d.ecc a = .uncorrectable → a ∈ (ws.foldl (fun e a => e.copyWord a) d).copyBad) := by
  induction ws generalizing d with
  | nil => exact ⟨.rfl, List.Subset.refl _, fun a ha => absurd ha List.not_mem_nil⟩
  | cons w ws ih =>
    obtain ⟨hcopied, hsome, hbad, hgood, hworse⟩ := Dev.copyWord_shows (a := w) hc
    obtain ⟨hcopied', hbad', hrest⟩ := ih hsome
    refine ⟨hcopied.trans hcopied', List.Subset.trans hbad hbad', fun a ha => ?_⟩
    rcases List.mem_cons.mp ha with rfl | ha
    · refine ⟨fun h => ?_, fun h => hbad' (hworse h)⟩
      exact (hcopied'.stays (by rw [hgood h]; decide)).trans (hgood h)
    · refine ⟨fun h => ?_, fun h => (hrest a ha).2 ?_⟩
      · rcases hcopied.marks a with hm | ⟨-, hm⟩
        · exact (hrest a ha).1 (hm.trans h)
        · exact (hcopied'.stays (by rw [hm]; decide)).trans hm
      · exact (hcopied.stays (by rw [h]; decide)).trans h

/-- The words read once more: one that is uncorrectable stays listed, one that is good does not. -/
theorem Dev.reread_shows (ws : List Nat) :
    d.copied (d.reread ws).1 ∧ (∀ a ∈ ws, d.ecc a = .uncorrectable → a ∈ (d.reread ws).2) ∧
    ∀ a ∈ (d.reread ws).2, d.ecc a ≠ .good := by
  induction ws generalizing d with
  | nil => exact ⟨.rfl, fun a ha => absurd ha List.not_mem_nil, fun a ha => absurd ha List.not_mem_nil⟩
  | cons w ws ih =>
    obtain ⟨hcopied, -⟩ := Dev.checkWord_copied (d := d) (a := w)
    obtain ⟨-, -, hbad⟩ := Dev.checkWord_shows (d := d) (a := w)
    obtain ⟨hcopied', hkept, hleft⟩ := ih (d := (d.checkWord w).1)
    have hleft' : ∀ a ∈ ((d.checkWord w).1.reread ws).2, d.ecc a ≠ .good := fun a ha hgood =>
      hleft a ha ((hcopied.stays (by rw [hgood]; decide)).trans hgood)
    simp only [Dev.reread]
    refine ⟨hcopied.trans hcopied', fun a ha h => ?_, fun a ha => ?_⟩
    · rcases List.mem_cons.mp ha with rfl | ha
      · rw [hbad.mpr (Or.inl h)]
        exact List.mem_cons_self
      · have hmem := hkept a ha ((hcopied.stays (by rw [h]; decide)).trans h)
        split
        · exact hmem
        · exact List.mem_cons_of_mem _ hmem
    · split at ha
      · exact hleft' a ha
      · next hok =>
        rcases List.mem_cons.mp ha with rfl | ha
        · rcases hbad.mp (Bool.eq_false_iff.mpr hok) with h | h <;> rw [h] <;> decide
        · exact hleft' a ha

/-- A word with a mark is listed among those of its bank. -/
theorem Dev.mem_markedIn (ha : a % 4 = 0) (hb : bankOf a = bank) (h : d.ecc a ≠ .good) : a ∈ d.markedIn bank 0 65536 := by
  have hlisted : ∀ m : SMap Ecc, smGet (fun _ => Ecc.good) m (a / 4) ≠ .good → ∃ x ∈ m, x.1 = a / 4 := by
    intro m
    induction m with
    | nil => exact fun h => absurd rfl h
    | cons x m ih =>
      intro h
      obtain ⟨j, v⟩ := x
      by_cases hj : j = a / 4
      · exact ⟨_, List.mem_cons_self, hj⟩
      · obtain ⟨y, hy, hyk⟩ := ih (by simpa [smGet, hj] using h)
        exact ⟨y, List.mem_cons_of_mem _ hy, hyk⟩
  obtain ⟨x, hx, hk⟩ := hlisted _ h
  unfold bankOf at hb
  refine List.mem_filter.mpr ⟨List.mem_map.mpr ⟨x, hx, by omega⟩, ?_⟩
  simp only [Bool.and_eq_true, decide_eq_true_eq]
  omega

theorem smGet_filter {α : Type} (dflt : Nat → α) (m : SMap α) (p : Nat → Bool) (hk : p k = false) :
    smGet dflt (m.filter fun x => p x.1) k = dflt k := by
  induction m with
  | nil => rfl
  | cons x m ih =>
    obtain ⟨j, v⟩ := x
    rw [List.filter_cons]
    split
    · next hj =>
      have hne : j ≠ k := fun h => by
        subst h
        rw [hk] at hj
        exact absurd hj (by decide)
      simpa [smGet, hne] using ih
    · exact ih

/-- The marks of the spare: poison for the words that stayed uncorrectable, none for the others of the bank. -/
theorem Dev.spareMarks_shows (ps : List Nat) :
    (∃ m, d.spareMarks bank ps = d.modSk fun s => { s with ecc := m }) ∧
    (∀ a ∈ ps, (d.spareMarks bank ps).ecc a = .poisoned) ∧
    ∀ a, bankOf a = bank → a % 4 = 0 → (∀ p ∈ ps, p / 4 ≠ a / 4) → (d.spareMarks bank ps).ecc a = .good := by
  have hfold : ∀ (ps : List Nat) (e : Dev),
      (∃ m, ps.foldl (fun e a => e.setEcc a .poisoned) e = e.modSk fun s => { s with ecc := m }) ∧
      ∀ i, (ps.foldl (fun e a => e.setEcc a .poisoned) e).ecc i = if ∃ p ∈ ps, p / 4 = i / 4 then .poisoned else e.ecc i := by
    intro ps
    induction ps with
    | nil => exact fun e => ⟨⟨e.sk.ecc, rfl⟩, fun i => by simp⟩
    | cons p ps ih =>
      intro e
      obtain ⟨⟨m, hm⟩, hecc⟩ := ih (e.setEcc p .poisoned)
      refine ⟨⟨m, by rw [List.foldl_cons, hm]; rfl⟩, fun i => ?_⟩
      rw [List.foldl_cons, hecc, Dev.ecc_setEcc]
      by_cases h1 : ∃ q ∈ ps, q / 4 = i / 4
      · rw [if_pos h1, if_pos (h1.imp fun q hq => ⟨List.mem_cons_of_mem _ hq.1, hq.2⟩)]
      · by_cases h2 : i / 4 = p / 4
        · rw [if_neg h1, if_pos h2, if_pos ⟨p, List.mem_cons_self, h2.symm⟩]
        · rw [if_neg h1, if_neg h2, if_neg]
          rintro ⟨q, hq, hqi⟩
          rcases List.mem_cons.mp hq with rfl | hq
          · exact h2 hqi.symm
          · exact h1 ⟨q, hq, hqi⟩
  obtain ⟨⟨m, hm⟩, hecc⟩ := hfold ps (d.modSk fun s => { s with ecc := s.ecc.filter fun m => decide (bankOf (4 * m.1) ≠ bank) })
  refine ⟨⟨m, hm⟩, fun a ha => (hecc a).trans (if_pos ⟨a, ha, rfl⟩), fun a hb ha hne => (hecc a).trans ?_⟩
  rw [if_neg fun ⟨p, hp, hpa⟩ => hne p hp hpa]
  refine smGet_filter _ d.sk.ecc (fun k => decide (bankOf (4 * k) ≠ bank)) ?_
  rw [show 4 * (a / 4) = a by omega, hb]
  simp

/-- A device that serves a bank from its spare. -/
def Dev.switched (d : Dev) (b p : Nat) (poison : List Nat) : Dev :=
  ((((d.spareMarks b poison).setReg Reg.SKN_RBPROG 0x10000).setFld (Reg.SKN_MAP (b / 4)) (8 * (b % 4) + 4) (8 * (b % 4)) p).setSpareBank
    p 2).modSk fun s => { s with copy := none }

/-- The registers of a changeover. -/
def switchRegs (b : Nat) : List Nat :=
  [Reg.SKN_RBPROG, Reg.SKN_MAP (b / 4), Reg.SKN_SPARE, Reg.SKN_STAT, Reg.SKN_CECNT, Reg.SKN_UEADDR]

theorem Dev.reg_switched (poison : List Nat) {p j : Nat} (h : j ∉ [Reg.SKN_RBPROG, Reg.SKN_MAP (b / 4), Reg.SKN_SPARE]) :
    (d.switched b p poison).reg j = d.reg j := by
  simp only [List.mem_cons, List.not_mem_nil, or_false, not_or] at h
  obtain ⟨⟨m, hm⟩, -⟩ := Dev.spareMarks_shows (d := d) (bank := b) poison
  have hstep : (d.switched b p poison).reg j = ((((d.spareMarks b poison).setReg Reg.SKN_RBPROG 0x10000).setFld
    (Reg.SKN_MAP (b / 4)) (8 * (b % 4) + 4) (8 * (b % 4)) p).setFld Reg.SKN_SPARE (2 * (p - 16) + 1) (2 * (p - 16)) 2).reg j := by rfl
  rw [hstep, Dev.reg_setFld_other _ _ _ _ h.2.2, Dev.reg_setFld_other _ _ _ _ h.2.1, Dev.reg_setReg_other _ _ h.1, hm]
  rfl

theorem map_ne_spare (hb : b < 16) : Reg.SKN_MAP (b / 4) ≠ Reg.SKN_SPARE := by
  simp only [Reg.SKN_MAP, Reg.SKN_SPARE]
  omega

theorem Dev.physBank_switched (poison : List Nat) {p : Nat} (hb : b < 16) (hp : p = 16 ∨ p = 17) :
    (d.switched b p poison).physBank b = p ∧
    (∀ k < 16, k ≠ b → (d.switched b p poison).physBank k = d.physBank k) ∧
    (d.switched b p poison).spareBank p = 2 ∧ (d.switched b p poison).reg Reg.SKN_RBPROG = 0x10000 := by
  obtain ⟨⟨m, hm⟩, -⟩ := Dev.spareMarks_shows (d := d) (bank := b) poison
  have hmarked : ∀ j, (d.spareMarks b poison).reg j = d.reg j := fun j => by rw [hm]; rfl
  unfold Dev.switched Dev.setSpareBank
  generalize d.spareMarks b poison = d0 at *
  generalize hd1 : (d0.setReg Reg.SKN_RBPROG 0x10000).setFld (Reg.SKN_MAP (b / 4)) (8 * (b % 4) + 4) (8 * (b % 4)) p = d1
  have hmap : ∀ k < 16, ((d1.setFld Reg.SKN_SPARE (2 * (p - 16) + 1) (2 * (p - 16)) 2).modSk fun s => { s with copy := none }).physBank k =
      d1.physBank k := fun k hk =>
    Dev.fld_congr (a := Reg.SKN_MAP (k / 4)) (Dev.reg_setFld_other d1 _ _ _ (map_ne_spare hk)) _ _
  refine ⟨?_, fun k hk hne => ?_, ?_, ?_⟩
  · rw [hmap b hb, ← hd1, Dev.physBank, Dev.fld_setFld _ _ _ _ _ (by omega) (by omega),
      show 8 * (b % 4) + 4 + 1 - 8 * (b % 4) = 5 by omega]
    rcases hp with rfl | rfl <;> rfl
  · rw [hmap k hk, ← hd1]
    have hbase : (d0.setReg Reg.SKN_RBPROG 0x10000).reg (Reg.SKN_MAP (k / 4)) = d.reg (Reg.SKN_MAP (k / 4)) := by
      rw [Dev.reg_setReg_other _ _ (by simp only [Reg.SKN_MAP, Reg.SKN_RBPROG]; omega), hmarked]
    refine Eq.trans ?_ (Dev.fld_congr hbase _ _)
    by_cases hreg : k / 4 = b / 4
    · rw [Dev.physBank, hreg, Dev.fld_setFld_other _ _ _ _ _ _ _ (by omega) (by omega) (by omega)]
    · exact Dev.fld_congr (Dev.reg_setFld_other _ _ _ _ (by simp only [Reg.SKN_MAP]; omega)) _ _
  · refine (Dev.fld_setFld d1 Reg.SKN_SPARE (2 * (p - 16) + 1) (2 * (p - 16)) 2 (by omega) (by omega)).trans ?_
    rcases hp with rfl | rfl <;> rfl
  · refine (Dev.reg_setFld_other d1 _ _ _ (by decide)).trans ?_
    rw [← hd1, Dev.reg_setFld_other _ _ _ _ (by simp only [Reg.SKN_MAP, Reg.SKN_RBPROG]; omega), Dev.reg_setReg_same]

theorem Dev.flyerPick_idle (h : d.drawsOf bank = []) : d.flyerPick bank = none := by
  simp [Dev.flyerPick, Dev.raisedDraws, h, oldest, Dev.bestDraw]

/-- The copy as it reads the words that remain, and those it found bad once more. -/
def Dev.copiedBank (d : Dev) (c : Copy) : Dev × List Nat :=
  let d1 := (d.markedIn c.bank (if c.held then c.next + 1 else c.next) 65536).foldl (fun e a => e.copyWord a) d
  d1.reread d1.copyBad

/-- Where nothing of the Skein's traffic is under way, the copy ends at once. -/
theorem Dev.changeover_eq {c : Copy} (hc : d.sk.copy = some c) (hq : d.sk.copyQueue = []) (hs : d.settled)
    (hcut : d.isCut reqEngine = false) :
    d.changeover = (d.copiedBank c).1.switched c.bank c.spare (d.copiedBank c).2 := by
  obtain ⟨hquiet, hnotice⟩ := hs
  have hheld : d.bankHeld c.bank 4 = false := by simp [Dev.bankHeld, hquiet c.bank]
  have hdrain : d.drainN c.bank d.drawFuel = d := by
    cases d.drawFuel with
    | zero => rfl
    | succ n => simp [Dev.drainN, Dev.flyerPick_idle (hquiet c.bank)]
  have hsome : d.sk.copy.isSome := by rw [hc]; rfl
  obtain ⟨hcopied, -⟩ := Dev.copyWords_shows (d.markedIn c.bank (if c.held then c.next + 1 else c.next) 65536) hsome
  obtain ⟨hread, -⟩ := Dev.reread_shows (d := (d.markedIn c.bank (if c.held then c.next + 1 else c.next) 65536).foldl
    (fun e a => e.copyWord a) d) ((d.markedIn c.bank (if c.held then c.next + 1 else c.next) 65536).foldl
    (fun e a => e.copyWord a) d).copyBad
  have hall : d.copied (d.copiedBank c).1 := hcopied.trans hread
  have heq : d.changeover = (((((((d.copiedBank c).1.spareMarks c.bank (d.copiedBank c).2).setReg Reg.SKN_RBPROG 0x10000).setFld
      (Reg.SKN_MAP (c.bank / 4)) (8 * (c.bank % 4) + 4) (8 * (c.bank % 4)) c.spare).setSpareBank c.spare 2).nextCopy).settle
        c.bank).prefetches := by
    simp only [Dev.changeover, hc, hcut, hheld, hdrain, Bool.or_self, Bool.false_eq_true, if_false]
    rfl
  obtain ⟨⟨m, hm⟩, -⟩ := Dev.spareMarks_shows (d := (d.copiedBank c).1) (bank := c.bank) (d.copiedBank c).2
  generalize d.copiedBank c = r at *
  have hnext : ∀ x : Dev, x.sk.copyQueue = [] → x.nextCopy = x.modSk fun s => { s with copy := none } := fun x hx => by
    simp only [Dev.nextCopy, hx]
  rw [heq, hnext _ (by rw [hm]; exact hall.queue.trans hq)]
  have hidle : (r.1.switched c.bank c.spare r.2).drawsOf c.bank = [] := by
    rw [← hquiet c.bank, Dev.switched, hm]
    exact congrArg (fun q => smGet (fun _ => []) q c.bank) hall.draws
  have hcalm : ∀ n, ((r.1.switched c.bank c.spare r.2).whorl n).notice = false := fun n => by
    rw [← hnotice n, ← hall.whorls n, Dev.switched, hm]
    rfl
  exact (congrArg Dev.prefetches (Dev.settle_idle hidle)).trans (Dev.prefetches_idle hcalm)

theorem Dev.changeover_shows {c : Copy} (hb : b < 16) (hc : d.sk.copy = some c) (hbank : c.bank = b)
    (hp : c.spare = 16 ∨ c.spare = 17) (hq : d.sk.copyQueue = []) (hs : d.settled) (hcut : d.isCut reqEngine = false) :
    d.changeover.physBank b = c.spare ∧ d.changeover.spareBank c.spare = 2 ∧ d.changeover.sk.copy = none ∧
    d.changeover.reg Reg.SKN_RBPROG = 0x10000 ∧ (∀ k < 16, k ≠ b → d.changeover.physBank k = d.physBank k) ∧
    d.sameMem d.changeover ∧
    (∀ a, bankOf a = b → a % 4 = 0 → c.next = 0 → c.held = false → d.ecc a = .uncorrectable → d.changeover.ecc a = .poisoned) ∧
    (∀ a, bankOf a = b → a % 4 = 0 → c.next = 0 → c.held = false → d.ecc a = .correctable → d.changeover.ecc a = .good) ∧
    d.sameRegs d.changeover (switchRegs b) := by
  subst hbank
  have hsome : d.sk.copy.isSome := by rw [hc]; rfl
  obtain ⟨hcopied, -, hwords⟩ := Dev.copyWords_shows (d.markedIn c.bank (if c.held then c.next + 1 else c.next) 65536) hsome
  rw [Dev.changeover_eq hc hq hs hcut]
  unfold Dev.copiedBank
  dsimp only
  generalize hd1 : (d.markedIn c.bank (if c.held then c.next + 1 else c.next) 65536).foldl (fun e a => e.copyWord a) d = d1 at *
  obtain ⟨hread, hlisted, hbad⟩ := Dev.reread_shows (d := d1) d1.copyBad
  generalize d1.reread d1.copyBad = r at *
  have hall := hcopied.trans hread
  obtain ⟨⟨m, hm⟩, hpois, hgood⟩ := Dev.spareMarks_shows (d := r.1) (bank := c.bank) r.2
  obtain ⟨hserves, hothers, hspare, hprog⟩ := Dev.physBank_switched (d := r.1) r.2 hb hp
  have hmark : ∀ a, (r.1.switched c.bank c.spare r.2).ecc a = (r.1.spareMarks c.bank r.2).ecc a := fun a => by rfl
  have hmarked : ∀ a, bankOf a = c.bank → a % 4 = 0 → c.next = 0 → c.held = false → d.ecc a ≠ .good →
      a ∈ d.markedIn c.bank (if c.held then c.next + 1 else c.next) 65536 := fun a hab ha hn hh hne => by
    rw [hh, hn]
    exact Dev.mem_markedIn ha hab hne
  refine ⟨hserves, hspare, by rfl, hprog, fun k hk hne => (hothers k hk hne).trans ?_, fun a => ?_, fun a hab ha hn hh he => ?_,
    fun a hab ha hn hh he => ?_, fun j hj => ?_⟩
  · refine Dev.fld_congr (hall.regs _ ?_) _ _
    have hmap : Reg.SKN_MAP (k / 4) < 0x37000010 := by simp only [Reg.SKN_MAP]; omega
    generalize Reg.SKN_MAP (k / 4) = x at *
    intro hx
    fin_cases hx <;> exact absurd hmap (by decide)
  · rw [← hall.mem a, Dev.switched, hm]
    rfl
  · rw [hmark]
    exact hpois a (hlisted a ((hwords a (hmarked a hab ha hn hh (by rw [he]; decide))).2 he)
      ((hcopied.stays (by rw [he]; decide)).trans he))
  · rw [hmark]
    refine hgood a hab ha fun p hp hpa => hbad p hp ?_
    rw [← (hwords a (hmarked a hab ha hn hh (by rw [he]; decide))).1 he]
    simp only [Dev.ecc, hpa]
  · rw [Dev.reg_switched _ fun h => hj ?_]
    · refine hall.regs j fun h => hj ?_
      simp only [checkRegs, List.mem_cons, List.not_mem_nil, or_false] at h
      simp only [switchRegs, List.mem_cons, List.not_mem_nil, or_false]
      tauto
    · simp only [List.mem_cons, List.not_mem_nil, or_false] at h
      simp only [switchRegs, List.mem_cons, List.not_mem_nil, or_false]
      tauto

/-! ### The obligation -/

/-- Settles O31: the watchdog's bite by what any traffic without the cut port leaves, the scrub by the check of its one
struck word, the changeover by what the copy's reads do to marks. -/
theorem skeinEvents : Obligations.SkeinEvents := by
  unfold Obligations.SkeinEvents
  intro b line ln wd found s
  intro d pb hclk
  have hb := b.isLt
  refine ⟨fun h => exec_idle_of_run (exec_bankWatchdogBite b s) ?_, fun dr h hc ht => ⟨?_, fun hmine hn => ?_⟩,
    fun h => exec_idle_of_run (exec_lockBreak line s) ?_, fun i ho hw hs => ?_,
    fun hoff => exec_idle_of_run (exec_scrubLine b ln [] s) ?_, fun hq hcut => ?_, ?_,
    fun h => exec_idle_of_run (exec_bankChangeover s) ?_, fun c hc hbank hp hq hs hcut => ?_⟩
  · change d.bankBite b = d
    simp only [Dev.bankBite, h]
  · have hcalm : ∀ b, ∀ y ∈ d.drawsOf b, calmTag y := fun b y hy => (ht b y hy).imp_right Or.inl
    obtain ⟨hcut, hstat, hhang, hraised, hleft⟩ := Dev.bankBite_shows h hc hcalm
    exact .of_run (exec_bankWatchdogBite b s) hclk ⟨hcut, hstat, hhang, hraised, fun k => hleft k k.isLt⟩
  · have hcalm : ∀ b, ∀ y ∈ d.drawsOf b, calmTag y := fun b y hy => (ht b y hy).imp_right Or.inl
    exact .of_run (exec_bankWatchdogBite b s) hclk (Dev.bankBite_alone h hb hc hcalm hmine hn)
  · change d.breakLock line.toNat = d
    unfold Dev.breakLock
    rcases h with h | h
    · simp only [h]
    · simp only [h]
      split <;> rfl
  · exact .of_run (exec_lockBreak line s) hclk (Dev.breakLock_shows ho hw hs)
  · change d.scrub b ln [] = d
    rw [Dev.scrub_eq, if_neg (by rw [hoff]; decide)]
    rfl
  · refine .of_run (exec_scrubLine b ln found s) hclk ?_
    obtain ⟨hnoted, hecc⟩ := Dev.scrub_noted found hb ln.isLt hq hcut
    exact ⟨hnoted.mem, hnoted.regs, hecc⟩
  · intro a w hon hgood hq hcut
    obtain ⟨hmark, hcnt, hstat, hraised, hnoted⟩ := Dev.scrub_corrects hb ln.isLt wd.isLt hq hcut hon hgood
    obtain ⟨hmark', haddr, hstat', hraised', hnoted'⟩ := Dev.scrub_reports hb ln.isLt wd.isLt hq hcut hon hgood
    exact ⟨.of_run (exec_scrubLine b ln [(wd, false)] s) hclk ⟨hmark, hcnt, hstat, hraised, hnoted.mem, hnoted.regs⟩,
      .of_run (exec_scrubLine b ln [(wd, true)] s) hclk ⟨hmark', haddr, hstat', hraised', hnoted'.mem, hnoted'.regs⟩⟩
  · change d.changeover = d
    simp only [Dev.changeover, h]
  · obtain ⟨hserves, hspare, hcopy, hprog, hothers, hrest⟩ := Dev.changeover_shows hb hc hbank hp hq hs hcut
    exact .of_run (exec_bankChangeover s) hclk
      ⟨hserves, hspare, hcopy, hprog, fun k hne => hothers k k.isLt fun h => hne (Fin.ext h), hrest⟩

end Sys2Proof.Machine
end

section
/-! Position inputs (R323 to R329) and the control pilot (R388, R389): what a land's level makes of a unit, through its
filter and its accepted level. -/

namespace Sys2Proof.Machine

variable {d e f : Dev} {s : State} {n h : Nat} {a b z : Bool}

/-! ### Encoders -/

theorem exec_encoderEdge (n : Fin 4) (a b : Bool) (s : State) : exec (.encoderEdge n a b) s = s.run fun d => d.encEdge n a b := rfl

theorem exec_encoderIndex (i : IndexLevel) (s : State) : exec (.encoderIndex i) s = s.run fun d => d.encIndex i.e i.z := rfl

@[simp] theorem Dev.enc_modEnc_same (g : Encoder → Encoder) : (d.modEnc n g).enc n = g (d.enc n) := smGet_smSet_same ..

@[simp] theorem Dev.reg_modEnc (g : Encoder → Encoder) (j : Nat) : (d.modEnc n g).reg j = d.reg j := rfl

@[simp] theorem Dev.byte_modEnc (g : Encoder → Encoder) (j : Nat) : (d.modEnc n g).byte j = d.byte j := rfl

@[simp] theorem Dev.now_modEnc (g : Encoder → Encoder) : (d.modEnc n g).now = d.now := rfl

@[simp] theorem Dev.reports_modEnc (g : Encoder → Encoder) : (d.modEnc n g).reports = d.reports := rfl

@[simp] theorem Dev.rbit_modEnc (g : Encoder → Encoder) (j i : Nat) : (d.modEnc n g).rbit j i = d.rbit j i := rfl

@[simp] theorem Dev.fld_modEnc (g : Encoder → Encoder) (j hi lo : Nat) : (d.modEnc n g).fld j hi lo = d.fld j hi lo := rfl

@[simp] theorem Dev.enc_setRbit (j i : Nat) (v : Bool) : (d.setRbit j i v).enc n = d.enc n := rfl

theorem Dev.keeps.enc {but : List Nat} (h : d.keeps e but) (g : Encoder → Encoder) : d.keeps (e.modEnc n g) but :=
  h.same (by rfl) (by rfl)

theorem Dev.keeps.report {but : List Nat} (h : d.keeps e but) (i j : Nat) : d.keeps (e.raise i j) but :=
  h.same (Dev.raise_sk ..) (Dev.raise_regs ..)

/-- An encoder whose filter waits for no land: what stands at its lands is what it has accepted. -/
structure Encoder.calm (x : Encoder) : Prop where
  pa : x.pa = none
  pb : x.pb = none
  pz : x.pz = none

/-- The time since which a land of a calm input differs. -/
def sinceNow (acc level : Bool) (now : Nat) : Option Nat := if level = acc then none else some now

theorem feed_none (acc level : Bool) (now : Nat) : feed acc none level now = sinceNow acc level now := rfl

theorem stable_sinceNow (acc level : Bool) (filt now : Nat) :
    stable (sinceNow acc level now) filt now = (decide (level ≠ acc) && decide (filt = 0)) := by
  unfold sinceNow stable
  by_cases h : level = acc
  · simp [h]
  · simp [h]

theorem xor_differs (acc level : Bool) : xor acc (decide (level ≠ acc)) = level := by cases acc <;> cases level <;> rfl

/-- A level that is accepted as it comes is waited for no more. -/
theorem taken_feed (acc level : Bool) (now : Nat) :
    (if decide (level ≠ acc) = true then none else feed acc none level now) = none := by
  by_cases h : level = acc <;> simp [feed, h]

/-- A device whose encoder has the same record, whatever the form of its memory. -/
structure Dev.encLike (n : Nat) (d e : Dev) : Prop where
  enc : e.enc n = d.enc n
  regs : ∀ j, e.reg j = d.reg j
  mem : d.sameMem e
  now : e.now = d.now
  reports : e.reports = d.reports

theorem Dev.encLike.rbit (k : Dev.encLike n d e) (j i : Nat) : e.rbit j i = d.rbit j i := Dev.rbit_congr (k.regs j) i

theorem Dev.encLike.keeps (k : Dev.encLike n d e) {but : List Nat} (h : e.keeps f but) : d.keeps f but :=
  ⟨fun x => (h.1 x).trans (k.mem x), fun j hj => (h.2 j hj).trans (k.regs j)⟩

/-- With no filter the levels of A and B are accepted as they come. -/
theorem Dev.encEdge_open (hx : (d.enc n).calm) (hf : d.fld (Reg.POS_ECTL n) 7 4 = 0) :
    ∃ e, Dev.encLike n d e ∧ d.encEdge n a b = e.encAccept n a b := by
  obtain ⟨ha, hb, hz⟩ := hx
  simp only [Dev.encEdge, Dev.encFilter, Dev.enc_modEnc_same, Dev.fld_modEnc, Dev.now_modEnc, ha, hb, hz, feed_none, hf,
    stable_sinceNow, decide_true, Bool.and_true, xor_differs]
  rw [if_neg (by simp [stable])]
  refine ⟨_, ⟨?_, fun _ => by rfl, fun _ => by rfl, by rfl, by rfl⟩, Eq.refl _⟩
  simp only [Dev.enc_modEnc_same]
  generalize d.enc n = x at *
  cases x
  subst ha hb hz
  dsimp only
  simp only [taken_feed]

/-- With a filter the levels of A and B wait. -/
theorem Dev.encEdge_filtered (hx : (d.enc n).calm) (hf : d.fld (Reg.POS_ECTL n) 7 4 ≠ 0) :
    ((d.encEdge n a b).enc n).a = (d.enc n).a ∧ ((d.encEdge n a b).enc n).b = (d.enc n).b ∧
    ((d.encEdge n a b).enc n).pa = sinceNow (d.enc n).a a d.now ∧
    ((d.encEdge n a b).enc n).pb = sinceNow (d.enc n).b b d.now ∧ d.keeps (d.encEdge n a b) [] := by
  obtain ⟨ha, hb, hz⟩ := hx
  simp only [Dev.encEdge, Dev.encFilter, Dev.enc_modEnc_same, Dev.fld_modEnc, Dev.now_modEnc, ha, hb, hz, feed_none, hf,
    stable_sinceNow, decide_false, Bool.and_false, Bool.xor_false, Bool.false_eq_true, if_false]
  rw [if_neg (by simp [stable])]
  simp only [Dev.encAccept, Dev.enc_modEnc_same, and_self, if_true, ha, hb, feed_none]
  exact ⟨trivial, trivial, trivial, trivial, (Dev.keeps.enc .rfl _).enc _⟩

/-- With no filter a level of Z is accepted as it comes. -/
theorem Dev.encIndex_open (hx : (d.enc n).calm) (hf : d.fld (Reg.POS_ECTL n) 7 4 = 0) :
    ∃ e, Dev.encLike n d e ∧ d.encIndex n z = if z = (d.enc n).z then e else e.encZ n z := by
  obtain ⟨ha, hb, hz⟩ := hx
  have hnone : ∀ t, stable none 0 t = false := fun _ => rfl
  simp only [Dev.encIndex, Dev.encFilter, Dev.enc_modEnc_same, Dev.fld_modEnc, Dev.now_modEnc, ha, hb, hz, feed_none, hf,
    stable_sinceNow, decide_true, Bool.and_true, hnone, Bool.xor_false, Bool.false_eq_true, if_false]
  simp only [Dev.encAccept, Dev.enc_modEnc_same, and_self, if_true]
  by_cases h : z = (d.enc n).z
  · refine ⟨_, ?_, (if_neg (by simp [h])).trans (if_pos h).symm⟩
    refine ⟨?_, fun _ => by rfl, fun _ => by rfl, by rfl, by rfl⟩
    simp only [Dev.enc_modEnc_same]
    generalize d.enc n = x at *
    cases x
    subst ha hb hz h
    simp [feed]
  · have hnot : (!(d.enc n).z) = z := by
      revert h
      cases z <;> cases (d.enc n).z <;> simp
    rw [hnot]
    refine ⟨_, ?_, (if_pos (by simpa using h)).trans (if_neg h).symm⟩
    refine ⟨?_, fun _ => by rfl, fun _ => by rfl, by rfl, by rfl⟩
    simp only [Dev.enc_modEnc_same]
    generalize d.enc n = x at *
    cases x
    subst ha hb hz
    rfl

theorem Dev.encIndex_filtered (hx : (d.enc n).calm) (hf : d.fld (Reg.POS_ECTL n) 7 4 ≠ 0) :
    ((d.encIndex n z).enc n).z = (d.enc n).z ∧ ((d.encIndex n z).enc n).pz = sinceNow (d.enc n).z z d.now ∧
    d.keeps (d.encIndex n z) [] := by
  obtain ⟨ha, hb, hz⟩ := hx
  have hnone : ∀ t u, stable none t u = false := fun _ _ => rfl
  simp only [Dev.encIndex, Dev.encFilter, Dev.enc_modEnc_same, Dev.fld_modEnc, Dev.now_modEnc, ha, hb, hz, feed_none, hf,
    stable_sinceNow, decide_false, Bool.and_false, hnone, Bool.xor_false, Bool.false_eq_true, if_false]
  simp only [Dev.encAccept, Dev.enc_modEnc_same, and_self, if_true, hz, feed_none]
  exact ⟨trivial, trivial, (Dev.keeps.enc .rfl _).enc _⟩

/-! ### Accepted levels -/

/-- A unit that is off, or whose levels stand, only follows them. -/
theorem Dev.encAccept_follows (h : d.rbit (Reg.POS_ECTL n) 0 = false ∨ a = (d.enc n).a ∧ b = (d.enc n).b) :
    ((d.encAccept n a b).enc n).a = a ∧ ((d.encAccept n a b).enc n).b = b ∧
    ((d.encAccept n a b).enc n).edgeAt = (d.enc n).edgeAt ∧ (d.encAccept n a b).reports = d.reports ∧
    d.keeps (d.encAccept n a b) [] := by
  by_cases hs : a = (d.enc n).a ∧ b = (d.enc n).b
  · simp only [Dev.encAccept, if_pos hs]
    exact ⟨hs.1.symm, hs.2.symm, trivial, trivial, .rfl⟩
  · have hoff := h.resolve_right hs
    simp only [Dev.encAccept, if_neg hs, hoff, Bool.not_false, if_true, Dev.enc_modEnc_same, Dev.reports_modEnc]
    exact ⟨trivial, trivial, trivial, trivial, Dev.keeps.enc .rfl _⟩

/-- A change of both is an error. -/
theorem Dev.encAccept_error (hon : d.rbit (Reg.POS_ECTL n) 0 = true) (hq : d.rbit (Reg.POS_ECTL n) 1 = false)
    (ha : a ≠ (d.enc n).a) (hb : b ≠ (d.enc n).b) :
    (d.encAccept n a b).rbit (Reg.POS_ESTAT n) 2 = true ∧ (d.encAccept n a b).raised Src.POS_ENCERR n ∧
    ((d.encAccept n a b).enc n).a = a ∧ ((d.encAccept n a b).enc n).b = b ∧ ((d.encAccept n a b).enc n).errSince = true ∧
    d.keeps (d.encAccept n a b) [Reg.POS_ESTAT n] := by
  have heq : d.encAccept n a b = ((d.modEnc n fun x => { x with a := a, b := b, errSince := true }).setRbit
      (Reg.POS_ESTAT n) 2 true).raise Src.POS_ENCERR n := by
    simp [Dev.encAccept, hon, hq, ha, hb]
  rw [heq]
  refine ⟨?_, Dev.mem_raise _ _ _, by simp, by simp, by simp, ?_⟩
  · rw [Dev.rbit_congr (Dev.reg_raise ..), Dev.rbit_setRbit _ _ _ _ _ (by decide), if_pos rfl]
  · exact (((Dev.keeps.enc .rfl _).bit _ _ _ (by simp)).report _ _)

/-- One step of A or B is counted. -/
theorem Dev.encAccept_counts (hon : d.rbit (Reg.POS_ECTL n) 0 = true) (hq : d.rbit (Reg.POS_ECTL n) 1 = false)
    (hz : (d.enc n).zAt ≠ some d.now) (hs : (a ≠ (d.enc n).a ∧ b = (d.enc n).b) ∨ (a = (d.enc n).a ∧ b ≠ (d.enc n).b)) :
    (d.encAccept n a b).reg (Reg.POS_ECNT n) =
      (if xor (quadUp (d.enc n).a (d.enc n).b a b) (d.rbit (Reg.POS_ECTL n) 2) then d.reg (Reg.POS_ECNT n) + 1
        else d.reg (Reg.POS_ECNT n) - 1) ∧
    ((d.encAccept n a b).enc n).a = a ∧ ((d.encAccept n a b).enc n).b = b ∧
    ((d.encAccept n a b).enc n).edgeAt = d.now ∧
    ((d.encAccept n a b).enc n).gap = min (d.now - (d.enc n).edgeAt) 0xFFFFFF ∧
    d.keeps (d.encAccept n a b) [Reg.POS_ECNT n] := by
  have hne : ¬ (a = (d.enc n).a ∧ b = (d.enc n).b) := fun h => hs.elim (fun k => k.1 h.1) fun k => k.2 h.2
  have hone : ¬ (a ≠ (d.enc n).a ∧ b ≠ (d.enc n).b) := fun h => hs.elim (fun k => h.2 k.2) fun k => h.1 k.1
  have heq : d.encAccept n a b = (d.modEnc n fun x => { x with a := a, b := b }).countEdge n
      (xor (quadUp (d.enc n).a (d.enc n).b a b) (d.rbit (Reg.POS_ECTL n) 2)) := by
    unfold Dev.encAccept
    simp only [if_neg hne, hon, hq, Bool.not_true, Bool.false_eq_true, if_false, if_neg hone]
  rw [heq]
  generalize xor (quadUp (d.enc n).a (d.enc n).b a b) (d.rbit (Reg.POS_ECTL n) 2) = up
  simp only [Dev.countEdge, Dev.enc_modEnc_same, Dev.now_modEnc, if_neg hz, Dev.reg_modEnc]
  refine ⟨Dev.reg_setReg_same .., ?_⟩
  simp only [Dev.enc_setReg, Dev.enc_modEnc_same, sat24]
  exact ⟨trivial, trivial, trivial, trivial, ((Dev.keeps.enc .rfl _).enc _).set _ _ (by simp)⟩

/-- An edge of a PWM-in input times its cycle. -/
theorem Dev.encAccept_pwm (hon : d.rbit (Reg.POS_ECTL n) 0 = true) (hp : d.rbit (Reg.POS_ECTL n) 1 = true)
    (ha : a ≠ (d.enc n).a) : d.encAccept n a b = d.modEnc n fun x => { x.pwmEdge d.now a with b := b } := by
  simp [Dev.encAccept, hon, hp, ha]

/-- An accepted level of A, in PWM-in mode. -/
theorem Encoder.pwmEdge_shows (x : Encoder) (now : Nat) (ha : a ≠ x.a) :
    (x.pwmEdge now a).a = a ∧ (x.pwmEdge now a).sat = false ∧ (x.pwmEdge now a).edgeAt = now ∧
    (a = false → (x.pwmEdge now a).hiNow = min (now - x.riseAt) 0xFFFFFF) ∧
    (a = true → (x.pwmEdge now a).riseAt = now ∧
      (x.risen = true → (x.pwmEdge now a).high = x.hiNow ∧ (x.pwmEdge now a).per = min (now - x.riseAt) 0xFFFFFF)) := by
  unfold Encoder.pwmEdge sat24
  rw [if_neg ha]
  cases a <;> simp +contextual

/-- An index that copies nothing. -/
theorem Dev.encZ_follows (h : d.rbit (Reg.POS_ECTL n) 0 = false ∨ z = false) :
    ((d.encZ n z).enc n).z = z ∧ ((d.encZ n z).enc n).zSince = (d.enc n).zSince ∧ d.keeps (d.encZ n z) [] := by
  have heq : d.encZ n z = d.modEnc n fun x => { x with z := z } := by
    rcases h with h | h <;> simp [Dev.encZ, h]
  rw [heq]
  simp only [Dev.enc_modEnc_same]
  exact ⟨trivial, trivial, Dev.keeps.enc .rfl _⟩

/-- A rising index of a PWM-in input shows in the next record. -/
theorem Dev.encZ_pwm (hon : d.rbit (Reg.POS_ECTL n) 0 = true) (hp : d.rbit (Reg.POS_ECTL n) 1 = true) (hz : (d.enc n).z = false) :
    ((d.encZ n true).enc n).z = true ∧ ((d.encZ n true).enc n).zSince = true ∧ d.keeps (d.encZ n true) [] := by
  simp only [Dev.encZ, hon, hp, hz, Bool.not_true, Bool.not_false, Bool.and_false, Bool.and_true, Bool.false_eq_true, if_false, if_true,
    Dev.enc_modEnc_same]
  exact ⟨trivial, trivial, (Dev.keeps.enc .rfl _).enc _⟩

theorem pos_regs_apart (n : Nat) : Reg.POS_EZCNT n ≠ Reg.POS_ECNT n ∧ Reg.POS_EZCNT n ≠ Reg.POS_ESTAT n ∧
    Reg.POS_ECNT n ≠ Reg.POS_ESTAT n := by
  simp only [Reg.POS_EZCNT, Reg.POS_ECNT, Reg.POS_ESTAT]
  omega

/-- A rising index copies the count, and resets it where it shall. -/
theorem Dev.encZ_copies (hon : d.rbit (Reg.POS_ECTL n) 0 = true) (hq : d.rbit (Reg.POS_ECTL n) 1 = false) (hz : (d.enc n).z = false) :
    (d.encZ n true).reg (Reg.POS_EZCNT n) = d.reg (Reg.POS_ECNT n) ∧
    (d.encZ n true).reg (Reg.POS_ECNT n) = (if d.rbit (Reg.POS_ECTL n) 3 then 0 else d.reg (Reg.POS_ECNT n)) ∧
    (d.encZ n true).rbit (Reg.POS_ESTAT n) 1 = true ∧ ((d.encZ n true).enc n).zSince = true ∧
    d.keeps (d.encZ n true) [Reg.POS_EZCNT n, Reg.POS_ECNT n, Reg.POS_ESTAT n] := by
  obtain ⟨hzc, hzs, hcs⟩ := pos_regs_apart n
  simp only [Dev.encZ, hon, hq, hz, Bool.not_false, Bool.and_true, if_true]
  generalize hd1 : (((d.modEnc n fun x => { x with z := true }).setReg (Reg.POS_EZCNT n) (d.reg (Reg.POS_ECNT n))).setRbit
    (Reg.POS_ESTAT n) 1 true).modEnc n (fun x => { x with zSince := true, zAt := some d.now }) = d1
  have hcopy : d1.reg (Reg.POS_EZCNT n) = d.reg (Reg.POS_ECNT n) := by
    rw [← hd1, Dev.reg_modEnc, Dev.reg_setRbit_other _ _ _ hzs, Dev.reg_setReg_same]
  have hcount : d1.reg (Reg.POS_ECNT n) = d.reg (Reg.POS_ECNT n) := by
    rw [← hd1, Dev.reg_modEnc, Dev.reg_setRbit_other _ _ _ hcs, Dev.reg_setReg_other _ _ hzc.symm, Dev.reg_modEnc]
  have hstat : d1.rbit (Reg.POS_ESTAT n) 1 = true := by
    rw [← hd1, Dev.rbit_modEnc, Dev.rbit_setRbit _ _ _ _ _ (by decide), if_pos rfl]
  have hsince : (d1.enc n).zSince = true := by rw [← hd1, Dev.enc_modEnc_same]
  have hkeeps : d.keeps d1 [Reg.POS_EZCNT n, Reg.POS_ECNT n, Reg.POS_ESTAT n] := by
    rw [← hd1]
    exact (((Dev.keeps.enc .rfl _).set _ _ (by simp)).bit _ _ _ (by simp)).enc _
  unfold Dev.when
  split
  · refine ⟨by rw [Dev.reg_setReg_other _ _ hzc, hcopy], Dev.reg_setReg_same .., ?_, hsince, hkeeps.set _ _ (by simp)⟩
    rw [Dev.rbit_congr (Dev.reg_setReg_other _ _ hcs.symm), hstat]
  · exact ⟨hcopy, hcount, hstat, hsince, hkeeps⟩

/-! ### Edges without a filter -/

section

variable (hx : (d.enc n).calm) (hf : d.fld (Reg.POS_ECTL n) 7 4 = 0)

include hx hf

theorem Dev.encEdge_follows (h : d.rbit (Reg.POS_ECTL n) 0 = false ∨ a = (d.enc n).a ∧ b = (d.enc n).b) :
    ((d.encEdge n a b).enc n).a = a ∧ ((d.encEdge n a b).enc n).b = b ∧
    ((d.encEdge n a b).enc n).edgeAt = (d.enc n).edgeAt ∧ (d.encEdge n a b).reports = d.reports ∧
    d.keeps (d.encEdge n a b) [] := by
  obtain ⟨e, hlike, heq⟩ := Dev.encEdge_open (a := a) (b := b) hx hf
  rw [← hlike.enc, ← hlike.rbit] at h
  obtain ⟨ha, hb, hat, hrep, hk⟩ := Dev.encAccept_follows h
  rw [heq]
  exact ⟨ha, hb, hat.trans (congrArg _ hlike.enc), hrep.trans hlike.reports, hlike.keeps hk⟩

theorem Dev.encEdge_error (hon : d.rbit (Reg.POS_ECTL n) 0 = true) (hq : d.rbit (Reg.POS_ECTL n) 1 = false)
    (ha : a ≠ (d.enc n).a) (hb : b ≠ (d.enc n).b) :
    (d.encEdge n a b).rbit (Reg.POS_ESTAT n) 2 = true ∧ (d.encEdge n a b).raised Src.POS_ENCERR n ∧
    ((d.encEdge n a b).enc n).a = a ∧ ((d.encEdge n a b).enc n).b = b ∧ ((d.encEdge n a b).enc n).errSince = true ∧
    d.keeps (d.encEdge n a b) [Reg.POS_ESTAT n] := by
  obtain ⟨e, hlike, heq⟩ := Dev.encEdge_open (a := a) (b := b) hx hf
  rw [← hlike.rbit] at hon hq
  rw [← hlike.enc] at ha hb
  obtain ⟨hstat, hrep, ha, hb, herr, hk⟩ := Dev.encAccept_error hon hq ha hb
  rw [heq]
  exact ⟨hstat, hrep, ha, hb, herr, hlike.keeps hk⟩

theorem Dev.encEdge_counts (hon : d.rbit (Reg.POS_ECTL n) 0 = true) (hq : d.rbit (Reg.POS_ECTL n) 1 = false)
    (hz : (d.enc n).zAt ≠ some d.now) (hs : (a ≠ (d.enc n).a ∧ b = (d.enc n).b) ∨ (a = (d.enc n).a ∧ b ≠ (d.enc n).b)) :
    (d.encEdge n a b).reg (Reg.POS_ECNT n) =
      (if xor (quadUp (d.enc n).a (d.enc n).b a b) (d.rbit (Reg.POS_ECTL n) 2) then d.reg (Reg.POS_ECNT n) + 1
        else d.reg (Reg.POS_ECNT n) - 1) ∧
    ((d.encEdge n a b).enc n).a = a ∧ ((d.encEdge n a b).enc n).b = b ∧ ((d.encEdge n a b).enc n).edgeAt = d.now ∧
    ((d.encEdge n a b).enc n).gap = min (d.now - (d.enc n).edgeAt) 0xFFFFFF ∧ d.keeps (d.encEdge n a b) [Reg.POS_ECNT n] := by
  obtain ⟨e, hlike, heq⟩ := Dev.encEdge_open (a := a) (b := b) hx hf
  rw [← hlike.rbit] at hon hq
  rw [← hlike.enc, ← hlike.now] at hz
  rw [← hlike.enc] at hs
  obtain ⟨hcnt, ha, hb, hat, hgap, hk⟩ := Dev.encAccept_counts hon hq hz hs
  rw [hlike.enc, hlike.rbit, hlike.regs] at hcnt
  rw [hlike.enc, hlike.now] at hgap
  rw [heq]
  exact ⟨hcnt, ha, hb, hat.trans hlike.now, hgap, hlike.keeps hk⟩

theorem Dev.encEdge_pwm (hon : d.rbit (Reg.POS_ECTL n) 0 = true) (hp : d.rbit (Reg.POS_ECTL n) 1 = true) (ha : a ≠ (d.enc n).a) :
    ((d.encEdge n a b).enc n).a = a ∧ ((d.encEdge n a b).enc n).sat = false ∧ ((d.encEdge n a b).enc n).edgeAt = d.now ∧
    d.keeps (d.encEdge n a b) [] ∧
    (a = false → ((d.encEdge n a b).enc n).hiNow = min (d.now - (d.enc n).riseAt) 0xFFFFFF) ∧
    (a = true → ((d.encEdge n a b).enc n).riseAt = d.now ∧
      ((d.enc n).risen = true → ((d.encEdge n a b).enc n).high = (d.enc n).hiNow ∧
        ((d.encEdge n a b).enc n).per = min (d.now - (d.enc n).riseAt) 0xFFFFFF)) := by
  obtain ⟨e, hlike, heq⟩ := Dev.encEdge_open (a := a) (b := b) hx hf
  obtain ⟨hacc, hsat, hat, hfall, hrise⟩ := Encoder.pwmEdge_shows (d.enc n) d.now ha
  rw [← hlike.rbit] at hon hp
  rw [heq, Dev.encAccept_pwm hon hp (hlike.enc ▸ ha)]
  simp only [Dev.enc_modEnc_same, hlike.enc, hlike.now]
  exact ⟨hacc, hsat, hat, hlike.keeps (.enc .rfl _), hfall, hrise⟩

theorem Dev.encIndex_follows (h : d.rbit (Reg.POS_ECTL n) 0 = false ∨ z = false ∨ (d.enc n).z = true) :
    ((d.encIndex n z).enc n).z = z ∧ ((d.encIndex n z).enc n).zSince = (d.enc n).zSince ∧ d.keeps (d.encIndex n z) [] := by
  obtain ⟨e, hlike, heq⟩ := Dev.encIndex_open (z := z) hx hf
  rw [heq]
  by_cases hz : z = (d.enc n).z
  · rw [if_pos hz, hlike.enc]
    exact ⟨hz.symm, rfl, hlike.keeps .rfl⟩
  · have hfollow : e.rbit (Reg.POS_ECTL n) 0 = false ∨ z = false := by
      rw [hlike.rbit]
      rcases h with h | h | h
      · exact Or.inl h
      · exact Or.inr h
      · rw [h] at hz
        exact Or.inr (Bool.eq_false_of_not_eq_true hz)
    obtain ⟨hz', hsince, hk⟩ := Dev.encZ_follows hfollow
    rw [if_neg hz]
    exact ⟨hz', hsince.trans (congrArg _ hlike.enc), hlike.keeps hk⟩

/-- A rising index, as the unit's Z is accepted. -/
theorem Dev.encIndex_rises (hz : (d.enc n).z = false) : ∃ e, Dev.encLike n d e ∧ d.encIndex n true = e.encZ n true := by
  obtain ⟨e, hlike, heq⟩ := Dev.encIndex_open (z := true) hx hf
  exact ⟨e, hlike, heq.trans (if_neg (by rw [hz]; decide))⟩

theorem Dev.encIndex_pwm (hon : d.rbit (Reg.POS_ECTL n) 0 = true) (hp : d.rbit (Reg.POS_ECTL n) 1 = true) (hz : (d.enc n).z = false) :
    ((d.encIndex n true).enc n).z = true ∧ ((d.encIndex n true).enc n).zSince = true ∧ d.keeps (d.encIndex n true) [] := by
  obtain ⟨e, hlike, heq⟩ := Dev.encIndex_rises hx hf hz
  rw [← hlike.rbit] at hon hp
  obtain ⟨hz', hsince, hk⟩ := Dev.encZ_pwm hon hp (hlike.enc ▸ hz)
  rw [heq]
  exact ⟨hz', hsince, hlike.keeps hk⟩

theorem Dev.encIndex_copies (hon : d.rbit (Reg.POS_ECTL n) 0 = true) (hq : d.rbit (Reg.POS_ECTL n) 1 = false)
    (hz : (d.enc n).z = false) :
    (d.encIndex n true).reg (Reg.POS_EZCNT n) = d.reg (Reg.POS_ECNT n) ∧
    (d.encIndex n true).reg (Reg.POS_ECNT n) = (if d.rbit (Reg.POS_ECTL n) 3 then 0 else d.reg (Reg.POS_ECNT n)) ∧
    (d.encIndex n true).rbit (Reg.POS_ESTAT n) 1 = true ∧ ((d.encIndex n true).enc n).zSince = true ∧
    d.keeps (d.encIndex n true) [Reg.POS_EZCNT n, Reg.POS_ECNT n, Reg.POS_ESTAT n] := by
  obtain ⟨e, hlike, heq⟩ := Dev.encIndex_rises hx hf hz
  rw [← hlike.rbit] at hon hq
  obtain ⟨hcopy, hcnt, hstat, hsince, hk⟩ := Dev.encZ_copies hon hq (hlike.enc ▸ hz)
  rw [hlike.regs] at hcopy hcnt
  rw [hlike.rbit] at hcnt
  rw [heq]
  exact ⟨hcopy, hcnt, hstat, hsince, hlike.keeps hk⟩

end

end Sys2Proof.Machine
end

section
/-! Hall units, excitation outputs, the pilot input and the enabling of a position unit (R324 to R327, R388). -/

namespace Sys2Proof.Machine

variable {d e f : Dev} {s : State} {n h st : Nat} {a b : Bool}

/-! ### Hall units -/

theorem exec_hallEdge (h : Fin 10) (st : BitVec 3) (s : State) : exec (.hallEdge h st) s = s.run fun d => d.hallEdge h st.toNat := rfl

@[simp] theorem Dev.hall_modHall_same (g : Hall → Hall) : (d.modHall h g).hall h = g (d.hall h) := smGet_smSet_same ..

@[simp] theorem Dev.reg_modHall (g : Hall → Hall) (j : Nat) : (d.modHall h g).reg j = d.reg j := rfl

@[simp] theorem Dev.now_modHall (g : Hall → Hall) : (d.modHall h g).now = d.now := rfl

@[simp] theorem Dev.reports_modHall (g : Hall → Hall) : (d.modHall h g).reports = d.reports := rfl

@[simp] theorem Dev.rbit_modHall (g : Hall → Hall) (j i : Nat) : (d.modHall h g).rbit j i = d.rbit j i := rfl

@[simp] theorem Dev.fld_modHall (g : Hall → Hall) (j hi lo : Nat) : (d.modHall h g).fld j hi lo = d.fld j hi lo := rfl

@[simp] theorem Dev.hall_setRbit (j i : Nat) (v : Bool) : (d.setRbit j i v).hall h = d.hall h := rfl

@[simp] theorem Dev.hall_setFld (j hi lo v : Nat) : (d.setFld j hi lo v).hall h = d.hall h := rfl

theorem Dev.keeps.hall {but : List Nat} (k : d.keeps e but) (g : Hall → Hall) : d.keeps (e.modHall h g) but :=
  k.same (by rfl) (by rfl)

/-- The levels of the lands that differ from those accepted, as the filter of a calm unit holds them. -/
def hallPend (inp st now : Nat) : SMap (Option Nat) :=
  (List.range 3).foldl (fun m i => smSet (fun _ => none) m i (sinceNow (inp.testBit i) (st.testBit i) now)) []

theorem since_hallPend (x : Hall) (inp st now : Nat) {i : Nat} (hi : i < 3) :
    ({ x with pend := hallPend inp st now } : Hall).since i = sinceNow (inp.testBit i) (st.testBit i) now := by
  have hrange : List.range 3 = [0, 1, 2] := by decide
  simp only [Hall.since, hallPend, hrange, List.foldl_cons, List.foldl_nil, smGet_smSet]
  interval_cases i <;> rfl

theorem Dev.hallEdge_eq (hx : ∀ i, (d.hall h).since i = none) :
    d.hallEdge h st = (d.modHall h fun x => { x with pend := hallPend x.inp st d.now }).hallFilter h := by
  have hfold : (List.range 3).foldl (fun m i => smSet (fun _ => none) m i
      (feed ((d.hall h).inp.testBit i) ((d.hall h).since i) (st.testBit i) d.now)) [] = hallPend (d.hall h).inp st d.now := by
    simp only [hx, feed_none]
    rfl
  simp only [Dev.hallEdge, Dev.modHall, hfold]

/-- The inputs of a Hall unit that a new state changes. -/
def hallDiff (inp st : Nat) : List Nat := (List.range 3).filter fun i => inp.testBit i != st.testBit i

theorem hallDiff_flips (hi : n < 8) (hs : st < 8) : (hallDiff n st).foldl (fun n i => Nat.xor n (2 ^ i)) n = st := by
  have hall : ∀ a < 8, ∀ b < 8, (hallDiff a b).foldl (fun n i => Nat.xor n (2 ^ i)) a = b := by decide
  exact hall n hi st hs

theorem legal_of_ne {st : BitVec 3} (h0 : st ≠ 0) (h7 : st ≠ 7) : ¬ (st.toNat = 0 ∨ st.toNat = 7) := by
  rintro (h | h)
  · exact h0 (BitVec.eq_of_toNat_eq h)
  · exact h7 (BitVec.eq_of_toNat_eq h)

theorem hallDiff_ne_nil (hi : n < 8) (hs : st < 8) (hne : n ≠ st) : hallDiff n st ≠ [] := by
  intro hnil
  have hflip := hallDiff_flips hi hs
  rw [hnil] at hflip
  exact hne hflip

/-- The inputs whose level the filter takes. -/
theorem Dev.hallDue_eq (x : Hall) (inp now filt : Nat) :
    ((List.range 3).filter fun i => stable (({ x with pend := hallPend inp st now } : Hall).since i) filt now) =
      if filt = 0 then hallDiff inp st else [] := by
  have hsame : ∀ i ∈ List.range 3, stable (({ x with pend := hallPend inp st now } : Hall).since i) filt now =
      ((inp.testBit i != st.testBit i) && decide (filt = 0)) := fun i hi => by
    rw [since_hallPend x inp st now (List.mem_range.mp hi), stable_sinceNow]
    congr 1
    cases inp.testBit i <;> cases st.testBit i <;> rfl
  rw [List.filter_congr hsame]
  split
  · next hf => simp only [hf, decide_true, Bool.and_true, hallDiff]
  · next hf => simp [hf]

/-- With a filter a new Hall state waits. -/
theorem Dev.hallEdge_filtered (hx : ∀ i, (d.hall h).since i = none) (hf : d.fld (Reg.POS_HCTL h) 7 4 ≠ 0) :
    ((d.hallEdge h st).hall h).inp = (d.hall h).inp ∧ ((d.hallEdge h st).hall h).edges = (d.hall h).edges ∧
    d.keeps (d.hallEdge h st) [] := by
  rw [Dev.hallEdge_eq hx]
  simp only [Dev.hallFilter, Dev.hall_modHall_same, Dev.fld_modHall, Dev.now_modHall, Dev.hallDue_eq, if_neg hf, List.isEmpty_nil,
    if_true]
  exact ⟨trivial, trivial, Dev.keeps.hall .rfl _⟩

/-- A device whose Hall unit differs in nothing but what waits at its lands. -/
structure Dev.hallLike (h : Nat) (d e : Dev) : Prop where
  edges : (e.hall h).edges = (d.hall h).edges
  edgeAt : (e.hall h).edgeAt = (d.hall h).edgeAt
  regs : ∀ j, e.reg j = d.reg j
  mem : d.sameMem e
  now : e.now = d.now
  reports : e.reports = d.reports

theorem Dev.hallLike.keeps (k : Dev.hallLike h d e) {but : List Nat} (hk : e.keeps f but) : d.keeps f but :=
  ⟨fun x => (hk.1 x).trans (k.mem x), fun j hj => (hk.2 j hj).trans (k.regs j)⟩

theorem Dev.hallLike.rbit (k : Dev.hallLike h d e) (j i : Nat) : e.rbit j i = d.rbit j i := Dev.rbit_congr (k.regs j) i

theorem Dev.hallLike.fld (k : Dev.hallLike h d e) (j hi lo : Nat) : e.fld j hi lo = d.fld j hi lo := Dev.fld_congr (k.regs j) hi lo

/-- With no filter a new Hall state is accepted as it comes. -/
theorem Dev.hallEdge_open (hx : ∀ i, (d.hall h).since i = none) (hf : d.fld (Reg.POS_HCTL h) 7 4 = 0) (hi : (d.hall h).inp < 8)
    (hs : st < 8) (hne : (d.hall h).inp ≠ st) : ∃ e, Dev.hallLike h d e ∧ d.hallEdge h st = e.hallAccept h st := by
  rw [Dev.hallEdge_eq hx]
  simp only [Dev.hallFilter, Dev.hall_modHall_same, Dev.fld_modHall, Dev.now_modHall, Dev.hallDue_eq, if_pos hf]
  rw [if_neg (by simpa using hallDiff_ne_nil hi hs hne), hallDiff_flips hi hs]
  refine ⟨_, ?_, Eq.refl _⟩
  exact ⟨by simp, by simp, fun _ => by rfl, fun _ => by rfl, by rfl, by rfl⟩

theorem Dev.hallAccept_off (hoff : d.rbit (Reg.POS_HCTL h) 0 = false) :
    ((d.hallAccept h st).hall h).inp = st ∧ ((d.hallAccept h st).hall h).edges = (d.hall h).edges ∧
    d.keeps (d.hallAccept h st) [] := by
  simp only [Dev.hallAccept, hoff, Bool.not_false, if_true, Dev.hall_modHall_same]
  exact ⟨trivial, trivial, Dev.keeps.hall .rfl _⟩

/-- An illegal state is reported, and is no edge. -/
theorem Dev.hallIll_shows :
    (d.hallIll h).rbit (Reg.POS_HSTAT h) 1 = true ∧ (d.hallIll h).raised Src.POS_HALLILL h ∧
    ((d.hallIll h).hall h).illSince = true ∧ ((d.hallIll h).hall h).edges = (d.hall h).edges ∧
    ((d.hallIll h).hall h).edgeAt = (d.hall h).edgeAt ∧
    (d.hallIll h).fld (Reg.POS_HSTAT h) 10 8 = d.fld (Reg.POS_HSTAT h) 10 8 := by
  have hhall : (d.hallIll h).hall h = { d.hall h with illSince := true } := by
    simp only [Dev.hallIll, Dev.hall_raise, Dev.hall_modHall_same, Dev.hall_setRbit]
  refine ⟨?_, Dev.mem_raise _ _ _, by rw [hhall], by rw [hhall], by rw [hhall], ?_⟩
  · rw [Dev.hallIll, Dev.rbit_congr (Dev.reg_raise ..), Dev.rbit_modHall, Dev.rbit_setRbit _ _ _ _ _ (by decide), if_pos rfl]
  · rw [Dev.hallIll, Dev.fld_congr (Dev.reg_raise ..), Dev.fld_modHall, Dev.setRbit, Dev.fld, Dev.reg_setReg_same,
      bitsOf_putBit_other _ _ _ _ _ (by decide) (by decide)]
    rfl

theorem Dev.keeps.ill {but : List Nat} (k : d.keeps e but) (hm : Reg.POS_HSTAT h ∈ but) : d.keeps (e.hallIll h) but :=
  ((k.bit _ _ _ hm).hall _).report _ _

theorem Dev.hallAccept_illegal (hon : d.rbit (Reg.POS_HCTL h) 0 = true) (hs : st = 0 ∨ st = 7) :
    d.hallAccept h st = (d.modHall h fun x => { x with inp := st }).hallIll h := by
  simp only [Dev.hallAccept, hon, Bool.not_true, Bool.false_eq_true, if_false, if_pos hs]

theorem Dev.hallAccept_same (hon : d.rbit (Reg.POS_HCTL h) 0 = true) (hs : ¬ (st = 0 ∨ st = 7))
    (hst : d.fld (Reg.POS_HSTAT h) 10 8 = st) :
    ((d.hallAccept h st).hall h).inp = st ∧ ((d.hallAccept h st).hall h).edges = (d.hall h).edges ∧
    d.keeps (d.hallAccept h st) [] := by
  simp only [Dev.hallAccept, hon, Bool.not_true, Bool.false_eq_true, if_false, if_neg hs, if_pos hst, Dev.hall_modHall_same]
  exact ⟨trivial, trivial, Dev.keeps.hall .rfl _⟩

/-- A legal new state is an edge; between neighbours it has a direction. -/
theorem Dev.hallAccept_edge (hon : d.rbit (Reg.POS_HCTL h) 0 = true) (hs : ¬ (st = 0 ∨ st = 7)) (hlt : st < 8)
    (hst : d.fld (Reg.POS_HSTAT h) 10 8 ≠ st) :
    (d.hallAccept h st).fld (Reg.POS_HSTAT h) 10 8 = st ∧
    ((d.hallAccept h st).hall h).edges = ((d.hall h).edges + 1) % 2 ^ 24 ∧ ((d.hallAccept h st).hall h).edgeAt = d.now ∧
    (hallPlace st = (hallPlace (d.fld (Reg.POS_HSTAT h) 10 8) + 1) % 6 → ((d.hallAccept h st).hall h).dir = true) ∧
    (hallPlace (d.fld (Reg.POS_HSTAT h) 10 8) = (hallPlace st + 1) % 6 → ((d.hallAccept h st).hall h).dir = false) ∧
    (d.hallAccept h st).reports = d.reports ∧ d.keeps (d.hallAccept h st) [Reg.POS_HSTAT h] := by
  have hplace : ∀ x, hallPlace x < 6 := fun x => by
    unfold hallPlace
    split_ifs <;> decide
  have hp1 := hplace st
  have hp2 := hplace (d.fld (Reg.POS_HSTAT h) 10 8)
  simp only [Dev.hallAccept, hon, Bool.not_true, Bool.false_eq_true, if_false, if_neg hs, if_neg hst]
  generalize hstep : (hallPlace st + 6 - hallPlace (d.fld (Reg.POS_HSTAT h) 10 8)) % 6 = step
  generalize hd1 : (if step = 1 ∨ step = 5 then d.modHall h fun x => { x with inp := st }
    else { d.modHall h fun x => { x with inp := st } with freeCtr := d.freeCtr + 1 }) = d1
  have hd1k : d.keeps d1 [Reg.POS_HSTAT h] := by
    rw [← hd1]
    split
    · exact .hall .rfl _
    · exact ⟨fun _ => by rfl, fun _ _ => by rfl⟩
  have hhall : d1.hall h = { d.hall h with inp := st } := by
    rw [← hd1]
    split
    · exact Dev.hall_modHall_same _
    · exact smGet_smSet_same (fun _ => Hall.reset) d.ps.halls h _
  have hnow : d1.reports = d.reports := by
    rw [← hd1]
    split <;> rfl
  have hset := Dev.fld_setFld d1 (Reg.POS_HSTAT h) 10 8 st (by decide) (by decide)
  rw [Nat.mod_eq_of_lt (by simpa using hlt)] at hset
  simp only [Dev.hall_modHall_same, Dev.hall_setFld, hhall, sat24]
  refine ⟨hset, trivial, trivial, fun hup => ?_, fun hdown => ?_, hnow, (hd1k.field _ _ _ _ (by simp)).hall _⟩
  · rw [if_pos (by omega)]
  · rw [if_neg (by omega), if_pos (by omega)]

/-! ### The pilot -/

theorem exec_controlPilotEdge (a : Bool) (s : State) : exec (.controlPilotEdge a) s = s.run fun d => d.cpcEdge a := rfl

theorem Dev.keeps.cpc {but : List Nat} (k : d.keeps e but) (g : Encoder → Encoder) : d.keeps (e.modCpc g) but :=
  k.same (by rfl) (by rfl)

theorem Dev.cpc_modCpc (g : Encoder → Encoder) : (d.modCpc g).ps.cpc = g d.ps.cpc := rfl

theorem Dev.keeps_cpcFilter : d.keeps d.cpcFilter [] := by
  simp only [Dev.cpcFilter]
  split
  · exact (Dev.keeps.cpc .rfl _).cpc _
  · exact .rfl

/-- The pilot's level shows at once, and is accepted through the filter. -/
theorem Dev.cpcEdge_shows : (d.cpcEdge a).rbit Reg.CPC_STAT 4 = a ∧ d.keeps (d.cpcEdge a) [Reg.CPC_STAT] := by
  unfold Dev.cpcEdge
  have hk := Dev.keeps_cpcFilter (d := (d.setRbit Reg.CPC_STAT 4 a).modCpc fun x => { x with pa := feed x.a x.pa a d.now })
  refine ⟨?_, by simpa using ((Dev.keeps.rfl.bit Reg.CPC_STAT 4 a (List.mem_singleton_self _)).cpc _).trans hk⟩
  rw [Dev.rbit_congr (hk.2 _ (by simp))]
  exact (Dev.rbit_setRbit _ _ _ _ _ (by decide)).trans (if_pos rfl)

/-- The pilot's input as it follows an accepted level. -/
def pilotTaken (on : Bool) (x : Encoder) (now : Nat) (a : Bool) : Encoder := if on then x.pwmEdge now a else { x with a := a }

theorem Dev.cpcEdge_calm (hp : d.ps.cpc.pa = none) :
    (d.cpcEdge a).ps.cpc =
      if d.fld Reg.CPC_CTL 7 4 = 0 ∧ a ≠ d.ps.cpc.a then pilotTaken (d.rbit Reg.CPC_CTL 0) d.ps.cpc d.now a
      else { d.ps.cpc with pa := sinceNow d.ps.cpc.a a d.now } := by
  have hctl : ∀ (g : Encoder → Encoder), ((d.setRbit Reg.CPC_STAT 4 a).modCpc g).reg Reg.CPC_CTL = d.reg Reg.CPC_CTL := fun g =>
    Dev.reg_setRbit_other (d := d) _ _ (by decide)
  have hcpc : ∀ (g : Encoder → Encoder), ((d.setRbit Reg.CPC_STAT 4 a).modCpc g).ps.cpc = g d.ps.cpc := fun g => by rfl
  have hnow : ∀ (g : Encoder → Encoder), ((d.setRbit Reg.CPC_STAT 4 a).modCpc g).now = d.now := fun g => by rfl
  simp only [Dev.cpcEdge, Dev.cpcFilter, hcpc, hnow, Dev.fld_congr (hctl _), hp, feed_none, stable_sinceNow]
  by_cases hc : d.fld Reg.CPC_CTL 7 4 = 0 ∧ a ≠ d.ps.cpc.a
  · have hnot : (!d.ps.cpc.a) = a := by
      have := hc.2
      revert this
      cases a <;> cases d.ps.cpc.a <;> simp
    rw [if_pos (by simp [hc]), if_pos hc]
    rw [Dev.cpc_modCpc, Dev.cpc_modCpc, hcpc, Dev.rbit_congr (hctl _)]
    generalize d.ps.cpc = x at *
    cases x
    subst hp
    dsimp only at hnot ⊢
    rw [hnot]
    rfl
  · rw [if_neg (by simpa [and_comm] using hc), if_neg hc, hcpc, hp]
    rfl

/-! ### Saturation, excitation -/

theorem exec_pwmInSaturate_encoder (n : Fin 4) (s : State) : exec (.pwmInSaturate (.encoder n)) s = s.run fun d =>
    if d.rbit (Reg.POS_ECTL n) 0 && d.rbit (Reg.POS_ECTL n) 1 then d.modEnc n fun x => { x with sat := true } else d := rfl

theorem exec_pwmInSaturate_pilot (s : State) : exec (.pwmInSaturate .pilot) s = s.run fun d =>
    if d.rbit Reg.CPC_CTL 0 then d.modCpc fun x => { x with sat := true } else d := rfl

theorem exec_excitationStep (x : Fin 2) (step : Fin 64) (s : State) :
    exec (.excitationStep x step) s = s.run fun d => d.excStep x step := rfl

/-- Whether an excitation output takes the step at which its timebase stands. -/
def Dev.excDue (d : Dev) (x step : Nat) : Prop :=
  (d.rbit (Reg.POS_XCTL x) 0 = true ∨ d.rbit (Reg.POS_XSTAT x) 0 = true) ∧
    d.tbRuns (d.fld (Reg.POS_XCTL x) 7 4) = true ∧
    d.fld (Reg.TB_CNT (d.fld (Reg.POS_XCTL x) 7 4)) 23 0 = step * ((d.tbPer (d.fld (Reg.POS_XCTL x) 7 4) + 1) / 64)

theorem Dev.excStep_due {x step : Nat} (h : d.excDue x step) :
    ((d.excStep x step).exc x).step = some step ∧ (d.excStep x step).rbit (Reg.POS_XSTAT x) 1 = true ∧
    d.keeps (d.excStep x step) [Reg.POS_XSTAT x] := by
  obtain ⟨hon, hruns, hcnt⟩ := h
  have hdue : d.excStep x step = (d.modExc x fun _ => { step := some step }).setRbit (Reg.POS_XSTAT x) 1 true :=
    if_pos (by simpa [hruns, hcnt] using hon)
  rw [hdue]
  refine ⟨?_, (Dev.rbit_setRbit _ _ _ _ _ (by decide)).trans (if_pos rfl), ⟨fun _ => by rfl, fun j hj => ?_⟩⟩
  · exact congrArg Excite.step (smGet_smSet_same (fun _ => Excite.reset) d.ps.excs x ⟨some step⟩)
  · exact Dev.reg_setRbit_other _ _ _ (by simpa using hj)

theorem Dev.excStep_not {x step : Nat} (h : ¬ d.excDue x step) : d.excStep x step = d := by
  refine if_neg fun hdue => h ?_
  simpa [Dev.excDue, and_assoc] using hdue

/-! ### Enabling -/

theorem exec_positionUnitEnable (u : PosUnit) (s : State) : exec (.positionUnitEnable u) s = s.run fun d => d.posEnable u := rfl

section

variable {ctl addr stat cfgerr : Nat} {start : Dev → Dev}

theorem Dev.recUnitEnable_on (h : d.rbit ctl 0 = true ∨ d.rbit stat 0 = true) : d.recUnitEnable ctl addr stat cfgerr start = d :=
  if_pos (by simpa using h)

theorem Dev.recUnitEnable_bad (hc : d.rbit ctl 0 = false) (hs : d.rbit stat 0 = false)
    (hp : d.plainBeat (d.fld addr 23 4 * 16) = false) :
    d.recUnitEnable ctl addr stat cfgerr start = d.setRbit stat cfgerr true := by
  simp [Dev.recUnitEnable, hc, hs, hp]

theorem Dev.recUnitEnable_good (hc : d.rbit ctl 0 = false) (hs : d.rbit stat 0 = false)
    (hp : d.plainBeat (d.fld addr 23 4 * 16) = true) :
    d.recUnitEnable ctl addr stat cfgerr start = start (d.setRbit ctl 0 true) := by
  simp [Dev.recUnitEnable, hc, hs, hp]

end

theorem Dev.enabled_shows (ctl : Nat) : (d.setRbit ctl 0 true).rbit ctl 0 = true :=
  (Dev.rbit_setRbit _ _ _ _ _ (by decide)).trans (if_pos rfl)

/-- A Hall unit starts with the state at its inputs, or reports it as illegal. -/
theorem Dev.hallStart_shows :
    (∀ j, j ≠ Reg.POS_HSTAT h → (d.hallStart h).reg j = d.reg j) ∧ d.keeps (d.hallStart h) [Reg.POS_HSTAT h] ∧
    ((d.hallStart h).hall h).edgeAt = d.now ∧
    (1 ≤ (d.hall h).inp → (d.hall h).inp ≤ 6 →
      (d.hallStart h).fld (Reg.POS_HSTAT h) 10 8 = (d.hall h).inp ∧ (d.hallStart h).reports = d.reports) := by
  have hkeeps : d.keeps (d.hallStart h) [Reg.POS_HSTAT h] := by
    simp only [Dev.hallStart]
    split
    · exact (Dev.keeps.hall .rfl _).ill (by simp)
    · exact (Dev.keeps.hall .rfl _).field _ _ _ _ (by simp)
  refine ⟨fun j hj => hkeeps.2 j (by simpa using hj), hkeeps, ?_, fun h1 h6 => ?_⟩
  · simp only [Dev.hallStart]
    split
    · rw [Dev.hallIll_shows.2.2.2.2.1, Dev.hall_modHall_same]
    · rw [Dev.hall_setFld, Dev.hall_modHall_same]
  · simp only [Dev.hallStart]
    rw [if_neg (by omega)]
    refine ⟨(Dev.fld_setFld _ _ _ _ _ (by decide) (by decide)).trans (Nat.mod_eq_of_lt (by omega)), by rfl⟩

theorem exc_regs_apart (x : Nat) : Reg.POS_XCTL x ≠ Reg.POS_XSTAT x := by
  simp only [Reg.POS_XCTL, Reg.POS_XSTAT]
  omega

/-! ### Hall edges without a filter -/

section

variable (hx : ∀ i, (d.hall h).since i = none) (hf : d.fld (Reg.POS_HCTL h) 7 4 = 0) (hi : (d.hall h).inp < 8) (hs : st < 8)
  (hne : (d.hall h).inp ≠ st)

include hx hf hi hs hne

theorem Dev.hallEdge_off (hoff : d.rbit (Reg.POS_HCTL h) 0 = false) :
    ((d.hallEdge h st).hall h).inp = st ∧ ((d.hallEdge h st).hall h).edges = (d.hall h).edges ∧ d.keeps (d.hallEdge h st) [] := by
  obtain ⟨e, hlike, heq⟩ := Dev.hallEdge_open hx hf hi hs hne
  obtain ⟨hinp, hedges, hk⟩ := Dev.hallAccept_off (st := st) ((hlike.rbit _ _).trans hoff)
  rw [heq]
  exact ⟨hinp, hedges.trans hlike.edges, hlike.keeps hk⟩

theorem Dev.hallEdge_illegal (hon : d.rbit (Reg.POS_HCTL h) 0 = true) (hill : st = 0 ∨ st = 7) :
    (d.hallEdge h st).rbit (Reg.POS_HSTAT h) 1 = true ∧ (d.hallEdge h st).raised Src.POS_HALLILL h ∧
    ((d.hallEdge h st).hall h).illSince = true ∧ ((d.hallEdge h st).hall h).edges = (d.hall h).edges ∧
    (d.hallEdge h st).fld (Reg.POS_HSTAT h) 10 8 = d.fld (Reg.POS_HSTAT h) 10 8 ∧ d.keeps (d.hallEdge h st) [Reg.POS_HSTAT h] := by
  obtain ⟨e, hlike, heq⟩ := Dev.hallEdge_open hx hf hi hs hne
  rw [heq, Dev.hallAccept_illegal ((hlike.rbit _ _).trans hon) hill]
  obtain ⟨hstat, hrep, hsince, hedges, -, hfld⟩ := Dev.hallIll_shows (d := e.modHall h fun x => { x with inp := st }) (h := h)
  rw [Dev.hall_modHall_same] at hedges
  exact ⟨hstat, hrep, hsince, hedges.trans hlike.edges, hfld.trans (hlike.fld _ _ _),
    hlike.keeps ((Dev.keeps.hall .rfl _).ill (List.mem_singleton_self _))⟩

theorem Dev.hallEdge_same (hon : d.rbit (Reg.POS_HCTL h) 0 = true) (hlegal : ¬ (st = 0 ∨ st = 7))
    (hst : d.fld (Reg.POS_HSTAT h) 10 8 = st) :
    ((d.hallEdge h st).hall h).inp = st ∧ ((d.hallEdge h st).hall h).edges = (d.hall h).edges ∧ d.keeps (d.hallEdge h st) [] := by
  obtain ⟨e, hlike, heq⟩ := Dev.hallEdge_open hx hf hi hs hne
  obtain ⟨hinp, hedges, hk⟩ := Dev.hallAccept_same ((hlike.rbit _ _).trans hon) hlegal ((hlike.fld _ _ _).trans hst)
  rw [heq]
  exact ⟨hinp, hedges.trans hlike.edges, hlike.keeps hk⟩

theorem Dev.hallEdge_edge (hon : d.rbit (Reg.POS_HCTL h) 0 = true) (hlegal : ¬ (st = 0 ∨ st = 7))
    (hst : d.fld (Reg.POS_HSTAT h) 10 8 ≠ st) :
    (d.hallEdge h st).fld (Reg.POS_HSTAT h) 10 8 = st ∧
    ((d.hallEdge h st).hall h).edges = ((d.hall h).edges + 1) % 2 ^ 24 ∧ ((d.hallEdge h st).hall h).edgeAt = d.now ∧
    (hallPlace st = (hallPlace (d.fld (Reg.POS_HSTAT h) 10 8) + 1) % 6 → ((d.hallEdge h st).hall h).dir = true) ∧
    (hallPlace (d.fld (Reg.POS_HSTAT h) 10 8) = (hallPlace st + 1) % 6 → ((d.hallEdge h st).hall h).dir = false) ∧
    (d.hallEdge h st).reports = d.reports ∧ d.keeps (d.hallEdge h st) [Reg.POS_HSTAT h] := by
  obtain ⟨e, hlike, heq⟩ := Dev.hallEdge_open hx hf hi hs hne
  have hfld := hlike.fld (Reg.POS_HSTAT h) 10 8
  obtain ⟨hcode, hedges, hat, hup, hdown, hrep, hk⟩ :=
    Dev.hallAccept_edge ((hlike.rbit _ _).trans hon) hlegal hs (by rwa [hfld])
  rw [hfld] at hup hdown
  rw [hlike.edges] at hedges
  rw [heq]
  exact ⟨hcode, hedges, hat.trans hlike.now, hup, hdown, hrep.trans hlike.reports, hlike.keeps hk⟩

end

theorem Encoder.pwmEdge_rises (x : Encoder) (now : Nat) (ha : a ≠ x.a) :
    (x.pwmEdge now a).edgeAt = now ∧ (a = true → x.risen = true → (x.pwmEdge now a).high = x.hiNow) :=
  ⟨(x.pwmEdge_shows now ha).2.2.1, fun h1 h2 => ((x.pwmEdge_shows now ha).2.2.2.2 h1).2 h2 |>.1⟩

/-- The pilot's accepted level, with no filter. -/
theorem Dev.cpcEdge_open (hf : d.fld Reg.CPC_CTL 7 4 = 0) (hp : d.ps.cpc.pa = none) :
    (d.cpcEdge a).ps.cpc.a = a ∧
    (d.rbit Reg.CPC_CTL 0 = false → (d.cpcEdge a).ps.cpc.edgeAt = d.ps.cpc.edgeAt) ∧
    (d.rbit Reg.CPC_CTL 0 = true → a ≠ d.ps.cpc.a → (d.cpcEdge a).ps.cpc.edgeAt = d.now ∧
      (a = true → d.ps.cpc.risen = true → (d.cpcEdge a).ps.cpc.high = d.ps.cpc.hiNow)) := by
  rw [Dev.cpcEdge_calm hp]
  by_cases ha : a = d.ps.cpc.a
  · rw [if_neg fun h => h.2 ha]
    exact ⟨ha.symm, fun _ => rfl, fun _ h => absurd ha h⟩
  · rw [if_pos ⟨hf, ha⟩]
    cases d.rbit Reg.CPC_CTL 0
    · exact ⟨rfl, fun _ => rfl, fun h => absurd h (by decide)⟩
    · exact ⟨(d.ps.cpc.pwmEdge_shows d.now ha).1, fun h => absurd h (by decide), fun _ _ => d.ps.cpc.pwmEdge_rises d.now ha⟩

theorem Dev.cpcEdge_filtered (hf : d.fld Reg.CPC_CTL 7 4 ≠ 0) (hp : d.ps.cpc.pa = none) : (d.cpcEdge a).ps.cpc.a = d.ps.cpc.a := by
  rw [Dev.cpcEdge_calm hp, if_neg fun h => hf h.1]

/-! ### The obligation -/

/-- The control register, status register, address register and CFGERR bit of a position unit. -/
def unitPlace (u : PosUnit) : Nat × Nat × Nat × Nat :=
  match u with
  | .encoder e => (Reg.POS_ECTL e, Reg.POS_ESTAT e, Reg.POS_EADDR e, 4)
  | .hall h => (Reg.POS_HCTL h, Reg.POS_HSTAT h, Reg.POS_HADDR h, 3)
  | .excitation x => (Reg.POS_XCTL x, Reg.POS_XSTAT x, 0, 2)
  | .pilot => (Reg.CPC_CTL, Reg.CPC_STAT, Reg.CPC_ADDR, 3)

/-- A unit with a record starts from its inputs. -/
def Dev.unitStart (d : Dev) (u : PosUnit) : Dev :=
  match u with
  | .encoder e => d.modEnc e fun x => x.started d.now
  | .hall h => d.hallStart h
  | .excitation _ => d
  | .pilot => d.modCpc fun x => x.started d.now

theorem Dev.posEnable_eq {u : PosUnit} (hu : ∀ x, u ≠ .excitation x) :
    d.posEnable u = d.recUnitEnable (unitPlace u).1 (unitPlace u).2.2.1 (unitPlace u).2.1 (unitPlace u).2.2.2 fun d => d.unitStart u := by
  cases u with
  | excitation x => exact absurd rfl (hu x)
  | encoder e => rfl
  | hall h => rfl
  | pilot => rfl

theorem Dev.unitStart_shows (u : PosUnit) :
    (d.unitStart u).reg (unitPlace u).1 = d.reg (unitPlace u).1 ∧ d.keeps (d.unitStart u) [(unitPlace u).2.1] := by
  cases u with
  | encoder e => exact ⟨rfl, .enc .rfl _⟩
  | hall h =>
    obtain ⟨hother, hk, -⟩ := Dev.hallStart_shows (d := d) (h := h)
    refine ⟨hother _ ?_, hk⟩
    simp only [unitPlace, Reg.POS_HCTL, Reg.POS_HSTAT]
    omega
  | excitation x => exact ⟨rfl, .rfl⟩
  | pilot => exact ⟨rfl, .cpc .rfl _⟩

theorem Dev.posEnable_on {u : PosUnit} (h : d.rbit (unitPlace u).1 0 = true ∨ d.rbit (unitPlace u).2.1 0 = true) :
    d.posEnable u = d := by
  by_cases hu : ∀ x, u ≠ .excitation x
  · rw [Dev.posEnable_eq hu, Dev.recUnitEnable_on h]
  · obtain ⟨x, rfl⟩ := not_forall_not.mp hu
    exact if_pos (by simpa [unitPlace] using h)

section

variable {u : PosUnit} (hc : d.rbit (unitPlace u).1 0 = false) (hr : d.rbit (unitPlace u).2.1 0 = false)

include hc hr

theorem Dev.posEnable_bad (hu : ∀ x, u ≠ .excitation x) (hp : d.plainBeat (d.fld (unitPlace u).2.2.1 23 4 * 16) = false) :
    d.posEnable u = d.setRbit (unitPlace u).2.1 (unitPlace u).2.2.2 true := by
  rw [Dev.posEnable_eq hu, Dev.recUnitEnable_bad hc hr hp]

theorem Dev.posEnable_started (hu : ∀ x, u ≠ .excitation x) (hp : d.plainBeat (d.fld (unitPlace u).2.2.1 23 4 * 16) = true) :
    d.posEnable u = (d.setRbit (unitPlace u).1 0 true).unitStart u := by
  rw [Dev.posEnable_eq hu, Dev.recUnitEnable_good hc hr hp]

theorem Dev.posEnable_good (hu : ∀ x, u ≠ .excitation x) (hp : d.plainBeat (d.fld (unitPlace u).2.2.1 23 4 * 16) = true) :
    (d.posEnable u).rbit (unitPlace u).1 0 = true ∧ d.keeps (d.posEnable u) [(unitPlace u).1, (unitPlace u).2.1] := by
  rw [Dev.posEnable_started hc hr hu hp]
  obtain ⟨hctl, hk⟩ := Dev.unitStart_shows (d := d.setRbit (unitPlace u).1 0 true) u
  exact ⟨(Dev.rbit_congr hctl 0).trans (Dev.enabled_shows _),
    ((Dev.keeps.rfl.bit _ 0 true (List.mem_singleton_self _)).trans hk).mono (by simp)⟩

end

theorem Dev.posEnable_encoder {n : Fin 4} (hc : d.rbit (Reg.POS_ECTL n) 0 = false) (hr : d.rbit (Reg.POS_ESTAT n) 0 = false)
    (hp : d.plainBeat (d.fld (Reg.POS_EADDR n) 23 4 * 16) = true) :
    ((d.posEnable (.encoder n)).enc n).edgeAt = d.now ∧ ((d.posEnable (.encoder n)).enc n).gap = 0 ∧
    ((d.posEnable (.encoder n)).enc n).a = (d.enc n).a ∧ d.keeps (d.posEnable (.encoder n)) [Reg.POS_ECTL n] := by
  have hstart : d.posEnable (.encoder n) = (d.setRbit (Reg.POS_ECTL n) 0 true).modEnc n fun x => x.started d.now :=
    Dev.posEnable_started (u := .encoder n) hc hr (fun _ h => PosUnit.noConfusion h) hp
  rw [hstart, Dev.enc_modEnc_same]
  exact ⟨rfl, rfl, rfl, (Dev.keeps.rfl.bit _ _ _ (List.mem_singleton_self _)).enc _⟩

theorem Dev.posEnable_hall {h : Fin 10} (hc : d.rbit (Reg.POS_HCTL h) 0 = false) (hr : d.rbit (Reg.POS_HSTAT h) 0 = false)
    (hp : d.plainBeat (d.fld (Reg.POS_HADDR h) 23 4 * 16) = true) (h1 : 1 ≤ (d.hall h).inp) (h6 : (d.hall h).inp ≤ 6) :
    ((d.posEnable (.hall h)).hall h).edgeAt = d.now ∧ (d.posEnable (.hall h)).fld (Reg.POS_HSTAT h) 10 8 = (d.hall h).inp ∧
    (d.posEnable (.hall h)).reports = d.reports := by
  have hstart : d.posEnable (.hall h) = (d.setRbit (Reg.POS_HCTL h) 0 true).hallStart h :=
    Dev.posEnable_started (u := .hall h) hc hr (fun _ h => PosUnit.noConfusion h) hp
  obtain ⟨-, -, hat, hlegal⟩ := Dev.hallStart_shows (d := d.setRbit (Reg.POS_HCTL h) 0 true) (h := h)
  obtain ⟨hcode, hrep⟩ := hlegal h1 h6
  rw [hstart]
  exact ⟨hat, hcode, hrep⟩

/-- An excitation output is enabled on a timebase that divides into its steps, and refused on any other. -/
theorem Dev.posEnable_excitation {o : Fin 2} (hc : d.rbit (Reg.POS_XCTL o) 0 = false) (hr : d.rbit (Reg.POS_XSTAT o) 0 = false) :
    d.posEnable (.excitation o) =
      if d.rbit (Reg.TB_CTL (d.fld (Reg.POS_XCTL o) 7 4)) 1 = false ∧
        (d.fld (Reg.TB_PER (d.fld (Reg.POS_XCTL o) 7 4)) 23 0 + 1) % 64 = 0 then d.setRbit (Reg.POS_XCTL o) 0 true
      else d.setRbit (Reg.POS_XSTAT o) 2 true := by
  simp [Dev.posEnable, Dev.excEnable, hc, hr]

theorem Dev.satEncoder_shows (on : Bool) :
    ((if on then d.modEnc n fun x => { x with sat := true } else d).enc n).a = (d.enc n).a ∧
    (on = true → ((if on then d.modEnc n fun x => { x with sat := true } else d).enc n).sat = true) ∧
    d.keeps (if on then d.modEnc n fun x => { x with sat := true } else d) [] := by
  cases on
  · exact ⟨rfl, fun h => absurd h (by decide), .rfl⟩
  · simp only [if_true, Dev.enc_modEnc_same]
    exact ⟨trivial, fun _ => trivial, .enc .rfl _⟩

theorem Dev.satPilot_shows (on : Bool) :
    (on = true → (if on then d.modCpc fun x => { x with sat := true } else d).ps.cpc.sat = true) ∧
    d.keeps (if on then d.modCpc fun x => { x with sat := true } else d) [] := by
  cases on
  · exact ⟨fun h => absurd h (by decide), .rfl⟩
  · exact ⟨fun _ => rfl, .cpc .rfl _⟩

/-- Settles O44: each land's level through its filter, then what its acceptance makes of the unit. -/
theorem positionInputs : Obligations.PositionInputs := by
  unfold Obligations.PositionInputs
  intro n h o k a b st u s
  intro d x y ec es cnt hs hclk
  refine ⟨fun ha hb hz => ?_, fun hon hp => ?_, fun h => ?_, fun hi hne hx => ?_, fun hon => ?_, fun hoff => ?_, ?_, ?_, ?_⟩
  · have hx : (d.enc n).calm := ⟨ha, hb, hz⟩
    refine ⟨fun hf => ⟨?_, ?_⟩, fun hf => ⟨fun hc => ?_, fun hc => ?_, fun hon hp hup hlow => ?_, fun hon hq => ⟨fun h1 h2 => ?_,
      fun hzat h1 h2 => ?_, fun hzat h1 h2 => ?_, fun hup hlow => ?_⟩, fun hon hp h1 => ?_⟩⟩
    · exact .of_run (exec_encoderEdge n a b s) hclk (Dev.encEdge_filtered hx hf)
    · exact .of_run (exec_encoderIndex ⟨n, a⟩ s) hclk (Dev.encIndex_filtered hx hf)
    · exact .of_run (exec_encoderEdge n a b s) hclk (Dev.encEdge_follows hx hf hc)
    · exact .of_run (exec_encoderIndex ⟨n, a⟩ s) hclk (Dev.encIndex_follows hx hf hc)
    · subst hup
      exact .of_run (exec_encoderIndex ⟨n, true⟩ s) hclk (Dev.encIndex_pwm hx hf hon hp hlow)
    · exact .of_run (exec_encoderEdge n a b s) hclk (Dev.encEdge_error hx hf hon hq h1 h2)
    · obtain ⟨hcnt, ha', -, hat, hgap, hk⟩ := Dev.encEdge_counts hx hf hon hq hzat (Or.inl ⟨h1, h2⟩)
      rw [quadUp, if_pos (Ne.symm h1), ← h2] at hcnt
      exact .of_run (exec_encoderEdge n a b s) hclk ⟨hcnt, ha', hat, hgap, hk⟩
    · obtain ⟨hcnt, -, hb', hat, hgap, hk⟩ := Dev.encEdge_counts hx hf hon hq hzat (Or.inr ⟨h1, h2⟩)
      rw [quadUp, if_neg (not_not_intro h1.symm), ← h1] at hcnt
      exact .of_run (exec_encoderEdge n a b s) hclk ⟨hcnt, hb', hat, hgap, hk⟩
    · subst hup
      exact .of_run (exec_encoderIndex ⟨n, true⟩ s) hclk (Dev.encIndex_copies hx hf hon hq hlow)
    · exact .of_run (exec_encoderEdge n a b s) hclk (Dev.encEdge_pwm hx hf hon hp h1)
  · have hboth : (d.rbit ec 0 && d.rbit ec 1) = true := by rw [hon, hp]; rfl
    obtain ⟨ha, hsat, hk⟩ := Dev.satEncoder_shows (d := d) (n := n) (d.rbit ec 0 && d.rbit ec 1)
    exact .of_run (exec_pwmInSaturate_encoder n s) hclk ⟨hsat hboth, ha, hk⟩
  · refine exec_idle_of_run (exec_pwmInSaturate_encoder n s) (if_neg ?_)
    change ¬ (d.rbit ec 0 && d.rbit ec 1) = true
    rcases h with h | h <;> simp [h]
  · have hst := st.isLt
    refine ⟨fun hf => ?_, fun hf => ⟨fun hoff => ?_, fun hon => ⟨fun hill => ?_, fun h0 h7 hne' => ?_, fun h0 h7 heq => ?_⟩⟩⟩
    · exact .of_run (exec_hallEdge h st s) hclk (Dev.hallEdge_filtered hx hf)
    · exact .of_run (exec_hallEdge h st s) hclk (Dev.hallEdge_off hx hf hi hst hne hoff)
    · refine .of_run (exec_hallEdge h st s) hclk (Dev.hallEdge_illegal hx hf hi hst hne hon ?_)
      exact hill.imp (congrArg BitVec.toNat) (congrArg BitVec.toNat)
    · exact .of_run (exec_hallEdge h st s) hclk (Dev.hallEdge_edge hx hf hi hst hne hon (legal_of_ne h0 h7) hne')
    · exact .of_run (exec_hallEdge h st s) hclk (Dev.hallEdge_same hx hf hi hst hne hon (legal_of_ne h0 h7) heq)
  · obtain ⟨hsat, hk⟩ := Dev.satPilot_shows (d := d) (d.rbit Reg.CPC_CTL 0)
    exact .of_run (exec_pwmInSaturate_pilot s) hclk ⟨hsat hon, hk⟩
  · exact exec_idle_of_run (exec_pwmInSaturate_pilot s) (if_neg (Bool.eq_false_iff.mp hoff))
  · obtain ⟨hlevel, hk⟩ := Dev.cpcEdge_shows (d := d) (a := a)
    exact .of_run (exec_controlPilotEdge a s) hclk
      ⟨hlevel, hk, fun hf hp => Dev.cpcEdge_open hf hp, fun hf hp => Dev.cpcEdge_filtered hf hp⟩
  · intro on j there
    have hdue : d.excDue o k ↔ on ∧ there := Iff.rfl
    refine ⟨fun h1 h2 => .of_run (exec_excitationStep o k s) hclk (Dev.excStep_due (hdue.mpr ⟨h1, h2⟩)), fun h => ?_⟩
    exact exec_idle_of_run (exec_excitationStep o k s) (Dev.excStep_not fun hd => (not_and_or.mpr h) (hdue.mp hd))
  · intro place c r beat
    have hplace : place u = unitPlace u := by cases u <;> rfl
    have hctl : c = (unitPlace u).1 := congrArg (fun p => p.1) hplace
    have hstat : r = (unitPlace u).2.1 := congrArg (fun p => p.2.1) hplace
    have hbeat : beat = d.fld (unitPlace u).2.2.1 23 4 * 16 := by
      change d.fld (place u).2.2.1 23 4 * 16 = _
      rw [hplace]
    have hbit : (place u).2.2.2 = (unitPlace u).2.2.2 := congrArg (fun p => p.2.2.2) hplace
    rw [hctl, hstat, hbeat, hbit]
    refine ⟨fun h => exec_idle_of_run (exec_positionUnitEnable u s) (Dev.posEnable_on h), fun hc hr => ⟨fun hu hp => ?_,
      fun hu hp => ?_, fun hu hp => ?_, fun hu hp h1 h6 => ?_, fun hu => ?_⟩⟩
    · rw [exec_eq_of_run (exec_positionUnitEnable u s) hclk]
      exact congrArg _ (congrArg _ (Dev.posEnable_bad hc hr hu hp))
    · exact .of_run (exec_positionUnitEnable u s) hclk (Dev.posEnable_good hc hr hu hp)
    · subst hu
      have hstarted := Dev.posEnable_encoder (d := d) (n := n) hc hr hp
      exact .of_run (exec_positionUnitEnable (.encoder n) s) hclk hstarted
    · subst hu
      exact .of_run (exec_positionUnitEnable (.hall h) s) hclk (Dev.posEnable_hall hc hr hp h1 h6)
    · subst hu
      rw [exec_eq_of_run (exec_positionUnitEnable (.excitation o) s) hclk]
      refine ⟨fun hedge hdiv => congrArg _ (congrArg _ ((Dev.posEnable_excitation hc hr).trans (if_pos ⟨hedge, hdiv⟩))), fun h => ?_⟩
      refine congrArg _ (congrArg _ ((Dev.posEnable_excitation hc hr).trans (if_neg fun hgood => ?_)))
      rcases h with h | h
      · exact absurd (hgood.1.symm.trans h) (by decide)
      · exact h hgood.2

end Sys2Proof.Machine
end

section
/-! The test-voltage DAC (R85): its register is live, so a word written outside its window stands in it. -/

namespace Sys2Proof.Machine

/-- The PLL runs, and BOOT is none of the modes that accept configuration. -/
example : Tests.dev0.clocked = true ∧ Tests.dev0.cfgMode = false := by decide +kernel

/-- A test-voltage code that is written in BOOT. -/
theorem tdac_busWrite_boot : (Tests.dev0.busWrite .distaff Reg.HKP_TDAC .word 1 0).reg Reg.HKP_TDAC = 1 := by decide +kernel

/-- Refutes O33: in BOOT, outside the DAC's window, a write to HKP_TDAC changes the register, whose fields are live. -/
theorem not_actingWritesAndDisable : ¬ Obligations.ActingWritesAndDisable := by
  intro h
  let s : State := ⟨Tests.dev0, []⟩
  obtain ⟨-, -, -, -, -, hshut, -⟩ := h.1 .distaff 1 false s ⟨by decide +kernel, rfl⟩
  obtain ⟨t, hrun, -, -, -, hregs⟩ := hshut (by decide +kernel)
  have hwritten : t.dev = Tests.dev0.busWrite .distaff Reg.HKP_TDAC .word 1 0 := by
    have hstep : exec (.tdacWrite .distaff 1) s = .next (s.withDev (Tests.dev0.busWrite .distaff Reg.HKP_TDAC .word 1 0)) := by
      change s.act (fun d => d.busWrite .distaff Reg.HKP_TDAC .word 1 0) = _
      rw [State.act_eq]
    rw [hstep] at hrun
    cases hrun
    rfl
  have hsame := hregs Reg.HKP_TDAC List.not_mem_nil
  rw [hwritten, tdac_busWrite_boot] at hsame
  revert hsame
  decide +kernel

end Sys2Proof.Machine
end

section
/-! SUPPORT. Run-ahead (R193 to R200): what the traffic that a commit starts leaves of a loop and of the Spindle's queue, and
what a trace value that reaches the Reels may touch. -/

namespace Sys2Proof.Machine

variable {d e f : Dev} {p : Fin 18} {l n : Nat}

/-! ### What a trace value touches (R204, R410, R412) -/

/-- A relation that any traffic keeps, and whatever a Reel or the injection's capture notes. -/
structure Tracing (R : Dev → Dev → Prop) : Prop extends Traffic (fun _ => True) (fun _ => True) R where
  tuning : ∀ (d : Dev) (g : TuneSt → TuneSt), R d { d with tn := g d.tn }
  stat : ∀ (d : Dev) (n : Nat) (w : Word), R d (d.setReg (Reg.REL_STAT n) w)
  place : ∀ (d : Dev) (n : Nat) (w : Word), R d (d.setReg (Reg.REL_TRGOFF n) w)
  count : ∀ (d : Dev) (n : Nat) (w : Word), R d (d.setReg (Reg.REL_LOST n) w)

/-- Whether the decimation lets a Reel keep the next value (R414). -/
def Dev.reelDue (d : Dev) (n : Nat) : Bool :=
  match (d.reel n).since with
  | none => true
  | some k => decide (d.fld (Reg.REL_DEC n) 15 0 ≤ k)

/-- A Reel that has kept a value, or passed over it. -/
def Dev.reelMet (d : Dev) (n : Nat) (v hi : Word) (cmp : Option Int) (hit : Bool) : Dev :=
  (if hit || d.reelDue n then d.reelKeep n v hi hit
    else d.modReel n fun r => { r with since := r.since.map (· + 1) }).modReel n fun r =>
      { r with prev := match cmp with
                       | some x => some x
                       | none => r.prev }

/-- POST counts on (R415). -/
def Dev.reelCount (d x : Dev) (n : Nat) (due : Bool) : Dev :=
  match (d.reel n).post with
  | some k => if due then (if k ≤ 1 then x.reelEnd n true else x.modReel n fun r => { r with post := some (k - 1) }) else x
  | none => x

theorem Dev.reelValue_eq (v hi : Word) (cmp : Option Int) : d.reelValue n v hi cmp =
    if d.rbit (Reg.REL_STAT n) 1 then
      if d.reelOpen n && d.reelHit n cmp then
        if d.fld (Reg.REL_POST n) 19 0 = 0 then ((d.reelMet n v hi cmp (d.reelOpen n && d.reelHit n cmp)).reelTake n).reelEnd n true
        else (d.reelMet n v hi cmp (d.reelOpen n && d.reelHit n cmp)).reelTake n
      else d.reelCount (d.reelMet n v hi cmp (d.reelOpen n && d.reelHit n cmp)) n (d.reelDue n)
    else d := by
  cases cmp <;> rfl

section

variable {R : Dev → Dev → Prop} (T : Tracing R)

include T

theorem Tracing.foldl {α : Type} {g : Dev → α → Dev} (h : ∀ (e : Dev) x, R e (g e x)) (xs : List α) (d : Dev) :
    R d (xs.foldl g d) := by
  induction xs generalizing d with
  | nil => exact T.refl d
  | cons x xs ih => exact T.trans (h d x) (ih _)

theorem Tracing.modReel (n : Nat) (g : Reel → Reel) : R d (d.modReel n g) :=
  T.tuning d fun t => { t with reels := smSet (fun _ => Reel.reset) t.reels n (g (d.reel n)) }

theorem Tracing.hankPut {req hn : Nat} {loop : Option Nat} {ws : List Word} {tag : DrawTag} :
    R d (d.hankPut req loop hn ws tag).1 :=
  (T.toTraffic.moves_hankPut trivial (fun _ => trivial) (Dev.drawsOk_of_all fun _ => trivial)).1

theorem Tracing.postStore {req cls a : Nat} {loop : Option Nat} {bs : List Byte} {gaps : List Nat} {entry : Bool} {tag : DrawTag} :
    R d (d.postStore req cls loop a bs gaps entry tag).1 :=
  (T.toTraffic.moves_postStore trivial (Dev.drawsOk_of_all fun _ => trivial)).1

theorem Tracing.reelDraw (ws : List (Word × Word)) : R d (d.reelDraw n ws) := by
  simp only [Dev.reelDraw]
  split <;> exact T.trans T.hankPut (T.modReel n _)

theorem Tracing.reelFlush : R d (d.reelFlush n) := by
  simp only [Dev.reelFlush]
  split
  · exact T.refl d
  · exact T.reelDraw _

theorem Tracing.reelEnd (done : Bool) : R d (d.reelEnd n done) := by
  have hend : ∀ x : Dev, R d x → R d ((x.setRbit (Reg.REL_STAT n) 1 false).when done fun d =>
      d.setRbit (Reg.REL_STAT n) 3 true) := fun x hx => by
    cases done
    · exact T.trans hx (T.stat x n _)
    · exact T.trans (T.trans hx (T.stat x n _)) (T.stat _ n _)
  simp only [Dev.reelEnd]
  refine hend _ ?_
  split
  · exact T.modReel n _
  · exact T.trans (T.modReel n _) (T.reelDraw _)

theorem Tracing.reelKeep (v hi : Word) (trg : Bool) : R d (d.reelKeep n v hi trg) := by
  simp only [Dev.reelKeep]
  split
  · exact T.trans (T.trans (T.modReel (d := d) n _) (T.count _ n _)) (T.stat _ n _)
  · refine T.trans (T.trans ?_ (T.modReel n _)) T.reelFlush
    unfold Dev.when
    split
    · exact T.place d n _
    · exact T.refl d

theorem Tracing.reelTake : R d (d.reelTake n) := T.trans (T.stat d n _) (T.modReel n _)

theorem Tracing.reelChain : R d (d.reelChain n) := by
  refine T.foldl (fun e m => ?_) _ _
  split
  · exact T.modReel m _
  · exact T.refl e

theorem Tracing.reelMet (v hi : Word) (cmp : Option Int) (hit : Bool) : R d (d.reelMet n v hi cmp hit) := by
  unfold Dev.reelMet
  refine T.trans ?_ (T.modReel n _)
  split
  · exact T.reelKeep v hi hit
  · exact T.modReel n _

theorem Tracing.reelCount (due : Bool) {x : Dev} (hx : R d x) : R d (d.reelCount x n due) := by
  unfold Dev.reelCount
  split
  · split
    · split
      · exact T.trans hx (T.reelEnd true)
      · exact T.trans hx (T.modReel n _)
    · exact hx
  · exact hx

theorem Tracing.reelValue (v hi : Word) (cmp : Option Int) : R d (d.reelValue n v hi cmp) := by
  rw [Dev.reelValue_eq]
  generalize (d.reelOpen n && d.reelHit n cmp) = hit
  have hmet := T.reelMet (d := d) (n := n) v hi cmp hit
  split
  · split
    · split
      · exact T.trans (T.trans hmet T.reelTake) (T.reelEnd true)
      · exact T.trans hmet T.reelTake
    · exact T.reelCount _ hmet
  · exact T.refl d

theorem Tracing.reelAll (src : Nat → Bool) (v hi : Word) (cmp : Option Int) : R d (d.reelAll src v hi cmp) :=
  T.trans (T.foldl (fun _ _ => T.reelValue v hi cmp) _ _) (T.foldl (fun _ _ => T.reelChain) _ _)

theorem Tracing.injTrace (lg tp : Nat) (v : Word) : R d (d.injTrace lg tp v) := by
  have hnote : ∀ (x : Dev) (c : Bool) (g : Inj → Inj), R x (x.when c fun d => d.modInj g) := fun x c g => by
    cases c
    · exact T.refl x
    · exact T.tuning x fun t => { t with inj := g t.inj }
  unfold Dev.injTrace
  split
  · exact T.trans (hnote d _ _) (hnote _ _ _)
  · exact T.refl d

theorem Tracing.trace (q l tp : Nat) (v : Word) : R d (d.trace q l tp v) := by
  unfold Dev.trace
  split
  · exact T.trans (T.reelAll _ v _ _) (T.injTrace _ tp v)
  · exact T.refl d

end

/-! ### What a commit keeps (R198 to R200) -/

/-- Every loop stays committed as it is, with its count of holds, and a Spindle's queue that is empty stays so. -/
structure Dev.sameCommits (d e : Dev) : Prop where
  loops : ∀ i, (e.loop i).committed = (d.loop i).committed ∧ (e.loop i).holds = (d.loop i).holds
  queues : ∀ q, (d.spn q).queue = [] → (e.spn q).queue = []

theorem Dev.sameCommits.trans (h : d.sameCommits e) (k : e.sameCommits f) : d.sameCommits f where
  loops i := ⟨(k.loops i).1.trans (h.loops i).1, (k.loops i).2.trans (h.loops i).2⟩
  queues q hq := k.queues q (h.queues q hq)

theorem Dev.sameCommits_of_cr (h : e.cr = d.cr) : d.sameCommits e := by
  constructor <;> simp [Dev.loop, Dev.spn, h]

theorem Dev.sameCommits_modSpn (q : Nat) (g : Spindle → Spindle) (hg : ∀ x, x.queue = [] → (g x).queue = []) :
    d.sameCommits (d.modSpn q g) where
  loops _ := ⟨by rfl, by rfl⟩
  queues r hr := by
    unfold Dev.modSpn
    rw [Dev.spn_setSpn]
    split
    · next h => exact hg _ (h ▸ hr)
    · exact hr

theorem Dev.sameCommits_modLoop (i : Nat) (g : Loop → Loop)
    (hg : ∀ x, (g x).committed = x.committed ∧ (g x).holds = x.holds) : d.sameCommits (d.modLoop i g) where
  loops j := by
    unfold Dev.modLoop
    rw [Dev.loop_setLoop]
    split
    · next h => subst h; exact hg _
    · exact ⟨rfl, rfl⟩
  queues _ h := h

theorem Dev.sameCommits_noteSpnLb (q : Nat) (b : Bool) : d.sameCommits (d.noteSpnLb q b) := by
  cases b
  · exact Dev.sameCommits_of_cr rfl
  · exact Dev.sameCommits_modSpn q (fun s => { s with lb := true }) fun _ h => h

theorem Dev.sameCommits_noteLb (c : Core) (b : Bool) : d.sameCommits (d.noteLb c b) := by
  cases b
  · exact Dev.sameCommits_of_cr rfl
  · cases c with
    | spn q => exact Dev.sameCommits_modSpn q (fun s => { s with lb := true }) fun _ h => h
    | bob b => exact ⟨fun _ => ⟨by rfl, by rfl⟩, fun _ h => h⟩

theorem Dev.sameCommits_noteRefused (c : Core) (st : DrawStatus) (pc ea : Word) (loop : Nat) :
    d.sameCommits (d.noteRefused c st pc ea loop) := by
  cases c with
  | spn q =>
    exact Dev.sameCommits_modSpn q (fun s => { s with refused := s.refused ++ [⟨causeOf st, ea, pc, loop⟩] }) fun _ h => h
  | bob b => exact ⟨fun _ => ⟨by rfl, by rfl⟩, fun _ h => h⟩

theorem Dev.sameCommits.foldl {α : Type} {g : Dev → α → Dev} (h : ∀ (e : Dev) x, e.sameCommits (g e x)) (xs : List α) (d : Dev) :
    d.sameCommits (xs.foldl g d) := by
  induction xs generalizing d with
  | nil => exact Dev.sameCommits_of_cr rfl
  | cons x xs ih => exact (h d x).trans (ih _)

theorem Dev.sameCommits_fillSlots (decim : Bool) (unit ch : Nat) (w : Word) (seq : Nat) :
    d.sameCommits (d.fillSlots decim unit ch w seq) := by
  refine .foldl (fun e sp => .foldl (fun e sw => .foldl (fun e j => ?_) _ _) _ _) _ _
  dsimp only
  split
  · exact Dev.sameCommits_modSpn sp.1 _ fun _ h => h
  · exact Dev.sameCommits_of_cr rfl

theorem Dev.cr_linkCounted (l : Nat) : (d.linkCounted l).cr = d.cr := by rfl

theorem Dev.cr_linkCut (l : Nat) : (d.linkCut l).cr = d.cr := by simp [Dev.linkCut, Dev.setRbit]

theorem Dev.sameCommits_tagEnd (t : DrawTag) (st : DrawStatus) (data : List Byte) (got : List Word) :
    d.sameCommits (d.tagEnd t st data got) := by
  cases t with
  | core c pc ea loop =>
    simp only [Dev.tagEnd]
    split
    · exact Dev.sameCommits_noteLb c _
    · exact Dev.sameCommits_noteRefused c st pc ea loop
  | checkpoint q l =>
    simp only [Dev.tagEnd]
    split
    · exact (Dev.sameCommits_modLoop _ (fun x => x.ofCkpt data) fun _ => ⟨by rfl, by rfl⟩).trans (Dev.sameCommits_noteSpnLb q _)
    · exact Dev.sameCommits_of_cr rfl
  | image q => exact Dev.sameCommits_noteSpnLb q _
  | sample decim unit ch w seq =>
    simp only [Dev.tagEnd]
    split
    · exact Dev.sameCommits_fillSlots ..
    · exact Dev.sameCommits_of_cr rfl
  | record l first last =>
    simp only [Dev.tagEnd]
    split
    · split
      · exact Dev.sameCommits_of_cr (Dev.cr_linkCounted l)
      · exact Dev.sameCommits_of_cr rfl
    · exact Dev.sameCommits_of_cr (Dev.cr_linkCut l)
  | position stat bit =>
    simp only [Dev.tagEnd]
    split <;> exact Dev.sameCommits_of_cr rfl
  | plain | prefetch | reel | capture => exact Dev.sameCommits_of_cr (by rfl)

theorem Dev.cr_setBytes (bs : List Byte) (a : Nat) : (d.setBytes a bs).cr = d.cr := by
  obtain ⟨m, hm⟩ := Dev.setBytes_eq (d := d) (bs := bs) a
  rw [hm]
  rfl

theorem Dev.sameCommits_skNear (h : d.skNear e) : d.sameCommits e where
  loops _ := by simp only [Dev.loop, h.loops, and_self]
  queues q hq := by
    obtain ⟨live, hlive⟩ := h.spn q
    rw [hlive]
    exact hq

theorem tracing_sameCommits : Tracing Dev.sameCommits where
  banks _ _ := trivial
  refl _ := Dev.sameCommits_of_cr rfl
  trans := .trans
  step h := Dev.sameCommits_skNear h.toskNear
  draws _ _ _ := Dev.sameCommits_of_cr rfl
  hank _ _ _ _ _ _ := Dev.sameCommits_of_cr rfl
  lost _ _ _ _ _ _ := Dev.sameCommits_of_cr rfl
  bytes _ _ _ _ _ _ _ := Dev.sameCommits_of_cr (Dev.cr_setBytes _ _)
  tag _ _ _ _ _ _ := Dev.sameCommits_tagEnd ..
  moved _ _ := trivial
  fetch _ _ _ _ _ := trivial
  tuning _ _ := Dev.sameCommits_of_cr rfl
  stat _ _ _ := Dev.sameCommits_of_cr rfl
  place _ _ _ := Dev.sameCommits_of_cr rfl
  count _ _ _ := Dev.sameCommits_of_cr rfl

theorem Dev.sameCommits_corePost (c : Core) (loop : Option Nat) (ea : Nat) (bs : List Byte) (gaps : List Nat) (pc : Word) :
    d.sameCommits (d.corePost c loop ea bs gaps pc) := by
  have hend : ∀ r : Dev × SkRes, d.sameCommits r.1 → d.sameCommits (match r.2 with
      | .refused st => r.1.noteRefused c st pc (BitVec.ofNat 32 ea) (loop.getD 0)
      | .done brk => r.1.noteLb c brk
      | .wait => r.1) := fun r hr => by
    split
    · exact hr.trans (Dev.sameCommits_noteRefused ..)
    · exact hr.trans (Dev.sameCommits_noteLb c _)
    · exact hr
  unfold Dev.corePost
  refine hend _ ?_
  split
  · split
    · exact tracing_sameCommits.hankPut
    · exact Dev.sameCommits_of_cr rfl
  · exact tracing_sameCommits.postStore

theorem Dev.sameCommits_drainQueue (q : List QDraw) : d.sameCommits (d.drainQueue p l q) := by
  induction q generalizing d with
  | nil => exact Dev.sameCommits_of_cr rfl
  | cons x q ih =>
    cases x with
    | trace tp w => exact (tracing_sameCommits.trace p l tp w).trans ih
    | beat ws ea pc => exact (Dev.sameCommits_corePost ..).trans ih

theorem Dev.sameCommits_stopEntry (q : Nat) : d.sameCommits (d.stopEntry q) where
  loops _ := ⟨by rfl, by rfl⟩
  queues r hr := by
    by_cases h : r = q
    · rw [h, Dev.spn_stopEntry]
    · rw [← hr]
      unfold Dev.stopEntry Dev.modSpn
      rw [Dev.spn_setSpn, if_neg h]
      rfl

theorem Dev.sameCommits_spnTrap (q m cause : Nat) (pc ea : Word) (imp : Bool) : d.sameCommits (d.spnTrap q m cause pc ea imp) := by
  have hstop : d.sameCommits (d.loopTrapped q m) := by
    unfold Dev.loopTrapped
    cases decide ((d.spn q).slot = some m)
    · exact Dev.sameCommits_of_cr rfl
    · exact (Dev.sameCommits_stopEntry q).trans (Dev.sameCommits_of_cr rfl)
  have hnote : (d.loopTrapped q m).sameCommits (d.trapNoted q m cause pc ea imp) := by
    unfold Dev.trapNoted
    split <;> exact Dev.sameCommits_of_cr rfl
  rw [Dev.spnTrap_eq]
  exact (hstop.trans hnote).trans (Dev.sameCommits_of_cr (by rw [Dev.cr_injTargetGone, Dev.raise_cr]))

theorem Dev.sameCommits_takeRefused : d.sameCommits (d.takeRefused p) := by
  unfold Dev.takeRefused
  split
  · exact Dev.sameCommits_of_cr rfl
  · next r _ _ =>
    exact (Dev.sameCommits_modSpn p (fun s => { s with refused := s.refused.filter fun x => decide (x.loop ≠ r.loop) })
      fun _ h => h).trans (Dev.sameCommits_spnTrap ..)

end Sys2Proof.Machine
end

section
/-! Run-ahead (R193 to R200, R206): rahead, check, commit and halt by the conditions that stop them, and a commit by what its
stores and its traps leave. -/

namespace Sys2Proof.Machine

variable {d e : Dev} {s : State} {p : Fin 18} {l : Nat} {k : BitVec 8}

/-- A loop whose commit is counted, before its queue drains (R198). -/
def Dev.noted198 (d : Dev) (p : Fin 18) (l : Nat) (t : Bool) : Dev :=
  (d.modLp p l fun x => { x with committed := true, inTime := t, holds := 0, imagesC := x.images }).modSpn p fun s =>
    { s with queue := [] }

/-- What a commit leaves of its loop and of the queue. -/
structure Dev.counted (d : Dev) (p : Fin 18) (l : Nat) : Prop where
  committed : (d.lp p l).committed = true
  holds : (d.lp p l).holds = 0
  queue : (d.spn p).queue = []

theorem Dev.counted_noted198 (t : Bool) : (d.noted198 p l t).counted p l := by
  have hlp : (d.noted198 p l t).lp p l = { d.lp p l with committed := true, inTime := t, holds := 0, imagesC := (d.lp p l).images } :=
    (Dev.lp_modSpn _).trans (Dev.lp_modLp_same _)
  exact ⟨by rw [hlp], by rw [hlp], by rw [Dev.noted198, Dev.spn_modSpn_same]⟩

theorem Dev.counted.mono (h : d.counted p l) (k : d.sameCommits e) : e.counted p l where
  committed := (k.loops _).1.trans h.committed
  holds := (k.loops _).2.trans h.holds
  queue := k.queues p h.queue

/-- A commit is counted, whatever its images, its checkpoint and its queue meet. -/
theorem Dev.counted_commit : (d.commit p l).counted p l := by
  unfold Dev.commit
  dsimp only
  split
  · exact (Dev.counted_noted198 _).mono (Dev.sameCommits_drainQueue _)
  · exact (Dev.counted_noted198 _).mono ((Dev.sameCommits_drainQueue _).trans Dev.sameCommits_takeRefused)

theorem Dev.counted.setPc (h : e.counted p l) (w : Word) : (e.setPc (.spn p) w).counted p l :=
  h.mono (Dev.sameCommits_modSpn p (fun x => { x with pc := w }) fun _ hq => hq)

theorem Dev.counted.finish {w : Word} (h : e.counted p l) : (Dev.finish (.spn p) w (.next e)).counted p l := by
  simp only [Dev.finish]
  split
  · exact h.setPc _
  · exact h

/-- An instruction of a Spindle that leaves the core where it put it. -/
theorem stays_effect {c : Core} {i : Instr} {ill : Bool} {prof : Profile} {f : Dev → Eff} (hill : ill = false)
    (hex : exec i s = .next (s.withDev (s.dev.issue c i prof ill f))) (hp : prof.has c = true) (hf : f s.dev = .stay e)
    (hx : s.dev.executes c i) : exec i s = .next (s.withDev e) := by
  subst hill
  rw [hex, Dev.issue_stay hx hp hf]

/-- An instruction that completes, and may have stopped its core. -/
theorem gives_effect {c : Core} {i : Instr} {ill : Bool} {prof : Profile} {f : Dev → Eff} {P : Dev → Prop} (hill : ill = false)
    (hex : exec i s = .next (s.withDev (s.dev.issue c i prof ill f))) (hp : prof.has c = true) (hf : f s.dev = .next e)
    (hx : s.dev.executes c i) (hP : P (Dev.finish c ((encode i).getD 0) (.next e))) : Gives i s P := by
  subst hill
  refine .of_next hex ?_
  rw [Dev.issue_eq hx, Dev.effect_eq hx hp, Dev.leaves_eq hx, hf]
  exact hP

/-- A trap of a transfer that may not be made comes first. -/
theorem traps_out {c : Core} {i : Instr} {ill : Bool} {prof : Profile} {f : Dev → Eff}
    (hex : exec i s = .next (s.withDev (s.dev.issue c i prof ill f))) (ht : transfers i = true)
    (hf : f s.dev = .trap s.dev 1 none) : Traps s c i 1 none := by
  intro h
  have hleaves : s.dev.leaves c i (f s.dev) = true := by
    rw [Dev.leaves_eq h, hf]
    simp [ht]
  rw [hex, Dev.issue_eq h, Dev.effect]
  simp only [hleaves, if_true, Dev.finish]

theorem Dev.raill_ra {x : Eff} (h : (d.spn p).ra = true) : d.raill (.spn p) x = .trap d 0x10 none := if_pos h

/-- A Spindle waits for its primary set, which is not complete. -/
theorem Dev.tryWait_check {n : Nat} (hw : d.primaryReady p (d.curLoop p) = false) :
    ((d.modSpn p fun x => { x with wait := some (.check n) }).tryWait p) = d.modSpn p fun x => { x with wait := some (.check n) } := by
  have hready : (d.modSpn p fun x => { x with wait := some (.check n) }).primaryReady p
      ((d.modSpn p fun x => { x with wait := some (.check n) }).curLoop p) = false := by
    rw [← hw]
    simp only [Dev.primaryReady, Dev.curLoop, Dev.spn_modSpn_same]
    rfl
  unfold Dev.tryWait
  dsimp only
  rw [Dev.spn_modSpn_same]
  dsimp only
  rw [if_neg (by rw [hready]; decide)]

/-- Settles O27: each instruction by the first condition that holds; a commit by what it notes before its queue drains. -/
theorem runAhead : Obligations.RunAhead := by
  intro p k s d c l z
  have hz : illCtl z = false := rfl
  have hk : (nz (0 : BitVec 5) || nz 0 || nz 0) = false := rfl
  refine ⟨fun hin => ⟨fun hra => ?twice, fun hra hl => ?locked, fun hra hl hp hb hr hx => ?start, fun hra hl hp hx => ?plain⟩,
    fun hin => ?out, fun hra => ?checkOff, fun hra hkind => ?checkKind, fun hra hkind hw hx => ?checkWaits,
    fun hra => ⟨?commitRa, ?haltRa⟩, fun hra hc => ?commitTwice, fun ev hra hc he hlate => ?commitLate,
    fun hra hc he hx => ?commit, fun hra hx => ⟨fun hb => ?haltBody, fun hb => ?haltEnds⟩⟩
  case twice =>
    exact traps_effect hz rfl rfl ((if_neg (by simp [hin, d, l])).trans (Dev.raill_ra hra)) (by decide)
  case locked =>
    refine traps_effect hz rfl rfl (Eq.trans (if_neg (by simp [hin, d, l])) ((Dev.raill_spn hra).trans ?_)) (by decide)
    exact if_pos hl
  case start =>
    have hlock : d.holdsLock c = false := Option.isSome_eq_false_iff.mpr (Option.isNone_iff_eq_none.mpr hl)
    have hstay : exec (.rahead c z) s = .next (s.withDev (d.startRa p l)) := by
      refine stays_effect hz rfl rfl (Eq.trans (if_neg (by simp [hin, d, l])) ((Dev.raill_spn hra).trans ?_)) hx
      refine (if_neg (by simpa using hlock)).trans ((if_neg (by simp [hp, d, l])).trans (if_pos ?_))
      exact Bool.and_eq_true_iff.mpr ⟨hb, congrArg not hr⟩
    have hspn : (d.startRa p l).spn p = { d.spn p with
        snap := { v := (d.spn p).v, a := (d.spn p).a, images := (d.lp p l).images, lb := (d.spn p).lb }, ra := true, spec := true,
        queue := [], maskS := 0, maskC := 0, entry := some .body, wait := none, pc := d.entryPc p l .body } := by
      rw [Dev.startRa, Dev.startBody, Dev.spn_modSpn_same, Dev.spn_modSpn_same]
      simp only [Dev.entryPc, Dev.spn_modSpn_same]
      rfl
    have hgv : ∀ q, (d.startRa p l).gv c q = d.gv c q := fun q => by simp only [Dev.gv, c, hspn]
    refine .of_next hstay ⟨?_, ?_, ?_, ?_, ?_, ?_, ?_, ?_, ?_, hgv, fun _ => rfl, fun _ _ => rfl⟩ <;> rw [hspn]
  case plain =>
    have hlock : d.holdsLock c = false := Option.isSome_eq_false_iff.mpr (Option.isNone_iff_eq_none.mpr hl)
    refine stays_effect hz rfl rfl (Eq.trans (if_neg (by simp [hin, d, l])) ((Dev.raill_spn hra).trans ?_)) hx
    exact (if_neg (by simpa using hlock)).trans (if_pos (by simpa using hp))
  case out => exact traps_out (c := c) rfl rfl (if_pos (by simp [hin, d, l]))
  case checkOff =>
    exact runs_effect hk rfl rfl (if_neg (by simp [hra, d])) rfl rfl
  case checkKind =>
    exact traps_effect hk rfl rfl (Eq.trans (if_pos hra) (if_neg (by simp [hkind, d, c, l]))) (by decide)
  case checkWaits =>
    refine stays_effect hk rfl rfl (Eq.trans (if_pos hra) (Eq.trans (if_pos hkind) ?_)) hx
    exact congrArg Eff.stay (Dev.tryWait_check hw)
  case commitRa => exact traps_effect hz rfl rfl (Dev.raill_ra hra) (by decide)
  case haltRa => exact traps_effect hz rfl rfl (Dev.raill_ra hra) (by decide)
  case commitTwice => exact traps_effect hz rfl rfl ((Dev.raill_spn hra).trans (if_pos hc)) (by decide)
  case commitLate =>
    refine runs_effect hz rfl rfl ((Dev.raill_spn hra).trans ((if_neg (by simp [hc, d, l])).trans (if_pos ?_))) rfl rfl
    have hticks : d.deadTicks p l = if d.rbit (Reg.SPN_LSTAT p l) 1 = true ∨ (d.spn p).recovered = true
        then d.fld (Reg.SPN_LDEAD p l) 15 0 else d.fld (Reg.SPN_LSLOT p l) 31 16 := by
      simp only [Dev.deadTicks, Bool.or_eq_true]
    rw [← hticks] at hlate
    show d.tooLate p l = true
    rw [Dev.tooLate, he]
    exact decide_eq_true hlate
  case commit =>
    have hnever : d.tooLate p l = false := by rw [Dev.tooLate, he]
    have hcommit := (Dev.counted_commit (d := d) (p := p) (l := l)).finish (w := (encode (.commit c z)).getD 0)
    refine gives_effect hz rfl rfl ((Dev.raill_spn hra).trans ?_) hx ⟨hcommit.committed, hcommit.holds, hcommit.queue⟩
    exact (if_neg (by simp [hc, d, l])).trans (if_neg (by simp [hnever, d, l]))
  case haltBody =>
    refine stays_effect hz rfl rfl ((Dev.raill_spn hra).trans ?_) hx
    exact congrArg Eff.stay (if_pos hb)
  case haltEnds =>
    refine stays_effect hz rfl rfl ((Dev.raill_spn hra).trans ?_) hx
    exact congrArg Eff.stay (if_neg hb)

end Sys2Proof.Machine
end

section
/-! SUPPORT. The Snarl (R418 to R428, R440): what the masks take of a cycle, what one event counts and brings due, and what
either leaves. -/

namespace Sys2Proof.Machine

variable {d e f : Dev} {x y : SrcInst} {es : List SrcInst} {but : List Nat} {i j k : Nat}

/-! ### What no event changes but registers -/

/-- Only registers that are named change, and what is neither of the Skein nor of the Snarl. -/
structure Dev.snarlNear (d e : Dev) (but : List Nat) : Prop where
  keeps : d.keeps e but
  reports : e.reports = d.reports
  sn : e.sn = d.sn
  now : e.now = d.now

theorem Dev.snarlNear.rfl : d.snarlNear d but := ⟨.rfl, by rfl, by rfl, by rfl⟩

theorem Dev.snarlNear.trans (h : d.snarlNear e but) (k : e.snarlNear f but) : d.snarlNear f but :=
  ⟨(h.keeps.trans k.keeps).mono (by simp), k.reports.trans h.reports, k.sn.trans h.sn, k.now.trans h.now⟩

theorem Dev.snarlNear_setReg {a : Nat} (w : Word) (ha : a ∈ but) : d.snarlNear (d.setReg a w) but :=
  ⟨Dev.keeps.rfl.set a w ha, by rfl, by rfl, by rfl⟩

theorem Dev.snarlNear_setRbit {a : Nat} (i : Nat) (b : Bool) (ha : a ∈ but) : d.snarlNear (d.setRbit a i b) but :=
  Dev.snarlNear_setReg _ ha

theorem Dev.snarlNear.bit (h : d.snarlNear e but) (a i : Nat) (b : Bool) (ha : a ∈ but) : d.snarlNear (e.setRbit a i b) but :=
  h.trans (Dev.snarlNear_setRbit i b ha)

/-- A step that touches neither the Skein nor registers nor the Snarl. -/
theorem Dev.snarlNear.same (h : d.snarlNear e but) (hsk : f.sk = e.sk) (hregs : f.regs = e.regs) (hreports : f.reports = e.reports)
    (hsn : f.sn = e.sn) (hnow : f.now = e.now) : d.snarlNear f but :=
  ⟨h.keeps.same hsk hregs, hreports.trans h.reports, hsn.trans h.sn, hnow.trans h.now⟩

theorem Dev.snarlNear.when {c : Bool} {g : Dev → Dev} (h : d.snarlNear (g d) but) : d.snarlNear (d.when c g) but := by
  cases c
  · exact .rfl
  · exact h

theorem Dev.snarlNear.foldl {α : Type} {g : Dev → α → Dev} (h : ∀ (e : Dev) z, e.snarlNear (g e z) but) (zs : List α) (d : Dev) :
    d.snarlNear (zs.foldl g d) but := by
  induction zs generalizing d with
  | nil => exact .rfl
  | cons z zs ih => exact (h d z).trans (ih _)

theorem Dev.snarlNear_reelSnarl (s : Nat) : d.snarlNear (d.reelSnarl s) but := by
  refine .foldl (fun e n => ?_) _ _
  split
  · exact ⟨Dev.keeps.rfl.same rfl rfl, by rfl, by rfl, by rfl⟩
  · exact .rfl

/-! ### The masks (R427, R428) -/

/-- The registers of the masks, with SNL_STAT. -/
def maskRegs : List Nat := Reg.SNL_STAT :: ((List.range 8).map Reg.SNL_STICKY ++ (List.range 8).map Reg.SNL_FIRST)

theorem sticky_mem (hi : i < 8) : Reg.SNL_STICKY i ∈ maskRegs := by revert i; decide
theorem first_mem (hi : i < 8) : Reg.SNL_FIRST i ∈ maskRegs := by revert i; decide
theorem sticky_inj : Reg.SNL_STICKY i = Reg.SNL_STICKY j ↔ i = j := by unfold Reg.SNL_STICKY; omega
theorem first_inj : Reg.SNL_FIRST i = Reg.SNL_FIRST j ↔ i = j := by unfold Reg.SNL_FIRST; omega
theorem sticky_ne_first (hi : i < 8) (hj : j < 8) : Reg.SNL_STICKY i ≠ Reg.SNL_FIRST j := by
  unfold Reg.SNL_STICKY Reg.SNL_FIRST; omega
theorem sticky_ne_stat (hi : i < 8) : Reg.SNL_STICKY i ≠ Reg.SNL_STAT := by unfold Reg.SNL_STICKY Reg.SNL_STAT; omega
theorem first_ne_stat (hi : i < 8) : Reg.SNL_FIRST i ≠ Reg.SNL_STAT := by unfold Reg.SNL_FIRST Reg.SNL_STAT; omega

/-- The bit of a source in a set of masks. -/
def Dev.mask (d : Dev) (base : Nat → Nat) (j : Nat) : Bool := d.rbit (base (j / 32)) (j % 32)

theorem Dev.mask_setMask {base : Nat → Nat} (hinj : ∀ i j, base i = base j ↔ i = j) (s j : Nat) :
    (d.setMask base s).mask base j = (d.mask base j || decide (s = j)) := by
  unfold Dev.setMask Dev.mask
  by_cases hd : s / 32 = j / 32
  · rw [hd, Dev.rbit_setRbit _ _ _ _ _ (Nat.mod_lt _ (by decide))]
    by_cases hm : j % 32 = s % 32
    · have hs : s = j := by omega
      simp [hs]
    · have hs : s ≠ j := fun h => hm (h ▸ rfl)
      simp [hm, hs]
  · have hs : s ≠ j := fun h => hd (h ▸ rfl)
    have hne : base (j / 32) ≠ base (s / 32) := fun h => hd ((hinj _ _).mp h).symm
    rw [Dev.rbit_congr (Dev.reg_setRbit_other _ _ _ hne)]
    simp [hs]

theorem Dev.mask_setMask_other {base other : Nat → Nat} {s : Nat} (h : base (j / 32) ≠ other (s / 32)) :
    (d.setMask other s).mask base j = d.mask base j := Dev.rbit_congr (Dev.reg_setRbit_other _ _ _ h) _

/-- A source taken by the masks. -/
def Dev.markSrc (d : Dev) (clean : Bool) (x : SrcInst) : Dev :=
  (d.setMask Reg.SNL_STICKY x.src.toNat).when clean fun d => d.setMask Reg.SNL_FIRST x.src.toNat

theorem Dev.masks_eq : d.masks es = (es.foldl (fun e x => e.markSrc d.snlClean x) d).showClean := rfl

theorem src_word (x : SrcInst) : x.src.toNat / 32 < 8 := by omega

theorem Dev.sticky_markSrc (clean : Bool) (hj : j < 256) :
    (d.markSrc clean x).mask Reg.SNL_STICKY j = (d.mask Reg.SNL_STICKY j || decide (x.src.toNat = j)) := by
  unfold Dev.markSrc
  cases clean
  · exact Dev.mask_setMask (fun _ _ => sticky_inj) _ j
  · exact (Dev.mask_setMask_other (sticky_ne_first (by omega) (src_word x))).trans (Dev.mask_setMask (fun _ _ => sticky_inj) _ j)

theorem Dev.first_markSrc (clean : Bool) (hj : j < 256) :
    (d.markSrc clean x).mask Reg.SNL_FIRST j = (d.mask Reg.SNL_FIRST j || (clean && decide (x.src.toNat = j))) := by
  have hold : (d.setMask Reg.SNL_STICKY x.src.toNat).mask Reg.SNL_FIRST j = d.mask Reg.SNL_FIRST j :=
    Dev.mask_setMask_other (sticky_ne_first (src_word x) (by omega)).symm
  unfold Dev.markSrc
  cases clean
  · exact hold.trans (by simp)
  · refine (Dev.mask_setMask (fun _ _ => first_inj) _ j).trans ?_
    rw [hold, Bool.true_and]

theorem Dev.markSrc_near (clean : Bool) : d.snarlNear (d.markSrc clean x) maskRegs :=
  (Dev.snarlNear_setRbit _ true (sticky_mem (src_word x))).trans (.when (Dev.snarlNear_setRbit _ true (first_mem (src_word x))))

theorem Dev.masks_near : d.snarlNear (d.masks es) maskRegs :=
  (Dev.snarlNear.foldl (fun _ _ => Dev.markSrc_near _) es d).trans (Dev.snarlNear_setRbit 0 _ List.mem_cons_self)

theorem Dev.sticky_masks (hj : j < 256) : (d.masks es).mask Reg.SNL_STICKY j =
    (d.mask Reg.SNL_STICKY j || es.any fun x => decide (x.src.toNat = j)) := by
  have hfold : ∀ (c : Bool) (e : Dev), (es.foldl (fun e x => e.markSrc c x) e).mask Reg.SNL_STICKY j =
      (e.mask Reg.SNL_STICKY j || es.any fun x => decide (x.src.toNat = j)) := fun c => by
    induction es with
    | nil => simp
    | cons x es ih =>
      intro e
      rw [List.foldl_cons, ih, Dev.sticky_markSrc c hj, List.any_cons, Bool.or_assoc]
  rw [Dev.masks_eq]
  exact (Dev.rbit_congr (Dev.reg_setRbit_other _ _ _ (sticky_ne_stat (by omega))) _).trans (hfold _ d)

theorem Dev.first_masks (hj : j < 256) : (d.masks es).mask Reg.SNL_FIRST j =
    (d.mask Reg.SNL_FIRST j || (d.snlClean && es.any fun x => decide (x.src.toNat = j))) := by
  have hfold : ∀ (c : Bool) (e : Dev), (es.foldl (fun e x => e.markSrc c x) e).mask Reg.SNL_FIRST j =
      (e.mask Reg.SNL_FIRST j || (c && es.any fun x => decide (x.src.toNat = j))) := fun c => by
    induction es with
    | nil => simp
    | cons x es ih =>
      intro e
      rw [List.foldl_cons, ih, Dev.first_markSrc c hj, List.any_cons, Bool.and_or_distrib_left, Bool.or_assoc]
  rw [Dev.masks_eq]
  exact (Dev.rbit_congr (Dev.reg_setRbit_other _ _ _ (first_ne_stat (by omega))) _).trans (hfold _ d)

/-- A set bit of STICKY is no clean mask. -/
theorem Dev.not_clean (hj : j < 256) (h : d.mask Reg.SNL_STICKY j = true) : d.snlClean = false := by
  refine Bool.eq_false_iff.mpr fun hc => ?_
  have hz := List.all_eq_true.mp hc (j / 32) (List.mem_range.mpr (by omega))
  simp only [Bool.and_eq_true, decide_eq_true_eq] at hz
  rw [Dev.mask, Dev.rbit, hz.1] at h
  simp [bitOf] at h

/-- CLEAN falls with the first source that the masks take. -/
theorem Dev.clean_masks (hx : x ∈ es) : (d.masks es).rbit Reg.SNL_STAT 0 = false := by
  have hset := Dev.sticky_masks (d := d) (es := es) (j := x.src.toNat) (by omega)
  have hany : (es.any fun y => decide (y.src.toNat = x.src.toNat)) = true := List.any_eq_true.mpr ⟨x, hx, by simp⟩
  rw [hany, Bool.or_true, Dev.masks_eq] at hset
  rw [Dev.masks_eq, Dev.showClean, Dev.rbit_setRbit _ _ _ _ _ (by decide), if_pos rfl]
  refine Dev.not_clean (j := x.src.toNat) (by omega) (Eq.trans ?_ hset)
  exact (Dev.rbit_congr (Dev.reg_setRbit_other _ _ _ (sticky_ne_stat (by omega))) _).symm

/-! ### One event (R421, R422, R440) -/

/-- The registers that show an event beside the masks. -/
def noticeRegs : List Nat := [Reg.DST_FLT, Reg.SNL_NOTE, Reg.NVM_STAT]

/-- The status bits of FLT_N at an event, before its pulse is timed. -/
def Dev.fltShown (d : Dev) : Dev := ((d.setRbit Reg.DST_FLT 1 true).setRbit Reg.DST_FLT 2 true).showFlt

theorem Dev.fltEvent_eq : d.fltEvent = d.fltShown.modSu fun x => { x with fltAt := d.now } := rfl

theorem Dev.fltShown_near : d.snarlNear d.fltShown noticeRegs :=
  ((Dev.snarlNear.rfl.bit Reg.DST_FLT 1 true (by decide)).bit Reg.DST_FLT 2 true (by decide)).bit Reg.DST_FLT 0 _ (by decide)

theorem Dev.snarlNear.modSu (h : d.snarlNear e but) (g : SupplySt → SupplySt) : d.snarlNear (e.modSu g) but :=
  h.same (Eq.refl _) (Eq.refl _) (Eq.refl _) (Eq.refl _) (Eq.refl _)

theorem Dev.snarlNear.modFl (h : d.snarlNear e but) (g : FlashSt → FlashSt) : d.snarlNear (e.modFl g) but :=
  h.same (Eq.refl _) (Eq.refl _) (Eq.refl _) (Eq.refl _) (Eq.refl _)

theorem Dev.fltEvent_near : d.snarlNear d.fltEvent noticeRegs := by
  rw [Dev.fltEvent_eq]
  exact Dev.fltShown_near.modSu _

theorem Dev.announce_near : d.snarlNear (d.announce x) noticeRegs :=
  ((Dev.snarlNear.when Dev.fltEvent_near).trans (.when (Dev.snarlNear_setRbit _ true (by decide)))).trans (Dev.snarlNear_reelSnarl _)

/-- What a reaction adds to those due. -/
def newDue (x : SrcInst) (code : Nat) (severe : Bool) : List Due := if code = 0 then [] else [⟨code, x, severe⟩]

/-- A reaction falls due, and perhaps its record. -/
theorem Dev.reactDue_near (code : Nat) (severe : Bool) :
    (d.modSn fun y => { y with due := y.due ++ newDue x code severe }).snarlNear (d.reactDue x code severe) noticeRegs := by
  unfold Dev.reactDue newDue
  split
  · simp only [List.append_nil]
    exact ⟨Dev.keeps.rfl.same rfl rfl, by rfl, by rfl, by rfl⟩
  · refine .when ?_
    unfold Dev.recordDue
    exact (Dev.snarlNear.rfl.modFl _).bit Reg.NVM_STAT 1 true (by decide)

/-- An event of a source, with the severity and the reaction that it is given. -/
def Dev.event (d : Dev) (x : SrcInst) (c : SnlCnt) (code : Nat) (severe : Bool) : Dev :=
  ((d.setSnlCnt (cntKey x) c).announce x).reactDue x code severe

theorem Dev.oneEvent_eq : d.oneEvent x = d.event x (d.countEvent x).1
    (if (d.countEvent x).2 then d.sreact x.src.toNat else d.treact x.src.toNat) (d.countEvent x).2 := rfl

/-- What an event leaves: its count and its reaction are noted, the rest of the Snarl stands. -/
theorem Dev.event_near {c : SnlCnt} {code : Nat} {severe : Bool} :
    ((d.setSnlCnt (cntKey x) c).modSn fun y => { y with due := y.due ++ newDue x code severe }).snarlNear (d.event x c code severe)
      noticeRegs := by
  obtain ⟨hkeeps, hreports, hsn, hnow⟩ := Dev.announce_near (d := d.setSnlCnt (cntKey x) c) (x := x)
  obtain ⟨kkeeps, kreports, ksn, know⟩ :=
    Dev.reactDue_near (d := (d.setSnlCnt (cntKey x) c).announce x) (x := x) code severe
  refine ⟨?_, kreports.trans hreports, ?_, know.trans hnow⟩
  · exact ((Dev.keeps.same (f := ((d.setSnlCnt (cntKey x) c).announce x).modSn _) hkeeps rfl rfl).trans kkeeps).mono (by simp)
  · exact ksn.trans (by simp only [Dev.modSn, hsn])

theorem Dev.flt_fltEvent : d.fltEvent.rbit Reg.DST_FLT 0 = true ∧ d.fltEvent.rbit Reg.DST_FLT 2 = true := by
  have h2 : ((d.setRbit Reg.DST_FLT 1 true).setRbit Reg.DST_FLT 2 true).rbit Reg.DST_FLT 2 = true := by
    rw [Dev.rbit_setRbit _ _ _ _ _ (by decide), if_pos rfl]
  have hshown : ∀ i, d.fltEvent.rbit Reg.DST_FLT i = if i = 0 then true
      else ((d.setRbit Reg.DST_FLT 1 true).setRbit Reg.DST_FLT 2 true).rbit Reg.DST_FLT i := fun i => by
    refine (Dev.rbit_setRbit _ Reg.DST_FLT 0 i _ (by decide)).trans ?_
    rw [h2, Bool.or_true, Bool.true_or]
  exact ⟨(hshown 0).trans (if_pos rfl), ((hshown 2).trans (if_neg (by decide))).trans h2⟩

/-- FLT_N goes low with an event that pulses it, and LATCH is set (R440). -/
theorem Dev.flt_announce (h : bitOf (d.scfg x.src.toNat) 14 = true) :
    (d.announce x).rbit Reg.DST_FLT 0 = true ∧ (d.announce x).rbit Reg.DST_FLT 2 = true := by
  have hnote : d.fltEvent.snarlNear (d.announce x) [Reg.SNL_NOTE] := by
    unfold Dev.announce
    dsimp only
    rw [h]
    exact (Dev.snarlNear.when (Dev.snarlNear_setRbit _ true (by decide))).trans (Dev.snarlNear_reelSnarl _)
  have hreg : (d.announce x).reg Reg.DST_FLT = d.fltEvent.reg Reg.DST_FLT := hnote.keeps.2 _ (by decide)
  rw [Dev.rbit_congr hreg, Dev.rbit_congr hreg]
  exact Dev.flt_fltEvent

theorem Dev.flt_event {c : SnlCnt} {code : Nat} {severe : Bool} (h : bitOf (d.scfg x.src.toNat) 14 = true) :
    (d.event x c code severe).rbit Reg.DST_FLT 0 = true ∧ (d.event x c code severe).rbit Reg.DST_FLT 2 = true := by
  have hreg : (d.event x c code severe).reg Reg.DST_FLT = ((d.setSnlCnt (cntKey x) c).announce x).reg Reg.DST_FLT := by
    unfold Dev.event Dev.reactDue
    split
    · rfl
    · unfold Dev.when
      split
      · exact Dev.reg_setRbit_other _ _ _ (by decide)
      · rfl
  rw [Dev.rbit_congr hreg, Dev.rbit_congr hreg]
  exact Dev.flt_announce h

/-- What one event after another leaves: counts of other instances, and all of the Snarl but counts and reactions. -/
structure Dev.counts (d e : Dev) (ks : List Nat) : Prop where
  keeps : d.keeps e noticeRegs
  reports : e.reports = d.reports
  now : e.now = d.now
  scfg : e.sn.scfg = d.sn.scfg
  high : e.sn.high = d.sn.high
  others : ∀ k, k ∉ ks → e.snlCnt k = d.snlCnt k

theorem Dev.counts_event {c : SnlCnt} {code : Nat} {severe : Bool} : d.counts (d.event x c code severe) [cntKey x] := by
  obtain ⟨hkeeps, hreports, hsn, hnow⟩ := Dev.event_near (d := d) (x := x) (c := c) (code := code) (severe := severe)
  refine ⟨⟨hkeeps.1, hkeeps.2⟩, hreports, hnow, ?_, ?_, fun k hk => ?_⟩
  · rw [hsn]; rfl
  · rw [hsn]; rfl
  · rw [Dev.snlCnt, hsn]
    exact smGet_smSet_other _ _ _ (List.mem_singleton.not.mp hk)

theorem Dev.counts_oneEvent : d.counts (d.oneEvent x) [cntKey x] := Dev.counts_event

theorem Dev.counts.trans {ks ms : List Nat} (h : d.counts e ks) (k : e.counts f ms) : d.counts f (ks ++ ms) where
  keeps := (h.keeps.trans k.keeps).mono (by simp)
  reports := k.reports.trans h.reports
  now := k.now.trans h.now
  scfg := k.scfg.trans h.scfg
  high := k.high.trans h.high
  others n hn := by
    rw [List.mem_append, not_or] at hn
    exact (k.others n hn.2).trans (h.others n hn.1)

theorem Dev.counts_foldl (es : List SrcInst) (d : Dev) : d.counts (es.foldl (fun e x => e.oneEvent x) d) (es.map cntKey) := by
  induction es generalizing d with
  | nil => exact ⟨.rfl, rfl, rfl, rfl, rfl, fun _ _ => rfl⟩
  | cons x es ih => exact (Dev.counts_oneEvent (d := d) (x := x)).trans (ih _)

/-- The count of an event and its reaction. -/
theorem Dev.event_notes {c : SnlCnt} {code : Nat} {severe : Bool} : (d.event x c code severe).snlCnt (cntKey x) = c ∧
    (d.event x c code severe).sn.due = d.sn.due ++ newDue x code severe := by
  obtain ⟨-, -, hsn, -⟩ := Dev.event_near (d := d) (x := x) (c := c) (code := code) (severe := severe)
  refine ⟨?_, by rw [hsn]; rfl⟩
  rw [Dev.snlCnt, hsn]
  exact smGet_smSet_same ..

theorem Dev.countEvent_congr (hsc : e.sn.scfg = d.sn.scfg) (hnow : e.now = d.now) (hcnt : e.snlCnt (cntKey x) = d.snlCnt (cntKey x)) :
    e.countEvent x = d.countEvent x := by
  unfold Dev.countEvent Dev.scfg
  rw [hsc, hnow, hcnt]

theorem cntKey_inj (h : cntKey x = cntKey y) : x = y := by
  obtain ⟨s, i⟩ := x
  obtain ⟨t, j⟩ := y
  simp only [cntKey] at h
  have hs : s = t := BitVec.eq_of_toNat_eq (by omega)
  have hi : i = j := BitVec.eq_of_toNat_eq (by omega)
  rw [hs, hi]

theorem reactRank_lt (code : Nat) : reactRank code < 6 := by
  unfold reactRank
  split <;> decide

/-- One reaction is in order by itself. -/
theorem ranked_newDue (code : Nat) (severe : Bool) :
    ((List.range 6).flatMap fun k => (newDue x code severe).filter fun r => reactRank r.code = k) = newDue x code severe := by
  unfold newDue
  split
  · rfl
  · have hrank := reactRank_lt code
    generalize hr : reactRank code = r at hrank
    simp only [show List.range 6 = [0, 1, 2, 3, 4, 5] from rfl, List.flatMap_cons, List.flatMap_nil, List.filter_singleton, hr]
    interval_cases r <;> rfl

theorem Dev.due_sortDue {l : List Due} {code : Nat} {severe : Bool} (h : d.sn.due = l ++ newDue x code severe) :
    (d.sortDue l.length).sn.due = l ++ newDue x code severe := by
  unfold Dev.sortDue
  simp only [h, List.drop_left, ranked_newDue]
  simp only [Dev.modSn, h, List.take_left]
  unfold newDue
  split <;> simp

theorem Dev.sortDue_near (old : Nat) : ∃ l, d.sortDue old = d.modSn fun y => { y with due := l } := ⟨_, rfl⟩

end Sys2Proof.Machine
end

section
/-! Events at the Snarl (R418 to R430, R440) and the urgent codes of the leg dies (R14, R300). -/

namespace Sys2Proof.Machine

variable {d e f : Dev} {s : State} {x y : SrcInst} {es evs : List SrcInst} {i j k n : Nat}

/-! ### Short-circuit reports (R14, R300) -/

/-- The times and lines of short-circuit reports and the urgent codes on their way stand; reports only join. -/
structure Dev.scStands (d e : Dev) : Prop where
  ports : ∀ m, (e.port m).scAt = (d.port m).scAt ∧ (e.port m).line = (d.port m).line
  urgent : e.pt.urgent = d.pt.urgent
  reports : d.reports ⊆ e.reports

theorem Dev.scStands.of_pt (h : e.pt = d.pt) (hr : d.reports ⊆ e.reports) : d.scStands e :=
  ⟨fun m => by simp only [Dev.port, h, and_self], by rw [h], hr⟩

theorem Dev.scStands.rfl : d.scStands d := .of_pt (by rfl) fun _ h => h

theorem Dev.scStands.trans (h : d.scStands e) (k : e.scStands f) : d.scStands f where
  ports m := ⟨(k.ports m).1.trans (h.ports m).1, (k.ports m).2.trans (h.ports m).2⟩
  urgent := k.urgent.trans h.urgent
  reports _ hr := k.reports (h.reports hr)

theorem Dev.scStands.foldl {α : Type} {g : Dev → α → Dev} (h : ∀ (e : Dev) z, e.scStands (g e z)) (zs : List α) (d : Dev) :
    d.scStands (zs.foldl g d) := by
  induction zs generalizing d with
  | nil => exact .rfl
  | cons z zs ih => exact (h d z).trans (ih _)

theorem Dev.scStands_setReg (a : Nat) (w : Word) : d.scStands (d.setReg a w) := .of_pt (by rfl) fun _ h => h

theorem Dev.scStands_raise (s i : Nat) : d.scStands (d.raise s i) := by
  refine .of_pt (Dev.raise_pt ..) fun r hr => ?_
  rw [Dev.raise_reports]
  split
  · exact hr
  · exact List.mem_append_left _ hr

theorem Dev.scStands_modPort (n : Nat) (g : Port → Port) (hg : ∀ p, (g p).scAt = p.scAt ∧ (g p).line = p.line) :
    d.scStands (d.modPort n g) where
  ports m := by
    unfold Dev.modPort
    rw [Dev.port_setPort]
    split
    · next h => subst h; exact hg _
    · exact ⟨rfl, rfl⟩
  urgent := by rfl
  reports _ h := h

theorem Dev.scStands_modSec (n : Nat) (sec : Section) (g : Sect → Sect) : d.scStands (d.modSec n sec g) :=
  Dev.scStands_modPort n _ fun p => by cases sec <;> exact ⟨rfl, rfl⟩

theorem Dev.scStands_modFn (n : Nat) (g : Fn → Fn) : d.scStands (d.modFn n g) := .of_pt (by rfl) fun _ h => h

theorem endRules_scStands : EndRules Dev.scStands where
  refl _ := .rfl
  trans := .trans
  core _ _ := .of_pt (by rfl) fun _ h => h
  whorl _ _ _ := .of_pt (by rfl) fun _ h => h
  tuning _ _ := .of_pt (by rfl) fun _ h => h
  link _ _ _ := .of_pt (by rfl) fun _ h => h
  stat _ _ _ := Dev.scStands_setReg _ _
  count _ _ _ := Dev.scStands_setReg _ _
  raise _ _ _ := Dev.scStands_raise _ _

theorem traffic_scStands : Traffic (fun _ => True) (fun _ => True) Dev.scStands where
  banks _ _ := trivial
  refl := endRules_scStands.refl
  trans := .trans
  step h := .of_pt h.pt h.reports
  draws _ _ _ := .of_pt (by rfl) fun _ h => h
  hank _ _ _ _ _ _ := .of_pt (by rfl) fun _ h => h
  lost _ _ _ _ _ _ := Dev.scStands_setReg _ _
  bytes d _ a bs _ _ _ := by
    obtain ⟨m, hm⟩ := Dev.setBytes_eq (d := d) (bs := bs) a
    exact .of_pt (by rw [hm]; rfl) (by rw [hm]; exact fun _ h => h)
  tag d _ st data got _ := endRules_scStands.tagEnd _ st data got fun _ _ _ => Dev.scStands_setReg _ _
  moved _ _ := trivial
  fetch _ _ _ _ _ := trivial

theorem Dev.scStands_abortTest (n : Nat) : d.scStands (d.abortTest n) := by
  unfold Dev.abortTest
  split
  · exact ((Dev.scStands_modPort n (fun p => { p with test := none }) fun _ => ⟨rfl, rfl⟩).trans (Dev.scStands_setReg ..)).trans
      (Dev.scStands_setReg ..)
  · exact .rfl

theorem Dev.scStands_forceOff (n : Nat) (sec : Section) : d.scStands (d.forceOff n sec) := by
  rw [Dev.forceOff_eq]
  exact Dev.scStands_modSec n sec _

theorem Dev.scStands_safeOff (n : Nat) (sec : Section) : d.scStands (d.safeOff n sec) :=
  (Dev.scStands_modSec n sec _).trans (Dev.scStands_forceOff n sec)

theorem Dev.scStands_safeOn (n : Nat) (sec : Section) : d.scStands (d.safeOn n sec) := by
  have hseen : d.scStands (d.cmdSeen n sec) := (Dev.scStands_abortTest n).trans (Dev.scStands_modSec n sec _)
  unfold Dev.safeOn
  split
  · exact Dev.scStands_modSec n sec _
  split
  · exact hseen
  · exact hseen.trans (Dev.scStands_modSec n sec _)

theorem Dev.scStands_dieSafe (n st : Nat) : d.scStands (d.dieSafe n st) := by
  rcases Dev.dieSafe_cases (d := d) (n := n) st with h | h | h
  · rw [h]; exact (Dev.scStands_safeOff n .h).trans (Dev.scStands_safeOff n .l)
  · rw [h]; exact (Dev.scStands_safeOff n .h).trans (Dev.scStands_safeOn n .l)
  · rw [h]; exact (Dev.scStands_safeOff n .l).trans (Dev.scStands_safeOn n .h)

theorem Dev.scStands_orderPort (n st : Nat) : d.scStands (d.orderPort n st) := by
  have horder : d.scStands (d.modPort n fun p => { p with order := some st }) := Dev.scStands_modPort n _ fun _ => ⟨rfl, rfl⟩
  unfold Dev.orderPort
  dsimp only
  split
  · exact horder
  · exact horder.trans (Dev.scStands_dieSafe n st)

theorem Dev.scStands_latchLeg (n : Nat) : d.scStands (d.latchLeg n) :=
  (Dev.scStands_modPort n (fun p => { p with retryWait := false, hold := true }) fun _ => ⟨rfl, rfl⟩).trans (Dev.scStands_setReg ..)

theorem Dev.scStands_resistorB (m : Nat) : d.scStands (d.resistorB m) := by
  have hset : ∀ (e : FnEntry) (k : FnDesc), d.scStands (d.setResistor m e k false) := fun e k => by
    unfold Dev.setResistor
    split
    · exact .rfl
    · split
      · exact .rfl
      · exact (traffic_scStands.moves_postStore trivial (Dev.drawsOk_of_all fun _ => trivial)).1.trans (Dev.scStands_modFn m _)
  unfold Dev.resistorB
  split
  · split
    · exact hset _ _
    · exact .rfl
  · exact .rfl

theorem Dev.scStands_fnHeld (m : Nat) : d.scStands (d.fnHeld m) := by
  unfold Dev.fnHeld
  dsimp only
  split
  · exact .rfl
  · exact (Dev.scStands_resistorB m).trans (Dev.scStands_modFn m _)

/-- A short circuit of several legs of a group moves no report of another. -/
theorem Dev.scStands_multiSc (g : Nat) (legs : List Nat) (first : Option Nat) : d.scStands (d.multiSc g legs first) := by
  unfold Dev.multiSc
  refine Dev.scStands.trans (Dev.scStands.trans (.foldl (fun e m => ?_) _ _) (.foldl (fun e m => ?_) _ _)) (.foldl (fun e m => ?_) _ _)
  · exact (((Dev.scStands_latchLeg m).trans (Dev.scStands_modPort m (fun p => { p with scmAt := first }) fun _ => ⟨rfl, rfl⟩)).trans
      (Dev.scStands_setReg ..)).trans (Dev.scStands_raise ..)
  · split <;> exact Dev.scStands_orderPort ..
  · exact (Dev.scStands_setReg ..).trans (Dev.scStands_fnHeld m)

theorem Dev.scStands_tripAll (before : Dev) : d.scStands (d.tripAll before) :=
  .of_pt (Dev.tripAll_near before).pt (Dev.tripAll_near before).reports

/-- An urgent code taken off its die, its source raised. -/
def Dev.urgentTaken (d : Dev) (n : Nat) (x : SrcInst) (rest : List SrcInst) : Dev :=
  (d.modPt fun y => { y with urgent := smSet (fun _ => []) y.urgent n rest }).raise x.src.toNat x.inst.toNat

/-- What the arrival of an urgent code shows. -/
def Dev.urgentShown (d e : Dev) (n : Nat) (x : SrcInst) (rest : List SrcInst) : Prop :=
  x ∈ e.reports ∧ smGet (fun _ => []) e.pt.urgent n = rest ∧
    (x.src.toNat ≠ Src.HVP_SC → x.src.toNat ≠ Src.LVP_SC → d.keeps e [] ∧ d.keepsLegs e []) ∧
    (x.src.toNat = Src.HVP_SC ∨ x.src.toNat = Src.LVP_SC → (e.port n).scAt = some d.now ∧ (e.port n).line = (d.port n).hold)

theorem srcInst_self (x : SrcInst) : srcInst x.src.toNat x.inst.toNat = x := by
  obtain ⟨s, i⟩ := x
  simp [srcInst]

theorem Dev.urgentArrive_shows {rest : List SrcInst} (h : smGet (fun _ => []) d.pt.urgent n = x :: rest) :
    d.urgentShown (d.urgentArrive n) n x rest := by
  have hmem : x ∈ (d.urgentTaken n x rest).reports := by
    have := Dev.mem_raise (d.modPt fun y => { y with urgent := smSet (fun _ => []) y.urgent n rest }) x.src.toNat x.inst.toNat
    rwa [srcInst_self] at this
  have hpt : (d.urgentTaken n x rest).pt = { d.pt with urgent := smSet (fun _ => []) d.pt.urgent n rest } := Dev.raise_pt ..
  have hleg : ∀ m, (d.urgentTaken n x rest).port m = d.port m := fun m => by simp only [Dev.port, hpt]
  have hurgent : smGet (fun _ => []) (d.urgentTaken n x rest).pt.urgent n = rest := by
    rw [hpt]
    exact smGet_smSet_same ..
  by_cases hsc : x.src.toNat = Src.HVP_SC ∨ x.src.toNat = Src.LVP_SC
  · let g : Port → Port := fun p => { p with scAt := some d.now, scmAt := none, line := p.hold }
    have hrest : ((d.urgentTaken n x rest).modPort n g).scStands (d.urgentArrive n) := by
      unfold Dev.urgentArrive
      rw [h]
      dsimp only
      rw [if_pos hsc]
      split
      · exact (Dev.scStands_tripAll _).trans (Dev.scStands_multiSc ..)
      split
      · exact (Dev.scStands_tripAll _).trans (Dev.scStands_latchLeg n)
      · exact Dev.scStands_tripAll _
    obtain ⟨hat, hline⟩ := hrest.ports n
    refine ⟨hrest.reports hmem, (congrArg (fun u => smGet (fun _ => []) u n) hrest.urgent).trans hurgent, ?_, fun _ => ⟨?_, ?_⟩⟩
    · rcases hsc with h | h
      · exact fun h1 => absurd h h1
      · exact fun _ h2 => absurd h h2
    · rw [hat, Dev.port_modPort_same]
    · rw [hline, Dev.port_modPort_same, hleg]
  · have harrive : d.urgentArrive n = d.urgentTaken n x rest := by
      unfold Dev.urgentArrive
      rw [h]
      exact if_neg hsc
    rw [harrive]
    exact ⟨hmem, hurgent, fun _ _ => ⟨Dev.keeps_of_eq (Dev.raise_sk ..) (Dev.raise_regs ..), fun m _ => hleg m⟩, fun h => absurd h hsc⟩

/-! ### A cycle of the Snarl (R418, R421, R427, R428) -/

/-- The registers that a cycle may show. -/
def shownRegs : List Nat := Reg.SNL_STAT :: Reg.DST_FLT :: Reg.SNL_NOTE :: Reg.NVM_STAT ::
  ((List.range 8).map Reg.SNL_STICKY ++ (List.range 8).map Reg.SNL_FIRST)

theorem notice_shown : maskRegs ++ noticeRegs ⊆ shownRegs := by decide

theorem mask_not_notice : ∀ a ∈ maskRegs, a ∉ noticeRegs := by decide

/-- The sources that a cycle takes. -/
def Dev.sampled (d : Dev) (evs : List SrcInst) : List SrcInst :=
  ((d.reports ++ evs).eraseDups.filter srcOk).filter fun x => x ∉ d.sn.high

theorem Dev.mem_sampled : x ∈ d.sampled evs ↔ x ∈ d.reports ++ evs ∧ srcOk x = true ∧ x ∉ d.sn.high := by
  simp only [Dev.sampled, List.mem_filter, List.mem_eraseDups, decide_eq_true_eq, and_assoc]

/-- The pairs as a cycle leaves them. -/
def Dev.hears (d : Dev) (evs : List SrcInst) : Dev := { d with reports := [], sn := { d.sn with high := evs } }

theorem Dev.snarlCycle_eq : d.snarlCycle evs =
    ((d.sampled evs).foldl (fun e x => e.oneEvent x) ((d.hears evs).masks (d.sampled evs))).sortDue d.sn.due.length := rfl

/-- What the masks and the events of a cycle leave. -/
structure Dev.cycled (d e : Dev) (es : List SrcInst) : Prop where
  keeps : d.keeps e shownRegs
  sticky : ∀ j < 256, e.mask Reg.SNL_STICKY j = (d.mask Reg.SNL_STICKY j || es.any fun x => decide (x.src.toNat = j))
  first : ∀ j < 256, e.mask Reg.SNL_FIRST j = (d.mask Reg.SNL_FIRST j || (d.snlClean && es.any fun x => decide (x.src.toNat = j)))
  clean : es ≠ [] → e.rbit Reg.SNL_STAT 0 = false
  reports : e.reports = d.reports
  high : e.sn.high = d.sn.high

/-- Events after the masks leave what the masks show. -/
theorem Dev.cycled_of_counts {ks : List Nat} (h : (d.masks es).counts e ks) : d.cycled e es := by
  have hnear := Dev.masks_near (d := d) (es := es)
  have hreg : ∀ a ∈ maskRegs, e.reg a = (d.masks es).reg a := fun a ha => h.keeps.2 a (mask_not_notice a ha)
  exact {
    keeps := (hnear.keeps.trans h.keeps).mono notice_shown
    sticky := fun j hj => (Dev.rbit_congr (hreg _ (sticky_mem (by omega))) _).trans (Dev.sticky_masks hj)
    first := fun j hj => (Dev.rbit_congr (hreg _ (first_mem (by omega))) _).trans (Dev.first_masks hj)
    clean := fun hne => by
      obtain ⟨x, hx⟩ := List.exists_mem_of_ne_nil es hne
      exact (Dev.rbit_congr (hreg _ List.mem_cons_self) _).trans (Dev.clean_masks hx)
    reports := h.reports.trans hnear.reports
    high := h.high.trans (congrArg SnarlSt.high hnear.sn) }

theorem Dev.cycled.sortDue (h : d.cycled e es) (old : Nat) : d.cycled (e.sortDue old) es :=
  ⟨h.keeps.same rfl rfl, h.sticky, h.first, h.clean, h.reports, h.high⟩

theorem Dev.cycled_snarlCycle : (d.hears evs).cycled (d.snarlCycle evs) (d.sampled evs) := by
  rw [Dev.snarlCycle_eq]
  exact (Dev.cycled_of_counts (Dev.counts_foldl _ _)).sortDue _

theorem Dev.snlCnt_snarlCycle (h : y ∉ d.sampled evs) : (d.snarlCycle evs).snlCnt (cntKey y) = d.snlCnt (cntKey y) := by
  rw [Dev.snarlCycle_eq]
  refine ((Dev.counts_foldl _ _).others _ fun hk => ?_).trans ?_
  · obtain ⟨z, hz, hkey⟩ := List.mem_map.mp hk
    exact h (cntKey_inj hkey ▸ hz)
  · exact congrArg (fun t => smGet (fun _ => SnlCnt.reset) t.counts (cntKey y)) Dev.masks_near.sn

theorem any_src (hx : x ∈ es) : (es.any fun y => decide (y.src.toNat = x.src.toNat)) = true :=
  List.any_eq_true.mpr ⟨x, hx, by simp⟩

/-! ### One event and a wire fault (R418, R419) -/

theorem Dev.sampled_one (h : srcOk x = true) (hx : x ∉ d.sn.high) (hr : d.reports = []) : d.sampled [x] = [x] := by
  have hone : [x].eraseDups = [x] := rfl
  simp [Dev.sampled, hr, hone, h, hx]

/-- The reaction that an event's own count calls for. -/
def Dev.reaction (d : Dev) (x : SrcInst) : Nat := if (d.countEvent x).2 then d.sreact x.src.toNat else d.treact x.src.toNat

/-- Counts, masks and reactions of an event are those of the cycle before. -/
theorem Dev.countEvent_masks : (d.masks es).countEvent x = d.countEvent x := by
  have hnear := Dev.masks_near (d := d) (es := es)
  exact Dev.countEvent_congr (congrArg SnarlSt.scfg hnear.sn) hnear.now (by simp only [Dev.snlCnt, hnear.sn])

theorem Dev.scfg_congr (h : e.sn.scfg = d.sn.scfg) (i : Nat) : e.scfg i = d.scfg i := by simp only [Dev.scfg, h]

theorem Dev.reacts_congr (h : e.sn.scfg = d.sn.scfg) (i : Nat) : e.sreact i = d.sreact i ∧ e.treact i = d.treact i := by
  simp only [Dev.sreact, Dev.treact, Dev.scfg_congr h, and_self]

theorem append_newDue (l : List Due) (code : Nat) (severe : Bool) :
    l ++ newDue x code severe = if code = 0 then l else l ++ [⟨code, x, severe⟩] := by
  unfold newDue
  split <;> simp

/-- One event after the masks of its cycle, and the reactions in order. -/
theorem Dev.snarlCycle_one (h : d.sampled [x] = [x]) : d.snarlCycle [x] =
    (((d.hears [x]).masks [x]).event x (d.countEvent x).1 (d.reaction x) (d.countEvent x).2).sortDue d.sn.due.length := by
  have hnear := Dev.masks_near (d := d.hears [x]) (es := [x])
  have hcount : ((d.hears [x]).masks [x]).countEvent x = d.countEvent x := Dev.countEvent_masks
  have hscfg : ((d.hears [x]).masks [x]).sn.scfg = d.sn.scfg := by rw [hnear.sn]; rfl
  obtain ⟨hs, ht⟩ := Dev.reacts_congr hscfg x.src.toNat
  rw [Dev.snarlCycle_eq, h, List.foldl_cons, List.foldl_nil, Dev.oneEvent_eq, hcount, hs, ht]
  rfl

/-- What one event counts, brings due and shows at FLT_N. -/
theorem Dev.snarlCycle_notes (h : d.sampled [x] = [x]) :
    (d.snarlCycle [x]).snlCnt (cntKey x) = (d.countEvent x).1 ∧
    (d.snarlCycle [x]).sn.due = d.sn.due ++ newDue x (d.reaction x) (d.countEvent x).2 ∧
    (bitOf (d.scfg x.src.toNat) 14 = true →
      (d.snarlCycle [x]).rbit Reg.DST_FLT 0 = true ∧ (d.snarlCycle [x]).rbit Reg.DST_FLT 2 = true) := by
  have hnear := Dev.masks_near (d := d.hears [x]) (es := [x])
  have hold : ((d.hears [x]).masks [x]).sn.due = d.sn.due := by rw [hnear.sn]; rfl
  have hscfg : ((d.hears [x]).masks [x]).sn.scfg = d.sn.scfg := by rw [hnear.sn]; rfl
  obtain ⟨hcnt, hdue⟩ := Dev.event_notes (d := (d.hears [x]).masks [x]) (x := x) (c := (d.countEvent x).1) (code := d.reaction x)
    (severe := (d.countEvent x).2)
  rw [hold] at hdue
  rw [Dev.snarlCycle_one h]
  refine ⟨hcnt, Dev.due_sortDue hdue, fun hb => ?_⟩
  exact Dev.flt_event ((congrArg (bitOf · 14) (Dev.scfg_congr hscfg _)).trans hb)

/-- LINEFLT, the event of every wire fault. -/
def lineFault : SrcInst := srcInst Src.LINEFLT 0

/-- A device after LINEFLT has been counted for a wire fault. -/
def Dev.lineHeard (d : Dev) (x : SrcInst) : Dev := (d.masks [lineFault, x]).oneEvent lineFault

theorem Dev.lineHeard_counts : (d.masks [lineFault, x]).counts (d.lineHeard x) [cntKey lineFault] := Dev.counts_oneEvent

/-- LINEFLT has no reaction of its own (R426). -/
theorem Dev.due_lineHeard : (d.lineHeard x).sn.due = d.sn.due := by
  have hcode : ∀ c : Bool, (if c then (d.masks [lineFault, x]).sreact lineFault.src.toNat
      else (d.masks [lineFault, x]).treact lineFault.src.toNat) = 0 := fun c => by cases c <;> rfl
  rw [Dev.lineHeard, Dev.oneEvent_eq, hcode, Dev.event_notes.2, newDue, if_pos rfl, List.append_nil]
  exact congrArg SnarlSt.due Dev.masks_near.sn

theorem Dev.wireFault_eq (h : srcOk x = true) : d.wireFault x =
    ((d.lineHeard x).event x ((d.lineHeard x).countEvent x).1 (d.sreact x.src.toNat) true).sortDue d.sn.due.length := if_pos h

theorem Dev.countEvent_lineHeard (hx : x.src ≠ 0) : (d.lineHeard x).countEvent x = d.countEvent x := by
  have hcounts := Dev.lineHeard_counts (d := d) (x := x)
  have hkey : cntKey x ∉ [cntKey lineFault] := fun h => hx (congrArg SrcInst.src (cntKey_inj (List.mem_singleton.mp h)))
  exact (Dev.countEvent_congr hcounts.scfg hcounts.now (hcounts.others _ hkey)).trans Dev.countEvent_masks

theorem Dev.cycled_wireFault (h : srcOk x = true) : d.cycled (d.wireFault x) [lineFault, x] := by
  rw [Dev.wireFault_eq h]
  exact (Dev.cycled_of_counts (Dev.lineHeard_counts.trans Dev.counts_event)).sortDue _

theorem Dev.wireFault_notes (h : srcOk x = true) (hx : x.src ≠ 0) :
    (d.wireFault x).snlCnt (cntKey x) = (d.countEvent x).1 ∧
    (d.wireFault x).sn.due = d.sn.due ++ newDue x (d.sreact x.src.toNat) true := by
  obtain ⟨hcnt, hdue⟩ := Dev.event_notes (d := d.lineHeard x) (x := x) (c := ((d.lineHeard x).countEvent x).1)
    (code := d.sreact x.src.toNat) (severe := true)
  rw [Dev.due_lineHeard] at hdue
  rw [Dev.wireFault_eq h]
  exact ⟨hcnt.trans (congrArg Prod.fst (Dev.countEvent_lineHeard hx)), Dev.due_sortDue hdue⟩

/-! ### The latches and the user sources (R429) -/

/-- A latch that has taken the first masks. -/
def latchTaken (m : SMap Word) (g : Nat → Word) (n : Nat) : SMap Word :=
  (List.range n).foldl (fun m j => smSet (fun _ => 0) m j (smGet (fun _ => 0) m j ||| g j)) m

theorem smGet_latchTaken (m : SMap Word) (g : Nat → Word) (n j : Nat) :
    smGet (fun _ => 0) (latchTaken m g n) j = if j < n then smGet (fun _ => 0) m j ||| g j else smGet (fun _ => 0) m j := by
  unfold latchTaken
  induction n with
  | zero => rfl
  | succ n ih =>
    rw [List.range_succ, List.foldl_append, List.foldl_cons, List.foldl_nil, smGet_smSet]
    by_cases h : j = n
    · subst h
      rw [if_pos rfl, if_pos (Nat.lt_succ_self j), ih, if_neg (lt_irrefl j)]
    · rw [if_neg h, ih]
      simp only [show j < n + 1 ↔ j < n by omega]

theorem Dev.latch_takes (hj : j < 8) :
    smGet (fun _ => 0) d.latch.sn.latS j = smGet (fun _ => 0) d.sn.latS j ||| d.reg (Reg.SNL_STICKY j) ∧
    smGet (fun _ => 0) d.latch.sn.latF j = smGet (fun _ => 0) d.sn.latF j ||| d.reg (Reg.SNL_FIRST j) := by
  have hS : d.latch.sn.latS = latchTaken d.sn.latS (fun j => d.reg (Reg.SNL_STICKY j)) 8 := rfl
  have hF : d.latch.sn.latF = latchTaken d.sn.latF (fun j => d.reg (Reg.SNL_FIRST j)) 8 := rfl
  rw [hS, hF, smGet_latchTaken, smGet_latchTaken, if_pos hj, if_pos hj]
  exact ⟨rfl, rfl⟩

theorem Dev.keeps_latch : d.keeps d.latch [] := Dev.keeps.rfl.same (by rfl) (by rfl)

/-- The retained copies cleared, up to a number. -/
def Dev.clearedTo (d : Dev) (n : Nat) : Dev :=
  (List.range n).foldl (fun e j => (e.setReg (Reg.SNL_RSTK j) 0).setReg (Reg.SNL_RFST j) 0) d

/-- The registers of the retained copies. -/
def retainedRegs : List Nat := (List.range 8).map Reg.SNL_RSTK ++ (List.range 8).map Reg.SNL_RFST

theorem retained_mem : ∀ i < 8, Reg.SNL_RSTK i ∈ retainedRegs ∧ Reg.SNL_RFST i ∈ retainedRegs := by decide

theorem Dev.keeps_clearedTo (hn : n ≤ 8) : d.keeps (d.clearedTo n) retainedRegs := by
  induction n with
  | zero => exact .rfl
  | succ n ih =>
    obtain ⟨hcopy, hfirst⟩ := retained_mem n hn
    rw [Dev.clearedTo, List.range_succ, List.foldl_append]
    exact ((ih (by omega)).set _ 0 hcopy).set _ 0 hfirst

theorem Dev.reg_clearedTo (hn : n ≤ 8) (hj : j < n) :
    (d.clearedTo n).reg (Reg.SNL_RSTK j) = 0 ∧ (d.clearedTo n).reg (Reg.SNL_RFST j) = 0 := by
  induction n with
  | zero => omega
  | succ n ih =>
    rw [Dev.clearedTo, List.range_succ, List.foldl_append, List.foldl_cons, List.foldl_nil]
    have hcross : ∀ i < 8, ∀ k < 8, Reg.SNL_RSTK i ≠ Reg.SNL_RFST k := by decide
    by_cases h : j = n
    · subst h
      exact ⟨(Dev.reg_setReg_other _ _ (hcross j (by omega) j (by omega))).trans (Dev.reg_setReg_same ..), Dev.reg_setReg_same ..⟩
    · have hs : Reg.SNL_RSTK j ≠ Reg.SNL_RSTK n := by unfold Reg.SNL_RSTK; omega
      have hf : Reg.SNL_RFST j ≠ Reg.SNL_RFST n := by unfold Reg.SNL_RFST; omega
      obtain ⟨h1, h2⟩ := ih (by omega) (by omega)
      exact ⟨(Dev.reg_setReg_other _ _ (hcross j (by omega) n (by omega))).trans ((Dev.reg_setReg_other _ _ hs).trans h1),
        (Dev.reg_setReg_other _ _ hf).trans ((Dev.reg_setReg_other _ _ (hcross n (by omega) j (by omega)).symm).trans h2)⟩

/-- What RCLR clears. -/
structure Dev.retainedCleared (d e : Dev) : Prop where
  copies : ∀ j < 8, e.reg (Reg.SNL_RSTK j) = 0 ∧ e.reg (Reg.SNL_RFST j) = 0
  stat : e.rbit Reg.SNL_STAT 1 = false
  latS : e.sn.latS = []
  latF : e.sn.latF = []
  keeps : d.keeps e (Reg.SNL_STAT :: retainedRegs)

theorem Dev.retainedClear_eq : d.retainedClear = ((d.clearedTo 8).setRbit Reg.SNL_STAT 1 false).modSn fun y =>
    { y with latS := [], latF := [] } := rfl

theorem Dev.retainedClear_shows : d.retainedCleared d.retainedClear := by
  have hcopies : ∀ j < 8, (d.clearedTo 8).reg (Reg.SNL_RSTK j) = 0 ∧ (d.clearedTo 8).reg (Reg.SNL_RFST j) = 0 := fun j hj =>
    Dev.reg_clearedTo (le_refl 8) hj
  have hkeeps : d.keeps (d.clearedTo 8) (Reg.SNL_STAT :: retainedRegs) :=
    (Dev.keeps_clearedTo (le_refl 8)).mono (List.subset_cons_self _ _)
  have hother : ∀ j < 8, Reg.SNL_RSTK j ≠ Reg.SNL_STAT ∧ Reg.SNL_RFST j ≠ Reg.SNL_STAT := by decide
  rw [Dev.retainedClear_eq]
  generalize d.clearedTo 8 = u at hcopies hkeeps ⊢
  refine ⟨fun j hj => ?_, ?_, rfl, rfl, (hkeeps.bit Reg.SNL_STAT 1 false List.mem_cons_self).same rfl rfl⟩
  · obtain ⟨h1, h2⟩ := hcopies j hj
    obtain ⟨hs, hf⟩ := hother j hj
    exact ⟨(Dev.reg_setRbit_other _ _ _ hs).trans h1, (Dev.reg_setRbit_other _ _ _ hf).trans h2⟩
  · exact (Dev.rbit_setRbit u Reg.SNL_STAT 1 1 false (by decide)).trans (if_pos rfl)

/-- The user sources of a word raised, up to a number. -/
def Dev.userRaised (d : Dev) (v : Word) (n : Nat) : Dev :=
  (List.range n).foldl (fun e i => if bitOf v i then e.raise (192 + i) 0 else e) d

theorem Dev.userRaised_shows (v : Word) (n : Nat) : d.keeps (d.userRaised v n) [] ∧ d.reports ⊆ (d.userRaised v n).reports ∧
    ∀ j < n, bitOf v j = true → (d.userRaised v n).raised (192 + j) 0 := by
  induction n with
  | zero => exact ⟨.rfl, fun _ h => h, fun _ h => absurd h (Nat.not_lt_zero _)⟩
  | succ n ih =>
    obtain ⟨hkeeps, hold, hnew⟩ := ih
    have hstep : d.userRaised v (n + 1) = if bitOf v n then (d.userRaised v n).raise (192 + n) 0 else d.userRaised v n := by
      rw [Dev.userRaised, List.range_succ, List.foldl_append]
      rfl
    have hsub : (d.userRaised v n).reports ⊆ (d.userRaised v (n + 1)).reports := by
      rw [hstep]
      split
      · exact (Dev.scStands_raise _ _).reports
      · exact fun _ h => h
    refine ⟨?_, fun _ h => hsub (hold h), fun j hj hb => ?_⟩
    · rw [hstep]
      split
      · exact hkeeps.same (Dev.raise_sk ..) (Dev.raise_regs ..)
      · exact hkeeps
    · by_cases h : j = n
      · subst h
        rw [hstep, if_pos hb]
        exact Dev.mem_raise _ _ _
      · exact hsub (hnew j (by omega) hb)

/-! ### The settlement -/

theorem exec_snarlEvent : exec (.snarlEvent evs) s = s.run fun d => d.snarlCycle evs := rfl

theorem exec_wireFault : exec (.wireFault x) s = s.run fun d => d.wireFault x := rfl

theorem exec_countWindowExpiry : exec (.countWindowExpiry x) s = s.run fun d => d.windowExpiry x := rfl

theorem exec_retentionLatchCopy : exec .retentionLatchCopy s = s.act fun d => d.latch := rfl

theorem exec_retainedClear (m : Master) : exec (.retainedClear m) s = s.act fun d => d.asMaster m fun d => d.retainedClear := rfl

theorem exec_userSourceRaise (m : Master) (v : Word) :
    exec (.userSourceRaise m v) s = s.act fun d => d.asMaster m fun d => d.userRaised v 32 := rfl

theorem exec_urgentCode (n : Fin 64) : exec (.urgentCode n) s = s.run fun d => d.urgentArrive n := rfl

/-- Settles O49: a cycle by what the masks take and what each event counts; the urgent codes by what their arrival moves. -/
theorem snarlEvents : Obligations.SnarlEvents := by
  intro x evs m n v s d i r code shown
  have hi : i < 256 := by omega
  refine ⟨fun hc hok hx hr => ?one, fun hc => ?cycle, fun hok => ?noSource, fun hc hok hx => ?wire, ⟨fun hc ho hp => ?expires,
    fun h => ?staysOpen⟩, ?latch, fun hm => ?clear, fun hm => ?user, fun hu => ?noCode, fun hc rest hu => ?urgent⟩
  case one =>
    have hone : d.sampled [x] = [x] := Dev.sampled_one hok hx hr
    obtain ⟨hkeeps, hsticky, hfirst, hclean, hreports, hhigh⟩ := Dev.cycled_snarlCycle (d := d) (evs := [x])
    rw [hone] at hsticky hfirst hclean
    obtain ⟨hcnt, hdue, hflt⟩ := Dev.snarlCycle_notes hone
    refine .of_run exec_snarlEvent hc ⟨?_, ?_, hclean (by simp), hreports, hhigh, hcnt, hdue.trans (append_newDue _ _ _), hflt, hkeeps⟩
    · exact (hsticky i hi).trans (by rw [any_src List.mem_cons_self, Bool.or_true])
    · exact (hfirst i hi).trans (by rw [any_src List.mem_cons_self, Bool.and_true, Bool.or_comm]; rfl)
  case cycle =>
    obtain ⟨hkeeps, hsticky, hfirst, -, hreports, hhigh⟩ := Dev.cycled_snarlCycle (d := d) (evs := evs)
    refine .of_run exec_snarlEvent hc ⟨fun y hy hok hh => ?_, fun j hj hnone => ?_, fun y hy => ?_, hreports, hhigh, hkeeps⟩
    · refine (hsticky _ (by omega)).trans ?_
      rw [any_src (Dev.mem_sampled.mpr ⟨hy, hok, hh⟩), Bool.or_true]
    · have hany : ((d.sampled evs).any fun x => decide (x.src.toNat = j)) = false :=
        List.any_eq_false.mpr fun y hy => by
          obtain ⟨hmem, hok, hh⟩ := Dev.mem_sampled.mp hy
          simpa using hnone y hmem hok hh
      exact ⟨(hsticky j hj).trans (by rw [hany, Bool.or_false]; rfl), (hfirst j hj).trans (by rw [hany, Bool.and_false, Bool.or_false]; rfl)⟩
    · refine Dev.snlCnt_snarlCycle fun hs => ?_
      obtain ⟨hmem, -, hh⟩ := Dev.mem_sampled.mp hs
      rcases hy with ⟨h1, h2⟩ | h
      · exact (List.mem_append.mp hmem).elim h1 h2
      · exact hh h
  case noSource => exact exec_idle_of_run exec_wireFault (if_neg (by simp [hok]))
  case wire =>
    obtain ⟨hkeeps, hsticky, -, -, -, -⟩ := Dev.cycled_wireFault (d := d) hok
    obtain ⟨hcnt, hdue⟩ := Dev.wireFault_notes (d := d) hok hx
    refine .of_run exec_wireFault hc ⟨?_, ?_, hcnt, hdue.trans (append_newDue _ _ _), hkeeps⟩
    · exact (hsticky i hi).trans (by rw [any_src (List.mem_cons_of_mem _ List.mem_cons_self), Bool.or_true])
    · exact (hsticky 0 (by decide)).trans (by simp [lineFault, srcInst, Src.LINEFLT])
  case expires =>
    have hcond : ((d.snlCnt (cntKey x)).opened && decide ((d.snlCnt (cntKey x)).start +
        windowUs (bitsOf (d.scfg x.src.toNat) 7 4) ≤ d.now / 480)) = true := Bool.and_eq_true_iff.mpr ⟨ho, decide_eq_true hp⟩
    have hclose : d.windowExpiry x = d.setSnlCnt (cntKey x) { d.snlCnt (cntKey x) with opened := false, count := 0 } := if_pos hcond
    refine .of_run exec_countWindowExpiry hc ?_
    rw [hclose]
    exact ⟨smGet_smSet_same .., Dev.keeps.rfl.same rfl rfl⟩
  case staysOpen =>
    refine exec_idle_of_run exec_countWindowExpiry (if_neg ?_)
    rw [Bool.and_eq_true_iff, decide_eq_true_eq]
    rintro ⟨ho, hp⟩
    exact h.elim (fun hf => by rw [hf] at ho; exact absurd ho (by decide)) fun hn => hn hp
  case latch => exact .of_act exec_retentionLatchCopy ⟨fun j hj => Dev.latch_takes hj, Dev.keeps_latch⟩
  case clear =>
    refine .of_act (exec_retainedClear m) ?_
    rw [Dev.asMaster_admits hm]
    obtain ⟨hcopies, hstat, hS, hF, hkeeps⟩ := Dev.retainedClear_shows (d := d)
    generalize d.retainedClear = u at hcopies hstat hS hF hkeeps ⊢
    exact ⟨hcopies, hstat, hS, hF, hkeeps.same rfl rfl⟩
  case user =>
    refine .of_act (exec_userSourceRaise m v) ?_
    rw [Dev.asMaster_admits hm]
    obtain ⟨hkeeps, -, hraised⟩ := Dev.userRaised_shows (d := d) v 32
    generalize d.userRaised v 32 = u at hkeeps hraised ⊢
    exact ⟨hraised, rfl, hkeeps.same rfl rfl⟩
  case noCode =>
    refine exec_idle_of_run (exec_urgentCode n) ?_
    unfold Dev.urgentArrive
    rw [hu]
  case urgent => exact .of_run (exec_urgentCode n) hc (Dev.urgentArrive_shows hu)

end Sys2Proof.Machine
end

section
/-! Sigma-delta decimators (R110 to R118) and the housekeeping round (R119 to R123). -/

namespace Sys2Proof.Machine

variable {d e f : Dev} {s : State} {n : Fin 32} {b : Bool} {volts : List Int} {c k : Nat}

/-! ### Traffic leaves the measurement block -/

theorem endRules_sameMs : EndRules fun d e => e.ms = d.ms where
  refl _ := rfl
  trans h k := k.trans h
  core _ _ := by rfl
  whorl _ _ _ := by rfl
  tuning _ _ := by rfl
  link _ _ _ := by rfl
  stat _ _ _ := by rfl
  count _ _ _ := by rfl
  raise _ _ _ := Dev.raise_ms ..

theorem traffic_sameMs : Traffic (fun _ => True) (fun _ => True) fun d e => e.ms = d.ms where
  banks _ _ := trivial
  refl := endRules_sameMs.refl
  trans := endRules_sameMs.trans
  step h := h.ms
  draws _ _ _ := by rfl
  hank _ _ _ _ _ _ := by rfl
  lost _ _ _ _ _ _ := by rfl
  bytes d _ a bs _ _ _ := by
    obtain ⟨m, hm⟩ := Dev.setBytes_eq (d := d) (bs := bs) a
    rw [hm]
    rfl
  tag d _ st data got _ := endRules_sameMs.tagEnd _ st data got fun _ _ _ => by rfl
  moved _ _ := trivial
  fetch _ _ _ _ _ := trivial

theorem Dev.ms_resultPut (req hank : Nat) (decim : Bool) (unit ch : Nat) (w : Word) (seq : Nat) :
    (d.resultPut req hank decim unit ch w seq).ms = d.ms := by
  have hput : (d.hankPut req none hank [w] (.sample decim unit ch w seq)).1.ms = d.ms :=
    (traffic_sameMs.moves_hankPut trivial (fun _ => trivial) (Dev.drawsOk_of_all fun _ => trivial)).1
  unfold Dev.resultPut
  dsimp only
  split
  · exact (endRules_sameMs.fillSlots ..).trans hput
  · exact hput

/-! ### One bit at a decimator (R110 to R118) -/

/-- A decimator with one more bit. -/
def Sdm.heard (x : Sdm) (b : Bool) (run : Nat) (hold : Bool) (since : Nat) : Sdm :=
  { x with hist := (b :: x.hist).take 768, since := x.since + 1, run := run, lastBit := b, stuckHold := hold, stuckN := since }

theorem Dev.sdm_modSdm_same (k : Nat) (g : Sdm → Sdm) : (d.modSdm k g).sdm k = g (d.sdm k) := Dev.sdm_setSdm_same ..

theorem Dev.fastFilter_off (h : d.rbit (Reg.SDM_FAST n) 0 = false) : d.fastFilter n = d := if_neg (by simp [h])

theorem Dev.sdmFeed_one (h : d.rbit (Reg.SDM_CTL n) 0 = true) : d.sdmFeed n [b] = d.sdmBit n b := if_pos h

theorem Dev.sdmFeed_off (bits : List Bool) (h : d.rbit (Reg.SDM_CTL n) 0 = false) : d.sdmFeed n bits = d := if_neg (by simp [h])

/-- The run of identical bits with one more. -/
def Sdm.runWith (x : Sdm) (b : Bool) : Nat := if x.run ≠ 0 ∧ x.lastBit = b then min 129 (x.run + 1) else 1

/-- Whether SET still holds after a run of 128: until 128 bits later, two of them unlike (R116). -/
def Sdm.stillHeld (x : Sdm) (b : Bool) : Bool :=
  let newest := ((b :: x.hist).take 768).take 128
  x.stuckHold && !(decide (128 ≤ x.stuckN + 1) && (newest.any (fun y => y) && newest.any fun y => !y))

/-- A decimator that has heard a bit in no run of 128. -/
def Dev.sdmHeard (d : Dev) (n : Nat) (b : Bool) : Dev :=
  d.modSdm n fun _ => (d.sdm n).heard b ((d.sdm n).runWith b) ((d.sdm n).stillHeld b) ((d.sdm n).stuckN + 1)

/-- A decimator that has heard the 128th identical bit. -/
def Dev.sdmStuck (d : Dev) (n : Nat) (b : Bool) : Dev :=
  ((d.modSdm n fun x => x.heard b 128 true 0).setRbit (Reg.SDM_STAT n) 8 true).raise Src.SDM_STUCK n

/-- A bit that does not complete 128 identical ones, before the filters. -/
theorem Dev.sdmBit_free (hrun : (d.sdm n).run < 127) : d.sdmBit n b =
    if (d.sdm n).since + 1 = d.fld (Reg.SDM_CTL n) 23 16 + 1
    then ((d.sdmHeard n b).fastFilter n).sdmOutput n
    else (d.sdmHeard n b).fastFilter n := by
  have hfree : (d.sdm n).runWith b ≠ 128 := by
    unfold Sdm.runWith
    split <;> omega
  have hstuck : decide ((if (d.sdm n).run ≠ 0 ∧ (d.sdm n).lastBit = b then min 129 ((d.sdm n).run + 1) else 1) = 128) = false :=
    decide_eq_false hfree
  unfold Dev.sdmBit
  simp only [hstuck, Bool.false_or, Bool.false_eq_true, if_false]
  rfl

/-- The 128th identical bit shows STUCK and raises it (R116). -/
theorem Dev.sdmBit_stuck (hrun : (d.sdm n).run = 127) (hlast : (d.sdm n).lastBit = b) :
    d.sdmBit n b =
      if (d.sdm n).since + 1 = d.fld (Reg.SDM_CTL n) 23 16 + 1
      then ((d.sdmStuck n b).fastFilter n).sdmOutput n
      else (d.sdmStuck n b).fastFilter n := by
  have hone : (if (d.sdm n).run ≠ 0 ∧ (d.sdm n).lastBit = b then min 129 ((d.sdm n).run + 1) else 1) = 128 := by
    rw [if_pos ⟨by omega, hlast⟩, hrun]
    rfl
  unfold Dev.sdmBit
  simp only [hone, decide_true, Bool.true_or, if_true]
  rfl

/-- The word of a decimator output (R112 to R116). -/
def sdmWord (osr : Nat) (hist : List Bool) (set : Bool) (seq : Nat) : Word :=
  let y := sincCode (sincOut (sinc3Weight osr) (3 * osr - 2) hist) (osr * osr * osr)
  BitVec.ofNat 32 ((y.1 % 65536).toNat * 65536 + set.toNat * 0x8000 + y.2.toNat * 0x4000 + 0xF00 + seq % 256)

/-- An output outside event mode: its word in SDM_LAST, its count in the decimator. -/
theorem Dev.sdmOutput_shows (h : d.rbit (Reg.SDM_CTL n) 4 = false) :
    (d.sdmOutput n).reg (Reg.SDM_LAST n) = sdmWord (d.fld (Reg.SDM_CTL n) 23 16 + 1) (d.sdm n).hist
      (decide ((d.sdm n).fill < 3) || (d.sdm n).stuckHold) (((d.sdm n).seq + 1) % 65536) ∧
    (d.sdmOutput n).sdm n = { d.sdm n with fill := min 3 ((d.sdm n).fill + 1), since := 0, seq := ((d.sdm n).seq + 1) % 65536, armed := false } := by
  unfold Dev.sdmOutput
  dsimp only
  rw [if_neg (by simp [h])]
  refine ⟨Dev.reg_setReg_same .., ?_⟩
  rw [Dev.sdm_setReg, Dev.sdm, Dev.ms_resultPut]
  exact (Dev.sdm_setSdm_same ..).trans (by rw [Dev.sdm_modSdm_same])

/-! ### The fast filter (R118) -/

/-- The code of the fast filter after the bits a decimator holds. -/
def Dev.fastCode (d : Dev) (n : Nat) : Int :=
  let osr := d.fld (Reg.SDM_FAST n) 5 1 + 1
  (sincCode (sincOut (sinc2Weight osr) (2 * osr - 1) (d.sdm n).hist) (osr * osr)).1

/-- Beyond the upper and the lower limit. -/
def Dev.fastAbove (d : Dev) (n : Nat) : Bool := decide (signed 16 (d.fld (Reg.SDM_FLIM n) 31 16) < d.fastCode n)
def Dev.fastBelow (d : Dev) (n : Nat) : Bool := decide (d.fastCode n < signed 16 (d.fld (Reg.SDM_FLIM n) 15 0))

/-- A fast filter that leaves a limit it stood within. -/
def Dev.fastLeft (d : Dev) (n : Nat) : Dev :=
  (((d.modSdm n fun x => { x with fastHi := d.fastAbove n, fastLo := d.fastBelow n }).setRbit (Reg.SDM_STAT n) 1 false).setRbit
    (Reg.SDM_STAT n) 9 true).raise Src.SDM_FAST n

theorem Dev.setLine_same (h : d.tripLine k = b) : d.setLine k b = d := if_pos h

theorem lines_ne_stat : ∀ n : Fin 32, ∀ j < 4, Reg.WHL_LINES j ≠ Reg.SDM_STAT n := by decide

theorem Dev.fastFilter_left (hon : d.rbit (Reg.SDM_FAST n) 0 = true) (htrip : d.rbit (Reg.SDM_FAST n) 6 = false)
    (hline : d.tripLine (40 + n) = false)
    (hleft : d.fastAbove n = true ∧ (d.sdm n).fastHi = false ∨ d.fastBelow n = true ∧ (d.sdm n).fastLo = false) :
    d.fastFilter n = d.fastLeft n := by
  have hrise : (d.fastAbove n && !(d.sdm n).fastHi || d.fastBelow n && !(d.sdm n).fastLo) = true := by
    rcases hleft with ⟨h1, h2⟩ | ⟨h1, h2⟩ <;> simp [h1, h2]
  have hstands : (d.fastLeft n).tripLine (40 + n) = false := by
    refine Eq.trans (Dev.rbit_congr ?_ _) hline
    rw [Dev.fastLeft, Dev.reg_raise, Dev.reg_setRbit_other _ _ _ (lines_ne_stat n _ (by omega)),
      Dev.reg_setRbit_other _ _ _ (lines_ne_stat n _ (by omega))]
    rfl
  unfold Dev.fastFilter
  rw [if_pos hon]
  simp only [htrip, Bool.and_false]
  refine Eq.trans (congrArg (fun x : Dev => x.setLine (40 + n) false) (if_pos hrise)) ?_
  exact Dev.setLine_same hstands

/-- What the fast filter's leaving a limit shows. -/
structure Dev.leftLimit (d e : Dev) (n : Fin 32) : Prop where
  fast : e.rbit (Reg.SDM_STAT n) 9 = true
  trip : e.rbit (Reg.SDM_STAT n) 1 = false
  report : srcInst Src.SDM_FAST n ∈ e.reports
  hi : (e.sdm n).fastHi = d.fastAbove n
  lo : (e.sdm n).fastLo = d.fastBelow n
  keeps : d.keeps e [Reg.SDM_STAT n]

theorem Dev.fastLeft_shows : d.leftLimit (d.fastLeft n) n where
  fast := by rw [Dev.fastLeft, Dev.rbit_congr (Dev.reg_raise ..), Dev.rbit_setRbit _ _ _ _ _ (by decide), if_pos rfl]
  trip := by
    rw [Dev.fastLeft, Dev.rbit_congr (Dev.reg_raise ..), Dev.rbit_setRbit _ _ _ _ _ (by decide), if_neg (by decide),
      Dev.rbit_setRbit _ _ _ _ _ (by decide), if_pos rfl]
  report := Dev.mem_raise _ _ _
  hi := by rw [Dev.fastLeft, Dev.sdm_raise]; exact congrArg Sdm.fastHi (Dev.sdm_setSdm_same ..)
  lo := by rw [Dev.fastLeft, Dev.sdm_raise]; exact congrArg Sdm.fastLo (Dev.sdm_setSdm_same ..)
  keeps := by
    refine Dev.keeps.same (e := ((d.modSdm n fun x => { x with fastHi := d.fastAbove n, fastLo := d.fastBelow n }).setRbit
      (Reg.SDM_STAT n) 1 false).setRbit (Reg.SDM_STAT n) 9 true) ?_ (Dev.raise_sk ..) (Dev.raise_regs ..)
    exact ((Dev.keeps.rfl.same rfl rfl).bit _ 1 false List.mem_cons_self).bit _ 9 true List.mem_cons_self

/-- The fast filter's code after one more bit. -/
def Dev.fastNext (d : Dev) (n : Nat) (b : Bool) : Int :=
  let r := d.fld (Reg.SDM_FAST n) 5 1 + 1
  (sincCode (sincOut (sinc2Weight r) (2 * r - 1) ((b :: (d.sdm n).hist).take 768)) (r * r)).1

theorem Dev.fastCode_heard : (d.sdmHeard n b).fastCode n = d.fastNext n b := by
  rw [Dev.fastCode, Dev.sdmHeard, Dev.sdm_modSdm_same]
  rfl

theorem Dev.fastAbove_heard (h : signed 16 (d.fld (Reg.SDM_FLIM n) 31 16) < d.fastNext n b) : (d.sdmHeard n b).fastAbove n = true := by
  rw [Dev.fastAbove, Dev.fastCode_heard]
  exact decide_eq_true h

theorem Dev.fastBelow_heard (h : d.fastNext n b < signed 16 (d.fld (Reg.SDM_FLIM n) 15 0)) : (d.sdmHeard n b).fastBelow n = true := by
  rw [Dev.fastBelow, Dev.fastCode_heard]
  exact decide_eq_true h

/-- A bit after which the fast filter leaves a limit. -/
theorem Dev.fastFeed_shows (hen : d.rbit (Reg.SDM_CTL n) 0 = true) (hon : d.rbit (Reg.SDM_FAST n) 0 = true)
    (htrip : d.rbit (Reg.SDM_FAST n) 6 = false) (hline : d.tripLine (40 + n) = false)
    (hsince : (d.sdm n).since + 1 ≠ d.fld (Reg.SDM_CTL n) 23 16 + 1) (hrun : (d.sdm n).run < 127)
    (hleft : (d.sdmHeard n b).fastAbove n = true ∧ (d.sdm n).fastHi = false ∨
      (d.sdmHeard n b).fastBelow n = true ∧ (d.sdm n).fastLo = false) :
    (d.sdmHeard n b).leftLimit (d.sdmFeed n [b]) n := by
  have hheard : ((d.sdmHeard n b).sdm n).fastHi = (d.sdm n).fastHi ∧ ((d.sdmHeard n b).sdm n).fastLo = (d.sdm n).fastLo := by
    rw [Dev.sdmHeard, Dev.sdm_modSdm_same]
    exact ⟨rfl, rfl⟩
  obtain ⟨hhi, hlo⟩ := hheard
  rw [Dev.sdmFeed_one hen, Dev.sdmBit_free hrun, if_neg hsince,
    Dev.fastFilter_left (d := d.sdmHeard n b) hon htrip hline (by rwa [hhi, hlo])]
  exact Dev.fastLeft_shows

theorem sdmFast_ne_stat : ∀ n : Fin 32, Reg.SDM_FAST n ≠ Reg.SDM_STAT n := by decide

/-- What the 128th identical bit shows. -/
theorem Dev.sdmStuck_shows : (d.sdmStuck n b).rbit (Reg.SDM_STAT n) 8 = true ∧ srcInst Src.SDM_STUCK n ∈ (d.sdmStuck n b).reports ∧
    ((d.sdmStuck n b).sdm n).stuckHold = true ∧ ((d.sdmStuck n b).sdm n).run = 128 ∧ d.keeps (d.sdmStuck n b) [Reg.SDM_STAT n] := by
  have hsdm : (d.sdmStuck n b).sdm n = (d.sdm n).heard b 128 true 0 := by
    rw [Dev.sdmStuck, Dev.sdm_raise, Dev.setRbit, Dev.sdm_setReg]
    exact Dev.sdm_modSdm_same ..
  refine ⟨?_, Dev.mem_raise _ _ _, by rw [hsdm]; rfl, by rw [hsdm]; rfl, ?_⟩
  · rw [Dev.sdmStuck, Dev.rbit_congr (Dev.reg_raise ..), Dev.rbit_setRbit _ _ _ _ _ (by decide), if_pos rfl]
  · refine Dev.keeps.same (e := (d.modSdm n fun x => x.heard b 128 true 0).setRbit (Reg.SDM_STAT n) 8 true) ?_
      (Dev.raise_sk ..) (Dev.raise_regs ..)
    exact (Dev.keeps.rfl.same rfl rfl).bit _ 8 true List.mem_cons_self

/-! ### A published round (R121 to R123) -/

/-- The registers of the housekeeping block and of the mode. -/
def roundReg (a : Nat) : Prop := 0x3200C000 ≤ a ∧ a < 0x3200D000 ∨ a = Reg.DST_MODE

/-- The published results, the mode and a waiting request stand; reports only join. -/
structure Dev.roundStands (d e : Dev) : Prop where
  regs : ∀ a, roundReg a → e.reg a = d.reg a
  runReq : e.su.runReq = d.su.runReq
  reports : d.reports ⊆ e.reports

theorem Dev.roundStands.of_regs (h : e.regs = d.regs) (hs : e.su = d.su) (hr : e.reports = d.reports) : d.roundStands e :=
  ⟨fun _ _ => by simp only [Dev.reg, h], by rw [hs], fun _ h => hr ▸ h⟩

theorem Dev.roundStands.rfl : d.roundStands d := .of_regs (Eq.refl _) (Eq.refl _) (Eq.refl _)

theorem Dev.roundStands.trans (h : d.roundStands e) (k : e.roundStands f) : d.roundStands f where
  regs a ha := (k.regs a ha).trans (h.regs a ha)
  runReq := k.runReq.trans h.runReq
  reports _ hr := k.reports (h.reports hr)

theorem Dev.roundStands.set (h : d.roundStands e) {a : Nat} (ha : ¬roundReg a) (w : Word) : d.roundStands (e.setReg a w) where
  regs b hb := (Dev.reg_setReg_other _ _ fun hab : b = a => ha (hab ▸ hb)).trans (h.regs b hb)
  runReq := h.runReq
  reports := h.reports

theorem Dev.roundStands_raise (s i : Nat) : d.roundStands (d.raise s i) where
  regs a _ := Dev.reg_raise ..
  runReq := by rw [Dev.raise_su]
  reports := (Dev.scStands_raise s i).reports

theorem Dev.roundStands.modSu (h : d.roundStands e) (g : SupplySt → SupplySt) (hg : ∀ x, (g x).runReq = x.runReq) :
    d.roundStands (e.modSu g) := ⟨h.regs, (hg _).trans h.runReq, h.reports⟩

/-- A draw that sets no status bit at its end. -/
def plainDraw (x : Draw) : Prop := x.tag = .plain ∨ ∃ n, x.tag = .prefetch n

theorem traffic_roundStands : Traffic (fun _ => True) plainDraw Dev.roundStands where
  banks _ _ := trivial
  refl _ := .rfl
  trans := .trans
  step h := by
    refine ⟨fun a ha => h.noted a fun hm => ?_, by rw [h.su], h.reports⟩
    revert ha
    simp only [noteRegs, List.mem_cons, List.not_mem_nil, or_false] at hm
    rcases hm with rfl | rfl | rfl | rfl <;> exact fun ha => absurd ha (by unfold roundReg; decide)
  draws _ _ _ := .of_regs rfl rfl rfl
  hank _ _ _ _ _ _ := .of_regs rfl rfl rfl
  lost _ _ _ _ _ _ := Dev.roundStands.rfl.set (by unfold roundReg; decide) _
  bytes d _ a bs _ _ _ := by
    obtain ⟨m, hm⟩ := Dev.setBytes_eq (d := d) (bs := bs) a
    rw [hm]
    exact .of_regs rfl rfl rfl
  tag d x st data got hx := by
    rcases hx with hx | ⟨n, hx⟩ <;> rw [hx] <;> exact .of_regs rfl rfl rfl
  moved hx hl := by rwa [plainDraw, hl.tag]
  fetch _ _ _ _ _ := .inr ⟨_, rfl⟩

theorem Dev.moves_writeThermal : d.moves (fun _ => True) plainDraw Dev.roundStands d.writeThermal := by
  refine traffic_roundStands.moves_foldl (fun e m => ?_) _ _
  split
  · exact traffic_roundStands.moves_postStore (.inl rfl)
  · exact traffic_roundStands.moves_refl

theorem Dev.drawsOk_plain (h : d.quiet) : d.drawsOk (fun _ => True) plainDraw := Dev.drawsOk_of_quiet h fun _ _ _ => .inr ⟨_, rfl⟩

/-- The thermal registers are none of the round's. -/
theorem thm_not_round : ¬roundReg Reg.THM_STAT ∧ ¬roundReg Reg.THM_TJ ∧ ¬roundReg Reg.THM_MAX := by unfold roundReg; decide

/-- The evaluation of a reading, before SCALE moves. -/
def Dev.readingTaken (d : Dev) (code : Nat) : Dev :=
  if d.badReading code then d.invalidReading else d.validReading (d.tempOf code)

theorem Dev.roundStands_levelEval (x : ThmLevel) (t : Int) : d.roundStands (d.levelEval x t) := by
  obtain ⟨hs, -, -⟩ := thm_not_round
  unfold Dev.levelEval
  split
  · split
    · exact (Dev.roundStands.rfl.set hs _).set hs _
    · exact .rfl
  · split
    · exact ((Dev.roundStands.rfl.set hs _).set hs _).trans (Dev.roundStands_raise _ _)
    · exact .rfl

theorem Dev.roundStands_writeTemp (t : Int) : d.roundStands (d.writeTemp t) := by
  obtain ⟨-, htj, hmax⟩ := thm_not_round
  have hif : ∀ (x : Dev) (p : Prop) [Decidable p] (w : Word), d.roundStands x →
      d.roundStands (if p then x.setReg Reg.THM_MAX w else x) := fun x p _ w hx => by
    split
    · exact hx.set hmax w
    · exact hx
  unfold Dev.writeTemp
  exact (hif _ _ _ (hif _ _ _ (Dev.roundStands.rfl.set htj _))).trans (.of_regs rfl rfl rfl)

theorem Dev.roundStands_readingTaken (code : Nat) : d.roundStands (d.readingTaken code) := by
  obtain ⟨hs, -, -⟩ := thm_not_round
  unfold Dev.readingTaken
  split
  · unfold Dev.invalidReading
    dsimp only
    have hinv : d.roundStands ((d.setRbit Reg.THM_STAT 9 true).modSu fun x => { x with invalid := min 3 (x.invalid + 1) }) :=
      (Dev.roundStands.rfl.set hs _).modSu _ fun _ => rfl
    split
    · exact (((hinv.set hs _).set hs _).trans (Dev.roundStands_raise _ _)).modSu _ fun _ => rfl
    · exact hinv
  · have hfold : ∀ (xs : List ThmLevel) (t : Int) (e : Dev), e.roundStands (xs.foldl (fun e x => e.levelEval x t) e) := fun xs t => by
      induction xs with
      | nil => exact fun _ => .rfl
      | cons x xs ih => exact fun e => (Dev.roundStands_levelEval x t).trans (ih _)
    have hshut : ∀ (c : Bool) (w v : Bool), d.roundStands (if c then (d.setRbit Reg.THM_STAT 4 w).setRbit Reg.THM_STAT 10 v else d) :=
      fun c w v => by
        cases c
        · exact .rfl
        · exact (Dev.roundStands.rfl.set hs _).set hs _
    unfold Dev.validReading Dev.gateEval
    dsimp only
    refine Dev.roundStands.set ?_ hs _
    refine Dev.roundStands.modSu ?_ _ ?_
    · refine Dev.roundStands.trans (Dev.roundStands.trans ?_ (Dev.roundStands_writeTemp _)) (hfold _ _ _)
      refine Dev.roundStands.modSu (hshut _ _ _) _ ?_
      exact fun _ => rfl
    · exact fun _ => rfl

theorem Dev.roundStands_moveScales (xs : List Nat) : d.roundStands (xs.foldl (fun e m => e.moveScale m) d) := by
  induction xs generalizing d with
  | nil => exact .rfl
  | cons x xs ih =>
    rw [List.foldl_cons]
    exact (Dev.roundStands.of_regs (d := d) (e := d.moveScale x) rfl rfl rfl).trans ih

theorem Dev.sk_levelEval (x : ThmLevel) (t : Int) : (d.levelEval x t).sk = d.sk := by
  unfold Dev.levelEval
  split
  · split <;> rfl
  · split
    · exact Dev.raise_sk ..
    · rfl

theorem Dev.sk_writeTemp (t : Int) : (d.writeTemp t).sk = d.sk := by
  have hif : ∀ (x : Dev) (p : Prop) [Decidable p] (w : Word), x.sk = d.sk →
      (if p then x.setReg Reg.THM_MAX w else x).sk = d.sk := fun x p _ w hx => by
    split <;> exact hx
  unfold Dev.writeTemp
  exact hif _ _ _ (hif _ _ _ (Dev.setReg_sk d _ _))

theorem Dev.sk_readingTaken (code : Nat) : (d.readingTaken code).sk = d.sk := by
  unfold Dev.readingTaken
  split
  · unfold Dev.invalidReading
    dsimp only
    split
    · exact Dev.raise_sk ..
    · rfl
  · unfold Dev.validReading Dev.gateEval
    dsimp only
    exact (Dev.foldl_stands Dev.sk (fun _ _ => Dev.sk_levelEval _ _) _ _).trans
      ((Dev.sk_writeTemp _).trans (by cases d.su.invShut <;> rfl))

theorem Dev.sk_moveScales (xs : List Nat) : (xs.foldl (fun e m => e.moveScale m) d).sk = d.sk :=
  Dev.foldl_stands Dev.sk (f := fun e m => e.moveScale m) (fun _ _ => rfl) _ _

/-- An evaluation where no shutdown stops the functions, from a Skein at rest. -/
theorem Dev.roundStands_thermalRound (hq : d.quiet) (code : Nat) (h6 : d.mode ≠ 6) (h7 : d.mode ≠ 7) (h10 : d.mode ≠ 10) :
    d.roundStands (d.thermalRound code) := by
  have hscaled : d.roundStands ((List.range 32).foldl (fun e m => e.moveScale m) (d.readingTaken code)) :=
    (Dev.roundStands_readingTaken code).trans (Dev.roundStands_moveScales _)
  have hrest : ((List.range 32).foldl (fun e m => e.moveScale m) (d.readingTaken code)).quiet := fun b => by
    rw [← hq b]
    simp only [Dev.drawsOf, Dev.sk_moveScales, Dev.sk_readingTaken]
  have hall : d.roundStands ((List.range 32).foldl (fun e m => e.moveScale m) (d.readingTaken code)).writeThermal :=
    hscaled.trans (Dev.moves_writeThermal (Dev.drawsOk_plain hrest)).1
  have hmode : ((List.range 32).foldl (fun e m => e.moveScale m) (d.readingTaken code)).writeThermal.mode = d.mode :=
    Dev.fld_congr (hall.regs _ (.inr rfl)) 3 0
  refine Eq.subst (motive := fun x => d.roundStands x) (if_neg ?_).symm hall
  show ¬Dev.shutStops ((List.range 32).foldl (fun e m => e.moveScale m) (d.readingTaken code)).writeThermal = true
  rw [Dev.shutStops, hmode]
  simp [h6, h7, h10]

/-- The word that a round publishes of a channel (R121). -/
def Dev.hkWord (d : Dev) (volts : List Int) (round c : Nat) : Word :=
  BitVec.ofNat 32 (round % 256 * 65536 + (if hkDigital c then d.supplyFlags (c - 14) else (hkCodeOf volts c).toNat))

/-- The status of a published round (R121, R122). -/
def Dev.hkCounted (d : Dev) : Dev :=
  (((d.setFld Reg.HKP_STAT 15 0 ((d.fld Reg.HKP_STAT 15 0 + 1) % 65536)).setRbit Reg.HKP_STAT 16 true).setRbit Reg.HKP_STAT 17
    d.ms.hkReq).setRbit Reg.HKP_STAT 18 false

/-- The results of the first channels. -/
def Dev.hkResults (d : Dev) (volts : List Int) (round m : Nat) : Dev :=
  (List.range m).foldl (fun e c => e.setReg (Reg.HKP_RES c) (e.hkWord volts round c)) d

theorem Dev.hkPublish_eq : d.hkPublish volts = (List.range 24).foldl (fun e c => e.hkLimit c)
    (d.hkCounted.hkResults volts ((d.fld Reg.HKP_STAT 15 0 + 1) % 65536) 24) := rfl

theorem Dev.hkResults_succ (round m : Nat) : d.hkResults volts round (m + 1) =
    (d.hkResults volts round m).setReg (Reg.HKP_RES m) ((d.hkResults volts round m).hkWord volts round m) := by
  unfold Dev.hkResults
  rw [List.range_succ, List.foldl_append]
  rfl

theorem Dev.reg_hkResults_other (round m a : Nat) (ha : ∀ c < m, a ≠ Reg.HKP_RES c) :
    (d.hkResults volts round m).reg a = d.reg a := by
  induction m with
  | zero => rfl
  | succ m ih =>
    rw [Dev.hkResults_succ, Dev.reg_setReg_other _ _ (ha m (Nat.lt_succ_self m))]
    exact ih fun c hc => ha c (Nat.lt_succ_of_lt hc)

theorem Dev.reg_hkResults (round m : Nat) (hc : c < m) (hd : hkDigital c = false) :
    (d.hkResults volts round m).reg (Reg.HKP_RES c) = BitVec.ofNat 32 (round % 256 * 65536 + (hkCodeOf volts c).toNat) := by
  induction m with
  | zero => omega
  | succ m ih =>
    rw [Dev.hkResults_succ]
    by_cases h : c = m
    · subst h
      rw [Dev.reg_setReg_same, Dev.hkWord, if_neg (by simp [hd])]
    · rw [Dev.reg_setReg_other _ _ (by unfold Reg.HKP_RES; omega)]
      exact ih (by omega)

theorem Dev.sk_hkResults (round m : Nat) : (d.hkResults volts round m).sk = d.sk ∧ (d.hkResults volts round m).su = d.su := by
  induction m with
  | zero => exact ⟨rfl, rfl⟩
  | succ m ih =>
    rw [Dev.hkResults_succ]
    exact ih

/-- A limit check touches nothing but reports. -/
structure Dev.onlyReports (d e : Dev) : Prop where
  regs : e.regs = d.regs
  sk : e.sk = d.sk
  su : e.su = d.su
  reports : d.reports ⊆ e.reports

theorem Dev.onlyReports.rfl : d.onlyReports d := ⟨Eq.refl _, Eq.refl _, Eq.refl _, fun _ h => h⟩

theorem Dev.onlyReports.trans (h : d.onlyReports e) (k : e.onlyReports f) : d.onlyReports f :=
  ⟨k.regs.trans h.regs, k.sk.trans h.sk, k.su.trans h.su, fun _ hr => k.reports (h.reports hr)⟩

theorem Dev.onlyReports_raise (s i : Nat) : d.onlyReports (d.raise s i) :=
  ⟨Dev.raise_regs .., Dev.raise_sk .., Dev.raise_su .., (Dev.scStands_raise s i).reports⟩

theorem Dev.onlyReports.foldl {α : Type} {g : Dev → α → Dev} (h : ∀ (e : Dev) z, e.onlyReports (g e z)) (zs : List α) (d : Dev) :
    d.onlyReports (zs.foldl g d) := by
  induction zs generalizing d with
  | nil => exact .rfl
  | cons z zs ih => exact (h d z).trans (ih _)

theorem Dev.onlyReports_hkLimit (c : Nat) : d.onlyReports (d.hkLimit c) := by
  unfold Dev.hkLimit
  dsimp only
  split
  · exact .rfl
  split
  · refine .foldl (fun e b => ?_) _ _
    split
    · exact Dev.onlyReports_raise _ _
    · exact .rfl
  split
  · exact Dev.onlyReports_raise _ _
  · exact .rfl

/-- A channel beyond its limits is reported, whatever other channels are (R123). -/
theorem Dev.raised_hkLimits (hc : c < 24) (hd : hkDigital c = false) (hon : bitOf (d.reg (Reg.HKP_LIM c)) 31 = true)
    (hout : d.fld (Reg.HKP_RES c) 15 0 < bitsOf (d.reg (Reg.HKP_LIM c)) 11 0 ∨
      bitsOf (d.reg (Reg.HKP_LIM c)) 27 16 < d.fld (Reg.HKP_RES c) 15 0) :
    ((List.range 24).foldl (fun e c => e.hkLimit c) d).raised Src.HKP_LIM c := by
  obtain ⟨pre, post, hlist⟩ := List.append_of_mem (List.mem_range.mpr hc)
  have hpre : d.onlyReports (pre.foldl (fun e c => e.hkLimit c) d) := .foldl (fun _ _ => Dev.onlyReports_hkLimit _) _ _
  have hraise : ∀ e : Dev, e.regs = d.regs → e.hkLimit c = e.raise Src.HKP_LIM c := fun e he => by
    have hreg : ∀ a, e.reg a = d.reg a := fun a => by simp only [Dev.reg, he]
    unfold Dev.hkLimit
    dsimp only
    rw [hreg, Dev.fld_congr (hreg _), if_neg (by simp [hon]), if_neg (by simp [hd]), if_pos hout]
  rw [hlist, List.foldl_append, List.foldl_cons, hraise _ hpre.regs]
  exact (Dev.onlyReports.foldl (fun _ _ => Dev.onlyReports_hkLimit _) post _).reports (Dev.mem_raise _ _ _)

/-- The published round is judged where a request of RUN waits; else it stands. -/
theorem Dev.roundPublish_free (hbusy : d.rbit Reg.HKP_STAT 18 = true) (hq : d.quiet) (hreq : d.su.runReq = false)
    (h6 : d.mode ≠ 6) (h7 : d.mode ≠ 7) (h10 : d.mode ≠ 10) : (d.hkPublish volts).roundStands (d.roundPublish volts) ∧
      (d.hkPublish volts).mode = d.mode := by
  have hlimits : (d.hkCounted.hkResults volts ((d.fld Reg.HKP_STAT 15 0 + 1) % 65536) 24).onlyReports (d.hkPublish volts) := by
    rw [Dev.hkPublish_eq]
    exact .foldl (fun _ _ => Dev.onlyReports_hkLimit _) _ _
  obtain ⟨hsk, hsu⟩ := Dev.sk_hkResults (d := d.hkCounted) (volts := volts) ((d.fld Reg.HKP_STAT 15 0 + 1) % 65536) 24
  have hmode : (d.hkPublish volts).mode = d.mode := by
    have hreg : (d.hkPublish volts).reg Reg.DST_MODE = d.hkCounted.reg Reg.DST_MODE := by
      rw [← Dev.reg_hkResults_other (d := d.hkCounted) (volts := volts) ((d.fld Reg.HKP_STAT 15 0 + 1) % 65536) 24 Reg.DST_MODE
        fun c hc => by unfold Reg.DST_MODE Reg.HKP_RES; omega]
      simp only [Dev.reg, hlimits.regs]
    have hne : Reg.DST_MODE ≠ Reg.HKP_STAT := by decide
    refine Dev.fld_congr (hreg.trans ?_) 3 0
    simp only [Dev.hkCounted, Dev.reg_setRbit_other _ _ _ hne, Dev.reg_setFld_other _ _ _ _ hne]
  have hrest : (d.hkPublish volts).quiet := fun b => by
    rw [← hq b]
    simp only [Dev.drawsOf, hlimits.sk, hsk]
    rfl
  have hjudged := Dev.roundStands_thermalRound hrest (hkCodeOf volts 0).toNat (by rwa [hmode]) (by rwa [hmode]) (by rwa [hmode])
  have hfree : ((d.hkPublish volts).thermalRound (hkCodeOf volts 0).toNat).su.runReq = false := by
    rw [hjudged.runReq, hlimits.su, hsu]
    exact hreq
  refine ⟨?_, hmode⟩
  unfold Dev.roundPublish
  rw [if_pos hbusy, Dev.judgeRun, if_neg (by simp [hfree])]
  exact hjudged

/-- What the count of a round shows (R121, R122). -/
theorem Dev.hkCounted_shows : d.hkCounted.fld Reg.HKP_STAT 15 0 = (d.fld Reg.HKP_STAT 15 0 + 1) % 65536 ∧
    d.hkCounted.rbit Reg.HKP_STAT 16 = true ∧ d.hkCounted.rbit Reg.HKP_STAT 17 = d.ms.hkReq ∧ d.hkCounted.rbit Reg.HKP_STAT 18 = false := by
  have hbit : ∀ (x : Dev) (i : Nat) (b : Bool), 15 < i → i < 32 →
      (x.setRbit Reg.HKP_STAT i b).fld Reg.HKP_STAT 15 0 = x.fld Reg.HKP_STAT 15 0 := fun x i b hi h32 => by
    rw [Dev.fld, Dev.setRbit, Dev.reg_setReg_same]
    exact bitsOf_putBit_other _ i b 15 0 h32 (.inl hi)
  unfold Dev.hkCounted
  refine ⟨?_, ?_, ?_, ?_⟩
  · rw [hbit _ 18 _ (by decide) (by decide), hbit _ 17 _ (by decide) (by decide), hbit _ 16 _ (by decide) (by decide),
      Dev.fld_setFld _ _ _ _ _ (by decide) (by decide)]
    omega
  · rw [Dev.rbit_setRbit _ _ _ _ _ (by decide), if_neg (by decide), Dev.rbit_setRbit _ _ _ _ _ (by decide), if_neg (by decide),
      Dev.rbit_setRbit _ _ _ _ _ (by decide), if_pos rfl]
  · rw [Dev.rbit_setRbit _ _ _ _ _ (by decide), if_neg (by decide), Dev.rbit_setRbit _ _ _ _ _ (by decide), if_pos rfl]
  · rw [Dev.rbit_setRbit _ _ _ _ _ (by decide), if_pos rfl]

theorem hkRes_ne_stat : ∀ c < 24, Reg.HKP_STAT ≠ Reg.HKP_RES c := by decide

theorem hkRes_fld (round : Nat) (x : BitVec 12) : bitsOf (BitVec.ofNat 32 (round % 256 * 65536 + x.toNat)) 15 0 = x.toNat := by
  have hx := x.isLt
  simp only [bitsOf, BitVec.toNat_ofNat, Nat.shiftRight_zero, Nat.reduceAdd, Nat.reduceSub, Nat.reducePow]
  omega

/-- What a published round shows of its status and of an analogue channel. -/
structure Dev.published (d e : Dev) (volts : List Int) (round : Nat) : Prop where
  count : e.fld Reg.HKP_STAT 15 0 = round
  done : e.rbit Reg.HKP_STAT 16 = true
  asked : e.rbit Reg.HKP_STAT 17 = d.ms.hkReq
  free : e.rbit Reg.HKP_STAT 18 = false
  results : ∀ c < 24, hkDigital c = false → e.reg (Reg.HKP_RES c) = BitVec.ofNat 32 (round % 256 * 65536 + (hkCodeOf volts c).toNat)
  limits : ∀ c < 24, hkDigital c = false → d.rbit (Reg.HKP_LIM c) 31 = true →
    (hkCodeOf volts c).toNat < d.fld (Reg.HKP_LIM c) 11 0 ∨ d.fld (Reg.HKP_LIM c) 27 16 < (hkCodeOf volts c).toNat →
    e.raised Src.HKP_LIM c

theorem Dev.published_hkPublish : d.published (d.hkPublish volts) volts ((d.fld Reg.HKP_STAT 15 0 + 1) % 65536) := by
  obtain ⟨hcount, hdone, hasked, hfree⟩ := Dev.hkCounted_shows (d := d)
  rw [Dev.hkPublish_eq]
  generalize (d.fld Reg.HKP_STAT 15 0 + 1) % 65536 = round at hcount ⊢
  have hlimits : (d.hkCounted.hkResults volts round 24).onlyReports ((List.range 24).foldl (fun e c => e.hkLimit c)
      (d.hkCounted.hkResults volts round 24)) := .foldl (fun _ _ => Dev.onlyReports_hkLimit _) _ _
  have hreg : ∀ a, ((List.range 24).foldl (fun e c => e.hkLimit c) (d.hkCounted.hkResults volts round 24)).reg a =
      (d.hkCounted.hkResults volts round 24).reg a := fun a => by simp only [Dev.reg, hlimits.regs]
  have hstat := (hreg Reg.HKP_STAT).trans (Dev.reg_hkResults_other (d := d.hkCounted) (volts := volts) round 24 _ hkRes_ne_stat)
  have hlim : ∀ c < 24, (d.hkCounted.hkResults volts round 24).reg (Reg.HKP_LIM c) = d.reg (Reg.HKP_LIM c) := fun c hc => by
    rw [Dev.reg_hkResults_other round 24 _ fun k hk => by unfold Reg.HKP_LIM Reg.HKP_RES; omega]
    have hne : Reg.HKP_LIM c ≠ Reg.HKP_STAT := by unfold Reg.HKP_LIM Reg.HKP_STAT; omega
    simp only [Dev.hkCounted, Dev.reg_setRbit_other _ _ _ hne, Dev.reg_setFld_other _ _ _ _ hne]
  have hres : ∀ c < 24, hkDigital c = false → (d.hkCounted.hkResults volts round 24).reg (Reg.HKP_RES c) =
      BitVec.ofNat 32 (round % 256 * 65536 + (hkCodeOf volts c).toNat) := fun c hc hd => Dev.reg_hkResults round 24 hc hd
  exact {
    count := (Dev.fld_congr hstat 15 0).trans hcount
    done := (Dev.rbit_congr hstat 16).trans hdone
    asked := (Dev.rbit_congr hstat 17).trans hasked
    free := (Dev.rbit_congr hstat 18).trans hfree
    results := fun c hc hd => (hreg _).trans (hres c hc hd)
    limits := fun c hc hd hon hout => by
      have hcode : (d.hkCounted.hkResults volts round 24).fld (Reg.HKP_RES c) 15 0 = (hkCodeOf volts c).toNat := by
        rw [Dev.fld, hres c hc hd, hkRes_fld]
      refine Dev.raised_hkLimits hc hd (by rw [hlim c hc]; exact hon) ?_
      rw [hlim c hc, hcode]
      exact hout }

theorem Dev.published.mono {round : Nat} (h : d.published e volts round) (k : e.roundStands f) : d.published f volts round := by
  have hstat := k.regs Reg.HKP_STAT (by unfold roundReg; decide)
  exact {
    count := (Dev.fld_congr hstat 15 0).trans h.count
    done := (Dev.rbit_congr hstat 16).trans h.done
    asked := (Dev.rbit_congr hstat 17).trans h.asked
    free := (Dev.rbit_congr hstat 18).trans h.free
    results := fun c hc hd => (k.regs _ (.inl (by unfold Reg.HKP_RES; omega))).trans (h.results c hc hd)
    limits := fun c hc hd hon hout => k.reports (h.limits c hc hd hon hout) }

theorem hkCode_analogue {c : Nat} {v : Int} (hc : c ≠ 0) (hv : 0 ≤ v)
    (hlt : (8192 * v + 3000000 * hkDivider c) / (6000000 * hkDivider c) < 4096) :
    ((hkCode c v).toNat : Int) = (8192 * v + 3000000 * hkDivider c) / (6000000 * hkDivider c) := by
  have hdiv : 0 < hkDivider c := by
    unfold hkDivider
    split
    · decide
    split
    · decide
    split <;> decide
  have hnonneg : 0 ≤ (8192 * v + 3000000 * hkDivider c) / (6000000 * hkDivider c) := Int.ediv_nonneg (by omega) (by omega)
  unfold hkCode
  dsimp only
  rw [if_neg hc, if_pos ⟨hnonneg, hlt⟩]
  generalize (8192 * v + 3000000 * hkDivider c) / (6000000 * hkDivider c) = x at hnonneg hlt ⊢
  rw [BitVec.toNat_ofInt]
  omega

/-! ### The settlement -/

theorem exec_decimatorEnable : exec (.decimatorEnable n) s = s.run fun d => d.sdmEnable n := rfl

theorem exec_decimatorOutput (bits : List Bool) : exec (.decimatorOutput n bits) s = s.run fun d => d.sdmFeed n bits := rfl

theorem exec_sdmStuck (bits : List Bool) : exec (.sdmStuck n bits) s = s.run fun d => d.sdmFeed n bits := rfl

theorem exec_fastFilterTrip (bits : List Bool) : exec (.fastFilterTrip n bits) s = s.run fun d => d.sdmFeed n bits := rfl

theorem exec_housekeepingRoundStart : exec .housekeepingRoundStart s = s.run fun d => d.hkStart false := rfl

theorem exec_housekeepingRoundPublish : exec (.housekeepingRoundPublish volts) s = s.run fun d => d.roundPublish volts := rfl

/-- Settles O35: a decimator by the one bit it hears; a round by what is published before it is evaluated. -/
theorem decimatorsAndHousekeeping : Obligations.DecimatorsAndHousekeeping := by
  intro n b bits volts s d x ctl st osr code hclk
  refine ⟨fun hen hact => ⟨fun hck => ?enable, fun hck => ?stopped⟩, fun hen => ?off,
    fun hen hfast => ⟨fun hsince hrun hhold hmode => ?output, fun hsince hrun hlast => ?stuck⟩,
    fun hen hfast htrip hline hsince hrun => ⟨fun hy hhi => ?above, fun hy hlo => ?below⟩,
    fun hc h2 hB => ⟨fun hfree => ?start, fun hbusy hq hreq h6 h7 h10 => ?publish⟩, fun hfree => ?idle, fun c hc hd h0 hv hlt => ?code⟩
  case enable =>
    have hset : d.sdmEnable n = (d.setRbit ctl 0 true).setSdm n { Sdm.reset with seq := x.seq } := if_neg (by
      rw [show d.rbit (Reg.SDM_CTL n) 0 = false from hen, show d.rbit (Reg.SDM_STAT n) 0 = false from hact,
        show d.rbit Reg.SDM_CLKEN (d.fld (Reg.SDM_CTL n) 2 1) = true from hck]
      decide)
    rw [exec_eq_of_run exec_decimatorEnable hclk, hset]
  case stopped => exact exec_idle_of_run exec_decimatorEnable (if_pos (by simp [hck, d, ctl]))
  case off => exact ⟨exec_idle_of_run (exec_decimatorOutput bits) (Dev.sdmFeed_off bits hen),
      exec_idle_of_run (exec_sdmStuck bits) (Dev.sdmFeed_off bits hen), exec_idle_of_run (exec_fastFilterTrip bits) (Dev.sdmFeed_off bits hen)⟩
  case output =>
    intro y
    have hoff : (d.sdmHeard n b).fastFilter n = d.sdmHeard n b := Dev.fastFilter_off hfast
    have hfeed : d.sdmFeed n [b] = (d.sdmHeard n b).sdmOutput n := by
      rw [Dev.sdmFeed_one hen, Dev.sdmBit_free hrun, if_pos hsince, hoff]
    have hheard : (d.sdmHeard n b).sdm n = x.heard b (x.runWith b) (x.stillHeld b) (x.stuckN + 1) := Dev.sdm_modSdm_same ..
    obtain ⟨hword, hsdm⟩ := Dev.sdmOutput_shows (d := d.sdmHeard n b) (n := n) hmode
    have hheld : x.stillHeld b = false := by simp only [Sdm.stillHeld, hhold, Bool.false_and]
    refine .of_run (exec_decimatorOutput [b]) hclk ?_
    rw [hfeed, hword, hsdm, hheard]
    refine ⟨?_, rfl, rfl, rfl⟩
    have hseq : (x.seq + 1) % 65536 % 256 = (x.seq + 1) % 256 := Nat.mod_mod_of_dvd _ (by decide)
    simp only [Sdm.heard, hheld, Bool.or_false, sdmWord, hseq]
    rfl
  case stuck =>
    have hoff : (d.sdmStuck n b).rbit (Reg.SDM_FAST n) 0 = false := by
      rw [Dev.sdmStuck, Dev.rbit_congr (Dev.reg_raise ..), Dev.rbit_congr (Dev.reg_setRbit_other _ _ _ (sdmFast_ne_stat n))]
      exact hfast
    have hfeed : d.sdmFeed n [b] = d.sdmStuck n b := by
      rw [Dev.sdmFeed_one hen, Dev.sdmBit_stuck hrun hlast, if_neg hsince, Dev.fastFilter_off hoff]
    refine .of_run (exec_sdmStuck [b]) hclk ?_
    rw [hfeed]
    exact Dev.sdmStuck_shows
  case above =>
    have hleft := Dev.fastFeed_shows (b := b) hen hfast htrip hline hsince hrun (.inl ⟨Dev.fastAbove_heard hy, hhi⟩)
    exact .of_run (exec_fastFilterTrip [b]) hclk
      ⟨hleft.fast, hleft.trip, hleft.report, hleft.hi.trans (Dev.fastAbove_heard hy), hleft.keeps.1, hleft.keeps.2⟩
  case below =>
    have hleft := Dev.fastFeed_shows (b := b) hen hfast htrip hline hsince hrun (.inr ⟨Dev.fastBelow_heard hy, hlo⟩)
    exact .of_run (exec_fastFilterTrip [b]) hclk
      ⟨hleft.fast, hleft.trip, hleft.report, hleft.lo.trans (Dev.fastBelow_heard hy), hleft.keeps.1, hleft.keeps.2⟩
  case start =>
    have hruns : d.hkRuns = true := by simp [Dev.hkRuns, h2, hB, hc]
    have hstart : d.hkStart false = { d.setRbit Reg.HKP_STAT 18 true with ms := { d.ms with hkReq := false } } :=
      if_pos (by simp [hruns, hfree, d])
    refine .of_run exec_housekeepingRoundStart hc ?_
    rw [hstart]
    exact ⟨(Dev.rbit_setRbit d Reg.HKP_STAT 18 18 true (by decide)).trans (if_pos rfl), rfl, fun _ => rfl,
      fun a ha => Dev.reg_setRbit_other _ _ _ (List.mem_singleton.not.mp ha)⟩
  case publish =>
    obtain ⟨hstands, hmode⟩ := Dev.roundPublish_free (volts := volts) hbusy hq hreq h6 h7 h10
    obtain ⟨h1, h3, h4, h5, hres, hlim⟩ := Dev.published_hkPublish.mono hstands
    refine .of_run exec_housekeepingRoundPublish hc ⟨h1, h3, h4, h5, ?_, fun c hc hd => ⟨hres c hc hd, hlim c hc hd⟩⟩
    exact (Dev.fld_congr (hstands.regs _ (.inr rfl)) 3 0).trans hmode
  case idle => exact exec_idle_of_run exec_housekeepingRoundPublish (if_neg (by simp [hfree, d]))
  case code => exact hkCode_analogue h0 hv hlt

end Sys2Proof.Machine
end

section
/-! Timebases (R243 to R247): enabling, group start, live writes. -/

namespace Sys2Proof.Machine

variable {d e f : Dev} {s : State} {i j k : Nat} {v : Word}

/-! ### The counter -/

/-- What TB_CNT holds at a position. -/
def cntWord (pos : Nat) (down : Bool) : Word := BitVec.ofNat 32 (down.toNat * 2 ^ 24 + pos % 2 ^ 24)

theorem cntWord_pos (pos : Nat) (down : Bool) : bitsOf (cntWord pos down) 23 0 = pos % 2 ^ 24 := by
  have hlt : pos % 2 ^ 24 < 2 ^ 24 := Nat.mod_lt _ (by decide)
  unfold bitsOf cntWord
  rw [BitVec.toNat_ofNat]
  cases down <;> simp only [Bool.toNat_true, Bool.toNat_false] <;> omega

theorem cntWord_down (pos : Nat) (down : Bool) : bitOf (cntWord pos down) 24 = down := by
  have hlt : pos % 2 ^ 24 < 2 ^ 24 := Nat.mod_lt _ (by decide)
  unfold bitOf cntWord
  rw [BitVec.toNat_ofNat, Nat.testBit_eq_decide_div_mod_eq]
  cases down <;> simp only [Bool.toNat_true, Bool.toNat_false, decide_eq_true_eq, decide_eq_false_iff_not] <;> omega

theorem Dev.fld_setCnt (j pos : Nat) (down : Bool) : (d.setCnt j pos down).fld (Reg.TB_CNT j) 23 0 = pos % 2 ^ 24 := by
  rw [Dev.fld, Dev.setCnt, Dev.reg_setReg_same]
  exact cntWord_pos pos down

theorem Dev.rbit_setCnt (j pos : Nat) (down : Bool) : (d.setCnt j pos down).rbit (Reg.TB_CNT j) 24 = down := by
  rw [Dev.rbit, Dev.setCnt, Dev.reg_setReg_same]
  exact cntWord_down pos down

theorem Dev.tb_modTb_same (g : Timebase → Timebase) : (d.modTb j g).tb j = g (d.tb j) := Dev.tb_setTb_same ..

theorem Dev.tbPer_lt (j : Nat) : d.tbPer j < 2 ^ 24 := bitsOf_lt ..

/-! ### The start of one timebase (R245) -/

/-- A timebase whose registers and state stand. -/
structure Dev.tbSame (d e : Dev) (i : Nat) : Prop where
  regs : ∀ a ∈ [Reg.TB_CTL i, Reg.TB_PHASE i, Reg.TB_CNT i, Reg.TB_STAT i], e.reg a = d.reg a
  tb : e.tb i = d.tb i

theorem Dev.tbSame.rfl : d.tbSame d i := ⟨fun _ _ => Eq.refl _, Eq.refl _⟩

theorem Dev.tbSame.trans (h : d.tbSame e i) (k : e.tbSame f i) : d.tbSame f i :=
  ⟨fun a ha => (k.regs a ha).trans (h.regs a ha), k.tb.trans h.tb⟩

theorem Dev.loadPhase_eq : d.loadPhase j =
    d.setReg (Reg.TB_CNT j) (cntWord (min (d.fld (Reg.TB_PHASE j) 23 0) (d.tbPer j)) (d.rbit (Reg.TB_PHASE j) 24 && d.tbCentre j)) :=
  rfl

theorem Dev.reg_tbStart (a : Nat) : (d.tbStart j).reg a = ((d.loadPhase j).setRbit (Reg.TB_STAT j) 1 true).reg a := by
  rw [Dev.tbStart, Dev.modTb, Dev.reg_setTb]

theorem Dev.tbStart_same (hne : i ≠ j) (hi : i < 16) (hj : j < 16) : d.tbSame (d.tbStart j) i where
  regs a ha := by
    have hcnt : a ≠ Reg.TB_CNT j ∧ a ≠ Reg.TB_STAT j := by
      simp only [List.mem_cons, List.not_mem_nil, or_false, Reg.TB_CTL, Reg.TB_PHASE, Reg.TB_CNT, Reg.TB_STAT] at ha ⊢
      omega
    rw [Dev.reg_tbStart, Dev.reg_setRbit_other _ _ _ hcnt.2, Dev.loadPhase_eq, Dev.reg_setReg_other _ _ hcnt.1]
  tb := by
    rw [Dev.tbStart, Dev.modTb, Dev.tb_setTb, if_neg hne, Dev.setRbit, Dev.tb_setReg, Dev.loadPhase_eq, Dev.tb_setReg]

theorem tbCnt_ne_stat (j : Nat) : Reg.TB_CNT j ≠ Reg.TB_STAT j := by simp only [Reg.TB_CNT, Reg.TB_STAT]; omega

theorem Dev.tbStart_cnt : (d.tbStart j).reg (Reg.TB_CNT j) = (d.loadPhase j).reg (Reg.TB_CNT j) := by
  rw [Dev.reg_tbStart, Dev.reg_setRbit_other _ _ _ (tbCnt_ne_stat j)]

theorem Dev.tbStart_runs : (d.tbStart j).rbit (Reg.TB_STAT j) 1 = true := by
  rw [Dev.rbit_congr (Dev.reg_tbStart _), Dev.rbit_setRbit _ _ _ _ _ (by decide), if_pos rfl]

theorem Dev.tbStart_pos : (d.tbStart j).fld (Reg.TB_CNT j) 23 0 = min (d.fld (Reg.TB_PHASE j) 23 0) (d.tbPer j) := by
  rw [Dev.fld_congr Dev.tbStart_cnt, Dev.loadPhase, Dev.fld_setCnt]
  exact Nat.mod_eq_of_lt (Nat.lt_of_le_of_lt (Nat.min_le_right ..) (Dev.tbPer_lt j))

theorem Dev.tbStart_down : (d.tbStart j).rbit (Reg.TB_CNT j) 24 = (d.rbit (Reg.TB_PHASE j) 24 && d.rbit (Reg.TB_CTL j) 1) := by
  rw [Dev.rbit_congr Dev.tbStart_cnt, Dev.loadPhase, Dev.rbit_setCnt]
  rfl

theorem Dev.tbStart_waiting : ((d.tbStart j).tb j).waiting = false := by
  rw [Dev.tbStart, Dev.tb_modTb_same]

theorem Dev.keeps_tbStart {but : List Nat} (h : d.keeps e but) (hc : Reg.TB_CNT j ∈ but) (hs : Reg.TB_STAT j ∈ but) :
    d.keeps (e.tbStart j) but := by
  have hph : d.keeps (e.loadPhase j) but := by
    rw [Dev.loadPhase_eq]
    exact h.set _ _ hc
  rw [Dev.tbStart, Dev.modTb]
  generalize (e.loadPhase j) = x at hph
  exact (hph.bit _ 1 true hs).same (Dev.setTb_sk ..) (Dev.setTb_regs ..)

/-! ### Group start (R245) -/

/-- Whether a group start names an enabled timebase that waits. -/
def Dev.tbGoes (d : Dev) (mask i : Nat) : Bool := mask.testBit i && d.rbit (Reg.TB_CTL i) 0 && (d.tb i).waiting

/-- What a started timebase shows. -/
structure Dev.tbStarted (d e : Dev) (i : Nat) : Prop where
  runs : e.rbit (Reg.TB_STAT i) 1 = true
  waits : (e.tb i).waiting = false
  pos : e.fld (Reg.TB_CNT i) 23 0 = min (d.fld (Reg.TB_PHASE i) 23 0) (d.tbPer i)

theorem Dev.tbStarted.congr_left (h : d.tbSame e i) (k : e.tbStarted f i) : d.tbStarted f i where
  runs := k.runs
  waits := k.waits
  pos := by rw [k.pos, Dev.tbPer, h.tb, Dev.fld_congr (h.regs (Reg.TB_PHASE i) (by simp)), Dev.tbPer]

theorem Dev.tbStarted.congr_right (h : d.tbStarted e i) (k : e.tbSame f i) : d.tbStarted f i where
  runs := (Dev.rbit_congr (k.regs (Reg.TB_STAT i) (by simp)) 1).trans h.runs
  waits := by rw [k.tb, h.waits]
  pos := by rw [Dev.fld_congr (k.regs (Reg.TB_CNT i) (by simp)), h.pos]

theorem Dev.tbGoes_congr (h : d.tbSame e i) (mask : Nat) : e.tbGoes mask i = d.tbGoes mask i := by
  rw [Dev.tbGoes, Dev.rbit_congr (h.regs (Reg.TB_CTL i) (by simp)), h.tb, Dev.tbGoes]

/-- The group start at the first `n` timebases. -/
def Dev.groupUpTo (d : Dev) (mask n : Nat) : Dev :=
  (List.range n).foldl (fun e j => if e.tbGoes mask j then e.tbStart j else e) d

theorem Dev.groupUpTo_succ (mask n : Nat) : d.groupUpTo mask (n + 1) =
    if (d.groupUpTo mask n).tbGoes mask n then (d.groupUpTo mask n).tbStart n else d.groupUpTo mask n := by
  simp only [Dev.groupUpTo, List.range_succ, List.foldl_append, List.foldl_cons, List.foldl_nil]
  rfl

/-- Each timebase is started when its turn comes and stands before and after it. -/
theorem Dev.groupUpTo_shows (mask : Nat) {n : Nat} (hn : n ≤ 16) (hi : i < 16) :
    (i < n → d.tbGoes mask i = true → d.tbStarted (d.groupUpTo mask n) i) ∧
    ((n ≤ i ∨ d.tbGoes mask i = false) → d.tbSame (d.groupUpTo mask n) i) := by
  induction n with
  | zero => exact ⟨fun h => absurd h (by omega), fun _ => .rfl⟩
  | succ n ih =>
    obtain ⟨hgo, hstay⟩ := ih (by omega)
    have hother : i ≠ n → (d.groupUpTo mask n).tbSame (d.groupUpTo mask (n + 1)) i := fun hne => by
      rw [Dev.groupUpTo_succ]
      split
      · exact Dev.tbStart_same hne hi (by omega)
      · exact .rfl
    by_cases hne : i = n
    · subst hne
      have hbefore := hstay (.inl (Nat.le_refl _))
      refine ⟨fun _ hg => ?_, fun h => ?_⟩
      · rw [Dev.groupUpTo_succ, if_pos ((Dev.tbGoes_congr hbefore mask).trans hg)]
        exact .congr_left hbefore ⟨Dev.tbStart_runs, Dev.tbStart_waiting, Dev.tbStart_pos⟩
      · rw [Dev.groupUpTo_succ, if_neg (by simp [Dev.tbGoes_congr hbefore mask, h.resolve_left (by omega)])]
        exact hbefore
    · exact ⟨fun hlt hg => (hgo (by omega) hg).congr_right (hother hne), fun h =>
        (hstay (h.imp_left (by omega))).trans (hother hne)⟩

theorem Dev.keeps_groupStart (mask : Nat) :
    d.keeps (d.groupStart mask) ((List.range 16).map Reg.TB_CNT ++ (List.range 16).map Reg.TB_STAT) := by
  have hfold : ∀ (xs : List Nat) (e : Dev), (∀ x ∈ xs, x < 16) →
      d.keeps e ((List.range 16).map Reg.TB_CNT ++ (List.range 16).map Reg.TB_STAT) →
      d.keeps (xs.foldl (fun e j => if mask.testBit j && e.rbit (Reg.TB_CTL j) 0 && (e.tb j).waiting then e.tbStart j else e) e)
        ((List.range 16).map Reg.TB_CNT ++ (List.range 16).map Reg.TB_STAT) := fun xs => by
    induction xs with
    | nil => exact fun _ _ h => h
    | cons x xs ih =>
      intro e hxs h
      have hx : x < 16 := hxs x List.mem_cons_self
      refine ih _ (fun y hy => hxs y (List.mem_cons_of_mem _ hy)) ?_
      dsimp only
      split
      · exact Dev.keeps_tbStart h (List.mem_append_left _ (List.mem_map_of_mem (List.mem_range.mpr hx)))
          (List.mem_append_right _ (List.mem_map_of_mem (List.mem_range.mpr hx)))
      · exact h
  exact hfold _ _ (fun x hx => List.mem_range.mp hx) .rfl

theorem Dev.groupStart_shows (mask : BitVec 16) (i : Fin 16) :
    ((mask.getLsbD i && d.rbit (Reg.TB_CTL i) 0 && (d.tb i).waiting) = true → d.tbStarted (d.groupStart mask.toNat) i) ∧
    ((mask.getLsbD i && d.rbit (Reg.TB_CTL i) 0 && (d.tb i).waiting) = false → d.tbSame (d.groupStart mask.toNat) i) := by
  obtain ⟨hgo, hstay⟩ := Dev.groupUpTo_shows (d := d) (i := i) mask.toNat (Nat.le_refl 16) i.isLt
  exact ⟨fun h => hgo i.isLt h, fun h => hstay (.inr h)⟩

/-! ### Enabling (R36, R245, R247) -/

theorem Dev.tbEnable_off (h : d.rbit (Reg.TB_CTL j) 0 = false) (hs : d.rbit (Reg.TB_STAT j) 0 = false) : d.tbEnable j =
    if d.tbCfgBad j then d.setRbit (Reg.TB_STAT j) 3 true
    else if d.rbit (Reg.TB_CTL j) 7 then (d.setRbit (Reg.TB_CTL j) 0 true).modTb j fun t => { t with waiting := true }
    else (d.setRbit (Reg.TB_CTL j) 0 true).tbStart j := by
  simp only [Dev.tbEnable, h, hs, Bool.or_self, Bool.false_eq_true, if_false]

theorem Dev.phase_le_of_good (h : d.tbCfgBad j = false) : d.fld (Reg.TB_PHASE j) 23 0 ≤ d.tbPer j := by
  simp only [Dev.tbCfgBad, Bool.or_eq_false_iff, decide_eq_false_iff_not, Nat.not_lt] at h
  exact h.1.2

/-- A counter that starts with its enable. -/
theorem Dev.tbEnable_starts (hgood : d.tbCfgBad j = false) :
    let e := (d.setRbit (Reg.TB_CTL j) 0 true).tbStart j
    e.rbit (Reg.TB_CTL j) 0 = true ∧ e.rbit (Reg.TB_STAT j) 1 = true ∧
      e.fld (Reg.TB_CNT j) 23 0 = d.fld (Reg.TB_PHASE j) 23 0 ∧
      e.rbit (Reg.TB_CNT j) 24 = (d.rbit (Reg.TB_PHASE j) 24 && d.rbit (Reg.TB_CTL j) 1) ∧
      d.keeps e [Reg.TB_CTL j, Reg.TB_STAT j, Reg.TB_CNT j] := by
  have hphase : Reg.TB_PHASE j ≠ Reg.TB_CTL j := by simp only [Reg.TB_PHASE, Reg.TB_CTL]; omega
  have hcs : Reg.TB_CTL j ≠ Reg.TB_STAT j := by simp only [Reg.TB_STAT, Reg.TB_CTL]; omega
  have hcc : Reg.TB_CTL j ≠ Reg.TB_CNT j := by simp only [Reg.TB_CNT, Reg.TB_CTL]; omega
  have hctl : ((d.setRbit (Reg.TB_CTL j) 0 true).tbStart j).reg (Reg.TB_CTL j) = (d.setRbit (Reg.TB_CTL j) 0 true).reg (Reg.TB_CTL j) := by
    rw [Dev.reg_tbStart, Dev.reg_setRbit_other _ _ _ hcs, Dev.loadPhase_eq, Dev.reg_setReg_other _ _ hcc]
  refine ⟨?_, Dev.tbStart_runs, ?_, ?_, ?_⟩
  · rw [Dev.rbit_congr hctl, Dev.rbit_setRbit _ _ _ _ _ (by decide), if_pos rfl]
  · rw [Dev.tbStart_pos, Dev.fld_congr (Dev.reg_setRbit_other _ _ _ hphase)]
    exact Nat.min_eq_left (Dev.phase_le_of_good hgood)
  · rw [Dev.tbStart_down, Dev.rbit_congr (Dev.reg_setRbit_other _ _ _ hphase), Dev.rbit_setRbit _ _ _ _ _ (by decide),
      if_neg (by decide)]
  · exact Dev.keeps_tbStart (Dev.keeps.rfl.bit _ 0 true (by simp)) (by simp) (by simp)

/-! ### Live writes (R246) -/

theorem Dev.tbWrite_per (hw : 2 ≤ (v &&& 0xFFFFFF).toNat) (hc : d.rbit (Reg.TB_CTL j) 1 = false) : d.tbWrite j .per v =
    if d.tbRuns j then (d.setReg (Reg.TB_PER j) (v &&& 0xFFFFFF)).setRbit (Reg.TB_STAT j) 2 true
    else (d.setReg (Reg.TB_PER j) (v &&& 0xFFFFFF)).modTb j fun t => { t with per := v &&& 0xFFFFFF } := by
  refine if_neg ?_
  rw [Dev.tbCentre, hc, Bool.false_and, Bool.or_false, decide_eq_true_eq]
  exact Nat.not_lt.mpr hw

theorem Dev.tbWrite_short (hw : (v &&& 0xFFFFFF).toNat < 2) : d.tbWrite j .per v = d := by
  refine if_pos ?_
  rw [decide_eq_true hw, Bool.true_or]

end Sys2Proof.Machine
end

section
/-! An event of a timebase (R244): what it shows and what it leaves. -/

namespace Sys2Proof.Machine

variable {d e f : Dev} {s : State} {i j k n : Nat} {v : Word}

/-! ### What an event leaves -/

/-- The registers of the timebases. -/
def tbReg (a : Nat) : Prop := 0x30004000 ≤ a ∧ a < 0x30005000

/-- Timebase registers, value registers, leg dies, functions and flash stand; an open sample set stays open. -/
structure Dev.eventStands (d e : Dev) : Prop where
  regs : ∀ a, tbReg a → e.reg a = d.reg a
  pt : e.pt = d.pt
  pl : e.pl = d.pl
  fl : e.fl = d.fl
  bobbins : e.cr.bobbins = d.cr.bobbins
  v : ∀ p, (e.spn p).v = (d.spn p).v
  opened : ∀ p w, ((d.spn p).win w).opened = true → ((e.spn p).win w).opened = true

theorem Dev.eventStands.of_parts (hg : ∀ a, tbReg a → e.reg a = d.reg a) (hc : e.cr = d.cr) (ht : e.pt = d.pt)
    (hl : e.pl = d.pl) (hf : e.fl = d.fl) : d.eventStands e :=
  ⟨hg, ht, hl, hf, by rw [hc], fun p => by rw [Dev.spn, hc, Dev.spn], fun p w h => by rwa [Dev.spn, hc]⟩

theorem Dev.eventStands.rfl : d.eventStands d :=
  .of_parts (fun _ _ => Eq.refl _) (Eq.refl _) (Eq.refl _) (Eq.refl _) (Eq.refl _)

theorem Dev.eventStands.trans (h : d.eventStands e) (k : e.eventStands f) : d.eventStands f where
  regs a ha := (k.regs a ha).trans (h.regs a ha)
  pt := k.pt.trans h.pt
  pl := k.pl.trans h.pl
  fl := k.fl.trans h.fl
  bobbins := k.bobbins.trans h.bobbins
  v p := (k.v p).trans (h.v p)
  opened p w ho := k.opened p w (h.opened p w ho)

theorem Dev.eventStands_setReg {a : Nat} (ha : ¬tbReg a) (w : Word) : d.eventStands (d.setReg a w) :=
  .of_parts (fun _ hb => Dev.reg_setReg_other _ _ fun h => ha (h ▸ hb)) rfl rfl rfl rfl

theorem Dev.eventStands.set (h : d.eventStands e) {a : Nat} (ha : ¬tbReg a) (w : Word) : d.eventStands (e.setReg a w) :=
  h.trans (Dev.eventStands_setReg ha w)

theorem Dev.eventStands.bit (h : d.eventStands e) {a : Nat} (ha : ¬tbReg a) (i : Nat) (b : Bool) : d.eventStands (e.setRbit a i b) :=
  h.set ha _

theorem Dev.eventStands.modWhorl (h : d.eventStands e) (n : Nat) (g : Whorl → Whorl) : d.eventStands (e.modWhorl n g) :=
  h.trans (.of_parts (fun _ _ => Dev.reg_modWhorl ..) (Eq.refl _) (Eq.refl _) (Eq.refl _) (Eq.refl _))

theorem Dev.eventStands_raise (x i : Nat) : d.eventStands (d.raise x i) :=
  .of_parts (fun _ _ => Dev.reg_raise ..) (Dev.raise_cr ..) (Dev.raise_pt ..) (Dev.raise_pl ..) (Dev.raise_fl ..)

theorem Dev.eventStands.raise (h : d.eventStands e) (x i : Nat) : d.eventStands (e.raise x i) := h.trans (Dev.eventStands_raise x i)

theorem Dev.eventStands.when (h : d.eventStands e) (b : Bool) {g : Dev → Dev} (hg : b = true → d.eventStands (g e)) :
    d.eventStands (e.when b g) := by
  cases b
  · exact h
  · exact hg (Eq.refl _)

theorem Dev.eventStands.foldl {g : Dev → Nat → Dev} {xs : List Nat} (hg : ∀ x ∈ xs, ∀ e : Dev, e.eventStands (g e x)) :
    d.eventStands (xs.foldl g d) := by
  induction xs generalizing d with
  | nil => exact .rfl
  | cons x xs ih => exact (hg x List.mem_cons_self d).trans (ih fun y hy => hg y (List.mem_cons_of_mem _ hy))

/-- The value registers of every core stand. -/
theorem Dev.eventStands.gv (h : d.eventStands e) (c : Core) (q : BitVec 5) : e.gv c q = d.gv c q := by
  unfold Dev.gv
  cases c with
  | spn p => simp only [h.v]
  | bob b => simp only [Dev.bob, h.bobbins]

/-! ### A Whorl at an event -/

theorem whlStat_not_tb (hn : n < 64) : ¬tbReg (Reg.WHL_STAT n) := by simp only [tbReg, Reg.WHL_STAT]; omega
theorem whlOut_not_tb (hn : n < 64) : ¬tbReg (Reg.WHL_OUT n) := by simp only [tbReg, Reg.WHL_OUT]; omega
theorem whlAct_not_tb (hn : n < 64) (hi : i < 4) : ¬tbReg (Reg.WHL_ACT n i) := by simp only [tbReg, Reg.WHL_ACT]; omega

theorem Dev.eventStands.setOut (h : d.eventStands e) (hn : n < 64) (x y : Bool) : d.eventStands (e.setOut n x y) := by
  unfold Dev.setOut
  dsimp only
  split
  · exact h
  · exact (h.set (whlOut_not_tb hn) _).modWhorl ..

theorem Dev.eventStands.drive (h : d.eventStands e) (hn : n < 64) (trip : Bool) : d.eventStands (e.drive n trip) :=
  (h.modWhorl ..).setOut hn ..

theorem Dev.eventStands.latchTrip (h : d.eventStands e) (hn : n < 64) (b : Nat) : d.eventStands (e.latchTrip n b) := by
  refine Dev.eventStands.raise (.drive ?_ hn true) ..
  exact ((h.bit (whlStat_not_tb hn) 1 true).set (whlStat_not_tb hn) _).modWhorl ..

theorem Dev.eventStands.tripEval (h : d.eventStands e) (hn : n < 64) : d.eventStands (e.tripEval n) := by
  rw [Dev.tripEval, Dev.tripLook_eq]
  split_ifs
  · exact h.when _ fun _ => h.bit (whlStat_not_tb hn) 13 true
  · exact h
  · exact h
  · cases e.tripHit n with
    | none => exact h
    | some b => exact h.latchTrip hn b

theorem Dev.eventStands.disableState (h : d.eventStands e) (hn : n < 64) : d.eventStands (e.whlDisableState n) :=
  ((h.bit (whlStat_not_tb hn) 2 false).modWhorl ..).drive hn false

theorem Dev.eventStands.applyImage (h : d.eventStands e) (hn : n < 64) : d.eventStands (e.applyImage n) := by
  unfold Dev.applyImage
  dsimp only
  split_ifs
  · exact h.disableState hn
  · refine Dev.eventStands.modWhorl (.bit ?_ (whlStat_not_tb hn) 2 true) ..
    refine h.trans (.foldl fun i hi e => ?_)
    exact Dev.eventStands_setReg (whlAct_not_tb hn (List.mem_range.mp hi)) _
  · exact h

theorem Dev.eventStands.applyForce (h : d.eventStands e) (hn : n < 64) : d.eventStands (e.applyForce n) := by
  unfold Dev.applyForce
  split
  · exact (h.modWhorl ..).bit (whlStat_not_tb hn) 3 false
  · exact h

theorem Dev.eventStands.legCode (h : d.eventStands e) (hn : n < 64) : d.eventStands (e.legCode n).1 := by
  unfold Dev.legCode
  dsimp only
  split
  · exact h.bit (whlStat_not_tb hn) 14 true
  · exact h

theorem Dev.eventStands.decideLeg (h : d.eventStands e) (hn : n < 64) : d.eventStands (e.decideLeg n) := by
  have hlow : ∀ b : Bool, d.eventStands ((e.legCode n).1.when b fun d => d.setRbit (Reg.WHL_STAT n) 15 true) := fun b =>
    (h.legCode hn).when b fun _ => (h.legCode hn).bit (whlStat_not_tb hn) 15 true
  unfold Dev.decideLeg
  dsimp only
  split
  · exact ((hlow _).modWhorl ..).bit (whlStat_not_tb hn) 12 true
  · exact (hlow _).modWhorl ..

theorem Dev.eventStands.reload (h : d.eventStands e) (hn : n < 64) (b : Bool) :
    d.eventStands ((((e.applyImage n).applyForce n).refreshReload n).when b fun d =>
      (d.setRbit (Reg.WHL_STAT n) 1 false).modWhorl n fun w => { w with clearing := false }) := by
  have hin : d.eventStands (((e.applyImage n).applyForce n).refreshReload n) := ((h.applyImage hn).applyForce hn).modWhorl ..
  generalize ((e.applyImage n).applyForce n).refreshReload n = x at hin
  exact hin.when b fun _ => (hin.bit (whlStat_not_tb hn) 1 false).modWhorl ..

theorem Dev.eventStands_whlEvent (hn : n < 64) (ev : TbEvent) : d.eventStands (d.whlEvent n ev) := by
  unfold Dev.whlEvent
  split
  · exact .rfl
  · have h1 : d.eventStands (if d.reloads n ev then (((d.applyImage n).applyForce n).refreshReload n).when (d.whorl n).clearing fun d =>
        (d.setRbit (Reg.WHL_STAT n) 1 false).modWhorl n fun w => { w with clearing := false } else d) := by
      split
      · exact Dev.eventStands.rfl.reload hn _
      · exact .rfl
    dsimp only
    generalize (if d.reloads n ev = true then (((d.applyImage n).applyForce n).refreshReload n).when (d.whorl n).clearing fun d =>
        (d.setRbit (Reg.WHL_STAT n) 1 false).modWhorl n fun w => { w with clearing := false } else d) = d1 at h1 ⊢
    have h2 : d.eventStands (d1.when (decide (d1.actMode n = 1) && d1.rbit (Reg.WHL_STAT n) 2 && decide (ev = .zero)) fun d =>
        d.decideLeg n) := h1.when _ fun _ => h1.decideLeg hn
    generalize (d1.when (decide (d1.actMode n = 1) && d1.rbit (Reg.WHL_STAT n) 2 && decide (ev = .zero)) fun d =>
        d.decideLeg n) = d2 at h2 ⊢
    have h3 : d.eventStands (d2.pwmFollow n 0) := by
      rw [Dev.pwmFollow]
      exact h2.modWhorl ..
    generalize d2.pwmFollow n 0 = d3 at h3 ⊢
    exact ((h3.when _ fun _ => h3.bit (whlStat_not_tb hn) 15 true).drive hn false).tripEval hn

/-! ### The sample sets that open (R218, R219) -/

theorem spnSdef_not_tb (p w : Nat) (hp : p < 18) (hw : w < 4) : ¬tbReg (Reg.SPN_SDEF p w) := by
  simp only [tbReg, Reg.SPN_SDEF]; omega

theorem Dev.spn_modWin (p w : Nat) (g : SetWin → SetWin) (q : Nat) : (d.modWin p w g).spn q = if q = p then
    { d.spn p with sets := smSet (fun _ => SetWin.reset) (d.spn p).sets w (g ((d.spn p).win w)) } else d.spn q := by
  rw [Dev.modWin, Dev.modSpn, Dev.spn_setSpn]

theorem Dev.win_modWin_same (p w : Nat) (g : SetWin → SetWin) : ((d.modWin p w g).spn p).win w = g ((d.spn p).win w) := by
  rw [Dev.spn_modWin, if_pos rfl]
  exact smGet_smSet_same ..

theorem Dev.eventStands_modWin (p w : Nat) (g : SetWin → SetWin) (hg : ∀ x, (g x).opened = true) : d.eventStands (d.modWin p w g) where
  regs _ _ := by rfl
  pt := by rfl
  pl := by rfl
  fl := by rfl
  bobbins := by rfl
  v q := by
    rw [Dev.spn_modWin]
    split
    · next h => rw [h]
    · rfl
  opened q x ho := by
    rw [Dev.spn_modWin]
    split
    · next h =>
      rw [Spindle.win, smGet_smSet]
      split
      · exact hg _
      · rwa [h] at ho
    · exact ho

theorem Dev.eventStands_openGen {p w : Nat} (hp : p < 18) (hw : w < 4) (stamp : Nat) : d.eventStands (d.openGen p w stamp) :=
  (Dev.eventStands.rfl.when _ fun _ => Dev.eventStands.rfl.bit (spnSdef_not_tb p w hp hw) 11 true).trans
    (Dev.eventStands_modWin _ _ _ fun _ => rfl)

theorem Dev.opened_openGen (p w stamp : Nat) : (((d.openGen p w stamp).spn p).win w).opened = true := by
  rw [Dev.openGen, Dev.win_modWin_same]

/-- What decides which sets open: the status of the Spindles and the definitions of the sets but their DISC. -/
structure Dev.setsAlike (d e : Dev) : Prop where
  stat : ∀ p : Nat, e.reg (Reg.SPN_STAT p) = d.reg (Reg.SPN_STAT p)
  defs : ∀ p w hi lo : Nat, hi < 11 → e.fld (Reg.SPN_SDEF p w) hi lo = d.fld (Reg.SPN_SDEF p w) hi lo

/-- Whether an event of a timebase opens a set. -/
def Dev.opensAt (d : Dev) (p w tb ev : Nat) : Bool :=
  decide (d.nslot p w ≠ 0) && !d.rbit (Reg.SPN_STAT p) 9 && decide (d.fld (Reg.SPN_SDEF p w) 8 5 = tb) &&
    decide (d.fld (Reg.SPN_SDEF p w) 10 9 = ev)

/-- A set whose event this is opens. -/
def Dev.openAt (d : Dev) (p tb ev stamp w : Nat) : Dev := if d.opensAt p w tb ev then d.openGen p w stamp else d

theorem Dev.openGens_eq (tb ev stamp : Nat) : d.openGens tb ev stamp =
    (List.range 18).foldl (fun e p => (List.range 4).foldl (fun e w => e.openAt p tb ev stamp w) e) d := by
  unfold Dev.openGens
  congr 1
  funext e p
  congr 1
  funext e w
  simp only [Dev.openAt, Dev.opensAt, Bool.and_eq_true, decide_eq_true_eq, and_assoc]

theorem Dev.setsAlike.rfl : d.setsAlike d := ⟨fun _ => Eq.refl _, fun _ _ _ _ _ => Eq.refl _⟩

theorem Dev.setsAlike.trans (h : d.setsAlike e) (k : e.setsAlike f) : d.setsAlike f :=
  ⟨fun p => (k.stat p).trans (h.stat p), fun p w hi lo hh => (k.defs p w hi lo hh).trans (h.defs p w hi lo hh)⟩

theorem Dev.setsAlike.opensAt (h : d.setsAlike e) (p w tb ev : Nat) : e.opensAt p w tb ev = d.opensAt p w tb ev := by
  unfold Dev.opensAt Dev.nslot
  rw [h.defs p w 4 0 (by omega), h.defs p w 8 5 (by omega), h.defs p w 10 9 (by omega), Dev.rbit_congr (h.stat p)]

theorem Dev.setsAlike_disc {p w : Nat} (hw : w < 4) : d.setsAlike (d.setRbit (Reg.SPN_SDEF p w) 11 true) where
  stat q := Dev.reg_setRbit_other _ _ _ (by simp only [Reg.SPN_STAT, Reg.SPN_SDEF]; omega)
  defs q x hi lo hh := by
    by_cases ha : Reg.SPN_SDEF q x = Reg.SPN_SDEF p w
    · rw [ha, Dev.fld, Dev.setRbit, Dev.reg_setReg_same, bitsOf_putBit_other _ _ _ _ _ (by omega) (.inl hh), Dev.fld]
    · exact Dev.fld_congr (Dev.reg_setRbit_other _ _ _ ha) ..

theorem Dev.setsAlike_openGen {p w : Nat} (hw : w < 4) (stamp : Nat) : d.setsAlike (d.openGen p w stamp) := by
  have hdisc : d.setsAlike (d.when ((d.spn p).win w).opened fun d => d.setRbit (Reg.SPN_SDEF p w) 11 true) := by
    unfold Dev.when
    split
    · exact Dev.setsAlike_disc hw
    · exact .rfl
  exact ⟨hdisc.stat, hdisc.defs⟩

/-- A step of the fold over a Spindle's sets. -/
theorem Dev.openAt_stands {p w : Nat} (hp : p < 18) (hw : w < 4) (tb ev stamp : Nat) :
    d.eventStands (d.openAt p tb ev stamp w) ∧ d.setsAlike (d.openAt p tb ev stamp w) ∧ (d.openAt p tb ev stamp w).sk = d.sk := by
  unfold Dev.openAt
  split
  · refine ⟨Dev.eventStands_openGen hp hw stamp, Dev.setsAlike_openGen hw stamp, ?_⟩
    unfold Dev.openGen Dev.when
    split <;> rfl
  · exact ⟨.rfl, .rfl, rfl⟩

/-- What the fold over sets of one Spindle leaves. -/
theorem Dev.openSets_stands {p : Nat} (hp : p < 18) (tb ev stamp : Nat) {xs : List Nat} (hxs : ∀ x ∈ xs, x < 4) :
    let e := xs.foldl (fun e w => e.openAt p tb ev stamp w) d
    d.eventStands e ∧ d.setsAlike e ∧ e.sk = d.sk := by
  induction xs generalizing d with
  | nil => exact ⟨.rfl, .rfl, rfl⟩
  | cons x xs ih =>
    obtain ⟨h1, h2, h3⟩ := Dev.openAt_stands (d := d) hp (hxs x List.mem_cons_self) tb ev stamp
    obtain ⟨k1, k2, k3⟩ := ih (d := d.openAt p tb ev stamp x) fun y hy => hxs y (List.mem_cons_of_mem _ hy)
    exact ⟨h1.trans k1, h2.trans k2, k3.trans h3⟩

theorem Dev.openSets_open {p w : Nat} (hp : p < 18) (tb ev stamp : Nat) {xs : List Nat} (hxs : ∀ x ∈ xs, x < 4) (hw : w ∈ xs)
    (ho : d.opensAt p w tb ev = true) :
    (((xs.foldl (fun e w => e.openAt p tb ev stamp w) d).spn p).win w).opened = true := by
  induction xs generalizing d with
  | nil => exact absurd hw List.not_mem_nil
  | cons x xs ih =>
    have hrest : ∀ y ∈ xs, y < 4 := fun y hy => hxs y (List.mem_cons_of_mem _ hy)
    rcases List.mem_cons.mp hw with rfl | hmem
    · have hnow : (((d.openAt p tb ev stamp w).spn p).win w).opened = true := by
        rw [Dev.openAt, if_pos ho]
        exact Dev.opened_openGen ..
      exact (Dev.openSets_stands hp tb ev stamp hrest).1.opened p w hnow
    · obtain ⟨-, hlike, -⟩ := Dev.openAt_stands (d := d) hp (hxs x List.mem_cons_self) tb ev stamp
      exact ih hrest hmem ((hlike.opensAt p w tb ev).trans ho)

theorem range4_lt : ∀ x ∈ List.range 4, x < 4 := fun _ hx => List.mem_range.mp hx

theorem Dev.openSpindles_stands (tb ev stamp : Nat) {xs : List Nat} (hxs : ∀ x ∈ xs, x < 18) :
    let e := xs.foldl (fun e p => (List.range 4).foldl (fun e w => e.openAt p tb ev stamp w) e) d
    d.eventStands e ∧ d.setsAlike e ∧ e.sk = d.sk := by
  induction xs generalizing d with
  | nil => exact ⟨.rfl, .rfl, rfl⟩
  | cons x xs ih =>
    obtain ⟨h1, h2, h3⟩ := Dev.openSets_stands (d := d) (hxs x List.mem_cons_self) tb ev stamp range4_lt
    obtain ⟨k1, k2, k3⟩ := ih (d := (List.range 4).foldl (fun e w => e.openAt x tb ev stamp w) d) fun y hy => hxs y (List.mem_cons_of_mem _ hy)
    exact ⟨h1.trans k1, h2.trans k2, k3.trans h3⟩

theorem Dev.openSpindles_open {p w : Nat} (tb ev stamp : Nat) {xs : List Nat} (hxs : ∀ x ∈ xs, x < 18) (hp : p ∈ xs) (hw : w < 4)
    (ho : d.opensAt p w tb ev = true) :
    (((xs.foldl (fun e p => (List.range 4).foldl (fun e w => e.openAt p tb ev stamp w) e) d).spn p).win w).opened = true := by
  induction xs generalizing d with
  | nil => exact absurd hp List.not_mem_nil
  | cons x xs ih =>
    have hrest : ∀ y ∈ xs, y < 18 := fun y hy => hxs y (List.mem_cons_of_mem _ hy)
    have hx : x < 18 := hxs x List.mem_cons_self
    rcases List.mem_cons.mp hp with rfl | hmem
    · exact (Dev.openSpindles_stands tb ev stamp hrest).1.opened p w
        (Dev.openSets_open hx tb ev stamp range4_lt (List.mem_range.mpr hw) ho)
    · obtain ⟨-, hlike, -⟩ := Dev.openSets_stands (d := d) hx tb ev stamp range4_lt
      exact ih hrest hmem ((hlike.opensAt p w tb ev).trans ho)

theorem range18_lt : ∀ x ∈ List.range 18, x < 18 := fun _ hx => List.mem_range.mp hx

theorem Dev.openGens_stands (tb ev stamp : Nat) : d.eventStands (d.openGens tb ev stamp) ∧ (d.openGens tb ev stamp).sk = d.sk := by
  rw [Dev.openGens_eq]
  exact ⟨(Dev.openSpindles_stands tb ev stamp range18_lt).1, (Dev.openSpindles_stands tb ev stamp range18_lt).2.2⟩

theorem Dev.openGens_open (tb ev stamp : Nat) (p : Fin 18) (w : Fin 4) (ho : d.opensAt p w tb ev = true) :
    (((d.openGens tb ev stamp).spn p).win w).opened = true := by
  rw [Dev.openGens_eq]
  exact Dev.openSpindles_open tb ev stamp range18_lt (List.mem_range.mpr p.isLt) w.isLt ho

/-! ### Loops, lanes, decimators and records at the event -/

theorem Dev.eventStands_loopEvents (tb ev stamp : Nat) : d.eventStands (d.loopEvents tb ev stamp) := by
  refine .foldl fun p _ e => .foldl fun l _ e => ?_
  dsimp only
  split
  · unfold Dev.loopEvent
    dsimp only
    split
    · exact ⟨fun _ _ => rfl, rfl, rfl, rfl, rfl, fun _ => rfl, fun _ _ h => h⟩
    · exact .rfl
  · exact .rfl

theorem Dev.sk_loopEvents (tb ev stamp : Nat) : (d.loopEvents tb ev stamp).sk = d.sk := by
  refine Dev.foldl_stands Dev.sk (fun e p => Dev.foldl_stands Dev.sk (fun e l => ?_) _ _) _ _
  dsimp only
  unfold Dev.loopEvent
  dsimp only
  split_ifs <;> rfl

theorem cnv_not_tb {k : Nat} (hk : k < 18) : ¬tbReg (Reg.CNV_STAT k) ∧ ¬tbReg (Reg.CNV_TLCNT k) ∧ ¬tbReg (Reg.CNV_SEQ k) := by
  simp only [tbReg, Reg.CNV_STAT, Reg.CNV_TLCNT, Reg.CNV_SEQ]; omega

theorem Dev.eventStands.modLane (h : d.eventStands e) (k : Nat) (g : Lane → Lane) : d.eventStands (e.modLane k g) :=
  ⟨h.regs, h.pt, h.pl, h.fl, h.bobbins, h.v, h.opened⟩

theorem Dev.eventStands_trigger {k : Nat} (hk : k < 18) (b : Bool) : d.eventStands (d.trigger k b) := by
  obtain ⟨hstat, hcnt, hseq⟩ := cnv_not_tb hk
  have htake : d.eventStands (d.takeTrigger k) := by
    unfold Dev.takeTrigger
    dsimp only
    split_ifs
    · exact .rfl
    · exact ((Dev.eventStands.rfl.bit hstat 8 true).set hcnt _).raise _ _
    · exact .rfl
    · split
      · exact ((Dev.eventStands.rfl.set hseq _).modLane k _).modLane k _
      · exact ((Dev.eventStands.rfl.set hseq _).modLane k _).modLane k _
  unfold Dev.trigger
  split
  · exact Dev.eventStands.rfl.modLane k _
  · exact htake.modLane k _

theorem Dev.eventStands_laneTriggers (tb ev : Nat) : d.eventStands (d.laneTriggers tb ev) := by
  refine .foldl fun k hk e => ?_
  dsimp only
  split
  · exact Dev.eventStands_trigger (List.mem_range.mp hk) true
  · exact .rfl

theorem Dev.sk_trigger (k : Nat) (b : Bool) : (d.trigger k b).sk = d.sk := by
  have htake : (d.takeTrigger k).sk = d.sk := by
    unfold Dev.takeTrigger
    dsimp only
    split_ifs
    · rfl
    · exact (Dev.raise_sk ..).trans rfl
    · rfl
    · split <;> rfl
  unfold Dev.trigger
  split
  · rfl
  · exact htake

theorem Dev.sk_laneTriggers (tb ev : Nat) : (d.laneTriggers tb ev).sk = d.sk := by
  refine Dev.foldl_stands Dev.sk (fun e k => ?_) _ _
  dsimp only
  split
  · exact Dev.sk_trigger k true
  · rfl

theorem Dev.eventStands_sdmArm (tb ev : Nat) : d.eventStands (d.sdmArm tb ev) := by
  refine .foldl fun n _ e => ?_
  dsimp only
  split
  · exact .of_parts (fun _ _ => rfl) rfl rfl rfl rfl
  · exact .rfl

theorem Dev.sk_sdmArm (tb ev : Nat) : (d.sdmArm tb ev).sk = d.sk := by
  refine Dev.foldl_stands Dev.sk (fun e k => ?_) _ _
  dsimp only
  split <;> rfl

/-- A draw that at its end writes no timebase register. -/
def positionDraw (x : Draw) : Prop := (∃ a i, x.tag = .position a i ∧ ¬tbReg a) ∨ ∃ n, x.tag = .prefetch n

theorem traffic_eventStands : Traffic (fun _ => True) positionDraw Dev.eventStands where
  banks _ _ := trivial
  refl _ := .rfl
  trans := .trans
  step h := by
    refine ⟨fun a ha => h.noted a fun hm => ?_, h.pt, h.pl, h.fl, h.bobbins, fun p => ?_, fun p w ho => ?_⟩
    · revert ha
      simp only [noteRegs, List.mem_cons, List.not_mem_nil, or_false] at hm
      rcases hm with rfl | rfl | rfl | rfl <;> exact fun ha => absurd ha (by unfold tbReg; decide)
    · obtain ⟨live, hl⟩ := h.spn p
      rw [hl]
    · obtain ⟨live, hl⟩ := h.spn p
      rw [hl]
      exact ho
  draws _ _ _ := .of_parts (fun _ _ => rfl) rfl rfl rfl rfl
  hank _ _ _ _ _ _ := .of_parts (fun _ _ => rfl) rfl rfl rfl rfl
  lost _ _ _ _ _ _ := Dev.eventStands.rfl.bit (by unfold tbReg; decide) 5 true
  bytes d _ a bs _ _ _ := by
    obtain ⟨m, hm⟩ := Dev.setBytes_eq (d := d) (bs := bs) a
    rw [hm]
    exact .of_parts (fun _ _ => rfl) rfl rfl rfl rfl
  tag d x st data got hx := by
    rcases hx with ⟨a, i, hx, ha⟩ | ⟨n, hx⟩
    · rw [hx, Dev.tagEnd]
      split
      · exact .rfl
      · exact Dev.eventStands.rfl.bit ha i true
    · rw [hx, Dev.tagEnd]
      exact Dev.eventStands.rfl.modWhorl ..
  moved hx hl := by rwa [positionDraw, hl.tag]
  fetch _ _ _ _ _ := .inr ⟨_, rfl⟩

theorem Dev.moves_record (port addr werr : Nat) (ws : List Nat) {stat : Nat} (hs : ¬tbReg stat) :
    d.moves (fun _ => True) positionDraw Dev.eventStands (d.record port addr stat werr ws) := by
  have hput := traffic_eventStands.moves_postStore (d := d) (req := d.laneOf port) (cls := 0) (loop := none) (entry := false) (a := addr * 16)
    (bs := ws.flatMap fun w => bytesOfWord (BitVec.ofNat 32 w)) (gaps := []) (tag := .position stat werr)
    (.inl ⟨stat, werr, rfl, hs⟩)
  unfold Dev.record
  dsimp only
  split
  · exact traffic_eventStands.moves_trans hput
      (traffic_eventStands.moves_of_draws (Dev.eventStands.rfl.bit hs werr true) rfl)
  · exact hput

theorem posEstat_not_tb {k : Nat} (hk : k < 4) : ¬tbReg (Reg.POS_ESTAT k) := by simp only [tbReg, Reg.POS_ESTAT]; omega
theorem posHstat_not_tb {k : Nat} (hk : k < 10) : ¬tbReg (Reg.POS_HSTAT k) := by simp only [tbReg, Reg.POS_HSTAT]; omega

theorem Dev.moves_encRecord {k : Nat} (hk : k < 4) : d.moves (fun _ => True) positionDraw Dev.eventStands (d.encRecord k) :=
  traffic_eventStands.moves_trans (Dev.moves_record _ _ _ _ (posEstat_not_tb hk))
    (traffic_eventStands.moves_of_draws (.of_parts (fun _ _ => rfl) rfl rfl rfl rfl) rfl)

theorem Dev.moves_hallRecord {k : Nat} (hk : k < 10) : d.moves (fun _ => True) positionDraw Dev.eventStands (d.hallRecord k) :=
  traffic_eventStands.moves_trans (Dev.moves_record _ _ _ _ (posHstat_not_tb hk))
    (traffic_eventStands.moves_of_draws (.of_parts (fun _ _ => rfl) rfl rfl rfl rfl) rfl)

theorem Dev.moves_cpcRecord : d.moves (fun _ => True) positionDraw Dev.eventStands d.cpcRecord :=
  traffic_eventStands.moves_trans (Dev.moves_record _ _ _ _ (by unfold tbReg; decide))
    (traffic_eventStands.moves_of_draws (.of_parts (fun _ _ => rfl) rfl rfl rfl rfl) rfl)

/-- Records of the units of a list, where each leaves what an event leaves. -/
theorem Dev.moves_recordsOf {g : Dev → Nat → Dev} {due : Dev → Nat → Bool} {xs : List Nat} (d : Dev)
    (hg : ∀ x ∈ xs, ∀ e : Dev, e.moves (fun _ => True) positionDraw Dev.eventStands (g e x)) :
    d.moves (fun _ => True) positionDraw Dev.eventStands (xs.foldl (fun e x => if due e x then g e x else e) d) := by
  induction xs generalizing d with
  | nil => exact traffic_eventStands.moves_refl
  | cons x xs ih =>
    refine traffic_eventStands.moves_trans ?_ (ih _ fun y hy => hg y (List.mem_cons_of_mem _ hy))
    dsimp only
    split
    · exact hg x List.mem_cons_self d
    · exact traffic_eventStands.moves_refl

theorem Dev.moves_posRecords (tb ev : Nat) : d.moves (fun _ => True) positionDraw Dev.eventStands (d.posRecords tb ev) := by
  have hunits := traffic_eventStands.moves_trans
    (Dev.moves_recordsOf (g := Dev.encRecord) (due := fun e x => e.posDue (Reg.POS_ECTL x) tb ev) (xs := List.range 4) d
      fun x hx e => Dev.moves_encRecord (List.mem_range.mp hx))
    (Dev.moves_recordsOf (g := Dev.hallRecord) (due := fun e x => e.posDue (Reg.POS_HCTL x) tb ev) (xs := List.range 10) _
      fun x hx e => Dev.moves_hallRecord (List.mem_range.mp hx))
  unfold Dev.posRecords
  dsimp only
  split
  · exact traffic_eventStands.moves_trans hunits Dev.moves_cpcRecord
  · exact hunits

theorem Dev.eventStands_posRecords (hq : d.quiet) (tb ev : Nat) : d.eventStands (d.posRecords tb ev) :=
  (Dev.moves_posRecords tb ev (Dev.drawsOk_of_quiet hq fun _ _ _ => .inr ⟨_, rfl⟩)).1

theorem Dev.eventStands_timeCapture (tb ev : Nat) : d.eventStands (d.timeCapture tb ev) := by
  unfold Dev.timeCapture
  split
  · exact (Dev.eventStands.rfl.set (by unfold tbReg; decide) _).set (by unfold tbReg; decide) _
  · exact .rfl

/-! ### The event (R244) -/

/-- The counter at the position of its event, and what applies at ZERO. -/
def Dev.tbAtEvent (d : Dev) (j : Nat) (ev : TbEvent) (pos : Nat) (down : Bool) : Dev :=
  if ev = .zero then ((d.setCnt j pos down).tbApply j).syncLoads j else d.setCnt j pos down

/-- A new stamp. -/
def Dev.nextStamp (d : Dev) : Dev := { d with ms := { d.ms with stamp := d.ms.stamp + 1 } }

/-- What hears an event of a timebase, but for the Whorls. -/
def Dev.eventHeard (d : Dev) (j c : Nat) : Dev :=
  ((((((d.nextStamp.openGens j c (d.ms.stamp + 1)).loopEvents j c (d.ms.stamp + 1)).laneTriggers j c).sdmArm j c).posRecords j c).timeCapture j c)

/-- The Whorls of a timebase at its event. -/
def Dev.whorlsHear (d : Dev) (j : Nat) (ev : TbEvent) : Dev :=
  (List.range 64).foldl (fun e n => if e.fld (Reg.WHL_CTL n) 7 4 = j then e.whlEvent n ev else e) d

theorem Dev.tbEvent_eq {ev : TbEvent} {pos : Nat} {down : Bool} (hpos : d.evPos j ev = some (pos, down)) (hc : d.clocked = true)
    (hruns : d.rbit (Reg.TB_STAT j) 1 = true) (hon : d.rbit (Reg.TB_CTL j) 0 = true) :
    d.tbEvent j ev = ((d.tbAtEvent j ev pos down).eventHeard j (evCode ev)).whorlsHear j ev := by
  unfold Dev.tbEvent
  simp only [hpos, hc, Dev.tbRuns, hruns, hon, Bool.not_true, Bool.and_false, Bool.or_false, Bool.false_eq_true, if_false]
  rfl

theorem Dev.tbEvent_idle {ev : TbEvent} (h : d.rbit (Reg.TB_STAT j) 1 = false ∨ d.evPos j ev = none ∨ (ev = .zero ∧ d.rbit (Reg.TB_CTL j) 0 = false)) :
    d.tbEvent j ev = d := by
  unfold Dev.tbEvent
  split
  · rfl
  · next hsome =>
    refine if_pos ?_
    rcases h with h | h | ⟨rfl, h⟩
    · simp [Dev.tbRuns, h]
    · rw [h] at hsome
      cases hsome
    · simp [h]

theorem Dev.eventStands_whorlsHear (j : Nat) (ev : TbEvent) : d.eventStands (d.whorlsHear j ev) := by
  refine .foldl fun n hn e => ?_
  split
  · exact Dev.eventStands_whlEvent (List.mem_range.mp hn) ev
  · exact .rfl

theorem Dev.quiet_of_sk (h : d.quiet) (hs : e.sk = d.sk) : e.quiet := fun b => by
  rw [Dev.drawsOf, hs]
  exact h b

/-- What hears an event leaves the timebases, and opens the sets that name it. -/
theorem Dev.eventHeard_shows (hq : d.quiet) (j c : Nat) :
    d.eventStands (d.eventHeard j c) ∧ ∀ (p : Fin 18) (w : Fin 4), d.opensAt p w j c = true →
      (((d.eventHeard j c).spn p).win w).opened = true := by
  have hgens := Dev.openGens_stands (d := d.nextStamp) j c (d.ms.stamp + 1)
  have hopen := Dev.openGens_open (d := d.nextStamp) j c (d.ms.stamp + 1)
  have hstamp : d.eventStands d.nextStamp := .of_parts (fun _ _ => rfl) rfl rfl rfl rfl
  unfold Dev.eventHeard
  generalize d.nextStamp.openGens j c (d.ms.stamp + 1) = x at hgens hopen ⊢
  have hloops : x.eventStands (((x.loopEvents j c (d.ms.stamp + 1)).laneTriggers j c).sdmArm j c) :=
    ((Dev.eventStands_loopEvents ..).trans (Dev.eventStands_laneTriggers ..)).trans (Dev.eventStands_sdmArm ..)
  have hrest : (((x.loopEvents j c (d.ms.stamp + 1)).laneTriggers j c).sdmArm j c).quiet := by
    refine Dev.quiet_of_sk hq ?_
    rw [Dev.sk_sdmArm, Dev.sk_laneTriggers, Dev.sk_loopEvents]
    exact hgens.2
  generalize ((x.loopEvents j c (d.ms.stamp + 1)).laneTriggers j c).sdmArm j c = y at hloops hrest ⊢
  have hafter : x.eventStands ((y.posRecords j c).timeCapture j c) :=
    (hloops.trans (Dev.eventStands_posRecords hrest j c)).trans (Dev.eventStands_timeCapture j c)
  refine ⟨(hstamp.trans hgens.1).trans hafter, fun p w ho => hafter.opened p w (hopen p w ?_)⟩
  exact ho

/-! ### The counter at its event -/

theorem Dev.evPos_lt {ev : TbEvent} {pos : Nat} {down : Bool} (h : d.evPos j ev = some (pos, down)) : pos < 2 ^ 24 := by
  have htrg : ∀ t : Word, d.trgPos j t = some (pos, down) → pos < 2 ^ 24 := fun t ht => by
    unfold Dev.trgPos at ht
    dsimp only at ht
    split at ht
    · cases ht
    · injection ht with ht
      injection ht with ht _
      rw [← ht]
      exact bitsOf_lt ..
  cases ev with
  | zero =>
    injection h with h
    injection h with h _
    omega
  | period =>
    injection h with h
    injection h with h _
    rw [← h]
    exact Dev.tbPer_lt j
  | trga => exact htrg _ h
  | trgb => exact htrg _ h

/-- A device of which only timebase registers and timebases changed. -/
structure Dev.onlyTbs (d e : Dev) : Prop where
  regs : ∀ a, ¬tbReg a → e.reg a = d.reg a
  cr : e.cr = d.cr
  pt : e.pt = d.pt
  pl : e.pl = d.pl
  fl : e.fl = d.fl
  sk : e.sk = d.sk

theorem Dev.onlyTbs.rfl : d.onlyTbs d := ⟨fun _ _ => Eq.refl _, Eq.refl _, Eq.refl _, Eq.refl _, Eq.refl _, Eq.refl _⟩

theorem Dev.onlyTbs.trans (h : d.onlyTbs e) (k : e.onlyTbs f) : d.onlyTbs f where
  regs a ha := (k.regs a ha).trans (h.regs a ha)
  cr := k.cr.trans h.cr
  pt := k.pt.trans h.pt
  pl := k.pl.trans h.pl
  fl := k.fl.trans h.fl
  sk := k.sk.trans h.sk

theorem Dev.onlyTbs_setReg {a : Nat} (ha : tbReg a) (w : Word) : d.onlyTbs (d.setReg a w) :=
  ⟨fun _ hb => Dev.reg_setReg_other _ _ fun h => hb (h ▸ ha), rfl, rfl, rfl, rfl, rfl⟩

theorem Dev.onlyTbs_modTb (j : Nat) (g : Timebase → Timebase) : d.onlyTbs (d.modTb j g) :=
  ⟨fun _ _ => rfl, rfl, rfl, rfl, rfl, rfl⟩

theorem tbCnt_tb (hj : j < 16) : tbReg (Reg.TB_CNT j) := by simp only [tbReg, Reg.TB_CNT]; omega
theorem tbStat_tb (hj : j < 16) : tbReg (Reg.TB_STAT j) := by simp only [tbReg, Reg.TB_STAT]; omega

theorem Dev.onlyTbs_tbApply (hj : j < 16) : d.onlyTbs (d.tbApply j) := by
  unfold Dev.tbApply
  split
  · exact (((Dev.onlyTbs_modTb ..).trans (Dev.onlyTbs_modTb ..)).trans (Dev.onlyTbs_modTb ..)).trans (Dev.onlyTbs_setReg (tbStat_tb hj) _)
  · exact .rfl

/-- The followers' loads move counters alone. -/
theorem Dev.syncLoads_stands (j : Nat) : d.onlyTbs (d.syncLoads j) ∧ ∀ i, i < 16 → (d.syncLoads j).reg (Reg.TB_STAT i) = d.reg (Reg.TB_STAT i) := by
  have hfold : ∀ (xs : List Nat) (e : Dev), (∀ x ∈ xs, x < 16) → d.onlyTbs e ∧ (∀ i, i < 16 → e.reg (Reg.TB_STAT i) = d.reg (Reg.TB_STAT i)) →
      let z := xs.foldl (fun e k =>
        let c := Reg.TB_CTL k
        if e.rbit c 0 && e.rbit c 2 && decide (e.fld c 6 3 = j) && e.tbRuns k then e.loadPhase k else e) e
      d.onlyTbs z ∧ ∀ i, i < 16 → z.reg (Reg.TB_STAT i) = d.reg (Reg.TB_STAT i) := fun xs => by
    induction xs with
    | nil => exact fun _ _ h => h
    | cons x xs ih =>
      intro e hxs ⟨h, hs⟩
      have hx : x < 16 := hxs x List.mem_cons_self
      refine ih _ (fun y hy => hxs y (List.mem_cons_of_mem _ hy)) ?_
      dsimp only
      split
      · refine ⟨h.trans (Dev.onlyTbs_setReg (tbCnt_tb hx) _), fun i hi => ?_⟩
        rw [Dev.loadPhase_eq, Dev.reg_setReg_other _ _ (by simp only [Reg.TB_STAT, Reg.TB_CNT]; omega), hs i hi]
      · exact ⟨h, hs⟩
  exact hfold _ _ (fun x hx => List.mem_range.mp hx) ⟨.rfl, fun _ _ => rfl⟩

theorem Dev.tbApply_settled : (d.tbApply j).rbit (Reg.TB_STAT j) 2 = false := by
  unfold Dev.tbApply
  split
  · rw [Dev.rbit_setRbit _ _ _ _ _ (by decide), if_pos rfl]
  · next h => exact Bool.eq_false_iff.mpr h

theorem Dev.tbAtEvent_only (hj : j < 16) (ev : TbEvent) (pos : Nat) (down : Bool) : d.onlyTbs (d.tbAtEvent j ev pos down) := by
  have hcnt : d.onlyTbs (d.setCnt j pos down) := Dev.onlyTbs_setReg (tbCnt_tb hj) _
  unfold Dev.tbAtEvent
  split
  · exact (hcnt.trans (Dev.onlyTbs_tbApply hj)).trans (Dev.syncLoads_stands j).1
  · exact hcnt

/-- The sets that an event opens are those that named it before. -/
theorem Dev.onlyTbs.opensAt (h : d.onlyTbs e) (p : Fin 18) (w : Fin 4) (tb ev : Nat) : e.opensAt p w tb ev = d.opensAt p w tb ev := by
  have hdef : e.reg (Reg.SPN_SDEF p w) = d.reg (Reg.SPN_SDEF p w) := h.regs _ (spnSdef_not_tb p w p.isLt w.isLt)
  have hstat : e.reg (Reg.SPN_STAT p) = d.reg (Reg.SPN_STAT p) := h.regs _ (by simp only [tbReg, Reg.SPN_STAT]; omega)
  unfold Dev.opensAt Dev.nslot
  rw [Dev.fld_congr hdef, Dev.fld_congr hdef, Dev.fld_congr hdef, Dev.rbit_congr hstat]

theorem Dev.onlyTbs.gv (h : d.onlyTbs e) (c : Core) (q : BitVec 5) : e.gv c q = d.gv c q := by
  unfold Dev.gv
  cases c with
  | spn p => simp only [Dev.spn, h.cr]
  | bob b => simp only [Dev.bob, h.cr]

/-- What an event of a running timebase shows. -/
theorem Dev.tbEvent_shows {j : Fin 16} {ev : TbEvent} {pos : Nat} {down : Bool} (hc : d.clocked = true) (hq : d.quiet)
    (hruns : d.rbit (Reg.TB_STAT j) 1 = true) (hon : d.rbit (Reg.TB_CTL j) 0 = true) (hpos : d.evPos j ev = some (pos, down)) :
    let e := d.tbEvent j ev
    (ev ≠ .zero → e.fld (Reg.TB_CNT j) 23 0 = pos ∧ e.rbit (Reg.TB_CNT j) 24 = down) ∧
    (ev = .zero → e.rbit (Reg.TB_STAT j) 2 = false) ∧
    (∀ (p : Fin 18) (w : Fin 4), d.rbit (Reg.SPN_STAT p) 9 = false → d.nslot p w ≠ 0 →
      d.fld (Reg.SPN_SDEF p w) 8 5 = j.val → d.fld (Reg.SPN_SDEF p w) 10 9 = evCode ev → ((e.spn p).win w).opened = true) ∧
    (∀ c q, e.gv c q = d.gv c q) ∧ e.pt = d.pt ∧ e.pl = d.pl ∧ e.fl = d.fl := by
  have hat := Dev.tbAtEvent_only (d := d) j.isLt ev pos down
  obtain ⟨hheard, hopen⟩ := Dev.eventHeard_shows (d := d.tbAtEvent j ev pos down) (Dev.quiet_of_sk hq hat.sk) j (evCode ev)
  have hwhl := Dev.eventStands_whorlsHear (d := (d.tbAtEvent j ev pos down).eventHeard j (evCode ev)) j ev
  have hall := hheard.trans hwhl
  dsimp only
  rw [Dev.tbEvent_eq hpos hc hruns hon]
  refine ⟨fun hne => ?_, fun hz => ?_, fun p w hret hn htb hev => ?_, fun c q => (hall.gv c q).trans (hat.gv c q),
    hall.pt.trans hat.pt, hall.pl.trans hat.pl, hall.fl.trans hat.fl⟩
  · rw [Dev.fld_congr (hall.regs _ (tbCnt_tb j.isLt)), Dev.rbit_congr (hall.regs _ (tbCnt_tb j.isLt)), Dev.tbAtEvent, if_neg hne,
      Dev.fld_setCnt, Dev.rbit_setCnt]
    exact ⟨Nat.mod_eq_of_lt (Dev.evPos_lt hpos), rfl⟩
  · rw [Dev.rbit_congr (hall.regs _ (tbStat_tb j.isLt)), Dev.tbAtEvent, if_pos hz,
      Dev.rbit_congr ((Dev.syncLoads_stands _).2 _ j.isLt)]
    exact Dev.tbApply_settled
  · refine hwhl.opened p w (hopen p w ((hat.opensAt p w _ _).trans ?_))
    simp [Dev.opensAt, hret, hn, htb, hev]

/-! ### The statement -/

theorem exec_timebaseEnable (j : Fin 16) : exec (.timebaseEnable j) s = s.run fun d => d.tbEnable j := rfl
theorem exec_groupStart (mask : BitVec 16) : exec (.groupStart mask) s = s.run fun d => d.groupStart mask.toNat := rfl
theorem exec_timebaseLiveWrite (j : Fin 16) (r : TbLive) (v : Word) :
    exec (.timebaseLiveWrite j r v) s = s.run fun d => d.tbWrite j r v := rfl
theorem exec_timebaseEvent (j : Fin 16) (ev : TbEvent) : exec (.timebaseEvent j ev) s = s.run fun d => d.tbEvent j ev := rfl

/-- A live write to a trigger position (R246). -/
theorem Dev.tbWrite_trgb (v : Word) : d.tbWrite j .trgb v =
    if d.tbRuns j then (d.setReg (Reg.TB_TRGB j) (v &&& 0x1FFFFFF)).setRbit (Reg.TB_STAT j) 2 true
    else (d.setReg (Reg.TB_TRGB j) (v &&& 0x1FFFFFF)).modTb j fun t => { t with trgb := v &&& 0x1FFFFFF } := rfl

theorem Dev.tbWrite_trga (v : Word) : d.tbWrite j .trga v =
    if d.tbRuns j then (d.setReg (Reg.TB_TRGA j) (v &&& 0x1FFFFFF)).setRbit (Reg.TB_STAT j) 2 true
    else (d.setReg (Reg.TB_TRGA j) (v &&& 0x1FFFFFF)).modTb j fun t => { t with trga := v &&& 0x1FFFFFF } := rfl

/-- Settles O38: each command's equation, and for an event the frame of everything that hears it. -/
theorem timebases : Obligations.Timebases := by
  unfold Obligations.Timebases
  intro j mask v ev s d ctl st cnt hc
  refine ⟨fun h => exec_idle_of_run (exec_timebaseEnable j) ?_, fun hoff hact => ⟨fun hbad => ?_, fun hgood hwait => ?_, fun hgood hwait => ?_⟩,
    ?_, ⟨fun hw => ?_, fun hw hedge => ⟨fun hr => ?_, fun hr => ?_⟩⟩, ⟨fun hr => ⟨?_, ?_⟩, fun hr => ?_⟩, fun h => ?_, fun pos down hq hr hon hpos => ?_⟩
  · exact if_pos (by simpa using h)
  · rw [exec_eq_of_run (exec_timebaseEnable j) hc, Dev.tbEnable_off hoff hact, if_pos hbad]
  · rw [exec_eq_of_run (exec_timebaseEnable j) hc, Dev.tbEnable_off hoff hact, if_neg (Bool.eq_false_iff.mp hgood), if_pos hwait]
  · refine .of_run (exec_timebaseEnable j) hc ?_
    rw [Dev.tbEnable_off hoff hact, if_neg (Bool.eq_false_iff.mp hgood), if_neg (Bool.eq_false_iff.mp hwait)]
    exact Dev.tbEnable_starts hgood
  · refine .of_run (exec_groupStart mask) hc ⟨fun i => ⟨fun hgo => ?_, fun hgo => ?_⟩, Dev.keeps_groupStart _⟩
    · have h := (Dev.groupStart_shows mask i).1 hgo
      exact ⟨h.runs, h.waits, h.pos⟩
    · have h := (Dev.groupStart_shows mask i).2 hgo
      exact ⟨h.regs (Reg.TB_CNT i) (by simp), h.tb⟩
  · exact exec_idle_of_run (exec_timebaseLiveWrite j .per v) (Dev.tbWrite_short hw)
  · rw [exec_eq_of_run (exec_timebaseLiveWrite j .per v) hc, Dev.tbWrite_per hw hedge]
    exact congrArg (fun x => Host.Outcome.next (s.withDev x)) (if_pos hr)
  · rw [exec_eq_of_run (exec_timebaseLiveWrite j .per v) hc, Dev.tbWrite_per hw hedge]
    exact congrArg (fun x => Host.Outcome.next (s.withDev x)) (if_neg (Bool.eq_false_iff.mp hr))
  · rw [exec_eq_of_run (exec_timebaseLiveWrite j .trga v) hc, Dev.tbWrite_trga]
    exact congrArg (fun x => Host.Outcome.next (s.withDev x)) (if_pos hr)
  · rw [exec_eq_of_run (exec_timebaseLiveWrite j .trgb v) hc, Dev.tbWrite_trgb]
    exact congrArg (fun x => Host.Outcome.next (s.withDev x)) (if_pos hr)
  · rw [exec_eq_of_run (exec_timebaseLiveWrite j .trgb v) hc, Dev.tbWrite_trgb]
    exact congrArg (fun x => Host.Outcome.next (s.withDev x)) (if_neg (Bool.eq_false_iff.mp hr))
  · exact exec_idle_of_run (exec_timebaseEvent j ev) (Dev.tbEvent_idle h)
  · exact .of_run (exec_timebaseEvent j ev) hc (Dev.tbEvent_shows hc hq hr hon hpos)

end Sys2Proof.Machine
end

section
/-! One tick with no command waiting (R17, R19): time goes on by one, and nothing of a tick writes the Skein where no draw is raised. -/

namespace Sys2Proof.Machine

variable {d e f : Dev} {s : State} {i : Instr}

/-! ### What leaves time, bytes and draws -/

/-- The bytes of the Skein, the draws raised and the time stand. -/
structure Dev.tickStands (d e : Dev) : Prop where
  mem : e.sk.mem = d.sk.mem
  draws : e.sk.draws = d.sk.draws
  now : e.now = d.now

theorem Dev.tickStands.of_sk (h : e.sk = d.sk) (hn : e.now = d.now) : d.tickStands e := ⟨by rw [h], by rw [h], hn⟩

theorem Dev.tickStands.rfl : d.tickStands d := ⟨Eq.refl _, Eq.refl _, Eq.refl _⟩

theorem Dev.tickStands.trans (h : d.tickStands e) (k : e.tickStands f) : d.tickStands f :=
  ⟨k.mem.trans h.mem, k.draws.trans h.draws, k.now.trans h.now⟩

theorem Dev.tickStands.set (h : d.tickStands e) (a : Nat) (w : Word) : d.tickStands (e.setReg a w) := ⟨h.mem, h.draws, h.now⟩

theorem Dev.tickStands.bit (h : d.tickStands e) (a k : Nat) (b : Bool) : d.tickStands (e.setRbit a k b) := h.set _ _

theorem Dev.tickStands.field (h : d.tickStands e) (a hi lo v : Nat) : d.tickStands (e.setFld a hi lo v) := h.set _ _

theorem Dev.tickStands.raise (h : d.tickStands e) (x i : Nat) : d.tickStands (e.raise x i) :=
  h.trans (.of_sk (Dev.raise_sk ..) (Dev.raise_now ..))

theorem Dev.tickStands.when (h : d.tickStands e) (b : Bool) {g : Dev → Dev} (hg : d.tickStands (g e)) : d.tickStands (e.when b g) := by
  cases b
  · exact h
  · exact hg

theorem Dev.tickStands.foldl {α : Type} {g : Dev → α → Dev} (hg : ∀ (e : Dev) x, e.tickStands (g e x)) (xs : List α) :
    d.tickStands (xs.foldl g d) := by
  induction xs generalizing d with
  | nil => exact .rfl
  | cons x xs ih => exact (hg d x).trans ih

theorem Dev.tickStands.modWhorl (h : d.tickStands e) (n : Nat) (g : Whorl → Whorl) : d.tickStands (e.modWhorl n g) :=
  ⟨h.mem, h.draws, h.now⟩

theorem Dev.tickStands.modEnc (h : d.tickStands e) (n : Nat) (g : Encoder → Encoder) : d.tickStands (e.modEnc n g) :=
  ⟨h.mem, h.draws, h.now⟩

theorem Dev.tickStands.modHall (h : d.tickStands e) (n : Nat) (g : Hall → Hall) : d.tickStands (e.modHall n g) :=
  ⟨h.mem, h.draws, h.now⟩

theorem Dev.tickStands.modSu (h : d.tickStands e) (g : SupplySt → SupplySt) : d.tickStands (e.modSu g) := ⟨h.mem, h.draws, h.now⟩

theorem Dev.tickStands.modLk (h : d.tickStands e) (g : LinkSt → LinkSt) : d.tickStands (e.modLk g) := ⟨h.mem, h.draws, h.now⟩

theorem Dev.tickStands.modSpn (h : d.tickStands e) (p : Nat) (g : Spindle → Spindle) : d.tickStands (e.modSpn p g) :=
  ⟨h.mem, h.draws, h.now⟩

/-! ### The counters and the pins -/

theorem Dev.tickStands_tbTicks : d.tickStands d.tbTicks := by
  refine .foldl (fun e j => ?_) _
  unfold Dev.tbTick
  dsimp only
  split_ifs
  all_goals exact ⟨rfl, rfl, rfl⟩

theorem Dev.tickStands.setOut (h : d.tickStands e) (n : Nat) (x y : Bool) : d.tickStands (e.setOut n x y) := by
  unfold Dev.setOut
  dsimp only
  split
  · exact h
  · exact (h.set _ _).modWhorl ..

theorem Dev.tickStands_tripLook (before : Dev) (n : Nat) : d.tickStands (d.tripLook before n) := by
  rw [Dev.tripLook_eq]
  split_ifs
  · exact Dev.tickStands.rfl.when _ (Dev.tickStands.rfl.set _ _)
  · exact .rfl
  · exact .rfl
  · cases d.tripHit n with
    | none => exact .rfl
    | some b =>
      have hmarked : d.tickStands (d.marked n b) := ((Dev.tickStands.rfl.set _ _).set _ _).modWhorl ..
      exact ((hmarked.modWhorl ..).setOut ..).raise _ _

theorem Dev.tickStands_pinFilter : d.tickStands d.pinFilter := by
  unfold Dev.pinFilter Dev.showPins
  dsimp only
  split
  · exact ⟨rfl, rfl, rfl⟩
  · refine Dev.tickStands.trans ?_ (.foldl (fun e n => Dev.tickStands_tripLook _ n) _)
    exact ⟨rfl, rfl, rfl⟩

theorem Dev.tickStands_encAccept (n : Nat) (a b : Bool) : d.tickStands (d.encAccept n a b) := by
  have hcount : ∀ (x : Dev) (up : Bool), x.tickStands (x.countEdge n up) := fun x up => by
    unfold Dev.countEdge
    dsimp only
    split
    · exact ((Dev.tickStands.rfl.modEnc n _).set _ _).when _ (((Dev.tickStands.rfl.modEnc n _).set _ _).set _ _)
    · exact (Dev.tickStands.rfl.modEnc n _).set _ _
  unfold Dev.encAccept
  dsimp only
  split_ifs
  · exact .rfl
  · exact Dev.tickStands.rfl.modEnc n _
  · exact Dev.tickStands.rfl.modEnc n _
  · exact ((Dev.tickStands.rfl.modEnc n _).set _ _).raise _ _
  · exact (Dev.tickStands.rfl.modEnc n _).trans (hcount _ _)

theorem Dev.tickStands_encZ (n : Nat) (z : Bool) : d.tickStands (d.encZ n z) := by
  unfold Dev.encZ
  dsimp only
  split_ifs
  · have hcopy := (((Dev.tickStands.rfl (d := d)).modEnc n fun x => { x with z := z }).set (Reg.POS_EZCNT n) (d.reg (Reg.POS_ECNT n)))
    exact ((hcopy.set _ _).modEnc n _).when _ (((hcopy.set _ _).modEnc n _).set _ _)
  · exact (Dev.tickStands.rfl.modEnc n _).modEnc n _
  · exact Dev.tickStands.rfl.modEnc n _

theorem Dev.tickStands_encFilter (n : Nat) : d.tickStands (d.encFilter n) := by
  unfold Dev.encFilter
  dsimp only
  split
  · exact (((Dev.tickStands.rfl.modEnc n _).trans (Dev.tickStands_encAccept ..)).modEnc n _).trans (Dev.tickStands_encZ ..)
  · exact (Dev.tickStands.rfl.modEnc n _).trans (Dev.tickStands_encAccept ..)

theorem Dev.tickStands_hallFilter (n : Nat) : d.tickStands (d.hallFilter n) := by
  have haccept : ∀ (x : Dev) (st : Nat), x.tickStands (x.hallAccept n st) := fun x st => by
    unfold Dev.hallAccept
    dsimp only
    split_ifs
    · exact Dev.tickStands.rfl.modHall n _
    · rw [Dev.hallIll]
      exact (((Dev.tickStands.rfl.modHall n _).set _ _).modHall n _).raise _ _
    all_goals exact ⟨rfl, rfl, rfl⟩
  unfold Dev.hallFilter
  dsimp only
  split
  · exact .rfl
  · exact (Dev.tickStands.rfl.modHall n _).trans (haccept _ _)

theorem Dev.tickStands_posTick : d.tickStands d.posTick := by
  have hcpc : ∀ x : Dev, x.tickStands x.cpcFilter := fun x => by
    unfold Dev.cpcFilter
    dsimp only
    split
    · exact ⟨rfl, rfl, rfl⟩
    · exact .rfl
  have hencs : ∀ (xs : SMap Encoder) (x : Dev), x.tickStands (xs.foldl (fun e y => e.encFilter y.1) x) := fun xs x =>
    Dev.tickStands.foldl (g := fun e (y : Nat × Encoder) => e.encFilter y.1) (fun e y => Dev.tickStands_encFilter (d := e) y.1) xs
  have hhalls : ∀ (xs : SMap Hall) (x : Dev), x.tickStands (xs.foldl (fun e y => e.hallFilter y.1) x) := fun xs x =>
    Dev.tickStands.foldl (g := fun e (y : Nat × Hall) => e.hallFilter y.1) (fun e y => Dev.tickStands_hallFilter (d := e) y.1) xs
  have hfirst := hencs d.ps.encs d
  unfold Dev.posTick
  dsimp only
  generalize d.ps.encs.foldl (fun d e => d.encFilter e.1) d = x at hfirst ⊢
  have hsecond := hhalls d.ps.halls x
  generalize d.ps.halls.foldl (fun d h => d.hallFilter h.1) x = y at hsecond ⊢
  exact (hfirst.trans hsecond).trans (hcpc y)

/-! ### The Snarl, the governor and the records -/

theorem Dev.tickStands_oneEvent (x : SrcInst) : d.tickStands (d.oneEvent x) := by
  have hreel : ∀ (y : Dev) (n : Nat), y.tickStands (y.reelSnarl n) := fun y n => .foldl (fun e k => by
    split
    · exact ⟨rfl, rfl, rfl⟩
    · exact .rfl) _
  have hflt : ∀ y : Dev, y.tickStands y.fltEvent := fun y => ⟨rfl, rfl, rfl⟩
  have hannounce : ∀ y : Dev, y.tickStands (y.announce x) := fun y => by
    have hshown := (Dev.tickStands.rfl (d := y)).when (bitOf (y.scfg x.src.toNat) 14) (hflt y)
    exact (hshown.when _ (hshown.set _ _)).trans (hreel _ _)
  have hdue : ∀ (y : Dev) (c : Nat) (b : Bool), y.tickStands (y.reactDue x c b) := fun y c b => by
    unfold Dev.reactDue
    split
    · exact .rfl
    · refine Dev.tickStands.when ?_ _ ?_
      · exact ⟨rfl, rfl, rfl⟩
      · exact ⟨rfl, rfl, rfl⟩
  have hcount : d.tickStands (d.setSnlCnt (cntKey x) (d.countEvent x).1) := ⟨rfl, rfl, rfl⟩
  unfold Dev.oneEvent
  dsimp only
  exact (hcount.trans (hannounce _)).trans (hdue _ _ _)

theorem Dev.tickStands_snarlCycle (evs : List SrcInst) : d.tickStands (d.snarlCycle evs) := by
  have hmask : ∀ (y : Dev) (es : List SrcInst), y.tickStands (y.masks es) := fun y es =>
    (Dev.tickStands.foldl (fun e x => (Dev.tickStands.rfl.set _ _).when _ ((Dev.tickStands.rfl.set _ _).set _ _)) es).set _ _
  have hevents := (hmask { d with reports := [], sn := { d.sn with high := evs } }
    (((d.reports ++ evs).eraseDups.filter srcOk).filter fun x => x ∉ d.sn.high)).trans
      (.foldl (fun _ x => Dev.tickStands_oneEvent x) (((d.reports ++ evs).eraseDups.filter srcOk).filter fun x => x ∉ d.sn.high))
  exact ⟨hevents.mem, hevents.draws, hevents.now⟩

theorem Dev.tickStands_bobTick : d.tickStands d.bobTick := by
  have hsample : ∀ x : Dev, x.tickStands x.snarlSample := fun x => by
    unfold Dev.snarlSample
    split
    · exact .rfl
    · exact Dev.tickStands_snarlCycle _
  unfold Dev.bobTick
  dsimp only
  split
  · refine Dev.tickStands.trans (Dev.tickStands.trans ?_ (.foldl (fun e b => ?_) _)) (hsample _)
    · exact ⟨rfl, rfl, rfl⟩
    · exact ⟨rfl, rfl, rfl⟩
  · exact ⟨rfl, rfl, rfl⟩

theorem Dev.tickStands_govTick : d.tickStands d.govTick := by
  unfold Dev.govTick
  split_ifs
  · exact .rfl
  · exact ⟨rfl, rfl, rfl⟩
  · exact ⟨rfl, rfl, rfl⟩

theorem Dev.tickStands_wearTick : d.tickStands d.wearTick := by
  unfold Dev.wearTick
  dsimp only
  split
  · split
    · exact ⟨rfl, rfl, rfl⟩
    · refine Dev.tickStands.when ?_ _ ?_
      · exact ⟨rfl, rfl, rfl⟩
      · exact ⟨rfl, rfl, rfl⟩
  · exact .rfl

theorem Dev.tickStands_runLate : d.tickStands d.runLate := by
  unfold Dev.runLate
  split
  · rw [Dev.reqRefuse]
    exact (((Dev.tickStands.rfl.bit _ _ _).modSu _).bit _ _ _).field _ _ _ _
  · exact .rfl

theorem Dev.tickStands_timeTick : d.tickStands d.timeTick := by
  unfold Dev.timeTick Dev.addNs
  exact (Dev.tickStands.rfl.modLk _).modLk _

end Sys2Proof.Machine
end

section
/-! What a tick's traffic leaves, and the commands of what the PLL clocks (R19). -/

namespace Sys2Proof.Machine

variable {d e f : Dev} {s : State} {i : Instr}

/-! ### The trap of a recovery -/

theorem Dev.tickStands_stopEntry (p : Nat) : d.tickStands (d.stopEntry p) := ⟨rfl, rfl, rfl⟩

theorem Dev.tickStands_injTargetGone (p l : Nat) : d.tickStands (d.injTargetGone p l) := by
  unfold Dev.injTargetGone Dev.injAbort
  split
  · split
    · exact ⟨rfl, rfl, rfl⟩
    · exact .rfl
  · exact .rfl

theorem Dev.tickStands_spnTrap (p l c : Nat) (pc ea : Word) (imp : Bool) : d.tickStands (d.spnTrap p l c pc ea imp) := by
  have hstop : d.tickStands ((d.when (decide ((d.spn p).slot = some l)) fun d => d.stopEntry p).setRbit (Reg.SPN_LSTAT p l) 6 true) :=
    (Dev.tickStands.rfl.when _ (Dev.tickStands_stopEntry p)).bit _ _ _
  unfold Dev.spnTrap
  dsimp only
  generalize (d.when (decide ((d.spn p).slot = some l)) fun d => d.stopEntry p).setRbit (Reg.SPN_LSTAT p l) 6 true = x at hstop ⊢
  split
  · exact ((hstop.bit _ _ _).raise _ _).trans (Dev.tickStands_injTargetGone p l)
  · exact ((((hstop.set _ _).set _ _).set _ _).raise _ _).trans (Dev.tickStands_injTargetGone p l)

theorem Dev.tickStands_noteSpnLb (p : Nat) (b : Bool) : d.tickStands (d.noteSpnLb p b) := by
  unfold Dev.noteSpnLb
  split
  · exact Dev.tickStands.rfl.modSpn p _
  · exact .rfl

/-! ### The Skein's cycles and the reads held back -/

/-- The device one tick later. -/
def Dev.later (d : Dev) : Dev := { d with now := d.now + 1 }

theorem Dev.tick_clocked (hc : d.later.clocked = true) : d.tick =
    ((((((((((d.later.tbTicks).pinFilter).posTick).bobTick).govTick).wearTick).sknTick).linkResume).spnResume).runLate).when
      (decide (d.later.now % 4 = 0)) Dev.timeTick := if_pos hc

theorem Dev.tick_stopped (h : d.clocked = false) : d.tick = d.later := if_neg (Bool.eq_false_iff.mp h)

section

variable {ok : Draw → Prop} {R : Dev → Dev → Prop}

/-- A relation that the Flyer's traffic keeps and that looks at no more than bytes, draws and time. -/
structure TickRules (ok : Draw → Prop) (R : Dev → Dev → Prop) : Prop extends Traffic (fun _ => True) ok R where
  stands : ∀ {d e : Dev}, d.tickStands e → R d e

/-- A device after traffic of such draws. -/
abbrev Dev.ticks (ok : Draw → Prop) (R : Dev → Dev → Prop) (d e : Dev) : Prop := d.moves (fun _ => True) ok R e

variable (T : TickRules ok R)

include T

theorem TickRules.of_stands (h : d.tickStands e) : d.ticks ok R e := T.moves_of_draws (T.stands h) h.draws

theorem TickRules.trans' (h : d.ticks ok R e) (k : e.ticks ok R f) : d.ticks ok R f := T.moves_trans h k

theorem TickRules.sknCycle : d.ticks ok R d.sknCycle := by
  refine T.moves_trans (T.moves_foldl (fun e b => ?_) _ _) (T.moves_prefetchAfter _)
  unfold Dev.bankCycle
  split
  · exact T.moves_copyBeat
  · exact T.moves_drawBeat trivial

theorem TickRules.sknTick : d.ticks ok R d.sknTick := by
  unfold Dev.sknTick
  dsimp only
  split
  · exact T.moves_refl
  · refine T.moves_trans (T.of_stands ?_) (T.moves_foldl (fun e _ => T.sknCycle (d := e)) _ _)
    exact ⟨rfl, rfl, rfl⟩

theorem TickRules.readDescN (l n : Nat) : d.ticks ok R (d.readDescN l n) := by
  have hstop : ∀ x : Dev, x.ticks ok R (x.stopReading l) := fun x => T.of_stands ⟨rfl, rfl, rfl⟩
  induction n generalizing d with
  | zero => exact hstop d
  | succ n ih =>
    have hload : d.ticks ok R (d.load (reqLink l) 3 (d.descAddr l) 16).1 := T.moves_load
    unfold Dev.readDescN
    dsimp only
    split
    · exact hstop d
    · generalize d.load (reqLink l) 3 (d.descAddr l) 16 = r at hload ⊢
      split
      · split
        · exact T.moves_trans hload (T.of_stands ⟨rfl, rfl, rfl⟩)
        · split
          · refine T.moves_trans (T.moves_trans hload (T.of_stands ?_)) (ih (d := r.1.modLink l fun x => { x with kick := false }))
            exact ⟨rfl, rfl, rfl⟩
          · exact T.moves_trans hload (hstop _)
      · exact T.moves_trans hload (T.of_stands ⟨rfl, rfl, rfl⟩)
      · exact T.moves_trans (T.moves_trans hload (hstop _)) (T.of_stands (Dev.tickStands.rfl.raise _ _))
      · exact T.moves_trans hload (hstop _)

theorem TickRules.linkResume : d.ticks ok R d.linkResume := by
  refine T.moves_foldl (fun e x => ?_) _ _
  split
  · exact T.readDescN _ _
  · exact T.moves_refl

theorem TickRules.restoreCtx (p l : Nat) : d.ticks ok R (d.restoreCtx p l).1 := by
  have hload : d.ticks ok R (d.load (reqSpn p) 1 (d.hank (d.fld (Reg.SPN_LHANK p l) 7 0)).start 128).1 := T.moves_load
  unfold Dev.restoreCtx
  dsimp only
  generalize d.load (reqSpn p) 1 (d.hank (d.fld (Reg.SPN_LHANK p l) 7 0)).start 128 = r at hload ⊢
  split
  · exact T.moves_trans hload (T.of_stands ⟨rfl, rfl, rfl⟩)
  · exact hload

theorem TickRules.recoverRead (p l : Nat) : d.ticks ok R (d.recoverRead p l) := by
  have hctx : d.ticks ok R (d.restoreCtx p l).1 := T.restoreCtx p l
  unfold Dev.recoverRead
  dsimp only
  generalize d.restoreCtx p l = r at hctx ⊢
  split
  · exact T.moves_trans hctx (T.of_stands ((Dev.tickStands.rfl.modSpn p _).trans (Dev.tickStands_spnTrap ..)))
  · exact T.moves_trans hctx (T.of_stands (Dev.tickStands.rfl.modSpn p _))
  · refine T.moves_trans hctx (T.of_stands (Dev.tickStands.trans ?_ (Dev.tickStands_noteSpnLb ..)))
    exact ⟨rfl, rfl, rfl⟩

theorem TickRules.spnResume : d.ticks ok R d.spnResume := by
  refine T.moves_foldl (fun e x => ?_) _ _
  split
  · split
    · exact T.recoverRead _ _
    · exact T.moves_refl
  · exact T.moves_refl

/-- A tick of the clocked logic. -/
theorem TickRules.tick (hc : d.later.clocked = true) : d.later.ticks ok R d.tick := by
  rw [Dev.tick_clocked hc]
  generalize d.later = x
  have hcounters : x.tickStands ((((x.tbTicks.pinFilter.posTick.bobTick.govTick).wearTick))) :=
    ((((Dev.tickStands_tbTicks.trans Dev.tickStands_pinFilter).trans Dev.tickStands_posTick).trans
      Dev.tickStands_bobTick).trans Dev.tickStands_govTick).trans Dev.tickStands_wearTick
  refine T.moves_trans (T.moves_trans (T.moves_trans (T.moves_trans (T.of_stands hcounters) T.sknTick) T.linkResume) T.spnResume) ?_
  exact T.of_stands (Dev.tickStands_runLate.when _ (Dev.tickStands_runLate.trans Dev.tickStands_timeTick))

end

/-! ### Time and bytes -/

theorem endRules_now : EndRules fun d e => e.now = d.now where
  refl _ := rfl
  trans h k := k.trans h
  core _ _ := by rfl
  whorl _ _ _ := by rfl
  tuning _ _ := by rfl
  link _ _ _ := by rfl
  stat _ _ _ := by rfl
  count _ _ _ := by rfl
  raise _ _ _ := Dev.raise_now ..

/-- No traffic moves the time. -/
theorem tickRules_now : TickRules (fun _ => True) fun d e => e.now = d.now where
  banks _ _ := trivial
  refl := endRules_now.refl
  trans := endRules_now.trans
  step h := h.now
  draws _ _ _ := by rfl
  hank _ _ _ _ _ _ := by rfl
  lost _ _ _ _ _ _ := by rfl
  bytes d _ a bs _ _ _ := by
    obtain ⟨m, hm⟩ := Dev.setBytes_eq (d := d) (bs := bs) a
    rw [hm]
    rfl
  tag d _ st data got _ := endRules_now.tagEnd _ st data got fun _ _ _ => by rfl
  moved _ _ := trivial
  fetch _ _ _ _ _ := trivial
  stands h := h.now

/-- Reads move no byte. -/
theorem tickRules_mem : TickRules (fun x => x.write = false) fun d e => e.sk.mem = d.sk.mem where
  banks _ _ := trivial
  refl _ := rfl
  trans h k := k.trans h
  step h := h.mem
  draws _ _ _ := by rfl
  hank _ _ _ _ _ _ := by rfl
  lost _ _ _ _ _ _ := by rfl
  bytes _ x _ _ hx hw _ := absurd hw (by rw [hx]; decide)
  tag d x st data got _ := by rw [Dev.sk_tagEnd]
  moved hx hl := by rwa [hl.write]
  fetch _ _ _ _ _ := by rfl
  stands h := h.mem

theorem Dev.tick_now : d.tick.now = d.now + 1 := by
  cases hc : d.clocked with
  | false => rw [Dev.tick_stopped hc]; rfl
  | true => exact (tickRules_now.tick (d := d) hc (Dev.drawsOk_of_all fun _ => trivial)).1

theorem Dev.tick_sameMem (hq : d.quiet) : d.sameMem d.tick := by
  have hmem : d.tick.sk.mem = d.sk.mem := by
    cases hc : d.clocked with
    | false => rw [Dev.tick_stopped hc]; rfl
    | true => exact (tickRules_mem.tick (d := d) hc (Dev.drawsOk_of_quiet hq fun _ _ _ => rfl)).1
  exact fun a => by rw [Dev.byte, hmem, Dev.byte]

/-! ### Commands of what the PLL clocks (R19) -/

/-- The outcome of a clocked command while the PLL does not run. -/
theorem next_stopped (h : s.dev.clocked = false) (x : Dev) :
    Host.Outcome.next (s.withDev (if s.dev.clocked = true then x else s.dev)) = (.next s : Host.Outcome State Fault Refusal) := by
  rw [if_neg (Bool.eq_false_iff.mp h), State.withDev]

/-- Every such command acts through `State.run` alone. -/
theorem exec_stopped (hi : needsPll i = true) (hw : i.wf = true) (h : s.dev.clocked = false) : exec i s = .next s := by
  cases i
  case drawRequest x =>
    exact exec_stays_stopped ((exec_drawRequest x s).trans (if_pos hw)) h
  all_goals first
    | exact absurd hi Bool.false_ne_true
    | exact next_stopped h _

/-- Settles O2: a tick's pieces keep the time, and with reads alone in the banks the bytes; a clocked command acts through `run`. -/
theorem emptyQueueLetsATickPass : Obligations.EmptyQueueLetsATickPass := by
  refine ⟨fun d => ⟨({ dev := d, pending := [] } : State).withDev d.tick, rfl, rfl, Dev.tick_now, Dev.tick_sameMem, fun h0 h1 => ?_⟩,
    fun i s hi hw hc => exec_stopped hi hw hc⟩
  have hstop : d.clocked = false := by rw [Dev.clocked, h0, h1]; rfl
  exact Dev.tick_stopped hstop

end Sys2Proof.Machine
end

section
/-! What a function's sequencer may change (R336 to R343): its own state, the duty slots of its ports, and little else. -/

namespace Sys2Proof.Machine

variable {d e g : Dev} {s : State} {x : FnEntry} {n : Nat}

/-! ### Traffic leaves the functions -/

theorem endRules_samePl : EndRules fun d e => e.pl = d.pl where
  refl _ := rfl
  trans h k := k.trans h
  core _ _ := by rfl
  whorl _ _ _ := by rfl
  tuning _ _ := by rfl
  link _ _ _ := by rfl
  stat _ _ _ := by rfl
  count _ _ _ := by rfl
  raise _ _ _ := Dev.raise_pl ..

theorem traffic_samePl : Traffic (fun _ => True) (fun _ => True) fun d e => e.pl = d.pl where
  banks _ _ := trivial
  refl := endRules_samePl.refl
  trans := endRules_samePl.trans
  step h := h.pl
  draws _ _ _ := by rfl
  hank _ _ _ _ _ _ := by rfl
  lost _ _ _ _ _ _ := by rfl
  bytes d _ a bs _ _ _ := by
    obtain ⟨m, hm⟩ := Dev.setBytes_eq (d := d) (bs := bs) a
    rw [hm]
    rfl
  tag d _ st data got _ := endRules_samePl.tagEnd _ st data got fun _ _ _ => by rfl
  moved _ _ := trivial
  fetch _ _ _ _ _ := trivial

theorem Dev.pl_postStore (req cls : Nat) (loop : Option Nat) (a : Nat) (bs : List Byte) (gaps : List Nat) (entry : Bool)
    (tag : DrawTag) : (d.postStore req cls loop a bs gaps entry tag).1.pl = d.pl :=
  (traffic_samePl.moves_postStore trivial (Dev.drawsOk_of_all fun _ => trivial)).1

theorem Dev.pl_load (req cls a n : Nat) : (d.load req cls a n).1.pl = d.pl :=
  (traffic_samePl.moves_load (Dev.drawsOk_of_all fun _ => trivial)).1

/-! ### The scope of a sequencer -/

/-- A function, its period counter where it is to stand, and what its sequencer may change besides its state: registers, holds
of ports, bytes. -/
structure SeqScope where
  f : Nat
  pcnt : Option Nat
  regs : Nat → Prop
  ports : Nat → Prop
  bytes : Nat → Prop

/-- What a sequencer leaves outside its scope. -/
structure Dev.seqNear (c : SeqScope) (d e : Dev) : Prop where
  others : ∀ i, i ≠ c.f → e.fn i = d.fn i
  ports : ∀ n, (∃ b, e.port n = { d.port n with linkHold := b }) ∧ (¬c.ports n → e.port n = d.port n)
  pt : (∀ n, ¬c.ports n) → e.pt = d.pt
  regs : ∀ a, a < 0x37000000 ∨ 0x37001000 ≤ a → ¬c.regs a → e.reg a = d.reg a
  bytes : ∀ a, ¬c.bytes a → e.byte a = d.byte a
  hanks : ∀ i, (e.hank i).start = (d.hank i).start

variable {c : SeqScope}

theorem Dev.seqNear.of_parts (hpl : ∀ i, i ≠ c.f → e.fn i = d.fn i) (hpt : e.pt = d.pt)
    (hregs : ∀ a, a < 0x37000000 ∨ 0x37001000 ≤ a → ¬c.regs a → e.reg a = d.reg a)
    (hbytes : ∀ a, ¬c.bytes a → e.byte a = d.byte a) (hhanks : ∀ i, (e.hank i).start = (d.hank i).start) : d.seqNear c e where
  others := hpl
  ports n := ⟨⟨(d.port n).linkHold, by rw [Dev.port, hpt, Dev.port]⟩, fun _ => by rw [Dev.port, hpt, Dev.port]⟩
  pt _ := hpt
  regs := hregs
  bytes := hbytes
  hanks := hhanks

theorem Dev.seqNear.rfl : d.seqNear c d :=
  .of_parts (fun _ _ => Eq.refl _) (Eq.refl _) (fun _ _ _ => Eq.refl _) (fun _ _ => Eq.refl _) fun _ => Eq.refl _

theorem Dev.seqNear.trans (h : d.seqNear c e) (k : e.seqNear c g) : d.seqNear c g where
  others i hi := (k.others i hi).trans (h.others i hi)
  ports n := by
    obtain ⟨⟨b, hb⟩, hsame⟩ := h.ports n
    obtain ⟨⟨b', hb'⟩, hsame'⟩ := k.ports n
    exact ⟨⟨b', by rw [hb', hb]⟩, fun hn => (hsame' hn).trans (hsame hn)⟩
  pt hn := (k.pt hn).trans (h.pt hn)
  regs a ha hc := (k.regs a ha hc).trans (h.regs a ha hc)
  bytes a ha := (k.bytes a ha).trans (h.bytes a ha)
  hanks i := (k.hanks i).trans (h.hanks i)

/-- A draw that writes within the scope and at its end sets no register. -/
structure seqDraw (c : SeqScope) (y : Draw) : Prop where
  plain : plainDraw y
  address : y.hank = none
  within : y.write = true → ∀ z, y.start ≤ z → z < y.start + y.len → c.bytes z

theorem skReg_outside {a b : Nat} (ha : a < 0x37000000 ∨ 0x37001000 ≤ a) (hb : b ∈ noteRegs) : a ≠ b := by
  revert hb
  simp only [noteRegs, Reg.SKN_STAT, Reg.SKN_CECNT, Reg.SKN_UEADDR, Reg.SKN_RBPROG, List.mem_cons, List.not_mem_nil, or_false]
  omega

theorem traffic_seqNear : Traffic (fun _ => True) (seqDraw c) (Dev.seqNear c) where
  banks _ _ := trivial
  refl _ := .rfl
  trans := .trans
  step h := .of_parts (fun i _ => by rw [Dev.fn, h.pl, Dev.fn]) h.pt (fun a ha _ => h.noted a fun hm => skReg_outside ha hm rfl)
    (fun a _ => by rw [Dev.byte, h.mem, Dev.byte]) fun i => by rw [Dev.hank, h.hanks, Dev.hank]
  draws _ _ _ := .of_parts (fun _ _ => rfl) rfl (fun _ _ _ => rfl) (fun _ _ => rfl) fun _ => rfl
  hank _ _ _ _ hx hh := absurd (hx.address.symm.trans hh) nofun
  lost _ _ _ hx hh _ := absurd (hx.address.symm.trans hh) nofun
  bytes d y a bs hy hw hin := by
    have hother : ∀ z, ¬c.bytes z → (d.setBytes a bs).byte z = d.byte z := fun z hz => by
      rw [Dev.byte_setBytes, if_neg]
      rintro ⟨hlo, hhi⟩
      obtain ⟨h1, h2⟩ := hin hy.address z hlo hhi
      exact hz (hy.within hw z h1 h2)
    obtain ⟨m, hm⟩ := Dev.setBytes_eq (d := d) (bs := bs) a
    rw [hm] at hother ⊢
    exact .of_parts (fun _ _ => rfl) rfl (fun _ _ _ => rfl) hother fun _ => rfl
  tag d y st data got hy := by
    rcases hy.plain with hx | ⟨n, hx⟩ <;> rw [hx] <;>
      exact .of_parts (fun _ _ => rfl) rfl (fun _ _ _ => rfl) (fun _ _ => rfl) fun _ => rfl
  moved hx hl := ⟨by rw [plainDraw, hl.tag]; exact hx.plain, by rw [hl.hank]; exact hx.address,
    fun hw z => by
      rw [hl.start hx.address, hl.len]
      exact hx.within (by rwa [hl.write] at hw) z⟩
  fetch _ _ _ _ _ := ⟨.inr ⟨_, rfl⟩, rfl, nofun⟩

/-! ### Work of a sequencer in its scope -/

/-- The first byte of the duty slot of a port's Whorl. -/
def Dev.slotAddr (d : Dev) (n : Nat) : Nat := d.fld (Reg.WHL_SLOT n) 23 4 * 16

/-- A device whose function's sequencer can stay in its scope. -/
structure Dev.seqOk (c : SeqScope) (x : FnEntry) (d : Dev) : Prop where
  draws : d.drawsOk (fun _ => True) (seqDraw c)
  entry : d.fnEntry c.f = some x
  count : ∀ n, c.pcnt = some n → (d.fn c.f).pcnt = n
  apart : ∀ n < 64, ¬c.regs (Reg.WHL_SLOT n)
  slots : ∀ n ∈ portsOf x, ∀ y, d.slotAddr n ≤ y → y < d.slotAddr n + 16 → c.bytes y
  land : ∀ k, (d.fn c.f).desc = some k → k.land = none ∨ (k.kind ≠ .grid ∧ k.kind ≠ .bridge) ∨ ∀ y, c.bytes y

/-- Work that stays in the scope. -/
def Dev.seqs (c : SeqScope) (x : FnEntry) (d e : Dev) : Prop := d.seqOk c x → d.seqNear c e ∧ e.seqOk c x

theorem Dev.seqs.rfl : d.seqs c x d := fun h => ⟨.rfl, h⟩

theorem Dev.seqs.trans (h : d.seqs c x e) (k : e.seqs c x g) : d.seqs c x g := fun hd =>
  ⟨(h hd).1.trans (k (h hd).2).1, (k (h hd).2).2⟩

theorem mem_portsOf_lt (h : n ∈ portsOf x) : n < 64 := List.mem_range.mp (List.mem_of_mem_filter h)

theorem Dev.seqNear.slotAddr (h : d.seqNear c e) (hn : n < 64) (ha : ¬c.regs (Reg.WHL_SLOT n)) : e.slotAddr n = d.slotAddr n := by
  have hreg : e.reg (Reg.WHL_SLOT n) = d.reg (Reg.WHL_SLOT n) := h.regs _ (by simp only [Reg.WHL_SLOT]; omega) ha
  rw [Dev.slotAddr, Dev.fld_congr hreg, Dev.slotAddr]

/-- What stays in the scope and keeps the function's entry and the kind of its description. -/
theorem Dev.seqs.of_near (h : d.seqOk c x → d.seqNear c e) (hdraws : d.seqOk c x → e.drawsOk (fun _ => True) (seqDraw c))
    (hentry : (e.fn c.f).entry = (d.fn c.f).entry)
    (hcount : ∀ n, c.pcnt = some n → (d.fn c.f).pcnt = n → (e.fn c.f).pcnt = n)
    (hdesc : ∀ k, (e.fn c.f).desc = some k → ∃ k', (d.fn c.f).desc = some k' ∧ k'.land = k.land ∧ k'.kind = k.kind) :
    d.seqs c x e := fun hd => by
  refine ⟨h hd, hdraws hd, ?_, fun n hn => hcount n hn (hd.count n hn), hd.apart, fun n hn y => ?_, fun k hk => ?_⟩
  · rw [Dev.fnEntry, hentry]
    exact hd.entry
  · rw [(h hd).slotAddr (mem_portsOf_lt hn) (hd.apart n (mem_portsOf_lt hn))]
    exact hd.slots n hn y
  · obtain ⟨k', hk', hland, hkind⟩ := hdesc k hk
    rw [← hland, ← hkind]
    exact hd.land k' hk'

/-- Traffic of the sequencer. -/
theorem Dev.seqs.of_moves (h : d.seqOk c x → d.moves (fun _ => True) (seqDraw c) (Dev.seqNear c) e) (hpl : e.pl = d.pl) : d.seqs c x e := by
  have hfn : e.fn c.f = d.fn c.f := by rw [Dev.fn, hpl, Dev.fn]
  refine .of_near (fun hd => (h hd hd.draws).1) (fun hd => (h hd hd.draws).2) (by rw [hfn])
    (fun n _ hn => by rw [hfn, hn]) fun k hk => ⟨k, ?_, Eq.refl _, Eq.refl _⟩
  rwa [hfn] at hk

/-- An update of parts that no draw and no function is among. -/
theorem Dev.seqs.of_stands (h : d.seqNear c e) (hdraws : e.sk.draws = d.sk.draws) (hpl : e.pl = d.pl) : d.seqs c x e :=
  .of_moves (fun _ => traffic_seqNear.moves_of_draws h hdraws) hpl

theorem Dev.fn_modFn (f : Nat) (h : Fn → Fn) (i : Nat) : (d.modFn f h).fn i = if i = f then h (d.fn f) else d.fn i :=
  Dev.fn_setFn ..

theorem Dev.fn_modFn_same (f : Nat) (h : Fn → Fn) : (d.modFn f h).fn f = h (d.fn f) := Dev.fn_setFn_same ..

theorem Dev.seqNear_modFn (h : Fn → Fn) : d.seqNear c (d.modFn c.f h) :=
  .of_parts (fun i hi => by rw [Dev.fn_modFn, if_neg hi]) (by rfl) (fun _ _ _ => by rfl) (fun _ _ => by rfl) fun _ => by rfl

theorem Dev.seqs.modFn_desc (h : Fn → Fn) (hentry : (h (d.fn c.f)).entry = (d.fn c.f).entry)
    (hcount : ∀ n, c.pcnt = some n → (h (d.fn c.f)).pcnt = (d.fn c.f).pcnt)
    (hdesc : ∀ k, (h (d.fn c.f)).desc = some k → ∃ k', (d.fn c.f).desc = some k' ∧ k'.land = k.land ∧ k'.kind = k.kind) :
    d.seqs c x (d.modFn c.f h) := by
  refine .of_near (fun _ => Dev.seqNear_modFn h) (fun hd => (traffic_seqNear.moves_of_draws (Dev.seqNear_modFn h) (Eq.refl _) hd.draws).2) ?_
    (fun n hn hd => ?_) fun k hk => ?_
  · rw [Dev.fn_modFn_same]
    exact hentry
  · rw [Dev.fn_modFn_same, hcount n hn, hd]
  · rw [Dev.fn_modFn_same] at hk
    exact hdesc k hk

/-- A change of the function's state that keeps its entry, its description and its period counter. -/
theorem Dev.seqs.modFn (h : Fn → Fn) (hk : ∀ y, (h y).entry = y.entry ∧ (h y).desc = y.desc ∧ (h y).pcnt = y.pcnt) :
    d.seqs c x (d.modFn c.f h) := by
  obtain ⟨hentry, hdesc, hcount⟩ := hk (d.fn c.f)
  exact .modFn_desc h hentry (fun _ _ => hcount) fun k hd => ⟨k, by rw [← hdesc]; exact hd, Eq.refl _, Eq.refl _⟩

theorem Dev.seqs.modCtr (h : FnCtr → FnCtr) : d.seqs c x (d.modCtr c.f h) := .modFn _ fun _ => ⟨Eq.refl _, Eq.refl _, Eq.refl _⟩

theorem Dev.fn_modCtr (f : Nat) (h : FnCtr → FnCtr) : (d.modCtr f h).fn f = (d.fn f).modC h := Dev.fn_modFn_same ..

theorem Dev.seqs.foldl {α : Type} {g : Dev → α → Dev} {ys : List α} (hg : ∀ y ∈ ys, ∀ e : Dev, e.seqs c x (g e y)) (d : Dev) :
    d.seqs c x (ys.foldl g d) := by
  induction ys generalizing d with
  | nil => exact .rfl
  | cons y ys ih => exact (hg y List.mem_cons_self d).trans (ih (fun z hz => hg z (List.mem_cons_of_mem _ hz)) _)

theorem Dev.seqs.when (h : d.seqs c x e) (b : Bool) {h' : Dev → Dev} (hh : e.seqs c x (h' e)) : d.seqs c x (e.when b h') := by
  cases b
  · exact h
  · exact h.trans hh

/-! ### Stores, loads and images -/

/-- A store within the scope. -/
theorem Dev.seqs.postStore (req cls a : Nat) (bs : List Byte) (hin : d.seqOk c x → ∀ z, a ≤ z → z < a + bs.length → c.bytes z) :
    d.seqs c x (d.postStore req cls none a bs [] false .plain).1 :=
  .of_moves (fun hd => traffic_seqNear.moves_postStore ⟨.inl (Eq.refl _), Eq.refl _, fun _ => hin hd⟩) (Dev.pl_postStore ..)

theorem Dev.seqs.load (req cls a n : Nat) : d.seqs c x (d.load req cls a n).1 :=
  .of_moves (fun _ => traffic_seqNear.moves_load) (Dev.pl_load ..)

theorem length_bytesOfWords (ws : List Word) : (ws.flatMap bytesOfWord).length = 4 * ws.length := by
  induction ws with
  | nil => rfl
  | cons w ws ih => simp only [List.flatMap_cons, List.length_append, ih, List.length_cons, bytesOfWord, List.length_nil]; omega

/-- An image of four words in the slot of one of the function's ports. -/
theorem Dev.seqs.putWords (e : FnEntry) {n : Nat} (hn : n ∈ portsOf x) {ws : Word → List Word} (hw : ∀ w, (ws w).length = 4) :
    d.seqs c x (d.putWords e n ws) := by
  refine .postStore _ _ _ _ fun hd z hlo hhi => ?_
  rw [length_bytesOfWords, hw] at hhi
  exact hd.slots n hn z hlo hhi

theorem Dev.pl_putWords (e : FnEntry) (n : Nat) (ws : Word → List Word) : (d.putWords e n ws).pl = d.pl := Dev.pl_postStore ..

theorem Dev.seqs.putImage (e : FnEntry) (st : Nat) {n : Nat} (hn : n ∈ portsOf x) : d.seqs c x (d.putImage e st n) :=
  .putWords e hn fun _ => Eq.refl _

theorem Dev.pl_putImage (e : FnEntry) (st n : Nat) : (d.putImage e st n).pl = d.pl := Dev.pl_postStore ..

theorem Dev.pl_putImages (e : FnEntry) (st : Nat) (ns : List Nat) : (ns.foldl (fun d n => d.putImage e st n) d).pl = d.pl :=
  Dev.foldl_stands Dev.pl (fun _ _ => Dev.pl_putImage ..) _ _

/-! ### The legs (R336, R340) -/

theorem Dev.fnLegs_eq {f : Nat} (h : d.fnEntry f = some x) (st : Nat) :
    d.fnLegs f st = ((portsOf x).foldl (fun d n => d.putImage x st n) d).modFn f fun y => y.setFlag 17 (decide (st = 1)) := by
  rw [Dev.fnLegs, h]

/-- The state of the function after its legs are put somewhere. -/
theorem Dev.fn_fnLegs {f : Nat} (h : d.fnEntry f = some x) (st : Nat) :
    (d.fnLegs f st).fn f = (d.fn f).setFlag 17 (decide (st = 1)) := by
  rw [Dev.fnLegs_eq h, Dev.fn_modFn_same, Dev.fn, Dev.pl_putImages, Dev.fn]

theorem Dev.seqs.fnLegs (st : Nat) : d.seqs c x (d.fnLegs c.f st) := fun hd => by
  have hlegs : d.seqs c x (((portsOf x).foldl (fun d n => d.putImage x st n) d).modFn c.f fun y => y.setFlag 17 (decide (st = 1))) :=
    (Dev.seqs.foldl (fun n hn e => .putImage x st hn) d).trans (.modFn _ fun _ => ⟨Eq.refl _, Eq.refl _, Eq.refl _⟩)
  rw [Dev.fnLegs_eq hd.entry]
  exact hlegs hd

theorem Dev.seqs.fnGo (st : Nat) : d.seqs c x (d.fnGo c.f st) := .modFn _ fun _ => ⟨Eq.refl _, Eq.refl _, Eq.refl _⟩

/-! ### The state resistor (R387, R392) -/

theorem Dev.fn_fnStore (e : FnEntry) (a : Nat) (bs : List Byte) (i : Nat) : (d.fnStore e a bs).fn i = d.fn i := by
  rw [Dev.fn, Dev.fnStore, Dev.pl_postStore, Dev.fn]

/-- The state of the function after its resistor is set: only what it notes of the resistor differs. -/
theorem Dev.fn_setResistor (f : Nat) (e : FnEntry) (k : FnDesc) (b : Bool) :
    ∃ r, (d.setResistor f e k b).fn f = { d.fn f with stateC := r } := by
  unfold Dev.setResistor
  split
  · exact ⟨_, rfl⟩
  · split
    · exact ⟨_, rfl⟩
    · refine ⟨b, ?_⟩
      rw [Dev.fn_modFn_same, Dev.fn_fnStore]

theorem Dev.fn_resistorB (f : Nat) : ∃ r, (d.resistorB f).fn f = { d.fn f with stateC := r } := by
  unfold Dev.resistorB
  split
  · split
    · exact Dev.fn_setResistor ..
    · exact ⟨_, rfl⟩
  · exact ⟨_, rfl⟩

theorem Dev.seqs.setResistor (e : FnEntry) (k : FnDesc) (b : Bool) (hk : k.land = none ∨ ∀ y, c.bytes y) :
    d.seqs c x (d.setResistor c.f e k b) := by
  unfold Dev.setResistor
  split
  · exact .rfl
  · next n hn =>
    have hall : ∀ y, c.bytes y := hk.resolve_left (by rw [hn]; nofun)
    split
    · exact .rfl
    · exact (Dev.seqs.postStore _ _ _ _ fun _ z _ _ => hall z).trans (.modFn _ fun _ => ⟨Eq.refl _, Eq.refl _, Eq.refl _⟩)

theorem Dev.seqs.resistorB : d.seqs c x (d.resistorB c.f) := fun hd => by
  unfold Dev.resistorB
  split
  · next e k he hk =>
    split
    · next hkind =>
      refine Dev.seqs.setResistor e k false ?_ hd
      rcases hd.land k hk with h | ⟨hg, hb⟩ | h
      · exact .inl h
      · exact absurd hkind (by simp [hg, hb])
      · exact .inr h
    · exact Dev.seqs.rfl hd
  · exact Dev.seqs.rfl hd

/-! ### FAULTED, IDLE and CLOSED (R336) -/

theorem Dev.seqs.fnFaultAt (cause legs : Nat) : d.seqs c x (d.fnFaultAt c.f cause legs) :=
  (Dev.seqs.resistorB.trans (.fnLegs legs)).trans (.modFn _ fun _ => ⟨Eq.refl _, Eq.refl _, Eq.refl _⟩)

theorem Dev.seqs.fnFault (cause : Nat) : d.seqs c x (d.fnFault c.f cause) := by
  rw [Dev.fnFault]
  exact .fnFaultAt _ _

theorem Dev.seqs.fnIdle (cause : Nat) : d.seqs c x (d.fnIdle c.f cause) :=
  (Dev.seqs.resistorB.trans (.fnLegs 0)).trans (.modFn _ fun _ => ⟨Eq.refl _, Eq.refl _, Eq.refl _⟩)

theorem Dev.seqs.fnClose : d.seqs c x (d.fnClose c.f) := .modFn _ fun _ => ⟨Eq.refl _, Eq.refl _, Eq.refl _⟩

theorem Dev.fnEntry_of_fn {f : Nat} (h : d.fnEntry f = some x) (he : (e.fn f).entry = (d.fn f).entry) : e.fnEntry f = some x := by
  rw [Dev.fnEntry, he]
  exact h

/-- A function's state once its legs are put somewhere and its resistor has returned. -/
def Fn.legsAt (y : Fn) (legs : Nat) (r : Bool) : Fn := ({ y with stateC := r } : Fn).setFlag 17 (decide (legs = 1))

theorem Dev.fn_legsOff {f : Nat} (h : d.fnEntry f = some x) (legs : Nat) :
    ∃ r, ((d.resistorB f).fnLegs f legs).fn f = (d.fn f).legsAt legs r := by
  obtain ⟨r, hr⟩ := Dev.fn_resistorB (d := d) f
  refine ⟨r, ?_⟩
  rw [Dev.fn_fnLegs (Dev.fnEntry_of_fn h (by rw [hr])), hr]
  rfl

/-- FAULTED: the state, the cause, and a notice that is due. -/
theorem Dev.fn_fnFaultAt {f : Nat} (h : d.fnEntry f = some x) (cause legs : Nat) : ∃ r, (d.fnFaultAt f cause legs).fn f =
    ({ ((d.fn f).legsAt legs r).settle with cause := cause }.enter 8).modC fun c => { c with notice := true } := by
  obtain ⟨r, hr⟩ := Dev.fn_legsOff h legs
  exact ⟨r, by rw [Dev.fnFaultAt, Dev.fn_modFn_same, hr]⟩

theorem Dev.fn_fnIdle {f : Nat} (h : d.fnEntry f = some x) (cause : Nat) : ∃ r, (d.fnIdle f cause).fn f =
    { ((d.fn f).legsAt 0 r).settle with cause := cause }.enter 0 := by
  obtain ⟨r, hr⟩ := Dev.fn_legsOff h 0
  exact ⟨r, by rw [Dev.fnIdle, Dev.fn_modFn_same, hr]⟩

theorem Dev.fn_fnClose (f : Nat) : (d.fnClose f).fn f =
    ({ (d.fn f).enter 4 with recatch := false, openLoop := false } : Fn).setFlag 17 false := Dev.fn_modFn_same ..

theorem Dev.fn_fnGo (f st : Nat) : (d.fnGo f st).fn f = (d.fn f).enter st := Dev.fn_modFn_same ..

/-! ### Flags of status word 0 -/

theorem Fn.flag_setFlag (y : Fn) (i j : Nat) (b : Bool) (hi : i < 32) : (y.setFlag i b).flag j = if j = i then b else y.flag j :=
  bitOf_putBit _ _ _ _ hi

theorem Fn.flag_enter (y : Fn) (st i : Nat) (hi : i ≠ 19) : (y.enter st).flag i = y.flag i := by
  unfold Fn.enter Fn.flag
  dsimp only [Fn.modC]
  split
  · rfl
  · rw [bitOf_putBit _ _ _ _ (by decide), if_neg hi]

end Sys2Proof.Machine
end

section
/-! The events of a motor function's sequencer (R345 to R366). -/

namespace Sys2Proof.Machine

variable {d e g : Dev} {s : State} {f : Nat} {x : FnEntry} {k : FnDesc} {v : Int} {es : List (Int × Int)} {obs : Option PrimObs}
  {vline : Nat} {vbus : Int} {lead : Word}

/-! ### A function that the library sequences -/

/-- A function with an entry and a description, the Skein at rest; a state resistor is no land of it. -/
structure Dev.sequences (d : Dev) (f : Nat) (x : FnEntry) (k : FnDesc) : Prop where
  entry : d.fnEntry f = some x
  desc : (d.fn f).desc = some k
  land : k.land = none ∨ (k.kind ≠ .grid ∧ k.kind ≠ .bridge)
  quiet : d.quiet

/-- The scope of a function's sequencer: the duty slots of its ports. -/
def Dev.legScope (d : Dev) (f : Nat) (x : FnEntry) : SeqScope where
  f := f
  pcnt := none
  regs _ := False
  ports _ := False
  bytes y := ∃ n ∈ portsOf x, d.slotAddr n ≤ y ∧ y < d.slotAddr n + 16

theorem Dev.drawsOk_seqDraw (h : d.quiet) (c : SeqScope) : d.drawsOk (fun _ => True) (seqDraw c) :=
  Dev.drawsOk_of_quiet h fun _ _ _ => ⟨.inr ⟨_, rfl⟩, rfl, nofun⟩

theorem Dev.sequences.seqOk (h : d.sequences f x k) : d.seqOk (d.legScope f x) x where
  draws := Dev.drawsOk_seqDraw h.quiet _
  entry := h.entry
  count := nofun
  apart _ _ hf := hf
  slots n hn _ hlo hhi := ⟨n, hn, hlo, hhi⟩
  land k' hk' := by
    obtain rfl : k = k' := Option.some.inj (h.desc.symm.trans hk')
    exact h.land.imp_right .inl

/-- What stays in the scope of the legs changes the sequencer's state and the duty slots alone. -/
theorem Dev.seqNear.onlyLegs (h : d.seqNear (d.legScope f x) e) : d.onlyLegs e f x := by
  refine ⟨h.others, h.pt fun _ => not_false, fun a ha => h.regs a ha not_false, fun a hout => h.bytes a ?_⟩
  rintro ⟨n, hn, hlo, hhi⟩
  exact (hout n hn).elim (fun hlt => absurd hlo (Nat.not_le.mpr hlt)) fun hge => absurd hhi (Nat.not_lt.mpr hge)

/-- Work within the scope changes the sequencer's state and the duty slots alone. -/
theorem Dev.sequences.onlyLegs (h : d.sequences f x k) (hs : d.seqs (d.legScope f x) x e) : d.onlyLegs e f x :=
  (hs h.seqOk).1.onlyLegs

theorem Dev.withDesc_of (he : d.fnEntry f = some x) (hk : (d.fn f).desc = some k) (act : FnEntry → FnDesc → Dev) :
    d.withDesc f act = act x k := by
  unfold Dev.withDesc
  rw [he, hk]

theorem Dev.withDesc_eq (h : d.sequences f x k) (act : FnEntry → FnDesc → Dev) : d.withDesc f act = act x k :=
  Dev.withDesc_of h.entry h.desc act

theorem Dev.onlyFn_rfl : d.onlyFn d f := ⟨fun _ _ => rfl, .rfl⟩

theorem Dev.onlyFn.modFn (h : d.onlyFn e f) (act : Fn → Fn) : d.onlyFn (e.modFn f act) f :=
  ⟨fun i hi => by rw [Dev.fn_modFn, if_neg hi, h.1 i hi], h.2.same rfl rfl⟩

theorem Dev.onlyFn_modFn (act : Fn → Fn) : d.onlyFn (d.modFn f act) f := Dev.onlyFn_rfl.modFn act

theorem Dev.onlyFn_fnGo (st : Nat) : d.onlyFn (d.fnGo f st) f := Dev.onlyFn_modFn _

theorem Dev.onlyFn_fnClose : d.onlyFn (d.fnClose f) f := Dev.onlyFn_modFn _

/-! ### A failed start (R352) -/

/-- What a failed start shows. -/
def Dev.failsStart (d e : Dev) (f cause : Nat) (x : FnEntry) (k : FnDesc) : Prop :=
  (e.fn f).att = (d.fn f).att + 1 ∧ (e.fn f).cause = cause ∧ (k.nstart ≤ (d.fn f).att + 1 → (e.fn f).st = 8) ∧
    ((d.fn f).att + 1 < k.nstart → (e.fn f).st = 0 ∧ (e.fn f).waitN = k.tstrt) ∧ d.onlyLegs e f x

/-- The function with one more failed start. -/
def Dev.attempted (d : Dev) (f : Nat) : Dev := d.modFn f fun y => { y with att := (d.fn f).att + 1 }

theorem Dev.fnEntry_attempted (h : d.fnEntry f = some x) : (d.attempted f).fnEntry f = some x :=
  Dev.fnEntry_of_fn h (by rw [Dev.attempted, Dev.fn_modFn_same])

theorem Dev.fnStartFail_eq (cause : Nat) : d.fnStartFail f cause k =
    if k.nstart ≤ (d.fn f).att + 1
    then (if cause = 2 then (d.attempted f).fnFaultAt f 2 0 else (d.attempted f).fnFaultAt f cause ((d.attempted f).fnSafe f))
    else ((d.attempted f).fnIdle f cause).modFn f fun y => { y with waitN := k.tstrt } := rfl

theorem Dev.fnStartFail_shows (h : d.sequences f x k) (cause : Nat) : d.failsStart (d.fnStartFail f cause k) f cause x k := by
  have hatt : ((d.attempted f).fn f).att = (d.fn f).att + 1 := by rw [Dev.attempted, Dev.fn_modFn_same]
  have hfirst : d.seqs (d.legScope f x) x (d.attempted f) := .modFn (c := d.legScope f x) _ fun _ => ⟨rfl, rfl, rfl⟩
  have hfault : ∀ legs, d.failsStart ((d.attempted f).fnFaultAt f cause legs) f cause x k ∨ (d.fn f).att + 1 < k.nstart := fun legs => by
    by_cases hlast : k.nstart ≤ (d.fn f).att + 1
    · obtain ⟨r, hr⟩ := Dev.fn_fnFaultAt (Dev.fnEntry_attempted h.entry) cause legs
      refine .inl ⟨by rw [hr]; exact hatt, by rw [hr]; rfl, fun _ => by rw [hr]; rfl, fun hlt => absurd hlast (Nat.not_le.mpr hlt), ?_⟩
      exact h.onlyLegs (hfirst.trans (.fnFaultAt (c := d.legScope f x) cause legs))
    · exact .inr (Nat.lt_of_not_le hlast)
  rw [Dev.fnStartFail_eq]
  split
  · next hlast =>
    split
    · next hc =>
      rw [← hc]
      exact (hfault 0).resolve_right (Nat.not_lt.mpr hlast)
    · exact (hfault _).resolve_right (Nat.not_lt.mpr hlast)
  · next hlast =>
    obtain ⟨r, hr⟩ := Dev.fn_fnIdle (Dev.fnEntry_attempted h.entry) cause
    refine ⟨?_, ?_, fun hle => absurd hle hlast, fun _ => ⟨?_, ?_⟩, ?_⟩
    · rw [Dev.fn_modFn_same, hr]; exact hatt
    · rw [Dev.fn_modFn_same, hr]; rfl
    · rw [Dev.fn_modFn_same, hr]; rfl
    · rw [Dev.fn_modFn_same]
    · exact h.onlyLegs ((hfirst.trans (.fnIdle (c := d.legScope f x) cause)).trans (.modFn (c := d.legScope f x) _ fun _ => ⟨rfl, rfl, rfl⟩))

/-- FAULTED at once. -/
theorem Dev.fnFaultAt_shows (h : d.sequences f x k) (cause legs : Nat) :
    let e := d.fnFaultAt f cause legs
    (e.fn f).st = 8 ∧ (e.fn f).cause = cause ∧ (e.fn f).recatch = false ∧ (legs = 0 → (e.fn f).flag 17 = false) ∧ d.onlyLegs e f x := by
  obtain ⟨r, hr⟩ := Dev.fn_fnFaultAt h.entry cause legs
  dsimp only
  refine ⟨by rw [hr]; rfl, by rw [hr]; rfl, by rw [hr]; rfl, fun hz => ?_, h.onlyLegs (.fnFaultAt (c := d.legScope f x) cause legs)⟩
  rw [hr, hz]
  refine (Fn.flag_enter _ 8 17 (by decide)).trans ?_
  exact (Fn.flag_setFlag _ 17 17 false (by decide)).trans (if_pos rfl)

/-! ### The catch measurement (R345 to R348) -/

theorem Dev.fn_recatch : (d.recatch f).fn f = { (d.fn f).enter 1 with recatch := true, openLoop := false, ordRamp := false } := by
  rw [Dev.recatch, Dev.fn_modFn_same, Dev.fn_fnGo]

theorem Dev.seqs_startRecatch {c : SeqScope} (legs : Nat) : d.seqs c x (d.startRecatch c.f legs) :=
  (Dev.seqs.fnLegs legs).trans (.modCtr _)

theorem Dev.seqs_recatch {c : SeqScope} : d.seqs c x (d.recatch c.f) := (Dev.seqs.fnGo 1).trans (.modFn _ fun _ => ⟨rfl, rfl, rfl⟩)

/-- The flag of a feedback lost to the observer falls where a primary has passed its checks. -/
def Dev.caught (d : Dev) (f : Nat) (prim : Option Int) : Dev := d.modFn f fun y => y.setFlag 16 (y.flag 16 && prim.isNone)

/-- The end of a catch measurement that is over (R347, R348). -/
def Dev.catchGoes (d : Dev) (f : Nat) (k : FnDesc) (es : List (Int × Int)) (prim : Option Int) : Dev :=
  let v := catchSpeed k es prim
  let th := (catchTrack k 4 es).1.theta
  if v.natAbs < k.wr k.nzero then (d.caught f prim).fromRest f k
  else if v.natAbs < k.wr k.ncatch ∨ (needsAlign k (d.fn f) = true ∧ k.sensorless = false) then ((d.caught f prim).fnLegs f 1).fnGo f 6
  else if (d.fn f).opposes v then ((d.caught f prim).fnGo f 5).modFn f fun y => y.synchronise k th v (es.getLastD (0, 0))
  else ((d.caught f prim).fnClose f).modFn f fun y => y.synchronise k th v (es.getLastD (0, 0))

theorem Dev.catchEnd_eq (h : d.sequences f x k) (hk : k.kind = .motor) (hst : (d.fn f).st = 1) (hr : (d.fn f).recatch = false) :
    d.catchEnd f es obs vline vbus =
      if 9 * vbus ≤ 10 * (vline : Int) then (d.startRecatch f (if k.ascCapable then 1 else 0)).recatch f
      else if catchDone k (d.fn f) (d.primSpeed k obs) then d.catchGoes f k es (d.primSpeed k obs) else d := by
  unfold Dev.catchEnd
  rw [Dev.withDesc_eq h]
  dsimp only
  rw [if_pos ⟨hk, hst, by rw [hr]; rfl⟩]
  simp only [Dev.catchGoes, Dev.caught, Bool.not_eq_true']

theorem Dev.catchEnd_other (h : d.sequences f x k) (hst : (d.fn f).st ≠ 1) : d.catchEnd f es obs vline vbus = d := by
  unfold Dev.catchEnd
  rw [Dev.withDesc_eq h]
  exact if_neg fun hc => hst hc.2.1

/-- From rest: to ALIGN, or at once to CLOSED (R347). -/
theorem Dev.fromRest_shows (f : Nat) (k : FnDesc) :
    let e := d.fromRest f k
    (e.fn f).st = (if needsAlign k (d.fn f) then 2 else 4) ∧
    (needsAlign k (d.fn f) = true → (e.fn f).wi = 0 ∧ (e.fn f).c.theta = k.mo.thal) := by
  unfold Dev.fromRest
  split
  · next hn =>
    dsimp only
    rw [Dev.fn_modFn_same, Dev.fn_fnGo]
    exact ⟨rfl, fun _ => ⟨rfl, rfl⟩⟩
  · next hn =>
    dsimp only
    rw [Dev.fn_fnClose]
    exact ⟨rfl, fun hy => absurd hy hn⟩

theorem Dev.seqs_fromRest {c : SeqScope} (k : FnDesc) : d.seqs c x (d.fromRest c.f k) := by
  unfold Dev.fromRest
  split
  · exact (Dev.seqs.fnGo 2).trans (.modFn _ fun _ => ⟨rfl, rfl, rfl⟩)
  · exact .fnClose

/-- What synchronising sets. -/
theorem Fn.synchronise_shows (k : FnDesc) (y : Fn) (th : Word) (w : Int) (p : Int × Int) :
    (y.synchronise k th w p).st = y.st ∧ (y.synchronise k th w p).dem = w ∧ (y.synchronise k th w p).c.seedW = w ∧
    (y.synchronise k th w p).c.theta = th ∧ (y.synchronise k th w p).c.blendN = k.mo.ttq := ⟨rfl, rfl, rfl, rfl, rfl⟩

theorem Dev.seqs_caught {c : SeqScope} (prim : Option Int) : d.seqs c x (d.caught c.f prim) := .modFn _ fun _ => ⟨rfl, rfl, rfl⟩

theorem Dev.seqs_catchGoes {c : SeqScope} (k : FnDesc) (prim : Option Int) : d.seqs c x (d.catchGoes c.f k es prim) := by
  refine (Dev.seqs_caught prim).trans ?_
  unfold Dev.catchGoes
  dsimp only
  split
  · exact Dev.seqs_fromRest k
  split
  · exact (Dev.seqs.fnLegs 1).trans (.fnGo 6)
  split
  · exact (Dev.seqs.fnGo 5).trans (.modFn _ fun _ => ⟨rfl, rfl, rfl⟩)
  · exact Dev.seqs.fnClose.trans (.modFn _ fun _ => ⟨rfl, rfl, rfl⟩)

theorem Dev.fn_caught (prim : Option Int) :
    (d.caught f prim).fn f = (d.fn f).setFlag 16 ((d.fn f).flag 16 && prim.isNone) := Dev.fn_modFn_same ..

/-- Where a catch that is over leads, by the speed it gave. -/
theorem Dev.catchGoes_shows (h : d.sequences f x k) (prim : Option Int) :
    let e := d.catchGoes f k es prim
    let w := catchSpeed k es prim
    let rest := if needsAlign k (d.fn f) then 2 else 4
    (e.fn f).st =
      (if w.natAbs < k.wr k.nzero then rest
        else if w.natAbs < k.wr k.ncatch ∨ (needsAlign k (d.fn f) = true ∧ k.sensorless = false) then 6
        else if (d.fn f).opposes w then 5 else 4) ∧
    (w.natAbs < k.wr k.nzero → needsAlign k (d.fn f) = true → (e.fn f).wi = 0 ∧ (e.fn f).c.theta = k.mo.thal) ∧
    (k.wr k.nzero ≤ w.natAbs → k.wr k.ncatch ≤ w.natAbs → needsAlign k (d.fn f) = false ∨ k.sensorless = true →
      (e.fn f).dem = w ∧ (e.fn f).c.seedW = w ∧ (e.fn f).c.theta = (catchTrack k 4 es).1.theta ∧ (e.fn f).c.blendN = k.mo.ttq) ∧
    d.onlyLegs e f x := by
  have halign : needsAlign k ((d.caught f prim).fn f) = needsAlign k (d.fn f) := by rw [Dev.fn_caught]; rfl
  have honly := h.onlyLegs (Dev.seqs_catchGoes (c := d.legScope f x) (es := es) k prim)
  dsimp only
  generalize hw : catchSpeed k es prim = w
  by_cases hzero : w.natAbs < k.wr k.nzero
  · obtain ⟨hst, hal⟩ := Dev.fromRest_shows (d := d.caught f prim) f k
    have he : d.catchGoes f k es prim = (d.caught f prim).fromRest f k := by
      unfold Dev.catchGoes
      dsimp only
      rw [hw, if_pos hzero]
    rw [if_pos hzero, he, hst, halign]
    rw [halign] at hal
    exact ⟨rfl, fun _ => hal, fun hge => absurd hzero (Nat.not_lt.mpr hge), he ▸ honly⟩
  by_cases hbrake : w.natAbs < k.wr k.ncatch ∨ (needsAlign k (d.fn f) = true ∧ k.sensorless = false)
  · have he : d.catchGoes f k es prim = ((d.caught f prim).fnLegs f 1).fnGo f 6 := by
      unfold Dev.catchGoes
      dsimp only
      rw [hw, if_neg hzero, if_pos hbrake]
    rw [if_neg hzero, if_pos hbrake, he, Dev.fn_fnGo]
    refine ⟨rfl, fun hlt => absurd hlt hzero, fun _ hge hor => ?_, he ▸ honly⟩
    rcases hbrake with hlt | ⟨ha, hs⟩
    · exact absurd hlt (Nat.not_lt.mpr hge)
    · rw [ha, hs] at hor
      simp at hor
  by_cases hopp : (d.fn f).opposes w = true
  · have he : d.catchGoes f k es prim = ((d.caught f prim).fnGo f 5).modFn f fun y =>
        y.synchronise k (catchTrack k 4 es).1.theta w (es.getLastD (0, 0)) := by
      unfold Dev.catchGoes
      dsimp only
      rw [hw, if_neg hzero, if_neg hbrake, if_pos hopp]
    obtain ⟨h1, h2, h3, h4, h5⟩ := Fn.synchronise_shows k (((d.caught f prim).fnGo f 5).fn f) (catchTrack k 4 es).1.theta w (es.getLastD (0, 0))
    rw [if_neg hzero, if_neg hbrake, if_pos hopp, he, Dev.fn_modFn_same, h1, Dev.fn_fnGo]
    rw [Dev.fn_fnGo] at h2 h3 h4 h5
    exact ⟨rfl, fun hlt => absurd hlt hzero, fun _ _ _ => ⟨h2, h3, h4, h5⟩, he ▸ honly⟩
  · have he : d.catchGoes f k es prim = ((d.caught f prim).fnClose f).modFn f fun y =>
        y.synchronise k (catchTrack k 4 es).1.theta w (es.getLastD (0, 0)) := by
      unfold Dev.catchGoes
      dsimp only
      rw [hw, if_neg hzero, if_neg hbrake, if_neg hopp]
    obtain ⟨h1, h2, h3, h4, h5⟩ := Fn.synchronise_shows k (((d.caught f prim).fnClose f).fn f) (catchTrack k 4 es).1.theta w (es.getLastD (0, 0))
    rw [if_neg hzero, if_neg hbrake, if_neg hopp, he, Dev.fn_modFn_same, h1, Dev.fn_fnClose]
    rw [Dev.fn_fnClose] at h2 h3 h4 h5
    exact ⟨rfl, fun hlt => absurd hlt hzero, fun _ _ _ => ⟨h2, h3, h4, h5⟩, he ▸ honly⟩

end Sys2Proof.Machine
end

section
/-! The rest of a motor's events (R349 to R366), and the statement about them. -/

namespace Sys2Proof.Machine

variable {d e g : Dev} {s : State} {f : Nat} {x : FnEntry} {k : FnDesc} {v : Int} {es : List (Int × Int)} {vbus : Int}
  {lead : Word} {sums seqs : List Nat} {codes : SlotCodes}

/-! ### BRAKE, ALIGN and RAMP -/

theorem Dev.brakeEnd_eq (h : d.sequences f x k) : d.brakeEnd f v =
    if (d.fn f).st = 6 ∧ (d.fn f).c.brkOff = 0 then
      if v.natAbs < k.wr k.nzero then (d.fnLegs f 0).modCtr f fun c => { c with brkOff := max 1 (k.per 1000) }
      else if k.tbrk ≤ (d.fn f).timer then d.fnStartFail f 1 k
      else d
    else d := Dev.withDesc_eq h _

theorem Dev.brakeOff_shows (h : d.sequences f x k) (hst : (d.fn f).st = 6) :
    let e := (d.fnLegs f 0).modCtr f fun c => { c with brkOff := max 1 (k.per 1000) }
    (e.fn f).st = 6 ∧ (e.fn f).c.brkOff = max 1 (k.per 1000) ∧ d.onlyLegs e f x := by
  dsimp only
  rw [Dev.fn_modCtr, Dev.fn_fnLegs h.entry]
  exact ⟨hst, rfl, h.onlyLegs ((Dev.seqs.fnLegs (c := d.legScope f x) 0).trans (.modCtr _))⟩

theorem Dev.alignEnd_eq (h : d.sequences f x k) : d.alignEnd f =
    if (d.fn f).st = 2 ∧ k.tal ≤ (d.fn f).timer then
      if k.sensorless then (d.fnGo f 3).modFn f fun x => { x with wi := 0 }
      else (d.fnClose f).modFn f fun x =>
        { x with aligned := true }.modC fun c => { c with theta := k.mo.thal, encOff := k.mo.thal }
    else d := Dev.withDesc_eq h _

theorem Dev.alignEnd_shows (h : d.sequences f x k) (hst : (d.fn f).st = 2) (ht : k.tal ≤ (d.fn f).timer) :
    let e := d.alignEnd f
    (k.sensorless = true → (e.fn f).st = 3 ∧ (e.fn f).wi = 0) ∧
    (k.sensorless = false → (e.fn f).st = 4 ∧ (e.fn f).aligned = true ∧ (e.fn f).c.theta = k.mo.thal ∧ (e.fn f).c.encOff = k.mo.thal) ∧
    d.onlyFn e f := by
  dsimp only
  rw [Dev.alignEnd_eq h, if_pos ⟨hst, ht⟩]
  cases hs : k.sensorless with
  | true =>
    rw [if_pos rfl, Dev.fn_modFn_same, Dev.fn_fnGo]
    exact ⟨fun _ => ⟨rfl, rfl⟩, nofun, (Dev.onlyFn_fnGo 3).modFn _⟩
  | false =>
    rw [if_neg Bool.false_ne_true, Dev.fn_modFn_same, Dev.fn_fnClose]
    exact ⟨nofun, fun _ => ⟨rfl, rfl, rfl, rfl⟩, Dev.onlyFn_fnClose.modFn _⟩

/-- The machine hands over (R351): RAMP, or open loop with RUN. -/
def Fn.mayHandOver (k : FnDesc) (y : Fn) : Bool :=
  (decide (y.st = 3) || (decide (y.st = 5) && y.openLoop && y.run)) && decide (k.kind = .motor) && handsOver k y &&
    decide (k.nhop ≤ y.c.hoN)

/-- The current that a handover starts from, in the observer's frame. -/
def handoverCurrent (k : FnDesc) (y : Fn) (lead : Word) : Int × Int :=
  let r := iparkF (if y.openLoop then y.c.idFrom else ((k.ir k.iramp : Nat) : Int)) 0 lead.toNat
  (r.1.toInt, r.2.1.toInt)

theorem Dev.handover_eq (h : d.sequences f x k) : d.handover f lead =
    if (d.fn f).mayHandOver k then
      (d.fnClose f).modCtr f fun c =>
        { c with idFrom := (handoverCurrent k (d.fn f) lead).1, iqFrom := (handoverCurrent k (d.fn f) lead).2, blendN := k.mo.tho, blendT := 0 }
    else d := Dev.withDesc_eq h _

theorem Dev.handover_shows (h : d.sequences f x k) (hgo : (d.fn f).mayHandOver k = true) :
    let e := d.handover f lead
    (e.fn f).st = 4 ∧ (e.fn f).openLoop = false ∧ (e.fn f).c.blendN = k.mo.tho ∧ d.onlyFn e f := by
  dsimp only
  rw [Dev.handover_eq h, if_pos hgo, Dev.fn_modCtr, Dev.fn_fnClose]
  exact ⟨rfl, rfl, rfl, Dev.onlyFn_fnClose.modFn _⟩

theorem Dev.startFailure_eq (h : d.sequences f x k) : d.startFailure f =
    if k.kind = .motor ∧ (d.fn f).st = 3 ∧ (d.fn f).atNho k = true ∧ k.thof ≤ (d.fn f).c.nhoN then d.fnStartFail f 1 k else d :=
  Dev.withDesc_eq h _

/-! ### The stop (R355) -/

theorem Dev.stopEnd_eq (h : d.sequences f x k) : d.stopEnd f v =
    if k.kind = .motor ∧ (d.fn f).st = 5 ∧ !(d.fn f).run ∧
        (if (d.fn f).openLoop then (d.fn f).wi = 0 else v.natAbs < k.wr k.nstop ∧ k.tstop ≤ (d.fn f).c.stopN) then
      if (d.fn f).hold then (d.fnGo f 7).modFn f fun x => { x with openLoop := false, dem := 0 } else d.fnIdle f (d.fn f).cause
    else d := Dev.withDesc_eq h _

theorem Dev.stopped_shows (h : d.sequences f x k) :
    let e := if (d.fn f).hold then (d.fnGo f 7).modFn f fun x => { x with openLoop := false, dem := 0 } else d.fnIdle f (d.fn f).cause
    (e.fn f).st = (if (d.fn f).hold then 7 else 0) ∧ (e.fn f).openLoop = false ∧ ((d.fn f).hold = true → (e.fn f).dem = 0) ∧
      d.onlyLegs e f x := by
  cases hh : (d.fn f).hold with
  | true =>
    dsimp only
    rw [if_pos rfl, if_pos rfl, Dev.fn_modFn_same, Dev.fn_fnGo]
    exact ⟨rfl, rfl, fun _ => rfl, h.onlyLegs ((Dev.seqs.fnGo (c := d.legScope f x) 7).trans (.modFn _ fun _ => ⟨rfl, rfl, rfl⟩))⟩
  | false =>
    obtain ⟨r, hr⟩ := Dev.fn_fnIdle h.entry (d.fn f).cause
    dsimp only
    rw [if_neg Bool.false_ne_true, if_neg Bool.false_ne_true, hr]
    exact ⟨rfl, rfl, nofun, h.onlyLegs (.fnIdle (c := d.legScope f x) _)⟩

/-! ### A locked rotor (R357, R358) -/

/-- A rotor that is locked. -/
def Fn.locked (k : FnDesc) (y : Fn) (v : Int) : Bool :=
  (decide (k.tqlk < y.tq.natAbs) && lowInvalid k y v) || decide (k.tlock ≤ y.c.stillN ∧ 0 < y.c.stillN)

theorem Dev.lockedRotor_eq (h : d.sequences f x k) : d.lockedRotor f v =
    if k.kind = .motor ∧ (d.fn f).st = 4 ∧ !d.outranked f x k then
      if (d.fn f).locked k v then (if k.lkact then d.fnStartFail f 2 k else d.fnFaultAt f 2 0)
      else if lowInvalid k (d.fn f) v then (d.fnGo f 3).modFn f fun x => { x with wi := v }
      else d
    else d := Dev.withDesc_eq h _

theorem lowInvalid_iff (k : FnDesc) (y : Fn) (v : Int) :
    lowInvalid k y v = true ↔ k.sensorless = true ∧ y.c.valid = false ∧ v.natAbs < k.wr k.nol := by
  simp [lowInvalid, and_assoc]

theorem Fn.locked_iff (k : FnDesc) (y : Fn) (v : Int) : y.locked k v = true ↔
    (k.tqlk < y.tq.natAbs ∧ k.sensorless = true ∧ y.c.valid = false ∧ v.natAbs < k.wr k.nol) ∨
      (k.tlock ≤ y.c.stillN ∧ 0 < y.c.stillN) := by
  rw [Fn.locked, Bool.or_eq_true, Bool.and_eq_true, decide_eq_true_eq, decide_eq_true_eq, lowInvalid_iff]

theorem Dev.rampAgain_shows (h : d.sequences f x k) :
    let e := (d.fnGo f 3).modFn f fun x => { x with wi := v }
    (e.fn f).st = 3 ∧ (e.fn f).wi = v ∧ d.onlyFn e f := by
  dsimp only
  rw [Dev.fn_modFn_same, Dev.fn_fnGo]
  exact ⟨rfl, rfl, (Dev.onlyFn_fnGo 3).modFn _⟩

/-! ### A lost rotor and its recovery (R359 to R363) -/

/-- The observer's executions leave what the sequencer has due. -/
theorem FnCtr.executes_keeps (k : FnDesc) (c : FnCtr) (xs : List (Int × Int)) :
    (c.executes k xs).1.lossDue = c.lossDue ∧ (c.executes k xs).1.legsDue = c.legsDue ∧ (c.executes k xs).1.curveOff = c.curveOff := by
  unfold FnCtr.executes
  generalize false = lost
  induction xs generalizing c lost with
  | nil => exact ⟨rfl, rfl, rfl⟩
  | cons y ys ih =>
    rw [List.foldl_cons]
    dsimp only
    generalize (lost || jumps k c y.2 || decide (k.mo.nloss ≤ (c.execute k y).nbad)) = now
    obtain ⟨h1, h2, h3⟩ := ih { c.execute k y with wValid := if now then c.wValid else (c.execute k y).wValid } now
    exact ⟨h1, h2, h3⟩

theorem Dev.rotorLoss_eq (h : d.sequences f x k) : d.rotorLoss f es vbus =
    if ((d.fn f).c.executes k es).2 && losableOf k (d.fn f) && !(d.fn f).c.lossDue
    then (d.setFn f ((d.fn f).observed k es).1).startRecatch f (branchOf k ((d.fn f).observed k es).1 vbus)
    else d.setFn f ((d.fn f).observed k es).1 := Dev.withDesc_eq h _

theorem Dev.setFn_eq_modFn (y : Fn) : d.setFn f y = d.modFn f fun _ => y := rfl

theorem Dev.fn_startRecatch (h : d.fnEntry f = some x) (legs : Nat) : (d.startRecatch f legs).fn f =
    ((d.fn f).setFlag 17 (decide (legs = 1))).modC fun c => { c with asc := decide (legs = 1), lossDue := true, recN := 0 } := by
  rw [Dev.startRecatch, Dev.fn_modCtr, Dev.fn_fnLegs h]

/-- The sequencer with its current loop's executions noted. -/
theorem Dev.seqs_observed (h : d.sequences f x k) : d.seqs (d.legScope f x) x (d.setFn f ((d.fn f).observed k es).1) :=
  .modFn_desc (c := d.legScope f x) (fun _ => ((d.fn f).observed k es).1) rfl (fun _ _ => rfl) fun k' hk' => ⟨k', hk', rfl, rfl⟩

theorem Dev.rotorLost_shows (h : d.sequences f x k) (hl : losableOf k (d.fn f) = true) (hx : ((d.fn f).c.executes k es).2 = true)
    (hd : (d.fn f).c.lossDue = false) :
    let e := d.rotorLoss f es vbus
    (e.fn f).c.lossDue = true ∧ (e.fn f).st = (d.fn f).st ∧ d.onlyLegs e f x := by
  have hentry : (d.setFn f ((d.fn f).observed k es).1).fnEntry f = some x := Dev.fnEntry_of_fn h.entry (by rw [Dev.fn_setFn_same]; rfl)
  dsimp only
  rw [Dev.rotorLoss_eq h, if_pos (by simp [hl, hx, hd]), Dev.fn_startRecatch hentry, Dev.fn_setFn_same]
  exact ⟨rfl, rfl, h.onlyLegs ((Dev.seqs_observed h).trans (Dev.seqs_startRecatch (c := d.legScope f x) _))⟩

theorem Dev.rotorKept_shows (h : d.sequences f x k)
    (hno : losableOf k (d.fn f) = false ∨ ((d.fn f).c.executes k es).2 = false ∨ (d.fn f).c.lossDue = true) :
    let e := d.rotorLoss f es vbus
    (e.fn f).c.lossDue = (d.fn f).c.lossDue ∧ (e.fn f).c.valid = ((d.fn f).c.executes k es).1.valid ∧ (e.fn f).st = (d.fn f).st ∧
      d.onlyFn e f := by
  have hcond : ¬(((d.fn f).c.executes k es).2 && losableOf k (d.fn f) && !(d.fn f).c.lossDue) = true := by
    rcases hno with h | h | h <;> simp [h]
  dsimp only
  rw [Dev.rotorLoss_eq h, if_neg hcond, Dev.fn_setFn_same]
  refine ⟨(FnCtr.executes_keeps ..).1, rfl, rfl, ?_⟩
  rw [Dev.setFn_eq_modFn]
  exact Dev.onlyFn_modFn _

/-- The machine's angle and speed where it is caught again (R361). -/
def caughtAgain (k : FnDesc) (y : Fn) (es : List (Int × Int)) : Word × Int :=
  if y.c.asc then ascAngle k es else ((catchTrack k 3 es).1.theta, emfSpeed k 3 es)

/-- Whether the time of a recovery has come (R361). -/
def recoveryDue (k : FnDesc) (y : Fn) : Prop :=
  if y.c.asc then k.mo.tasc + k.per 1000 ≤ y.timer else k.per 1500 ≤ y.timer

theorem Dev.rotorRecovery_eq (h : d.sequences f x k) : d.rotorRecovery f es =
    if (d.fn f).st = 1 ∧ (d.fn f).recatch = true ∧ es ≠ [] then
      if (d.fn f).c.asc = true then
        if k.mo.tasc + k.per 1000 ≤ (d.fn f).timer then
          (d.fnClose f).modFn f fun x => (x.synchronise k (ascAngle k es).1 (ascAngle k es).2 (0, 0)).modC fun c =>
            { c with idFrom := (parkF (es.getLastD (0, 0)).1 (es.getLastD (0, 0)).2 (ascAngle k es).1.toNat).1.toInt,
                     iqFrom := (parkF (es.getLastD (0, 0)).1 (es.getLastD (0, 0)).2 (ascAngle k es).1.toNat).2.1.toInt }
        else d
      else if k.per 1500 ≤ (d.fn f).timer then
        (d.fnClose f).modFn f fun x => x.synchronise k (catchTrack k 3 es).1.theta (emfSpeed k 3 es) (es.getLastD (0, 0))
      else d
    else d := Dev.withDesc_eq h _

theorem Dev.rotorRecovery_shows (h : d.sequences f x k) (hst : (d.fn f).st = 1) (hr : (d.fn f).recatch = true) (hne : es ≠ [])
    (hdue : recoveryDue k (d.fn f)) :
    let e := d.rotorRecovery f es
    (e.fn f).st = 4 ∧ (e.fn f).c.theta = (caughtAgain k (d.fn f) es).1 ∧ (e.fn f).dem = (caughtAgain k (d.fn f) es).2 ∧
      (e.fn f).recatch = false ∧ (e.fn f).c.blendN = k.mo.ttq ∧ d.onlyFn e f := by
  unfold recoveryDue at hdue
  unfold caughtAgain
  dsimp only
  rw [Dev.rotorRecovery_eq h, if_pos ⟨hst, hr, hne⟩]
  cases ha : (d.fn f).c.asc with
  | true =>
    rw [ha, if_pos rfl] at hdue
    rw [if_pos rfl, if_pos rfl, if_pos hdue, Dev.fn_modFn_same, Dev.fn_fnClose]
    exact ⟨rfl, rfl, rfl, rfl, rfl, Dev.onlyFn_fnClose.modFn _⟩
  | false =>
    rw [ha, if_neg Bool.false_ne_true] at hdue
    rw [if_neg Bool.false_ne_true, if_neg Bool.false_ne_true, if_pos hdue, Dev.fn_modFn_same, Dev.fn_fnClose]
    exact ⟨rfl, rfl, rfl, rfl, rfl, Dev.onlyFn_fnClose.modFn _⟩

theorem Dev.rotorRecovery_waits (h : d.sequences f x k) (hno : es = [] ∨ ¬recoveryDue k (d.fn f) ∨ (d.fn f).st ≠ 1) :
    d.rotorRecovery f es = d := by
  unfold recoveryDue at hno
  rw [Dev.rotorRecovery_eq h]
  split
  · next hc =>
    obtain ⟨hst, -, hne⟩ := hc
    have hlate := (hno.resolve_left hne).resolve_right (not_not.mpr hst)
    split
    · next ha => exact if_neg (by rwa [ha, if_pos rfl] at hlate)
    · next ha => exact if_neg (by rwa [if_neg ha] at hlate)
  · rfl

theorem Dev.recatchTimeout_eq (h : d.sequences f x k) : d.recatchTimeout f =
    if (d.fn f).st = 1 ∧ (d.fn f).recatch = true ∧ k.per 20000 ≤ (d.fn f).c.recN then d.fnFault f 3 else d := Dev.withDesc_eq h _

/-! ### Lost feedback (R364 to R366) -/

theorem Dev.feedbackLoss_eq (h : d.sequences f x k) : d.feedbackLoss f sums codes seqs vbus =
    if (d.fn f).quiet then d
    else if slotLostOf k (d.fn f) then d.currentLost f k vbus
    else if d.posFails k (d.fn f) sums && !(d.fn f).flag 16 then d.modCtr f fun c => { c with posLost := true }
    else if slotFails k codes seqs && (d.fn f).c.sub.isNone then
      (d.libSubst x [codes.slot]).modCtr f fun c => { c with sub := some (codes.slot, 0) }
    else d := Dev.withDesc_eq h _

theorem Dev.mem_loopsOf_lt {l : Nat × Nat} (h : l ∈ d.loopsOf x) : l.2 < 4 := by
  obtain ⟨b, -, rfl⟩ := List.mem_map.mp h
  exact (b.extractLsb' 0 2).isLt

/-- Seven flags of a loop with TSUB among them. -/
theorem tsub_seven (w : Word) (h : w &&& 0x7F = w) : (w ||| fTSUB) &&& 0x7F = w ||| fTSUB := by
  rw [BitVec.and_or_distrib_right, h]
  rfl

/-- What a substitution of slots in the current loop leaves, and what it notes there (R365). -/
theorem Dev.libSubst_shows (x : FnEntry) (j : Nat) :
    let e := d.libSubst x [j]
    (∀ i, e.fn i = d.fn i) ∧ e.pt = d.pt ∧ e.sk = d.sk ∧
    ∀ l, (d.loopsOf x).getLast? = some l → (e.lp l.1 l.2).libSub = [j] ∧
      ((d.spn l.1).spec = false → e.loopFlags l.1 l.2 = d.loopFlags l.1 l.2 ||| fTSUB) := by
  have hne : fTSUB ≠ 0 := by decide
  unfold Dev.libSubst
  cases hl : (d.loopsOf x).getLast? with
  | none => exact ⟨fun _ => rfl, rfl, rfl, nofun⟩
  | some l =>
    dsimp only
    rw [if_neg (List.cons_ne_nil _ _), Dev.raiseLoopFlags, if_neg hne]
    have hlp : (d.modLp l.1 l.2 fun x => { x with libSub := [j] }).lp l.1 l.2 = { d.lp l.1 l.2 with libSub := [j] } := Dev.lp_modLp_same _
    split
    · next hspec =>
      refine ⟨fun _ => rfl, rfl, rfl, fun l' hl' => ?_⟩
      obtain rfl := Option.some.inj hl'
      refine ⟨congrArg Loop.libSub hlp, fun hs => ?_⟩
      rw [Dev.spn_modLp, hs] at hspec
      cases hspec
    · refine ⟨fun _ => rfl, rfl, rfl, fun l' hl' => ?_⟩
      obtain rfl := Option.some.inj hl'
      refine ⟨congrArg Loop.libSub hlp, fun _ => ?_⟩
      rw [Dev.loopFlags_setLoopFlags (Dev.mem_loopsOf_lt (List.mem_of_getLast? hl)) (tsub_seven _ (Dev.loopFlags_seven ..))]
      rfl

end Sys2Proof.Machine
end

section
/-! The statement about a motor's events (R345 to R366): each command runs its event of the clocked logic. -/

namespace Sys2Proof.Machine

variable {d : Dev} {s : State} {x : FnEntry} {k : FnDesc} {v : Int} {es : List (Int × Int)} {obs : Option PrimObs} {vline : Nat}
  {vbus : Int} {lead : Word} {sums seqs : List Nat} {codes : SlotCodes} {f : Fin 32}

theorem exec_catchMeasurementEnd :
    exec (.catchMeasurementEnd f es obs vline vbus) s = s.run fun d => d.catchEnd f es obs vline vbus := rfl
theorem exec_brakeEnd : exec (.brakeEnd f v) s = s.run fun d => d.brakeEnd f v := rfl
theorem exec_alignEnd : exec (.alignEnd f) s = s.run fun d => d.alignEnd f := rfl
theorem exec_handover : exec (.handover f lead) s = s.run fun d => d.handover f lead := rfl
theorem exec_startFailure : exec (.startFailure f) s = s.run fun d => d.startFailure f := rfl
theorem exec_stopEnd : exec (.stopEnd f v) s = s.run fun d => d.stopEnd f v := rfl
theorem exec_lockedRotor : exec (.lockedRotor f v) s = s.run fun d => d.lockedRotor f v := rfl
theorem exec_rotorLoss : exec (.rotorLoss f es vbus) s = s.run fun d => d.rotorLoss f es vbus := rfl
theorem exec_rotorRecovery : exec (.rotorRecovery f es) s = s.run fun d => d.rotorRecovery f es := rfl
theorem exec_recatchTimeout : exec (.recatchTimeout f) s = s.run fun d => d.recatchTimeout f := rfl
theorem exec_feedbackLoss :
    exec (.feedbackLoss f sums codes seqs vbus) s = s.run fun d => d.feedbackLoss f sums codes seqs vbus := rfl

/-- In IDLE none of a motor's events but a lost rotor's executions does anything. -/
theorem idle_waits (h : s.dev.sequences f x k) (hst : (s.dev.fn f).st = 0) :
    ∀ i ∈ [Instr.catchMeasurementEnd f es obs vline vbus, .brakeEnd f v, .alignEnd f, .handover f lead, .startFailure f,
        .stopEnd f v, .lockedRotor f v, .rotorRecovery f es, .recatchTimeout f, .feedbackLoss f sums codes seqs vbus],
      exec i s = .next s := by
  have hne : ∀ n, 0 < n → (s.dev.fn f).st ≠ n := fun n hn he => by omega
  have hoff : ¬(s.dev.fn f).mayHandOver k = true := by simp [Fn.mayHandOver, hst]
  simp only [List.mem_cons, List.not_mem_nil, or_false]
  rintro i (rfl | rfl | rfl | rfl | rfl | rfl | rfl | rfl | rfl | rfl)
  · exact exec_idle_of_run exec_catchMeasurementEnd (Dev.catchEnd_other h (hne 1 (by decide)))
  · exact exec_idle_of_run exec_brakeEnd ((Dev.brakeEnd_eq h).trans (if_neg fun hc => hne 6 (by decide) hc.1))
  · exact exec_idle_of_run exec_alignEnd ((Dev.alignEnd_eq h).trans (if_neg fun hc => hne 2 (by decide) hc.1))
  · exact exec_idle_of_run exec_handover ((Dev.handover_eq h).trans (if_neg hoff))
  · exact exec_idle_of_run exec_startFailure ((Dev.startFailure_eq h).trans (if_neg fun hc => hne 3 (by decide) hc.2.1))
  · exact exec_idle_of_run exec_stopEnd ((Dev.stopEnd_eq h).trans (if_neg fun hc => hne 5 (by decide) hc.2.1))
  · exact exec_idle_of_run exec_lockedRotor ((Dev.lockedRotor_eq h).trans (if_neg fun hc => hne 4 (by decide) hc.2.1))
  · exact exec_idle_of_run exec_rotorRecovery (Dev.rotorRecovery_waits h (.inr (.inr (hne 1 (by decide)))))
  · exact exec_idle_of_run exec_recatchTimeout ((Dev.recatchTimeout_eq h).trans (if_neg fun hc => hne 1 (by decide) hc.1))
  · exact exec_idle_of_run exec_feedbackLoss ((Dev.feedbackLoss_eq h).trans (if_pos (by simp [Fn.quiet, hst])))

/-- The period that the function is in admits no start and no other hand: the handover's states. -/
theorem Fn.mayHandOver_iff (k : FnDesc) (y : Fn) (hk : k.kind = .motor) (hst : y.st = 3 ∨ (y.st = 5 ∧ y.openLoop = true ∧ y.run = true)) :
    y.mayHandOver k = true ↔ handsOver k y = true ∧ k.nhop ≤ y.c.hoN := by
  rcases hst with h | ⟨h, ho, hr⟩
  · simp [Fn.mayHandOver, h, hk]
  · simp [Fn.mayHandOver, h, ho, hr, hk]

/-- A current sensor whose result the library replaces by its prediction (R365). -/
theorem Dev.substituted_shows (x : FnEntry) (f j : Nat) :
    let e := (d.libSubst x [j]).modCtr f fun c => { c with sub := some (j, 0) }
    (e.fn f).c.sub = some (j, 0) ∧ (e.fn f).st = (d.fn f).st ∧ (∀ g, g ≠ f → e.fn g = d.fn g) ∧ e.pt = d.pt ∧ d.sameMem e ∧
      ∀ l, (d.loopsOf x).getLast? = some l → (e.lp l.1 l.2).libSub = [j] ∧
        ((d.spn l.1).spec = false → e.loopFlags l.1 l.2 = d.loopFlags l.1 l.2 ||| fTSUB) := by
  obtain ⟨hfn, hpt, hsk, hloop⟩ := Dev.libSubst_shows (d := d) x j
  dsimp only
  generalize d.libSubst x [j] = d1 at *
  rw [Dev.fn_modCtr, hfn]
  refine ⟨rfl, rfl, fun g hg => ?_, hpt, fun a => ?_, hloop⟩
  · rw [Dev.modCtr, Dev.fn_modFn, if_neg hg, hfn]
  · exact congrArg (fun s : SkeinSt => smGet (fun _ => 0) s.mem a) hsk

/-! ### The statement -/

/-- Settles O46, event by event: in each state what the event's rule gives, and nothing where its conditions do not hold. -/
theorem motorEvents : Obligations.MotorEvents := by
  unfold Obligations.MotorEvents
  intro f v es obs vline vbus lead sums seqs codes ent k s
  dsimp only
  intro hentry hdesc hk hquiet hc
  have h : s.dev.sequences f ent k := ⟨hentry, hdesc, .inr ⟨by rw [hk]; decide, by rw [hk]; decide⟩, hquiet⟩
  have hfails : ∀ cause, s.dev.failsStart (s.dev.fnStartFail f cause k) f cause ent k := Dev.fnStartFail_shows h
  refine ⟨fun hst hr => ⟨fun hlow => ?_, fun hhigh hover => ?_, fun hhigh hnot => ?_⟩,
    fun hst hoff => ⟨fun hv => ?_, fun hv ht => ?_, fun hv ht => ?_⟩,
    fun hst => ⟨fun ht => ?_, fun ht => ?_⟩,
    fun hst => ⟨fun hho hn => ?_, fun hno => ?_⟩,
    fun hst => ⟨fun hat ht => ?_, fun hno => ?_⟩,
    fun hst => ⟨fun hrun hs => ?_, fun hno => ?_⟩,
    fun hst hout => ?_,
    fun hst hout => ⟨fun hl => ?_, fun hl hlow => ?_, fun hl hlow => ?_⟩,
    fun hl hx hd => ?_, fun hno => ?_,
    fun hst hr => ⟨fun hne hdue => ?_, fun hno => ?_, fun ht => ?_, fun ht => ?_⟩,
    fun hst => idle_waits h hst,
    fun hact => ⟨fun hlost => ?_, fun hkept => ⟨fun hpos => ?_, fun hpos hcur => ?_, fun hpos hcur => ?_⟩⟩⟩
  -- CATCH
  · refine .of_run exec_catchMeasurementEnd hc ?_
    rw [Dev.catchEnd_eq h hk hst hr, if_pos hlow, Dev.fn_recatch]
    exact ⟨rfl, rfl, h.onlyLegs ((Dev.seqs_startRecatch (c := s.dev.legScope f ent) _).trans (Dev.seqs_recatch (c := s.dev.legScope f ent)))⟩
  · refine .of_run exec_catchMeasurementEnd hc ?_
    rw [Dev.catchEnd_eq h hk hst hr, if_neg (Int.not_le.mpr hhigh), if_pos hover]
    exact Dev.catchGoes_shows h _
  · refine exec_idle_of_run exec_catchMeasurementEnd ?_
    rw [Dev.catchEnd_eq h hk hst hr, if_neg (Int.not_le.mpr hhigh), hnot]
    exact if_neg Bool.false_ne_true
  -- BRAKE
  · refine .of_run exec_brakeEnd hc ?_
    rw [Dev.brakeEnd_eq h, if_pos ⟨hst, hoff⟩, if_pos hv]
    exact Dev.brakeOff_shows h hst
  · refine .of_run exec_brakeEnd hc ?_
    rw [Dev.brakeEnd_eq h, if_pos ⟨hst, hoff⟩, if_neg (Nat.not_lt.mpr hv), if_pos ht]
    exact hfails 1
  · refine exec_idle_of_run exec_brakeEnd ?_
    rw [Dev.brakeEnd_eq h, if_pos ⟨hst, hoff⟩, if_neg (Nat.not_lt.mpr hv), if_neg (Nat.not_le.mpr ht)]
  -- ALIGN
  · exact .of_run exec_alignEnd hc (Dev.alignEnd_shows h hst ht)
  · exact exec_idle_of_run exec_alignEnd ((Dev.alignEnd_eq h).trans (if_neg fun hy => Nat.not_le.mpr ht hy.2))
  -- the handover
  · exact .of_run exec_handover hc (Dev.handover_shows h ((Fn.mayHandOver_iff k _ hk hst).mpr ⟨hho, hn⟩))
  · refine exec_idle_of_run exec_handover ((Dev.handover_eq h).trans (if_neg fun hy => ?_))
    obtain ⟨hho, hn⟩ := (Fn.mayHandOver_iff k _ hk hst).mp hy
    exact hno.elim (fun h => Bool.false_ne_true (h.symm.trans hho)) (Nat.not_lt.mpr hn)
  -- a failed start
  · refine .of_run exec_startFailure hc ?_
    rw [Dev.startFailure_eq h, if_pos ⟨hk, hst, hat, ht⟩]
    exact hfails 1
  · refine exec_idle_of_run exec_startFailure ((Dev.startFailure_eq h).trans (if_neg fun ⟨_, _, hat, ht⟩ => ?_))
    exact hno.elim (fun h => Bool.false_ne_true (h.symm.trans hat)) (Nat.not_lt.mpr ht)
  -- the stop
  · refine .of_run exec_stopEnd hc ?_
    rw [Dev.stopEnd_eq h, if_pos ⟨hk, hst, by simp [hrun], hs⟩]
    exact Dev.stopped_shows h
  · refine exec_idle_of_run exec_stopEnd ((Dev.stopEnd_eq h).trans (if_neg fun ⟨_, _, hrun, hs⟩ => ?_))
    exact hno.elim (fun h => by simp [h] at hrun) fun h => h hs
  -- a locked rotor
  · exact exec_idle_of_run exec_lockedRotor ((Dev.lockedRotor_eq h).trans (if_neg fun hy => by simp [hout] at hy))
  · refine .of_run exec_lockedRotor hc ?_
    rw [Dev.lockedRotor_eq h, if_pos ⟨hk, hst, by simp [hout]⟩, if_pos ((Fn.locked_iff ..).mpr hl)]
    refine ⟨fun hact => ?_, fun hact => ?_⟩
    · obtain ⟨h1, h2, -, h3, h4⟩ := Dev.fnFaultAt_shows h 2 0
      rw [hact]
      exact ⟨h1, h2, h3 rfl, h4⟩
    · rw [hact]
      exact hfails 2
  · refine .of_run exec_lockedRotor hc ?_
    rw [Dev.lockedRotor_eq h, if_pos ⟨hk, hst, by simp [hout]⟩, if_neg fun hy => hl ((Fn.locked_iff ..).mp hy),
      if_pos ((lowInvalid_iff ..).mpr hlow)]
    exact Dev.rampAgain_shows h
  · refine exec_idle_of_run exec_lockedRotor ?_
    rw [Dev.lockedRotor_eq h, if_pos ⟨hk, hst, by simp [hout]⟩, if_neg fun hy => hl ((Fn.locked_iff ..).mp hy),
      if_neg fun hy => hlow ((lowInvalid_iff ..).mp hy)]
  -- a lost rotor and its recovery
  · exact .of_run exec_rotorLoss hc (Dev.rotorLost_shows h hl hx hd)
  · exact .of_run exec_rotorLoss hc (Dev.rotorKept_shows h hno)
  · exact .of_run exec_rotorRecovery hc (Dev.rotorRecovery_shows h hst hr hne hdue)
  · exact exec_idle_of_run exec_rotorRecovery (Dev.rotorRecovery_waits h (hno.imp_right .inl))
  · refine .of_run exec_recatchTimeout hc ?_
    obtain ⟨h1, h2, h3, -, h4⟩ := Dev.fnFaultAt_shows h 3 (s.dev.fnSafe f)
    rw [Dev.recatchTimeout_eq h, if_pos ⟨hst, hr, ht⟩, Dev.fnFault]
    exact ⟨h1, h2, h3, h4⟩
  · exact exec_idle_of_run exec_recatchTimeout ((Dev.recatchTimeout_eq h).trans (if_neg fun hy => Nat.not_le.mpr ht hy.2.2))
  -- lost feedback
  · refine .of_run exec_feedbackLoss hc ?_
    obtain ⟨h1, h2, -, -, h4⟩ := Dev.fnFaultAt_shows h 5 (branchOf k (s.dev.fn f) vbus)
    rw [Dev.feedbackLoss_eq h, if_neg (by simp [hact]), if_pos hlost, Dev.currentLost]
    exact ⟨h1, h2, h4⟩
  · refine .of_run exec_feedbackLoss hc ?_
    rw [Dev.feedbackLoss_eq h, if_neg (by simp [hact]), if_neg (by simp [hkept]), if_pos (by simp [hpos]), Dev.fn_modCtr]
    exact ⟨rfl, rfl, Dev.onlyFn_modFn _⟩
  · refine .of_run exec_feedbackLoss hc ?_
    rw [Dev.feedbackLoss_eq h, if_neg (by simp [hact]), if_neg (by simp [hkept]), if_neg (by simpa using hpos),
      if_pos (by simp [hcur])]
    exact Dev.substituted_shows ent f codes.slot
  · refine exec_idle_of_run exec_feedbackLoss ?_
    rw [Dev.feedbackLoss_eq h, if_neg (by simp [hact]), if_neg (by simp [hkept]), if_neg (by simpa using hpos),
      if_neg (by simpa using hcur)]

end Sys2Proof.Machine
end

section
/-! The events of converter functions (R372 to R376, R386, R392, R395) and the end of the orderly-stop ramp (R484). -/

namespace Sys2Proof.Machine

variable {d e g : Dev} {f n : Nat} {x : FnEntry} {k : FnDesc} {es : List (Int × Int)}

/-! ### Work that may set the state resistor -/

/-- The scope of a function whose state resistor is a land: any byte. -/
def landScope (f : Nat) : SeqScope where
  f := f
  pcnt := none
  regs _ := False
  ports _ := False
  bytes _ := True

/-- What a converter's event changes: its own state, and without a resistor's land the duty slots alone. -/
def Dev.ownLegs (d e : Dev) (f : Nat) (x : FnEntry) (k : FnDesc) : Prop :=
  (∀ g, g ≠ f → e.fn g = d.fn g) ∧ e.pt = d.pt ∧ (k.land = none → d.onlyLegs e f x)

theorem Dev.others_of_seqs (he : d.fnEntry f = some x) (hq : d.quiet) (hs : d.seqs (landScope f) x e) :
    (∀ g, g ≠ f → e.fn g = d.fn g) ∧ e.pt = d.pt := by
  have hok : d.seqOk (landScope f) x :=
    ⟨Dev.drawsOk_seqDraw hq _, he, nofun, fun _ _ hf => hf, fun _ _ _ _ _ => trivial, fun _ _ => .inr (.inr fun _ => trivial)⟩
  obtain ⟨hnear, -⟩ := hs hok
  exact ⟨hnear.others, hnear.pt fun _ => not_false⟩

theorem Dev.ownLegs_of_seqs (he : d.fnEntry f = some x) (hk : (d.fn f).desc = some k) (hq : d.quiet)
    (hs : ∀ c : SeqScope, c.f = f → d.seqs c x e) : d.ownLegs e f x k := by
  obtain ⟨hothers, hpt⟩ := Dev.others_of_seqs he hq (hs _ rfl)
  exact ⟨hothers, hpt, fun hl => Dev.sequences.onlyLegs ⟨he, hk, .inl hl, hq⟩ (hs _ rfl)⟩

/-! ### The grid (R372 to R376) -/

section
variable (he : d.fnEntry f = some x) (hk : (d.fn f).desc = some k)
include he hk

theorem topologyDetect_eq (p1 p2 p3 : Nat) : d.topologyDetect f p1 p2 p3 =
    if k.kind = .grid ∧ (d.fn f).st = 1 ∧ k.bothTopologies ∧ k.per 40000 ≤ (d.fn f).timer then
      if inWindow k p1 && inWindow k p2 && inWindow k p3 then d.modFn f fun x => { x with topo := some false }
      else if inWindow k p1 && decide (10 * p2 < k.vgn) && decide (10 * p3 < k.vgn) then
        d.modFn f fun x => { x with topo := some true }
      else d
    else d := Dev.withDesc_of he hk _

theorem Dev.gridLock_eq : d.gridLock f es =
    if k.kind = .grid ∧ es.reverse.take k.nlock ≠ [] ∧ k.nlock ≤ es.length then
      if (es.reverse.take k.nlock).all (locks k) then d.modFn f fun x => x.setFlag 24 true
      else if (es.reverse.take k.nlock).all fun y => !locks k y then d.modFn f fun x => (x.setFlag 24 false).setFlag 25 false
      else d
    else d := Dev.withDesc_of he hk _

theorem Dev.prechargeTimeout_eq : d.prechargeTimeout f =
    if k.kind = .grid ∧ (d.fn f).st = 1 ∧ !(d.fn f).resync ∧ k.tpre ≤ (d.fn f).timer then
      d.fnFault f (if k.bothTopologies && (d.fn f).topo.isNone then 8 else if (d.fn f).flag 24 then 0xA else 9)
    else d := Dev.withDesc_of he hk _

theorem Dev.gridLoss_eq : d.gridLoss f =
    if k.kind = .grid ∧ ((d.fn f).st = 3 ∨ (d.fn f).st = 4) ∧ 0 < (d.fn f).c.outN ∧ k.cv.tgrid ≤ (d.fn f).c.outN then
      (((d.resistorB f).fnLegs f 0).fnGo f 1).modFn f fun x => { x with cause := 8, resync := true, topo := none }
    else d := Dev.withDesc_of he hk _

theorem Dev.gridResync_eq : d.gridResync f =
    if (d.fn f).st = 1 ∧ (d.fn f).resync ∧ 0 < (d.fn f).c.inN ∧ k.cv.tresync ≤ (d.fn f).c.inN then
      d.modFn f fun x => { x with resync := false, timer := 0 }
    else d := Dev.withDesc_of he hk _

/-- FAULTED at once, of a converter too. -/
theorem Dev.fnFault_shows (hq : d.quiet) (cause : Nat) :
    let e := d.fnFault f cause
    (e.fn f).st = 8 ∧ (e.fn f).cause = cause ∧ d.ownLegs e f x k := by
  obtain ⟨r, hr⟩ := Dev.fn_fnFaultAt he cause (d.fnSafe f)
  dsimp only
  refine ⟨?_, ?_, Dev.ownLegs_of_seqs he hk hq fun c hc => hc ▸ .fnFault cause⟩ <;> rw [Dev.fnFault, hr] <;> rfl

/-- The grid is lost: CATCH until it is back (R376). -/
theorem Dev.gridLost_shows (hq : d.quiet) :
    let e := (((d.resistorB f).fnLegs f 0).fnGo f 1).modFn f fun x => { x with cause := 8, resync := true, topo := none }
    (e.fn f).st = 1 ∧ (e.fn f).cause = 8 ∧ (e.fn f).resync = true ∧ (e.fn f).topo = none ∧ d.ownLegs e f x k := by
  dsimp only
  rw [Dev.fn_modFn_same, Dev.fn_fnGo]
  exact ⟨rfl, rfl, rfl, rfl, Dev.ownLegs_of_seqs he hk hq fun c hc => hc ▸
    ((Dev.seqs.resistorB.trans (.fnLegs 0)).trans (.fnGo 1)).trans (.modFn _ fun _ => ⟨rfl, rfl, rfl⟩)⟩

/-! ### The orderly-stop ramp (R484) -/

theorem Dev.ordRampEnd_eq (vbus : Int) : d.ordRampEnd f es vbus =
    if (d.fn f).ordRamp ∧ (d.fn f).st ≠ 9 ∧ (d.fn f).c.ordAt + 38400 * d.fld Reg.THM_ORD 7 0 ≤ d.now then
      (d.fnIdle f 0xB).fnLegs f (branchOf k ((d.fn f).observed k es).1 vbus)
    else d := Dev.withDesc_of he hk _

theorem Dev.rampEnded_shows (hq : d.quiet) (legs : Nat) :
    let e := (d.fnIdle f 0xB).fnLegs f legs
    (e.fn f).st = 0 ∧ (e.fn f).cause = 0xB ∧ (e.fn f).ordRamp = false ∧ d.ownLegs e f x k := by
  obtain ⟨r, hr⟩ := Dev.fn_fnIdle he 0xB
  dsimp only
  rw [Dev.fn_fnLegs (Dev.fnEntry_of_fn he (by rw [hr]; rfl)), hr]
  exact ⟨rfl, rfl, rfl, Dev.ownLegs_of_seqs he hk hq fun c hc => hc ▸ (Dev.seqs.fnIdle _).trans (.fnLegs legs)⟩

/-! ### The synchronous rectifier (R386) -/

theorem Dev.rectifier_eq (v : Int) : d.rectifier f v =
    if k.kind = .bridge then
      if v < k.isrlo then
        ((portsOf x).foldl (fun d n => if 32 ≤ n then d.putImage x 0 n else d) d).modFn f fun x => { x with rectOff := true }
      else if k.isrhi < v then d.modFn f fun x => { x with rectOff := false }
      else d
    else d := Dev.withDesc_of he hk _

end

/-- The images of the LV legs stay in the scope of the legs. -/
theorem Dev.lvImages_near (ns : List Nat) (hns : ∀ n ∈ ns, n ∈ portsOf x) (hg : d.seqNear (d.legScope f x) g)
    (hok : g.drawsOk (fun _ => True) (seqDraw (d.legScope f x))) :
    d.seqNear (d.legScope f x) (ns.foldl (fun d n => if 32 ≤ n then d.putImage x 0 n else d) g) := by
  induction ns generalizing g with
  | nil => exact hg
  | cons n ns ih =>
    have hn := hns n List.mem_cons_self
    have hput : g.moves (fun _ => True) (seqDraw (d.legScope f x)) (Dev.seqNear (d.legScope f x)) (g.putImage x 0 n) :=
      traffic_seqNear.moves_postStore ⟨.inl rfl, rfl, fun _ z hlo hhi =>
        ⟨n, hn, by rwa [← hg.slotAddr (mem_portsOf_lt hn) not_false], by rwa [← hg.slotAddr (mem_portsOf_lt hn) not_false]⟩⟩
    rw [List.foldl_cons]
    split
    · exact ih (fun m hm => hns m (List.mem_cons_of_mem _ hm)) (hg.trans (hput hok).1) (hput hok).2
    · exact ih (fun m hm => hns m (List.mem_cons_of_mem _ hm)) hg hok

/-- The rectifier stops: its LV legs are off. -/
theorem Dev.rectifierOff_shows (hq : d.quiet) :
    let e := ((portsOf x).foldl (fun d n => if 32 ≤ n then d.putImage x 0 n else d) d).modFn f fun x => { x with rectOff := true }
    (e.fn f).rectOff = true ∧ d.onlyLegs e f x := by
  dsimp only
  rw [Dev.fn_modFn_same]
  have hnear := Dev.lvImages_near (portsOf x) (fun _ hn => hn) (Dev.seqNear.rfl (c := d.legScope f x)) (Dev.drawsOk_seqDraw hq _)
  exact ⟨rfl, (hnear.trans (Dev.seqNear_modFn _)).onlyLegs⟩

/-! ### The end of charging (R392, R395) -/

section
variable (he : d.fnEntry f = some x) (hk : (d.fn f).desc = some k)
include he hk

theorem Dev.chargeStop_eq (cause : Nat) : d.chargeStop f cause =
    if (d.fn f).st = 3 ∨ (d.fn f).st = 4 then d.convDecel f x k cause
    else if (d.fn f).st = 5 then d.modFn f fun x => { x with decCause := if cause = 0xB then 0xB else x.decCause }
    else d := Dev.withDesc_of he hk _

theorem Dev.pilotLoss_eq : d.pilotLoss f =
    if k.charging ∧ 0 < (d.fn f).c.pilotBad ∧ k.per 3000 ≤ (d.fn f).c.pilotBad then d.chargeStop f 0xC else d :=
  Dev.withDesc_of he hk _

theorem Dev.gateClose_eq : d.gateClose f = if k.charging ∧ !d.chargeGate k (d.fn f) then d.chargeStop f 0xB else d :=
  Dev.withDesc_of he hk _

theorem Dev.chargeStop_other (cause : Nat) (hst : (d.fn f).st ≠ 3 ∧ (d.fn f).st ≠ 4 ∧ (d.fn f).st ≠ 5) : d.chargeStop f cause = d := by
  obtain ⟨h3, h4, h5⟩ := hst
  rw [Dev.chargeStop_eq he hk, if_neg (fun hc => hc.elim h3 h4), if_neg h5]

end

/-- DECEL with its cause; without a resistor's land the function's state alone changes. -/
theorem Dev.convDecel_shows (he : d.fnEntry f = some x) (hq : d.quiet) (cause : Nat) :
    let e := d.convDecel f x k cause
    (e.fn f).st = 5 ∧ (e.fn f).decCause = cause ∧ (∀ g, g ≠ f → e.fn g = d.fn g) ∧ e.pt = d.pt ∧ (k.land = none → d.onlyFn e f) := by
  have hseqs : d.seqs (landScope f) x (d.convDecel f x k cause) :=
    ((Dev.seqs.setResistor (c := landScope f) x k false (.inr fun _ => trivial)).trans (.fnGo (c := landScope f) 5)).trans
      (.modFn (c := landScope f) _ fun _ => ⟨rfl, rfl, rfl⟩)
  obtain ⟨hothers, hpt⟩ := Dev.others_of_seqs he hq hseqs
  refine ⟨?_, ?_, hothers, hpt, fun hl => ?_⟩
  · rw [Dev.convDecel, Dev.fn_modFn_same, Dev.fn_fnGo]
    rfl
  · rw [Dev.convDecel, Dev.fn_modFn_same]
    rfl
  · have hsame : d.setResistor f x k false = d := by rw [Dev.setResistor, hl]
    rw [Dev.convDecel, hsame]
    exact (Dev.onlyFn_fnGo 5).modFn _

end Sys2Proof.Machine
end

section
/-! The events of actuator functions (R396 to R402). -/

namespace Sys2Proof.Machine

variable {d e g : Dev} {f n : Nat} {x : FnEntry} {k : FnDesc} {pos : Int}

/-! ### HOLD, and the end of a move -/

theorem Dev.fn_standStill : (d.standStill f).fn f = (d.fn f).modC fun c => { c with vel := 0, ref := (d.fn f).pos } := by
  rw [Dev.standStill, Dev.fn_modFn_same]

theorem Dev.seqs_standStill {c : SeqScope} : d.seqs c x (d.standStill c.f) := .modFn _ fun _ => ⟨rfl, rfl, rfl⟩

theorem Dev.seqs_stopHold {c : SeqScope} (k : FnDesc) : d.seqs c x (d.stopHold c.f k) :=
  (((Dev.seqs.rfl.when (decide (k.ihold = 0)) (h' := fun d => d.fnLegs c.f 0) (.fnLegs 0)).trans (.fnGo 7)).trans
    (.modFn (fun x => { x with returning := false, blocked := false }) fun _ => ⟨rfl, rfl, rfl⟩)).trans Dev.seqs_standStill

/-- The function's state once its legs are off, if they need to be: the flag of ASC alone may differ. -/
theorem Dev.fn_legsIf (he : d.fnEntry f = some x) (b : Bool) :
    ∃ w, (d.when b fun d => d.fnLegs f 0).fn f = { d.fn f with flags := w } ∧ ∀ i, i ≠ 17 → bitOf w i = (d.fn f).flag i := by
  cases b with
  | false => exact ⟨(d.fn f).flags, rfl, fun _ _ => rfl⟩
  | true =>
    refine ⟨((d.fn f).setFlag 17 (decide (0 = 1))).flags, ?_, fun i hi => ?_⟩
    · exact (Dev.fn_fnLegs he 0).trans rfl
    · exact (Fn.flag_setFlag _ 17 i _ (by decide)).trans (if_neg hi)

/-- HOLD, where the function stands. -/
theorem Dev.stopHold_shows (he : d.fnEntry f = some x) :
    let e := d.stopHold f k
    (e.fn f).st = 7 ∧ (e.fn f).pos = (d.fn f).pos ∧ ∀ i, i ≠ 17 → i ≠ 19 → (e.fn f).flag i = (d.fn f).flag i := by
  obtain ⟨w, hw, hflag⟩ := Dev.fn_legsIf he (decide (k.ihold = 0))
  dsimp only
  rw [Dev.stopHold, Dev.fn_standStill, Dev.fn_modFn_same, Dev.fn_fnGo, hw]
  exact ⟨rfl, rfl, fun i h17 h19 => (Fn.flag_enter _ 7 i h19).trans (hflag i h17)⟩

/-- The end of a move: HOLD or IDLE (R396). -/
theorem Dev.arrive_shows (h : d.sequences f x k) :
    let e := d.arrive f k
    (e.fn f).st = (if (d.fn f).hold then 7 else 0) ∧ (e.fn f).pos = (d.fn f).pos ∧
      ∀ i, i ≠ 17 → i ≠ 19 → (e.fn f).flag i = (d.fn f).flag i := by
  unfold Dev.arrive
  cases (d.fn f).hold with
  | true => exact Dev.stopHold_shows h.entry
  | false =>
    obtain ⟨r, hr⟩ := Dev.fn_fnIdle h.entry (d.fn f).cause
    dsimp only
    rw [if_neg Bool.false_ne_true, if_neg Bool.false_ne_true, hr]
    refine ⟨rfl, rfl, fun i h17 h19 => (Fn.flag_enter _ 0 i h19).trans ?_⟩
    exact (Fn.flag_setFlag _ 17 i _ (by decide)).trans (if_neg h17)

theorem Dev.seqs_arrive {c : SeqScope} (k : FnDesc) : d.seqs c x (d.arrive c.f k) := by
  unfold Dev.arrive
  split
  · exact Dev.seqs_stopHold k
  · exact .fnIdle _

/-! ### The position of an event -/

theorem Dev.fn_seesPos : (d.seesPos f pos).fn f = { d.fn f with pos := pos } := Dev.fn_modFn_same ..

theorem Dev.seqs_seesPos {c : SeqScope} : d.seqs c x (d.seesPos c.f pos) := .modFn _ fun _ => ⟨rfl, rfl, rfl⟩

/-- A change of the function's state that keeps entry and description keeps it a function that the library sequences. -/
theorem Dev.sequences.modFn (h : d.sequences f x k) (act : Fn → Fn)
    (hk : ∀ y, (act y).entry = y.entry ∧ (act y).desc = y.desc ∧ (act y).pcnt = y.pcnt) :
    (d.modFn f act).sequences f x k where
  entry := Dev.fnEntry_of_fn h.entry (by rw [Dev.fn_modFn_same, (hk _).1])
  desc := by rw [Dev.fn_modFn_same, (hk _).2.1, h.desc]
  land := h.land
  quiet := h.quiet

theorem Dev.sequences.seesPos (h : d.sequences f x k) : (d.seesPos f pos).sequences f x k := h.modFn _ fun _ => ⟨rfl, rfl, rfl⟩

theorem Dev.permitted_modFn (act : Fn → Fn) (up : Bool)
    (hp : (act (d.fn f)).permit = (d.fn f).permit ∧ (act (d.fn f)).permitAt = (d.fn f).permitAt) :
    (d.modFn f act).permitted f up = d.permitted f up := by
  obtain ⟨h1, h2⟩ := hp
  rw [Dev.permitted, Dev.fn_modFn_same, h1, h2, Dev.permitted]
  rfl

/-! ### The events -/

section
variable (h : d.sequences f x k)
include h

theorem Dev.arrival_eq : d.arrival f = if k.kind = .actuator ∧ (d.fn f).st = 4 ∧ 10 ≤ (d.fn f).c.arrN then d.arrive f k else d :=
  Dev.withDesc_eq h _

theorem Dev.homingTimeout_eq : d.homingTimeout f =
    if k.kind = .actuator ∧ (d.fn f).st = 3 ∧ k.ac.thome ≤ (d.fn f).timer then d.fnFault f 0xF else d := Dev.withDesc_eq h _

theorem Dev.arrived_shows :
    let e := d.arrive f k
    (e.fn f).st = (if (d.fn f).hold then 7 else 0) ∧ d.onlyLegs e f x := by
  obtain ⟨hst, -, -⟩ := Dev.arrive_shows h
  exact ⟨hst, h.onlyLegs (Dev.seqs_arrive (c := d.legScope f x) k)⟩

/-- The end stop reached by a stall (R398). -/
theorem Dev.atEnd_shows :
    let e := d.atEnd f k
    (e.fn f).st = (if (d.fn f).hold then 7 else 0) ∧ (e.fn f).flag 29 = true ∧ (e.fn f).pos = endOf (d.fn f).up := by
  have h1 := h.modFn (fun x => (x.reference k (endOf x.up)).setFlag 29 true) fun _ => ⟨rfl, rfl, rfl⟩
  obtain ⟨hst, hpos, hflag⟩ := Dev.arrive_shows h1
  rw [Dev.fn_modFn_same] at hst hpos hflag
  exact ⟨hst, (hflag 29 (by decide) (by decide)).trans ((Fn.flag_setFlag _ 29 29 true (by decide)).trans (if_pos rfl)), hpos⟩

/-- Where a homing move ends (R397). -/
theorem Dev.homed_eq : d.homed f k =
    let d1 := d.modFn f fun x => (x.reference k (endOf k.ehome1)).setFlag 28 true
    if ((d.fn f).target - endOf k.ehome1).natAbs ≤ k.tpos ∨ d.permitted f (decide (endOf k.ehome1 < (d.fn f).target)) then
      ((d1.fnGo f 4).modFn f fun x => { x with start := x.pos, up := decide (endOf k.ehome1 < (d.fn f).target) }).standStill f
    else d1.refuseMove f k := by
  unfold Dev.homed
  dsimp only
  rw [Dev.fn_modFn_same, Dev.permitted_modFn _ _ ⟨rfl, rfl⟩]
  rfl

end

theorem Dev.seqs_atEnd {c : SeqScope} (k : FnDesc) : d.seqs c x (d.atEnd c.f k) :=
  (Dev.seqs.modFn (fun x => (x.reference k (endOf x.up)).setFlag 29 true) fun _ => ⟨rfl, rfl, rfl⟩).trans (Dev.seqs_arrive k)

theorem Dev.seqs_refuseMove {c : SeqScope} (k : FnDesc) : d.seqs c x (d.refuseMove c.f k) :=
  (Dev.seqs_stopHold k).trans (.modFn _ fun _ => ⟨rfl, rfl, rfl⟩)

theorem Dev.onlyFn.trans (h : d.onlyFn e f) (h' : e.onlyFn g f) : d.onlyFn g f :=
  ⟨fun i hi => (h'.1 i hi).trans (h.1 i hi), h.2.trans h'.2⟩

theorem Dev.onlyFn_seesPos : d.onlyFn (d.seesPos f pos) f := Dev.onlyFn_modFn _

/-- A homing move whose target stands its permit goes on toward it. -/
theorem Dev.homed_goes (h : d.sequences f x k)
    (hgo : ((d.fn f).target - endOf k.ehome1).natAbs ≤ k.tpos ∨ d.permitted f (decide (endOf k.ehome1 < (d.fn f).target)) = true) :
    let e := d.homed f k
    ((e.fn f).pos = endOf k.ehome1 ∧ (e.fn f).flag 28 = true) ∧ (e.fn f).st = 4 ∧ (e.fn f).start = endOf k.ehome1 ∧
      (e.fn f).up = decide (endOf k.ehome1 < (d.fn f).target) ∧ d.onlyFn e f := by
  dsimp only
  rw [Dev.homed_eq h]
  dsimp only
  rw [if_pos hgo, Dev.fn_standStill, Dev.fn_modFn_same, Dev.fn_fnGo, Dev.fn_modFn_same]
  refine ⟨⟨rfl, ?_⟩, rfl, rfl, rfl, ((Dev.onlyFn_modFn _).trans (Dev.onlyFn_fnGo 4)).trans ((Dev.onlyFn_modFn _).modFn _)⟩
  exact (Fn.flag_enter _ 4 28 (by decide)).trans ((Fn.flag_setFlag _ 28 28 true (by decide)).trans (if_pos rfl))

/-- A homing move whose next move its permit refuses stops and holds. -/
theorem Dev.homed_refused (h : d.sequences f x k)
    (hno : ¬(((d.fn f).target - endOf k.ehome1).natAbs ≤ k.tpos ∨ d.permitted f (decide (endOf k.ehome1 < (d.fn f).target)) = true)) :
    let e := d.homed f k
    ((e.fn f).pos = endOf k.ehome1 ∧ (e.fn f).flag 28 = true) ∧ (e.fn f).st = 7 ∧ (e.fn f).flag 31 = true := by
  have h1 := h.modFn (fun x => (x.reference k (endOf k.ehome1)).setFlag 28 true) fun _ => ⟨rfl, rfl, rfl⟩
  obtain ⟨hst, hpos, hflag⟩ := Dev.stopHold_shows (k := k) h1.entry
  dsimp only
  rw [Dev.homed_eq h]
  dsimp only
  rw [if_neg hno, Dev.refuseMove, Dev.fn_modFn_same]
  rw [Dev.fn_modFn_same] at hpos hflag
  refine ⟨⟨hpos, ?_⟩, hst, (Fn.flag_setFlag _ 31 31 true (by decide)).trans (if_pos rfl)⟩
  exact (Fn.flag_setFlag _ 31 28 true (by decide)).trans
    ((hflag 28 (by decide) (by decide)).trans ((Fn.flag_setFlag _ 28 28 true (by decide)).trans (if_pos rfl)))

theorem Dev.seqs_homed {c : SeqScope} (h : d.sequences c.f x k) : d.seqs c x (d.homed c.f k) := by
  rw [Dev.homed_eq h]
  dsimp only
  have hmet : d.seqs c x (d.modFn c.f fun x => (x.reference k (endOf k.ehome1)).setFlag 28 true) := .modFn _ fun _ => ⟨rfl, rfl, rfl⟩
  split
  · exact hmet.trans (((Dev.seqs.fnGo 4).trans
      (.modFn (fun x => { x with start := x.pos, up := decide (endOf k.ehome1 < (d.fn c.f).target) }) fun _ => ⟨rfl, rfl, rfl⟩)).trans
        Dev.seqs_standStill)
  · exact hmet.trans (Dev.seqs_refuseMove k)

/-! ### A stall (R397 to R399) -/

/-- An obstruction: the legs are off until the retry (R398). -/
def Dev.obstructed (d : Dev) (f : Nat) : Dev :=
  (d.fnLegs f 0).modFn f fun x => ({ x with blocked := true } : Fn).modC fun c => { c with blkN := 0 }

theorem Dev.stall_eq (h : d.sequences f x k) : d.stall f pos =
    if k.kind = .actuator ∧ (d.fn f).st = 3 ∧ stalled k (d.fn f) then (d.seesPos f pos).homed f k
    else if k.kind = .actuator ∧ (d.fn f).st = 4 ∧ !(d.fn f).blocked ∧ stalled k (d.fn f) then
      if nearEnd k { d.fn f with pos := pos } then (d.seesPos f pos).atEnd f k
      else if k.park && (d.fn f).up && decide ((k.ptooth : Int) ≤ pos) then (d.seesPos f pos).modFn f fun x => x.setFlag 30 true
      else if k.nobs ≤ (d.fn f).retries then (d.seesPos f pos).fnFault f 2
      else (d.seesPos f pos).obstructed f
    else d := by
  refine (Dev.withDesc_eq h _).trans ?_
  dsimp only
  rw [Dev.fn_seesPos]
  rfl

theorem Dev.obstructed_shows (he : d.fnEntry f = some x) :
    let e := d.obstructed f
    (e.fn f).blocked = true ∧ (e.fn f).st = (d.fn f).st ∧ (e.fn f).pos = (d.fn f).pos := by
  dsimp only
  rw [Dev.obstructed, Dev.fn_modFn_same, Dev.fn_fnLegs he]
  exact ⟨rfl, rfl, rfl⟩

theorem Dev.seqs_obstructed {c : SeqScope} : d.seqs c x (d.obstructed c.f) := (Dev.seqs.fnLegs 0).trans (.modFn _ fun _ => ⟨rfl, rfl, rfl⟩)

/-! ### The retry, the tooth and a permit that drops (R398, R399, R402) -/

theorem Dev.obstructionRetry_eq (he : d.fnEntry f = some x) (hk : (d.fn f).desc = some k) : d.obstructionRetry f =
    if (d.fn f).blocked ∧ k.per 100000 ≤ (d.fn f).c.blkN then
      d.modFn f fun x => ({ x with blocked := false, retries := x.retries + 1 } : Fn).modC fun c =>
        { c with vel := 0, ref := x.pos, stallN := 0 }
    else d := Dev.withDesc_of he hk _

theorem Dev.toothTimeout_eq (he : d.fnEntry f = some x) (hk : (d.fn f).desc = some k) : d.toothTimeout f =
    if (d.fn f).st = 4 ∧ (d.fn f).flag 30 ∧ k.ac.ttooth ≤ (d.fn f).c.tooN then
      (d.fnGo f 7).modCtr f fun c => { c with tooth := true }
    else d := Dev.withDesc_of he hk _

/-- The function with INTLK set, the position of the event seen. -/
def Dev.interlocked (d : Dev) (f : Nat) (pos : Int) : Dev := (d.seesPos f pos).modFn f fun x => x.setFlag 31 true

theorem Dev.fn_interlocked : (d.interlocked f pos).fn f = ({ d.fn f with pos := pos } : Fn).setFlag 31 true := by
  rw [Dev.interlocked, Dev.fn_modFn_same, Dev.fn_seesPos]

/-- A move whose permit has dropped returns to its start. -/
def Dev.returns (d : Dev) (f : Nat) (pos : Int) : Dev :=
  ((d.interlocked f pos).when (decide ((d.fn f).st = 3)) fun d => d.fnGo f 4).modFn f fun x =>
    { x with target := x.start, up := decide (pos < (d.fn f).start), returning := true }

theorem Dev.permitDrop_eq (h : d.sequences f x k) : d.permitDrop f pos =
    if k.kind = .actuator ∧ ((d.fn f).st = 3 ∨ (d.fn f).st = 4) ∧ !d.permitted f (movesUp k { d.fn f with pos := pos }) then
      if (d.fn f).st = 4 ∧ stalled k (d.fn f) ∧ nearEnd k { d.fn f with pos := pos } then (d.seesPos f pos).atEnd f k
      else if (d.fn f).st = 3 ∧ stalled k (d.fn f) then (d.seesPos f pos).homed f k
      else if k.pdrop = 2 then d.interlocked f pos
      else if k.pdrop = 1 ∧ d.permitted f (decide (pos < (d.fn f).start)) then d.returns f pos
      else (d.interlocked f pos).stopHold f k
    else d := by
  refine (Dev.withDesc_eq h _).trans ?_
  have hp : ∀ up, (d.seesPos f pos).permitted f up = d.permitted f up := fun up => Dev.permitted_modFn _ up ⟨rfl, rfl⟩
  have hp' : ∀ up, ((d.seesPos f pos).modFn f fun x => x.setFlag 31 true).permitted f up = d.permitted f up := fun up =>
    (Dev.permitted_modFn _ up ⟨rfl, rfl⟩).trans (hp up)
  dsimp only
  rw [hp, hp', Dev.fn_seesPos]
  rfl

theorem Dev.returns_shows (hst : (d.fn f).st = 3 ∨ (d.fn f).st = 4) :
    let e := d.returns f pos
    (e.fn f).flag 31 = true ∧ (e.fn f).target = (d.fn f).start ∧ (e.fn f).returning = true ∧ (e.fn f).st = 4 ∧ d.onlyFn e f := by
  have hint : (({ d.fn f with pos := pos } : Fn).setFlag 31 true).flag 31 = true :=
    (Fn.flag_setFlag _ 31 31 true (by decide)).trans (if_pos rfl)
  have honly : d.onlyFn (d.interlocked f pos) f := Dev.onlyFn_seesPos.modFn _
  unfold Dev.returns
  rcases hst with h | h
  · simp only [h, decide_true, Dev.when, if_true]
    rw [Dev.fn_modFn_same, Dev.fn_fnGo, Dev.fn_interlocked]
    exact ⟨(Fn.flag_enter _ 4 31 (by decide)).trans hint, rfl, rfl, rfl, (honly.trans (Dev.onlyFn_fnGo 4)).modFn _⟩
  · simp only [h, Dev.when]
    rw [if_neg (by decide), Dev.fn_modFn_same, Dev.fn_interlocked]
    exact ⟨hint, rfl, rfl, h, honly.modFn _⟩

end Sys2Proof.Machine
end

section
/-! The statement about the events of converters and actuators (R372 to R402, R484). -/

namespace Sys2Proof.Machine

variable {d : Dev} {s : State} {x : FnEntry} {k : FnDesc} {es : List (Int × Int)} {vbus v pos : Int} {p1 p2 p3 : Nat} {f : Fin 32}

theorem exec_topologyDetect : exec (.topologyDetect f p1 p2 p3) s = s.run fun d => d.topologyDetect f p1 p2 p3 := rfl
theorem exec_gridLock : exec (.gridLock f es) s = s.run fun d => d.gridLock f es := rfl
theorem exec_prechargeTimeout : exec (.prechargeTimeout f) s = s.run fun d => d.prechargeTimeout f := rfl
theorem exec_gridLoss : exec (.gridLoss f) s = s.run fun d => d.gridLoss f := rfl
theorem exec_gridResync : exec (.gridResync f) s = s.run fun d => d.gridResync f := rfl
theorem exec_rectifierThreshold : exec (.rectifierThreshold f v) s = s.run fun d => d.rectifier f v := rfl
theorem exec_pilotLoss : exec (.pilotLoss f) s = s.run fun d => d.pilotLoss f := rfl
theorem exec_chargeGateClose : exec (.chargeGateClose f) s = s.run fun d => d.gateClose f := rfl
theorem exec_actuatorArrival : exec (.actuatorArrival f) s = s.run fun d => d.arrival f := rfl
theorem exec_homingTimeout : exec (.homingTimeout f) s = s.run fun d => d.homingTimeout f := rfl
theorem exec_actuatorStall : exec (.actuatorStall f pos) s = s.run fun d => d.stall f pos := rfl
theorem exec_obstructionRetry : exec (.obstructionRetry f) s = s.run fun d => d.obstructionRetry f := rfl
theorem exec_toothTimeout : exec (.toothTimeout f) s = s.run fun d => d.toothTimeout f := rfl
theorem exec_permitDrop : exec (.permitDrop f pos) s = s.run fun d => d.permitDrop f pos := rfl
theorem exec_orderlyStopRampEnd : exec (.orderlyStopRampEnd f es vbus) s = s.run fun d => d.ordRampEnd f es vbus := rfl

/-- A condition that reads false does not stand. -/
theorem not_of_false {b : Bool} (h : b = false) : ¬b = true := by rw [h]; exact Bool.false_ne_true

/-! ### LOCK (R373) -/

theorem gridLock_sets (he : s.dev.fnEntry f = some x) (hk : (s.dev.fn f).desc = some k) (hc : s.dev.clocked = true) (hg : k.kind = .grid)
    (hdue : es.reverse.take k.nlock ≠ [] ∧ k.nlock ≤ es.length) (hall : ∀ y ∈ es.reverse.take k.nlock, locks k y = true) :
    Gives (.gridLock f es) s fun e =>
      (e.fn f).flag 24 = true ∧ (e.fn f).st = (s.dev.fn f).st ∧ s.dev.onlyFn e f := by
  refine .of_run exec_gridLock hc ?_
  rw [Dev.gridLock_eq he hk, if_pos ⟨hg, hdue⟩, if_pos (List.all_eq_true.mpr hall), Dev.fn_modFn_same]
  exact ⟨(Fn.flag_setFlag _ 24 24 true (by decide)).trans (if_pos rfl), rfl, Dev.onlyFn_modFn _⟩

theorem gridLock_clears (he : s.dev.fnEntry f = some x) (hk : (s.dev.fn f).desc = some k) (hc : s.dev.clocked = true) (hg : k.kind = .grid)
    (hdue : es.reverse.take k.nlock ≠ [] ∧ k.nlock ≤ es.length) (hall : ∀ y ∈ es.reverse.take k.nlock, locks k y = false) :
    Gives (.gridLock f es) s fun e =>
      (e.fn f).flag 24 = false ∧ (e.fn f).flag 25 = false ∧ (e.fn f).st = (s.dev.fn f).st ∧ s.dev.onlyFn e f := by
  obtain ⟨y, hy⟩ := List.exists_mem_of_ne_nil _ hdue.1
  have hnone : ((es.reverse.take k.nlock).all fun y => !locks k y) = true :=
    List.all_eq_true.mpr fun z hz => by rw [hall z hz]; rfl
  refine .of_run exec_gridLock hc ?_
  rw [Dev.gridLock_eq he hk, if_pos ⟨hg, hdue⟩,
    if_neg fun h => Bool.false_ne_true ((hall y hy).symm.trans (List.all_eq_true.mp h y hy)), if_pos hnone, Dev.fn_modFn_same]
  refine ⟨?_, (Fn.flag_setFlag _ 25 25 false (by decide)).trans (if_pos rfl), rfl, Dev.onlyFn_modFn _⟩
  exact (Fn.flag_setFlag _ 25 24 false (by decide)).trans ((Fn.flag_setFlag _ 24 24 false (by decide)).trans (if_pos rfl))

theorem gridLock_waits (he : s.dev.fnEntry f = some x) (hk : (s.dev.fn f).desc = some k)
    (hno : ¬(es.reverse.take k.nlock ≠ [] ∧ k.nlock ≤ es.length) ∨
      ((∃ y ∈ es.reverse.take k.nlock, locks k y = true) ∧ ∃ y ∈ es.reverse.take k.nlock, locks k y = false)) :
    exec (.gridLock f es) s = .next s := by
  refine exec_idle_of_run exec_gridLock ?_
  rw [Dev.gridLock_eq he hk]
  split
  · next hdue =>
    obtain ⟨⟨y, hy, hin⟩, z, hz, hout⟩ := hno.resolve_left fun hn => hn hdue.2
    rw [if_neg fun h => Bool.false_ne_true (hout.symm.trans (List.all_eq_true.mp h z hz)), if_neg]
    intro h
    have hy' := List.all_eq_true.mp h y hy
    rw [hin] at hy'
    exact Bool.false_ne_true hy'
  · rfl

/-! ### An actuator's stall and its permit -/

section
variable (h : s.dev.sequences f x k) (hc : s.dev.clocked = true) (hk : k.kind = .actuator)
include h hc hk

theorem stall_homing (hst : (s.dev.fn f).st = 3) (hs : stalled k (s.dev.fn f) = true) :
    Gives (.actuatorStall f pos) s (· = (s.dev.seesPos f pos).homed f k) :=
  .of_run exec_actuatorStall hc (by rw [Dev.stall_eq h, if_pos ⟨hk, hst, hs⟩])

theorem stall_moving (hst : (s.dev.fn f).st = 4) (hb : (s.dev.fn f).blocked = false) (hs : stalled k (s.dev.fn f) = true) :
    Gives (.actuatorStall f pos) s (· =
      if nearEnd k { s.dev.fn f with pos := pos } then (s.dev.seesPos f pos).atEnd f k
      else if k.park && (s.dev.fn f).up && decide ((k.ptooth : Int) ≤ pos) then (s.dev.seesPos f pos).modFn f fun x => x.setFlag 30 true
      else if k.nobs ≤ (s.dev.fn f).retries then (s.dev.seesPos f pos).fnFault f 2
      else (s.dev.seesPos f pos).obstructed f) :=
  .of_run exec_actuatorStall hc (by
    rw [Dev.stall_eq h, if_neg (fun hy => by rw [hst] at hy; exact absurd hy.2.1 (by decide)), if_pos ⟨hk, hst, by rw [hb]; rfl, hs⟩])

theorem permit_dropped (hst : (s.dev.fn f).st = 3 ∨ (s.dev.fn f).st = 4)
    (hp : s.dev.permitted f (movesUp k { s.dev.fn f with pos := pos }) = false) :
    Gives (.permitDrop f pos) s (· =
      if (s.dev.fn f).st = 4 ∧ stalled k (s.dev.fn f) ∧ nearEnd k { s.dev.fn f with pos := pos } then (s.dev.seesPos f pos).atEnd f k
      else if (s.dev.fn f).st = 3 ∧ stalled k (s.dev.fn f) then (s.dev.seesPos f pos).homed f k
      else if k.pdrop = 2 then s.dev.interlocked f pos
      else if k.pdrop = 1 ∧ s.dev.permitted f (decide (pos < (s.dev.fn f).start)) then s.dev.returns f pos
      else (s.dev.interlocked f pos).stopHold f k) :=
  .of_run exec_permitDrop hc (by rw [Dev.permitDrop_eq h, if_pos ⟨hk, hst, by rw [hp]; rfl⟩])

end

/-- The end stop, from the position of the event: what it shows and leaves. -/
theorem Dev.sawEnd_shows (h : d.sequences f x k) :
    let e := (d.seesPos f pos).atEnd f k
    ((e.fn f).st = (if (d.fn f).hold then 7 else 0) ∧ d.onlyLegs e f x) ∧ (e.fn f).flag 29 = true ∧ (e.fn f).pos = endOf (d.fn f).up := by
  obtain ⟨hst, hflag, hpos⟩ := Dev.atEnd_shows (h.seesPos (pos := pos))
  rw [Dev.fn_seesPos] at hst hpos
  exact ⟨⟨hst, h.onlyLegs ((Dev.seqs_seesPos (c := d.legScope f x)).trans (Dev.seqs_atEnd (c := d.legScope f x) k))⟩, hflag, hpos⟩

/-- Whether the move that follows a homing move has its permit, or is none. -/
def Dev.homingGoes (d : Dev) (f : Nat) (k : FnDesc) : Prop :=
  ((d.fn f).target - endOf k.ehome1).natAbs ≤ k.tpos ∨ d.permitted f (decide (endOf k.ehome1 < (d.fn f).target)) = true

theorem Dev.sawHome_goes (h : d.sequences f x k) (hgo : d.homingGoes f k) :
    let e := (d.seesPos f pos).homed f k
    ((e.fn f).pos = endOf k.ehome1 ∧ (e.fn f).flag 28 = true) ∧ (e.fn f).st = 4 ∧ (e.fn f).start = endOf k.ehome1 ∧
      (e.fn f).up = decide (endOf k.ehome1 < (d.fn f).target) ∧ d.onlyFn e f := by
  have hgo' := hgo
  unfold Dev.homingGoes at hgo'
  rw [← Dev.permitted_modFn (f := f) (fun x => { x with pos := pos }) _ ⟨rfl, rfl⟩] at hgo'
  obtain ⟨h1, h2, h3, h4, h5⟩ := Dev.homed_goes (h.seesPos (pos := pos)) (by rw [Dev.fn_seesPos]; exact hgo')
  rw [Dev.fn_seesPos] at h4
  exact ⟨h1, h2, h3, h4, Dev.onlyFn_seesPos.trans h5⟩

theorem Dev.sawHome_refused (h : d.sequences f x k) (hno : ¬d.homingGoes f k) :
    let e := (d.seesPos f pos).homed f k
    ((e.fn f).pos = endOf k.ehome1 ∧ (e.fn f).flag 28 = true) ∧ (e.fn f).st = 7 ∧ (e.fn f).flag 31 = true ∧ d.onlyLegs e f x := by
  have hno' := hno
  unfold Dev.homingGoes at hno'
  rw [← Dev.permitted_modFn (f := f) (fun x => { x with pos := pos }) _ ⟨rfl, rfl⟩] at hno'
  obtain ⟨h1, h2, h3⟩ := Dev.homed_refused (h.seesPos (pos := pos)) (by rw [Dev.fn_seesPos]; exact hno')
  have hseqs : d.seqs (d.legScope f x) x ((d.seesPos f pos).homed f k) :=
    (Dev.seqs_seesPos (c := d.legScope f x)).trans (Dev.seqs_homed (c := d.legScope f x) (h.seesPos (pos := pos)))
  exact ⟨h1, h2, h3, h.onlyLegs hseqs⟩

/-- A move that its permit no longer allows stops where it is, and holds with INTLK. -/
theorem Dev.stopped_where (h : d.sequences f x k) :
    let e := (d.interlocked f pos).stopHold f k
    (e.fn f).flag 31 = true ∧ (e.fn f).pos = pos ∧ (e.fn f).st = 7 ∧ d.onlyLegs e f x := by
  have h1 := (h.seesPos (pos := pos)).modFn (fun x => x.setFlag 31 true) fun _ => ⟨rfl, rfl, rfl⟩
  obtain ⟨hst, hpos, hflag⟩ := Dev.stopHold_shows (d := d.interlocked f pos) (k := k) h1.entry
  rw [Dev.fn_interlocked] at hpos hflag
  have hseqs : d.seqs (d.legScope f x) x ((d.interlocked f pos).stopHold f k) :=
    ((Dev.seqs_seesPos (c := d.legScope f x)).trans
      (.modFn (c := d.legScope f x) (fun x => x.setFlag 31 true) fun _ => ⟨rfl, rfl, rfl⟩)).trans (Dev.seqs_stopHold (c := d.legScope f x) k)
  exact ⟨(hflag 31 (by decide) (by decide)).trans ((Fn.flag_setFlag _ 31 31 true (by decide)).trans (if_pos rfl)), hpos, hst,
    h.onlyLegs hseqs⟩

/-! ### The statement -/

/-- Settles O47, function kind by function kind: each event's conditions, the state and CAUSE it leads to, and what it leaves. -/
theorem converterAndActuatorEvents : Obligations.ConverterAndActuatorEvents := by
  unfold Obligations.ConverterAndActuatorEvents
  intro f v pos vbus p1 p2 p3 es x k s
  dsimp only
  intro he hk hq hc
  refine ⟨fun hg hst hb ht => ⟨fun h3 => ?_, fun h3 h1 => ?_, fun h3 h1 => ?_⟩, fun hno => ?_,
    fun hg => ⟨⟨fun hd ha => gridLock_sets he hk hc hg hd ha, fun hd ha => gridLock_clears he hk hc hg hd ha,
        fun hno => gridLock_waits he hk hno⟩,
      fun hst hr ht => ?_, fun hno => ?_, fun hst hn ht => ?_, fun hno => ?_, fun hno => ?_, fun hst hr hn ht => ?_⟩,
    fun hb => ⟨fun hlo => ?_, fun hlo hhi => ?_, fun hlo hhi => ?_⟩,
    fun hch => ⟨fun hn ht => ⟨fun hst => ?_, fun hst => ?_⟩, fun hno => ?_, fun hgate hst => ?_, fun hgate => ?_⟩,
    fun hno => ⟨?_, ?_⟩,
    fun ha => ?_,
    fun hb ht => ?_, fun hno => ?_, fun hst hf ht => ?_, fun hno => ?_, fun hr hst ht => ?_, fun hno => ?_⟩
  -- the topology
  · refine .of_run exec_topologyDetect hc ?_
    rw [topologyDetect_eq he hk, if_pos ⟨hg, hst, hb, ht⟩, if_pos (by simp [h3]), Dev.fn_modFn_same]
    exact ⟨rfl, hst, Dev.onlyFn_modFn _⟩
  · refine .of_run exec_topologyDetect hc ?_
    rw [topologyDetect_eq he hk, if_pos ⟨hg, hst, hb, ht⟩, if_neg (by simpa [and_assoc] using h3), if_pos (by simp [h1]),
      Dev.fn_modFn_same]
    exact ⟨rfl, hst, Dev.onlyFn_modFn _⟩
  · refine exec_idle_of_run exec_topologyDetect ?_
    rw [topologyDetect_eq he hk, if_pos ⟨hg, hst, hb, ht⟩, if_neg (by simpa [and_assoc] using h3),
      if_neg (by simpa [and_assoc] using h1)]
  · refine exec_idle_of_run exec_topologyDetect ((topologyDetect_eq he hk ..).trans (if_neg fun ⟨hg, hst, hb, ht⟩ => ?_))
    exact hno.elim (· hg) (·.elim (· hst) (·.elim (not_of_false · hb) (Nat.not_lt.mpr ht)))
  -- the grid
  · refine .of_run exec_prechargeTimeout hc ?_
    rw [Dev.prechargeTimeout_eq he hk, if_pos ⟨hg, hst, by rw [hr]; rfl, ht⟩]
    exact Dev.fnFault_shows he hk hq _
  · refine exec_idle_of_run exec_prechargeTimeout ((Dev.prechargeTimeout_eq he hk).trans (if_neg fun ⟨_, hst, hr, ht⟩ => ?_))
    exact hno.elim (Nat.not_lt.mpr ht) (·.elim (fun h => by rw [h] at hr; exact Bool.false_ne_true hr) (· hst))
  · refine .of_run exec_gridLoss hc ?_
    rw [Dev.gridLoss_eq he hk, if_pos ⟨hg, hst, hn, ht⟩]
    exact Dev.gridLost_shows he hk hq
  · refine exec_idle_of_run exec_gridLoss ((Dev.gridLoss_eq he hk).trans (if_neg fun ⟨_, hst, hn, ht⟩ => ?_))
    exact hno.elim (fun h => hst.elim h.1 h.2) (·.elim (fun h => Nat.ne_of_gt hn h) (Nat.not_lt.mpr ht))
  · refine exec_idle_of_run exec_gridResync ((Dev.gridResync_eq he hk).trans (if_neg fun ⟨hst, hr, hn, ht⟩ => ?_))
    exact hno.elim (· hst) (·.elim (not_of_false · hr) (·.elim (fun h => Nat.ne_of_gt hn h) (Nat.not_lt.mpr ht)))
  · refine .of_run exec_gridResync hc ?_
    rw [Dev.gridResync_eq he hk, if_pos ⟨hst, hr, hn, ht⟩, Dev.fn_modFn_same]
    exact ⟨rfl, hst, rfl, Dev.onlyFn_modFn _⟩
  -- the synchronous rectifier
  · refine .of_run exec_rectifierThreshold hc ?_
    rw [Dev.rectifier_eq he hk, if_pos hb, if_pos hlo]
    exact Dev.rectifierOff_shows hq
  · refine .of_run exec_rectifierThreshold hc ?_
    rw [Dev.rectifier_eq he hk, if_pos hb, if_neg (Int.not_lt.mpr hlo), if_pos hhi, Dev.fn_modFn_same]
    exact ⟨rfl, Dev.onlyFn_modFn _⟩
  · refine exec_idle_of_run exec_rectifierThreshold ?_
    rw [Dev.rectifier_eq he hk, if_pos hb, if_neg (Int.not_lt.mpr hlo), if_neg (Int.not_lt.mpr hhi)]
  -- the end of charging
  · refine .of_run exec_pilotLoss hc ?_
    rw [Dev.pilotLoss_eq he hk, if_pos ⟨hch, hn, ht⟩, Dev.chargeStop_eq he hk, if_pos hst]
    exact Dev.convDecel_shows he hq _
  · refine .of_run exec_pilotLoss hc ?_
    rw [Dev.pilotLoss_eq he hk, if_pos ⟨hch, hn, ht⟩, Dev.chargeStop_eq he hk, if_neg (by rw [hst]; decide), if_pos hst,
      Dev.fn_modFn_same]
    exact ⟨hst, rfl, (Dev.onlyFn_modFn _).1, rfl, fun _ => Dev.onlyFn_modFn _⟩
  · refine exec_idle_of_run exec_pilotLoss ((Dev.pilotLoss_eq he hk).trans (if_neg fun ⟨_, hn, ht⟩ => ?_))
    exact hno.elim (fun h => Nat.ne_of_gt hn h) (Nat.not_lt.mpr ht)
  · refine .of_run exec_chargeGateClose hc ?_
    rw [Dev.gateClose_eq he hk, if_pos ⟨hch, by rw [hgate]; rfl⟩, Dev.chargeStop_eq he hk]
    by_cases hrun : (s.dev.fn f).st = 3 ∨ (s.dev.fn f).st = 4
    · rw [if_pos hrun]
      exact Dev.convDecel_shows he hq _
    · have hdec : (s.dev.fn f).st = 5 := by
        rcases hst with h | h | h
        · exact absurd (.inl h) hrun
        · exact absurd (.inr h) hrun
        · exact h
      rw [if_neg hrun, if_pos hdec, Dev.fn_modFn_same]
      exact ⟨hdec, rfl, (Dev.onlyFn_modFn _).1, rfl, fun _ => Dev.onlyFn_modFn _⟩
  · refine exec_idle_of_run exec_chargeGateClose ((Dev.gateClose_eq he hk).trans (if_neg fun ⟨_, hy⟩ => ?_))
    rw [hgate] at hy
    exact Bool.false_ne_true hy
  · refine exec_idle_of_run exec_pilotLoss ((Dev.pilotLoss_eq he hk).trans ?_)
    split
    · next hy => exact Dev.chargeStop_other he hk _ (hno.resolve_left fun h => not_of_false h hy.1)
    · rfl
  · refine exec_idle_of_run exec_chargeGateClose ((Dev.gateClose_eq he hk).trans ?_)
    split
    · next hy => exact Dev.chargeStop_other he hk _ (hno.resolve_left fun h => not_of_false h hy.1)
    · rfl
  -- the actuators
  · have h : s.dev.sequences f x k := ⟨he, hk, .inr ⟨by rw [ha]; decide, by rw [ha]; decide⟩, hq⟩
    refine ⟨fun hst hn => ?_, fun hno => ?_, fun hst ht => ?_, fun hno => ?_, fun hno => ?_,
      fun hs => ⟨fun hst => ⟨fun hgo => ?_, fun hgo => ?_⟩,
        fun hst hb => ⟨fun hend => ?_, fun hend htooth => ?_, fun hend htooth hr => ?_, fun hend htooth hr => ?_⟩⟩,
      fun hst => ⟨fun hp => ?_, fun hp => ⟨fun hend => ?_, fun hhome hgo => ?_, fun hhome hgo => ?_, fun hend hhome hd => ?_,
        fun hend hhome hd hback => ?_, fun hend hhome hd hback => ?_⟩⟩⟩
    · refine .of_run exec_actuatorArrival hc ?_
      rw [Dev.arrival_eq h, if_pos ⟨ha, hst, hn⟩]
      exact Dev.arrived_shows h
    · refine exec_idle_of_run exec_actuatorArrival ((Dev.arrival_eq h).trans (if_neg fun ⟨_, hst, hn⟩ => ?_))
      exact hno.elim (Nat.not_lt.mpr hn) (· hst)
    · refine .of_run exec_homingTimeout hc ?_
      obtain ⟨h1, h2, -, -, h3⟩ := Dev.fnFaultAt_shows h 0xF (s.dev.fnSafe f)
      rw [Dev.homingTimeout_eq h, if_pos ⟨ha, hst, ht⟩, Dev.fnFault]
      exact ⟨h1, h2, h3⟩
    · refine exec_idle_of_run exec_homingTimeout ((Dev.homingTimeout_eq h).trans (if_neg fun ⟨_, hst, ht⟩ => ?_))
      exact hno.elim (· hst) (Nat.not_lt.mpr ht)
    -- a stall
    · refine exec_idle_of_run exec_actuatorStall ?_
      rw [Dev.stall_eq h, if_neg (fun ⟨_, hst, hs⟩ => hno.elim (not_of_false · hs) (·.1 hst)),
        if_neg fun ⟨_, hst, _, hs⟩ => hno.elim (not_of_false · hs) (·.2 hst)]
    · exact (stall_homing h hc ha hst hs).mono fun e he => he ▸ Dev.sawHome_goes h hgo
    · exact (stall_homing h hc ha hst hs).mono fun e he => he ▸ Dev.sawHome_refused h hgo
    · refine (stall_moving h hc ha hst hb hs).mono fun e he => ?_
      rw [if_pos hend] at he
      obtain ⟨h1, h2, h3⟩ := Dev.sawEnd_shows (pos := pos) h
      exact he ▸ ⟨h1, h2, h3⟩
    · refine (stall_moving h hc ha hst hb hs).mono fun e he => ?_
      rw [if_neg (not_of_false hend), if_pos (by simpa [and_assoc] using htooth)] at he
      rw [he, Dev.fn_modFn_same, Dev.fn_seesPos]
      exact ⟨(Fn.flag_setFlag _ 30 30 true (by decide)).trans (if_pos rfl), hst, Dev.onlyFn_seesPos.modFn _⟩
    · refine (stall_moving h hc ha hst hb hs).mono fun e he => ?_
      rw [if_neg (not_of_false hend), if_neg (by simpa [and_assoc] using htooth), if_neg (Nat.not_le.mpr hr)] at he
      obtain ⟨h1, h2, h3⟩ := Dev.obstructed_shows (h.seesPos (pos := pos)).entry
      rw [Dev.fn_seesPos] at h2 h3
      rw [he]
      exact ⟨h1, h2.trans hst, h3, h.onlyLegs
        ((Dev.seqs_seesPos (c := s.dev.legScope f x)).trans (Dev.seqs_obstructed (c := s.dev.legScope f x)))⟩
    · refine (stall_moving h hc ha hst hb hs).mono fun e he => ?_
      rw [if_neg (not_of_false hend), if_neg (by simpa [and_assoc] using htooth), if_pos hr] at he
      obtain ⟨h1, h2, -⟩ := Dev.fnFaultAt_shows (h.seesPos (pos := pos)) 2 ((s.dev.seesPos f pos).fnSafe f)
      rw [he]
      exact ⟨h1, h2, h.onlyLegs ((Dev.seqs_seesPos (c := s.dev.legScope f x)).trans (.fnFault (c := s.dev.legScope f x) 2))⟩
    -- a permit that drops
    · refine exec_idle_of_run exec_permitDrop ((Dev.permitDrop_eq h).trans (if_neg fun ⟨_, _, hy⟩ => ?_))
      rw [hp] at hy
      exact Bool.false_ne_true hy
    · refine (permit_dropped h hc ha hst hp).mono fun e he => ?_
      rw [if_pos hend] at he
      obtain ⟨h1, h2, -⟩ := Dev.sawEnd_shows (pos := pos) h
      exact he ▸ ⟨h1, h2⟩
    · refine (permit_dropped h hc ha hst hp).mono fun e he => ?_
      rw [if_neg (fun hy => by rw [hhome.1] at hy; exact absurd hy.1 (by decide)), if_pos hhome] at he
      obtain ⟨h1, h2, -, -, h3⟩ := Dev.sawHome_goes (pos := pos) h hgo
      exact he ▸ ⟨h1, h2, h3⟩
    · refine (permit_dropped h hc ha hst hp).mono fun e he => ?_
      rw [if_neg (fun hy => by rw [hhome.1] at hy; exact absurd hy.1 (by decide)), if_pos hhome] at he
      exact he ▸ Dev.sawHome_refused h hgo
    · refine (permit_dropped h hc ha hst hp).mono fun e he => ?_
      rw [if_neg hend, if_neg hhome, if_pos hd] at he
      rw [he, Dev.fn_interlocked]
      exact ⟨(Fn.flag_setFlag _ 31 31 true (by decide)).trans (if_pos rfl), rfl, Dev.onlyFn_seesPos.modFn _⟩
    · refine (permit_dropped h hc ha hst hp).mono fun e he => ?_
      rw [if_neg hend, if_neg hhome, if_neg (by rw [hd]; decide), if_pos ⟨hd, hback⟩] at he
      exact he ▸ Dev.returns_shows hst
    · refine (permit_dropped h hc ha hst hp).mono fun e he => ?_
      rw [if_neg hend, if_neg hhome, if_neg hd, if_neg (fun hy => hback hy.1 hy.2)] at he
      exact he ▸ Dev.stopped_where h
  -- the retry, the tooth and the ramp
  · refine .of_run exec_obstructionRetry hc ?_
    rw [Dev.obstructionRetry_eq he hk, if_pos ⟨hb, ht⟩, Dev.fn_modFn_same]
    exact ⟨rfl, rfl, rfl, Dev.onlyFn_modFn _⟩
  · refine exec_idle_of_run exec_obstructionRetry ((Dev.obstructionRetry_eq he hk).trans (if_neg fun ⟨hb, ht⟩ => ?_))
    exact hno.elim (not_of_false · hb) (Nat.not_lt.mpr ht)
  · refine .of_run exec_toothTimeout hc ?_
    rw [Dev.toothTimeout_eq he hk, if_pos ⟨hst, hf, ht⟩, Dev.fn_modCtr, Dev.fn_fnGo]
    exact ⟨rfl, (Fn.flag_enter _ 7 30 (by decide)).trans hf, rfl, (Dev.onlyFn_fnGo 7).modFn _⟩
  · refine exec_idle_of_run exec_toothTimeout ((Dev.toothTimeout_eq he hk).trans (if_neg fun ⟨hst, hf, ht⟩ => ?_))
    exact hno.elim (· hst) (·.elim (not_of_false · hf) (Nat.not_lt.mpr ht))
  · refine .of_run exec_orderlyStopRampEnd hc ?_
    rw [Dev.ordRampEnd_eq he hk, if_pos ⟨hr, hst, ht⟩]
    exact Dev.rampEnded_shows he hk hq _
  · refine exec_idle_of_run exec_orderlyStopRampEnd ((Dev.ordRampEnd_eq he hk _).trans (if_neg fun ⟨hr, hst, ht⟩ => ?_))
    exact hno.elim (not_of_false · hr) (·.elim hst (· ht))

end Sys2Proof.Machine
end

section
/-! What a sequencer reads in a period (R338 to R343, R364 to R368, R388 to R394), and that it stays in its scope. -/

namespace Sys2Proof.Machine

variable {d e g : Dev} {c : SeqScope} {f n : Nat} {x : FnEntry} {k : FnDesc} {o : SeqObs}

/-- A function without a sequencer hears no event. -/
theorem Dev.withDesc_none (h : d.fnEntry f = none ∨ (d.fn f).desc = none) (act : FnEntry → FnDesc → Dev) : d.withDesc f act = d := by
  unfold Dev.withDesc
  split
  · next he hk => rcases h with h | h <;> simp_all
  · rfl

theorem Dev.physSpn_lt (lg : Nat) : d.physSpn lg < 32 := by
  have h := bitsOf_lt (d.reg (Reg.DST_SPNMAP (lg / 4))) (8 * (lg % 4) + 4) (8 * (lg % 4))
  rwa [show 8 * (lg % 4) + 4 + 1 - 8 * (lg % 4) = 5 by omega] at h

theorem Dev.loopsOf_spn {l : Nat × Nat} (h : l ∈ d.loopsOf x) : l.1 < 32 := by
  obtain ⟨b, -, rfl⟩ := List.mem_map.mp h
  exact Dev.physSpn_lt _

theorem Dev.fnSpn_lt (e : FnEntry) : d.fnSpn e < 32 := by
  unfold Dev.fnSpn
  split
  · decide
  · next l ls hl => exact Dev.loopsOf_spn (x := e) (hl ▸ List.mem_cons_self)

/-! ### Flags, holds and the settings -/

/-- A scope with the flag registers of the Spindles. -/
def SeqScope.flags (c : SeqScope) : Prop := ∀ p < 32, c.regs (Reg.SPN_FLAGS p)

theorem Dev.seqNear_setReg {a : Nat} (ha : c.regs a) (w : Word) : d.seqNear c (d.setReg a w) :=
  .of_parts (fun _ _ => rfl) rfl (fun b _ hb => Dev.reg_setReg_other _ _ fun hba => hb (hba ▸ ha)) (fun _ _ => rfl) fun _ => rfl

theorem Dev.seqs_raiseLoopFlags (hf : c.flags) {p : Nat} (hp : p < 32) (l : Nat) (m : Word) : d.seqs c x (d.raiseLoopFlags p l m) := by
  unfold Dev.raiseLoopFlags
  split
  · exact .rfl
  split
  · exact .of_stands (.of_parts (fun _ _ => rfl) rfl (fun _ _ _ => rfl) (fun _ _ => rfl) fun _ => rfl) rfl rfl
  · exact .of_stands (Dev.seqNear_setReg (hf p hp) _) rfl rfl

theorem Dev.seqs_libSubst (hf : c.flags) (e : FnEntry) (js : List Nat) : d.seqs c x (d.libSubst e js) := by
  unfold Dev.libSubst
  split
  · next l hl =>
    have hloop : d.seqs c x (d.modLp l.1 l.2 fun y => { y with libSub := js }) :=
      .of_stands (.of_parts (fun _ _ => rfl) rfl (fun _ _ _ => rfl) (fun _ _ => rfl) fun _ => rfl) rfl rfl
    exact hloop.trans (Dev.seqs_raiseLoopFlags hf (Dev.loopsOf_spn (List.mem_of_getLast? hl)) _ _)
  · exact .rfl

theorem Dev.seqNear_endLinkHold (hn : c.ports n) : d.seqNear c (d.endLinkHold n) where
  others _ _ := rfl
  ports m := by
    rw [Dev.endLinkHold, Dev.port_modPort]
    split
    · next hm => exact ⟨⟨_, by rw [hm]⟩, fun hno => absurd (hm ▸ hn) hno⟩
    · exact ⟨⟨(d.port m).linkHold, rfl⟩, fun _ => rfl⟩
  pt hno := absurd hn (hno n)
  regs _ _ _ := rfl
  bytes _ _ := rfl
  hanks _ := rfl

/-- Every hold of the function's legs ends (R15). -/
theorem Dev.seqs_fnEndHolds (hp : ∀ n ∈ portsOf x, c.ports n) : d.seqs c x (d.fnEndHolds c.f) := fun hd => by
  have hall : d.seqs c x ((portsOf x).foldl (fun d n => d.endLinkHold n) d) :=
    .foldl (fun n hn e => .of_stands (Dev.seqNear_endLinkHold (hp n hn)) rfl rfl) d
  unfold Dev.fnEndHolds
  rw [hd.entry]
  exact hall hd

theorem Dev.fn_fnEndHolds (i : Nat) : (d.fnEndHolds f).fn i = d.fn i := by
  unfold Dev.fnEndHolds
  split
  · rfl
  · exact Dev.foldl_stands (fun d : Dev => d.fn i) (f := fun d n => d.endLinkHold n) (fun _ _ => rfl) _ _

/-- The settings of its description (R343). -/
theorem Dev.seqs_takeEntries (e : FnEntry) (hk : (d.fn c.f).desc = some k) : d.seqs c x (d.takeEntries c.f e k) := by
  unfold Dev.takeEntries
  split
  · dsimp only
    split
    · exact .modFn_desc _ rfl (fun _ _ => rfl) fun k' hk' => ⟨k, hk, by cases hk'; rfl, by cases hk'; rfl⟩
    · exact .rfl
  · exact .rfl

/-! ### The command (R338) -/

/-- The function's state once the command is taken, or ignored with REJ. -/
def Fn.commanded (y : Fn) (now : Nat) (w0 w1 w2 : Word) : Fn :=
  let rej := decide (bitsOf w0 31 6 ≠ 0)
  let y1 := if rej then y
    else { y with cmd := w0, spd := if w1.toInt < 0 then 0 else w1,
                  clrDue := y.clrDue || (decide (y.st = 8) && bitOf w0 5 && !bitOf y.cmd 5 && !bitOf w0 0) }
  let z := if bitsOf w2 31 16 = bitsOf y.permit 31 16 then { y1 with permit := w2 }
    else { y1 with permit := w2, permitAt := now }
  z.setFlag 20 rej

theorem Dev.takeCommand_eq (w0 w1 w2 : Word) : d.takeCommand f w0 w1 w2 = d.modFn f fun y => y.commanded d.now w0 w1 w2 := rfl

theorem Fn.commanded_keeps (y : Fn) (now : Nat) (w0 w1 w2 : Word) :
    let z := y.commanded now w0 w1 w2
    (z.entry = y.entry ∧ z.desc = y.desc ∧ z.pcnt = y.pcnt) ∧ z.st = y.st ∧ z.waitN = y.waitN ∧ z.ordRamp = y.ordRamp ∧ z.c = y.c := by
  unfold Fn.commanded
  dsimp only
  split <;> split <;> exact ⟨⟨rfl, rfl, rfl⟩, rfl, rfl, rfl, rfl⟩

theorem Dev.seqs_takeCommand (w0 w1 w2 : Word) : d.seqs c x (d.takeCommand c.f w0 w1 w2) := by
  rw [Dev.takeCommand_eq]
  exact .modFn _ fun y => (Fn.commanded_keeps y d.now w0 w1 w2).1

/-! ### The command curve (R334) -/

theorem Dev.seqs_fnLoad (e : FnEntry) (a n : Nat) : d.seqs c x (d.fnLoad e a n).1 := .load _ _ _ _

theorem Dev.pl_fnLoad (e : FnEntry) (a n : Nat) : (d.fnLoad e a n).1.pl = d.pl := Dev.pl_load ..

theorem Dev.seqs_curveX (hf : c.flags) (e : FnEntry) (v : Curve) (code : Nat) : d.seqs c x (d.curveX e v code).1 := by
  unfold Dev.curveX
  split
  · exact .rfl
  · dsimp only
    split
    · split
      · exact Dev.seqs_fnLoad _ _ _
      split
      · split
        · next l ls hl =>
          exact (Dev.seqs_fnLoad e _ 16).trans (Dev.seqs_raiseLoopFlags hf (Dev.loopsOf_spn (x := e) (hl ▸ List.mem_cons_self)) l.2 fDZ)
        · exact Dev.seqs_fnLoad _ _ _
      · exact Dev.seqs_fnLoad _ _ _
    · exact Dev.seqs_fnLoad _ _ _
  · dsimp only
    split <;> exact Dev.seqs_fnLoad _ _ _

theorem Dev.pl_raiseLoopFlags (p l : Nat) (m : Word) : (d.raiseLoopFlags p l m).pl = d.pl := by
  unfold Dev.raiseLoopFlags
  split
  · rfl
  split <;> rfl

theorem Dev.pl_curveX (e : FnEntry) (v : Curve) (code : Nat) : (d.curveX e v code).1.pl = d.pl := by
  unfold Dev.curveX
  split
  · rfl
  · dsimp only
    split
    · split
      · exact Dev.pl_fnLoad ..
      split
      · split
        · exact (Dev.pl_raiseLoopFlags ..).trans (Dev.pl_fnLoad ..)
        · exact Dev.pl_fnLoad ..
      · exact Dev.pl_fnLoad ..
    · exact Dev.pl_fnLoad ..
  · dsimp only
    split <;> exact Dev.pl_fnLoad ..

theorem Dev.seqs_takeCurve (hf : c.flags) (e : FnEntry) (k : FnDesc) (code : Nat) : d.seqs c x (d.takeCurve c.f e k code) := by
  unfold Dev.takeCurve
  split
  · exact .rfl
  · exact (Dev.seqs_curveX hf e _ code).trans (.modFn _ fun _ => ⟨rfl, rfl, rfl⟩)

/-! ### What the loops measured (R340, R371) -/

theorem Dev.seqs_noteExecs (k : FnDesc) (xs : List (Int × Int)) (vbus : Int) : d.seqs c x (d.noteExecs c.f k xs vbus) := by
  have hnote : d.seqs c x (d.setFn c.f ((d.fn c.f).observed k xs).1) :=
    .modFn_desc (fun _ => ((d.fn c.f).observed k xs).1) rfl (fun _ _ => rfl) fun k' hk' => ⟨k', hk', rfl, rfl⟩
  unfold Dev.noteExecs
  dsimp only
  split
  · exact hnote.trans (Dev.seqs_startRecatch _)
  · exact hnote

theorem Dev.seqs_substitution (hf : c.flags) (e : FnEntry) (o : SeqObs) : d.seqs c x (d.substitution c.f e o) := by
  unfold Dev.substitution
  split
  · exact Dev.seqs_libSubst hf _ _
  split
  · exact (Dev.seqs_libSubst hf e []).trans (.modCtr _)
  · exact (Dev.seqs_libSubst hf e [_]).trans (.modCtr _)

theorem Dev.seqs_pilotRecord (e : FnEntry) : d.seqs c x (d.pilotRecord e).1 := by
  unfold Dev.pilotRecord
  dsimp only
  split <;> exact Dev.seqs_fnLoad _ _ _

theorem Dev.seqs_notePilot (e : FnEntry) (k : FnDesc) (o : ChargeObs) : d.seqs c x (d.notePilot c.f e k o) := by
  unfold Dev.notePilot
  exact (Dev.seqs_pilotRecord e).trans (.modFn _ fun _ => ⟨rfl, rfl, rfl⟩)

theorem Dev.seqs_noteBattery (e : FnEntry) (k : FnDesc) (o : ChargeObs) : d.seqs c x (d.noteBattery c.f e k o) := by
  unfold Dev.noteBattery
  dsimp only
  split
  · exact .modCtr _
  · split
    · exact (Dev.seqs_fnLoad _ _ _).trans (.modCtr _)
    · exact (Dev.seqs_fnLoad _ _ _).trans (.modCtr _)

/-- One more period: its counter, and what the sequencer shows of the loops (R340). -/
def Dev.periodCounted (d : Dev) (f : Nat) (o : SeqObs) : Dev :=
  d.modFn f fun y =>
    ({ y with speed := o.speed, tq := o.demand, pos := o.pos, pcnt := y.pcnt + 1, timer := y.timer + 1 } : Fn).modC
      fun c => { c with vbus := o.vbus }

/-- The saturation of the duties shows (R340). -/
def Dev.limitShown (d : Dev) (f : Nat) (o : SeqObs) : Dev := d.modFn f fun y => y.setFlag 18 o.dlim

/-- The grid of a converter's period (R374). -/
def Dev.gridNoted (d : Dev) (f : Nat) (k : FnDesc) (o : SeqObs) : Dev := d.modFn f fun y => y.noteGrid k o.g

/-- The pilot, the battery and the charge gate of a period (R388 to R394). -/
def Dev.chargeNoted (d : Dev) (f : Nat) (e : FnEntry) (k : FnDesc) (o : SeqObs) : Dev :=
  let d4 := (d.when k.land.isSome fun d => d.notePilot f e k o.c).noteBattery f e k o.c
  d4.modFn f fun y => y.setFlag 26 (d4.chargeGate k y)

/-- What the measurements of a period tell a function, by its kind. -/
def Dev.measured (d : Dev) (f : Nat) (e : FnEntry) (k : FnDesc) (o : SeqObs) : Dev :=
  let d2 := d.limitShown f o
  match k.kind with
  | .motor => ((d2.noteExecs f k o.execs o.vbus).modFn f fun y => y.noteMotor k o).substitution f e o
  | .actuator => d2.modFn f fun x => let y := x.noteMove k o; { y with speed := y.pos }
  | _ => if k.charging then (d2.gridNoted f k o).chargeNoted f e k o else d2.gridNoted f k o

theorem Dev.takeObs_eq (e : FnEntry) (k : FnDesc) (o : SeqObs) : d.takeObs f e k o = (d.periodCounted f o).measured f e k o := rfl

theorem Dev.seqs_periodCounted (h : c.pcnt = none) (o : SeqObs) : d.seqs c x (d.periodCounted c.f o) :=
  .modFn_desc _ rfl (fun _ hn => absurd (h.symm.trans hn) nofun) fun k' hk' => ⟨k', hk', rfl, rfl⟩

theorem Fn.noteMove_keeps (k : FnDesc) (y : Fn) (o : SeqObs) :
    let z := y.noteMove k o
    (z.entry = y.entry ∧ z.desc = y.desc ∧ z.pcnt = y.pcnt) ∧ z.st = y.st := by
  unfold Fn.noteMove
  dsimp only
  split <;> exact ⟨⟨rfl, rfl, rfl⟩, rfl⟩

theorem Dev.seqs_limitShown (o : SeqObs) : d.seqs c x (d.limitShown c.f o) := .modFn _ fun _ => ⟨rfl, rfl, rfl⟩

theorem Dev.seqs_gridNoted (k : FnDesc) (o : SeqObs) : d.seqs c x (d.gridNoted c.f k o) := .modFn _ fun _ => ⟨rfl, rfl, rfl⟩

theorem Dev.seqs_chargeNoted (e : FnEntry) (k : FnDesc) (o : SeqObs) : d.seqs c x (d.chargeNoted c.f e k o) := by
  have hpilot : d.seqs c x (d.when k.land.isSome fun d => d.notePilot c.f e k o.c) := Dev.seqs.rfl.when _ (Dev.seqs_notePilot e k o.c)
  unfold Dev.chargeNoted
  exact (hpilot.trans (Dev.seqs_noteBattery e k o.c)).trans (.modFn _ fun _ => ⟨rfl, rfl, rfl⟩)

theorem Dev.seqs_measured (hf : c.flags) (e : FnEntry) (k : FnDesc) (o : SeqObs) : d.seqs c x (d.measured c.f e k o) := by
  have hgrid := (Dev.seqs_limitShown (d := d) (c := c) (x := x) o).trans (Dev.seqs_gridNoted k o)
  have hpower : d.seqs c x (if k.charging then ((d.limitShown c.f o).gridNoted c.f k o).chargeNoted c.f e k o
      else (d.limitShown c.f o).gridNoted c.f k o) := by
    split
    · exact hgrid.trans (Dev.seqs_chargeNoted e k o)
    · exact hgrid
  unfold Dev.measured
  cases k.kind with
  | motor =>
    have hexecs := (Dev.seqs_limitShown (d := d) (c := c) (x := x) o).trans (Dev.seqs_noteExecs k o.execs o.vbus)
    have hnote : d.seqs c x (((d.limitShown c.f o).noteExecs c.f k o.execs o.vbus).modFn c.f fun y => y.noteMotor k o) :=
      hexecs.trans (.modFn _ fun _ => ⟨rfl, rfl, rfl⟩)
    exact hnote.trans (Dev.seqs_substitution hf e o)
  | actuator => exact (Dev.seqs_limitShown o).trans (.modFn _ fun y => (Fn.noteMove_keeps k y o).1)
  | grid => exact hpower
  | bridge => exact hpower

end Sys2Proof.Machine
end

section
/-! What a period's readings leave of a function's state: where it is, what it waits for, and its command. -/

namespace Sys2Proof.Machine

variable {d e g : Dev} {f n : Nat} {x : FnEntry} {k : FnDesc} {o : SeqObs} {y z : Fn}

/-- The state of a function, what it waits for, and its command. -/
structure Fn.awaits (y z : Fn) : Prop where
  entry : z.entry = y.entry
  st : z.st = y.st
  waitN : z.waitN = y.waitN
  ordRamp : z.ordRamp = y.ordRamp
  clrDue : z.clrDue = y.clrDue
  cmd : z.cmd = y.cmd
  legsDue : z.c.legsDue = y.c.legsDue
  curveOff : z.c.curveOff = y.c.curveOff

theorem Fn.awaits.rfl : y.awaits y := ⟨Eq.refl _, Eq.refl _, Eq.refl _, Eq.refl _, Eq.refl _, Eq.refl _, Eq.refl _, Eq.refl _⟩

theorem Fn.awaits.trans {w : Fn} (h : y.awaits z) (h' : z.awaits w) : y.awaits w where
  entry := h'.entry.trans h.entry
  st := h'.st.trans h.st
  waitN := h'.waitN.trans h.waitN
  ordRamp := h'.ordRamp.trans h.ordRamp
  clrDue := h'.clrDue.trans h.clrDue
  cmd := h'.cmd.trans h.cmd
  legsDue := h'.legsDue.trans h.legsDue
  curveOff := h'.curveOff.trans h.curveOff

/-- A device in which the function stands as it stood. -/
def Dev.awaits (d : Dev) (f : Nat) (e : Dev) : Prop := (d.fn f).awaits (e.fn f)

theorem Dev.awaits.trans (h : d.awaits f e) (h' : e.awaits f g) : d.awaits f g := Fn.awaits.trans h h'

theorem Dev.awaits_rfl : d.awaits f d := .rfl

theorem Dev.awaits_of_pl (h : e.pl = d.pl) : d.awaits f e := by
  rw [Dev.awaits, show e.fn f = d.fn f by rw [Dev.fn, h, Dev.fn]]
  exact .rfl

theorem Dev.awaits.modFn (h : d.awaits f e) (act : Fn → Fn) (hk : (e.fn f).awaits (act (e.fn f))) : d.awaits f (e.modFn f act) := by
  refine h.trans ?_
  rw [Dev.awaits, Dev.fn_modFn_same]
  exact hk

theorem Dev.awaits.when (h : d.awaits f e) (b : Bool) {h' : Dev → Dev} (hh : e.awaits f (h' e)) : d.awaits f (e.when b h') := by
  cases b
  · exact h
  · exact h.trans hh

/-! ### Settings and measurements -/

theorem Dev.awaits_takeEntries (e : FnEntry) (k : FnDesc) : d.awaits f (d.takeEntries f e k) := by
  unfold Dev.takeEntries
  split
  · dsimp only
    split
    · exact Dev.awaits_rfl.modFn _ ⟨rfl, rfl, rfl, rfl, rfl, rfl, rfl, rfl⟩
    · exact .rfl
  · exact .rfl

theorem Fn.observed_awaits (k : FnDesc) (y : Fn) (xs : List (Int × Int)) : y.awaits (y.observed k xs).1 := by
  obtain ⟨-, h1, h2⟩ := FnCtr.executes_keeps k y.c xs
  exact ⟨rfl, rfl, rfl, rfl, rfl, rfl, h1, h2⟩

theorem Dev.awaits_noteExecs (he : d.fnEntry f = some x) (k : FnDesc) (xs : List (Int × Int)) (vbus : Int) :
    d.awaits f (d.noteExecs f k xs vbus) := by
  have hnote : d.awaits f (d.setFn f ((d.fn f).observed k xs).1) := by
    rw [Dev.setFn_eq_modFn]
    exact Dev.awaits_rfl.modFn _ (Fn.observed_awaits ..)
  unfold Dev.noteExecs
  dsimp only
  split
  · refine hnote.trans ?_
    rw [Dev.awaits, Dev.fn_startRecatch (Dev.fnEntry_of_fn he hnote.entry)]
    exact ⟨rfl, rfl, rfl, rfl, rfl, rfl, rfl, rfl⟩
  · exact hnote

theorem Dev.pl_libSubst (e : FnEntry) (js : List Nat) : (d.libSubst e js).pl = d.pl := by
  unfold Dev.libSubst
  split
  · exact Dev.pl_raiseLoopFlags ..
  · rfl

theorem Dev.awaits_substitution (e : FnEntry) (o : SeqObs) : d.awaits f (d.substitution f e o) := by
  unfold Dev.substitution
  split
  · exact Dev.awaits_of_pl (Dev.pl_libSubst ..)
  split
  · exact (Dev.awaits_of_pl (Dev.pl_libSubst ..)).modFn _ ⟨rfl, rfl, rfl, rfl, rfl, rfl, rfl, rfl⟩
  · exact (Dev.awaits_of_pl (Dev.pl_libSubst ..)).modFn _ ⟨rfl, rfl, rfl, rfl, rfl, rfl, rfl, rfl⟩

theorem Dev.pl_pilotRecord (e : FnEntry) : (d.pilotRecord e).1.pl = d.pl := by
  unfold Dev.pilotRecord
  dsimp only
  split <;> exact Dev.pl_fnLoad ..

theorem Dev.awaits_notePilot (e : FnEntry) (k : FnDesc) (o : ChargeObs) : d.awaits f (d.notePilot f e k o) := by
  unfold Dev.notePilot
  exact (Dev.awaits_of_pl (Dev.pl_pilotRecord e)).modFn _ ⟨rfl, rfl, rfl, rfl, rfl, rfl, rfl, rfl⟩

theorem Dev.awaits_noteBattery (e : FnEntry) (k : FnDesc) (o : ChargeObs) : d.awaits f (d.noteBattery f e k o) := by
  unfold Dev.noteBattery
  dsimp only
  split
  · exact Dev.awaits_rfl.modFn _ ⟨rfl, rfl, rfl, rfl, rfl, rfl, rfl, rfl⟩
  · split
    · exact (Dev.awaits_of_pl (Dev.pl_fnLoad ..)).modFn _ ⟨rfl, rfl, rfl, rfl, rfl, rfl, rfl, rfl⟩
    · exact (Dev.awaits_of_pl (Dev.pl_fnLoad ..)).modFn _ ⟨rfl, rfl, rfl, rfl, rfl, rfl, rfl, rfl⟩

theorem Dev.awaits_periodCounted (o : SeqObs) : d.awaits f (d.periodCounted f o) :=
  Dev.awaits_rfl.modFn _ ⟨rfl, rfl, rfl, rfl, rfl, rfl, rfl, rfl⟩

theorem Fn.noteMove_awaits (k : FnDesc) (y : Fn) (o : SeqObs) : y.awaits (y.noteMove k o) := by
  unfold Fn.noteMove
  dsimp only
  split <;> exact ⟨rfl, rfl, rfl, rfl, rfl, rfl, rfl, rfl⟩

theorem Dev.awaits_chargeNoted (e : FnEntry) (k : FnDesc) (o : SeqObs) : d.awaits f (d.chargeNoted f e k o) := by
  have hpilot : d.awaits f (d.when k.land.isSome fun d => d.notePilot f e k o.c) := Dev.awaits_rfl.when _ (Dev.awaits_notePilot e k o.c)
  unfold Dev.chargeNoted
  exact (hpilot.trans (Dev.awaits_noteBattery e k o.c)).modFn _ ⟨rfl, rfl, rfl, rfl, rfl, rfl, rfl, rfl⟩

theorem Dev.awaits_measured (he : d.fnEntry f = some x) (e : FnEntry) (k : FnDesc) (o : SeqObs) : d.awaits f (d.measured f e k o) := by
  have hlim : d.awaits f (d.limitShown f o) := Dev.awaits_rfl.modFn _ ⟨rfl, rfl, rfl, rfl, rfl, rfl, rfl, rfl⟩
  have hgrid : d.awaits f ((d.limitShown f o).gridNoted f k o) := hlim.modFn _ ⟨rfl, rfl, rfl, rfl, rfl, rfl, rfl, rfl⟩
  have hpower : d.awaits f (if k.charging then ((d.limitShown f o).gridNoted f k o).chargeNoted f e k o
      else (d.limitShown f o).gridNoted f k o) := by
    split
    · exact hgrid.trans (Dev.awaits_chargeNoted e k o)
    · exact hgrid
  unfold Dev.measured
  cases k.kind with
  | motor =>
    have hexecs := hlim.trans (Dev.awaits_noteExecs (Dev.fnEntry_of_fn he hlim.entry) k o.execs o.vbus)
    have hnote : d.awaits f (((d.limitShown f o).noteExecs f k o.execs o.vbus).modFn f fun y => y.noteMotor k o) :=
      hexecs.modFn _ ⟨rfl, rfl, rfl, rfl, rfl, rfl, rfl, rfl⟩
    exact hnote.trans (Dev.awaits_substitution e o)
  | actuator =>
    refine hlim.modFn _ ?_
    obtain ⟨h1, h2, h3, h4, h5, h6, h7, h8⟩ := Fn.noteMove_awaits k ((d.limitShown f o).fn f) o
    exact ⟨h1, h2, h3, h4, h5, h6, h7, h8⟩
  | grid => exact hpower
  | bridge => exact hpower

/-- The period is counted, whatever else the measurements change. -/
theorem Dev.awaits_takeObs (he : d.fnEntry f = some x) (e : FnEntry) (k : FnDesc) (o : SeqObs) : d.awaits f (d.takeObs f e k o) := by
  have hcount := Dev.awaits_periodCounted (d := d) (f := f) o
  exact hcount.trans (Dev.awaits_measured (Dev.fnEntry_of_fn he hcount.entry) e k o)

end Sys2Proof.Machine
end

section
/-! What a sequencer does in a period (R345 to R402, R369), and that it stays in its scope. -/

namespace Sys2Proof.Machine

variable {d e g : Dev} {c : SeqScope} {f n : Nat} {x : FnEntry} {k : FnDesc} {o : SeqObs} {cstop : Bool}

/-! ### Motors -/

theorem Dev.seqs_imposed (k : FnDesc) (goal : Int) : d.seqs c x (d.imposed c.f k goal) := .modFn _ fun _ => ⟨rfl, rfl, rfl⟩

theorem Dev.seqs_motorDecel (k : FnDesc) (o : SeqObs) : d.seqs c x (d.motorDecel c.f k o) := by
  unfold Dev.motorDecel
  dsimp only
  generalize k.step (k.wr (if (d.fn c.f).qs then k.aqs else k.adec)) = a0
  generalize decelRate a0 k.vdec k.vdecw o.vbus = a
  have hrate := Dev.seqs.modFn (d := d) (c := c) (x := x)
    (fun y => ({ y with dem := toward y.dem 0 a } : Fn).setFlag 19 (decide (a < a0))) fun _ => ⟨rfl, rfl, rfl⟩
  have hstop := hrate.trans (.modCtr fun c => { c with stopN := if o.speed.natAbs < k.wr k.nstop then c.stopN + 1 else 0 })
  split
  · exact hstop.trans (Dev.seqs_imposed k _)
  split
  · exact hstop.trans (.modFn _ fun _ => ⟨rfl, rfl, rfl⟩)
  · exact hstop

/-- Leaving IDLE: the holds of the legs end, the legs are off, and the next state is entered. -/
theorem Dev.seqs_leaves (hp : ∀ n ∈ portsOf x, c.ports n) : d.seqs c x (((d.fnEndHolds c.f).fnLegs c.f 0).fnGo c.f 1) :=
  ((Dev.seqs_fnEndHolds hp).trans (.fnLegs 0)).trans (.fnGo 1)

theorem Dev.seqs_motorPeriod (hp : ∀ n ∈ portsOf x, c.ports n) (k : FnDesc) (cstop : Bool) (o : SeqObs) :
    d.seqs c x (d.motorPeriod c.f k cstop o) := by
  have hatt : d.seqs c x (d.modFn c.f fun y => if k.per 10000000 ≤ y.timer then { y with att := 0 } else y) :=
    .modFn _ fun y => by split <;> exact ⟨rfl, rfl, rfl⟩
  unfold Dev.motorPeriod
  dsimp only
  split
  · split
    · exact .modFn _ fun _ => ⟨rfl, rfl, rfl⟩
    split
    · exact (Dev.seqs_leaves hp).trans (.modFn _ fun _ => ⟨rfl, rfl, rfl⟩)
    · exact .rfl
  · split
    · exact .fnIdle _
    · exact .modCtr _
  · split
    · exact .fnIdle _
    · exact .rfl
  · split
    · exact .fnIdle _
    · exact Dev.seqs_imposed k _
  · split
    · exact hatt.trans (.fnIdle _)
    split
    · exact (hatt.trans (.fnGo 5)).trans (.modFn _ fun _ => ⟨rfl, rfl, rfl⟩)
    · exact hatt.trans (.modFn _ fun _ => ⟨rfl, rfl, rfl⟩)
  · split
    · exact .fnIdle _
    split
    · exact .fnClose
    · exact Dev.seqs_motorDecel k o
  · split
    · exact .fnIdle _
    split
    · exact .rfl
    · have hoff := Dev.seqs.modCtr (d := d) (c := c) (x := x) fun c => { c with brkOff := c.brkOff - 1 }
      split
      · exact hoff.trans (Dev.seqs_fromRest k)
      · exact hoff
  · split
    · split
      · exact (Dev.seqs.fnGo 3).trans (.modFn _ fun _ => ⟨rfl, rfl, rfl⟩)
      · exact .fnClose
    split
    · exact .fnIdle _
    · exact .rfl
  · exact .rfl

/-! ### Actuators -/

theorem Dev.seqs_startMove (hp : ∀ n ∈ portsOf x, c.ports n) (k : FnDesc) (tgt : Int) : d.seqs c x (d.startMove c.f k tgt) := by
  unfold Dev.startMove
  dsimp only
  generalize (k.incremental && !(d.fn c.f).flag 28) = home
  generalize (if home = true then k.ehome1 else decide ((d.fn c.f).pos < tgt)) = up
  generalize (if home = true then 3 else 4) = st
  split
  · exact ((Dev.seqs_fnEndHolds hp).trans (.fnGo _)).trans (.modFn _ fun _ => ⟨rfl, rfl, rfl⟩)
  · exact .modFn _ fun _ => ⟨rfl, rfl, rfl⟩

theorem Dev.seqs_retarget (k : FnDesc) (tgt : Int) : d.seqs c x (d.retarget c.f k tgt) := by
  unfold Dev.retarget
  dsimp only
  split
  · exact .modFn _ fun _ => ⟨rfl, rfl, rfl⟩
  · exact Dev.seqs_refuseMove k

theorem Dev.seqs_actPeriod (hp : ∀ n ∈ portsOf x, c.ports n) (k : FnDesc) (cstop : Bool) : d.seqs c x (d.actPeriod c.f k cstop) := by
  unfold Dev.actPeriod
  dsimp only
  split
  · split
    · exact .modFn _ fun _ => ⟨rfl, rfl, rfl⟩
    split
    · exact Dev.seqs_startMove hp k _
    · exact .rfl
  · split
    · exact Dev.seqs_arrive k
    · exact .modFn _ fun _ => ⟨rfl, rfl, rfl⟩
  · split
    · exact Dev.seqs_arrive k
    split
    · exact .rfl
    split
    · exact Dev.seqs_retarget k _
    split
    · exact Dev.seqs_standStill
    · exact .modFn _ fun _ => ⟨rfl, rfl, rfl⟩
  · split
    · exact .rfl
    split
    · exact Dev.seqs_startMove hp k _
    split
    · exact .fnIdle _
    · exact .modFn _ fun _ => ⟨rfl, rfl, rfl⟩
  · exact .rfl

/-! ### Converters -/

theorem Dev.seqs_convDecel (e : FnEntry) (hl : k.land = none ∨ ∀ y, c.bytes y) (cause : Nat) : d.seqs c x (d.convDecel c.f e k cause) :=
  ((Dev.seqs.setResistor e k false hl).trans (.fnGo 5)).trans (.modFn _ fun _ => ⟨rfl, rfl, rfl⟩)

theorem Dev.seqs_convPeriod (hp : ∀ n ∈ portsOf x, c.ports n) (hl : k.land = none ∨ ∀ y, c.bytes y) (e : FnEntry) (cstop : Bool)
    (o : SeqObs) : d.seqs c x (d.convPeriod c.f e k cstop o) := by
  unfold Dev.convPeriod
  dsimp only
  split
  · split
    · exact .modFn _ fun _ => ⟨rfl, rfl, rfl⟩
    split
    · split
      · exact (Dev.seqs_leaves hp).trans (.modFn _ fun _ => ⟨rfl, rfl, rfl⟩)
      · exact ((Dev.seqs_fnEndHolds hp).trans (.fnGo 3)).trans (.modFn _ fun _ => ⟨rfl, rfl, rfl⟩)
    · exact .rfl
  · split
    · exact .fnIdle _
    split
    · exact (Dev.seqs.fnGo 3).trans (.modFn _ fun _ => ⟨rfl, rfl, rfl⟩)
    split
    · exact (Dev.seqs.fnGo 3).trans (.modFn _ fun _ => ⟨rfl, rfl, rfl⟩)
    · exact .rfl
  · split
    · exact Dev.seqs_convDecel e hl _
    · have hdem := Dev.seqs.modFn (d := d) (c := c) (x := x)
        (fun y => { y with dem := toward (d.fn c.f).dem (convGoal k (d.fn c.f)) (k.step k.armpv) }) fun _ => ⟨rfl, rfl, rfl⟩
      split
      · exact hdem.trans .fnClose
      · exact hdem
  · split
    · exact Dev.seqs_convDecel e hl _
    · exact (Dev.seqs.setResistor e k _ hl).trans (.modFn _ fun _ => ⟨rfl, rfl, rfl⟩)
  · split
    · exact .fnIdle _
    · exact .rfl
  · exact .rfl

/-! ### The highest-ranked condition (R369) -/

theorem Dev.seqs_positionLost (k : FnDesc) : d.seqs c x (d.positionLost c.f k) := by
  unfold Dev.positionLost
  split
  · split
    · exact .modFn _ fun _ => ⟨rfl, rfl, rfl⟩
    · exact .modCtr _
  · split
    · exact .fnFaultAt _ _
    · exact .modCtr _

theorem Dev.seqs_ordBegin (hl : k.land = none ∨ ∀ y, c.bytes y) (e : FnEntry) : d.seqs c x (d.ordBegin c.f e k) := by
  unfold Dev.ordBegin
  dsimp only
  split
  · exact (Dev.seqs_stopHold k).trans (.modFn _ fun _ => ⟨rfl, rfl, rfl⟩)
  · exact (Dev.seqs.setResistor e k false hl).trans (.modFn _ fun _ => ⟨rfl, rfl, rfl⟩)

theorem Dev.seqs_seqAct (hp : ∀ n ∈ portsOf x, c.ports n) (hl : k.land = none ∨ ∀ y, c.bytes y) (e : FnEntry) (w3 : Word) (o : SeqObs) :
    d.seqs c x (d.seqAct c.f e k w3 o) := by
  have hoff : d.seqs c x (d.when (decide ((d.fn c.f).st = 0)) fun d => d.fnLegs c.f 0) := Dev.seqs.rfl.when _ (.fnLegs 0)
  unfold Dev.seqAct
  dsimp only
  split
  · split
    · exact .rfl
    · exact (Dev.seqs.fnLegs _).trans (.modFn _ fun _ => ⟨rfl, rfl, rfl⟩)
  split
  · exact .fnFault 7
  split
  · exact ((Dev.seqs_fnEndHolds hp).trans (.fnIdle 0)).trans (.modFn _ fun _ => ⟨rfl, rfl, rfl⟩)
  split
  · exact .fnFaultAt _ _
  split
  · exact .fnFault 6
  split
  · exact Dev.seqs_recatch
  split
  · exact Dev.seqs_positionLost k
  split
  · exact .rfl
  split
  · exact Dev.seqs_ordBegin hl e
  · split
    · exact hoff.trans (Dev.seqs_motorPeriod hp k _ o)
    · exact hoff.trans (Dev.seqs_actPeriod hp k _)
    · exact hoff.trans (Dev.seqs_convPeriod hp hl e _ o)

end Sys2Proof.Machine
end

section
/-! What a sequencer writes in a period (R221, R340, R377 to R386), and that it stays in its scope. -/

namespace Sys2Proof.Machine

variable {d e g : Dev} {c : SeqScope} {f n : Nat} {x : FnEntry} {k : FnDesc} {o : SeqObs} {y : Fn}

/-- Only the counts of the function change. -/
def Dev.onlyCounts (d : Dev) (f : Nat) (e : Dev) : Prop := ∃ c, e.fn f = { d.fn f with c := c }

theorem Dev.onlyCounts.trans (h : d.onlyCounts f e) (h' : e.onlyCounts f g) : d.onlyCounts f g := by
  obtain ⟨c, hc⟩ := h
  obtain ⟨c', hc'⟩ := h'
  exact ⟨c', by rw [hc', hc]⟩

theorem Dev.onlyCounts_of_pl (h : e.pl = d.pl) : d.onlyCounts f e := ⟨(d.fn f).c, by rw [Dev.fn, h, Dev.fn]⟩

theorem Dev.onlyCounts_modCtr (act : FnCtr → FnCtr) : d.onlyCounts f (d.modCtr f act) := ⟨_, by rw [Dev.fn_modCtr]; rfl⟩

/-! ### Images -/

theorem mem_of_zipIdx {ns : List Nat} {p : Nat × Nat} (h : p ∈ ns.zipIdx) : p.1 ∈ ns := List.fst_mem_of_mem_zipIdx h

theorem Dev.seqs_singlePhase (k : FnDesc) (q : GridObs) : d.seqs c x (d.singlePhase x k q) := by
  unfold Dev.singlePhase
  dsimp only
  split
  · next p1 p2 p3 nn rest hports =>
    have hin : p1 ∈ portsOf x ∧ p2 ∈ portsOf x ∧ p3 ∈ portsOf x ∧ nn ∈ portsOf x := by simp [hports]
    obtain ⟨h1, h2, h3, hn⟩ := hin
    split
    · exact (((Dev.seqs.putImage x 0 h1).trans (.putImage x 0 h2)).trans (.putImage x 0 h3)).trans (.putImage x _ hn)
    · exact (((Dev.seqs.putWords x h1 fun _ => rfl).trans (.putImage x 0 h2)).trans (.putImage x 0 h3)).trans (.putImage x _ hn)
  · exact .rfl

theorem Dev.pl_singlePhase (k : FnDesc) (q : GridObs) : (d.singlePhase x k q).pl = d.pl := by
  unfold Dev.singlePhase
  dsimp only
  split
  · split <;> simp only [Dev.pl_putImage, Dev.pl_putWords]
  · rfl

theorem Dev.seqs_squareWave (k : FnDesc) (rectOff : Bool) (s : Int) : d.seqs c x (d.squareWave x k rectOff s) := by
  have hput : ∀ (ns : List Nat) (w2 : Word → Word) (q : Dev), (∀ n ∈ ns, n ∈ portsOf x) → q.seqs c x (ns.zipIdx.foldl (fun d p =>
      d.putWords x p.1 fun w => squareImage k.cv.per (if carriesShift k.cv.dab p.2 ns.length then s else 0) (w2 w)) q) :=
    fun ns w2 q hns => .foldl (fun p hp q' => .putWords x (hns _ (mem_of_zipIdx hp)) fun _ => rfl) q
  unfold Dev.squareWave
  dsimp only
  have hhv := hput ((portsOf x).filter fun n => decide (n < 32)) id d fun n hn => List.mem_of_mem_filter hn
  split
  · exact hhv
  · exact hhv.trans (hput _ _ _ fun n hn => List.mem_of_mem_filter hn)

theorem Dev.pl_squareWave (k : FnDesc) (rectOff : Bool) (s : Int) : (d.squareWave x k rectOff s).pl = d.pl := by
  have hput : ∀ (ns : List Nat) (w2 : Word → Word) (q : Dev), (ns.zipIdx.foldl (fun d p =>
      d.putWords x p.1 fun w => squareImage k.cv.per (if carriesShift k.cv.dab p.2 ns.length then s else 0) (w2 w)) q).pl = q.pl :=
    fun ns w2 q => Dev.foldl_stands Dev.pl (fun _ _ => Dev.pl_putWords _ _ _) _ _
  unfold Dev.squareWave
  dsimp only
  split
  · exact hput _ _ _
  · exact (hput _ _ _).trans (hput _ _ _)

theorem Dev.seqs_putDuties (ts : List Nat) : d.seqs c x (d.putDuties x ts) := by
  unfold Dev.putDuties
  dsimp only
  split
  · exact .rfl
  · exact .foldl (fun p hp q => .putWords x (mem_of_zipIdx hp) fun _ => by unfold Dev.dutyImage; dsimp only; split <;> rfl) d

theorem Dev.pl_putDuties (ts : List Nat) : (d.putDuties x ts).pl = d.pl := by
  unfold Dev.putDuties
  dsimp only
  split
  · rfl
  · exact Dev.foldl_stands Dev.pl (fun _ _ => Dev.pl_putWords _ _ _) _ _

/-! ### A converter's outputs (R377 to R385) -/

theorem Dev.seqs_convOutputs (k : FnDesc) (share : Nat → Nat) (o : SeqObs) : d.seqs c x (d.convOutputs c.f x k share o) := by
  unfold Dev.convOutputs
  dsimp only
  split
  · split
    · split
      · exact (Dev.seqs.modCtr _).trans (Dev.seqs_singlePhase k o.g)
      · exact .modCtr _
    · exact (Dev.seqs.modCtr _).trans (Dev.seqs_squareWave k _ _)
  · exact .modCtr _

theorem Dev.onlyCounts_convOutputs (k : FnDesc) (share : Nat → Nat) (o : SeqObs) : d.onlyCounts f (d.convOutputs f x k share o) := by
  unfold Dev.convOutputs
  dsimp only
  split
  · split
    · split
      · exact (Dev.onlyCounts_modCtr _).trans (Dev.onlyCounts_of_pl (Dev.pl_singlePhase ..))
      · exact Dev.onlyCounts_modCtr _
    · exact (Dev.onlyCounts_modCtr _).trans (Dev.onlyCounts_of_pl (Dev.pl_squareWave ..))
  · exact Dev.onlyCounts_modCtr _

/-! ### The handoff line (R221) -/

/-- A scope that leaves where the handoff line is: the map of the Spindles and the entries of their loops. -/
structure SeqScope.leavesLine (c : SeqScope) : Prop where
  map : ∀ i < 4, ¬c.regs (Reg.DST_SPNMAP i)
  entry : ∀ p < 32, ∀ l < 4, ¬c.regs (Reg.SPN_LENT1 p l)

theorem Dev.seqNear.physSpn (h : d.seqNear c e) (hc : c.leavesLine) {lg : Nat} (hlg : lg < 16) : e.physSpn lg = d.physSpn lg := by
  have hreg : e.reg (Reg.DST_SPNMAP (lg / 4)) = d.reg (Reg.DST_SPNMAP (lg / 4)) :=
    h.regs _ (.inr (Nat.le_add_right_of_le (by decide))) (hc.map _ (Nat.div_lt_of_lt_mul hlg))
  unfold Dev.physSpn
  exact Dev.fld_congr hreg _ _

theorem Dev.seqNear.loopsOf (h : d.seqNear c e) (hc : c.leavesLine) : e.loopsOf x = d.loopsOf x := by
  unfold Dev.loopsOf
  refine List.map_congr_left fun b _ => ?_
  rw [h.physSpn hc (b.extractLsb' 2 4).isLt]

theorem Dev.seqNear.handLine (h : d.seqNear c e) (hc : c.leavesLine) : e.handLine x = d.handLine x := by
  have hreg : ∀ l ∈ d.loopsOf x, e.reg (Reg.SPN_LENT1 l.1 l.2) = d.reg (Reg.SPN_LENT1 l.1 l.2) := fun l hl =>
    h.regs _ (by have := Dev.loopsOf_spn hl; simp only [Reg.SPN_LENT1]; have := Dev.mem_loopsOf_lt hl; omega)
      (hc.entry _ (Dev.loopsOf_spn hl) _ (Dev.mem_loopsOf_lt hl))
  have hfind : ∀ ls : List (Nat × Nat), (∀ l ∈ ls, l ∈ d.loopsOf x) →
      (ls.find? fun y => e.rbit (Reg.SPN_LENT1 y.1 y.2) 23).map (fun y => (e.hank (e.fld (Reg.SPN_LENT1 y.1 y.2) 31 24)).start + 0x80) =
        (ls.find? fun y => d.rbit (Reg.SPN_LENT1 y.1 y.2) 23).map fun y => (d.hank (d.fld (Reg.SPN_LENT1 y.1 y.2) 31 24)).start + 0x80 := by
    intro ls hls
    induction ls with
    | nil => rw [List.find?_nil, List.find?_nil, Option.map_none, Option.map_none]
    | cons l ls ih =>
      have hl := hreg l (hls l List.mem_cons_self)
      rw [List.find?_cons, List.find?_cons, Dev.rbit_congr hl]
      split
      · rw [Option.map_some, Option.map_some, Dev.fld_congr hl, h.hanks]
      · exact ih fun m hm => hls m (List.mem_cons_of_mem _ hm)
  unfold Dev.handLine
  rw [h.loopsOf hc]
  exact hfind _ fun _ hl => hl

theorem Fn.length_handoff (k : FnDesc) (y : Fn) (fsw : Bool) (share : Nat → Nat) : (y.handoff k fsw share).length = 8 := rfl

/-- Two words in one doubleword store. -/
theorem length_twoWords (a b : Word) : (bytesOfWord a ++ bytesOfWord b).length = 8 := rfl

theorem Dev.seqs_writeHandoff (k : FnDesc) (fsw : Bool) (share : Nat → Nat)
    (hin : ∀ a, d.handLine x = some a → ∀ z, a ≤ z → z < a + 64 → c.bytes z) : d.seqs c x (d.writeHandoff c.f x k fsw share) := by
  unfold Dev.writeHandoff
  split
  · exact .rfl
  · next a ha =>
    refine .foldl (fun p hp q => .postStore _ _ _ _ fun _ z hlo hhi => hin a ha z ?_ ?_) d
    · omega
    · have hlt := List.snd_lt_of_mem_zipIdx hp
      rw [Fn.length_handoff] at hlt
      rw [length_twoWords] at hhi
      omega

theorem Dev.pl_writeHandoff (k : FnDesc) (fsw : Bool) (share : Nat → Nat) : (d.writeHandoff f x k fsw share).pl = d.pl := by
  unfold Dev.writeHandoff
  split
  · rfl
  · exact Dev.foldl_stands Dev.pl (fun _ _ => Dev.pl_postStore ..) _ _

/-- What the loops of a function follow in a period: their references, and the images of the duties. -/
def Dev.loopRefs (d : Dev) (f : Nat) (e : FnEntry) (k : FnDesc) (w3 : Word) (o : SeqObs) : Dev :=
  let x := d.fn f
  let share := d.limited f (bitsOf w3 20 16)
  let fsw := bitOf w3 10 && decide (k.kind = .motor)
  let d1 := match k.kind with
    | .motor =>
      let r := x.limitedRefs k o.demand share
      d.modCtr f fun c => { c with idRef := r.1, iqRef := r.2 }
    | .actuator =>
      let lim : Int := share k.mo.imax
      d.modCtr f fun c => { c with idRef := 0, iqRef := clampI (-lim) lim (x.actCurrent k o.demand) }
    | _ => d.convOutputs f e k share o
  d1.when (x.drives k) fun d => d.putDuties e (focDuties fsw o.duties)

theorem Dev.seqOutputs_eq (e : FnEntry) (k : FnDesc) (w3 : Word) (o : SeqObs) : d.seqOutputs f e k w3 o =
    (d.loopRefs f e k w3 o).writeHandoff f e k (bitOf w3 10 && decide (k.kind = .motor)) (d.limited f (bitsOf w3 20 16)) := rfl

theorem Dev.seqs_loopRefs (k : FnDesc) (w3 : Word) (o : SeqObs) : d.seqs c x (d.loopRefs c.f x k w3 o) := by
  unfold Dev.loopRefs
  dsimp only
  refine Dev.seqs.when ?_ _ (Dev.seqs_putDuties _)
  split
  · exact .modCtr _
  · exact .modCtr _
  · exact Dev.seqs_convOutputs k _ o

theorem Dev.onlyCounts_loopRefs (k : FnDesc) (w3 : Word) (o : SeqObs) : d.onlyCounts f (d.loopRefs f x k w3 o) := by
  have hwhen : ∀ (b : Bool) (q : Dev) (ts : List Nat), d.onlyCounts f q → d.onlyCounts f (q.when b fun d => d.putDuties x ts) := fun b q ts hq => by
    cases b
    · exact hq
    · exact hq.trans (Dev.onlyCounts_of_pl (Dev.pl_putDuties ts))
  unfold Dev.loopRefs
  dsimp only
  refine hwhen _ _ _ ?_
  split
  · exact Dev.onlyCounts_modCtr _
  · exact Dev.onlyCounts_modCtr _
  · exact Dev.onlyCounts_convOutputs k _ o

/-! ### The status beat and a fault notice (R340) -/

theorem Dev.seqs_writeStatus (hin : ∀ z, x.statl.toNat ≤ z → z < x.statl.toNat + 16 → c.bytes z) : d.seqs c x (d.writeStatus c.f x) := by
  unfold Dev.writeStatus
  dsimp only
  refine Dev.seqs.trans (.postStore _ _ _ _ fun _ z hlo hhi => hin z hlo ?_) (.postStore _ _ _ _ fun _ z hlo hhi => hin z ?_ ?_)
  · rw [length_twoWords] at hhi; omega
  · omega
  · rw [length_twoWords] at hhi; omega

theorem Dev.pl_writeStatus (e : FnEntry) : (d.writeStatus f e).pl = d.pl := (Dev.pl_postStore ..).trans (Dev.pl_postStore ..)

theorem Dev.seqs_postNotice (hm : ∀ p < 32, c.regs (Reg.SPN_MBSTAT p)) (e : FnEntry) : d.seqs c x (d.postNotice c.f e) := by
  unfold Dev.postNotice
  dsimp only
  split
  · exact .rfl
  · split
    · exact .rfl
    · next n _ =>
      have hbox : d.seqs c x ((d.setRbit (Reg.SPN_MBSTAT (d.fnSpn e)) (4 + n) true).modSpn (d.fnSpn e) fun y =>
          { y with mbOut := smSet (fun _ => 0) y.mbOut n (Config.freeWord d.freeCtr) }) :=
        .of_stands (.of_parts (fun _ _ => rfl) rfl
          (fun b _ hb => Dev.reg_setReg_other _ _ fun hba => hb (hba ▸ hm _ (Dev.fnSpn_lt e))) (fun _ _ => rfl) fun _ => rfl) rfl rfl
      refine (hbox.trans (.modCtr fun c => { c with notice := false })).trans ?_
      exact .of_stands (.of_parts (fun _ _ => rfl) rfl (fun _ _ _ => rfl) (fun _ _ => rfl) fun _ => rfl) rfl rfl

theorem Dev.onlyCounts_postNotice (e : FnEntry) : d.onlyCounts f (d.postNotice f e) := by
  unfold Dev.postNotice
  dsimp only
  split
  · exact ⟨_, rfl⟩
  · split
    · exact ⟨_, rfl⟩
    · next n _ =>
      have hbox : d.onlyCounts f ((d.setRbit (Reg.SPN_MBSTAT (d.fnSpn e)) (4 + n) true).modSpn (d.fnSpn e) fun y =>
          { y with mbOut := smSet (fun _ => 0) y.mbOut n (Config.freeWord d.freeCtr) }) := Dev.onlyCounts_of_pl rfl
      exact (hbox.trans (Dev.onlyCounts_modCtr fun c => { c with notice := false })).trans (Dev.onlyCounts_of_pl rfl)

end Sys2Proof.Machine
end

section
/-! A sequencer's period (R339, R342): the stages in their order, within the function's scope. -/

namespace Sys2Proof.Machine

variable {d e g : Dev} {s : State} {c : SeqScope} {f n : Nat} {x : FnEntry} {k k1 : FnDesc} {o : SeqObs}

/-! ### The scope of a period -/

/-- What a sequencer's period may change: flags and mailbox bits of the Spindles, the holds of the function's legs, its duty slots, its
status beat and its handoff line; with a land, any byte. -/
def Dev.periodScope (d : Dev) (f : Nat) (x : FnEntry) (k : FnDesc) (pcnt : Option Nat) : SeqScope where
  f := f
  pcnt := pcnt
  regs r := ∃ p < 32, r = Reg.SPN_MBSTAT p ∨ r = Reg.SPN_FLAGS p
  ports n := n ∈ portsOf x
  bytes y := k.land ≠ none ∨ (∃ n ∈ portsOf x, d.slotAddr n ≤ y ∧ y < d.slotAddr n + 16) ∨
    (x.statl.toNat ≤ y ∧ y < x.statl.toNat + 16) ∨ ∃ h, d.handLine x = some h ∧ h ≤ y ∧ y < h + 64

/-- A register that is no flag register and no mailbox register of a Spindle. -/
theorem Dev.periodScope_regs {pcnt : Option Nat} {r : Nat} (h : ∀ p < 32, r ≠ Reg.SPN_MBSTAT p ∧ r ≠ Reg.SPN_FLAGS p) :
    ¬(d.periodScope f x k pcnt).regs r := by
  rintro ⟨p, hp, hm | hf⟩
  · exact (h p hp).1 hm
  · exact (h p hp).2 hf

theorem Dev.periodScope_leavesLine {pcnt : Option Nat} : (d.periodScope f x k pcnt).leavesLine where
  map i hi := Dev.periodScope_regs fun p hp => by simp only [Reg.DST_SPNMAP, Reg.SPN_MBSTAT, Reg.SPN_FLAGS]; omega
  entry p hp l hl := Dev.periodScope_regs fun p' hp' => by simp only [Reg.SPN_LENT1, Reg.SPN_MBSTAT, Reg.SPN_FLAGS]; omega

theorem Dev.periodScope_land {pcnt : Option Nat} (hl : k1.land = k.land) :
    k1.land = none ∨ ∀ y, (d.periodScope f x k pcnt).bytes y := by
  rw [hl]
  by_cases h : k.land = none
  · exact .inl h
  · exact .inr fun _ => .inl h

theorem Dev.seqOk_period (he : d.fnEntry f = some x) (hk : (d.fn f).desc = some k) (hq : d.quiet) :
    d.seqOk (d.periodScope f x k none) x where
  draws := Dev.drawsOk_seqDraw hq _
  entry := he
  count := nofun
  apart n hn := Dev.periodScope_regs fun p hp => by simp only [Reg.WHL_SLOT, Reg.SPN_MBSTAT, Reg.SPN_FLAGS]; omega
  slots n hn _ hlo hhi := .inr (.inl ⟨n, hn, hlo, hhi⟩)
  land k' hk' := by
    obtain rfl : k = k' := Option.some.inj (hk.symm.trans hk')
    exact (Dev.periodScope_land rfl).imp_right .inr

/-- From here on the period counter stands. -/
theorem Dev.seqOk.counts {g : Dev} (h : g.seqOk (d.periodScope f x k none) x) :
    g.seqOk (d.periodScope f x k (some (g.fn f).pcnt)) x where
  draws := ⟨fun n a hcut => ⟨.inr ⟨_, rfl⟩, rfl, nofun⟩, fun b hb y hy => by
    obtain ⟨h1, h2, h3⟩ := h.draws.draws b hb y hy
    exact ⟨h1, h2, h3⟩⟩
  entry := h.entry
  count n hn := Option.some.inj hn
  apart := h.apart
  slots := h.slots
  land := h.land

/-! ### The stages -/

/-- The description with the settings that the period takes. -/
def Dev.periodDesc (d : Dev) (f : Nat) (e : FnEntry) (k : FnDesc) : FnDesc := ((d.takeEntries f e k).fn f).desc.getD k

theorem Dev.periodDesc_like (e : FnEntry) (hk : (d.fn f).desc = some k) :
    (d.periodDesc f e k).land = k.land ∧ (d.periodDesc f e k).kind = k.kind ∧ (d.periodDesc f e k).mo.curve = k.mo.curve := by
  unfold Dev.periodDesc Dev.takeEntries
  split
  · dsimp only
    split
    · rw [Dev.fn_modFn_same]
      exact ⟨rfl, rfl, rfl⟩
    · rw [hk]
      exact ⟨rfl, rfl, rfl⟩
  · rw [hk]
    exact ⟨rfl, rfl, rfl⟩

/-- A word of the command line. -/
def Dev.cmdWord (d : Dev) (e : FnEntry) (i : Nat) : Word := d.word (e.cmdl.toNat + 4 * i)

/-- The settings and the command taken. -/
def Dev.taken (d : Dev) (f : Nat) (e : FnEntry) (k : FnDesc) (o : SeqObs) : Dev :=
  ((d.takeEntries f e k).takeCommand f (d.cmdWord e 0) (d.cmdWord e 1) (d.cmdWord e 2)).takeCurve f e (d.periodDesc f e k) o.code

/-- The measurements taken, and the highest-ranked condition acted on. -/
def Dev.acted (d : Dev) (f : Nat) (e : FnEntry) (k : FnDesc) (o : SeqObs) : Dev :=
  ((d.taken f e k o).takeObs f e (d.periodDesc f e k) o).seqAct f e (d.periodDesc f e k) (d.cmdWord e 3) o

/-- The set-points, the status and a notice written. -/
def Dev.written (d : Dev) (f : Nat) (e : FnEntry) (k : FnDesc) (o : SeqObs) : Dev :=
  (((d.acted f e k o).seqOutputs f e (d.periodDesc f e k) (d.cmdWord e 3) o).writeStatus f e).postNotice f e

theorem Dev.seqPeriod_committed {brk : Bool} {bs : List Byte} (he : d.fnEntry f = some x) (hk : (d.fn f).desc = some k) (ho : o.committed = true)
    (hload : d.fnLoad x x.cmdl.toNat 16 = (g, .done brk, bs)) : d.seqPeriod f o = g.written f x k o := by
  refine (Dev.withDesc_of he hk _).trans ?_
  dsimp only
  rw [hload, ho]
  rfl

theorem Dev.seqPeriod_uncommitted (he : d.fnEntry f = some x) (hk : (d.fn f).desc = some k) (ho : o.committed = false) :
    d.seqPeriod f o = (d.fnLoad x x.cmdl.toNat 16).1 := by
  refine (Dev.withDesc_of he hk _).trans ?_
  dsimp only
  rw [ho]
  split
  · next h => cases h
  · rfl

theorem Dev.seqs_taken (hf : c.flags) (hk : (d.fn c.f).desc = some k) (o : SeqObs) : d.seqs c x (d.taken c.f x k o) :=
  ((Dev.seqs_takeEntries x hk).trans (Dev.seqs_takeCommand _ _ _)).trans (Dev.seqs_takeCurve hf x _ _)

/-- A scope that a sequencer's whole period stays in, with the handoff line and the status beat where the device has them. -/
structure SeqScope.holdsPeriod (c : SeqScope) (x : FnEntry) (k : FnDesc) (d : Dev) : Prop where
  flags : c.flags
  boxes : ∀ p < 32, c.regs (Reg.SPN_MBSTAT p)
  legs : ∀ n ∈ portsOf x, c.ports n
  land : k.land = none ∨ ∀ y, c.bytes y
  leaves : c.leavesLine
  line : ∀ a, d.handLine x = some a → ∀ z, a ≤ z → z < a + 64 → c.bytes z
  status : ∀ z, x.statl.toNat ≤ z → z < x.statl.toNat + 16 → c.bytes z

theorem Dev.periodScope_holds (d : Dev) (f : Nat) (x : FnEntry) (k : FnDesc) (pcnt : Option Nat) :
    (d.periodScope f x k pcnt).holdsPeriod x k d where
  flags p hp := ⟨p, hp, .inr rfl⟩
  boxes p hp := ⟨p, hp, .inl rfl⟩
  legs _ hn := hn
  land := Dev.periodScope_land rfl
  leaves := Dev.periodScope_leavesLine
  line a ha z hlo hhi := .inr (.inr (.inr ⟨a, ha, hlo, hhi⟩))
  status z hlo hhi := .inr (.inr (.inl ⟨hlo, hhi⟩))

theorem SeqScope.holdsPeriod.later (h : c.holdsPeriod x k d) (hn : d.seqNear c e) : c.holdsPeriod x k e :=
  { h with line := fun a ha => h.line a (hn.handLine h.leaves ▸ ha) }

/-- From the count of the period to the action. -/
theorem Dev.seqs_measuredActed (h : c.holdsPeriod x k1 d) (w3 : Word) (o : SeqObs) :
    g.seqs c x ((g.measured c.f x k1 o).seqAct c.f x k1 w3 o) :=
  (Dev.seqs_measured h.flags x k1 o).trans (Dev.seqs_seqAct h.legs h.land x w3 o)

theorem SeqScope.holdsPeriod.desc (h : c.holdsPeriod x k d) (hl : k1.land = k.land) : c.holdsPeriod x k1 d :=
  { h with land := hl ▸ h.land }

theorem Dev.seqs_acted (h : c.holdsPeriod x k d) (hc : c.pcnt = none) (hk : (d.fn c.f).desc = some k) (o : SeqObs) :
    d.seqs c x (d.acted c.f x k o) :=
  ((Dev.seqs_taken h.flags hk o).trans (Dev.seqs_periodCounted hc o)).trans
    (Dev.seqs_measuredActed (h.desc (Dev.periodDesc_like x hk).1) _ o)

theorem Dev.seqs_written (h : c.holdsPeriod x k d) (hc : c.pcnt = none) (hk : (d.fn c.f).desc = some k) (o : SeqObs) :
    d.seqs c x (d.written c.f x k o) := fun hd => by
  have hrefs := (Dev.seqs_acted h hc hk o).trans (Dev.seqs_loopRefs (d.periodDesc c.f x k) (d.cmdWord x 3) o)
  have hline := Dev.seqs_writeHandoff (c := c) (d.periodDesc c.f x k) (bitOf (d.cmdWord x 3) 10 && decide ((d.periodDesc c.f x k).kind = .motor))
    ((d.acted c.f x k o).limited c.f (bitsOf (d.cmdWord x 3) 20 16)) (h.later (hrefs hd).1).line
  exact ((hrefs.trans hline).trans (Dev.seqs_writeStatus h.status)).trans (Dev.seqs_postNotice h.boxes x) hd

/-! ### The state after a period -/

theorem Dev.onlyCounts_written (k : FnDesc) (o : SeqObs) : (d.acted f x k o).onlyCounts f (d.written f x k o) := by
  have hout : (d.acted f x k o).onlyCounts f ((d.acted f x k o).seqOutputs f x (d.periodDesc f x k) (d.cmdWord x 3) o) := by
    rw [Dev.seqOutputs_eq]
    exact (Dev.onlyCounts_loopRefs ..).trans (Dev.onlyCounts_of_pl (Dev.pl_writeHandoff ..))
  exact (hout.trans (Dev.onlyCounts_of_pl (Dev.pl_writeStatus x))).trans (Dev.onlyCounts_postNotice x)

theorem Dev.fn_takeCurve (e : FnEntry) (k : FnDesc) (code : Nat) :
    ((d.takeCurve f e k code).fn f).st = (d.fn f).st ∧ ((d.takeCurve f e k code).fn f).entry = (d.fn f).entry := by
  unfold Dev.takeCurve
  split
  · exact ⟨rfl, rfl⟩
  · dsimp only
    rw [Dev.fn_modFn_same, Dev.fn, Dev.pl_curveX, Dev.fn]
    exact ⟨rfl, rfl⟩

theorem Dev.fn_taken (k : FnDesc) (o : SeqObs) :
    ((d.taken f x k o).fn f).st = (d.fn f).st ∧ ((d.taken f x k o).fn f).entry = (d.fn f).entry := by
  obtain ⟨hst, hentry⟩ := Dev.fn_takeCurve (d := (d.takeEntries f x k).takeCommand f (d.cmdWord x 0) (d.cmdWord x 1) (d.cmdWord x 2))
    (f := f) x (d.periodDesc f x k) o.code
  have hset := Dev.awaits_takeEntries (d := d) (f := f) x k
  rw [Dev.takeCommand_eq, Dev.fn_modFn_same] at hst hentry
  obtain ⟨⟨h1, -, -⟩, h2, -⟩ := Fn.commanded_keeps ((d.takeEntries f x k).fn f) (d.takeEntries f x k).now
    (d.cmdWord x 0) (d.cmdWord x 1) (d.cmdWord x 2)
  exact ⟨(hst.trans h2).trans hset.st, (hentry.trans h1).trans hset.entry⟩

end Sys2Proof.Machine
end

section
/-! What a sequencer's period leads to (R336, R337, R342, R369). -/

namespace Sys2Proof.Machine

variable {d e g : Dev} {s : State} {c : SeqScope} {f n : Nat} {x : FnEntry} {k k1 : FnDesc} {o : SeqObs} {w3 : Word}

/-! ### The action (R336, R337, R369) -/

/-- A function that the Distaff has retired is RETIRED. -/
theorem Dev.seqAct_retired (he : d.fnEntry f = some x) (hr : d.rbit Reg.DST_FRET f = true) : ((d.seqAct f x k w3 o).fn f).st = 9 := by
  unfold Dev.seqAct
  dsimp only
  rw [hr, Bool.true_or, if_pos rfl]
  split
  · next h => exact of_decide_eq_true (Bool.and_eq_true_iff.mp h).1
  · rw [Dev.fn_modFn_same, Dev.fn_fnLegs he]
    rfl

/-- A function that is held in its safe state is FAULTED with the cause SAFE. -/
theorem Dev.seqAct_safe (he : d.fnEntry f = some x) (hr : d.rbit Reg.DST_FRET f = false) (hs : d.rbit Reg.DST_FSAFE f = true)
    (h8 : (d.fn f).st ≠ 8) (h9 : (d.fn f).st ≠ 9) :
    ((d.seqAct f x k w3 o).fn f).st = 8 ∧ ((d.seqAct f x k w3 o).fn f).cause = 7 := by
  obtain ⟨r, hfault⟩ := Dev.fn_fnFaultAt he 7 (d.fnSafe f)
  unfold Dev.seqAct
  dsimp only
  rw [if_neg (by simp [hr, h9]), if_pos (by simp [hs, h8]), Dev.fnFault, hfault]
  exact ⟨rfl, rfl⟩

/-- A motor function in IDLE that may start. -/
structure Dev.maySet (d : Dev) (f : Nat) (k : FnDesc) (w3 : Word) : Prop where
  motor : k.kind = .motor
  fret : d.rbit Reg.DST_FRET f = false
  fsafe : d.rbit Reg.DST_FSAFE f = false
  st : (d.fn f).st = 0
  waitN : (d.fn f).waitN = 0
  clrDue : (d.fn f).clrDue = false
  ordRamp : (d.fn f).ordRamp = false
  legsDue : (d.fn f).c.legsDue = false
  run : (d.fn f).run = true
  warm : bitOf w3 9 = false

theorem Dev.seqAct_start (he : d.fnEntry f = some x) (h : d.maySet f k w3) (hmode : (d.fnLegs f 0).mode = 6 ∨ (d.fnLegs f 0).mode = 7) :
    ((d.seqAct f x k w3 o).fn f).st = 1 ∧ ((d.seqAct f x k w3 o).fn f).cause = 0 := by
  have hquiet : (d.fn f).quiet = true := by simp [Fn.quiet, h.st]
  have hact : d.seqAct f x k w3 o = (d.fnLegs f 0).motorPeriod f k (bitOf w3 9) o := by
    unfold Dev.seqAct
    dsimp only
    rw [if_neg (by simp [h.fret, h.st]), if_neg (by simp [h.legsDue, h.fsafe]), if_neg (by simp [h.clrDue]), if_neg (by simp [hquiet]),
      if_neg (by simp [hquiet]), if_neg (by simp [hquiet]), if_neg (by simp [hquiet]), if_neg (by simp [h.ordRamp]),
      if_neg (by simp [hquiet]), h.motor, h.st]
    rfl
  have hfn := Dev.fn_fnLegs he 0
  have hleave : (d.fnLegs f 0).mayLeave (bitOf w3 9) = true := by simpa [Dev.mayLeave, h.warm] using hmode
  have hrun : ((d.fnLegs f 0).fn f).run = true := by rw [hfn]; exact h.run
  have hgo : (d.fnLegs f 0).motorPeriod f k (bitOf w3 9) o =
      ((((d.fnLegs f 0).fnEndHolds f).fnLegs f 0).fnGo f 1).modFn f fun y => { y with cause := 0 } := by
    have hst : ((d.fnLegs f 0).fn f).st = 0 := by rw [hfn]; exact h.st
    have hwait : ¬0 < ((d.fnLegs f 0).fn f).waitN := by rw [hfn]; exact Nat.not_lt.mpr (Nat.le_of_eq h.waitN)
    unfold Dev.motorPeriod
    dsimp only
    rw [hst]
    rw [if_neg hwait, hrun, hleave]
    rfl
  rw [hact, hgo, Dev.fn_modFn_same, Dev.fn_fnGo]
  exact ⟨rfl, rfl⟩

/-! ### The period -/

/-- Where the action of a period finds the function: counted, measured, and otherwise as the command left it. -/
theorem Dev.awaits_observed (he : d.fnEntry f = some x) (k : FnDesc) (o : SeqObs) :
    (d.taken f x k o).awaits f ((d.taken f x k o).takeObs f x (d.periodDesc f x k) o) :=
  Dev.awaits_takeObs (Dev.fnEntry_of_fn he (Dev.fn_taken k o).2) x _ o

/-- The function of a motor without a command curve, its command taken. -/
theorem Dev.fn_taken_motor (hk : (d.fn f).desc = some k) (hcurve : k.mo.curve = none) (o : SeqObs) :
    (d.taken f x k o).fn f = ((d.takeEntries f x k).fn f).commanded (d.takeEntries f x k).now (d.cmdWord x 0) (d.cmdWord x 1) (d.cmdWord x 2) := by
  have hnone : (d.periodDesc f x k).mo.curve = none := (Dev.periodDesc_like x hk).2.2.trans hcurve
  rw [Dev.taken, Dev.takeCurve, hnone, Dev.takeCommand_eq, Dev.fn_modFn_same]

/-- A command of RUN alone. -/
theorem Fn.commanded_run (y : Fn) (now : Nat) (w1 w2 : Word) :
    (y.commanded now 1 w1 w2).cmd = 1 ∧ (y.st ≠ 8 → (y.commanded now 1 w1 w2).clrDue = y.clrDue) := by
  unfold Fn.commanded
  dsimp only
  rw [show decide (bitsOf (1 : Word) 31 6 ≠ 0) = false by decide, if_neg Bool.false_ne_true]
  refine ⟨by split <;> rfl, fun h8 => ?_⟩
  split <;> simp [Fn.setFlag, h8]

section
variable (he : d.fnEntry f = some x) (hk : (d.fn f).desc = some k) (ho : d.seqOk (d.periodScope f x k none) x)
include he hk ho

/-- The device that the action of a period finds. -/
theorem Dev.observed_near (o : SeqObs) : d.seqNear (d.periodScope f x k none) ((d.taken f x k o).takeObs f x (d.periodDesc f x k) o) ∧
    ((d.taken f x k o).takeObs f x (d.periodDesc f x k) o).seqOk (d.periodScope f x k none) x := by
  have hflags := (Dev.periodScope_holds d f x k none).flags
  exact (((Dev.seqs_taken (c := d.periodScope f x k none) hflags hk o).trans (Dev.seqs_periodCounted (c := d.periodScope f x k none) rfl o)).trans
    (Dev.seqs_measured (c := d.periodScope f x k none) hflags x _ o)) ho

theorem Dev.pcnt_acted (o : SeqObs) : ((d.acted f x k o).fn f).pcnt = (d.fn f).pcnt + 1 := by
  have hflags := (Dev.periodScope_holds d f x k none).flags
  obtain ⟨-, htaken⟩ := Dev.seqs_taken (c := d.periodScope f x k (some (d.fn f).pcnt)) (Dev.periodScope_holds ..).flags hk o ho.counts
  obtain ⟨-, hmid⟩ := ((Dev.seqs_taken (c := d.periodScope f x k none) hflags hk o).trans
    (Dev.seqs_periodCounted (c := d.periodScope f x k none) rfl o)) ho
  obtain ⟨-, hend⟩ := Dev.seqs_measuredActed (c := d.periodScope f x k (some (((d.taken f x k o).periodCounted f o).fn f).pcnt))
    ((Dev.periodScope_holds ..).desc (Dev.periodDesc_like x hk).1) (d.cmdWord x 3) o hmid.counts
  have hcount : (((d.taken f x k o).periodCounted f o).fn f).pcnt = ((d.taken f x k o).fn f).pcnt + 1 := by
    rw [Dev.periodCounted, Dev.fn_modFn_same]
    rfl
  exact (hend.count _ rfl).trans (hcount.trans (congrArg (· + 1) (htaken.count _ rfl)))

theorem Dev.rbit_observed {r : Nat} (hr : r < 0x37000000 ∨ 0x37001000 ≤ r) (hp : ∀ p < 32, r ≠ Reg.SPN_MBSTAT p ∧ r ≠ Reg.SPN_FLAGS p) :
    ((d.taken f x k o).takeObs f x (d.periodDesc f x k) o).reg r = d.reg r :=
  (Dev.observed_near he hk ho o).1.regs r hr (Dev.periodScope_regs hp)

/-- What a committed period shows of its function (R336, R337, R369). -/
theorem Dev.written_shows (o : SeqObs) :
    let e := d.written f x k o
    (e.fn f).pcnt = (d.fn f).pcnt + 1 ∧
    (d.rbit Reg.DST_FRET f = true → (e.fn f).st = 9) ∧
    (d.rbit Reg.DST_FRET f = false → d.rbit Reg.DST_FSAFE f = true → (d.fn f).st ≠ 8 → (d.fn f).st ≠ 9 →
      (e.fn f).st = 8 ∧ (e.fn f).cause = 7) := by
  obtain ⟨n, hn⟩ := Dev.onlyCounts_written (d := d) (f := f) (x := x) k o
  have hwait := Dev.awaits_observed he k o
  have hentry : ((d.taken f x k o).takeObs f x (d.periodDesc f x k) o).fnEntry f = some x :=
    Dev.fnEntry_of_fn (Dev.fnEntry_of_fn he (Dev.fn_taken k o).2) hwait.entry
  have hst : (((d.taken f x k o).takeObs f x (d.periodDesc f x k) o).fn f).st = (d.fn f).st := hwait.st.trans (Dev.fn_taken k o).1
  have hret : ∀ i, ((d.taken f x k o).takeObs f x (d.periodDesc f x k) o).rbit Reg.DST_FRET i = d.rbit Reg.DST_FRET i :=
    Dev.rbit_congr (Dev.rbit_observed he hk ho (by decide) (by simp only [Reg.DST_FRET, Reg.SPN_MBSTAT, Reg.SPN_FLAGS]; omega))
  have hsafe : ∀ i, ((d.taken f x k o).takeObs f x (d.periodDesc f x k) o).rbit Reg.DST_FSAFE i = d.rbit Reg.DST_FSAFE i :=
    Dev.rbit_congr (Dev.rbit_observed he hk ho (by decide) (by simp only [Reg.DST_FSAFE, Reg.SPN_MBSTAT, Reg.SPN_FLAGS]; omega))
  dsimp only
  rw [hn]
  refine ⟨Dev.pcnt_acted he hk ho o, fun hr => ?_, fun hr hs h8 h9 => ?_⟩
  · exact Dev.seqAct_retired hentry ((hret f).trans hr)
  · exact Dev.seqAct_safe hentry ((hret f).trans hr) ((hsafe f).trans hs) (hst ▸ h8) (hst ▸ h9)

/-- A motor in IDLE with the command RUN that may start: what its period finds it as. -/
theorem Dev.maySet_observed (hkind : k.kind = .motor) (hcurve : k.mo.curve = none) (hr : d.rbit Reg.DST_FRET f = false)
    (hs : d.rbit Reg.DST_FSAFE f = false) (hst : (d.fn f).st = 0) (hwait : (d.fn f).waitN = 0) (hclr : (d.fn f).clrDue = false)
    (hord : (d.fn f).ordRamp = false) (hlegs : (d.fn f).c.legsDue = false) (hoff : (d.fn f).c.curveOff = false)
    (hw : d.cmdWord x 0 = 1) (hw3 : bitOf (d.cmdWord x 3) 9 = false) (o : SeqObs) :
    ((d.taken f x k o).takeObs f x (d.periodDesc f x k) o).maySet f (d.periodDesc f x k) (d.cmdWord x 3) := by
  have hobs := Dev.awaits_observed he k o
  have hset := Dev.awaits_takeEntries (d := d) (f := f) x k
  have htaken := Dev.fn_taken_motor (x := x) hk hcurve o
  rw [hw] at htaken
  obtain ⟨-, -, hkw, hko, hkc⟩ := Fn.commanded_keeps ((d.takeEntries f x k).fn f) (d.takeEntries f x k).now 1 (d.cmdWord x 1) (d.cmdWord x 2)
  obtain ⟨hcmd, hclrd⟩ := Fn.commanded_run ((d.takeEntries f x k).fn f) (d.takeEntries f x k).now (d.cmdWord x 1) (d.cmdWord x 2)
  rw [← htaken] at hkw hko hkc hcmd hclrd
  have hret := Dev.rbit_congr (Dev.rbit_observed he hk ho (o := o) (r := Reg.DST_FRET) (by decide)
    (by simp only [Reg.DST_FRET, Reg.SPN_MBSTAT, Reg.SPN_FLAGS]; omega)) f
  have hsafe := Dev.rbit_congr (Dev.rbit_observed he hk ho (o := o) (r := Reg.DST_FSAFE) (by decide)
    (by simp only [Reg.DST_FSAFE, Reg.SPN_MBSTAT, Reg.SPN_FLAGS]; omega)) f
  exact {
    motor := (Dev.periodDesc_like x hk).2.1.trans hkind
    fret := hret.trans hr
    fsafe := hsafe.trans hs
    st := (hobs.st.trans (Dev.fn_taken k o).1).trans hst
    waitN := ((hobs.waitN.trans hkw).trans hset.waitN).trans hwait
    clrDue := ((hobs.clrDue.trans (hclrd (by rw [hset.st, hst]; decide))).trans hset.clrDue).trans hclr
    ordRamp := ((hobs.ordRamp.trans hko).trans hset.ordRamp).trans hord
    legsDue := ((hobs.legsDue.trans (congrArg FnCtr.legsDue hkc)).trans hset.legsDue).trans hlegs
    run := by
      rw [Fn.run, hobs.cmd, hcmd, ((hobs.curveOff.trans (congrArg FnCtr.curveOff hkc)).trans hset.curveOff).trans hoff]
      decide
    warm := hw3 }

/-- It leaves IDLE for CATCH (R337). -/
theorem Dev.written_starts {o : SeqObs}
    (hm : ((d.taken f x k o).takeObs f x (d.periodDesc f x k) o).maySet f (d.periodDesc f x k) (d.cmdWord x 3)) (hmode : d.mode = 6 ∨ d.mode = 7) :
    ((d.written f x k o).fn f).st = 1 ∧ ((d.written f x k o).fn f).cause = 0 := by
  obtain ⟨n, hn⟩ := Dev.onlyCounts_written (d := d) (f := f) (x := x) k o
  have hentry : ((d.taken f x k o).takeObs f x (d.periodDesc f x k) o).fnEntry f = some x :=
    Dev.fnEntry_of_fn (Dev.fnEntry_of_fn he (Dev.fn_taken k o).2) (Dev.awaits_observed he k o).entry
  obtain ⟨hnear, hok⟩ := Dev.observed_near he hk ho o
  have hlegs := hnear.trans (Dev.seqs.fnLegs (c := d.periodScope f x k none) 0 hok).1
  have hreg : (((d.taken f x k o).takeObs f x (d.periodDesc f x k) o).fnLegs f 0).reg Reg.DST_MODE = d.reg Reg.DST_MODE :=
    hlegs.regs Reg.DST_MODE (by decide) (Dev.periodScope_regs (by simp only [Reg.DST_MODE, Reg.SPN_MBSTAT, Reg.SPN_FLAGS]; omega))
  rw [hn]
  exact Dev.seqAct_start hentry hm (by rw [Dev.mode, Dev.fld_congr hreg]; exact hmode)

end

/-! ### The period from its load on (R338, R342) -/

/-- The command line read without error, its bank at rest. -/
theorem Dev.cmdLoad_done (hq : d.quiet) (ha : x.cmdl.toNat % 16 = 0) (hcut : d.isCut (d.fnReq x) = false)
    (hecc : ∀ i < 4, d.ecc (x.cmdl.toNat + 4 * i) = .good) : ∃ brk bs, (d.fnLoad x x.cmdl.toNat 16).2 = (.done brk, bs) := by
  have hlt := x.cmdl.isLt
  have hwords : wordsIn x.cmdl.toNat 16 = 4 := by unfold wordsIn; split <;> omega
  exact ⟨_, _, congrArg Prod.snd (Dev.load_read (hq _) hcut (by omega) (by unfold bankOf; omega) (by rw [hwords]; exact hecc))⟩

theorem Dev.fnLoad_calm (hq : d.quiet) (e : FnEntry) (a n : Nat) : d.skCalm (d.fnLoad e a n).1 := (Dev.load_calm hq).1

theorem Dev.fn_fnLoad (e : FnEntry) (a n i : Nat) : (d.fnLoad e a n).1.fn i = d.fn i := by rw [Dev.fn, Dev.pl_fnLoad, Dev.fn]

theorem Dev.skNear.word (h : d.skNear e) (a : Nat) : e.word a = d.word a := by
  have hb : ∀ i, e.byte i = d.byte i := fun i => by rw [Dev.byte, h.mem, Dev.byte]
  simp only [Dev.word, Dev.bytes, hb]

/-- The scope of a period reads: what it leaves of the device, in the words of the statement. -/
theorem Dev.seqNear.frames (h : d.seqNear (d.periodScope f x k none) e) :
    (∀ g, g ≠ f → e.fn g = d.fn g) ∧
    (∀ n, (∃ b, e.port n = { d.port n with linkHold := b }) ∧ (n ∉ portsOf x → e.port n = d.port n)) ∧
    (∀ r, (r < 0x37000000 ∨ 0x37001000 ≤ r) → (∀ p, r ≠ Reg.SPN_MBSTAT p ∧ r ≠ Reg.SPN_FLAGS p) → e.reg r = d.reg r) ∧
    (k.land = none → ∀ y, (∀ n ∈ portsOf x, y < d.slotAddr n ∨ d.slotAddr n + 16 ≤ y) →
      (y < x.statl.toNat ∨ x.statl.toNat + 16 ≤ y) → (∀ h, d.handLine x = some h → y < h ∨ h + 64 ≤ y) → e.byte y = d.byte y) := by
  refine ⟨h.others, h.ports, fun r hr hp => h.regs r hr (Dev.periodScope_regs fun p _ => hp p), fun hl y hs ht hh => h.bytes y ?_⟩
  rintro (hland | ⟨n, hn, hlo, hhi⟩ | ⟨hlo, hhi⟩ | ⟨a, ha, hlo, hhi⟩)
  · exact hland hl
  · have := hs n hn; omega
  · omega
  · have := hh a ha; omega

theorem exec_sequencerPeriod {f : Fin 32} : exec (.sequencerPeriod f o) s = s.run fun d => d.seqPeriod f o := rfl

/-- A period that does not commit: a read of the command line (R342). -/
theorem uncommitted_shows {f : Fin 32} (he : s.dev.fnEntry f = some x) (hk : (s.dev.fn f).desc = some k) (hq : s.dev.quiet)
    (hc : s.dev.clocked = true) (ho : o.committed = false) :
    Gives (.sequencerPeriod f o) s fun e => (∀ g, e.fn g = s.dev.fn g) ∧ e.pt = s.dev.pt ∧ s.dev.sameMem e := by
  have hcalm := Dev.fnLoad_calm hq x x.cmdl.toNat 16
  refine .of_run exec_sequencerPeriod hc ?_
  rw [Dev.seqPeriod_uncommitted he hk ho]
  exact ⟨Dev.fn_fnLoad _ _ _, hcalm.pt, fun a => by rw [Dev.byte, hcalm.mem, Dev.byte]⟩

/-- A period that commits: what it shows of its function, and that it stays in its scope. -/
theorem committed_shows {f : Fin 32} (he : s.dev.fnEntry f = some x) (hk : (s.dev.fn f).desc = some k) (hq : s.dev.quiet)
    (hc : s.dev.clocked = true) (ho : o.committed = true) (ha : x.cmdl.toNat % 16 = 0) (hcut : s.dev.isCut (s.dev.fnReq x) = false)
    (hecc : ∀ i < 4, s.dev.ecc (x.cmdl.toNat + 4 * i) = .good) :
    Gives (.sequencerPeriod f o) s fun e =>
      let g := (s.dev.fnLoad x x.cmdl.toNat 16).1
      e = g.written f x k o ∧ s.dev.skCalm g ∧ (∀ i, g.fn i = s.dev.fn i) ∧ g.seqOk (g.periodScope f x k none) x ∧
        s.dev.seqNear (s.dev.periodScope f x k none) e := by
  obtain ⟨brk, bs, hload⟩ := Dev.cmdLoad_done hq ha hcut hecc
  have hcalm := Dev.fnLoad_calm hq x x.cmdl.toNat 16
  have hfn := Dev.fn_fnLoad (d := s.dev) x x.cmdl.toNat 16
  have hk' : ((s.dev.fnLoad x x.cmdl.toNat 16).1.fn f).desc = some k := by rw [hfn, hk]
  have he' : (s.dev.fnLoad x x.cmdl.toNat 16).1.fnEntry f = some x := Dev.fnEntry_of_fn he (by rw [hfn])
  have hrun : s.dev.seqPeriod f o = (s.dev.fnLoad x x.cmdl.toNat 16).1.written f x k o :=
    Dev.seqPeriod_committed he hk ho (Prod.ext rfl hload)
  have hok := Dev.seqOk_period he hk hq
  obtain ⟨hnear, -⟩ := Dev.seqs_fnLoad (c := s.dev.periodScope f x k none) x x.cmdl.toNat 16 hok
  have hholds := (Dev.periodScope_holds s.dev f x k none).later hnear
  have hall := (Dev.seqs_fnLoad (c := s.dev.periodScope f x k none) x x.cmdl.toNat 16).trans
    (Dev.seqs_written (c := s.dev.periodScope f x k none) hholds rfl hk' o)
  refine .of_run exec_sequencerPeriod hc ?_
  rw [hrun]
  exact ⟨rfl, hcalm, hfn, Dev.seqOk_period he' hk' (hcalm.quiet hq), (hall hok).1⟩

end Sys2Proof.Machine
end

section
/-! The Distaff's interlock evaluation (R400, R449, R450, R542), and the statement about a sequencer's period. -/

namespace Sys2Proof.Machine

variable {d e g : Dev} {s : State} {f n : Nat} {x : FnEntry} {k : FnDesc} {o : SeqObs}

/-! ### One function alone -/

/-- A round over the functions in which one alone has something to do. -/
theorem foldl_alone {P : Dev → Prop} {act : Dev → Nat → Dev} (hother : ∀ d g, P d → g < 32 → g ≠ f → act d g = d) (hf : f < 32)
    (hkeep : ∀ d, P d → P (act d f)) (hd : P d) : (List.range 32).foldl act d = act d f := by
  have hrest : ∀ l : List Nat, (∀ i ∈ l, i < 32) → f ∉ l → ∀ e, P e → l.foldl act e = e := by
    intro l hl hnot
    induction l with
    | nil => exact fun _ _ => rfl
    | cons i l ih =>
      intro e he
      rw [List.foldl_cons, hother e i he (hl i List.mem_cons_self) fun hi => hnot (hi ▸ List.mem_cons_self)]
      exact ih (fun j hj => hl j (List.mem_cons_of_mem _ hj)) (fun hm => hnot (List.mem_cons_of_mem _ hm)) e he
  obtain ⟨l1, l2, hsplit⟩ := List.append_of_mem (List.mem_range.mpr hf)
  have hnodup := List.nodup_range (n := 32)
  have hlt : ∀ i ∈ l1 ++ f :: l2, i < 32 := fun i hi => List.mem_range.mp (hsplit ▸ hi)
  rw [hsplit] at hnodup ⊢
  obtain ⟨h1, h2⟩ : f ∉ l1 ∧ f ∉ l2 := by
    rw [List.nodup_append, List.nodup_cons] at hnodup
    obtain ⟨-, ⟨h2, -⟩, hdis⟩ := hnodup
    exact ⟨fun hm => hdis f hm f List.mem_cons_self rfl, h2⟩
  rw [List.foldl_append, List.foldl_cons, hrest l1 (fun i hi => hlt i (List.mem_append_left _ hi)) h1 d hd]
  exact hrest l2 (fun i hi => hlt i (List.mem_append_right _ (List.mem_cons_of_mem _ hi))) h2 _ (hkeep d hd)

/-! ### The evaluation -/

/-- A load of a bank at rest is bookkeeping of the Flyer. -/
theorem Dev.skStep_load {req cls a n : Nat} (h : d.drawsOf (bankOf a) = []) : d.skStep (d.load req cls a n).1 := by
  have hread : d.skStep (d.loadAt req cls a n).1 := by
    unfold Dev.loadAt
    split
    · exact Dev.skStep_setStatus _
    split
    · exact Dev.skStep_setStatus _
    split
    · exact Dev.skStep_setStatus _
    rw [Dev.clearWay_idle d _ _ _ h]
    have hwords := Dev.skStep_noteGrant.trans (Dev.skStep_checkWords (d := d.noteGrant (bankOf a) cls req) a (wordsIn a n))
    simp only [if_true]
    split <;> exact hwords.trans (Dev.skStep_setStatus _)
  unfold Dev.load
  rw [h]
  exact hread

/-- What the Distaff's look at a status changes: what it notes of the status, and bookkeeping. -/
structure Dev.sees (d : Dev) (f : Nat) (e : Dev) : Prop where
  entries : ∀ i, e.fnEntry i = d.fnEntry i
  evals : (e.fn f).evals = (d.fn f).evals
  rules : e.pl.rules = d.pl.rules
  mem : e.sk.mem = d.sk.mem
  locks : e.sk.locks = d.sk.locks
  hanks : e.sk.hanks = d.sk.hanks
  draws : e.sk.draws = d.sk.draws
  regs : ∀ a, a ∉ noteRegs → e.reg a = d.reg a

theorem Dev.sees.modFn (h : d.sees f e) {act : Fn → Fn} (hk : ∀ y, (act y).entry = y.entry ∧ (act y).evals = y.evals) :
    d.sees f (e.modFn f act) where
  entries i := by
    rw [← h.entries i, Dev.fnEntry, Dev.fn_modFn]
    split
    · next hi => rw [(hk _).1, ← hi, Dev.fnEntry]
    · rw [Dev.fnEntry]
  evals := by rw [Dev.fn_modFn_same, (hk _).2, h.evals]
  rules := h.rules
  mem := h.mem
  locks := h.locks
  hanks := h.hanks
  draws := h.draws
  regs := h.regs

theorem Dev.sees_seeStatus (hq : d.quiet) : d.sees f (d.seeStatus f) := by
  unfold Dev.seeStatus
  split
  · exact ⟨fun _ => rfl, rfl, rfl, rfl, rfl, rfl, rfl, fun _ _ => rfl⟩
  · next e he =>
    have hload := Dev.skStep_load (d := d) (req := reqDistaff) (cls := classOf reqDistaff false) (n := 16) (hq (bankOf e.statl.toNat))
    have hpl := Dev.pl_load (d := d) reqDistaff (classOf reqDistaff false) e.statl.toNat 16
    have hread : d.sees f (d.load reqDistaff (classOf reqDistaff false) e.statl.toNat 16).1 :=
      ⟨fun i => by rw [Dev.fnEntry, Dev.fn, hpl, Dev.fnEntry, Dev.fn], by rw [Dev.fn, hpl, Dev.fn], by rw [hpl], hload.mem, hload.locks,
        hload.hanks, hload.draws, hload.noted⟩
    generalize d.load reqDistaff (classOf reqDistaff false) e.statl.toNat 16 = r at hread
    dsimp only
    split
    · exact hread.modFn fun y => by split <;> exact ⟨rfl, rfl⟩
    · exact hread

theorem Dev.sees.quiet (h : d.sees f e) (hq : d.quiet) : e.quiet := fun b => by
  rw [← hq b, Dev.drawsOf, h.draws]
  rfl

/-- A store that is not refused before the look at the status is not refused after it. -/
theorem Dev.sees.storeRefusal (h : d.sees f e) {req : Nat} (hr : Reg.SKN_CUT (req / 32) ∉ noteRegs) (a n : Nat) (entry : Bool) :
    e.storeRefusal req a n entry = d.storeRefusal req a n entry := by
  have hcut : e.isCut req = d.isCut req := Dev.rbit_congr (h.regs _ hr) _
  rw [Dev.storeRefusal, hcut, Dev.rangeRefuses, h.hanks, Dev.storeRefusal, Dev.rangeRefuses]

theorem Dev.sees.blockedLine (h : d.sees f e) (req a n : Nat) : e.blockedLine req a n = d.blockedLine req a n := by
  simp only [Dev.blockedLine, Dev.lockedBy, h.locks]

/-- The word of a function that no rule concerns: its evaluations, and both permits. -/
def permitWord (n : Nat) : Word := BitVec.ofNat 32 (n * 65536 + 3)

theorem Dev.writePermit_eq (he : d.fnEntry f = some x) (hrules : d.pl.rules = []) :
    let n := ((d.fn f).evals + 1) % 65536
    d.writePermit f = ((d.modFn f fun y => { y with evals := n }).postStore reqDistaff (classOf reqDistaff false) none (x.cmdl.toNat + 8)
      (bytesOfWord (permitWord n)) [] false .plain).1 := by
  have hbit : ∀ up, d.permitBit f up = true := fun up => by rw [Dev.permitBit, hrules, List.all_nil]
  have hword : ∀ n : Nat, n <<< 16 ||| true.toNat <<< 1 ||| true.toNat = n * 65536 + 3 := fun n => by
    rw [Nat.or_assoc, show true.toNat <<< 1 ||| true.toNat = 3 by decide, ← Nat.shiftLeft_add_eq_or_of_lt (by decide), Nat.shiftLeft_eq]
  unfold Dev.writePermit
  rw [he]
  dsimp only
  rw [hbit, hbit, hword]
  rfl

theorem getD_bytesOfWord (w : Word) {i : Nat} (hi : i < 4) : (bytesOfWord w).getD i 0 = w.extractLsb' (8 * i) 8 := by
  interval_cases i <;> rfl

/-- Every function but one is without an entry. -/
def Dev.alone (d : Dev) (f : Nat) : Prop := ∀ i < 32, i ≠ f → d.fnEntry i = none

theorem Dev.fnEntry_writePermit (i : Nat) : (d.writePermit f).fnEntry i = d.fnEntry i := by
  unfold Dev.writePermit
  split
  · rfl
  · dsimp only
    rw [Dev.fnEntry, Dev.fn, Dev.pl_postStore, ← Dev.fn, Dev.fn_modFn]
    split
    · next hi => rw [hi, Dev.fnEntry]
    · rw [Dev.fnEntry]

/-- The permit word is written at once, and nothing else but what the Distaff counts. -/
theorem Dev.writePermit_shows (hq : d.quiet) (he : d.fnEntry f = some x) (hrules : d.pl.rules = []) (ha : x.cmdl.toNat % 4 = 0)
    (hr : d.storeRefusal reqDistaff (x.cmdl.toNat + 8) 4 false = none) (hb : d.blockedLine reqDistaff (x.cmdl.toNat + 8) 4 = none) :
    let n := ((d.fn f).evals + 1) % 65536
    let e := d.writePermit f
    (e.fn f).evals = n ∧
    (∀ y, e.byte y = if x.cmdl.toNat + 8 ≤ y ∧ y < x.cmdl.toNat + 12 then (permitWord n).extractLsb' (8 * (y - (x.cmdl.toNat + 8))) 8
      else d.byte y) ∧
    ∀ r, r < 0x37000000 ∨ 0x37001000 ≤ r → e.reg r = d.reg r := by
  have heq := Dev.writePermit_eq he hrules
  dsimp only at heq ⊢
  generalize ((d.fn f).evals + 1) % 65536 = n at heq
  obtain ⟨e, brk, hpost, hcalm⟩ := Dev.postStore_plain (d := d.modFn f fun y => { y with evals := n }) (req := reqDistaff)
    (cls := classOf reqDistaff false) (a := x.cmdl.toNat + 8) (bs := bytesOfWord (permitWord n)) (loop := none) (entry := false) (tag := .plain)
    hq hr hb (.inl ⟨by omega, by rw [length_bytesOfWord]⟩)
  have hpl := Dev.pl_postStore (d := d.modFn f fun y => { y with evals := n }) reqDistaff (classOf reqDistaff false) none (x.cmdl.toNat + 8)
    (bytesOfWord (permitWord n)) [] false .plain
  rw [hpost] at heq hpl
  rw [heq]
  dsimp only at hpl ⊢
  refine ⟨?_, fun y => ?_, fun r hr => ?_⟩
  · rw [Dev.fn, hpl, ← Dev.fn, Dev.fn_modFn_same]
  · rw [Dev.byte, hcalm.mem, ← Dev.byte, Dev.byte_setBytes, length_bytesOfWord, show x.cmdl.toNat + 8 + 4 = x.cmdl.toNat + 12 by omega]
    split
    · exact getD_bytesOfWord _ (by omega)
    · rfl
  · obtain ⟨m, hm⟩ := Dev.setBytes_eq (d := d.modFn f fun y => { y with evals := n }) (bs := bytesOfWord (permitWord n)) (x.cmdl.toNat + 8)
    rw [hcalm.regs r (by omega), hm]
    rfl

/-- The round over the functions is the one's alone, and no land takes its word. -/
theorem Dev.interlocks_alone (hf : f < 32) (hq : d.quiet) (halone : d.alone f)
    (hlands : ((d.seeStatus f).writePermit f).reg Reg.GPIO_DIR &&& ((d.seeStatus f).writePermit f).reg Reg.GPIO_MSEL = 0) :
    d.interlocks = (d.seeStatus f).writePermit f := by
  have hsee : (List.range 32).foldl (fun e i => e.seeStatus i) d = d.seeStatus f := by
    refine foldl_alone (P := fun e => e.quiet ∧ e.alone f) (fun e i he hi hne => ?_) hf (fun e he => ?_) ⟨hq, halone⟩
    · rw [Dev.seeStatus, he.2 i hi hne]
    · have hs := Dev.sees_seeStatus (f := f) he.1
      exact ⟨hs.quiet he.1, fun i hi hne => (hs.entries i).trans (he.2 i hi hne)⟩
  have hpermit : (List.range 32).foldl (fun e i => e.writePermit i) (d.seeStatus f) = (d.seeStatus f).writePermit f := by
    refine foldl_alone (P := fun e => e.alone f) (fun e i he hi hne => ?_) hf (fun e he i hi hne => ?_) fun i hi hne => ?_
    · rw [Dev.writePermit, he i hi hne]
    · exact (Dev.fnEntry_writePermit i).trans (he i hi hne)
    · exact ((Dev.sees_seeStatus (f := f) hq).entries i).trans (halone i hi hne)
  unfold Dev.interlocks
  dsimp only
  rw [hsee, hpermit, Dev.mirrorLands, if_pos hlands]

theorem exec_interlockEvaluation : exec .interlockEvaluation s = s.run Dev.interlocks := rfl

/-- The evaluation of the permits of the one function there is (R400, R449). -/
theorem interlocks_shows (hf : f < 32) (hc : s.dev.clocked = true) (hq : s.dev.quiet) (he : s.dev.fnEntry f = some x)
    (ha : x.cmdl.toNat % 4 = 0) (halone : s.dev.alone f) (hrules : s.dev.pl.rules = [])
    (hland : s.dev.reg Reg.GPIO_DIR &&& s.dev.reg Reg.GPIO_MSEL = 0)
    (hr : s.dev.storeRefusal reqDistaff (x.cmdl.toNat + 8) 4 false = none) (hb : s.dev.blockedLine reqDistaff (x.cmdl.toNat + 8) 4 = none) :
    let n := ((s.dev.fn f).evals + 1) % 65536
    Gives .interlockEvaluation s fun e =>
      (e.fn f).evals = n ∧
      (∀ y, e.byte y = if x.cmdl.toNat + 8 ≤ y ∧ y < x.cmdl.toNat + 12 then (permitWord n).extractLsb' (8 * (y - (x.cmdl.toNat + 8))) 8
        else s.dev.byte y) ∧
      ∀ r, r < 0x37000000 ∨ 0x37001000 ≤ r → e.reg r = s.dev.reg r := by
  have hs := Dev.sees_seeStatus (f := f) hq
  have hreg : ∀ r, r < 0x37000000 ∨ 0x37001000 ≤ r → (s.dev.seeStatus f).reg r = s.dev.reg r := fun r hr =>
    hs.regs r fun hm => skReg_outside hr hm rfl
  obtain ⟨hn, hbyte, hregs⟩ := Dev.writePermit_shows (hs.quiet hq) ((hs.entries f).trans he) (hs.rules.trans hrules) ha
    ((hs.storeRefusal (by decide) ..).trans hr) ((hs.blockedLine ..).trans hb)
  have hlands : ((s.dev.seeStatus f).writePermit f).reg Reg.GPIO_DIR &&& ((s.dev.seeStatus f).writePermit f).reg Reg.GPIO_MSEL = 0 := by
    rw [hregs _ (by decide), hregs _ (by decide), hreg _ (by decide), hreg _ (by decide), hland]
  rw [hs.evals] at hn hbyte
  refine .of_run exec_interlockEvaluation hc ?_
  rw [Dev.interlocks_alone hf hq halone hlands]
  refine ⟨hn, fun y => ?_, fun r hr => (hregs r hr).trans (hreg r hr)⟩
  rw [hbyte y, Dev.byte, hs.mem, ← Dev.byte]

/-! ### The statement -/

/-- Settles O45: a function without a sequencer hears nothing; a period runs through its stages within the function's scope; and the
interlock evaluation of the only function writes its permit word. -/
theorem sequencerPeriod : Obligations.SequencerPeriod := by
  unfold Obligations.SequencerPeriod
  refine ⟨fun f z a b c es prim lead sums seqs codes o s hno => ?_, fun f o x k s => ?_⟩
  · have hnone : ∀ act, s.dev.withDesc f act = s.dev := Dev.withDesc_none hno
    simp only [List.mem_cons, List.not_mem_nil, or_false]
    rintro i (rfl | rfl | rfl | rfl | rfl | rfl | rfl | rfl | rfl | rfl | rfl | rfl | rfl | rfl | rfl | rfl | rfl | rfl | rfl | rfl | rfl |
      rfl | rfl | rfl | rfl | rfl | rfl)
    · exact exec_idle_of_run exec_sequencerPeriod (hnone _)
    · exact exec_idle_of_run exec_catchMeasurementEnd (hnone _)
    · exact exec_idle_of_run exec_brakeEnd (hnone _)
    · exact exec_idle_of_run exec_alignEnd (hnone _)
    · exact exec_idle_of_run exec_handover (hnone _)
    · exact exec_idle_of_run exec_startFailure (hnone _)
    · exact exec_idle_of_run exec_stopEnd (hnone _)
    · exact exec_idle_of_run exec_lockedRotor (hnone _)
    · exact exec_idle_of_run exec_rotorLoss (hnone _)
    · exact exec_idle_of_run exec_rotorRecovery (hnone _)
    · exact exec_idle_of_run exec_recatchTimeout (hnone _)
    · exact exec_idle_of_run exec_feedbackLoss (hnone _)
    · exact exec_idle_of_run exec_topologyDetect (hnone _)
    · exact exec_idle_of_run exec_gridLock (hnone _)
    · exact exec_idle_of_run exec_prechargeTimeout (hnone _)
    · exact exec_idle_of_run exec_gridLoss (hnone _)
    · exact exec_idle_of_run exec_gridResync (hnone _)
    · exact exec_idle_of_run exec_rectifierThreshold (hnone _)
    · exact exec_idle_of_run exec_pilotLoss (hnone _)
    · exact exec_idle_of_run exec_chargeGateClose (hnone _)
    · exact exec_idle_of_run exec_actuatorArrival (hnone _)
    · exact exec_idle_of_run exec_homingTimeout (hnone _)
    · exact exec_idle_of_run exec_actuatorStall (hnone _)
    · exact exec_idle_of_run exec_obstructionRetry (hnone _)
    · exact exec_idle_of_run exec_toothTimeout (hnone _)
    · exact exec_idle_of_run exec_permitDrop (hnone _)
    · exact exec_idle_of_run exec_orderlyStopRampEnd (hnone _)
  · dsimp only
    intro he hq hc
    refine ⟨fun ha hk hcut hecc => ⟨fun ho => uncommitted_shows he hk hq hc ho, fun ho => ?_⟩,
      fun ha halone hrules hland hr hb => interlocks_shows f.isLt hc hq he ha halone hrules hland hr hb⟩
    refine (committed_shows he hk hq hc ho ha hcut hecc).mono fun e hrun => ?_
    obtain ⟨rfl, hcalm, hfn, hok, hnear⟩ := hrun
    have hk' : ((s.dev.fnLoad x x.cmdl.toNat 16).1.fn f).desc = some k := by rw [hfn, hk]
    have he' : (s.dev.fnLoad x x.cmdl.toNat 16).1.fnEntry f = some x := Dev.fnEntry_of_fn he (by rw [hfn])
    have hreg : ∀ a, a < 0x37000000 ∨ 0x37001000 ≤ a → (s.dev.fnLoad x x.cmdl.toNat 16).1.reg a = s.dev.reg a := fun a ha =>
      hcalm.regs a (by omega)
    have hret := Dev.rbit_congr (hreg Reg.DST_FRET (by decide)) f
    have hsafe := Dev.rbit_congr (hreg Reg.DST_FSAFE (by decide)) f
    have hmode : (s.dev.fnLoad x x.cmdl.toNat 16).1.mode = s.dev.mode := Dev.fld_congr (hreg Reg.DST_MODE (by decide)) 3 0
    have hword : ∀ i, (s.dev.fnLoad x x.cmdl.toNat 16).1.cmdWord x i = s.dev.word (x.cmdl.toNat + 4 * i) := fun i => hcalm.word _
    obtain ⟨hpcnt, hretired, hheld⟩ := Dev.written_shows he' hk' hok o
    have hframes := hnear.frames
    rw [hret] at hretired
    rw [hret, hsafe] at hheld
    rw [hfn] at hpcnt hheld
    refine ⟨hpcnt, hretired, hheld, fun hr hs hkind hcurve hst hwait hclr hord hlegs hoff hw hw3 hm => ?_, hframes⟩
    refine Dev.written_starts he' hk' hok (Dev.maySet_observed he' hk' hok hkind hcurve (hret.trans hr) (hsafe.trans hs) ?_ ?_ ?_ ?_ ?_ ?_
      ((hword 0).trans hw) ((congrArg (bitOf · 9) (hword 3)).trans hw3) o) (hmode ▸ hm)
    all_goals rw [hfn]; assumption

end Sys2Proof.Machine
end
